-- ==== Sys2Proof/Word.lean ====
section
/-! DEFINITION. The word and index types of Yatil: bit vectors of the manual's field widths, and one bounded
index type per index space of R6. -/

namespace Sys2Proof

/-- A byte. -/
abbrev Byte := BitVec 8
/-- A 16-bit field. -/
abbrev W16 := BitVec 16
/-- A 32-bit field or register. -/
abbrev W32 := BitVec 32
/-- A 64-bit field. -/
abbrev W64 := BitVec 64
/-- A 52-bit device address (R3, R265). -/
abbrev DAddr := BitVec 52
/-- A 12-bit package ID (R16). -/
abbrev Pkg := BitVec 12
/-- A SHA-384 digest. -/
abbrev Digest := BitVec 384

/-- Physical lantern, 0 to 1,087 (R6). -/
abbrev Lan := Fin 1088
/-- Logical lantern, 0 to 1,023 (R6). -/
abbrev LLan := Fin 1024
/-- Physical wick within a lantern, 0 to 16 (R6). -/
abbrev PWick := Fin 17
/-- Logical wick within a lantern, 0 to 15 (R6). -/
abbrev LWick := Fin 16
/-- Physical column of a wick, 0 to 519 (R6). -/
abbrev PCol := Fin 520
/-- Logical column of a wick, 0 to 511 (R6). -/
abbrev LCol := Fin 512
/-- Sconce, stack or crossbar port, 0 to 15 (R6). -/
abbrev Sconce := Fin 16
/-- Die-local context slot, 0 to 15 (R13). -/
abbrev CtxI := Fin 16
/-- Fabric port, 0 to 15 (R295). -/
abbrev PortI := Fin 16
/-- Fabric link index, 0 to 31 (R296). -/
abbrev LinkI := Fin 32
/-- Mailbox ring, 0 to 63 (R379). -/
abbrev RingI := Fin 64
/-- Supply sense point, 0 to 23 (R203). -/
abbrev PointI := Fin 24
/-- Thermal diode, 0 to 31 (R203). -/
abbrev DiodeI := Fin 32
/-- Thread slot of a vector engine, 0 to 31 (R124). -/
abbrev ThreadI := Fin 32

end Sys2Proof
end

