-- ==== Sys2Proof/Machine/Types.lean ====
section
/-! DEFINITION. Plain data types that the commands carry as operands: fabric and Garvy Link messages, flits,
mailbox descriptors, shard lists, boot inputs and the records the management port exchanges. -/

namespace Sys2Proof

/-! ### Start-up and clocks -/

/-- The two sources of a die reset (R290). -/
inductive RstSrc where
  | brdRst
  | sysReset
deriving DecidableEq, Repr

/-- How a stack controller's training ended (R270). -/
inductive TrainResult where
  /-- READY at 8.0 Gb/s, possibly after lane repair. -/
  | full
  /-- READY at 6.4 Gb/s, lanes exhausted. -/
  | degraded
  /-- 6.4 Gb/s failed as well. -/
  | failed
deriving DecidableEq, Repr

/-- The platform section of the configuration body (R530). -/
structure Platform where
  plimit : W16
  sArr : W16
  sVec : W16
  sXbr : W16
  sStk : W16
  sSer : W16
  sCtl : W16
  thset : Byte
  warn : Byte
  adivW : BitVec 2
  ndivW : BitVec 2
  adivE : BitVec 2
  ndivE : BitVec 2
  portEn : W16
  portSplit : W16
  portCh : W16
  txpre : W64
  gvlW : Byte
  mgtSgmii : Bool
  mgtBus : Bool
  smbAddr : Byte
  ipv4 : W32
  udpPort : W16
  hold : W32
  lease : W32
  shReh : Byte
  budReh : Byte
  rbChk : Byte
  patrol : Byte
deriving DecidableEq, Repr

/-- A certificate (R453): the fields the checks of R455 and R463 read, and whether its two signatures verify under the keys of
its issuer (R454). -/
structure Cert where
  role : Byte
  issuer : Digest
  /-- RSAN, RSAE and SLHPK: bytes 0x038 to 0x1EB. -/
  key : List Byte
  meas : Digest
  svn : W32
  rsa : Bool
  slh : Bool
deriving DecidableEq, Repr

/-- The signed configuration block as the boot ROM reads it (R460, R530): envelope, security section, platform
section, its certificates and what its signatures verify to. -/
structure ConfigBlock where
  chain : List Cert
  /-- Its two signatures verify under the last certificate's keys (R454). -/
  rsa : Bool
  slh : Bool
  commit : Bool
  cfgseq : W32
  cfgdig : Digest
  peerMin : W32
  sameCfg : Bool
  allow : List Digest
  enc : List (BitVec 2)
  plat : Platform
deriving DecidableEq, Repr

/-- A firmware image slot as the boot ROM reads it (R457): its certificates, what its signatures verify to, header fields and
measurement. -/
structure FwImage where
  chain : List Cert
  rsa : Bool
  slh : Bool
  commit : Bool
  svn : W32
  ifmin : W16
  ifmax : W16
  meas : Digest
deriving DecidableEq, Repr

/-- What the boot ROM finds when it runs (R451, R456 to R461). The device record and the counter stand in State. -/
structure BootInput where
  /-- The random source passes its start-up health tests (R464). -/
  rngOk : Bool
  /-- Bytes of the flash, and the directory: offset and length of the PUF helper, identity, configuration, firmware A and B, device
  record and counter (R450). -/
  size : Nat
  dir : List (Nat × Nat)
  /-- The secret reconstructed from the PUF, and the helper's tag (R451). -/
  secret : BitVec 256
  pufTag : Digest
  /-- The counter's MAC verifies (R459). -/
  counterOk : Bool
  imgA : Option FwImage
  imgB : Option FwImage
  cfg : Option ConfigBlock
  /-- The intermediate and device identity certificates (R450, R453). -/
  ident : List Cert
  /-- The identity keys unwrap and match the device identity certificate (step 7 of R456). -/
  identOk : Bool
  /-- CCLK cycles the sequence took: CLK_LTIME keeps counting (R279, R456). -/
  cclk : Nat
deriving DecidableEq, Repr

/-! ### Lantern inputs -/

/-- How an input vector reaches the wicks: a layer's activation (R84 to R92), the direct path of a customer kernel (R94, R144),
or a lookup query (R95). -/
inductive VecHow where
  | layer
  | direct
  | lookup
deriving DecidableEq, Repr

/-- The activation a flare's input vector is quantized from: `n` elements of a format, blocked or not, as the bytes of their
tensor (R72, R76, R83). -/
structure VecSrc where
  how : VecHow
  /-- The weight epoch of its request (R21, R101); 0 stands for the one the lantern serves. -/
  epoch : W32
  fmt : BitVec 4
  blocked : Bool
  n : Nat
  data : List Byte
deriving DecidableEq, Repr

/-- One 256-byte block of a flare's quantized input vector on the crossbar broadcast (R103): 512 I4 values of one plane of the
vector that QUANT makes of its source. -/
structure InBlock where
  /-- The vector the block belongs to. -/
  vec : Nat
  /-- Block index within its plane in the lantern's slot. -/
  idx : Nat
  /-- The plane: false the one I4 pass or the h pass, true the l pass. -/
  lpass : Bool
  src : VecSrc
deriving DecidableEq, Repr

/-- A chain member's partial sums on their way to the chain head (R109), which State holds: the flare, and the member's place in
its chain. -/
structure ChainPartial where
  flare : Nat
  member : Nat
deriving DecidableEq, Repr

/-! ### Fabric messages -/

/-- The common header (R322). -/
structure Hdr where
  kind : Byte
  clean : Bool
  daylight : Bool
  blocked : Bool
  prompt : Bool
  cls : BitVec 2
  dst : Pkg
  src : Pkg
  ctx : W16
  len : W32
  msn : W32
  reqtag : W32
  tindex : W32
  hops : Byte
  seg : Byte
  inst : W32
deriving DecidableEq, Repr

/-- The activation header (R332). -/
structure ActHdr where
  epoch : W32
  adpgen : W32
  layer : W16
  part : W16
  fmt : BitVec 4
  resolved : Byte
  final : Pkg
  checks : W32
  nelem : W32
  adpslot : W16
deriving DecidableEq, Repr

/-- One S40 group: exponent byte and 64 mantissas (R97). -/
structure S40Group where
  exp : Int
  mant : List Int
deriving DecidableEq, Repr

/-- The reduction header (R335). -/
structure RedHdr where
  epoch : W32
  adpgen : W32
  layer : W16
  part : W16
  group0 : W16
  ngroups : W16
  checks : W32
  resolved : Byte
  final : Pkg
  cmask : BitVec 256
deriving DecidableEq, Repr

/-- The notice body (R339). -/
structure NoticeBody where
  arg0 : W64
  arg1 : W32
  code : W16
deriving DecidableEq, Repr

/-- The curfew body (R342). -/
structure CurfewBody where
  cfid : W32
  op : Byte
  mode : Byte
  layLo : W16
  layHi : W16
  epoch : W32
  count : W32
  held : W32
  status : Byte
deriving DecidableEq, Repr

/-- The taper header (R344), with the digest of the segment's ciphertext standing for its bytes. -/
structure TaperHdr where
  chain : W16
  owner : W16
  buddy : W16
  shard : W32
  seg : W32
  segs : W32
  seglen : W32
deriving DecidableEq, Repr

/-- Message bodies by kind (R323, R494). -/
inductive Body where
  | act (a : ActHdr) (data : List Byte)
  | s40 (r : RedHdr) (data : List Byte)
  | notice (n : NoticeBody)
  | curfew (c : CurfewBody)
  | taper (t : TaperHdr)
  | taperReq (t : TaperHdr)
  | tform (mode flags : Byte) (ctxid twait : W16)
  | tdigest (d : BitVec 256)
  | tact (a : ActHdr) (data : List Byte)
  | tresult (d : BitVec 256)
  | theart (state : Byte) (broken : Bool)
  | none
deriving DecidableEq, Repr

/-- A fabric message (R322). -/
structure Msg where
  hdr : Hdr
  vl : BitVec 3
  body : Body
deriving DecidableEq, Repr

/-- An attestation report with the certificates that follow it, and what its two signatures verify to (R454, R462). -/
structure Report where
  kind : Byte
  iddigest : Digest
  fwmeas : Digest
  svn : W32
  cfgseq : W32
  cfgdig : Digest
  nonce : BitVec 256
  chain : List Cert
  rsa : Bool
  slh : Bool
deriving DecidableEq, Repr

/-- Link messages of VL4 (R309 to R314, R319). -/
inductive LinkMsg where
  | hello (iddigest : Digest) (pkgid : Pkg) (assigned : Bool) (link : LinkI) (caps : Byte) (nonce : BitVec 256)
  | attest (r : Report)
  | verdict (accept : Bool)
  | linkState (withheld : Bool)
  | keyx (cipher : Bool)
deriving DecidableEq, Repr

/-- What a DATA flit carries: messages whose last byte lies in it (R302). -/
inductive Item where
  | msg (m : Msg)
  | lnk (m : LinkMsg)
deriving DecidableEq, Repr

/-- A received fabric flit (R299, R301). TYPE: 0 IDLE, 1 DATA, 2 LINIT. -/
structure Flit where
  type : BitVec 4
  vl : BitVec 3
  seq : BitVec 12
  ackv : Bool
  ack : BitVec 12
  nak : Bool
  keyph : Bool
  cv0 : Bool
  cvl0 : BitVec 3
  cred0 : Byte
  cv1 : Bool
  cvl1 : BitVec 3
  cred1 : Byte
  items : List Item
deriving DecidableEq, Repr

/-- How a codeword arrived (R300, R306, R314). -/
inductive FlitCheck where
  | good
  | corrected
  | uncorrectable
  | crcFail
  | tagFail
deriving DecidableEq, Repr

/-- A received LINIT payload (R308). -/
structure Linit where
  version : Byte
  split : Bool
  link : LinkI
  policy : BitVec 2
  credits : List Byte
  /-- The LINIT echoes this side's own timestamp. -/
  echoes : Bool
  /-- The round trip measured from the echo, in ns. -/
  rtt : Nat
deriving DecidableEq, Repr

/-! ### Garvy Link -/

/-- A Garvy Link message (R361): header fields and data bytes. -/
structure GMsg where
  opc : Byte
  tag : BitVec 12
  ctx : BitVec 4
  fw : Bool
  cg : Bool
  addr : DAddr
  word : W32
  status : Byte
  data : List Byte
deriving DecidableEq, Repr

/-- A received Garvy Link flit (R356). -/
structure GFlit where
  type : BitVec 4
  seq : BitVec 12
  ack : BitVec 12
  ackv : Bool
  nak : Bool
  cvc : BitVec 3
  cred : BitVec 7
  msgs : List (BitVec 3 × GMsg)
deriving DecidableEq, Repr

/-- What starts a RECOVERY (R352). -/
inductive RecovCause where
  | cdrLock
  | uncorrectable
  | replays
  | laneErrors (group : Bool)
  | retrain
deriving DecidableEq, Repr

/-! ### Mailbox -/

/-- A ring table entry (R380). -/
structure RingEntry where
  sqbase : W64
  cqbase : W64
  sqlog2 : Byte
  cqlog2 : Byte
  reservedZero : Bool
deriving DecidableEq, Repr

/-- A fetched descriptor with the ring it came from (R387); reserved bytes and buffer alignment as verdicts. -/
structure Desc where
  ring : RingI
  opcode : W16
  fence : Bool
  tmo : Bool
  timeout : W32
  tag : W64
  inaddr : W64
  inlen : W32
  outlen : W32
  outaddr : W64
  /-- A reserved byte is not 0, or a buffer is unaligned. -/
  malformed : Bool
  /-- The input data could be read from companion memory, at the first try or the retry (DMA_FAIL of R395). -/
  inOk : Bool
deriving DecidableEq, Repr

/-- What the read of a descriptor slot returned (R386). -/
inductive FetchRes where
  | desc (d : Desc)
  /-- The first try failed and the retry gave the descriptor. -/
  | retried (d : Desc)
  /-- Both tries returned TIMEOUT or a failed block. -/
  | failed
deriving DecidableEq, Repr

/-- A kernel image header with its code's digest and signature verdict (R141). -/
structure KImage where
  magicOk : Bool
  codesize : W32
  entries : Byte
  vregs : Byte
  threads : Byte
  scratch : W16
  tlimit : W32
  entryOffs : List W32
  reservedZero : Bool
  sigsOk : Bool
  digest : Digest
  /-- The code, 8 bytes to an instruction; bytes beyond the list are 0. -/
  code : List Byte
  /-- The two signatures behind the code. -/
  sigs : List Byte
deriving DecidableEq, Repr

/-- CTX.CREATE's ARG (R398) and the enrolled kernel keys stand as their SHA-384 (R462, R466). -/
structure CtxArg where
  ctxid : W16
  sconces : W16
  weight : W16
  daylight : Bool
  log : Bool
  wset : Bool
  pfx : Bool
  pfxlant : Byte
  rings : W64
  batchmax : W16
  qmax : W16
  vocab : W32
deriving DecidableEq, Repr

/-- A grammar automaton's state record and transitions (R420). -/
structure GState where
  mask : Nat
  final : Bool
  dflt : Nat
  trans : List (W32 × Nat)
deriving DecidableEq, Repr

/-- A mask table (R419, R420); bit v of a bitmap is bit v mod 8 of its byte v ÷ 8. -/
inductive MaskTable where
  | allow (bits : List Byte)
  | grammar (start : Nat) (masks : List (List Byte)) (states : List GState)
deriving DecidableEq, Repr

/-- What the read of a mask table brought (R421): its MASKLEN bytes, or a failure after the retry. -/
inductive MaskRead where
  | noMask
  | dmaFail
  | bytes (l : List Byte)
deriving DecidableEq, Repr

/-- REQ.SUBMIT's ARG and IN (R402). -/
structure ReqArg where
  num : W16
  role : Byte
  cls : Byte
  daylight : Bool
  build : Bool
  nopfx : Bool
  greedy : Bool
  topp : Bool
  mask : Bool
  grammar : Bool
  adpv : Bool
  deadline : W32
  adpslot : W16
  topk : W16
  seed : W64
  temp : W32
  toppv : W32
  maxtok : W32
  masklen : W32
  maskread : MaskRead
  nprompt : W32
  stop : List W32
  prompt : List W32
deriving DecidableEq, Repr

/-- The metadata region of a lantern shard (R431). -/
structure ShardMeta where
  layer : W16
  part : W16
  lindex : W16
  wfmt : BitVec 4
  shape : Byte
  inmode : Byte
  rot : Bool
  attGroups : W16
  kdim : W32
  seed : W64
  clipk : W32
  attScale : W32
  lkind : Byte
  rbdig : List Digest
  ckdig : List Digest
  redexp : List Int
  scale : List W32
  /-- The kernel image named in place of NORM or ACT (R142). -/
  kernel : Option Digest
  rflags : Byte
  rindex : Byte
  rparent : W16
  rmask : BitVec 256
deriving DecidableEq, Repr

/-- A shard list entry (R434). -/
structure ShardEntry where
  shard : W32
  kind : Byte
  role : BitVec 2
  head : Bool
  source : W16
  target : W32
  loff : W32
  digest : Digest
deriving DecidableEq, Repr

/-- A container as the keeper opens it (R430, R432): whether its GCM tag verifies, its cleartext header of 256 bytes, and the
plaintext body as (offset, byte) entries, unlisted bytes 0. -/
structure ShardBody where
  tagOk : Bool
  hdr : List Byte
  body : List (Nat × Byte)
deriving DecidableEq, Repr

/-- A residency token (R442). -/
structure Token where
  shard : W32
  epoch : W32
  plant : W16
  mac : Digest
deriving DecidableEq, Repr

/-- TWIN.FORM's ARG (R493). -/
structure TwinArg where
  mode : Byte
  strict : Bool
  active : Bool
  peer : Pkg
  link0 : Byte
  link1 : Byte
  twait : W16
  ctxid : W16
deriving DecidableEq, Repr

/-- A monitor sequence entry (R213). -/
structure SeqEntry where
  gain : BitVec 2
  ts : BitVec 3
  input : BitVec 6
deriving DecidableEq, Repr

/-! ### Vector engines -/

/-- What the residue checks and the register ECC find in one instruction (R123, R134). -/
inductive RegChk where
  | clean
  /-- A correctable register error. -/
  | corrected
  /-- A residue mismatch of an arithmetic pipeline of classes 0x1 to 0x4. -/
  | residue
  /-- An uncorrectable register error. -/
  | uncorrectable
deriving DecidableEq, Repr

/-- What a memory's ECC finds in a block it reads (R264, R271). -/
inductive EccRes where
  | clean
  | corrected
  | uncorrectable
deriving DecidableEq, Repr

/-- The flare a FIRE submits, as its operands describe it (R162); class 0 interactive, 1 standard, 2 batch. -/
structure FireArg where
  cls : Fin 3
  tindex : W32
  part : W16
  lans : List LLan
  vec : Nat
  daylight : Bool
  /-- The weight epoch of its request (R21); 0 stands for the one the lanterns serve. -/
  epoch : W32
deriving DecidableEq, Repr

/-! ### Management -/

/-- An ember before it is numbered: the fields its event gives (R503). -/
structure EmberReq where
  sev : Byte
  code : W16
  srcidx : W16
  final : Bool
  ctxid : Option W16
  reqtag : W32
  arg0 : W32
  arg1 : W64
deriving DecidableEq, Repr

/-- The two management paths (R500). -/
inductive Path where
  | bus
  | udp
deriving DecidableEq, Repr

/-- The events that are security violations (R473). -/
inductive Violation where
  | rng
  | ksram
  | secwr
  | counter
  | keyslot
deriving DecidableEq, Repr

/-- Registers with no write row of their own, by name and index (R5); WCK_, LNT_, VEC_, CAL_ and CHK_ registers name
their physical lantern and wick. -/
inductive Reg where
  | wckSplit (l : Lan) (w : PWick)
  | wckStat (l : Lan) (w : PWick)
  | wckLookup (l : Lan) (w : PWick)
  | lntMap (l : Lan) (n : Fin 3)
  | lntStat (l : Lan)
  | vecCtl (l : Lan)
  | vecStat (l : Lan)
  | calCfg (l : Lan)
  | calDrcfg (l : Lan)
  | calStat (l : Lan)
  | chkCfg (l : Lan)
  | chkStat (l : Lan)
  | chkSubst (l : Lan)
  | chkBand (l : Lan) (w : PWick) (g : Fin 4)
  | chkDstat
  | lmpCfg
  | lmpStat
  | pwrLimit
  | pwrShare0
  | pwrShare1
  | pwrShare2
  | pwrTherm
  | pwrStat
  | monStat
  | monCvCtl (n : Fin 4)
  | monCvSeq (n : Fin 4) (k : Fin 16)
  | monDtab (d : DiodeI)
  | scnVraise (s : Sconce)
  | xbrStat
  | xbrWindow (c : CtxI) (e : Fin 32) (word : Fin 4)
  | stkStat (s : Sconce)
  | stkPatrol (s : Sconce)
  | clkStat
  | clkSupcfg
  | clkSupwarn
  | clkSupflt
  | fabStat (p : PortI)
  | fabMyid
  | fabWrr
  | fabTstat
  | fabTch (n : Fin 16)
  | fabRt (bank : Fin 2) (d : Fin 4096)
  | gvlCtl
  | gvlErr
  | gvlSigmod
  | mbxRtbaseLo
  | mbxRtbaseHi
  | mgtCfg
  | mgtStat
  | secViol
  /-- Any register whose fields are all read only: writes are ignored (R5). -/
  | readOnly
deriving DecidableEq, Repr

/-- Who writes a register: the control processor, the keeper, or anyone else (R59, R397, R475). -/
inductive Writer where
  | firmware
  | keeper
  | host
deriving DecidableEq, Repr

/-- The 64-bit counters read through a _LO and _HI pair (R534). -/
inductive Counter where
  | wckSteps (l : Lan) (w : PWick)
  | lntFlares (l : Lan)
  | vecIssue (l : Lan)
  | chkWaud (l : Lan) (w : PWick)
  | lmpFlicker
  | clkLtime
deriving DecidableEq, Repr

end Sys2Proof
end

