-- ==== Sys2Proof/Syntax.lean ====
section
/-! DEFINITION. The commands the block takes: one constructor per row of the table of operations and events, with
what the environment supplies at that event. -/

namespace Sys2Proof

/-- The operations and events of Yatil, in the table's order. -/
inductive Instr where
  /-- PWRGD resets everything, `CLK_LTIME` and the root PLL included (R290). -/
  | powerOnReset
  /-- A die reset, from BRD_RST_N or SYS.RESET (R290). -/
  | dieReset (src : RstSrc)
  /-- The root PLL locks; BRD_RST_N is sampled (R292). -/
  | rootPllLock (brdHigh : Bool)
  /-- The keeper runs the boot ROM to its end (R456). -/
  | bootRom (b : BootInput)
  /-- A stack controller ends its training (R270). -/
  | stackTrainingDone (n : Sconce) (r : TrainResult) (repairs : Nat)
  /-- Firmware configures the die from the configuration block and the device record (R292). -/
  | startUpConfigure
  /-- The snuffer's overwrite of one stack ends (R275). -/
  | stackOverwriteDone (n : Sconce)
  /-- The keeper raises the counter floors the running image and block ask for (R459). -/
  | counterFloorRaise
  /-- A warning comparator of a sense point fires (R288). -/
  | supplyWarning (p : PointI)
  /-- A warned sense point is back (R174). -/
  | supplyRecovery (p : PointI)
  /-- The wait after the last recovery is over (R174). -/
  | freezeResume
  /-- A warning has stood for its limit (R289). -/
  | supplyWarningLong (p : PointI)
  /-- A supply falls to its reset level (R289). -/
  | supplyResetLevel (p : PointI)
  /-- A supply rises above its limit (R289). -/
  | supplyOvervoltage (p : PointI)
  /-- The root PLL loses lock (R289). -/
  | pllLockLoss
  /-- The holdover that follows a standby or lock fault ends (R511). -/
  | holdoverEnd
  /-- A write of a half's divider register (R280). -/
  | clkHalfWrite (east : Bool) (v : W32)
  /-- The next common boundary: pending dividers take effect (R281). -/
  | clockDividerApply
  /-- A write of `CLK_SEAM` (R285). -/
  | clkSeamGateWrite (v : W32)
  /-- The seam hang watchdog of a half expires (R287). -/
  | seamHangWatchdog (east : Bool)
  /-- One flicker of the lamplighter; `draws` are the lanterns the random source marks for audit (R153). -/
  | flicker (draws : List Lan)
  /-- The oldest step in flight of a wick completes; `err` is how far each physical column's code lies from the ideal one, `bad` the check-store entries (row × 4 + group) ECC finds uncorrectable (R28, R216). -/
  | wickStepComplete (l : Lan) (w : PWick) (err : List (Nat × Int)) (bad : List Nat)
  /-- A digital recomputation of a slice ends; `err` is how far the digital path's columns lie from the exact ones (R219). -/
  | sliceRecomputeDone (l : Lan) (w : PWick) (err : List (Nat × Int))
  /-- A lantern reaches a flare boundary (R535). -/
  | flareBoundary (l : Lan)
  /-- A context's flare in progress completes (R155). -/
  | flareComplete (c : CtxI)
  /-- The 256 ms budget window ends; the package's measured power over it, in W (R168, R510). -/
  | budgetWindow (meas : Nat)
  /-- The governor's epoch ends, with the hottest diode's mean in 0.5 °C and the measured energy in mJ (R170). -/
  | cutEpoch (hot : BitVec 9) (energy : Nat)
  /-- A diode reaches the trip temperature (R171). -/
  | thermalTrip (d : DiodeI)
  /-- A write of `WCK_WRCTL` (R43). -/
  | wickWrctlStart (l : Lan) (w : PWick) (v : W32)
  /-- A wick write ends; the codes of the verify reads, in order, of each cell whose first read is not 4 × its level exactly, by row and physical column (R43, R45, R216). -/
  | wickWriteDone (l : Lan) (w : PWick) (reads : List (Nat × Nat × List Int))
  /-- A repair pass ends, with the verify reads of the spare columns' cells in the same form (R45). -/
  | wickRepairPassDone (l : Lan) (w : PWick) (reads : List (Nat × Nat × List Int))
  /-- A write of `WCK_RBCTL` (R48). -/
  | wickRbctlStart (l : Lan) (w : PWick) (v : W32)
  /-- A readback's probes have all run: its result (R50, R443). -/
  | readbackDone (l : Lan) (w : PWick)
  /-- Firmware confirms a lookup candidate digitally (R56). -/
  | lookupCandidateConfirm (l : Lan) (w : PWick) (col : Nat)
  /-- A write of `WCK_COLMAPn` (R37). -/
  | wckColmapWrite (l : Lan) (w : PWick) (n : Fin 4) (v : W32)
  /-- A write of `WCK_CFG` (R62). -/
  | wckCfgWrite (l : Lan) (w : PWick) (v : W32)
  /-- A 256-byte input block reaches a lantern buffer; `good` is its check (R103). -/
  | inputBlockArrival (l : Lan) (b : InBlock) (good : Bool)
  /-- A port broadcasts an input block to lanterns (R257). -/
  | broadcast (p : Sconce) (lans : List Lan) (b : InBlock)
  /-- A chain member's partial sums reach the head (R109). -/
  | chainPartialArrival (l : Lan) (m : ChainPartial) (good : Bool)
  /-- A write of `LNT_SWAP` (R113). -/
  | lntSwapArm (l : Lan) (v : W32)
  /-- A write of `LNT_ISSUE` (R115). -/
  | lntIssueWrite (l : Lan) (v : W32)
  /-- A write of `LNT_CFG` (R106). -/
  | lntCfgWrite (l : Lan) (v : W32)
  /-- A live window of a slice is full (R111). -/
  | momentWindowEnd (l : Lan) (slice : LWick)
  /-- A lantern's rotation period is over (R195). -/
  | rotationCycle (l : Lan)
  /-- The full trim of a lantern's wick ends its windows (R192). -/
  | fullTrimWindowDone (l : Lan)
  /-- A drive-reference calibration is due (R197). -/
  | driveRefCalDue (l : Lan)
  /-- The wait for a gap in the lantern's launches ends (R197). -/
  | driveRefCalGapWait (l : Lan)
  /-- A drive-reference calibration's steps have all run: the tap codes move (R198). -/
  | driveRefCalDone (l : Lan)
  /-- Firmware writes the device record to flash (R200). -/
  | deviceRecordWrite
  /-- A monitor converter ends its conversion: the input's level in µV and the conversion's error in LSB (R202, R204). -/
  | monConversionDone (n : Fin 4) (level err : Int)
  /-- A write of `MON_URG` with GO, by the governor or firmware (R206). -/
  | monUrgGo (gov : Bool) (v : W32)
  /-- A write of `MON_CVn_CTL` with GO (R204). -/
  | monCvGo (n : Fin 4) (v : W32)
  /-- The AUDIT kernel ends its oldest pending audit of a lantern (R229). -/
  | auditDone (l : Lan)
  /-- A suspect lantern's interval may step back (R246). -/
  | suspectDecay (l : Lan)
  /-- Every journal entry a final package waits for is settled (R243). -/
  | settleSend (c : CtxI) (inst : W32)
  /-- A remap of a logical lantern to a reserve; the errors of each closing probe step's codes by physical column (R478, R480). -/
  | lanternRemap (ll : LLan) (closing : List (LWick × List (Nat × Int)))
  /-- A patrol pass of a stack ends with the blocks it found bad (R273). -/
  | patrolPass (n : Sconce) (corrected : Nat) (bad : List Nat)
  /-- The clear of a sconce's shared-store slice and stack part ends (R264). -/
  | sliceClearDone (n : Sconce)
  /-- Firmware writes `SCN_OWNs` (R253). -/
  | scnOwnWrite (n : Sconce) (v : W32)
  /-- Firmware writes a slot map register (R260). -/
  | xbrSlotmapWrite (k : Sconce) (v : W32)
  /-- Firmware writes `PWR_CTXWn` (R159). -/
  | pwrCtxwWrite (c : CtxI) (v : W32)
  /-- A raised sconce supply steps down (R483). -/
  | vraiseStepDown (n : Sconce)
  /-- Firmware retires a sconce (R484). -/
  | sconceRetire (n : Sconce)
  /-- A control-class instruction of a thread (R127). -/
  | vecControl (l : Lan) (t : ThreadI) (w : W64)
  /-- FMA, MUL, ADD, MIN or MAX on FP32 lanes; `chk`: its residue and register checks (R128, R134). -/
  | vecFloat (l : Lan) (t : ThreadI) (w : W64) (chk : RegChk)
  /-- DOT2 (R128). -/
  | vecDot2 (l : Lan) (t : ThreadI) (w : W64) (chk : RegChk)
  /-- DOT4 (R128). -/
  | vecDot4 (l : Lan) (t : ThreadI) (w : W64) (chk : RegChk)
  /-- An integer-class instruction (R127). -/
  | vecInteger (l : Lan) (t : ThreadI) (w : W64) (chk : RegChk)
  /-- A convert-class instruction (R127). -/
  | vecConvert (l : Lan) (t : ThreadI) (w : W64) (chk : RegChk)
  /-- A compare or select (R127). -/
  | vecCompare (l : Lan) (t : ThreadI) (w : W64) (chk : RegChk)
  /-- A reduction over lanes (R129). -/
  | vecReduce (l : Lan) (t : ThreadI) (w : W64) (chk : RegChk)
  /-- A special function (R130). -/
  | vecSpecial (l : Lan) (t : ThreadI) (w : W64) (chk : RegChk)
  /-- ROT (R131). -/
  | rot (l : Lan) (t : ThreadI) (w : W64) (chk : RegChk)
  /-- ROTL1 (R131). -/
  | rotl1 (l : Lan) (t : ThreadI) (w : W64) (chk : RegChk)
  /-- GATHER from the scratch (R132). -/
  | gather (l : Lan) (t : ThreadI) (w : W64) (chk : RegChk)
  /-- SCATTER to the scratch (R132). -/
  | scatter (l : Lan) (t : ThreadI) (w : W64) (chk : RegChk)
  /-- TKPUSH (R133). -/
  | tkpush (l : Lan) (t : ThreadI) (w : W64) (chk : RegChk)
  /-- TKPOP (R133). -/
  | tkpop (l : Lan) (t : ThreadI) (w : W64)
  /-- LOAD issues a whole-block read (R135). -/
  | load (l : Lan) (t : ThreadI) (w : W64)
  /-- The response to a thread's `n`th outstanding access arrives: what the memory's ECC found, whether the block check fails on arrival, and the shard whose shadow the block belongs to, by epoch and number (R225). -/
  | loadDataReturn (l : Lan) (t : ThreadI) (n : Nat) (ecc : EccRes) (bad : Bool) (shadow : Option (W32 × W32))
  /-- STORE (R135). -/
  | store (l : Lan) (t : ThreadI) (w : W64) (chk : RegChk)
  /-- ATOMIC (R136). -/
  | atomic (l : Lan) (t : ThreadI) (w : W64) (chk : RegChk)
  /-- SEND (R127). -/
  | send (l : Lan) (t : ThreadI) (w : W64) (chk : RegChk)
  /-- RECV (R127). -/
  | recv (l : Lan) (t : ThreadI) (w : W64)
  /-- FIRE queues the flare its operands describe (R162). -/
  | fire (l : Lan) (t : ThreadI) (w : W64) (f : FireArg)
  /-- WAITF (R127). -/
  | waitf (l : Lan) (t : ThreadI) (w : W64)
  /-- A privileged-class instruction (R143). -/
  | vecPrivileged (l : Lan) (t : ThreadI) (w : W64)
  /-- An invocation reaches its TLIMIT (R147). -/
  | kernelTimeLimit (c : CtxI) (inv : Nat)
  /-- A write of `VEC_CTL` (R151). -/
  | vecCtlKill (l : Lan) (v : W32)
  /-- Firmware writes `LMP_CFG` (R168). -/
  | lmpCfgEn (v : W32)
  /-- Firmware writes `LMP_CTXn_CTL` (R173). -/
  | lmpPauseWrite (c : CtxI) (v : W32)
  /-- A write of `MBX_SQDBn` (R383). -/
  | mbxSqDoorbell (r : RingI) (v : W32)
  /-- A write of `MBX_CQDBn` (R383). -/
  | mbxCqDoorbell (r : RingI) (v : W32)
  /-- A write of `MBX_BOOT.CMD` = 1, with ring table entry 0 as read (R381). -/
  | mbxAttach (e : Option RingEntry)
  /-- A write of `MBX_BOOT.CMD` = 2 (R382). -/
  | mbxReattach (e : Option RingEntry)
  /-- A ring was not re-enabled within 10 s (R382). -/
  | reattachDiscardTimeout (r : RingI)
  /-- Firmware fetches a ring's next descriptor (R384). -/
  | descriptorFetch (r : RingI) (res : FetchRes)
  /-- Room has returned: held notifications are posted (R385). -/
  | notificationFlush (r : RingI)
  /-- A command reaches its time limit (R393). -/
  | commandTimeLimit (r : RingI) (tag : W64)
  /-- The keeper's watchdog of a core expires (R378). -/
  | coreWatchdogExpiry (core : Fin 4)
  /-- SYS.HELLO (R391). -/
  | sysHello (d : Desc) (vmin vmax : W16)
  /-- SYS.INFO (R393). -/
  | sysInfo (d : Desc)
  /-- SYS.TIME (R393). -/
  | sysTime (d : Desc)
  /-- SYS.RING with the table entry as read (R393). -/
  | sysRing (d : Desc) (ring : Nat) (action : Nat) (e : Option RingEntry)
  /-- SYS.POWER (R393). -/
  | sysPower (d : Desc) (limit : W16) (arr vec xbr stk ser ctl : W16)
  /-- SYS.CLOCK (R286). -/
  | sysClock (d : Desc) (east : Bool) (adiv ndiv : BitVec 2)
  /-- SYS.SHUTDOWN (R537). -/
  | sysShutdown (d : Desc)
  /-- SYS.RESET (R393). -/
  | sysReset (d : Desc)
  /-- CTX.CREATE (R398). -/
  | ctxCreate (d : Desc) (a : CtxArg) (keydig : Digest)
  /-- CTX.DESTROY (R401). -/
  | ctxDestroy (d : Desc) (ctxid : W16)
  /-- CTX.PIPELINE (R399). -/
  | ctxPipeline (d : Desc) (ctxid : W16) (path : List Pkg)
  /-- CTX.WEIGHT (R393). -/
  | ctxWeight (d : Desc) (ctxid : W16) (weight : W16)
  /-- CTX.PAUSE (R400). -/
  | ctxPause (d : Desc)
  /-- CTX.RESUME (R400). -/
  | ctxResume (d : Desc)
  /-- CTX.KLOAD (R141). -/
  | ctxKload (d : Desc) (k : KImage)
  /-- CTX.KUNLOAD (R142). -/
  | ctxKunload (d : Desc) (handle : Nat)
  /-- CTX.KRUN (R142). -/
  | ctxKrun (d : Desc) (handle entry : Nat) (lmask : List LLan)
  /-- CTX.ATTEST (R462). -/
  | ctxAttest (d : Desc) (nonce : BitVec 256)
  /-- CTX.EMBERS (R471). -/
  | ctxEmbers (d : Desc)
  /-- WGT.SESSION (R433). -/
  | wgtSession (d : Desc)
  /-- WGT.KEY; the content key, where it decapsulates and unwraps (R433). -/
  | wgtKey (d : Desc) (keyid : W32) (key : Option (BitVec 256))
  /-- WGT.LAND (R365). -/
  | wgtLand (d : Desc) (off len : W64)
  /-- WGT.LOAD (R439). -/
  | wgtLoad (d : Desc) (epoch : W32) (ents : List ShardEntry)
  /-- WGT.ADOPT (R443). -/
  | wgtAdopt (d : Desc) (epoch : W32) (strict : Bool) (toks : List Token)
  /-- WGT.REPLACE; `drain` in ms (R444). -/
  | wgtReplace (d : Desc) (old new drain : W32)
  /-- WGT.DROP (R439). -/
  | wgtDrop (d : Desc) (epoch : W32)
  /-- WGT.STATUS (R393). -/
  | wgtStatus (d : Desc)
  /-- ADP.LOAD (R448). -/
  | adpLoad (d : Desc) (slot : W16) (gen : W32) (ents : List ShardEntry)
  /-- ADP.REPLACE (R448). -/
  | adpReplace (d : Desc) (slot : W16) (gen : W32) (ents : List ShardEntry)
  /-- ADP.FREE (R448). -/
  | adpFree (d : Desc) (slot : W16)
  /-- ADP.STATUS (R393). -/
  | adpStatus (d : Desc)
  /-- REQ.SUBMIT (R402). -/
  | reqSubmit (d : Desc) (a : ReqArg)
  /-- REQ.CANCEL (R411). -/
  | reqCancel (d : Desc) (reqtag : W32)
  /-- REQ.RESUME (R414). -/
  | reqResume (d : Desc) (reqtag deadline maxtok : W32) (tokens : List W32)
  /-- REQ.LEDGER (R240). -/
  | reqLedger (d : Desc) (reqtag : W32)
  /-- REQ.REPLAY; `differ`: the first position at which the replayed tokens differ (R234). -/
  | reqReplay (d : Desc) (reqtag : W32) (form : Byte) (differ : Option Nat)
  /-- REQ.LOG (R393). -/
  | reqLog (d : Desc) (reqtag : W32)
  /-- CAL.READ (R201). -/
  | calRead (d : Desc) (lans : List Nat) (wicks sets : W32)
  /-- CAL.TRIM (R393). -/
  | calTrim (d : Desc) (ll : Nat) (w : Nat)
  /-- CAL.CONFIG (R394). -/
  | calConfig (d : Desc) (lmask : List LLan) (cfg drcfg : W32)
  /-- CHK.RATE (R394). -/
  | chkRate (d : Desc) (lmask : List LLan) (audlog : W32)
  /-- CHK.STATUS (R393). -/
  | chkStatus (d : Desc)
  /-- CHK.AUDIT (R393). -/
  | chkAudit (d : Desc) (lmask : List LLan)
  /-- MON.SEQ (R205). -/
  | monSeq (d : Desc) (ents : List SeqEntry) (len : Nat)
  /-- MON.READ (R393). -/
  | monRead (d : Desc)
  /-- FAB.PORT (R393). -/
  | fabPort (d : Desc) (port : Nat) (v : W32)
  /-- FAB.ID (R327). -/
  | fabId (d : Desc) (id : W16)
  /-- FAB.ROUTE (R329). -/
  | fabRoute (d : Desc) (bank : Nat) (first : Nat) (ents : List W32)
  /-- FAB.FLIP (R329). -/
  | fabFlip (d : Desc)
  /-- FAB.CHAIN (R345). -/
  | fabChain (d : Desc) (n : Nat) (v : W32)
  /-- FAB.WRR (R330). -/
  | fabWrr (d : Desc) (v : W32)
  /-- FAB.NEIGHBORS (R312). -/
  | fabNeighbors (d : Desc)
  /-- TWIN.FORM (R493). -/
  | twinForm (d : Desc) (a : TwinArg)
  /-- TWIN.DISSOLVE (R393). -/
  | twinDissolve (d : Desc)
  /-- TWIN.STATUS (R499). -/
  | twinStatus (d : Desc)
  /-- DIAG.EMBERS (R471). -/
  | diagEmbers (d : Desc)
  /-- DIAG.SNAPSHOT (R393). -/
  | diagSnapshot (d : Desc) (blocks : List Nat)
  /-- DIAG.LOOPBACK (R393). -/
  | diagLoopback (d : Desc) (port : Nat)
  /-- DIAG.COUNTERS (R393). -/
  | diagCounters (d : Desc)
  /-- A write of `FAB_PCFGp` (R307). -/
  | fabPcfgWrite (p : PortI) (v : W32)
  /-- A write of `FAB_RTCTL` (R329). -/
  | fabRtctlFlip (v : W32)
  /-- Lane training of a link ends (R307). -/
  | linkTrainingDone (k : LinkI) (lanesOk : Bool) (rev polinv : Byte)
  /-- Both directions of a link are aligned (R307). -/
  | linkAlignDone (k : LinkI)
  /-- A LINIT flit arrives (R308). -/
  | linitReceive (k : LinkI) (m : Linit)
  /-- A link state's limit expires (R307). -/
  | linkStateLimitExpiry (k : LinkI)
  /-- A DOWN link trains again (R307). -/
  | linkDownRetrain (k : LinkI)
  /-- A lane loses signal or CDR lock (R306). -/
  | linkSignalLoss (k : LinkI)
  /-- No good codeword arrived in the limit (R306). -/
  | linkNoFlitTimeout (k : LinkI)
  /-- A SerDes reference is lost (R295). -/
  | linkReferenceLoss (east : Bool)
  /-- A codeword arrives on a link (R305). -/
  | flitReceive (k : LinkI) (f : Flit) (c : FlitCheck)
  /-- A codeword boundary of a link's sender (R304). -/
  | flitSend (k : LinkI)
  /-- The oldest unacknowledged flit has waited its limit (R305). -/
  | replayTimeout (k : LinkI)
  /-- A HELLO is delivered (R311). -/
  | helloReceive (k : LinkI) (m : LinkMsg)
  /-- An ATTEST is delivered (R311, R463). -/
  | attestReceive (k : LinkI) (r : Report)
  /-- A VERDICT is delivered (R311). -/
  | verdictReceive (k : LinkI) (accept : Bool)
  /-- A LINK_STATE is delivered (R319). -/
  | linkStateReceive (k : LinkI) (withheld : Bool)
  /-- A KEYX message is delivered; `ok`: it verifies (R314). -/
  | keyxReceive (k : LinkI) (cipher : Bool) (ok : Bool)
  /-- A discovery attempt's limit passes; the next attempt's nonce (R311). -/
  | discoverAttemptTimeout (k : LinkI) (nonce : BitVec 256)
  /-- A quarantined link repeats its HELLO (R307). -/
  | quarantineHelloRepeat (k : LinkI) (nonce : BitVec 256)
  /-- A sending direction advances its key (R314). -/
  | keyPhaseAdvance (k : LinkI)
  /-- A new key exchange is due (R314). -/
  | keyReexchange (k : LinkI)
  /-- A message for another package arrives (R328). -/
  | messageRelay (k : LinkI) (m : Msg)
  /-- A destination has had no link for the hold limit (R316). -/
  | egressNoRouteTimeout (dst : Pkg)
  /-- An ACT for this package arrives; `bad`: its data fails the block check (R333). -/
  | actReceive (k : LinkI) (m : Msg) (bad : Bool)
  /-- An S40 for this package arrives (R336). -/
  | s40Receive (k : LinkI) (m : Msg) (bad : Bool)
  /-- A reduction has waited its resend time (R337). -/
  | reductionResendTimer (c : CtxI) (inst tindex : W32) (layer : W16)
  /-- A reduction record expires (R337). -/
  | reductionRecordExpiry (c : CtxI) (inst tindex : W32) (layer : W16)
  /-- A CURFEW SET arrives (R343). -/
  | curfewSet (k : LinkI) (m : Msg)
  /-- A CURFEW LIFT arrives; the errors of the closing probe steps' codes (R446). -/
  | curfewLift (k : LinkI) (m : Msg) (closing : List (Lan × LWick × List (Nat × Int)))
  /-- A CURFEW QUERY arrives (R343). -/
  | curfewQuery (k : LinkI) (m : Msg)
  /-- A CURFEW REPORT arrives (R445). -/
  | curfewReport (k : LinkI) (m : Msg)
  /-- A hold rule has stood for its limit (R446). -/
  | holdRuleTimeout (ctx : W16) (cfid : W32) (closing : List (Lan × LWick × List (Nat × Int)))
  /-- The wave's query interval passes (R445). -/
  | waveQueryTimer (c : CtxI)
  /-- A CURFEW has no REPORT in its resend time (R445). -/
  | curfewResendTimer (c : CtxI)
  /-- A wave's drain limit passes (R445). -/
  | waveDrainExpiry (c : CtxI)
  /-- A TAPER segment arrives; the digest of its ciphertext (R345). -/
  | taperReceive (k : LinkI) (m : Msg) (dig : Digest)
  /-- A TAPER_REQ arrives (R346). -/
  | taperReqReceive (k : LinkI) (m : Msg)
  /-- A NEXT notice arrives (R334). -/
  | nextReceive (k : LinkI) (m : Msg)
  /-- A WITHHELD notice arrives (R341). -/
  | withheldReceive (k : LinkI) (m : Msg)
  /-- A COMMIT notice arrives (R238). -/
  | commitReceive (k : LinkI) (m : Msg)
  /-- A DISCARD or RETIRE notice arrives (R238). -/
  | discardReceive (k : LinkI) (m : Msg)
  /-- A SUSPECT notice arrives (R242). -/
  | suspectReceive (k : LinkI) (m : Msg)
  /-- A SETTLE notice arrives (R243). -/
  | settleReceive (k : LinkI) (m : Msg)
  /-- A RESEND notice arrives (R334). -/
  | resendReceive (k : LinkI) (m : Msg)
  /-- An EPOCH_MISS notice arrives (R411). -/
  | epochMissReceive (k : LinkI) (m : Msg)
  /-- A retired instance's 5 s pass (R536). -/
  | retiredInstanceExpiry (ctx : W16) (inst : W32)
  /-- A TFORM arrives (R493). -/
  | tformReceive (k : LinkI) (m : Msg)
  /-- A TDIGEST arrives (R497). -/
  | tdigestReceive (k : LinkI) (m : Msg)
  /-- A TACT arrives (R497). -/
  | tactReceive (k : LinkI) (m : Msg)
  /-- A TRESULT arrives (R497). -/
  | tresultReceive (k : LinkI) (m : Msg)
  /-- A THEART arrives (R496). -/
  | theartReceive (k : LinkI) (m : Msg)
  /-- The heartbeat interval passes (R495). -/
  | twinHeartbeatSend
  /-- No heartbeat arrived in the limit (R496). -/
  | twinLost
  /-- A digest comparison has waited its limit (R497). -/
  | twinDigestTimeout (reqtag tindex : W32)
  /-- The entry package dispatches its chosen position (R407). -/
  | requestDispatch (c : CtxI)
  /-- The commit gate's conditions hold for a token (R410). -/
  | tokenRelease (c : CtxI) (inst : W32)
  /-- A release record's deadline passes (R411). -/
  | releaseDeadline (c : CtxI) (num : W16)
  /-- An admission record's deadline passes (R406). -/
  | admissionDeadline (c : CtxI) (num : W16)
  /-- A token waited its limit for a release record (R412). -/
  | releaseRecordWaitExpiry (c : CtxI) (inst : W32)
  /-- A retired request's attention HOLD passes (R413). -/
  | attentionHoldExpiry (c : CtxI) (inst : W32)
  /-- A prefix slot's lease passes (R427). -/
  | prefixLeaseExpiry (c : CtxI) (slot : Nat)
  /-- A shard's last segment is here and the container opens (R435); the errors of the closing probe steps' codes where that starts a rewrite (R446). -/
  | shardSegmentsComplete (c : CtxI) (epoch shard : W32) (b : ShardBody) (closing : List (Lan × LWick × List (Nat × Int)))
  /-- A shard is overdue (R436). -/
  | shardOverdue (c : CtxI) (epoch shard : W32)
  /-- A TAPER_REQ has had no answer in its limit (R436). -/
  | taperReqRepeat (c : CtxI) (epoch shard : W32)
  /-- A poll of the landing range for a storage shard (R436). -/
  | storageCheckPoll (c : CtxI) (epoch shard : W32) (b : Option ShardBody) (closing : List (Lan × LWick × List (Nat × Int)))
  /-- A shard's last limit passes (R436). -/
  | shardFailDeadline (c : CtxI) (epoch shard : W32)
  /-- The periodic rehash of a shadow copy ends (R447). -/
  | shadowRehash (c : CtxI) (epoch shard : W32) (ok : Bool)
  /-- The periodic rehash of a buddy container ends (R447). -/
  | buddyRehash (c : CtxI) (epoch shard : W32) (ok : Bool)
  /-- The periodic readback check of a wick starts (R447). -/
  | wickReadbackCheck (l : Lan) (w : PWick)
  /-- A write of `GVL_CTL` (R350). -/
  | gvlCtlEn (v : W32)
  /-- PRST: the link's own reset (R374). -/
  | gvlCtlPrst
  /-- RETRAIN: firmware asks for a recovery (R351). -/
  | gvlCtlRetrain
  /-- Firmware flushes the link cache (R367). -/
  | gvlCacheFlush
  /-- A receiver is detected (R350). -/
  | gvlReceiverDetect
  /-- Training ends with these lanes locked (R351). -/
  | gvlTrainDone (goodLanes : W16)
  /-- Flit alignment, with lane polarity and lane order detected (R349, R350). -/
  | gvlLockDone (polinv : W16) (rev : Bool)
  /-- An INIT flit arrives (R360). -/
  | gvlInitReceive (version : Byte) (width : Nat) (credits : List Nat) (rtt : Nat)
  /-- A Garvy Link state limit expires (R350). -/
  | gvlStateLimitExpiry
  /-- A DOWN link tries again (R350). -/
  | gvlDownRetry
  /-- A cause of RECOVERY arises (R352). -/
  | gvlRecoveryTrigger (c : RecovCause)
  /-- A recovery ends with these lanes locked (R352). -/
  | gvlRecoveryDone (goodLanes : W16)
  /-- The link's reference is lost (R375). -/
  | gvlRefclkLoss
  /-- A Garvy Link flit arrives; the bytes FEC corrected (R354, R357). -/
  | gvlFlitReceive (f : GFlit) (c : FlitCheck) (corr : Nat)
  /-- A codeword boundary of the link's sender (R359). -/
  | gvlFlitSend
  /-- The oldest unacknowledged flit has waited its limit (R357). -/
  | gvlReplayTimeout
  /-- HRD: a companion read (R363). -/
  | hrd (m : GMsg)
  /-- HRDS: a shared read (R368). -/
  | hrds (m : GMsg)
  /-- HRDX: an exclusive read (R368). -/
  | hrdx (m : GMsg)
  /-- HRDR: a register read (R363). -/
  | hrdr (m : GMsg)
  /-- HWR: a posted write (R364). -/
  | hwr (m : GMsg)
  /-- HWRR: a register write (R363). -/
  | hwrr (m : GMsg)
  /-- HWB: a write back (R368). -/
  | hwb (m : GMsg)
  /-- HEVX: eviction of an exclusive line (R368). -/
  | hevx (m : GMsg)
  /-- HEVS: eviction of a shared line (R368). -/
  | hevs (m : GMsg)
  /-- SNPINV of a cached companion line (R367). -/
  | snpinvReceive (m : GMsg)
  /-- SACK (R368). -/
  | sackReceive (m : GMsg)
  /-- SDATA (R368). -/
  | sdataReceive (m : GMsg)
  /-- DATAL: a companion read's data (R367). -/
  | datalReceive (m : GMsg)
  /-- LSTATE (R362). -/
  | lstateReceive (m : GMsg)
  /-- A held companion read reaches its limit (R371). -/
  | hostReadTimeout (tag : BitVec 12)
  /-- A read of companion memory reaches its limit (R366). -/
  | deviceReadTimeout (tag : BitVec 12)
  /-- A snoop has no answer in its limit (R369). -/
  | snoopTimeout (block : Nat)
  /-- A signal vector's interval passes (R370). -/
  | sigIntervalExpiry (vector : Nat)
  /-- A security violation (R473). -/
  | securityViolation (v : Violation)
  /-- Yatil withholds (R486). -/
  | withhold (cause : Byte) (detail : W16)
  /-- Firmware raises an ember (R506). -/
  | emberRaise (e : EmberReq)
  /-- A rate window closes (R508). -/
  | rateWindowClose (key : Option (W16 × W16 × Option W16))
  /-- The oldest queued ember of a path is sent (R509). -/
  | platformEventSend (p : Path)
  /-- The receiver's response arrives (R509). -/
  | platformEventResponse (p : Path) (ok : Bool)
  /-- No response in the limit (R509). -/
  | platformEventTimeout (p : Path)
  /-- Set Endpoint ID (R502). -/
  | setEndpointId (p : Path) (op : Byte) (eid : Byte)
  /-- Get Endpoint ID (R502). -/
  | getEndpointId (p : Path)
  /-- Get Endpoint UUID (R502). -/
  | getEndpointUuid (p : Path)
  /-- Get MCTP Version Support (R502). -/
  | getMctpVersionSupport (p : Path) (type : Byte)
  /-- Get Message Type Support (R502). -/
  | getMessageTypeSupport (p : Path)
  /-- GetTID (R502). -/
  | getTid (p : Path)
  /-- GetPLDMVersion (R502). -/
  | getPldmVersion (p : Path) (type : Byte)
  /-- GetPLDMTypes (R502). -/
  | getPldmTypes (p : Path)
  /-- GetPLDMCommands (R502). -/
  | getPldmCommands (p : Path) (type : Byte)
  /-- SetEventReceiver (R509). -/
  | setEventReceiver (p : Path) (enable : Byte) (eid : Byte)
  /-- GetPDRRepositoryInfo (R510). -/
  | getPdrRepositoryInfo (p : Path)
  /-- GetPDR (R510). -/
  | getPdr (p : Path) (handle : W32)
  /-- GetSensorReading (R510). -/
  | getSensorReading (p : Path) (sensor : W16)
  /-- GetStateSensorReadings (R510). -/
  | getStateSensorReadings (p : Path) (sensor : W16)
  /-- A PLDM command of a supported type outside the list (R502). -/
  | pldmUnsupportedCommand (p : Path) (type cmd : Byte)
  /-- A read of a 64-bit counter's _LO register (R534). -/
  | counterLoRead (c : Counter)
  /-- A read of `GVL_HERR` (R376). -/
  | gvlHerrRead
  /-- A write of a register that has no row of its own (R5). -/
  | registerWrite (by_ : Writer) (r : Reg) (v : W32)
  /-- BRD_RST_N rises (R520). -/
  | brdRstNRelease
  /-- The SGMII link changes (R500). -/
  | sgmiiLinkChange (up : Bool)
  /-- The controller assigns an I3C dynamic address (R500). -/
  | i3cDynamicAddress (a : Byte)
  /-- An MCTP message outside the supported ones (R502). -/
  | mctpUnsupportedMessage (p : Path)
  /-- No good codeword arrived in the limit (R376). -/
  | gvlNoFlitTimeout
  /-- An uncorrectable error of the private SRAM (R378). -/
  | privateSramUncorrectable (keeper : Bool)
  /-- A crossbar frame boundary (R255). -/
  | crossbarFrame
deriving DecidableEq, Repr

end Sys2Proof
end

