-- ==== Sys2Proof/Decode.lean ====
section
/-! DEFINITION. The decoding of a table word. The table of this block gives no row any bits: its rows are operations
and events, not encoded words. -/

namespace Sys2Proof

/-- The command that a word of `nbits` bits spells by the table's bits: none, since no row has bits. -/
def decodeTableWord (_nbits _w : Nat) : Option Instr := none

end Sys2Proof
end

