-- ==== Sys2Proof/Machine/Tab.lean ====
section
/-! DEFINITION. Sparse tables, saturating and wrapping counters, bit-field helpers and the packed lists the
operations of the machine share. -/

namespace Sys2Proof.Machine

/-- A sparse table: keys strictly rising, no entry equal to what an unlisted key reads as. -/
abbrev Tab (α : Type) := List (Nat × α)

/-- The value at a key; `d` is what an unlisted key reads as. -/
def Tab.get {α : Type} (d : α) : Tab α → Nat → α
  | [], _ => d
  | (k, v) :: t, n => if k = n then v else Tab.get d t n

/-- Put an entry before the first larger key. -/
def Tab.put {α : Type} (n : Nat) (v : α) : Tab α → Tab α
  | [] => [(n, v)]
  | (k, w) :: t => if n < k then (n, v) :: (k, w) :: t else (k, w) :: Tab.put n v t

/-- Write one key: its old entry goes, and a new one comes unless the value is what an unlisted key reads as. -/
def Tab.set {α : Type} [DecidableEq α] (d : α) (t : Tab α) (n : Nat) (v : α) : Tab α :=
  if v = d then t.filter (fun e => e.1 != n) else Tab.put n v (t.filter (fun e => e.1 != n))

/-- Change one key's value by a function. -/
def Tab.upd {α : Type} [DecidableEq α] (d : α) (t : Tab α) (n : Nat) (f : α → α) : Tab α :=
  Tab.set d t n (f (Tab.get d t n))

/-- Every key of a table is above a bound. -/
def Tab.above {α : Type} (n : Nat) (t : Tab α) : Bool := t.all (fun p => n < p.1)

/-- The canonical form of a table. -/
def Tab.wf {α : Type} [DecidableEq α] (d : α) : Tab α → Bool
  | [] => true
  | (k, v) :: t => Tab.above k t && decide (v ≠ d) && Tab.wf d t

/-- The keys a table lists. -/
def keysOf {α : Type} (t : Tab α) : List Nat := t.map (fun e => e.1)

/-- Remove every key for which a test holds. -/
def Tab.drop {α : Type} (p : Nat → Bool) (t : Tab α) : Tab α := t.filter (fun e => !p e.1)

/-- Set one bit of a flag register. -/
def setBit {n : Nat} (x : BitVec n) (i : Nat) : BitVec n := x ||| (1#n <<< i)

/-- Clear one bit. -/
def clrBit {n : Nat} (x : BitVec n) (i : Nat) : BitVec n := x &&& ~~~ (1#n <<< i)

/-- Set or clear one bit. -/
def putBit {n : Nat} (x : BitVec n) (i : Nat) (b : Bool) : BitVec n :=
  if b then setBit x i else clrBit x i

/-- A write-one-to-clear field (R5): each written 1 clears its flag. -/
def w1c {n : Nat} (x v : BitVec n) : BitVec n := x &&& ~~~ v

/-- A counter that saturates at its width. -/
def satAdd {n : Nat} (x : BitVec n) (k : Nat) : BitVec n :=
  if x.toNat + k < 2 ^ n then BitVec.ofNat n (x.toNat + k) else BitVec.allOnes n

/-- A saturating counter up by one. -/
def satInc {n : Nat} (x : BitVec n) : BitVec n := satAdd x 1

/-- A natural number held in a field that saturates. -/
def satOf (n k : Nat) : BitVec n := if k < 2 ^ n then BitVec.ofNat n k else BitVec.allOnes n

/-- Clamp a number into a range (R5). -/
def clampN (lo hi x : Nat) : Nat := if x < lo then lo else if hi < x then hi else x

/-- Clamp an integer into a range. -/
def clampI (lo hi x : Int) : Int := if x < lo then lo else if hi < x then hi else x

/-- Bits `hi` to `lo` of a register. -/
def fld (v : W32) (hi lo : Nat) : Nat := v.toNat / 2 ^ lo % 2 ^ (hi + 1 - lo)

/-- One bit of a register. -/
def bitAt (v : W32) (i : Nat) : Bool := v.toNat / 2 ^ i % 2 = 1

/-- A quotient rounded to the nearest integer, ties to even (R30, R184); the divisor is positive. -/
def rneDiv (a : Int) (b : Nat) : Int :=
  let q := a / (b : Int)
  let r := a % (b : Int)
  if 2 * r < b then q else if (b : Int) < 2 * r then q + 1 else if q % 2 = 0 then q else q + 1

/-- Sum of a list of integers. -/
def sumI : List Int → Int
  | [] => 0
  | x :: t => x + sumI t

/-- Sum of a list of naturals. -/
def sumN : List Nat → Nat
  | [] => 0
  | x :: t => x + sumN t

/-- Pointwise sum of two lists of one length; the longer list's rest stays. -/
def addL : List Int → List Int → List Int
  | [], ys => ys
  | xs, [] => xs
  | x :: xs, y :: ys => (x + y) :: addL xs ys

/-- Elements with their positions from `i` on. -/
def withPos {α : Type} (i : Nat) : List α → List (Nat × α)
  | [] => []
  | x :: t => (i, x) :: withPos (i + 1) t

/-- Insert into a list ordered by a key, after equal keys. -/
def insKey {α : Type} (key : α → Nat) (x : α) : List α → List α
  | [] => [x]
  | y :: t => if key x < key y then x :: y :: t else y :: insKey key x t

/-- Stable sort by a key. -/
def sortKey {α : Type} (key : α → Nat) : List α → List α
  | [] => []
  | x :: t => insKey key x (sortKey key t)

/-- The element with the least key; the earliest one among equals. -/
def minKey {α : Type} (key : α → Nat) : List α → Option α
  | [] => none
  | x :: t =>
    match minKey key t with
    | none => some x
    | some y => if key y < key x then some y else some x

/-- The first element that passes a test, and the list without it. -/
def takeFirst {α : Type} (p : α → Bool) : List α → Option (α × List α)
  | [] => none
  | x :: t =>
    if p x then some (x, t)
    else match takeFirst p t with
      | none => none
      | some (y, r) => some (y, x :: r)

/-- Change every element that passes a test. -/
def updIf {α : Type} (p : α → Bool) (f : α → α) (l : List α) : List α :=
  l.map (fun x => if p x then f x else x)

/-- The bits of a value below `n`, low first: the members of a mask. -/
def maskBits (n v : Nat) : List Nat := (List.range n).filter (fun i => v / 2 ^ i % 2 = 1)

/-- A mask with these bits set. -/
def maskOf (l : List Nat) : Nat := l.foldr (fun i m => m ||| 2 ^ i) 0

/-- The last `n` elements of a list. -/
def lastN {α : Type} (n : Nat) (l : List α) : List α := l.drop (l.length - n)

/-- A value's bytes, little-endian. -/
def leBytes (n v : Nat) : List Byte := (List.range n).map (fun i => BitVec.ofNat 8 (v / 2 ^ (8 * i)))

/-- The value of little-endian bytes. -/
def ofLe : List Byte → Nat
  | [] => 0
  | b :: t => b.toNat + 256 * ofLe t

end Sys2Proof.Machine
end

