-- ==== Sys2Proof/Machine/Num.lean ====
section
/-! DEFINITION. Binary floating-point arithmetic, as exact integers times powers of two with one rounding to nearest, ties to
even, for each operation (R79, R187). -/

namespace Sys2Proof.Machine

/-- The number m × 2^e. -/
structure Dy where
  m : Int
  e : Int
deriving DecidableEq, Repr

/-- Bits of a magnitude. -/
def bitLen (n : Nat) : Nat := if n = 0 then 0 else Nat.log2 n + 1

/-- Round num/den × 2^x to `p` bits with exponent at least `emin`, ties to even. -/
def rnd (p : Nat) (emin : Int) (num : Int) (den : Nat) (x : Int) : Dy :=
  if num = 0 then ⟨0, 0⟩
  else
    let e0 : Int := (bitLen num.natAbs : Int) - (bitLen den : Int) - (p : Int)
    let at_ (e : Int) : Int :=
      if 0 ≤ e then rneDiv num (den * 2 ^ e.toNat) else rneDiv (num * 2 ^ (-e).toNat) den
    let lo : Int := emin - x
    let q := at_ e0
    let e := max lo (if q.natAbs < 2 ^ p then e0 else e0 + 1)
    ⟨at_ e, e + x⟩

/-- A whole number. -/
def Dy.ofInt (n : Int) : Dy := ⟨n, 0⟩
/-- Exact sum. -/
def Dy.add (a b : Dy) : Dy :=
  let e := min a.e b.e
  ⟨a.m * 2 ^ (a.e - e).toNat + b.m * 2 ^ (b.e - e).toNat, e⟩
/-- Negation. -/
def Dy.neg (a : Dy) : Dy := ⟨-a.m, a.e⟩
/-- Exact product. -/
def Dy.mul (a b : Dy) : Dy := ⟨a.m * b.m, a.e + b.e⟩
/-- Order by value. -/
def Dy.le (a b : Dy) : Bool := decide ((a.add b.neg).m ≤ 0)
/-- Strict order by value. -/
def Dy.lt (a b : Dy) : Bool := decide ((a.add b.neg).m < 0)
/-- Magnitude. -/
def Dy.abs (a : Dy) : Dy := ⟨a.m.natAbs, a.e⟩

/-- Round to FP64. -/
def f64 (a : Dy) : Dy := rnd 53 (-1074) a.m 1 a.e
/-- FP64 sum. -/
def f64Add (a b : Dy) : Dy := f64 (a.add b)
/-- FP64 difference. -/
def f64Sub (a b : Dy) : Dy := f64 (a.add b.neg)
/-- FP64 product. -/
def f64Mul (a b : Dy) : Dy := f64 (a.mul b)
/-- FP64 quotient; a divisor of 0 gives 0, which no caller asks for. -/
def f64Div (a b : Dy) : Dy :=
  if b.m = 0 then ⟨0, 0⟩
  else rnd 53 (-1074) (if b.m < 0 then -a.m else a.m) b.m.natAbs (a.e - b.e)

/-- Whole part of a square root, bit by bit from bit `k`. -/
def isqrtAux (n : Nat) : Nat → Nat → Nat
  | 0, r => r
  | k + 1, r => isqrtAux n k (if (r + 2 ^ k) * (r + 2 ^ k) ≤ n then r + 2 ^ k else r)

/-- Whole part of a square root. -/
def isqrt (n : Nat) : Nat := isqrtAux n (bitLen n / 2 + 1) 0

/-- FP64 square root; a negative argument gives 0, which no caller asks for. -/
def f64Sqrt (a : Dy) : Dy :=
  if a.m ≤ 0 then ⟨0, 0⟩
  else
    let k : Int := 120 + (a.e % 2)
    let n := a.m.toNat * 2 ^ k.toNat
    let r := isqrt n
    let odd : Int := if r * r = n then 0 else 1
    rnd 53 (-1074) (2 * (r : Int) + odd) 1 ((a.e - k) / 2 - 1)

/-- FP64 sum of a list in order from 0. -/
def f64Sum (l : List Dy) : Dy := l.foldl f64Add ⟨0, 0⟩

/-- Nearest whole number, ties to even. -/
def Dy.rne (a : Dy) : Int := if 0 ≤ a.e then a.m * 2 ^ a.e.toNat else rneDiv a.m (2 ^ (-a.e).toNat)

/-- A decimal fraction n ÷ d as an FP64 constant. -/
def f64Of (n : Int) (d : Nat) : Dy := rnd 53 (-1074) n d 0

end Sys2Proof.Machine
end

