-- ==== Sys2Proof/Machine/Float.lean ====
section
/-! DEFINITION. The number formats (R72, R73), their decoding, narrowing with its flags (R78, R80) and FP32 arithmetic (R79). -/

namespace Sys2Proof.Machine

/-- A floating-point value: NaN, an infinity, or a finite number with its sign. -/
inductive Fp where
  | nan
  | inf (neg : Bool)
  | fin (neg : Bool) (d : Dy)
deriving DecidableEq, Repr

/-- A float format: exponent bits, mantissa bits, and whether it has infinities and NaN (0 none, 1 NaN at all ones alone,
2 as IEEE 754). -/
structure FFmt where
  eb : Nat
  mb : Nat
  special : Nat
deriving DecidableEq, Repr

/-- E2M1. -/
def fE2M1 : FFmt := ⟨2, 1, 0⟩
/-- E3M2. -/
def fE3M2 : FFmt := ⟨3, 2, 0⟩
/-- E4M3. -/
def fE4M3 : FFmt := ⟨4, 3, 1⟩
/-- E5M2. -/
def fE5M2 : FFmt := ⟨5, 2, 2⟩
/-- BF16. -/
def fBF16 : FFmt := ⟨8, 7, 2⟩
/-- FP16. -/
def fFP16 : FFmt := ⟨5, 10, 2⟩
/-- FP32. -/
def fFP32 : FFmt := ⟨8, 23, 2⟩

/-- Exponent bias. -/
def FFmt.bias (f : FFmt) : Nat := 2 ^ (f.eb - 1) - 1
/-- Exponent of the least subnormal. -/
def FFmt.emin (f : FFmt) : Int := 1 - (f.bias : Int) - (f.mb : Int)
/-- Width in bits. -/
def FFmt.width (f : FFmt) : Nat := 1 + f.eb + f.mb

/-- The largest finite magnitude's encoding, without its sign. -/
def FFmt.maxBits (f : FFmt) : Nat :=
  if f.special = 2 then (2 ^ f.eb - 1) * 2 ^ f.mb - 1
  else if f.special = 1 then 2 ^ (f.eb + f.mb) - 2
  else 2 ^ (f.eb + f.mb) - 1

/-- The value of a magnitude's encoding. -/
def FFmt.mag (f : FFmt) (b : Nat) : Dy :=
  let ex := b / 2 ^ f.mb
  let m := b % 2 ^ f.mb
  if ex = 0 then ⟨(m : Int), f.emin⟩ else ⟨(2 ^ f.mb + m : Nat), f.emin + (ex : Int) - 1⟩

/-- Decode an encoding. -/
def FFmt.decode (f : FFmt) (w : Nat) : Fp :=
  let neg := decide (w / 2 ^ (f.eb + f.mb) % 2 = 1)
  let b := w % 2 ^ (f.eb + f.mb)
  if f.special = 2 ∧ b / 2 ^ f.mb = 2 ^ f.eb - 1 then (if b % 2 ^ f.mb = 0 then .inf neg else .nan)
  else if f.special = 1 ∧ b = 2 ^ (f.eb + f.mb) - 1 then .nan
  else
    let d := f.mag b
    .fin neg (if neg then d.neg else d)

/-- Encode a magnitude that the format holds exactly. -/
def FFmt.encMag (f : FFmt) (d : Dy) : Nat :=
  let m := d.m.natAbs
  let k := bitLen m
  if m = 0 then 0
  else
    let top : Int := d.e + (k : Int) - 1
    if top < 1 - (f.bias : Int) then (if f.emin ≤ d.e then m * 2 ^ (d.e - f.emin).toNat else m / 2 ^ (f.emin - d.e).toNat)
    else
      let q := if k ≤ f.mb + 1 then m * 2 ^ (f.mb + 1 - k) else m / 2 ^ (k - f.mb - 1)
      (top + (f.bias : Int)).toNat * 2 ^ f.mb + q - 2 ^ f.mb

/-- The flags an operation raises in its request's ledger (R78, R80). -/
structure FFlags where
  range : Bool
  nonfin : Bool
deriving DecidableEq, Repr

/-- No flag. -/
def FFlags.none : FFlags := ⟨false, false⟩
/-- Both operations' flags. -/
def FFlags.or (a b : FFlags) : FFlags := ⟨a.range || b.range, a.nonfin || b.nonfin⟩

/-- The sign bit of a format. -/
def FFmt.sign (f : FFmt) (neg : Bool) : Nat := if neg then 2 ^ (f.eb + f.mb) else 0

/-- Narrow a value to a format (R78, R80): the encoding and the flags. -/
def FFmt.narrow (f : FFmt) (x : Fp) : Nat × FFlags :=
  match x with
  | .fin neg d =>
    let r := (rnd (f.mb + 1) f.emin d.m 1 d.e).abs
    if (f.mag f.maxBits).lt r then (f.sign neg + f.maxBits, ⟨true, false⟩) else (f.sign neg + f.encMag r, FFlags.none)
  | .inf neg =>
    if f.special = 2 ∧ f ≠ fE5M2 then (f.sign neg + (2 ^ f.eb - 1) * 2 ^ f.mb, FFlags.none)
    else (f.sign neg + f.maxBits, ⟨false, true⟩)
  | .nan =>
    if f.special = 0 then (0, ⟨false, true⟩)
    else if f = fE4M3 ∨ f = fE5M2 then (0x7F, FFlags.none)
    else ((2 ^ f.eb - 1) * 2 ^ f.mb + 2 ^ (f.mb - 1), FFlags.none)

/-- Narrow a value to a signed integer of `n` bits (R78, R80). -/
def narrowInt (n : Nat) (x : Fp) : Int × FFlags :=
  let hi : Int := 2 ^ (n - 1) - 1
  let lo : Int := Int.neg (2 ^ (n - 1))
  match x with
  | .fin _ d =>
    let r := d.rne
    (clampI lo hi r, ⟨decide (r < lo ∨ hi < r), false⟩)
  | .inf neg => (if neg then lo else hi, ⟨false, true⟩)
  | .nan => (0, ⟨false, true⟩)

/-- The value of an FP32 word. -/
def fp (w : W32) : Fp := fFP32.decode w.toNat
/-- Round a value to FP32. -/
def toFp (x : Fp) : W32 × FFlags :=
  let r := fFP32.narrow x
  (BitVec.ofNat 32 r.1, r.2)

/-- Whether a value is negative, as its sign bit says. -/
def Fp.neg (x : Fp) : Bool := match x with | .nan => false | .inf n => n | .fin n _ => n

/-- The negated value. -/
def Fp.negate (x : Fp) : Fp := match x with | .nan => .nan | .inf n => .inf (!n) | .fin n d => .fin (!n) d.neg

/-- Exact sum; two zeros of unlike sign, or a sum that cancels, give +0 (IEEE 754). -/
def Fp.add (a b : Fp) : Fp :=
  match a, b with
  | .nan, _ => .nan
  | _, .nan => .nan
  | .inf x, .inf y => if x = y then .inf x else .nan
  | .inf x, _ => .inf x
  | _, .inf y => .inf y
  | .fin x c, .fin y d =>
    let r := c.add d
    .fin (if r.m = 0 then (if c.m = 0 ∧ d.m = 0 then x && y else false) else decide (r.m < 0)) r

/-- Exact product. -/
def Fp.mul (a b : Fp) : Fp :=
  let n := xor a.neg b.neg
  match a, b with
  | .nan, _ => .nan
  | _, .nan => .nan
  | .inf _, .fin _ d => if d.m = 0 then .nan else .inf n
  | .fin _ d, .inf _ => if d.m = 0 then .nan else .inf n
  | .inf _, .inf _ => .inf n
  | .fin _ c, .fin _ d => .fin n (c.mul d)

/-- FP32 sum (R79). -/
def fadd (a b : W32) : W32 × FFlags := toFp ((fp a).add (fp b))
/-- FP32 difference. -/
def fsub (a b : W32) : W32 × FFlags := toFp ((fp a).add (fp b).negate)
/-- FP32 product. -/
def fmul (a b : W32) : W32 × FFlags := toFp ((fp a).mul (fp b))
/-- FP32 fused multiply and add, one rounding. -/
def ffma (a b c : W32) : W32 × FFlags := toFp (((fp a).mul (fp b)).add (fp c))

/-- The word is a NaN. -/
def isNan (w : W32) : Bool := fp w == .nan
/-- The word is an infinity. -/
def isInf (w : W32) : Bool := match fp w with | .inf _ => true | _ => false

/-- A strictly below B as numbers; false with a NaN. -/
def flt (a b : W32) : Bool :=
  match fp a, fp b with
  | .nan, _ => false
  | _, .nan => false
  | .inf x, .inf y => x && !y
  | .inf x, .fin _ _ => x
  | .fin _ _, .inf y => !y
  | .fin _ c, .fin _ d => c.lt d

/-- A equal to B as numbers; false with a NaN. -/
def feq (a b : W32) : Bool := !isNan a && !isNan b && !flt a b && !flt b a

/-- A whole number as FP32. -/
def fpOfInt (n : Int) : W32 := (toFp (.fin (decide (n < 0)) ⟨n, 0⟩)).1

/-- `n` × 2^`e` as FP32. -/
def fpScaled (n e : Int) : W32 × FFlags := toFp (.fin (decide (n < 0)) ⟨n, e⟩)

end Sys2Proof.Machine
end

