-- ==== Sys2Proof/Machine/Formats.lean ====
section
/-! DEFINITION. The fifteen formats on bytes (R72 to R77), tensors and the blocked layout (R81 to R83), and S40 groups
(R97, R98, R100). -/

namespace Sys2Proof.Machine

/-! ### Format codes -/

/-- The float format of a code (R72). -/
def ffmtOf (c : Nat) : Option FFmt :=
  if c = 0x5 then some fE2M1 else if c = 0x6 then some fE3M2 else if c = 0x7 then some fE4M3 else if c = 0x8 then some fE5M2
  else if c = 0x9 then some fBF16 else if c = 0xA then some fFP16 else if c = 0xB then some fFP32 else none

/-- Width in bits of a format's element (R72); I24 as a value, and I3 in its 4-bit container. -/
def fmtWidth (c : Nat) : Nat :=
  if c = 0x0 then 1 else if c = 0x1 then 2 else if c = 0x2 ∨ c = 0x3 ∨ c = 0x5 then 4 else if c = 0x6 then 6
  else if c = 0x4 ∨ c = 0x7 ∨ c = 0x8 then 8 else if c = 0x9 ∨ c = 0xA then 16 else if c = 0xC then 24
  else if c = 0xE then 40 else 32

/-- Width in bits of a format's element in memory: I24 lies in a 32-bit container (R74). -/
def memWidth (c : Nat) : Nat := if c = 0xC then 32 else fmtWidth c

/-- The value of a two's-complement field of `n` bits. -/
def intBits (n v : Nat) : Int := (BitVec.ofNat n v).toInt

/-- The value of an element in a format (R74, R75). -/
def fmtDecode (c : Nat) (v : Nat) : Fp :=
  match ffmtOf c with
  | some f => f.decode v
  | none =>
    let x := intBits (fmtWidth c) v
    .fin (decide (x < 0)) ⟨x, 0⟩

/-- A value narrowed to a format (R78, R80): the element and its flags. -/
def fmtNarrow (c : Nat) (x : Fp) : Nat × FFlags :=
  match ffmtOf c with
  | some f => f.narrow x
  | none =>
    let n := fmtWidth c
    let r := narrowInt n x
    ((BitVec.ofInt n r.1).toNat, r.2)

/-- An element as its memory container holds it: I24 sign-extended to 32 bits (R74). -/
def container (c v : Nat) : Nat := if c = 0xC then (BitVec.ofInt 32 (intBits 24 v)).toNat else v

/-! ### Packing (R76) -/

/-- Bits `lo` to `lo + n - 1` of a little-endian byte string. -/
def bitsAt (l : List Byte) (lo n : Nat) : Nat :=
  ofLe ((l.drop (lo / 8)).take (n / 8 + 2)) / 2 ^ (lo % 8) % 2 ^ n

/-- Element `i` of a packed tensor of `n`-bit elements: from bit 0 upward in element order. -/
def packedAt (n : Nat) (l : List Byte) (i : Nat) : Nat := bitsAt l (n * i) n

/-- Elements of `n` bits packed from bit 0 upward, into as many whole bytes as they take. -/
def packBytes (n : Nat) (es : List Nat) : List Byte :=
  leBytes ((n * es.length + 7) / 8) ((withPos 0 es).foldl (fun x p => x + p.2 % 2 ^ n * 2 ^ (n * p.1)) 0)

/-! ### Weights (R25, R74, R77) -/

/-- The weight a stored code of format `c` means: W1, W2T, I3 in its container, I4. -/
def weightOf (c v : Nat) : Int :=
  if c = 0 then (if v = 1 then 1 else -1)
  else if c = 1 then (if v = 1 then 1 else if v = 3 then -1 else 0)
  else intBits 4 v

/-- A stored code is valid (R77): no W2T code 10, and an I3 container whose bit 3 equals bit 2. -/
def weightValid (c v : Nat) : Bool :=
  if c = 1 then v != 2 else if c = 2 then decide (v / 8 % 2 = v / 4 % 2) else true

/-- Bytes of one row of 512 weights (R431). -/
def rowBytes (c : Nat) : Nat := 64 * fmtWidth c

/-! ### The blocked layout (R81 to R83) -/

/-- Formats that may be blocked (R72). -/
def blockable (c : Nat) : Bool := decide (3 ≤ c) && decide (c ≤ 6)

/-- QMAX of a blocked format (R82). -/
def qmaxOf (c : Nat) : Nat := if c = 0x3 then 7 else if c = 0x4 then 127 else if c = 0x5 then 6 else 28

/-- A finite magnitude; none for a NaN or an infinity. -/
def Fp.finite (x : Fp) : Option Dy :=
  match x with
  | .fin _ d => some d
  | _ => none

/-- The larger of two magnitudes. -/
def dyMax (a b : Dy) : Dy := if a.lt b.abs then b.abs else a

/-- The largest magnitude of a list; 0 for none. -/
def maxMag (l : List Dy) : Dy := l.foldl dyMax ⟨0, 0⟩

/-- The smallest integer k with m ≤ q × 2^k, for m and q above 0. -/
def leastK (q : Nat) (m : Dy) : Int :=
  let k := (bitLen m.m.natAbs : Int) + m.e - (bitLen q : Int)
  if m.abs.le ⟨q, k⟩ then k else k + 1

/-- An exponent limited to −127 to +127; a limit that binds sets RANGE (R82, R89, R91, R94). -/
def limitK (k : Int) : Int × Bool := (clampI (-127) 127 k, decide (k < -127 ∨ 127 < k))

/-- v ÷ 2^k, exactly. -/
def Fp.shift (x : Fp) (k : Int) : Fp :=
  match x with
  | .fin n d => .fin n ⟨d.m, d.e - k⟩
  | y => y

/-- One element of a block narrowed at scale 2^k (R82): a NaN becomes 0, an infinity ±QMAX. -/
def blockElem (c : Nat) (k : Int) (x : Fp) : Nat × FFlags :=
  match x with
  | .nan => (0, ⟨false, true⟩)
  | .inf n => ((fmtNarrow c (.fin n ⟨if n then -(qmaxOf c : Int) else (qmaxOf c : Int), 0⟩)).1, ⟨false, true⟩)
  | y => fmtNarrow c (y.shift k)

/-- One block of up to 32 values narrowed (R82): its scale byte, its elements and the flags. -/
def blockNarrow (c : Nat) (l : List Fp) : Nat × List Nat × FFlags :=
  let m := maxMag (l.filterMap Fp.finite)
  let k := if m.m = 0 then (0, false) else limitK (leastK (qmaxOf c) m)
  let es := l.map (blockElem c k.1)
  ((k.1 + 127).toNat, es.map (fun e => e.1), es.foldl (fun f e => f.or e.2) ⟨k.2, false⟩)

/-- One block's values (R81): a scale byte of 0xFF gives zeros and sets NONFINITE. -/
def blockDecode (c scale : Nat) (es : List Nat) : List Fp × Bool :=
  if scale = 0xFF then (es.map (fun _ => .fin false ⟨0, 0⟩), true)
  else (es.map (fun e => (fmtDecode c e).shift (127 - (scale : Int))), false)

/-- Consecutive pieces of `n` elements. -/
def pieces {α : Type} (n : Nat) (l : List α) : List (List α) :=
  (List.range ((l.length + n - 1) / n)).map (fun i => (l.drop (n * i)).take n)

/-- Bytes up to the next 256-byte boundary are 0x00 (R83). -/
def pad256 (l : List Byte) : List Byte := l ++ List.replicate ((256 - l.length % 256) % 256) 0

/-- Bytes of a tensor's blocks (R76, R83): the elements of the last block of 32 are there in a blocked tensor. -/
def tensorSize (c : Nat) (blocked : Bool) (n : Nat) : Nat :=
  let up (b : Nat) : Nat := (b + 255) / 256 * 256
  if blocked then up (fmtWidth c * ((n + 31) / 32 * 32) / 8) + up ((n + 31) / 32)
  else up ((memWidth c * n + 7) / 8)

/-- A tensor narrowed into a format as bytes (R82, R83), with the flags; elements beyond it in its last block are zero. -/
def tensorBytes (c : Nat) (blocked : Bool) (l : List Fp) : List Byte × FFlags :=
  if blocked then
    let bs := (pieces 32 l).map (blockNarrow c)
    let es := bs.flatMap (fun b => b.2.1 ++ List.replicate (32 - b.2.1.length) 0)
    (pad256 (packBytes (fmtWidth c) es) ++ pad256 (bs.map (fun b => BitVec.ofNat 8 b.1)),
      bs.foldl (fun f b => f.or b.2.2) FFlags.none)
  else
    let es := l.map (fmtNarrow c)
    (pad256 (packBytes (memWidth c) (es.map (fun e => container c e.1))), es.foldl (fun f e => f.or e.2) FFlags.none)

/-- The exact values of a tensor of `n` elements, and its blocks of scale 0xFF, which set NONFINITE (R81, R83). -/
def tensorVals (c : Nat) (blocked : Bool) (n : Nat) (l : List Byte) : List Fp × List Nat :=
  let es := (List.range n).map (packedAt (memWidth c) l)
  if blocked then
    let base := (fmtWidth c * ((n + 31) / 32 * 32) / 8 + 255) / 256 * 256
    let bs := (withPos 0 (pieces 32 es)).map (fun p => blockDecode c (l.getD (base + p.1) 0).toNat p.2)
    (bs.flatMap (fun b => b.1), (withPos 0 bs).filterMap (fun b => if b.2.2 then some b.1 else none))
  else (es.map (fmtDecode c), [])

/-! ### S40 (R97, R98, R100) -/

/-- The 321 bytes of a group: the exponent byte and 64 mantissas of 5 bytes, little-endian (R97). -/
def s40Bytes (g : S40Group) : List Byte :=
  BitVec.ofInt 8 g.exp :: (List.range 64).flatMap (fun j => leBytes 5 (BitVec.ofInt 40 (g.mant.getD j 0)).toNat)

/-- The group its 321 bytes hold. -/
def s40OfBytes (l : List Byte) : S40Group :=
  { exp := (l.getD 0 0).toInt,
    mant := (List.range 64).map (fun j => intBits 40 (ofLe ((l.drop (1 + 5 * j)).take 5))) }

/-- The mantissa of an FP32 partial at a reduction exponent (R98): rounded, clamped to 32 bits. -/
def s40Mant (e : Int) (y : W32) : Int × FFlags := narrowInt 32 ((fp y).shift e)

/-- A partial's columns as groups with the metadata's exponents; mantissas beyond its end are zero (R97, R98). -/
def s40Groups (exps : List Int) (n : Nat) (z : List W32) : List S40Group × FFlags :=
  let gs := (List.range n).map (fun i =>
    let e := exps.getD i 0
    let ms := ((z.drop (64 * i)).take 64).map (s40Mant e)
    ({ exp := e, mant := ms.map (fun m => m.1) ++ List.replicate (64 - ms.length) 0 : S40Group },
      ms.foldl (fun f m => f.or m.2) FFlags.none))
  (gs.map (fun g => g.1), gs.foldl (fun f g => f.or g.2) FFlags.none)

/-- The final consumer's one conversion to FP32 (R100). -/
def s40Floats (gs : List S40Group) : List W32 × FFlags :=
  let vs := gs.flatMap (fun g => g.mant.map (fun m => fpScaled m g.exp))
  (vs.map (fun v => v.1), vs.foldl (fun f v => f.or v.2) FFlags.none)

end Sys2Proof.Machine
end

