-- ==== Sys2Proof/Config.lean ====
section
/-! DEFINITION. The free values: results and choices the manual leaves open, as constants without a body, so that no
proof can rest on a value of theirs. -/

namespace Sys2Proof

/-- The special functions of R130, by operation 0 to 7 (EXP, EXP2, LOG2, RCP, RSQRT, TANH, SIGMOID, SILU): the manual
refers to the vendor's published algorithms (log 6). -/
opaque Config.special : Nat → W32 → W32

/-- SHA-384 of a byte string (log 7). -/
opaque Config.sha384 : List Byte → Digest

/-- The subject digest of the two Weangapor root public keys in the boot ROM (R455, log 149). -/
opaque Config.rootSubject : Digest

/-- A random number the keeper's source draws that no command carries (R464): keyed by a running count (log 5). -/
opaque Config.random : Nat → W64

/-- The result of an operation the manual names without giving its meaning, by class, operation and operands
(log 8). -/
opaque Config.unstated : Nat → Nat → W64 → W64 → W64

/-- The word an OUT buffer holds where the manual gives the content but not its layout (log 9). -/
opaque Config.outWord : Nat → Nat → W32

end Sys2Proof
end

