-- ==== Sys2Proof/Machine/ArrayParts.lean ====
section
/-! DEFINITION. The records State holds for the array side: wicks, lanterns, trim, checks, the lamplighter, the
governor and the monitor converters. -/

namespace Sys2Proof.Machine

/-- A 64-bit counter register pair with the latch its _LO read fills (R534). -/
structure Ctr64 where
  val : W64
  latch : W32
deriving DecidableEq, Repr

/-! ### Wicks -/

/-- Wick states, in code order (R39). -/
inductive WickSt where
  | unowned | writing | adopting | ready | service | spare | quarantined | failed
deriving DecidableEq, Repr

/-- Why firmware writes or trims a wick: what follows its write and its full trim. -/
inductive Job where
  | none
  /-- First load, rewrite or adoption of an in-service lantern (R440, R443). -/
  | load
  /-- A rotation cycle's spare for logical wick `lw` (R195). -/
  | rotation (lw : LWick)
  /-- The single test of a quarantined wick (R477). -/
  | quarTest
  /-- Part of a remap to a reserve lantern (R480). -/
  | remap
  /-- Part of a lantern test (R479). -/
  | lanTest
  /-- A step of a rewrite chain through the spare, for logical wick `lw` of the new epoch (R446). -/
  | wave (lw : LWick)
deriving DecidableEq, Repr

/-- How far a wick's job has come. -/
inductive Stage where
  | toWrite | writing | toTrim | done
deriving DecidableEq, Repr

/-- One fire unit (R154): a row group of one pass of one wick. -/
structure Fire where
  lpass : Bool
  lo : Nat
  hi : Nat
  gidx : Nat
  gcnt : Nat
  e : Nat
  cost : Nat
  /-- The last group of its step that fires. -/
  last : Bool
deriving DecidableEq, Repr

/-- One physical wick. -/
structure Wick where
  /-- `WCK_CFG` (R62). -/
  mode : BitVec 2
  wfmt : BitVec 4
  /-- `WCK_STATE` (R63). -/
  st : WickSt
  ctx : Option CtxI
  lwick : Option LWick
  /-- `WCK_COLMAP0` to `WCK_COLMAP3` (R64). -/
  cm0 : W32
  cm1 : W32
  cm2 : W32
  cm3 : W32
  /-- `WCK_SPLIT` (R65). -/
  force : BitVec 2
  l1max : BitVec 13
  /-- `WCK_STAT` bits 7 to 0 (R66). -/
  stat : Byte
  /-- Counters (R67). -/
  steps : Ctr64
  split4 : W16
  split2 : W16
  sats : W32
  skips : W32
  /-- `WCK_PGM`, non-volatile (R68). -/
  pgm : BitVec 24
  /-- `WCK_WRCTL` and `WCK_WRSTAT` (R69). -/
  maxp : BitVec 4
  wrResult : BitVec 2
  failcol : BitVec 4
  wrBusy : Bool
  wrRows : BitVec 12
  /-- The write in progress is a repair pass (R45), and the flicker it began in (R43). -/
  repair : Bool
  wrFrom : Nat
  /-- Levels the write in progress gives the cells (R43): keyed as `cells`. -/
  wrCells : Tab Nat
  /-- `WCK_RBSTAT` (R70). -/
  rbResult : BitVec 2
  marg : BitVec 12
  rbBusy : Bool
  rbRows : BitVec 12
  /-- The readback under way: probe rows launched, levels resolved (keyed row × 512 + logical column, 8 unlisted) and marginal
  cells (R48, R51). -/
  rbLaunched : Nat
  rbLev : Tab Nat
  rbMarg : Nat
  /-- `WCK_LOOKUP` (R71). -/
  keybits : BitVec 11
  matchT : BitVec 9
  /-- The bank of the next step: false A, true B (R28). -/
  bankB : Bool
  /-- The logical wick whose weights the cells hold or the write stream carries. -/
  src : Option (LLan × LWick)
  /-- The weight epoch of those weights. -/
  srcEpoch : W32
  job : Job
  stage : Stage
  /-- The logical wick an adoption's readback matched (R443). -/
  hit : Option LWick
  /-- Levels, keyed row × 520 + physical column; unlisted cells are at level 8 (R25). -/
  cells : Tab Nat
  /-- The check store (R216): keyed row × 4 + group. -/
  rs : Tab Int
  rj : Tab Int
  /-- Check-store entries with an uncorrectable error. -/
  rsBad : List Nat
  /-- Trim codes (R182, R183): keyed (kind × 5 + set) × 520 + column; kind 0 offset, 1 gain, 2 drive. -/
  trim : Tab Int
  /-- Sums of live changes since the last full trim (R189): keyed kind × 520 + column. -/
  live : Tab Int
  /-- Coefficients as the last full trim left them (R472). -/
  full : Tab Int
  /-- Marked for early full trim (R189). -/
  early : Bool
  /-- Full-trim attempts that failed window 2 in succession (R245), and whether the job at hand has had one (R194). -/
  trimFails : Nat
  trimTried : Bool
  /-- A probe step of the full trim failed its row-sum check (R222). -/
  probeFail : Bool
  /-- The trim probe step under way (R190, R191): where its draws begin, and its units still to launch. -/
  tpSeed : Nat
  tpUnits : List Fire
  /-- Window sums of R186: per physical column `S1`, `S2`; `SE`; 12 × `SQ`; steps; every step from a rotated layer. -/
  s1 : Tab Int
  s2 : Tab Int
  /-- b of the step whose groups are coming in, by physical column (R186). -/
  winB : Tab Int
  se : Nat
  sq12 : Nat
  winSteps : Nat
  winRot : Bool
  /-- Per column group: sums of the plain and index-weighted residuals and of their squares in window 2 (R192). -/
  resid : List (Int × Nat × Int × Nat)
  /-- `CHK_BANDw_g` (R250): plain and index-weighted, groups 0 to 3. -/
  bandP : List (BitVec 12)
  bandI : List W16
  /-- `CHK_WAUDw` (R250). -/
  waud : Ctr64
  /-- Strikes of the device record (R42, R477). -/
  strike : Bool
deriving DecidableEq, Repr

/-! ### Lanterns -/

/-- Lantern states, in code order (R117). -/
inductive LanSt where
  | free | held | service | quarantined | retired
deriving DecidableEq, Repr

/-- Input slot states, in code order (R121). -/
inductive SlotSt where
  | free | filling | ready | firing | held | failed
deriving DecidableEq, Repr

/-- The counts of one quarter of a slice in one pass (R104). -/
structure QCount where
  nz : Nat
  l1 : Nat
  sum : Int
deriving DecidableEq, Repr

/-- One input slot of a lantern buffer (R102, R103). -/
structure Slot where
  st : SlotSt
  vec : Nat
  /-- Slices the lantern holds of the vector, and the vector's slice that is its first (R109). -/
  slices : Nat
  base : Nat
  twoPass : Bool
  /-- The lantern's own fallback slices with their exponents (R91). -/
  fallback : List (Nat × Int)
  /-- The vector exponent, and over all slices of the vector its fallback exponents and its outliers with the FP32 bits of u
  (R90, R139). -/
  k : Int
  fbAll : List (Nat × Int)
  outl : List (Nat × W32)
  /-- Outliers extracted from the lantern's own slices. -/
  outliers : Nat
  /-- The vector was rotated; its quantization raised RANGE, and NONFINITE in these slices (R78, R80). -/
  rot : Bool
  range : Bool
  nonfin : List Nat
  /-- Element blocks: keyed plane × 64 + block index. -/
  blocks : Tab (List Int)
  /-- Counts of R104: keyed plane × 64 + slice × 4 + quarter. -/
  counts : Tab QCount
  /-- The order in which it became READY (R103). -/
  order : Nat
  /-- Blocks that failed their first check and wait for the second copy, and how many have come right (R225). -/
  failed : List Nat
  retried : Nat
deriving DecidableEq, Repr

/-- How one fired group's values stand. -/
inductive GrpSt where
  | ok | sat | rsFail (fails : List (Nat × Option Nat))
deriving DecidableEq, Repr

/-- One fired group's record in the reduction tree (R36, R107). -/
structure Grp where
  e : Nat
  gidx : Nat
  gcnt : Nat
  lo : Nat
  hi : Nat
  /-- Column values v_c, logical columns 0 to 511. -/
  vals : List Int
  /-- The values as fired, which an audit copies (R227, R248). -/
  fired : List Int
  st : GrpSt
deriving DecidableEq, Repr

/-- One wick's slice in one pass of one flare: its fired groups. -/
structure SliceAcc where
  flare : Nat
  lw : LWick
  pw : PWick
  slice : Nat
  lpass : Bool
  fallback : Bool
  groups : List Grp
deriving DecidableEq, Repr

/-- A lantern's integer sums of a flare, as its output area holds them (R102, R108): A per block column, and B of each of its
fallback slices in ascending order. -/
structure OutArea where
  a : List Int
  b : List (Nat × List Int)
deriving DecidableEq, Repr

/-- A row chain of a completed flare (R109, R110): its head and members in chain order, its place in the layer, what
quantization gave of the vector, the sums the head has added, and the members' partials still on their way. -/
structure ChainRun where
  head : Lan
  lls : List LLan
  layer : W16
  part : W16
  group : Nat
  q : Nat
  epoch : W32
  k : Int
  fbAll : List (Nat × Int)
  outl : List (Nat × W32)
  sigma : List W32
  a : List Int
  b : List (Nat × List Int)
  parts : List (Nat × OutArea)
  /-- Members whose partial failed its first check (R119, R225). -/
  fails : List Nat
deriving DecidableEq, Repr

/-- Column results of one row chain: layer, partition, column group, and z of its block columns (R110). -/
structure ActOut where
  layer : W16
  part : W16
  group : Nat
  z : List W32
deriving DecidableEq, Repr

/-- The operands an audited flare copied (R227): its slice values and the inputs they came from. -/
structure AuditCopy where
  flare : Nat
  flicker : Nat
  ctx : CtxI
  epoch : W32
  llan : LLan
  reqtag : W32
  inst : W32
  accs : List SliceAcc
  /-- Inputs per slice and pass: keyed slice × 2 + pass; nonzero rows with their values. -/
  inputs : Tab (List (Nat × Int))
  bytes : Nat
deriving DecidableEq, Repr

/-- A live trim change that waits for the flare boundary (R189): wick, kind, column, change. -/
structure TrimChange where
  pw : PWick
  kind : Nat
  col : Nat
  delta : Int
deriving DecidableEq, Repr

/-- The lantern's trim engine phases, in code order of `CAL_STATE.PHASE` (R212). -/
inductive CalPhase where
  | idle | live | win1 | win2 | drWait | drRun
deriving DecidableEq, Repr

/-- One physical lantern: `LNT_`, `CAL_` and `CHK_` registers and the buffer. -/
structure Lantern where
  /-- `LNT_CFG` (R121). -/
  shape : BitVec 3
  /-- `LNT_STATE`. -/
  llan : Option LLan
  ctx : Option CtxI
  drcal : Bool
  st : LanSt
  /-- `LNT_MAP0` to `LNT_MAP2`. -/
  map0 : BitVec 30
  map1 : BitVec 30
  map2 : BitVec 30
  /-- `LNT_SWAP`. -/
  arm : Bool
  swapLw : LWick
  spare : Option PWick
  /-- `LNT_ISSUE`: in force and waiting. -/
  ival : BitVec 2
  ivalNext : Option (BitVec 2)
  /-- `LNT_TEMP.TPOINT`. -/
  tpoint : BitVec 9
  slot0 : Slot
  slot1 : Slot
  orderNext : Nat
  /-- `LNT_STAT` bits 5 to 0. -/
  stat : BitVec 6
  flares : Ctr64
  zerovec : W32
  fbslices : W32
  outliers : W32
  refires : W32
  /-- The reduction tree's slice values of flares not yet complete. -/
  accs : List SliceAcc
  /-- The output area (R102): the sums of the last completed flare until firmware releases them, and bytes that engines have
  stored into the output, check and staging areas, by buffer offset. -/
  out : Option OutArea
  area : Tab (Option Byte)
  /-- A unit was launched since the last flare boundary (R535). -/
  launched : Bool
  /-- The flicker of the last launch. -/
  lastLaunch : Option Nat
  /-- Input moments (R111): keyed slice × 2,048 + row; steps per slice. -/
  x1 : Tab Int
  x2 : Tab Nat
  momSteps : Tab Nat
  /-- The weight epoch the lantern serves. -/
  epoch : W32
  /-- `CAL_CFG`, `CAL_DRCFG` (R212). -/
  rotEn : Bool
  liveEn : Bool
  rotper : BitVec 12
  drdt : BitVec 4
  drper : BitVec 10
  /-- `CAL_STATE`. -/
  phase : CalPhase
  calWick : Option PWick
  livewin : W16
  calStat : BitVec 7
  /-- Trim changes waiting for the flare boundary. -/
  trimNext : List TrimChange
  /-- Drive taps (R182): index 0 to 15 for −8 to −1 and +1 to +8. -/
  taps : Tab Int
  /-- Last rotation cycle's logical wick (R195). -/
  rotLast : Option LWick
  /-- DRCAL waits for the flare boundary (R197). -/
  drAtBoundary : Bool
  /-- TPOINT at the last drive-reference calibration and the local time it began (R197). -/
  drDue : Bool
  drTpoint : BitVec 9
  drBegan : Option Nat
  /-- A drive-reference calibration under way (R198): where its draws begin, steps launched and come back, and by tap the sums of
  step A and step B codes. -/
  drSeed : Nat
  drStep : Nat
  drGot : Nat
  drA : Tab Int
  drB : Tab Int
  /-- The temperature point of the full trim in progress (R210). -/
  trimTp : Nat
  /-- `CHK_CFG`, `CHK_STAT`, … (R250). -/
  audlog : BitVec 5
  chkStat : BitVec 6
  since : BitVec 17
  rsfails : W32
  audFails : W16
  audPasses : W16
  locValid : Bool
  locConf : Bool
  locMulti : Bool
  locWick : BitVec 5
  locCol : BitVec 9
  subst : W16
  /-- Substitution in force since the last flare boundary (R229). -/
  substNow : W16
  /-- Forced for audit at the next flare (CHK.AUDIT; R243 of the command table). -/
  markNext : Bool
  /-- Audits copied but not compared (R230), and marks still open (R262). -/
  audits : List AuditCopy
  openMarks : Nat
  /-- Suspect machine (R245, R246): suspect, flare counts of the last event and of the last resolved row-sum failures. -/
  suspect : Bool
  lastEvent : Option Nat
  stepBase : Option Nat
  rsFlares : List Nat
  lastAuditFail : Option Nat
  /-- It is to be remapped as soon as the command that said so ends (R231, R246). -/
  remapDue : Bool
  /-- Adopting (R443): whether some logical wick had to be rewritten. -/
  adopting : Option Bool
  /-- Exact hits of lookup flares: flare, logical wick, column (R56). -/
  hits : List (Nat × Nat × Nat)
  /-- Writes of the lantern's load or remap that have failed (R441). -/
  wrFails : Nat
  /-- A strike in the device record (R479). -/
  strike : Bool
  /-- Retired in the device record. -/
  retired : Bool
deriving DecidableEq, Repr

/-! ### The lamplighter -/

/-- A flare as FIRE queues it (R162). Class 0 interactive, 1 standard, 2 batch. -/
structure FlareReq where
  cls : Nat
  reqtag : W32
  inst : W32
  tindex : W32
  part : W16
  lans : List LLan
  vec : Nat
  daylight : Bool
  /-- The weight epoch it computes under (R21, R234); 0 stands for the one the lanterns serve. -/
  epoch : W32
  enq : Nat
  seq : Nat
  /-- The thread that submitted it (R127). -/
  lan : Lan
  thread : ThreadI
  /-- Marks kept from a discarded launch (R248). -/
  marks : List Lan
deriving DecidableEq, Repr

/-- The units of one wick of a flare still to launch. -/
structure WickPlan where
  ll : LLan
  lw : LWick
  lan : Lan
  pw : PWick
  slot : Bool
  slice : Nat
  fallback : Bool
  units : List Fire
  launched : Nat
deriving DecidableEq, Repr

/-- A flare from its selection to its completion. -/
structure FlareRun where
  id : Nat
  req : FlareReq
  /-- Its lanterns, logical with physical, and the slot that holds its vector. -/
  lans : List (LLan × Lan × Bool)
  plans : List WickPlan
  /-- In its launch phase (R155). -/
  launching : Bool
  selected : Nat
  first : Option Nat
  last : Option Nat
  /-- Steps launched whose codes are not valid yet. -/
  flying : Nat
  /-- Slices that wait for a digital recomputation. -/
  redo : Nat
  resolved : Nat
  checks : Nat
  clean : Bool
  hadFallback : Bool
  marks : List Lan
  temp : Nat
deriving DecidableEq, Repr

/-- A completed flare whose row chains are not all finished (R109, R119): what its position takes once they are. -/
structure FlareTail where
  id : Nat
  req : FlareReq
  clean : Bool
  resolved : Nat
  checks : Nat
  chains : List ChainRun
  outs : List ActOut
deriving DecidableEq, Repr

/-- What a step in flight is for. -/
inductive StepKind where
  | flare (id : Nat) (lw : LWick) (slice : Nat) (lpass fallback rot lookup : Bool)
  | probe
  | trim
  | drive (tap : Nat) (stepB : Bool)
deriving DecidableEq, Repr

/-- One step in flight (R28): its latched inputs and its ideal codes' parameters. -/
structure Flight where
  kind : StepKind
  lan : Lan
  pw : PWick
  x : List (Nat × Int)
  lo : Nat
  hi : Nat
  gidx : Nat
  gcnt : Nat
  e : Nat
  last : Bool
  bankB : Bool
  /-- Temperature point, trim codes and drive taps latched at cycle 0 (R184). -/
  tp : Nat
  trim : Tab Int
  taps : Tab Int
  launched : Nat
  /-- Discarded by a freeze: its codes are dropped (R58). -/
  dead : Bool
deriving DecidableEq, Repr

/-- A grant for the next flicker (R153). -/
inductive Grant where
  | unit (id : Nat) (ll : LLan) (lw : LWick)
  | probe (lan : Lan) (pw : PWick)
  | trim (lan : Lan) (pw : PWick)
  | drive (lan : Lan) (pw : PWick)
deriving DecidableEq, Repr

/-- One context's part of the lamplighter (R180) and of the governor's registers (R181). -/
structure LmpCtx where
  pause : Bool
  floorsel : W16
  floor : W16
  launches : W32
  queue : List FlareReq
  refire : List FlareReq
  runs : List FlareRun
  /-- Completed flares whose row chains await partials (R109). -/
  tails : List FlareTail
  carry : Nat
  seqNext : Nat
  /-- Flares completed in the window, and those of them with a fallback slice (R96). -/
  winFlares : Nat
  winFallback : Nat
  storm : Bool
  /-- `PWR_CTXWn` (R159). -/
  weight : BitVec 9
deriving DecidableEq, Repr

/-- The lamplighter (R180). -/
structure Lmp where
  en : Bool
  age : BitVec 14
  wideT : Byte
  stat : BitVec 5
  /-- `LMP_DIVS` as sampled at ACLK 0 of the flicker. -/
  divE : BitVec 2
  divW : BitVec 2
  flicker : Ctr64
  dipsTotal : W16
  dipsRecent : BitVec 5
  /-- Flickers of the dips of the last second (R174). -/
  dipTimes : List Nat
  /-- A freeze is in force; the flicker after which launches resume, once every supply is back. -/
  frozen : Bool
  recovered : Option Nat
  grants : List Grant
  flights : List Flight
  nextId : Nat
  /-- Random-audit marks deferred to the lantern's next flare (R230). -/
  deferred : List Lan
deriving DecidableEq, Repr

/-- The governor (R168 to R172, R181). -/
structure Pwr where
  limit : BitVec 10
  arr : BitVec 10
  vec : BitVec 10
  xbr : BitVec 10
  stk : BitVec 10
  ser : BitVec 10
  ctl : BitVec 10
  /-- Shares in force for the window. -/
  arrNow : Nat
  vecNow : Nat
  xbrNow : Nat
  stkNow : Nat
  serNow : Nat
  ctlNow : Nat
  /-- Cut level and epochs (`PWR_CUT`). -/
  level : BitVec 5
  epochs : W16
  /-- `PWR_THERM`. -/
  hot : BitVec 9
  set : Byte
  window : W32
  stat : BitVec 3
  /-- Package power over the last window, for sensor 65 (R510). -/
  meas : Nat
  /-- Vector duty of every engine: allowance minus 1 (R137), and CUT. -/
  duty : Byte
  cut : Bool
  /-- The first window has begun (R168). -/
  begun : Bool
  /-- SYS.POWER commands that wait for the window boundary (R393). -/
  cmds : List Desc
deriving DecidableEq, Repr

/-! ### The monitor unit -/

/-- One converter (R204). -/
structure MonCv where
  mode : Bool
  len : BitVec 5
  /-- A pass is in progress (RUN). -/
  run : Bool
  /-- LEN, MODE and entries in force for the pass. -/
  lenNow : Nat
  modeNow : Bool
  entry : Nat
  pass : Byte
  seq : List SeqEntry
  seqNow : List SeqEntry
  /-- Results: valid, restart, pass, code. -/
  res : List (Bool × Bool × Byte × BitVec 12)
  /-- The urgent conversion running, and those waiting; true the governor's (R206). -/
  urgent : Option (Bool × SeqEntry)
  waitGov : Option SeqEntry
  waitFw : Option SeqEntry
  /-- The current entry was aborted and restarted in this pass. -/
  restarted : Bool
deriving DecidableEq, Repr

/-- The monitor unit (R213). -/
structure Mon where
  stat : BitVec 3
  urgConv : BitVec 2
  urgGain : BitVec 2
  urgTs : BitVec 3
  urgInput : BitVec 6
  urgBusy : Bool
  resValid : Bool
  resCode : BitVec 12
  cvs : List MonCv
  /-- `MON_DTABd`: SLOPE and INTERCEPT. -/
  dtab : List (W16 × W16)
  /-- `MON_TEMPd`: HOTRUN and T8. -/
  temp : List (BitVec 5 × Int)
  /-- Latest code of each input (sensors of R510; supply points and MON_AIN). -/
  latest : Tab (BitVec 12)
deriving DecidableEq, Repr

/-- The die's check registers (R251) and the path journals (R241). -/
structure JEntry where
  flicker : Nat
  part : W16
  lans : List Lan
  reqtag : W32
  inst : W32
  tindex : W32
  final : Pkg
  /-- Lanterns of its partition, with their logical wicks, that no later clean audit has covered yet. -/
  open_ : List (Lan × LWick)
deriving DecidableEq, Repr

structure ChkDie where
  dstat : BitVec 5
  failed : W16
  retried : W16
  resolved : W32
  /-- Journals per context slot, oldest first. -/
  jrnl : Tab (List JEntry)
deriving DecidableEq, Repr

end Sys2Proof.Machine
end

