-- ==== Sys2Proof/Machine/LinkParts.lean ====
section
/-! DEFINITION. The records State holds for the fabric ports and links, the fabric traffic and the Garvy Link. -/

namespace Sys2Proof.Machine

/-! ### Fabric links -/

/-- Link states, in code order (R307). -/
inductive LinkSt where
  | disabled | training | align | linit | discover | up | quarantine | withheld | down
deriving DecidableEq, Repr

/-- What waits in an egress queue or rides in a DATA flit. -/
structure TxFlit where
  num : BitVec 12
  vl : BitVec 3
  keyph : Bool
  /-- The 64-bit flit counter of its GCM nonce (R314). -/
  ctr : W64
  items : List Item
deriving DecidableEq, Repr

/-- One fabric link (R296), indexed 0 to 31. -/
structure Link where
  st : LinkSt
  cause : BitVec 4
  /-- Egress queues of VL 0 to 7: keyed by VL. -/
  queues : Tab (List Item)
  /-- Bytes of the head item of each VL already sent. -/
  sentB : Tab Nat
  /-- Unacknowledged DATA flits, oldest first (R305). -/
  unacked : List TxFlit
  txSeq : BitVec 12
  rxSeq : BitVec 12
  /-- Flits received in order since the last acknowledgement sent; a NAK is owed. -/
  ackOwed : Nat
  nakOwed : Bool
  /-- When the last NAK went out, in ACLK cycles. -/
  lastNak : Option Nat
  /-- Flits of `unacked` still to resend in the replay under way. -/
  replay : List TxFlit
  replaysSame : Nat
  uncorrRun : Nat
  /-- Send credits per VL, and credits owed to the peer per VL. -/
  credits : Tab Nat
  owed : Tab Nat
  /-- Credits of flits whose messages for the die wait for the east NCLK (R320). -/
  heldCr : Tab Nat
  /-- Partly received items per VL are dropped at link down (R315); whole items arrive with their last flit. -/
  codewords : Nat
  keyCount : Nat
  keyphTx : Bool
  encrypted : Bool
  /-- DATA flits counted from LINIT in each direction, the extended SEQ of R314; the key of the last phase is still held. -/
  txCtr : W64
  rxCtr : W64
  oldKey : Bool
  /-- LINIT: the peer's parameters, own timestamp echoed, LINIT flits sent after it. -/
  peerLinit : Option Linit
  linitSent : Nat
  /-- Discovery (R310, R311): own nonce, peer HELLO, verdicts, attempts, key exchange done. -/
  nonce : BitVec 256
  hello : Option LinkMsg
  attested : Bool
  myVerdict : Option Bool
  peerVerdict : Option Bool
  attempts : Nat
  keyxSent : Bool
  keyDone : Bool
  /-- Round-robin counts of VL1, VL2, VL0, VL5 in the round (R330), and the next lane of the pass. -/
  wrr : List Nat
  wrrNext : Nat
  rtt : W16
  rev : Bool
  /-- Routes through the link are off until tables are loaded (R317). -/
  routesOff : Bool
  /-- Identity of the peer at the last entry to UP (R317). -/
  upId : Option Digest
deriving DecidableEq, Repr

/-- An entry of the neighbour table (R312). -/
structure Neighbour where
  iddigest : Digest
  pkg : Option Pkg
  plink : LinkI
  caps : Byte
  /-- `NSTATE`: 0 none, 1 discovering, 2 verified, 3 quarantined, 4 withheld. -/
  nst : BitVec 3
  changed : W64
deriving DecidableEq, Repr

/-- One fabric port (R321). -/
structure Port where
  en : Bool
  split : Bool
  encA : BitVec 2
  encB : BitVec 2
  ch : Bool
  twinA : Bool
  twinB : Bool
  txpre : BitVec 4
  polinv : Byte
  lock : Byte
  corr : W32
  uncorr : W32
  naks : W16
  replays : W16
  stat : BitVec 6
deriving DecidableEq, Repr

/-! ### Fabric traffic -/

/-- A routing table entry (R348). -/
structure Route where
  pv : Bool
  plink : LinkI
  av : Bool
  alink : LinkI
deriving DecidableEq, Repr

/-- A taper chain entry (R348). -/
structure Chain where
  v : Bool
  tail : Bool
  inlink : LinkI
  outlink : LinkI
  chain : W16
deriving DecidableEq, Repr

/-- A hold rule (R343). -/
structure HoldRule where
  cfid : W32
  ctx : W16
  below : Bool
  layLo : W16
  layHi : W16
  epoch : W32
  src : Pkg
  overflow : Bool
  /-- LIFT has come, or the 65 s have passed, and the rewrite runs (R446): who is answered. -/
  lifting : Option Pkg
  held : List (LinkI × Msg)
deriving DecidableEq, Repr

/-- A reduction record (R336). -/
structure RedRec where
  ctx : W16
  reqtag : W32
  inst : W32
  seg : Byte
  tindex : W32
  layer : W16
  part : W16
  epoch : W32
  adpgen : W32
  final : Pkg
  mask : BitVec 256
  group0 : W16
  /-- The partition's sums, group by group from its first (R97, R100). -/
  groups : List S40Group
  clean : Bool
  daylight : Bool
  resolved : Byte
  checks : W32
  /-- This package's own partial is in the sum (R336). -/
  own : Bool
  /-- Column results of this package's own flares of the position (R110). -/
  outs : List ActOut
  /-- A root's conversion to FP32, once every contribution is in (R100). -/
  done : Option (List W32)
  /-- A message has brought a contribution; until then its limits do not run. -/
  begun : Bool
  /-- Header fields that go on with the position: PROMPT, class, and the adapter slot of this package's own activation. -/
  prompt : Bool
  cls : BitVec 2
  adpslot : W16
deriving DecidableEq, Repr

/-- A retired request instance (R536). -/
structure Retired where
  ctx : W16
  num : W16
  inst : W32
  seg : Byte
deriving DecidableEq, Repr

/-- A request retired here whose settle notice is still owed to its final package (R243). -/
structure Settle where
  slot : Nat
  ctx : W16
  reqtag : W32
  inst : W32
  seg : Byte
  final : Pkg
deriving DecidableEq, Repr

/-- An open result stream (R341): requests for which ACT or S40 traffic passed here. -/
structure Stream where
  ctx : W16
  reqtag : W32
  inst : W32
  final : Pkg
  tindex : W32
  /-- Epoch and layers of the ACT and S40 messages received, for the counts of R343 and R446. -/
  layers : List (W32 × W16)
deriving DecidableEq, Repr

/-- The duplicate window of one source and VL (R324): highest number accepted, and the set of the last 256. -/
structure DupWin where
  src : Pkg
  vl : BitVec 3
  top : W32
  seen : BitVec 256
deriving DecidableEq, Repr

/-- The fabric traffic unit (R348). -/
structure Fab where
  ports : Tab Port
  links : Tab Link
  nbr : Tab Neighbour
  myidV : Bool
  myid : Pkg
  bank : Bool
  w0 : BitVec 4
  w1 : BitVec 4
  w2 : BitVec 4
  w5 : BitVec 4
  tstat : BitVec 7
  dups : W32
  noop : W16
  drops : W16
  chains : Tab Chain
  /-- Routing entries: keyed bank × 4,096 + destination. -/
  routes : Tab Route
  /-- Next message numbers: keyed destination × 8 + VL; chains at 32,768 + chain. -/
  msn : Tab W32
  wins : List DupWin
  /-- Messages held in egress for want of a next hop (R316). -/
  noRoute : List Msg
  /-- Retained ACT and S40 messages (R334). -/
  kept : List Msg
  rules : List HoldRule
  reds : List RedRec
  retired : List Retired
  streams : List Stream
  /-- Requests whose loss was already reported with CODE 2 (R338) or CODE 4 (R537). -/
  lossSent : List (W16 × W16 × W32)
  /-- Stored taper segments of a chain, newest last: chain, segment header, digest (R345). -/
  segs : List (W16 × TaperHdr × Digest)
  /-- Messages asked for again after a failed block (R333): source, INST, TINDEX, LAYER, PART. -/
  resent : List (Pkg × W32 × W32 × W16 × W16)
  /-- Messages that a receiving link has delivered, with their link, awaiting their own event (R302). -/
  inbox : List (LinkI × Item)
  /-- Messages a removed hold rule has released, in their order (R343). -/
  freed : List (LinkI × Msg)
  settles : List Settle
deriving DecidableEq, Repr

/-! ### Garvy Link -/

/-- Garvy Link states, in code order (R350). -/
inductive GSt where
  | disabled | detect | train | lock | init | active | recovery | withheld | down
deriving DecidableEq, Repr

/-- A DATA flit kept for replay (R357). -/
structure GTx where
  num : BitVec 12
  msgs : List (BitVec 3 × GMsg)
deriving DecidableEq, Repr

/-- Directory entry states (R368). -/
inductive DirSt where
  | s | x | r
deriving DecidableEq, Repr

/-- Why a block is recalled (R368): a device read, a device write, or a full set and a window entry that goes (R375). -/
inductive Recall where
  | read | write | evict
deriving DecidableEq, Repr

/-- A device write to memory: bytes at a place in the local view or the shared store, or an atomic on I32 words there
(R136): its operation, 0 ADD, 1 MIN, 2 MAX, 3 AND, 4 OR. -/
structure DevWrite where
  place : Nat
  op : Option Nat
  data : List Byte
  /-- The request whose thread stores, for the flags of its atomic (R78). -/
  req : Option (CtxI × W32)
deriving DecidableEq, Repr

/-- A home directory entry (R368): its allocation order, its recall with the snoop's tag, the companion messages held and
the device writes that wait until the recall ends. -/
structure DirEnt where
  st : DirSt
  order : Nat
  why : Recall
  tag : BitVec 12
  held : List GMsg
  writes : List DevWrite
deriving DecidableEq, Repr

/-- A read of companion memory that has not been used (R366): `thread` waits for it, `got` is what came, status and
data. -/
structure DRead where
  tag : BitVec 12
  line : Nat
  cached : Bool
  /-- An SNPINV crossed it: deliver once, do not install (R367). -/
  once : Bool
  thread : Lan × ThreadI
  got : Option (Byte × List Byte)
deriving DecidableEq, Repr

/-- A signal vector's interval (R370): open, and the latest word waiting. -/
structure SigVec where
  isOpen : Bool
  waiting : Option W32
deriving DecidableEq, Repr

/-- The Garvy Link endpoint (R376). -/
structure Gvl where
  en : Bool
  wmax : Bool
  st : GSt
  cause : BitVec 4
  group : BitVec 2
  rev : Bool
  err : BitVec 9
  polinv : W16
  lockLanes : W16
  corr : W32
  dropped : W16
  replays : W16
  rtt : W16
  snptmo : W16
  poisoned : W16
  herrFirst : Byte
  herrCount : W16
  sigIval : BitVec 10
  /-- LINK, SRSP, SNP, RSP queues and the ordered POST and REQ stream (R359). -/
  qLink : List GMsg
  qSrsp : List GMsg
  qSnp : List GMsg
  qRsp : List GMsg
  qStream : List (BitVec 3 × GMsg)
  credits : Tab Nat
  txSeq : BitVec 12
  rxSeq : BitVec 12
  /-- Credits owed to the peer per channel. -/
  owed : Tab Nat
  ackOwed : Nat
  nakOwed : Bool
  /-- When the last NAK went out, in ACLK cycles. -/
  lastNak : Option Nat
  /-- The message begun and not ended, its channel and the slots still to send (R358). -/
  cur : Option (BitVec 3 × GMsg × Nat)
  unacked : List GTx
  replay : List GTx
  replaysSame : Nat
  uncorrRun : Nat
  /-- INIT flits sent since the own timestamp came back (R360); none before. -/
  initSent : Option Nat
  /-- The group with the lane that the recovery under way leaves out (R352): false lanes 0 to 7. -/
  exclude : Option Bool
  /-- The RECOVERY under way came from RETRAIN, so the link may return to x16 (R351). -/
  atWmax : Bool
  reads : List DRead
  nextTag : BitVec 12
  /-- Link cache (R367): companion lines in S with their data, in the order they were installed. -/
  cache : List (Nat × List Byte)
  /-- Home directory: keyed block number. -/
  dir : Tab (Option DirEnt)
  dirOrder : Nat
  sigs : Tab SigVec
deriving DecidableEq, Repr

end Sys2Proof.Machine
end

