-- ==== Sys2Proof/Machine/DieParts.lean ====
section
/-! DEFINITION. The records State holds for the vector engines, the sconces, the crossbar, the stacks and memory, the
clocks, resets and supplies, and the management presence. -/

namespace Sys2Proof.Machine

/-! ### Vector engines -/

/-- A memory access a thread has issued and that has not completed (R135, R287). -/
structure Access where
  addr : Nat
  /-- Destination register of a load, its 256-byte blocks and the lanes it writes. -/
  vd : Nat
  blocks : Nat
  mask : BitVec 128
  /-- The half whose seam crossing it entered, east true. -/
  cross : Option Bool
  /-- The seam links its blocks take (R256). -/
  seam : List Nat
  /-- Pseudo-channel and block position of each block in its stack (R266). -/
  chans : List (Nat × Nat)
  /-- The crossing's generation as it entered (R287). -/
  gen : BitVec 2
  /-- The second fetch of a block that failed (R225). -/
  retried : Bool
  /-- An error completion is on its way back. -/
  err : Bool
  /-- The writes of a store or atomic that waits in a crossing. -/
  writes : List DevWrite
deriving DecidableEq, Repr

/-- What an occupied slot's thread waits for, beside operands (R125): room in the context's queue for its flare (R162), or
the completion of its flares (R127). -/
inductive Wait where
  | run
  | fireFull (f : FlareReq)
  | flare
deriving DecidableEq, Repr

/-- A thread in a slot (R124). -/
structure Thread where
  ctx : CtxI
  /-- The invocation it belongs to; supplied kernels have none. -/
  inv : Option Nat
  vregs : Nat
  /-- The engine's vector registers it holds, in the order it numbers them (R124). -/
  map : List Nat
  scratch : Nat
  pc : W32
  wait : Wait
  /-- Outstanding accesses, in order of issue. -/
  loads : List Access
  /-- The first fault of a supplied kernel's run; a second withholds (R148). -/
  rerun : Bool
  reqtag : W32
  inst : W32
deriving DecidableEq, Repr

/-- One vector engine (R123, R150). -/
structure Engine where
  /-- Vector registers: keyed register × 128 + lane. -/
  regs : Tab W32
  /-- Scalar registers: keyed slot × 32 + register. -/
  sregs : Tab W64
  /-- Predicate registers: keyed slot × 8 + register. -/
  preds : Tab (BitVec 128)
  /-- Engine scratch bytes by offset within the region. -/
  scratch : Tab Byte
  /-- The instruction cache (R123, R146): up to 32 KiB of a kernel image's code. -/
  icache : List Byte
  /-- Top-k unit (R133): k, smallest first, candidates in rank order. -/
  tkK : Nat
  tkSmall : Bool
  tkList : List (W32 × W32)
  threads : Tab (Option Thread)
  /-- `VEC_CTL.CUST_EN`. -/
  custEn : Bool
  stat : BitVec 6
  faultCause : BitVec 4
  faultSlot : BitVec 5
  faultCtx : Option CtxI
  faultPc : W32
  issue : Ctr64
  stall : W32
  eccUnc : W16
  eccCor : W16
  /-- Vector instructions issued in the current 256 ACLK, and which 256 ACLK that is (R137). -/
  dutyWin : Nat
  dutyCnt : Nat
  /-- Data SEND has put on the crossbar for this engine (R127). -/
  inbox : List (List W32)
deriving DecidableEq, Repr

/-- A loaded kernel image (R141, R142). -/
structure Kernel where
  handle : Nat
  slice : Nat
  size : Nat
  /-- Where the image lies in the slice's kernel area. -/
  addr : Nat
  image : KImage
  unloading : Bool
deriving DecidableEq, Repr

/-- An invocation of a customer kernel (R142). -/
structure Invocation where
  id : Nat
  ctx : CtxI
  handle : Nat
  entry : Nat
  lans : List Lan
  /-- Threads that wait for a slot and registers: their engines, one entry for each (R124). -/
  waiting : List Lan
  /-- The CTX.KRUN command it belongs to; none for a stage of a layer, which works for a request: its tag and instance (R142). -/
  cmd : Option Desc
  tag : Option (W32 × W32)
  /-- Every flare it has completed was an empty lookup query (R57); none before the first. -/
  empty : Option Bool
deriving DecidableEq, Repr

/-! ### Sconces, crossbar, stacks -/

/-- One sconce (R253, R499). -/
structure SconceR where
  owner : Option CtxI
  scrub : Bool
  /-- The CTX.DESTROY command that waits for the scrub. -/
  scrubCmd : Option Desc
  unc : W16
  cor : W16
  raised : BitVec 2
  /-- A raise step that waits for launches to resume (R498). -/
  raiseDue : Bool
  retire : Bool
  /-- Recorded as retired in the device record at boot (R482). -/
  retired : Bool
deriving DecidableEq, Repr

/-- The snuffer's record (R499). -/
structure Snuffer where
  wheld : Bool
  cause : Byte
  detail : W16
deriving DecidableEq, Repr

/-- A broadcast that waits by credit for a free input slot (R257). -/
structure Bcast where
  lan : Lan
  blk : InBlock
  /-- The block comes right (R103). -/
  good : Bool
deriving DecidableEq, Repr

/-- The crossbar (R255 to R260, R268). -/
structure Xbr where
  stat : BitVec 3
  /-- Owners of slots 0 to 63: none is firmware. -/
  slotmap : List (Option CtxI)
  /-- Changes waiting for the frame boundary. -/
  slotNext : Option (List (Option CtxI))
  /-- Window entries: keyed context × 32 + entry. -/
  windows : Tab (BitVec 128)
  /-- Window entries whose change waits for recalls (R375): key and new value. -/
  winNext : List (Nat × BitVec 128)
  waiting : List Bcast
  frames : W32
deriving DecidableEq, Repr

/-- Stack controller states, in code order (R270). -/
inductive StkSt where
  | reset | training | ready | selfRefresh | failed
deriving DecidableEq, Repr

/-- One stack controller (R270 to R275). -/
structure Stack where
  st : StkSt
  slow : Bool
  repairs : Byte
  stat : BitVec 4
  unc : W16
  cor : W16
  period : Byte
  passes : W16
  sysk : Bool
  ctxk : W16
  scrubBusy : Bool
  remain : BitVec 29
  /-- The start-up overwrite of this stack is done (R275). -/
  overwritten : Bool
deriving DecidableEq, Repr

/-- The shared store and the stacks (R261, R266): bytes by device address in the local view, and each block's stored
code as its difference from the code of its bytes. -/
structure Mem where
  bytes : List Host.Cell
  codes : Tab W32
deriving DecidableEq, Repr

/-! ### Clocks, resets, supplies -/

/-- A SYS.CLOCK under way (R286): before and after its write of the half's divider register. -/
structure ClkCmd where
  cmd : Desc
  east : Bool
  adiv : BitVec 2
  ndiv : BitVec 2
  written : Bool
deriving DecidableEq, Repr

/-- Clocks, resets and supplies (R294). -/
structure Clk where
  lock : Bool
  hold : Bool
  lockLost : Bool
  gateRef : Bool
  cfgErr : Bool
  nW : BitVec 2
  aW : BitVec 2
  nE : BitVec 2
  aE : BitVec 2
  ncW : BitVec 2
  acW : BitVec 2
  ncE : BitVec 2
  acE : BitVec 2
  gateE : Bool
  gateW : Bool
  hangs : Byte
  genE : BitVec 2
  genW : BitVec 2
  /-- ACLK cycles since the end of power-on reset; `CLK_LTIME` is a third of it (R277, R279). -/
  aclk : Nat
  ltLatch : W32
  rstCount : W16
  rstCause : BitVec 2
  warn : BitVec 4
  warned : BitVec 24
  fltKind : BitVec 2
  fltPoints : BitVec 24
  /-- Points whose warning comparator fires now. -/
  active : BitVec 24
  /-- Holdover has ended: clocks are not trusted (R289). -/
  untrusted : Bool
  /-- Start-up step reached (R292): 0 reset, 1 lock awaited, 3 boot ROM, 5 training, 6 overwrite, 7 enabled. -/
  step : Nat
  pwrgd : Bool
  brdRstN : Bool
  /-- WHELD_N is driven low (R524). -/
  wheldLow : Bool
  /-- SYS.CLOCK under way, and context slots it has paused (R286). -/
  cmd : Option ClkCmd
  paused : List Nat
deriving DecidableEq, Repr

/-! ### Management -/

/-- An ember as delivered (R503); VERSION, the reserved bytes and CRC are functions of the rest. -/
structure Ember where
  sev : Byte
  code : W16
  srcidx : W16
  summary : Bool
  final : Bool
  ctxid : Option W16
  pkg : Option Pkg
  num : W32
  localt : W64
  reqtag : W32
  arg0 : W32
  arg1 : W64
  resets : W16
deriving DecidableEq, Repr

/-- A rate window (R508); `key` none is the shared overflow key. -/
structure RateWin where
  key : Option (W16 × W16 × Option W16)
  delivered : Nat
  suppressed : Nat
  last : Option Ember
deriving DecidableEq, Repr

/-- The management commands that are answered (R502, R509, R510). -/
inductive MgtOp where
  | setEid | getEid | getUuid | getVersion | getTypes | getTid | pldmVersion | pldmTypes | pldmCommands | setReceiver
  | repoInfo | pdr | sensor | stateSensor
  /-- Answered with ERROR_UNSUPPORTED_PLDM_CMD. -/
  | unsupported
deriving DecidableEq, Repr

/-- A response given on a management path (R502): to which command, whether its completion code is success, and its data. -/
structure MgtResp where
  op : MgtOp
  ok : Bool
  data : List Byte
deriving DecidableEq, Repr

/-- One management path (R500, R509). -/
structure MgtPath where
  eid : Byte
  receiver : Option Byte
  queue : List Ember
  /-- The outstanding PlatformEventMessage, its receiver and how often it was sent. -/
  out : Option (Ember × Byte × Nat)
  /-- Embers dropped since the last 0x1101. -/
  dropped : Nat
  resp : List MgtResp
deriving DecidableEq, Repr

/-- The management presence (R513). -/
structure Mgt where
  started : Bool
  sgmiiEn : Bool
  i3c : Bool
  smbAddr : BitVec 7
  i3cAddr : BitVec 7
  /-- MAC address, first byte first, static IPv4 address and UDP port (R501). -/
  mac : List Byte
  ipv4 : W32
  udpPort : W16
  rate : Byte
  link : Bool
  qovf : Bool
  suppr : Bool
  nextSeq : W32
  suppressed : W16
  droppedCnt : W16
  log : List Ember
  wins : List RateWin
  bus : MgtPath
  udp : MgtPath
deriving DecidableEq, Repr

end Sys2Proof.Machine
end

