-- ==== Sys2Proof/Machine/FirmParts.lean ====
section
/-! DEFINITION. The records State holds for the firmware interface: mailboxes, contexts, requests, weights, keys and
boot, board flash and the twin pair. -/

namespace Sys2Proof.Machine

/-! ### Mailboxes -/

/-- A completion (R389) before it takes its place in the queue: SQHEAD, PHASE and LOCALT are filled as it is posted. -/
structure Cpl where
  tag : W64
  status : W16
  /-- 1 final, 2 progress, 3 notification, 4 ember. -/
  kind : Byte
  opcode : W16
  outused : W32
  result : List W32
deriving DecidableEq, Repr

/-- A completion as written to companion memory, with where it lies. -/
structure Posted where
  ring : RingI
  addr : W64
  phase : Bool
  sqhead : W32
  localt : W64
  cpl : Cpl
deriving DecidableEq, Repr

/-- Ring states, in code order (R397). -/
inductive RingSt where
  | off | run | stopped
deriving DecidableEq, Repr

/-- A mailbox ring (R379 to R386, R397). -/
structure Ring where
  st : RingSt
  ctx : Option CtxI
  sqbase : W64
  cqbase : W64
  sqlog2 : BitVec 5
  cqlog2 : BitVec 5
  sqdb : W32
  cqdb : W32
  sqhead : W32
  cqtail : W32
  nlost : Bool
  fetcherr : Bool
  dberr : Bool
  lost : W16
  /-- Commands started and not completed, in order. -/
  prog : List Desc
  /-- Commands fetched and not started yet, in ring order (R392). -/
  queued : List Desc
  /-- Notifications held for room (R385). -/
  notes : List Cpl
  /-- Completions and notifications held while the ring is OFF or the link is down (R382, R385). -/
  heldCpl : List Cpl
  /-- Notifications lost since the last SYS.LOST. -/
  lostSince : Nat
deriving DecidableEq, Repr

/-- The mailbox block (R397). -/
structure Mbx where
  curver : W16
  rtbase : BitVec 36
  wdog : Bool
  atterr : Bool
  keeper : Bool
  alive : BitVec 4
  rings : Tab Ring
  /-- SYS.SHUTDOWN has run (R537). -/
  shut : Bool
  /-- SYS.RESET's die reset is due. -/
  resetDue : Bool
  /-- The ring of 4 to 63 served last (R384). -/
  lastRing : Nat
deriving DecidableEq, Repr

/-! ### Requests -/

/-- An admission record (R402, R405). -/
structure AdmRec where
  num : W16
  cls : Nat
  daylight : Bool
  build : Bool
  nopfx : Bool
  adpv : Bool
  adpslot : W16
  prompt : List W32
  order : Nat
  admitted : Bool
  inst : W32
  seg : Byte
  reqtag : W32
  epoch : W32
  adpgen : W32
  mode : Bool
  /-- Next position to send, end of the pass's prompt positions, positions not yet answered. -/
  nextPos : Nat
  promptEnd : Nat
  unanswered : List Nat
  /-- The token of the NEXT that made a generated position ready. -/
  nextTok : Option W32
  /-- The REQ.RESUME whose segment waits for its first dispatch (R414). -/
  resumed : Option Desc
  readySince : Nat
  pfxLen : Nat
  retired : Bool
  retiredAt : Nat
  lastPos : Nat
  gotNext : Bool
  /-- Local time at which its deadline passes, in CCLK (R406). -/
  limit : Nat
  /-- Its final completion is still owed (R390). -/
  owed : Bool
  cmd : Desc
deriving DecidableEq, Repr

/-- A ledger record (R240). -/
structure LedRec where
  kind : Byte
  tflags : Byte
  res : W16
  tindex : W32
  token : W32
  checks : W32
  localt : W64
  aux : W64
deriving DecidableEq, Repr

/-- A request's ledger (R240). -/
structure Ledger where
  reqtag : W32
  origin : Pkg
  ctxid : W16
  epoch : W32
  adpgen : W32
  daylight : Bool
  state : Byte
  flags : Byte
  status : W16
  tokens : W32
  suspect : W32
  audpass : W32
  audfail : W32
  resolved : W32
  kernels : List Digest
  settledBy : List Pkg
  checks : W64
  localt : W64
  recs : List LedRec
  digest : Digest
deriving DecidableEq, Repr

/-- A token drawn and not yet released. -/
structure Drawn where
  tindex : W32
  token : W32
  gnext : Nat
  clean : Bool
  daylight : Bool
  compared : Bool
  resolved : Byte
  checks : W32
  /-- The final activation it was drawn from. -/
  msg : Msg
  /-- Compare mode: waits for the twin's digest; arbitration under way, with this side's result once it has one. -/
  twinWait : Bool
  arb : Bool
  mine : Option (BitVec 256)
deriving DecidableEq, Repr

/-- A release record (R402, R411). -/
structure RelRec where
  num : W16
  daylight : Bool
  greedy : Bool
  topk : Nat
  topp : Option W32
  seed : W64
  temp : W32
  maxtok : Nat
  stop : List W32
  prompt : List W32
  mask : Option MaskTable
  mdigest : Option Digest
  gstate : Nat
  /-- Learnt from the first activation (R403). -/
  started : Bool
  inst : W32
  seg : Byte
  reqtag : W32
  entry : Pkg
  released : List (W32 × W32)
  segReleased : Nat
  lastPos : Nat
  drawn : Option Drawn
  ledger : Ledger
  end_ : Nat
  retired : Bool
  /-- Retirement waits for the end of the flare in progress (R411). -/
  retiring : Option Nat
  retiredAt : Nat
  /-- Local time at which its deadline passes, in CCLK (R406). -/
  limit : Nat
  pfxSuspect : Bool
  /-- Last prompt position of the forward pass under way (R409). -/
  passEnd : Nat
  /-- Its number is in use again by a later record. -/
  stale : Bool
  /-- Positions flagged before their token was released: position, sender, flicker (R242). -/
  flagged : List (W32 × Pkg × W64)
  /-- Its final completion is still owed (R390). -/
  owed : Bool
  cmd : Desc
deriving DecidableEq, Repr

/-- A log record (R234). -/
structure LogRec where
  num : W16
  inst : W32
  prompt : List W32
  seed : W64
  greedy : Bool
  topk : Nat
  topp : Option W32
  temp : W32
  maxtok : Nat
  mdigest : Option Digest
  epoch : W32
  adpgen : W32
  daylight : Bool
  tokens : List (W32 × W32)
  digest : Digest
deriving DecidableEq, Repr

/-- One key and value of one layer and key/value head (R140): position, the stack that holds its chunk, and the E4M3 bytes. -/
structure KvEntry where
  layer : Nat
  head : Nat
  pos : Nat
  stack : Nat
  key : List Byte
  val : List Byte
deriving DecidableEq, Repr

/-- Attention state of one request on this package (R238): positions with a committed flag. -/
structure Attn where
  ctx : CtxI
  reqtag : W32
  inst : W32
  seg : Byte
  epoch : W32
  adpslot : W16
  adpgen : W32
  entries : List (Nat × Bool)
  /-- Keys and values of its entries (R140). -/
  kv : List KvEntry
  /-- Layers and positions whose activation has arrived (R408). -/
  got : List (W16 × Nat)
  retired : Bool
  /-- Local time until which a retired request's committed entries are kept: HOLD, or a builder's lease (R413, R427). -/
  lease : Nat
deriving DecidableEq, Repr

/-- A prefix slot on this package (R423, R427). -/
structure Prefix where
  slot : Nat
  len : Nat
  inst : W32
  num : W16
  epoch : W32
  adpgen : W32
  mode : Bool
  live : Bool
  suspect : Bool
  expiry : Nat
deriving DecidableEq, Repr

/-- A node of the prefix index (R424). -/
structure PNode where
  id : Nat
  parent : Nat
  chunk : List W32
  depth : Nat
  slot : Nat
deriving DecidableEq, Repr

/-- An activation accepted here, waiting for its turn or its flares. -/
structure Act where
  link : LinkI
  msg : Msg
  /-- Column results of the position's row chains here (R110), and what ATTN gave (R140). -/
  outs : List ActOut
  att : List (List W32)
  /-- Invocations of the layers' kernels that it waits for (R142). -/
  stage : List Nat
  /-- Flares of the position completed here, and what they add to the header's check fields (R239). -/
  done : Nat
  clean : Bool
  resolved : Nat
  checks : Nat
deriving DecidableEq, Repr

/-! ### Weights -/

/-- Shard states: waiting for arrival, verified, asked of storage, failed. -/
inductive ShardSt where
  | waiting | verified | fetch | failed
deriving DecidableEq, Repr

/-- A shard of an epoch or adapter generation on this package (R434 to R437). -/
structure Shard where
  ent : ShardEntry
  st : ShardSt
  requests : Nat
  /-- Segments of its chain that have arrived, and how many it has (R345). -/
  got : List Nat
  total : Nat
  md : Option ShardMeta
  /-- The shadow's weight region (R431): bytes by offset, 0 unlisted. -/
  weights : Tab Byte
  /-- Written into the wicks of a lantern in service. -/
  written : Bool
  /-- Marked for rehash after a failed shadow block (R225). -/
  rehash : Bool
  /-- A rehash found it wrong and its copy is being restored; it is served meanwhile (R447). -/
  restoring : Bool
  /-- A head has put its container on its chain (R435). -/
  injected : Bool
  /-- BODYLEN and KEYID of the verified container (R430). -/
  blen : Nat
  keyid : W32
deriving DecidableEq, Repr

/-- Epoch states (R438). -/
inductive EpSt where
  | staging | staged | live | retained | failed
deriving DecidableEq, Repr

/-- What WGT.ADOPT has found so far (R443). -/
structure Adopt where
  strict : Bool
  whole : Nat
  rewritten : Nat
  refused : Nat
  fail : Option W16
deriving DecidableEq, Repr

/-- A weight epoch of a context (R438). -/
structure Epoch where
  epoch : W32
  st : EpSt
  first : Bool
  shards : List Shard
  cmd : Option Desc
  adopt : Option Adopt
deriving DecidableEq, Repr

/-- An adapter generation (R448). -/
structure AdpGen where
  gen : W32
  current : Bool
  shards : List Shard
  cmd : Option Desc
deriving DecidableEq, Repr

/-- The layer wave at the entry package (R445). Phase 1 set, 3 drain, 4 lift. -/
structure Wave where
  phase : Nat
  old : W32
  new : W32
  drain : Nat
  /-- Packages whose REPORT is awaited, and how often each curfew was sent. -/
  await : List (Pkg × Nat)
  counts : List (Pkg × Nat)
  expired : Bool
  cmd : Desc
deriving DecidableEq, Repr

/-- A command that changes an epoch, waiting for another one of that epoch or for a first load (R392). -/
inductive LoadCmd where
  | load (d : Desc) (epoch : W32) (ents : List ShardEntry)
  | adopt (d : Desc) (epoch : W32) (strict : Bool) (toks : List Token)
deriving DecidableEq, Repr

/-- A command that changes an adapter slot, waiting for its turn or for a free generation (R392, R448). -/
inductive AdpCmd where
  | load (d : Desc) (slot : Nat) (gen : W32) (ents : List ShardEntry)
  | replace (d : Desc) (slot : Nat) (gen : W32) (ents : List ShardEntry)
  | free (d : Desc) (slot : Nat)
deriving DecidableEq, Repr

/-- A command that changes a context and is serialised with others (R392, R399, R400, R401). -/
inductive CtxOp where
  | pause (d : Desc)
  | resume (d : Desc)
  | pipe (d : Desc) (path : List Pkg)
  | destroy (d : Desc)
deriving DecidableEq, Repr

/-- A context (R398). -/
structure Ctx where
  ctxid : W16
  sconces : W16
  daylight : Bool
  log : Bool
  pfx : Bool
  pfxlant : Nat
  rings : W64
  batchmax : Nat
  qmax : Nat
  vocab : Nat
  path : List Pkg
  nkeys : Nat
  paused : Bool
  epochs : List Epoch
  admEpoch : Option W32
  landing : Option (Nat × Nat)
  /-- Content keys by KEYID, first byte highest (R433). -/
  ckeys : List (W32 × BitVec 256)
  session : Bool
  adapters : Tab (List AdpGen)
  kernels : List Kernel
  prefixes : List Prefix
  nodes : List PNode
  /-- The next ID of a node that no lookup column holds (R425). -/
  nodeNext : Nat
  /-- Shadows of the lookup lanterns, once they are first written (R425). -/
  lkp : List Shard
  adm : List AdmRec
  rel : List RelRec
  logs : List LogRec
  acts : List Act
  /-- Activations held for want of a release record (R412). -/
  waitRel : List Act
  /-- Positions held here: of forks whose builder's entries are still tentative (R427), and prompt positions whose predecessor has
  not arrived (R408). -/
  waitPfx : List Act
  floor : Nat
  dispatches : Nat
  instNext : W32
  subNext : Nat
  wave : Option Wave
  /-- WGT.REPLACE commands that wait, with OLD, NEW and DRAIN (R392, R449). -/
  replQ : List (Desc × W32 × W32 × W32)
  /-- The epoch the lanterns are being rewritten to (R446). -/
  rewrite : Option W32
  /-- Epochs whose hold rule was lifted here before they were STAGED (R446). -/
  lifted : List W32
  /-- Commands of an epoch that wait (R392). -/
  loadQ : List LoadCmd
  /-- WGT.DROP commands that wait for requests, with their epochs (R439). -/
  drops : List (W32 × Desc)
  /-- Commands of adapter slots that wait (R392, R448). -/
  adpQ : List AdpCmd
  /-- CAL.CONFIG and CHK.RATE settings by logical lantern (R394). -/
  calSet : Tab (Option (W32 × W32))
  rateSet : Tab (Option W32)
  /-- Commands that change the context, in start order (R392). -/
  ops : List CtxOp
  /-- CTX.DESTROY has begun: records are retired, and the flare in progress is awaited (R13, R401). -/
  dying : Bool
  /-- CTX.KUNLOAD commands that wait for invocations, with their handles (R142). -/
  unloads : List (Nat × Desc)
  /-- SHA-384 of the enrolled kernel keys (R462, R466). -/
  keydig : Digest
  /-- Local time of creation: CTX.EMBERS returns this context's embers only (R471). -/
  born : Nat
deriving DecidableEq, Repr

/-! ### Security, flash, twin -/

/-- The keys derived from the root secret (R452). -/
structure RootKeys where
  /-- Identity key-encryption key. -/
  kek : List Byte
  /-- Counter key. -/
  counter : List Byte
  /-- Record key. -/
  record : List Byte
deriving DecidableEq, Repr

/-- The keeper's boot record (R475) and what runs. -/
structure Sec where
  state : BitVec 4
  slotB : Bool
  cfgCommit : Bool
  fwCommit : Bool
  svn : W32
  rngOk : Bool
  reseeds : W16
  viol : BitVec 5
  image : Option FwImage
  cfg : Option ConfigBlock
  iddigest : Digest
  /-- The package's certificates: intermediate, device identity, alias (R456, R462). -/
  chain : List Cert
  /-- The root secret in the keeper's private SRAM (R451). -/
  root : Option (BitVec 256)
  /-- The keys derived from it (R452). -/
  keys : Option RootKeys
deriving DecidableEq, Repr

/-- A wick's section of the device record (R200, R450). -/
structure RecWick where
  trim : Tab Int
  colmap : List W32
  retired : Bool
  strike : Bool
deriving DecidableEq, Repr

/-- A lantern's section of the device record. -/
structure RecLan where
  taps : Tab Int
  retired : Bool
  strike : Bool
deriving DecidableEq, Repr

/-- Board flash as the die reads and writes it (R450). -/
structure Flash where
  fwFloor : W32
  cfgFloor : W32
  wicks : Tab RecWick
  lans : Tab RecLan
  sconces : List Nat
  diodes : List (W16 × W16)
  /-- The device record's region is absent (R450). -/
  noRec : Bool
  /-- The HMAC-SHA-384 tag of each device-record section: lantern 0 to 1,087, 1,088 the common one (R452). -/
  tags : Tab (List Byte)
deriving DecidableEq, Repr

/-- Twin pair states, in code order (R499). -/
inductive TwinSt where
  | none_ | forming | active | standby | compare | single | split
deriving DecidableEq, Repr

/-- The twin pair (R493 to R497). -/
structure Twin where
  st : TwinSt
  arg : Option TwinArg
  cmd : Option Desc
  /-- The last TFORM received: sender, MODE, FLAGS, CTXID (R493). -/
  peerForm : Option (Pkg × Byte × Byte × W16)
  broken : Bool
  /-- The peer's digests and arbitration results not yet met: tag, position, value. -/
  digests : List (W32 × W32 × BitVec 256)
  results : List (W32 × W32 × BitVec 256)
deriving DecidableEq, Repr

end Sys2Proof.Machine
end

