-- ==== Sys2Proof/Machine/State.lean ====
section
/-! DEFINITION. The state of Yatil: every register, buffer, queue, counter and pin the manual names, the firmware's
records, board flash, and the queue of commands that wait; and the state right after power-on reset. Tables are sparse:
each has one default, the unit's own reset value, defined here. -/

namespace Sys2Proof.Machine

/-- The ways a command can stop. -/
inductive Fault where
  /-- Raised by no command of this model: every event the manual describes ends in a next state. Kept so that the
  outcome type has its name; safe. -/
  | none_
deriving DecidableEq, Repr

/-- The ways the model can refuse a command. -/
inductive Refusal where
  /-- Answered by `exec` alone, for a command whose meaning is not written yet; safe. -/
  | notModelled (mnemonic : String)
deriving DecidableEq, Repr

/-! ### Reset values of the units -/

/-- A 64-bit counter at 0 with its latch at 0. -/
def Ctr64.zero : Ctr64 := { val := 0, latch := 0 }

/-- A wick after power-on (R39, R61 to R71, R212, R250); `pgm` and `cells` are non-volatile and have no reset value
in the manual: DESIGN CHOICE, log 3. -/
def Wick.init : Wick :=
  { mode := 0, wfmt := 3, st := .unowned, ctx := none, lwick := none, cm0 := 0, cm1 := 0, cm2 := 0, cm3 := 0,
    force := 0, l1max := 0x1800, stat := 0, steps := Ctr64.zero, split4 := 0, split2 := 0, sats := 0, skips := 0,
    pgm := 0, maxp := 8, wrResult := 0, failcol := 0, wrBusy := false, wrRows := 0, repair := false, wrFrom := 0, wrCells := [], rbResult := 0,
    marg := 0, rbBusy := false, rbRows := 0, rbLaunched := 0, rbLev := [], rbMarg := 0, keybits := 0x400, matchT := 2, bankB := false, src := none,
    srcEpoch := 0, job := .none, stage := .toWrite, hit := none, cells := [], rs := [], rj := [], rsBad := [], trim := [], live := [], full := [], early := false,
    trimFails := 0, trimTried := false, probeFail := false, tpSeed := 0, tpUnits := [], s1 := [], s2 := [], winB := [], se := 0, sq12 := 0, winSteps := 0, winRot := true,
    resid := [], bandP := [0x10, 0x10, 0x10, 0x10], bandI := [0x400, 0x400, 0x400, 0x400], waud := Ctr64.zero,
    strike := false }

/-- An input slot that is FREE. -/
def Slot.init : Slot :=
  { st := .free, vec := 0, slices := 0, base := 0, twoPass := false, fallback := [], k := 0, fbAll := [], outl := [],
    outliers := 0, rot := false, range := false, nonfin := [], blocks := [], counts := [], order := 0, failed := [], retried := 0 }

/-- A lantern after power-on (R121, R212, R250). -/
def Lantern.init : Lantern :=
  { shape := 0, llan := none, ctx := none, drcal := false, st := .free, map0 := 0x0A418820, map1 := 0x16A4A0E6,
    map2 := 0x0007B9AC, arm := false, swapLw := 0, spare := some 16, ival := 0, ivalNext := none, tpoint := 0,
    slot0 := Slot.init, slot1 := Slot.init, orderNext := 0, stat := 0, flares := Ctr64.zero, zerovec := 0,
    fbslices := 0, outliers := 0, refires := 0, accs := [], out := none, area := [], launched := false, lastLaunch := none,
    x1 := [], x2 := [], momSteps := [], epoch := 0, rotEn := true, liveEn := true, rotper := 0x03C, drdt := 5,
    drper := 0x00A, phase := .idle, calWick := none, livewin := 0, calStat := 0, trimNext := [], taps := [],
    rotLast := none, drAtBoundary := false, drDue := false, drTpoint := 0, drBegan := none, drSeed := 0, drStep := 0, drGot := 0, drA := [], drB := [], trimTp := 0, audlog := 0x0C, chkStat := 0,
    since := 0, rsfails := 0, audFails := 0, audPasses := 0, locValid := false, locConf := false, locMulti := false,
    locWick := 0, locCol := 0, subst := 0, substNow := 0, markNext := false, audits := [], openMarks := 0,
    suspect := false, lastEvent := none, stepBase := none, rsFlares := [], lastAuditFail := none, remapDue := false, adopting := none, hits := [], wrFails := 0,
    strike := false,
    retired := false }

/-- A vector engine after power-on (R150); the register files have no reset value in the manual: DESIGN CHOICE,
log 4. -/
def Engine.init : Engine :=
  { regs := [], sregs := [], preds := [], scratch := [], icache := [], tkK := 0, tkSmall := false, tkList := [],
    threads := [], custEn := false, stat := 0, faultCause := 0, faultSlot := 0, faultCtx := none, faultPc := 0,
    issue := Ctr64.zero, stall := 0, eccUnc := 0, eccCor := 0, dutyWin := 0, dutyCnt := 0, inbox := [] }

/-- A context's part of the lamplighter after die reset (R180, R181). -/
def LmpCtx.init : LmpCtx :=
  { pause := false, floorsel := 0, floor := 0, launches := 0, queue := [], refire := [], runs := [], tails := [], carry := 0,
    seqNext := 0, winFlares := 0, winFallback := 0, storm := false, weight := 0 }

/-- The lamplighter after die reset (R180). -/
def Lmp.init : Lmp :=
  { en := false, age := 0x00C8, wideT := 0x80, stat := 0, divE := 0, divW := 0, flicker := Ctr64.zero, dipsTotal := 0,
    dipsRecent := 0, dipTimes := [], frozen := false, recovered := none, grants := [], flights := [], nextId := 1,
    deferred := [] }

/-- The governor after die reset (R181). -/
def Pwr.init : Pwr :=
  { limit := 0x3B6, arr := 0x17C, vec := 0x0DC, xbr := 0x064, stk := 0x0A0, ser := 0x032, ctl := 0x028, arrNow := 380,
    vecNow := 220, xbrNow := 100, stkNow := 160, serNow := 50, ctlNow := 40, level := 16, epochs := 0, hot := 0,
    set := 0x5C, window := 0, stat := 0, meas := 0, duty := 0xFF, cut := false, begun := false, cmds := [] }

/-- The sequence of converter `n` after die reset (R205, R213). -/
def MonCv.initSeq (n : Nat) : List SeqEntry :=
  (List.range 16).map (fun k =>
    { gain := 0, ts := 1,
      input := BitVec.ofNat 6 (if n = 0 then 2 * k else if n = 1 then 2 * k + 1 else if n = 2 then 32 + k
        else 48 + k) })

/-- Converter `n` after die reset: continuous, in its first pass. -/
def MonCv.init (n : Nat) : MonCv :=
  { mode := false, len := if n = 3 then 8 else 16, run := true, lenNow := if n = 3 then 8 else 16, modeNow := false,
    entry := 0, pass := 0, seq := MonCv.initSeq n, seqNow := MonCv.initSeq n,
    res := List.replicate 16 (false, false, 0, 0), urgent := none, waitGov := none, waitFw := none,
    restarted := false }

/-- The monitor unit after die reset (R213). -/
def Mon.init : Mon :=
  { stat := 0, urgConv := 0, urgGain := 0, urgTs := 1, urgInput := 0, urgBusy := false, resValid := false,
    resCode := 0, cvs := [MonCv.init 0, MonCv.init 1, MonCv.init 2, MonCv.init 3],
    dtab := List.replicate 32 (0x0C80, 0xF777), temp := List.replicate 32 (0, 0), latest := [] }

/-- The die's check registers after die reset (R251). -/
def ChkDie.init : ChkDie := { dstat := 0, failed := 0, retried := 0, resolved := 0, jrnl := [] }

/-- A sconce after power-on (R253, R499). -/
def SconceR.init : SconceR :=
  { owner := none, scrub := false, scrubCmd := none, unc := 0, cor := 0, raised := 0, raiseDue := false, retire := false, retired := false }

/-- The snuffer after die reset (R499). -/
def Snuffer.init : Snuffer := { wheld := false, cause := 0, detail := 0 }

/-- The crossbar after die reset: every slot is firmware's, every window invalid (R255, R260, R268). -/
def Xbr.init : Xbr :=
  { stat := 0, slotmap := List.replicate 64 none, slotNext := none, windows := [], winNext := [], waiting := [], frames := 0 }

/-- A stack controller after die reset (R270 to R275). -/
def Stack.init : Stack :=
  { st := .reset, slow := false, repairs := 0, stat := 0, unc := 0, cor := 0, period := 0x18, passes := 0,
    sysk := false, ctxk := 0, scrubBusy := false, remain := 0, overwritten := false }

/-- Clocks and resets while power-on reset is asserted (R290, R292, R294). -/
def Clk.init : Clk :=
  { lock := true, hold := false, lockLost := false, gateRef := false, cfgErr := false, nW := 0, aW := 0, nE := 0,
    aE := 0, ncW := 0, acW := 0, ncE := 0, acE := 0, gateE := false, gateW := false, hangs := 0,
    genE := 0, genW := 0, aclk := 0, ltLatch := 0, rstCount := 0, rstCause := 0, warn := 4, warned := 0,
    fltKind := 0, fltPoints := 0, active := 0, untrusted := false, step := 1, pwrgd := true, brdRstN := true,
    wheldLow := false, cmd := none, paused := [] }

/-- A management path with no endpoint ID and an empty queue (R513). -/
def MgtPath.init : MgtPath := { eid := 0, receiver := none, queue := [], out := none, dropped := 0, resp := [] }

/-- The management presence before it starts (R500, R513). -/
def Mgt.init : Mgt :=
  { started := false, sgmiiEn := false, i3c := false, smbAddr := 0, i3cAddr := 0, mac := [], ipv4 := 0, udpPort := 0, rate := 0x10, link := false,
    qovf := false, suppr := false, nextSeq := 0, suppressed := 0, droppedCnt := 0, log := [], wins := [],
    bus := MgtPath.init, udp := MgtPath.init }

/-- A fabric link after die reset. -/
def Link.init : Link :=
  { st := .disabled, cause := 0, queues := [], sentB := [], unacked := [], txSeq := 0, rxSeq := 0, ackOwed := 0, nakOwed := false,
    lastNak := none, replay := [], replaysSame := 0, uncorrRun := 0, credits := [], owed := [], heldCr := [], txCtr := 0, rxCtr := 0, oldKey := false, codewords := 0,
    keyCount := 0, keyphTx := false, encrypted := false, peerLinit := none, linitSent := 0, nonce := 0,
    hello := none, attested := false, myVerdict := none, peerVerdict := none, attempts := 0, keyxSent := false,
    keyDone := false, wrr := [0, 0, 0, 0], wrrNext := 0, rtt := 0, rev := false, routesOff := false,
    upId := none }

/-- An empty neighbour entry (R312). -/
def Neighbour.init : Neighbour := { iddigest := 0, pkg := none, plink := 0, caps := 0, nst := 0, changed := 0 }

/-- A fabric port after die reset (R321). -/
def Port.init : Port :=
  { en := false, split := false, encA := 0, encB := 0, ch := false, twinA := false, twinB := false, txpre := 0,
    polinv := 0, lock := 0, corr := 0, uncorr := 0, naks := 0, replays := 0, stat := 0 }

/-- A routing entry after die reset (R348). -/
def Route.init : Route := { pv := false, plink := 0, av := false, alink := 0 }

/-- A chain entry after die reset (R348). -/
def Chain.init : Chain := { v := false, tail := false, inlink := 0, outlink := 0, chain := 0 }

/-- The fabric traffic unit after die reset (R348). -/
def Fab.init : Fab :=
  { ports := [], links := [], nbr := [], myidV := false, myid := 0, bank := false, w0 := 3, w1 := 8, w2 := 4, w5 := 1,
    tstat := 0, dups := 0, noop := 0, drops := 0, chains := [], routes := [], msn := [], wins := [], noRoute := [],
    kept := [], rules := [], reds := [], retired := [], streams := [], lossSent := [], segs := [], resent := [],
    inbox := [], freed := [], settles := [] }

/-- The Garvy Link endpoint after die reset (R376). -/
def Gvl.init : Gvl :=
  { en := false, wmax := false, st := .disabled, cause := 0, group := 0, rev := false, err := 0, polinv := 0,
    lockLanes := 0, corr := 0, dropped := 0, replays := 0, rtt := 0, snptmo := 0, poisoned := 0, herrFirst := 0,
    herrCount := 0, sigIval := 2, qLink := [], qSrsp := [], qSnp := [], qRsp := [], qStream := [], credits := [],
    txSeq := 0, rxSeq := 0, owed := [], ackOwed := 0, nakOwed := false, lastNak := none, cur := none, unacked := [],
    replay := [], replaysSame := 0, uncorrRun := 0, initSent := none, exclude := none, atWmax := false, reads := [], nextTag := 0,
    cache := [], dir := [], dirOrder := 0, sigs := [] }

/-- A mailbox ring after die reset (R397). -/
def Ring.init : Ring :=
  { st := .off, ctx := none, sqbase := 0, cqbase := 0, sqlog2 := 0, cqlog2 := 0, sqdb := 0, cqdb := 0, sqhead := 0,
    cqtail := 0, nlost := false, fetcherr := false, dberr := false, lost := 0, prog := [], queued := [], notes := [], heldCpl := [],
    lostSince := 0 }

/-- The mailbox block after die reset (R397). -/
def Mbx.init : Mbx :=
  { curver := 0, rtbase := 0, wdog := false, atterr := false, keeper := false, alive := 0, rings := [], shut := false,
    resetDue := false, lastRing := 63 }

/-- The keeper's record after die reset (R475). -/
def Sec.init : Sec :=
  { state := 0, slotB := false, cfgCommit := false, fwCommit := false, svn := 0, rngOk := false, reseeds := 0,
    viol := 0, image := none, cfg := none, iddigest := 0, chain := [], root := none, keys := none }

/-- A wick's section of an empty device record. -/
def RecWick.init : RecWick := { trim := [], colmap := [0, 0, 0, 0], retired := false, strike := false }

/-- A lantern's section of an empty device record. -/
def RecLan.init : RecLan := { taps := [], retired := false, strike := false }

/-- Board flash of a new package: floors at 0, an empty device record. The manual gives no value: DESIGN CHOICE,
log 3. -/
def Flash.init : Flash :=
  { fwFloor := 0, cfgFloor := 0, wicks := [], lans := [], sconces := [], diodes := [], noRec := false, tags := [] }

/-- No twin pair (R499). -/
def Twin.init : Twin :=
  { st := .none_, arg := none, cmd := none, peerForm := none, broken := false, digests := [],
    results := [] }

/-- A fresh memory: no byte listed, every block with the code of its bytes (R264, R275). -/
def Mem.init : Mem := { bytes := [], codes := [] }

/-! ### The state -/

/-- The whole state of a package. -/
structure State where
  /-- Commands that wait, first in, first out. -/
  pending : List Instr
  /-- Wicks: keyed lantern × 17 + wick. -/
  wicks : Tab Wick
  /-- Lanterns: keyed by physical index. -/
  lans : Tab Lantern
  /-- Vector engines: keyed by physical lantern. -/
  engs : Tab Engine
  lmp : Lmp
  /-- The per-context part of the lamplighter and governor: keyed by context slot. -/
  lctx : Tab LmpCtx
  pwr : Pwr
  mon : Mon
  chk : ChkDie
  scn : Tab SconceR
  snuf : Snuffer
  xbr : Xbr
  stks : Tab Stack
  mem : Mem
  clk : Clk
  fab : Fab
  gvl : Gvl
  mbx : Mbx
  /-- Contexts: keyed by die-local slot. -/
  ctxs : Tab (Option Ctx)
  invs : List Invocation
  invNext : Nat
  /-- Attention state of requests (R238). -/
  attn : List Attn
  /-- Completions written to companion memory, newest last. -/
  posted : List Posted
  sec : Sec
  flash : Flash
  twin : Twin
  mgt : Mgt
  /-- The model's own counter of free values drawn; not the manual's (log 5). -/
  fresh : Nat
deriving DecidableEq, Repr

/-- The state right after power-on reset, before the root PLL has locked (R290, R292). -/
def State.reset : State :=
  { pending := [], wicks := [], lans := [], engs := [], lmp := Lmp.init, lctx := [], pwr := Pwr.init, mon := Mon.init,
    chk := ChkDie.init, scn := [], snuf := Snuffer.init, xbr := Xbr.init, stks := [], mem := Mem.init,
    clk := Clk.init, fab := Fab.init, gvl := Gvl.init, mbx := Mbx.init, ctxs := [], invs := [], invNext := 1,
    attn := [], posted := [], sec := Sec.init, flash := Flash.init, twin := Twin.init, mgt := Mgt.init, fresh := 0 }

end Sys2Proof.Machine
end

