-- ==== Sys2Proof/Machine/Ops.lean ====
section
/-! DEFINITION. The named operations over the state that commands share: reading and writing one unit of each kind,
raising embers, posting completions and notifications, sending on the Garvy Link and sending fabric messages. -/

namespace Sys2Proof.Machine

/-- The outcome of a command. -/
abbrev Out := Host.Outcome State Fault Refusal

/-! ### One unit of each kind -/

/-- Physical wick `w` of lantern `l`. -/
def getWick (s : State) (l w : Nat) : Wick := Tab.get Wick.init s.wicks (l * 17 + w)
/-- Write one wick. -/
def setWick (l w : Nat) (v : Wick) (s : State) : State :=
  { s with wicks := Tab.set Wick.init s.wicks (l * 17 + w) v }
/-- Change one wick. -/
def updWick (l w : Nat) (f : Wick → Wick) (s : State) : State := setWick l w (f (getWick s l w)) s

/-- Physical lantern `l`. -/
def getLan (s : State) (l : Nat) : Lantern := Tab.get Lantern.init s.lans l
/-- Write one lantern. -/
def setLan (l : Nat) (v : Lantern) (s : State) : State := { s with lans := Tab.set Lantern.init s.lans l v }
/-- Change one lantern. -/
def updLan (l : Nat) (f : Lantern → Lantern) (s : State) : State := setLan l (f (getLan s l)) s

/-- The vector engine of lantern `l`. -/
def getEng (s : State) (l : Nat) : Engine := Tab.get Engine.init s.engs l
/-- Write one engine. -/
def setEng (l : Nat) (v : Engine) (s : State) : State := { s with engs := Tab.set Engine.init s.engs l v }
/-- Change one engine. -/
def updEng (l : Nat) (f : Engine → Engine) (s : State) : State := setEng l (f (getEng s l)) s

/-- A context slot's part of the lamplighter. -/
def getLctx (s : State) (c : Nat) : LmpCtx := Tab.get LmpCtx.init s.lctx c
/-- Write it. -/
def setLctx (c : Nat) (v : LmpCtx) (s : State) : State := { s with lctx := Tab.set LmpCtx.init s.lctx c v }
/-- Change it. -/
def updLctx (c : Nat) (f : LmpCtx → LmpCtx) (s : State) : State := setLctx c (f (getLctx s c)) s

/-- Sconce `n`. -/
def getScn (s : State) (n : Nat) : SconceR := Tab.get SconceR.init s.scn n
/-- Write one sconce. -/
def setScn (n : Nat) (v : SconceR) (s : State) : State := { s with scn := Tab.set SconceR.init s.scn n v }
/-- Change one sconce. -/
def updScn (n : Nat) (f : SconceR → SconceR) (s : State) : State := setScn n (f (getScn s n)) s

/-- Stack controller `n`. -/
def getStk (s : State) (n : Nat) : Stack := Tab.get Stack.init s.stks n
/-- Write one stack controller. -/
def setStk (n : Nat) (v : Stack) (s : State) : State := { s with stks := Tab.set Stack.init s.stks n v }
/-- Change one stack controller. -/
def updStk (n : Nat) (f : Stack → Stack) (s : State) : State := setStk n (f (getStk s n)) s

/-- Fabric port `p`. -/
def getPort (s : State) (p : Nat) : Port := Tab.get Port.init s.fab.ports p
/-- Change one port. -/
def updPort (p : Nat) (f : Port → Port) (s : State) : State :=
  { s with fab := { s.fab with ports := Tab.upd Port.init s.fab.ports p f } }

/-- Fabric link `k`. -/
def getLink (s : State) (k : Nat) : Link := Tab.get Link.init s.fab.links k
/-- Change one link. -/
def updLink (k : Nat) (f : Link → Link) (s : State) : State :=
  { s with fab := { s.fab with links := Tab.upd Link.init s.fab.links k f } }

/-- Neighbour entry of link `k`. -/
def getNbr (s : State) (k : Nat) : Neighbour := Tab.get Neighbour.init s.fab.nbr k
/-- Change one neighbour entry. -/
def updNbr (k : Nat) (f : Neighbour → Neighbour) (s : State) : State :=
  { s with fab := { s.fab with nbr := Tab.upd Neighbour.init s.fab.nbr k f } }

/-- Mailbox ring `r`. -/
def getRing (s : State) (r : Nat) : Ring := Tab.get Ring.init s.mbx.rings r
/-- Change one ring. -/
def updRing (r : Nat) (f : Ring → Ring) (s : State) : State :=
  { s with mbx := { s.mbx with rings := Tab.upd Ring.init s.mbx.rings r f } }

/-- The context in slot `c`, if one is created. -/
def getCtx (s : State) (c : Nat) : Option Ctx := Tab.get none s.ctxs c
/-- Write a context slot. -/
def setCtx (c : Nat) (v : Option Ctx) (s : State) : State := { s with ctxs := Tab.set none s.ctxs c v }
/-- Change the context in a slot, if there is one. -/
def updCtx (c : Nat) (f : Ctx → Ctx) (s : State) : State :=
  match getCtx s c with
  | none => s
  | some x => setCtx c (some (f x)) s

/-- Slots that hold a context, in ascending order. -/
def ctxSlots (s : State) : List Nat := (List.range 16).filter (fun c => (getCtx s c).isSome)

/-- The slot of the context with this ID. -/
def slotOf (s : State) (id : W16) : Option Nat :=
  (ctxSlots s).find? (fun c => match getCtx s c with | some x => x.ctxid == id | none => false)

/-- The context ID of a slot. -/
def ctxIdOf (s : State) (c : Option CtxI) : Option W16 :=
  match c with
  | none => none
  | some i => (getCtx s i.val).map (fun x => x.ctxid)

/-! ### Places -/

/-- The sconce of a physical lantern (R252). -/
def sconceOf (l : Nat) : Nat := l / 68
/-- The sconce of a logical lantern (R394). -/
def sconceOfL (ll : Nat) : Nat := ll / 64
/-- A sconce, and so a lantern of it, lies in the east half (R6). -/
def eastSconce (n : Nat) : Bool := decide (8 ≤ n)
/-- The physical lanterns of a sconce. -/
def lansOf (n : Nat) : List Nat := (List.range 68).map (fun i => 68 * n + i)
/-- The context that owns a lantern's sconce. -/
def ownerOfLan (s : State) (l : Nat) : Option CtxI := (getScn s (sconceOf l)).owner
/-- The sconces a context slot owns. -/
def sconcesOf (s : State) (c : Nat) : List Nat :=
  (List.range 16).filter (fun n => (getScn s n).owner.map (fun i => i.val) == some c)
/-- The physical lantern that serves a logical one. -/
def lanOf (s : State) (ll : Nat) : Option Nat :=
  (lansOf (sconceOfL ll)).find? (fun p =>
    let v := getLan s p
    v.st == .service && v.llan.map (fun i => i.val) == some ll)
/-- The physical lantern that carries a logical index, in service or on its way there. -/
def lanMapped (s : State) (ll : Nat) : Option Nat :=
  (lansOf (sconceOfL ll)).find? (fun p => (getLan s p).llan.map (fun i => i.val) == some ll)
/-- The physical wick that serves logical wick `lw` of a lantern (R112): LNT_MAP0 to LNT_MAP2 hold six 5-bit entries
each. -/
def mapOf (v : Lantern) (lw : Nat) : Nat :=
  let r := if lw < 6 then v.map0.toNat else if lw < 12 then v.map1.toNat else v.map2.toNat
  r / 2 ^ (5 * (lw % 6)) % 32
/-- Write one entry of the map. -/
def mapSet (v : Lantern) (lw pw : Nat) : Lantern :=
  let put (x : BitVec 30) : BitVec 30 :=
    let i := 5 * (lw % 6)
    BitVec.ofNat 30 (x.toNat - x.toNat / 2 ^ i % 32 * 2 ^ i + pw % 32 * 2 ^ i)
  if lw < 6 then { v with map0 := put v.map0 }
  else if lw < 12 then { v with map1 := put v.map1 }
  else { v with map2 := put v.map2 }

/-- The local time: CCLK cycles since power-on (R279). -/
def ltime (s : State) : W64 := BitVec.ofNat 64 (s.clk.aclk / 3)
/-- The flicker counter. -/
def nowF (s : State) : Nat := s.lmp.flicker.val.toNat
/-- Start-up has reached LMP_CFG.EN (R292). -/
def ready (s : State) : Bool := s.lmp.en
/-- The package's own ID. -/
def ownId (s : State) : Pkg := s.fab.myid

/-- Add one to a wrapping 64-bit counter. -/
def Ctr64.inc (c : Ctr64) : Ctr64 := { c with val := c.val + 1 }
/-- Add to a wrapping 64-bit counter. -/
def Ctr64.add (c : Ctr64) (k : Nat) : Ctr64 := { c with val := c.val + BitVec.ofNat 64 k }

/-- Draw a number of the keeper's random source that no command carries (log 5). -/
def drawRandom (s : State) : W64 × State := (Config.random s.fresh, { s with fresh := s.fresh + 1 })

/-- Words the manual gives no layout for, by command or notification code (log 9). -/
def freeWords (op n : Nat) (s : State) : List W32 × State :=
  ((List.range n).map (fun i => Config.outWord op (s.fresh + i)), { s with fresh := s.fresh + n })

/-! ### Input slots -/

/-- Slot 0 or slot 1 of a lantern's buffer. -/
def getSlot (v : Lantern) (one : Bool) : Slot := if one then v.slot1 else v.slot0
/-- Write a slot. -/
def setSlot (v : Lantern) (one : Bool) (x : Slot) : Lantern := if one then { v with slot1 := x } else { v with slot0 := x }

/-- A slot that fills with a vector, or holds it ready, is FREE again. -/
def freeVec (vec : Nat) (v : Lantern) : Lantern :=
  let f (x : Slot) : Slot := if x.vec = vec ∧ (x.st = .filling ∨ x.st = .ready ∨ x.st = .failed) then Slot.init else x
  { v with slot0 := f v.slot0, slot1 := f v.slot1 }

/-- A flare that leaves its queue unfired frees the slots that wait for it, and its waiting broadcasts go (DESIGN CHOICE,
log 111). -/
def freeFlare (s : State) (r : FlareReq) : State :=
  r.lans.foldl (fun s ll => match lanOf s ll.val with
    | none => s
    | some p => { updLan p (freeVec r.vec) s with xbr := { s.xbr with
        waiting := s.xbr.waiting.filter (fun w => !(w.lan.val == p && w.blk.vec == r.vec)) } }) s

/-- Queued flares of an instance, and its row chains that wait, go (R177). -/
def dropQueued (c : Nat) (inst : W32) (s : State) : State :=
  let x := getLctx s c
  let s := ((x.queue ++ x.refire).filter (fun r => r.inst == inst)).foldl freeFlare s
  updLctx c (fun x => { x with queue := x.queue.filter (fun r => r.inst != inst), refire := x.refire.filter (fun r => r.inst != inst),
                               tails := x.tails.filter (fun t => t.req.inst != inst) }) s

/-! ### The Garvy Link's send side -/

/-- Companion memory and coherence traffic flow: the link is ACTIVE, or in RECOVERY with its messages kept (R350). -/
def gvlUp (s : State) : Bool := s.gvl.st == .active || s.gvl.st == .recovery

/-- Append a message to the ordered POST and REQ stream (R359). -/
def gvlStream (vc : BitVec 3) (m : GMsg) (s : State) : State :=
  { s with gvl := { s.gvl with qStream := s.gvl.qStream ++ [(vc, m)] } }

/-- A message of Yatil with every field clear but its opcode (R361). -/
def gmsg (opc : Nat) : GMsg :=
  { opc := BitVec.ofNat 8 opc, tag := 0, ctx := 0, fw := false, cg := false, addr := 0, word := 0, status := 0,
    data := [] }

/-- Answer on the RSP channel. -/
def gvlRsp (m : GMsg) (s : State) : State := { s with gvl := { s.gvl with qRsp := s.gvl.qRsp ++ [m] } }

/-- The device address of companion address `a` (R366). -/
def compAddr (a : W64) : DAddr := BitVec.ofNat 52 (0x8000000000000 + a.toNat % 2 ^ 48)

/-- A whole-line write to companion memory: the cached line is dropped, then DWR is sent (R366, R367). -/
def gvlWriteLine (a : W64) (data : List Byte) (s : State) : State :=
  let line := a.toNat / 64
  { s with gvl := { s.gvl with
      cache := s.gvl.cache.filter (fun x => x.1 ≠ line),
      qStream := s.gvl.qStream ++ [(0, { gmsg 0x13 with fw := true, addr := compAddr a, data := data })] } }

/-- Put a SIG of a vector in the stream; its vector stands in address bits [11:2] (R361). -/
def gvlSendSig (v : Nat) (w : W32) (s : State) : State :=
  gvlStream 0 { gmsg 0x14 with fw := true, addr := BitVec.ofNat 52 (v * 4), word := w } s

/-- Raise a signal vector: at most one SIG per interval, the latest word merged (R370). -/
def gvlSig (v : Nat) (w : W32) (s : State) : State :=
  let x := Tab.get { isOpen := false, waiting := none } s.gvl.sigs v
  if s.gvl.sigIval = 0 then gvlSendSig v w s
  else if x.isOpen then
    { s with gvl := { s.gvl with
        sigs := Tab.set { isOpen := false, waiting := none } s.gvl.sigs v { x with waiting := some w } } }
  else
    gvlSendSig v w { s with gvl := { s.gvl with
      sigs := Tab.set { isOpen := false, waiting := none } s.gvl.sigs v { isOpen := true, waiting := none } } }

/-- Signal a change of link or withhold state on vector 65 (R370); the manual gives its WORD no meaning: a free value
(log 9). -/
def sigState (s : State) : State :=
  let w := freeWords 65 1 s
  gvlSig 65 (w.1.getD 0 0) w.2

/-! ### Completions and notifications -/

/-- The final completion of a command. -/
def cplOf (d : Desc) (st : W16) (used : Nat) (res : List W32) : Cpl :=
  { tag := d.tag, status := st, kind := 1, opcode := d.opcode, outused := BitVec.ofNat 32 used, result := res }

/-- The 64 bytes of a completion (R389). -/
def Posted.bytes (p : Posted) : List Byte :=
  leBytes 8 p.cpl.tag.toNat ++ leBytes 2 p.cpl.status.toNat ++ [p.cpl.kind, if p.phase then 1 else 0] ++
    leBytes 2 p.cpl.opcode.toNat ++ [BitVec.ofNat 8 p.ring.val, 0] ++ leBytes 4 p.sqhead.toNat ++
    leBytes 4 p.cpl.outused.toNat ++ leBytes 8 p.localt.toNat ++
    (List.range 8).flatMap (fun i => leBytes 4 (p.cpl.result.getD i 0).toNat)

/-- Write a completion at the ring's tail, then signal the ring (R383, R389, R370). -/
def postRaw (r : RingI) (c : Cpl) (s : State) : State :=
  let g := getRing s r.val
  let n := g.cqtail.toNat
  let sz := 2 ^ g.cqlog2.toNat
  let p : Posted := { ring := r, addr := g.cqbase + BitVec.ofNat 64 (n % sz * 64), phase := decide (n / sz % 2 = 1),
                      sqhead := g.sqhead, localt := ltime s, cpl := c }
  let s := updRing r.val (fun g => { g with cqtail := g.cqtail + 1 }) { s with posted := s.posted ++ [p] }
  gvlSig r.val (g.cqtail + 1) (gvlWriteLine p.addr p.bytes s)

/-- Completions are held: the ring is OFF or the link is not carrying traffic (R382, R385). -/
def ringHeld (s : State) (r : Nat) : Bool := (getRing s r).st == .off || !gvlUp s

/-- No ring takes a posting any more: the package has withheld (R373). -/
def ringsStopped (s : State) : Bool := s.snuf.wheld

/-- Hold a completion in firmware memory (R385). -/
def holdCpl (r : RingI) (c : Cpl) (s : State) : State :=
  updRing r.val (fun g => { g with heldCpl := g.heldCpl ++ [c] }) s

/-- Post a command completion, or hold it; it is never dropped for lack of room (R385). -/
def postCpl (r : RingI) (c : Cpl) (s : State) : State :=
  if ringsStopped s then s else if ringHeld s r.val then holdCpl r c s else postRaw r c s

/-- Free completion entries of a ring (R384). -/
def ringFree (g : Ring) : Nat := 2 ^ g.cqlog2.toNat - (g.cqtail - g.cqdb).toNat

/-- Post a notification or ember copy: held for room, and lost beyond 4,096 held (R385). -/
def postNote (r : RingI) (c : Cpl) (s : State) : State :=
  if ringsStopped s then s
  else if ringHeld s r.val then holdCpl r c s
  else
    let g := getRing s r.val
    if g.notes = [] ∧ ringFree g ≠ 0 then postRaw r c s
    else if g.notes.length < 4096 then updRing r.val (fun g => { g with notes := g.notes ++ [c] }) s
    else updRing r.val (fun g => { g with lost := satInc g.lost, nlost := true, lostSince := g.lostSince + 1 }) s

/-- Take one command out of a ring's commands in progress. -/
def dropProg (d : Desc) (s : State) : State :=
  updRing d.ring.val (fun g => { g with prog := g.prog.erase d }) s

/-- End a command: its one final completion is posted (R390). -/
def complete (d : Desc) (st : W16) (used : Nat) (res : List W32) (s : State) : State :=
  postCpl d.ring (cplOf d st used res) (dropProg d s)

/-- End a command with a status alone. -/
def finish (d : Desc) (st : W16) (s : State) : State := complete d st 0 [] s

/-- Keep a command in progress until a later event ends it. -/
def keepProg (d : Desc) (s : State) : State :=
  updRing d.ring.val (fun g => if g.prog.contains d then g else { g with prog := g.prog ++ [d] }) s

/-- The lowest-numbered ring of a context (R390). -/
def ctxRing (s : State) (c : Nat) : Option RingI :=
  (List.finRange 64).find? (fun r => (getRing s r.val).ctx.map (fun i => i.val) == some c)

/-- A notification to a context's ring, or to ring 0 (R390). -/
def notify (c : Option Nat) (code st : W16) (res : List W32) (s : State) : State :=
  let n : Cpl := { tag := 0, status := st, kind := 3, opcode := code, outused := 0, result := res }
  match c with
  | none => postNote 0 n s
  | some i => match ctxRing s i with
    | none => s
    | some r => postNote r n s

/-! ### Embers -/

/-- The 64-byte record's first 32 bytes as eight words (R503). -/
def Ember.words (e : Ember) : List W32 :=
  let flags := (if e.ctxid.isSome then 1 else 0) + (if e.summary then 2 else 0) + (if e.final then 4 else 0)
  let pkg := match e.pkg with | none => 0 | some p => 0x8000 + p.toNat
  [ BitVec.ofNat 32 (1 + e.sev.toNat * 2 ^ 8 + e.code.toNat * 2 ^ 16), BitVec.ofNat 32 (e.srcidx.toNat + flags * 2 ^ 16),
    BitVec.ofNat 32 ((e.ctxid.getD 0).toNat + pkg * 2 ^ 16), e.num, BitVec.ofNat 32 e.localt.toNat,
    BitVec.ofNat 32 (e.localt.toNat / 2 ^ 32), e.reqtag, e.arg0 ]

/-- Form an ember at the next sequence number (R503, R507). -/
def formEmber (s : State) (e : EmberReq) : Ember :=
  { sev := e.sev, code := e.code, srcidx := e.srcidx, summary := false, final := e.final, ctxid := e.ctxid,
    pkg := if s.fab.myidV then some s.fab.myid else none, num := s.mgt.nextSeq, localt := ltime s, reqtag := e.reqtag,
    arg0 := e.arg0, arg1 := e.arg1, resets := s.clk.rstCount }

/-- The oldest ember of a severity that passes a test is taken out. -/
def dropOldest (p : Ember → Bool) (q : List Ember) : Option (List Ember) :=
  (takeFirst p q).map (fun x => x.2)

/-- An ember arrives at a management queue (R509): the new queue, and whether an ember was dropped. -/
def queueEmber (e : Ember) (q : List Ember) : List Ember × Bool :=
  let q' := q ++ [e]
  if q.length < 1024 then (q', false)
  else match dropOldest (fun x => x.sev.toNat ≤ 1) q' with
    | some r => (r, true)
    | none => match dropOldest (fun x => x.sev.toNat ≤ 2) q' with
      | some r => (r, true)
      | none => (q', false)

/-- Put an ember into one path's queue; a drop counts (R509). -/
def pathPut (e : Ember) (udp : Bool) (s : State) : State :=
  let p := if udp then s.mgt.udp else s.mgt.bus
  let r := queueEmber e p.queue
  let p' := { p with queue := r.1, dropped := if r.2 then p.dropped + 1 else p.dropped }
  let m := if udp then { s.mgt with udp := p' } else { s.mgt with bus := p' }
  { s with mgt := if r.2 then { m with droppedCnt := satInc m.droppedCnt, qovf := true } else m }

/-- The completion that carries an ember to a ring (R389, R503). The manual gives no OPCODE for it: a free value
(log 9). -/
def emberCpl (e : Ember) : Cpl :=
  { tag := 0, status := 0, kind := 4, opcode := BitVec.ofNat 16 (Config.outWord 4 0).toNat, outused := 0,
    result := e.words }

/-- The ring an ember goes to (R390, R471). -/
def emberRing (s : State) (e : Ember) : Option RingI :=
  match e.ctxid with
  | none => some 0
  | some id => match slotOf s id with
    | none => none
    | some c => ctxRing s c

/-- Deliver an ember: the log, its ring with SIG vector 64, both management queues (R506); after a withhold the
queues alone (R511). It takes the next sequence number. -/
def deliverEmber (e : Ember) (s : State) : State :=
  let e := { e with num := s.mgt.nextSeq }
  let s := { s with mgt := { s.mgt with nextSeq := s.mgt.nextSeq + 1 } }
  let s :=
    if s.snuf.wheld then s
    else
      let s := { s with mgt := { s.mgt with log := lastN 65536 (s.mgt.log ++ [e]) } }
      match emberRing s e with
      | none => s
      | some r => gvlSig 64 e.num (postNote r (emberCpl e) s)
  pathPut e true (pathPut e false s)

/-- The rate window of a key. -/
def findWin (k : Option (W16 × W16 × Option W16)) (l : List RateWin) : Option RateWin :=
  l.find? (fun w => w.key == k)

/-- Pass an ember through its rate window (R508): the state with the window changed, and whether it is delivered. -/
def rateLimit (k : Option (W16 × W16 × Option W16)) (e : Ember) (s : State) : State × Bool :=
  match findWin k s.mgt.wins with
  | none =>
    ({ s with mgt := { s.mgt with wins := s.mgt.wins ++ [{ key := k, delivered := 1, suppressed := 0, last := none }] } },
      true)
  | some w =>
    if w.delivered < s.mgt.rate.toNat then
      ({ s with mgt := { s.mgt with
          wins := updIf (fun x => x.key == k) (fun x => { x with delivered := x.delivered + 1 }) s.mgt.wins } }, true)
    else
      ({ s with mgt := { s.mgt with
          wins := updIf (fun x => x.key == k) (fun x => { x with suppressed := x.suppressed + 1, last := some e })
            s.mgt.wins,
          suppressed := satInc s.mgt.suppressed, suppr := true } }, false)

/-- Raise an ember (R506): nothing before the presence has started (R507); withheld and fatal ones are not limited;
otherwise the key's window, or the shared overflow key beyond 256 keys (R508). -/
def raiseEmber (r : EmberReq) (s : State) : State :=
  if s.mgt.started then
    let e := formEmber s r
    if 3 ≤ r.sev.toNat then deliverEmber e s
    else
      let k := some (r.code, r.srcidx, r.ctxid)
      let keys := (s.mgt.wins.filter (fun w => w.key.isSome)).length
      let k := if (findWin k s.mgt.wins).isSome ∨ keys < 256 then k else none
      let x := rateLimit k e s
      if x.2 then deliverEmber e x.1 else x.1
  else s

/-- An ember of R505 with its severity, unit, context and ARG0. -/
def emb (sev code src : Nat) (ctx : Option W16) (arg0 : Nat) : EmberReq :=
  { sev := BitVec.ofNat 8 sev, code := BitVec.ofNat 16 code, srcidx := BitVec.ofNat 16 src, final := false, ctxid := ctx,
    reqtag := 0, arg0 := BitVec.ofNat 32 arg0, arg1 := 0 }

/-- Raise an ember of the table. -/
def ember (sev code src : Nat) (ctx : Option W16) (arg0 : Nat) (s : State) : State :=
  raiseEmber (emb sev code src ctx arg0) s

/-! ### Fabric messages -/

/-- A link is UP. -/
def linkUp (s : State) (k : Nat) : Bool := (getLink s k).st == .up

/-- The routing entry of a destination in the active bank (R328, R329). -/
def routeOf (s : State) (dst : Nat) : Route :=
  Tab.get Route.init s.fab.routes ((if s.fab.bank then 4096 else 0) + dst)

/-- The link a message for a destination leaves on: primary, then alternate, else none (R328). Links whose routes are
off after a change of peer carry none (R317). -/
def nextHop (s : State) (dst : Nat) : Option Nat :=
  let r := routeOf s dst
  let ok (k : LinkI) : Bool := linkUp s k.val && !(getLink s k.val).routesOff
  if r.pv && ok r.plink then some r.plink.val
  else if r.av && ok r.alink then some r.alink.val
  else none

/-- The virtual lane of a message kind (R323). -/
def kindVl (k : Nat) : Option Nat :=
  if k = 0x10 ∨ k = 0x15 then some 1
  else if k = 0x11 then some 2
  else if k = 0x12 then some 7
  else if k = 0x13 then some 0
  else if k = 0x14 ∨ (0x20 ≤ k ∧ k ≤ 0x26) then some 3
  else if 0x30 ≤ k ∧ k ≤ 0x3F then some 5
  else none

/-- Put an item in a link's egress queue. -/
def linkPut (k vl : Nat) (i : Item) (s : State) : State :=
  updLink k (fun x => { x with queues := Tab.upd [] x.queues vl (fun q => q ++ [i]) }) s

/-- Send a message on its way: to this package itself, on its next hop, or held for want of one (R328, R316). -/
def egress (m : Msg) (s : State) : State :=
  if m.hdr.dst = s.fab.myid then
    { s with fab := { s.fab with inbox := s.fab.inbox ++ [(0, .msg m)] } }
  else match nextHop s m.hdr.dst.toNat with
    | some k => linkPut k m.vl.toNat (.msg m) s
    | none => { s with fab := { s.fab with noRoute := s.fab.noRoute ++ [m], tstat := setBit s.fab.tstat 2 } }

/-- Bytes of a message (R322, R332, R335, R339, R342, R344, R494). -/
def bodyLen (b : Body) : Nat :=
  match b with
  | .act _ d => 64 + 260 * ((d.length + 255) / 256)
  | .s40 _ d => 96 + 260 * ((d.length + 255) / 256)
  | .notice _ => 48
  | .curfew _ => 64
  | .taper t => 64 + t.seglen.toNat
  | .taperReq _ => 64
  | .tform _ _ _ _ => 40
  | .tdigest _ => 64
  | .tact _ d => 64 + 260 * ((d.length + 255) / 256)
  | .tresult _ => 64
  | .theart _ _ => 40
  | .none => 32

/-- A header with nothing set but kind and destination. -/
def hdrOf (kind dst : Nat) : Hdr :=
  { kind := BitVec.ofNat 8 kind, clean := false, daylight := false, blocked := false, prompt := false, cls := 0,
    dst := BitVec.ofNat 12 dst, src := 0, ctx := 0, len := 0, msn := 0, reqtag := 0, tindex := 0, hops := 64, seg := 0,
    inst := 0 }

/-- A request's result stream is open once an ACT or S40 of it is received or sent (R341); received ones count their epoch and
layer (R343, R446). -/
def touchStream (m : Msg) (received : Bool) (s : State) : State :=
  let key : Option (Pkg × W32 × W16) := match m.body with
    | .act a _ => some (a.final, a.epoch, a.layer)
    | .s40 r _ => some (r.final, r.epoch, r.layer)
    | _ => none
  match key with
  | none => s
  | some (f, k) =>
    let h := m.hdr
    let is (t : Stream) : Bool := t.ctx == h.ctx && t.inst == h.inst
    let ls := if received then [k] else []
    let add (t : Stream) : Stream := { t with tindex := h.tindex, layers := t.layers ++ ls.filter (fun x => !t.layers.contains x) }
    let new : Stream := { ctx := h.ctx, reqtag := h.reqtag, inst := h.inst, final := f, tindex := h.tindex, layers := ls }
    let l := if s.fab.streams.any is then updIf is add s.fab.streams else s.fab.streams ++ [new]
    { s with fab := { s.fab with streams := l } }

/-- Send a message of this package: its number per destination and lane, its own ID and HOPS 64 (R324, R325); a
package without an ID sends nothing (R327). -/
def sendMsg (h : Hdr) (b : Body) (s : State) : State :=
  if s.fab.myidV then
    match kindVl h.kind.toNat with
    | none => s
    | some vl =>
      let key := h.dst.toNat * 8 + vl
      let m : Msg := { hdr := { h with src := s.fab.myid, hops := 64, msn := Tab.get 0 s.fab.msn key,
                                       len := BitVec.ofNat 32 (bodyLen b) },
                       vl := BitVec.ofNat 3 vl, body := b }
      let s := { s with fab := { s.fab with msn := Tab.upd 0 s.fab.msn key (fun n => n + 1) } }
      let s := if h.kind = 0x10 ∨ h.kind = 0x11 then touchStream m false { s with fab := { s.fab with kept := s.fab.kept ++ [m] } } else s
      egress m s
  else s

/-- The request part of a header. -/
structure ReqId where
  ctx : W16
  reqtag : W32
  inst : W32
  seg : Byte
deriving DecidableEq, Repr

/-- Send a notice (R339). -/
def sendNotice (kind : Nat) (dst : Pkg) (q : ReqId) (tindex : W32) (arg0 : W64) (arg1 : W32) (code : W16)
    (s : State) : State :=
  sendMsg { hdrOf kind dst.toNat with ctx := q.ctx, reqtag := q.reqtag, inst := q.inst, seg := q.seg, tindex := tindex }
    (.notice { arg0 := arg0, arg1 := arg1, code := code }) s

/-- The request a message belongs to. -/
def ridOf (h : Hdr) : ReqId := { ctx := h.ctx, reqtag := h.reqtag, inst := h.inst, seg := h.seg }

/-- The request number of a tag (R403): its low half. -/
def numOf (t : W32) : W16 := BitVec.ofNat 16 t.toNat

/-- Count a dropped message (R323). -/
def countDrop (s : State) : State := { s with fab := { s.fab with drops := satInc s.fab.drops } }

/-- Set a bit of FAB_TSTAT. -/
def tstatSet (i : Nat) (s : State) : State := { s with fab := { s.fab with tstat := setBit s.fab.tstat i } }

/-- Report the loss of an ACT or S40 message to its final package, at most once per request (R338). -/
def reportLoss (m : Msg) (code : W16) (s : State) : State :=
  let final : Option Pkg := match m.body with
    | .act a _ => some a.final
    | .s40 r _ => some r.final
    | _ => none
  match final with
  | none => s
  | some f =>
    let k := (m.hdr.ctx, numOf m.hdr.reqtag, m.hdr.inst)
    if k ∈ s.fab.lossSent then s
    else sendNotice 0x20 f (ridOf m.hdr) m.hdr.tindex (ltime s) 0 code
      { s with fab := { s.fab with lossSent := k :: s.fab.lossSent } }

end Sys2Proof.Machine
end

