-- ==== Sys2Proof/Machine/Boundary.lean ====
section
/-! DEFINITION. The trim store's codes (R182 to R185) and what a lantern does at a flare boundary (R535): takeover swap,
issue-interval change, live trim change and the start of a drive-reference calibration. -/

namespace Sys2Proof.Machine

/-! ### Trim codes -/

/-- The stored code of one coefficient: kind 0 offset, 1 gain, 2 drive; sets 0 to 4 (R182, R183). -/
def trimAt (t : Tab Int) (kind set col : Nat) : Int := Tab.get 0 t ((kind * 5 + set) * 520 + col)
/-- A wick's stored code. -/
def trimGet (w : Wick) (kind set col : Nat) : Int := trimAt w.trim kind set col

/-- Set `j`, position `i` and the kind of the temperature point (R184): one set alone, or between two. -/
def trimSets (tp : Nat) : Nat × Option Nat :=
  if tp ≤ 60 then (0, none)
  else if 180 ≤ tp then (4, none)
  else
    let j := (tp - 60) / 30
    let i := (tp - 60) % 30
    if i = 0 then (j, none) else (j, some i)

/-- The code a step uses at a temperature point (R184). -/
def trimCode (t : Tab Int) (kind col tp : Nat) : Int :=
  match trimSets tp with
  | (j, none) => trimAt t kind j col
  | (j, some i) =>
    let a := trimAt t kind j col
    let b := trimAt t kind (j + 1) col
    rneDiv (a * 30 + (b - a) * (i : Int)) 30

/-- A corrected code clips to six bits (R185): the code, and whether it clipped. -/
def clip6 (x : Int) : Int × Bool := (clampI (-32) 31 x, x < -32 ∨ 31 < x)

/-- Add a correction to one set's code. -/
def trimAdd1 (w : Wick) (kind set col : Nat) (d : Int) : Wick × Bool :=
  let r := clip6 (trimGet w kind set col + d)
  ({ w with trim := Tab.set 0 w.trim ((kind * 5 + set) * 520 + col) r.1 }, r.2)

/-- Add a correction at a temperature point: to both bracketing sets, or to the one set R184 returns (R185). -/
def trimAdd (w : Wick) (kind col tp : Nat) (d : Int) : Wick × Bool :=
  match trimSets tp with
  | (j, none) => trimAdd1 w kind j col d
  | (j, some _) =>
    let a := trimAdd1 w kind j col d
    let b := trimAdd1 a.1 kind (j + 1) col d
    (b.1, a.2 || b.2)

/-- Apply a correction to a wick of a lantern; a clip sets CAL_STAT.LIMIT and raises a notice ember (R185). -/
def trimApply (l pw kind col tp : Nat) (d : Int) (s : State) : State :=
  let r := trimAdd (getWick s l pw) kind col tp d
  let s := setWick l pw r.1 s
  if r.2 then ember 0 0x0501 l none col (updLan l (fun v => { v with calStat := setBit v.calStat 5 }) s) else s

/-- Note the coefficients of the sets in use at a temperature point as a full trim leaves them (R192, R472). -/
def noteFull (tp : Nat) (w : Wick) : Wick :=
  let sets := match trimSets tp with
    | (j, none) => [j]
    | (j, some _) => [j, j + 1]
  let keys := (List.range 3).flatMap (fun kind => sets.flatMap (fun j =>
    (List.range 520).map (fun c => (kind * 5 + j) * 520 + c)))
  { w with full := keys.foldl (fun t k => Tab.set 0 t k (Tab.get 0 w.trim k)) w.full }

/-- A lantern's diode (R203). -/
def diodeOf (l : Nat) : Nat := 2 * sconceOf l + (if l % 68 < 34 then 0 else 1)

/-- The temperature point of a lantern's diode now (R116, R207). -/
def tpointNow (s : State) (l : Nat) : Nat :=
  let t8 := (s.mon.temp.getD (diodeOf l) (0, 0)).2
  clampN 0 300 ((t8 + 2) / 4).toNat

/-! ### Settings of the trim engine and the audits (R212, R250) -/

/-- The trim engine's phase between its jobs: live windows while they are enabled in SERVICE. -/
def restPhase (v : Lantern) : CalPhase := if v.liveEn ∧ v.st = .service then .live else .idle

/-- CAL_CFG (R212): ROTPER is clamped; LIVE_EN takes effect between the engine's jobs. -/
def calCfgSet (w : W32) (v : Lantern) : Lantern :=
  let v := { v with rotEn := bitAt w 31, liveEn := bitAt w 30, rotper := BitVec.ofNat 12 (clampN 20 3600 (fld w 27 16)) }
  if v.phase = .idle ∨ v.phase = .live then { v with phase := restPhase v } else v

/-- CAL_DRCFG (R212): both fields are clamped. -/
def calDrSet (w : W32) (v : Lantern) : Lantern :=
  { v with drdt := BitVec.ofNat 4 (clampN 1 15 (fld w 19 16)), drper := BitVec.ofNat 10 (clampN 2 600 (fld w 9 0)) }

/-- CHK_CFG (R250): AUDLOG is clamped. -/
def audlogSet (w : W32) (v : Lantern) : Lantern := { v with audlog := BitVec.ofNat 5 (clampN 8 16 (fld w 4 0)) }

/-! ### The flare boundary -/

/-- The takeover swap (R113, R229): map entry and SPARE exchange in one step, or the swap is refused when the spare has
left SPARE. A substituted wick's former place goes to QUARANTINED before any other use. -/
def swapAtBoundary (l : Nat) (s : State) : State :=
  let v := getLan s l
  if v.arm then
    let lw := v.swapLw.val
    match v.spare with
    | none => setLan l { v with arm := false, stat := setBit v.stat 4 } s
    | some sp =>
      if (getWick s l sp.val).st = .spare then
        let old := mapOf v lw
        let subst := v.subst.toNat / 2 ^ lw % 2 = 1
        let v' := mapSet { v with arm := false, stat := setBit v.stat 5, subst := clrBit v.subst lw,
                                  spare := if h : old < 17 then some ⟨old, h⟩ else none } lw sp.val
        let s := setLan l v' s
        let s := updWick l sp.val (fun w => { w with st := .service, lwick := some v.swapLw }) s
        updWick l old (fun w => { w with st := if subst then .quarantined else .spare, lwick := none }) s
      else setLan l { v with arm := false, stat := setBit v.stat 4 } s
  else s

/-- Live trim changes that waited (R189). -/
def trimAtBoundary (l : Nat) (s : State) : State :=
  let v := getLan s l
  let s := setLan l { v with trimNext := [] } s
  v.trimNext.foldl (fun s c =>
    updWick l c.pw.val (fun w => { w with live := Tab.upd 0 w.live (c.kind * 520 + c.col) (fun x => x + c.delta) })
      (trimApply l c.pw.val c.kind c.col v.tpoint.toNat c.delta s)) s

/-- The ACLK divider in force on a lantern's half (R280): 0 undivided. -/
def divNow (s : State) (l : Nat) : Nat := if eastSconce (sconceOf l) then s.clk.acE.toNat else s.clk.acW.toNat

/-- A drive-reference calibration begins (R197, R198): its probe steps draw rows from `seed` on. -/
def drStart (now seed : Nat) (v : Lantern) : Lantern :=
  { v with drDue := false, drAtBoundary := false, drcal := true, phase := .drRun, drBegan := some now, drTpoint := v.tpoint,
           drSeed := seed, drStep := 0, drGot := 0, drA := [], drB := [] }

/-- A lantern's calibration begins now. -/
def drBegin (l : Nat) (s : State) : State :=
  setLan l (drStart (nowF s) s.fresh (getLan s l)) { s with fresh := s.fresh + 983040 }

/-- Everything that takes effect at a lantern's flare boundary; a swap comes before a calibration (R210). -/
def atBoundary (l : Nat) (s : State) : State :=
  let s := trimAtBoundary l (swapAtBoundary l s)
  let s := updLan l (fun v =>
    let v := match v.ivalNext with
      | none => v
      | some i => { v with ival := i, ivalNext := none }
    { v with launched := false, substNow := v.subst }) s
  if (getLan s l).drAtBoundary ∧ (getLan s l).phase = .drWait ∧ divNow s l = 0 then drBegin l s else s

/-- A change waits for the lantern's flare boundary (R535). -/
def boundaryDue (v : Lantern) : Bool :=
  v.arm || v.ivalNext.isSome || !v.trimNext.isEmpty || v.drAtBoundary || v.subst != v.substNow

end Sys2Proof.Machine
end

