-- ==== Sys2Proof/Machine/Lamp.lean ====
section
/-! DEFINITION. The lamplighter: planning of fire units (R32, R154, R157), readiness, selection and filling (R156 to
R167), launching, discarding flares (R174), the governor's figures (R158, R159, R169) and the freeze. -/

namespace Sys2Proof.Machine

/-! ### Input slots and planning -/

/-- The slot a lantern fires next: of its READY slots the one that became READY first (R103). -/
def nextSlot (v : Lantern) : Option Bool :=
  if v.slot0.st = .ready then (if v.slot1.st = .ready ∧ v.slot1.order < v.slot0.order then some true else some false)
  else if v.slot1.st = .ready then some true
  else none

/-- The slot from which a lantern may fire a vector now. -/
def slotFor (v : Lantern) (vec : Nat) : Option Bool := (nextSlot v).filter (fun one => (getSlot v one).vec == vec)

/-- Input slices Q of a lantern's shape (R105). -/
def shapeQ (v : Lantern) : Nat := 16 / 2 ^ v.shape.toNat

/-- One element of a slot's plane. -/
def elemAt (x : Slot) (lpass : Bool) (i : Nat) : Int :=
  (Tab.get [] x.blocks ((if lpass then 64 else 0) + i / 512)).getD (i % 512) 0

/-- The driven rows of a slice between two rows, with their values: a row whose input is 0 is not driven (R27). -/
def driven (x : Slot) (lpass : Bool) (slice lo hi : Nat) : List (Nat × Int) :=
  ((List.range (hi - lo)).map (fun i => (lo + i, elemAt x lpass (slice * 2048 + lo + i)))).filter (fun p => p.2 ≠ 0)

/-- Sum of magnitudes. -/
def l1Of (x : List (Nat × Int)) : Nat := sumN (x.map (fun p => p.2.natAbs))
/-- Sum of values. -/
def sumOf (x : List (Nat × Int)) : Int := sumI (x.map (fun p => p.2))

/-- The counts of one quarter, from the buffer (R104). -/
def qcount (x : Slot) (lpass : Bool) (slice q : Nat) : QCount :=
  Tab.get { nz := 0, l1 := 0, sum := 0 } x.counts ((if lpass then 64 else 0) + slice * 4 + q)

/-- The smallest range exponent that admits a magnitude (R30). -/
def expOf (l1 : Nat) : Nat := ((List.range 7).find? (fun e => l1 ≤ 96 * 2 ^ e)).getD 6

/-- The row groups of plan_step (R32) as (first quarter, quarters), with their count. -/
def planGroups (l1max force : Nat) (q0 q1 q2 q3 : Nat) : List (Nat × Nat) :=
  let l1 := q0 + q1 + q2 + q3
  if l1 = 0 then []
  else if l1 ≤ l1max ∧ force = 0 then [(0, 4)]
  else if q0 + q1 ≤ l1max ∧ q2 + q3 ≤ l1max ∧ force ≠ 2 then [(0, 2), (2, 2)]
  else [(0, 1), (1, 1), (2, 1), (3, 1)]

/-- Rows of a wick that may be driven: a lookup wick's stop at 2 × KEYBITS (R54). -/
def rowLimit (w : Wick) : Nat := if w.mode = 1 then 2 * w.keybits.toNat else 2048

/-- The rows a step of a wick drives in a group. -/
def stepRows (w : Wick) (x : Slot) (lpass : Bool) (slice lo hi : Nat) : List (Nat × Int) :=
  (driven x lpass slice lo hi).filter (fun p => p.1 < rowLimit w)

/-- Count and magnitude of one quarter as a wick sees them: the buffer's counts, cut at the row limit of a lookup
wick. -/
def wickQ (w : Wick) (x : Slot) (lpass : Bool) (slice q : Nat) : Nat × Nat :=
  if w.mode = 1 then
    let r := stepRows w x lpass slice (512 * q) (512 * q + 512)
    (r.length, l1Of r)
  else
    let c := qcount x lpass slice q
    (c.nz, c.l1)

/-- Mark the last group that fires. -/
def markLast : List Fire → List Fire
  | [] => []
  | [u] => [{ u with last := true }]
  | u :: t => u :: markLast t

/-- The fire units of one step of a wick from the count and magnitude of its quarters (R154, R157): groups in ascending row
order, all-zero groups skipped, the row term on the first. A lookup step that FORCE splits forms one distance code per group
(DESIGN CHOICE, log 106). -/
def stepUnits (w : Wick) (lpass : Bool) (q : List (Nat × Nat)) : List Fire :=
  let m (i : Nat) : Nat := (q.getD i (0, 0)).2
  let nz := sumN (q.map (fun p => p.1))
  let gs := planGroups w.l1max.toNat w.force.toNat (m 0) (m 1) (m 2) (m 3)
  let us := (withPos 0 gs).filterMap (fun p =>
    let l1 := sumN ((List.range p.2.2).map (fun i => m (p.2.1 + i)))
    if l1 = 0 then none
    else some { lpass := lpass, lo := 512 * p.2.1, hi := 512 * (p.2.1 + p.2.2), gidx := p.1, gcnt := gs.length,
                e := if w.mode = 1 then 2 else expOf l1, cost := 8 * l1, last := false : Fire })
  match us with
  | [] => []
  | u :: t => markLast ({ u with cost := 40 * nz + u.cost } :: t)

/-- The fire units of one pass of one wick. -/
def passUnits (w : Wick) (x : Slot) (slice : Nat) (lpass : Bool) : List Fire :=
  stepUnits w lpass ((List.range 4).map (wickQ w x lpass slice))

/-- The passes of a slice, the h pass first (R92): two under two-pass input or wide fallback. -/
def slicePasses (x : Slot) (slice : Nat) : List Bool :=
  if x.twoPass || x.fallback.any (fun p => p.1 == slice) then [false, true] else [false]

/-- Counters of a planned pass (R67). -/
def countPlan (units : List Fire) (w : Wick) : Wick :=
  match units with
  | [] => { w with skips := w.skips + 1 }
  | u :: _ => if u.gcnt = 4 then { w with split4 := w.split4 + 1 }
    else if u.gcnt = 2 then { w with split2 := w.split2 + 1 } else w

/-! ### The governor's figures -/

/-- The die budget B (R158). -/
def budget (s : State) : Nat := s.pwr.arrNow * s.pwr.level.toNat * 10000000 / 432
/-- A context's share per flicker (R159). -/
def share (s : State) (c : Nat) : Nat := budget s * (getLctx s c).weight.toNat / 256

/-- The six shares in force, scaled down when they sum above the limit (R169). -/
def takeShares (p : Pwr) : Pwr :=
  let a := p.arr.toNat
  let v := p.vec.toNat
  let x := p.xbr.toNat
  let k := p.stk.toNat
  let r := p.ser.toNat
  let c := p.ctl.toNat
  let sum := a + v + x + k + r + c
  let lim := p.limit.toNat
  if sum ≤ lim then { p with arrNow := a, vecNow := v, xbrNow := x, stkNow := k, serNow := r, ctlNow := c }
  else { p with arrNow := a * lim / sum, vecNow := v * lim / sum, xbrNow := x * lim / sum, stkNow := k * lim / sum,
                serNow := r * lim / sum, ctlNow := c * lim / sum, stat := setBit p.stat 1 }

/-- The vector allowance of a window: D0 of R137 scaled by the cut level (R170), minus 1. -/
def dutyOf (vec level : Nat) : Nat :=
  let d0 := min 256 (max 1 (256 * vec / 354))
  max 1 (d0 * level / 16) - 1

/-- A window begins: the shares come into force (R169), and the vector duty with them (R137). -/
def windowBegin (p : Pwr) : Pwr :=
  let p := takeShares p
  { p with duty := BitVec.ofNat 8 (dutyOf p.vecNow p.level.toNat), cut := decide (p.level.toNat < 16), begun := true }

/-! ### Readiness and selection -/

/-- ACLK divider of a lantern's half as sampled (R175): 0 undivided, 1, 2, 3 gated. -/
def divOf (s : State) (p : Nat) : Nat := if eastSconce (sconceOf p) then s.lmp.divE.toNat else s.lmp.divW.toNat
/-- A half with this divider launches in flicker `f` (R166). -/
def launchesIn (d f : Nat) : Bool := d = 0 || (d = 1 && f % 2 = 0) || (d = 2 && f % 4 = 0)

/-- Free room in a lantern's audit area (R262): copies held and reservations open count. -/
def auditRoom (s : State) (p : Nat) : Nat :=
  let b := 68 * sconceOf p + (if p % 68 < 34 then 0 else 34)
  let used := sumN ((List.range 34).map (fun i =>
    let v := getLan s (b + i)
    v.openMarks * 98816 + sumN (v.audits.map (fun a => a.bytes))))
  2097152 - used

/-- A forced audit is due on a lantern: CHK_SINCE at its limit, CHK.AUDIT or a full journal (R226, R241). -/
def auditForced (v : Lantern) : Bool := decide (65536 ≤ v.since.toNat) || v.markNext

/-- A new audit mark has no place: 16 audits pending, or no room for a copy (R230, R262). -/
def auditFull (s : State) (p : Nat) : Bool :=
  decide (16 ≤ (getLan s p).audits.length) || decide (auditRoom s p < 98816)

/-- One lantern of a flare is ready (R156, R230): not before its first drive-reference calibration (R200). -/
def lanReady (s : State) (c vec : Nat) (p : Nat) : Bool :=
  let v := getLan s p
  v.st == .service && (ownerOfLan s p).map (fun i => i.val) == some c && (slotFor v vec).isSome && !v.drcal && !v.arm &&
    v.drBegan.isSome && v.ivalNext.isNone && divOf s p != 3 && !(auditForced v && auditFull s p)

/-- A queued flare is ready (R156). -/
def flareReady (s : State) (c : Nat) (r : FlareReq) : Bool :=
  r.lans.all (fun ll => match lanOf s ll.val with | none => false | some p => lanReady s c r.vec p)

/-- The effective class: raised by one for each whole AGEF waited (R163); 0 is interactive. -/
def effClass (s : State) (r : FlareReq) (f : Nat) : Nat :=
  r.cls - (f - r.enq) / (s.lmp.age.toNat * 337500)

/-- R165: the flare selected, and whether the floor took it. -/
def selectFlare (s : State) (c f : Nat) : Option (FlareReq × Bool) :=
  let x := getLctx s c
  match x.refire.find? (flareReady s c) with
  | some r => some (r, false)
  | none =>
    let rs := x.queue.filter (flareReady s c)
    match (if 31 ≤ x.floor.toNat then minKey (fun r => r.seq) (rs.filter (fun r => r.cls == 2)) else none) with
    | some r => some (r, true)
    | none => (minKey (fun r => effClass s r f * 2 ^ 64 + r.seq) rs).map (fun r => (r, false))

/-! ### A selected flare -/

/-- The plan of one logical wick of a lantern. -/
def planWick (s : State) (ll p : Nat) (one : Bool) (lw : LWick) : WickPlan :=
  let v := getLan s p
  let x := getSlot v one
  let pw := mapOf v lw.val
  let slice := lw.val % shapeQ v
  let w := getWick s p pw
  let sub := v.substNow.toNat / 2 ^ lw.val % 2 = 1
  { ll := Fin.ofNat 1024 ll, lw := lw, lan := Fin.ofNat 1088 p, pw := Fin.ofNat 17 pw, slot := one, slice := slice,
    fallback := x.fallback.any (fun q => q.1 == slice),
    units := if sub then [] else (slicePasses x slice).flatMap (passUnits w x slice), launched := 0 }

/-- Slices of a substituted wick wait for the digital path (R229). -/
def substAcc (id : Nat) (s : State) (p : Nat) (one : Bool) (lw : LWick) : List SliceAcc :=
  let v := getLan s p
  let x := getSlot v one
  let slice := lw.val % shapeQ v
  if v.substNow.toNat / 2 ^ lw.val % 2 = 1 then
    (slicePasses x slice).filterMap (fun lp =>
      if driven x lp slice 0 2048 = [] then none
      else some { flare := id, lw := lw, pw := Fin.ofNat 17 (mapOf v lw.val), slice := slice, lpass := lp,
                  fallback := x.fallback.any (fun q => q.1 == slice),
                  groups := [{ e := 0, gidx := 0, gcnt := 1, lo := 0, hi := 2048, vals := [], fired := [], st := .sat }] })
  else []

/-- Mark or count one lantern of an analog flare (R226, R230): whether it is marked. -/
def markLan (draws : List Lan) (kept : Bool) (p : Nat) (s : State) : State × Bool :=
  let v := getLan s p
  let drawn := draws.any (fun d => d.val == p) || s.lmp.deferred.any (fun d => d.val == p)
  if kept then (s, true)
  else if auditForced v || (drawn && !auditFull s p) then
    (setLan p { v with since := 0, markNext := false, openMarks := v.openMarks + 1 }
      { s with lmp := { s.lmp with deferred := s.lmp.deferred.filter (fun d => d.val ≠ p) } }, true)
  else
    let s := setLan p { v with since := if v.since.toNat < 65536 then v.since + 1 else v.since } s
    if drawn then
      ({ s with lmp := { s.lmp with
          deferred := if s.lmp.deferred.any (fun d => d.val == p) then s.lmp.deferred
            else s.lmp.deferred ++ [Fin.ofNat 1088 p] } }, false)
    else (s, false)

/-- Journal entry of an analog flare; a full ring forces an audit on the lanterns that hold its oldest entry (R241). -/
def journalAppend (c : Nat) (e : JEntry) (s : State) : State :=
  let j := Tab.get [] s.chk.jrnl c
  let s := { s with chk := { s.chk with jrnl := Tab.set [] s.chk.jrnl c (j ++ [e]) } }
  if j.length + 1 < 67108864 then s
  else match j with
    | [] => s
    | o :: _ =>
      (o.open_.map (fun p => p.1.val)).dedup.foldl (fun s p => updLan p (fun v => { v with markNext := true }) s)
        { s with chk := { s.chk with dstat := setBit s.chk.dstat 4 } }

/-- The final package of a context's path. -/
def finalOf (s : State) (c : Nat) : Pkg :=
  match getCtx s c with
  | none => 0
  | some x => x.path.getLastD 0

/-- Begin a flare on one of its lanterns: slot, temperature point and counters (R103, R116, R121). A daylight flare fires no
fallback slice (R233). -/
def beginLan (daylight : Bool) (p : Nat) (one : Bool) (s : State) : State :=
  let v := getLan s p
  let x := getSlot v one
  let zero := x.counts = []
  let fb := if daylight then 0 else x.fallback.length
  setLan p { v with tpoint := BitVec.ofNat 9 (tpointNow s p), hits := [], zerovec := if zero then v.zerovec + 1 else v.zerovec,
                    fbslices := v.fbslices + BitVec.ofNat 32 fb,
                    stat := if fb = 0 then v.stat else setBit v.stat 2 } s

/-- Start the selected flare (R165, R226, R241): it leaves its list, its units are planned, its marks are set. -/
def startFlare (draws : List Lan) (c f : Nat) (r : FlareReq) (floored : Bool) (s : State) : State :=
  let id := s.lmp.nextId
  let s := { s with lmp := { s.lmp with nextId := id + 1 } }
  let s := updLctx c (fun x => { x with queue := x.queue.filter (fun q => q.seq ≠ r.seq),
                                        refire := x.refire.filter (fun q => q.seq ≠ r.seq),
                                        floorsel := if floored then satInc x.floorsel else x.floorsel }) s
  let lans := r.lans.filterMap (fun ll => (lanOf s ll.val).bind (fun p =>
    (slotFor (getLan s p) r.vec).map (fun one => (ll, (Fin.ofNat 1088 p : Lan), one))))
  let s := lans.foldl (fun s q => beginLan r.daylight q.2.1.val q.2.2 s) s
  let plans := if r.daylight then [] else
    lans.flatMap (fun q => (List.finRange 16).map (planWick s q.1.val q.2.1.val q.2.2))
  let accs (q : LLan × Lan × Bool) : List SliceAcc :=
    if r.daylight then [] else (List.finRange 16).flatMap (substAcc id s q.2.1.val q.2.2)
  let redo := sumN (lans.map (fun q => (accs q).length))
  let s := lans.foldl (fun s q => updLan q.2.1.val (fun v => { v with accs := v.accs ++ accs q }) s) s
  let s := if r.daylight then s else plans.foldl (fun s p => updWick p.lan.val p.pw.val (fun w =>
    let v := getLan s p.lan.val
    let x := getSlot v p.slot
    let sub := v.substNow.toNat / 2 ^ p.lw.val % 2 = 1
    (slicePasses x p.slice).foldl (fun w lp =>
      if sub ∧ driven x lp p.slice 0 2048 ≠ [] then w else countPlan (p.units.filter (fun u => u.lpass == lp)) w) w) s) s
  let m := if r.daylight then (s, []) else lans.foldl (fun (a : State × List Lan) q =>
    let kept := r.marks.any (fun d => d.val == q.2.1.val)
    let b := markLan draws kept q.2.1.val a.1
    (b.1, if b.2 then a.2 ++ [q.2.1] else a.2)) (s, [])
  let s := m.1
  let s := if r.daylight then s else journalAppend c
    { flicker := f, part := r.part, lans := lans.map (fun q => q.2.1), reqtag := r.reqtag, inst := r.inst,
      tindex := r.tindex, final := finalOf s c,
      open_ := plans.map (fun p => (p.lan, p.lw)) } s
  let busy := r.daylight || plans.any (fun p => !p.units.isEmpty)
  let fb := lans.any (fun q => !(getSlot (getLan s q.2.1.val) q.2.2).fallback.isEmpty)
  let fixed := sumN (lans.map (fun q => (getSlot (getLan s q.2.1.val) q.2.2).retried))
  let blks := sumN (lans.map (fun q => (getSlot (getLan s q.2.1.val) q.2.2).blocks.length))
  let tp := match lans with | [] => 0 | q :: _ => (getLan s q.2.1.val).tpoint.toNat
  updLctx c (fun x => { x with runs := x.runs ++ [
    { id := id, req := r, lans := lans, plans := plans, launching := busy, selected := f, first := none, last := none,
      flying := 0, redo := redo, resolved := fixed, checks := blks, clean := fixed == 0, hadFallback := fb, marks := m.2,
      temp := tp }] }) s

/-- Select a flare for a context that has none in progress (R165, R173). -/
def selectFor (draws : List Lan) (f : Nat) (s : State) (c : Nat) : State :=
  let x := getLctx s c
  if x.pause || x.runs.any (fun r => r.launching) then s
  else match selectFlare s c f with
    | none => s
    | some (r, fl) => startFlare draws c f r fl s

/-! ### Filling (R167) -/

/-- Wicks of a context that are being written (R44). -/
def writingWicks (s : State) (c : Nat) : Nat :=
  (s.wicks.filter (fun e => e.2.wrBusy && e.2.ctx.map (fun i => i.val) == some c)).length

/-- Lanterns of a context that run a drive-reference calibration: they are charged as a writing wick (R198). -/
def drRunning (s : State) (c : Nat) : Nat :=
  (s.lans.filter (fun e => e.2.phase == .drRun && (ownerOfLan s e.1).map (fun i => i.val) == some c)).length

/-- A lantern may launch in flicker `f` (R115, R166): its half launches, and inside a stretched interval it launched nothing in
the flicker before. -/
def mayFire (s : State) (f l : Nat) : Bool :=
  let v := getLan s l
  launchesIn (divOf s l) f && !(v.ival != 0 && v.lastLaunch == some (f - 1))

/-- The next unit of a wick's plan is eligible in flicker `f` (R166). -/
def eligible (s : State) (f : Nat) (p : WickPlan) : Bool := !p.units.isEmpty && mayFire s f p.lan.val

/-- Cost of a plan's next unit. -/
def nextCost (p : WickPlan) : Nat := match p.units with | [] => 0 | u :: _ => u.cost

/-- Take units in order while they fit; the walk stops at the first that does not (R167). -/
def takeFit : Nat → List WickPlan → List WickPlan × Nat
  | credit, [] => ([], credit)
  | credit, p :: t =>
    if credit < nextCost p then ([], credit)
    else
      let r := takeFit (credit - nextCost p) t
      (p :: r.1, r.2)

/-- The order of the walk (R167). -/
def walkKey (p : WickPlan) : Nat := p.launched * 2 ^ 20 + p.ll.val * 16 + p.lw.val

/-- A wick takes readback probes (R41, R48). -/
def probing (w : Wick) : Bool := w.rbBusy && (w.st == .adopting || w.st == .service) && decide (w.rbLaunched < 2048)

/-- A lantern's full trim is in a window. -/
def inWindow (v : Lantern) : Bool := v.phase == .win1 || v.phase == .win2

/-- Probe steps that wait, with their cost (R157): readback probes, then the trim probe of the wick under full trim (R52, R191).
A lantern under drive-reference calibration fires none (R118). -/
def probesOf (s : State) (c : Nat) : List (Grant × Nat) :=
  (s.wicks.filterMap (fun e =>
    let l := e.1 / 17
    let w := e.1 % 17
    let v := getLan s l
    if (ownerOfLan s l).map (fun i => i.val) == some c && !v.drcal then
      if probing e.2 then some (.probe (Fin.ofNat 1088 l) (Fin.ofNat 17 w), 72)
      else if inWindow v && v.calWick.map (fun i => i.val) == some w then
        match e.2.tpUnits with
        | [] => none
        | u :: _ => some (.trim (Fin.ofNat 1088 l) (Fin.ofNat 17 w), u.cost)
      else none
    else none))

/-- The lantern and wick a probe grant names. -/
def grantAt (g : Grant) : Nat × Nat :=
  match g with
  | .unit _ _ _ => (0, 0)
  | .probe l w => (l.val, w.val)
  | .trim l w => (l.val, w.val)
  | .drive l w => (l.val, w.val)

/-- The wick a drive-reference calibration fires on (R198): the spare, else the physical wick of lowest logical index. -/
def drWick (v : Lantern) : PWick := v.spare.getD (Fin.ofNat 17 (mapOf v 0))

/-- Steps of drive-reference calibrations (R198): one a flicker on each lantern of the context that runs one, whatever the credit,
which the write cost of R161 has charged. -/
def drGrants (s : State) (c : Nat) : List Grant :=
  s.lans.filterMap (fun e =>
    if e.2.phase == .drRun && decide (e.2.drStep < 7680) && (ownerOfLan s e.1).map (fun i => i.val) == some c then
      some (.drive (Fin.ofNat 1088 e.1) (drWick e.2))
    else none)

/-- Take probe steps from what credit remains (R161), each on a wick with no unit in the flicker. A step that does not fit is
passed over and the walk goes on to a later one (DESIGN CHOICE, log 107). -/
def takeProbes : Nat → List (Grant × Nat) → List Grant × Nat
  | credit, [] => ([], credit)
  | credit, (g, k) :: t =>
    if credit < k then takeProbes credit t
    else
      let r := takeProbes (credit - k) t
      (g :: r.1, r.2)

/-- Fill flicker `f` for a context (R167). -/
def fillFor (f : Nat) (s : State) (c : Nat) : State :=
  let x := getLctx s c
  let sh := share s c
  let cap := 131072
  let credit := if cap ≤ sh then sh else min (x.carry + sh) cap
  let credit := credit - 32 * (writingWicks s c + drRunning s c)
  let act := x.runs.find? (fun r => r.launching && !r.req.daylight)
  let r := match act with
    | none => ([], credit)
    | some a => takeFit credit (sortKey walkKey (a.plans.filter (eligible s f)))
  let units := match act with
    | none => []
    | some a => r.1.map (fun p => Grant.unit a.id p.ll p.lw)
  let waits := match act with
    | none => false
    | some a => a.plans.any (fun p => !p.units.isEmpty && !launchesIn (divOf s p.lan.val) f)
  let taken := r.1.map (fun p => (p.lan.val, p.pw.val))
  let probes := (probesOf s c).filter (fun g =>
    let a := grantAt g.1
    !(taken.contains a) && mayFire s f a.1)
  let pr := takeProbes r.2 probes
  let s := updLctx c (fun x => { x with carry := if sh < cap then pr.2 else 0 }) s
  { s with lmp := { s.lmp with grants := s.lmp.grants ++ units ++ pr.1 ++ drGrants s c,
                               stat := if waits then setBit s.lmp.stat 2 else s.lmp.stat } }

/-! ### Launching (R153, R28) -/

/-- The context and run of a flare in progress. -/
def findRun (s : State) (id : Nat) : Option (Nat × FlareRun) :=
  (List.range 16).findSome? (fun c => ((getLctx s c).runs.find? (fun r => r.id == id)).map (fun r => (c, r)))

/-- Change one run. -/
def updRun (c id : Nat) (f : FlareRun → FlareRun) (s : State) : State :=
  updLctx c (fun x => { x with runs := updIf (fun r => r.id == id) f x.runs }) s

/-- A wick uses its banks alternately (R28). -/
def flipBank (l w : Nat) (s : State) : State := updWick l w (fun x => { x with bankB := !x.bankB }) s

/-- Put a step in flight. -/
def fly (x : Flight) (s : State) : State :=
  flipBank x.lan.val x.pw.val { s with lmp := { s.lmp with flights := s.lmp.flights ++ [x] } }

/-- A step of a unit in flight: its bank, temperature point, trim codes and drive taps latched (R28, R184). -/
def flightOf (s : State) (l : Lan) (w : PWick) (tp f : Nat) (u : Fire) : Flight :=
  let x := getWick s l.val w.val
  { kind := .probe, lan := l, pw := w, x := [], lo := u.lo, hi := u.hi, gidx := u.gidx, gcnt := u.gcnt, e := u.e, last := u.last,
    bankB := x.bankB, tp := tp, trim := x.trim, taps := (getLan s l.val).taps, launched := f, dead := false }

/-- A step of one group over some rows. -/
def oneUnit (lo hi e : Nat) : Fire :=
  { lpass := false, lo := lo, hi := hi, gidx := 0, gcnt := 1, e := e, cost := 0, last := true }

/-- A lantern launched something in flicker `f` (R166). -/
def noteLaunch (f l : Nat) (s : State) : State := updLan l (fun v => { v with lastLaunch := some f }) s

/-- Launch one granted unit in flicker `f`. The launch phase ends with the flare's last one (R155). -/
def launchUnit (f id : Nat) (ll : LLan) (lw : LWick) (s : State) : State :=
  match findRun s id with
  | none => s
  | some (c, r) =>
    match r.plans.find? (fun p => p.ll == ll && p.lw == lw) with
    | none => s
    | some p =>
      match p.units with
      | [] => s
      | u :: rest =>
        let v := getLan s p.lan.val
        let w := getWick s p.lan.val p.pw.val
        let x := getSlot v p.slot
        let s := fly { flightOf s p.lan p.pw v.tpoint.toNat f u with
                       kind := .flare id lw p.slice u.lpass p.fallback x.rot (w.mode == 1),
                       x := stepRows w x u.lpass p.slice u.lo u.hi } s
        let s := updWick p.lan.val p.pw.val (fun w => { w with steps := w.steps.inc }) s
        let s := updLan p.lan.val (fun v => { setSlot v p.slot { getSlot v p.slot with st := .firing } with
                                              launched := true, lastLaunch := some f }) s
        updRun c id (fun r =>
          let plans := updIf (fun q => q.ll == ll && q.lw == lw)
            (fun q => { q with units := rest, launched := q.launched + 1 }) r.plans
          { r with plans := plans, launching := plans.any (fun q => !q.units.isEmpty),
                   first := some (r.first.getD f), last := some f, flying := r.flying + 1 }) s

/-- The 2,048 inputs of a trim probe step (R190): five bits per row of a generator the keeper's source seeds (log 5). -/
def probeInputs (n : Nat) : List (Nat × Int) :=
  ((List.range 2048).map (fun r =>
    let b := (Config.random (n + r)).toNat % 32
    let m := b % 16
    (r, if b < 16 then (0 : Int) else if m < 8 then (m : Int) else (m : Int) - 16))).filter (fun p => p.2 ≠ 0)

/-- Launch a readback probe step: the next row at magnitude 4 with range exponent 0 (R48). -/
def launchProbe (f : Nat) (l : Lan) (w : PWick) (s : State) : State :=
  let x := getWick s l.val w.val
  let r := x.rbLaunched
  if probing x then
    noteLaunch f l.val (updWick l.val w.val (fun x => { x with rbLaunched := r + 1 })
      (fly { flightOf s l w (getLan s l.val).tpoint.toNat f (oneUnit r (r + 1) 0) with x := [(r, 4)] } s))
  else s

/-- Trim probe steps of a wick that have begun and whose codes are not all valid yet. -/
def trimFlying (s : State) (l w : Nat) : Nat :=
  (s.lmp.flights.filter (fun f => f.kind == .trim && f.last && !f.dead && f.lan.val == l && f.pw.val == w)).length

/-- Draw the next trim probe step of a lantern's full trim, where none is under way and its window is not full (R190, R192). A
draw that drives no row at all leaves no unit, and the next is drawn. -/
def drawTrim (l : Nat) (s : State) : State :=
  let v := getLan s l
  match v.calWick with
  | none => s
  | some w =>
    let x := getWick s l w.val
    if inWindow v && x.tpUnits.isEmpty && decide (x.winSteps + trimFlying s l w.val < 65536) then
      let ins := probeInputs s.fresh
      let q := (List.range 4).map (fun i =>
        let r := ins.filter (fun p => p.1 / 512 == i)
        (r.length, l1Of r))
      updWick l w.val (fun x => { x with tpSeed := s.fresh, tpUnits := stepUnits { x with mode := 0 } false q })
        { s with fresh := s.fresh + 2048 }
    else s

/-- Launch the next unit of a trim probe step (R190, R191): it splits as any step does, one group a flicker (R33). Its groups
count in neither SPLIT2 nor SPLIT4, as the step counts in no STEPS (DESIGN CHOICE, log 108). -/
def launchTrim (f : Nat) (l : Lan) (w : PWick) (s : State) : State :=
  let x := getWick s l.val w.val
  match x.tpUnits with
  | [] => s
  | u :: rest =>
    noteLaunch f l.val (updWick l.val w.val (fun x => { x with tpUnits := rest })
      (fly { flightOf s l w (getLan s l.val).trimTp f u with
             kind := .trim, x := (probeInputs x.tpSeed).filter (fun p => u.lo ≤ p.1 && p.1 < u.hi) } s))

/-- The 256 rows of one pair of a drive-reference calibration (R198): one of every eight, as the generator draws (DESIGN CHOICE,
log 109). -/
def drRows (n : Nat) : List Nat := (List.range 256).map (fun i => 8 * i + (Config.random (n + i)).toNat % 8)

/-- The tap of step `k` of a calibration: index 0 to 15 but 8, which is +1; 512 steps each. -/
def drTap (k : Nat) : Nat := if k / 512 < 8 then k / 512 else k / 512 + 1
/-- The amplitude of a tap (R182): −8 to −1, +1 to +8. -/
def tapVal (i : Nat) : Int := if i < 8 then (i : Int) - 8 else (i : Int) - 7

/-- Launch the next step of a drive-reference calibration (R198): A at the tap's magnitude, then B at magnitude 1 on the same rows,
both at the exponent of step A. -/
def launchDrive (f : Nat) (l : Lan) (w : PWick) (s : State) : State :=
  let v := getLan s l.val
  if v.phase = .drRun ∧ v.drStep < 7680 then
    let k := v.drStep
    let a := tapVal (drTap k)
    let b := decide (k % 2 = 1)
    let amp : Int := if b then a.sign else a
    noteLaunch f l.val (updLan l.val (fun v => { v with drStep := k + 1 })
      (fly { flightOf s l w v.tpoint.toNat f (oneUnit 0 2048 (expOf (256 * a.natAbs))) with
             kind := .drive (drTap k) b, x := (drRows (v.drSeed + 256 * (k / 2))).map (fun r => (r, amp)) } s))
  else s

/-- Apply one grant. -/
def launch (f : Nat) (s : State) (g : Grant) : State :=
  match g with
  | .unit id ll lw => launchUnit f id ll lw s
  | .probe l w => launchProbe f l w s
  | .trim l w => launchTrim f l w s
  | .drive l w => launchDrive f l w s

/-- The contexts whose units a list of grants launches. -/
def launchers (s : State) (gs : List Grant) : List (Nat × Nat) :=
  (gs.filterMap (fun g => match g with
    | .unit id _ _ => (findRun s id).map (fun p => (p.1, p.2.req.cls))
    | _ => none)).dedup

/-- A launching flicker of a context: LAUNCHES and the floor counter (R164, R180). -/
def countLaunch (s : State) (p : Nat × Nat) : State :=
  updLctx p.1 (fun x => { x with launches := x.launches + 1,
                                 floor := if p.2 = 2 then BitVec.ofNat 16 (x.floor.toNat - 31) else satInc x.floor }) s

/-! ### Discarding flares -/

/-- A lantern drops what a discarded flare left: its slice values and half-summed steps, its slot back to READY, and the count of
re-fires, which a lantern that leaves (`gone`) does not take. -/
def dropOnLan (id : Nat) (freeze : Bool) (gone : Nat → Bool) (s : State) (q : LLan × Lan × Bool) : State :=
  let l := q.2.1.val
  let s := (List.range 17).foldl (fun s w => updWick l w (fun x => { x with winB := [] }) s) s
  updLan l (fun v =>
    let x := getSlot v q.2.2
    let v := setSlot v q.2.2 { x with st := if x.st = .firing ∨ x.st = .held then .ready else x.st }
    { v with accs := v.accs.filter (fun a => a.flare ≠ id), refires := if gone l then v.refires else v.refires + 1,
             stat := if freeze then setBit v.stat 0 else v.stat }) s

/-- The flare a step in flight belongs to. -/
def flightId (x : Flight) : Option Nat := match x.kind with | .flare id _ _ _ _ _ _ => some id | _ => none

/-- Discard flares of a context for re-firing, in their original order (R174, R119). -/
def discardRuns (p : FlareRun → Bool) (freeze : Bool) (gone : Nat → Bool) (s : State) (c : Nat) : State :=
  let x := getLctx s c
  let ds := x.runs.filter p
  let ids := ds.map (fun r => r.id)
  let s := ds.foldl (fun s r => r.lans.foldl (dropOnLan r.id freeze gone) s) s
  let s := setLctx c { x with runs := x.runs.filter (fun r => !p r),
                              refire := sortKey (fun r => r.seq)
                                (x.refire ++ ds.map (fun r => { r.req with marks := r.marks })) } s
  { s with lmp := { s.lmp with
      grants := s.lmp.grants.filter (fun g => match g with | .unit id _ _ => !(ids.contains id) | _ => true),
      flights := updIf (fun f => match flightId f with | some id => ids.contains id | none => false)
        (fun f => { f with dead := true }) s.lmp.flights } }

/-- A freeze discards this run: it launched in the window of 32 ACLK, or its launch phase is open (R174). -/
def inFreeze (s : State) (r : FlareRun) : Bool :=
  (r.launching || s.lmp.grants.any (fun g => match g with | .unit id _ _ => id == r.id | _ => false) ||
    match r.last with | none => false | some f => decide (nowF s ≤ f + 4))

/-- Rows a write has completed by flicker `now` (R43): 781 ns a row, 264 flickers (DESIGN CHOICE, log 110). -/
def rowsDone (now : Nat) (w : Wick) : Nat := min 2048 ((now - w.wrFrom) / 264)

/-- A write programs this cell: every column, or the spare columns alone in a repair pass (R45). -/
def writesCol (w : Wick) (pc : Nat) : Bool := !w.repair || decide (512 ≤ pc)

/-- The cells once `n` rows of a write are programmed (R43): the other rows keep theirs. -/
def cellsAfter (n : Nat) (w : Wick) : Tab Nat :=
  let hit (k : Nat) : Bool := decide (k / 520 < n) && writesCol w (k % 520)
  (w.wrCells.filter (fun e => hit e.1)).foldl (fun t e => Tab.set 8 t e.1 e.2) (Tab.drop hit w.cells)

/-- The cells of a row that an interrupted write had under way: a free value (log 110). -/
def freeRow (now r : Nat) (w : Wick) (t : Tab Nat) : Tab Nat :=
  ((List.range 520).filter (writesCol w)).foldl (fun t c =>
    Tab.set 8 t (r * 520 + c) ((Config.outWord 0x43 ((now * 2048 + r) * 520 + c)).toNat % 16)) t

/-- A write is abandoned: rows done are programmed, and the wick is UNOWNED (R43, R47). -/
def abandonWrite (now : Nat) (w : Wick) : Wick :=
  if w.wrBusy then
    let n := rowsDone now w
    let t := cellsAfter n w
    { w with cells := if n < 2048 then freeRow now n w t else t, wrCells := [], wrRows := BitVec.ofNat 12 n, wrBusy := false,
             st := .unowned, ctx := none, lwick := none, repair := false, stage := .toWrite }
  else w

/-- A readback is abandoned and reports no result (R58). -/
def abandonRb (w : Wick) : Wick :=
  if w.rbBusy then { w with rbBusy := false, rbRows := 0, rbLaunched := 0, rbLev := [], rbMarg := 0 } else w

/-- Restart the row sums of a slice (R111). -/
def clearMoments (key : Nat) (v : Lantern) : Lantern :=
  { v with x1 := Tab.drop (fun k => k / 2048 == key) v.x1, x2 := Tab.drop (fun k => k / 2048 == key) v.x2,
           momSteps := Tab.set 0 v.momSteps key 0 }

/-- Clear a wick's window sums. -/
def clearWin (w : Wick) : Wick :=
  { w with s1 := [], s2 := [], winB := [], se := 0, sq12 := 0, winSteps := 0, winRot := true, resid := [], tpUnits := [] }

/-- Abandon a running drive-reference calibration: the taps stay (R199, R210). -/
def abortDr (v : Lantern) : Lantern :=
  if v.phase = .drRun then { v with phase := restPhase v, drcal := false, drDue := true, calStat := setBit v.calStat 4 } else v

/-- Steps in flight of a lantern's abandoned probes are dropped when their codes come (R58). -/
def killProbes (l : Nat) (p : StepKind → Bool) (s : State) : State :=
  { s with lmp := { s.lmp with flights := updIf (fun f => f.lan.val == l && p f.kind) (fun f => { f with dead := true }) s.lmp.flights } }

/-- A step of a full trim or of a drive-reference calibration. -/
def trimKind (k : StepKind) : Bool := match k with | .trim => true | .drive _ _ => true | _ => false

/-- A step of no flare. -/
def probeKind (k : StepKind) : Bool := match k with | .flare _ _ _ _ _ _ _ => false | _ => true

/-- The window of a lantern's full trim starts again (R199, R210). -/
def restartTrim (l : Nat) (s : State) : State :=
  let v := getLan s l
  if v.phase = .win1 ∨ v.phase = .win2 then
    let s := setLan l (clearMoments 16 v) s
    match v.calWick with
    | none => s
    | some w => updWick l w.val clearWin s
  else s

/-- The freeze (R153, R174, R58, R210): grants are cancelled, flares of the window are discarded for re-firing, writes
and readbacks are abandoned, trim windows start again. -/
def freeze (s : State) : State :=
  let hit := (List.range 16).any (fun c => (getLctx s c).runs.any (inFreeze s))
  let s := (List.range 16).foldl (fun a c => discardRuns (inFreeze s) true (fun _ => false) a c) s
  let s := (keysOf s.wicks).foldl (fun s k => updWick (k / 17) (k % 17) (fun w => abandonRb (abandonWrite (nowF s) w)) s) s
  let s := (keysOf s.lans).foldl (fun s l => updLan l abortDr (restartTrim l s)) s
  { s with lmp := { s.lmp with frozen := true, recovered := none, grants := [],
                               flights := s.lmp.flights.map (fun x => if (flightId x).isNone then { x with dead := true } else x),
                               stat := if hit then setBit s.lmp.stat 0 else s.lmp.stat } }

end Sys2Proof.Machine
end

