-- ==== Sys2Proof/Machine/Retire.lean ====
section
/-! DEFINITION. Ledgers and their digest (R240), the results of REQ.SUBMIT completions (R404) and the retirement of a
release record (R411). -/

namespace Sys2Proof.Machine

/-- The bytes of a digest, first byte first. -/
def digBytes (d : Digest) : List Byte := (List.range 48).map (fun i => BitVec.ofNat 8 (d.toNat / 2 ^ (8 * (47 - i))))

/-- Four bytes as a little-endian word. -/
def wordAt (l : List Byte) (i : Nat) : W32 := BitVec.ofNat 32 (ofLe ((l.drop (4 * i)).take 4))

/-- The first 16 bytes of a digest as four words. -/
def digWords (d : Digest) : List W32 := (List.range 4).map (wordAt (digBytes d))

/-- The 32 bytes of a ledger record (R240). -/
def LedRec.bytes (r : LedRec) : List Byte :=
  [r.kind, r.tflags] ++ leBytes 2 r.res.toNat ++ leBytes 4 r.tindex.toNat ++ leBytes 4 r.token.toNat ++
    leBytes 4 r.checks.toNat ++ leBytes 8 r.localt.toNat ++ leBytes 8 r.aux.toNat

/-- Bytes 0x00 to 0x13 of a ledger header. -/
def Ledger.head (l : Ledger) : List Byte :=
  leBytes 4 l.reqtag.toNat ++ leBytes 2 l.origin.toNat ++ leBytes 2 l.ctxid.toNat ++ leBytes 4 l.epoch.toNat ++
    leBytes 4 l.adpgen.toNat ++ [if l.daylight then 1 else 0, 0, 0, 0]

/-- The digest before any record (R240). -/
def Ledger.d0 (l : Ledger) : Digest := Config.sha384 l.head

/-- Write a record: it follows the others and enters the digest (R240). -/
def ledAdd (r : LedRec) (now : W64) (l : Ledger) : Ledger :=
  { l with recs := l.recs ++ [r], digest := Config.sha384 (digBytes l.digest ++ r.bytes), localt := now }

/-- The ledger digest with the kernel digests that follow the records (R240). -/
def Ledger.full (l : Ledger) : Digest := l.kernels.foldl (fun d k => Config.sha384 (digBytes d ++ digBytes k)) l.digest

/-- An empty ledger of a request. -/
def ledNew (ctxid : W16) (tag : W32) (daylight : Bool) : Ledger :=
  { reqtag := tag, origin := 0, ctxid := ctxid, epoch := 0, adpgen := 0, daylight := daylight, state := 0, flags := 0,
    status := 0, tokens := 0, suspect := 0, audpass := 0, audfail := 0, resolved := 0, kernels := [], settledBy := [],
    checks := 0, localt := 0, recs := [], digest := 0 }

/-- The completion status of an end (R404). -/
def endStatus (e : Nat) (suspect : W32) : W16 :=
  if e = 5 then 0x0002
  else if e = 6 then 0x0004
  else if e = 7 ∨ e = 9 then 0x0007
  else if e = 8 then 0x0501
  else if suspect = 0 then 0x0000 else 0x0003

/-- RESULT of a release record's final completion (R404). -/
def relResult (r : RelRec) (e : Nat) : List W32 :=
  [BitVec.ofNat 32 r.released.length, BitVec.ofNat 32 r.lastPos, BitVec.ofNat 32 e, r.ledger.suspect] ++
    digWords r.ledger.full

/-- RESULT of an admission record's final completion (R404). -/
def admResult (a : AdmRec) : List W32 := [0xFFFFFFFF, BitVec.ofNat 32 a.lastPos, 0, 0, 0, 0, 0, 0]

/-- Output bytes a release record has written (R410): 8 B for each released token. -/
def relUsed (r : RelRec) : Nat := 8 * r.released.length

/-- Note the flags a computation raises in a request's ledger (R78, R80, R417). -/
def ledFlags (f : FFlags) (l : Ledger) : Ledger :=
  let x := if f.nonfin then setBit l.flags 0 else l.flags
  { l with flags := if f.range then setBit x 1 else x }

/-- Change the release record of an instance. -/
def updRel (c : Nat) (inst : W32) (f : RelRec → RelRec) (s : State) : State :=
  updCtx c (fun x => { x with rel := updIf (fun r => r.inst == inst && r.started) f x.rel }) s

/-- Flags of arithmetic in the ledger of its request, where this package keeps that (R78, R80). -/
def noteReq (c : Nat) (inst : W32) (f : FFlags) (s : State) : State :=
  if f.range || f.nonfin then updRel c inst (fun r => { r with ledger := ledFlags f r.ledger }) s else s

/-- Change the release record of a request number. -/
def updRelNum (c : Nat) (num : W16) (f : RelRec → RelRec) (s : State) : State :=
  updCtx c (fun x => { x with rel := updIf (fun r => r.num == num && !r.stale) f x.rel }) s

/-- Change the admission record of a request number. -/
def updAdm (c : Nat) (num : W16) (f : AdmRec → AdmRec) (s : State) : State :=
  updCtx c (fun x => { x with adm := updIf (fun a => a.num == num) f x.adm }) s

/-- Close a release record's ledger (R240). -/
def ledClose (st : W16) (now : W64) (l : Ledger) : Ledger := { l with state := 1, status := st, localt := now }

/-- Send a notice to every package of a context's path. -/
def noticePath (c : Nat) (kind : Nat) (q : ReqId) (tindex : W32) (code : W16) (s : State) : State :=
  match getCtx s c with
  | none => s
  | some x => x.path.foldl (fun s p => sendNotice kind p q tindex 0 0 code s) s

/-- The notices of a retirement (R340, R411): COMMIT names the last released position, DISCARD the first unreleased one
unless a token ended the request; the last of them carries RETIRE. -/
def retireNotices (c : Nat) (ctxid : W16) (r : RelRec) (e : Nat) (s : State) : State :=
  let q : ReqId := { ctx := ctxid, reqtag := r.reqtag, inst := r.inst, seg := r.seg }
  let ended := e = 1 ∨ e = 2 ∨ e = 3
  let s := if r.released = [] then s
    else noticePath c 0x21 q (BitVec.ofNat 32 (r.lastPos - 1)) (if ended then 1 else 0) s
  if ended ∧ r.released ≠ [] then s else noticePath c 0x22 q (BitVec.ofNat 32 r.lastPos) 1 s

/-- Retire a release record (R411): notices first, then its one final completion; its ledger closes. -/
def retireRel (c : Nat) (num : W16) (e : Nat) (s : State) : State :=
  match getCtx s c with
  | none => s
  | some x =>
    match x.rel.find? (fun r => r.num == num && !r.stale && !r.retired) with
    | none => s
    | some r =>
      let st := endStatus e r.ledger.suspect
      let s := retireNotices c x.ctxid r e s
      let s := if r.started then dropQueued c r.inst s else s
      let s := updRelNum c num (fun r => { r with retired := true, owed := false, end_ := e, retiring := none, drawn := none,
                                                  retiredAt := (ltime s).toNat,
                                                  ledger := ledClose st (ltime s) r.ledger }) s
      let logged (g : LogRec) : Bool := g.num == num && g.inst == r.inst
      let sign (g : LogRec) : LogRec := { g with digest := r.ledger.full }
      let s := updCtx c (fun x => { x with logs := updIf logged sign x.logs }) s
      if r.owed then complete r.cmd st (relUsed r) (relResult r e) s else s

/-- RESULT a command in progress carries when it ends with FAULT_WITHHELD (R373, R404). -/
def heldResult (s : State) (d : Desc) : Nat × List W32 :=
  match (ctxSlots s).findSome? (fun c => (getCtx s c).bind (fun x => x.rel.find? (fun r => r.cmd == d && !r.retired))) with
  | some r => (relUsed r, relResult r 6)
  | none =>
    match (ctxSlots s).findSome? (fun c => (getCtx s c).bind (fun x => x.adm.find? (fun a => a.cmd == d && !a.retired))) with
    | some a => (0, admResult a)
    | none => (0, [])

end Sys2Proof.Machine
end

