-- ==== Sys2Proof/Machine/Withhold.lean ====
section
/-! DEFINITION. Withholding (R485, R486): one shared operation that every cause calls, step by step. -/

namespace Sys2Proof.Machine

/-- Step 1: launches freeze, every queue and re-fire list empties, flares in progress are discarded (R177). -/
def withholdLamp (s : State) : State :=
  let s := freeze s
  let s := (List.range 16).foldl (discardRuns (fun _ => true) false (fun _ => true)) s
  let s := (keysOf s.lctx).foldl (fun s c => updLctx c (fun x => { x with queue := [], refire := [], runs := [], tails := [] }) s) s
  let s := (keysOf s.wicks).foldl (fun s k => updWick (k / 17) (k % 17) clearWin s) s
  (keysOf s.lans).foldl (fun s l => updLan l (fun v =>
    if v.phase = .win1 ∨ v.phase = .win2 ∨ v.phase = .drWait then
      { v with phase := .idle, calWick := none, drAtBoundary := false } else v) s) s

/-- Step 4: a WITHHELD notice for every open result stream of another final package (R341); held and routeless messages
go, relay stops. -/
def withholdNotices (s : State) : State :=
  let s := s.fab.streams.foldl (fun s t =>
    if t.final = s.fab.myid then s
    else sendNotice 0x20 t.final { ctx := t.ctx, reqtag := t.reqtag, inst := t.inst, seg := 0 } t.tindex (ltime s) 0 1 s) s
  { s with fab := { s.fab with rules := s.fab.rules.map (fun r => { r with held := [] }), freed := [], noRoute := [] } }

/-- Step 4: LINK_STATE "withheld" on a link that carries VL4, which enters WITHHELD (R319). Its other traffic stops. -/
def withholdLink (s : State) (k : Nat) : State :=
  let st := (getLink s k).st
  if st = .up ∨ st = .discover ∨ st = .quarantine then
    updLink k (fun x => { x with st := .withheld }) (linkPut k 4 (.lnk (.linkState true))
      (updLink k (fun x => { x with queues := Tab.drop (fun v => v != 3 && v != 4) x.queues }) s))
  else s

/-- The final ember (R511): code 0x10xx, severity withheld, FINAL. -/
def finalEmber (cause detail : Nat) : EmberReq :=
  { sev := 3, code := BitVec.ofNat 16 (0x1000 + cause), srcidx := BitVec.ofNat 16 detail, final := true, ctxid := none,
    reqtag := 0, arg0 := BitVec.ofNat 32 cause, arg1 := 0 }

/-- The copy each context receives (R471, R511): code 0x1000, no detail, the operator's sequence number. -/
def ctxCopy (e : Ember) (id : W16) : Ember :=
  { e with code := 0x1000, srcidx := 0, ctxid := some id, reqtag := 0, arg0 := 0, arg1 := 0 }

/-- Post on a ring, or hold for a link that is down (R373, R375). -/
def postOrHold (r : RingI) (c : Cpl) (s : State) : State := if ringHeld s r.val then holdCpl r c s else postRaw r c s

/-- Step 5: every command accepted and not completed ends with FAULT_WITHHELD (R373). -/
def withholdRing (s : State) (r : RingI) : State :=
  let g := getRing s r.val
  let s := (g.prog ++ g.queued).foldl (fun s d =>
    let x := heldResult s d
    postOrHold r (cplOf d 4 x.1 x.2) s) s
  updRing r.val (fun g => { g with prog := [], queued := [] }) s

/-- The final package's own requests end with END 6 (R341). -/
def withholdRequests (s : State) : State :=
  let endRel (now : W64) (r : RelRec) : RelRec :=
    { r with retired := true, owed := false, end_ := 6, drawn := none, retiredAt := now.toNat, ledger := ledClose 4 now r.ledger }
  let endAdm (a : AdmRec) : AdmRec := { a with retired := true, owed := false }
  (ctxSlots s).foldl (fun s c => updCtx c (fun x =>
    { x with rel := updIf (fun r => !r.retired) (endRel (ltime s)) x.rel,
             adm := updIf (fun a => !a.retired) endAdm x.adm, acts := [], waitRel := [] }) s) s

/-- The final ember on ring 0 and its copies on the contexts' rings, one SIG on vector 64 (R373, R511). -/
def withholdEmbers (e : Ember) (s : State) : State :=
  let s := postOrHold 0 (emberCpl e) s
  let s := (ctxSlots s).foldl (fun s c => match getCtx s c with
    | none => s
    | some x => match ctxRing s c with
      | none => s
      | some r => postOrHold r (emberCpl (ctxCopy e x.ctxid)) s) s
  if gvlUp s then gvlSig 64 e.num s else s

/-- Step 5, last part: LSTATE "withheld" and a SIG on vector 65, then WITHHELD; while the link is not ACTIVE it follows
when the link next is (R373, R375). -/
def gvlEnterWithheld (s : State) : State :=
  let s := sigState s
  { s with gvl := { s.gvl with st := .withheld, cache := [], reads := [],
                               qLink := s.gvl.qLink ++ [{ gmsg 0x51 with word := 2 }] } }

/-- Step 5 as a whole. -/
def withholdGarvy (e : Ember) (s : State) : State :=
  let s := (List.finRange 64).foldl withholdRing s
  let s := withholdRequests s
  let s := if s.mgt.started then withholdEmbers e s else s
  if s.gvl.st = .active then gvlEnterWithheld s
  else { s with gvl := { s.gvl with cache := [], reads := [] } }

/-- Step 6: the final ember goes ahead of every queued ember on both paths (R511). -/
def withholdQueues (e : Ember) (s : State) : State :=
  { s with mgt := { s.mgt with bus := { s.mgt.bus with queue := e :: s.mgt.bus.queue },
                               udp := { s.mgt.udp with queue := e :: s.mgt.udp.queue } } }

/-- Step 7: controllers finish their writes and enter self-refresh (R274). -/
def withholdStacks (s : State) : State :=
  (List.range 16).foldl (fun s n => updStk n (fun k =>
    if k.st = .ready then { k with st := .selfRefresh, scrubBusy := false } else k) s) s

/-- Withhold (R486) with the first cause and its detail (R499); a later cause changes nothing (R512). A daylight result that failed
twice sets CHK_DSTAT.DL_FAIL (R251). -/
def withhold (cause detail : Nat) (s : State) : State :=
  if s.snuf.wheld then s
  else
    let s := { s with clk := { s.clk with wheldLow := true },
                      chk := if cause = 4 then { s.chk with dstat := setBit s.chk.dstat 0 } else s.chk }
    let s := withholdLamp s
    let s := (List.range 32).foldl withholdLink (withholdNotices s)
    let e := formEmber s (finalEmber cause detail)
    let s := if s.mgt.started then
        { s with mgt := { s.mgt with nextSeq := s.mgt.nextSeq + 1, log := lastN 65536 (s.mgt.log ++ [e]) } } else s
    let s := withholdGarvy e s
    let s := if s.mgt.started then withholdQueues e s else s
    let s := withholdStacks s
    { s with snuf := { wheld := true, cause := BitVec.ofNat 8 cause, detail := BitVec.ofNat 16 detail } }

end Sys2Proof.Machine
end

