-- ==== Sys2Proof/Machine/Checks.lean ====
section
/-! DEFINITION. What a step returns and how it is checked: ideal codes (R30, R55), offset removal (R107), the row-sum check
(R217), exact recomputation (R219, R220), suspect lanterns (R245, R246), audits and SUSPECT flags (R227 to R229, R242). -/

namespace Sys2Proof.Machine

/-! ### Columns and levels -/

/-- One half of a column-map register: the spare's valid bit and logical column (R64). -/
def cmHalf (v : W32) (hi : Bool) : Option Nat :=
  if hi then (if bitAt v 31 then some (fld v 24 16) else none) else (if bitAt v 15 then some (fld v 8 0) else none)

/-- The logical column each spare 512 to 519 replaces (R37). -/
def spareMap (w : Wick) : List (Option Nat) :=
  [cmHalf w.cm0 false, cmHalf w.cm0 true, cmHalf w.cm1 false, cmHalf w.cm1 true, cmHalf w.cm2 false, cmHalf w.cm2 true,
    cmHalf w.cm3 false, cmHalf w.cm3 true]

/-- The physical column that serves a logical column (R37). -/
def physCol (w : Wick) (c : Nat) : Nat :=
  match (withPos 512 (spareMap w)).find? (fun p => p.2 == some c) with
  | some p => p.1
  | none => c

/-- The level nearest to code ÷ 4 (R48). -/
def nearLevel (k : Int) : Nat := (clampI 0 15 (rneDiv k 4)).toNat

/-- The stored level of a cell; an unlisted cell is at level 8 (R25). -/
def levelAt (w : Wick) (r pc : Nat) : Nat := Tab.get 8 w.cells (r * 520 + pc)

/-- The drive tap of an amplitude (R182): index 0 to 15 for −8 to −1 and +1 to +8. -/
def tapIdx (x : Int) : Nat := if x < 0 then (x + 8).toNat else (x + 7).toNat

/-- Charge of one column in units u (R27), each amplitude corrected by its tap in steps of 0.05 % (R182): 2,000ths of a unit. -/
def charge (w : Wick) (taps : Tab Int) (x : List (Nat × Int)) (pc : Nat) : Int :=
  sumI (x.map (fun p => p.2 * (levelAt w p.1 pc : Int) * (2000 + Tab.get 0 taps (tapIdx p.2))))

/-- 16 × 10^9: offset steps are 16ths of an LSB, and drive, gain and taps are 500ths, 1,000ths and 2,000ths. -/
def fineUnit : Nat := 16000000000

/-- What a column's converter sees of a step, in fine units of u (R182, R184): the charge under drive and gain, and the offset in
16ths of an LSB of `lsb` units. The latched codes hold for the whole step. -/
def columnIn (w : Wick) (f : Flight) (lsb pc : Nat) : Int :=
  charge w f.taps f.x pc * (500 + trimCode f.trim 2 0 f.tp) * (1000 + trimCode f.trim 1 pc f.tp) * 16 +
    trimCode f.trim 0 pc f.tp * (lsb * 1000000000 : Nat)

/-- The error of a physical column that an event reports; 0 for one not listed. -/
def errAt (err : List (Nat × Int)) (c : Nat) : Int := sumI ((err.filter (fun p => p.1 == c)).map (fun p => p.2))

/-- The 9-bit code of a column (R30): the ideal conversion and the error the event reports. -/
def codeOf (w : Wick) (f : Flight) (err : List (Nat × Int)) (pc : Nat) : Int :=
  clampI (-256) 255 (rneDiv (columnIn w f (2 ^ f.e) pc) (fineUnit * 2 ^ f.e) + errAt err pc)

/-- Driven bit pairs of a lookup group (R55). -/
def pairsOf (x : List (Nat × Int)) : Nat := x.length / 2

/-- The distance code of a lookup column (R55): the DAC bank is preset to 2n, and the offset term vanishes over a pair. -/
def distOf (w : Wick) (f : Flight) (err : List (Nat × Int)) (pc : Nat) : Int :=
  clampI 0 511 (rneDiv ((2 * (pairsOf f.x : Int) + 8 * sumOf f.x) * (fineUnit : Int) - columnIn w f 4 pc) (4 * fineUnit) + errAt err pc)

/-- The 512 column values v_c of a fired group and whether a code saturated (R31, R107). -/
def groupVals (w : Wick) (f : Flight) (lookup : Bool) (err : List (Nat × Int)) : List Int × Bool :=
  if lookup then ((List.range 512).map (fun c => 2 * (pairsOf f.x : Int) - 4 * distOf w f err (physCol w c)), false)
  else
    let ks := (List.range 512).map (fun c => codeOf w f err (physCol w c))
    (ks.map (fun k => k * (2 ^ f.e : Nat) - 8 * sumOf f.x), ks.any (fun k => k = -256 ∨ k = 255))

/-! ### The shadow -/

/-- The shards of an epoch of a context (R434); epoch 0 stands for its lookup lanterns (R425). -/
def epochShards (s : State) (c : Nat) (ep : W32) : List Shard :=
  match getCtx s c with
  | none => []
  | some x => if ep = 0 then x.lkp else match x.epochs.find? (fun e => e.epoch == ep) with
    | none => []
    | some e => e.shards

/-- A shard is a lantern shard of this package's own (R434). -/
def isOwnLan (h : Shard) : Bool := h.ent.kind == 1 && h.ent.role == 1

/-- Every lantern of a partition is verified here: LINDEX runs from 0 without a gap and fills whole row chains (R109, R431). -/
def partWhole (shards : List Shard) (m : ShardMeta) : Bool :=
  let mine := (shards.filter (fun h => isOwnLan h && h.st == .verified)).filterMap (fun h => h.md)
  let ls := (mine.filter (fun q => q.layer == m.layer && q.part == m.part)).map (fun q => q.lindex.toNat)
  let q := 2048 * (16 / 2 ^ m.shape.toNat)
  let len := (m.kdim.toNat + q - 1) / q
  (List.range ls.length).all (fun i => ls.contains i) && decide (ls.length % max 1 len = 0)

/-- A layer with a failed shard stays unloaded (R437): the failed shard's own layer where its metadata was read, else every
layer of which a lantern is missing. -/
def layerUnloaded (shards : List Shard) (layer : W16) : Bool :=
  let bad := shards.filter (fun h => isOwnLan h && h.st == .failed)
  bad.any (fun h => h.md.any (fun m => m.layer == layer)) ||
    (bad.any (fun h => h.md.isNone) && shards.any (fun h => isOwnLan h && h.st == .verified &&
      h.md.any (fun m => m.layer == layer && !partWhole shards m)))

/-- The own lantern shard that logical lantern `ll` serves under an epoch. -/
def lanShard (s : State) (c : Nat) (ep : W32) (ll : Nat) : Option Shard :=
  (epochShards s c ep).find? (fun h => h.ent.kind == 1 && h.ent.role == 1 && h.ent.target.toNat == ll)

/-- The weight format of a shard; a lookup lantern's is W1 (R53). -/
def shardFmt (h : Shard) : Nat := match h.md with | none => 0 | some m => m.wfmt.toNat

/-- The stored code of one weight (R76, R431): packed from bit 0 upward in wick, row and column order. -/
def weightCode (f : Nat) (t : Tab Byte) (lw r c : Nat) : Nat :=
  let b := ((lw * 2048 + r) * 512 + c) * fmtWidth f
  (Tab.get 0 t (b / 8)).toNat / 2 ^ (b % 8) % 2 ^ fmtWidth f

/-- One shadow weight of a shard. -/
def shardW (h : Shard) (lw r c : Nat) : Int := weightOf (shardFmt h) (weightCode (shardFmt h) h.weights lw r c)

/-- The epoch a vector or a flare computes under on a lantern: its request's, which in daylight may be one the wicks no longer hold
(R101, R234), else the lantern's own. -/
def epochOn (v : Lantern) (ep : W32) : W32 := if ep = 0 then v.epoch else ep

/-- Metadata of the shard of a lantern under an epoch. -/
def lanMeta (s : State) (l : Nat) (ep : W32) : Option ShardMeta :=
  let v := getLan s l
  match v.llan, ownerOfLan s l with
  | some ll, some c => (lanShard s c.val (epochOn v ep) ll.val).bind (fun h => h.md)
  | _, _ => none

/-- One shadow weight of a logical lantern's logical wick (R228). -/
def shadowW (s : State) (c : Nat) (ep : W32) (ll lw r col : Nat) : Int :=
  match lanShard s c ep ll with
  | none => 0
  | some h => shardW h lw r col

/-- Exact column values of a group from the shadow (R219, R228). -/
def exactVals (s : State) (c : Nat) (ep : W32) (ll lw : Nat) (x : List (Nat × Int)) : List Int :=
  match lanShard s c ep ll with
  | none => List.replicate 512 0
  | some h => (List.range 512).map (fun col => sumI (x.map (fun p => p.2 * shardW h lw p.1 col)))

/-! ### The row-sum check -/

/-- Plain and index-weighted sums of one 128-column group. -/
def groupSums (v : List Int) (g : Nat) : Int × Int :=
  let q := (v.drop (128 * g)).take 128
  (sumI q, sumI ((withPos 1 q).map (fun p => (p.1 : Int) * p.2)))

/-- The location hint (R217). -/
def locate (dp dj : Int) (bi : Nat) : Option Nat :=
  if dp = 0 then none
  else
    let j := (if 0 < dp then rneDiv dj dp.natAbs else rneDiv (-dj) dp.natAbs) - 1
    if 0 ≤ j ∧ j ≤ 127 ∧ (dj - (j + 1) * dp).natAbs ≤ bi then some j.toNat else none

/-- The residuals of a group against predictions from RS and RJ of each row (R217). -/
def residualsBy (pred : Nat → Int × Int) (x : List (Nat × Int)) (v : List Int) (g : Nat) : Int × Int :=
  let o := groupSums v g
  (o.1 - sumI (x.map (fun q => q.2 * (pred q.1).1)), o.2 - sumI (x.map (fun q => q.2 * (pred q.1).2)))

/-- An entry of the check store. -/
def storeAt (w : Wick) (g r : Nat) : Int × Int := (Tab.get 0 w.rs (r * 4 + g), Tab.get 0 w.rj (r * 4 + g))

/-- The residuals of a group against the check store (R217). -/
def residuals (w : Wick) (x : List (Nat × Int)) (v : List Int) (g : Nat) : Int × Int := residualsBy (storeAt w g) x v g

/-- The row-sum check with bands in LSB (R217): every failing group with its hint. A wick with an entry that ECC found bad fails
in that entry's group on every step (R231). -/
def rowSumCheck (w : Wick) (x : List (Nat × Int)) (v : List Int) (lsb : Nat) (bp bi : Nat → Nat) : List (Nat × Option Nat) :=
  (List.range 4).filterMap (fun g =>
    let d := residuals w x v g
    if w.rsBad.any (fun k => k % 4 == g) then some (g, none)
    else if bp g * lsb < d.1.natAbs ∨ bi g * lsb < d.2.natAbs then some (g, locate d.1 d.2 (bi g * lsb)) else none)

/-- The bands of a wick. -/
def bandsP (w : Wick) (g : Nat) : Nat := (w.bandP.getD g 0).toNat
/-- The index-weighted bands. -/
def bandsI (w : Wick) (g : Nat) : Nat := (w.bandI.getD g 0).toNat

/-! ### Suspect lanterns -/

/-- The issue interval in ACLK (R115). -/
def ivalAclk (i : BitVec 2) : Nat := if i = 0 then 8 else if i = 1 then 10 else if i = 2 then 12 else 16

/-- The interval in force or waiting. -/
def ivalSet (v : Lantern) : BitVec 2 := v.ivalNext.getD v.ival

/-- Suspect lanterns of a sconce (R499). -/
def suspCount (s : State) (n : Nat) : Nat := ((lansOf n).filter (fun p => (getLan s p).suspect)).length

/-- Raise a sconce's analog supply by 10 mV, up to +30 mV, and mark its wicks for a full trim (R246); during a freeze the
step waits (R498). -/
def raiseSupply (n : Nat) (s : State) : State :=
  if s.lmp.frozen then updScn n (fun x => { x with raiseDue := true }) s
  else
    let s := updScn n (fun x => { x with raised := if x.raised = 3 then 3 else x.raised + 1, raiseDue := false }) s
    (lansOf n).foldl (fun s p => (List.range 17).foldl (fun s w =>
      if (getWick s p w).st = .service then updWick p w (fun x => { x with early := true }) s else s) s) s

/-- An event of R245 on a lantern (R246): it becomes suspect, or the interval takes one more step; at 16 ACLK it is to be
remapped. -/
def suspectEvent (l : Nat) (s : State) : State :=
  let v := getLan s l
  let now := v.flares.val.toNat
  let i := ivalSet v
  if v.suspect then
    let again := match v.lastEvent with | none => false | some t => decide (now ≤ t + 1048576)
    setLan l { v with lastEvent := some now, ivalNext := if again = true ∧ i ≠ 3 then some (i + 1) else v.ivalNext,
                      remapDue := v.remapDue || i == 3 } s
  else
    let i' := if i = 3 then 3 else i + 1
    let s := setLan l { v with suspect := true, lastEvent := some now, stepBase := none, ivalNext := some i',
                               chkStat := setBit v.chkStat 5 } s
    let s := ember 2 0x0203 l (ctxIdOf s (ownerOfLan s l)) (ivalAclk i') s
    if 4 ≤ suspCount s (sconceOf l) then raiseSupply (sconceOf l) s else s

/-- SUSPECT_DECAY (R245, R246): after 4,194,304 flares without an event the lantern stops being suspect and its interval
steps back; it steps back again after each further 4,194,304. -/
def execSuspectDecay (l : Lan) (s : State) : Host.Outcome State Fault Refusal :=
  let v := getLan s l.val
  let now := v.flares.val.toNat
  let i := ivalSet v
  let back := if i = 0 then v.ivalNext else some (i - 1)
  if v.suspect then
    match v.lastEvent with
    | none => .next s
    | some t =>
      if t + 4194304 ≤ now then
        .next (setLan l.val { v with suspect := false, ivalNext := back, stepBase := some now } s)
      else .next s
  else
    match v.stepBase with
    | none => .next s
    | some t =>
      if t + 4194304 ≤ now ∧ i ≠ 0 then .next (setLan l.val { v with ivalNext := back, stepBase := some now } s)
      else .next s

/-! ### Exact recomputation -/

/-- The first group of a wick's slices that waits for the digital path. -/
def redoOf (v : Lantern) (w : Nat) : Option (SliceAcc × Grp) :=
  v.accs.findSome? (fun a => if a.pw.val == w then (a.groups.find? (fun g => g.st != .ok)).map (fun g => (a, g)) else none)

/-- Replace a group's values. -/
def putGroup (a : SliceAcc) (g g' : Grp) (l : List SliceAcc) : List SliceAcc :=
  updIf (fun b => b == a) (fun b => { b with groups := updIf (fun h => h == g) (fun _ => g') b.groups }) l

/-- CHK_LOC as a word, for the ember of R220. -/
def locWord (v : Lantern) : Nat :=
  (if v.locValid then 2 ^ 31 else 0) + (if v.locConf then 2 ^ 30 else 0) + (if v.locMulti then 2 ^ 29 else 0) +
    v.locWick.toNat * 2 ^ 16 + v.locCol.toNat

/-- Where a resolved failure lies (R220): the column of the failed groups with the largest error outside the envelope, ties to the
lower column; else the first hint; else nothing. -/
def writeLoc (w : Nat) (fails : List (Nat × Option Nat)) (e : Nat) (analog exact : List Int) (v : Lantern) : Lantern :=
  let cols := fails.flatMap (fun g => (List.range 128).map (fun j => 128 * g.1 + j))
  let ds := cols.map (fun c => (c, (analog.getD c 0 - exact.getD c 0).natAbs))
  let out := ds.filter (fun p => 2 * 2 ^ e < p.2)
  match minKey (fun p => 2 ^ 64 - p.2) out, fails.findSome? (fun g => g.2.map (fun j => 128 * g.1 + j)) with
  | some p, _ => { v with locValid := true, locConf := true, locMulti := decide (1 < out.length), locWick := BitVec.ofNat 5 w,
                          locCol := BitVec.ofNat 9 p.1, chkStat := setBit v.chkStat 2 }
  | none, some c => { v with locValid := true, locConf := false, locMulti := false, locWick := BitVec.ofNat 5 w,
                             locCol := BitVec.ofNat 9 c, chkStat := setBit v.chkStat 2 }
  | none, none => v

/-- A resolved row-sum failure counts, and the fourth within 65,536 flares is an event of R245 (R220, R231). -/
def countRsFail (l : Nat) (s : State) : State :=
  let v := getLan s l
  let now := v.flares.val.toNat
  let fs := lastN 4 ((v.rsFlares.filter (fun t => now ≤ t + 65536)) ++ [now])
  let s := setLan l { v with rsfails := v.rsfails + 1, rsFlares := fs } s
  if fs.length = 4 then suspectEvent l s else s

/-- The exact values of a waiting group: the shadow's, from the slot's inputs (R219). -/
def redoInputs (s : State) (l : Nat) (r : FlareRun) (a : SliceAcc) (g : Grp) : List (Nat × Int) :=
  match r.lans.find? (fun q => q.2.1.val == l) with
  | none => []
  | some q => stepRows (getWick s l a.pw.val) (getSlot (getLan s l) q.2.2) a.lpass a.slice g.lo g.hi

/-- The epoch whose weights a lantern serves, and its logical index. -/
def lanLL (v : Lantern) : Nat := match v.llan with | none => 0 | some i => i.val

/-- An entry of the check store, formed afresh from the shadow row where ECC found it bad (R216). -/
def freshAt (w : Wick) (shadow : Nat → Nat → Int) (g r : Nat) : Int × Int :=
  if w.rsBad.contains (r * 4 + g) then groupSums ((List.range 512).map (shadow r)) g else storeAt w g r

/-- The check of exact values: both bands 0, each prediction from the check store or afresh from the shadow (R216, R219). -/
def exactCheck (w : Wick) (shadow : Nat → Nat → Int) (x : List (Nat × Int)) (v : List Int) : Bool :=
  (List.range 4).all (fun g => residualsBy (freshAt w shadow g) x v g == (0, 0))

/-- A waiting slice has been recomputed (R219): the digital values replace the analog ones when they meet the exact prediction, else
the snuffer withholds. -/
def sliceRedone (l w : Nat) (err : List (Nat × Int)) (s : State) : State :=
  let v := getLan s l
  match redoOf v w with
  | none => s
  | some (a, g) =>
    match findRun s a.flare with
    | none => s
    | some (c, r) =>
      let x := redoInputs s l r a g
      let ex := exactVals s c v.epoch (lanLL v) a.lw.val x
      let vals := (withPos 0 ex).map (fun p => p.2 + errAt err p.1)
      if exactCheck (getWick s l w) (shadowW s c v.epoch (lanLL v) a.lw.val) x vals then
        let fired := match g.st with | .rsFail _ => g.fired | _ => vals
        let s := updLan l (fun v => { v with accs := putGroup a g { g with vals := vals, fired := fired, st := .ok } v.accs }) s
        let s := { s with chk := { s.chk with resolved := satInc s.chk.resolved } }
        let s := updRun c a.flare (fun q => { q with redo := q.redo - 1, resolved := q.resolved + 1, checks := q.checks + 4 }) s
        match g.st with
        | .rsFail fs =>
          let s := updLan l (writeLoc w fs g.e g.vals vals) s
          let s := updRun c a.flare (fun q => { q with clean := false }) s
          let s := ember 1 0x0201 l (ctxIdOf s (ownerOfLan s l)) (locWord (getLan s l)) s
          countRsFail l s
        | _ =>
          if v.substNow.toNat / 2 ^ a.lw.val % 2 = 1 then s
          else updWick l w (fun x => { x with sats := x.sats + 1 }) s
      else
        withhold 0x01 l (updLan l (fun v => { v with chkStat := setBit v.chkStat 1 }) s)

/-! ### Audits -/

/-- The copy an audited flare leaves (R227): its slice values as fired, its inputs, and the room it takes. -/
def auditCopy (s : State) (c : Nat) (r : FlareRun) (ll l : Nat) (one : Bool) : AuditCopy :=
  let v := getLan s l
  let x := getSlot v one
  let accs := v.accs.filter (fun a => a.flare == r.id)
  let passes := if x.twoPass || !x.fallback.isEmpty then [false, true] else [false]
  let ins : Tab (List (Nat × Int)) := ((List.range 16).flatMap (fun sl => passes.map (fun lp => (sl, lp)))).foldl
    (fun t p => Tab.set [] t (p.1 * 2 + (if p.2 then 1 else 0)) (driven x p.2 p.1 0 2048)) []
  let groups := sumN (accs.map (fun a => a.groups.length))
  { flare := r.id, flicker := r.selected, ctx := Fin.ofNat 16 c, epoch := v.epoch, llan := Fin.ofNat 1024 ll,
    reqtag := r.req.reqtag, inst := r.req.inst, accs := accs, inputs := ins,
    bytes := (if x.twoPass then 32768 else 16384) + 2048 * accs.length + 4 * groups }

/-- Slice values of a slice: the sum over its fired groups, column by column (R107). -/
def sliceVals (gs : List (List Int)) : List Int := gs.foldl addL []

/-- One audited slice passes: every column within Σ 2^(e+1) of the exact value (R228). -/
def accPasses (s : State) (a : AuditCopy) (t : SliceAcc) : Bool :=
  let x := Tab.get [] a.inputs (t.slice * 2 + (if t.lpass then 1 else 0))
  let ex := exactVals s a.ctx.val a.epoch a.llan.val t.lw.val x
  let v := sliceVals (t.groups.map (fun g => g.fired))
  let bound := sumN (t.groups.map (fun g => 2 ^ (g.e + 1)))
  (List.range 512).all (fun c => decide ((v.getD c 0 - ex.getD c 0).natAbs ≤ bound))

/-- Journal entries a passed audit of a logical wick covers; an entry is retired when nothing of it is open (R241). -/
def journalPass (c : Nat) (l lw : Nat) (flicker : Nat) (s : State) : State :=
  let j := Tab.get [] s.chk.jrnl c
  let j' := (j.map (fun e => if e.flicker < flicker then
    { e with open_ := e.open_.filter (fun p => !(p.1.val == l && p.2.val == lw)) } else e)).filter (fun e => !e.open_.isEmpty)
  { s with chk := { s.chk with jrnl := Tab.set [] s.chk.jrnl c j' } }

/-- SUSPECT notices for every request and token whose path used the wick after its last clean audit and no later than the
failed one (R242). -/
def flagSuspect (c : Nat) (l : Nat) (after upto : Nat) (s : State) : State :=
  let id := match getCtx s c with | none => 0 | some x => x.ctxid
  let es := (Tab.get [] s.chk.jrnl c).filter (fun e =>
    e.lans.any (fun p => p.val == l) && decide (after < e.flicker) && decide (e.flicker ≤ upto))
  let ks := (es.map (fun e => (e.reqtag, e.inst, e.tindex, e.final))).dedup
  if ks = [] then s
  else
    let s := { s with chk := { s.chk with dstat := setBit s.chk.dstat 3 } }
    ks.foldl (fun s k => sendNotice 0x23 k.2.2.2 { ctx := id, reqtag := k.1, inst := k.2.1, seg := 0 } k.2.2.1
      (BitVec.ofNat 64 upto) 0 0 s) s

/-- A lantern's audit has failed: a second one within 1,048,576 of its flares sends it to a reserve (R231). -/
def noteAuditFail (l : Nat) (s : State) : State :=
  updLan l (fun v =>
    let now := v.flares.val.toNat
    { v with lastAuditFail := some now,
             remapDue := v.remapDue || v.lastAuditFail.any (fun t => decide (now ≤ t + 1048576)) }) s

/-- A failed audit of a wick (R229): digital substitution and takeover of the logical wick it serves, flags, ember, suspect
lantern. A wick already out of service is quarantined where it stands (R248). -/
def auditFail (c l pw lw flicker : Nat) (tag : W32) (s : State) : State :=
  let x := getWick s l pw
  let s := flagSuspect c l x.waud.val.toNat flicker s
  let s := if x.st = .service then
      updWick l pw (fun x => { x with early := true }) (updLan l (fun v => { v with subst := setBit v.subst lw }) s)
    else if x.st = .spare then updWick l pw (fun x => { x with st := .quarantined }) s
    else s
  let e := { emb 2 0x0202 l (ctxIdOf s (some (Fin.ofNat 16 c))) pw with reqtag := tag }
  suspectEvent l (raiseEmber e s)

/-- Audits of a request's flares as its ledger counts them, where this package keeps the ledger (R240). -/
def ledAudit (c : Nat) (inst : W32) (ok : Bool) (s : State) : State :=
  updRel c inst (fun r => { r with ledger := if ok then { r.ledger with audpass := r.ledger.audpass + 1 }
    else { r.ledger with audfail := r.ledger.audfail + 1 } }) s

/-- The oldest audit copy of a lantern is compared, wick by wick (R228, R229). -/
def auditDone (l : Nat) (s : State) : State :=
  let v := getLan s l
  match v.audits with
  | [] => s
  | a :: rest =>
    let bad := a.accs.filter (fun t => !accPasses s a t)
    let badW := (bad.map (fun t => (t.pw.val, t.lw.val))).dedup
    let good := ((a.accs.map (fun t => (t.pw.val, t.lw.val))).dedup).filter (fun p => !(badW.contains p))
    let ok := badW = []
    let s := setLan l { v with
      audits := rest,
      audPasses := if ok then v.audPasses + 1 else v.audPasses, audFails := if ok then v.audFails else satInc v.audFails,
      chkStat := setBit v.chkStat (if ok then 3 else 4) } s
    let s := if ok then s else noteAuditFail l s
    let s := ledAudit a.ctx.val a.inst ok s
    let s := good.foldl (fun s p =>
      journalPass a.ctx.val l p.2 a.flicker
        (updWick l p.1 (fun x => { x with waud := { x.waud with val := BitVec.ofNat 64 a.flicker } }) s)) s
    badW.foldl (fun s p => auditFail a.ctx.val l p.1 p.2 a.flicker a.reqtag s) s

end Sys2Proof.Machine
end

