-- ==== Sys2Proof/Machine/Index.lean ====
section
/-! DEFINITION. The prefix index (R423 to R427): keys, nodes, the longest match, entering and removing a prefix, and the
shadows of the lookup lanterns. -/

namespace Sys2Proof.Machine

/-- Bits of one token in a key (R424). -/
def tokBits (v : Nat) : Nat := max 18 (((List.range 33).find? (fun i => decide (v ≤ 2 ^ i))).getD 32)

/-- KEYBITS of a context's lookup wicks (R424). -/
def keyBits (v : Nat) : Nat := 32 * tokBits v + 24

/-- A node's key: 32 tokens, then the parent's ID (R424). -/
def nodeKey (b : Nat) (chunk : List W32) (parent : Nat) : Nat :=
  (withPos 0 chunk).foldl (fun k p => k + p.2.toNat % 2 ^ b * 2 ^ (b * p.1)) (parent % 2 ^ 24 * 2 ^ (32 * b))

/-- The index is kept for vocabularies up to 2³¹ of a context with PREFIX (R424, R425). -/
def indexed (x : Ctx) : Bool := x.pfx && decide (x.vocab ≤ 2 ^ 31)

/-- The node of a chunk below a parent. -/
def findNode (x : Ctx) (chunk : List W32) (parent : Nat) : Option PNode :=
  x.nodes.find? (fun n => n.parent == parent && n.chunk == chunk)

/-- The live prefix in a slot. -/
def livePrefix (x : Ctx) (slot : Nat) : Option Prefix := x.prefixes.find? (fun p => p.slot == slot && p.live)

/-- match_prefix (R426) over `k` more chunks; GUARD is 50 ms. -/
def matchFrom (x : Ctx) (epoch adpgen : W32) (mode : Bool) (now : Nat) :
    Nat → Nat → List W32 → Option Prefix → Option Prefix
  | 0, _, _, best => best
  | k + 1, parent, toks, best =>
    match findNode x (toks.take 32) parent with
    | none => best
    | some n =>
      let hit := (livePrefix x n.slot).filter (fun p =>
        p.epoch == epoch && p.adpgen == adpgen && p.mode == mode && decide (now + 45000000 < p.expiry))
      matchFrom x epoch adpgen mode now k n.id (toks.drop 32) (if hit.isSome then hit else best)

/-- The prefix a request without BUILD or NOPFX forks from (R426). -/
def matchPrefix (x : Ctx) (prompt : List W32) (epoch adpgen : W32) (mode : Bool) (now : Nat) : Option Prefix :=
  if indexed x then matchFrom x epoch adpgen mode now ((prompt.length + 31) / 32 - 1) 0 prompt none else none

/-- A free prefix slot (R423). -/
def freeSlot (x : Ctx) : Option Nat :=
  ((List.range 32767).map (fun i => i + 1)).find? (fun k => !(x.prefixes.any (fun p => p.slot == k)))

/-- A free lookup column, as a node ID, for a node of depth 0 or 1 (R425). -/
def freeColumn (x : Ctx) : Option Nat :=
  ((List.range (8192 * x.lkp.length)).map (fun i => i + 1)).find? (fun i => !(x.nodes.any (fun n => n.id == i)))

/-- The ID of a new node and the next ID of the others (R425). -/
def newId (x : Ctx) (depth : Nat) : Option (Nat × Nat) :=
  match (if depth ≤ 1 then freeColumn x else none) with
  | some i => some (i, x.nodeNext)
  | none =>
    if x.nodeNext < 2 ^ 24 then some (x.nodeNext, x.nodeNext + 1)
    else (((List.range (2 ^ 24 - 524289)).map (fun i => i + 524289)).find?
      (fun i => !(x.nodes.any (fun n => n.id == i)))).map (fun i => (i, x.nodeNext))

/-- Enter the nodes of `k` chunks below a parent; the last one takes the slot (R423, R425). -/
def enterFrom (slot : Nat) : Nat → Nat → Nat → List W32 → Ctx → Ctx
  | 0, _, _, _, x => x
  | k + 1, depth, parent, toks, x =>
    let s := if k = 0 then slot else 0
    match findNode x (toks.take 32) parent with
    | some n =>
      let x := { x with nodes := updIf (fun m => m.id == n.id) (fun m => if k = 0 then { m with slot := slot } else m) x.nodes }
      enterFrom slot k (depth + 1) n.id (toks.drop 32) x
    | none => match newId x depth with
      | none => x
      | some i =>
        enterFrom slot k (depth + 1) i.1 (toks.drop 32)
          { x with nodes := x.nodes ++ [{ id := i.1, parent := parent, chunk := toks.take 32, depth := depth, slot := s }],
                   nodeNext := i.2 }

/-- Remove nodes that hold no slot and have no child, `k` times over (R425). -/
def pruneNodes : Nat → List PNode → List PNode
  | 0, l => l
  | k + 1, l => pruneNodes k (l.filter (fun n => n.slot != 0 || l.any (fun m => m.parent == n.id)))

/-- One weight of a lookup wick's key pair (R54). -/
def keyWeight (key r : Nat) : Int :=
  let one := key / 2 ^ (r / 2) % 2 = 1
  if (one ∧ r % 2 = 0) ∨ (¬one ∧ r % 2 = 1) then 1 else -1

/-- The key a lookup column holds: a node's, or that of an empty column (R425). -/
def columnKey (x : Ctx) (id : Nat) : Nat :=
  let b := tokBits x.vocab
  match x.nodes.find? (fun n => n.id == id) with
  | some n => nodeKey b n.chunk n.parent
  | none => nodeKey b [] 0xFFFFFF

/-- Shadow weights of the lookup lantern of rank `r` (R54, R425): W1, eight columns to a byte (R76). -/
def lkpWeights (x : Ctx) (r : Nat) : Tab Byte :=
  (List.range 16).flatMap (fun w => (List.range (2 * keyBits x.vocab)).flatMap (fun row => (List.range 64).filterMap (fun j =>
    let b : Byte := BitVec.ofNat 8 (sumN ((List.range 8).map (fun i =>
      if keyWeight (columnKey x (1 + 8192 * r + 512 * w + 8 * j + i)) row = 1 then 2 ^ i else 0)))
    if b = 0 then none else some ((w * 2048 + row) * 64 + j, b))))

/-- The shadows of the lookup lanterns, as own shards of epoch 0. -/
def lkpShards (x : Ctx) (ls : List Nat) : List Shard :=
  (withPos 0 ls).map (fun p =>
    { ent := { shard := 0, kind := 1, role := 1, head := false, source := 0xFFFF, target := BitVec.ofNat 32 p.2, loff := 0,
               digest := 0 },
      st := .verified, requests := 0, got := [], total := 0, md := none, weights := lkpWeights x p.1, written := true, rehash := false,
      restoring := false, injected := true, blen := 0, keyid := 0 })

/-- The shadows follow the nodes (R425). -/
def lkpSync (x : Ctx) : Ctx :=
  { x with lkp := (withPos 0 x.lkp).map (fun p => { p.2 with weights := lkpWeights x p.1 }) }

end Sys2Proof.Machine
end

