-- ==== Sys2Proof/Machine/Record.lean ====
section
/-! DEFINITION. The keys the keeper derives from the root secret, and the device record in board flash: one tagged section per
lantern and a common one (R200, R450 to R452, R528; log 139). -/

namespace Sys2Proof.Machine

/-! ### HMAC and HKDF over SHA-384 (R452) -/

/-- HMAC-SHA-384 under a key of at most 128 bytes. -/
def hmac384 (key msg : List Byte) : List Byte :=
  let k := key ++ List.replicate (128 - key.length) 0
  let inner := Config.sha384 (k.map (fun b => b ^^^ 0x36) ++ msg)
  digBytes (Config.sha384 (k.map (fun b => b ^^^ 0x5C) ++ digBytes inner))

/-- HKDF-SHA-384 without salt, for keys of at most 48 bytes (R452). -/
def hkdf384 (ikm info : List Byte) (len : Nat) : List Byte :=
  (hmac384 (hmac384 (List.replicate 48 0) ikm) (info ++ [1])).take len

/-- The keys of a root secret: "kek", "counter" and "record" in ASCII (R452). -/
def keysFrom (secret : BitVec 256) : RootKeys :=
  let ikm := (leBytes 32 secret.toNat).reverse
  { kek := hkdf384 ikm [0x6B, 0x65, 0x6B] 32,
    counter := hkdf384 ikm [0x63, 0x6F, 0x75, 0x6E, 0x74, 0x65, 0x72] 32,
    record := hkdf384 ikm [0x72, 0x65, 0x63, 0x6F, 0x72, 0x64] 48 }

/-! ### What a section holds (R528) -/

/-- Six-bit codes, four to three bytes, low code first. -/
def packSix : List Int → List Byte
  | a :: b :: c :: d :: t =>
    leBytes 3 ((a % 64).toNat + 64 * (b % 64).toNat + 4096 * (c % 64).toNat + 262144 * (d % 64).toNat) ++ packSix t
  | _ => []

/-- One coefficient set: 1,040 codes in 780 bytes and the drive code. -/
def setBytes (t : Tab Int) (set : Nat) : List Byte :=
  packSix ((List.range 1040).map (fun i => Tab.get 0 t ((i / 520 * 5 + set) * 520 + i % 520))) ++
    [BitVec.ofInt 8 (Tab.get 0 t ((10 + set) * 520))]

/-- Retirement and strike as a byte. -/
def markByte (retired strike : Bool) : Byte := (if retired then 1 else 0) + (if strike then 2 else 0)

/-- A wick's part of its lantern's section. -/
def RecWick.bytes (r : RecWick) : List Byte :=
  (List.range 5).flatMap (setBytes r.trim) ++ r.colmap.flatMap (fun w => leBytes 4 w.toNat) ++ [markByte r.retired r.strike]

/-- The bytes of section `n`: a lantern's for n up to 1,087, the common one for 1,088. -/
def secBytes (f : Flash) (n : Nat) : List Byte :=
  leBytes 4 n ++
    if n = 1088 then
      f.sconces.map (BitVec.ofNat 8) ++ f.diodes.flatMap (fun d => leBytes 2 d.1.toNat ++ leBytes 2 d.2.toNat)
    else
      let v := Tab.get RecLan.init f.lans n
      (List.range 17).flatMap (fun w => (Tab.get RecWick.init f.wicks (n * 17 + w)).bytes) ++
        (List.range 16).map (fun i => BitVec.ofInt 8 (Tab.get 0 v.taps i)) ++ [markByte v.retired v.strike]

/-- Nothing is recorded in a section. -/
def secEmpty (f : Flash) (n : Nat) : Bool :=
  if n = 1088 then f.sconces == [] && f.diodes == []
  else (keysOf f.lans).all (fun k => k != n) && (keysOf f.wicks).all (fun k => k / 17 != n)

/-- The tag of a section under the record key of this package (R452). -/
def secTag (s : State) (n : Nat) : List Byte :=
  hmac384 (match s.sec.keys with | some k => k.record | none => []) (secBytes s.flash n)

/-- A section whose tag fails counts as absent (R452), as each does where the record's region is absent (R450). -/
def secBad (s : State) (n : Nat) : Bool :=
  !secEmpty s.flash n && (s.flash.noRec || Tab.get [] s.flash.tags n != secTag s n)

/-! ### Reading the record -/

/-- A wick's record, as absent where its section fails. -/
def recWick (s : State) (l w : Nat) : RecWick :=
  if secBad s l then RecWick.init else Tab.get RecWick.init s.flash.wicks (l * 17 + w)

/-- A lantern's record. -/
def recLan (s : State) (l : Nat) : RecLan := if secBad s l then RecLan.init else Tab.get RecLan.init s.flash.lans l

/-- The sconces recorded as retired (R482). -/
def recSconces (s : State) : List Nat := if secBad s 1088 then [] else s.flash.sconces

/-- The diode table of the record (R207). -/
def recDiodes (s : State) : List (W16 × W16) := if secBad s 1088 then [] else s.flash.diodes

/-! ### Writing the record -/

/-- A section written anew holds nothing of one that failed. -/
def dropSec (n : Nat) (s : State) : State :=
  if secBad s n then
    let f := s.flash
    if n = 1088 then { s with flash := { f with sconces := [], diodes := [] } }
    else { s with flash := { f with wicks := Tab.drop (fun k => k / 17 == n) f.wicks, lans := Tab.drop (fun k => k == n) f.lans } }
  else s

/-- A section written takes its tag. -/
def retag (n : Nat) (s : State) : State :=
  { s with flash := { s.flash with tags := Tab.set [] s.flash.tags n (secTag s n) } }

/-- Change a wick's entry. -/
def putRecWick (l w : Nat) (f : RecWick → RecWick) (s : State) : State :=
  { s with flash := { s.flash with wicks := Tab.upd RecWick.init s.flash.wicks (l * 17 + w) f } }

/-- Change a lantern's entry. -/
def putRecLan (l : Nat) (f : RecLan → RecLan) (s : State) : State :=
  { s with flash := { s.flash with lans := Tab.upd RecLan.init s.flash.lans l f } }

/-- A section is written, where the record has its region (R450). -/
def writeSec (n : Nat) (f : State → State) (s : State) : State := if s.flash.noRec then s else retag n (f (dropSec n s))

/-- Firmware writes a wick's section. -/
def updRecWick (l w : Nat) (f : RecWick → RecWick) (s : State) : State := writeSec l (putRecWick l w f) s

/-- Firmware writes a lantern's section. -/
def updRecLan (l : Nat) (f : RecLan → RecLan) (s : State) : State := writeSec l (putRecLan l f) s

/-- Firmware records a sconce as retired (R482, R484). -/
def addRecSconce (n : Nat) (s : State) : State :=
  writeSec 1088 (fun s =>
    let l := s.flash.sconces
    { s with flash := { s.flash with sconces := if l.contains n then l else l ++ [n] } }) s

end Sys2Proof.Machine
end

