-- ==== Sys2Proof/Machine/Threads.lean ====
section
/-! DEFINITION. Threads of the vector engines (R123, R124): slots, the two register pools, starting the threads of an
invocation of a customer kernel and ending them (R142, R147). -/

namespace Sys2Proof.Machine

/-! ### Slots and registers -/

/-- The vector registers of a slot's pool (R124). -/
def poolRegs (t : Nat) : List Nat := if t < 8 then List.range 64 else (List.range 192).map (fun i => 64 + i)

/-- The threads of an engine, by slot. -/
def threadsOf (e : Engine) : List (Nat × Thread) :=
  e.threads.filterMap (fun p => p.2.map (fun t => (p.1, t)))

/-- Vector registers that threads hold. -/
def heldRegs (e : Engine) : List Nat := (threadsOf e).flatMap (fun p => p.2.map)

/-- The free registers of a slot's pool. -/
def freeRegs (e : Engine) (t : Nat) : List Nat := (poolRegs t).filter (fun r => !(heldRegs e).contains r)

/-- The lowest free slot for a customer thread (R145). -/
def freeThread (e : Engine) : Option Nat :=
  ((List.range 24).map (fun i => 8 + i)).find? (fun t => (Tab.get none e.threads t).isNone)

/-- The thread in a slot. -/
def threadAt (s : State) (l t : Nat) : Option Thread := Tab.get none (getEng s l).threads t

/-- Change the thread in a slot. -/
def updThread (l t : Nat) (f : Thread → Thread) (s : State) : State :=
  updEng l (fun e => { e with threads := Tab.upd none e.threads t (fun o => o.map f) }) s

/-- A slot is empty again; its registers are free. -/
def endThread (l t : Nat) (s : State) : State := updEng l (fun e => { e with threads := Tab.set none e.threads t none }) s

/-- Accesses outstanding in the seam crossing into a half: CLK_SEAM.INFL_E and INFL_W (R285). -/
def inflOf (s : State) (east : Bool) : Nat :=
  sumN (s.engs.map (fun p => sumN ((threadsOf p.2).map (fun q =>
    (q.2.loads.filter (fun a => a.cross == some east && !a.err)).length))))

/-! ### Invocations -/

/-- A kernel image by its handle. -/
def kernelOf (s : State) (c handle : Nat) : Option Kernel :=
  (getCtx s c).bind (fun x => x.kernels.find? (fun k => k.handle == handle))

/-- A new thread of an invocation (R124, R141). -/
def threadNew (v : Invocation) (k : Kernel) (regs : List Nat) : Thread :=
  { ctx := v.ctx, inv := some v.id, vregs := k.image.vregs.toNat, map := regs, scratch := k.image.scratch.toNat,
    pc := k.image.entryOffs.getD v.entry 0, wait := .run, loads := [], rerun := false,
    reqtag := (v.tag.map (fun p => p.1)).getD 0, inst := (v.tag.map (fun p => p.2)).getD 0 }

/-- Start one waiting thread of an invocation on an engine, where a slot and its registers are free and CUST_EN permits it; the
instruction cache fills from the image's code (R123), from its first byte on (DESIGN CHOICE, log 114). -/
def startThread (l : Lan) (v : Invocation) (s : State) : State :=
  let e := getEng s l.val
  match kernelOf s v.ctx.val v.handle, freeThread e with
  | some k, some t =>
    let regs := (freeRegs e t).take k.image.vregs.toNat
    if e.custEn && regs.length == k.image.vregs.toNat then
      let s := setEng l.val { e with threads := Tab.set none e.threads t (some (threadNew v k regs)),
                                     icache := k.image.code.take 32768 } s
      { s with invs := updIf (fun w => w.id == v.id) (fun w => { w with waiting := w.waiting.erase l }) s.invs }
    else s
  | _, _ => s

/-- Waiting threads of an engine start, in order of invocation (R145). -/
def startWaiting (l : Lan) (s : State) : State :=
  (s.invs.filter (fun v => v.waiting.contains l)).foldl (fun s v =>
    (v.waiting.filter (fun k => k == l)).foldl (fun s _ => startThread l v s) s) s

/-- An invocation on the engines of some lanterns: its threads start where they can (R124, R143). -/
def startInv (c : Nat) (k : Kernel) (entry : Nat) (ls : List Lan) (cmd : Option Desc) (tag : Option (W32 × W32)) (s : State) : State :=
  let v : Invocation :=
    { id := s.invNext, ctx := Fin.ofNat 16 c, handle := k.handle, entry := entry, lans := ls,
      waiting := ls.flatMap (fun l => List.replicate k.image.threads.toNat l), cmd := cmd, tag := tag, empty := none }
  let s := { s with invs := s.invs ++ [v], invNext := s.invNext + 1 }
  ls.foldl (fun s l => startWaiting l s) s

/-- An unload whose image runs no more completes (R142). -/
def unloadCheck (c : Nat) (s : State) : State :=
  match getCtx s c with
  | none => s
  | some x =>
    let busy (h : Nat) : Bool := s.invs.any (fun v => v.ctx.val == c && v.handle == h)
    let done := x.unloads.filter (fun u => !busy u.1)
    let s := updCtx c (fun x => { x with unloads := x.unloads.filter (fun u => busy u.1),
                                         kernels := x.kernels.filter (fun k => !(done.any (fun u => u.1 == k.handle))) }) s
    done.foldl (fun s u => finish u.2 0 s) s

/-- The threads of an invocation stop on every engine; others that waited start (R147). -/
def stopInv (id : Nat) (s : State) : State :=
  match s.invs.find? (fun v => v.id == id) with
  | none => s
  | some v =>
    let s := { s with invs := s.invs.filter (fun w => w.id != id) }
    let s := v.lans.foldl (fun s l => updEng l.val (fun e =>
      { e with threads := e.threads.filter (fun p => !(p.2.any (fun t => t.inv == some id))) }) s) s
    let s := v.lans.foldl (fun s l => startWaiting l s) s
    unloadCheck v.ctx.val s

/-! ### Customer faults (R147, R151) -/

/-- VEC_FAULT as a word (R150). -/
def faultWord (e : Engine) : Nat :=
  e.faultCause.toNat * 2 ^ 28 + e.faultSlot.toNat * 2 ^ 16 +
    (match e.faultCtx with | none => 0 | some c => 2 ^ 13 + c.val * 2 ^ 9)

/-- Record a thread's fault in its engine's registers: the counter as a byte offset in the image, whose code begins at 0x58 (R141,
R150). -/
def recordFault (l t cause : Nat) (s : State) : State :=
  match threadAt s l t with
  | none => s
  | some th => updEng l (fun e => { e with
      stat := if t < 8 then e.stat else setBit e.stat 1, faultCause := BitVec.ofNat 4 cause, faultSlot := BitVec.ofNat 5 t,
      faultCtx := some th.ctx, faultPc := th.pc + 0x58 }) s

/-- An invocation ends with a fault (R147): its threads stop on every engine, it completes with the kernel-fault status, and
its owner is told by a contained ember. A position whose layer names the kernel goes no further (DESIGN CHOICE, log 130). -/
def failInv (l id : Nat) (s : State) : State :=
  match s.invs.find? (fun v => v.id == id) with
  | none => s
  | some v =>
    let s := stopInv id s
    let s := match v.cmd with | none => s | some d => finish d 0x0202 s
    let s := updCtx v.ctx.val (fun x => { x with acts := x.acts.filter (fun a => !a.stage.contains id) }) s
    ember 2 0x0301 l (ctxIdOf s (some v.ctx)) (faultWord (getEng s l)) s

/-- A customer thread faults (R147). -/
def customerFault (l t cause : Nat) (s : State) : State :=
  match threadAt s l t with
  | none => s
  | some th =>
    let s := recordFault l t cause s
    match th.inv with
    | none => endThread l t s
    | some id => failInv l id s

/-- Customer threads of an engine. -/
def customersOf (e : Engine) : List (Nat × Thread) := (threadsOf e).filter (fun p => decide (8 ≤ p.1))

/-- Every customer thread of an engine stops with cause 0x8 (R148, R150). -/
def stopCustomers (l : Nat) (s : State) : State :=
  (customersOf (getEng s l)).foldl (fun s p => if threadAt s l p.1 = some p.2 then customerFault l p.1 8 s else s) s

/-- Every thread on an engine of a context that goes stops (R146); customer threads with cause 0x8. -/
def stopThreads (l : Nat) (s : State) : State :=
  let s := (customersOf (getEng s l)).foldl (fun s p => recordFault l p.1 8 s) s
  updEng l (fun e => { e with threads := [] }) s

end Sys2Proof.Machine
end

