-- ==== Sys2Proof/Machine/Jobs.lean ====
section
/-! DEFINITION. What firmware does with wicks and lanterns as one procedure after another: starting writes and full trims,
loads (R440, R441), rotation (R195), wick and lantern tests (R477, R479), remaps (R480), rewrite chains (R446), and the end of
a load or a wave. -/

namespace Sys2Proof.Machine

/-- A wick enters FAILED and is recorded as retired (R39, R42); a lantern whose spare has failed has none (R114). -/
def retireWick (l w : Nat) (s : State) : State :=
  let s := updLan l (fun v => if v.spare.map (fun p => p.val) = some w then { v with spare := none } else v) s
  updRecWick l w (fun r => { r with retired := true })
    (updWick l w (fun x => { x with st := .failed, wrBusy := false, wrCells := [], repair := false, lwick := none }) s)

/-! ### Epochs -/

/-- Change an epoch of a context. -/
def updEpoch (c : Nat) (ep : W32) (f : Epoch → Epoch) (s : State) : State :=
  updCtx c (fun x => { x with epochs := updIf (fun e => e.epoch == ep) f x.epochs }) s

/-- An epoch of a context. -/
def epochOf (s : State) (c : Nat) (ep : W32) : Option Epoch :=
  (getCtx s c).bind (fun x => x.epochs.find? (fun e => e.epoch == ep))

/-- The context slot that owns a lantern. -/
def ctxOfLan (s : State) (l : Nat) : Nat := match ownerOfLan s l with | none => 16 | some i => i.val

/-! ### Writes -/

/-- Busy writes of one lantern. -/
def busyOn (s : State) (l : Nat) : Nat := ((List.range 17).filter (fun w => (getWick s l w).wrBusy)).length
/-- Busy writes of the die. -/
def busyDie (s : State) : Nat := (s.wicks.filter (fun e => e.2.wrBusy)).length

/-- Where a write may start (R39, R58). -/
def mayWrite (x : Wick) : Bool := x.st == .unowned || x.st == .ready || x.st == .spare || x.st == .quarantined

/-- The shard whose weights a wick carries or is to carry. -/
def shardOfWick (s : State) (l : Nat) (x : Wick) : Option Shard :=
  x.src.bind (fun p => lanShard s (ctxOfLan s l) x.srcEpoch p.1.val)

/-- The shadow weights a wick's write stream carries: (row, logical column, weight). -/
def streamOf (s : State) (l : Nat) (x : Wick) : List (Nat × Nat × Int) :=
  match shardOfWick s l x, x.src with
  | some h, some p => (List.range 2048).flatMap (fun r => (List.range 512).map (fun c => (r, c, shardW h p.2.val r c)))
  | _, _ => []

/-- Levels of every cell: weight + 8 at the physical column of each logical column (R25, R37); an unmapped spare column is
at level 8 (R38). -/
def cellsOf (x : Wick) (ws : List (Nat × Nat × Int)) : Tab Nat :=
  ws.foldl (fun t p => Tab.set 8 t (p.1 * 520 + physCol x p.2.1) (p.2.2 + 8).toNat) []

/-- The format a wick holds once it carries its shard's weights (R26). -/
def fmtOfWick (s : State) (l : Nat) (x : Wick) : BitVec 4 :=
  match shardOfWick s l x with
  | none => x.wfmt
  | some h => BitVec.ofNat 4 (shardFmt h)

/-- Clear a wick's job. -/
def endJob (l w : Nat) (s : State) : State := updWick l w (fun x => { x with job := .none, stage := .toWrite }) s

/-- A write with MAXP = 0 is a no-op (R69): WR_DONE with RESULT 0, and the request that commands a job's write completes with
OK_EMPTY. The job, which gets no weights, ends (DESIGN CHOICE, log 115). -/
def emptyWrite (l w : Nat) (s : State) : State :=
  let x := getWick s l w
  let c := ctxOfLan s l
  let s := endJob l w (setWick l w { x with wrResult := 0, stat := setBit x.stat 1 } s)
  match x.job with
  | .load => match (epochOf s c x.srcEpoch).bind (fun e => e.cmd) with
    | none => s
    | some d => finish d 1 (updEpoch c x.srcEpoch (fun e => { e with cmd := none }) s)
  | .wave _ => match (getCtx s c).bind (fun y => y.wave) with
    | none => s
    | some v => finish v.cmd 1 (updCtx c (fun y => { y with wave := none, rewrite := none }) s)
  | _ => s

/-- Start a write from row 0 (R43), unless endurance forbids it (R46) or MAXP is 0. -/
def startWrite (l w : Nat) (s : State) : State :=
  let x := getWick s l w
  if x.maxp = 0 then emptyWrite l w s
  else if 999999 ≤ x.pgm.toNat then retireWick l w (updWick l w (fun x => { x with stat := setBit x.stat 2 }) s)
  else setWick l w { x with st := .writing, ctx := ownerOfLan s l, lwick := none, wrBusy := true, wrRows := 0, wrResult := 0,
                            failcol := 0, repair := false, stage := .writing, wfmt := fmtOfWick s l x, wrFrom := nowF s,
                            wrCells := cellsOf x (streamOf s l x) } s

/-- The wicks of a lantern whose job waits in a stage, in the order of the logical wicks they carry (R440). -/
def jobWicks (s : State) (l : Nat) (st : Stage) : List Nat :=
  sortKey (fun w => match (getWick s l w).src with | some p => p.2.val | none => 16)
    ((List.range 17).filter (fun w => let x := getWick s l w; x.job != .none && x.stage == st))

/-- The probe generator is free. -/
def genFree (v : Lantern) : Bool := v.phase == .idle || v.phase == .live

/-- Begin the full trim of a wick in READY or SPARE (R192, R199, R41). -/
def startTrim (l w : Nat) (s : State) : State :=
  let tp := tpointNow s l
  updWick l w (fun x => { clearWin x with probeFail := false })
    (updLan l (fun v => { clearMoments 16 v with phase := .win1, calWick := some (Fin.ofNat 17 w), trimTp := tp }) s)

/-- Start what a lantern's jobs wait for: at most two writes of it and 2,048 of the die at once (R44), and one full trim
while its half runs undivided (R190, R199). Nothing starts during a freeze or after a withhold. -/
def kickLan (l : Nat) (s : State) : State :=
  if s.lmp.frozen || s.snuf.wheld then s
  else
    let ws := (jobWicks s l .toWrite).filter (fun w => mayWrite (getWick s l w))
    let room := min (2 - busyOn s l) (2048 - busyDie s)
    let s := (ws.take room).foldl (fun s w => startWrite l w s) s
    if genFree (getLan s l) && divNow s l == 0 then
      match (jobWicks s l .toTrim).filter (fun w => let x := getWick s l w; x.st == .ready || x.st == .spare) with
      | [] => s
      | w :: _ => startTrim l w s
    else s

/-- Give a wick a job: the logical wick it is to carry, its epoch and the format of those weights. -/
def giveJob (l w : Nat) (j : Job) (ll : LLan) (lw : LWick) (ep : W32) (s : State) : State :=
  let x := { getWick s l w with job := j, src := some (ll, lw), srcEpoch := ep, stage := .toWrite, trimTried := false }
  setWick l w { x with wfmt := fmtOfWick s l x } s

/-! ### Placing a logical lantern -/

/-- The HELD lantern of lowest physical index in a sconce that has no logical index (R446, R480). -/
def heldFree (s : State) (n : Nat) : Option Nat :=
  (lansOf n).find? (fun p => let v := getLan s p; v.st == .held && v.llan.isNone)

/-- Physical wicks of a lantern that can still be written. -/
def goodWicks (s : State) (l : Nat) : List Nat := (List.range 17).filter (fun w => (getWick s l w).st != .failed)

/-- The column map of the device record (R440). -/
def loadColmap (s : State) (l w : Nat) (x : Wick) : Wick :=
  let r := (recWick s l w).colmap
  { x with cm0 := r.getD 0 0, cm1 := r.getD 1 0, cm2 := r.getD 2 0, cm3 := r.getD 3 0 }

/-- Assign logical lantern `ll` of an epoch to a HELD lantern and give its wicks their jobs (R440, R480). -/
def assignLan (c p : Nat) (ll : LLan) (ep : W32) (j : Job) (s : State) : State :=
  let ws := goodWicks s p
  let md := (lanShard s c ep ll.val).bind (fun h => h.md)
  let look := ep == 0
  let kb := match getCtx s c with | some x => keyBits x.vocab | none => 1024
  let shape : BitVec 3 := match md with | none => if look then 4 else 0 | some m => BitVec.ofNat 3 m.shape.toNat
  let fmt : BitVec 4 := if look then 0 else match md with | none => 3 | some m => m.wfmt
  let spare : Option PWick := (ws[16]?).map (fun w => Fin.ofNat 17 w)
  let s := updLan p (fun v => { v with llan := some ll, shape := shape, epoch := ep, wrFails := 0, spare := spare }) s
  let s := ws.foldl (fun s w => updWick p w (fun x =>
    { loadColmap s p w x with wfmt := fmt, mode := if look then 1 else 0,
                              keybits := if look then BitVec.ofNat 11 kb else x.keybits }) s) s
  let s := (List.finRange 16).foldl (fun s lw => match ws[lw.val]? with
    | none => s
    | some w => updLan p (fun v => mapSet v lw.val w) (giveJob p w j ll lw ep s)) s
  kickLan p s

/-! ### The end of a load -/

/-- Own lantern shards of an epoch that are to be written: verified, not written yet, of a layer without a failed shard. -/
def toWriteShards (e : Epoch) : List Shard :=
  e.shards.filter (fun h => isOwnLan h && h.st == .verified && !h.written &&
    !(h.md.any (fun m => layerUnloaded e.shards m.layer)))

/-- Failed shards of an epoch. -/
def failedShards (e : Epoch) : List Shard := e.shards.filter (fun h => h.st == .failed)

/-- The lookup lanterns of a context: its PFXLANT logical lanterns of highest index, lowest first (R425). -/
def lookupLans (s : State) (c : Nat) (x : Ctx) : List Nat :=
  if x.pfx then lastN x.pfxlant ((sconcesOf s c).flatMap (fun n => (List.range 64).map (fun i => 64 * n + i))) else []

/-- Firmware first writes the lookup lanterns when the context's first load on the entry package completes (R425). -/
def startLookup (c : Nat) (s : State) : State :=
  match getCtx s c with
  | none => s
  | some x =>
    let ls := lookupLans s c x
    if x.lkp = [] ∧ ls ≠ [] ∧ x.path.head? = some s.fab.myid ∧ x.vocab ≤ 2 ^ 31 then
      ls.foldl (fun s ll => match heldFree s (sconceOfL ll) with
        | none => s
        | some p => assignLan c p (Fin.ofNat 1024 ll) 0 .load s) (setCtx c (some { x with lkp := lkpShards x ls }) s)
    else s

/-- End the load or adoption command of an epoch: OK, or WGT_LOAD_FAIL with the count and the first failed shard (R437). -/
def endLoad (c : Nat) (ep : W32) (s : State) : State :=
  match epochOf s c ep with
  | none => s
  | some e =>
    let s := updEpoch c ep (fun e => { e with cmd := none, adopt := none }) s
    match e.cmd, e.adopt with
    | none, _ => s
    | some d, some a =>
      complete d (a.fail.getD (if (failedShards e).isEmpty then 0 else 0x0302)) 0 [BitVec.ofNat 32 a.whole, BitVec.ofNat 32 a.rewritten, BitVec.ofNat 32 a.refused] s
    | some d, none => match failedShards e with
      | [] => startLookup c (finish d 0 s)
      | h :: t => complete d 0x0302 0 [BitVec.ofNat 32 (t.length + 1), h.ent.shard] s

/-- Mark the shard of a logical lantern. -/
def updLanShard (c : Nat) (ep : W32) (ll : Nat) (f : Shard → Shard) (s : State) : State :=
  updEpoch c ep (fun e => { e with
    shards := updIf (fun h => h.ent.kind == 1 && h.ent.role == 1 && h.ent.target.toNat == ll) f e.shards }) s

/-- A first load whose lanterns are all in SERVICE: the epoch is LIVE (R439, R437). -/
def loadCheck (c : Nat) (ep : W32) (s : State) : State :=
  match epochOf s c ep with
  | none => s
  | some e =>
    let adopted := match e.adopt with
      | none => false
      | some a => a.strict && a.fail.isSome && !(s.lans.any (fun p => p.2.adopting.isSome && p.2.epoch == ep))
    if adopted then endLoad c ep s
    else if e.first && toWriteShards e = [] then endLoad c ep (updEpoch c ep (fun e => { e with st := .live, first := false }) s)
    else s

/-! ### The end of a wave (R446) -/

/-- Logical lanterns an epoch uses here. -/
def epochLans (e : Epoch) : List Nat :=
  (e.shards.filter (fun h => h.ent.kind == 1 && h.ent.role == 1)).map (fun h => h.ent.target.toNat)

/-- Some logical lantern of an epoch is not yet served under it. -/
def waveOpen (s : State) (c : Nat) (ep : W32) : Bool :=
  match epochOf s c ep with
  | none => false
  | some e => (epochLans e).any (fun ll => match lanOf s ll with
    | none => true
    | some p => (getLan s p).epoch != ep)

/-- Send a CURFEW message (R342). -/
def sendCurfew (dst : Pkg) (ctx : W16) (b : CurfewBody) (s : State) : State :=
  sendMsg { hdrOf 0x12 dst.toNat with ctx := ctx } (.curfew b) s

/-- A REPORT (R343). -/
def sendReport (dst : Pkg) (ctx : W16) (q : CurfewBody) (count held : Nat) (st : Nat) (s : State) : State :=
  sendCurfew dst ctx { q with op := 4, count := BitVec.ofNat 32 count, held := BitVec.ofNat 32 held,
                              status := BitVec.ofNat 8 st } s

/-- A rule's own parameters as a curfew body. -/
def ruleBody (r : HoldRule) : CurfewBody :=
  { cfid := r.cfid, op := 4, mode := if r.below then 1 else 0, layLo := r.layLo, layHi := r.layHi, epoch := r.epoch,
    count := 0, held := 0, status := 0 }

/-- A rule goes: its held messages proceed in their order, ahead of later ones (R343). -/
def freeRule (r : HoldRule) (s : State) : State :=
  { s with fab := { s.fab with
    rules := s.fab.rules.filter (fun q => !(q.cfid == r.cfid && q.ctx == r.ctx)),
    freed := s.fab.freed ++ r.held } }

/-- Remove a rule and send the REPORT (R343). -/
def removeRule (r : HoldRule) (to_ : Pkg) (s : State) : State :=
  sendReport to_ r.ctx (ruleBody r) 0 r.held.length (if r.overflow then 1 else 0) (freeRule r s)

/-- Commit: NEW becomes LIVE and the previous LIVE epoch RETAINED (R446). -/
def commitEpoch (c : Nat) (ep : W32) (s : State) : State :=
  updCtx c (fun x => { x with epochs := x.epochs.map (fun e =>
    if e.epoch = ep then { e with st := .live, shards := e.shards.map (fun h => { h with written := true }) }
    else if e.st = .live then { e with st := .retained } else e) }) s

/-- A rewrite under way whose lanterns are done commits and releases its rules (R446). -/
def waveCheck (c : Nat) (s : State) : State :=
  match getCtx s c with
  | none => s
  | some x => match x.rewrite with
    | none => s
    | some ep =>
      if waveOpen s c ep then s
      else
        let s := updCtx c (fun x => { x with rewrite := none, lifted := x.lifted.filter (fun e => e != ep) }) (commitEpoch c ep s)
        let rs := s.fab.rules.filter (fun r => r.ctx == x.ctxid && r.epoch == ep && r.lifting.isSome)
        rs.foldl (fun s r => removeRule r (r.lifting.getD 0) s) s

/-! ### What a finished or failed job leads to -/

/-- CAL.CONFIG and CHK.RATE settings of a logical lantern, applied to the lantern that serves it (R394). -/
def keptSettings (x : Ctx) (v : Lantern) : Lantern :=
  match v.llan with
  | none => v
  | some ll =>
    let v := match Tab.get none x.calSet ll.val with
      | none => v
      | some p => calDrSet p.2 (calCfgSet p.1 v)
    match Tab.get none x.rateSet ll.val with
    | none => v
    | some a => audlogSet a v

/-- The lantern's 16 wicks enter SERVICE and the lantern with them (R440, R480); its engine takes customer kernels where the
context has loaded images (R150). Its first drive-reference calibration is due before its first flare (R200). -/
def placeLan (l : Nat) (s : State) : State :=
  let s := (List.range 17).foldl (fun s w =>
    let x := getWick s l w
    match x.src with
    | some p => if x.job != .none && x.stage == .done then
        setWick l w { x with st := .service, lwick := some p.2, job := .none, stage := .toWrite } s else s
    | none => s) s
  let s := updLan l (fun v =>
    let v := { v with st := .service, drDue := v.drDue || v.drBegan.isNone }
    if genFree v then { v with phase := restPhase v } else v) s
  match getCtx s (ctxOfLan s l) with
  | none => s
  | some x =>
    let s := updLan l (keptSettings x) s
    if x.kernels = [] then s else updEng l (fun e => { e with custEn := true }) s

/-- All 16 jobs of a lantern are done. -/
def lanDone (s : State) (l : Nat) : Bool := decide ((jobWicks s l .done).length = 16)

/-- After a load: SERVICE, the shard written, and perhaps the whole load done. -/
def loadPlaced (l : Nat) (s : State) : State :=
  let v := getLan s l
  let c := ctxOfLan s l
  let s := placeLan l s
  let s := match v.adopting with
    | none => s
    | some r => updEpoch c v.epoch (fun e => { e with adopt := e.adopt.map (fun a =>
        if r then { a with rewritten := a.rewritten + 1 } else { a with whole := a.whole + 1 }) }) s
  let s := updLan l (fun v => { v with adopting := none }) s
  let s := updLanShard c v.epoch (lanLL v) (fun h => { h with written := true }) s
  waveCheck c (loadCheck c v.epoch s)

/-- A lantern is RETIRED (R479). Firmware releases the wicks its quarantine left in QUARANTINED (R39): DESIGN CHOICE, log 119. -/
def retireLan (l : Nat) (s : State) : State :=
  let s := (List.range 17).foldl (fun s w => updWick l w (fun x =>
    let x := { x with job := .none, stage := .toWrite }
    if x.st = .quarantined then { x with st := .unowned, ctx := none } else x) s) s
  updRecLan l (fun r => { r with retired := true }) (updLan l (fun v => { v with st := .retired, retired := true }) s)

/-- The lantern test (R479): one strike already retires; else all wicks are written and trimmed. -/
def lanternTest (l : Nat) (ll : LLan) (ep : W32) (s : State) : State :=
  if (getLan s l).strike then retireLan l s
  else
    let s := (goodWicks s l).foldl (fun s w =>
      giveJob l w .lanTest ll (Fin.ofNat 16 (w % 16)) ep s) s
    kickLan l s

/-- A lantern leaves for QUARANTINED (R479): no logical index, its customer threads stopped (R148), windows, writes and readbacks
abandoned (R47, R210). Its wicks in SERVICE go to QUARANTINED, which R39 gives as their way to a rewrite; READY and SPARE ones stay
(DEDUCED, log 118). -/
def quarantineLan (l : Nat) (s : State) : State :=
  let s := killProbes l probeKind s
  let s := stopCustomers l (updEng l (fun e => { e with custEn := false }) s)
  let s := updEng l (fun e => { e with threads := [] }) s
  let s := (List.range 17).foldl (fun s w => updWick l w (fun x =>
    let x := clearWin (abandonRb (abandonWrite (nowF s) { x with job := .none, stage := .toWrite }))
    if x.st = .service then { x with st := .quarantined, lwick := none }
    else if x.st = .adopting then { x with st := .unowned, ctx := none }
    else x) s) s
  updLan l (fun v => { clearMoments 16 v with
    st := .quarantined, llan := none, drcal := false, phase := .idle, calWick := none, drAtBoundary := false, arm := false,
    slot0 := Slot.init, slot1 := Slot.init }) s

/-- Choose a reserve for a logical lantern, or withhold (R480, R481). -/
def chooseReserve (c from_ : Nat) (ll : LLan) (ep : W32) (s : State) : State :=
  match heldFree s (sconceOfL ll.val) with
  | some p => assignLan c p ll ep .remap s
  | none => withhold 0x0B from_ s

/-- A closing audit's probe step on a logical wick (R190, R228, R446): drawn from count `n` of the random source, planned as any step,
its codes with the errors the event reports for each physical column, against the exact values of the shadow with the bound
Σ 2^(e+1). A physical column the event does not list read exact, and each step takes 2,048 draws (DESIGN CHOICE, log 147). -/
def closingPasses (s : State) (c l lw n : Nat) (err : List (Nat × Int)) : Bool :=
  let v := getLan s l
  let pw := mapOf v lw
  let x := getWick s l pw
  let ins := probeInputs n
  let us := stepUnits { x with mode := 0 } false ((List.range 4).map (fun i =>
    let r := ins.filter (fun p => p.1 / 512 == i)
    (r.length, l1Of r)))
  let fired (u : Fire) : List Int := (groupVals x { flightOf s (Fin.ofNat 1088 l) (Fin.ofNat 17 pw) v.tpoint.toNat (nowF s) u with
    x := ins.filter (fun p => u.lo ≤ p.1 && p.1 < u.hi) } false err).1
  let vals := sliceVals (us.map fired)
  let ex := exactVals s c v.epoch (lanLL v) lw ins
  let bound := sumN (us.map (fun u => 2 ^ (u.e + 1)))
  (List.range 512).all (fun k => decide ((vals.getD k 0 - ex.getD k 0).natAbs ≤ bound))

/-- The errors an event reports for one logical wick. -/
def errsOf (errs : List (Nat × List (Nat × Int))) (lw : Nat) : List (Nat × Int) := ((errs.find? (fun e => e.1 == lw)).map (fun e => e.2)).getD []

/-- Closing audits of a lantern's wicks: a pass retires journal entries, a failure flags tokens (R478, R446). -/
def closingAudits (c l : Nat) (errs : List (Nat × List (Nat × Int))) (s : State) : State :=
  let now := nowF s
  (List.range 16).foldl (fun s lw =>
    let pw := mapOf (getLan s l) lw
    let ok := (getWick s l pw).st == .service && closingPasses s c l lw s.fresh (errsOf errs lw)
    let s := { s with fresh := s.fresh + 2048 }
    if ok then journalPass c l lw (now + 1) s else flagSuspect c l (getWick s l pw).waud.val.toNat now s) s

/-- A run has a lantern among its own. -/
def runUses (l : Nat) (r : FlareRun) : Bool := r.lans.any (fun q => q.2.1.val == l)

/-- Remap a logical lantern to a reserve, which takes the weights of an epoch (R480). -/
def remapLan (ll : LLan) (ep : W32) (errs : List (Nat × List (Nat × Int))) (s : State) : State :=
  match lanOf s ll.val with
  | none => s
  | some p =>
    let c := ctxOfLan s p
    let s := discardRuns (runUses p) false (· == p) s c
    let s := closingAudits c p errs s
    let old := (getLan s p).epoch
    let s := quarantineLan p s
    let s := chooseReserve c p ll ep s
    if s.snuf.wheld then s else lanternTest p ll old s

/-- The epoch a lantern's context is being rewritten to, where the lantern still waits for it (R446). -/
def wavePending (s : State) (l : Nat) : Option W32 :=
  let v := getLan s l
  match (getCtx s (ctxOfLan s l)).bind (fun x => x.rewrite), v.llan with
  | some ep, some ll =>
    let uses := match epochOf s (ctxOfLan s l) ep with | some e => (epochLans e).contains ll.val | none => false
    if v.st == .service && v.epoch != ep && uses then some ep else none
  | _, _ => none

/-- The next logical wick of a rewrite chain: the first that an older epoch's wick serves (R446). -/
def waveWick (s : State) (l : Nat) (ep : W32) : Option LWick :=
  (List.finRange 16).find? (fun lw => (getWick s l (mapOf (getLan s l) lw.val)).srcEpoch != ep)

/-- Go on with a lantern's rewrite (R446): through its spare, which is tested first where it stands QUARANTINED (R477), or by
a remap where it has none. A spare under another job finishes that first; an armed swap takes place at once (R535). -/
def waveStep (l : Nat) (s : State) : State :=
  match wavePending s l, (getLan s l).llan with
  | some ep, some ll =>
    match waveWick s l ep with
    | none => updLan l (fun v => { v with epoch := ep }) s
    | some lw => match (getLan s l).spare with
      | none => remapLan ll ep [] s
      | some p =>
        let x := getWick s l p.val
        if x.job ≠ .none ∨ x.wrBusy then s
        else if x.st = .failed then remapLan ll ep [] s
        else if x.st = .quarantined then
          if x.strike then remapLan ll ep [] (retireWick l p.val s)
          else match x.src with
            | none => kickLan l (giveJob l p.val (.wave lw) ll lw ep s)
            | some q => kickLan l (giveJob l p.val .quarTest q.1 q.2 x.srcEpoch s)
        else kickLan l (giveJob l p.val (.wave lw) ll lw ep s)
  | _, _ => s

/-- The spare's job has ended: an armed swap takes place and the rewrite goes on, where one waits. -/
def waveResume (l : Nat) (s : State) : State :=
  if (wavePending s l).isSome then waveStep l (swapAtBoundary l s) else s

/-- A load's lantern is given up: it is tested, and a reserve takes its place, or the shard fails (R441). -/
def rejectLan (l : Nat) (j : Job) (s : State) : State :=
  let v := getLan s l
  let c := ctxOfLan s l
  match v.llan with
  | none => quarantineLan l s
  | some ll =>
    let s := if v.adopting.isSome then updEpoch c v.epoch (fun e => { e with
        adopt := e.adopt.map (fun a => { a with refused := a.refused + 1 }) }) s else s
    let s := lanternTest l ll v.epoch (quarantineLan l (updLan l (fun v => { v with adopting := none }) s))
    let first := match epochOf s c v.epoch with | some e => e.first | none => true
    match heldFree s (sconceOfL ll.val) with
    | some p =>
      let s := if v.adopting.isSome then updLan p (fun q => { q with adopting := some true }) s else s
      assignLan c p ll v.epoch j s
    | none =>
      if j = .remap || !first then withhold 0x0B l s
      else loadCheck c v.epoch (updLanShard c v.epoch ll.val (fun h => { h with st := .failed }) s)

/-- The job of a wick that has left for FAILED or QUARANTINED (R441, R195, R477, R446, R479). A quarantined one stays the
lantern's spare for its single test; a failed one leaves it without a spare (R114). -/
def jobFail (l w : Nat) (s : State) : State :=
  let x := getWick s l w
  let v := getLan s l
  let s := endJob l w s
  match x.job with
  | .none => s
  | .load | .remap =>
    let spare := v.spare.filter (fun p => (getWick s l p.val).st != .failed && (getWick s l p.val).job == .none)
    let left : Option PWick := if x.st = .quarantined then some (Fin.ofNat 17 w) else none
    match spare, x.src with
    | some p, some q =>
      if v.wrFails = 0 then
        kickLan l (giveJob l p.val x.job q.1 q.2 x.srcEpoch
          (updLan l (fun v => mapSet { v with wrFails := 1, spare := left } q.2.val p.val) s))
      else rejectLan l x.job s
    | _, _ => rejectLan l x.job s
  | .rotation _ => waveResume l s
  | .quarTest => waveResume l (if x.st = .failed then s else retireWick l w s)
  | .wave _ =>
    match v.llan with
    | none => s
    | some ll =>
      let ep := x.srcEpoch
      let c := ctxOfLan s l
      chooseReserve c l ll ep (lanternTest l ll ep (quarantineLan l s))
  | .lanTest => retireLan l s

/-- Jobs of a lantern's wicks that a refused write has left FAILED (R46). -/
def reapLan (l : Nat) (s : State) : State :=
  (List.range 17).foldl (fun s w => let x := getWick s l w; if x.st = .failed ∧ x.job ≠ .none then jobFail l w s else s) s

/-- Start what a lantern's jobs wait for, and go on where a write was refused. -/
def runLan (l : Nat) (s : State) : State := reapLan l (kickLan l s)

/-- A full trim has passed: the wick's job goes on (R193, R195, R446, R477, R479). -/
def jobTrimmed (l w : Nat) (s : State) : State :=
  let x := getWick s l w
  let s := updWick l w (fun x => { x with stage := .done }) s
  match x.job with
  | .none => s
  | .load => if lanDone s l then loadPlaced l s else s
  | .remap =>
    if lanDone s l then
      updLan l (fun v => { v with drDue := true }) s
    else s
  | .rotation lw =>
    waveResume l (endJob l w (updWick l w (fun x => { x with st := .spare })
      (updLan l (fun v => { v with spare := some (Fin.ofNat 17 w), arm := true, swapLw := lw }) s)))
  | .quarTest =>
    let s := updWick l w (fun x => { x with st := .spare, strike := true }) s
    waveResume l (endJob l w (updRecWick l w (fun r => { r with strike := true })
      (updLan l (fun v => { v with spare := some (Fin.ofNat 17 w) }) s)))
  | .wave lw =>
    let s := endJob l w (updWick l w (fun x => { x with st := .spare })
        (updLan l (fun v => { v with spare := some (Fin.ofNat 17 w), arm := true, swapLw := lw }) s))
    let s := waveStep l (swapAtBoundary l s)
    waveCheck (ctxOfLan s l) s
  | .lanTest =>
    if (jobWicks s l .done).length = (goodWicks s l).length then
      updLan l (fun v => { v with drDue := true }) s
    else s

/-- A lantern test that passed (R479): a reserve in HELD with one strike; its wicks stay verified and unmapped. -/
def testPassed (l : Nat) (s : State) : State :=
  let s := (List.range 17).foldl (fun s w => endJob l w s) s
  updRecLan l (fun r => { r with strike := true }) (updLan l (fun v => { v with st := .held, strike := true }) s)

/-- A lantern's jobs wait for its drive-reference calibration: it is placed, or its test is over (R479, R480). -/
def afterDriveRef (l : Nat) (s : State) : State :=
  let js := (jobWicks s l .done).map (fun w => (getWick s l w).job)
  if js.any (fun j => j == .remap) ∧ lanDone s l then loadPlaced l s
  else if js.any (fun j => j == .lanTest) then testPassed l s
  else s

/-- A lantern in SERVICE is remapped when an event has asked for it (R231, R246), or when it has no spare and one of its wicks is
marked for early full trim (R196). -/
def earlyRemap (l : Nat) (s : State) : State :=
  let v := getLan s l
  match v.llan with
  | some ll =>
    if v.st = .service ∧ !s.snuf.wheld ∧
        (v.remapDue ∨ (v.spare.isNone ∧ (List.range 16).any (fun lw => (getWick s l (mapOf v lw)).early))) then
      remapLan ll v.epoch [] (updLan l (fun v => { v with remapDue := false }) s)
    else s
  | none => s

/-! ### Remaps (R478, R480) -/

/-- LANTERN_REMAP (R480). -/
def execLanternRemap (ll : LLan) (closing : List (LWick × List (Nat × Int))) (s : State) : Host.Outcome State Fault Refusal :=
  .next (match lanOf s ll.val with
    | none => s
    | some p => remapLan ll (getLan s p).epoch (closing.map (fun e => (e.1.val, e.2))) s)

end Sys2Proof.Machine
end

