-- ==== Sys2Proof/Machine/Wicks.lean ====
section
/-! DEFINITION. Wick events: writes and repair passes (R43 to R47, R216), readbacks (R48 to R52) and adoption (R443),
lookup confirmation (R56), and the writes of `WCK_WRCTL`, `WCK_RBCTL`, `WCK_COLMAPn` and `WCK_CFG`. -/

namespace Sys2Proof.Machine

/-- WCK_STAT.CFG_ERR. -/
def wickCfgErr (w : Wick) : Wick := { w with stat := setBit w.stat 6 }

/-! ### What a write leaves in the wick -/

/-- RS and RJ of R216 from the weight rows. -/
def checkStore (ws : List (Nat × Nat × Int)) : Tab Int × Tab Int :=
  ws.foldl (fun t p =>
    let k := p.1 * 4 + p.2.1 / 128
    (Tab.upd 0 t.1 k (fun v => v + p.2.2), Tab.upd 0 t.2 k (fun v => v + ((p.2.1 % 128 + 1 : Nat) : Int) * p.2.2))) ([], [])

/-- The store image that the check digest covers (R216): by row and group, RS in two bytes and RJ in three. The manual gives no
layout (DESIGN CHOICE, log 112). -/
def storeImage (x : Wick) : List Byte :=
  (List.range 8192).flatMap (fun k =>
    leBytes 2 (BitVec.ofInt 16 (Tab.get 0 x.rs k)).toNat ++ leBytes 3 (BitVec.ofInt 24 (Tab.get 0 x.rj k)).toNat)

/-- The check store of a wick is filled from the shadow (R216). -/
def fillStore (l w : Nat) (s : State) : State :=
  let x := getWick s l w
  let c := checkStore (streamOf s l x)
  setWick l w { x with rs := c.1, rj := c.2, rsBad := [] } s

/-- The store image meets the check digest of the shard's metadata (R216); a lookup lantern's shadow carries none. -/
def storeOk (s : State) (l w : Nat) : Bool :=
  let x := getWick s l w
  match (shardOfWick s l x).bind (fun h => h.md), x.src with
  | some m, some p => Config.sha384 (storeImage x) == m.ckdig.getD p.2.val 0
  | _, _ => true

/-- The program count goes up; at 800,000 ENDURE and a notice (R46). -/
def countProgram (l w : Nat) (s : State) : State :=
  let n := (getWick s l w).pgm.toNat + 1
  let s := updWick l w (fun x => { x with pgm := BitVec.ofNat 24 n }) s
  if n = 800000 then ember 0 0x0101 (l * 17 + w) none n (updWick l w (fun x => { x with stat := setBit x.stat 7 }) s) else s

/-- Codes of the verify reads of the cells whose first read is not 4 × level exactly: row, physical column, codes in order
(R43). -/
abbrev Reads := List (Nat × Nat × List Int)

/-- A cell verifies within its first `maxp` pulses: a read within 1 of 4 × level (R43). -/
def verified (maxp level : Nat) (ks : List Int) : Bool := (ks.take maxp).any (fun k => decide ((k - 4 * (level : Int)).natAbs ≤ 1))

/-- Cells of a write that did not verify, with the level each is left at: the nearest to its last read (DEDUCED, log 116). -/
def badCells (x : Wick) (rs : Reads) : List (Nat × Nat × Nat) :=
  rs.filterMap (fun c =>
    if c.1 < 2048 ∧ c.2.1 < 520 ∧ writesCol x c.2.1 = true ∧
        !verified x.maxp.toNat (Tab.get 8 x.wrCells (c.1 * 520 + c.2.1)) c.2.2 then
      some (c.1, c.2.1, nearLevel ((c.2.2.take x.maxp.toNat).getLastD 0))
    else none)

/-- Physical columns with unverified cells. -/
def badCols (x : Wick) (rs : Reads) : List Nat := ((badCells x rs).map (fun c => c.2.1)).dedup

/-- The rows of a write are all programmed (R43). -/
def program (rs : Reads) (x : Wick) : Wick :=
  let t := (badCells x rs).foldl (fun t c => Tab.set 8 t (c.1 * 520 + c.2.1) c.2.2) (cellsAfter 2048 x)
  { x with cells := t, wrCells := [], wrRows := 2048 }

/-! ### Column repair -/

/-- Logical columns whose physical column failed. -/
def failedCols (x : Wick) (cols : List Nat) : List Nat := (List.range 512).filter (fun c => cols.contains (physCol x c))

/-- Free spares, by index 0 to 7, that did not fail themselves. -/
def freeSpares (x : Wick) (cols : List Nat) : List Nat :=
  (withPos 0 (spareMap x)).filterMap (fun p => if p.2.isNone && !(cols.contains (512 + p.1)) then some p.1 else none)

/-- One half of a column-map register. -/
def cmPut (v : W32) (hi : Bool) (c : Option Nat) : W32 :=
  let f : Nat := match c with | none => 0 | some c => 0x8000 + c % 512
  if hi then BitVec.ofNat 32 (v.toNat % 65536 + f * 65536) else BitVec.ofNat 32 (v.toNat / 65536 * 65536 + f)

/-- Write spare `i`'s entry. -/
def putSpare (x : Wick) (i : Nat) (c : Option Nat) : Wick :=
  let h : Bool := decide (i % 2 = 1)
  if i < 2 then { x with cm0 := cmPut x.cm0 h c }
  else if i < 4 then { x with cm1 := cmPut x.cm1 h c }
  else if i < 6 then { x with cm2 := cmPut x.cm2 h c }
  else { x with cm3 := cmPut x.cm3 h c }

/-- Map failing logical columns onto free spares (R45, R194); an entry that pointed at a failed spare is cleared. -/
def repairMap (x : Wick) (cols : List Nat) : Wick :=
  let ps := (failedCols x cols).zip (freeSpares x cols)
  let x := (withPos 0 (spareMap x)).foldl (fun x p => if p.2.isSome && cols.contains (512 + p.1) then putSpare x p.1 none else x) x
  ps.foldl (fun x p => putSpare x p.2 (some p.1)) x

/-- Columns on which a repair is possible (R45). -/
def canRepair (x : Wick) (cols : List Nat) : Bool := decide ((failedCols x cols).length ≤ (freeSpares x cols).length)

/-! ### The end of a write -/

/-- A write ends in FAILED: RESULT 3, WR_FAIL, an ember, and the job's next step (R45, R216). `n` columns have unverified cells. -/
def writeFailed (l w n : Nat) (s : State) : State :=
  let s := retireWick l w (updWick l w (fun x => { x with wrResult := 3, failcol := satOf 4 n, stat := setBit x.stat 2 }) s)
  runLan l (jobFail l w (ember 2 0x0102 (l * 17 + w) none n s))

/-- A write or repair pass has succeeded: READY, WR_DONE, and a full trim waits where a job asks for it (R45, R193). -/
def writeEnds (res : BitVec 2) (x : Wick) : Wick :=
  { x with st := .ready, wrBusy := false, repair := false, wrResult := res, stat := setBit x.stat 1,
           stage := if x.job = .none then x.stage else .toTrim }

/-- What follows a write's success. -/
def writeOk (l w : Nat) (res : BitVec 2) (s : State) : State := runLan l (updWick l w (writeEnds res) s)

/-- Start a repair pass: the failing columns are mapped, and the spare columns alone are programmed (R45). -/
def startRepair (l w : Nat) (cols : List Nat) (s : State) : State :=
  let x := repairMap (getWick s l w) cols
  setWick l w { x with st := .writing, wrBusy := true, repair := true, wrRows := 0, wrFrom := nowF s,
                       wrCells := cellsOf x (streamOf s l x) } s

/-- A write's or repair pass's rows are over (R45, R216): every cell programmed, the check store filled and compared. -/
def writeOver (l w : Nat) (rs : Reads) (s : State) : State := fillStore l w (updWick l w (program rs) s)

/-- WICK_WRITE_DONE (R45, R46, R216). A failing spare column that replaces none fails no write: it is no longer free. -/
def writeDone (l w : Nat) (rs : Reads) (s : State) : State :=
  let x := getWick s l w
  if x.wrBusy && !x.repair then
    let cols := badCols x rs
    let s := updWick l w (fun x => { x with failcol := satOf 4 cols.length }) (countProgram l w (writeOver l w rs s))
    if !storeOk s l w then writeFailed l w cols.length s
    else if failedCols x cols = [] then writeOk l w 1 s
    else if canRepair x cols then startRepair l w cols s
    else writeFailed l w cols.length s
  else s

/-- A repair pass ends (R45): a failing spare column fails the wick; a success is recorded in the device record (R440). A lantern
test admits no repair beyond those recorded (R479). -/
def repairDone (l w : Nat) (rs : Reads) (s : State) : State :=
  let x := getWick s l w
  if x.wrBusy && x.repair then
    let cols := badCols x rs
    let s := writeOver l w rs s
    if failedCols x cols = [] ∧ storeOk s l w then
      let s := updRecWick l w (fun r => { r with colmap := [x.cm0, x.cm1, x.cm2, x.cm3] }) s
      if x.job = .lanTest then jobFail l w (updWick l w (writeEnds 2) s) else writeOk l w 2 s
    else writeFailed l w cols.length s
  else s

/-! ### Starting a write -/

/-- WCK_WRCTL (R43, R44, R46, R58, R69): a START that cannot be is ignored whole and sets CFG_ERR. -/
def wrctlWrite (l w : Nat) (v : W32) (s : State) : State :=
  let x := getWick s l w
  let maxp : BitVec 4 := BitVec.ofNat 4 (fld v 3 0)
  if bitAt v 31 then
    let full := decide (2 ≤ busyOn s l) || decide (2048 ≤ busyDie s)
    if !(mayWrite x) || (getLan s l).st == .retired || full || s.lmp.frozen || s.snuf.wheld then setWick l w (wickCfgErr x) s
    else
      startWrite l w (setWick l w { x with maxp := maxp } s)
  else setWick l w { x with maxp := maxp } s

/-- WICK_WRCTL_START (R43). -/
def execWickWrctlStart (l : Lan) (w : PWick) (v : W32) (s : State) : Host.Outcome State Fault Refusal :=
  .next (wrctlWrite l.val w.val v s)

/-! ### Readback and adoption -/

/-- Start a readback from row 0 (R48). RESULT and MARG of the last one stand until it completes (DESIGN CHOICE, log 117). -/
def startRb (l w : Nat) (s : State) : State :=
  updWick l w (fun x => { x with rbBusy := true, rbRows := 0, rbLaunched := 0, rbLev := [], rbMarg := 0 }) s

/-- WCK_RBCTL (R48, R41, R58): in WRITING or while one runs a START is ignored; elsewhere outside ADOPTING and SERVICE it
is refused. -/
def rbctlWrite (l w : Nat) (v : W32) (s : State) : State :=
  let x := getWick s l w
  if bitAt v 31 then
    if x.st = .writing ∨ x.rbBusy then s
    else if (x.st = .adopting ∨ x.st = .service) ∧ !s.snuf.wheld then startRb l w s
    else setWick l w (wickCfgErr x) s
  else s

/-- WICK_RBCTL_START (R48). -/
def execWickRbctlStart (l : Lan) (w : PWick) (v : W32) (s : State) : Host.Outcome State Fault Refusal :=
  .next (rbctlWrite l.val w.val v s)

/-- Wicks of a lantern in ADOPTING. -/
def adoptingOn (s : State) (l : Nat) : List Nat := (List.range 17).filter (fun w => (getWick s l w).st == .adopting)

/-- An adopting lantern reads back four wicks at a time (R443). -/
def kickAdopt (l : Nat) (s : State) : State :=
  let ws := adoptingOn s l
  let busy := (ws.filter (fun w => (getWick s l w).rbBusy)).length
  ((ws.filter (fun w => !(getWick s l w).rbBusy)).take (4 - busy)).foldl (fun s w => startRb l w s) s

/-- Leave a lantern UNOWNED after a strict adoption failed on it (R443). -/
def adoptGiveUp (l : Nat) (st : W16) (s : State) : State :=
  let v := getLan s l
  let c := ctxOfLan s l
  let s := (List.range 17).foldl (fun s w => updWick l w (fun x =>
    if x.st = .failed then x else { x with st := .unowned, ctx := none, job := .none, stage := .toWrite, hit := none }) s) s
  let s := updLan l (fun v => { v with llan := none, adopting := none }) s
  loadCheck c v.epoch (updEpoch c v.epoch (fun e => { e with
    adopt := e.adopt.map (fun a => { a with fail := some (a.fail.getD st) }) }) s)

/-- Adoption, step 3 and 4 (R443): each logical wick matched goes to the lowest matching physical wick, whose check store, filled
from the shadow, must meet its digest (R216); the other wicks return to UNOWNED, and unmatched logical wicks are written on
them. -/
def adoptMap (l : Nat) (ll : LLan) (ep : W32) (strict : Bool) (s : State) : State :=
  let best (lw : LWick) : Option Nat :=
    (List.range 17).find? (fun w =>
      (getWick s l w).st == .ready && (getWick s l w).hit == some lw &&
        storeOk (fillStore l w (giveJob l w .load ll lw ep s)) l w)
  let found := (List.finRange 16).filterMap (fun lw => (best lw).map (fun w => (lw, w)))
  let missing := (List.finRange 16).filter (fun lw => (best lw).isNone)
  if strict && !missing.isEmpty then adoptGiveUp l 0x0304 s
  else
    let s := (List.range 17).foldl (fun s w =>
      if found.any (fun p => p.2 == w) then s
      else updWick l w (fun x => if x.st = .failed then x else { x with st := .unowned, hit := none }) s) s
    let s := found.foldl (fun s p =>
      updWick l p.2 (fun x => { x with stage := .toTrim, hit := none })
        (fillStore l p.2 (updLan l (fun v => mapSet v p.1.val p.2) (giveJob l p.2 .load ll p.1 ep s)))) s
    let free := (goodWicks s l).filter (fun w => !(found.any (fun p => p.2 == w)))
    let s := (missing.zip free).foldl (fun s p =>
      updLan l (fun v => mapSet v p.1.val p.2) (giveJob l p.2 .load ll p.1 ep s)) s
    let spare : Option PWick := ((free.drop missing.length).head?).map (fun w => Fin.ofNat 17 w)
    let s := updLan l (fun v => { v with spare := spare, adopting := some (!missing.isEmpty) }) s
    if free.length < missing.length then rejectLan l .load s else kickLan l s

/-- All readbacks of an adopting lantern are over. -/
def adoptCheck (l : Nat) (s : State) : State :=
  let v := getLan s l
  match v.adopting, v.llan with
  | some _, some ll =>
    if adoptingOn s l = [] then
      let strict := match (epochOf s (ctxOfLan s l) v.epoch).bind (fun e => e.adopt) with | some a => a.strict | none => false
      adoptMap l ll v.epoch strict s
    else kickAdopt l s
  | _, _ => s

/-- The bytes a readback's digest covers (R50): per row, the levels of logical columns 0 to 511 packed two to a byte. -/
def levelBytes (lev : Nat → Nat → Nat) : List Byte :=
  (List.range 2048).flatMap (fun r => (List.range 256).map (fun i => BitVec.ofNat 8 (lev r (2 * i) % 16 + 16 * (lev r (2 * i + 1) % 16))))

/-- The digest of the levels a readback has resolved. -/
def rbDigest (x : Wick) : Digest := Config.sha384 (levelBytes (fun r c => Tab.get 8 x.rbLev (r * 512 + c)))

/-- The digest a logical wick of a shard must read back as: its metadata's; of a lookup lantern, which has none, its shadow's
levels. -/
def wantDigest (h : Shard) (lw : Nat) : Digest :=
  match h.md with
  | some m => m.rbdig.getD lw 0
  | none => Config.sha384 (levelBytes (fun r c => (shardW h lw r c + 8).toNat))

/-- The logical wick whose digest a readback meets (R50, R443): any of the lantern's in ADOPTING, its own in SERVICE. -/
def rbHit (s : State) (l : Nat) (x : Wick) : Option LWick :=
  let v := getLan s l
  match v.llan.bind (fun ll => lanShard s (ctxOfLan s l) (if x.st = .adopting then v.epoch else x.srcEpoch) ll.val) with
  | none => none
  | some h => (List.finRange 16).find? (fun lw => (x.st == .adopting || x.lwick == some lw) && rbDigest x == wantDigest h lw.val)

/-- READBACK_DONE (R50, R51, R443, R447), after the last probe row: a match needs no marginal cell. In ADOPTING it decides the
wick's state; in SERVICE a mismatch is handled as an audit failure. -/
def readbackDone (l w : Nat) (s : State) : State :=
  let x := getWick s l w
  if x.rbBusy ∧ x.rbRows = 2048 then
    let marg := x.rbMarg
    let hit := if marg = 0 then rbHit s l x else none
    let ok := hit.isSome
    let s := setWick l w { x with
      rbBusy := false, rbLaunched := 0, rbLev := [], rbMarg := 0, rbResult := if ok then 1 else 2, marg := satOf 12 marg,
      stat := setBit (if ok then x.stat else if marg = 0 then setBit x.stat 4 else setBit (setBit x.stat 4) 5) 3 } s
    if x.st = .adopting then
      adoptCheck l (updWick l w (fun x => if ok then { x with st := .ready, hit := hit } else { x with st := .unowned }) s)
    else if x.st = .service ∧ !ok then
      match x.lwick with
      | none => s
      | some lw => earlyRemap l (auditFail (ctxOfLan s l) l w lw.val (nowF s) 0 (noteAuditFail l s))
    else s
  else s

/-- WICK_READBACK_CHECK (R447): the interval's readback of a wick in SERVICE; one whose lantern is being rewritten is left
to its next interval (R449). -/
def execWickReadbackCheck (l : Lan) (w : PWick) (s : State) : Host.Outcome State Fault Refusal :=
  let x := getWick s l.val w.val
  let chain := (List.range 17).any (fun i => match (getWick s l.val i).job with | .wave _ => true | _ => false)
  .next (if x.st = .service ∧ !x.rbBusy ∧ !chain ∧ !s.snuf.wheld then startRb l.val w.val s else s)

/-! ### Lookup -/

/-- A candidate column of a lookup flare's slice with `n` driven pairs (R56): its distance code, over all groups of a split step,
is at most MATCH_T. -/
def isCandidate (x : Wick) (a : SliceAcc) (n : Nat) (col : Nat) : Bool :=
  decide (2 * (n : Int) - sumI (a.groups.map (fun g => g.vals.getD col 0)) ≤ 4 * (x.matchT.toNat : Int))

/-- LOOKUP_CANDIDATE_CONFIRM (R56): a hit is reported only when every driven bit of the shadow's key agrees. -/
def lookupConfirm (l w col : Nat) (s : State) : State :=
  let v := getLan s l
  let x := getWick s l w
  if x.mode = 1 then
    match v.accs.find? (fun a => a.pw.val == w) with
    | none => s
    | some a =>
      match findRun s a.flare with
      | some (c, r) =>
        let ins := a.groups.flatMap (redoInputs s l r a)
        let n := ins.length / 2
        let agree := (exactVals s c v.epoch (lanLL v) a.lw.val ins).getD col 0
        if isCandidate x a n col ∧ agree = 2 * (n : Int) then
          updLan l (fun v => { v with hits := v.hits ++ [(a.flare, a.lw.val, col)] }) s
        else s
      | none => s
  else s

/-- LOOKUP_CANDIDATE_CONFIRM (R56). -/
def execLookupCandidateConfirm (l : Lan) (w : PWick) (col : Nat) (s : State) : Host.Outcome State Fault Refusal :=
  .next (lookupConfirm l.val w.val col s)

/-! ### Other register writes -/

/-- Two valid entries name one logical column. -/
def dupCols (x : Wick) : Bool :=
  let cs := (spareMap x).filterMap id
  decide (cs.dedup.length ≠ cs.length)

/-- Write WCK_COLMAPn; reserved bits read 0 (R64). -/
def putColmap (x : Wick) (n : Nat) (v : W32) : Wick :=
  let v := v &&& 0x81FF81FF
  if n = 0 then { x with cm0 := v } else if n = 1 then { x with cm1 := v } else if n = 2 then { x with cm2 := v }
  else { x with cm3 := v }

/-- WCK_COLMAP_WRITE (R37): refused in SERVICE and when two entries would share a column. Elsewhere the map changes at once for
conversion too; R38 gives a remap its effect only with the wick's next write (DESIGN CHOICE, log 120). -/
def execWckColmapWrite (l : Lan) (w : PWick) (n : Fin 4) (v : W32) (s : State) : Host.Outcome State Fault Refusal :=
  let x := getWick s l.val w.val
  let y := putColmap x n.val v
  .next (setWick l.val w.val (if x.st = .service ∨ dupCols y then wickCfgErr x else y) s)

/-- WCK_CFG_WRITE (R58, R62). A write with MODE 2 or 3 is ignored whole, its WFMT with it, and, unlike a refused one, sets no
CFG_ERR (DESIGN CHOICE, log 121). -/
def execWckCfgWrite (l : Lan) (w : PWick) (v : W32) (s : State) : Host.Outcome State Fault Refusal :=
  let x := getWick s l.val w.val
  let m := fld v 7 6
  let f := fld v 3 0
  .next (setWick l.val w.val (
    if !(mayWrite x) ∨ 3 < f ∨ (m = 1 ∧ f ≠ 0) then wickCfgErr x
    else if 1 < m then x
    else { x with mode := BitVec.ofNat 2 m, wfmt := BitVec.ofNat 4 f }) s)

end Sys2Proof.Machine
end

