-- ==== Sys2Proof/Machine/Trim.lean ====
section
/-! DEFINITION. Trim: estimates from a window (R187), live trim (R188, R189), full trim (R192, R194, R218), rotation (R195,
R477), drive-reference calibration (R197 to R199) and the device record (R200). -/

namespace Sys2Proof.Machine

/-! ### Estimates -/

/-- What a column's window gives (R187); `nan` where FP64 gives a NaN. An infinity is the number 2^1024, above every FP64
number. -/
structure Est where
  g : Dy
  o : Dy
  vp : Dy
  nan : Bool
deriving DecidableEq, Repr

/-- Infinity. -/
def f64Inf : Dy := ⟨1, 1024⟩

/-- √(x ÷ v) for x not below 0: a NaN for 0 ÷ 0 and below 0. -/
def f64SqrtQuot (x v : Dy) : Option Dy :=
  if v.m = 0 then (if x.m = 0 then none else some f64Inf)
  else if v.m < 0 then (if x.m = 0 then some ⟨0, 0⟩ else none)
  else some (f64Sqrt (f64Div x v))

/-- R187's estimate from levels and row sums of one column: rows with (level, X1, X2), the column's S1 and S2, SE, 12 × SQ
and N; every operation in FP64, sums in row order. -/
def estimate (rows : List (Nat × Int × Nat)) (s1 s2 : Int) (se sq12 n : Nat) : Est :=
  let d (x : Int) : Dy := f64 (Dy.ofInt x)
  let nn := d n
  let sq := f64Div (d sq12) (d 12)
  let p1 := f64Sum (rows.map (fun r => f64Mul (d r.1) (d r.2.1)))
  let vp := f64Sum (rows.map (fun r =>
    let m := f64Div (d r.2.1) nn
    f64Mul (f64Mul (d r.1) (d r.1)) (f64Sub (f64Div (d r.2.2) nn) (f64Mul m m))))
  let m := f64Div (d s1) nn
  let vm := f64Sub (f64Div (d s2) nn) (f64Mul m m)
  let x := f64Sub vm (f64Div sq nn)
  let g := f64SqrtQuot (if x.m < 0 then Dy.ofInt 0 else x) vp
  { g := g.getD (Dy.ofInt 1), o := f64Div (f64Sub (d s1) (f64Mul (g.getD (Dy.ofInt 1)) p1)) (d se), vp := vp, nan := g.isNone }

/-- Rows a window drove, with the column's shadow level and the row sums. -/
def windowRows (s : State) (l : Nat) (x : Wick) (key col : Nat) : List (Nat × Int × Nat) :=
  let v := getLan s l
  let w (r : Nat) : Int := match x.src with
    | none => 0
    | some (ll, lw) => shadowW s (ctxOfLan s l) x.srcEpoch ll.val lw.val r col
  (v.x2.filter (fun e => e.1 / 2048 == key)).map (fun e =>
    let r := e.1 % 2048
    ((w r + 8).toNat, Tab.get 0 v.x1 e.1, e.2))

/-- The estimate of one logical column of a wick over `n` steps. -/
def estCol (s : State) (l : Nat) (x : Wick) (key n col : Nat) : Est :=
  let pc := physCol x col
  estimate (windowRows s l x key col) (Tab.get 0 x.s1 pc) (Tab.get 0 x.s2 pc) x.se x.sq12 n

/-! ### Live trim -/

/-- The offset step of a live window (R189): against 16 × o. -/
def liveOffset (o : Dy) : Int :=
  let t := f64Mul (Dy.ofInt 16) o
  if Dy.le (f64Of 3 4) t then -1 else if Dy.le t (f64Of (-3) 4) then 1 else 0

/-- The gain step of a live window (R189). -/
def liveGain (g : Dy) : Int :=
  let t := f64Sub g (Dy.ofInt 1)
  if Dy.le (f64Of 75 100000) t then -1 else if Dy.le t (f64Of (-75) 100000) then 1 else 0

/-- The gain estimate counts only with enough variance (R188): VP ≥ 64 × SQ ÷ N. -/
def gainUsable (e : Est) (sq12 n : Nat) : Bool :=
  Dy.le (f64Div (f64Mul (Dy.ofInt 64) (f64Div (Dy.ofInt sq12) (Dy.ofInt 12))) (Dy.ofInt n)) e.vp

/-- One live change: queued for the flare boundary, or refused beyond ±4 with the wick marked for early full trim (R189). -/
def liveChange (l w kind pc : Nat) (d : Int) (s : State) : State :=
  if d = 0 then s
  else
    let v := getLan s l
    let wait := sumI ((v.trimNext.filter (fun c => c.pw.val == w && c.kind == kind && c.col == pc)).map (fun c => c.delta))
    let sum := Tab.get 0 (getWick s l w).live (kind * 520 + pc) + wait + d
    if sum < -4 ∨ 4 < sum then
      updWick l w (fun x => { x with early := true }) (setLan l { v with calStat := setBit v.calStat 6 } s)
    else setLan l { v with trimNext := v.trimNext ++ [{ pw := Fin.ofNat 17 w, kind := kind, col := pc, delta := d }],
                           calStat := setBit v.calStat 0 } s

/-- The live window of one wick (R188, R189). -/
def liveWick (l key n : Nat) (s : State) (lw : Nat) : State :=
  let v := getLan s l
  let w := mapOf v lw
  let x := getWick s l w
  let s :=
    if v.liveEn && x.winRot && x.mode == 0 && x.st == .service && decide (0 < x.winSteps) then
      let s := updLan l (fun v => { v with livewin := v.livewin + 1 }) s
      (List.range 512).foldl (fun s c =>
        let e := estCol s l x key n c
        let pc := physCol x c
        if e.nan then s
        else
          let s := liveChange l w 0 pc (liveOffset e.o) s
          if gainUsable e x.sq12 n then liveChange l w 1 pc (liveGain e.g) s else s) s
    else s
  updWick l w clearWin s

/-- MOMENT_WINDOW_END (R111, R186): the slice's 65,536 steps are there; every wick of the slice hands its window over. A wick this
marks on a lantern without a spare has it remapped (R196). -/
def momentEnd (l key : Nat) (s : State) : State :=
  let v := getLan s l
  let n := Tab.get 0 v.momSteps key
  if 65536 ≤ n then
    let lws := (List.range 16).filter (fun lw => lw % shapeQ v == key)
    earlyRemap l (updLan l (clearMoments key) (lws.foldl (liveWick l key n) s))
  else s

/-- MOMENT_WINDOW_END (R111). -/
def execMomentWindowEnd (l : Lan) (slice : LWick) (s : State) : Host.Outcome State Fault Refusal :=
  .next (momentEnd l.val slice.val s)

/-! ### Rotation -/

/-- The logical wick a cycle takes (R195): the lowest one marked for early full trim, else the one after the last cycle's. -/
def rotChoice (s : State) (l : Nat) : LWick :=
  let v := getLan s l
  match (List.finRange 16).find? (fun lw => (getWick s l (mapOf v lw.val)).early) with
  | some lw => lw
  | none => match v.rotLast with
    | none => 0
    | some lw => Fin.ofNat 16 (lw.val + 1)

/-- The lantern's spare is under a rewrite chain or another job. -/
def spareBusy (s : State) (l : Nat) (w : Nat) : Bool := let x := getWick s l w; x.job != .none || x.wrBusy

/-- One rotation cycle, or the single test of a quarantined spare (R195, R477); a lantern without a spare has none, and is remapped
for an early mark (R196). -/
def rotate (l : Nat) (s : State) : State :=
  let v := getLan s l
  match v.spare, v.llan with
  | some p, some ll =>
    let x := getWick s l p.val
    if !v.rotEn || v.st != .service || v.arm || spareBusy s l p.val || s.snuf.wheld || (wavePending s l).isSome then s
    else if x.st = .quarantined then
      if x.strike then retireWick l p.val s
      else match x.src with
        | none => s
        | some q => runLan l (giveJob l p.val .quarTest q.1 q.2 x.srcEpoch s)
    else if mayWrite x then
      let lw := rotChoice s l
      runLan l (giveJob l p.val (.rotation lw) ll lw v.epoch (setLan l { v with rotLast := some lw } s))
    else s
  | none, _ => earlyRemap l s
  | _, _ => s

/-- ROTATION_CYCLE (R195). -/
def execRotationCycle (l : Lan) (s : State) : Host.Outcome State Fault Refusal := .next (rotate l.val s)

/-! ### Full trim -/

/-- Median of a list: the mean of the two middle values where the count is even (DEDUCED, log 20). -/
def medianOf (l : List Dy) : Dy :=
  let ins (x : Dy) (t : List Dy) : List Dy := (t.filter (fun y => Dy.le y x)) ++ [x] ++ t.filter (fun y => !Dy.le y x)
  let t := l.foldr ins []
  let n := t.length
  if n % 2 = 1 then t.getD (n / 2) ⟨0, 0⟩
  else f64Div (f64Add (t.getD (n / 2 - 1) ⟨0, 0⟩) (t.getD (n / 2) ⟨0, 0⟩)) (Dy.ofInt 2)

/-- 1 ÷ g − 1; an infinity for a g of 0. -/
def invGain (g : Dy) : Dy := if g.m = 0 then f64Inf else f64Sub (f64Div (Dy.ofInt 1) g) (Dy.ofInt 1)

/-- The drive change of R192: rne(m ÷ 0.002), m the median of 1 ÷ g − 1. A column whose estimate is a NaN has no place in it, and
gets no correction: the manual states none (DESIGN CHOICE, log 122). -/
def driveStep (es : List Est) : Int :=
  (f64Div (medianOf ((es.filter (fun e => !e.nan)).map (fun e => invGain e.g))) (f64Of 2 1000)).rne

/-- The gain change that removes what the drive change leaves (R192), in steps of 0.1 % (R182). -/
def gainStep (d : Int) (g : Dy) : Int :=
  let rest := f64Sub (f64Mul g (f64Add (Dy.ofInt 1) (f64Mul (Dy.ofInt d) (f64Of 2 1000)))) (Dy.ofInt 1)
  Int.neg (f64Div rest (f64Of 1 1000)).rne

/-- The offset change that removes o (R192), in steps of 1/16 LSB (R182). -/
def offsetStep (o : Dy) : Int := Int.neg (f64Mul (Dy.ofInt 16) o).rne

/-- Step 2 of a full trim (R192): drive, gains and offsets change by R185. -/
def trimCorrect (l w : Nat) (s : State) : State :=
  let x := getWick s l w
  let tp := (getLan s l).trimTp
  let es := (List.range 512).map (fun c => (physCol x c, estCol s l x 16 x.winSteps c))
  let d := driveStep (es.map (fun e => e.2))
  let s := if d = 0 then s else trimApply l w 2 0 tp d s
  (es.filter (fun e => !e.2.nan)).foldl (fun s e =>
    let a := gainStep d e.2.g
    let b := offsetStep e.2.o
    let s := if a = 0 then s else trimApply l w 1 e.1 tp a s
    if b = 0 then s else trimApply l w 0 e.1 tp b s) s

/-- Logical columns that fail window 2 (R192): |o| ≤ 0.125 LSB and |g − 1| ≤ 0.002. -/
def trimFailing (s : State) (l : Nat) (x : Wick) : List Nat :=
  (List.range 512).filter (fun c =>
    let e := estCol s l x 16 x.winSteps c
    !(!e.nan && Dy.le e.o.abs (f64Of 1 8) && Dy.le (f64Sub e.g (Dy.ofInt 1)).abs (f64Of 2 1000)))

/-- ⌈6 σ⌉ of residuals kept in 64ths of an LSB (R218): their sum, the sum of their squares and their count. -/
def sixSigma (s1 : Int) (s2 n : Nat) : Nat :=
  let a := 36 * (n * s2 - s1.natAbs * s1.natAbs)
  let r := if a = 0 then 0 else isqrt (a - 1) + 1
  let d := 64 * n
  if d = 0 then 0 else (r + d - 1) / d

/-- The bands of a wick from window 2 (R218). -/
def setBands (x : Wick) : Wick :=
  let q (g : Nat) : Int × Nat × Int × Nat := x.resid.getD g (0, 0, 0, 0)
  { x with bandP := (List.range 4).map (fun g => satOf 12 (max 4 (sixSigma (q g).1 (q g).2.1 x.winSteps))),
           bandI := (List.range 4).map (fun g => satOf 16 (max 64 (sixSigma (q g).2.2.1 (q g).2.2.2 x.winSteps))) }

/-- Leave the full-trim phase. -/
def endTrimPhase (v : Lantern) : Lantern := { clearMoments 16 v with phase := restPhase v, calWick := none }

/-- A calibration is due (R197, R200): none has begun, DRPER seconds have passed since the last began, or TPOINT has moved by DRDT
degrees. TPOINT counts half degrees. -/
def drFalls (now : Nat) (v : Lantern) : Bool :=
  match v.drBegan with
  | none => true
  | some t => decide (t + v.drper.toNat * 337500000 ≤ now) ||
      decide (2 * v.drdt.toNat ≤ ((v.tpoint.toNat : Int) - (v.drTpoint.toNat : Int)).natAbs)

/-- A flare that needs the lantern is ready in its context's queue (R119). -/
def flareWaits (s : State) (l : Nat) : Bool :=
  (List.range 16).any (fun c =>
    let x := getLctx s c
    (x.refire ++ x.queue).any (fun r => r.lans.any (fun ll => lanOf s ll.val == some l) && flareReady s c r))

/-- No flare is in its launch phase on the lantern or about to launch, no slot is in FIRING, no swap is armed and no ready flare
waits (R119, R197, R210). -/
def drGap (s : State) (l : Nat) : Bool :=
  let v := getLan s l
  v.slot0.st != .firing && v.slot1.st != .firing && !v.arm && !flareWaits s l &&
    !((List.range 16).any (fun c => (getLctx s c).runs.any (fun r => runUses l r &&
      (r.launching || s.lmp.grants.any (fun g => match g with | .unit id _ _ => id == r.id | _ => false)))))

/-- Start a due drive-reference calibration when the lantern allows it: no full trim, an undivided half, 2 s since the last
began (R197, R199, R210). -/
def tryDr (l : Nat) (s : State) : State :=
  let v := getLan s l
  let spaced := match v.drBegan with | none => true | some t => decide (t + 675000000 ≤ nowF s)
  if v.drDue && genFree v && divNow s l == 0 && spaced && !s.lmp.frozen && !s.snuf.wheld && v.st != .retired then
    if drGap s l then drBegin l s else setLan l { v with phase := .drWait } s
  else s

/-- Window 2 passed: TRIM_DONE, bands, live sums back to 0, and the job goes on (R192, R193, R218). -/
def trimPass (l w : Nat) (s : State) : State :=
  let s := updWick l w (fun x => { clearWin (setBands (noteFull (getLan s l).trimTp x)) with
    live := [], early := false, trimFails := 0, trimTried := false }) s
  let s := updLan l (fun v => { endTrimPhase v with calStat := setBit v.calStat 1 }) s
  tryDr l (runLan l (jobTrimmed l w s))

/-- Window 2 failed (R194): columns are remapped and the trim repeated once; then QUARANTINED. A lantern test admits no
repair (R479). A failure that follows one of the same wick is an event of R245: "consecutive trim failures" is read so (DESIGN CHOICE,
log 142). -/
def trimFail (l w : Nat) (cols : List Nat) (s : State) : State :=
  let x := getWick s l w
  let bad := cols.map (physCol x)
  let s := updLan l (fun v => { endTrimPhase v with calStat := setBit v.calStat 2 }) s
  let s := updWick l w (fun x => { clearWin x with trimFails := x.trimFails + 1, trimTried := true }) s
  let s := if 0 < x.trimFails then suspectEvent l s else s
  if !x.trimTried ∧ canRepair x bad ∧ x.job ≠ .lanTest then
    earlyRemap l (if bad = [] then tryDr l (runLan l s) else tryDr l (startRepair l w bad s))
  else
    earlyRemap l (tryDr l (runLan l (jobFail l w (updWick l w (fun x => { x with st := .quarantined, lwick := none }) s))))

/-- FULL_TRIM_WINDOW_DONE (R192): window 1 is measured and corrected, window 2 verified. -/
def trimWindow (l : Nat) (s : State) : State :=
  let v := getLan s l
  match v.calWick with
  | none => s
  | some p =>
    let w := p.val
    let x := getWick s l w
    if x.winSteps < 65536 then s
    else if v.phase = .win1 then
      updWick l w clearWin (updLan l (fun v => { clearMoments 16 v with phase := .win2 }) (trimCorrect l w s))
    else if v.phase = .win2 then
      let cols := trimFailing s l x
      if cols = [] ∧ !x.probeFail then trimPass l w s else trimFail l w cols s
    else s

/-! ### Drive-reference calibration -/

/-- DRIVE_REF_CAL_DUE (R197): noted when it is due, and started as soon as the lantern allows it. -/
def execDriveRefCalDue (l : Lan) (s : State) : Host.Outcome State Fault Refusal :=
  let v := getLan s l.val
  .next (if v.phase = .drRun ∨ v.phase = .drWait ∨ drFalls (nowF s) v = false then s
    else tryDr l.val (setLan l.val { v with drDue := true } s))

/-- DRIVE_REF_CAL_GAP_WAIT (R197): 100 µs without a gap; DRCAL is set at the next flare boundary. -/
def execDriveRefCalGapWait (l : Lan) (s : State) : Host.Outcome State Fault Refusal :=
  .next (updLan l.val (fun v => if v.phase = .drWait then { v with drAtBoundary := true } else v) s)

/-- The change of one tap's code (R198): it removes the difference between the sum of step A codes and `m` times the sum of step B
codes, in steps of 0.05 %, by at most ±4. Where the step B sum is 0 there is nothing to remove (DESIGN CHOICE, log 123). -/
def tapChange (a b : Int) (m : Nat) : Int :=
  let q := (m : Int) * b
  if q = 0 then 0 else clampI (-4) 4 (-(rneDiv ((a - q) * 2000 * q.sign) q.natAbs))

/-- New tap codes (R198): each changes and clips to six bits; the +1 tap stays at 0. -/
def newTaps (v : Lantern) : Tab Int × Bool :=
  (List.range 16).foldl (fun (p : Tab Int × Bool) i =>
    if i = 8 then p
    else
      let r := clip6 (Tab.get 0 v.taps i + tapChange (Tab.get 0 v.drA i) (Tab.get 0 v.drB i) (tapVal i).natAbs)
      (Tab.set 0 p.1 i r.1, p.2 || r.2)) (v.taps, false)

/-- DRIVE_REF_CAL_DONE (R198), once every probe step's codes are there. -/
def drDone (l : Nat) (s : State) : State :=
  let v := getLan s l
  if v.phase = .drRun ∧ v.drGot = 7680 then
    let t := newTaps v
    let s := setLan l { v with taps := t.1, drcal := false, phase := restPhase v,
                               calStat := setBit (if t.2 then setBit v.calStat 5 else v.calStat) 3 } s
    let s := if t.2 then ember 0 0x0501 l none 0 s else s
    runLan l (afterDriveRef l s)
  else s

/-! ### The device record -/

/-- The sections a device-record write covers: every lantern of which something is listed, and the common one. -/
def recSections (s : State) : List Nat :=
  ((keysOf s.wicks).map (fun k => k / 17) ++ keysOf s.lans).dedup ++ [1088]

/-- Coefficient sets, column maps, strikes and retirements go to flash, every section anew (R200). -/
def writeRecord (s : State) : State :=
  let ns := recSections s
  let s := ns.foldl (fun s n => dropSec n s) s
  let s := (keysOf s.wicks).foldl (fun s k =>
    let x := getWick s (k / 17) (k % 17)
    putRecWick (k / 17) (k % 17) (fun r => { r with trim := x.trim, colmap := [x.cm0, x.cm1, x.cm2, x.cm3],
                                                    strike := x.strike, retired := r.retired || x.st == .failed }) s) s
  let s := (keysOf s.lans).foldl (fun s l =>
    let v := getLan s l
    putRecLan l (fun r => { r with taps := v.taps, strike := v.strike, retired := r.retired || v.st == .retired }) s) s
  let ret := (List.range 16).filter (fun n => (getScn s n).retire || s.flash.sconces.contains n)
  ns.foldl (fun s n => retag n s) { s with flash := { s.flash with sconces := ret, diodes := s.mon.dtab } }

/-- DEVICE_RECORD_WRITE (R200, R450): nothing is written where the record's region is absent. -/
def deviceRecord (s : State) : State := if s.flash.noRec then s else writeRecord s

/-- DEVICE_RECORD_WRITE (R200). -/
def execDeviceRecordWrite (s : State) : Host.Outcome State Fault Refusal := .next (deviceRecord s)

end Sys2Proof.Machine
end

