-- ==== Sys2Proof/Machine/LampCmds.lean ====
section
/-! DEFINITION. The lamplighter's and the governor's events: flickers, flare boundaries, budget windows, cut epochs, the
thermal trip, and the writes of `LMP_CFG`, `LMP_CTXn_CTL` and `PWR_CTXWn` (R152 to R181). -/

namespace Sys2Proof.Machine

/-! ### The flicker -/

/-- What a lantern does at ACLK 0 (R153, R190, R197, R535): waiting boundary changes of an idle lantern take effect, a due
drive-reference calibration takes its gap, a full trim draws its next probe step. -/
def lanBegin (s : State) (l : Nat) : State :=
  let v := getLan s l
  let s := if !v.launched && boundaryDue v then atBoundary l s else s
  let s := if (getLan s l).drDue then tryDr l s else s
  let s := if (getLan s l).phase == .drWait && !s.lmp.frozen && divNow s l == 0 && drGap s l then drBegin l s else s
  if inWindow (getLan s l) then drawTrim l s else s

/-- ACLK 0: half dividers are sampled (R175), dips of the last second counted (R180), the first
budget window begins after EN (R168), and every lantern begins the flicker. -/
def flickerBegin (s : State) : State :=
  let f := nowF s
  let times := s.lmp.dipTimes.filter (fun t => f < t + 337500000)
  let s := { s with lmp := { s.lmp with divE := s.clk.acE, divW := s.clk.acW, dipTimes := times,
                                        dipsRecent := BitVec.ofNat 5 (min 17 times.length) } }
  let s := if s.lmp.en && !s.pwr.begun then { s with pwr := windowBegin s.pwr } else s
  (keysOf s.lans).foldl lanBegin s

/-- Grants for flicker `f` take effect (R153, R154, R164). -/
def flickerLaunch (s : State) : State :=
  let gs := s.lmp.grants
  let who := launchers s gs
  let s := { s with lmp := { s.lmp with grants := [] } }
  who.foldl countLaunch (gs.foldl (launch (nowF s)) s)

/-- A flare enters its context's queue with its sequence number (R162). -/
def enqueueFlare (c : Nat) (r : FlareReq) (s : State) : State :=
  updLctx c (fun x => { x with queue := x.queue ++ [{ r with seq := x.seqNext }], seqNext := x.seqNext + 1 }) s

/-- A stalled FIRE whose context's queue has room enters it, and its thread goes on (R162). -/
def admitStalled (s : State) (p : Nat × Nat) : State :=
  match threadAt s p.1 p.2 with
  | none => s
  | some th => match th.wait with
    | .fireFull r =>
      if (getLctx s th.ctx.val).queue.length < 64 then
        updThread p.1 p.2 (fun th => { th with wait := .run }) (enqueueFlare th.ctx.val { r with enq := nowF s } s)
      else s
    | _ => s

/-- Threads that stalled on a full queue, by lantern and slot. -/
def stalledThreads (s : State) : List (Nat × Nat) :=
  s.engs.flatMap (fun p => (threadsOf p.2).filterMap (fun q => match q.2.wait with | .fireFull _ => some (p.1, q.1) | _ => none))

/-- ACLK 1 to 6: a flare is selected for each context that has none, and every context fills flicker f + 1 (R165, R167).
Nothing is granted before EN, during a freeze or after a withhold. -/
def flickerPlan (draws : List Lan) (s : State) : State :=
  if s.lmp.en && !s.lmp.frozen && !s.snuf.wheld then
    let s := (List.range 16).foldl (selectFor draws (nowF s)) s
    let s := (List.range 16).foldl (fillFor (nowF s + 1)) s
    (stalledThreads s).foldl admitStalled s
  else s

/-- A resident thread that could issue: it waits for nothing and has no load outstanding (R125; the manual gives no finer view of
what its next instruction needs: DESIGN CHOICE, log 124). -/
def threadReady (th : Thread) : Bool := th.wait == .run && th.loads.all (fun a => a.writes != [])

/-- ACLK cycles of an engine's half in one flicker (R280, R282). -/
def aclkIn (s : State) (l : Nat) : Nat := let d := divNow s l; if d = 3 then 0 else 8 / 2 ^ d

/-- VEC_STALL (R150): the cycles of an engine that holds threads of which none is ready. -/
def countStall (s : State) (l : Nat) : State :=
  let ts := threadsOf (getEng s l)
  if ts.isEmpty || ts.any (fun p => threadReady p.2) then s
  else updEng l (fun e => { e with stall := e.stall + BitVec.ofNat 32 (aclkIn s l) }) s

/-- One flicker: 8 ACLK of the branch that is never gated (R152, R279). -/
def flickerEnd (s : State) : State :=
  let s := (keysOf s.engs).foldl countStall s
  { s with lmp := { s.lmp with flicker := s.lmp.flicker.inc }, clk := { s.clk with aclk := s.clk.aclk + 8 } }

/-- FLICKER; before ACLK leaves reset there is none (R292). -/
def doFlicker (draws : List Lan) (s : State) : State :=
  if 5 ≤ s.clk.step then flickerEnd (flickerPlan draws (flickerLaunch (flickerBegin s))) else s

/-- No step of a lantern is in flight and no open launch phase has a unit left for it. -/
def lanQuiet (s : State) (l : Nat) : Bool :=
  !(s.lmp.flights.any (fun f => f.lan.val == l && !f.dead)) &&
    !((List.range 16).any (fun c => (getLctx s c).runs.any (fun r =>
      r.launching && r.plans.any (fun p => p.lan.val == l && !p.units.isEmpty))))

/-- FLARE_BOUNDARY (R535): the codes of the lantern's last unit are valid. -/
def doFlareBoundary (l : Nat) (s : State) : State := if lanQuiet s l then atBoundary l s else s

/-- FLARE_BOUNDARY (R535). -/
def execFlareBoundary (l : Lan) (s : State) : Host.Outcome State Fault Refusal := .next (doFlareBoundary l.val s)

/-! ### Windows and epochs -/

/-- A context's wide storm at the end of a window (R96, R176): an ember for each window at the threshold, one when a later
window falls below half of it. -/
def stormEnd (s : State) (c : Nat) : State :=
  let x := getLctx s c
  let n := x.winFlares
  let t := s.lmp.wideT.toNat
  let id := ctxIdOf s (some (Fin.ofNat 16 c))
  let put (b : Bool) (s : State) : State :=
    updLctx c (fun x => { x with winFlares := 0, winFallback := 0, storm := b }) s
  if n ≠ 0 ∧ t * n ≤ x.winFallback * 256 then
    let s := if x.storm then s else { s with lmp := { s.lmp with stat := setBit s.lmp.stat 3 } }
    ember 0 0x0401 0 id n (put true s)
  else if x.storm ∧ (n = 0 ∨ x.winFallback * 512 < t * n) then ember 0 0x0402 0 id n (put false s)
  else put x.storm s

/-- BUDGET_WINDOW (R168, R169, R137, R96): a window ends and the next begins; windows run from EN on. -/
def doBudgetWindow (meas : Nat) (s : State) : State :=
  if s.lmp.en then
    (List.range 16).foldl stormEnd { s with pwr := windowBegin { s.pwr with window := s.pwr.window + 1, meas := meas } }
  else s

/-- The cut level after an epoch (R170): lower, raise or hold; `hot` in 0.5 °C, energies in mJ over 4.096 s. -/
def cutNext (level hot set energy limit : Nat) : Nat :=
  if 2 * set < hot ∨ limit * 4096 < energy then max 1 (level - 1)
  else if hot + 6 ≤ 2 * set ∧ energy * 100 ≤ 95 * (limit * 4096) then min 16 (level + 1)
  else level

/-- CUT_EPOCH (R170, R172). -/
def doCutEpoch (hot : BitVec 9) (energy : Nat) (s : State) : State :=
  if s.lmp.en then
    let p := s.pwr
    let l := cutNext p.level.toNat hot.toNat p.set.toNat energy p.limit.toNat
    let s := { s with pwr := { p with
      level := BitVec.ofNat 5 l, epochs := p.epochs + 1, hot := hot,
      stat := if p.limit.toNat * 4096 < energy then setBit p.stat 2 else p.stat,
      duty := BitVec.ofNat 8 (dutyOf p.vecNow l), cut := decide (l < 16) } }
    if l = p.level.toNat then s
    else ember 0 0x0403 0 none l { s with lmp := { s.lmp with stat := setBit s.lmp.stat 1 } }
  else s

/-- CUT_EPOCH (R170). -/
def execCutEpoch (hot : BitVec 9) (energy : Nat) (s : State) : Host.Outcome State Fault Refusal :=
  .next (doCutEpoch hot energy s)

/-- THERMAL_TRIP (R171): 16 samples in a row at 105 °C or more; the snuffer withholds with the diode as detail. -/
def execThermalTrip (d : DiodeI) (s : State) : Host.Outcome State Fault Refusal := .next (withhold 0x05 d.val s)

/-! ### Register writes -/

/-- LMP_CFG (R168, R180): EN can be set, not cleared; AGE is clamped, a WIDE_T of 0 sets 1. Setting EN ends start-up
(R292). -/
def doLmpCfg (v : W32) (s : State) : State :=
  let en := s.lmp.en || bitAt v 31
  let s := { s with lmp := { s.lmp with
    en := en, age := BitVec.ofNat 14 (clampN 10 10000 (fld v 29 16)),
    wideT := if fld v 7 0 = 0 then 1 else BitVec.ofNat 8 (fld v 7 0) } }
  if en then { s with clk := { s.clk with step := 7 } } else s

/-- LMP_CFG_EN (R168): ignored before ACLK leaves reset. -/
def execLmpCfgEn (v : W32) (s : State) : Host.Outcome State Fault Refusal :=
  .next (if 5 ≤ s.clk.step then doLmpCfg v s else s)

/-- LMP_PAUSE_WRITE (R173): PAUSE stops selection; an open launch phase ends as it would. -/
def execLmpPauseWrite (c : CtxI) (v : W32) (s : State) : Host.Outcome State Fault Refusal :=
  .next (updLctx c.val (fun x => { x with pause := bitAt v 0 }) s)

/-- Sum of all weights with slot `c` at `w`. -/
def weightSum (s : State) (c w : Nat) : Nat :=
  sumN ((List.range 16).map (fun i => if i = c then w else (getLctx s i).weight.toNat))

/-- A weight is one R159 takes: at most 256 in all, and not 0 while the slot's context owns a sconce. -/
def weightOk (s : State) (c w : Nat) : Bool :=
  decide (weightSum s c w ≤ 256) && !(w == 0 && !(sconcesOf s c).isEmpty)

/-- A refused weight sets PWR_STAT.CFG_ERR (R159). -/
def pwrCfgErr (s : State) : State := { s with pwr := { s.pwr with stat := setBit s.pwr.stat 0 } }

/-- PWR_CTXW_WRITE (R159): a refused write sets CFG_ERR. -/
def execPwrCtxwWrite (c : CtxI) (v : W32) (s : State) : Host.Outcome State Fault Refusal :=
  let w := fld v 8 0
  .next (if weightOk s c.val w then updLctx c.val (fun x => { x with weight := BitVec.ofNat 9 w }) s
    else pwrCfgErr s)

end Sys2Proof.Machine
end

