-- ==== Sys2Proof/Machine/Certs.lean ====
section
/-! DEFINITION. Certificates and their chains (R453 to R455), and the regions of board flash (R450). -/

namespace Sys2Proof.Machine

/-- A certificate's subject digest (R453). -/
def subject (c : Cert) : Digest := Config.sha384 c.key

/-- Each certificate is issued by the one before it, the first by `d` (R455). -/
def issued : Digest → List Cert → Bool
  | _, [] => true
  | d, c :: t => c.issuer == d && c.rsa && c.slh && issued (subject c) t

/-- A chain is valid: roles in order, issuers from the root keys on, every signature verifies (R454, R455). -/
def chainValid (roles : List Byte) (l : List Cert) : Bool := l.map Cert.role == roles && issued Config.rootSubject l

/-- Two regions share no byte of the flash. -/
def apart (a b : Nat × Nat) : Bool := a.2 == 0 || b.2 == 0 || decide (a.1 + a.2 ≤ b.1) || decide (b.1 + b.2 ≤ a.1)

/-- Region `i` of the directory is present: inside the flash, and overlapping no other (R450). -/
def regionOk (size : Nat) (dir : List (Nat × Nat)) (i : Nat) : Bool :=
  match dir[i]? with
  | none => false
  | some r => decide (r.1 + r.2 ≤ size) && (List.range dir.length).all (fun j => j == i || apart r (dir.getD j (0, 0)))

end Sys2Proof.Machine
end

