-- ==== Sys2Proof/Machine/Quant.lean ====
section
/-! DEFINITION. From an activation to wick inputs: the randomized block Hadamard rotation (R84 to R86), clip thresholds and the
vector exponent (R88, R89), quantization with outliers and wide fallback (R90 to R92), the direct path (R94), lookup queries
(R95), and which engine quantizes a slice (R139). -/

namespace Sys2Proof.Machine

/-! ### Pairwise sums (R88, R129) -/

/-- The flags of several results. -/
def flagsOf (l : List (W32 × FFlags)) : FFlags := l.foldl (fun f p => f.or p.2) FFlags.none

/-- One level: adjacent pairs (R129). -/
def pairUp (f : W32 → W32 → W32 × FFlags) : List W32 → List (W32 × FFlags)
  | a :: b :: t => f a b :: pairUp f t
  | [a] => [(a, FFlags.none)]
  | [] => []

/-- Adjacent pairs level by level: `n` levels from the low lanes up (R88, R129). -/
def pairwise (f : W32 → W32 → W32 × FFlags) : Nat → List W32 → W32 × FFlags
  | 0, l => (l.getD 0 0, FFlags.none)
  | n + 1, l =>
    let r := pairUp f l
    let x := pairwise f n (r.map (fun p => p.1))
    (x.1, (flagsOf r).or x.2)

/-! ### Rotation (R84 to R86) -/

/-- The three mixing steps of sign_word (R85). -/
def mix64 (z : W64) : W64 :=
  let z := (z ^^^ (z >>> 30)) * 0xBF58476D1CE4E5B9
  let z := (z ^^^ (z >>> 27)) * 0x94D049BB133111EB
  z ^^^ (z >>> 31)

/-- sign_word (R85). -/
def signWord (seed : W64) (j : Nat) : W64 := mix64 (seed + BitVec.ofNat 64 (j + 1) * 0x9E3779B97F4A7C15)

/-- The sign of element `i` of the layer input is negative (R85). -/
def signNeg (seed : W64) (i : Nat) : Bool := (signWord seed (i / 64)).toNat / 2 ^ (i % 64) % 2 = 1

/-- An FP32 word with its sign flipped, exact (R86). -/
def fneg (a : W32) : W32 := a ^^^ 0x80000000

/-- Sums, then differences, of two halves of a butterfly group, with their flags. -/
def butterfly (x y : List W32) : List (W32 × FFlags) :=
  (x.zip y).map (fun p => fadd p.1 p.2) ++ (x.zip y).map (fun p => fsub p.1 p.2)

/-- One stage with distance `h`: groups of 2 × `h` elements (R86). -/
def rotStage (h : Nat) (u : List W32) : List (W32 × FFlags) :=
  (List.range (2048 / (2 * h))).flatMap (fun g =>
    let x := u.drop (g * 2 * h)
    butterfly (x.take h) ((x.drop h).take h))

/-- The butterfly of R86 in its order: stages 0 to 10. -/
def rotateBlock (u : List W32) : List W32 × FFlags :=
  (List.range 11).foldl (fun p k =>
    let r := rotStage (2 ^ k) p.1
    (r.map (fun x => x.1), p.2.or (flagsOf r))) (u, FFlags.none)

/-- NaN and infinite elements are replaced by +0, which sets NONFINITE (R84, R94). -/
def cleanFp (l : List W32) : List W32 × FFlags :=
  let bad (w : W32) : Bool := isNan w || isInf w
  (l.map (fun w => if bad w then 0 else w), ⟨false, l.any bad⟩)

/-- The rotation of block `b` of a layer's input by its epoch's seed: cleaned, signs applied, butterfly (R84 to R86). -/
def rotBlock (seed : W64) (b : Nat) (x : List W32) : List W32 × FFlags :=
  let c := cleanFp x
  let r := rotateBlock ((withPos 0 c.1).map (fun p => if signNeg seed (b * 2048 + p.1) then fneg p.2 else p.2))
  (r.1, r.2.or c.2)

/-- T_s = fl32(CLIPK × L_s) × 2^−17 (R88). -/
def clipT (clipk ls : W32) : W32 × FFlags :=
  let p := fmul clipk ls
  let r := match fp p.1 with
    | .fin n d => toFp (.fin n ⟨d.m, d.e - 17⟩)
    | x => toFp x
  (r.1, p.2.or r.2)

/-- L_s: magnitudes of a rotated slice by adjacent pairs in 11 levels (R88). -/
def sliceL1 (u : List W32) : W32 × FFlags := pairwise fadd 11 (u.map (fun x => x &&& 0x7FFFFFFF))

/-! ### A quantized vector -/

/-- One slice of an input vector on the wick: its exponent where it takes wide fallback, its 2,048 values, its outliers as
(element, FP32 bits of u), and whether its quantization raised NONFINITE. -/
structure QSlice where
  k8 : Option Int
  q : List Int
  outl : List (Nat × W32)
  nonfin : Bool
deriving DecidableEq, Repr

/-- A quantized input vector (R90, R94): two passes for every slice, its exponent, its slices in order, and the flags. -/
structure QVec where
  two : Bool
  k : Int
  slices : List QSlice
  flags : FFlags
deriving DecidableEq, Repr

/-- A value divided by 2^k, rounded and saturated to a range; saturation sets RANGE (R78, R90). -/
def rneSat (k lo hi : Int) (v : Dy) : Int × FFlags :=
  let r := Dy.rne ⟨v.m, v.e - k⟩
  (clampI lo hi r, ⟨decide (r < lo ∨ hi < r), false⟩)

/-- The finite value of an FP32 word; 0 for one that is none. -/
def dyOf (w : W32) : Dy := ((fp w).finite).getD ⟨0, 0⟩

/-- r_i is the exact value u_i × 2^−6 (R86). -/
def rOf (u : W32) : Dy :=
  let d := dyOf u
  ⟨d.m, d.e - 6⟩

/-- QMAX of a wick input mode (R89): 7 in one pass, 119 in two. -/
def qmaxIn (two : Bool) : Nat := if two then 119 else 7

/-- The smallest limited exponent for a magnitude; 0 for none (R89). -/
def vecExp (q : Nat) (m : Dy) : Int × Bool := if m.m = 0 then (0, false) else limitK (leastK q m)

/-- Outliers of a slice: elements with |r_i| > T_s, ascending (R88). -/
def outliersOf (t : W32) (u : List W32) : List (Nat × W32) :=
  (withPos 0 u).filter (fun p => (dyOf t).lt (rOf p.2).abs)

/-- One slice by quantize_vector, once k stands (R90, R91): more than 16 outliers take wide fallback, else each outlier row is
driven with 0 and kept for correction. -/
def quantSlice (two : Bool) (k : Int) (t : W32) (u : List W32) : QSlice × FFlags :=
  let o := outliersOf t u
  if 16 < o.length then
    let k8 := vecExp 119 (maxMag (u.map rOf))
    let rs := u.map (fun x => rneSat k8.1 (-128) 119 (rOf x))
    ({ k8 := some k8.1, q := rs.map (fun r => r.1), outl := [], nonfin := false }, rs.foldl (fun f r => f.or r.2) ⟨k8.2, false⟩)
  else
    let rs := (withPos 0 u).map (fun p =>
      if o.any (fun x => x.1 == p.1) then ((0 : Int), FFlags.none)
      else if two then rneSat k (-128) 119 (rOf p.2) else rneSat k (-8) 7 (rOf p.2))
    ({ k8 := none, q := rs.map (fun r => r.1), outl := o, nonfin := false }, rs.foldl (fun f r => f.or r.2) FFlags.none)

/-- quantize_vector over rotated slices and the flags their rotation raised (R88 to R91). -/
def quantRot (clipk : W32) (two : Bool) (us : List (List W32 × FFlags)) : QVec :=
  let ts := us.map (fun u =>
    let l := sliceL1 u.1
    let t := clipT clipk l.1
    (t.1, (u.2.or l.2).or t.2))
  let k := vecExp (qmaxIn two) (maxMag (ts.map (fun t => dyOf t.1)))
  let qs := (us.zip ts).map (fun p =>
    let q := quantSlice two k.1 p.2.1 p.1.1
    ({ q.1 with nonfin := p.2.2.nonfin }, q.2))
  { two := two, k := k.1, slices := qs.map (fun q => q.1),
    flags := (qs.foldl (fun f q => f.or q.2) (flagsOf ts)).or ⟨k.2, false⟩ }

/-- v ÷ 2^k is an integer from −8 to 7. -/
def fitsI4 (k : Int) (v : Dy) : Bool :=
  let e := v.e - k
  let whole := decide (0 ≤ e) || decide (v.m % 2 ^ (-e).toNat = 0)
  let r := Dy.rne ⟨v.m, e⟩
  whole && decide (-8 ≤ r) && decide (r ≤ 7)

/-- A list cut into slices of 2,048, the last one filled up with zeros. -/
def slicesOf (l : List Int) : List (List Int) := (pieces 2048 l).map (fun p => p ++ List.replicate (2048 - p.length) 0)

/-- The direct path (R94): one exact pass, else two passes narrowed to −128 to 119. -/
def quantDirect (l : List Fp) : QVec :=
  let bad := l.any (fun x => x.finite.isNone)
  let vs := l.map (fun x => x.finite.getD ⟨0, 0⟩)
  let m := maxMag vs
  let one (q : List Int) : List QSlice := (withPos 0 (slicesOf q)).map (fun s =>
    { k8 := none, q := s.2, outl := [], nonfin := ((l.drop (2048 * s.1)).take 2048).any (fun x => x.finite.isNone) })
  if m.m = 0 then { two := false, k := 0, slices := one (vs.map (fun _ => 0)), flags := ⟨false, bad⟩ }
  else
    let u1 := vecExp 7 m
    if vs.all (fitsI4 u1.1) then
      { two := false, k := u1.1, slices := one (vs.map (fun v => (rneSat u1.1 (-8) 7 v).1)), flags := ⟨u1.2, bad⟩ }
    else
      let u2 := vecExp 119 m
      let rs := vs.map (rneSat u2.1 (-128) 119)
      { two := true, k := u2.1, slices := one (rs.map (fun r => r.1)),
        flags := rs.foldl (fun f r => f.or r.2) ⟨u1.2 || u2.2, bad⟩ }

/-- A lookup query drives each element as given, with no exponent (R95). -/
def quantLookup (l : List Fp) : QVec :=
  { two := false, k := 0, flags := FFlags.none,
    slices := (slicesOf (l.map (fun x => clampI (-8) 7 (x.finite.getD ⟨0, 0⟩).rne))).map
      (fun s => { k8 := none, q := s, outl := [], nonfin := false }) }

/-! ### From a source to the slots -/

/-- What a layer's metadata fixes of its quantization: rotation, seed, CLIPK, input mode and K (R84, R88, R89, R109). -/
structure QParams where
  rot : Bool
  seed : W64
  clipk : W32
  two : Bool
  kdim : Nat
deriving DecidableEq, Repr

/-- The elements of a source in one of the formats the direct path takes (R94): I24, I32, S40 and the weight formats give
none. -/
def srcVals (x : VecSrc) : List Fp × List Nat :=
  let c := x.fmt.toNat
  if 3 ≤ c ∧ c ≤ 0xB ∧ (!x.blocked || blockable c) then tensorVals c x.blocked x.n x.data else ([], [])

/-- QUANT (R138): the quantized vector of a source. A layer's vector with rotation enabled is rotated by the epoch's seed and
quantized with outliers; rows from K up are 0 (R109); with rotation disabled, and for a customer kernel, it takes the direct path
(R87, R94, R144); a lookup query goes as given (R95). -/
def quantize (p : Option QParams) (x : VecSrc) : QVec :=
  let v := srcVals x
  let add (q : QVec) : QVec :=
    { q with flags := q.flags.or ⟨false, !v.2.isEmpty⟩,
             slices := (withPos 0 q.slices).map (fun s => { s.2 with nonfin := s.2.nonfin || v.2.any (fun b => b / 64 == s.1) }) }
  match x.how, p with
  | .lookup, _ => quantLookup v.1
  | .layer, some p =>
    let l := v.1.take p.kdim
    if p.rot then
      add (quantRot p.clipk p.two ((withPos 0 (pieces 2048 (l.map (fun f => (toFp f).1)))).map (fun b => rotBlock p.seed b.1 b.2)))
    else add (quantDirect l)
  | _, some p => add (quantDirect (v.1.take p.kdim))
  | _, none => add (quantDirect v.1)

/-- The low half of a two-pass value (R92). -/
def lowQ (q : Int) : Int := (q + 8) % 16 - 8
/-- The high half. -/
def highQ (q : Int) : Int := (q - lowQ q) / 16

/-- Slice `j` is fired in two passes: two-pass input, or wide fallback (R89, R91). -/
def QVec.wide (v : QVec) (j : Nat) : Bool := v.two || ((v.slices[j]?).bind (fun s => s.k8)).isSome

/-- What a plane of a slot holds of slice `j`: q itself in one pass, else h in the first plane and l in the second (R92,
R102). -/
def QVec.plane (v : QVec) (lpass : Bool) (j : Nat) : List Int :=
  match v.slices[j]? with
  | none => []
  | some s => if v.wide j then s.q.map (if lpass then lowQ else highQ) else if lpass then [] else s.q

/-- Fallback slices of a vector with their exponents, ascending (R91). -/
def QVec.fallback (v : QVec) : List (Nat × Int) := (withPos 0 v.slices).filterMap (fun p => p.2.k8.map (fun k => (p.1, k)))

/-- Outliers of a vector by element of the whole input, ascending (R90). -/
def QVec.outliers (v : QVec) : List (Nat × W32) :=
  (withPos 0 v.slices).flatMap (fun p => p.2.outl.map (fun o => (2048 * p.1 + o.1, o.2)))

/-- The rank of the engine that quantizes slice `j` among `n` lanterns (R139). -/
def quantRank (n j : Nat) : Nat := j % max 1 n

end Sys2Proof.Machine
end

