-- ==== Sys2Proof/Machine/Lanterns.lean ====
section
/-! DEFINITION. Lantern events: input blocks and broadcasts (R103, R104, R119, R225, R257), the places of a partition's lanterns (R109, R139), and the
writes of `LNT_SWAP`, `LNT_ISSUE` and `LNT_CFG` (R106, R113, R115). -/

namespace Sys2Proof.Machine

/-! ### Places of a lantern in its partition (R109, R139) -/

/-- Lanterns of a row chain: ⌈K ÷ (2,048 × Q)⌉ (R109). -/
def chainLen (m : ShardMeta) : Nat :=
  let q := 2048 * (16 / 2 ^ m.shape.toNat)
  max 1 ((m.kdim.toNat + q - 1) / q)

/-- A lantern's place in its row chain, the head 0 (R109): LINDEX runs chain by chain (DEDUCED, log 126). -/
def chainPos (m : ShardMeta) : Nat := m.lindex.toNat % chainLen m
/-- The group of output columns its chain holds. -/
def chainGroup (m : ShardMeta) : Nat := m.lindex.toNat / chainLen m

/-- Logical lanterns of a partition under an epoch, by index (R139). -/
def partLans (s : State) (c : Nat) (ep : W32) (m : ShardMeta) : List Nat :=
  sortKey id ((epochShards s c ep).filterMap (fun h =>
    if isOwnLan h && h.md.any (fun q => q.layer == m.layer && q.part == m.part) then some h.ent.target.toNat else none))

/-- What a lantern's metadata fixes of the quantization of its vectors. -/
def quantParams (m : ShardMeta) : QParams :=
  { rot := m.rot, seed := m.seed, clipk := m.clipk, two := m.inmode == 1, kdim := m.kdim.toNat }

/-- QUANT of a source for a lantern (R138). -/
def lanQuant (s : State) (l : Nat) (x : VecSrc) : QVec := quantize ((lanMeta s l x.epoch).map quantParams) x

/-! ### Input slots -/

/-- Keys of the blocks a slot's vector consists of (R102, R103): four per slice and plane; the second plane for two-pass input
and for fallback slices (R89, R91). -/
def vecBlocks (x : Slot) : List Nat :=
  let sl := List.range x.slices
  let plane (o : Nat) (l : List Nat) : List Nat := l.flatMap (fun j => (List.range 4).map (fun q => o + j * 4 + q))
  plane 0 sl ++ plane 64 (sl.filter (fun j => x.twoPass || x.fallback.any (fun p => p.1 == j)))

/-- The slot a block goes to: the one that takes its vector, else slot 0 when FREE, else slot 1 when FREE (R103). -/
def slotOfBlock (v : Lantern) (vec : Nat) : Option Bool :=
  let takes (x : Slot) : Bool := (x.st == .filling || x.st == .failed) && x.vec == vec
  if takes v.slot0 then some false
  else if takes v.slot1 then some true
  else if v.slot0.st = .free then some false
  else if v.slot1.st = .free then some true
  else none

/-- A slot as it starts to take a vector (R90, R91, R109): the lantern's own slices, from its place in the row chain on, and what
the vector's quantization gave. -/
def openSlot (s : State) (l : Nat) (b : InBlock) (x : Slot) : Slot :=
  if x.st = .free then
    let v := getLan s l
    let md := lanMeta s l b.src.epoch
    let q := lanQuant s l b.src
    let own := shapeQ v
    let base := (match md with | none => 0 | some m => chainPos m) * own
    let n := min own (q.slices.length - base)
    let mine := (withPos 0 q.slices).filter (fun p => base ≤ p.1 && p.1 < base + n)
    { Slot.init with
      st := .filling, vec := b.vec, slices := n, base := base, twoPass := q.two, k := q.k, fbAll := q.fallback,
      fallback := (q.fallback.filter (fun p => base ≤ p.1 && p.1 < base + n)).map (fun p => (p.1 - base, p.2)),
      outl := q.outliers, outliers := sumN (mine.map (fun p => p.2.outl.length)),
      rot := b.src.how == .layer && md.any (fun m => m.rot), range := q.flags.range,
      nonfin := (withPos 0 q.slices).filterMap (fun p => if p.2.nonfin then some p.1 else none) }
  else x

/-- The 512 values of a block: one quarter of one slice in one plane (R102). -/
def blockVals (s : State) (l : Nat) (b : InBlock) (base : Nat) : List Int :=
  (((lanQuant s l b.src).plane b.lpass (base + b.idx / 4)).drop (512 * (b.idx % 4))).take 512

/-- Counts of one quarter (R104): a block is one quarter of a slice in one pass. -/
def countBlock (e : List Int) : QCount :=
  { nz := (e.filter (fun x => x ≠ 0)).length, l1 := sumN (e.map (fun x => x.natAbs)), sum := sumI e }

/-- The key of a block in a slot. -/
def blockKey (b : InBlock) : Nat := (if b.lpass then 64 else 0) + b.idx

/-- A block that verified enters its slot with its values (R103, R104). -/
def putBlock (b : InBlock) (es : List Int) (order : Nat) (x : Slot) : Slot :=
  let k := blockKey b
  let x := { x with blocks := Tab.set [] x.blocks k es,
                    counts := Tab.set { nz := 0, l1 := 0, sum := 0 } x.counts k (countBlock es),
                    retried := if x.failed.contains k then x.retried + 1 else x.retried, failed := x.failed.filter (fun i => i ≠ k) }
  let full := (vecBlocks x).all (fun i => (Tab.get [] x.blocks i) ≠ [])
  if x.failed ≠ [] then x
  else if full then { x with st := .ready, order := order }
  else { x with st := .filling }

/-- The slices of a vector that a lantern's engine quantizes (R139): those of its rank among the partition's N lanterns. -/
def quantizes (s : State) (l : Nat) (ep : W32) (sl : Nat) : Bool :=
  let v := getLan s l
  match lanMeta s l ep, v.llan, ownerOfLan s l with
  | some m, some ll, some c =>
    let ls := partLans s c.val (epochOn v ep) m
    match ls.findIdx? (fun i => i == ll.val) with
    | none => false
    | some r => quantRank ls.length sl == r
  | _, _, _ => false

/-- NONFINITE of a READY slot's quantization in the engine that met it (R84, R94, R150). -/
def noteQuant (l : Nat) (ep : W32) (x : Slot) (s : State) : State :=
  if x.nonfin.any (quantizes s l ep) then updEng l (fun e => { e with stat := setBit e.stat 0 }) s else s

/-- A first failure that the second fetch resolved (R225): RETRIED counts and a corrected ember names the sconce. -/
def blockRetried (src : Nat) (c : Option W16) (s : State) : State :=
  ember 1 0x0204 src c 0 { s with chk := { s.chk with retried := satInc s.chk.retried, resolved := satInc s.chk.resolved,
                                                      dstat := setBit s.chk.dstat 2 } }

/-- A block has failed its second fetch (R251). -/
def blockTwice (s : State) : State := { s with chk := { s.chk with failed := satInc s.chk.failed, dstat := setBit s.chk.dstat 1 } }

/-- A second failure withholds (R225). -/
def blockLost (l : Nat) (s : State) : State := withhold 0x02 l (blockTwice s)

/-- A block reaches a lantern buffer (R103): it verifies, or marks the slot FAILED, or fails a second time. A block that
finds no slot waits by credit (R119). -/
def takeBlock (l : Lan) (b : InBlock) (good : Bool) (s : State) : State :=
  let v := getLan s l.val
  match slotOfBlock v b.vec with
  | none => { s with xbr := { s.xbr with waiting := s.xbr.waiting ++ [{ lan := l, blk := b, good := good }] } }
  | some one =>
    let x := openSlot s l.val b (getSlot v one)
    let k := blockKey b
    if good then
      let again := x.failed.contains k
      let y := putBlock b (blockVals s l.val b x.base) v.orderNext x
      let done := y.st == .ready
      let w := { setSlot v one y with
        orderNext := if done then v.orderNext + 1 else v.orderNext,
        outliers := if done then v.outliers + BitVec.ofNat 32 y.outliers else v.outliers }
      let s := setLan l.val w s
      let s := if done then noteQuant l.val b.src.epoch y s else s
      if again then blockRetried (sconceOf l.val) (ctxIdOf s (ownerOfLan s l.val)) s else s
    else
      let s := setLan l.val { setSlot v one { x with st := .failed, failed := k :: x.failed } with
                              stat := setBit v.stat 3 } s
      if x.failed.contains k then blockLost l.val s else s

/-- INPUT_BLOCK_ARRIVAL (R103). -/
def execInputBlockArrival (l : Lan) (b : InBlock) (good : Bool) (s : State) : Host.Outcome State Fault Refusal :=
  .next (takeBlock l b good s)

/-- BROADCAST (R257): every lantern of the mask takes the block in the same NCLK, or holds it by credit. -/
def execBroadcast (_p : Sconce) (lans : List Lan) (b : InBlock) (s : State) : Host.Outcome State Fault Refusal :=
  .next (lans.foldl (fun s l => takeBlock l b true s) s)

/-- Blocks that waited enter the slots that are free now, in their order. -/
def drainBroadcasts (s : State) : State :=
  s.xbr.waiting.foldl (fun s w => takeBlock w.lan w.blk w.good s) { s with xbr := { s.xbr with waiting := [] } }

/-! ### Register writes -/

/-- LNT_STAT.CFG_ERR. -/
def lanCfgErr (v : Lantern) : Lantern := { v with stat := setBit v.stat 4 }

/-- LNT_SWAP (R113): arming needs a spare in SPARE and no arm pending. A write of ARM = 0 cancels a takeover that waits and takes
LWICK (DESIGN CHOICE, log 127). -/
def swapWrite (w : W32) (spareReady : Bool) (v : Lantern) : Lantern :=
  let lw : LWick := Fin.ofNat 16 (fld w 19 16)
  if bitAt w 31 then
    if spareReady && !v.arm then { v with arm := true, swapLw := lw } else lanCfgErr v
  else { v with arm := false, swapLw := lw }

/-- The lantern's spare stands in SPARE. -/
def spareOk (s : State) (l : Nat) : Bool :=
  match (getLan s l).spare with
  | none => false
  | some w => (getWick s l w.val).st == .spare

/-- LNT_SWAP_ARM (R113). -/
def execLntSwapArm (l : Lan) (v : W32) (s : State) : Host.Outcome State Fault Refusal :=
  .next (updLan l.val (swapWrite v (spareOk s l.val)) s)

/-- LNT_ISSUE_WRITE (R115): the interval waits for the flare boundary. -/
def execLntIssueWrite (l : Lan) (v : W32) (s : State) : Host.Outcome State Fault Refusal :=
  .next (updLan l.val (fun x => { x with ivalNext := some (BitVec.ofNat 2 (fld v 1 0)) }) s)

/-- LNT_CFG (R106, R121): codes 5 to 7, and any write in SERVICE, are refused with CFG_ERR. -/
def cfgWrite (w : W32) (v : Lantern) : Lantern :=
  if 5 ≤ fld w 2 0 ∨ v.st = .service then lanCfgErr v else { v with shape := BitVec.ofNat 3 (fld w 2 0) }

/-- LNT_CFG_WRITE (R106). -/
def execLntCfgWrite (l : Lan) (v : W32) (s : State) : Host.Outcome State Fault Refusal :=
  .next (updLan l.val (cfgWrite v) s)

end Sys2Proof.Machine
end

