-- ==== Sys2Proof/Machine/Memory.lean ====
section
/-! DEFINITION. The device address map (R265 to R267), window checks (R268), block codes (R223) and memory accesses, and the
events of sconces, stacks and the crossbar (R253 to R275, R483, R484). -/

namespace Sys2Proof.Machine

/-! ### Block codes (R223) -/

/-- One bit of the reflected Castagnoli division. -/
def crcBit (c : W32) : W32 := if c.toNat % 2 = 1 then (c >>> 1) ^^^ 0x82F63B78 else c >>> 1

/-- One byte into a CRC-32C register. -/
def crcByte (c : W32) (b : Byte) : W32 :=
  crcBit (crcBit (crcBit (crcBit (crcBit (crcBit (crcBit (crcBit (c ^^^ b.setWidth 32))))))))

/-- CRC-32C of a byte string. -/
def crc32c (l : List Byte) : W32 := (l.foldl crcByte 0xFFFFFFFF) ^^^ 0xFFFFFFFF

/-! ### Bytes -/

/-- Read one byte; an unlisted byte reads 0 (log 2). -/
def memGet (m : Mem) (a : Nat) : Byte := Tab.get 0 m.bytes a

/-- Write one byte. -/
def memPut (m : Mem) (a : Nat) (b : Byte) : Mem := { m with bytes := Tab.set 0 m.bytes a b }

/-- Read bytes from an address on. -/
def memRead (m : Mem) (a n : Nat) : List Byte := (List.range n).map (fun i => memGet m (a + i))

/-- Write bytes from an address on. -/
def memWrite (m : Mem) (a : Nat) : List Byte → Mem
  | [] => m
  | b :: t => memWrite (memPut m a b) (a + 1) t

/-- The canonical form of memory: addresses rising, nothing listed at what an unlisted byte or code reads as. -/
def Mem.wf (m : Mem) : Bool := Tab.wf (0 : Byte) m.bytes && Tab.wf (0 : W32) m.codes

/-- A block's code is that of its bytes. -/
def codeGood (m : Mem) (a : Nat) : Bool := Tab.get 0 m.codes (a / 256) == 0

/-- A producer writes a block with its own code (R224). -/
def sealBlock (m : Mem) (a : Nat) : Mem := { m with codes := Tab.set 0 m.codes (a / 256) 0 }

/-- Poison a block: a code no data has (R369). -/
def poisonBlock (m : Mem) (a : Nat) : Mem := { m with codes := Tab.set 0 m.codes (a / 256) 0xFFFFFFFF }

/-- A producer writes bytes, computing the codes of the blocks they lie in (R224). -/
def storeBytes (m : Mem) (a : Nat) (l : List Byte) : Mem :=
  let m := memWrite m a l
  ((List.range ((a % 256 + l.length + 255) / 256)).map (fun i => a / 256 * 256 + i * 256)).foldl sealBlock m

/-! ### The device address map (R265 to R267) -/

/-- Base of the local view. -/
def localBase : Nat := 0x0200000000000
/-- Bytes of one stack in the local view. -/
def stackSize : Nat := 0x1800000000
/-- Bytes of a stack's context part. -/
def ctxPart : Nat := 0x1680000000
/-- Base of the shared store. -/
def storeBase : Nat := 0xF000000000000
/-- Bytes of one slice. -/
def sliceSize : Nat := 0x800000

/-- The place in the local view of an offset of a context's interleaved view (R267). -/
def interleaved (s : State) (c o : Nat) : Option Nat :=
  let ss := sconcesOf s c
  let m := ss.length
  if m = 0 ∨ m * ctxPart ≤ o then none
  else
    let g := o / 4096
    (ss[g % m]?).map (fun k => localBase + k * stackSize + g / m * 4096 + o % 4096)

/-- The byte a device address names, where it lies in a stack or a slice: its place in the local view or the shared
store. -/
def placeOf (s : State) (a : Nat) : Option Nat :=
  if a < localBase then interleaved s (a / 0x20000000000) (a % 0x20000000000)
  else if localBase ≤ a ∧ a < localBase + 16 * stackSize then some a
  else if storeBase ≤ a ∧ a < storeBase + 32 * sliceSize then some a
  else none

/-- Pseudo-channel and block position of a stack byte (R266): 60 channels share the context part, four the firmware part. -/
def channelOf (p : Nat) : Nat × Nat :=
  let o := (p - localBase) % stackSize
  if o < ctxPart then (o / 256 % 60, o / 256 / 60) else (60 + (o - ctxPart) / 256 % 4, (o - ctxPart) / 256 / 4)

/-- The sconce of a place: of its stack or slice. -/
def sconceOfPlace (p : Nat) : Nat :=
  if p < storeBase then (p - localBase) / stackSize else (p - storeBase) / sliceSize / 2

/-- A place answers: its stack is READY, and a context part has its key (R270, R275). -/
def placeReady (s : State) (p : Nat) : Bool :=
  if p < storeBase then
    let n := sconceOfPlace p
    let k := getStk s n
    k.st == .ready && ((ctxPart ≤ (p - localBase) % stackSize) || k.ctxk != 0)
  else true

/-! ### Windows (R268) -/

/-- Who makes an access. -/
inductive Who where
  /-- Firmware's own accesses. -/
  | firmware
  /-- A thread of a context: supplied (slots 0 to 7) or customer. -/
  | thread (c : Nat) (supplied : Bool)
  /-- The Garvy Link host window on behalf of a context slot. -/
  | host (c : Nat)
deriving DecidableEq, Repr

/-- One window entry admits a whole block (R268). -/
def entryAdmits (e : BitVec 128) (w : Who) (write : Bool) (blk : Nat) : Bool :=
  let n := e.toNat
  let bit (i : Nat) : Bool := n / 2 ^ i % 2 = 1
  let base := n % 2 ^ 44
  let lim := n / 2 ^ 64 % 2 ^ 44
  bit 127 && (if write then bit 125 else bit 126) && decide (base ≤ blk) && decide (blk ≤ lim) &&
    (match w with
      | .firmware => true
      | .thread _ sup => sup || !bit 124
      | .host _ => bit 123 && !bit 124)

/-- The window check of one block. -/
def admits (s : State) (w : Who) (write : Bool) (a : Nat) : Bool :=
  match w with
  | .firmware => true
  | .thread c _ => (List.range 32).any (fun e => entryAdmits (Tab.get 0 s.xbr.windows (c * 32 + e)) w write (a / 256))
  | .host c => (List.range 32).any (fun e => entryAdmits (Tab.get 0 s.xbr.windows (c * 32 + e)) w write (a / 256))

/-- An access to one block is refused: XBR_STAT.WIN_FAULT. -/
def winFault (s : State) : State := { s with xbr := { s.xbr with stat := setBit s.xbr.stat 1 } }

/-! ### Ownership (R253) -/

/-- XBR_STAT.CFG_ERR. -/
def xbrCfgErr (s : State) : State := { s with xbr := { s.xbr with stat := setBit s.xbr.stat 0 } }

/-- A sconce gets an owner: its FREE lanterns are HELD, and its stack gets the context's key (R479, R272). -/
def ownSconce (n : Nat) (c : CtxI) (s : State) : State :=
  let s := updScn n (fun x => { x with owner := some c }) s
  let s := updStk n (fun k => { k with ctxk := setBit k.ctxk c.val }) s
  (lansOf n).foldl (fun s l => updLan l (fun v => if v.st = .free then { v with st := .held, ctx := some c } else v) s) s

/-- A sconce loses its owner: its lanterns are FREE (R479). -/
def freeSconce (n : Nat) (s : State) : State :=
  let s := updScn n (fun x => { x with owner := none }) s
  (lansOf n).foldl (fun s l => updLan l (fun v =>
    if v.st = .retired then { v with ctx := none } else { v with st := .free, ctx := none, llan := none }) s) s

/-- A lantern of the sconce serves. -/
def anyService (s : State) (n : Nat) : Bool := (lansOf n).any (fun l => (getLan s l).st == .service)

/-- SCN_OWN_WRITE (R253, R482). -/
def scnOwn (n : Nat) (v : W32) (s : State) : State :=
  let x := getScn s n
  let set := bitAt v 13
  if x.scrub || anyService s n || (set && ((getStk s n).st == .failed || x.retired)) then xbrCfgErr s
  else if set then ownSconce n (Fin.ofNat 16 (fld v 12 9)) s
  else freeSconce n s

/-- SCN_OWN_WRITE (R253). -/
def execScnOwnWrite (n : Sconce) (v : W32) (s : State) : Host.Outcome State Fault Refusal := .next (scnOwn n.val v s)

/-! ### Crossbar -/

/-- The four slots of one XBR_SLOTMAP register (R260). -/
def slotFields (v : W32) : List (Option CtxI) :=
  (List.range 4).map (fun i => if bitAt v (8 * i + 7) then none else some (Fin.ofNat 16 (fld v (8 * i + 3) (8 * i))))

/-- The map as last written. -/
def slotPending (x : Xbr) : List (Option CtxI) := x.slotNext.getD x.slotmap

/-- XBR_SLOTMAP_WRITE (R260): a context slot that owns no sconce is refused. -/
def slotmapWrite (k : Nat) (v : W32) (s : State) : State :=
  let fs := slotFields v
  if fs.any (fun f => match f with | none => false | some c => (sconcesOf s c.val).isEmpty) then xbrCfgErr s
  else
    let m := slotPending s.xbr
    let m := (withPos 0 m).map (fun p => if p.1 / 4 = k then fs.getD (p.1 % 4) none else p.2)
    { s with xbr := { s.xbr with slotNext := some m } }

/-- XBR_SLOTMAP_WRITE (R260). -/
def execXbrSlotmapWrite (k : Sconce) (v : W32) (s : State) : Host.Outcome State Fault Refusal :=
  .next (slotmapWrite k.val v s)

/-- CROSSBAR_FRAME (R255): a changed slot map takes effect; broadcasts that waited enter free slots (R119). -/
def crossbarFrame (s : State) : State :=
  let x := s.xbr
  drainBroadcasts { s with xbr := { x with slotmap := slotPending x, slotNext := none, frames := x.frames + 1 } }

/-- CROSSBAR_FRAME (R255). -/
def execCrossbarFrame (s : State) : Host.Outcome State Fault Refusal := .next (crossbarFrame s)

/-! ### Stacks -/

/-- Blocks of a stack's context part (R275). -/
def ctxBlocks : Nat := 377487360

/-- A controller starts to overwrite its context part; SCRUB reads 1 throughout (R275). -/
def startOverwrite (n : Nat) (s : State) : State :=
  updScn n (fun x => { x with scrub := true })
    (updStk n (fun k => { k with ctxk := 0, scrubBusy := true, remain := BitVec.ofNat 29 ctxBlocks }) s)

/-- Start-up goes on when every stack has left TRAINING (R270, R292). -/
def trainCheck (s : State) : State :=
  if s.clk.step = 5 ∧ (List.range 16).all (fun n => (getStk s n).st != .training) then
    { s with clk := { s.clk with step := 6 } }
  else s

/-- STACK_TRAINING_DONE (R270): READY at either rate, then the start-up overwrite; or FAILED, and the sconce is recorded as
retired (R482). -/
def trainingDone (n : Nat) (r : TrainResult) (rep : Nat) (s : State) : State :=
  if (getStk s n).st = .training then
    let up (slow : Bool) (s : State) : State :=
      startOverwrite n (updStk n (fun k => { k with st := .ready, slow := slow, repairs := satOf 8 rep, sysk := true,
                                                    stat := if slow then setBit k.stat 1 else k.stat }) s)
    match r with
    | .full => trainCheck (up false s)
    | .degraded => trainCheck (ember 0 0x0701 n none rep (up true s))
    | .failed =>
      let s := updStk n (fun k => { k with st := .failed, repairs := satOf 8 rep }) s
      trainCheck (ember 4 0x0702 n none 0 (addRecSconce n s))
  else s

/-- STACK_TRAINING_DONE (R270). -/
def execStackTrainingDone (n : Sconce) (r : TrainResult) (repairs : Nat) (s : State) :
    Host.Outcome State Fault Refusal := .next (trainingDone n.val r repairs s)

/-- PATROL_PASS (R273): corrected blocks count, and each uncorrectable one raises a contained ember. -/
def patrolPass (n corrected : Nat) (bad : List Nat) (s : State) : State :=
  if (getStk s n).st = .ready then
    let s := updStk n (fun k =>
      let st := setBit k.stat 0
      let st := if corrected = 0 then st else setBit st 2
      { k with passes := k.passes + 1, cor := satAdd k.cor corrected, unc := satAdd k.unc bad.length,
               stat := if bad = [] then st else setBit st 3 }) s
    bad.foldl (fun s b => ember 2 0x0703 n none b s) s
  else s

/-- PATROL_PASS (R273). -/
def execPatrolPass (n : Sconce) (corrected : Nat) (bad : List Nat) (s : State) : Host.Outcome State Fault Refusal :=
  .next (patrolPass n.val corrected bad s)

/-- Bytes and codes in a range become zero blocks. -/
def zeroRange (m : Mem) (lo hi : Nat) : Mem :=
  { bytes := Tab.drop (fun a => decide (lo ≤ a) && decide (a < hi)) m.bytes,
    codes := Tab.drop (fun b => decide (lo ≤ b * 256) && decide (b * 256 < hi)) m.codes }

/-- SLICE_CLEAR_DONE (R264): the context-owned regions of both slices are zero; the stack overwrite begins (R275). -/
def sliceClear (n : Nat) (s : State) : State :=
  let x := getScn s n
  if x.scrub ∧ !(getStk s n).scrubBusy then
    let b := storeBase + 2 * n * sliceSize
    let m := zeroRange (zeroRange s.mem b (b + 0x700000)) (b + sliceSize) (b + sliceSize + 0x700000)
    startOverwrite n { s with mem := m }
  else s

/-- SLICE_CLEAR_DONE (R264). -/
def execSliceClearDone (n : Sconce) (s : State) : Host.Outcome State Fault Refusal := .next (sliceClear n.val s)

/-- A CTX.DESTROY whose last scrub is over completes (R401). -/
def scrubCheck (d : Option Desc) (s : State) : State :=
  match d with
  | none => s
  | some d =>
    if (List.range 16).any (fun n => (getScn s n).scrubCmd == some d) then s else finish d 0 s

/-- STACK_OVERWRITE_DONE (R275): the context part holds zero blocks and SCRUB ends. -/
def overwriteDone (n : Nat) (s : State) : State :=
  let k := getStk s n
  if k.scrubBusy then
    let b := localBase + n * stackSize
    let s := { s with mem := zeroRange s.mem b (b + ctxPart) }
    let s := updStk n (fun k => { k with scrubBusy := false, remain := 0, overwritten := true }) s
    let d := (getScn s n).scrubCmd
    scrubCheck d (updScn n (fun x => { x with scrub := false, scrubCmd := none }) s)
  else s

/-- STACK_OVERWRITE_DONE (R275). -/
def execStackOverwriteDone (n : Sconce) (s : State) : Host.Outcome State Fault Refusal := .next (overwriteDone n.val s)

/-! ### Supply raise and retirement of a sconce -/

/-- VRAISE_STEP_DOWN (R483): an hour with fewer than four suspect lanterns. -/
def execVraiseStepDown (n : Sconce) (s : State) : Host.Outcome State Fault Refusal :=
  .next (if suspCount s n.val < 4 then
      updScn n.val (fun x => { x with raised := if x.raised = 0 then 0 else x.raised - 1 }) s
    else s)

/-- SCONCE_RETIRE (R484): suspect lanterns go to the reserves there are; the sconce is recorded as retired. -/
def retireSconce (n : Nat) (s : State) : State :=
  if (getScn s n).raised = 3 ∧ 4 ≤ suspCount s n ∧ !(getScn s n).retire then
    let ls := (lansOf n).filter (fun l => (getLan s l).suspect && (getLan s l).st == .service)
    let s := ls.foldl (fun s l => match (getLan s l).llan, heldFree s n with
      | some ll, some _ => remapLan ll (getLan s l).epoch [] s
      | _, _ => s) s
    let s := updScn n (fun x => { x with retire := true }) s
    ember 2 0x0F01 n none 0 (addRecSconce n s)
  else s

/-- SCONCE_RETIRE (R484). -/
def execSconceRetire (n : Sconce) (s : State) : Host.Outcome State Fault Refusal := .next (retireSconce n.val s)

end Sys2Proof.Machine
end

