-- ==== Sys2Proof/Machine/Monitor.lean ====
section
/-! DEFINITION. The monitor converters (R202 to R208): sequences, urgent conversions, diode temperatures and the thermal
trip. -/

namespace Sys2Proof.Machine

/-- Converter `n`. -/
def getCv (s : State) (n : Nat) : MonCv := s.mon.cvs.getD n (MonCv.init n)

/-- Change converter `n`. -/
def updCv (n : Nat) (f : MonCv → MonCv) (s : State) : State :=
  { s with mon := { s.mon with cvs := (withPos 0 s.mon.cvs).map (fun p => if p.1 = n then f p.2 else p.2) } }

/-- Begin a pass with the settings now written, or stay idle with LEN 0 (R204). -/
def beginPass (c : MonCv) : MonCv :=
  { c with run := decide (c.len ≠ 0), lenNow := c.len.toNat, modeNow := c.mode, seqNow := c.seq, entry := 0 }

/-- A pass has ended: the count goes up; a single pass stops, a continuous one starts again (R204). -/
def endPass (c : MonCv) : MonCv :=
  let c := { c with pass := c.pass + 1 }
  if c.modeNow then { c with run := false, lenNow := c.len.toNat, modeNow := c.mode, seqNow := c.seq, entry := 0 }
  else beginPass c

/-- A single pass that ended under continuous settings goes on at once. -/
def settleRun (c : MonCv) : MonCv := if !c.run && !c.mode && c.len != 0 then beginPass c else c

/-- The running entry's code is stored (R204). -/
def storeEntry (c : MonCv) (code : BitVec 12) : MonCv :=
  let i := c.entry
  let c := { c with res := (withPos 0 c.res).map (fun p => if p.1 = i then (true, c.restarted, c.pass, code) else p.2),
                    restarted := false, entry := i + 1 }
  if c.lenNow ≤ i + 1 then settleRun (endPass c) else c

/-- Temperature in 1/8 °C of a ×1 diode code (R207). -/
def tempOf (t : W16 × W16) (code : Nat) : Int := t.2.toInt + ((t.1.toNat * code / 2 ^ 12 : Nat) : Int)

/-- A diode sample (R207, R171): T8, HOTRUN, and at the sixteenth hot sample TRIP and the withhold. -/
def diodeSample (d : Nat) (code : BitVec 12) (s : State) : State :=
  let t8 := tempOf (s.mon.dtab.getD d (0, 0)) code.toNat
  let old := (s.mon.temp.getD d (0, 0)).1.toNat
  let run := if 840 ≤ t8 then min 16 (old + 1) else 0
  let s := { s with mon := { s.mon with
    temp := (withPos 0 s.mon.temp).map (fun p => if p.1 = d then (BitVec.ofNat 5 run, t8) else p.2) } }
  if run = 16 then withhold 0x05 d { s with mon := { s.mon with stat := setBit s.mon.stat 0 } } else s

/-- An input's code arrives: the latest value, CLAMP, and a ×1 diode's temperature (R207, R208). -/
def inputSample (e : SeqEntry) (code : BitVec 12) (clamped : Bool) (s : State) : State :=
  let i := e.input.toNat
  let s := { s with mon := { s.mon with latest := Tab.set 0 s.mon.latest i code,
                                        stat := if clamped then setBit s.mon.stat 1 else s.mon.stat } }
  if i < 32 ∧ e.gain = 0 then diodeSample i code s else s

/-- The next urgent conversion of a converter, the governor's first (DEDUCED, log 21). -/
def nextUrgent (c : MonCv) : MonCv :=
  match c.waitGov, c.waitFw with
  | some e, _ => { c with urgent := some (true, e), waitGov := none }
  | none, some e => { c with urgent := some (false, e), waitFw := none }
  | none, none => { c with urgent := none }

/-- The gain G of a code: 1, 2, 4 or 8 (R202). -/
def gainOf (g : BitVec 2) : Nat := 2 ^ g.toNat

/-- An input lies above full scale or below 0 V (R208). -/
def levelClips (g : BitVec 2) (level : Int) : Bool := decide (level < 0 ∨ 1000000 < level * gainOf g)

/-- The code of an input level in µV (R202, R208): 0 V gives 0 and 1.0 ÷ G V gives 4,095, with the conversion's error in LSB; levels beyond
the ends give the end codes. The nearest code is a DESIGN CHOICE, log 138. -/
def levelCode (g : BitVec 2) (level err : Int) : BitVec 12 :=
  BitVec.ofInt 12 (if levelClips g level then (if level < 0 then 0 else 4095)
    else clampI 0 4095 (rneDiv (level * gainOf g * 4095) 1000000 + err))

/-- Firmware has a request of MON_URG pending or running (R206, R213). -/
def fwUrgent (cs : List MonCv) : Bool := cs.any (fun c => c.waitFw.isSome || c.urgent.any (fun q => !q.1))

/-- MON_CONVERSION_DONE (R204, R206). -/
def conversionDone (n : Nat) (level err : Int) (s : State) : State :=
  let c := getCv s n
  match c.urgent with
  | some (gov, e) =>
    let s := updCv n nextUrgent s
    let s := if gov then s
      else { s with mon := { s.mon with resValid := true, resCode := levelCode e.gain level err, urgBusy := fwUrgent s.mon.cvs } }
    inputSample e (levelCode e.gain level err) (levelClips e.gain level) s
  | none =>
    if c.run then
      match c.seqNow[c.entry]? with
      | none => s
      | some e =>
        let code := levelCode e.gain level err
        inputSample e code (levelClips e.gain level) (updCv n (fun c => storeEntry c code) s)
    else s

/-- MON_CONVERSION_DONE (R204). -/
def execMonConversionDone (n : Fin 4) (level err : Int) (s : State) :
    Host.Outcome State Fault Refusal := .next (conversionDone n.val level err s)

/-- Ask a converter for an urgent conversion (R206): it aborts a sequence entry, and waits behind another urgent one. -/
def askUrgent (gov : Bool) (e : SeqEntry) (c : MonCv) : MonCv :=
  match c.urgent with
  | none => { c with urgent := some (gov, e), restarted := c.restarted || c.run }
  | some _ =>
    if gov then (if c.waitGov.isSome then c else { c with waitGov := some e })
    else (if c.waitFw.isSome then c else { c with waitFw := some e })

/-- The governor's urgent conversion of a supply point, on the converter whose sequence holds the point (R206, R288;
DEDUCED, log 21). -/
def supplyUrgent (p : Nat) (s : State) : State :=
  updCv (if p < 16 then 2 else 3) (askUrgent true { gain := 0, ts := 1, input := BitVec.ofNat 6 (32 + p) }) s

/-- The request fields of MON_URG (R213). -/
def urgEntry (v : W32) : SeqEntry :=
  { gain := BitVec.ofNat 2 (fld v 13 12), ts := BitVec.ofNat 3 (fld v 10 8), input := BitVec.ofNat 6 (fld v 5 0) }

/-- MON_URG (R206, R213): firmware's GO while its own request is pending is ignored and sets URG_OVF. -/
def monUrg (gov : Bool) (v : W32) (s : State) : State :=
  let e := urgEntry v
  let n := fld v 17 16
  if gov then updCv n (askUrgent true e) s
  else if bitAt v 31 ∧ s.mon.cvs.any (fun c => c.waitFw.isSome) then { s with mon := { s.mon with stat := setBit s.mon.stat 2 } }
  else
    let s := { s with mon := { s.mon with urgConv := BitVec.ofNat 2 n, urgGain := e.gain, urgTs := e.ts,
                                          urgInput := e.input } }
    if bitAt v 31 then updCv n (askUrgent false e) { s with mon := { s.mon with urgBusy := true, resValid := false } } else s

/-- MON_URG_GO (R206). -/
def execMonUrgGo (gov : Bool) (v : W32) (s : State) : Host.Outcome State Fault Refusal := .next (monUrg gov v s)

/-- MON_CVn_CTL (R204, R213): LEN and MODE wait for the next pass; GO starts one pass in single mode. -/
def monCvWrite (n : Nat) (v : W32) (s : State) : State :=
  updCv n (fun c =>
    let c := { c with len := BitVec.ofNat 5 (min 16 (fld v 4 0)), mode := bitAt v 8 }
    if c.run then c else if !c.mode || bitAt v 30 then beginPass c else c) s

/-- MON_CV_GO (R204). -/
def execMonCvGo (n : Fin 4) (v : W32) (s : State) : Host.Outcome State Fault Refusal := .next (monCvWrite n.val v s)

end Sys2Proof.Machine
end

