-- ==== Sys2Proof/Machine/Clocks.lean ====
section
/-! DEFINITION. Resets (R290, R291), start-up through the boot ROM (R292, R450 to R461), supply events (R174, R288, R289),
clock division and gating (R280 to R285), and the counter floors (R459). -/

namespace Sys2Proof.Machine

/-! ### Resets -/

/-- What a wick keeps over any reset: its cells and its counter row (R40, R68). -/
def wickKept (w : Wick) : Wick := { Wick.init with pgm := w.pgm, cells := w.cells }

/-- Wicks after a reset. -/
def wicksKept (s : State) : Tab Wick :=
  (keysOf s.wicks).foldl (fun t k => Tab.set Wick.init t k (wickKept (Tab.get Wick.init s.wicks k))) []

/-- Everything on the die back at its reset value but what no reset clears: the waiting commands, board flash, cells and
counter rows, and what companion memory holds. -/
def cleared (s : State) : State :=
  { State.reset with pending := s.pending, flash := s.flash, wicks := wicksKept s,
                     posted := s.posted, fresh := s.fresh }

/-- POWER_ON_RESET (R290): everything, CLK_LTIME and the root PLL included. -/
def execPowerOnReset (s : State) : Host.Outcome State Fault Refusal := .next (cleared s)

/-- A die reset (R290, R291): all but the root PLL and CLK_LTIME; it leaves holdover (R289). From the board pin, start-up
waits for the pin to rise (R520). -/
def dieReset (src : RstSrc) (s : State) : State :=
  let r := cleared s
  { r with clk := { r.clk with
      lock := s.clk.lock, aclk := s.clk.aclk, rstCount := satInc s.clk.rstCount,
      rstCause := if src = .brdRst then 1 else 2, pwrgd := s.clk.pwrgd, active := s.clk.active,
      brdRstN := if src = .brdRst then false else s.clk.brdRstN,
      step := if s.clk.lock then (if src = .brdRst || !s.clk.brdRstN then 2 else 3) else 1 } }

/-- DIE_RESET (R290). -/
def execDieReset (src : RstSrc) (s : State) : Host.Outcome State Fault Refusal := .next (dieReset src s)

/-- ROOT_PLL_LOCK (R292, steps 1 and 2; R520). -/
def pllLock (brdHigh : Bool) (s : State) : State :=
  if s.clk.step = 1 then
    { s with clk := { s.clk with lock := true, brdRstN := brdHigh, step := if brdHigh then 3 else 2 } }
  else s

/-- ROOT_PLL_LOCK (R292). -/
def execRootPllLock (brdHigh : Bool) (s : State) : Host.Outcome State Fault Refusal := .next (pllLock brdHigh s)

/-- BRD_RST_N_RELEASE (R520): start-up goes on from where it waited. -/
def execBrdRstNRelease (s : State) : Host.Outcome State Fault Refusal :=
  .next { s with clk := { s.clk with brdRstN := true, step := if s.clk.step = 2 then 3 else s.clk.step } }

/-! ### The boot ROM (R456 to R461) -/

/-- An image is eligible (R458). -/
def imageOk (floor : W32) (i : FwImage) : Bool := chainValid [1, 4] i.chain && i.rsa && i.slh && decide (floor ≤ i.svn)

/-- The image chosen: the higher SVN, slot A on a tie (R458, R474). -/
def chooseImage (floor : W32) (a b : Option FwImage) : Option (Bool × FwImage) :=
  match a.filter (imageOk floor), b.filter (imageOk floor) with
  | some x, some y => if x.svn < y.svn then some (true, y) else some (false, x)
  | some x, none => some (false, x)
  | none, some y => some (true, y)
  | none, none => none

/-- A platform section within its ranges (R530). -/
def platOk (p : Platform) : Bool :=
  let w (x : W16) : Bool := decide (x.toNat ≤ 950)
  decide (600 ≤ p.plimit.toNat) && w p.plimit && decide (100 ≤ p.sArr.toNat) && decide (p.sArr.toNat ≤ 500) &&
    w p.sVec && w p.sXbr && w p.sStk && w p.sSer && w p.sCtl && decide (80 ≤ p.thset.toNat) &&
    decide (p.thset.toNat ≤ 100) && decide (p.warn.toNat ≤ 8) && p.ndivW != 3 && decide (8 ≤ p.smbAddr.toNat) &&
    decide (p.smbAddr.toNat ≤ 0x77) && decide (1 ≤ p.udpPort.toNat) && decide (100 ≤ p.hold.toNat) &&
    decide (p.hold.toNat ≤ 60000) && decide (1 ≤ p.lease.toNat) && decide (p.lease.toNat ≤ 3600) &&
    [p.shReh, p.budReh, p.rbChk, p.patrol].all (fun x => decide (1 ≤ x.toNat) && decide (x.toNat ≤ 168))

/-- The configuration block is accepted (R461, R530); link policies are 0 to 2 (R460). -/
def cfgOk (floor : W32) (c : ConfigBlock) : Bool :=
  chainValid [1, 5] c.chain && c.rsa && c.slh && decide (floor ≤ c.cfgseq) && platOk c.plat && c.enc.all (fun e => e != 3)

/-- The boot ROM stops in a state of SEC_BOOT, WHELD_N low (R458, R524). -/
def bootStop (st : BitVec 4) (s : State) : State :=
  { s with sec := { s.sec with state := st }, clk := { s.clk with wheldLow := true } }

/-- The root secret as bytes, first byte highest (log 139). -/
def secretBytes (x : BitVec 256) : List Byte := (leBytes 32 x.toNat).reverse

/-- The PUF's secret is accepted (R450, R451). -/
def pufOk (b : BootInput) : Bool := regionOk b.size b.dir 0 && Config.sha384 (secretBytes b.secret) == b.pufTag

/-- The identity passes: its region is there, its chain is valid and its keys unwrap (R450, R455, R456). -/
def identityOk (b : BootInput) : Bool :=
  regionOk b.size b.dir 1 && b.identOk && b.ident.map Cert.role == [1, 2] && issued Config.rootSubject b.ident

/-- An object of a region, which the boot ROM finds while the region is there (R450). -/
def inRegion (b : BootInput) (n : Nat) (o : Option α) : Option α := if regionOk b.size b.dir n then o else none

/-- IDDIGEST: the subject digest of the device identity certificate (R310, R453). -/
def iddigestOf (l : List Cert) : Digest := match l.getLast? with | none => 0 | some c => subject c

/-- The alias certificate of a chosen image (R453, R456); the key pair, drawn by the keeper, is free (log 5). -/
def aliasOf (i : FwImage) (id : Digest) (key : List Byte) : Cert :=
  { role := 3, issuer := id, key := key, meas := i.meas, svn := i.svn, rsa := true, slh := true }

/-- The MAC address of a package (R501). -/
def macOf (id : Digest) : List Byte := 0x02 :: (digBytes id).take 5

/-- The application cores run: presence, stacks and the other domains start (R292 steps 4 and 5, R456 step 9, R500). -/
def bootRun (b : BootInput) (slotB : Bool) (i : FwImage) (c : ConfigBlock) (s : State) : State :=
  let w := freeWords 0x0456 109 s
  let key := w.1.flatMap (fun v => leBytes 4 v.toNat)
  let s := w.2
  let s := { s with
    sec := { s.sec with state := 1, slotB := slotB, svn := i.svn, rngOk := true, image := some i, cfg := some c,
                        iddigest := iddigestOf b.ident, chain := b.ident ++ [aliasOf i (iddigestOf b.ident) key] },
    flash := { s.flash with noRec := !regionOk b.size b.dir 5 },
    mbx := { s.mbx with keeper := true, alive := 0xF }, clk := { s.clk with step := 5 },
    mgt := { s.mgt with started := true, sgmiiEn := c.plat.mgtSgmii, i3c := c.plat.mgtBus,
                        smbAddr := BitVec.ofNat 7 c.plat.smbAddr.toNat, ipv4 := c.plat.ipv4, udpPort := c.plat.udpPort,
                        mac := macOf (iddigestOf b.ident) } }
  let s := (List.range 16).foldl (fun s n => updStk n (fun k => { k with st := .training }) s) s
  ember 0 0x1102 0 none s.clk.rstCause.toNat s

/-- Record a security violation and withhold (R473). -/
def violate (v : Nat) (s : State) : State :=
  withhold 0x0A 0 { s with sec := { s.sec with viol := setBit s.sec.viol v } }

/-- BOOT_ROM (R456): the sequence to its end, or to the stop a check leads to. An identity that fails step 7 leaves it in the ROM
(DESIGN CHOICE, log 150). -/
def bootRom (b : BootInput) (s : State) : State :=
  if s.clk.step = 3 ∧ s.sec.state = 0 ∧ !s.snuf.wheld then
    let s := { s with clk := { s.clk with aclk := s.clk.aclk + 3 * b.cclk } }
    if !b.rngOk then violate 0 s
    else
      let s := { s with sec := { s.sec with rngOk := true } }
      if !pufOk b then bootStop 2 s
      else
      let s := { s with sec := { s.sec with root := some b.secret, keys := some (keysFrom b.secret) } }
      if !(b.counterOk && regionOk b.size b.dir 6) then bootStop 3 s
      else match chooseImage s.flash.fwFloor (inRegion b 3 b.imgA) (inRegion b 4 b.imgB) with
        | none => bootStop 3 s
        | some (slotB, i) => match (inRegion b 2 b.cfg).filter (cfgOk s.flash.cfgFloor) with
          | none => bootStop 4 s
          | some c => if identityOk b then bootRun b slotB i c s else s
  else s

/-- BOOT_ROM (R456). -/
def execBootRom (b : BootInput) (s : State) : Host.Outcome State Fault Refusal := .next (bootRom b s)

/-- COUNTER_FLOOR_RAISE (R459): after EN, each floor rises to the running SVN or CFGSEQ where COMMIT is set; never
lowered. -/
def raiseFloors (s : State) : State :=
  if s.lmp.en ∧ s.sec.state = 1 then
    let fw := match s.sec.image with | some i => if i.commit then some i.svn else none | none => none
    let cf := match s.sec.cfg with | some c => if c.commit then some c.cfgseq else none | none => none
    let up (old : W32) (n : Option W32) : W32 := match n with | none => old | some x => if old < x then x else old
    { s with flash := { s.flash with fwFloor := up s.flash.fwFloor fw, cfgFloor := up s.flash.cfgFloor cf },
             sec := { s.sec with fwCommit := s.sec.fwCommit || fw.isSome, cfgCommit := s.sec.cfgCommit || cf.isSome } }
  else s

/-- COUNTER_FLOOR_RAISE (R459). -/
def execCounterFloorRaise (s : State) : Host.Outcome State Fault Refusal := .next (raiseFloors s)

/-! ### Supplies -/

/-- LMP_DIPS as a word (R180). -/
def dipsWord (s : State) : Nat := s.lmp.dipsTotal.toNat * 65536 + s.lmp.dipsRecent.toNat

/-- Count a dip (R174): the seventeenth within 1 s withholds. -/
def countDip (p : Nat) (s : State) : State :=
  let f := nowF s
  let ts := s.lmp.dipTimes.filter (fun t => f < t + 337500000) ++ [f]
  let s := { s with lmp := { s.lmp with dipsTotal := satInc s.lmp.dipsTotal, dipTimes := ts,
                                        dipsRecent := BitVec.ofNat 5 (min 17 ts.length) } }
  let s := ember 0 0x0802 p none (dipsWord s) s
  if 17 ≤ ts.length then withhold 0x06 0 s else s

/-- SUPPLY_WARNING (R174, R288, R289): recorded, an urgent conversion, the freeze, and the dip counts. -/
def supplyWarning (p : Nat) (s : State) : State :=
  if s.clk.active.toNat / 2 ^ p % 2 = 1 then s
  else
    let s := { s with clk := { s.clk with active := setBit s.clk.active p, warned := setBit s.clk.warned p } }
    countDip p (freeze (supplyUrgent p s))

/-- SUPPLY_WARNING (R288). -/
def execSupplyWarning (p : PointI) (s : State) : Host.Outcome State Fault Refusal := .next (supplyWarning p.val s)

/-- SUPPLY_RECOVERY (R174): the wait begins when the last warned point is back. -/
def supplyRecovery (p : Nat) (s : State) : State :=
  let a := clrBit s.clk.active p
  let s := { s with clk := { s.clk with active := a } }
  if a = 0 ∧ s.lmp.frozen then { s with lmp := { s.lmp with recovered := some (nowF s) } } else s

/-- SUPPLY_RECOVERY (R174). -/
def execSupplyRecovery (p : PointI) (s : State) : Host.Outcome State Fault Refusal := .next (supplyRecovery p.val s)

/-- Jobs and calibrations that waited start again. -/
def kickAll (s : State) : State :=
  (keysOf s.lans).foldl (fun s l => tryDr l (runLan l s)) s

/-- FREEZE_RESUME (R174): 1,688 flickers after the recovery; supply raises that waited are made (R498). -/
def freezeResume (s : State) : State :=
  match s.lmp.recovered with
  | none => s
  | some t =>
    if s.lmp.frozen ∧ s.clk.active = 0 ∧ t + 1688 ≤ nowF s then
      let s := { s with lmp := { s.lmp with frozen := false, recovered := none } }
      let s := (List.range 16).foldl (fun s n => if (getScn s n).raiseDue then raiseSupply n s else s) s
      kickAll s
    else s

/-- FREEZE_RESUME (R174). -/
def execFreezeResume (s : State) : Host.Outcome State Fault Refusal := .next (freezeResume s)

/-- A supply fault of a kind at a sense point (R289): recorded, an urgent conversion, and the withhold. -/
def supplyFault (kind : BitVec 2) (p : Nat) (s : State) : State :=
  withhold 0x07 p (supplyUrgent p { s with clk := { s.clk with fltKind := kind, fltPoints := setBit s.clk.fltPoints p } })

/-- SUPPLY_WARNING_LONG (R289): a warning that has stood for 50 µs. -/
def execSupplyWarningLong (p : PointI) (s : State) : Host.Outcome State Fault Refusal :=
  .next (if s.clk.active.toNat / 2 ^ p.val % 2 = 1 then supplyFault 1 p.val s else s)

/-- SUPPLY_RESET_LEVEL (R289). -/
def execSupplyResetLevel (p : PointI) (s : State) : Host.Outcome State Fault Refusal := .next (supplyFault 2 p.val s)

/-- SUPPLY_OVERVOLTAGE (R289). -/
def execSupplyOvervoltage (p : PointI) (s : State) : Host.Outcome State Fault Refusal := .next (supplyFault 3 p.val s)

/-- PLL_LOCK_LOSS (R289): the root enters holdover and Yatil withholds. -/
def execPllLockLoss (s : State) : Host.Outcome State Fault Refusal :=
  .next (withhold 0x08 0 { s with clk := { s.clk with lock := false, hold := true, lockLost := true } })

/-- HOLDOVER_END (R289, R511): clocks are not trusted any more, and after cause 0x08 the presence stops. -/
def execHoldoverEnd (s : State) : Host.Outcome State Fault Refusal :=
  .next (if s.clk.hold then
      { s with clk := { s.clk with untrusted := true },
               mgt := if s.snuf.cause = 0x08 then { s.mgt with started := false } else s.mgt }
    else s)

/-! ### Dividers and gates -/

/-- A lantern of a half holds an input slot in FIRING or HELD (R282). -/
def halfFiring (s : State) (east : Bool) : Bool :=
  s.lans.any (fun e => eastSconce (sconceOf e.1) == east &&
    [e.2.slot0.st, e.2.slot1.st].any (fun x => x == .firing || x == .held))

/-- CLK_HALFn (R280, R282): a gated west NCLK, or gating ACLK under a firing slot, is refused with CFG_ERR. -/
def halfWrite (east : Bool) (v : W32) (s : State) : State :=
  let a : BitVec 2 := BitVec.ofNat 2 (fld v 1 0)
  let n : BitVec 2 := BitVec.ofNat 2 (fld v 5 4)
  if (!east && n == 3) || (a == 3 && halfFiring s east) then { s with clk := { s.clk with cfgErr := true } }
  else if east then { s with clk := { s.clk with aE := a, nE := n } }
  else { s with clk := { s.clk with aW := a, nW := n } }

/-- CLK_HALF_WRITE (R280). -/
def execClkHalfWrite (east : Bool) (v : W32) (s : State) : Host.Outcome State Fault Refusal :=
  .next (halfWrite east v s)

/-- A half's ACLK divider changes under trim (R199): a full trim is abandoned to start again, a calibration is
abandoned. -/
def dividerTrim (l : Nat) (s : State) : State :=
  let v := getLan s l
  let s := killProbes l trimKind s
  if v.phase = .win1 ∨ v.phase = .win2 then
    let s := match v.calWick with
      | none => s
      | some w => updWick l w.val clearWin s
    updLan l endTrimPhase s
  else updLan l abortDr s

/-- Credits held for the east NCLK are owed again (R320). -/
def freeCredits (x : Link) : Link :=
  { x with owed := x.heldCr.foldl (fun t e => Tab.upd 0 t e.1 (fun n => n + e.2)) x.owed, heldCr := [] }

/-- CLOCK_DIVIDER_APPLY (R281): a common boundary is a flicker whose number is a multiple of 12. -/
def dividerApply (s : State) : State :=
  if nowF s % 12 = 0 then
    let dE := s.clk.aE != s.clk.acE
    let dW := s.clk.aW != s.clk.acW
    let s := { s with clk := { s.clk with acE := s.clk.aE, ncE := s.clk.nE, acW := s.clk.aW, ncW := s.clk.nW } }
    let s := if s.clk.nE = 3 then s else (List.range 32).foldl (fun s k => updLink k freeCredits s) s
    let s := (keysOf s.lans).foldl (fun s l =>
      if (if eastSconce (sconceOf l) then dE else dW) then dividerTrim l s else s) s
    kickAll s
  else s

/-- CLK_SEAM_GATE_WRITE (R285). -/
def execClkSeamGateWrite (v : W32) (s : State) : Host.Outcome State Fault Refusal :=
  .next { s with clk := { s.clk with gateE := bitAt v 31, gateW := bitAt v 30 } }

end Sys2Proof.Machine
end

