-- ==== Sys2Proof/Machine/Links.lean ====
section
/-! DEFINITION. The fabric links (R295 to R321): ports, bring-up, flits with credits and replay, discovery and keys, link loss
and fail-over, and the relay of messages (R325, R328, R329). -/

namespace Sys2Proof.Machine

/-! ### Ports and links -/

/-- The link exists: link 2p + 1 is unused while port p is whole (R296). -/
def linkUsed (s : State) (k : Nat) : Bool := decide (k % 2 = 0) || (getPort s (k / 2)).split

/-- The encryption policy of a link (R313). -/
def linkPolicy (s : State) (k : Nat) : BitVec 2 :=
  if k % 2 = 0 then (getPort s (k / 2)).encA else (getPort s (k / 2)).encB

/-- The lanes of a link within its port (R296). -/
def linkLanes (s : State) (k : Nat) : Byte :=
  if (getPort s (k / 2)).split then (if k % 2 = 0 then 0x0F else 0xF0) else 0xFF

/-- Set a flag of a port's FAB_STAT. -/
def fabStat (p i : Nat) (s : State) : State := updPort p (fun x => { x with stat := setBit x.stat i }) s

/-- A link carries flits: it has passed LINIT and is neither DOWN nor DISABLED (R306). -/
def linkLive (st : LinkSt) : Bool := st == .discover || st == .up || st == .quarantine || st == .withheld

/-- A neighbour entry changes: firmware posts FAB.NBR on the system ring (R312). The manual gives the notification's
RESULT the entry without its layout: a free value (log 9). -/
def nbrChange (k : Nat) (f : Neighbour → Neighbour) (s : State) : State :=
  let old := getNbr s k
  let new := f old
  if new = old then s
  else
    let w := freeWords 0x0981 8 s
    notify none 0x0981 0 w.1 (updNbr k (fun _ => { new with changed := ltime s }) w.2)

/-- Four draws of the keeper's source make a nonce (R310, R464). -/
def drawNonce (s : State) : BitVec 256 × State :=
  let a := drawRandom s
  let b := drawRandom a.2
  let c := drawRandom b.2
  let d := drawRandom c.2
  (a.1 ++ b.1 ++ c.1 ++ d.1, d.2)

/-! ### Egress -/

/-- Put a message at the head of a link's lane, behind a message that has begun there (R315). -/
def linkPutFront (k : Nat) (m : Msg) (s : State) : State :=
  updLink k (fun x =>
    let vl := m.vl.toNat
    { x with queues := Tab.upd [] x.queues vl (fun q =>
        if Tab.get 0 x.sentB vl = 0 then .msg m :: q
        else match q with
          | [] => [.msg m]
          | h :: t => h :: .msg m :: t) }) s

/-- Send a message ahead of later ones of its lane. -/
def egressFront (m : Msg) (s : State) : State :=
  match nextHop s m.hdr.dst.toNat with
  | some k => linkPutFront k m s
  | none => egress m s

/-- Messages held for want of a next hop are tried again (R316). -/
def retryHeld (s : State) : State :=
  let held := s.fab.noRoute
  held.foldl (fun s m => egress m s) { s with fab := { s.fab with noRoute := [] } }

/-- The messages of a list of items; tapers stay with their chain's link (R347). -/
def itemMsgs (l : List Item) : List Msg :=
  l.filterMap (fun i => match i with
    | .msg m => if m.hdr.kind = 0x13 then none else some m
    | .lnk _ => none)

/-- The alternate link that an ember names: that of the lowest destination routed through `k` (R505; log 23); without one,
a free value. -/
def altOf (s : State) (k : Nat) : Nat :=
  match s.fab.routes.find? (fun e => decide (e.1 / 4096 = if s.fab.bank then 1 else 0) && e.2.pv && decide (e.2.plink.val = k) && e.2.av) with
  | some e => e.2.alink.val
  | none => (Config.outWord 0x0901 s.fresh).toNat

/-- Fail-over (R315): messages with a byte in an unacknowledged flit go whole to the alternate, ahead of later ones;
queued messages follow; FAILOVER and an ember. -/
def failover (k : Nat) (unacked : List TxFlit) (queues : Tab (List Item)) (s : State) : State :=
  let begun := itemMsgs (unacked.flatMap (fun f => f.items))
  let rest := itemMsgs (queues.flatMap (fun e => e.2))
  let s := begun.reverse.foldl (fun s m => egressFront m s) s
  let s := rest.foldl (fun s m => egress m s) s
  ember 1 0x0901 k none (altOf s k) (fabStat (k / 2) 3 { s with fresh := s.fresh + 1 })

/-- A link as it is left when it stops carrying traffic: buffers empty, discovery abandoned (R315, R320). -/
def linkCleared (x : Link) (st : LinkSt) (cause : BitVec 4) : Link :=
  { Link.init with st := st, cause := cause, rtt := x.rtt, rev := x.rev, routesOff := x.routesOff, upId := x.upId }

/-- A link leaves service for `st` with a cause: flag, lanes unlocked, fail-over of an UP link's messages, neighbour
entry (R306, R312, R315). -/
def linkLeave (k : Nat) (st : LinkSt) (cause : BitVec 4) (s : State) : State :=
  let x := getLink s k
  if x.st = .disabled then s
  else
    let lanes := linkLanes s k
    let s := updPort (k / 2) (fun p => { p with lock := p.lock &&& ~~~ lanes }) (fabStat (k / 2) 0 s)
    let s := updLink k (fun x => linkCleared x st cause) s
    let s := if x.st = .up then failover k x.unacked x.queues s else s
    nbrChange k (fun n => { n with nst := 0 }) s

/-- A link goes down (R306). -/
def linkDown (k : Nat) (cause : BitVec 4) (s : State) : State := linkLeave k .down cause s

/-! ### Configuration -/

/-- The fields of FAB_PCFG but EN, from a write (R321); an ENC value of 3 is ignored. -/
def pcfgFields (v : W32) (p : Port) : Port :=
  { p with
    split := bitAt v 30, ch := bitAt v 27, twinA := bitAt v 26, twinB := bitAt v 25,
    encA := if fld v 29 28 = 3 then p.encA else BitVec.ofNat 2 (fld v 29 28),
    encB := if fld v 23 22 = 3 then p.encB else BitVec.ofNat 2 (fld v 23 22),
    txpre := BitVec.ofNat 4 (fld v 3 0) }

/-- EN takes a value: TRAINING, or DISABLED with cause 1 (R307). -/
def portEnable (p : Nat) (en : Bool) (s : State) : State :=
  let was := (getPort s p).en
  let s := updPort p (fun x => { x with en := en }) s
  if en = was then s
  else [2 * p, 2 * p + 1].foldl (fun s k =>
    if linkUsed s k then
      (if en then updLink k (fun x => linkCleared x .training x.cause) s else linkLeave k .disabled 1 s)
    else s) s

/-- A write of FAB_PCFG: while EN is 1 all but EN is ignored and CFG_ERR is set (R320). -/
def pcfgWrite (p : Nat) (v : W32) (s : State) : State :=
  let s := if (getPort s p).en then fabStat p 5 s else updPort p (pcfgFields v) s
  portEnable p (bitAt v 31) s

/-- FAB_PCFG_WRITE (R307, R320). -/
def execFabPcfgWrite (p : PortI) (v : W32) (s : State) : Host.Outcome State Fault Refusal := .next (pcfgWrite p.val v s)

/-- The banks change places (R329); newly loaded tables restore routes through a changed peer (R317), and held messages
look again. -/
def fabBankFlip (s : State) : State :=
  let s := { s with fab := { s.fab with bank := !s.fab.bank } }
  retryHeld ((List.range 32).foldl (fun s k => updLink k (fun x => { x with routesOff := false }) s) s)

/-- FAB_RTCTL_FLIP (R329). -/
def execFabRtctlFlip (v : W32) (s : State) : Host.Outcome State Fault Refusal :=
  .next (if bitAt v 31 then fabBankFlip s else s)

/-! ### Bring-up -/

/-- LINK_TRAINING_DONE (R307): every lane of the link locked and the order known: ALIGN. -/
def doTrainingDone (k : Nat) (lanesOk : Bool) (rev polinv : Byte) (s : State) : State :=
  if (getLink s k).st = .training ∧ lanesOk then
    let lanes := linkLanes s k
    let s := updPort (k / 2) (fun p =>
      { p with lock := p.lock ||| lanes, polinv := (p.polinv &&& ~~~ lanes) ||| (polinv &&& lanes) }) s
    updLink k (fun x => { x with st := .align, rev := decide (rev &&& lanes ≠ 0) }) s
  else s

/-- LINK_TRAINING_DONE (R307). -/
def execLinkTrainingDone (k : LinkI) (lanesOk : Bool) (rev polinv : Byte) (s : State) : Host.Outcome State Fault Refusal :=
  .next (doTrainingDone k.val lanesOk rev polinv s)

/-- LINK_ALIGN_DONE (R307). -/
def execLinkAlignDone (k : LinkI) (s : State) : Host.Outcome State Fault Refusal :=
  .next (if (getLink s k.val).st = .align then updLink k.val (fun x => { x with st := .linit, linitSent := 0, peerLinit := none }) s else s)

/-- Why a peer's LINIT takes the link down (R308): modes or versions, then policies, then reach. -/
def linitFault (s : State) (k : Nat) (m : Linit) : Option (BitVec 4) :=
  let mine := linkPolicy s k
  if m.version ≠ 1 ∨ m.split ≠ (getPort s (k / 2)).split then some 7
  else if (mine = 2 ∧ m.policy = 0) ∨ (mine = 0 ∧ m.policy = 2) then some 8
  else if m.echoes ∧ 3500 < m.rtt then some 9
  else none

/-- LINIT_RECEIVE (R308). -/
def doLinitReceive (k : Nat) (m : Linit) (s : State) : State :=
  if (getLink s k).st = .linit then
    match linitFault s k m with
    | some c => linkDown k c s
    | none =>
      let rtt := if m.echoes then satOf 16 m.rtt else (getLink s k).rtt
      let keep := match (getLink s k).peerLinit with | some o => o.echoes | none => false
      updLink k (fun x => { x with rtt := rtt, peerLinit := some (if keep then { m with echoes := true } else m) }) s
  else s

/-- LINIT_RECEIVE (R308). -/
def execLinitReceive (k : LinkI) (m : Linit) (s : State) : Host.Outcome State Fault Refusal :=
  .next (doLinitReceive k.val m s)

/-- This side's HELLO (R310). -/
def helloOf (s : State) (k : Nat) (nonce : BitVec 256) : LinkMsg :=
  let p := getPort s (k / 2)
  let pol := linkPolicy s k
  let twin := if k % 2 = 0 then p.twinA else p.twinB
  let caps := (if p.split then 1 else 0) + (if pol ≠ 0 then 2 else 0) + (if pol = 2 then 4 else 0) +
    (if twin then 8 else 0) + (if s.snuf.wheld then 16 else 0)
  .hello s.sec.iddigest (if s.fab.myidV then s.fab.myid else 0) s.fab.myidV (Fin.ofNat 32 k) (BitVec.ofNat 8 caps) nonce

/-- A discovery attempt begins: a fresh nonce goes out in a HELLO (R310). -/
def startAttempt (k : Nat) (nonce : BitVec 256) (s : State) : State :=
  linkPut k 4 (.lnk (helloOf s k nonce)) (updLink k (fun x =>
    { x with st := .discover, nonce := nonce, hello := none, attested := false, myVerdict := none, peerVerdict := none,
             keyxSent := false, keyDone := false }) s)

/-- LINIT is over: SEQ and flit counters at 0, credits from the peer, then DISCOVER; a withheld package goes to WITHHELD
instead (R308, R320). -/
def enterDiscover (k : Nat) (m : Linit) (s : State) : State :=
  let mine := linkPolicy s k
  let enc := mine ≠ 0 ∧ m.policy ≠ 0 ∧ (mine = 2 ∨ m.policy = 2)
  let cr := (withPos 0 m.credits).foldl (fun t p => Tab.set 0 t p.1 p.2.toNat) ([] : Tab Nat)
  let s := updLink k (fun x =>
    { linkCleared x .discover x.cause with credits := cr, encrypted := decide enc, peerLinit := some m }) s
  if s.snuf.wheld then
    updLink k (fun x => { x with st := .withheld }) (linkPut k 4 (.lnk (.linkState true)) s)
  else
    let n := drawNonce s
    nbrChange k (fun e => { e with nst := 1 }) (startAttempt k n.1 n.2)

/-- LINK_STATE_LIMIT_EXPIRY (R307): TRAINING, ALIGN or LINIT ran out of time. -/
def execLinkStateLimitExpiry (k : LinkI) (s : State) : Host.Outcome State Fault Refusal :=
  let st := (getLink s k.val).st
  .next (if st = .training ∨ st = .align ∨ st = .linit then linkDown k.val 6 s else s)

/-- LINK_DOWN_RETRAIN (R307). -/
def execLinkDownRetrain (k : LinkI) (s : State) : Host.Outcome State Fault Refusal :=
  .next (if (getLink s k.val).st = .down then updLink k.val (fun x => { x with st := .training }) s else s)

/-- A link with locked lanes. -/
def linkLocked (st : LinkSt) : Bool := st == .align || st == .linit || linkLive st

/-- LINK_SIGNAL_LOSS (R306). -/
def execLinkSignalLoss (k : LinkI) (s : State) : Host.Outcome State Fault Refusal :=
  .next (if linkLocked (getLink s k.val).st then linkDown k.val 2 s else s)

/-- LINK_NO_FLIT_TIMEOUT (R306). -/
def execLinkNoFlitTimeout (k : LinkI) (s : State) : Host.Outcome State Fault Refusal :=
  .next (if linkLive (getLink s k.val).st then linkDown k.val 5 s else s)

/-- LINK_REFERENCE_LOSS (R295, R320): every link on that reference goes DOWN with cause 0xD. -/
def execLinkReferenceLoss (east : Bool) (s : State) : Host.Outcome State Fault Refusal :=
  .next ((List.range 16).foldl (fun s i => linkDown ((if east then 16 else 0) + i) 0xD s) s)

/-! ### Sending flits -/

/-- Bytes of an item. A HELLO has 92; the manual gives the other link messages no length: each takes one payload
(log 22). -/
def itemLen (i : Item) : Nat :=
  match i with
  | .msg m => bodyLen m.body
  | .lnk (.hello ..) => 92
  | .lnk _ => 600

/-- Fill a payload of `cap` bytes from a lane whose head has `off` bytes sent: the items whose last byte goes, the rest of
the lane, and the bytes of its head now sent (R302). -/
def packFlit : Nat → Nat → List Item → List Item × List Item × Nat
  | _, off, [] => ([], [], off)
  | cap, off, i :: t =>
    let r := itemLen i - off
    if r ≤ cap then
      let x := packFlit (cap - r) 0 t
      (i :: x.1, x.2.1, x.2.2)
    else ([], i :: t, off + cap)

/-- A lane has a message and a credit (R304). -/
def sendable (x : Link) (vl : Nat) : Bool :=
  decide (x.unacked.length < 256) && decide (0 < Tab.get 0 x.credits vl) && !(Tab.get [] x.queues vl).isEmpty

/-- Send a DATA flit of a lane (R302, R305). -/
def sendData (k vl : Nat) (s : State) : State :=
  updLink k (fun x =>
    let r := packFlit (if x.encrypted ∧ x.keyDone then 600 else 616) (Tab.get 0 x.sentB vl) (Tab.get [] x.queues vl)
    let f : TxFlit := { num := x.txSeq, vl := BitVec.ofNat 3 vl, keyph := x.keyphTx, ctr := x.txCtr, items := r.1 }
    { x with queues := Tab.set [] x.queues vl r.2.1, sentB := Tab.set 0 x.sentB vl r.2.2, unacked := x.unacked ++ [f],
             txSeq := x.txSeq + 1, txCtr := x.txCtr + 1, credits := Tab.upd 0 x.credits vl (fun c => c - 1),
             keyCount := x.keyCount + 1 }) s

/-- The header of a fresh flit: it acknowledges, returns up to two lanes' credits, and carries a NAK that is owed, at most
once in 1 µs, 2,700 ACLK cycles (R301, R304, R305). -/
def sendHeader (k : Nat) (s : State) : State :=
  let x := getLink s k
  let nak := x.nakOwed && (match x.lastNak with | none => true | some t => decide (t + 2700 ≤ s.clk.aclk))
  let back := (x.owed.map (fun e => e.1)).take 2
  let s := updLink k (fun x =>
    { x with ackOwed := 0, owed := Tab.drop (fun v => back.contains v) x.owed,
             nakOwed := if nak then false else x.nakOwed, lastNak := if nak then some s.clk.aclk else x.lastNak }) s
  if nak then updPort (k / 2) (fun p => { p with naks := satInc p.naks }) s else s

/-- The lanes of the round robin in pass order (R330). -/
def wrrLanes : List Nat := [1, 2, 0, 5]

/-- Weights in pass order. -/
def wrrWeights (s : State) : List Nat := [s.fab.w1.toNat, s.fab.w2.toNat, s.fab.w0.toNat, s.fab.w5.toNat]

/-- The next lane of a pass: from `wrrNext` on, the first that is sendable and below its weight. -/
def wrrPick (s : State) (x : Link) (from_ : Nat) (counts : List Nat) : Option Nat :=
  ((List.range 4).map (fun i => (from_ + i) % 4)).find? (fun i =>
    sendable x (wrrLanes.getD i 0) && decide (counts.getD i 0 < (wrrWeights s).getD i 0))

/-- One turn of the round robin (R330): within the round, or the first of a new one. -/
def wrrTurn (s : State) (k : Nat) : Option (Nat × State) :=
  let x := getLink s k
  match wrrPick s x x.wrrNext x.wrr with
  | some i => some (wrrLanes.getD i 0,
      updLink k (fun x => { x with wrr := x.wrr.set i (x.wrr.getD i 0 + 1), wrrNext := (i + 1) % 4 }) s)
  | none =>
    let zero := [0, 0, 0, 0]
    match wrrPick s x 0 zero with
    | some i => some (wrrLanes.getD i 0, updLink k (fun x => { x with wrr := zero.set i 1, wrrNext := (i + 1) % 4 }) s)
    | none => none

/-- The sender's choice at a flit codeword (R304): replay, VL7, VL4, VL3, the round robin, IDLE. -/
def chooseFlit (k : Nat) (s : State) : State :=
  let x := getLink s k
  match x.replay with
  | _ :: t => updLink k (fun x => { x with replay := t }) s
  | [] =>
    let lanes := if x.st = .up then [7, 4, 3] else if x.st = .withheld then [3, 4] else [4]
    match lanes.find? (sendable x) with
    | some vl => sendHeader k (sendData k vl s)
    | none =>
      if x.st = .up then
        match wrrTurn s k with
        | some (vl, s') => sendHeader k (sendData k vl s')
        | none => updLink k (fun x => { x with wrr := [0, 0, 0, 0], wrrNext := 0 }) (sendHeader k s)
      else sendHeader k s

/-- A codeword boundary: every 16,384th codeword is for alignment (R298); LINIT flits follow R308. -/
def doFlitSend (k : Nat) (s : State) : State :=
  let x := getLink s k
  if x.st = .linit then
    match x.peerLinit with
    | some m =>
      if m.echoes then
        if 16 ≤ x.linitSent + 1 then enterDiscover k m s
        else updLink k (fun x => { x with linitSent := x.linitSent + 1 }) s
      else s
    | none => s
  else if linkLive x.st then
    let s := updLink k (fun x => { x with codewords := x.codewords + 1 }) s
    if (x.codewords + 1) % 16384 = 0 then s else chooseFlit k s
  else s

/-- Every outstanding flit is sent again from the oldest; the eighth time without an advance takes the link down
(R305, R306). -/
def startReplay (k : Nat) (s : State) : State :=
  let x := getLink s k
  if x.unacked = [] then s
  else
    let s := updPort (k / 2) (fun p => { p with replays := satInc p.replays }) s
    if 8 ≤ x.replaysSame + 1 then linkDown k 4 s
    else updLink k (fun x => { x with replay := x.unacked, replaysSame := x.replaysSame + 1 }) s

/-- REPLAY_TIMEOUT (R305). -/
def execReplayTimeout (k : LinkI) (s : State) : Host.Outcome State Fault Refusal :=
  .next (if linkLive (getLink s k.val).st then startReplay k.val s else s)

/-! ### Receiving flits -/

/-- The flits left when everything up to `a` is acknowledged. -/
def ackPop (a : BitVec 12) (l : List TxFlit) : List TxFlit :=
  if l.any (fun f => f.num == a) then (l.dropWhile (fun f => f.num != a)).drop 1 else l

/-- Acknowledgement and credits of a received header (R301, R305). -/
def takeHeader (k : Nat) (f : Flit) (s : State) : State :=
  updLink k (fun x =>
    let cr := if f.cv0 then Tab.upd 0 x.credits f.cvl0.toNat (fun c => c + f.cred0.toNat) else x.credits
    let cr := if f.cv1 then Tab.upd 0 cr f.cvl1.toNat (fun c => c + f.cred1.toNat) else cr
    if f.ackv ∧ x.unacked.any (fun t => t.num == f.ack) then
      { x with credits := cr, unacked := ackPop f.ack x.unacked, replay := ackPop f.ack x.replay, replaysSame := 0,
               oldKey := x.oldKey && (ackPop f.ack x.unacked).any (fun t => t.keyph != x.keyphTx) }
    else { x with credits := cr }) s

/-- Deliver one received item: a message of an unknown kind or on another lane is dropped and counted, at its destination a twin
message of no known kind too (R323, R494); before an ID
is set every message is discarded (R327); a strange item on VL4 counts as CFG_ERR (R309). -/
def deliverItem (k : Nat) (vl : BitVec 3) (s : State) (i : Item) : State :=
  let put (s : State) : State := { s with fab := { s.fab with inbox := s.fab.inbox ++ [(Fin.ofNat 32 k, i)] } }
  match i with
  | .lnk _ => if vl = 4 then put s else countDrop s
  | .msg m =>
    if vl = 4 then fabStat (k / 2) 5 s
    else if kindVl m.hdr.kind.toNat ≠ some vl.toNat then countDrop s
    else if !s.fab.myidV then s
    else if 0x34 < m.hdr.kind.toNat ∧ m.hdr.dst = s.fab.myid then countDrop s
    else put s

/-- Messages for the die wait at the ports of a half whose NCLK is gated, which go on relaying (R320). Link messages are
the port's own and do not wait (DESIGN CHOICE, log 145). -/
def dieWaits (s : State) (k : Nat) : Bool := decide (16 ≤ k) && s.clk.ncE == 3

/-- An item is a message for this package. -/
def forDie (s : State) (i : Item) : Bool :=
  match i with
  | .msg m => m.hdr.dst == s.fab.myid
  | .lnk _ => false

/-- A DATA flit whose codeword is good (R305, R306); its credit is owed at once, or once a message for the die may leave its
buffer (R304, R320). -/
def takeData (k : Nat) (f : Flit) (s : State) : State :=
  let x := getLink s k
  if (x.st = .discover ∨ x.st = .quarantine) ∧ f.vl ≠ 4 then s
  else if f.seq = x.rxSeq then
    let hold := dieWaits s k && f.items.any (forDie s)
    let up (t : Tab Nat) : Tab Nat := Tab.upd 0 t f.vl.toNat (fun n => n + 1)
    let s := updLink k (fun x => { x with rxSeq := x.rxSeq + 1, rxCtr := x.rxCtr + 1, ackOwed := x.ackOwed + 1, nakOwed := false,
                                          owed := if hold then x.owed else up x.owed,
                                          heldCr := if hold then up x.heldCr else x.heldCr }) s
    if x.st = .withheld then s else f.items.foldl (deliverItem k f.vl) s
  else updLink k (fun x => { x with nakOwed := true }) s

/-- A flit that is dropped is answered by a NAK (R300, R305). -/
def dropFlit (k : Nat) (s : State) : State := updLink k (fun x => { x with nakOwed := true }) s

/-- FLIT_RECEIVE (R300, R305, R306). -/
def doFlitReceive (k : Nat) (f : Flit) (c : FlitCheck) (s : State) : State :=
  if linkLive (getLink s k).st then
    let run := (getLink s k).uncorrRun
    let s := updLink k (fun x => { x with uncorrRun := if c = .uncorrectable then run + 1 else 0 }) s
    match c with
    | .uncorrectable =>
      let s := updPort (k / 2) (fun p => { p with uncorr := satInc p.uncorr }) s
      if 16 ≤ run + 1 then linkDown k 3 s else dropFlit k s
    | .crcFail => dropFlit k s
    | .tagFail => dropFlit k s
    | _ =>
      let s := if c = .corrected then updPort (k / 2) (fun p => { p with corr := satInc p.corr }) s else s
      if 2 < f.type.toNat then dropFlit k s
      else if f.type = 2 then s
      else
        let s := takeHeader k f s
        let s := if f.nak then startReplay k s else s
        if f.type = 1 ∧ linkLive (getLink s k).st then takeData k f s else s
  else s

/-- FLIT_RECEIVE (R305). -/
def execFlitReceive (k : LinkI) (f : Flit) (c : FlitCheck) (s : State) : Host.Outcome State Fault Refusal :=
  .next (doFlitReceive k.val f c s)

/-! ### Discovery and keys -/

/-- Take a delivered item out of the links' hand-over list. -/
def takeItem (k : Nat) (i : Item) (s : State) : State :=
  { s with fab := { s.fab with inbox := s.fab.inbox.erase (Fin.ofNat 32 k, i) } }

/-- A link enters UP (R311, R317): held messages look again. -/
def enterUp (k : Nat) (s : State) : State :=
  let x := getLink s k
  let id : Option Digest := match x.hello with | some (.hello d ..) => some d | _ => none
  let changed := x.upId.isSome && x.upId != id
  let s := updLink k (fun x => { x with st := .up, attempts := 0, keyDone := true, keyxSent := false, upId := id,
                                        routesOff := x.routesOff || changed }) s
  let s := nbrChange k (fun n => { n with nst := 2 }) (fabStat (k / 2) 1 s)
  retryHeld s

/-- A discovery attempt fails: the next at once, or QUARANTINE after the third (R311). -/
def attemptFail (k : Nat) (nonce : BitVec 256) (s : State) : State :=
  let n := (getLink s k).attempts + 1
  if 3 ≤ n then
    let s := updLink k (fun x => { x with st := .quarantine, cause := 0xA, attempts := 0, hello := none, myVerdict := none,
                                          peerVerdict := none, keyxSent := false }) s
    let s := fabStat (k / 2) 2 s
    ember 2 0x0902 k none 0xA (nbrChange k (fun e => { e with nst := 3 }) s)
  else startAttempt k nonce (updLink k (fun x => { x with attempts := n }) s)

/-- Both verdicts accept: the lower IDDIGEST starts the key exchange of an encrypted link; a plain link is UP (R311,
R314). -/
def verdictsMet (k : Nat) (s : State) : State :=
  let x := getLink s k
  if x.myVerdict = some true ∧ x.peerVerdict = some true then
    if x.encrypted then
      match x.hello with
      | some (.hello d ..) =>
        if s.sec.iddigest.toNat < d.toNat then
          updLink k (fun x => { x with keyxSent := true }) (linkPut k 4 (.lnk (.keyx false)) s)
        else s
      | _ => s
    else enterUp k s
  else s

/-- The report a package gives a peer for its nonce (R311, R462). -/
def linkReport (nonce : BitVec 256) (s : State) : Report :=
  let im : Digest × W32 := match s.sec.image with | some i => (i.meas, i.svn) | none => (0, 0)
  let cf : W32 × Digest := match s.sec.cfg with | some g => (g.cfgseq, g.cfgdig) | none => (0, 0)
  { kind := 1, iddigest := s.sec.iddigest, fwmeas := im.1, svn := im.2, cfgseq := cf.1, cfgdig := cf.2, nonce := nonce,
    chain := s.sec.chain, rsa := true, slh := true }

/-- The alias certificate binds the report's firmware, the device certificate its identity (R311, R463). -/
def reportBound (r : Report) (hello : Digest) : Bool :=
  chainValid [1, 2, 3] r.chain &&
    match r.chain with
    | [_, d, a] => subject d == r.iddigest && r.iddigest == hello && a.meas == r.fwmeas && a.svn == r.svn
    | _ => false

/-- The policy of the configuration block (R460, R463). -/
def policyOk (c : ConfigBlock) (r : Report) : Bool :=
  decide (c.peerMin ≤ r.svn) && (c.allow.isEmpty || c.allow.contains r.fwmeas) && (!c.sameCfg || r.cfgdig == c.cfgdig)

/-- A fabric peer's report is accepted for this side's nonce and its HELLO (R463). -/
def reportOk (s : State) (nonce : BitVec 256) (hello : Digest) (r : Report) : Bool :=
  r.kind == 1 && r.nonce == nonce && r.rsa && r.slh && reportBound r hello &&
    match s.sec.cfg with | none => false | some c => policyOk c r

/-- HELLO_RECEIVE (R311): the neighbour entry is filled and an ATTEST answers; a quarantined link returns to DISCOVER. -/
def doHello (k : Nat) (m : LinkMsg) (s : State) : State :=
  let s := takeItem k (.lnk m) s
  let st := (getLink s k).st
  match m with
  | .hello d pkg asg link caps nonce =>
    if st = .discover ∨ st = .quarantine then
      let s := if st = .quarantine then
          let n := drawNonce s
          startAttempt k n.1 n.2
        else s
      let s := nbrChange k (fun n => { n with iddigest := d, pkg := if asg then some pkg else none, plink := link,
                                              caps := caps, nst := 1 }) s
      linkPut k 4 (.lnk (.attest (linkReport nonce s))) (updLink k (fun x => { x with hello := some m, myVerdict := none }) s)
    else s
  | _ => s

/-- HELLO_RECEIVE (R311). -/
def execHelloReceive (k : LinkI) (m : LinkMsg) (s : State) : Host.Outcome State Fault Refusal := .next (doHello k.val m s)

/-- ATTEST_RECEIVE (R311, R463): the keeper's checks give the VERDICT. -/
def doAttest (k : Nat) (r : Report) (s : State) : State :=
  let s := takeItem k (.lnk (.attest r)) s
  let x := getLink s k
  if x.st = .discover then
    let v := match x.hello with | some (.hello d ..) => reportOk s x.nonce d r | _ => false
    let s := linkPut k 4 (.lnk (.verdict v)) (updLink k (fun x => { x with attested := v, myVerdict := some v }) s)
    if v then verdictsMet k s
    else
      let n := drawNonce s
      attemptFail k n.1 n.2
  else s

/-- ATTEST_RECEIVE (R463). -/
def execAttestReceive (k : LinkI) (r : Report) (s : State) : Host.Outcome State Fault Refusal := .next (doAttest k.val r s)

/-- VERDICT_RECEIVE (R311). -/
def doVerdict (k : Nat) (accept : Bool) (s : State) : State :=
  let s := takeItem k (.lnk (.verdict accept)) s
  if (getLink s k).st = .discover then
    let s := updLink k (fun x => { x with peerVerdict := some accept }) s
    if accept then verdictsMet k s
    else
      let n := drawNonce s
      attemptFail k n.1 n.2
  else s

/-- VERDICT_RECEIVE (R311). -/
def execVerdictReceive (k : LinkI) (accept : Bool) (s : State) : Host.Outcome State Fault Refusal :=
  .next (doVerdict k.val accept s)

/-- LINK_STATE_RECEIVE (R306, R319): a withheld peer's link is kept trained in WITHHELD and its routes fail over; a peer
that goes down takes the link down. -/
def doLinkState (k : Nat) (wh : Bool) (s : State) : State :=
  let s := takeItem k (.lnk (.linkState wh)) s
  let x := getLink s k
  if linkLive x.st then
    if wh then
      let s := updLink k (fun x => { x with st := .withheld, cause := 0xC, queues := [], sentB := [] }) s
      let s := if x.st = .up then failover k x.unacked x.queues s else s
      nbrChange k (fun n => { n with nst := 4 }) s
    else linkDown k 0xB s
  else s

/-- LINK_STATE_RECEIVE (R319). -/
def execLinkStateReceive (k : LinkI) (withheld : Bool) (s : State) : Host.Outcome State Fault Refusal :=
  .next (doLinkState k.val withheld s)

/-- KEYX_RECEIVE (R314): the encapsulation key is answered with the ciphertext; either way the keys are then in place. -/
def doKeyx (k : Nat) (cipher ok : Bool) (s : State) : State :=
  let s := takeItem k (.lnk (.keyx cipher)) s
  let x := getLink s k
  let met := x.myVerdict = some true ∧ x.peerVerdict = some true ∧ x.encrypted = true
  if x.st = .discover ∧ met ∧ cipher = x.keyxSent then
    if ok then enterUp k (if cipher then s else linkPut k 4 (.lnk (.keyx true)) s)
    else
      let n := drawNonce s
      attemptFail k n.1 n.2
  else if x.st = .up ∧ x.encrypted = true ∧ cipher = x.keyxSent ∧ ok = true then
    updLink k (fun x => { x with keyxSent := false, keyCount := 0 }) (if cipher then s else linkPut k 4 (.lnk (.keyx true)) s)
  else s

/-- KEYX_RECEIVE (R314). -/
def execKeyxReceive (k : LinkI) (cipher : Bool) (ok : Bool) (s : State) : Host.Outcome State Fault Refusal :=
  .next (doKeyx k.val cipher ok s)

/-- DISCOVER_ATTEMPT_TIMEOUT (R311). -/
def execDiscoverAttemptTimeout (k : LinkI) (nonce : BitVec 256) (s : State) : Host.Outcome State Fault Refusal :=
  .next (if (getLink s k.val).st = .discover then attemptFail k.val nonce s else s)

/-- QUARANTINE_HELLO_REPEAT (R307). -/
def execQuarantineHelloRepeat (k : LinkI) (nonce : BitVec 256) (s : State) : Host.Outcome State Fault Refusal :=
  .next (if (getLink s k.val).st = .quarantine then
      linkPut k.val 4 (.lnk (helloOf s k.val nonce)) (updLink k.val (fun x => { x with nonce := nonce }) s)
    else s)

/-- KEY_PHASE_ADVANCE (R314): after 2³¹ flits the keys ratchet and KEYPH toggles; the last key stays until every flit under it is
acknowledged. -/
def execKeyPhaseAdvance (k : LinkI) (s : State) : Host.Outcome State Fault Refusal :=
  let x := getLink s k.val
  .next (if x.st = .up ∧ x.encrypted = true ∧ 2 ^ 31 ≤ x.keyCount then
      fabStat (k.val / 2) 4 (updLink k.val (fun x => { x with keyphTx := !x.keyphTx, oldKey := !x.unacked.isEmpty, keyCount := x.keyCount - 2 ^ 31 }) s)
    else s)

/-- KEY_REEXCHANGE (R314): the side with the lower IDDIGEST sends its KEYX. -/
def execKeyReexchange (k : LinkI) (s : State) : Host.Outcome State Fault Refusal :=
  let x := getLink s k.val
  let lower := match x.hello with | some (.hello d ..) => decide (s.sec.iddigest.toNat < d.toNat) | _ => false
  .next (if x.st = .up ∧ x.encrypted = true ∧ lower = true then
      linkPut k.val 4 (.lnk (.keyx false)) (updLink k.val (fun x => { x with keyxSent := true }) s)
    else s)

/-! ### Relay -/

/-- A message for another package: kind and lane, the hop limit, then its next hop (R323, R325, R328). -/
def doRelay (k : Nat) (m : Msg) (s : State) : State :=
  let s := takeItem k (.msg m) s
  if kindVl m.hdr.kind.toNat ≠ some m.vl.toNat then countDrop s
  else if !s.fab.myidV ∨ s.snuf.wheld ∨ m.hdr.dst = s.fab.myid ∨ m.hdr.kind = 0x13 then s
  else if m.hdr.hops = 0 then
    let s := countDrop (tstatSet 1 s)
    reportLoss m 2 (ember 2 0x0A01 m.hdr.src.toNat none m.hdr.dst.toNat s)
  else egress { m with hdr := { m.hdr with hops := m.hdr.hops - 1 } } s

/-- MESSAGE_RELAY (R328). -/
def execMessageRelay (k : LinkI) (m : Msg) (s : State) : Host.Outcome State Fault Refusal := .next (doRelay k.val m s)

/-- EGRESS_NO_ROUTE_TIMEOUT (R316, R338): the destination's held messages are discarded, named in an ember and reported. -/
def doNoRoute (dst : Pkg) (s : State) : State :=
  let gone := s.fab.noRoute.filter (fun m => m.hdr.dst == dst)
  match gone with
  | [] => s
  | m :: _ =>
    let s := { s with fab := { s.fab with noRoute := s.fab.noRoute.filter (fun m => m.hdr.dst != dst) } }
    let s := raiseEmber { emb 2 0x0903 dst.toNat none gone.length with reqtag := m.hdr.reqtag } s
    gone.foldl (fun s m => reportLoss m 2 s) s

/-- EGRESS_NO_ROUTE_TIMEOUT (R316). -/
def execEgressNoRouteTimeout (dst : Pkg) (s : State) : Host.Outcome State Fault Refusal := .next (doNoRoute dst s)

end Sys2Proof.Machine
end

