-- ==== Sys2Proof/Machine/StartUp.lean ====
section
/-! DEFINITION. Step 6 of start-up: trim stores and the diode table from the device record, and the platform section of the
configuration block (R200, R207, R292, R313, R482, R530). -/

namespace Sys2Proof.Machine

/-- A wick with its part of the device record; one recorded as retired is FAILED (R39, R200, R482, R528). -/
def recordedWick (r : RecWick) (w : Wick) : Wick :=
  { w with st := if r.retired then .failed else w.st, trim := r.trim, full := r.trim, strike := r.strike,
           cm0 := r.colmap.getD 0 0, cm1 := r.colmap.getD 1 0, cm2 := r.colmap.getD 2 0, cm3 := r.colmap.getD 3 0 }

/-- A lantern with its part of the device record; one recorded as retired is RETIRED (R117, R482). -/
def recordedLan (r : RecLan) (v : Lantern) : Lantern :=
  { v with taps := r.taps, strike := r.strike, retired := v.retired || r.retired, st := if r.retired then .retired else v.st }

/-- A wick takes its part of the device record. -/
def loadWick (s : State) (k : Nat) : State :=
  updWick (k / 17) (k % 17) (recordedWick (recWick s (k / 17) (k % 17))) s

/-- A lantern takes its part of the device record. -/
def loadLan (s : State) (l : Nat) : State := updLan l (recordedLan (recLan s l)) s

/-- A sconce recorded as retired cannot be owned (R253, R482). -/
def loadScn (s : State) (n : Nat) : State := updScn n (fun x => { x with retired := true }) s

/-- Trim stores, retirements and MON_DTABd from the device record; a section whose tag fails is absent (R200, R207, R452,
R482). -/
def loadRecord (s : State) : State :=
  let s := (keysOf s.flash.wicks).foldl loadWick s
  let s := (keysOf s.flash.lans).foldl loadLan s
  let s := (recSconces s).foldl loadScn s
  if recDiodes s = [] then s else { s with mon := { s.mon with dtab := recDiodes s } }

/-- The governor, the clocks, the stacks and the Garvy Link take their platform values (R530). -/
def applyPlatform (p : Platform) (s : State) : State :=
  let w (x : W16) : BitVec 10 := BitVec.ofNat 10 x.toNat
  let s := { s with
    pwr := takeShares { s.pwr with limit := w p.plimit, arr := w p.sArr, vec := w p.sVec, xbr := w p.sXbr,
                                   stk := w p.sStk, ser := w p.sSer, ctl := w p.sCtl, set := p.thset },
    clk := { s.clk with warn := BitVec.ofNat 4 p.warn.toNat, aW := p.adivW, nW := p.ndivW, aE := p.adivE,
                        nE := p.ndivE },
    gvl := { s.gvl with wmax := decide (p.gvlW ≠ 0) } }
  (List.range 16).foldl (fun s n => updStk n (fun k => { k with period := p.patrol }) s) s

/-- A port takes its platform fields and link policies, then its enable (R313, R530). -/
def applyPort (c : ConfigBlock) (s : State) (p : Nat) : State :=
  let b (x : W16) : Bool := decide (x.toNat / 2 ^ p % 2 = 1)
  let s := updPort p (fun x =>
    { x with split := b c.plat.portSplit, ch := b c.plat.portCh, txpre := BitVec.ofNat 4 (c.plat.txpre.toNat / 2 ^ (4 * p)),
             encA := c.enc.getD (2 * p) 0, encB := c.enc.getD (2 * p + 1) 0 }) s
  portEnable p (b c.plat.portEn) s

/-- START_UP_CONFIGURE: in step 6, while EN is 0. -/
def startUpConfigure (s : State) : State :=
  if 6 ≤ s.clk.step ∧ s.lmp.en = false then
    let s := loadRecord s
    match s.sec.cfg with
    | none => s
    | some c => (List.range 16).foldl (applyPort c) (applyPlatform c.plat s)
  else s

/-- START_UP_CONFIGURE (R292). -/
def execStartUpConfigure (s : State) : Host.Outcome State Fault Refusal := .next (startUpConfigure s)

end Sys2Proof.Machine
end

