-- ==== Sys2Proof/Machine/Mailbox.lean ====
section
/-! DEFINITION. The mailbox rings (R379 to R397): doorbells, attach and re-attach, descriptor fetch, notifications, limits, the
checks every command passes, the SYS. commands, and the control processor's faults (R378). -/

namespace Sys2Proof.Machine

/-! ### Output (R387) -/

/-- Write whole lines at a companion address; the last line is filled with zeros. -/
def outLines (a : W64) (bs : List Byte) (s : State) : State :=
  (List.range ((bs.length + 63) / 64)).foldl (fun s i =>
    let l := (bs.drop (64 * i)).take 64
    gvlWriteLine (a + BitVec.ofNat 64 (64 * i)) (l ++ List.replicate (64 - l.length) 0) s) s

/-- Whole records of `rec` bytes that fit into OUTLEN. -/
def outFit (d : Desc) (rec_ : Nat) (bs : List Byte) : List Byte := bs.take (min bs.length d.outlen.toNat / rec_ * rec_)

/-- Complete a command whose output is a list of records. -/
def finishOut (d : Desc) (rec_ : Nat) (bs : List Byte) (s : State) : State :=
  if d.outlen = 0 then finish d 1 s
  else
    let out := outFit d rec_ bs
    complete d 0 out.length [] (outLines d.outaddr out s)

/-- Complete a command whose output the manual names without a layout: its length and its bytes are free values (log 9). -/
def finishFree (d : Desc) (s : State) : State :=
  if d.outlen = 0 then finish d 1 s
  else
    let w := freeWords d.opcode.toNat 1 s
    let used := min d.outlen.toNat (w.1.getD 0 0).toNat
    let b := freeWords d.opcode.toNat ((used + 3) / 4) w.2
    complete d 0 used [] (outLines d.outaddr ((b.1.flatMap (fun x => leBytes 4 x.toNat)).take used) b.2)

/-! ### What every command passes -/

/-- The rings a family accepts (R393). -/
inductive Rings where
  | sys | twin | diag | ctx | any | sysDiag | ctxSysDiag
deriving DecidableEq, Repr

/-- A ring is one of the accepted (R379, R393). -/
def Rings.ok (k : Rings) (r : Nat) : Bool :=
  match k with
  | .sys => r == 0
  | .twin => r == 1
  | .diag => r == 2 || r == 3
  | .ctx => decide (4 ≤ r)
  | .any => true
  | .sysDiag => r == 0 || r == 2 || r == 3
  | .ctxSysDiag => r != 1

/-- A command may not start yet: it is in progress already, an earlier one of its ring has not started, or its FENCE waits
for an earlier one to complete (R392). -/
def cmdWaits (s : State) (d : Desc) : Bool :=
  let g := getRing s d.ring.val
  (g.prog.contains d && !g.queued.contains d) || (g.queued.contains d && g.queued.head? != some d) ||
    (d.fence && !g.prog.isEmpty)

/-- A command starts: it leaves the fetched ones. -/
def dequeue (d : Desc) (s : State) : State := updRing d.ring.val (fun g => { g with queued := g.queued.erase d }) s

/-- The checks of the mailbox layer in their order (R379, R387, R391, R395): `early` commands need no version, `open_`
ones no LMP_CFG.EN; `input` names those that read IN. -/
def runCmd (d : Desc) (k : Rings) (early open_ input : Bool) (body : State → State) (s : State) : State :=
  if s.snuf.wheld || cmdWaits s d then s
  else
    let s := dequeue d s
    if !k.ok d.ring.val then finish d 0x06 s
    else if !early && s.mbx.curver == 0 then finish d 0x11 s
    else if !open_ && !ready s then finish d 0x12 s
    else if d.malformed || (d.tmo && (d.timeout == 0 || decide (600000 < d.timeout.toNat))) then finish d 0x07 s
    else if input && d.inlen != 0 && !d.inOk then finish d 0x14 s
    else body s

/-- A context-ring command: it acts on the context its ring is bound to, or finds it gone (R392, R395). -/
def runCtx (d : Desc) (input : Bool) (body : Nat → Ctx → State → State) (s : State) : State :=
  runCmd d .ctx false false input (fun s =>
    match (getRing s d.ring.val).ctx with
    | none => finish d 0x15 s
    | some c => match getCtx s c.val with
      | none => finish d 0x15 s
      | some x => body c.val x s) s

/-! ### Ring entries -/

/-- A ring table entry in range (R380). -/
def entryOk (e : RingEntry) : Bool :=
  e.reservedZero && decide (e.sqbase.toNat % 4096 = 0) && decide (e.cqbase.toNat % 4096 = 0) &&
    decide (4 ≤ e.sqlog2.toNat) && decide (e.sqlog2.toNat ≤ 16) && decide (max 7 (e.sqlog2.toNat + 1) ≤ e.cqlog2.toNat) &&
    decide (e.cqlog2.toNat ≤ 17)

/-- A ring enters RUN: its sizes are loaded and stored doorbells are checked (R383). -/
def loadRing (r : Nat) (e : RingEntry) (s : State) : State :=
  updRing r (fun g =>
    let badS := 2 ^ e.sqlog2.toNat < (g.sqdb - g.sqhead).toNat
    let ahead := (g.cqdb - g.cqtail).toNat
    let badC := 0 < ahead ∧ ahead < 2 ^ 31
    { g with st := .run, sqbase := e.sqbase, cqbase := e.cqbase, sqlog2 := BitVec.ofNat 5 e.sqlog2.toNat,
             cqlog2 := BitVec.ofNat 5 e.cqlog2.toNat, sqdb := if badS then g.sqhead else g.sqdb,
             cqdb := if badC then g.cqtail else g.cqdb, dberr := g.dberr || decide (badS ∨ badC) }) s

/-- Held completions and notifications are delivered in order (R382, R385). -/
def flushHeld (r : RingI) (s : State) : State :=
  let held := (getRing s r.val).heldCpl
  held.foldl (fun s c => if c.kind.toNat ≤ 2 then postCpl r c s else postNote r c s)
    (updRing r.val (fun g => { g with heldCpl := [] }) s)

/-- Every ring delivers what it held for the link (R385). -/
def flushAll (s : State) : State := (List.finRange 64).foldl (fun s r => flushHeld r s) s

/-! ### Attach (R381, R382) -/

/-- Firmware reads entry 0 and sets ring 0 to RUN, or notes the failure. -/
def attach0 (e : Option RingEntry) (s : State) : State :=
  match e.filter entryOk with
  | some e => flushHeld 0 (loadRing 0 e { s with mbx := { s.mbx with atterr := false } })
  | none => { s with mbx := { s.mbx with atterr := true } }

/-- MBX_ATTACH (R381): ignored while ring 0 is not OFF. -/
def doAttach (e : Option RingEntry) (s : State) : State :=
  if s.snuf.wheld || (getRing s 0).st != .off then s else attach0 e s

/-- MBX_ATTACH (R381). -/
def execMbxAttach (e : Option RingEntry) (s : State) : Host.Outcome State Fault Refusal := .next (doAttach e s)

/-- MBX_REATTACH (R382): undelivered entries are discarded, every ring is OFF, ring 0 is loaded again, no version. -/
def doReattach (e : Option RingEntry) (s : State) : State :=
  if s.snuf.wheld then s
  else
    let s := (List.range 64).foldl (fun s r => updRing r (fun g => { g with st := .off, notes := [], heldCpl := [] }) s) s
    attach0 e { s with mbx := { s.mbx with curver := 0 } }

/-- MBX_REATTACH (R382). -/
def execMbxReattach (e : Option RingEntry) (s : State) : Host.Outcome State Fault Refusal := .next (doReattach e s)

/-- REATTACH_DISCARD_TIMEOUT (R382, R396): a ring still OFF after 10 s loses what it held, with one notice ember. -/
def doReattachDiscard (r : Nat) (s : State) : State :=
  let g := getRing s r
  if g.st = .off ∧ g.heldCpl ≠ [] then
    ember 0 0x0C01 r (ctxIdOf s g.ctx) g.heldCpl.length
      (updRing r (fun g => { g with heldCpl := [], lost := satAdd g.lost g.heldCpl.length }) s)
  else s

/-- REATTACH_DISCARD_TIMEOUT (R382). -/
def execReattachDiscardTimeout (r : RingI) (s : State) : Host.Outcome State Fault Refusal :=
  .next (doReattachDiscard r.val s)

/-! ### Doorbells (R383) -/

/-- A submission doorbell. -/
def sqDoorbell (r : Nat) (v : W32) (s : State) : State :=
  updRing r (fun g =>
    if g.st = .off then { g with sqdb := v }
    else if (v - g.sqdb).toNat ≤ 2 ^ g.sqlog2.toNat - (g.sqdb - g.sqhead).toNat then { g with sqdb := v }
    else { g with dberr := true }) s

/-- MBX_SQ_DOORBELL (R383). -/
def execMbxSqDoorbell (r : RingI) (v : W32) (s : State) : Host.Outcome State Fault Refusal := .next (sqDoorbell r.val v s)

/-- A completion doorbell. -/
def cqDoorbell (r : Nat) (v : W32) (s : State) : State :=
  updRing r (fun g =>
    if g.st = .off then { g with cqdb := v }
    else if (v - g.cqdb).toNat ≤ (g.cqtail - g.cqdb).toNat then { g with cqdb := v }
    else { g with dberr := true }) s

/-- MBX_CQ_DOORBELL (R383). -/
def execMbxCqDoorbell (r : RingI) (v : W32) (s : State) : Host.Outcome State Fault Refusal := .next (cqDoorbell r.val v s)

/-! ### Fetch (R384, R386) -/

/-- A REQ.SUBMIT's request is admitted: its progress completion is posted. -/
def isAdmitted (s : State) (d : Desc) : Bool :=
  (ctxSlots s).any (fun c => match getCtx s c with
    | none => false
    | some x => x.adm.any (fun a => a.cmd == d && a.admitted) || x.rel.any (fun r => r.cmd == d && r.started))

/-- Completions a ring is still owed (R384). -/
def ringOwed (s : State) (r : Nat) : Nat :=
  let g := getRing s r
  sumN ((g.prog ++ g.queued).map (fun d => if d.opcode = 0x0501 ∧ !isAdmitted s d then 2 else 1))

/-- A ring has a descriptor that firmware may fetch now (R381, R384). -/
def fetchable (s : State) (r : Nat) : Bool :=
  let g := getRing s r
  g.st == .run && g.sqdb != g.sqhead && (decide (r < 4) || g.ctx.isSome) && decide (ringOwed s r + 8 < ringFree g)

/-- Whose turn it is (R384): rings 0, 1, 2 and 3, then 4 to 63 round robin. -/
def fetchTurn (s : State) (r : Nat) : Bool :=
  if r = 0 then true
  else if r = 1 then !fetchable s 0
  else if r < 4 then !fetchable s 0 && !fetchable s 1
  else (List.range 4).all (fun i => !fetchable s i) &&
    ((List.range 60).map (fun i => 4 + (s.mbx.lastRing - 4 + 1 + i) % 60)).find? (fetchable s) == some r

/-- DESCRIPTOR_FETCH (R384, R386). -/
def doFetch (r : Nat) (res : FetchRes) (s : State) : State :=
  if !s.snuf.wheld && gvlUp s && fetchable s r && fetchTurn s r then
    let s := if 4 ≤ r then { s with mbx := { s.mbx with lastRing := r } } else s
    match res with
    | .desc d => updRing r (fun g => { g with sqhead := g.sqhead + 1, queued := g.queued ++ [d] }) s
    | .retried d => updRing r (fun g => { g with sqhead := g.sqhead + 1, queued := g.queued ++ [d] }) s
    | .failed => updRing r (fun g => { g with st := .stopped, fetcherr := true }) s
  else s

/-- DESCRIPTOR_FETCH (R384). -/
def execDescriptorFetch (r : RingI) (res : FetchRes) (s : State) : Host.Outcome State Fault Refusal :=
  .next (doFetch r.val res s)

/-- Post held notifications while there is room. -/
def flushNotes (r : RingI) : List Cpl → State → State
  | [], s => s
  | c :: t, s =>
    if ringFree (getRing s r.val) = 0 then s
    else flushNotes r t (postRaw r c (updRing r.val (fun g => { g with notes := g.notes.drop 1 }) s))

/-- The count of lost notifications, once everything held has been posted (R385, R390). -/
def postLost (r : RingI) (s : State) : State :=
  let g := getRing s r.val
  if g.notes = [] ∧ g.lostSince ≠ 0 ∧ ringFree g ≠ 0 then
    postRaw r { tag := 0, status := 0, kind := 3, opcode := 0x0181, outused := 0, result := [BitVec.ofNat 32 g.lostSince] }
      (updRing r.val (fun g => { g with lostSince := 0 }) s)
  else s

/-- NOTIFICATION_FLUSH (R385). -/
def doNoteFlush (r : RingI) (s : State) : State :=
  if ringsStopped s || ringHeld s r.val then s else postLost r (flushNotes r (getRing s r.val).notes s)

/-- NOTIFICATION_FLUSH (R385). -/
def execNotificationFlush (r : RingI) (s : State) : Host.Outcome State Fault Refusal := .next (doNoteFlush r s)

/-- The commands with an A limit (R393). -/
def abandonable : List Nat :=
  [0x0102, 0x0103, 0x0209, 0x020B, 0x0308, 0x0404, 0x0504, 0x0505, 0x0506, 0x0601, 0x0702, 0x0802, 0x0907, 0x0A03, 0x0B01,
    0x0B02, 0x0B04]

/-- An A command's limit passes (R393): it stops and completes with TIMEOUT; after a withhold nothing is left (R396). -/
def doCmdLimit (r : Nat) (tag : W64) (s : State) : State :=
  match (getRing s r).prog.find? (fun d => d.tag == tag && abandonable.contains d.opcode.toNat) with
  | none => s
  | some d =>
    (s.invs.filter (fun v => v.cmd == some d)).foldl (fun s v => stopInv v.id s) (finish d 0x13 s)

/-! ### The control processor's faults (R378) -/

/-- CORE_WATCHDOG_EXPIRY (R378). -/
def doWatchdog (core : Nat) (s : State) : State :=
  withhold 0x09 0 { s with mbx := { s.mbx with wdog := true, alive := clrBit s.mbx.alive core } }

/-- CORE_WATCHDOG_EXPIRY (R378). -/
def execCoreWatchdogExpiry (core : Fin 4) (s : State) : Host.Outcome State Fault Refusal := .next (doWatchdog core.val s)

/-- PRIVATE_SRAM_UNCORRECTABLE (R378, R473): in the keeper's part it is a security violation. -/
def execPrivateSramUncorrectable (keeper : Bool) (s : State) : Host.Outcome State Fault Refusal :=
  .next (if keeper then violate 1 s else withhold 0x09 0 s)

/-! ### SYS. commands (R391, R393) -/

/-- A command with a body for ring 0. -/
def runSys (d : Desc) (body : State → State) (s : State) : State := runCmd d .sys false false false body s

/-- The version firmware speaks (R391). -/
def fwVer : W16 := 0x0100

/-- SYS.HELLO's result: version, own package ID, and bytes 0 to 7 of IDDIGEST (R393); the words' order is DEDUCED, log 24. -/
def helloResult (s : State) (v : W16) : List W32 :=
  [v.setWidth 32, if s.fab.myidV then s.fab.myid.setWidth 32 else 0, wordAt (digBytes s.sec.iddigest) 0,
    wordAt (digBytes s.sec.iddigest) 1]

/-- SYS_HELLO (R391). -/
def doHelloCmd (d : Desc) (vmin vmax : W16) (s : State) : State :=
  runCmd d .sys true true false (fun s =>
    if vmax < vmin then finish d 0x07 s
    else if fwVer < vmin ∨ vmax < fwVer then finish d 0x11 s
    else if s.mbx.curver ≠ 0 ∧ s.mbx.curver ≠ fwVer then finish d 0x06 s
    else complete d 0 0 (helloResult s fwVer) { s with mbx := { s.mbx with curver := fwVer } }) s

/-- SYS_HELLO (R391). -/
def execSysHello (d : Desc) (vmin vmax : W16) (s : State) : Host.Outcome State Fault Refusal :=
  .next (doHelloCmd d vmin vmax s)

/-- SYS_INFO (R393): the output has no layout in the manual. -/
def execSysInfo (d : Desc) (s : State) : Host.Outcome State Fault Refusal :=
  .next (runCmd d .any true true false (finishFree d) s)

/-- A 64-bit value as two result words, low first. -/
def words64 (v : W64) : List W32 := [BitVec.ofNat 32 v.toNat, BitVec.ofNat 32 (v.toNat / 2 ^ 32)]

/-- SYS_TIME (R393): CLK_LTIME and LMP_FLICKER sampled together. -/
def execSysTime (d : Desc) (s : State) : Host.Outcome State Fault Refusal :=
  .next (runCmd d .any true true false (fun s => complete d 0 0 (words64 (ltime s) ++ words64 s.lmp.flicker.val) s) s)

/-- SYS_RING (R380, R393). -/
def doSysRing (d : Desc) (ring action : Nat) (e : Option RingEntry) (s : State) : State :=
  runSys d (fun s =>
    if ring = 0 ∨ 63 < ring then finish d 0x07 s
    else if action = 1 then
      match e with
      | none => finish d 0x14 s
      | some e =>
        if entryOk e then
          let s := updRing ring (fun g => { g with nlost := false, fetcherr := false, dberr := false }) s
          finish d 0 (flushHeld (Fin.ofNat 64 ring) (loadRing ring e s))
        else finish d 0x07 s
    else if action = 2 then finish d 0 (updRing ring (fun g => { g with st := .off }) s)
    else finish d 0x07 s) s

/-- SYS_RING (R393). -/
def execSysRing (d : Desc) (ring : Nat) (action : Nat) (e : Option RingEntry) (s : State) :
    Host.Outcome State Fault Refusal := .next (doSysRing d ring action e s)

/-- PWR_LIMIT as written (R169): clamped; at once while EN is 0 (R168). -/
def setLimit (v : Nat) (s : State) : State :=
  let p := { s.pwr with limit := BitVec.ofNat 10 (clampN 600 950 v) }
  { s with pwr := if s.lmp.en then p else takeShares p }

/-- The six shares as written (R169). -/
def setShares (arr vec xbr stk ser ctl : Nat) (s : State) : State :=
  let w (x : Nat) : BitVec 10 := BitVec.ofNat 10 (clampN 0 950 x)
  let p := { s.pwr with arr := BitVec.ofNat 10 (clampN 100 500 arr), vec := w vec, xbr := w xbr, stk := w stk, ser := w ser,
                        ctl := w ctl }
  { s with pwr := if s.lmp.en then p else takeShares p }

/-- SYS_POWER (R168, R393, R530): completes at the next window boundary. -/
def doSysPower (d : Desc) (limit : W16) (arr vec xbr stk ser ctl : W16) (s : State) : State :=
  runSys d (fun s =>
    let plimit := match s.sec.cfg with | some c => c.plat.plimit.toNat | none => 950
    if plimit < limit.toNat then finish d 0x0101 s
    else
      let s := setShares arr.toNat vec.toNat xbr.toNat stk.toNat ser.toNat ctl.toNat (setLimit limit.toNat s)
      keepProg d { s with pwr := { s.pwr with cmds := s.pwr.cmds ++ [d] } }) s

/-- SYS_POWER (R393). -/
def execSysPower (d : Desc) (limit : W16) (arr vec xbr stk ser ctl : W16) (s : State) :
    Host.Outcome State Fault Refusal := .next (doSysPower d limit arr vec xbr stk ser ctl s)

/-- BUDGET_WINDOW (R168): the shares take effect, and the SYS.POWER commands that waited complete. -/
def windowEnd (meas : Nat) (s : State) : State :=
  let cs := s.pwr.cmds
  cs.foldl (fun s d => finish d 0 s) (doBudgetWindow meas { s with pwr := { s.pwr with cmds := [] } })

/-- BUDGET_WINDOW (R168). -/
def execBudgetWindow (meas : Nat) (s : State) : Host.Outcome State Fault Refusal := .next (windowEnd meas s)

/-- A half's NCLK divider as written. -/
def ndivOf (s : State) (east : Bool) : BitVec 2 := if east then s.clk.nE else s.clk.nW

/-- Firmware undoes what it did to gate a half: gate open, pauses cleared but a CTX.PAUSE's own (R286). -/
def clockUndo (s : State) : State :=
  let ps := s.clk.paused
  let keep (c : Nat) : Bool := match getCtx s c with | some x => x.paused | none => false
  ps.foldl (fun s c => updLctx c (fun x => { x with pause := keep c }) s)
    { s with clk := { s.clk with gateE := false, paused := [] } }

/-- The write of the half's divider; a refusal completes with BUSY (DEDUCED from R9, log 25). -/
def clockWrite (k : ClkCmd) (s : State) : State :=
  if k.adiv == 3 && halfFiring s k.east then
    let s := finish k.cmd 0x05 { s with clk := { s.clk with cfgErr := true, cmd := none } }
    if k.ndiv == 3 && ndivOf s k.east != 3 then clockUndo s else s
  else
    let v : W32 := BitVec.ofNat 32 (k.adiv.toNat + 16 * k.ndiv.toNat)
    let s := halfWrite k.east v s
    { s with clk := { s.clk with cmd := some { k with written := true } } }

/-- Go on with a SYS.CLOCK: the divider is written once the gated crossings are empty (R286). -/
def clockGo (s : State) : State :=
  match s.clk.cmd with
  | none => s
  | some k =>
    if k.written then s
    else if k.east && k.ndiv == 3 && inflOf s true != 0 then s
    else clockWrite k s

/-- SYS_CLOCK (R286, R393). A gated west NCLK is out of range (R280, R530). -/
def doSysClock (d : Desc) (east : Bool) (adiv ndiv : BitVec 2) (s : State) : State :=
  runSys d (fun s =>
    if !east && ndiv == 3 then finish d 0x07 { s with clk := { s.clk with cfgErr := true } }
    else if s.clk.cmd.isSome then finish d 0x05 s
    else
      let s := if ndiv == 3 && s.clk.nE != 3 then
          let cs := (ctxSlots s).filter (fun c => (sconcesOf s c).any eastSconce)
          cs.foldl (fun s c => updLctx c (fun x => { x with pause := true }) s)
            { s with clk := { s.clk with gateE := true, paused := cs } }
        else s
      clockGo (keepProg d { s with clk := { s.clk with
        cmd := some { cmd := d, east := east, adiv := adiv, ndiv := ndiv, written := false } } })) s

/-- SYS_CLOCK (R286). -/
def execSysClock (d : Desc) (east : Bool) (adiv ndiv : BitVec 2) (s : State) : Host.Outcome State Fault Refusal :=
  .next (doSysClock d east adiv ndiv s)

/-- The command ends when its divider shows; a restored NCLK opens the gate and clears the pauses (R286). -/
def clockShown (s : State) : State :=
  match s.clk.cmd with
  | none => s
  | some k =>
    if k.written then
      let s := finish k.cmd 0 { s with clk := { s.clk with cmd := none } }
      if k.east && k.ndiv != 3 && s.clk.gateE then clockUndo s else s
    else s

/-- CLOCK_DIVIDER_APPLY (R281), with the SYS.CLOCK that waited for it. -/
def doDividerApply (s : State) : State := if nowF s % 12 = 0 then clockShown (dividerApply s) else s

/-- CLOCK_DIVIDER_APPLY (R281). -/
def execClockDividerApply (s : State) : Host.Outcome State Fault Refusal := .next (doDividerApply s)

/-- SYS_RESET (R393): the completion is posted; the die reset follows as its own event. -/
def doSysReset (d : Desc) (s : State) : State :=
  runSys d (fun s => finish d 0 { s with mbx := { s.mbx with resetDue := true } }) s

/-- SYS_RESET (R393). -/
def execSysReset (d : Desc) (s : State) : Host.Outcome State Fault Refusal := .next (doSysReset d s)

end Sys2Proof.Machine
end

