-- ==== Sys2Proof/Machine/Special.lean ====
section
/-! DEFINITION. The special functions (R130): the exact value to at least 100 bits, and the published algorithm's choice among
the FP32 values within 2 ulp of it (log 6). -/

namespace Sys2Proof.Machine

/-! ### Fixed point: 256 fraction bits -/

/-- One. -/
def fxOne : Int := 2 ^ 256
/-- The natural logarithm of 2. -/
def fxLn2 : Int := 80260960185991308862233904206310070533990667611589946606122867505419956976171
/-- A product. -/
def fxMul (a b : Int) : Int := a * b / fxOne
/-- A dyadic number. -/
def fxOf (d : Dy) : Int := if -256 ≤ d.e then d.m * 2 ^ (d.e + 256).toNat else d.m / 2 ^ (-256 - d.e).toNat
/-- A number limited in magnitude. -/
def dyClamp (n : Nat) (d : Dy) : Dy := if Dy.lt ⟨n, 0⟩ d then ⟨n, 0⟩ else if d.lt ⟨-(n : Int), 0⟩ then ⟨-(n : Int), 0⟩ else d

/-- The exponential series of a number from 0 to ln 2. -/
def fxExp (r : Int) : Int :=
  ((List.range 64).foldl (fun p k =>
    let t := fxMul p.1 r / ((k : Int) + 1)
    (t, p.2 + t)) (fxOne, fxOne)).2

/-! ### The exact values -/

/-- e^x. -/
def expDy (d : Dy) : Dy :=
  let x := fxOf (dyClamp 400 d)
  let k := x / fxLn2
  ⟨fxExp (x - k * fxLn2), k - 256⟩

/-- 2^x. -/
def exp2Dy (d : Dy) : Dy :=
  let x := fxOf (dyClamp 400 d)
  let k := x / fxOne
  ⟨fxExp (fxMul (x - k * fxOne) fxLn2), k - 256⟩

/-- The base-2 logarithm of a number above 0: bit by bit from squares. -/
def log2Dy (d : Dy) : Dy :=
  let n := bitLen d.m.natAbs
  let y0 : Int := if n ≤ 257 then d.m * 2 ^ (257 - n) else d.m / 2 ^ (n - 257)
  let r := (List.range 200).foldl (fun p _ =>
    let y := fxMul p.1 p.1
    if 2 * fxOne ≤ y then (y / 2, 2 * p.2 + 1) else (y, 2 * p.2)) (y0, (0 : Int))
  ⟨r.2 + (d.e + (n : Int) - 1) * 2 ^ 200, -200⟩

/-- 1 ÷ x for x other than 0. -/
def rcpDy (d : Dy) : Dy :=
  let k := 200 + bitLen d.m.natAbs
  let q : Int := (2 ^ k / d.m.natAbs : Nat)
  ⟨if d.m < 0 then -q else q, -(k : Int) - d.e⟩

/-- 1 ÷ √x for x above 0. -/
def rsqrtDy (d : Dy) : Dy :=
  let o := d.e % 2
  ⟨(isqrt (2 ^ 600 / (d.m.natAbs * 2 ^ o.toNat)) : Nat), -300 - (d.e - o) / 2⟩

/-- tanh x. -/
def tanhDy (d : Dy) : Dy :=
  let t := fxOf (expDy ⟨-(2 * (d.m.natAbs : Int)), d.e⟩)
  let q := (fxOne - t) * fxOne / (fxOne + t)
  ⟨if d.m < 0 then -q else q, -256⟩

/-- 1 ÷ (1 + e^−x). -/
def sigmoidDy (d : Dy) : Dy :=
  let e := expDy ⟨-(d.m.natAbs : Int), d.e⟩
  let t := fxOf e
  if d.m < 0 then ⟨e.m * fxOne / (fxOne + t), e.e⟩ else ⟨fxOne * fxOne / (fxOne + t), -256⟩

/-- The exact value of operations 0 EXP, 1 EXP2, 2 LOG2, 3 RCP, 4 RSQRT, 5 TANH, 6 SIGMOID, 7 SILU on a finite operand; none
where the function has none. -/
def specialDy (op : Nat) (x : W32) : Option Dy :=
  match fp x with
  | .fin _ d =>
    if op = 0 then some (expDy d)
    else if op = 1 then some (exp2Dy d)
    else if op = 2 then (if 0 < d.m then some (log2Dy d) else none)
    else if op = 3 then (if d.m = 0 then none else some (rcpDy d))
    else if op = 4 then (if 0 < d.m then some (rsqrtDy d) else none)
    else if op = 5 then some (tanhDy d)
    else if op = 6 then some (sigmoidDy d)
    else some (d.mul (sigmoidDy d))
  | _ => none

/-! ### The result -/

/-- The exponent of one ulp of FP32 at a value. -/
def ulpExp (d : Dy) : Int := max (-149) ((bitLen d.m.natAbs : Int) + d.e - 24)

/-- An FP32 word within 2 ulp of a value. -/
def within2 (c : W32) (d : Dy) : Bool :=
  match fp c with
  | .fin _ v => (v.add d.neg).abs.le ⟨2, ulpExp d⟩
  | _ => false

/-- No NaN encoding but one is produced (R80). -/
def canonNan (w : W32) : W32 := if isNan w then 0x7FC00000 else w

/-- A special function's result: the published algorithm's within 2 ulp of the exact value, which the manual does not give
otherwise; a result beyond FP32's range is limited (R79). -/
def special (op : Nat) (x : W32) : W32 × FFlags :=
  let c := Config.special op x
  match specialDy op x with
  | none => (canonNan c, FFlags.none)
  | some d =>
    let r := fpScaled d.m d.e
    if r.2.range then r else if within2 c d then (c, FFlags.none) else r

end Sys2Proof.Machine
end

