-- ==== Sys2Proof/Machine/Sampler.lean ====
section
/-! DEFINITION. Token masks and the sampler (R415 to R422), and token digests of a twin pair (R494). -/

namespace Sys2Proof.Machine

/-- The sampler's generator at drawing position `t`, draw index `i` (R415). -/
def rand64 (seed : W64) (t i : Nat) : W64 :=
  mix64 ((seed ^^^ (BitVec.ofNat 64 t * 0xD6E8FEB86659FD93)) + BitVec.ofNat 64 (i + 1) * 0x9E3779B97F4A7C15)

/-- EXP of R130. -/
def fexp (x : W32) : W32 × FFlags := special 0 x
/-- RCP of R130. -/
def frcp (x : W32) : W32 × FFlags := special 3 x

/-- Candidate `a` ranks before `b`: the larger logit, the lower index on a tie (R133, R416). -/
def ranksBefore (a b : W32 × Nat) : Bool := flt b.1 a.1 || (feq a.1 b.1 && decide (a.2 < b.2))

/-- Insert a candidate into a ranked list. -/
def insCand (x : W32 × Nat) : List (W32 × Nat) → List (W32 × Nat)
  | [] => [x]
  | y :: t => if ranksBefore x y then x :: y :: t else y :: insCand x t

/-- The `k` best candidates in rank order. -/
def topK (k : Nat) (l : List (W32 × Nat)) : List (W32 × Nat) := l.foldl (fun r x => (insCand x r).take k) []

/-- What a draw gives: no allowed token, or a token, with the ledger flags it raises (R417, R418). -/
structure Draw where
  token : Option Nat
  flags : FFlags
deriving DecidableEq, Repr

/-- Cumulative sums of the exponentials (R416). -/
def cumSum : W32 → FFlags → List W32 → List W32 × FFlags
  | _, f, [] => ([], f)
  | acc, f, e :: t =>
    let a := fadd acc e
    let r := cumSum a.1 (f.or a.2) t
    (a.1 :: r.1, r.2)

/-- sample (R416). -/
def sample (z : List W32) (allowed : Nat → Bool) (k : Nat) (greedy : Bool) (tau : W32) (topp : Option W32) (seed : W64)
    (t : Nat) : Draw :=
  let hasNan := z.any isNan
  let cand := topK k ((withPos 0 z).filterMap (fun p => if isNan p.2 || !allowed p.1 then none else some (p.2, p.1)))
  let nf : FFlags := ⟨false, hasNan⟩
  match cand with
  | [] => { token := none, flags := nf }
  | c0 :: _ =>
    if greedy then { token := some c0.2, flags := nf }
    else
      let r := frcp tau
      let es := cand.map (fun c =>
        let d := fsub c.1 c0.1
        let m := fmul d.1 r.1
        let e := fexp m.1
        (e.1, (d.2.or m.2).or e.2))
      let fl := es.foldl (fun f e => f.or e.2) (nf.or r.2)
      match es.map (fun e => e.1) with
      | [] => { token := some c0.2, flags := fl }
      | e0 :: rest =>
        let cs := cumSum e0 fl rest
        let c := e0 :: cs.1
        let last := c.getLastD e0
        if isNan last then { token := some c0.2, flags := cs.2.or ⟨false, true⟩ }
        else
          let n := match topp with
            | none => (c.length, cs.2)
            | some p =>
              let lim := fmul p last
              match c.findIdx? (fun x => flt lim.1 x || feq lim.1 x) with
              | some i => (i + 1, cs.2.or lim.2)
              | none => (c.length, cs.2.or lim.2)
          let u := (fpScaled ((rand64 seed t 0).toNat / 2 ^ 40 : Nat) (-24)).1
          let x := fmul u (c.getD (n.1 - 1) last)
          let j := match (c.take n.1).findIdx? (fun y => flt x.1 y) with
            | some j => j
            | none => n.1 - 1
          { token := some (cand.getD j c0).2, flags := n.2.or x.2 }

/-! ### Mask tables (R419 to R421) -/

/-- What the check of a mask table finds (R421). -/
inductive MaskCheck where
  | ok (t : MaskTable)
  | bad
  | empty
deriving DecidableEq, Repr

/-- A little-endian field of `n` bytes at an offset. -/
def fieldAt (l : List Byte) (o n : Nat) : Nat := ofLe ((l.drop o).take n)

/-- Bytes of a bitmap of V bits, in whole lines (R419, R420). -/
def maskBytes (vocab : Nat) : Nat := (vocab + 511) / 512 * 64

/-- A bit of a bitmap. -/
def maskBit (l : List Byte) (v : Nat) : Bool := decide ((l.getD (v / 8) 0).toNat / 2 ^ (v % 8) % 2 = 1)

/-- A state record with its transitions, at a byte offset (R420). -/
def gramState (l : List Byte) (o toff : Nat) : GState :=
  { mask := fieldAt l o 2, final := decide (fieldAt l (o + 2) 2 % 2 = 1), dflt := fieldAt l (o + 12) 4,
    trans := (List.range (fieldAt l (o + 4) 4)).map (fun i =>
      let a := toff + 8 * (fieldAt l (o + 8) 4 + i)
      (BitVec.ofNat 32 (fieldAt l a 4), fieldAt l (a + 4) 4)) }

/-- Tokens rise strictly. -/
def tokensRise : List (W32 × Nat) → Bool
  | a :: b :: t => decide (a.1.toNat < b.1.toNat) && tokensRise (b :: t)
  | _ => true

/-- A state record is in range: its bitmap, its flags, its transitions and the states they lead to (R420, R421). -/
def gramStateOk (l : List Byte) (o ns nm tc : Nat) (g : GState) : Bool :=
  decide (g.mask < nm) && decide (fieldAt l (o + 2) 2 < 2) && decide (fieldAt l (o + 8) 4 + g.trans.length ≤ tc) &&
    decide (g.dflt < ns) && g.trans.all (fun p => decide (p.2 < ns)) && tokensRise g.trans

/-- The check of a grammar table (R420, R421). A wrong header is found before a zero count, and a zero count before the ranges
(DESIGN CHOICE, log 146). -/
def gramCheck (vocab len : Nat) (l : List Byte) : MaskCheck :=
  let ns := fieldAt l 0x08 4
  let nm := fieldAt l 0x0C 4
  let moff := fieldAt l 0x18 8
  let soff := fieldAt l 0x20 8
  let toff := fieldAt l 0x28 8
  let tc := fieldAt l 0x30 8
  let bm := maskBytes vocab
  if fieldAt l 0 4 ≠ 0x314D5247 ∨ fieldAt l 4 2 ≠ 0x0100 ∨ fieldAt l 6 2 ≠ 0 ∨ fieldAt l 0x14 4 ≠ vocab ∨ fieldAt l 0x38 8 ≠ 0 then .bad
  else if ns = 0 ∨ nm = 0 ∨ tc = 0 then .empty
  else if 1048576 < ns ∨ 4095 < nm ∨ ns ≤ fieldAt l 0x10 4 ∨ moff % 64 ≠ 0 ∨ soff % 64 ≠ 0 ∨ toff % 64 ≠ 0 ∨
      len < moff + nm * bm ∨ len < soff + 16 * ns ∨ len < toff + 8 * tc then .bad
  else
    let sts := (List.range ns).map (fun i => (soff + 16 * i, gramState l (soff + 16 * i) toff))
    if sts.all (fun p => gramStateOk l p.1 ns nm tc p.2) then
      .ok (.grammar (fieldAt l 0x10 4) ((List.range nm).map (fun i => (l.drop (moff + bm * i)).take bm)) (sts.map (fun p => p.2)))
    else .bad

/-- The check of a record's mask table (R419, R421). -/
def maskCheck (grammar : Bool) (vocab len : Nat) (l : List Byte) : MaskCheck :=
  if grammar then gramCheck vocab len l else if len = maskBytes vocab then .ok (.allow l) else .bad

/-- Whether a record's mask allows a token (R419, R422). -/
def maskAllows (m : Option MaskTable) (g : Nat) (v : Nat) : Bool :=
  match m with
  | none => true
  | some (.allow l) => maskBit l v
  | some (.grammar _ masks states) =>
    match states[g]? with
    | none => false
    | some st => maskBit (masks.getD st.mask []) v

/-- The grammar state after a token (R422). -/
def maskNext (m : Option MaskTable) (g : Nat) (v : Nat) : Nat :=
  match m with
  | some (.grammar _ _ states) =>
    match states[g]? with
    | none => g
    | some st => match st.trans.find? (fun p => p.1.toNat == v) with
      | some p => p.2
      | none => st.dflt
  | _ => g

/-- A grammar state is final (R420). -/
def maskFinal (m : Option MaskTable) (g : Nat) : Bool :=
  match m with
  | some (.grammar _ _ states) => match states[g]? with | some st => st.final | none => false
  | _ => false

/-- The state a record starts in (R422). -/
def maskStart (m : Option MaskTable) : Nat := match m with | some (.grammar s _ _) => s | _ => 0

/-- The token digest of a twin pair (R494). -/
def tokDigest (ctxid num : W16) (tindex token epoch adpgen : W32) (seed : W64) : BitVec 256 :=
  let d := Config.sha384 (leBytes 2 ctxid.toNat ++ leBytes 2 num.toNat ++ leBytes 4 tindex.toNat ++ leBytes 4 token.toNat ++
    leBytes 4 epoch.toNat ++ leBytes 4 adpgen.toNat ++ leBytes 8 seed.toNat)
  BitVec.ofNat 256 (d.toNat / 2 ^ 128)

end Sys2Proof.Machine
end

