-- ==== Sys2Proof/Machine/Attention.lean ====
section
/-! DEFINITION. The attention kernel (R140): E4M3 keys and values in chunks of 64 positions, a chunk's partial, the fold of partials
and one query head's output. -/

namespace Sys2Proof.Machine

/-- Elements of a dot product as E4M3 bytes with their accumulator: the exact sum, rounded once (R128). -/
def dotBytes (acc : W32) (a b : List Byte) : W32 × FFlags :=
  toFp ((a.zip b).foldl (fun x p => x.add ((fE4M3.decode p.1.toNat).mul (fE4M3.decode p.2.toNat))) (fp acc))

/-- dot128: 4 elements in each of 32 lanes from +0, and the lanes by adjacent pairs (R129, R140). -/
def dot128 (q k : List Byte) : W32 × FFlags :=
  let ls := ((pieces 4 q).zip (pieces 4 k)).map (fun p => dotBytes 0 p.1 p.2)
  let r := pairwise fadd 5 (ls.map (fun x => x.1))
  (r.1, (flagsOf ls).or r.2)

/-- The larger of two scores; a NaN ranks below every number (R129). -/
def scoreMax (a b : W32) : W32 := if isNan a || flt a b then b else a

/-- A value narrowed to E4M3 (R78). -/
def toE4M3 (x : W32) : Byte × FFlags :=
  let r := fmtNarrow 7 (fp x)
  (BitVec.ofNat 8 r.1, r.2)

/-- A partial (m, l, o) of some positions. -/
structure AttPart where
  m : W32
  l : W32
  o : List W32
deriving DecidableEq, Repr

/-- chunk_partial over the keys and values of a chunk's positions below n, ascending (R140). -/
def chunkPartial (q8 : List Byte) (scale : W32) (kv : List (List Byte × List Byte)) : AttPart × FFlags :=
  let s := kv.map (fun p =>
    let d := dot128 q8 p.1
    let x := fmul d.1 scale
    (x.1, d.2.or x.2))
  let m := ((s.map (fun x => x.1)).tail).foldl scoreMax ((s.map (fun x => x.1)).headD 0)
  let e := s.map (fun x =>
    let d := fsub x.1 m
    let y := fexp d.1
    let b := toE4M3 y.1
    (b.1, (d.2.or y.2).or b.2))
  let e8 := e.map (fun x => x.1)
  let l := pairwise fadd 6 (e8.map (fun b => (toFp (fE4M3.decode b.toNat)).1))
  let o := (List.range 128).map (fun d =>
    ((pieces 4 e8).zip (pieces 4 (kv.map (fun p => p.2.getD d 0)))).foldl (fun a p =>
      let r := dotBytes a.1 p.1 p.2
      (r.1, a.2.or r.2)) ((0 : W32), FFlags.none))
  ({ m := m, l := l.1, o := o.map (fun x => x.1) },
    (((flagsOf s).or (e.foldl (fun f x => f.or x.2) FFlags.none)).or l.2).or (flagsOf o))

/-- fold of two partials, the first before the second (R140). -/
def attFold (a b : AttPart) : AttPart × FFlags :=
  let m := scoreMax a.m b.m
  let da := fsub a.m m
  let db := fsub b.m m
  let fa := fexp da.1
  let fb := fexp db.1
  let mix (x y : W32) : W32 × FFlags :=
    let p := fmul x fa.1
    let q := fmul y fb.1
    let r := fadd p.1 q.1
    (r.1, (p.2.or q.2).or r.2)
  let l := mix a.l b.l
  let o := (a.o.zip b.o).map (fun p => mix p.1 p.2)
  ({ m := m, l := l.1, o := o.map (fun x => x.1) },
    ((((da.2.or db.2).or fa.2).or fb.2).or l.2).or (flagsOf o))

/-- A fold over partials in order; over one it is that one. -/
def attFolds : List (AttPart × FFlags) → Option (AttPart × FFlags)
  | [] => none
  | p :: t => some (t.foldl (fun a b =>
      let r := attFold a.1 b.1
      (r.1, (a.2.or b.2).or r.2)) p)

/-- attend for one query head: the keys and values of its key/value head by position, ascending (R140). -/
def attend (q : List W32) (scale : W32) (groups : Nat) (kv : List (List Byte × List Byte)) : List W32 × FFlags :=
  let q8 := q.map toE4M3
  let parts := (withPos 0 (pieces 64 kv)).map (fun c => (c.1, chunkPartial (q8.map (fun x => x.1)) scale c.2))
  let accs := (List.range groups).filterMap (fun j =>
    attFolds ((parts.filter (fun c => c.1 % groups == j)).map (fun c => c.2)))
  let fq := q8.foldl (fun f x => f.or x.2) FFlags.none
  match attFolds accs with
  | none => (List.replicate 128 0, fq)
  | some t =>
    let r := frcp t.1.l
    let o := t.1.o.map (fun x => fmul x r.1)
    (o.map (fun x => x.1), ((fq.or t.2).or r.2).or (flagsOf o))

end Sys2Proof.Machine
end

