-- ==== Sys2Proof/Machine/Serve.lean ====
section
/-! DEFINITION. Serving: the layers a package holds, attention entries (R238), the retirement of an instance on a package (R340,
R536), ledgers' amendments and settlement (R242, R243), release records, draws and their comparison by a twin (R403 to R418,
R497). -/

namespace Sys2Proof.Machine

/-! ### Settings of the configuration block -/

/-- CCLK cycles of a number of milliseconds. -/
def msCycles (n : Nat) : Nat := n * 900000
/-- HOLD (R413), 2 s by default. -/
def holdCycles (s : State) : Nat := msCycles (match s.sec.cfg with | some c => c.plat.hold.toNat | none => 2000)
/-- LEASE (R427), 60 s by default. -/
def leaseCycles (s : State) : Nat := msCycles (1000 * (match s.sec.cfg with | some c => c.plat.lease.toNat | none => 60))
/-- Local time as a number. -/
def nowC (s : State) : Nat := (ltime s).toNat

/-! ### Layers held -/

/-- An epoch is LIVE: its weights are in the wicks (R438). -/
def epochLive (s : State) (c : Nat) (ep : W32) : Bool :=
  match getCtx s c with
  | none => false
  | some x => x.epochs.any (fun e => e.epoch == ep && e.st == .live)

/-- Metadata of the own lantern shards of a LIVE epoch whose lanterns are in service (R431, R434, R437). -/
def ownMetas (s : State) (c : Nat) (ep : W32) : List ShardMeta :=
  if epochLive s c ep then
    let hs := epochShards s c ep
    (hs.filterMap (fun h => if isOwnLan h && h.st == .verified && h.written then h.md else none)).filter (fun m =>
      !layerUnloaded hs m.layer)
  else []

/-- Partitions of a layer held here. -/
def layerParts (s : State) (c : Nat) (ep : W32) (layer : Nat) : List W16 :=
  (((ownMetas s c ep).filter (fun m => m.layer.toNat == layer)).map (fun m => m.part)).dedup

/-- A package holds a layer under an epoch (R333). -/
def holdsLayer (s : State) (c : Nat) (ep : W32) (layer : Nat) : Bool := !(layerParts s c ep layer).isEmpty

/-- The partitions of a layer held here whose sums reduce across packages, one lantern's metadata for each (R431). -/
def reduceParts (s : State) (c : Nat) (ep : W32) (layer : Nat) : List ShardMeta :=
  let ms := (ownMetas s c ep).filter (fun m => m.layer.toNat == layer && m.rflags.toNat % 2 == 1)
  ((ms.map (fun m => m.part)).dedup).filterMap (fun p => ms.find? (fun m => m.part == p))

/-- The reduction a layer's partition takes part in, if its sums reduce across packages (R431). -/
def reduceMeta (s : State) (c : Nat) (ep : W32) (layer : Nat) (part : W16) : Option ShardMeta :=
  (reduceParts s c ep layer).find? (fun m => m.part == part)

/-- Layers computed here from one activation: consecutive held ones, up to the first that reduces across packages. -/
def segLayers (s : State) (c : Nat) (ep : W32) : Nat → Nat → List Nat
  | 0, _ => []
  | n + 1, layer =>
    if holdsLayer s c ep layer then
      if !(reduceParts s c ep layer).isEmpty then [layer] else layer :: segLayers s c ep n (layer + 1)
    else []

/-- Layers from an activation's LAYER on. -/
def actLayers (s : State) (c : Nat) (a : ActHdr) : List Nat :=
  segLayers s c a.epoch ((ownMetas s c a.epoch).length + 1) a.layer.toNat

/-- Flares of one position here: one for each partition of those layers (R407). -/
def actNeed (s : State) (c : Nat) (a : ActHdr) : Nat :=
  sumN ((actLayers s c a).map (fun l => (layerParts s c a.epoch l).length))

/-! ### Attention entries (R238) -/

/-- Change the attention state of an instance. -/
def updAttn (c : Nat) (inst : W32) (f : Attn → Attn) (s : State) : State :=
  { s with attn := updIf (fun a => a.ctx.val == c && a.inst == inst) f s.attn }

/-- The attention state of an instance. -/
def getAttn (s : State) (c : Nat) (inst : W32) : Option Attn := s.attn.find? (fun a => a.ctx.val == c && a.inst == inst)

/-- Keep the entries a test accepts, and their keys and values. -/
def keepAttn (p : Nat × Bool → Bool) (a : Attn) : Attn :=
  let es := a.entries.filter p
  { a with entries := es, kv := a.kv.filter (fun k => es.any (fun e => e.1 == k.pos)),
           got := a.got.filter (fun g => es.any (fun e => e.1 == g.2)) }

/-- A tentative entry at a position. -/
def attnAdd (c : Nat) (h : Hdr) (b : ActHdr) (s : State) : State :=
  let p := h.tindex.toNat
  match getAttn s c h.inst with
  | none => { s with attn := s.attn ++ [{ ctx := Fin.ofNat 16 c, reqtag := h.reqtag, inst := h.inst, seg := h.seg, epoch := b.epoch,
                                           adpslot := b.adpslot, adpgen := b.adpgen, entries := [(p, false)], kv := [], got := [(b.layer, p)],
                                           retired := false, lease := 0 }] }
  | some _ => updAttn c h.inst (fun a =>
      { a with seg := h.seg, retired := false,
               entries := if a.entries.any (fun e => e.1 == p) then a.entries else a.entries ++ [(p, false)],
               got := a.got ++ [(b.layer, p)] }) s

/-- Every tentative entry below a position is committed. -/
def attnCommit (c : Nat) (inst : W32) (below : Nat) (s : State) : State :=
  updAttn c inst (fun a => { a with entries := a.entries.map (fun e => if e.1 < below then (e.1, true) else e) }) s

/-- Tentative entries at a position and above are discarded. -/
def attnDiscard (c : Nat) (inst : W32) (from_ : Nat) (s : State) : State :=
  updAttn c inst (keepAttn (fun e => e.2 || decide (e.1 < from_))) s

/-- The prefix slot of a tag (R403). -/
def tagSlot (t : W32) : Nat := fld t 30 16

/-- The builder's entries a fork reads (R426, R427). -/
def builderOf (s : State) (c slot : Nat) : Option Attn :=
  s.attn.reverse.find? (fun t => t.ctx.val == c && bitAt t.reqtag 31 && tagSlot t.reqtag == slot && !t.entries.isEmpty)

/-- Keys and values of one layer and key/value head that a position sees: its own request's, and for a fork its prefix's, by
position below n (R140, R238, R426). -/
def attnView (s : State) (c : Nat) (inst : W32) (layer head n : Nat) : List (List Byte × List Byte) :=
  match getAttn s c inst with
  | none => []
  | some a =>
    let base := if bitAt a.reqtag 31 ∨ tagSlot a.reqtag = 0 then []
      else match builderOf s c (tagSlot a.reqtag) with
        | none => []
        | some b => b.kv
    let of_ (k : KvEntry) : Bool := k.layer == layer && k.head == head
    (List.range n).map (fun p =>
      match (a.kv.find? (fun k => of_ k && k.pos == p)).or (base.find? (fun k => of_ k && k.pos == p)) with
      | some k => (k.key, k.val)
      | none => ([], []))

/-- Sconces that hold a layer, ascending (R140): where lanterns of it are. -/
def layerSconces (s : State) (c : Nat) (ep : W32) (layer : W16) : List Nat :=
  sortKey id (((epochShards s c ep).filterMap (fun h =>
    if isOwnLan h && h.md.any (fun m => m.layer == layer) then (lanOf s h.ent.target.toNat).map sconceOf else none)).dedup)

/-- ATTN of one layer for a position (R140): its keys and values narrowed to E4M3 and written tentatively, chunk c of every head
in the stack of the layer's sconce number c mod ATT_GROUPS, then attend for each of its 256 query heads. Which of the layer's
outputs are queries, keys and values the manual does not say: free values (DESIGN CHOICE, log 128). -/
def attnLayer (c : Nat) (h : Hdr) (ep : W32) (m : ShardMeta) (s : State) : List W32 × FFlags × State :=
  let pos := h.tindex.toNat
  let w := freeWords 0x14 2048 s
  let part (o : Nat) : List (Byte × FFlags) := ((w.1.drop (128 * o)).take 128).map toE4M3
  let ents : List KvEntry := (List.range 8).map (fun g =>
    { layer := m.layer.toNat, head := g, pos := pos,
      stack := (layerSconces s c ep m.layer).getD (pos / 64 % max 1 m.attGroups.toNat) 0,
      key := (part (2 * g)).map (fun x => x.1), val := (part (2 * g + 1)).map (fun x => x.1) })
  let fw := (w.1.map toE4M3).foldl (fun f x => f.or x.2) FFlags.none
  let s := updAttn c h.inst (fun a =>
    { a with kv := a.kv.filter (fun k => !(k.layer == m.layer.toNat && k.pos == pos)) ++ ents }) w.2
  let q := freeWords 0x15 32768 s
  let rs := (List.range 256).map (fun i =>
    attend ((q.1.drop (128 * i)).take 128) m.attScale m.attGroups.toNat
      (attnView s c h.inst m.layer.toNat (i / 32) (pos + 1)))
  (rs.flatMap (fun r => r.1), rs.foldl (fun f r => f.or r.2) fw, q.2)

/-! ### Retirement of an instance on a package (R340, R413, R536) -/

/-- A message carries an instance's work: an ACT or S40 of it. -/
def isWorkOf (ctx : W16) (inst : W32) (m : Msg) : Bool :=
  (m.hdr.kind == 0x10 || m.hdr.kind == 0x11) && m.hdr.ctx == ctx && m.hdr.inst == inst

/-- Held, queued and retained messages of an instance go (R334, R340). -/
def dropWork (ctx : W16) (inst : W32) (s : State) : State :=
  let p := isWorkOf ctx inst
  let keep (i : Item) : Bool := match i with | .msg m => !p m | .lnk _ => true
  let clean (x : Link) (q : Nat × List Item) : Nat × List Item :=
    if Tab.get 0 x.sentB q.1 = 0 then (q.1, q.2.filter keep) else (q.1, q.2.take 1 ++ (q.2.drop 1).filter keep)
  let s := { s with fab := { s.fab with
    rules := s.fab.rules.map (fun r => { r with held := r.held.filter (fun x => !p x.2) }),
    freed := s.fab.freed.filter (fun x => !p x.2),
    noRoute := s.fab.noRoute.filter (fun m => !p m), kept := s.fab.kept.filter (fun m => !p m),
    reds := s.fab.reds.filter (fun r => !(r.ctx == ctx && r.inst == inst)),
    streams := s.fab.streams.filter (fun r => !(r.ctx == ctx && r.inst == inst)) } }
  (List.range 32).foldl (fun s k => updLink k (fun x =>
    { x with queues := ((x.queues.map (clean x)).filter (fun q => !q.2.isEmpty)) }) s) s

/-- Queued flares of an instance go (R177); so do its waiting activations. -/
def dropFlares (c : Nat) (inst : W32) (s : State) : State :=
  let s := dropQueued c inst s
  let keep (l : List Act) : List Act := l.filter (fun a => a.msg.hdr.inst != inst)
  updCtx c (fun x => { x with acts := keep x.acts, waitRel := keep x.waitRel, waitPfx := keep x.waitPfx }) s

/-- A package treats an instance as retired: its work goes, tentative entries go, the instance is remembered, and a settle
notice is owed (R243, R340, R536). -/
def retireHere (c : Nat) (h : Hdr) (final : Pkg) (s : State) : State :=
  let s := dropFlares c h.inst (dropWork h.ctx h.inst s)
  let keep := nowC s + (if bitAt h.reqtag 31 then leaseCycles s else holdCycles s)
  let s := updAttn c h.inst (fun a => { keepAttn (fun e => e.2) a with retired := true, lease := max a.lease keep }) s
  let same (ctx : W16) (inst : W32) : Bool := ctx == h.ctx && inst == h.inst
  { s with fab := { s.fab with
      retired := s.fab.retired.filter (fun r => !same r.ctx r.inst) ++
        [{ ctx := h.ctx, num := numOf h.reqtag, inst := h.inst, seg := h.seg }],
      settles := s.fab.settles.filter (fun r => !same r.ctx r.inst) ++
        [{ slot := c, ctx := h.ctx, reqtag := h.reqtag, inst := h.inst, seg := h.seg, final := final }] } }

/-! ### Release records -/

/-- The current release record of a number. -/
def relOf (x : Ctx) (num : W16) : Option RelRec := x.rel.find? (fun r => r.num == num && !r.stale)

/-- The release record of an instance. -/
def relInst (x : Ctx) (inst : W32) : Option RelRec := x.rel.find? (fun r => r.started && r.inst == inst)

/-- The admission record of a number. -/
def admOf (x : Ctx) (num : W16) : Option AdmRec := x.adm.find? (fun a => a.num == num)

/-- A progress completion (R390, R404). -/
def postProgress (d : Desc) (res : List W32) (s : State) : State :=
  postCpl d.ring { tag := d.tag, status := 0, kind := 2, opcode := d.opcode, outused := 0, result := res } s

/-- REQ.SUSPECT on the context's ring (R242, R390); the manual gives its RESULT no layout (log 9). -/
def noteSuspect (c : Nat) (s : State) : State :=
  let w := freeWords 0x0581 8 s
  notify (some c) 0x0581 3 w.1 w.2

/-- A SUSPECT amendment (R240, R242). -/
def amendSuspect (c : Nat) (inst : W32) (tindex : W32) (from_ : Pkg) (flicker : W64) (s : State) : State :=
  let now := ltime s
  let r : LedRec := { kind := 2, tflags := 0, res := from_.setWidth 16, tindex := tindex, token := 0, checks := 0,
                      localt := now, aux := flicker }
  let s := updRel c inst (fun x => { x with ledger := { ledAdd r now x.ledger with suspect := x.ledger.suspect + 1 } }) s
  noteSuspect c s

/-- A SUSPECT notice at the final package (R242, R428): an amendment for a released token; for one not yet released, at its
release. A flagged builder makes its prefix suspect. -/
def suspectAtFinal (c : Nat) (h : Hdr) (flicker : W64) (s : State) : State :=
  match (getCtx s c).bind (fun x => relInst x h.inst) with
  | none => s
  | some r =>
    let s := if bitAt r.reqtag 31 then
        updCtx c (fun x =>
          let new : List Prefix := if x.prefixes.any (fun p => p.inst == h.inst) then [] else
            [{ slot := fld r.reqtag 30 16, len := 0, inst := h.inst, num := r.num, epoch := r.ledger.epoch,
               adpgen := r.ledger.adpgen, mode := r.ledger.daylight, live := false, suspect := true, expiry := 0 }]
          { x with prefixes := updIf (fun p => p.inst == h.inst) (fun p => { p with suspect := true }) x.prefixes ++ new }) s
      else s
    if r.released.any (fun p => p.2 == h.tindex) then amendSuspect c h.inst h.tindex h.src flicker s
    else if r.retired then s
    else updRel c h.inst (fun r => { r with flagged := r.flagged ++ [(h.tindex, h.src, flicker)] }) s

/-- A settle notice counts its package once; with all of the path counted the ledger is settled (R243). -/
def settleCount (c : Nat) (inst : W32) (from_ : Pkg) (s : State) : State :=
  match getCtx s c with
  | none => s
  | some x => match relInst x inst with
    | none => s
    | some r =>
      if r.ledger.settledBy.contains from_ || !x.path.contains from_ then s
      else
        let now := ltime s
        let rec_ : LedRec := { kind := 3, tflags := 0, res := from_.setWidth 16, tindex := 0, token := 0, checks := 0,
                               localt := now, aux := 0 }
        let by_ := r.ledger.settledBy ++ [from_]
        updRel c inst (fun r => { r with ledger :=
          { ledAdd rec_ now r.ledger with settledBy := by_, state := if x.path.all (fun p => by_.contains p) then 2 else r.ledger.state } }) s

/-- The gate marks a record for retirement: at once, or at the end of its flare in progress (R411). -/
def retireSoon (c : Nat) (num : W16) (e : Nat) (s : State) : State :=
  match (getCtx s c).bind (fun x => relOf x num) with
  | none => s
  | some r =>
    if r.started && ((getLctx s c).runs.any (fun q => q.req.inst == r.inst) || r.drawn.any (fun d => d.arb)) then
      updRelNum c num (fun r => { r with retiring := some e }) s
    else retireRel c num e s

/-- BROKEN is set when a request ends on a WITHHELD notice of CODE 1 or 2 (R495). -/
def setBroken (code : W16) (s : State) : State :=
  if (code = 1 ∨ code = 2) ∧ s.twin.st ≠ .none_ then { s with twin := { s.twin with broken := true } } else s

/-! ### Twin comparison (R497) -/

/-- Code of a pair state (R499). -/
def TwinSt.code (t : TwinSt) : Nat :=
  match t with | .none_ => 0 | .forming => 1 | .active => 2 | .standby => 3 | .compare => 4 | .single => 5 | .split => 6

/-- The pair changes state: TWIN.STATE on ring 0; SINGLE and SPLIT raise an ember (R390, R505). The manual gives the
notification's RESULT no layout (log 9). -/
def setTwin (st : TwinSt) (s : State) : State :=
  if s.twin.st = st then s
  else
    let w := freeWords 0x0A81 8 s
    let s := notify none 0x0A81 0 w.1 { w.2 with twin := { w.2.twin with st := st } }
    if st = .single ∨ st = .split then
      ember 2 0x0F02 (match s.twin.arg with | some a => a.link0.toNat | none => 0) none st.code s
    else s

/-- The pair compares the tokens of a context. -/
def comparing (s : State) (ctxid : W16) : Bool :=
  s.twin.st == .compare && (match s.twin.arg with | some a => a.ctxid == ctxid | none => false)

/-- Send a twin message of a request to the peer. -/
def sendTwin (kind : Nat) (ctxid : W16) (num : W16) (tindex : W32) (b : Body) (s : State) : State :=
  match s.twin.arg with
  | none => s
  | some a => sendMsg { hdrOf kind a.peer.toNat with ctx := ctxid, reqtag := num.setWidth 32, tindex := tindex } b s

/-- Change the drawn token of an instance. -/
def updDrawn (c : Nat) (inst : W32) (f : Drawn → Drawn) (s : State) : State :=
  updRel c inst (fun r => { r with drawn := r.drawn.map f }) s

/-- Draw for a record from logits (R416, R422). -/
def drawFor (r : RelRec) (z : List W32) (t : Nat) : Draw :=
  sample z (maskAllows r.mask r.gstate) r.topk r.greedy r.temp r.topp r.seed t

/-- The daylight result of an arbitrated token (R497): its logits are not in the manual's reach of this block, free
values. -/
def arbitrate (c : Nat) (inst : W32) (s : State) : State :=
  match (getCtx s c).bind (fun x => (relInst x inst).map (fun r => (x, r))) with
  | none => s
  | some (x, r) => match r.drawn with
    | none => s
    | some d =>
      let w := freeWords 0x32 x.vocab s
      let z := drawFor r w.1 d.tindex.toNat
      let s := updRel c inst (fun r => { r with ledger := ledFlags z.flags r.ledger }) w.2
      match z.token with
      | none => retireRel c r.num 7 s
      | some v =>
        let tok : W32 := BitVec.ofNat 32 v
        let dig := tokDigest x.ctxid r.num d.tindex tok r.ledger.epoch r.ledger.adpgen r.seed
        let s := updDrawn c inst (fun d => { d with token := tok, gnext := maskNext r.mask r.gstate v, clean := false,
                                                    daylight := true, twinWait := false, arb := true, mine := some dig }) s
        sendTwin 0x33 x.ctxid r.num d.tindex (.tresult dig) s

/-- Both sides' results meet (R497): equal ones release the token as COMPARED, unlike ones withhold. -/
def resultMeet (c : Nat) (inst : W32) (s : State) : State :=
  match (getCtx s c).bind (fun x => relInst x inst) with
  | none => s
  | some r => match r.drawn with
    | none => s
    | some d => match d.mine with
      | none => s
      | some dig => match s.twin.results.find? (fun e => numOf e.1 == r.num && e.2.1 == d.tindex) with
        | none => s
        | some e =>
          let s := { s with twin := { s.twin with results := s.twin.results.erase e } }
          if e.2.2 = dig then
            match r.retiring with
            | some e => retireRel c r.num e s
            | none => updDrawn c inst (fun d => { d with arb := false, compared := true }) s
          else withhold 0x0C 0 s

/-- Two token digests meet (R497): equal ones compare; for unlike ones the side with bit 11 clear sends its activation. -/
def digestMeet (c : Nat) (inst : W32) (s : State) : State :=
  match (getCtx s c).bind (fun x => (relInst x inst).map (fun r => (x, r))) with
  | none => s
  | some (x, r) => match r.drawn with
    | none => s
    | some d =>
      if !d.twinWait then s
      else match s.twin.digests.find? (fun e => numOf e.1 == r.num && e.2.1 == d.tindex) with
        | none => s
        | some e =>
          let s := { s with twin := { s.twin with digests := s.twin.digests.erase e } }
          if e.2.2 = tokDigest x.ctxid r.num d.tindex d.token r.ledger.epoch r.ledger.adpgen r.seed then
            updDrawn c inst (fun d => { d with twinWait := false, compared := true }) s
          else
            let s := updDrawn c inst (fun d => { d with twinWait := false, arb := true }) s
            if s.fab.myid.toNat / 2048 % 2 = 0 then
              let s := match d.msg.body with
                | .act a data => sendTwin 0x32 x.ctxid r.num d.tindex (.tact a data) s
                | _ => s
              resultMeet c inst (arbitrate c inst s)
            else s

/-! ### The draw (R409, R416 to R418) -/

/-- A position's logits: block columns 0 to V − 1 of the output projection (R398, R431); where no output projection gave
them here, free values (DESIGN CHOICE, log 129). -/
def actLogits (s : State) (c : Nat) (a : Act) (vocab : Nat) : List W32 × State :=
  match a.msg.body with
  | .act h _ =>
    let proj := (ownMetas s c h.epoch).filter (fun m => m.lkind == 1)
    let outs := a.outs.filter (fun o => proj.any (fun m => m.layer == o.layer))
    if outs.isEmpty then freeWords 0x12 vocab s
    else (((sortKey (fun o => o.part.toNat * 65536 + o.group) outs).flatMap (fun o => o.z)).take vocab, s)
  | _ => freeWords 0x12 vocab s

/-- The final package draws a token from a position's logits. -/
def drawToken (c : Nat) (a : Act) (s : State) : State :=
  let h := a.msg.hdr
  match (getCtx s c).bind (fun x => (relInst x h.inst).map (fun r => (x, r))) with
  | none => s
  | some (x, r) =>
    if r.retired then s
    else
      let w := actLogits s c a x.vocab
      let z := drawFor r w.1 h.tindex.toNat
      let s := w.2
      let s := updRel c h.inst (fun r => { r with ledger := ledFlags z.flags r.ledger }) s
      match z.token with
      | none => retireRel c r.num 7 s
      | some v =>
        let ah : Nat × Nat := match a.msg.body with | .act b _ => (b.resolved.toNat, b.checks.toNat) | _ => (0, 0)
        let cmp := comparing s x.ctxid
        let d : Drawn :=
          { tindex := h.tindex, token := BitVec.ofNat 32 v, gnext := maskNext r.mask r.gstate v, clean := h.clean && a.clean,
            daylight := h.daylight, compared := false, resolved := satOf 8 (ah.1 + a.resolved),
            checks := satOf 32 (ah.2 + a.checks), msg := a.msg, twinWait := cmp, arb := false, mine := none }
        let s := updRel c h.inst (fun r => { r with drawn := some d }) s
        if cmp then
          digestMeet c h.inst (sendTwin 0x31 x.ctxid r.num h.tindex
            (.tdigest (tokDigest x.ctxid r.num h.tindex d.token r.ledger.epoch r.ledger.adpgen r.seed)) s)
        else s

/-- A position's flares are complete on the final package: it samples at the last prompt position of a pass and at generated
positions; other logits are discarded (R409). -/
def finalDone (c : Nat) (a : Act) (s : State) : State :=
  match (getCtx s c).bind (fun x => relInst x a.msg.hdr.inst) with
  | none => s
  | some r =>
    let h : Nat × Nat := match a.msg.body with | .act b _ => (b.resolved.toNat, b.checks.toNat) | _ => (0, 0)
    let s := updRel c r.inst (fun r => { r with ledger := { r.ledger with
      resolved := r.ledger.resolved + BitVec.ofNat 32 (h.1 + a.resolved), checks := r.ledger.checks + BitVec.ofNat 64 (h.2 + a.checks) } }) s
    if !a.msg.hdr.prompt || a.msg.hdr.tindex.toNat == r.passEnd then drawToken c a s else s

/-! ### Forwarding (R237, R239) -/

/-- An activation's formats (R332): code and BLOCKED, by a free choice among the allowed ones. -/
def actFmt (w : W32) : BitVec 4 × Bool :=
  let i := w.toNat % 6
  (BitVec.ofNat 4 (3 + i), decide (i < 4))

/-- An activation for the next layer: its format and element count, and the FP32 values the layer's kernels give, are free values
(log 26); the values are narrowed into the format (R78, R82, R83). -/
def freeAct (s : State) : BitVec 4 × Bool × W32 × (List Byte × FFlags) × State :=
  let w := freeWords 0x10 2 s
  let f := actFmt (w.1.getD 0 0)
  let n := 1 + (w.1.getD 1 0).toNat % 1048576
  let v := freeWords 0x10 n w.2
  (f.1, f.2, BitVec.ofNat 32 n, tensorBytes f.1.toNat f.2 (v.1.map fp), v.2)

/-- The package after this one on a path. -/
def nextOnPath (path : List Pkg) (own : Pkg) : Option Pkg :=
  match path.dropWhile (fun p => p != own) with
  | _ :: n :: _ => some n
  | _ => none

/-- Send an activation for a layer on with its check fields updated (R239). -/
def forwardAct (c : Nat) (a : Act) (layer : Nat) (s : State) : State :=
  match a.msg.body, (getCtx s c).bind (fun x => nextOnPath x.path s.fab.myid) with
  | .act h _, some dst =>
    let f := freeAct s
    let hd := a.msg.hdr
    let b : ActHdr := { h with layer := BitVec.ofNat 16 layer, part := 0, fmt := f.1, nelem := f.2.2.1,
                               resolved := satOf 8 (h.resolved.toNat + a.resolved), checks := satOf 32 (h.checks.toNat + a.checks) }
    sendMsg { hd with dst := dst, clean := hd.clean && a.clean, blocked := f.2.1 } (.act b f.2.2.2.1.1)
      (noteReq c hd.inst f.2.2.2.1.2 f.2.2.2.2)
  | _, _ => s

/-- Where a position goes after a layer: on to the layers held next, to the draw, or to the next package. -/
def continueAt (c : Nat) (a : Act) (layer : Nat) (s : State) : State :=
  match a.msg.body with
  | .act h d =>
    let h' := { h with layer := BitVec.ofNat 16 layer }
    if holdsLayer s c h.epoch layer then
      updCtx c (fun x => { x with acts := x.acts ++ [{ a with msg := { a.msg with body := .act h' d }, done := 0, outs := [], att := [], stage := [] }] }) s
    else if h.final = s.fab.myid then finalDone c a s
    else forwardAct c a layer s
  | _ => s

/-! ### Reductions (R336) -/

/-- Groups added exactly into a partition's sums from group `n` on (R100, R335). -/
def addGroups (n : Nat) (new sums : List S40Group) : List S40Group :=
  (withPos 0 sums).map (fun p =>
    if n ≤ p.1 ∧ p.1 < n + new.length then { p.2 with mant := addL p.2.mant (new.getD (p.1 - n) { exp := 0, mant := [] }).mant } else p.2)

/-- Which reduction a record is of. -/
def redIs (ctx : W16) (inst tindex : W32) (layer part : W16) (r : RedRec) : Bool :=
  r.ctx == ctx && r.inst == inst && r.tindex == tindex && r.layer == layer && r.part == part

/-- Reduction exponents of a partition here: those of its row chains, group after group of its output columns, eight for each 512
block columns (R98, R105, R109, R431). -/
def partExps (s : State) (c : Nat) (ep : W32) (m : ShardMeta) : List Int :=
  let heads := (ownMetas s c ep).filter (fun q => q.layer == m.layer && q.part == m.part && chainPos q == 0)
  (sortKey (fun q => q.lindex.toNat) heads).flatMap (fun q =>
    (List.range (8 * 2 ^ (q.shape.toNat % 8))).map (fun i => q.redexp.getD i 0))

/-- This package's own partial (R97, R98): the column results of the partition's row chains after column scaling (DEDUCED, log 125), at
the metadata's exponents. -/
def ownPartial (exps : List Int) (m : ShardMeta) (outs : List ActOut) : List S40Group × FFlags :=
  let mine := sortKey (fun o => o.group) (outs.filter (fun o => o.layer == m.layer && o.part == m.part))
  s40Groups exps exps.length (mine.flatMap (fun o => o.z))

/-- The 256-bit contributor mask with one bit set. -/
def cbit (i : Nat) : BitVec 256 := 1#256 <<< i

/-- An empty reduction record for an activation at a layer. -/
def redNew (h : Hdr) (epoch adpgen : W32) (final : Pkg) (layer part : W16) (exps : List Int) : RedRec :=
  { ctx := h.ctx, reqtag := h.reqtag, inst := h.inst, seg := h.seg, tindex := h.tindex, layer := layer, part := part,
    epoch := epoch, adpgen := adpgen, final := final, mask := 0, group0 := 0,
    groups := exps.map (fun e => { exp := e, mant := List.replicate 64 0 }), clean := true,
    daylight := h.daylight, resolved := 0, checks := 0, own := false, outs := [], done := none, begun := false, prompt := h.prompt, cls := h.cls,
    adpslot := 0 }

/-- Send a partial to the parent (R335, R336). -/
def sendPartial (m : ShardMeta) (r : RedRec) (s : State) : State :=
  let h : Hdr := { hdrOf 0x11 (m.rparent.toNat % 4096) with
    clean := r.clean, daylight := r.daylight, prompt := r.prompt, cls := r.cls, ctx := r.ctx, reqtag := r.reqtag,
    inst := r.inst, seg := r.seg, tindex := r.tindex }
  sendMsg h (.s40 { epoch := r.epoch, adpgen := r.adpgen, layer := r.layer, part := r.part, group0 := r.group0,
                    ngroups := BitVec.ofNat 16 r.groups.length, checks := r.checks, resolved := r.resolved, final := r.final,
                    cmask := r.mask } (pad256 (r.groups.flatMap s40Bytes))) s

/-- The activation a finished layer goes on with at its root: the column results here and the reduced sums. -/
def redAct (r : RedRec) (outs : List ActOut) : Act :=
  { link := 0, outs := outs, att := [], stage := [], done := 0, clean := true, resolved := 0, checks := 0,
    msg := { vl := 1, hdr := { hdrOf 0x10 0 with clean := r.clean, daylight := r.daylight, prompt := r.prompt, cls := r.cls,
                                                 ctx := r.ctx, reqtag := r.reqtag, inst := r.inst, seg := r.seg, tindex := r.tindex },
             body := .act { epoch := r.epoch, adpgen := r.adpgen, layer := r.layer, part := r.part, fmt := 0, resolved := r.resolved,
                            final := r.final, checks := r.checks, nelem := 0, adpslot := r.adpslot } [] } }

/-- Records of one position and layer. -/
def redSame (r q : RedRec) : Bool := q.ctx == r.ctx && q.inst == r.inst && q.tindex == r.tindex && q.layer == r.layer

/-- A root's partitions of a layer are all converted: the layer goes on from their sums, with their check fields together (R336). -/
def redRoot (c : Nat) (r : RedRec) (s : State) : State :=
  let roots := (reduceParts s c r.epoch r.layer.toNat).filter (fun m => m.rflags.toNat / 2 % 2 == 1)
  let rs := s.fab.reds.filter (redSame r)
  if roots.all (fun m => rs.any (fun q => q.part == m.part && q.done.isSome)) then
    let outs := rs.flatMap (fun q => match q.done with
      | none => []
      | some z => [{ layer := q.layer, part := q.part, group := 0, z := z : ActOut }])
    let own := (rs.flatMap (fun q => q.outs)).dedup
    let other := own.filter (fun o => !outs.any (fun q => q.part == o.part))
    let done := rs.filter (fun q => q.done.isSome)
    let sum := { r with clean := done.all (fun q => q.clean), resolved := satOf 8 (sumN (done.map (fun q => q.resolved.toNat))),
                        checks := satOf 32 (sumN (done.map (fun q => q.checks.toNat))) }
    continueAt c (redAct sum (outs ++ other)) (r.layer.toNat + 1)
      { s with fab := { s.fab with reds := s.fab.reds.filter (fun q => !(redSame r q && q.done.isSome)) } }
  else s

/-- Step 4 of R336: with every contribution in, and its own partial, a root converts once to FP32 and goes on, and any other parent
sends one S40. -/
def redFinish (c : Nat) (r : RedRec) (s : State) : State :=
  match reduceMeta s c r.epoch r.layer.toNat r.part with
  | none => s
  | some m =>
    let own := m.rflags.toNat / 4 % 2 = 1
    let want := if own then m.rmask ||| cbit m.rindex.toNat else m.rmask
    let same := redIs r.ctx r.inst r.tindex r.layer r.part
    if r.mask = want ∧ r.own then
      if m.rflags.toNat / 2 % 2 = 1 then
        let z := s40Floats r.groups
        let s := noteReq c r.inst z.2 { s with fab := { s.fab with reds := updIf same (fun q => { q with done := some z.1 }) s.fab.reds } }
        redRoot c r s
      else sendPartial m r { s with fab := { s.fab with reds := s.fab.reds.filter (fun q => !same q) } }
    else s

/-- Put a record back and try to finish it. -/
def redPut (c : Nat) (r : RedRec) (s : State) : State :=
  let same := redIs r.ctx r.inst r.tindex r.layer r.part
  let s := { s with fab := { s.fab with reds := if s.fab.reds.any same then updIf same (fun _ => r) s.fab.reds
                                                else s.fab.reds ++ [r] } }
  redFinish c r s

/-- This package's flares of a reducing layer are complete: a contributor's partial joins its record, or goes to its parent (R336). -/
def redOwn (c : Nat) (a : Act) (s : State) (m : ShardMeta) : State :=
  match a.msg.body with
  | .act h _ =>
    let hd := a.msg.hdr
    let exps := partExps s c h.epoch m
    let p := ownPartial exps m a.outs
    let base := match s.fab.reds.find? (redIs hd.ctx hd.inst hd.tindex m.layer m.part) with
      | some r => r
      | none => redNew hd h.epoch h.adpgen h.final m.layer m.part exps
    let base := { base with own := true, outs := a.outs, adpslot := h.adpslot, clean := base.clean && hd.clean && a.clean,
                            resolved := satOf 8 (base.resolved.toNat + h.resolved.toNat + a.resolved),
                            checks := satOf 32 (base.checks.toNat + h.checks.toNat + a.checks) }
    if m.rflags.toNat / 4 % 2 = 1 then
      redPut c { base with mask := base.mask ||| cbit m.rindex.toNat, groups := addGroups 0 p.1 base.groups } (noteReq c hd.inst p.2 s)
    else redPut c base s
  | _ => s

/-! ### A position's flares -/

/-- ATTN of the layers a position's flares have computed here (R140). -/
def attnRun (c : Nat) (a : Act) (s : State) : Act × State :=
  match a.msg.body with
  | .act h _ =>
    (actLayers s c h).foldl (fun p layer =>
      match (ownMetas s c h.epoch).find? (fun m => m.layer.toNat == layer && m.attGroups != 0) with
      | none => p
      | some m =>
        let r := attnLayer c a.msg.hdr h.epoch m p.2
        ({ p.1 with att := p.1.att ++ [r.1] }, noteReq c a.msg.hdr.inst r.2.1 r.2.2)) (a, s)
  | _ => (a, s)

/-- A position's check fields go on once, with its first reducing partition (R239). -/
def noCounts (a : Act) : Act :=
  match a.msg.body with
  | .act h d => { a with resolved := 0, checks := 0, msg := { a.msg with body := .act { h with resolved := 0, checks := 0 } d } }
  | _ => a

/-- A position whose layers are computed here goes on, or joins its reductions (R237, R336). -/
def actGoOn (c : Nat) (a : Act) (s : State) : State :=
  match a.msg.body with
  | .act h _ =>
    let last := (actLayers s c h).getLastD h.layer.toNat
    let ms := reduceParts s c h.epoch last
    if ms.isEmpty then continueAt c a (last + 1) s
    else (withPos 0 ms).foldl (fun s m => redOwn c (if m.1 = 0 then a else noCounts a) s m.2) s
  | _ => s

/-- A loaded kernel that a layer's metadata names runs as a stage of the layer (R142), on the engines of the lanterns that hold the
layer's output, from its first entry point (DESIGN CHOICE, log 130); the position waits for it. -/
def layerStage (c : Nat) (a : Act) (h : ActHdr) (p : List Nat × State) (layer : Nat) : List Nat × State :=
  let s := p.2
  let ms := (ownMetas s c h.epoch).filter (fun m => m.layer.toNat == layer)
  match (ms.findSome? (fun m => m.kernel)).bind (fun d =>
      (getCtx s c).bind (fun x => x.kernels.find? (fun k => k.image.digest == d && !k.unloading))) with
  | none => p
  | some k =>
    let ls := (epochShards s c h.epoch).filterMap (fun e =>
      if isOwnLan e && e.md.any (fun m => m.layer.toNat == layer && chainPos m == 0) then
        (lanOf s e.ent.target.toNat).map (fun q => (Fin.ofNat 1088 q : Lan)) else none)
    if ls = [] then p
    else (p.1 ++ [s.invNext], startInv c k 0 ls none (some (a.msg.hdr.reqtag, a.msg.hdr.inst)) s)

/-- Every flare of a position on this package is complete (R237): ATTN runs, and the kernels its layers name (R140, R142). -/
def actComplete (c : Nat) (a : Act) (s : State) : State :=
  let p := attnRun c a s
  match a.msg.body with
  | .act h _ =>
    let q := (actLayers s c h).foldl (layerStage c p.1 h) ([], p.2)
    if q.1.isEmpty then actGoOn c p.1 q.2
    else updCtx c (fun x => { x with acts := x.acts ++ [{ p.1 with stage := q.1 }] }) q.2
  | _ => s

/-- Positions whose stages have ended go on (R142). -/
def kickStages (c : Nat) (s : State) : State :=
  match getCtx s c with
  | none => s
  | some x =>
    let ended (a : Act) : Bool := !a.stage.isEmpty && a.stage.all (fun i => !s.invs.any (fun v => v.id == i))
    (x.acts.filter ended).foldl (fun s a => actGoOn c { a with stage := [] } s)
      (updCtx c (fun x => { x with acts := x.acts.filter (fun a => !ended a) }) s)

/-- A position answers its entry package's window when its layer-0 flares complete there (R407). -/
def answerPos (c : Nat) (inst tindex : W32) (s : State) : State :=
  let f (a : AdmRec) : AdmRec := { a with unanswered := a.unanswered.filter (fun p => p != tindex.toNat) }
  updCtx c (fun x => { x with adm := updIf (fun a => a.admitted && a.inst == inst) f x.adm }) s

/-- A flare of a position completes with its check results and the column results of its row chains (R110, R239). -/
def flareForAct (c : Nat) (inst tindex : W32) (clean : Bool) (resolved checks : Nat) (outs : List ActOut) (s : State) : State :=
  let is (a : Act) : Bool := a.msg.hdr.inst == inst && a.msg.hdr.tindex == tindex && a.stage.isEmpty
  match (getCtx s c).bind (fun x => takeFirst is x.acts) with
  | none => s
  | some (a, rest) =>
    let a := { a with outs := a.outs ++ outs, done := a.done + 1, clean := a.clean && clean, resolved := a.resolved + resolved, checks := a.checks + checks }
    match a.msg.body with
    | .act h _ =>
      let s := if h.layer = 0 ∧ (layerParts s c h.epoch 0).length ≤ a.done then answerPos c inst tindex s else s
      if actNeed s c h ≤ a.done then actComplete c a (updCtx c (fun x => { x with acts := rest }) s)
      else updCtx c (fun x => { x with acts := updIf is (fun _ => a) x.acts }) s
    | _ => s

end Sys2Proof.Machine
end

