-- ==== Sys2Proof/Machine/Acts.lean ====
section
/-! DEFINITION. Activations at this package (R333, R408, R412, R427), their first step at a final package (R403), and the
completion of a flare (R155, R227, R237). -/

namespace Sys2Proof.Machine

/-! ### An activation arrives -/

/-- A position whose entries here are freed is dropped with an ember (R414, R427). -/
def dropFreed (a : Act) (s : State) : State :=
  raiseEmber { emb 2 0x0E02 0 (some a.msg.hdr.ctx) a.msg.hdr.tindex.toNat with reqtag := a.msg.hdr.reqtag } s

/-- EPOCH_MISS to the final package (R333). -/
def epochMiss (h : Hdr) (b : ActHdr) (s : State) : State :=
  let e := { emb 2 0x0A03 b.layer.toNat (some h.ctx) b.epoch.toNat with reqtag := h.reqtag }
  sendNotice 0x26 b.final (ridOf h) h.tindex (b.epoch.setWidth 64) (b.layer.setWidth 32) 0 (raiseEmber e (tstatSet 6 s))

/-- The generations an adapter slot holds loaded (R448). -/
def loadedGens (x : Ctx) (slot : Nat) : List AdpGen := (Tab.get [] x.adapters slot).filter (fun g => g.cmd.isNone)

/-- The package lacks what the activation needs: its layer under its epoch, or the generation bound, where the slot's
stage is held (R333, log 27). -/
def actLacks (s : State) (c : Nat) (x : Ctx) (b : ActHdr) : Bool :=
  let gens := loadedGens x b.adpslot.toNat
  !holdsLayer s c b.epoch b.layer.toNat || (b.adpgen != 0 && !gens.isEmpty && !(gens.any (fun g => g.gen == b.adpgen)))

/-- Customer kernels of the layers computed here (R142). -/
def actKernels (s : State) (c : Nat) (b : ActHdr) : List Digest :=
  let ls := actLayers s c b
  (((ownMetas s c b.epoch).filter (fun m => ls.contains m.layer.toNat)).filterMap (fun m => m.kernel)).dedup

/-- The ledger records the kernels in order of first use (R142, R240). -/
def ledKernels (ks : List Digest) (l : Ledger) : Ledger :=
  if ks = [] then l
  else { l with flags := setBit l.flags 2, kernels := l.kernels ++ ks.filter (fun k => !(l.kernels.contains k)) }

/-- Keep positions of one request in ascending order, after what already waits (R408). -/
def insAct (a : Act) : List Act → List Act
  | [] => [a]
  | b :: t =>
    if b.msg.hdr.inst == a.msg.hdr.inst && decide (a.msg.hdr.tindex.toNat < b.msg.hdr.tindex.toNat) then a :: b :: t
    else b :: insAct a t

/-- The predecessor of a prompt position has arrived in its layer, or is the prefix's (R408, R426); other positions follow a NEXT. -/
def predHere (s : State) (c : Nat) (h : Hdr) (b : ActHdr) : Bool :=
  let p := h.tindex.toNat
  let own := match getAttn s c h.inst with | some t => t.got.contains (b.layer, p - 1) | none => false
  let pre := if bitAt h.reqtag 31 ∨ tagSlot h.reqtag = 0 then false
    else match builderOf s c (tagSlot h.reqtag) with | some t => t.entries.any (fun e => e.1 == p - 1) | none => false
  !h.prompt || p == 0 || own || pre

/-- The package takes a position: earlier entries commit, a tentative one is made, its flares are awaited (R238, R333);
a prompt position that is early is held (R408). -/
def actTake (c : Nat) (x : Ctx) (a : Act) (s : State) : State :=
  match a.msg.body with
  | .act b _ =>
    let h := a.msg.hdr
    if actLacks s c x b then epochMiss h b s
    else if !predHere s c h b then updCtx c (fun x => { x with waitPfx := x.waitPfx ++ [a] }) s
    else
      let s := if h.prompt then s else attnCommit c h.inst h.tindex.toNat s
      let s := attnAdd c h b s
      let s := updRel c h.inst (fun r => { r with ledger := ledKernels (actKernels s c b) r.ledger }) s
      updCtx c (fun x => { x with acts := insAct a x.acts }) s
  | _ => s

/-- A position reaches the attention state: a fork's first waits for the builder, renews its lease or is dropped; a resumed
one whose entries are gone is dropped (R414, R427). -/
def actArrive (c : Nat) (x : Ctx) (a : Act) (s : State) : State :=
  let h := a.msg.hdr
  if (getAttn s c h.inst).isSome then actTake c x a s
  else if h.seg ≠ 0 then dropFreed a s
  else if bitAt h.reqtag 31 ∨ tagSlot h.reqtag = 0 then actTake c x a s
  else match builderOf s c (tagSlot h.reqtag) with
    | none => dropFreed a s
    | some t =>
      if t.entries.any (fun e => !e.2) then updCtx c (fun x => { x with waitPfx := x.waitPfx ++ [a] }) s
      else actTake c x a (updAttn c t.inst (fun t => { t with lease := max t.lease (nowC s + leaseCycles s) }) s)

/-- The release record learns its request from the first activation (R403, R404). -/
def relStart (c : Nat) (x : Ctx) (r : RelRec) (h : Hdr) (b : ActHdr) (s : State) : State :=
  let origin := x.path.headD 0
  let l := { r.ledger with reqtag := h.reqtag, origin := origin, epoch := b.epoch, adpgen := b.adpgen }
  let s := updRelNum c r.num (fun r => { r with started := true, inst := h.inst, seg := h.seg, reqtag := h.reqtag,
                                                entry := origin, ledger := { l with digest := l.d0 } }) s
  let log : LogRec :=
    { num := r.num, inst := h.inst, prompt := r.prompt, seed := r.seed, greedy := r.greedy, topk := r.topk, topp := r.topp,
      temp := r.temp, maxtok := r.maxtok, mdigest := r.mdigest, epoch := b.epoch, adpgen := b.adpgen, daylight := r.daylight,
      tokens := [], digest := l.d0 }
  let s := if x.log then updCtx c (fun x => { x with logs := x.logs ++ [log] }) s else s
  let dig := match r.mdigest with | some d => digWords d | none => [0, 0, 0, 0]
  postProgress r.cmd ([h.reqtag, b.epoch, b.adpgen, 0] ++ dig) s

/-- An activation at its final package finds its release record, or waits for one (R403, R412). -/
def actAtFinal (c : Nat) (x : Ctx) (a : Act) (s : State) : State :=
  let h := a.msg.hdr
  let wait := updCtx c (fun x => { x with waitRel := x.waitRel ++ [a] }) s
  match a.msg.body with
  | .act b _ =>
    match relOf x (numOf h.reqtag) with
    | none => wait
    | some r =>
      if r.retired ∨ (r.started ∧ (r.inst ≠ h.inst ∨ r.seg ≠ h.seg)) then wait
      else
        let s := if r.started then s else relStart c x r h b s
        if r.daylight != h.daylight then retireRel c r.num 9 s else actArrive c x a s
  | _ => s

/-- Held positions look again, in ascending order (R408, R427). -/
def kickPfx (c : Nat) (s : State) : State :=
  match getCtx s c with
  | none => s
  | some x => (sortKey (fun a => a.msg.hdr.tindex.toNat) x.waitPfx).foldl (fun s a => match getCtx s c with
      | none => s
      | some y => actArrive c y a s) (updCtx c (fun x => { x with waitPfx := [] }) s)

/-- An accepted activation (R333, R412). Positions that it lets go on follow it (R408). -/
def actStart (c : Nat) (a : Act) (s : State) : State :=
  match getCtx s c with
  | none => s
  | some x => match a.msg.body with
    | .act b _ => kickPfx c (if b.final = s.fab.myid then actAtFinal c x a s else actArrive c x a s)
    | _ => s

/-- Waiting activations of a number look for their record again (R412). -/
def kickRel (c : Nat) (num : W16) (s : State) : State :=
  match getCtx s c with
  | none => s
  | some x =>
    let go := x.waitRel.filter (fun a => numOf a.msg.hdr.reqtag == num)
    go.foldl (fun s a => actStart c a s)
      (updCtx c (fun x => { x with waitRel := x.waitRel.filter (fun a => numOf a.msg.hdr.reqtag != num) }) s)

/-! ### A flare completes (R155) -/

/-- A supplied kernel on a lantern of the flare re-runs: the lantern keeps its output area and slot until it ends clean (R148). -/
def reruns (s : State) (r : FlareRun) : Bool :=
  r.lans.any (fun q => (threadsOf (getEng s q.2.1.val)).any (fun t => decide (t.1 < 8) && t.2.rerun && t.2.inst == r.req.inst))

/-- The flare is complete: every unit launched, every code valid, every check passed, and no freeze can reach it. -/
def runDone (s : State) (r : FlareRun) : Bool :=
  r.plans.all (fun p => p.units.isEmpty) && r.flying == 0 && r.redo == 0 &&
    (match r.last with | none => true | some f => decide (f + 5 ≤ nowF s)) &&
    !(s.lmp.grants.any (fun g => match g with | .unit id _ _ => id == r.id | _ => false)) && !reruns s r

/-- Row-sum groups a daylight flare checks: four for each slice and pass with an input (R221, R233). -/
def daylightChecks (s : State) (r : FlareRun) : Nat :=
  sumN (r.lans.map (fun q =>
    let v := getLan s q.2.1.val
    let x := getSlot v q.2.2
    sumN ((List.range 16).map (fun lw =>
      let sl := lw % shapeQ v
      4 * ((slicePasses x sl).filter (fun lp => !(driven x lp sl 0 2048).isEmpty)).length))))

/-! ### The integer sums of a flare (R107 to R109) -/

/-- One wick's slice value in one pass: logical wick, slice of the lantern, pass, and its 512 columns. -/
structure WickVal where
  lw : Nat
  slice : Nat
  lpass : Bool
  vals : List Int
deriving DecidableEq, Repr

/-- The slice values of a flare on a lantern: sums over fired groups (R107); in daylight the exact sums of the quantized inputs and
the shadow weights (R233). -/
def wickVals (s : State) (c : Nat) (r : FlareRun) (q : LLan × Lan × Bool) : List WickVal :=
  let v := getLan s q.2.1.val
  let x := getSlot v q.2.2
  if r.req.daylight then
    (List.range 16).flatMap (fun lw =>
      let sl := lw % shapeQ v
      (slicePasses x sl).map (fun lp =>
        { lw := lw, slice := sl, lpass := lp, vals := exactVals s c (epochOn v r.req.epoch) q.1.val lw (driven x lp sl 0 2048) }))
  else
    (v.accs.filter (fun a => a.flare == r.id)).map (fun a =>
      { lw := a.lw.val, slice := a.slice, lpass := a.lpass, vals := sliceVals (a.groups.map (fun g => g.vals)) })

/-- A list of columns filled up to 512. -/
def pad512 (l : List Int) : List Int := (l ++ List.replicate (512 - l.length) 0).take 512

/-- The sums of some slices per block column (R105, R108): column c of wick w is block column 512 × ⌊w ÷ Q⌋ + c, and an h pass counts
16 times (R92). -/
def sumCols (q : Nat) (wide : Nat → Bool) (ws : List WickVal) : List Int :=
  (List.range (16 / q)).flatMap (fun p =>
    pad512 ((ws.filter (fun w => w.lw / q == p)).foldl (fun t w =>
      addL t (if !w.lpass && wide w.slice then w.vals.map (fun v => 16 * v) else w.vals)) []))

/-- A lantern's output area after a flare (R102, R108): A over its non-fallback slices, and B of each fallback slice by its place in
the vector. -/
def outArea (q : Nat) (x : Slot) (ws : List WickVal) : OutArea :=
  let fb (j : Nat) : Bool := x.fallback.any (fun p => p.1 == j)
  let wide (j : Nat) : Bool := x.twoPass || fb j
  { a := sumCols q wide (ws.filter (fun w => !fb w.slice)),
    b := x.fallback.map (fun p => (x.base + p.1, sumCols q wide (ws.filter (fun w => w.slice == p.1)))) }

/-! ### FINISH (R93, R110) -/

/-- The row a vector's element has in a chain, as shard, logical wick of a column part, and row (R105, R109). -/
def outlierW (s : State) (c : Nat) (t : ChainRun) (i col : Nat) : Int :=
  let sl := i / 2048
  shadowW s c t.epoch ((t.lls.map (fun x => x.val)).getD (sl / t.q) 1024) (col / 512 * t.q + sl % t.q) (i % 2048) (col % 512)

/-- F_c: the fallback slices in ascending order (R93). -/
def termF (t : ChainRun) (col : Nat) : W32 × FFlags :=
  (t.fbAll.map (fun p => (p.2, ((t.b.find? (fun b => b.1 == p.1)).map (fun b => b.2.getD col 0)).getD 0))).foldl (fun f p =>
    let x := fpScaled p.2 0
    let y := toFp ((fp x.1).shift (-p.1))
    let z := fadd f.1 y.1
    (z.1, ((f.2.or x.2).or y.2).or z.2)) (0, FFlags.none)

/-- C_c: the outliers in ascending order, each times the integer weight of the stack shadow (R93). -/
def termC (s : State) (c : Nat) (t : ChainRun) (col : Nat) : W32 × FFlags :=
  t.outl.foldl (fun f o =>
    let r := rOf o.2
    let p := fpScaled (r.m * outlierW s c t o.1 col) r.e
    let z := fadd f.1 p.1
    (z.1, (f.2.or p.2).or z.2)) (0, FFlags.none)

/-- y_c (R93) and z_c = fl32(y_c × σ_c) (R110) of one block column. -/
def finishCol (s : State) (c : Nat) (t : ChainRun) (col : Nat) : W32 × FFlags :=
  let a := fpScaled (t.a.getD col 0) 0
  let f := termF t col
  let k := termC s c t col
  let m := toFp (((fp a.1).shift (-t.k)).add (fp f.1))
  let y := fadd m.1 k.1
  let z := fmul y.1 (t.sigma.getD col 0)
  (z.1, ((((a.2.or f.2).or k.2).or m.2).or y.2).or z.2)

/-- FINISH at a chain's head once every partial is in (R110): its column results, with the flags in the ledger and NONFIN in the head's
engine. -/
def finishChain (c : Nat) (inst : W32) (t : ChainRun) (s : State) : ActOut × State :=
  let z := (List.range (512 * (16 / t.q))).map (finishCol s c t)
  let f := flagsOf z
  let s := if f.nonfin then updEng t.head.val (fun e => { e with stat := setBit e.stat 0 }) s else s
  ({ layer := t.layer, part := t.part, group := t.group, z := z.map (fun x => x.1) }, noteReq c inst f s)

/-! ### The end of a flare -/

/-- A thread's own flares are all complete: WAITF ends (R127). -/
def wakeFlare (c : Nat) (l : Lan) (t : ThreadI) (s : State) : State :=
  let x := getLctx s c
  let mine (q : FlareReq) : Bool := q.lan == l && q.thread == t
  if x.queue.any mine || x.refire.any mine || x.runs.any (fun r => mine r.req) || x.tails.any (fun r => mine r.req) then s
  else updEng l.val (fun e => { e with threads := Tab.upd none e.threads t.val (fun o => o.map (fun th =>
    if th.wait = .flare then { th with wait := .run } else th)) }) s

/-- The end of a flare in progress retires a request marked for it (R411). -/
def retireDue (c : Nat) (inst : W32) (s : State) : State :=
  let x := getLctx s c
  if x.runs.any (fun q => q.req.inst == inst) || x.tails.any (fun q => q.req.inst == inst) then s
  else match (getCtx s c).bind (fun x => relInst x inst) with
    | none => s
    | some r => match (if r.drawn.any (fun d => d.arb) then none else r.retiring) with
      | none => s
      | some e => if r.stale then s else retireRel c r.num e s

/-- A flare whose chains are all finished passes its results on (R110, R237). -/
def finishTail (c : Nat) (t : FlareTail) (s : State) : State :=
  let s := flareForAct c t.req.inst t.req.tindex t.clean t.resolved t.checks t.outs s
  retireDue c t.req.inst (wakeFlare c t.req.lan t.req.thread s)

/-- Finish the chains of a flare whose partials are all in; with none left the flare passes on. -/
def runTail (c : Nat) (t : FlareTail) (s : State) : State :=
  let ready := t.chains.filter (fun q => q.parts.isEmpty)
  let p := ready.foldl (fun p q =>
    let r := finishChain c t.req.inst q p.2
    (p.1 ++ [r.1], r.2)) (([] : List ActOut), s)
  let t := { t with chains := t.chains.filter (fun q => !q.parts.isEmpty), outs := t.outs ++ p.1 }
  let drop (s : State) : State := updLctx c (fun x => { x with tails := x.tails.filter (fun q => q.id != t.id) }) s
  if t.chains.isEmpty then finishTail c t (drop p.2)
  else updLctx c (fun x => { x with tails := x.tails.filter (fun q => q.id != t.id) ++ [t] }) p.2

/-- A member's sums join its chain (R109): A exactly, B by slice. -/
def addPart (m : Nat) (o : OutArea) (t : ChainRun) : ChainRun :=
  { t with a := addL t.a o.a, b := t.b ++ o.b, parts := t.parts.filter (fun p => p.1 != m), fails := t.fails.filter (fun i => i != m) }

/-- A chain partial reaches a head (R109): it joins the sums, or fails its check (R119, R225). -/
def takePartial (l : Lan) (p : ChainPartial) (good : Bool) (s : State) : State :=
  match (List.range 16).findSome? (fun c => ((getLctx s c).tails.find? (fun t => t.id == p.flare)).map (fun t => (c, t))) with
  | none => s
  | some (c, t) => match t.chains.find? (fun q => q.head == l) with
    | none => s
    | some q => match q.parts.find? (fun m => m.1 == p.member) with
      | none => s
      | some m =>
        let again := q.fails.contains p.member
        let put (f : ChainRun → ChainRun) : FlareTail := { t with chains := updIf (fun x => x.head == l) f t.chains }
        if good then
          let s := if again then blockRetried (sconceOf l.val) (ctxIdOf s (some (Fin.ofNat 16 c))) s else s
          let t := put (addPart p.member m.2)
          runTail c { t with clean := t.clean && !again, resolved := if again then t.resolved + 1 else t.resolved,
                             checks := t.checks + (4 * m.2.a.length + 255) / 256 } s
        else
          if again then blockLost l.val s
          else runTail c (put (fun x => { x with fails := p.member :: x.fails })) s

/-- CHAIN_PARTIAL_ARRIVAL (R109). -/
def execChainPartialArrival (l : Lan) (p : ChainPartial) (good : Bool) (s : State) : Host.Outcome State Fault Refusal :=
  .next (takePartial l p good s)

/-- The row chain a lantern of a flare heads, with its own sums in and the members' on their way (R109); none for a member. -/
def flareChain (s : State) (r : FlareRun) (areas : List (Lan × OutArea)) (q : LLan × Lan × Bool) : Option ChainRun :=
  let v := getLan s q.2.1.val
  match lanMeta s q.2.1.val r.req.epoch with
  | none => none
  | some m =>
    let peers := (r.lans.filterMap (fun p => (lanMeta s p.2.1.val r.req.epoch).map (fun n => (n, p)))).filter (fun p =>
      p.1.layer == m.layer && p.1.part == m.part && chainGroup p.1 == chainGroup m)
    let x := getSlot v q.2.2
    let area (l : Lan) : OutArea := ((areas.find? (fun a => a.1 == l)).map (fun a => a.2)).getD { a := [], b := [] }
    if chainPos m = 0 then
      some { head := q.2.1, lls := (sortKey (fun p => chainPos p.1) peers).map (fun p => p.2.1), layer := m.layer, part := m.part,
             group := chainGroup m, q := shapeQ v, epoch := epochOn v r.req.epoch, k := x.k, fbAll := x.fbAll, outl := x.outl, sigma := m.scale,
             a := (area q.2.1).a, b := (area q.2.1).b,
             parts := (peers.filter (fun p => chainPos p.1 ≠ 0)).map (fun p => (chainPos p.1, area p.2.2.1)), fails := [] }
    else none

/-- A lantern at the completion of a flare: the audit copy, its sums in the output area, the slot FREE, the counters (R102, R103,
R121, R227). -/
def closeLan (c : Nat) (r : FlareRun) (areas : List (Lan × OutArea)) (s : State) (q : LLan × Lan × Bool) : State :=
  let l := q.2.1.val
  let copy := auditCopy s c r q.1.val l q.2.2
  let marked := r.marks.any (fun d => d.val == l)
  updLan l (fun v =>
    let v := if marked then { v with audits := v.audits ++ [copy], openMarks := v.openMarks - 1 } else v
    let v := { v with flares := v.flares.inc, accs := v.accs.filter (fun a => a.flare != r.id),
                      out := (areas.find? (fun a => a.1 == q.2.1)).map (fun a => a.2),
                      area := Tab.drop (fun k => decide (0x10000 ≤ k) && decide (k < 0x18000)) v.area }
    setSlot v q.2.2 Slot.init) s

/-- Whether a customer's flare was a lookup query with no driven bit pair (R57). -/
def emptyQuery (s : State) (r : FlareRun) : Bool :=
  r.first.isNone && !r.lans.isEmpty && r.lans.all (fun q =>
    let v := getLan s q.2.1.val
    (List.range 16).all (fun lw => (getWick s q.2.1.val (mapOf v lw)).mode == 1))

/-- An invocation notes whether every flare it has completed was an empty query (R57). -/
def noteEmpty (old : State) (r : FlareRun) (s : State) : State :=
  match (threadAt s r.req.lan.val r.req.thread.val).bind (fun t => t.inv) with
  | none => s
  | some id => { s with invs := updIf (fun v => v.id == id) (fun v => { v with empty := some (v.empty.getD true && emptyQuery old r) }) s.invs }

/-- Flags of the quantization of a flare's vector, for its request's ledger (R78, R80). -/
def vecFlags (s : State) (r : FlareRun) : FFlags :=
  r.lans.foldl (fun f q =>
    let x := getSlot (getLan s q.2.1.val) q.2.2
    f.or ⟨x.range, !x.nonfin.isEmpty⟩) FFlags.none

/-- Close a complete flare: its sums go to the output areas; a supplied one's row chains begin to finish, and a customer's thread
reads its own (R102, R109, R143). -/
def closeRun (c : Nat) (r : FlareRun) (s : State) : State :=
  let checks := if r.req.daylight then daylightChecks s r else r.checks
  let areas := r.lans.map (fun q =>
    (q.2.1, outArea (shapeQ (getLan s q.2.1.val)) (getSlot (getLan s q.2.1.val) q.2.2) (wickVals s c r q)))
  let chains := if r.req.thread.val < 8 then r.lans.filterMap (flareChain s r areas) else []
  let f := vecFlags s r
  let old := s
  let s := r.lans.foldl (closeLan c r areas) s
  let s := updLctx c (fun x => { x with runs := x.runs.filter (fun q => q.id != r.id), winFlares := x.winFlares + 1,
                                        winFallback := if r.hadFallback then x.winFallback + 1 else x.winFallback }) s
  let s := noteEmpty old r (noteReq c r.req.inst f (drainBroadcasts s))
  runTail c { id := r.id, req := r.req, clean := r.clean, resolved := r.resolved, checks := checks, chains := chains, outs := [] } s

/-- The lantern of a daylight flare whose exact sums miss the predictions of a check store (R221, R233). A wick that no longer holds the
flare's epoch has no store for it. -/
def daylightBad (s : State) (c : Nat) (r : FlareRun) : Option Nat :=
  (r.lans.find? (fun q =>
    let v := getLan s q.2.1.val
    let x := getSlot v q.2.2
    let ep := epochOn v r.req.epoch
    (List.range 16).any (fun lw =>
      let w := getWick s q.2.1.val (mapOf v lw)
      let sl := lw % shapeQ v
      w.srcEpoch == ep && w.src.map (fun p => (p.1.val, p.2.val)) == some (q.1.val, lw) &&
        (slicePasses x sl).any (fun lp =>
          let ins := driven x lp sl 0 2048
          !exactCheck w (shadowW s c ep q.1.val lw) ins (exactVals s c ep q.1.val lw ins))))).map (fun q => q.2.1.val)

/-- FLARE_COMPLETE (R155): the oldest complete flare of the context closes. A daylight flare that fails its exact check is computed again
from the shadow, to the same sums, and the snuffer withholds (R231). -/
def flareComplete (c : Nat) (s : State) : State :=
  if s.snuf.wheld then s
  else match (getLctx s c).runs.find? (runDone s) with
    | none => s
    | some r => match if r.req.daylight then daylightBad s c r else none with
      | some l => withhold 0x04 l s
      | none => closeRun c r s

end Sys2Proof.Machine
end

