-- ==== Sys2Proof/Machine/Directory.lean ====
section
/-! DEFINITION. The home directory of the Garvy Link endpoint (R368, R369, R375): recalls, their ends, poisoned blocks, the
device accesses that look blocks up, and window entries that go while blocks are tracked under them. -/

namespace Sys2Proof.Machine

/-! ### Device writes -/

/-- One I32 word of an atomic (R136): ADD saturates (R78). -/
def atomicWord (op : Nat) (a b : W32) : W32 :=
  if op = 0 then BitVec.ofInt 32 (clampI (-2147483648) 2147483647 (a.toInt + b.toInt))
  else if op = 1 then (if b.toInt < a.toInt then b else a)
  else if op = 2 then (if a.toInt < b.toInt then b else a)
  else if op = 3 then a &&& b
  else a ||| b

/-- Little-endian words of a byte string. -/
def wordsOf (l : List Byte) : List W32 :=
  (List.range (l.length / 4)).map (fun i => BitVec.ofNat 32 (ofLe ((l.drop (4 * i)).take 4)))

/-- A device write takes effect: whole blocks with a fresh code (R135, R224). -/
def DevWrite.run (d : DevWrite) (m : Mem) : Mem :=
  match d.op with
  | none => storeBytes m d.place d.data
  | some op =>
    let old := wordsOf (memRead m d.place d.data.length)
    let new := (old.zip (wordsOf d.data)).map (fun p => atomicWord op p.1 p.2)
    storeBytes m d.place (new.flatMap (fun w => leBytes 4 w.toNat))

/-- An ADD of the write saturates (R78, R136). -/
def DevWrite.range (d : DevWrite) (m : Mem) : Bool :=
  d.op == some 0 && ((wordsOf (memRead m d.place d.data.length)).zip (wordsOf d.data)).any (fun p =>
    let x := p.1.toInt + p.2.toInt
    decide (x < -2147483648 ∨ 2147483647 < x))

/-- One device write; an ADD that saturates sets RANGE in its request's ledger (R78). -/
def runWrite (s : State) (d : DevWrite) : State :=
  let r := d.range s.mem
  let s := { s with mem := d.run s.mem }
  match d.req with
  | none => s
  | some q => noteReq q.1.val q.2 ⟨r, false⟩ s

/-- Device writes in their order. -/
def runWrites (ds : List DevWrite) (s : State) : State := ds.foldl runWrite s

/-! ### Entries -/

/-- The directory entry of a block number. -/
def dirGet (s : State) (k : Nat) : Option DirEnt := Tab.get none s.gvl.dir k

/-- Write or free an entry. -/
def dirPut (k : Nat) (e : Option DirEnt) (s : State) : State :=
  { s with gvl := { s.gvl with dir := Tab.set none s.gvl.dir k e } }

/-- Entries in use of the set of a block (R368: 16 ways, 65,536 entries). -/
def dirSet (s : State) (k : Nat) : List (Nat × DirEnt) :=
  s.gvl.dir.filterMap (fun p => if p.1 % 4096 = k % 4096 then p.2.map (fun e => (p.1, e)) else none)

/-- A new entry. -/
def dirAlloc (k : Nat) (st : DirSt) (s : State) : State :=
  dirPut k (some { st := st, order := s.gvl.dirOrder, why := .read, tag := 0, held := [], writes := [] })
    { s with gvl := { s.gvl with dirOrder := s.gvl.dirOrder + 1 } }

/-- Start a recall: SNPDATA for a device read, else SNPINV (R368). An entry whose recall runs is left alone. -/
def dirRecall (k : Nat) (why : Recall) (s : State) : State :=
  match dirGet s k with
  | none => s
  | some e =>
    if e.st = .r then s
    else
      let tag := s.gvl.nextTag
      let opc := match why with | .read => 0x22 | _ => 0x21
      let m := { gmsg opc with tag := tag, addr := BitVec.ofNat 52 (k * 256) }
      dirPut k (some { e with st := .r, why := why, tag := tag })
        { s with gvl := { s.gvl with nextTag := tag + 1, qSnp := s.gvl.qSnp ++ [m] } }

/-- The context whose window admits a block of the host window: the owner of an ember about it. -/
def ownerOfBlock (s : State) (k : Nat) : Option CtxI :=
  (List.finRange 16).find? (fun c => admits s (.host c.val) false (k * 256) || admits s (.host c.val) true (k * 256))

/-- Poison a block (R369): zeros with a code no data has, counted, with an ember to the owning context. -/
def poisonHost (k : Nat) (s : State) : State :=
  let s := match placeOf s (k * 256) with
    | none => s
    | some p => { s with mem := poisonBlock (memWrite s.mem p (List.replicate 256 0)) p }
  let s := { s with gvl := { s.gvl with poisoned := satInc s.gvl.poisoned, err := setBit s.gvl.err 5 } }
  ember 2 0x0B03 0 (ctxIdOf s (ownerOfBlock s k)) k s

/-! ### Device accesses (R368) -/

/-- A device reads a block: an X copy is recalled first. -/
def devReadBlock (k : Nat) (s : State) : State :=
  match dirGet s k with
  | some e => if e.st = .x then dirRecall k .read s else s
  | none => s

/-- A device read of a block may complete: no recall of it runs. -/
def devReadable (s : State) (k : Nat) : Bool :=
  match dirGet s k with
  | some e => e.st == .s
  | none => true

/-- A device writes inside one block: at once, or after the companion's copy is recalled. -/
def devWriteBlock (k : Nat) (d : DevWrite) (s : State) : State :=
  match dirGet s k with
  | none => runWrites [d] s
  | some _ =>
    let s := dirRecall k .write s
    match dirGet s k with
    | some e => dirPut k (some { e with writes := e.writes ++ [d] }) s
    | none => s

/-! ### Window entries (R375) -/

/-- Blocks tracked under a window entry with HOST = 1. -/
def trackedUnder (s : State) (e : BitVec 128) : List Nat :=
  (s.gvl.dir.filter (fun p => p.2.isSome && (entryAdmits e (.host 0) false p.1 || entryAdmits e (.host 0) true p.1))).map (fun p => p.1)

/-- Write a window entry: blocks tracked under the old one are recalled before the change takes effect. -/
def setWindow (i : Nat) (v : BitVec 128) (s : State) : State :=
  let ks := trackedUnder s (Tab.get 0 s.xbr.windows i)
  if ks = [] then { s with xbr := { s.xbr with windows := Tab.set 0 s.xbr.windows i v } }
  else ks.foldl (fun s k => dirRecall k .evict s) { s with xbr := { s.xbr with winNext := s.xbr.winNext ++ [(i, v)] } }

/-- Window changes whose recalls have all ended take effect. -/
def settleWindows (s : State) : State :=
  let l := s.xbr.winNext
  l.foldl (fun s p => setWindow p.1 p.2 s) { s with xbr := { s.xbr with winNext := [] } }

end Sys2Proof.Machine
end

