-- ==== Sys2Proof/Machine/Requests.lean ====
section
/-! DEFINITION. Requests (R402 to R414): submission, dispatch, release, cancel, resume, deadlines, ledgers, logs and replays,
settlement (R243) and SYS.SHUTDOWN (R537). -/

namespace Sys2Proof.Machine

/-! ### REQ.SUBMIT (R402, R405) -/

/-- A count or length the command needs is 0 (R388, R402). -/
def submitEmpty (d : Desc) (a : ReqArg) : Bool :=
  a.nprompt == 0 || d.inlen == 0 || (a.role == 2 && (a.maxtok == 0 || d.outlen == 0 || a.topk == 0))

/-- An argument is out of range (R402, R423). -/
def submitBad (x : Ctx) (d : Desc) (a : ReqArg) : Bool :=
  let n := a.nprompt.toNat
  a.num == 0 || !(a.role == 1 || a.role == 2) || a.deadline == 0 || decide (3600000 < a.deadline.toNat) ||
    decide (65535 < n) || d.inlen.toNat != 0x50 + 4 * n || a.prompt.length != n ||
    a.prompt.any (fun t => decide (x.vocab ≤ t.toNat)) || (a.build && n % 32 != 0) ||
    (if a.role == 2 then
      decide (65536 < a.maxtok.toNat) || decide (65536 < n + a.maxtok.toNat) || decide (d.outlen.toNat < 8 * a.maxtok.toNat) ||
        decide (64 < a.topk.toNat) ||
        (!a.greedy && (decide (a.temp.toNat < 0x3B800000) || decide (0x41800000 < a.temp.toNat))) ||
        (a.topp && (a.toppv == 0 || decide (0x3F800000 < a.toppv.toNat))) ||
        (a.mask && decide (134217728 < a.masklen.toNat))
    else decide (2 < a.cls.toNat))

/-- A builder still holds the number here: by its slot, or by its entries (R402, R427). -/
def builderHolds (s : State) (c : Nat) (x : Ctx) (num : W16) : Bool :=
  x.prefixes.any (fun p => p.num == num && p.live) ||
    s.attn.any (fun t => t.ctx.val == c && bitAt t.reqtag 31 && numOf t.reqtag == num && t.retired)

/-- A number is open or held for resume by an admission record (R402, R413). -/
def admHeld (s : State) (x : Ctx) (num : W16) : Bool :=
  match admOf x num with
  | none => false
  | some r => !r.retired || (r.lastPos != 0 && decide (nowC s < r.retiredAt + holdCycles s))

/-- A number is open or held for resume by a release record. -/
def relHeld (s : State) (x : Ctx) (num : W16) : Bool :=
  match relOf x num with
  | none => false
  | some r => !r.retired || (!r.released.isEmpty && r.end_ != 3 && decide (nowC s < r.retiredAt + holdCycles s))

/-- Waiting records of a context. -/
def waitingCount (x : Ctx) : Nat := (x.adm.filter (fun a => !a.admitted && !a.retired)).length

/-- The current generation of an adapter slot (R448). -/
def currentGen (x : Ctx) (slot : Nat) : Option AdpGen := (Tab.get [] x.adapters slot).find? (fun g => g.current)

/-- A new admission record. -/
def admNew (s : State) (x : Ctx) (d : Desc) (a : ReqArg) : AdmRec :=
  { num := a.num, cls := a.cls.toNat, daylight := x.daylight || a.daylight, build := a.build, nopfx := a.nopfx,
    adpv := a.adpv, adpslot := a.adpslot, prompt := a.prompt, order := x.subNext, admitted := false, inst := 0, seg := 0,
    reqtag := a.num.setWidth 32, epoch := 0, adpgen := 0, mode := false, nextPos := 0, promptEnd := a.nprompt.toNat,
    unanswered := [], nextTok := none, resumed := none, readySince := nowF s, pfxLen := 0, retired := false, retiredAt := 0,
    lastPos := 0, gotNext := false, limit := nowC s + msCycles a.deadline.toNat, owed := true, cmd := d }

/-- Accept an admission record, or refuse it (R405). -/
def submitAdm (c : Nat) (x : Ctx) (d : Desc) (a : ReqArg) (s : State) : State :=
  if admHeld s x a.num || builderHolds s c x a.num then finish d 0x05 s
  else if x.qmax ≤ waitingCount x then finish d 0x0502 s
  else if a.adpv && (15 < a.adpslot || (currentGen x a.adpslot.toNat).isNone) then finish d 0x0401 s
  else if x.admEpoch.isNone then finish d 0x0501 s
  else
    let r := admNew s x d a
    keepProg d (updCtx c (fun x => { x with adm := x.adm.filter (fun q => q.num != a.num) ++ [r], subNext := x.subNext + 1 }) s)

/-- A new release record with its mask (R421). -/
def relNew (s : State) (x : Ctx) (d : Desc) (a : ReqArg) (m : Option (MaskTable × Digest)) : RelRec :=
  let day := x.daylight || a.daylight
  { num := a.num, daylight := day, greedy := a.greedy, topk := a.topk.toNat, topp := if a.topp then some a.toppv else none,
    seed := a.seed, temp := a.temp, maxtok := a.maxtok.toNat, stop := a.stop.filter (fun t => t != 0xFFFFFFFF),
    prompt := a.prompt, mask := m.map (fun p => p.1), mdigest := m.map (fun p => p.2),
    gstate := maskStart (m.map (fun p => p.1)), started := false, inst := 0, seg := 0, reqtag := a.num.setWidth 32, entry := 0,
    released := [], segReleased := 0, lastPos := 0, drawn := none, ledger := ledNew x.ctxid (a.num.setWidth 32) day, end_ := 0,
    retired := false, retiring := none, retiredAt := 0, limit := nowC s + msCycles a.deadline.toNat, pfxSuspect := false,
    passEnd := a.nprompt.toNat - 1, stale := false, flagged := [], owed := true, cmd := d }

/-- Accept a release record; activations that wait for it go on (R412). -/
def relAccept (c : Nat) (r : RelRec) (s : State) : State :=
  let s := updCtx c (fun x => { x with rel := updIf (fun q => q.num == r.num) (fun q => { q with stale := true }) x.rel ++ [r] }) s
  kickRel c r.num (keepProg r.cmd s)

/-- Accept a release record, or refuse it (R402, R421, R496). -/
def submitRel (c : Nat) (x : Ctx) (d : Desc) (a : ReqArg) (s : State) : State :=
  if relHeld s x a.num || builderHolds s c x a.num then finish d 0x05 s
  else if s.twin.st = .standby then finish d 0x06 s
  else if a.mask then
    if a.masklen = 0 then finish d 1 s
    else match a.maskread with
      | .noMask | .dmaFail => finish d 0x14 s
      | .bytes l => match maskCheck a.grammar x.vocab a.masklen.toNat l with
        | .bad => finish d 0x07 s
        | .empty => finish d 1 s
        | .ok t => relAccept c (relNew s x d a (some (t, Config.sha384 l))) s
  else relAccept c (relNew s x d a none) s

/-- REQ_SUBMIT (R402). -/
def doReqSubmit (d : Desc) (a : ReqArg) (s : State) : State :=
  runCtx d true (fun c x s =>
    if s.mbx.shut then finish d 0x06 s
    else if submitEmpty d a then finish d 1 s
    else if submitBad x d a then finish d 0x07 s
    else if a.role = 2 then submitRel c x d a s
    else submitAdm c x d a s) s

/-- REQ_SUBMIT (R402). -/
def execReqSubmit (d : Desc) (a : ReqArg) (s : State) : Host.Outcome State Fault Refusal := .next (doReqSubmit d a s)

/-! ### Dispatch (R407, R408) -/

/-- Admitted, unretired requests of a context. -/
def batchCount (x : Ctx) : Nat := (x.adm.filter (fun a => a.admitted && !a.retired)).length

/-- The kind of a record's ready position (R407): 0 a resumed segment's first, 1 generated, 2 prompt, 3 a waiting record. -/
def readyKind (s : State) (x : Ctx) (a : AdmRec) : Option Nat :=
  if a.retired || decide (a.limit ≤ nowC s) then none
  else if !a.admitted then (if batchCount x < x.batchmax then some 3 else none)
  else if a.resumed.isSome then some 0
  else if a.nextTok.isSome then some 1
  else if a.nextPos < a.promptEnd ∧ a.unanswered.length < 64 then some 2
  else none

/-- choose (R407), with the floor of R164. -/
def chooseReq (s : State) (x : Ctx) : Option (AdmRec × Nat) :=
  let cand := x.adm.filterMap (fun a => (readyKind s x a).map (fun k => (a, k)))
  let batch := cand.filter (fun p => p.1.cls == 2)
  let agef := s.lmp.age.toNat * 337500
  let eff (a : AdmRec) : Nat := a.cls - (nowF s - a.readySince) / agef
  let key (p : AdmRec × Nat) : Nat := p.2 * 2 ^ 64 + p.1.order
  if 31 ≤ x.floor ∧ batch ≠ [] then minKey key batch
  else minKey (fun p => eff p.1 * 2 ^ 72 + key p) cand

/-- The link a position leaves on has credit on VL1, or it stays here (R304, R407). -/
def vl1Credit (s : State) (dst : Pkg) : Bool :=
  if dst = s.fab.myid then true
  else match nextHop s dst.toNat with
    | none => false
    | some k => decide (0 < Tab.get 0 (getLink s k).credits 1)

/-- Where positions of an epoch go from here: to this package when layer 0 of the epoch is its own, in its wicks or STAGED for
a rewrite (R446), else to the next of the path. -/
def firstPkg (s : State) (c : Nat) (x : Ctx) (ep : W32) : Pkg :=
  if (epochShards s c ep).any (fun h => isOwnLan h && h.md.any (fun m => m.layer == 0)) then s.fab.myid
  else x.path.getD 1 s.fab.myid

/-- Bind a waiting record at its admission (R405, R423, R426, R536). -/
def admBind (s : State) (x : Ctx) (a : AdmRec) : AdmRec × Ctx :=
  let ep := x.admEpoch.getD 0
  let gen := if a.adpv then (match currentGen x a.adpslot.toNat with | some g => g.gen | none => 0) else 0
  let mode := x.daylight || a.daylight
  let inst := if x.instNext = 0 then 1 else x.instNext
  let hit := if a.build || a.nopfx then none else matchPrefix x a.prompt ep gen mode (nowC s)
  let slot := if a.build && indexed x then freeSlot x else none
  let tag := a.num.toNat + (match hit, slot with
    | some p, _ => p.slot * 2 ^ 16
    | none, some k => 2 ^ 31 + k * 2 ^ 16
    | none, none => 0)
  let len := match hit with | some p => p.len | none => 0
  let x := { x with instNext := if inst + 1 = 0 then 1 else inst + 1, subNext := x.subNext + 1 }
  let renew (q : Prefix) : Prefix := { q with expiry := nowC s + leaseCycles s }
  let x := match hit with
    | some p => { x with prefixes := updIf (fun q => q.slot == p.slot && q.live) renew x.prefixes }
    | none => x
  let x := match slot with
    | some k => { x with prefixes := x.prefixes ++ [{ slot := k, len := a.prompt.length, inst := inst, num := a.num, epoch := ep,
                                                        adpgen := gen, mode := mode, live := false, suspect := false, expiry := 0 }] }
    | none => x
  ({ a with admitted := true, inst := inst, reqtag := BitVec.ofNat 32 tag, epoch := ep, adpgen := gen, mode := mode,
            nextPos := len, pfxLen := len, order := x.subNext - 1 }, x)

/-- The ACT of a position (R408); the embedding kernel's result is free values, narrowed into the activation's format (log 26). -/
def sendPosition (c : Nat) (x : Ctx) (a : AdmRec) (prompt : Bool) (s : State) : State :=
  let f := freeAct s
  let h : Hdr := { hdrOf 0x10 (firstPkg s c x a.epoch).toNat with
    clean := true, daylight := a.mode, blocked := f.2.1, prompt := prompt, cls := BitVec.ofNat 2 a.cls, ctx := x.ctxid,
    reqtag := a.reqtag, tindex := BitVec.ofNat 32 a.nextPos, seg := a.seg, inst := a.inst }
  let b : ActHdr := { epoch := a.epoch, adpgen := a.adpgen, layer := 0, part := 0, fmt := f.1, resolved := 0,
                      final := x.path.getLastD s.fab.myid, checks := 0, nelem := f.2.2.1,
                      adpslot := if a.adpgen = 0 then 0 else a.adpslot }
  sendMsg h (.act b f.2.2.2.1.1) (noteReq c a.inst f.2.2.2.1.2 f.2.2.2.2)

/-- A record after its position went out: later prompt positions are ready from now (R407). -/
def afterSend (s : State) (k : Nat) (a : AdmRec) : AdmRec :=
  let prompt := k != 1
  { a with nextPos := a.nextPos + 1, nextTok := none, resumed := none, readySince := nowF s,
           unanswered := if prompt then a.unanswered ++ [a.nextPos] else a.unanswered }

/-- Count a dispatch in the floor counter (R164, R407). -/
def floorNext (cls floor : Nat) : Nat := if cls = 2 then floor - 31 else min 65535 (floor + 1)

/-- A resume whose hold has run out before its first dispatch is refused (R414). -/
def resumeLate (s : State) (a : AdmRec) : Bool := decide (a.retiredAt + holdCycles s ≤ nowC s + 45000000)

/-- Send the chosen position; a waiting record is admitted in the same step (R405). -/
def dispatchSend (c : Nat) (x : Ctx) (a : AdmRec) (k : Nat) (s : State) : State :=
  if k = 3 then
    if x.admEpoch.isNone || (a.adpv && (currentGen x a.adpslot.toNat).isNone) then
      finish a.cmd (if x.admEpoch.isNone then 0x0501 else 0x0401)
        (updCtx c (fun x => { x with adm := x.adm.filter (fun q => q.num != a.num) }) s)
    else
      let b := admBind s x a
      let y := { b.2 with floor := floorNext a.cls x.floor, dispatches := x.dispatches + 1,
                          adm := updIf (fun q => q.num == a.num) (fun _ => afterSend s k b.1) x.adm }
      let s := postProgress a.cmd [b.1.reqtag, b.1.epoch, b.1.adpgen, BitVec.ofNat 32 b.1.pfxLen, BitVec.ofNat 32 b.1.nextPos,
        0, 0, 0] (setCtx c (some y) s)
      sendPosition c x b.1 true s
  else
    let y := { x with floor := floorNext a.cls x.floor, dispatches := x.dispatches + 1,
                      adm := updIf (fun q => q.num == a.num) (fun _ => afterSend s k a) x.adm }
    let s := setCtx c (some y) s
    let s := match a.resumed with | some d => finish d 0 s | none => s
    sendPosition c x a (k != 1) s

/-- REQUEST_DISPATCH (R400, R407). -/
def doDispatch (c : Nat) (s : State) : State :=
  match getCtx s c with
  | none => s
  | some x =>
    if x.paused || s.mbx.shut || s.snuf.wheld || x.path.head? != some s.fab.myid then s
    else match chooseReq s x with
      | none => s
      | some (a, k) =>
        if a.resumed.isSome && resumeLate s a then
          let s := match a.resumed with | some d => finish d 0x0503 s | none => s
          updAdm c a.num (fun a => { a with resumed := none, retired := true }) s
        else if vl1Credit s (firstPkg s c x (if a.admitted then a.epoch else x.admEpoch.getD 0)) then dispatchSend c x a k s
        else s

/-- REQUEST_DISPATCH (R407). -/
def execRequestDispatch (c : CtxI) (s : State) : Host.Outcome State Fault Refusal := .next (doDispatch c.val s)

/-- Positions of requests whose entry package does not hold layer 0 are answered as their last flit leaves (R407). -/
def answerSent (i : Item) (s : State) : State :=
  match i with
  | .msg m =>
    if m.hdr.kind = 0x10 ∧ m.hdr.src = s.fab.myid then
      match slotOf s m.hdr.ctx, m.body with
      | some c, .act b _ => if b.layer = 0 then answerPos c m.hdr.inst m.hdr.tindex s else s
      | _, _ => s
    else s
  | _ => s

/-- FLIT_SEND (R304) with the answers of R407. -/
def flitSent (k : Nat) (s : State) : State :=
  let n := (getLink s k).unacked.length
  let s := doFlitSend k s
  (((getLink s k).unacked.drop n).flatMap (fun f => f.items)).foldl (fun s i => answerSent i s) s

/-- FLIT_SEND (R304). -/
def execFlitSend (k : LinkI) (s : State) : Host.Outcome State Fault Refusal := .next (flitSent k.val s)

/-! ### Release (R236, R410) -/

/-- One output entry: a released token and its position, or all ones (R410). -/
def outEntry (l : List (W32 × W32)) (i : Nat) : List Byte :=
  match l[i]? with
  | some p => leBytes 4 p.1.toNat ++ leBytes 4 p.2.toNat
  | none => List.replicate 8 0xFF

/-- Write the output line that holds entry `i`, within OUTLEN (R387, R410). -/
def outToken (d : Desc) (l : List (W32 × W32)) (i : Nat) (s : State) : State :=
  let line := i / 8
  if 64 * line + 64 ≤ d.outlen.toNat then
    gvlWriteLine (d.outaddr + BitVec.ofNat 64 (64 * line)) ((List.range 8).flatMap (fun j => outEntry l (8 * line + j))) s
  else s

/-- Why a token ends its request, if it does (R410, R429). -/
def endOf (r : RelRec) (d : Drawn) : Option Nat :=
  if r.stop.contains d.token then some 1
  else if r.maxtok ≤ r.segReleased + 1 then some 2
  else if maskFinal r.mask d.gnext then some 3
  else none

/-- The prefix a fork reads is suspect here (R428). -/
def forkSuspect (x : Ctx) (r : RelRec) : Bool :=
  !bitAt r.reqtag 31 && tagSlot r.reqtag != 0 && x.prefixes.any (fun p => p.slot == tagSlot r.reqtag && p.suspect)

/-- The token entry of a release (R240). -/
def tokenEntry (r : RelRec) (d : Drawn) (susp : Bool) (now : W64) : LedRec :=
  let bit (b : Bool) (n : Nat) : Nat := if b then n else 0
  { kind := 1, tflags := BitVec.ofNat 8 (bit d.clean 1 + bit (r.daylight || d.daylight) 2 + bit susp 4 + bit d.compared 8),
    res := d.resolved.setWidth 16, tindex := d.tindex, token := d.token, checks := d.checks, localt := now, aux := 0 }

/-- The ledger after a release. -/
def ledToken (r : RelRec) (d : Drawn) (susp : Bool) (now : W64) : Ledger :=
  let l := ledAdd (tokenEntry r d susp now) now r.ledger
  let all := d.compared && (r.released.isEmpty || bitAt (l.flags.setWidth 32) 3)
  { l with tokens := l.tokens + 1, suspect := if susp then l.suspect + 1 else l.suspect, flags := putBit l.flags 3 all }

/-- Release the drawn token (R410). -/
def releaseToken (c : Nat) (x : Ctx) (r : RelRec) (d : Drawn) (s : State) : State :=
  let susp := forkSuspect x r
  let now := ltime s
  let out := r.released ++ [(d.token, d.tindex)]
  let s := outToken r.cmd out r.released.length s
  let s := updRel c r.inst (fun r => { r with
    released := out, segReleased := r.segReleased + 1, lastPos := d.tindex.toNat + 1, gstate := d.gnext, drawn := none,
    ledger := ledToken r d susp now, flagged := r.flagged.filter (fun f => f.1 != d.tindex) }) s
  let log (g : LogRec) : LogRec := { g with tokens := g.tokens ++ [(d.token, d.tindex)] }
  let s := updCtx c (fun x => { x with logs := updIf (fun g => g.num == r.num && g.inst == r.inst) log x.logs }) s
  let s := (r.flagged.filter (fun f => f.1 == d.tindex)).foldl (fun s f => amendSuspect c r.inst f.1 f.2.1 f.2.2 s) s
  match endOf r d with
  | some e => retireRel c r.num e s
  | none =>
    sendNotice 0x15 r.entry { ctx := x.ctxid, reqtag := r.reqtag, inst := r.inst, seg := r.seg } d.tindex
      (d.token.setWidth 64) 0 0 s

/-- The gate's conditions for a drawn token (R236). -/
def gateOpen (s : State) (c : Nat) (r : RelRec) (d : Drawn) : Bool :=
  !s.snuf.wheld && !r.retired && !r.stale && !d.twinWait && !d.arb &&
    !((getLctx s c).runs.any (fun q => q.req.inst == r.inst && q.req.tindex == d.tindex))

/-- TOKEN_RELEASE (R236, R410). -/
def doTokenRelease (c : Nat) (inst : W32) (s : State) : State :=
  match (getCtx s c).bind (fun x => (relInst x inst).map (fun r => (x, r))) with
  | none => s
  | some (x, r) => match r.drawn with
    | none => s
    | some d => if gateOpen s c r d then releaseToken c x r d s else s

/-- TOKEN_RELEASE (R410). -/
def execTokenRelease (c : CtxI) (inst : W32) (s : State) : Host.Outcome State Fault Refusal :=
  .next (doTokenRelease c.val inst s)

/-! ### Cancel and deadlines (R406, R411, R429) -/

/-- Retire at the end of the flare in progress; queued flares go at once (R177, R411). -/
def endRequest (c : Nat) (r : RelRec) (e : Nat) (s : State) : State :=
  let s := if r.started then updLctx c (fun x => { x with queue := x.queue.filter (fun q => q.inst != r.inst),
                                                          refire := x.refire.filter (fun q => q.inst != r.inst) }) s else s
  retireSoon c r.num e s

/-- REQ_CANCEL (R411, R393, R396). -/
def doReqCancel (d : Desc) (tag : W32) (s : State) : State :=
  runCtx d false (fun c x s =>
    match relOf x (numOf tag) with
    | some r => finish d 0 (if r.retired then s else endRequest c r 4 s)
    | none => if (admOf x (numOf tag)).isSome then finish d 0x06 s else finish d 0x07 s) s

/-- REQ_CANCEL (R411). -/
def execReqCancel (d : Desc) (reqtag : W32) (s : State) : Host.Outcome State Fault Refusal := .next (doReqCancel d reqtag s)

/-- RELEASE_DEADLINE (R406, R411). -/
def doReleaseDeadline (c : Nat) (num : W16) (s : State) : State :=
  match (getCtx s c).bind (fun x => relOf x num) with
  | none => s
  | some r => if r.retired || r.retiring.isSome || decide (nowC s < r.limit) then s else endRequest c r 5 s

/-- RELEASE_DEADLINE (R411). -/
def execReleaseDeadline (c : CtxI) (num : W16) (s : State) : Host.Outcome State Fault Refusal :=
  .next (doReleaseDeadline c.val num s)

/-- An admission record ends with a status (R404); a builder that never released frees its slot (R429). -/
def endAdm (c : Nat) (a : AdmRec) (st : W16) (s : State) : State :=
  let s := updAdm c a.num (fun a => { a with retired := true, owed := false, retiredAt := nowC s, nextTok := none, unanswered := [] }) s
  let s := updCtx c (fun x => { x with prefixes := x.prefixes.filter (fun p => !(p.inst == a.inst && a.admitted && !p.live && !p.suspect)) }) s
  let s := match a.resumed with
    | some d => finish d 0x0503 (updAdm c a.num (fun a => { a with resumed := none }) s)
    | none => s
  if a.owed then complete a.cmd st 0 (admResult a) s else s

/-- ADMISSION_DEADLINE (R406): 1 s after the deadline without a RETIRE notice. -/
def doAdmissionDeadline (c : Nat) (num : W16) (s : State) : State :=
  match (getCtx s c).bind (fun x => admOf x num) with
  | none => s
  | some a => if a.retired || decide (nowC s < a.limit + 900000000) then s else endAdm c a 0x02 s

/-- ADMISSION_DEADLINE (R406). -/
def execAdmissionDeadline (c : CtxI) (num : W16) (s : State) : Host.Outcome State Fault Refusal :=
  .next (doAdmissionDeadline c.val num s)

/-- RELEASE_RECORD_WAIT_EXPIRY (R412): the request is retired with a DISCARD of position 0 and an ember. -/
def doRelWaitExpiry (c : Nat) (inst : W32) (s : State) : State :=
  match getCtx s c with
  | none => s
  | some x => match x.waitRel.find? (fun a => a.msg.hdr.inst == inst) with
    | none => s
    | some a =>
      let h := a.msg.hdr
      let s := updCtx c (fun x => { x with waitRel := x.waitRel.filter (fun a => a.msg.hdr.inst != inst) }) s
      let s := noticePath c 0x22 (ridOf h) 0 1 s
      raiseEmber { emb 2 0x0E01 0 (some x.ctxid) h.tindex.toNat with reqtag := h.reqtag } s

/-- RELEASE_RECORD_WAIT_EXPIRY (R412). -/
def execReleaseRecordWaitExpiry (c : CtxI) (inst : W32) (s : State) : Host.Outcome State Fault Refusal :=
  .next (doRelWaitExpiry c.val inst s)

/-! ### Resume (R414) -/

/-- The resumed segment's arguments are out of range. -/
def resumeBad (x : Ctx) (deadline maxtok : W32) (toks : List W32) : Bool :=
  deadline == 0 || decide (3600000 < deadline.toNat) || decide (65535 < toks.length) || decide (65536 < maxtok.toNat) ||
    decide (65536 < toks.length + maxtok.toNat) || toks.any (fun t => decide (x.vocab ≤ t.toNat))

/-- The release record returns to open (R414, R243). -/
def resumeRel (c : Nat) (d : Desc) (r : RelRec) (deadline maxtok : W32) (n : Nat) (s : State) : State :=
  if r.end_ = 3 then finish d 0x07 s
  else if r.released = [] ∨ r.retiredAt + holdCycles s ≤ nowC s then finish d 0x0503 s
  else
    let s := updRelNum c r.num (fun r => { r with
      retired := false, end_ := 0, seg := r.seg + 1, segReleased := 0, maxtok := maxtok.toNat, drawn := none,
      limit := nowC s + msCycles deadline.toNat, passEnd := r.lastPos + n,
      ledger := { r.ledger with state := 0, status := 0, settledBy := [], localt := ltime s } }) s
    kickRel c r.num (finish d 0 s)

/-- The admission record returns to open, ahead of every waiting record (R414). -/
def resumeAdm (c : Nat) (x : Ctx) (d : Desc) (a : AdmRec) (deadline : W32) (n : Nat) (s : State) : State :=
  let gens := loadedGens x a.adpslot.toNat
  if a.lastPos = 0 ∨ resumeLate s a = true then finish d 0x0503 s
  else if x.admEpoch ≠ some a.epoch ∨ (a.adpgen ≠ 0 ∧ gens.all (fun g => g.gen != a.adpgen) = true) then finish d 0x0501 s
  else
    keepProg d (updAdm c a.num (fun a => { a with
      retired := false, seg := a.seg + 1, nextPos := a.lastPos, promptEnd := a.lastPos + 1 + n, unanswered := [],
      nextTok := none, gotNext := true, readySince := nowF s, limit := nowC s + msCycles deadline.toNat, resumed := some d }) s)

/-- REQ_RESUME (R414): on the release record first, then on the admission record. -/
def doReqResume (d : Desc) (tag deadline maxtok : W32) (toks : List W32) (s : State) : State :=
  runCtx d true (fun c x s =>
    let num := numOf tag
    if s.mbx.shut then finish d 0x06 s
    else if d.inlen = 0 ∨ toks = [] ∨ maxtok = 0 then finish d 1 s
    else if resumeBad x deadline maxtok toks then finish d 0x07 s
    else match relOf x num, admOf x num with
      | none, none => finish d 0x07 s
      | some r, none => if r.retired then resumeRel c d r deadline maxtok toks.length s else finish d 0x05 s
      | none, some a => if a.retired then resumeAdm c x d a deadline toks.length s else finish d 0x05 s
      | some r, some a =>
        if r.retired then resumeRel c d r deadline maxtok toks.length s
        else if a.retired then resumeAdm c x d a deadline toks.length s
        else finish d 0x05 s) s

/-- REQ_RESUME (R414). -/
def execReqResume (d : Desc) (reqtag deadline maxtok : W32) (tokens : List W32) (s : State) :
    Host.Outcome State Fault Refusal := .next (doReqResume d reqtag deadline maxtok tokens s)

/-! ### Ledgers, logs and replays -/

/-- The 64 bytes of a ledger header (R240). -/
def Ledger.header (l : Ledger) : List Byte :=
  l.head ++ [l.state, l.flags] ++ leBytes 2 l.status.toNat ++ leBytes 4 l.tokens.toNat ++ leBytes 4 l.suspect.toNat ++
    leBytes 4 l.audpass.toNat ++ leBytes 4 l.audfail.toNat ++ leBytes 4 l.resolved.toNat ++ leBytes 2 l.kernels.length ++
    leBytes 2 l.settledBy.length ++ leBytes 8 l.checks.toNat ++ leBytes 8 l.localt.toNat

/-- Records, as far as they fit whole (R387). -/
def fitRecs : Nat → List (List Byte) → List Byte
  | _, [] => []
  | n, r :: t => if r.length ≤ n then r ++ fitRecs (n - r.length) t else []

/-- A ledger as it is written out. -/
def Ledger.parts (l : Ledger) : List (List Byte) := l.header :: (l.recs.map LedRec.bytes ++ l.kernels.map digBytes)

/-- REQ_LEDGER (R240, R387). -/
def doReqLedger (d : Desc) (tag : W32) (s : State) : State :=
  runCtx d false (fun _ x s =>
    match relOf x (numOf tag) with
    | some r =>
      if d.outlen = 0 then finish d 1 s
      else
        let out := fitRecs d.outlen.toNat r.ledger.parts
        complete d 0 out.length [] (outLines d.outaddr out s)
    | none => if (admOf x (numOf tag)).isSome then finish d 0x06 s else finish d 0x07 s) s

/-- REQ_LEDGER (R240). -/
def execReqLedger (d : Desc) (reqtag : W32) (s : State) : Host.Outcome State Fault Refusal := .next (doReqLedger d reqtag s)

/-- The log record of a request's current instance. -/
def logOf (x : Ctx) (num : W16) : Option LogRec :=
  match relOf x num with
  | none => none
  | some r => x.logs.find? (fun g => g.num == num && g.inst == r.inst)

/-- REQ_LOG (R393): the record's layout is not in the manual (log 9). -/
def doReqLog (d : Desc) (tag : W32) (s : State) : State :=
  runCtx d false (fun _ x s =>
    let num := numOf tag
    if (relOf x num).isNone ∧ (admOf x num).isNone then finish d 0x07 s
    else if (logOf x num).isNone then finish d 0x0504 s
    else finishFree d s) s

/-- REQ_LOG (R393). -/
def execReqLog (d : Desc) (reqtag : W32) (s : State) : Host.Outcome State Fault Refusal := .next (doReqLog d reqtag s)

/-- The epoch and generation a log names are resident (R234). -/
def logResident (x : Ctx) (a : Option W16) (g : LogRec) : Bool :=
  x.epochs.any (fun e => e.epoch == g.epoch && (e.st == .live || e.st == .retained)) &&
    (g.adpgen == 0 || match a with
      | some k => (loadedGens x k.toNat).any (fun q => q.gen == g.adpgen)
      | none => x.adapters.any (fun p => p.2.any (fun q => q.gen == g.adpgen && q.cmd.isNone)))

/-- REQ_REPLAY (R234, R235): a mismatch of a request that ran in daylight is flagged and raises an ember. -/
def doReqReplay (d : Desc) (tag : W32) (differ : Option Nat) (s : State) : State :=
  runCtx d false (fun c x s =>
    let num := numOf tag
    if (relOf x num).isNone ∧ (admOf x num).isNone then finish d 0x07 s
    else match logOf x num with
      | none => finish d 0x0504 s
      | some g =>
        if !logResident x ((admOf x num).map (fun a => a.adpslot)) g then finish d 0x0501 s
        else if d.outlen = 0 then finish d 1 s
        else match g.daylight, differ with
          | true, some p =>
            let s := updRel c g.inst (fun r => { r with ledger := { r.ledger with flags := setBit r.ledger.flags 4 } }) s
            finishFree d (ember 2 0x0205 0 (some x.ctxid) p s)
          | _, _ => finishFree d s) s

/-- REQ_REPLAY (R234). -/
def execReqReplay (d : Desc) (reqtag : W32) (_form : Byte) (differ : Option Nat) (s : State) :
    Host.Outcome State Fault Refusal := .next (doReqReplay d reqtag differ s)

/-! ### Settlement and shutdown -/

/-- SETTLE_SEND (R243): with no journal entry of the request left, the notice goes, or the final package counts itself. -/
def doSettleSend (c : Nat) (inst : W32) (s : State) : State :=
  match s.fab.settles.find? (fun q => q.slot == c && q.inst == inst) with
  | none => s
  | some q =>
    if s.snuf.wheld || (Tab.get [] s.chk.jrnl c).any (fun e => e.inst == inst) then s
    else
      let s := { s with fab := { s.fab with settles := s.fab.settles.erase q } }
      if q.final = s.fab.myid then settleCount c inst q.final s
      else sendNotice 0x24 q.final { ctx := q.ctx, reqtag := q.reqtag, inst := q.inst, seg := q.seg } 0 0 0 0 s

/-- SETTLE_SEND (R243). -/
def execSettleSend (c : CtxI) (inst : W32) (s : State) : Host.Outcome State Fault Refusal := .next (doSettleSend c.val inst s)

/-- Open admission records end with FAULT_WITHHELD. -/
def endAdms (c : Nat) (s : State) : State :=
  match getCtx s c with
  | none => s
  | some x => (x.adm.filter (fun a => !a.retired)).foldl (fun s a => endAdm c a 0x04 s) s

/-- Open release records retire with END 6. -/
def endRels (c : Nat) (s : State) : State :=
  match getCtx s c with
  | none => s
  | some x => (x.rel.filter (fun r => !r.retired && !r.stale)).foldl (fun s r => retireRel c r.num 6 s) s

/-- A stream's final package is told of the shutdown, once for each request (R487, R537). -/
def shutStream (s : State) (t : Stream) : State :=
  let k := (t.ctx, numOf t.reqtag, t.inst)
  if t.final = s.fab.myid ∨ k ∈ s.fab.lossSent then s
  else sendNotice 0x20 t.final { ctx := t.ctx, reqtag := t.reqtag, inst := t.inst, seg := 0 } t.tindex (ltime s) 0 4
    { s with fab := { s.fab with lossSent := k :: s.fab.lossSent } }

/-- SYS_SHUTDOWN (R537): admission stops, records end, streams end, the trim sets are recorded. -/
def doSysShutdown (d : Desc) (s : State) : State :=
  runSys d (fun s =>
    let s := { s with mbx := { s.mbx with shut := true } }
    let s := (ctxSlots s).foldl (fun s c => endAdms c s) s
    let s := s.fab.streams.foldl shutStream s
    let s := (ctxSlots s).foldl (fun s c => endRels c s) s
    finish d 0 (deviceRecord s)) s

/-- SYS_SHUTDOWN (R537). -/
def execSysShutdown (d : Desc) (s : State) : Host.Outcome State Fault Refusal := .next (doSysShutdown d s)

end Sys2Proof.Machine
end

