-- ==== Sys2Proof/Machine/Contexts.lean ====
section
/-! DEFINITION. Contexts: creation (R398, R466), teardown (R401, R42, R146, R472), the path table (R399, R488), weight, pause
(R400), kernel images (R141, R142), attestation (R462) and the context's embers (R471); and the two lamplighter events that let
waiting commands go on. -/

namespace Sys2Proof.Machine

/-! ### Lantern masks (R394) -/

/-- A command whose IN begins with a lantern mask. -/
def runMask (d : Desc) (ls : List LLan) (body : Nat → Ctx → State → State) (s : State) : State :=
  runCtx d true (fun c x s =>
    if d.inlen = 0 then finish d 1 s
    else if d.inlen.toNat < 128 then finish d 0x07 s
    else if ls = [] then finish d 1 s
    else if ls.any (fun l => !((sconcesOf s c).contains (sconceOfL l.val))) then finish d 0x06 s
    else body c x s) s

/-! ### Ember records (R503) -/

/-- An ember without its CRC. -/
def Ember.body (e : Ember) : List Byte :=
  e.words.flatMap (fun w => leBytes 4 w.toNat) ++ leBytes 8 e.arg1.toNat ++ List.replicate 16 0 ++
    leBytes 2 e.resets.toNat ++ [0, 0]

/-- The 64 bytes of an ember. -/
def Ember.bytes (e : Ember) : List Byte := e.body ++ leBytes 4 (crc32c e.body).toNat

/-! ### Creation (R398) -/

/-- Rings a mask names. -/
def ringsOf (m : W64) : List RingI := (List.finRange 64).filter (fun r => m.toNat / 2 ^ r.val % 2 = 1)

/-- A ring that is no context ring, or bound. -/
def ringTaken (s : State) (r : RingI) : Bool := decide (r.val < 4) || (getRing s r.val).ctx.isSome

/-- A sconce cannot be owned (R253, R395, R482). -/
def sconceTaken (s : State) (n : Nat) : Bool :=
  let x := getScn s n
  x.owner.isSome || x.scrub || x.retired || (getStk s n).st == .failed || anyService s n

/-- Contexts may be created: every stack has left TRAINING, and each READY one is overwritten (R270, R275). A creation before that is
refused as for a sconce that cannot be owned (DEDUCED, log 144). -/
def stacksUp (s : State) : Bool :=
  (List.range 16).all (fun n =>
    let k := getStk s n
    k.st == .failed || (k.st == .ready && k.overwritten))

/-- The lowest free context slot. -/
def freeSlotC (s : State) : Option Nat := (List.range 16).find? (fun c => (getCtx s c).isNone)

/-- The weight a creation asks for (R159). -/
def ctxWeight (a : CtxArg) : Nat := if a.wset then a.weight.toNat else 16 * (maskBits 16 a.sconces.toNat).length

/-- An argument out of range (R398, R466). -/
def createBad (s : State) (d : Desc) (a : CtxArg) : Bool :=
  a.ctxid == 0 || (slotOf s a.ctxid).isSome || decide (4096 < a.batchmax.toNat) || decide (16384 < a.qmax.toNat) ||
    (a.pfx && decide (64 < a.pfxlant.toNat)) || decide (d.inlen.toNat % 436 ≠ 0) ||
    decide (1744 < d.inlen.toNat)

/-- The default slot map (R255): floor(60 × owned sconces ÷ 16) of slots 0 to 59 for each context in ascending order. -/
def defaultSlots (s : State) : List (Option CtxI) :=
  let l := (List.finRange 16).flatMap (fun c => List.replicate (60 * (sconcesOf s c.val).length / 16) (some c))
  l ++ List.replicate (64 - l.length) none

/-- A new context. -/
def ctxNew (s : State) (d : Desc) (a : CtxArg) (keydig : Digest) (inst : W32) : Ctx :=
  { ctxid := a.ctxid, sconces := a.sconces, daylight := a.daylight, log := a.log, pfx := a.pfx, pfxlant := a.pfxlant.toNat,
    rings := a.rings, batchmax := a.batchmax.toNat, qmax := a.qmax.toNat, vocab := a.vocab.toNat, path := [],
    nkeys := d.inlen.toNat / 436, paused := false, epochs := [], admEpoch := none, landing := none, ckeys := [],
    session := false, adapters := [], kernels := [], prefixes := [], nodes := [], nodeNext := 524289, lkp := [], adm := [],
    rel := [], logs := [], acts := [], waitRel := [], waitPfx := [], floor := 0, dispatches := 0, instNext := inst, subNext := 0,
    wave := none, replQ := [], rewrite := none, lifted := [], loadQ := [], drops := [], adpQ := [], calSet := [], rateSet := [], ops := [], dying := false, unloads := [],
    keydig := if d.inlen = 0 then Config.sha384 [] else keydig, born := nowC s }

/-- Make the context: weight first, then its sconces, slots and rings (R13, R159, R255). -/
def createCtx (c : Nat) (d : Desc) (a : CtxArg) (keydig : Digest) (s : State) : State :=
  let i : CtxI := Fin.ofNat 16 c
  let r := drawRandom s
  let n : W32 := BitVec.ofNat 32 r.1.toNat
  let s := updLctx c (fun x => { x with weight := BitVec.ofNat 9 (ctxWeight a) }) r.2
  let s := setCtx c (some (ctxNew s d a keydig (if n = 0 then 1 else n))) s
  let s := (maskBits 16 a.sconces.toNat).foldl (fun s n => ownSconce n i s) s
  let s := { s with xbr := { s.xbr with slotNext := some (defaultSlots s) } }
  (ringsOf a.rings).foldl (fun s r => updRing r.val (fun g => { g with ctx := some i }) s) s

/-- CTX_CREATE (R398). -/
def doCtxCreate (d : Desc) (a : CtxArg) (keydig : Digest) (s : State) : State :=
  runCmd d .sys false false true (fun s =>
    if a.sconces = 0 ∨ a.rings = 0 ∨ a.batchmax = 0 ∨ a.qmax = 0 ∨ a.vocab = 0 ∨ (a.pfx ∧ a.pfxlant = 0) then finish d 1 s
    else if createBad s d a then finish d 0x07 s
    else if (ringsOf a.rings).any (ringTaken s) then finish d 0x06 s
    else if !stacksUp s ∨ (maskBits 16 a.sconces.toNat).any (sconceTaken s) then finish d 0x0204 s
    else match freeSlotC s with
      | none => finish d 0x0203 s
      | some c =>
        if ctxWeight a = 0 ∨ 256 < weightSum s c (ctxWeight a) then finish d 0x0205 (pwrCfgErr s)
        else complete d 0 0 [BitVec.ofNat 32 c] (createCtx c d a keydig s)) s

/-- CTX_CREATE (R398). -/
def execCtxCreate (d : Desc) (a : CtxArg) (keydig : Digest) (s : State) : Host.Outcome State Fault Refusal :=
  .next (doCtxCreate d a keydig s)

/-! ### Teardown (R401) -/

/-- A ring of a context that goes: commands not started end with CTX_GONE, those in progress with FAULT_WITHHELD (R392). -/
def unbindRing (s : State) (r : RingI) : State :=
  let g := getRing s r.val
  let s := g.queued.foldl (fun s d => complete d 0x15 0 [] (dequeue d s)) s
  let s := g.prog.foldl (fun s d =>
    let x := heldResult s d
    complete d 0x04 x.1 x.2 s) s
  updRing r.val (fun g => { g with ctx := none }) s

/-- Step 1 of a teardown and the freeing of attention state and prefixes (R401): the context stops selecting flares (R173). -/
def destroyBegin (c : Nat) (s : State) : State :=
  let s := updLctx c (fun x => { x with pause := true }) s
  let s := ((sconcesOf s c).flatMap lansOf).foldl (fun s l => stopThreads l s) (endRels c (endAdms c s))
  let s := (List.finRange 64).foldl (fun s r =>
    if (getRing s r.val).ctx.map (fun i => i.val) == some c then unbindRing s r else s) s
  let s := updLctx c (fun x => { x with queue := [], refire := [] }) s
  let keep (l : List CtxOp) : List CtxOp := l.filter (fun o => match o with
    | .pause _ => false | .resume _ => false | .pipe _ _ => true | .destroy _ => true)
  let s := updCtx c (fun x => { x with dying := true, prefixes := [], nodes := [], acts := [], waitRel := [], waitPfx := [],
                                       unloads := [], wave := none, ops := keep x.ops }) s
  { s with attn := s.attn.filter (fun t => t.ctx.val != c), invs := s.invs.filter (fun v => v.ctx.val != c) }

/-- A wick at teardown (R42, R472). -/
def teardownWick (l w : Nat) (s : State) : State :=
  let x := abandonRb (abandonWrite (nowF s) (getWick s l w))
  let quar := x.st = .quarantined
  let x := clearWin { x with
    st := if x.st = .failed then .failed else .unowned, ctx := none, lwick := none, src := none, srcEpoch := 0, job := .none,
    stage := .toWrite, hit := none, rs := [], rj := [], rsBad := [], trim := x.full, live := [], early := false, trimFails := 0, trimTried := false,
    probeFail := false, strike := x.strike || decide quar }
  let s := setWick l w x s
  if quar then updRecWick l w (fun r => { r with strike := true }) s else s

/-- A lantern's buffer, trim engine, audits and marks at teardown (R210, R472, R479). -/
def teardownBuf (v : Lantern) : Lantern :=
  { v with drcal := false, arm := false, ivalNext := none, slot0 := Slot.init, slot1 := Slot.init, accs := [], out := none,
           area := [], launched := false, x1 := [], x2 := [], momSteps := [], epoch := 0, phase := .idle, calWick := none,
           trimNext := [], rotLast := none, drAtBoundary := false, drDue := false, drStep := 0, drGot := 0, drA := [], drB := [], subst := 0, substNow := 0, markNext := false, audits := [],
           openMarks := 0, adopting := none, hits := [], wrFails := 0 }

/-- An engine before it serves another context (R146). -/
def clearEngine (e : Engine) : Engine :=
  { e with regs := [], sregs := [], preds := [], scratch := [], icache := [], tkK := 0, tkSmall := false, tkList := [],
           threads := [], custEn := false, inbox := [] }

/-- One lantern of a context that goes. -/
def teardownLan (s : State) (l : Nat) : State :=
  let s := (List.range 17).foldl (fun s w => teardownWick l w s) s
  updEng l clearEngine (updLan l teardownBuf s)

/-- A sconce is released and its scrub begins: slices, then the stack (R264, R275). -/
def teardownSconce (d : Desc) (s : State) (n : Nat) : State :=
  let s := freeSconce n ((lansOf n).foldl teardownLan s)
  updScn n (fun x => { x with scrub := true, scrubCmd := some d, raiseDue := false }) s

/-- What the fabric, the crossbar and the checks hold of a context goes (R449, R472). -/
def teardownTables (c : Nat) (ctxid : W16) (ls : List Nat) (s : State) : State :=
  let work (m : Msg) : Bool := (m.hdr.kind == 0x10 || m.hdr.kind == 0x11) && m.hdr.ctx == ctxid
  let f := s.fab
  let x := s.xbr
  let slots := (slotPending x).map (fun o => if o.map (fun i => i.val) == some c then none else o)
  { s with
    fab := { f with kept := f.kept.filter (fun m => !work m), rules := f.rules.filter (fun r => r.ctx != ctxid),
                    reds := f.reds.filter (fun r => r.ctx != ctxid), streams := f.streams.filter (fun r => r.ctx != ctxid), freed := f.freed.filter (fun p => p.2.hdr.ctx != ctxid),
                    settles := f.settles.filter (fun q => q.slot != c) },
    xbr := { x with slotNext := some slots,
                    waiting := x.waiting.filter (fun b => !ls.contains b.lan.val) },
    chk := { s.chk with jrnl := Tab.set [] s.chk.jrnl c [] },
    lmp := { s.lmp with deferred := s.lmp.deferred.filter (fun l => !ls.contains l.val) } }

/-- The teardown proper, once no flare is in progress (R13, R401). Commands that waited for the context find it gone. -/
def destroyEnd (c : Nat) (x : Ctx) (d : Desc) (s : State) : State :=
  let ns := sconcesOf s c
  let s := teardownTables c x.ctxid (ns.flatMap lansOf) s
  let s := ((keysOf s.xbr.windows).filter (fun k => k / 32 == c)).foldl (fun s k => setWindow k 0 s) s
  let s := ns.foldl (teardownSconce d) s
  let s := setCtx c none s
  let s := updLctx c (fun y => { LmpCtx.init with floorsel := y.floorsel, launches := y.launches }) s
  let s := (x.ops.drop 1).foldl (fun s o => match o with
    | .pause d => finish d 0x15 s
    | .resume d => finish d 0x15 s
    | .pipe d _ => finish d 0x07 s
    | .destroy d => finish d 0x07 s) s
  scrubCheck (some d) s

/-! ### The path table (R399, R488) -/

/-- Tokens of unsettled requests that a removed package can no longer vouch for (R488). -/
def pathLost (c : Nat) (p : Pkg) (s : State) : State :=
  match getCtx s c with
  | none => s
  | some x => (x.rel.filter (fun r => r.started && r.ledger.state != 2 && !r.ledger.settledBy.contains p)).foldl (fun s r =>
      settleCount c r.inst p (r.released.foldl (fun s t => amendSuspect c r.inst t.2 p 0 s) s)) s

/-- Replace the table. -/
def newPath (c : Nat) (x : Ctx) (path : List Pkg) (s : State) : State :=
  let s := (x.path.filter (fun p => !path.contains p)).foldl (fun s p => pathLost c p s) s
  updCtx c (fun x => { x with path := path }) s

/-! ### Commands that wait for the context -/

/-- No flare of a context is in its launch phase: PAUSED reads 1 while PAUSE is set (R173). -/
def launchIdle (s : State) (c : Nat) : Bool := !((getLctx s c).runs.any (fun r => r.launching))

/-- Drop the first waiting command. -/
def popOp (c : Nat) (s : State) : State := updCtx c (fun x => { x with ops := x.ops.drop 1 }) s

/-- Set or clear PAUSE of the lamplighter (R173). -/
def setPause (c : Nat) (b : Bool) (s : State) : State := updLctx c (fun x => { x with pause := b }) s

/-- Go on with the first command that waits for a context (R392, R399, R400, R401). -/
def opStep (c : Nat) (s : State) : State :=
  match getCtx s c with
  | none => s
  | some x => match x.ops.head? with
    | none => s
    | some (.pause d) =>
      let s := setPause c true (updCtx c (fun x => { x with paused := true }) s)
      if launchIdle s c then finish d 0 (popOp c s) else s
    | some (.resume d) => finish d 0 (popOp c (setPause c false (updCtx c (fun x => { x with paused := false }) s)))
    | some (.pipe d path) =>
      let s := setPause c true s
      if launchIdle s c then finish d 0 (setPause c x.paused (newPath c x path (popOp c s))) else s
    | some (.destroy d) =>
      let s := if x.dying then s else destroyBegin c s
      if (getLctx s c).runs.isEmpty then
        match getCtx s c with
        | none => s
        | some x => destroyEnd c x d s
      else s

/-- Go on as far as it goes. -/
def opsGo (c : Nat) (s : State) : State :=
  match getCtx s c with
  | none => s
  | some x => x.ops.foldl (fun s _ => opStep c s) s

/-- Put a command behind those that wait for the context. -/
def pushOp (c : Nat) (d : Desc) (o : CtxOp) (s : State) : State :=
  opsGo c (updCtx c (fun x => { x with ops := x.ops ++ [o] }) (keepProg d s))

/-- A ring 0 command that names a context (R393). -/
def runCtxId (d : Desc) (ctxid : W16) (input : Bool) (body : Nat → Ctx → State → State) (s : State) : State :=
  runCmd d .sys false false input (fun s => match slotOf s ctxid with
    | none => finish d 0x07 s
    | some c => match getCtx s c with
      | none => finish d 0x07 s
      | some x => body c x s) s

/-- CTX_DESTROY (R401). -/
def doCtxDestroy (d : Desc) (ctxid : W16) (s : State) : State := runCtxId d ctxid false (fun c _ s => pushOp c d (.destroy d) s) s

/-- CTX_DESTROY (R401). -/
def execCtxDestroy (d : Desc) (ctxid : W16) (s : State) : Host.Outcome State Fault Refusal := .next (doCtxDestroy d ctxid s)

/-- CTX_PIPELINE (R399). -/
def doCtxPipeline (d : Desc) (ctxid : W16) (path : List Pkg) (s : State) : State :=
  runCtxId d ctxid true (fun c _ s =>
    if path = [] ∨ d.inlen = 0 then finish d 1 s
    else if 4096 < path.length ∨ d.inlen.toNat ≠ 2 * path.length ∨ ¬ path.Nodup then finish d 0x07 s
    else pushOp c d (.pipe d path) s) s

/-- CTX_PIPELINE (R399). -/
def execCtxPipeline (d : Desc) (ctxid : W16) (path : List Pkg) (s : State) : Host.Outcome State Fault Refusal :=
  .next (doCtxPipeline d ctxid path s)

/-- CTX_WEIGHT (R159, R393). -/
def doCtxWeight (d : Desc) (ctxid weight : W16) (s : State) : State :=
  runCtxId d ctxid false (fun c _ s =>
    if weightOk s c weight.toNat then finish d 0 (updLctx c (fun x => { x with weight := BitVec.ofNat 9 weight.toNat }) s)
    else finish d 0x0205 (pwrCfgErr s)) s

/-- CTX_WEIGHT (R393). -/
def execCtxWeight (d : Desc) (ctxid : W16) (weight : W16) (s : State) : Host.Outcome State Fault Refusal :=
  .next (doCtxWeight d ctxid weight s)

/-- CTX_PAUSE (R400, R173). -/
def execCtxPause (d : Desc) (s : State) : Host.Outcome State Fault Refusal :=
  .next (runCtx d false (fun c _ s => pushOp c d (.pause d) s) s)

/-- CTX_RESUME (R400). -/
def execCtxResume (d : Desc) (s : State) : Host.Outcome State Fault Refusal :=
  .next (runCtx d false (fun c _ s => pushOp c d (.resume d) s) s)

/-! ### Kernel images (R141, R142, R263) -/

/-- Bytes an image takes in the kernel area (R263): header, code and signatures, in whole blocks. -/
def imageSize (k : KImage) : Nat := (88 + k.codesize.toNat + 384 + 16224 + 255) / 256 * 256

/-- A field of the header is out of range (R141). -/
def imageBad (k : KImage) : Bool :=
  let v := k.vregs.toNat
  let n := k.entries.toNat
  !k.magicOk || !k.reservedZero || decide (k.codesize.toNat % 8 ≠ 0) || decide (1048576 < k.codesize.toNat) || 
    decide (16 < n) || !(v == 8 || v == 16 || v == 32 || v == 64) || decide (192 < k.threads.toNat * v) ||
    decide (12288 < k.scratch.toNat) || decide (k.tlimit.toNat < 10) || decide (100000 < k.tlimit.toNat) ||
    decide (k.entryOffs.length ≠ 16) ||
    (k.entryOffs.take n).any (fun e => decide (e.toNat % 8 ≠ 0) || decide (k.codesize.toNat ≤ e.toNat)) ||
    (k.entryOffs.drop n).any (fun e => e != 0)

/-- The lowest place of `n` bytes in a slice's kernel area that no image takes (DESIGN CHOICE, log 136). -/
def kernelHole (x : Ctx) (slice n : Nat) : Option Nat :=
  let ks := x.kernels.filter (fun k => k.slice == slice)
  let base := storeBase + slice * sliceSize + 0x200000
  let free (a : Nat) : Bool := decide (a + n ≤ base + 0x200000) && ks.all (fun k => decide (a + n ≤ k.addr ∨ k.addr + k.size ≤ a))
  minKey id ((base :: ks.map (fun k => k.addr + k.size)).filter free)

/-- The kernel area of lowest slice index with room, and the image's place in it (R261, R263). -/
def kernelPlace (s : State) (c : Nat) (x : Ctx) (size : Nat) : Option (Nat × Nat) :=
  ((sconcesOf s c).flatMap (fun n => [2 * n, 2 * n + 1])).findSome? (fun i => (kernelHole x i size).map (fun a => (i, a)))

/-- An image as it lies in the kernel area: header, code, signatures (R141). -/
def imageBytes (k : KImage) : List Byte :=
  let pad (n : Nat) (l : List Byte) : List Byte := l.take n ++ List.replicate (n - l.length) 0
  leBytes 4 0x314B5659 ++ [0x00, 0x01, 0, 0] ++ leBytes 4 k.codesize.toNat ++ [k.entries, k.vregs, k.threads, 0] ++
    leBytes 2 k.scratch.toNat ++ [0, 0] ++ leBytes 4 k.tlimit.toNat ++
    (List.range 16).flatMap (fun i => leBytes 4 (k.entryOffs.getD i 0).toNat) ++ pad k.codesize.toNat k.code ++ pad 16608 k.sigs

/-- The lowest free handle. -/
def freeHandle (x : Ctx) : Nat := ((List.range 17).find? (fun h => !(x.kernels.any (fun k => k.handle == h)))).getD 0

/-- CTX_KLOAD (R141). -/
def doKload (d : Desc) (k : KImage) (s : State) : State :=
  runCtx d true (fun c x s =>
    if d.inlen = 0 ∨ k.codesize = 0 ∨ k.entries = 0 ∨ k.threads = 0 then finish d 1 s
    else if imageBad k then finish d 0x07 s
    else if !k.sigsOk || x.nkeys == 0 then finish d 0x06 s
    else if 16 ≤ x.kernels.length then finish d 0x0203 s
    else match kernelPlace s c x (imageSize k) with
      | none => finish d 0x0201 s
      | some p =>
        let h := freeHandle x
        let g : Kernel := { handle := h, slice := p.1, size := imageSize k, addr := p.2, image := k, unloading := false }
        let s := { s with mem := storeBytes s.mem p.2 (imageBytes k) }
        let s := updCtx c (fun x => { x with kernels := x.kernels ++ [g] }) s
        let ls := ((sconcesOf s c).flatMap lansOf).filter (fun l => (getLan s l).st == .service)
        let s := ls.foldl (fun s l => updEng l (fun e => { e with custEn := true }) s) s
        complete d 0 0 [BitVec.ofNat 32 h] s) s

/-- CTX_KLOAD (R141). -/
def execCtxKload (d : Desc) (k : KImage) (s : State) : Host.Outcome State Fault Refusal := .next (doKload d k s)

/-- CTX_KUNLOAD (R142). -/
def doKunload (d : Desc) (handle : Nat) (s : State) : State :=
  runCtx d false (fun c x s =>
    match x.kernels.find? (fun k => k.handle == handle && !k.unloading) with
    | none => finish d 0x07 s
    | some _ =>
      let s := updCtx c (fun x => { x with
        kernels := updIf (fun k => k.handle == handle) (fun k => { k with unloading := true }) x.kernels,
        unloads := x.unloads ++ [(handle, d)] }) s
      unloadCheck c (keepProg d s)) s

/-- CTX_KUNLOAD (R142). -/
def execCtxKunload (d : Desc) (handle : Nat) (s : State) : Host.Outcome State Fault Refusal := .next (doKunload d handle s)

/-- An invocation on the engines of the lanterns that serve (R143). -/
def invoke (c : Nat) (k : Kernel) (entry : Nat) (ls : List Lan) (d : Desc) (s : State) : State :=
  startInv c k entry ls (some d) none (keepProg d s)

/-- CTX_KRUN (R142, R143): the mask names logical lanterns; the kernel runs on those that serve. -/
def doKrun (d : Desc) (handle entry : Nat) (lmask : List LLan) (s : State) : State :=
  runMask d lmask (fun c x s =>
    match x.kernels.find? (fun k => k.handle == handle) with
    | none => finish d 0x07 s
    | some k =>
      if k.unloading then finish d 0x05 s
      else if k.image.entries.toNat ≤ entry then finish d 0x07 s
      else
        let ls := (lmask.filterMap (fun l => lanOf s l.val)).map (fun p => (Fin.ofNat 1088 p : Lan))
        if ls = [] then finish d 0 s else invoke c k entry ls d s) s

/-- CTX_KRUN (R142). -/
def execCtxKrun (d : Desc) (handle entry : Nat) (lmask : List LLan) (s : State) : Host.Outcome State Fault Refusal :=
  .next (doKrun d handle entry lmask s)

/-! ### Attestation (R462) -/

/-- What a report says of a context. -/
def reportCtx (c : Nat) (x : Ctx) (s : State) : List Byte :=
  let live := x.epochs.find? (fun e => e.st == .live)
  let own : List Shard := match live with
    | none => []
    | some e => sortKey (fun h => h.ent.shard.toNat) (e.shards.filter (fun h => h.ent.role == 1))
  leBytes 2 x.ctxid.toNat ++ leBytes 2 (maskOf (sconcesOf s c)) ++
    [BitVec.ofNat 8 ((if x.daylight then 1 else 0) + (if x.log then 2 else 0)), 0, 0, 0] ++
    leBytes 4 (match live with | none => 0 | some e => e.epoch.toNat) ++ [0, 0, 0, 0] ++
    (if own.isEmpty then List.replicate 48 0
      else digBytes (Config.sha384 (own.flatMap (fun h => digBytes h.ent.digest))))

/-- The 384 bytes of a report's body (R462). -/
def reportBody (kind : Nat) (nonce : BitVec 256) (bound : List Byte) (ctx : List Byte) (s : State) : List Byte :=
  let im : Digest × W32 := match s.sec.image with | some i => (i.meas, i.svn) | none => (0, 0)
  let cf : W32 × Digest := match s.sec.cfg with | some g => (g.cfgseq, g.cfgdig) | none => (0, 0)
  leBytes 4 0x31545441 ++ leBytes 2 0x0100 ++ [BitVec.ofNat 8 kind, 0] ++ digBytes s.sec.iddigest ++ digBytes im.1 ++
    leBytes 4 im.2.toNat ++ leBytes 4 cf.1.toNat ++ digBytes cf.2 ++ leBytes 32 nonce.toNat ++ bound ++ ctx ++
    leBytes 8 (ltime s).toNat ++ leBytes 2 s.clk.rstCount.toNat ++ List.replicate 70 0

/-- Bytes of a report with its certificates and signatures. -/
def reportSize : Nat := 68544

/-- A report: its body, then certificates and signatures whose bytes are free values (log 9). -/
def report (body : List Byte) (op : Nat) (s : State) : List Byte × State :=
  let w := freeWords op ((reportSize - 384) / 4) s
  (body ++ w.1.flatMap (fun x => leBytes 4 x.toNat), w.2)

/-- CTX_ATTEST (R462, R387). -/
def doCtxAttest (d : Desc) (nonce : BitVec 256) (s : State) : State :=
  runCtx d false (fun c x s =>
    if d.outlen = 0 then finish d 1 s
    else if d.outlen.toNat < reportSize then finish d 0x07 s
    else
      let r := report (reportBody 2 nonce (digBytes x.keydig) (reportCtx c x s) s) 0x020A s
      complete d 0 reportSize [] (outLines d.outaddr r.1 r.2)) s

/-- CTX_ATTEST (R462). -/
def execCtxAttest (d : Desc) (nonce : BitVec 256) (s : State) : Host.Outcome State Fault Refusal :=
  .next (doCtxAttest d nonce s)

/-! ### Embers (R471) -/

/-- CTX_EMBERS (R471, R387). -/
def doCtxEmbers (d : Desc) (s : State) : State :=
  runCtx d false (fun _ x s =>
    finishOut d 64 ((s.mgt.log.filter (fun e => e.ctxid == some x.ctxid && decide (x.born ≤ e.localt.toNat))).flatMap
      Ember.bytes) s) s

/-- CTX_EMBERS (R471). -/
def execCtxEmbers (d : Desc) (s : State) : Host.Outcome State Fault Refusal := .next (doCtxEmbers d s)

/-! ### Events that let waiting commands go on -/

/-- Commands that wait for launch phases or flares look again. -/
def kickOps (s : State) : State :=
  if s.snuf.wheld then s else clockGo ((List.range 16).foldl (fun s c => opsGo c s) s)

/-- Positions of every context whose layers' kernels have ended go on (R142). -/
def kickAllStages (s : State) : State := (ctxSlots s).foldl (fun s c => kickStages c s) s

/-- FLICKER (R153). -/
def execFlicker (draws : List Lan) (s : State) : Host.Outcome State Fault Refusal := .next (kickOps (kickAllStages (doFlicker draws s)))

/-- FLARE_COMPLETE (R155). -/
def execFlareComplete (c : CtxI) (s : State) : Host.Outcome State Fault Refusal := .next (kickOps (flareComplete c.val s))

end Sys2Proof.Machine
end

