-- ==== Sys2Proof/Machine/Traffic.lean ====
section
/-! DEFINITION. Fabric messages at their destination (R322 to R347, R536): the checks every message passes, activations, S40
contributions, reduction timers, notices, the hold of curfew rules, and taper segments. -/

namespace Sys2Proof.Machine

/-! ### Identity and duplicates (R324) -/

/-- A window after a new highest number. -/
def winAhead (w : DupWin) (n : W32) (d : Nat) : DupWin :=
  { w with top := n, seen := (if d < 256 then w.seen <<< d else 0) ||| 1 }

/-- Accept a number in the window of a source and lane, or find it a duplicate. -/
def acceptNum (src : Pkg) (vl : BitVec 3) (n : W32) (s : State) : Option State :=
  let is (w : DupWin) : Bool := w.src == src && w.vl == vl
  let put (w : DupWin) : State := { s with fab := { s.fab with wins := s.fab.wins.filter (fun w => !is w) ++ [w] } }
  match s.fab.wins.find? is with
  | none => some (put { src := src, vl := vl, top := n, seen := 1 })
  | some w =>
    let d := (n - w.top).toNat
    let b := (w.top - n).toNat
    if 0 < d ∧ d < 2 ^ 31 then some (put (winAhead w n d))
    else if b < 256 ∧ w.seen.toNat / 2 ^ b % 2 = 0 then some (put { w with seen := setBit w.seen b })
    else none

/-- A duplicate is discarded and counted (R324). -/
def countDup (s : State) : State := tstatSet 0 { s with fab := { s.fab with dups := s.fab.dups + 1 } }

/-- A message of a retired instance (R536): ACT, S40 and notices up to the retired segment. SUSPECT and SETTLE notices are of
retired instances by their nature (R242, R243). -/
def ofRetired (s : State) (h : Hdr) : Bool :=
  let k := h.kind.toNat
  let which := k == 0x10 || k == 0x11 || (decide (0x20 ≤ k) && decide (k ≤ 0x26) && k != 0x23 && k != 0x24)
  which && s.fab.retired.any (fun r => r.ctx == h.ctx && r.inst == h.inst && decide (h.seg.toNat ≤ r.seg.toNat))

/-- Epoch, layer, partition and final package of a work message. -/
def workKey (m : Msg) : Option (W32 × W16 × W16 × Pkg) :=
  match m.body with
  | .act a _ => some (a.epoch, a.layer, a.part, a.final)
  | .s40 r _ => some (r.epoch, r.layer, r.part, r.final)
  | _ => none

/-- A lantern of a layer: the consumer that the ember and the withhold cause name (R225, R499). -/
def layerLan (s : State) (c : Nat) (ep : W32) (layer : W16) : Option Nat :=
  (epochShards s c ep).findSome? (fun h =>
    if h.ent.kind == 1 && h.ent.role == 1 && h.md.any (fun m => m.layer == layer) then lanOf s h.ent.target.toNat else none)

/-- Whose second copy is awaited. -/
def resentKey (m : Msg) : Pkg × W32 × W32 × W16 × W16 :=
  match workKey m with
  | some (_, layer, part, _) => (m.hdr.src, m.hdr.inst, m.hdr.tindex, layer, part)
  | none => (m.hdr.src, m.hdr.inst, m.hdr.tindex, 0, 0)

/-- A failed block (R225, R333): RESEND to the sender once; a second failure withholds. -/
def workBad (c : Nat) (m : Msg) (cause : W16) (s : State) : State :=
  let key := resentKey m
  if s.fab.resent.contains key then
    let l := match workKey m with | some (ep, layer, _, _) => (layerLan s c ep layer).getD 0 | none => 0
    blockLost l s
  else
    let s := tstatSet 3 { s with fab := { s.fab with resent := s.fab.resent ++ [key] } }
    sendNotice 0x25 m.hdr.src (ridOf m.hdr) m.hdr.tindex
      (BitVec.ofNat 64 (key.2.2.2.1.toNat + 65536 * key.2.2.2.2.toNat)) m.hdr.msn cause s

/-- The body is the kind's (R322). -/
def bodyFits (k : Nat) (b : Body) : Bool :=
  match b with
  | .notice _ => k == 0x15 || (decide (0x20 ≤ k) && decide (k ≤ 0x26))
  | .curfew _ => k == 0x12
  | .taperReq _ => k == 0x14
  | .act _ _ => k == 0x10
  | .s40 _ _ => k == 0x11
  | .tform _ _ _ _ => k == 0x30
  | .tdigest _ => k == 0x31
  | .tact _ _ => k == 0x32
  | .tresult _ => k == 0x33
  | .theart _ _ => k == 0x34
  | _ => false

/-- A message other than work whose length field or layout is not its kind's (R326). -/
def malformed (m : Msg) : Bool :=
  m.hdr.kind != 0x10 && m.hdr.kind != 0x11 && (!bodyFits m.hdr.kind.toNat m.body || m.hdr.len.toNat != bodyLen m.body)

/-- What every message at its destination passes: identity, kind and lane, duplicates, retired instances (R323, R324, R327,
R536). A package that has withheld takes no message (R341); at a port whose half has no NCLK the message stays (R320). -/
def receive (k : Nat) (m : Msg) (kind : Nat) (body : State → State) (s : State) : State :=
  if dieWaits s k then s
  else
  let s := takeItem k (.msg m) s
  let h := m.hdr
  if s.snuf.wheld || !s.fab.myidV || h.kind.toNat != kind then s
  else if kindVl kind != some m.vl.toNat then countDrop s
  else if h.dst != s.fab.myid then s
  else match acceptNum h.src m.vl h.msn s with
    | none => countDup s
    | some s =>
      if ofRetired s h then countDrop s
      else if malformed m then workBad 0 m 3 s
      else body s

/-- The context slot a message names. -/
def msgCtx (s : State) (h : Hdr) : Option Nat := slotOf s h.ctx

/-! ### Work: ACT and S40 -/

/-- Element or group count of a work message (R326). -/
def workCount (m : Msg) : Nat :=
  match m.body with
  | .act a _ => a.nelem.toNat
  | .s40 r _ => r.ngroups.toNat
  | _ => 0

/-- 256-byte blocks of a work message. -/
def workBlocks (m : Msg) : Nat :=
  match m.body with
  | .act _ d => (d.length + 255) / 256
  | .s40 _ d => (d.length + 255) / 256
  | _ => 0

/-- A hold rule matches a message (R343). -/
def ruleHolds (r : HoldRule) (ctx : W16) (ep : W32) (layer : W16) : Bool :=
  r.ctx == ctx && (if r.below then decide (ep.toNat < r.epoch.toNat) else ep == r.epoch) &&
    decide (r.layLo.toNat ≤ layer.toNat) && decide (layer.toNat ≤ r.layHi.toNat)

/-- Messages held under every rule. -/
def heldCount (s : State) : Nat := sumN (s.fab.rules.map (fun r => r.held.length))

/-- Hold a message under a rule, or discard it beyond 65,535 (R343, R338). -/
def holdUnder (r : HoldRule) (k : LinkI) (m : Msg) (s : State) : State :=
  let same (q : HoldRule) : Bool := q.cfid == r.cfid && q.ctx == r.ctx
  let put (f : HoldRule → HoldRule) : State := { s with fab := { s.fab with rules := updIf same f s.fab.rules } }
  if heldCount s < 65535 then put (fun q => { q with held := q.held ++ [(k, m)] })
  else reportLoss m 2 (tstatSet 5 (put (fun q => { q with overflow := true })))

/-- After SYS.SHUTDOWN work is not computed: one notice for each request (R537). -/
def shutNotice (m : Msg) (s : State) : State := reportLoss m 4 s

/-- Work at its destination: what every message passes, then shutdown, empty messages, the result stream, and hold rules. A
released message goes straight on, and no message of its context overtakes it (R343). -/
def receiveWork (k : LinkI) (m : Msg) (kind : Nat) (body : State → State) (s : State) : State :=
  if s.fab.freed.contains (k, m) then
    body { s with fab := { s.fab with freed := s.fab.freed.erase (k, m) } }
  else if s.fab.freed.any (fun p => p.2.hdr.ctx == m.hdr.ctx) then s
  else receive k.val m kind (fun s =>
    if s.mbx.shut then shutNotice m s
    else if workCount m = 0 then { s with fab := { s.fab with noop := satInc s.fab.noop } }
    else
      let s := touchStream m true s
      match workKey m with
      | none => s
      | some (ep, layer, _, _) => match s.fab.rules.find? (fun r => ruleHolds r m.hdr.ctx ep layer) with
        | some r => holdUnder r k m s
        | none => body s) s

/-- A good message: where it is the second copy, the retry counts and the chain is no longer clean (R225). -/
def workGood (c : Nat) (m : Msg) (s : State) : Bool × State :=
  let key := resentKey m
  if s.fab.resent.contains key then
    let src := match workKey m with
      | some (ep, layer, _, _) => (match layerLan s c ep layer with | some l => sconceOf l | none => 0xFFFF)
      | none => 0xFFFF
    let s := { s with fab := { s.fab with resent := s.fab.resent.erase key } }
    (false, blockRetried src (some m.hdr.ctx) s)
  else (true, s)

/-! ### Activations (R332, R333) -/

/-- Length or format is not one the kind accepts (R326, R332). -/
def actMalformed (m : Msg) : Bool :=
  match m.body with
  | .act b d =>
    let f := b.fmt.toNat
    !((decide (3 ≤ f) && decide (f ≤ 6) && m.hdr.blocked) || ((f == 7 || f == 8) && !m.hdr.blocked)) ||
      d.length != tensorSize b.fmt.toNat m.hdr.blocked b.nelem.toNat || m.hdr.len.toNat != bodyLen m.body
  | _ => true

/-- The retained messages of the position before go (R334). -/
def freeKept (h : Hdr) (s : State) : State :=
  let old (m : Msg) : Bool := m.hdr.ctx == h.ctx && m.hdr.inst == h.inst && decide (m.hdr.tindex.toNat + 1 = h.tindex.toNat)
  { s with fab := { s.fab with kept := s.fab.kept.filter (fun m => !old m) } }

/-- An activation whose layer no context here holds (R333). -/
def actNoCtx (m : Msg) (s : State) : State :=
  match m.body with
  | .act b _ => epochMiss m.hdr b s
  | _ => s

/-- ACT_RECEIVE (R333). -/
def doActReceive (k : LinkI) (m : Msg) (bad : Bool) (s : State) : State :=
  receiveWork k m 0x10 (fun s =>
    match msgCtx s m.hdr with
    | none => actNoCtx m s
    | some c =>
      if actMalformed m then workBad c m 3 s
      else if bad then workBad c m 1 s
      else
        let g := workGood c m s
        let s := freeKept m.hdr g.2
        kickPfx c (actStart c { link := k, msg := m, outs := [], att := [], stage := [], done := 0, clean := g.1,
                                resolved := if g.1 then 0 else 1, checks := workBlocks m } s)) s

/-- ACT_RECEIVE (R333). -/
def execActReceive (k : LinkI) (m : Msg) (bad : Bool) (s : State) :
    Host.Outcome State Fault Refusal := .next (doActReceive k m bad s)

/-! ### S40 contributions (R335, R336) -/

/-- Length or layout is not the kind's (R326, R335). -/
def s40Malformed (m : Msg) : Bool :=
  match m.body with
  | .s40 r d => d.length != (321 * r.ngroups.toNat + 255) / 256 * 256 || (d.drop (321 * r.ngroups.toNat)).any (fun b => b != 0) ||
    m.hdr.len.toNat != bodyLen m.body
  | _ => true

/-- Every group carries the exponent the metadata gives (R99). -/
def expsOk (exps : List Int) (r : RedHdr) (g : List S40Group) : Bool :=
  decide (r.group0.toNat + g.length ≤ exps.length) && (withPos r.group0.toNat g).all (fun p => exps[p.1]? == some p.2.exp)

/-- The groups an S40 message carries, packed one behind the other (R97, R335). -/
def s40Body (r : RedHdr) (d : List Byte) : List S40Group :=
  (List.range r.ngroups.toNat).map (fun i => s40OfBytes ((d.drop (321 * i)).take 321))

/-- Add a contribution to its record (R336, steps 2 to 4). -/
def contribute (c : Nat) (exps : List Int) (h : Hdr) (r : RedHdr) (g : List S40Group) (clean : Bool) (blocks : Nat) (s : State) : State :=
  let base := match s.fab.reds.find? (redIs h.ctx h.inst h.tindex r.layer r.part) with
    | some q => q
    | none => redNew h r.epoch r.adpgen r.final r.layer r.part exps
  if base.mask &&& r.cmask = 0 then
    redPut c { base with mask := base.mask ||| r.cmask, groups := addGroups r.group0.toNat g base.groups, clean := base.clean && h.clean && clean,
                         resolved := satOf 8 (base.resolved.toNat + r.resolved.toNat + (if clean then 0 else 1)),
                         checks := satOf 32 (base.checks.toNat + r.checks.toNat + blocks), begun := true } s
  else tstatSet 0 s

/-- S40_RECEIVE (R336). -/
def doS40Receive (k : LinkI) (m : Msg) (bad : Bool) (s : State) : State :=
  receiveWork k m 0x11 (fun s =>
    match m.body with
    | .s40 r d =>
      let miss (s : State) : State :=
        epochMiss m.hdr { epoch := r.epoch, adpgen := r.adpgen, layer := r.layer, part := r.part, fmt := 0, resolved := r.resolved,
                          final := r.final, checks := r.checks, nelem := 0, adpslot := 0 } s
      (match msgCtx s m.hdr with
      | none => miss s
      | some c => match reduceMeta s c r.epoch r.layer.toNat r.part with
        | none => if holdsLayer s c r.epoch r.layer.toNat then countDrop s else miss s
        | some md =>
          let exps := partExps s c r.epoch md
          let g := s40Body r d
          if s40Malformed m then workBad c m 3 s
          else if bad || !expsOk exps r g then workBad c m 1 s
          else
            let q := workGood c m s
            contribute c exps m.hdr r g q.1 (workBlocks m) q.2)
    | _ => s) s

/-- S40_RECEIVE (R336). -/
def execS40Receive (k : LinkI) (m : Msg) (bad : Bool) (s : State) : Host.Outcome State Fault Refusal :=
  .next (doS40Receive k m bad s)

/-- A record of a position and layer that still waits for contributions. -/
def openRed (s : State) (c : Nat) (inst tindex : W32) (layer : W16) : Option RedRec :=
  let id := match getCtx s c with | some x => x.ctxid | none => 0
  s.fab.reds.find? (fun r => r.ctx == id && r.inst == inst && r.tindex == tindex && r.layer == layer && r.begun && r.done.isNone)

/-- The package of a contributor: the manual gives no map from an index to a package, a free value (log 28). -/
def contributorPkg (layer part : W16) (i : Nat) : Pkg :=
  (Config.outWord 0x25 (i + 256 * part.toNat + 16777216 * layer.toNat)).setWidth 12

/-- REDUCTION_RESEND_TIMER (R337): RESEND with cause 2 to the package of every missing contributor. -/
def doRedResend (c : Nat) (inst tindex : W32) (layer : W16) (s : State) : State :=
  match (if s.snuf.wheld then none else openRed s c inst tindex layer) with
  | none => s
  | some r => match reduceMeta s c r.epoch layer.toNat r.part with
    | none => s
    | some md =>
      let lack := maskBits 256 (md.rmask &&& ~~~ r.mask).toNat
      lack.foldl (fun s i =>
        sendNotice 0x25 (contributorPkg layer r.part i) { ctx := r.ctx, reqtag := r.reqtag, inst := inst, seg := r.seg } tindex
          (BitVec.ofNat 64 (layer.toNat + 65536 * r.part.toNat)) 0 2 (tstatSet 3 s)) s

/-- REDUCTION_RESEND_TIMER (R337). -/
def execReductionResendTimer (c : CtxI) (inst tindex : W32) (layer : W16) (s : State) :
    Host.Outcome State Fault Refusal := .next (doRedResend c.val inst tindex layer s)

/-- REDUCTION_RECORD_EXPIRY (R337, R487): the record is freed, an ember raised, and the final package told with CODE 3. -/
def doRedExpiry (c : Nat) (inst tindex : W32) (layer : W16) (s : State) : State :=
  match (if s.snuf.wheld then none else openRed s c inst tindex layer) with
  | none => s
  | some r =>
    let s := tstatSet 4 { s with fab := { s.fab with reds := s.fab.reds.erase r } }
    let s := raiseEmber { emb 2 0x0A02 layer.toNat (some r.ctx) r.part.toNat with reqtag := r.reqtag } s
    sendNotice 0x20 r.final { ctx := r.ctx, reqtag := r.reqtag, inst := inst, seg := r.seg } tindex (ltime s) 0 3 s

/-- REDUCTION_RECORD_EXPIRY (R337). -/
def execReductionRecordExpiry (c : CtxI) (inst tindex : W32) (layer : W16) (s : State) :
    Host.Outcome State Fault Refusal := .next (doRedExpiry c.val inst tindex layer s)

/-! ### Notices (R339 to R341) -/

/-- The body of a notice. -/
def noticeOf (m : Msg) : NoticeBody :=
  match m.body with
  | .notice n => n
  | _ => { arg0 := 0, arg1 := 0, code := 0 }

/-- A notice for a context held here. -/
def receiveNotice (k : LinkI) (m : Msg) (kind : Nat) (body : Nat → Ctx → State → State) (s : State) : State :=
  receive k.val m kind (fun s => match msgCtx s m.hdr with
    | none => s
    | some c => match getCtx s c with
      | none => s
      | some x => body c x s) s

/-- The builder's first NEXT enters its prefix (R423, R425): the nodes, the shadows, and the wicks' early cycles. -/
def enterPrefix (c : Nat) (a : AdmRec) (s : State) : State :=
  match getCtx s c with
  | none => s
  | some x => match x.prefixes.find? (fun p => p.inst == a.inst && !p.live && p.slot != 0) with
    | none => s
    | some p =>
      let until_ := nowC s + leaseCycles s
      let live (q : Prefix) : Prefix := { q with live := true, expiry := until_ }
      let y := { x with prefixes := updIf (fun q => q.slot == p.slot) live x.prefixes }
      let y := lkpSync (enterFrom p.slot (a.prompt.length / 32) 0 0 a.prompt y)
      let new := (y.nodes.filter (fun n => decide (n.id ≤ 524288) && !(x.nodes.any (fun m => m.id == n.id)))).map (fun n => n.id)
      let lans := lookupLans s c x
      new.foldl (fun s i =>
        let r := (i - 1) / 8192
        let w := (i - 1) % 8192 / 512
        match (lans[r]?).bind (fun ll => lanOf s ll) with
        | none => s
        | some l => updWick l (mapOf (getLan s l) w) (fun v => { v with early := true }) s) (setCtx c (some y) s)

/-- NEXT_RECEIVE (R334, R407, R423). -/
def doNextReceive (k : LinkI) (m : Msg) (s : State) : State :=
  receiveNotice k m 0x15 (fun c x s =>
    let h := m.hdr
    let same (q : Msg) : Bool := q.hdr.ctx == h.ctx && q.hdr.inst == h.inst && q.hdr.tindex == h.tindex
    let s := { s with fab := { s.fab with kept := s.fab.kept.filter (fun q => !same q) } }
    match x.adm.find? (fun a => a.admitted && a.inst == h.inst && a.seg == h.seg && !a.retired) with
    | none => s
    | some a =>
      if a.nextPos = h.tindex.toNat + 1 then
        let s := updAdm c a.num (fun a => { a with nextTok := some ((noticeOf m).arg0.setWidth 32), gotNext := true,
                                                   lastPos := h.tindex.toNat + 1, readySince := nowF s }) s
        if a.build && !a.gotNext then enterPrefix c a s else s
      else s) s

/-- NEXT_RECEIVE (R334). -/
def execNextReceive (k : LinkI) (m : Msg) (s : State) : Host.Outcome State Fault Refusal := .next (doNextReceive k m s)

/-- The open release record a notice to the final package names; one that no activation has reached takes the notice's
instance (R341, R487). -/
def relNamed (x : Ctx) (h : Hdr) : Option RelRec :=
  x.rel.find? (fun r => !r.stale && !r.retired && r.num == numOf h.reqtag &&
    (!r.started || (r.inst == h.inst && r.seg == h.seg)))

/-- Retire the named record with an END. -/
def retireNamed (c : Nat) (h : Hdr) (r : RelRec) (e : Nat) (s : State) : State :=
  let s := if r.started then s
    else updRelNum c r.num (fun r => { r with inst := h.inst, seg := h.seg, reqtag := h.reqtag }) s
  retireRel c r.num e s

/-- WITHHELD_RECEIVE (R341, R487, R495). -/
def doWithheldReceive (k : LinkI) (m : Msg) (s : State) : State :=
  receiveNotice k m 0x20 (fun c x s => match relNamed x m.hdr with
    | none => s
    | some r => retireNamed c m.hdr r 6 (setBroken (noticeOf m).code s)) s

/-- WITHHELD_RECEIVE (R341). -/
def execWithheldReceive (k : LinkI) (m : Msg) (s : State) : Host.Outcome State Fault Refusal := .next (doWithheldReceive k m s)

/-- The admission record a RETIRE notice names: by instance, or by number where no activation had reached the final package
(R429). -/
def admNamed (x : Ctx) (h : Hdr) : Option AdmRec :=
  x.adm.find? (fun a => !a.retired && a.num == numOf h.reqtag && (h.inst == 0 || (a.admitted && a.inst == h.inst && a.seg == h.seg)))

/-- RETIRE on a package (R340, R404, R536): the admission record ends; the instance's work goes. -/
def retireNotice (c : Nat) (x : Ctx) (h : Hdr) (s : State) : State :=
  match admNamed x h with
  | some a => retireHere c { h with inst := a.inst, reqtag := a.reqtag } h.src (endAdm c a 0 s)
  | none => if h.inst = 0 then s else retireHere c h h.src s

/-- COMMIT_RECEIVE (R238, R340). -/
def doCommitReceive (k : LinkI) (m : Msg) (s : State) : State :=
  receiveNotice k m 0x21 (fun c x s =>
    let h := m.hdr
    let s := attnCommit c h.inst (h.tindex.toNat + 1) s
    kickPfx c (if (noticeOf m).code.toNat % 2 = 1 then retireNotice c x h s else s)) s

/-- COMMIT_RECEIVE (R238). -/
def execCommitReceive (k : LinkI) (m : Msg) (s : State) : Host.Outcome State Fault Refusal := .next (doCommitReceive k m s)

/-- DISCARD_RECEIVE (R238, R340). -/
def doDiscardReceive (k : LinkI) (m : Msg) (s : State) : State :=
  receiveNotice k m 0x22 (fun c x s =>
    let h := m.hdr
    let s := attnDiscard c h.inst h.tindex.toNat s
    kickPfx c (if (noticeOf m).code.toNat % 2 = 1 then retireNotice c x h s else s)) s

/-- DISCARD_RECEIVE (R238). -/
def execDiscardReceive (k : LinkI) (m : Msg) (s : State) : Host.Outcome State Fault Refusal := .next (doDiscardReceive k m s)

/-- SUSPECT_RECEIVE (R242). -/
def execSuspectReceive (k : LinkI) (m : Msg) (s : State) : Host.Outcome State Fault Refusal :=
  .next (receiveNotice k m 0x23 (fun c _ s => suspectAtFinal c m.hdr (noticeOf m).arg0 s) s)

/-- SETTLE_RECEIVE (R243). -/
def execSettleReceive (k : LinkI) (m : Msg) (s : State) : Host.Outcome State Fault Refusal :=
  .next (receiveNotice k m 0x24 (fun c _ s => settleCount c m.hdr.inst m.hdr.src s) s)

/-- Send a retained message again, byte for byte but its number (R334). -/
def sendAgain (m : Msg) (s : State) : State :=
  let key := m.hdr.dst.toNat * 8 + m.vl.toNat
  let n := Tab.get 0 s.fab.msn key
  let m' : Msg := { m with hdr := { m.hdr with msn := n } }
  egress m' { s with fab := { s.fab with msn := Tab.set 0 s.fab.msn key (n + 1), kept := updIf (fun q => q == m) (fun _ => m') s.fab.kept } }

/-- The retained message a RESEND asks for. -/
def wanted (s : State) (h : Hdr) (b : NoticeBody) : Option Msg :=
  s.fab.kept.find? (fun m =>
    m.hdr.dst == h.src && m.hdr.ctx == h.ctx && m.hdr.inst == h.inst && m.hdr.tindex == h.tindex &&
      (match workKey m with
        | some (_, layer, part, _) => decide (layer.toNat + 65536 * part.toNat = b.arg0.toNat % 2 ^ 32)
        | none => false) &&
      (if b.code == 2 then m.hdr.kind == 0x11 else m.hdr.msn == b.arg1))

/-- RESEND_RECEIVE (R334): one for a message no longer held, or not sent yet, is ignored (R337, R347). -/
def doResendReceive (k : LinkI) (m : Msg) (s : State) : State :=
  receiveNotice k m 0x25 (fun _ _ s => match wanted s m.hdr (noticeOf m) with
    | none => s
    | some q => sendAgain q s) s

/-- RESEND_RECEIVE (R334). -/
def execResendReceive (k : LinkI) (m : Msg) (s : State) : Host.Outcome State Fault Refusal := .next (doResendReceive k m s)

/-- EPOCH_MISS_RECEIVE (R333, R411). -/
def doEpochMiss (k : LinkI) (m : Msg) (s : State) : State :=
  receiveNotice k m 0x26 (fun c x s => match relNamed x m.hdr with
    | none => s
    | some r => retireNamed c m.hdr r 8 s) s

/-- EPOCH_MISS_RECEIVE (R411). -/
def execEpochMissReceive (k : LinkI) (m : Msg) (s : State) : Host.Outcome State Fault Refusal := .next (doEpochMiss k m s)

/-- RETIRED_INSTANCE_EXPIRY (R536): 5 s after its retirement an instance is forgotten. -/
def doRetiredExpiry (ctx : W16) (inst : W32) (s : State) : State :=
  { s with fab := { s.fab with retired := s.fab.retired.filter (fun r => !(r.ctx == ctx && r.inst == inst)) } }

/-- RETIRED_INSTANCE_EXPIRY (R536). -/
def execRetiredInstanceExpiry (ctx : W16) (inst : W32) (s : State) : Host.Outcome State Fault Refusal :=
  .next (doRetiredExpiry ctx inst s)

/-! ### Tapers (R344 to R346) -/

/-- The entry of a chain whose in-link this is. -/
def chainOf (s : State) (k chain : Nat) : Option (Nat × Chain) :=
  ((List.range 16).map (fun n => (n, Tab.get Chain.init s.fab.chains n))).find? (fun p =>
    p.2.v && p.2.chain.toNat == chain && p.2.inlink.val == k)

/-- The entry of a chain, whatever its in-link. -/
def chainNamed (s : State) (chain : Nat) : Option (Nat × Chain) :=
  ((List.range 16).map (fun n => (n, Tab.get Chain.init s.fab.chains n))).find? (fun p => p.2.v && p.2.chain.toNat == chain)

/-- Send a taper segment on a chain's out-link; a link that is not UP carries none (R347). -/
def sendTaper (n : Chain) (ctx : W16) (t : TaperHdr) (s : State) : State :=
  if n.tail || !linkUp s n.outlink.val || !s.fab.myidV then s
  else
    let key := 32768 + n.chain.toNat
    let no := Tab.get 0 s.fab.msn key
    let m : Msg := { vl := 0, body := .taper t,
                     hdr := { hdrOf 0x13 0 with src := s.fab.myid, ctx := ctx, msn := no, len := BitVec.ofNat 32 (64 + t.seglen.toNat) } }
    linkPut n.outlink.val 0 (.msg m) { s with fab := { s.fab with msn := Tab.set 0 s.fab.msn key (no + 1) } }

/-- Keep the newest segments of a chain, 512 MiB of them (R345): oldest first. -/
def keepNewest : Nat → List (W16 × TaperHdr × Digest) → List (W16 × TaperHdr × Digest)
  | _, [] => []
  | room, e :: t => if e.2.1.seglen.toNat ≤ room then e :: keepNewest (room - e.2.1.seglen.toNat) t else []

/-- Store a segment. -/
def storeSeg (t : TaperHdr) (dig : Digest) (s : State) : State :=
  let mine := s.fab.segs.filter (fun e => e.1 == t.chain)
  let rest := s.fab.segs.filter (fun e => e.1 != t.chain)
  let l := (keepNewest 536870912 ((t.chain, t, dig) :: mine.reverse)).reverse
  { s with fab := { s.fab with segs := rest ++ l } }

/-- The segment joins the shards it belongs to: those a list here takes from this chain (R345, R435, R449). -/
def segArrived (c : Nat) (t : TaperHdr) (s : State) : State :=
  let is (h : Shard) : Bool := h.ent.shard == t.shard && h.ent.source == t.chain && h.ent.role != 0 && (h.st != .verified || h.restoring)
  let take (h : Shard) : Shard :=
    { h with got := if h.got.contains t.seg.toNat then h.got else h.got ++ [t.seg.toNat], total := t.segs.toNat }
  updCtx c (fun x => { x with
    epochs := x.epochs.map (fun e => { e with shards := updIf is take e.shards }),
    adapters := x.adapters.map (fun p => (p.1, p.2.map (fun g => { g with shards := updIf is take g.shards }))) }) s

/-- Relay a segment port to port (R325, R345). -/
def relayTaper (n : Chain) (m : Msg) (s : State) : State :=
  if n.tail then s
  else if m.hdr.hops = 0 then ember 2 0x0A01 m.hdr.src.toNat none m.hdr.dst.toNat (countDrop (tstatSet 1 s))
  else if linkUp s n.outlink.val then
    linkPut n.outlink.val 0 (.msg { m with hdr := { m.hdr with hops := m.hdr.hops - 1 } }) s
  else s

/-- TAPER_RECEIVE (R345). A segment whose length field is wrong is relayed and counts as damaged (R326, R346). -/
def doTaperReceive (k : LinkI) (m : Msg) (dig : Digest) (s : State) : State :=
  let s := takeItem k.val (.msg m) s
  if s.snuf.wheld || !s.fab.myidV then s
  else match m.body with
    | .taper t =>
      if m.hdr.kind != 0x13 || m.vl != 0 then countDrop s
      else match chainOf s k.val t.chain.toNat with
        | none => countDrop s
        | some (i, n) => match acceptNum (BitVec.ofNat 12 i) 0 m.hdr.msn s with
          | none => countDup s
          | some s =>
            if t.seglen = 0 then { s with fab := { s.fab with noop := satInc s.fab.noop } }
            else
              let s := relayTaper n m s
              if m.hdr.len.toNat ≠ 64 + t.seglen.toNat ∨ 65536 < t.seglen.toNat then s
              else
              let s := storeSeg t dig s
              let own := s.fab.myid.setWidth 16
              if t.owner == own || t.buddy == own then
                match msgCtx s m.hdr with
                | none => s
                | some c => segArrived c t s
              else s
    | _ => s

/-- TAPER_RECEIVE (R345). -/
def execTaperReceive (k : LinkI) (m : Msg) (dig : Digest) (s : State) : Host.Outcome State Fault Refusal :=
  .next (doTaperReceive k m dig s)

/-- Runs of consecutive numbers: first and count. -/
def runsOf : List Nat → List (Nat × Nat)
  | [] => []
  | a :: t => match runsOf t with
    | (b, n) :: r => if b = a + 1 then (a, n + 1) :: r else (a, 1) :: (b, n) :: r
    | [] => [(a, 1)]

/-- The shard list entry a chain's head injects. -/
def headEntry (s : State) (c : Nat) (chain shard : Nat) : Option Shard :=
  (getCtx s c).bind (fun x =>
    ((x.epochs.flatMap (fun e => e.shards)) ++ (x.adapters.flatMap (fun p => p.2.flatMap (fun g => g.shards)))).find? (fun h =>
      h.ent.head && h.ent.shard.toNat == shard && h.ent.source.toNat == chain))

/-- Ask upstream for segments (R346). -/
def askUp (n : Chain) (ctx : W16) (t : TaperHdr) (first count : Nat) (s : State) : State :=
  match (getNbr s n.inlink.val).pkg with
  | none => s
  | some p => sendMsg { hdrOf 0x14 p.toNat with ctx := ctx }
      (.taperReq { t with seg := BitVec.ofNat 32 first, seglen := BitVec.ofNat 32 count }) s

/-- Segments a TAPER_REQ asks for. -/
def segsAsked (t : TaperHdr) : List Nat := (List.range (min t.seglen.toNat 65536)).map (fun i => t.seg.toNat + i)

/-- TAPER_REQ_RECEIVE (R346): segments held are sent again; the head fetches the others through its companion; any other member
passes the request upstream. -/
def doTaperReq (k : LinkI) (m : Msg) (s : State) : State :=
  receive k.val m 0x14 (fun s =>
    match m.body with
    | .taperReq t => match chainNamed s t.chain.toNat with
      | none => s
      | some (_, n) =>
        let held := s.fab.segs.filter (fun e => e.1 == t.chain && e.2.1.shard == t.shard && (segsAsked t).contains e.2.1.seg.toNat)
        let lack := (segsAsked t).filter (fun i => !(held.any (fun e => e.2.1.seg.toNat == i)))
        let s := held.foldl (fun s e => sendTaper n m.hdr.ctx e.2.1 s) s
        let head := (msgCtx s m.hdr).bind (fun c => headEntry s c t.chain.toNat t.shard.toNat)
        match head with
        | some _ => lack.foldl (fun s i =>
            sendTaper n m.hdr.ctx { t with seg := BitVec.ofNat 32 i, seglen := 65536 } s) s
        | none => (runsOf lack).foldl (fun s r => askUp n m.hdr.ctx t r.1 r.2 s) s
    | _ => s) s

/-- TAPER_REQ_RECEIVE (R346). -/
def execTaperReqReceive (k : LinkI) (m : Msg) (s : State) : Host.Outcome State Fault Refusal := .next (doTaperReq k m s)

end Sys2Proof.Machine
end

