-- ==== Sys2Proof/Machine/Waves.lean ====
section
/-! DEFINITION. Curfews (R342, R343, R347) and the layer wave that replaces an epoch (R444, R445, R446): hold rules at a target,
the rewrite a LIFT starts, and the entry package's side. -/

namespace Sys2Proof.Machine

/-! ### The rewrite (R446) -/

/-- Requests open here that have sent work of a matching epoch for a layer in a range (R343, R446). -/
def curfewCount (s : State) (ctx : W16) (below : Bool) (ep : W32) (lo hi : W16) : Nat :=
  let is (k : W32 × W16) : Bool :=
    (if below then decide (k.1.toNat < ep.toNat) else k.1 == ep) && decide (lo.toNat ≤ k.2.toNat) && decide (k.2.toNat ≤ hi.toNat)
  (s.fab.streams.filter (fun t => t.ctx == ctx && t.layers.any is)).length

/-- The closing audit of a serving lantern (R446): a pass retires journal entries, a failure is handled by R242 and R229. -/
def closingAudit (c : Nat) (errs : List (Lan × LWick × List (Nat × Int))) (s : State) (l : Nat) : State :=
  let now := nowF s
  let mine := (errs.filter (fun e => e.1.val == l)).map (fun e => (e.2.1.val, e.2.2))
  (List.range 16).foldl (fun s lw =>
    let ok := closingPasses s c l lw s.fresh (errsOf mine lw)
    let s := { s with fresh := s.fresh + 2048 }
    if ok then journalPass c l lw (now + 1) s else auditFail c l (mapOf (getLan s l) lw) lw now 0 (noteAuditFail l s)) s

/-- Lanterns of a context that serve. -/
def servingLans (s : State) (c : Nat) : List Nat :=
  ((sconcesOf s c).flatMap lansOf).filter (fun l => (getLan s l).st == .service)

/-- A logical lantern that the new epoch uses and none serves is written as in a first load; a sconce without a lantern left
withholds (R446, R481). -/
def waveNewLan (c : Nat) (ep : W32) (s : State) (ll : Nat) : State :=
  if (lanMapped s ll).isSome then s
  else match heldFree s (sconceOfL ll) with
    | some p => assignLan c p (Fin.ofNat 1024 ll) ep .load s
    | none => withhold 0x0B 0 s

/-- Start the rewrite of a context's lanterns to an epoch (R446). -/
def waveStart (c : Nat) (ep : W32) (errs : List (Lan × LWick × List (Nat × Int))) (s : State) : State :=
  match epochOf s c ep with
  | none => s
  | some e =>
    let s := updCtx c (fun x => { x with rewrite := some ep }) s
    let ls := servingLans s c
    let s := ls.foldl (closingAudit c errs) s
    let s := ls.foldl (fun s l => waveStep l (earlyRemap l s)) s
    waveCheck c ((epochLans e).foldl (waveNewLan c ep) s)

/-- An epoch is STAGED for a context. -/
def isStaged (s : State) (c : Nat) (ep : W32) : Bool :=
  match epochOf s c ep with
  | none => false
  | some e => e.st == .staged

/-- Every own shard of an epoch stands verified: none is being restored (R449). -/
def shadowsGood (s : State) (c : Nat) (ep : W32) : Bool :=
  match epochOf s c ep with
  | none => false
  | some e => (e.shards.filter (fun h => h.ent.role == 1)).all (fun h => h.st == .verified && !h.restoring)

/-- The rule's removal without a rewrite; an epoch STAGED later may still be rewritten to (R446). -/
def dropRule (c : Option Nat) (r : HoldRule) (to_ : Pkg) (s : State) : State :=
  let s := match c with
    | none => s
    | some c => updCtx c (fun x => { x with lifted := x.lifted.filter (fun e => e != r.epoch) ++ [r.epoch] }) s
  removeRule r to_ s

/-- Change a rule. -/
def updRule (r : HoldRule) (f : HoldRule → HoldRule) (s : State) : State :=
  { s with fab := { s.fab with rules := updIf (fun q => q.cfid == r.cfid && q.ctx == r.ctx) f s.fab.rules } }

/-- Act on a LIFT of a rule, from `to_` (R343, R446): a rewrite where the epoch is STAGED, which waits for a shard under
restoration (R449); else the rule goes at once. -/
def liftRule (r : HoldRule) (to_ : Pkg) (errs : List (Lan × LWick × List (Nat × Int))) (s : State) : State :=
  match slotOf s r.ctx with
  | none => dropRule none r to_ s
  | some c =>
    if isStaged s c r.epoch then
      let s := updRule r (fun q => { q with lifting := some to_ }) s
      if r.lifting.isNone && shadowsGood s c r.epoch then waveStart c r.epoch errs s else s
    else dropRule (some c) r to_ s

/-- A restored shard lets a rewrite start that a lifted rule waits for (R449). -/
def liftWaiting (c : Nat) (ep : W32) (errs : List (Lan × LWick × List (Nat × Int))) (s : State) : State :=
  match getCtx s c with
  | none => s
  | some x =>
    let waits := s.fab.rules.any (fun r => r.ctx == x.ctxid && r.epoch == ep && r.lifting.isSome)
    if waits && x.rewrite.isNone && isStaged s c ep && shadowsGood s c ep then waveStart c ep errs s else s

/-- A load that staged an epoch whose rule was lifted before rewrites to it, where no request bound below it is open (R446). -/
def liftedBefore (c : Nat) (ep : W32) (errs : List (Lan × LWick × List (Nat × Int))) (s : State) : State :=
  match getCtx s c with
  | none => s
  | some x =>
    if x.lifted.contains ep && x.rewrite.isNone && isStaged s c ep && curfewCount s x.ctxid true ep 0 0xFFFF == 0 then
      waveStart c ep errs s
    else s

/-! ### Curfews at a target (R343) -/

/-- The body of a curfew message. -/
def curfewOf (m : Msg) : Option CurfewBody :=
  match m.body with
  | .curfew b => some b
  | _ => none

/-- A curfew message of one OP (R342). -/
def receiveCurfew (k : LinkI) (m : Msg) (op : Nat) (body : CurfewBody → State → State) (s : State) : State :=
  receive k.val m 0x12 (fun s => match curfewOf m with
    | none => countDrop s
    | some b => if b.op.toNat = op then body b s else s) s

/-- The rule a curfew message names. -/
def ruleOf (s : State) (ctx : W16) (cfid : W32) : Option HoldRule := s.fab.rules.find? (fun r => r.cfid == cfid && r.ctx == ctx)

/-- A rule as a SET gives it; a rule of the same CFID is replaced and keeps what it holds (R347). -/
def newRule (m : Msg) (b : CurfewBody) (old : Option HoldRule) : HoldRule :=
  { cfid := b.cfid, ctx := m.hdr.ctx, below := b.mode == 1, layLo := b.layLo, layHi := b.layHi, epoch := b.epoch,
    src := m.hdr.src, overflow := old.any (fun r => r.overflow), lifting := none,
    held := match old with | none => [] | some r => r.held }

/-- CURFEW_SET (R343, R347). -/
def doCurfewSet (k : LinkI) (m : Msg) (s : State) : State :=
  receiveCurfew k m 1 (fun b s =>
    let old := ruleOf s m.hdr.ctx b.cfid
    if old.isNone && decide (16 ≤ s.fab.rules.length) then sendReport m.hdr.src m.hdr.ctx b 0 0 3 s
    else
      let r := newRule m b old
      let rest := s.fab.rules.filter (fun q => !(q.cfid == b.cfid && q.ctx == m.hdr.ctx))
      sendReport m.hdr.src m.hdr.ctx b 0 r.held.length (if r.overflow then 1 else 0)
        { s with fab := { s.fab with rules := rest ++ [r] } }) s

/-- CURFEW_SET (R343). -/
def execCurfewSet (k : LinkI) (m : Msg) (s : State) : Host.Outcome State Fault Refusal := .next (doCurfewSet k m s)

/-- CURFEW_LIFT (R343, R347, R446). -/
def doCurfewLift (k : LinkI) (m : Msg) (errs : List (Lan × LWick × List (Nat × Int))) (s : State) : State :=
  receiveCurfew k m 2 (fun b s => match ruleOf s m.hdr.ctx b.cfid with
    | none => sendReport m.hdr.src m.hdr.ctx b 0 0 2 s
    | some r => liftRule r m.hdr.src errs s) s

/-- CURFEW_LIFT (R446). -/
def execCurfewLift (k : LinkI) (m : Msg) (closing : List (Lan × LWick × List (Nat × Int))) (s : State) :
    Host.Outcome State Fault Refusal := .next (doCurfewLift k m closing s)

/-- CURFEW_QUERY (R343, R347). -/
def doCurfewQuery (k : LinkI) (m : Msg) (s : State) : State :=
  receiveCurfew k m 3 (fun b s => match ruleOf s m.hdr.ctx b.cfid with
    | none => sendReport m.hdr.src m.hdr.ctx b 0 0 2 s
    | some r => sendReport m.hdr.src m.hdr.ctx b (curfewCount s m.hdr.ctx (b.mode == 1) b.epoch b.layLo b.layHi) r.held.length
        (if r.overflow then 1 else 0) s) s

/-- CURFEW_QUERY (R343). -/
def execCurfewQuery (k : LinkI) (m : Msg) (s : State) : Host.Outcome State Fault Refusal := .next (doCurfewQuery k m s)

/-- HOLD_RULE_TIMEOUT (R446): 65 s after its SET a rule goes as on LIFT, and rewrites only with no request open below its
epoch and no shard under restoration (R449). A rewrite under way ends by itself. -/
def doRuleTimeout (ctx : W16) (cfid : W32) (errs : List (Lan × LWick × List (Nat × Int))) (s : State) : State :=
  match (if s.snuf.wheld then none else ruleOf s ctx cfid) with
  | none => s
  | some r =>
    let to_ := r.lifting.getD r.src
    let r' := { r with overflow := false }
    let s := updRule r (fun _ => r') s
    match slotOf s ctx with
    | none => dropRule none r' to_ s
    | some c =>
      let busy := match getCtx s c with | some x => x.rewrite == some r.epoch | none => false
      if busy then s
      else if isStaged s c r.epoch && shadowsGood s c r.epoch && curfewCount s ctx true r.epoch r.layLo r.layHi == 0 then
        liftRule { r' with lifting := none } to_ errs s
      else dropRule (some c) r' to_ s

/-- HOLD_RULE_TIMEOUT (R446). -/
def execHoldRuleTimeout (ctx : W16) (cfid : W32) (closing : List (Lan × LWick × List (Nat × Int))) (s : State) :
    Host.Outcome State Fault Refusal := .next (doRuleTimeout ctx cfid closing s)

/-! ### The entry package's side (R444, R445) -/

/-- Change the wave of a context. -/
def updWave (c : Nat) (f : Wave → Wave) (s : State) : State := updCtx c (fun x => { x with wave := x.wave.map f }) s

/-- A curfew message of a wave: CFID and EPOCH are NEW, the layers all of them; a QUERY asks for epochs below (R445). -/
def waveBody (op : Nat) (new : W32) : CurfewBody :=
  { cfid := new, op := BitVec.ofNat 8 op, mode := if op = 3 then 1 else 0, layLo := 0, layHi := 0xFFFF, epoch := new, count := 0,
    held := 0, status := 0 }

/-- Send one curfew message of a wave to packages. -/
def waveSend (x : Ctx) (op : Nat) (new : W32) (ps : List Pkg) (s : State) : State :=
  ps.foldl (fun s p => sendCurfew p x.ctxid (waveBody op new) s) s

/-- Requests open at the entry package that are bound below an epoch (R445). -/
def openBelow (x : Ctx) (ep : W32) : List AdmRec :=
  x.adm.filter (fun a => a.admitted && !a.retired && decide (a.epoch.toNat < ep.toNat))

/-- EPOCH_MISS to the final package of each such request (R445). -/
def missOpen (x : Ctx) (new : W32) (s : State) : State :=
  (openBelow x new).foldl (fun s a =>
    sendNotice 0x26 (x.path.getLastD s.fab.myid) { ctx := x.ctxid, reqtag := a.reqtag, inst := a.inst, seg := a.seg }
      (BitVec.ofNat 32 a.nextPos) (a.epoch.setWidth 64) 0 0 s) s

/-- Step 4: LIFT to every package of the path (R445). -/
def waveLift (c : Nat) (x : Ctx) (w : Wave) (s : State) : State :=
  waveSend x 2 w.new x.path (updWave c (fun w => { w with phase := 4, await := x.path.map (fun p => (p, 1)), counts := [] }) s)

/-- Step 3: the drain is over when the latest round of reports counts nothing and no request bound below is open here. -/
def waveDrained (c : Nat) (s : State) : State :=
  match getCtx s c with
  | none => s
  | some x => match x.wave with
    | none => s
    | some w =>
      if w.phase == 3 && w.await.isEmpty && !w.counts.isEmpty && w.counts.all (fun p => p.2 == 0) && (openBelow x w.new).isEmpty then
        waveLift c x w s
      else s

/-- Step 2: NEW becomes the admission epoch; with a DRAIN of 0 old requests retire at once (R444, R445). -/
def waveSwitch (c : Nat) (s : State) : State :=
  match getCtx s c with
  | none => s
  | some x => match x.wave with
    | none => s
    | some w =>
      let s := updCtx c (fun x => { x with admEpoch := some w.new }) s
      let s := updWave c (fun w => { w with phase := 3, await := [], counts := [], expired := w.drain == 0 }) s
      if w.drain = 0 then missOpen x w.new s else s

/-- End a wave with a status; the next WGT.REPLACE may start. -/
def waveEnd (c : Nat) (w : Wave) (st : W16) (s : State) : State := finish w.cmd st (updCtx c (fun x => { x with wave := none }) s)

/-- A package failed to answer a SET with STATUS 0: the rules set are lifted, and the command completes with BUSY (R445). -/
def waveFail (c : Nat) (x : Ctx) (w : Wave) (s : State) : State :=
  let s := waveSend x 2 w.new (w.counts.map (fun p => p.1)) s
  let own := s.fab.rules.filter (fun r => r.ctx == x.ctxid && r.cfid == w.new && r.src == s.fab.myid)
  waveEnd c w 0x05 (own.foldl (fun s r => freeRule r s) s)

/-- The rule the entry package keeps for its own traffic (log 29). -/
def ownRule (s : State) (x : Ctx) (new : W32) : HoldRule :=
  { cfid := new, ctx := x.ctxid, below := false, layLo := 0, layHi := 0xFFFF, epoch := new, src := s.fab.myid, overflow := false,
    lifting := none, held := [] }

/-- Step 1: SET to every other package of the path (R445). -/
def waveSet (c : Nat) (x : Ctx) (d : Desc) (old new drain : W32) (s : State) : State :=
  if (ruleOf s x.ctxid new).isNone && decide (16 ≤ s.fab.rules.length) then finish d 0x05 s
  else
    let others := x.path.filter (fun p => p != s.fab.myid)
    let w : Wave := { phase := 1, old := old, new := new, drain := drain.toNat, await := others.map (fun p => (p, 1)), counts := [],
                      expired := false, cmd := d }
    let s := updCtx c (fun x => { x with wave := some w }) s
    let s := if x.path.contains s.fab.myid then
        { s with fab := { s.fab with rules := s.fab.rules.filter (fun r => !(r.cfid == new && r.ctx == x.ctxid)) ++ [ownRule s x new] } }
      else s
    let s := waveSend x 1 new others s
    if others.isEmpty then waveSwitch c s else s

/-- Start a WGT.REPLACE (R444). -/
def replStart (c : Nat) (x : Ctx) (d : Desc) (old new drain : W32) (s : State) : State :=
  let held : Bool := match epochOf s c new with | some e => e.st == .staged || e.st == .live | none => false
  if 50000 < drain.toNat then finish d 0x07 s
  else if old = 0 ∧ x.admEpoch = none then
    if held then finish d 0 (updCtx c (fun x => { x with admEpoch := some new }) s) else finish d 0x07 s
  else if x.admEpoch ≠ some old ∨ isStaged s c new = false then finish d 0x07 s
  else waveSet c x d old new drain s

/-- Start the WGT.REPLACE commands that wait, while no wave runs (R392, R449). -/
def replGo : Nat → Nat → State → State
  | 0, _, s => s
  | n + 1, c, s => match getCtx s c with
    | none => s
    | some x => match x.wave, x.replQ with
      | none, (d, old, new, drain) :: t =>
        replGo n c (replStart c { x with replQ := t } d old new drain (updCtx c (fun x => { x with replQ := t }) s))
      | _, _ => s

/-- Every WGT.REPLACE that may start does. -/
def kickRepl (c : Nat) (s : State) : State :=
  match getCtx s c with
  | none => s
  | some x => replGo x.replQ.length c s

/-- WGT_REPLACE (R444). -/
def doWgtReplace (d : Desc) (old new drain : W32) (s : State) : State :=
  runCtx d false (fun c _ s =>
    kickRepl c (keepProg d (updCtx c (fun x => { x with replQ := x.replQ ++ [(d, old, new, drain)] }) s))) s

/-- WGT_REPLACE (R444). -/
def execWgtReplace (d : Desc) (old new drain : W32) (s : State) : Host.Outcome State Fault Refusal :=
  .next (doWgtReplace d old new drain s)

/-- A REPORT of a wave (R445). -/
def waveReport (c : Nat) (x : Ctx) (w : Wave) (p : Pkg) (b : CurfewBody) (s : State) : State :=
  if !(w.await.any (fun a => a.1 == p)) || b.cfid != w.new then s
  else
    let s := updWave c (fun w => { w with await := w.await.filter (fun a => a.1 != p), counts := w.counts ++ [(p, b.count.toNat)] }) s
    let left := (w.await.filter (fun a => a.1 != p)).isEmpty
    if w.phase = 1 then
      if b.status ≠ 0 then waveFail c x w s else if left then waveSwitch c s else s
    else if w.phase = 3 then waveDrained c s
    else if left then waveEnd c w 0 s
    else s

/-- CURFEW_REPORT (R445). -/
def doCurfewReport (k : LinkI) (m : Msg) (s : State) : State :=
  receiveCurfew k m 4 (fun b s => match msgCtx s m.hdr with
    | none => s
    | some c => match getCtx s c with
      | none => s
      | some x => match x.wave with
        | none => s
        | some w => kickRepl c (waveReport c x w m.hdr.src b s)) s

/-- CURFEW_REPORT (R445). -/
def execCurfewReport (k : LinkI) (m : Msg) (s : State) : Host.Outcome State Fault Refusal := .next (doCurfewReport k m s)

/-- The wave of a context, while the package has not withheld. -/
def waveOf (s : State) (c : Nat) : Option (Ctx × Wave) :=
  if s.snuf.wheld then none else (getCtx s c).bind (fun x => x.wave.map (fun w => (x, w)))

/-- WAVE_QUERY_TIMER (R445): a new round of QUERY to every package of the path. -/
def doWaveQuery (c : Nat) (s : State) : State :=
  match waveOf s c with
  | none => s
  | some (x, w) =>
    if w.phase = 3 then
      waveSend x 3 w.new x.path (updWave c (fun w => { w with await := x.path.map (fun p => (p, 1)), counts := [] }) s)
    else s

/-- WAVE_QUERY_TIMER (R445). -/
def execWaveQueryTimer (c : CtxI) (s : State) : Host.Outcome State Fault Refusal := .next (doWaveQuery c.val s)

/-- CURFEW_RESEND_TIMER (R445): what draws no REPORT is sent again, up to three sends; a SET without an answer then fails. -/
def doCurfewResend (c : Nat) (s : State) : State :=
  match waveOf s c with
  | none => s
  | some (x, w) =>
    if w.phase = 1 ∧ w.await.any (fun a => decide (3 ≤ a.2)) then kickRepl c (waveFail c x w s)
    else
      let op := if w.phase = 1 then 1 else if w.phase = 3 then 3 else 2
      let again := (w.await.filter (fun a => decide (a.2 < 3))).map (fun a => a.1)
      waveSend x op w.new again (updWave c (fun w => { w with
        await := w.await.map (fun a => if a.2 < 3 then (a.1, a.2 + 1) else a) }) s)

/-- CURFEW_RESEND_TIMER (R445). -/
def execCurfewResendTimer (c : CtxI) (s : State) : Host.Outcome State Fault Refusal := .next (doCurfewResend c.val s)

/-- WAVE_DRAIN_EXPIRY (R445): DRAIN has passed, and the requests still open below NEW are missed. -/
def doDrainExpiry (c : Nat) (s : State) : State :=
  match waveOf s c with
  | none => s
  | some (x, w) =>
    if w.phase == 3 && !w.expired then missOpen x w.new (updWave c (fun w => { w with expired := true }) s) else s

/-- WAVE_DRAIN_EXPIRY (R445). -/
def execWaveDrainExpiry (c : CtxI) (s : State) : Host.Outcome State Fault Refusal := .next (doDrainExpiry c.val s)

end Sys2Proof.Machine
end

