-- ==== Sys2Proof/Machine/Shards.lean ====
section
/-! DEFINITION. Shards on a package (R430 to R437): the shard list, a chain's head, arrival and verification, overdue shards,
and what an epoch does as its shards are settled. -/

namespace Sys2Proof.Machine

/-! ### The shard list (R434) -/

/-- An entry of a shard list is out of range, or its place is outside the landing range or the context's view (R430, R434). -/
def entBad (s : State) (c : Nat) (x : Ctx) (e : ShardEntry) : Bool :=
  let room := match x.landing with | none => 0 | some p => p.2
  let own := e.role == 1
  e.shard == 0 || !(e.kind == 1 || e.kind == 2) || e.role == 3 || decide (room < e.loff.toNat * 256 + 256) ||
    (if own then
      (if e.kind == 1 then decide (1024 ≤ e.target.toNat) || (x.path.head? == some s.fab.myid && (lookupLans s c x).contains e.target.toNat)
        else (interleaved s c (e.target.toNat * 4096)).isNone)
    else e.target != 0)

/-- The lanterns a list names. -/
def entLans (es : List ShardEntry) : List Nat :=
  (es.filter (fun e => e.role == 1 && e.kind == 1)).map (fun e => e.target.toNat)

/-- A list is refused with BAD_ARG (R425, R430, R434). -/
def listBad (s : State) (c : Nat) (x : Ctx) (d : Desc) (es : List ShardEntry) : Bool :=
  decide (d.inlen.toNat % 64 ≠ 0) || decide (262144 < d.inlen.toNat) || decide (es.length * 64 ≠ d.inlen.toNat) ||
    x.landing.isNone || es.any (entBad s c x) || decide (¬ (es.map (fun e => e.shard)).Nodup) || decide (¬ (entLans es).Nodup)

/-- A list names a lantern in a sconce of another context (R434). -/
def listDenied (s : State) (c : Nat) (es : List ShardEntry) : Bool :=
  (entLans es).any (fun ll => !(sconcesOf s c).contains (sconceOfL ll))

/-- A shard that a list has named and that has not arrived. -/
def newShard (e : ShardEntry) : Shard :=
  { ent := e, st := .waiting, requests := 0, got := [], total := 0, md := none, weights := [], written := false, rehash := false,
    restoring := false, injected := false, blen := 0, keyid := 0 }

/-! ### Finding and changing a shard; epoch 0 stands for adapter shards -/

/-- Shards of an epoch, or of every adapter generation. -/
def shardsOf (s : State) (c : Nat) (ep : W32) : List Shard :=
  match getCtx s c with
  | none => []
  | some x =>
    if ep = 0 then x.adapters.flatMap (fun p => p.2.flatMap (fun g => g.shards))
    else match x.epochs.find? (fun e => e.epoch == ep) with
      | none => []
      | some e => e.shards

/-- A shard is awaited: not verified, or under restoration. -/
def isAwaited (h : Shard) : Bool := h.st == .waiting || h.st == .fetch || h.restoring

/-- One shard; of the adapters' the awaited one, since generations may repeat an ID. -/
def findShard (s : State) (c : Nat) (ep id : W32) : Option Shard :=
  (shardsOf s c ep).find? (fun h => h.ent.shard == id && (ep != 0 || isAwaited h))

/-- Change one shard. -/
def updShard (c : Nat) (ep id : W32) (f : Shard → Shard) (s : State) : State :=
  let g (l : List Shard) : List Shard := updIf (fun h => h.ent.shard == id && (ep != 0 || isAwaited h)) f l
  if ep = 0 then
    updCtx c (fun x => { x with adapters := x.adapters.map (fun p => (p.1, p.2.map (fun a => { a with shards := g a.shards }))) }) s
  else updEpoch c ep (fun e => { e with shards := g e.shards }) s

/-! ### A chain's head (R435) -/

/-- BODYLEN of the container at a landing offset, where its header stands there (R430). -/
def containerAt (s : State) (c : Nat) (x : Ctx) (loff : W32) : Option Nat :=
  match x.landing with
  | none => none
  | some p => match interleaved s c (p.1 + loff.toNat * 256) with
    | none => none
    | some a =>
      let b := memRead s.mem a 32
      if wordAt b 0 = 0x31444853 then some (wordAt b 6).toNat else none

/-- Segments of a container (R344, R430). -/
def segCount (blen : Nat) : Nat := (256 + blen + 16 + 65535) / 65536

/-- OWNER or BUDDY of an injected segment: the entry's own role tells one of the two; the shard list holds no field for the
other, a free value (log 30). -/
def injectPkg (s : State) (own : Bool) (i : Nat) : W16 :=
  if own then s.fab.myid.setWidth 16 else BitVec.ofNat 16 (Config.outWord 0x13 (s.fresh + i)).toNat

/-- Put a container on its chain as TAPER segments. -/
def injectSegs (ctxid : W16) (e : ShardEntry) (blen : Nat) (s : State) : State :=
  match chainNamed s e.source.toNat with
  | none => s
  | some (_, n) =>
    let k := segCount blen
    let t : TaperHdr := { chain := e.source, owner := injectPkg s (e.role == 1) 0, buddy := injectPkg s (e.role == 2) 1,
                          shard := e.shard, seg := 0, segs := BitVec.ofNat 32 k, seglen := 65536 }
    (List.range k).foldl (fun s i => sendTaper n ctxid { t with
      seg := BitVec.ofNat 32 i, seglen := BitVec.ofNat 32 (min 65536 (256 + blen + 16 - 65536 * i)) } s)
      { s with fresh := s.fresh + 2 }

/-- A HEAD entry whose container stands in the landing range goes out; one that is injected only is done then. -/
def injectHead (c : Nat) (ep : W32) (s : State) (h : Shard) : State :=
  if !h.ent.head || h.injected then s
  else match getCtx s c with
    | none => s
    | some x => match containerAt s c x h.ent.loff with
      | none => s
      | some b => updShard c ep h.ent.shard (fun h => { h with
          injected := true, st := if h.ent.role = 0 then .verified else h.st }) (injectSegs x.ctxid h.ent b s)

/-- Every HEAD entry of an epoch or the adapters. -/
def injectHeads (c : Nat) (ep : W32) (s : State) : State := (shardsOf s c ep).foldl (injectHead c ep) s

/-! ### An epoch's shards are settled (R437, R439, R440) -/

/-- Write what an epoch has to write: each logical lantern on the HELD lantern of lowest index of its sconce (R440, R441). -/
def writeShard (c : Nat) (ep : W32) (adopting : Option Bool) (s : State) (h : Shard) : State :=
  let ll := h.ent.target.toNat
  if (lanMapped s ll).isSome then s
  else match heldFree s (sconceOfL ll) with
    | some p => assignLan c p (Fin.ofNat 1024 ll) ep .load (updLan p (fun v => { v with adopting := adopting }) s)
    | none => updLanShard c ep ll (fun h => { h with st := .failed }) s

/-- Write an epoch's lanterns, and see whether that is all. -/
def writeStart (c : Nat) (ep : W32) (adopting : Option Bool) (s : State) : State :=
  match epochOf s c ep with
  | none => s
  | some e => loadCheck c ep ((toWriteShards e).foldl (writeShard c ep adopting) s)

/-- The next command that waits for an epoch is its adoption: the load leaves the epoch STAGED for it (log 31). -/
def adoptNext (x : Ctx) (ep : W32) : Bool :=
  match x.loadQ.find? (fun q => match q with | .load _ e _ => e == ep | .adopt _ e _ _ => e == ep) with
  | some (.adopt ..) => true
  | _ => false

/-- Set an epoch's state. -/
def setEpoch (c : Nat) (ep : W32) (st : EpSt) (s : State) : State := updEpoch c ep (fun e => { e with st := st }) s

/-- Go on with an epoch once none of its shards is awaited. -/
def epochGo (c : Nat) (ep : W32) (errs : List (Lan × LWick × List (Nat × Int))) (s : State) : State :=
  match getCtx s c, epochOf s c ep with
  | some x, some e =>
    if e.cmd.isNone then liftWaiting c ep errs s
    else if e.adopt.isSome || e.shards.any (fun h => h.st == .waiting || h.st == .fetch) then s
    else
      let bad := !(failedShards e).isEmpty
      if e.first then
        if !bad && e.st != .live && adoptNext x ep then endLoad c ep (setEpoch c ep .staged s)
        else writeStart c ep none (if bad || e.st == .live then s else setEpoch c ep .staged s)
      else if bad then endLoad c ep (setEpoch c ep .failed s)
      else liftedBefore c ep errs (endLoad c ep (setEpoch c ep .staged s))
  | _, _ => s

/-- A verified shard disagrees with the rest of its list, or with the LIVE shard it is to replace (R431, R439). -/
def shardClash (s : State) (c : Nat) (ep : W32) (h : Shard) (m : ShardMeta) : Bool :=
  let same (q : ShardMeta) : Bool :=
    q.lkind == m.lkind && q.rflags == m.rflags && q.rindex == m.rindex && q.rparent == m.rparent && q.rmask == m.rmask
  let others := ((shardsOf s c ep).filter (fun g => isOwnLan g && g.st == .verified && g.ent.shard != h.ent.shard)).filterMap (fun g => g.md)
  let live : List Shard := match (getCtx s c).bind (fun x => x.epochs.find? (fun e => e.st == .live)) with
    | none => []
    | some e => if e.epoch == ep then [] else e.shards
  others.any (fun q => q.layer == m.layer && q.part == m.part && !same q) ||
    live.any (fun g => isOwnLan g && g.ent.target == h.ent.target && g.md.any (fun q => q.shape != m.shape))

/-- Metadata the load refuses with BAD_ARG: a vector of more than 512 slices (R109), or a CLIPK outside 2.0 to 16.0 of a rotated layer
(R88; the status is a DESIGN CHOICE, log 137). -/
def metaBad (m : ShardMeta) : Bool :=
  decide (1048576 < m.kdim.toNat) || (m.rot && (isNan m.clipk || flt m.clipk 0x40000000 || flt 0x41800000 m.clipk))

/-- A list is refused after all: the command ends with BAD_ARG, and what has not verified is given up. -/
def refuseLoad (c : Nat) (ep id : W32) (s : State) : State :=
  match epochOf s c ep with
  | none => s
  | some e => match e.cmd with
    | none => s
    | some d =>
      let give (h : Shard) : Shard := if h.st = .waiting ∨ h.st = .fetch ∨ h.ent.shard = id then { h with st := .failed } else h
      finish d 0x07 (updEpoch c ep (fun e => { e with
        cmd := none, st := if e.st = .live then .live else .failed, shards := e.shards.map give }) s)

/-! ### Adapter generations are settled (R448) -/

/-- A record is open or held for a resume (R413). -/
def admKeeps (s : State) (a : AdmRec) : Bool :=
  a.admitted && (!a.retired || (a.lastPos != 0 && decide (nowC s < a.retiredAt + holdCycles s)))

/-- Some request here is bound to a generation, or a resume may still be (R413, R448). -/
def genBound (s : State) (c : Nat) (x : Ctx) (slot : Nat) (gen : W32) : Bool :=
  x.adm.any (fun a => admKeeps s a && a.adpgen == gen && a.adpslot.toNat == slot) ||
    s.attn.any (fun t => t.ctx.val == c && t.adpgen == gen && t.adpslot.toNat == slot && (!t.retired || decide (nowC s < t.lease)))

/-- Older generations that nothing is bound to are freed (R448). -/
def adpSweep (c : Nat) (s : State) : State :=
  match getCtx s c with
  | none => s
  | some x =>
    let keep (slot : Nat) (g : AdpGen) : Bool := g.current || g.cmd.isSome || genBound s c x slot g.gen
    setCtx c (some { x with
      adapters := (x.adapters.map (fun p => (p.1, p.2.filter (keep p.1)))).filter (fun p => !p.2.isEmpty) }) s

/-- End a generation's load: current, or gone (R437, R448). -/
def genEnd (c slot : Nat) (g : AdpGen) (d : Desc) (s : State) : State :=
  let upd (f : List AdpGen → List AdpGen) (s : State) : State :=
    updCtx c (fun x => { x with adapters := Tab.upd [] x.adapters slot f }) s
  match g.shards.filter (fun h => h.st == .failed) with
  | [] =>
    let now (q : AdpGen) : AdpGen := if q.gen = g.gen then { q with current := true, cmd := none } else { q with current := false }
    adpSweep c (finish d 0 (upd (fun l => l.map now) s))
  | h :: t => complete d 0x0302 0 [BitVec.ofNat 32 (t.length + 1), h.ent.shard] (upd (fun l => l.filter (fun q => q.gen != g.gen)) s)

/-- Go on with every generation none of whose shards is awaited. -/
def gensGo (c : Nat) (s : State) : State :=
  match getCtx s c with
  | none => s
  | some x => (x.adapters.flatMap (fun p => p.2.map (fun g => (p.1, g)))).foldl (fun s p =>
      match p.2.cmd with
      | none => s
      | some d => if p.2.shards.any (fun h => h.st == .waiting || h.st == .fetch) then s else genEnd c p.1 p.2 d s) s

/-- Go on with what a settled shard belongs to. -/
def shardGo (c : Nat) (ep : W32) (errs : List (Lan × LWick × List (Nat × Int))) (s : State) : State :=
  if ep = 0 then gensGo c s else epochGo c ep errs s

/-! ### Arrival and verification (R432, R435) -/

/-- Every weight code in a byte is valid (R77). -/
def byteValid (f : Nat) (b : Byte) : Bool :=
  (List.range (8 / fmtWidth f)).all (fun i => weightValid f (b.toNat / 2 ^ (fmtWidth f * i) % 2 ^ fmtWidth f))

/-- The plaintext body as a table of its bytes. -/
def shardTab (b : ShardBody) : Tab Byte := b.body.foldl (fun t e => Tab.set 0 t e.1 e.2) []

/-- BODYLEN of a container's header (R430). -/
def shardLen (b : ShardBody) : Nat := fieldAt b.hdr 0x18 4

/-- The bytes of the body, in order. -/
def shardBytes (b : ShardBody) : List Byte := let t := shardTab b; (List.range (shardLen b)).map (Tab.get 0 t)

/-- A little-endian field of a body. -/
def bodyField (t : Tab Byte) (o n : Nat) : Nat := ofLe ((List.range n).map (fun i => Tab.get 0 t (o + i)))

/-- A digest in a byte string, its first byte first. -/
def digestOf (l : List Byte) : Digest := BitVec.ofNat 384 (ofLe l.reverse)

/-- A digest in a body. -/
def bodyDigest (t : Tab Byte) (o : Nat) : Digest := digestOf ((List.range 48).map (fun i => Tab.get 0 t (o + i)))

/-- The metadata region of a lantern shard (R431). -/
def bodyMeta (t : Tab Byte) : ShardMeta :=
  let b (o : Nat) : Byte := Tab.get 0 t o
  let h (o : Nat) : W16 := BitVec.ofNat 16 (bodyField t o 2)
  let w (o : Nat) : W32 := BitVec.ofNat 32 (bodyField t o 4)
  let k := bodyDigest t 0x06C0
  { layer := h 0, part := h 2, lindex := h 4, wfmt := (b 6).setWidth 4, shape := b 7, inmode := b 8, rot := b 9 == 1,
    attGroups := h 0x0A, kdim := w 0x0C, seed := BitVec.ofNat 64 (bodyField t 0x10 8), clipk := w 0x18, attScale := w 0x1C,
    lkind := b 0x20, rbdig := (List.range 16).map (fun i => bodyDigest t (0x40 + 48 * i)),
    ckdig := (List.range 16).map (fun i => bodyDigest t (0x340 + 48 * i)),
    redexp := (List.range 128).map (fun i => (b (0x640 + i)).toInt),
    scale := (List.range 8192).map (fun i => w (0x700 + 4 * i)), kernel := if k = 0 then none else some k, rflags := b 0x8700,
    rindex := b 0x8701, rparent := h 0x8702, rmask := BitVec.ofNat 256 (bodyField t 0x8708 32) }

/-- The weight region of a lantern shard's body (R431). -/
def bodyWeights (t : Tab Byte) : Tab Byte := t.filterMap (fun e => if e.1 < 65536 then none else some (e.1 - 65536, e.2))

/-- Slot and generation of the adapter load that awaits a shard, for the header's SLOT and GEN; those of a weight shard (R430). -/
def slotGen (x : Ctx) (ep : W32) (h : Shard) : Nat × W32 :=
  if ep ≠ 0 then (0xFFFF, 0)
  else (x.adapters.findSome? (fun p => (p.2.find? (fun g => g.shards.contains h)).map (fun g => (p.1, g.gen)))).getD (0xFFFF, 0)

/-- The header is of this shard, list and command (R430, R432). -/
def headerOk (x : Ctx) (ep : W32) (h : Shard) (l : List Byte) : Bool :=
  let g := slotGen x ep h
  l.length == 256 && fieldAt l 0 4 == 0x31444853 && fieldAt l 4 2 == 0x0100 && fieldAt l 6 1 == h.ent.kind.toNat && fieldAt l 7 1 == 0 &&
    fieldAt l 8 4 == h.ent.shard.toNat && fieldAt l 0x0C 4 == ep.toNat && fieldAt l 0x10 4 == g.2.toNat && fieldAt l 0x14 2 == g.1 &&
    fieldAt l 0x16 2 == 0 && fieldAt l 0x18 4 % 256 == 0 && decide (fieldAt l 0x18 4 ≤ 8454144) && fieldAt l 0x2C 4 == 0 &&
    digestOf ((l.drop 0x30).take 48) == h.ent.digest && (l.drop 0x60).all (fun b => b == 0)

/-- The metadata and weights of a lantern shard hold defined codes (R77, R432). -/
def lanternOk (t : Tab Byte) : Bool :=
  let f := (Tab.get 0 t 6).toNat
  let m := bodyMeta t
  decide (f ≤ 3) && decide (m.shape.toNat ≤ 4) && decide (m.inmode.toNat ≤ 1) && (bodyWeights t).all (fun e => byteValid f e.2) &&
    (!m.rot || decide (m.kdim.toNat % 2048 = 0))

/-- A container passes R432. -/
def bodyOk (x : Ctx) (ep : W32) (h : Shard) (b : ShardBody) : Bool :=
  b.tagOk && x.ckeys.any (fun k => k.1.toNat == fieldAt b.hdr 0x28 4) && headerOk x ep h b.hdr && Config.sha384 (shardBytes b) == h.ent.digest &&
    (h.ent.kind == 2 || lanternOk (shardTab b))

/-- A table shard's bytes go to TARGET, granule by granule, with their block codes (R224, R435). -/
def storeTable (c : Nat) (target : Nat) (bs : List Byte) (s : State) : State :=
  (List.range ((bs.length + 4095) / 4096)).foldl (fun s i =>
    match interleaved s c (target * 4096 + i * 4096) with
    | none => s
    | some a => { s with mem := storeBytes s.mem a ((bs.drop (4096 * i)).take 4096) }) s

/-- The container of a shard is here: its last segment, or the landing range for a direct one. -/
def isHere (h : Shard) : Bool :=
  h.ent.source == 0xFFFF || h.ent.head || h.st == .fetch || 4 ≤ h.requests || (h.total != 0 && decide (h.got.length = h.total))

/-- Keep a verified shard: the shadow of an own one, the container of a buddy (R435). -/
def keepShard (c : Nat) (ep : W32) (h : Shard) (b : ShardBody) (s : State) : State :=
  let own := h.ent.role == 1
  let t := shardTab b
  let s := updShard c ep h.ent.shard (fun h => { h with
    st := .verified, restoring := false, rehash := false, blen := (shardLen b), keyid := BitVec.ofNat 32 (fieldAt b.hdr 0x28 4),
    md := if h.ent.kind = 1 then some (bodyMeta t) else none, weights := if isOwnLan h then bodyWeights t else [] }) s
  if own && h.ent.kind == 2 then storeTable c h.ent.target.toNat (shardBytes b) s else s

/-- Ask storage for a shard (R436, step 2). -/
def askStorage (c : Nat) (ep : W32) (h : Shard) (s : State) : State :=
  let id := match getCtx s c with | some x => some x.ctxid | none => none
  let e := { emb 0 0x0D01 0 id h.ent.shard.toNat with arg1 := h.ent.loff.setWidth 64 }
  raiseEmber e (updShard c ep h.ent.shard (fun h => { h with requests := 4, st := if h.restoring then h.st else .fetch }) s)

/-- The segments still wanted of a shard: those missing, or the whole of it (R346, R436). -/
def wantedSegs (h : Shard) : List (Nat × Nat) :=
  if h.total = 0 then [(0, 130)]
  else match (List.range h.total).filter (fun i => !h.got.contains i) with
    | [] => [(0, h.total)]
    | l => runsOf l

/-- Recover a shard (R436): up to three requests upstream, then storage. A direct shard, and a head's own, start at storage. -/
def recover (c : Nat) (ep : W32) (h : Shard) (s : State) : State :=
  match (if h.ent.source = 0xFFFF ∨ h.ent.head ∨ 3 ≤ h.requests then none else chainNamed s h.ent.source.toNat), getCtx s c with
  | some (_, n), some x =>
    let t : TaperHdr := { chain := h.ent.source, owner := 0, buddy := 0, shard := h.ent.shard, seg := 0,
                          segs := BitVec.ofNat 32 h.total, seglen := 0 }
    let s := (wantedSegs h).foldl (fun s r => askUp n x.ctxid t r.1 r.2 s) s
    let all := decide (h.got.length = h.total)
    updShard c ep h.ent.shard (fun h => { h with requests := h.requests + 1, got := if all then [] else h.got }) s
  | _, _ => askStorage c ep h s

/-- A container opens: it verifies, is refused, or is handled as corrupt (R432, R435, R436). -/
def openShard (c : Nat) (ep : W32) (x : Ctx) (h : Shard) (b : ShardBody) (errs : List (Lan × LWick × List (Nat × Int))) (s : State) : State :=
  if bodyOk x ep h b then
    if isOwnLan h && ep != 0 && (metaBad (bodyMeta (shardTab b)) || shardClash s c ep h (bodyMeta (shardTab b))) then refuseLoad c ep h.ent.shard s
    else shardGo c ep errs (keepShard c ep h b s)
  else if 4 ≤ h.requests then s
  else recover c ep h s

/-- SHARD_SEGMENTS_COMPLETE (R435). -/
def doSegmentsComplete (c : Nat) (ep id : W32) (b : ShardBody) (errs : List (Lan × LWick × List (Nat × Int))) (s : State) : State :=
  if s.snuf.wheld then s
  else match getCtx s c, findShard s c ep id with
    | some x, some h =>
      let s := injectHead c ep s h
      if isAwaited h && h.ent.role != 0 && isHere h then openShard c ep x h b errs s else shardGo c ep errs s
    | _, _ => s

/-! ### Overdue shards (R436, R437) -/

/-- An awaited shard of a context, while the package has not withheld. -/
def awaited (s : State) (c : Nat) (ep id : W32) : Option Shard :=
  if s.snuf.wheld then none else (findShard s c ep id).filter isAwaited

/-- SHARD_OVERDUE (R436): the first request. -/
def doShardOverdue (c : Nat) (ep id : W32) (s : State) : State :=
  match awaited s c ep id with
  | none => s
  | some h => if h.requests = 0 then recover c ep h s else s

/-- SHARD_OVERDUE (R436). -/
def execShardOverdue (c : CtxI) (epoch shard : W32) (s : State) : Host.Outcome State Fault Refusal :=
  .next (doShardOverdue c.val epoch shard s)

/-- TAPER_REQ_REPEAT (R436): 100 ms without the segments. -/
def doTaperRepeat (c : Nat) (ep id : W32) (s : State) : State :=
  match awaited s c ep id with
  | none => s
  | some h => if 1 ≤ h.requests ∧ h.requests ≤ 3 then recover c ep h s else s

/-- TAPER_REQ_REPEAT (R436). -/
def execTaperReqRepeat (c : CtxI) (epoch shard : W32) (s : State) : Host.Outcome State Fault Refusal :=
  .next (doTaperRepeat c.val epoch shard s)

/-- STORAGE_CHECK_POLL (R436): firmware looks at LOFF. -/
def doStoragePoll (c : Nat) (ep id : W32) (b : Option ShardBody) (errs : List (Lan × LWick × List (Nat × Int))) (s : State) : State :=
  match awaited s c ep id with
  | none => s
  | some h =>
    let s := injectHead c ep s h
    if h.ent.role = 0 then shardGo c ep errs s
    else match b, getCtx s c with
      | some b, some x => if 4 ≤ h.requests then openShard c ep x h b errs s else s
      | _, _ => s

/-- SHARD_FAIL_DEADLINE (R436, R437). -/
def doShardFail (c : Nat) (ep id : W32) (s : State) : State :=
  match awaited s c ep id with
  | none => s
  | some _ => shardGo c ep [] (updShard c ep id (fun h => { h with st := .failed, restoring := false }) s)

/-! ### Interval checks (R447) -/

/-- A rehash found a copy wrong: an ember, and the copy is fetched again. The sconce of a copy other than a lantern's shadow is
firmware's choice, a free value (log 9). -/
def rehashBad (c : Nat) (ep : W32) (h : Shard) (s : State) : State :=
  let id := match getCtx s c with | some x => some x.ctxid | none => none
  let n := if isOwnLan h then sconceOfL h.ent.target.toNat else (Config.outWord 0x0D02 s.fresh).toNat % 16
  let s := ember 2 0x0D02 n id h.ent.shard.toNat s
  let h' := { h with restoring := true, requests := 0, got := [], total := 0 }
  recover c ep h' (updShard c ep h.ent.shard (fun _ => h') s)

/-- A rehash of a verified copy of one role ends. -/
def rehash (role : Nat) (c : Nat) (ep id : W32) (ok : Bool) (s : State) : State :=
  if s.snuf.wheld then s
  else match findShard s c ep id with
    | none => s
    | some h =>
      if h.st == .verified && decide (h.ent.role.toNat = role) && !h.restoring then
        if ok then updShard c ep id (fun h => { h with rehash := false }) s else rehashBad c ep h s
      else s

/-- SHADOW_REHASH (R447). -/
def execShadowRehash (c : CtxI) (epoch shard : W32) (ok : Bool) (s : State) : Host.Outcome State Fault Refusal :=
  .next (rehash 1 c.val epoch shard ok s)

/-- BUDDY_REHASH (R447). -/
def execBuddyRehash (c : CtxI) (epoch shard : W32) (ok : Bool) (s : State) : Host.Outcome State Fault Refusal :=
  .next (rehash 2 c.val epoch shard ok s)

end Sys2Proof.Machine
end

