-- ==== Sys2Proof/Machine/Weights.lean ====
section
/-! DEFINITION. The WGT. commands (R433, R434, R439, R442, R443): keys, the landing range, loads, adoption, dropping an epoch;
and the rows whose jobs end loads. -/

namespace Sys2Proof.Machine

/-! ### Keys (R433) -/

/-- Bytes of an ML-KEM-1024 encapsulation key. -/
def kemKeySize : Nat := 1568

/-- WGT_SESSION (R433, R462): the keeper's encapsulation key and a report that binds it; the key's bytes and the nonce, which
the command does not carry, are free values (log 9). -/
def doWgtSession (d : Desc) (s : State) : State :=
  runCtx d false (fun c x s =>
    if d.outlen = 0 then finish d 1 s
    else if d.outlen.toNat < kemKeySize + reportSize then finish d 0x07 s
    else
      let w := freeWords 0x0301 (kemKeySize / 4 + 8) s
      let key := (w.1.take (kemKeySize / 4)).flatMap (fun v => leBytes 4 v.toNat)
      let nonce : Nat := (w.1.drop (kemKeySize / 4)).foldl (fun n v => n * 2 ^ 32 + v.toNat) 0
      let s := updCtx c (fun x => { x with session := true }) w.2
      let r := report (reportBody 3 (BitVec.ofNat 256 nonce) (digBytes (Config.sha384 key)) (reportCtx c x s) s) 0x0301 s
      complete d 0 (kemKeySize + reportSize) [] (outLines d.outaddr (key ++ r.1) r.2)) s

/-- WGT_SESSION (R433). -/
def execWgtSession (d : Desc) (s : State) : Host.Outcome State Fault Refusal := .next (doWgtSession d s)

/-- WGT_KEY (R433): the content key as it unwraps; one that does not, or the seventeenth, gives DENIED. -/
def doWgtKey (d : Desc) (keyid : W32) (key : Option (BitVec 256)) (s : State) : State :=
  runCtx d true (fun c x s =>
    if d.inlen = 0 then finish d 1 s
    else if d.inlen ≠ 1612 then finish d 0x07 s
    else match (if x.session then key else none) with
      | none => finish d 0x06 s
      | some k =>
        if x.ckeys.any (fun q => q.1 == keyid) then finish d 0 s
        else if 16 ≤ x.ckeys.length then finish d 0x06 s
        else finish d 0 (updCtx c (fun x => { x with ckeys := x.ckeys ++ [(keyid, k)] }) s)) s

/-- WGT_KEY (R433). -/
def execWgtKey (d : Desc) (keyid : W32) (key : Option (BitVec 256)) (s : State) : Host.Outcome State Fault Refusal :=
  .next (doWgtKey d keyid key s)

/-! ### The landing range (R365, R434) -/

/-- A window entry of a landing range: valid, readable, writable, HOST (R268). -/
def landEntry (base last : Nat) : BitVec 128 := BitVec.ofNat 128 (base + last * 2 ^ 64 + 2 ^ 123 + 2 ^ 125 + 2 ^ 126 + 2 ^ 127)

/-- The window entry the landing range takes: the one it had, or the first that is not valid. -/
def landSlot (s : State) (c : Nat) (old : Option (Nat × Nat)) : Option Nat :=
  let e (i : Nat) : BitVec 128 := Tab.get 0 s.xbr.windows (c * 32 + i)
  let base := c * 0x20000000000
  let had (p : Nat × Nat) (i : Nat) : Bool := e i == landEntry ((base + p.1) / 256) ((base + p.1 + p.2 - 1) / 256)
  match old.bind (fun p => (List.range 32).find? (had p)) with
  | some i => some i
  | none => (List.range 32).find? (fun i => (e i).toNat / 2 ^ 127 = 0)

/-- WGT_LAND (R365, R393). -/
def doWgtLand (d : Desc) (off len : W64) (s : State) : State :=
  runCtx d false (fun c x s =>
    let o := off.toNat
    let n := len.toNat
    if n = 0 then finish d 1 s
    else if o % 256 ≠ 0 ∨ n % 256 ≠ 0 ∨ (interleaved s c (o + n - 1)).isNone then finish d 0x07 s
    else match landSlot s c x.landing with
      | none => finish d 0x05 s
      | some i =>
        let a := c * 0x20000000000 + o
        let s := setWindow (c * 32 + i) (landEntry (a / 256) ((a + n - 1) / 256)) s
        complete d 0 0 (words64 (BitVec.ofNat 64 a)) (updCtx c (fun x => { x with landing := some (o, n) }) s)) s

/-- WGT_LAND (R365). -/
def execWgtLand (d : Desc) (off len : W64) (s : State) : Host.Outcome State Fault Refusal := .next (doWgtLand d off len s)

/-! ### Starting a load (R439, R491) -/

/-- The shard of an epoch that an entry names and the package holds verified. -/
def heldOf (e : Epoch) (n : ShardEntry) : Option Shard := e.shards.find? (fun h => h.ent.shard == n.shard && h.st == .verified)

/-- An entry contradicts what the epoch holds: another DIGEST, TARGET or ROLE, or a lantern that another shard has (R439). -/
def entClash (e : Epoch) (n : ShardEntry) : Bool :=
  match heldOf e n with
  | some h => h.ent.digest != n.digest || h.ent.target != n.target || h.ent.role != n.role
  | none => n.role == 1 && n.kind == 1 && e.shards.any (fun h => isOwnLan h && h.st == .verified && h.ent.target == n.target)

/-- The context has a LIVE epoch here. -/
def hasLive (x : Ctx) : Bool := x.epochs.any (fun e => e.st == .live)

/-- Put the entries that are not held into an epoch, and begin. -/
def loadInto (c : Nat) (d : Desc) (ep : W32) (e : Epoch) (new : List ShardEntry) (first : Bool) (s : State) : State :=
  let rest := e.shards.filter (fun h => !(new.any (fun n => n.shard == h.ent.shard)))
  let e' := { e with st := if e.st = .live then .live else .staging, first := first, cmd := some d,
                     shards := rest ++ new.map newShard }
  let s := updCtx c (fun x => { x with epochs := x.epochs.filter (fun q => q.epoch != ep) ++ [e'] }) s
  epochGo c ep [] (injectHeads c ep s)

/-- A buddy copy goes onto an entry's chain (R491). -/
def sendBuddy (ctxid : W16) (e : Epoch) (s : State) (n : ShardEntry) : State :=
  match heldOf e n with
  | none => s
  | some h => injectSegs ctxid n h.blen s

/-- Start a WGT.LOAD (R438, R439, R491). -/
def loadStart (c : Nat) (x : Ctx) (d : Desc) (ep : W32) (es : List ShardEntry) (s : State) : State :=
  match x.epochs.find? (fun e => e.epoch == ep) with
  | none =>
    if 4 ≤ x.epochs.length then finish d 0x05 s
    else loadInto c d ep { epoch := ep, st := .staging, first := false, shards := [], cmd := none, adopt := none } es (!hasLive x) s
  | some e =>
    let new := es.filter (fun n => (heldOf e n).isNone)
    if e.st = .retained then finish d 0x07 s
    else if e.st == .live && es.all (fun n => n.role == 2 && n.head) then
      if new.isEmpty then finish d 0 (es.foldl (sendBuddy x.ctxid e) s) else finish d 0x07 s
    else if es.any (entClash e) then finish d 0x07 s
    else if new.isEmpty then finish d 0 s
    else loadInto c d ep e new (e.st == .live || !hasLive x) s

/-! ### Adoption (R442, R443) -/

/-- Bytes 0x00 to 0x0F of a residency token (R442). -/
def tokenHead (t : Token) : List Byte :=
  leBytes 4 t.shard.toNat ++ leBytes 4 t.epoch.toNat ++ leBytes 2 t.plant.toNat ++ List.replicate 6 0

/-- The MAC of a shard's residency token at its place (R442), under the content key of its container, first byte highest (DESIGN
CHOICE, log 148); none without that key. -/
def tokenMac (s : State) (x : Ctx) (h : Shard) (t : Token) : Option Digest :=
  (x.ckeys.find? (fun k => k.1 == h.keyid)).map (fun k =>
    digestOf (hmac384 (hkdf384 (leBytes 32 k.2.toNat).reverse
        [0x72, 0x65, 0x73, 0x69, 0x64, 0x65, 0x6E, 0x63, 0x79] 48)
      (digBytes s.sec.iddigest ++ tokenHead t ++ digBytes h.ent.digest)))

/-- A token is accepted: its MAC, its shard, and a lantern that is owned, HELD without an index, and named once. -/
def tokenOk (s : State) (c : Nat) (x : Ctx) (e : Epoch) (toks : List Token) (t : Token) : Bool :=
  let p := t.plant.toNat
  let v := getLan s p
  let named := (toks.filter (fun u => u.plant == t.plant)).length
  t.epoch == e.epoch && decide (p < 1088) && named == 1 && (toks.find? (fun u => u.shard == t.shard) == some t) &&
    (ownerOfLan s p).map (fun i => i.val) == some c && v.st == .held && v.llan.isNone &&
    e.shards.any (fun h => isOwnLan h && h.st == .verified && h.ent.shard == t.shard && sconceOfL h.ent.target.toNat == sconceOf p &&
      tokenMac s x h t == some t.mac)

/-- A lantern's wicks go to ADOPTING (R443, step 2). -/
def adoptLan (c : Nat) (e : Epoch) (t : Token) (s : State) : State :=
  match e.shards.find? (fun h => isOwnLan h && h.ent.shard == t.shard) with
  | none => s
  | some h => match h.md with
    | none => s
    | some m =>
      let p := t.plant.toNat
      let i : CtxI := Fin.ofNat 16 c
      let s := updLan p (fun v => { v with llan := some (Fin.ofNat 1024 h.ent.target.toNat), epoch := e.epoch, adopting := some false,
                                           shape := BitVec.ofNat 3 m.shape.toNat, wrFails := 0 }) s
      let s := (goodWicks s p).foldl (fun s w => updWick p w (fun x =>
        { loadColmap s p w x with st := .adopting, ctx := some i, mode := 0, wfmt := m.wfmt, hit := none }) s) s
      kickAdopt p s

/-- Start a WGT.ADOPT (R443). -/
def adoptStart (c : Nat) (x : Ctx) (d : Desc) (ep : W32) (strict : Bool) (toks : List Token) (s : State) : State :=
  match x.epochs.find? (fun e => e.epoch == ep) with
  | none => finish d 0x07 s
  | some e =>
    if e.st ≠ .staged ∨ hasLive x = true then finish d 0x07 s
    else
      let good := toks.filter (tokenOk s c x e toks)
      let refused := toks.length - good.length
      let unnamed := (toWriteShards e).any (fun h => !(good.any (fun t => t.shard == h.ent.shard)))
      let fail : Option W16 := if !strict then none else if refused ≠ 0 then some 0x0303 else if unnamed then some 0x0304 else none
      let a : Adopt := { strict := strict, whole := 0, rewritten := 0, refused := refused, fail := fail }
      let s := updEpoch c ep (fun e => { e with first := true, cmd := some d, adopt := some a }) s
      let s := good.foldl (fun s t => adoptLan c e t s) s
      if strict then loadCheck c ep s else writeStart c ep (some true) s

/-! ### Commands of an epoch, one at a time (R392) -/

/-- The epoch a command names. -/
def LoadCmd.epochOf (q : LoadCmd) : W32 :=
  match q with
  | .load _ e _ => e
  | .adopt _ e _ _ => e

/-- A command may start: no other one of its epoch runs, and no first load of another epoch. -/
def loadFree (x : Ctx) (q : LoadCmd) : Bool :=
  !(x.epochs.any (fun e => e.cmd.isSome && (e.epoch == q.epochOf || (e.first && e.st != .live))))

/-- The first waiting command that may start, and the rest. -/
def loadPick (x : Ctx) : List LoadCmd → List LoadCmd → Option (LoadCmd × List LoadCmd)
  | _, [] => none
  | before, q :: t =>
    if loadFree x q && !(before.any (fun b => b.epochOf == q.epochOf)) then some (q, before ++ t) else loadPick x (before ++ [q]) t

/-- Start waiting commands, `n` at most. -/
def loadsGo : Nat → Nat → State → State
  | 0, _, s => s
  | n + 1, c, s => match getCtx s c with
    | none => s
    | some x => match loadPick x [] x.loadQ with
      | none => s
      | some (q, rest) =>
        let y := { x with loadQ := rest }
        let s := setCtx c (some y) s
        let s := match q with
          | .load d ep es => loadStart c y d ep es s
          | .adopt d ep strict toks => adoptStart c y d ep strict toks s
        loadsGo n c s

/-- Wicks whose write was refused for endurance fail their jobs (R46, R441). -/
def reapJobs (s : State) : State :=
  (s.wicks.filter (fun e => e.2.st == .failed && e.2.job != .none)).foldl (fun s e => jobFail (e.1 / 17) (e.1 % 17) s) s

/-- Every waiting command of a context that may start does. -/
def kickLoads (c : Nat) (s : State) : State :=
  match getCtx s c with
  | none => s
  | some x => loadsGo x.loadQ.length c s

/-- What may follow when jobs have ended. -/
def afterJobs (s : State) : State :=
  if s.snuf.wheld then s else (ctxSlots s).foldl (fun s c => kickLoads c s) (reapJobs s)

/-- Put a command behind those of its context. -/
def pushLoad (c : Nat) (d : Desc) (q : LoadCmd) (s : State) : State :=
  reapJobs (kickLoads c (keepProg d (updCtx c (fun x => { x with loadQ := x.loadQ ++ [q] }) s)))

/-- WGT_LOAD (R434, R439). -/
def doWgtLoad (d : Desc) (ep : W32) (es : List ShardEntry) (s : State) : State :=
  runCtx d true (fun c x s =>
    if d.inlen = 0 then finish d 1 s
    else if ep = 0 ∨ listBad s c x d es = true then finish d 0x07 s
    else if listDenied s c es then finish d 0x06 s
    else pushLoad c d (.load d ep es) s) s

/-- WGT_LOAD (R439). -/
def execWgtLoad (d : Desc) (epoch : W32) (ents : List ShardEntry) (s : State) : Host.Outcome State Fault Refusal :=
  .next (doWgtLoad d epoch ents s)

/-- WGT_ADOPT (R443). -/
def doWgtAdopt (d : Desc) (ep : W32) (strict : Bool) (toks : List Token) (s : State) : State :=
  runCtx d true (fun c _ s =>
    if d.inlen = 0 then finish d 1 s
    else if d.inlen.toNat ≠ 64 * toks.length then finish d 0x07 s
    else pushLoad c d (.adopt d ep strict toks) s) s

/-- WGT_ADOPT (R443). -/
def execWgtAdopt (d : Desc) (epoch : W32) (strict : Bool) (toks : List Token) (s : State) :
    Host.Outcome State Fault Refusal := .next (doWgtAdopt d epoch strict toks s)

/-! ### Dropping an epoch (R439) -/

/-- A request is bound to an epoch here, or a resume may hold it, or a wave or rewrite needs it (R413, R439). -/
def epochBound (s : State) (c : Nat) (x : Ctx) (ep : W32) : Bool :=
  x.adm.any (fun a => admKeeps s a && a.epoch == ep) ||
    x.rel.any (fun r => r.started && r.ledger.epoch == ep && !r.stale && (!r.retired || relHeld s x r.num)) ||
    s.attn.any (fun t => t.ctx.val == c && t.epoch == ep && (!t.retired || decide (nowC s < t.lease))) ||
    s.fab.streams.any (fun t => t.ctx == x.ctxid && t.layers.any (fun k => k.1 == ep)) ||
    x.rewrite == some ep || x.wave.any (fun w => w.new == ep)

/-- Free an epoch and complete. -/
def dropEpoch (c : Nat) (ep : W32) (d : Desc) (s : State) : State :=
  finish d 0 (updCtx c (fun x => { x with epochs := x.epochs.filter (fun e => e.epoch != ep) }) s)

/-- WGT_DROP (R439). -/
def doWgtDrop (d : Desc) (ep : W32) (s : State) : State :=
  runCtx d false (fun c x s => match x.epochs.find? (fun e => e.epoch == ep) with
    | none => finish d 0x07 s
    | some e =>
      if e.cmd.isSome then finish d 0x05 s
      else if e.st = .live then finish d 0x06 s
      else if epochBound s c x ep then keepProg d (updCtx c (fun x => { x with drops := x.drops ++ [(ep, d)] }) s)
      else dropEpoch c ep d s) s

/-- WGT_DROP (R439). -/
def execWgtDrop (d : Desc) (epoch : W32) (s : State) : Host.Outcome State Fault Refusal := .next (doWgtDrop d epoch s)

/-- A waiting drop is done: nothing is bound any more; or, at its limit, BUSY (R439). -/
def dropTry (c : Nat) (limit : Bool) (s : State) (q : W32 × Desc) : State :=
  match getCtx s c with
  | none => s
  | some x =>
    let out (s : State) : State := updCtx c (fun x => { x with drops := x.drops.erase q }) s
    let idle := x.epochs.any (fun e => e.epoch == q.1 && e.cmd.isNone && e.st != .live)
    if idle && !epochBound s c x q.1 then dropEpoch c q.1 q.2 (out s)
    else if limit then finish q.2 0x05 (out s)
    else s

/-- Every waiting drop looks again. -/
def kickDrops (c : Nat) (s : State) : State :=
  match getCtx s c with
  | none => s
  | some x => x.drops.foldl (dropTry c false) s

/-- WGT_STATUS (R393, R442): the output has no layout in the manual. -/
def execWgtStatus (d : Desc) (s : State) : Host.Outcome State Fault Refusal :=
  .next (runCtx d false (fun _ _ s => finishFree d s) s)

/-! ### Rows whose jobs end loads -/

/-- WICK_WRITE_DONE (R45). -/
def execWickWriteDone (l : Lan) (w : PWick) (reads : List (Nat × Nat × List Int)) (s : State) :
    Host.Outcome State Fault Refusal := .next (afterJobs (writeDone l.val w.val reads s))

/-- WICK_REPAIR_PASS_DONE (R45). -/
def execWickRepairPassDone (l : Lan) (w : PWick) (reads : List (Nat × Nat × List Int)) (s : State) :
    Host.Outcome State Fault Refusal := .next (afterJobs (repairDone l.val w.val reads s))

/-- READBACK_DONE (R50). -/
def execReadbackDone (l : Lan) (w : PWick) (s : State) : Host.Outcome State Fault Refusal :=
  .next (afterJobs (readbackDone l.val w.val s))

/-- FULL_TRIM_WINDOW_DONE (R192). -/
def execFullTrimWindowDone (l : Lan) (s : State) : Host.Outcome State Fault Refusal := .next (afterJobs (trimWindow l.val s))

/-- DRIVE_REF_CAL_DONE (R198). -/
def execDriveRefCalDone (l : Lan) (s : State) : Host.Outcome State Fault Refusal := .next (afterJobs (drDone l.val s))

end Sys2Proof.Machine
end

