-- ==== Sys2Proof/Machine/Adapters.lean ====
section
/-! DEFINITION. The ADP. commands (R448), the end of attention holds and prefix leases (R413, R427), and the limits of commands
(R393). -/

namespace Sys2Proof.Machine

/-! ### Adapter slots, one command at a time (R392, R448) -/

/-- The slot a command names. -/
def AdpCmd.slotOf (q : AdpCmd) : Nat :=
  match q with
  | .load _ n _ _ => n
  | .replace _ n _ _ => n
  | .free _ n => n

/-- The generations of a slot. -/
def gensOf (x : Ctx) (slot : Nat) : List AdpGen := Tab.get [] x.adapters slot

/-- A command may start: no load of the slot runs, and a replacement finds room for its generation. -/
def adpFree (x : Ctx) (q : AdpCmd) : Bool :=
  let gs := gensOf x q.slotOf
  !(gs.any (fun g => g.cmd.isSome)) && (match q with | .replace .. => decide (gs.length < 2) | _ => true)

/-- Begin the load of a generation. -/
def genStart (c slot : Nat) (d : Desc) (gen : W32) (es : List ShardEntry) (s : State) : State :=
  let g : AdpGen := { gen := gen, current := false, shards := es.map newShard, cmd := some d }
  gensGo c (injectHeads c 0 (updCtx c (fun x => { x with adapters := Tab.upd [] x.adapters slot (fun l => l ++ [g]) }) s))

/-- Start a command of a slot (R448). -/
def adpStart (c : Nat) (x : Ctx) (q : AdpCmd) (s : State) : State :=
  let gs := gensOf x q.slotOf
  match q with
  | .load d n gen es => if gs ≠ [] then finish d 0x07 s else genStart c n d gen es s
  | .replace d n gen es =>
    if gs = [] then finish d 0x0401 s
    else if gs.any (fun g => g.gen + 1 == gen) then genStart c n d gen es s
    else finish d 0x07 s
  | .free d n =>
    if gs = [] then finish d 0x0401 s
    else if gs.any (fun g => genBound s c x n g.gen) then finish d 0x05 s
    else finish d 0 (updCtx c (fun x => { x with adapters := Tab.set [] x.adapters n [] }) s)

/-- The first waiting command that may start, and the rest. -/
def adpPick (x : Ctx) : List AdpCmd → List AdpCmd → Option (AdpCmd × List AdpCmd)
  | _, [] => none
  | before, q :: t =>
    if adpFree x q && !(before.any (fun b => b.slotOf == q.slotOf)) then some (q, before ++ t) else adpPick x (before ++ [q]) t

/-- Start waiting commands, `n` at most. -/
def adpsGo : Nat → Nat → State → State
  | 0, _, s => s
  | n + 1, c, s => match getCtx s c with
    | none => s
    | some x => match adpPick x [] x.adpQ with
      | none => s
      | some (q, rest) =>
        let y := { x with adpQ := rest }
        adpsGo n c (adpStart c y q (setCtx c (some y) s))

/-- Every waiting command of an adapter slot that may start does, once older generations have been freed. -/
def kickAdps (c : Nat) (s : State) : State :=
  let s := adpSweep c s
  match getCtx s c with
  | none => s
  | some x => adpsGo x.adpQ.length c s

/-- Put a command behind those of its slot. -/
def pushAdp (c : Nat) (d : Desc) (q : AdpCmd) (s : State) : State :=
  kickAdps c (keepProg d (updCtx c (fun x => { x with adpQ := x.adpQ ++ [q] }) s))

/-- ADP.LOAD and ADP.REPLACE (R434, R448): adapters are table shards. -/
def adpList (d : Desc) (slot : W16) (gen : W32) (es : List ShardEntry) (q : AdpCmd) (s : State) : State :=
  runCtx d true (fun c x s =>
    if d.inlen = 0 then finish d 1 s
    else if 15 < slot.toNat then finish d 0x0401 s
    else if gen = 0 ∨ listBad s c x d es = true ∨ es.any (fun e => e.kind == 1) = true then finish d 0x07 s
    else pushAdp c d q s) s

/-- ADP_LOAD (R448). -/
def execAdpLoad (d : Desc) (slot : W16) (gen : W32) (ents : List ShardEntry) (s : State) : Host.Outcome State Fault Refusal :=
  .next (adpList d slot gen ents (.load d slot.toNat gen ents) s)

/-- ADP_REPLACE (R448). -/
def execAdpReplace (d : Desc) (slot : W16) (gen : W32) (ents : List ShardEntry) (s : State) :
    Host.Outcome State Fault Refusal := .next (adpList d slot gen ents (.replace d slot.toNat gen ents) s)

/-- ADP_FREE (R448). -/
def execAdpFree (d : Desc) (slot : W16) (s : State) : Host.Outcome State Fault Refusal :=
  .next (runCtx d false (fun c _ s => if 15 < slot.toNat then finish d 0x0401 s else pushAdp c d (.free d slot.toNat) s) s)

/-- ADP_STATUS (R393): the output has no layout in the manual. -/
def execAdpStatus (d : Desc) (s : State) : Host.Outcome State Fault Refusal :=
  .next (runCtx d false (fun _ _ s => finishFree d s) s)

/-! ### Holds and leases end (R413, R427, R448) -/

/-- What waits for the last request of an epoch or generation looks again. -/
def kickBound (c : Nat) (s : State) : State := kickPfx c (kickAdps c (kickDrops c s))

/-- ATTENTION_HOLD_EXPIRY (R413, R427): a retired request's committed entries are freed. -/
def doHoldExpiry (c : Nat) (inst : W32) (s : State) : State :=
  if s.snuf.wheld then s
  else
    let gone (t : Attn) : Bool := t.ctx.val == c && t.inst == inst && t.retired && decide (t.lease ≤ nowC s)
    kickBound c { s with attn := s.attn.filter (fun t => !gone t) }

/-- ATTENTION_HOLD_EXPIRY (R413). -/
def execAttentionHoldExpiry (c : CtxI) (inst : W32) (s : State) : Host.Outcome State Fault Refusal :=
  .next (doHoldExpiry c.val inst s)

/-- The entry package takes an expired slot out of its index, and the nodes that nothing holds any more (R425, R427). -/
def leaseOut (s : State) (slot : Nat) (x : Ctx) : Ctx :=
  let ended (p : Prefix) : Bool := p.slot == slot && p.live && decide (p.expiry ≤ nowC s)
  if x.prefixes.any ended then
    let nodes := x.nodes.map (fun n => if n.slot = slot then { n with slot := 0 } else n)
    lkpSync { x with prefixes := x.prefixes.filter (fun p => !ended p), nodes := pruneNodes nodes.length nodes }
  else x

/-- PREFIX_LEASE_EXPIRY (R427): out of the index on the entry package; the builder's entries are freed. -/
def doLeaseExpiry (c slot : Nat) (s : State) : State :=
  if s.snuf.wheld then s
  else
    let s := updCtx c (leaseOut s slot) s
    let gone (t : Attn) : Bool :=
      t.ctx.val == c && bitAt t.reqtag 31 && tagSlot t.reqtag == slot && t.retired && decide (t.lease ≤ nowC s)
    kickBound c { s with attn := s.attn.filter (fun t => !gone t) }

/-- PREFIX_LEASE_EXPIRY (R427). -/
def execPrefixLeaseExpiry (c : CtxI) (slot : Nat) (s : State) : Host.Outcome State Fault Refusal :=
  .next (doLeaseExpiry c.val slot s)

/-! ### Rows that settle shards (R435, R436) -/

/-- What may follow when a shard is settled. -/
def afterShards (s : State) : State := (ctxSlots s).foldl (fun s c => kickAdps c s) (afterJobs s)

/-- SHARD_SEGMENTS_COMPLETE (R435). -/
def execShardSegmentsComplete (c : CtxI) (epoch shard : W32) (b : ShardBody) (closing : List (Lan × LWick × List (Nat × Int))) (s : State) :
    Host.Outcome State Fault Refusal := .next (afterShards (doSegmentsComplete c.val epoch shard b closing s))

/-- STORAGE_CHECK_POLL (R436). -/
def execStorageCheckPoll (c : CtxI) (epoch shard : W32) (b : Option ShardBody) (closing : List (Lan × LWick × List (Nat × Int))) (s : State) :
    Host.Outcome State Fault Refusal := .next (afterShards (doStoragePoll c.val epoch shard b closing s))

/-- SHARD_FAIL_DEADLINE (R436, R437). -/
def execShardFailDeadline (c : CtxI) (epoch shard : W32) (s : State) : Host.Outcome State Fault Refusal :=
  .next (afterShards (doShardFail c.val epoch shard s))

/-! ### Limits (R393, R439, R448) -/

/-- The limit of a WGT.DROP or ADP.REPLACE that still waits: BUSY (R439, R448). -/
def fixedLimit (d : Desc) (s : State) (c : Nat) : State :=
  match getCtx s c with
  | none => s
  | some x =>
    let s := (x.drops.filter (fun q => q.2 == d)).foldl (dropTry c true) s
    let is (q : AdpCmd) : Bool := match q with | .replace e _ _ _ => e == d | _ => false
    if x.adpQ.any is then finish d 0x05 (updCtx c (fun x => { x with adpQ := x.adpQ.filter (fun q => !is q) }) s) else s

/-- COMMAND_TIME_LIMIT (R393): an A command is abandoned; of the F commands those that wait for requests end with BUSY. -/
def cmdLimit (r : Nat) (tag : W64) (s : State) : State :=
  let s := doCmdLimit r tag s
  match (getRing s r).prog.find? (fun d => d.tag == tag) with
  | none => s
  | some d => (ctxSlots s).foldl (fixedLimit d) s

end Sys2Proof.Machine
end

