-- ==== Sys2Proof/Machine/Regs.lean ====
section
/-! DEFINITION. What every register reads (R59 to R71, R120, R121, R149, R150, R179 to R181, R211 to R213, R249 to R251, R253, R260,
R268, R270 to R275, R294, R321, R348, R376, R397, R499, R513), by its offset in a lantern's register window or in the die
control window (R265), and the effects a read has (R5, R534). Offsets that no table lists read 0. -/

namespace Sys2Proof.Machine

/-- A register from its fields: lowest bit and value. -/
def pack (l : List (Nat × Nat)) : W32 := BitVec.ofNat 32 (sumN (l.map (fun p => p.2 * 2 ^ p.1)))

/-- A flag's value. -/
def b2n (b : Bool) : Nat := if b then 1 else 0

/-- An optional context slot as CTXV and CTX in bits 13 and 12 to 9. -/
def ctxField (c : Option CtxI) : List (Nat × Nat) := match c with | none => [] | some i => [(13, 1), (9, i.val)]

/-- Low word and latch of a 64-bit counter (R534). -/
def ctrLo (c : Ctr64) : W32 := BitVec.ofNat 32 c.val.toNat

/-- A wick state's code (R39). -/
def WickSt.code : WickSt → Nat
  | .unowned => 0 | .writing => 1 | .adopting => 2 | .ready => 3 | .service => 4 | .spare => 5 | .quarantined => 6 | .failed => 7

/-- A lantern state's code (R117). -/
def LanSt.code : LanSt → Nat
  | .free => 0 | .held => 1 | .service => 2 | .quarantined => 3 | .retired => 4

/-- An input slot state's code (R121). -/
def SlotSt.code : SlotSt → Nat
  | .free => 0 | .filling => 1 | .ready => 2 | .firing => 3 | .held => 4 | .failed => 5

/-- A trim phase's code (R212). -/
def CalPhase.code : CalPhase → Nat
  | .idle => 0 | .live => 1 | .win1 => 2 | .win2 => 3 | .drWait => 4 | .drRun => 5

/-- A stack controller state's code (R270). -/
def StkSt.code : StkSt → Nat
  | .reset => 0 | .training => 1 | .ready => 2 | .selfRefresh => 3 | .failed => 4

/-- A fabric link state's code (R307). -/
def LinkSt.code : LinkSt → Nat
  | .disabled => 0 | .training => 1 | .align => 2 | .linit => 3 | .discover => 4 | .up => 5 | .quarantine => 6
  | .withheld => 7 | .down => 8

/-- A Garvy Link state's code (R350). -/
def GSt.code : GSt → Nat
  | .disabled => 0 | .detect => 1 | .train => 2 | .lock => 3 | .init => 4 | .active => 5 | .recovery => 6 | .withheld => 7
  | .down => 8

/-- A ring state's code (R397). -/
def RingSt.code : RingSt → Nat
  | .off => 0 | .run => 1 | .stopped => 2

/-! ### A lantern's window -/

/-- The WCK_ registers of physical wick `w` (R60 to R71). During a write ROWS counts on with the rows (R43), and
WCK_RBSTAT.BUSY reads 1 in WRITING too (R58; DEDUCED, log 140). -/
def readWick (s : State) (l w off : Nat) : W32 :=
  let x := getWick s l w
  if off = 0x000 then pack [(24, 1), (16, w), (0, l)]
  else if off = 0x004 then pack [(6, x.mode.toNat), (0, x.wfmt.toNat)]
  else if off = 0x008 then
    pack (ctxField x.ctx ++ (match x.lwick with | none => [] | some i => [(8, 1), (4, i.val)]) ++ [(0, x.st.code)])
  else if off = 0x010 then x.cm0
  else if off = 0x014 then x.cm1
  else if off = 0x018 then x.cm2
  else if off = 0x01C then x.cm3
  else if off = 0x020 then pack [(16, x.force.toNat), (0, x.l1max.toNat)]
  else if off = 0x024 then x.stat.setWidth 32
  else if off = 0x028 then ctrLo x.steps
  else if off = 0x02C then x.steps.latch
  else if off = 0x030 then pack [(16, x.split4.toNat), (0, x.split2.toNat)]
  else if off = 0x034 then x.sats
  else if off = 0x038 then x.skips
  else if off = 0x040 then x.pgm.setWidth 32
  else if off = 0x044 then x.maxp.setWidth 32
  else if off = 0x048 then
    pack [(30, x.wrResult.toNat), (13, x.failcol.toNat), (12, b2n x.wrBusy),
      (0, if x.wrBusy then rowsDone (nowF s) x else x.wrRows.toNat)]
  else if off = 0x054 then
    pack [(30, x.rbResult.toNat), (16, x.marg.toNat), (12, b2n (x.rbBusy || x.st == .writing)), (0, x.rbRows.toNat)]
  else if off = 0x058 then pack [(16, x.keybits.toNat), (0, x.matchT.toNat)]
  else 0

/-- The LNT_ registers (R120, R121). LNT_ISSUE.IVAL reads the value last written, while an earlier one is in force until the
flare boundary (DESIGN CHOICE, log 141). -/
def readLnt (s : State) (l off : Nat) : W32 :=
  let v := getLan s l
  if off = 0x000 then pack [(24, 1), (16, sconceOf l), (0, l)]
  else if off = 0x004 then v.shape.setWidth 32
  else if off = 0x008 then
    pack ((match v.llan with | none => [] | some i => [(26, 1), (16, i.val)]) ++ ctxField v.ctx ++
      [(3, b2n v.drcal), (0, v.st.code)])
  else if off = 0x010 then v.map0.setWidth 32
  else if off = 0x014 then v.map1.setWidth 32
  else if off = 0x018 then v.map2.setWidth 32
  else if off = 0x01C then
    pack [(31, b2n v.arm), (16, v.swapLw.val), (0, match v.spare with | none => 0x1F | some w => w.val)]
  else if off = 0x020 then (ivalSet v).setWidth 32
  else if off = 0x024 then pack [(16, v.tpoint.toNat), (0, diodeOf l)]
  else if off = 0x028 then pack [(4, v.slot1.st.code), (0, v.slot0.st.code)]
  else if off = 0x02C then v.stat.setWidth 32
  else if off = 0x030 then ctrLo v.flares
  else if off = 0x034 then v.flares.latch
  else if off = 0x038 then v.zerovec
  else if off = 0x03C then v.fbslices
  else if off = 0x040 then v.outliers
  else if off = 0x044 then v.refires
  else 0

/-- The VEC_ registers (R149, R150). -/
def readVec (s : State) (l off : Nat) : W32 :=
  let e := getEng s l
  if off = 0x4000 then pack [(24, 1), (0, l)]
  else if off = 0x4004 then pack [(0, b2n e.custEn)]
  else if off = 0x4008 then pack [(8, b2n s.pwr.cut), (0, s.pwr.duty.toNat)]
  else if off = 0x400C then
    BitVec.ofNat 32 (maskOf ((List.range 32).filter (fun t => (Tab.get none e.threads t).isSome)))
  else if off = 0x4010 then pack [(8, (freeRegs e 8).length), (0, (freeRegs e 0).length)]
  else if off = 0x4014 then e.stat.setWidth 32
  else if off = 0x4018 then pack ([(28, e.faultCause.toNat), (16, e.faultSlot.toNat)] ++ ctxField e.faultCtx)
  else if off = 0x401C then e.faultPc
  else if off = 0x4020 then ctrLo e.issue
  else if off = 0x4024 then e.issue.latch
  else if off = 0x4028 then e.stall
  else if off = 0x402C then pack [(16, e.eccUnc.toNat), (0, e.eccCor.toNat)]
  else 0

/-- The CAL_ registers (R211, R212). -/
def readCal (s : State) (l off : Nat) : W32 :=
  let v := getLan s l
  if off = 0x5000 then pack [(31, b2n v.rotEn), (30, b2n v.liveEn), (16, v.rotper.toNat)]
  else if off = 0x5004 then pack [(16, v.drdt.toNat), (0, v.drper.toNat)]
  else if off = 0x5008 then
    pack [(28, v.phase.code), (16, match v.calWick with | none => 0x1F | some w => w.val), (0, v.livewin.toNat)]
  else if off = 0x500C then v.calStat.setWidth 32
  else 0

/-- The CHK_ registers of a lantern (R249, R250). -/
def readChk (s : State) (l off : Nat) : W32 :=
  let v := getLan s l
  if off = 0x6000 then v.audlog.setWidth 32
  else if off = 0x6004 then v.chkStat.setWidth 32
  else if off = 0x6008 then v.since.setWidth 32
  else if off = 0x600C then v.rsfails
  else if off = 0x6010 then pack [(16, v.audFails.toNat), (0, v.audPasses.toNat)]
  else if off = 0x6014 then
    pack [(31, b2n v.locValid), (30, b2n v.locConf), (29, b2n v.locMulti), (16, v.locWick.toNat), (0, v.locCol.toNat)]
  else if off = 0x6018 then v.subst.setWidth 32
  else if 0x6100 ≤ off ∧ off < 0x6100 + 0x110 then
    let x := getWick s l ((off - 0x6100) / 16)
    let g := off % 16 / 4
    pack [(16, bandsI x g), (0, bandsP x g)]
  else if 0x6300 ≤ off ∧ off < 0x6300 + 8 * 17 then
    let x := getWick s l ((off - 0x6300) / 8)
    if off % 8 = 0 then ctrLo x.waud else x.waud.latch
  else 0

/-- A lantern's register window: an aligned offset. -/
def readLanWin (s : State) (l off : Nat) : W32 :=
  if off < 0x2000 then readLnt s l off
  else if off < 0x3100 then readWick s l ((off - 0x2000) / 0x100) (off % 0x100)
  else if off < 0x4000 then 0
  else if off < 0x5000 then readVec s l off
  else if off < 0x6000 then readCal s l off
  else readChk s l off

/-! ### The die control window -/

/-- LMP_ and PWR_ (R179 to R181). -/
def readLmp (s : State) (off : Nat) : W32 :=
  let p := s.pwr
  if off = 0x000 then pack [(24, 1)]
  else if off = 0x004 then pack [(31, b2n s.lmp.en), (16, s.lmp.age.toNat), (0, s.lmp.wideT.toNat)]
  else if off = 0x008 then s.lmp.stat.setWidth 32
  else if off = 0x00C then pack [(2, s.lmp.divE.toNat), (0, s.lmp.divW.toNat)]
  else if off = 0x010 then ctrLo s.lmp.flicker
  else if off = 0x014 then s.lmp.flicker.latch
  else if off = 0x018 then pack [(16, s.lmp.dipsTotal.toNat), (0, s.lmp.dipsRecent.toNat)]
  else if 0x100 ≤ off ∧ off < 0x200 then
    let x := getLctx s ((off - 0x100) / 16)
    let act := x.runs.any (fun r => r.launching)
    let n (k : Nat) : Nat := min 255 (x.queue.filter (fun r => r.cls == k)).length
    if off % 16 = 0 then pack [(9, b2n act), (8, b2n (x.pause && !act)), (0, b2n x.pause)]
    else if off % 16 = 4 then
      pack [(24, min 255 (x.queue.filter (fun r => decide (effClass s r (nowF s) < r.cls))).length), (16, n 0), (8, n 1),
            (0, n 2)]
    else if off % 16 = 8 then pack [(16, x.floorsel.toNat), (0, x.floor.toNat)]
    else if off % 16 = 12 then x.launches
    else 0
  else if off = 0x800 then p.limit.setWidth 32
  else if off = 0x804 then pack [(16, p.vec.toNat), (0, p.arr.toNat)]
  else if off = 0x808 then pack [(16, p.stk.toNat), (0, p.xbr.toNat)]
  else if off = 0x80C then pack [(16, p.ctl.toNat), (0, p.ser.toNat)]
  else if off = 0x810 then BitVec.ofNat 32 (budget s)
  else if off = 0x814 then pack [(8, p.epochs.toNat), (0, p.level.toNat)]
  else if off = 0x818 then pack [(16, p.hot.toNat), (0, p.set.toNat)]
  else if off = 0x81C then 0x00202808
  else if off = 0x820 then p.window
  else if off = 0x824 then p.stat.setWidth 32
  else if 0x840 ≤ off ∧ off < 0x880 then (getLctx s ((off - 0x840) / 4)).weight.setWidth 32
  else if 0x880 ≤ off ∧ off < 0x8C0 then BitVec.ofNat 32 (share s ((off - 0x880) / 4))
  else 0

/-- A conversion's gain, time and input in bits 13 to 0. -/
def seqField (e : SeqEntry) : List (Nat × Nat) := [(12, e.gain.toNat), (8, e.ts.toNat), (0, e.input.toNat)]

/-- MON_ (R211, R213), by offset from 0x1000. -/
def readMon (s : State) (off : Nat) : W32 :=
  let m := s.mon
  if off = 0x000 then m.stat.setWidth 32
  else if off = 0x004 then
    pack ([(30, b2n m.urgBusy), (16, m.urgConv.toNat)] ++ seqField { gain := m.urgGain, ts := m.urgTs, input := m.urgInput })
  else if off = 0x008 then pack [(31, b2n m.resValid), (0, m.resCode.toNat)]
  else if 0x100 ≤ off ∧ off < 0x500 then
    let c := getCv s ((off - 0x100) / 0x100)
    let o := off % 0x100
    if o = 0 then pack [(31, b2n c.run), (8, b2n c.mode), (0, c.len.toNat)]
    else if 0x40 ≤ o ∧ o < 0x80 then
      match c.seq[(o - 0x40) / 4]? with
      | none => 0
      | some e => pack (seqField e)
    else if 0x80 ≤ o ∧ o < 0xC0 then
      match c.res[(o - 0x80) / 4]? with
      | none => 0
      | some (v, r, n, k) => pack [(31, b2n v), (30, b2n r), (16, n.toNat), (0, k.toNat)]
    else 0
  else if 0x800 ≤ off ∧ off < 0x880 then
    match m.dtab[(off - 0x800) / 4]? with
    | none => 0
    | some (a, b) => pack [(16, a.toNat), (0, b.toNat)]
  else if 0x900 ≤ off ∧ off < 0x980 then
    match m.temp[(off - 0x900) / 4]? with
    | none => 0
    | some (h, t) => pack [(16, h.toNat), (0, (BitVec.ofInt 16 t).toNat)]
  else 0

/-- Audits copied and not compared, die-wide. -/
def auditsPending (s : State) : Nat := sumN (s.lans.map (fun e => e.2.audits.length))

/-- CHK_ of the die (R251), by offset from 0x2000. -/
def readChkDie (s : State) (off : Nat) : W32 :=
  let c := s.chk
  if off = 0x00 then c.dstat.setWidth 32
  else if off = 0x04 then pack [(16, c.failed.toNat), (0, c.retried.toNat)]
  else if off = 0x08 then c.resolved
  else if off = 0x0C then BitVec.ofNat 32 (min 17408 (auditsPending s))
  else if 0x40 ≤ off ∧ off < 0x80 then BitVec.ofNat 32 (min 67108864 (Tab.get [] c.jrnl ((off - 0x40) / 4)).length)
  else 0

/-- Reserve lanterns still available (R253). -/
def resvOf (s : State) (n : Nat) : Nat :=
  if (getScn s n).owner.isNone then 0
  else
    let ls := lansOf n
    let free := (ls.filter (fun l => (getLan s l).st == .held && (getLan s l).llan.isNone)).length
    let placed := (ls.filter (fun l => (getLan s l).llan.isSome)).length
    min 4 (free - (64 - placed))

/-- SCN_ (R253, R499), by offset from 0x3000. -/
def readScn (s : State) (off : Nat) : W32 :=
  if off = 0x800 then pack [(31, b2n s.snuf.wheld), (16, s.snuf.cause.toNat), (0, s.snuf.detail.toNat)]
  else if off < 0x400 then
    let n := off / 0x40
    let x := getScn s n
    if off % 0x40 = 0 then pack ([(31, b2n x.scrub)] ++ ctxField x.owner ++ [(0, resvOf s n)])
    else if off % 0x40 = 4 then pack [(16, x.unc.toNat), (0, x.cor.toNat)]
    else if off % 0x40 = 8 then pack [(24, suspCount s n), (16, b2n x.retire), (0, x.raised.toNat)]
    else 0
  else 0

/-- A slot's owner as the byte of its XBR_SLOTMAP register (R260). -/
def slotByte (f : Option CtxI) : Nat := match f with | none => 0x80 | some c => c.val

/-- XBR_ (R259, R260, R268), by offset from 0x4000. -/
def readXbr (s : State) (off : Nat) : W32 :=
  if off = 0 then s.xbr.stat.setWidth 32
  else if 0x40 ≤ off ∧ off < 0x80 then
    let k := (off - 0x40) / 4
    let m := slotPending s.xbr
    pack ((List.range 4).map (fun i => (8 * i, slotByte (m.getD (4 * k + i) none))))
  else if 0x1000 ≤ off ∧ off < 0x3000 then
    let i := (off - 0x1000) / 16
    BitVec.ofNat 32 ((Tab.get 0 s.xbr.windows i).toNat / 2 ^ (32 * (off % 16 / 4)))
  else 0

/-- STK_ (R270 to R275), by offset from 0x8000. -/
def readStk (s : State) (off : Nat) : W32 :=
  let k := getStk s (off / 0x800)
  let o := off % 0x800
  if o = 0x00 then pack [(28, k.st.code), (24, b2n k.slow), (16, k.repairs.toNat), (0, k.stat.toNat)]
  else if o = 0x04 then pack [(16, k.unc.toNat), (0, k.cor.toNat)]
  else if o = 0x08 then pack [(16, k.period.toNat), (0, k.passes.toNat)]
  else if o = 0x0C then pack [(16, b2n k.sysk), (0, k.ctxk.toNat)]
  else if o = 0x10 then pack [(31, b2n k.scrubBusy), (0, k.remain.toNat)]
  else 0

/-- CLK_ (R294), by offset from 0x1_0000. -/
def readClk (s : State) (off : Nat) : W32 :=
  let c := s.clk
  if off = 0x00 then
    pack [(31, b2n c.lock), (30, b2n c.hold), (2, b2n c.lockLost), (1, b2n c.gateRef), (0, b2n c.cfgErr)]
  else if off = 0x10 then pack [(12, c.ncW.toNat), (8, c.acW.toNat), (4, c.nW.toNat), (0, c.aW.toNat)]
  else if off = 0x14 then pack [(12, c.ncE.toNat), (8, c.acE.toNat), (4, c.nE.toNat), (0, c.aE.toNat)]
  else if off = 0x20 then
    pack [(31, b2n c.gateE), (30, b2n c.gateW), (16, c.hangs.toNat), (8, (satOf 8 (inflOf s true)).toNat), (0, (satOf 8 (inflOf s false)).toNat)]
  else if off = 0x30 then BitVec.ofNat 32 (ltime s).toNat
  else if off = 0x34 then c.ltLatch
  else if off = 0x40 then pack [(16, c.rstCount.toNat), (0, c.rstCause.toNat)]
  else if off = 0x50 then c.warn.setWidth 32
  else if off = 0x54 then c.warned.setWidth 32
  else if off = 0x58 then pack [(30, c.fltKind.toNat), (0, c.fltPoints.toNat)]
  else 0

/-- An FAB_NBR register (R321). -/
def nbrField (n : Neighbour) : W32 :=
  pack [(31, b2n n.pkg.isSome), (28, n.nst.toNat), (16, n.plink.val), (0, match n.pkg with | none => 0 | some p => p.toNat)]

/-- FAB_ of one port (R321). -/
def readPort (s : State) (p o : Nat) : W32 :=
  let x := getPort s p
  let a := getLink s (2 * p)
  let b := getLink s (2 * p + 1)
  let h (n : Nat) : Nat := if x.split then n else 0
  if o = 0x00 then
    pack [(31, b2n x.en), (30, b2n x.split), (28, x.encA.toNat), (27, b2n x.ch), (26, b2n x.twinA), (25, b2n x.twinB),
          (22, x.encB.toNat), (0, x.txpre.toNat)]
  else if o = 0x04 then
    pack [(28, h b.st.code), (24, h b.cause.toNat), (12, a.st.code), (8, a.cause.toNat)]
  else if o = 0x08 then pack [(17, h (b2n b.rev)), (16, b2n a.rev), (8, x.polinv.toNat), (0, x.lock.toNat)]
  else if o = 0x0C then x.corr
  else if o = 0x10 then x.uncorr
  else if o = 0x14 then pack [(16, x.naks.toNat), (0, x.replays.toNat)]
  else if o = 0x18 then x.stat.setWidth 32
  else if o = 0x20 then nbrField (getNbr s (2 * p))
  else if o = 0x24 then (if x.split then nbrField (getNbr s (2 * p + 1)) else 0)
  else if o = 0x28 then pack [(16, h b.rtt.toNat), (0, a.rtt.toNat)]
  else 0

/-- Messages held under hold rules. -/
def heldMsgs (s : State) : Nat := sumN (s.fab.rules.map (fun r => r.held.length))

/-- FAB_ (R321, R348), by offset from 0x2_0000. -/
def readFab (s : State) (off : Nat) : W32 :=
  let f := s.fab
  if off < 0x8000 then readPort s (off / 0x800) (off % 0x800)
  else if off = 0x8000 then pack [(31, b2n f.myidV), (0, f.myid.toNat)]
  else if off = 0x8004 then pack [(0, b2n f.bank)]
  else if off = 0x8008 then pack [(12, f.w5.toNat), (8, f.w2.toNat), (4, f.w1.toNat), (0, f.w0.toNat)]
  else if off = 0x800C then f.tstat.setWidth 32
  else if off = 0x8010 then f.dups
  else if off = 0x8014 then pack [(16, f.noop.toNat), (0, f.drops.toNat)]
  else if off = 0x8018 then pack [(16, min 16 f.rules.length), (0, min 65535 (heldMsgs s))]
  else if 0x8100 ≤ off ∧ off < 0x8140 then
    let c := Tab.get Chain.init f.chains ((off - 0x8100) / 4)
    pack [(31, b2n c.v), (30, b2n c.tail), (24, c.inlink.val), (16, c.outlink.val), (0, c.chain.toNat)]
  else if 0x10000 ≤ off ∧ off < 0x18000 then
    let r := Tab.get Route.init f.routes ((off - 0x10000) / 4)
    pack [(31, b2n r.pv), (24, r.plink.val), (23, b2n r.av), (16, r.alink.val)]
  else 0

/-- GVL_ (R376), by offset from 0x4_0000. -/
def readGvl (s : State) (off : Nat) : W32 :=
  let g := s.gvl
  if off = 0x00 then pack [(31, b2n g.en), (0, b2n g.wmax)]
  else if off = 0x04 then pack [(28, g.st.code), (24, g.cause.toNat), (16, g.group.toNat), (0, b2n g.rev)]
  else if off = 0x08 then g.err.setWidth 32
  else if off = 0x0C then pack [(16, g.polinv.toNat), (0, g.lockLanes.toNat)]
  else if off = 0x10 then g.corr
  else if off = 0x14 then pack [(16, g.dropped.toNat), (0, g.replays.toNat)]
  else if off = 0x18 then g.rtt.setWidth 32
  else if off = 0x1C then BitVec.ofNat 32 g.dir.length
  else if off = 0x20 then pack [(16, g.snptmo.toNat), (0, g.poisoned.toNat)]
  else if off = 0x24 then pack [(24, g.herrFirst.toNat), (0, g.herrCount.toNat)]
  else if off = 0x28 then g.sigIval.setWidth 32
  else if off = 0x2C then BitVec.ofNat 32 g.cache.length
  else 0

/-- The kind of a ring by its index (R379). -/
def ringKind (r : Nat) : Nat := if r = 0 then 0 else if r = 1 then 1 else if r < 4 then 2 else 3

/-- The registers of ring `r` (R397). -/
def readRing (s : State) (r o : Nat) : W32 :=
  let g := getRing s r
  if o = 0x00 then g.sqdb
  else if o = 0x04 then g.cqdb
  else if o = 0x08 then g.sqhead
  else if o = 0x0C then g.cqtail
  else if o = 0x10 then
    pack ([(30, g.st.code)] ++ (match g.ctx with | none => [] | some c => [(23, 1), (19, c.val)]) ++
      [(17, ringKind r), (12, g.cqlog2.toNat), (0, g.sqlog2.toNat)])
  else if o = 0x14 then
    pack [(3, b2n g.nlost), (2, b2n g.fetcherr), (1, b2n (g.notes != [])), (0, b2n g.dberr)]
  else if o = 0x18 then pack [(16, g.lost.toNat), (0, min 65535 (g.prog.length + g.queued.length))]
  else 0

/-- MBX_ (R397), by offset from 0x5_0000. -/
def readMbx (s : State) (off : Nat) : W32 :=
  let m := s.mbx
  if off = 0x00 then 0x01400000
  else if off = 0x04 then 0x01000100
  else if off = 0x08 then m.curver.setWidth 32
  else if off = 0x10 then BitVec.ofNat 32 (m.rtbase.toNat % 2 ^ 20 * 4096)
  else if off = 0x14 then BitVec.ofNat 32 (m.rtbase.toNat / 2 ^ 20)
  else if off = 0x1C then
    pack [(4, b2n s.snuf.wheld), (3, b2n m.wdog), (2, b2n m.atterr), (1, b2n ((getRing s 0).st == .run)), (0, b2n s.lmp.en)]
  else if off = 0x20 then pack [(4, b2n m.keeper), (0, m.alive.toNat)]
  else if 0x4000 ≤ off ∧ off < 0x8000 then readRing s ((off - 0x4000) / 0x100) (off % 0x100)
  else 0

/-- SEC_ as the keeper and the application cores read it (R475), by offset from 0x6_0000. -/
def readSec (s : State) (off : Nat) : W32 :=
  let c := s.sec
  if off = 0x00 then 0x01000000
  else if off = 0x04 then pack [(28, c.state.toNat), (24, b2n c.slotB), (1, b2n c.cfgCommit), (0, b2n c.fwCommit)]
  else if off = 0x08 then c.svn
  else if off = 0x0C then pack [(31, b2n c.rngOk), (0, c.reseeds.toNat)]
  else if off = 0x10 then c.viol.setWidth 32
  else 0

/-- MGT_ (R513), by offset from 0x7_0000. -/
def readMgt (s : State) (off : Nat) : W32 :=
  let m := s.mgt
  if off = 0x00 then pack [(31, b2n m.sgmiiEn), (30, b2n m.i3c), (16, m.rate.toNat), (0, m.smbAddr.toNat)]
  else if off = 0x04 then
    pack [(4, b2n m.bus.receiver.isSome), (3, b2n m.udp.receiver.isSome), (2, b2n m.link), (1, b2n m.qovf), (0, b2n m.suppr)]
  else if off = 0x08 then pack [(8, m.udp.eid.toNat), (0, m.bus.eid.toNat)]
  else if off = 0x0C then m.nextSeq
  else if off = 0x10 then pack [(16, min 1024 m.udp.queue.length), (0, min 1024 m.bus.queue.length)]
  else if off = 0x14 then pack [(16, m.suppressed.toNat), (0, m.droppedCnt.toNat)]
  else 0

/-- The die control window (R265): an aligned offset. -/
def readDieWin (s : State) (off : Nat) : W32 :=
  if off < 0x1000 then readLmp s off
  else if off < 0x2000 then readMon s (off - 0x1000)
  else if off < 0x3000 then readChkDie s (off - 0x2000)
  else if off < 0x4000 then readScn s (off - 0x3000)
  else if off < 0x8000 then readXbr s (off - 0x4000)
  else if off < 0x10000 then readStk s (off - 0x8000)
  else if off < 0x20000 then readClk s (off - 0x10000)
  else if off < 0x40000 then readFab s (off - 0x20000)
  else if off < 0x50000 then readGvl s (off - 0x40000)
  else if off < 0x60000 then readMbx s (off - 0x50000)
  else if off < 0x70000 then readSec s (off - 0x60000)
  else if off < 0x80000 then readMgt s (off - 0x70000)
  else 0

/-! ### Effects of a read -/

/-- Reading _LO latches the high word (R534). -/
def Ctr64.latchHi (c : Ctr64) : Ctr64 := { c with latch := BitVec.ofNat 32 (c.val.toNat / 2 ^ 32) }

/-- COUNTER_LO_READ (R534). -/
def counterLatch (c : Counter) (s : State) : State :=
  match c with
  | .wckSteps l w => updWick l.val w.val (fun x => { x with steps := x.steps.latchHi }) s
  | .lntFlares l => updLan l.val (fun v => { v with flares := v.flares.latchHi }) s
  | .vecIssue l => updEng l.val (fun e => { e with issue := e.issue.latchHi }) s
  | .chkWaud l w => updWick l.val w.val (fun x => { x with waud := x.waud.latchHi }) s
  | .lmpFlicker => { s with lmp := { s.lmp with flicker := s.lmp.flicker.latchHi } }
  | .clkLtime => { s with clk := { s.clk with ltLatch := BitVec.ofNat 32 ((ltime s).toNat / 2 ^ 32) } }

/-- COUNTER_LO_READ (R534). -/
def execCounterLoRead (c : Counter) (s : State) : Host.Outcome State Fault Refusal := .next (counterLatch c s)

/-- GVL_HERR_READ (R376): COUNT clears on reading; FIRST is overwritten by the next refusal. -/
def herrRead (s : State) : State := { s with gvl := { s.gvl with herrCount := 0 } }

/-- GVL_HERR_READ (R376). -/
def execGvlHerrRead (s : State) : Host.Outcome State Fault Refusal := .next (herrRead s)

/-- The counter whose _LO register lies at an offset of a lantern's window. -/
def lanCounter (l off : Nat) : Option Counter :=
  let i := Fin.ofNat 1088 l
  if off = 0x030 then some (.lntFlares i)
  else if off = 0x4020 then some (.vecIssue i)
  else if 0x2000 ≤ off ∧ off < 0x3100 ∧ off % 0x100 = 0x028 then some (.wckSteps i (Fin.ofNat 17 ((off - 0x2000) / 0x100)))
  else if 0x6300 ≤ off ∧ off < 0x6300 + 8 * 17 ∧ off % 8 = 0 then some (.chkWaud i (Fin.ofNat 17 ((off - 0x6300) / 8)))
  else none

/-- What reading a register of the die control window does (R5, R534). -/
def dieReadEffect (off : Nat) (s : State) : State :=
  if off = 0x010 then counterLatch .lmpFlicker s
  else if off = 0x10030 then counterLatch .clkLtime s
  else if off = 0x40024 then herrRead s
  else s

/-- Bases of the lantern register windows and the die control window (R265). -/
def lanWinBase : Nat := 0xF000100000000
def dieWinBase : Nat := 0xF000200000000

/-- A register by its device address: its value and the state its reading leaves; none outside the register windows. -/
def readReg (a : Nat) (s : State) : Option (W32 × State) :=
  if lanWinBase ≤ a ∧ a < lanWinBase + 1088 * 0x10000 then
    let l := (a - lanWinBase) / 0x10000
    let off := a % 0x10000
    some (readLanWin s l off, match lanCounter l off with | none => s | some c => counterLatch c s)
  else if dieWinBase ≤ a ∧ a < dieWinBase + 0x100000 then
    let off := a - dieWinBase
    some (readDieWin s off, dieReadEffect off s)
  else none

/-- A register through the diagnostics window (R265): the image lies 0x2_0000_0000 higher, and SEC_ reads 0 there. -/
def readDiag (a : Nat) (s : State) : Option (W32 × State) :=
  if a < 0x200000000 then none
  else
    let b := a - 0x200000000
    if dieWinBase + 0x60000 ≤ b ∧ b < dieWinBase + 0x70000 then some (0, s) else readReg b s

end Sys2Proof.Machine
end

