-- ==== Sys2Proof/Machine/Garvy.lean ====
section
/-! DEFINITION. The Garvy Link (R349 to R376): its states, flits and replay, the host window, the link cache, the home
directory's messages, signals, link loss and withholding. -/

namespace Sys2Proof.Machine

/-- Change the endpoint. -/
def updGvl (f : Gvl → Gvl) (s : State) : State := { s with gvl := f s.gvl }

/-- Set a flag of GVL_ERR. -/
def gvlErr (i : Nat) (s : State) : State := updGvl (fun g => { g with err := setBit g.err i }) s

/-! ### Link down (R372) -/

/-- Poison what the companion may have modified; device writes that waited for a recall go on (R375). -/
def downEntry (s : State) (p : Nat × Option DirEnt) : State :=
  match p.2 with
  | none => s
  | some e => if e.st = .s then s else runWrites e.writes (poisonHost p.1 s)

/-- The link goes DOWN with a cause (R372): reads end with LINKDOWN, the cache is flushed, S entries are freed and X blocks
poisoned. What waits on POST is kept for the next ACTIVE. -/
def gvlDown (cause : Nat) (s : State) : State :=
  let g := s.gvl
  let posts := (g.unacked.flatMap (fun t => t.msgs)) ++ (match g.cur with | none => [] | some (vc, m, _) => [(vc, m)])
  let keep := (posts ++ g.qStream).filter (fun p => p.1 == 0)
  let rd (r : DRead) : DRead := if r.got.isNone then { r with got := some (5, []) } else r
  let s := { s with gvl := { g with
    st := .down, cause := BitVec.ofNat 4 cause, group := 0, rev := false, lockLanes := 0, polinv := 0,
    qLink := [], qSrsp := [], qSnp := [], qRsp := [], qStream := keep, credits := [], owed := [], txSeq := 0, rxSeq := 0,
    ackOwed := 0, nakOwed := false, lastNak := none, cur := none, unacked := [], replay := [], replaysSame := 0, uncorrRun := 0,
    initSent := none, exclude := none, atWmax := false, reads := g.reads.map rd, cache := [], dir := [] } }
  let s := settleWindows (g.dir.foldl downEntry s)
  sigState (ember 2 0x0B04 0 none cause (gvlErr 0 s))

/-! ### Control (R350, R351, R374) -/

/-- Enter RECOVERY from ACTIVE (R352); RETRAIN alone runs it at WMAX (R351). -/
def gvlRecover (ex : Option Bool) (atWmax : Bool) (s : State) : State :=
  if s.gvl.st = .active then gvlErr 2 (updGvl (fun g => { g with st := .recovery, exclude := ex, atWmax := atWmax }) s) else s

/-- PRST: a link down followed by DOWN (R374). -/
def gvlPrst (s : State) : State := if s.gvl.st = .disabled then s else gvlDown 9 s

/-- RETRAIN: a RECOVERY at WMAX; ignored while DOWN, with CFG_ERR (R375). -/
def gvlRetrain (s : State) : State := if s.gvl.st = .down then gvlErr 8 s else gvlRecover none true s

/-- EN: DISABLED to DETECT and back. A link that has withheld leaves WITHHELD by PRST alone (R350). -/
def gvlEnable (en : Bool) (s : State) : State :=
  let s := updGvl (fun g => { g with en := en }) s
  if en then (if s.gvl.st = .disabled then updGvl (fun g => { g with st := .detect }) s else s)
  else if s.gvl.st = .disabled ∨ s.gvl.st = .withheld then s
  else updGvl (fun g => { g with st := .disabled }) (gvlDown 1 s)

/-- A write of GVL_CTL (R376). -/
def gvlCtlWrite (v : W32) (s : State) : State :=
  let s := gvlEnable (bitAt v 31) (updGvl (fun g => { g with wmax := bitAt v 0 }) s)
  let s := if bitAt v 30 then gvlPrst s else s
  if bitAt v 29 then gvlRetrain s else s

/-- GVL_CTL_EN (R350). -/
def execGvlCtlEn (v : W32) (s : State) : Host.Outcome State Fault Refusal := .next (gvlCtlWrite v s)

/-- GVL_CTL_PRST (R374). -/
def execGvlCtlPrst (s : State) : Host.Outcome State Fault Refusal := .next (gvlPrst s)

/-- GVL_CTL_RETRAIN (R351). -/
def execGvlCtlRetrain (s : State) : Host.Outcome State Fault Refusal := .next (gvlRetrain s)

/-- GVL_CACHE_FLUSH (R367). -/
def execGvlCacheFlush (s : State) : Host.Outcome State Fault Refusal := .next (updGvl (fun g => { g with cache := [] }) s)

/-! ### Training (R350, R351) -/

/-- GVL_RECEIVER_DETECT: lanes 0 to 7 or 8 to 15 detect. -/
def execGvlReceiverDetect (s : State) : Host.Outcome State Fault Refusal :=
  .next (if s.gvl.st = .detect then updGvl (fun g => { g with st := .train }) s else s)

/-- The lanes the link takes from those that lock (R351): GROUP, or none when neither group of eight is whole. -/
def pickGroup (wmax : Bool) (good : Nat) : Option (BitVec 2) :=
  if !wmax && good == 0xFFFF then some 0
  else if good % 256 = 255 then some 1
  else if good / 256 = 255 then some 2
  else none

/-- The link runs on a group; entry to x8 is reported (R351). -/
def takeGroup (grp : BitVec 2) (good : W16) (s : State) : State :=
  let was := s.gvl.group
  let s := updGvl (fun g => { g with group := grp, lockLanes := good }) s
  if grp != 0 && was != grp then ember 1 0x0B01 grp.toNat none 0 (gvlErr 1 s) else s

/-- GVL_TRAIN_DONE (R351). -/
def trainDone (good : W16) (s : State) : State :=
  if s.gvl.st = .train then
    match pickGroup s.gvl.wmax good.toNat with
    | none => gvlDown 4 s
    | some grp => updGvl (fun g => { g with st := .lock }) (takeGroup grp good s)
  else s

/-- GVL_TRAIN_DONE (R350). -/
def execGvlTrainDone (goodLanes : W16) (s : State) : Host.Outcome State Fault Refusal := .next (trainDone goodLanes s)

/-- GVL_LOCK_DONE (R350). -/
def execGvlLockDone (polinv : W16) (rev : Bool) (s : State) : Host.Outcome State Fault Refusal :=
  .next (if s.gvl.st = .lock then
      updGvl (fun g => { g with st := .init, polinv := polinv, rev := rev, initSent := none }) s
    else s)

/-- GVL_INIT_RECEIVE (R360): the own timestamp is echoed; a difference in version or width sends the link DOWN. -/
def initReceive (version : Byte) (width : Nat) (credits : List Nat) (rtt : Nat) (s : State) : State :=
  if s.gvl.st = .init then
    if version ≠ 1 ∨ width ≠ (if s.gvl.group = 0 then 16 else 8) then gvlDown 5 s
    else
      updGvl (fun g => { g with
        credits := (withPos 0 (credits.take 6)).foldl (fun t p => Tab.set 0 t p.1 p.2) [],
        rtt := satOf 16 rtt, initSent := some (g.initSent.getD 0) }) s
  else s

/-- GVL_INIT_RECEIVE (R360). -/
def execGvlInitReceive (version : Byte) (width : Nat) (credits : List Nat) (rtt : Nat) (s : State) :
    Host.Outcome State Fault Refusal := .next (initReceive version width credits rtt s)

/-- What the rings held for the link, after a withhold: ring 0 and every ring in RUN deliver it (R373, R375). -/
def flushWithheld (s : State) : State :=
  (List.finRange 64).foldl (fun s r =>
    let g := getRing s r.val
    if g.st = .off then s
    else g.heldCpl.foldl (fun s c => postRaw r c s) (updRing r.val (fun g => { g with heldCpl := [] }) s)) s

/-- The link enters ACTIVE: held completions are delivered (R385), or the withhold that waited goes on (R375). -/
def gvlActive (s : State) : State :=
  let s := updGvl (fun g => { g with st := .active, exclude := none, atWmax := false, uncorrRun := 0, replaysSame := 0, initSent := none }) s
  if s.snuf.wheld then gvlEnterWithheld (flushWithheld s) else sigState (flushAll s)

/-- GVL_STATE_LIMIT_EXPIRY (R350). -/
def stateLimit (s : State) : State :=
  match s.gvl.st with
  | .train => gvlDown 4 s
  | .lock => gvlDown 4 s
  | .init => gvlDown 4 s
  | .recovery => gvlDown 3 s
  | _ => s

/-- GVL_STATE_LIMIT_EXPIRY (R350). -/
def execGvlStateLimitExpiry (s : State) : Host.Outcome State Fault Refusal := .next (stateLimit s)

/-- GVL_DOWN_RETRY (R350): 1 ms in DOWN has passed. -/
def execGvlDownRetry (s : State) : Host.Outcome State Fault Refusal :=
  .next (if s.gvl.st = .down then updGvl (fun g => { g with st := if g.en then .detect else .disabled }) s else s)

/-- GVL_RECOVERY_TRIGGER (R352). -/
def recoveryTrigger (c : RecovCause) (s : State) : State :=
  match c with
  | .laneErrors grp => gvlRecover (some grp) false s
  | .retrain => gvlRetrain s
  | _ => gvlRecover none false s

/-- GVL_RECOVERY_TRIGGER (R352). -/
def execGvlRecoveryTrigger (c : RecovCause) (s : State) : Host.Outcome State Fault Refusal := .next (recoveryTrigger c s)

/-- Every unacknowledged flit is sent again (R357). -/
def gvlReplay (s : State) : State :=
  if s.gvl.unacked = [] then s
  else gvlErr 3 (updGvl (fun g => { g with replay := g.unacked, replays := satInc g.replays }) s)

/-- GVL_RECOVERY_DONE (R352): the excluded lane's group is not whole. A link at x8 returns to x16 only where RETRAIN started
the RECOVERY (R351). -/
def recoveryDone (good : W16) (s : State) : State :=
  if s.gvl.st = .recovery then
    let n := match s.gvl.exclude with
      | none => good.toNat
      | some false => good.toNat / 256 * 256
      | some true => good.toNat % 256
    match pickGroup (s.gvl.wmax || (s.gvl.group != 0 && !s.gvl.atWmax)) n with
    | none => gvlDown 3 s
    | some grp => gvlActive (gvlReplay (takeGroup grp good s))
  else s

/-- GVL_RECOVERY_DONE (R352). -/
def execGvlRecoveryDone (goodLanes : W16) (s : State) : Host.Outcome State Fault Refusal := .next (recoveryDone goodLanes s)

/-- GVL_REFCLK_LOSS (R375). -/
def execGvlRefclkLoss (s : State) : Host.Outcome State Fault Refusal :=
  .next (if s.gvl.st = .disabled ∨ s.gvl.st = .down then s else gvlDown 7 s)

/-- GVL_NO_FLIT_TIMEOUT (R376). -/
def execGvlNoFlitTimeout (s : State) : Host.Outcome State Fault Refusal :=
  .next (if s.gvl.st = .active then gvlDown 6 s else s)

/-! ### Flits (R353 to R362) -/

/-- The slots of a message: header and data (R361, R362). -/
def gmsgSlots (opc : Byte) : Nat :=
  if opc = 0x05 ∨ opc = 0x07 ∨ opc = 0x32 ∨ opc = 0x42 then 17 else if opc = 0x13 ∨ opc = 0x43 then 5 else 1

/-- The channel of an opcode the companion may send (R362). -/
def compVc (opc : Byte) : Option (BitVec 3) :=
  let n := opc.toNat
  if 1 ≤ n ∧ n ≤ 4 then some 1
  else if 5 ≤ n ∧ n ≤ 9 then some 0
  else if n = 0x21 then some 3
  else if n = 0x31 ∨ n = 0x32 then some 4
  else if n = 0x41 ∨ n = 0x43 then some 2
  else if n = 0x51 then some 5
  else none

/-- A message with a wrong opcode, direction or channel is dropped (R362). -/
def checkOpc (s : State) (p : BitVec 3 × GMsg) : State :=
  if compVc p.2.opc = some p.1 then s else ember 2 0x0B05 0 none p.2.opc.toNat (gvlErr 7 s)

/-- Flits carry traffic: ACTIVE or WITHHELD. -/
def gvlFlits (s : State) : Bool := s.gvl.st == .active || s.gvl.st == .withheld

/-- An acknowledgement: flits up to it leave the replay buffer (R357). -/
def takeAck (f : GFlit) (g : Gvl) : Gvl :=
  if f.ackv then
    let k (t : GTx) : Nat := (t.num - f.ack).toNat
    let rest := g.unacked.filter (fun t => decide (0 < k t) && decide (k t < 2048))
    { g with unacked := rest, replay := g.replay.filter (fun t => decide (0 < k t) && decide (k t < 2048)),
             replaysSame := if rest.length = g.unacked.length then g.replaysSame else 0 }
  else g

/-- Returned credit (R356). -/
def takeCredit (f : GFlit) (g : Gvl) : Gvl :=
  if f.cvc.toNat < 6 then
    { g with credits := Tab.set 0 g.credits f.cvc.toNat (Tab.get 0 g.credits f.cvc.toNat + f.cred.toNat) }
  else g

/-- The sender resends; the eighth replay of one oldest flit starts a RECOVERY (R352). -/
def replayAll (s : State) : State :=
  if s.gvl.unacked = [] then s
  else
    let s := updGvl (fun g => { g with replaysSame := g.replaysSame + 1 }) (gvlReplay s)
    if 8 ≤ s.gvl.replaysSame then gvlRecover none false s else s

/-- Slots freed for the peer by the messages of a flit. -/
def addOwed (ms : List (BitVec 3 × GMsg)) (t : Tab Nat) : Tab Nat :=
  ms.foldl (fun t p => Tab.set 0 t p.1.toNat (Tab.get 0 t p.1.toNat + gmsgSlots p.2.opc)) t

/-- A DATA flit in order is taken; another is discarded and answered by NAK (R357). -/
def gvlTakeData (f : GFlit) (s : State) : State :=
  if f.type ≠ 1 then s
  else if f.seq = s.gvl.rxSeq then
    f.msgs.foldl checkOpc (updGvl (fun g => { g with rxSeq := g.rxSeq + 1, ackOwed := g.ackOwed + 1,
                                                     owed := addOwed f.msgs g.owed }) s)
  else updGvl (fun g => { g with nakOwed := true }) s

/-- A flit is dropped (R355); the sixteenth uncorrectable one in a row starts a RECOVERY (R352). -/
def gvlDropFlit (c : FlitCheck) (s : State) : State :=
  let s := updGvl (fun g => { g with dropped := satInc g.dropped, nakOwed := true,
                                     uncorrRun := if c = .uncorrectable then g.uncorrRun + 1 else 0 }) s
  if 16 ≤ s.gvl.uncorrRun then gvlRecover none false s else s

/-- GVL_FLIT_RECEIVE (R354 to R357). -/
def flitReceive (f : GFlit) (c : FlitCheck) (corr : Nat) (s : State) : State :=
  if gvlFlits s then
    if (c = .good ∨ c = .corrected) ∧ f.type.toNat ≤ 2 then
      let s := updGvl (fun g => takeCredit f (takeAck f { g with corr := satAdd g.corr corr, uncorrRun := 0 })) s
      gvlTakeData f (if f.nak then replayAll s else s)
    else gvlDropFlit c s
  else s

/-- GVL_FLIT_RECEIVE (R357). -/
def execGvlFlitReceive (f : GFlit) (c : FlitCheck) (corr : Nat) (s : State) : Host.Outcome State Fault Refusal :=
  .next (flitReceive f c corr s)

/-- GVL_REPLAY_TIMEOUT (R357). -/
def execGvlReplayTimeout (s : State) : Host.Outcome State Fault Refusal := .next (if gvlFlits s then replayAll s else s)

/-- There is credit for a message (R358). -/
def hasCredit (g : Gvl) (vc : Nat) (m : GMsg) : Bool := decide (gmsgSlots m.opc ≤ Tab.get 0 g.credits vc)

/-- The next message by R359: LINK, SRSP, SNP, RSP, then the ordered stream. -/
def nextGmsg (g : Gvl) : Option (BitVec 3 × GMsg × Gvl) :=
  let ok (q : List GMsg) (vc : Nat) : Option GMsg := q.head?.filter (hasCredit g vc)
  match ok g.qLink 5 with
  | some m => some (5, m, { g with qLink := g.qLink.drop 1 })
  | none => match ok g.qSrsp 4 with
    | some m => some (4, m, { g with qSrsp := g.qSrsp.drop 1 })
    | none => match ok g.qSnp 3 with
      | some m => some (3, m, { g with qSnp := g.qSnp.drop 1 })
      | none => match ok g.qRsp 2 with
        | some m => some (2, m, { g with qRsp := g.qRsp.drop 1 })
        | none => match g.qStream.head? with
          | none => none
          | some (vc, m) =>
            if hasCredit g vc.toNat m then some (vc, m, { g with qStream := g.qStream.drop 1 }) else none

/-- Begin the next message: its slots are charged. -/
def beginMsg (g : Gvl) : Gvl :=
  match nextGmsg g with
  | none => g
  | some (vc, m, g') =>
    let n := gmsgSlots m.opc
    { g' with credits := Tab.set 0 g'.credits vc.toNat (Tab.get 0 g'.credits vc.toNat - n), cur := some (vc, m, n) }

/-- Fill a flit's slots (R353, R358): the messages that end in it, and the slots left. -/
def fillFlit : Nat → Nat → Gvl → List (BitVec 3 × GMsg) → Gvl × List (BitVec 3 × GMsg) × Nat
  | 0, room, g, ms => (g, ms, room)
  | n + 1, room, g, ms =>
    let g := if g.cur.isNone then beginMsg g else g
    match g.cur with
    | none => (g, ms, room)
    | some (vc, m, k) =>
      if k ≤ room then fillFlit n (room - k) { g with cur := none } (ms ++ [(vc, m)])
      else ({ g with cur := some (vc, m, k - room) }, ms, 0)

/-- What a flit's header carries of acknowledgement, NAK and credit (R356, R357). -/
def flitHeader (now : Nat) (g : Gvl) : Gvl :=
  let nak := g.nakOwed && (match g.lastNak with | none => true | some t => decide (t + 1350 ≤ now))
  let g := if nak then { g with nakOwed := false, lastNak := some now } else g
  let g := { g with ackOwed := 0 }
  match g.owed.head? with
  | none => g
  | some (vc, n) => { g with owed := Tab.set 0 g.owed vc (n - 127) }

/-- GVL_FLIT_SEND (R357 to R360). -/
def flitSend (s : State) : State :=
  let g := s.gvl
  if g.st = .init then
    match g.initSent with
    | none => s
    | some n => if 16 ≤ n + 1 then gvlActive s else updGvl (fun g => { g with initSent := some (n + 1) }) s
  else if gvlFlits s then
    let g := flitHeader s.clk.aclk g
    match g.replay with
    | _ :: r => { s with gvl := { g with replay := r } }
    | [] =>
      if 512 ≤ g.unacked.length then { s with gvl := g }
      else
        let x := fillFlit 15 15 g []
        if x.2.2 = 15 then { s with gvl := x.1 }
        else { s with gvl := { x.1 with txSeq := g.txSeq + 1, unacked := g.unacked ++ [{ num := g.txSeq, msgs := x.2.1 }] } }
  else s

/-- GVL_FLIT_SEND (R357). -/
def execGvlFlitSend (s : State) : Host.Outcome State Fault Refusal := .next (flitSend s)

/-! ### The host window (R363, R364) -/

/-- A host access is refused: counted, with an ember to the named context. -/
def hostRefuse (m : GMsg) (st : Byte) (s : State) : State :=
  let s := gvlErr 4 (updGvl (fun g => { g with herrFirst := if g.herrCount = 0 then st else g.herrFirst,
                                               herrCount := satInc g.herrCount }) s)
  ember 2 0x0B02 0 (ctxIdOf s (some (Fin.ofNat 16 m.ctx.toNat))) st.toNat s

/-- The half a place lies in is behind a closed gate (R285); the host window sits beside sconce 1, in the west. -/
def hostGated (s : State) (p : Nat) : Bool := s.clk.gateE && eastSconce (sconceOfPlace p)

/-- Block number of a message. -/
def blockOf (m : GMsg) : Nat := m.addr.toNat / 256

/-- The place a host access may reach (R363, R270, R371), or the state after its refusal. -/
def hostPlace (m : GMsg) (rd wr : Bool) (s : State) : State × Option Nat :=
  let a := blockOf m * 256
  let w := Who.host m.ctx.toNat
  if m.fw then (s, none)
  else if (rd && !admits s w false a) || (wr && !admits s w true a) then (winFault s, none)
  else match placeOf s a with
    | none => (s, none)
    | some p =>
      if !placeReady s p || (decide (p < storeBase) && decide (s.clk.step < 6)) then (s, none)
      else if hostGated s p then ({ s with clk := { s.clk with gateRef := true } }, none)
      else (s, some p)

/-- Hold a companion message for a block whose recall runs (R368). -/
def holdMsg (k : Nat) (m : GMsg) (s : State) : State :=
  match dirGet s k with
  | some e => dirPut k (some { e with held := e.held ++ [m] }) s
  | none => s

/-- A recall of the block runs. -/
def recalling (s : State) (k : Nat) : Bool := match dirGet s k with | some e => e.st == .r | none => false

/-- Answer a block read. -/
def answerBlock (m : GMsg) (p : Nat) (s : State) : State :=
  let d := memRead s.mem p 256
  gvlRsp { gmsg 0x42 with tag := m.tag, ctx := m.ctx, addr := m.addr, word := crc32c d ^^^ Tab.get 0 s.mem.codes (p / 256), data := d } s

/-- Answer a read with a status; its data is of no meaning. -/
def answerStatus (opc : Nat) (m : GMsg) (st : Byte) (s : State) : State :=
  gvlRsp { gmsg opc with tag := m.tag, ctx := m.ctx, addr := m.addr, status := st } s

/-- The directory follows a shared or exclusive read (R368): a full set first recalls its oldest entry, and the request
waits for that. -/
def dirRead (m : GMsg) (st : DirSt) (p : Nat) (s : State) : State :=
  let k := blockOf m
  match dirGet s k with
  | some e => answerBlock m p (if st = .x then dirPut k (some { e with st := .x }) s else s)
  | none =>
    let es := dirSet s k
    if es.length < 16 then answerBlock m p (dirAlloc k st s)
    else
      let open_ := es.filter (fun q => q.2.st != .r)
      match minKey (fun q => q.2.order) (if open_ = [] then es else open_) with
      | none => s
      | some q => holdMsg q.1 m (dirRecall q.1 .evict s)

/-- Serve HRD, HRDS or HRDX. -/
def serveRead (m : GMsg) (s : State) : State :=
  if recalling s (blockOf m) then holdMsg (blockOf m) m s
  else
    let x := hostPlace m true (m.opc == 3) s
    match x.2 with
    | none => answerStatus 0x42 m 1 (hostRefuse m 1 x.1)
    | some p =>
      if m.opc = 2 then dirRead m .s p x.1
      else if m.opc = 3 then dirRead m .x p x.1
      else answerBlock m p x.1

/-- Serve HWR or HWB: the code is computed or checked, and the block is written (R364). A write-back frees its X entry. -/
def serveWrite (m : GMsg) (s : State) : State :=
  let k := blockOf m
  if recalling s k then holdMsg k m s
  else
    let x := hostPlace m false true s
    match x.2 with
    | none => hostRefuse m 1 x.1
    | some p =>
      let s := x.1
      let s := if (m.opc == 5 && m.cg) || m.word == crc32c m.data then { s with mem := storeBytes s.mem p m.data }
        else hostRefuse m 2 s
      match dirGet s k with
      | some e => if m.opc = 7 ∧ e.st = .x then dirPut k none s else s
      | none => s

/-- Serve HEVX or HEVS: the entry of that state is freed (R368). -/
def serveEvict (m : GMsg) (s : State) : State :=
  let k := blockOf m
  if recalling s k then holdMsg k m s
  else
    let x := hostPlace m true false s
    match x.2 with
    | none => hostRefuse m 1 x.1
    | some _ => match dirGet x.1 k with
      | some e => if (m.opc = 8 ∧ e.st = .x) ∨ (m.opc = 9 ∧ e.st = .s) then dirPut k none x.1 else x.1
      | none => x.1

/-- Serve any companion message for a block. -/
def serveMsg (s : State) (m : GMsg) : State :=
  if m.opc.toNat ≤ 3 then serveRead m s else if m.opc = 5 ∨ m.opc = 7 then serveWrite m s else serveEvict m s

/-- A read while ACTIVE is served; after a withhold it is answered WITHHELD (R373). -/
def hostRead (m : GMsg) (s : State) : State :=
  if s.gvl.st = .withheld then answerStatus 0x42 m 4 s else if s.gvl.st = .active then serveRead m s else s

/-- HRD (R363, R368). -/
def execHrd (m : GMsg) (s : State) : Host.Outcome State Fault Refusal := .next (hostRead { m with opc := 1 } s)

/-- HRDS (R368). -/
def execHrds (m : GMsg) (s : State) : Host.Outcome State Fault Refusal := .next (hostRead { m with opc := 2 } s)

/-- HRDX (R368). -/
def execHrdx (m : GMsg) (s : State) : Host.Outcome State Fault Refusal := .next (hostRead { m with opc := 3 } s)

/-- HRDR (R363, R371, R373): a register of the diagnostics window, whatever the context slot; served after a withhold too. -/
def hostRegRead (m : GMsg) (s : State) : State :=
  if gvlFlits s then
    match (if m.fw then none else readDiag m.addr.toNat s) with
    | some (v, s) => gvlRsp { gmsg 0x41 with tag := m.tag, ctx := m.ctx, addr := m.addr, word := v } s
    | none =>
      if s.gvl.st = .withheld then answerStatus 0x41 m 4 s else answerStatus 0x41 m 1 (hostRefuse m 1 s)
  else s

/-- HRDR (R363). -/
def execHrdr (m : GMsg) (s : State) : Host.Outcome State Fault Refusal := .next (hostRegRead m s)

/-- HWR (R364, R365): discarded after a withhold. -/
def execHwr (m : GMsg) (s : State) : Host.Outcome State Fault Refusal :=
  .next (if s.gvl.st = .active then serveWrite { m with opc := 5 } s else s)

/-- A write of the ring table base: ignored while ring 0 is not OFF (R397). -/
def rtbaseWrite (hi : Bool) (v : W32) (s : State) : State :=
  if (getRing s 0).st != .off then s
  else
    let n := s.mbx.rtbase.toNat
    let n := if hi then n % 2 ^ 20 + v.toNat % 2 ^ 16 * 2 ^ 20 else n / 2 ^ 20 * 2 ^ 20 + v.toNat / 2 ^ 12
    { s with mbx := { s.mbx with rtbase := BitVec.ofNat 36 n } }

/-- A doorbell register write (R363, R383, R397), or none where the address is no doorbell register. What firmware does at a
write of MBX_BOOT are MBX_ATTACH and MBX_REATTACH. -/
def doorbell (a : Nat) (v : W32) (s : State) : Option State :=
  let o := a - (dieWinBase + 0x50000)
  if a < dieWinBase + 0x50000 then none
  else if o = 0x10 then some (rtbaseWrite false v s)
  else if o = 0x14 then some (rtbaseWrite true v s)
  else if o = 0x18 then some s
  else if 0x4000 ≤ o ∧ o < 0x8000 then
    if o % 0x100 = 0 then some (sqDoorbell ((o - 0x4000) / 0x100) v s)
    else if o % 0x100 = 4 then some (cqDoorbell ((o - 0x4000) / 0x100) v s)
    else none
  else none

/-- HWRR (R363): discarded after a withhold. -/
def hostRegWrite (m : GMsg) (s : State) : State :=
  if s.gvl.st = .active then
    match (if m.fw then none else doorbell m.addr.toNat m.word s) with
    | some s => s
    | none => hostRefuse m 1 s
  else s

/-- HWRR (R363). -/
def execHwrr (m : GMsg) (s : State) : Host.Outcome State Fault Refusal := .next (hostRegWrite m s)

/-- HWB (R364, R368): accepted and discarded after a withhold. -/
def execHwb (m : GMsg) (s : State) : Host.Outcome State Fault Refusal :=
  .next (if s.gvl.st = .active then serveWrite { m with opc := 7 } s else s)

/-- HEVX (R368). -/
def execHevx (m : GMsg) (s : State) : Host.Outcome State Fault Refusal :=
  .next (if s.gvl.st = .active then serveEvict { m with opc := 8 } s else s)

/-- HEVS (R368). -/
def execHevs (m : GMsg) (s : State) : Host.Outcome State Fault Refusal :=
  .next (if s.gvl.st = .active then serveEvict { m with opc := 9 } s else s)

/-! ### Recalls end (R368, R369) -/

/-- A recall's end: device writes go on, a block read keeps a shared copy on the companion, held messages are served. -/
def recallEnd (k : Nat) (e : DirEnt) (free : Bool) (s : State) : State :=
  let s :=
    if e.why = .read ∧ !free then
      let s := dirPut k (some { e with st := .s, held := [], writes := [] }) s
      e.writes.foldl (fun s w => devWriteBlock k w s) s
    else runWrites e.writes (dirPut k none s)
  settleWindows (e.held.foldl serveMsg s)

/-- The entry whose recall carries a tag. -/
def recallOf (s : State) (tag : BitVec 12) : Option (Nat × DirEnt) :=
  s.gvl.dir.findSome? (fun p => p.2.bind (fun e => if e.st = .r ∧ e.tag = tag then some (p.1, e) else none))

/-- SACK: the companion holds nothing more. -/
def sackReceive (m : GMsg) (s : State) : State :=
  if s.gvl.st = .active then
    match recallOf s m.tag with
    | some (k, e) => recallEnd k e false s
    | none => s
  else s

/-- SACK_RECEIVE (R368). A late answer is discarded (R369). -/
def execSackReceive (m : GMsg) (s : State) : Host.Outcome State Fault Refusal := .next (sackReceive m s)

/-- SDATA: the modified block is written first, unless the device writes it; a wrong code poisons it (R364, R369). -/
def sdataReceive (m : GMsg) (s : State) : State :=
  if s.gvl.st = .active then
    match recallOf s m.tag with
    | none => s
    | some (k, e) =>
      if m.word ≠ crc32c m.data then
        recallEnd k e true (hostRefuse m 2 (poisonHost k s))
      else if e.why = .write then recallEnd k e false s
      else match placeOf s (k * 256) with
        | none => recallEnd k e false s
        | some p => recallEnd k e false { s with mem := storeBytes s.mem p m.data }
  else s

/-- SDATA_RECEIVE (R368, R369). -/
def execSdataReceive (m : GMsg) (s : State) : Host.Outcome State Fault Refusal := .next (sdataReceive m s)

/-- SNOOP_TIMEOUT (R369): the block is poisoned and the waiting device access proceeds. -/
def snoopTimeout (k : Nat) (s : State) : State :=
  match dirGet s k with
  | none => s
  | some e =>
    if e.st = .r then
      recallEnd k e true (updGvl (fun g => { g with snptmo := satInc g.snptmo }) (poisonHost k s))
    else s

/-- SNOOP_TIMEOUT (R369). -/
def execSnoopTimeout (block : Nat) (s : State) : Host.Outcome State Fault Refusal := .next (snoopTimeout block s)

/-- HOST_READ_TIMEOUT (R371): a read held for 20 µs is answered TIMEOUT. -/
def hostReadTimeout (tag : BitVec 12) (s : State) : State :=
  let isIt (m : GMsg) : Bool := m.tag == tag && decide (m.opc.toNat ≤ 3)
  match s.gvl.dir.findSome? (fun p => p.2.bind (fun e => (e.held.find? isIt).map (fun m => (p.1, e, m)))) with
  | none => s
  | some (k, e, m) => answerStatus 0x42 m 3 (dirPut k (some { e with held := e.held.filter (fun x => !isIt x) }) s)

/-- HOST_READ_TIMEOUT (R371). -/
def execHostReadTimeout (tag : BitVec 12) (s : State) : Host.Outcome State Fault Refusal := .next (hostReadTimeout tag s)

/-! ### The link cache (R366, R367) -/

/-- A whole-line read of companion memory for a thread: a hit, or DRDS on the stream (R359, R367). -/
def compRead (line : Nat) (thread : Lan × ThreadI) (s : State) : State :=
  let g := s.gvl
  match g.cache.find? (fun c => c.1 == line) with
  | some c =>
    updGvl (fun g => { g with reads := g.reads ++
      [{ tag := g.nextTag, line := line, cached := true, once := true, thread := thread, got := some (0, c.2) }] }) s
  | none =>
    if g.reads.any (fun r => r.line == line && r.thread == thread && r.got.isNone) then s
    else
      let m := { gmsg 0x12 with tag := g.nextTag, fw := true, addr := compAddr (BitVec.ofNat 64 (line * 64)) }
      gvlStream 1 m (updGvl (fun g => { g with nextTag := g.nextTag + 1, reads := g.reads ++
        [{ tag := g.nextTag, line := line, cached := true, once := false, thread := thread, got := none }] }) s)

/-- Install a line (R367): 8 ways, 2,048 sets. The manual names no victim among a full set's lines: a free choice (log 5). -/
def installLine (line : Nat) (d : List Byte) (s : State) : State :=
  let set := s.gvl.cache.filter (fun c => c.1 % 2048 == line % 2048)
  if set.any (fun c => c.1 == line) then s
  else if set.length < 8 then updGvl (fun g => { g with cache := g.cache ++ [(line, d)] }) s
  else
    let r := drawRandom s
    let v := (set.getD (r.1.toNat % 8) (line, d)).1
    updGvl (fun g => { g with cache := g.cache.filter (fun c => c.1 != v) ++ [(line, d)] }) r.2

/-- DATAL: delivered to its reader; installed unless it failed or an SNPINV crossed it (R367). -/
def datalReceive (m : GMsg) (s : State) : State :=
  if s.gvl.st = .active then
    match s.gvl.reads.find? (fun r => r.tag == m.tag && r.got.isNone) with
    | none => s
    | some r =>
      let put (x : DRead) : DRead := if x == r then { x with got := some (m.status, m.data) } else x
      let s := updGvl (fun g => { g with reads := g.reads.map put }) s
      if m.status = 0 ∧ !r.once then installLine r.line m.data s else s
  else s

/-- DATAL_RECEIVE (R367). -/
def execDatalReceive (m : GMsg) (s : State) : Host.Outcome State Fault Refusal := .next (datalReceive m s)

/-- DEVICE_READ_TIMEOUT (R366): the read completes locally with TIMEOUT. -/
def deviceReadTimeout (tag : BitVec 12) (s : State) : State :=
  if s.gvl.reads.any (fun r => r.tag == tag && r.got.isNone) then
    let put (x : DRead) : DRead := if x.tag == tag && x.got.isNone then { x with got := some (3, []) } else x
    gvlErr 6 (updGvl (fun g => { g with reads := g.reads.map put }) s)
  else s

/-- DEVICE_READ_TIMEOUT (R366). -/
def execDeviceReadTimeout (tag : BitVec 12) (s : State) : Host.Outcome State Fault Refusal := .next (deviceReadTimeout tag s)

/-- SNPINV: SACK at once; a line in S goes, and a read in flight is used once (R367). WITHHELD answers too (R373). -/
def snpinvReceive (m : GMsg) (s : State) : State :=
  if gvlFlits s then
    let line := (m.addr.toNat - 0x8000000000000) / 64
    let put (r : DRead) : DRead := if r.line == line then { r with once := true } else r
    updGvl (fun g => { g with
      cache := g.cache.filter (fun c => c.1 != line), reads := g.reads.map put,
      qSrsp := g.qSrsp ++ [{ gmsg 0x31 with tag := m.tag, addr := m.addr }] }) s
  else s

/-- SNPINV_RECEIVE (R367). -/
def execSnpinvReceive (m : GMsg) (s : State) : Host.Outcome State Fault Refusal := .next (snpinvReceive m s)

/-! ### Link messages and signals -/

/-- LSTATE_RECEIVE (R362, R376): the peer goes down or has withheld. -/
def execLstateReceive (m : GMsg) (s : State) : Host.Outcome State Fault Refusal :=
  .next (if s.gvl.st = .active ∧ (m.word = 1 ∨ m.word = 2) then gvlDown 8 s else s)

/-- SIG_INTERVAL_EXPIRY (R370): the merged signal is sent and the next interval begins, or the vector is idle. -/
def sigExpiry (v : Nat) (s : State) : State :=
  let d : SigVec := { isOpen := false, waiting := none }
  let x := Tab.get d s.gvl.sigs v
  match x.waiting with
  | none => updGvl (fun g => { g with sigs := Tab.set d g.sigs v d }) s
  | some w => gvlSendSig v w (updGvl (fun g => { g with sigs := Tab.set d g.sigs v { isOpen := true, waiting := none } }) s)

/-- SIG_INTERVAL_EXPIRY (R370). -/
def execSigIntervalExpiry (vector : Nat) (s : State) : Host.Outcome State Fault Refusal := .next (sigExpiry vector s)

end Sys2Proof.Machine
end

