-- ==== Sys2Proof/Machine/Operands.lean ====
section
/-! DEFINITION. Operand forms of the engine instructions: the fields of the word (R126), the registers of a thread (R123, R124),
the lanes a predicate guards, and the bytes of the lantern buffer an engine reaches (R102, R132, R143). -/

namespace Sys2Proof.Machine

/-! ### Fields of the instruction word (R126) -/

/-- Bits `hi` to `lo` of an instruction word. -/
def wf (w : W64) (hi lo : Nat) : Nat := w.toNat / 2 ^ lo % 2 ^ (hi + 1 - lo)
/-- CLASS. -/
def wClass (w : W64) : Nat := wf w 63 60
/-- OP. -/
def wOp (w : W64) : Nat := wf w 59 56
/-- VD. -/
def wVd (w : W64) : Nat := wf w 55 50
/-- VA. -/
def wVa (w : W64) : Nat := wf w 49 44
/-- VB. -/
def wVb (w : W64) : Nat := wf w 43 38
/-- VC. -/
def wVc (w : W64) : Nat := wf w 37 32
/-- PRED. -/
def wPred (w : W64) : Nat := wf w 31 29
/-- PNEG. -/
def wPneg (w : W64) : Bool := wf w 28 28 = 1
/-- FMT. -/
def wFmt (w : W64) : Nat := wf w 27 24
/-- IMM. -/
def wImm (w : W64) : Nat := wf w 23 0

/-! ### Registers (R123, R124) -/

/-- The engine's register that a thread's register `r` is. -/
def physReg (th : Thread) (r : Nat) : Nat := th.map.getD r 0

/-- One lane of a thread's vector register. -/
def lane (e : Engine) (th : Thread) (r i : Nat) : W32 := Tab.get 0 e.regs (physReg th r * 128 + i)

/-- The 128 lanes of a thread's vector register. -/
def vreg (e : Engine) (th : Thread) (r : Nat) : List W32 := (List.range 128).map (fun i => lane e th r i)

/-- Lane `i` is guarded on: its bit of the predicate, or the inverse with PNEG (R126). -/
def laneOn (e : Engine) (t : Nat) (w : W64) (i : Nat) : Bool :=
  ((Tab.get 0 e.preds (t * 8 + wPred w)).toNat / 2 ^ i % 2 == 1) != wPneg w

/-- The lanes an instruction writes. -/
def lanesOn (e : Engine) (t : Nat) (w : W64) : List Nat := (List.range 128).filter (fun i => laneOn e t w i)

/-- Write lanes of a thread's vector register. -/
def putLanes (th : Thread) (r : Nat) (l : List (Nat × W32)) (e : Engine) : Engine :=
  { e with regs := l.foldl (fun m p => Tab.set 0 m (physReg th r * 128 + p.1) p.2) e.regs }

/-- A scalar register of a slot. -/
def sreg (e : Engine) (t r : Nat) : W64 := Tab.get 0 e.sregs (t * 32 + r)

/-- Write a scalar register. -/
def putSreg (t r : Nat) (v : W64) (e : Engine) : Engine := { e with sregs := Tab.set 0 e.sregs (t * 32 + r) v }

/-- Write lanes of a predicate register. -/
def putPred (t r : Nat) (l : List (Nat × Bool)) (e : Engine) : Engine :=
  { e with preds := Tab.upd 0 e.preds (t * 8 + r) (fun p => l.foldl (fun p x => putBit p x.1 x.2) p) }

/-! ### Clocks of the halves (R280 to R282) -/

/-- The ACLK divider in force in a lantern's half; 3 is gated. -/
def aclkOf (s : State) (l : Nat) : Nat := if eastSconce (sconceOf l) then s.clk.acE.toNat else s.clk.acW.toNat
/-- The NCLK divider in force in a half. -/
def nclkOf (s : State) (east : Bool) : Nat := if east then s.clk.ncE.toNat else s.clk.ncW.toNat

/-! ### The lantern buffer (R102) -/

/-- Offset of the engine scratch in the buffer. -/
def scratchBase : Nat := 0x1C000
/-- Bytes of the buffer. -/
def bufSize : Nat := 0x20000

/-- One input value of a slot as the nibble that holds it (R76). -/
def nibble (x : Slot) (lpass : Bool) (i : Nat) : Nat :=
  (BitVec.ofInt 4 ((Tab.get [] x.blocks ((if lpass then 64 else 0) + i / 512)).getD (i % 512) 0)).toNat

/-- A byte of an input slot: one plane of 32,768 I4 values, then the second plane of a two-pass vector. -/
def inSlotByte (x : Slot) (o : Nat) : Byte :=
  let lp := decide (0x4000 ≤ o)
  let i := 2 * (o % 0x4000)
  BitVec.ofNat 8 (nibble x lp i + 16 * nibble x lp (i + 1))

/-- The I32 sums of an output area in order: A, then B of each fallback slice in ascending order (R102; the order is a DESIGN CHOICE,
log 131). -/
def outWords (o : OutArea) : List Int := o.a ++ o.b.flatMap (fun p => p.2)

/-- A byte of the output area where the last flare's sums lie, each an I32, little-endian. -/
def outByte (o : OutArea) (i : Nat) : Option Byte :=
  ((outWords o)[i / 4]?).map (fun x => BitVec.ofNat 8 ((BitVec.ofInt 32 x).toNat / 2 ^ (8 * (i % 4))))

/-- A byte of the lantern buffer. What the output area holds beyond the flare's sums, and the check and staging areas where nothing
was stored, the manual does not lay out: free values (log 8). -/
def bufByte (s : State) (l o : Nat) : Byte :=
  let v := getLan s l
  let free : Byte := BitVec.ofNat 8 (Config.unstated 0x12 l (BitVec.ofNat 64 o) (BitVec.ofNat 64 s.fresh)).toNat
  if scratchBase ≤ o then Tab.get 0 (getEng s l).scratch (o - scratchBase)
  else if o < 0x8000 then inSlotByte v.slot0 o
  else if o < 0x10000 then inSlotByte v.slot1 (o - 0x8000)
  else match Tab.get none v.area o with
    | some b => b
    | none => if o < 0x18000 then (v.out.bind (fun x => outByte x (o - 0x10000))).getD free else free

/-- Consecutive bytes of the lantern buffer. -/
def bufRead (s : State) (l o n : Nat) : List Byte := (List.range n).map (fun i => bufByte s l (o + i))

/-- Write one nibble of a slot's plane. -/
def putNibble (lpass : Bool) (i v : Nat) (x : Slot) : Slot :=
  let k := (if lpass then 64 else 0) + i / 512
  let v : Int := (BitVec.ofNat 4 v).toInt
  { x with blocks := Tab.upd [] x.blocks k (fun b => if b = [] then b else b.set (i % 512) v) }

/-- Write a byte of a slot: only blocks it holds change. -/
def putSlotByte (o : Nat) (b : Byte) (x : Slot) : Slot :=
  let lp := decide (0x4000 ≤ o)
  let i := 2 * (o % 0x4000)
  putNibble lp (i + 1) (b.toNat / 16) (putNibble lp i (b.toNat % 16) x)

/-- Write one byte of the lantern buffer. -/
def putBufByte (l o : Nat) (b : Byte) (s : State) : State :=
  if bufSize ≤ o then s
  else if scratchBase ≤ o then updEng l (fun e => { e with scratch := Tab.set 0 e.scratch (o - scratchBase) b }) s
  else if o < 0x8000 then updLan l (fun v => { v with slot0 := putSlotByte o b v.slot0 }) s
  else if o < 0x10000 then updLan l (fun v => { v with slot1 := putSlotByte (o - 0x8000) b v.slot1 }) s
  else updLan l (fun v => { v with area := Tab.set none v.area o (some b) }) s

/-- Write consecutive bytes of the lantern buffer. -/
def putBuf (l o : Nat) : List Byte → State → State
  | [], s => s
  | b :: t, s => putBuf l (o + 1) t (putBufByte l o b s)

/-- Bytes of the buffer a thread may read: a customer kernel's SCRATCH bytes, the output area and the input slots (R143); a
supplied kernel's, the whole buffer. -/
def bufReadable (t : Nat) (th : Thread) (o n : Int) : Bool :=
  decide (0 ≤ o) && (if t < 8 then decide (o + n ≤ bufSize)
    else decide (o + n ≤ 0x18000) || (decide ((scratchBase : Int) ≤ o) && decide (o + n ≤ scratchBase + th.scratch)))

/-- Bytes of the buffer a thread may write: a customer kernel's SCRATCH bytes alone. -/
def bufWritable (t : Nat) (th : Thread) (o n : Int) : Bool :=
  if t < 8 then decide (0 ≤ o) && decide (o + n ≤ bufSize)
  else decide ((scratchBase : Int) ≤ o) && decide (o + n ≤ scratchBase + th.scratch)

end Sys2Proof.Machine
end

