-- ==== Sys2Proof/Machine/Flags.lean ====
section
/-! DEFINITION. The flags engine instructions raise: RANGE and NONFINITE of a lane's result (R78 to R80, R129), where they are
noted (R150, R240), and integer results that saturate (R78). -/

namespace Sys2Proof.Machine

/-- Note an instruction's flags: VEC_STAT.NONFIN, and the ledger of the request its thread works for. -/
def noteFlags (l t : Nat) (f : FFlags) (s : State) : State :=
  match threadAt s l t with
  | none => s
  | some th =>
    let s := if f.nonfin then updEng l (fun e => { e with stat := setBit e.stat 0 }) s else s
    if (f.nonfin || f.range) && th.inst != 0 then
      updRel th.ctx.val th.inst (fun r => { r with ledger := ledFlags f r.ledger }) s
    else s

/-- A saturated integer result of `n` bits in a lane, with RANGE where it was replaced (R78). -/
def satLane (n : Nat) (x : Int) : W32 × FFlags :=
  let r := narrowInt n (.fin (decide (x < 0)) ⟨x, 0⟩)
  (BitVec.ofInt 32 r.1, r.2)

/-- A NaN operand sets NONFINITE (R129). -/
def nanFlag (l : List W32) : FFlags := ⟨false, l.any isNan⟩

end Sys2Proof.Machine
end

