-- ==== Sys2Proof/Machine/Issue.lean ====
section
/-! DEFINITION. Issue of an engine instruction (R125, R126): which events a thread takes, illegal words, the residue and
register checks (R134, R148), and the advance of the thread's counter. -/

namespace Sys2Proof.Machine

/-! ### Threads of supplied kernels -/

/-- The request a supplied thread works for: that of the flare in progress on its lantern. -/
def threadRequest (s : State) (c l : Nat) : W32 × W32 :=
  match (getLctx s c).runs.find? (fun r => r.lans.any (fun q => q.2.1.val == l)) with
  | some r => (r.req.reqtag, r.req.inst)
  | none => (0, 0)

/-- The registers a thread with `n` fields in use declares: the least of 8, 16, 32 and 64 that covers them (R124). -/
def declaredFor (n : Nat) : Nat := if n ≤ 8 then 8 else if n ≤ 16 then 16 else if n ≤ 32 then 32 else 64

/-- A supplied kernel's thread takes a slot with its first instruction, and holds the registers its instructions name so far: the
manual does not give the counts the supplied kernels declare (DESIGN CHOICE, log 134). Where the pool has no room the instruction
waits. -/
def supplyThread (l t need : Nat) (s : State) : State :=
  match ownerOfLan s l with
  | none => s
  | some c =>
    let e := getEng s l
    let n := declaredFor need
    match threadAt s l t with
    | none =>
      let regs := (freeRegs e t).take n
      if regs.length = n then
        let q := threadRequest s c.val l
        let th : Thread := { ctx := c, inv := none, vregs := n, map := regs, scratch := 0x4000, pc := 0, wait := .run, loads := [],
                             rerun := false, reqtag := q.1, inst := q.2 }
        setEng l { e with threads := Tab.set none e.threads t (some th), icache := [] } s
      else s
    | some th =>
      let more := (freeRegs e t).take (n - th.vregs)
      if th.vregs < n ∧ more.length = n - th.vregs then
        updThread l t (fun th => { th with vregs := n, map := th.map ++ more }) s
      else s

/-! ### Outcomes of an issued instruction -/

/-- The thread goes on to its next instruction. -/
def advance (l t : Nat) (s : State) : State := updThread l t (fun th => { th with pc := th.pc + 8 }) s

/-- A fault of a thread (R147, R151). A supplied kernel's thread, of which the manual says nothing here, is recorded and ends. -/
def threadFault (l t cause : Nat) (s : State) : State :=
  if t < 8 then endThread l t (recordFault l t cause s) else customerFault l t cause s

/-- A supplied kernel, or a customer kernel on a request's path, fails (R148): it runs again from its held inputs, and a second
failure withholds. -/
def kernelRerun (l t : Nat) (s : State) : State :=
  match threadAt s l t with
  | none => s
  | some th =>
    if th.rerun then withhold 0x03 l s
    else updThread l t (fun th => { th with rerun := true, pc := 0, wait := .run, loads := [] }) s

/-- A check event of a request (R134): the position's chain is no longer clean and one more doubt is counted as resolved, once the kernel
has ended clean; the ledger has no other place for it (DEDUCED, log 132). -/
def checkEvent (th : Thread) (s : State) : State :=
  if th.inst = 0 then s
  else if (getLctx s th.ctx.val).runs.any (fun r => r.req.inst == th.inst) then
    let f (r : FlareRun) : FlareRun := { r with clean := false, resolved := r.resolved + 1 }
    updLctx th.ctx.val (fun x => { x with runs := updIf (fun r => r.req.inst == th.inst) f x.runs }) s
  else
    let g (a : Act) : Act := { a with clean := false, resolved := a.resolved + 1 }
    updCtx th.ctx.val (fun x => { x with acts := updIf (fun a => a.msg.hdr.inst == th.inst) g x.acts }) s

/-- A residue mismatch or an uncorrectable register error stops the thread (R134, R148). -/
def engineError (l t : Nat) (res : Bool) (s : State) : State :=
  let s := updEng l (fun e => if res then { e with stat := setBit e.stat 5 }
    else { e with stat := setBit e.stat 4, eccUnc := satInc e.eccUnc }) s
  match threadAt s l t with
  | none => s
  | some th => if th.inv.isSome && th.inst == 0 then customerFault l t 6 s else kernelRerun l t (checkEvent th s)

/-- A corrected register error counts (R148, R150). -/
def eccCorrected (l : Nat) (s : State) : State :=
  updEng l (fun e => { e with stat := setBit e.stat 3, eccCor := satInc e.eccCor }) s

/-- Which 256 ACLK it is. -/
def dutyNow (s : State) : Nat := s.clk.aclk / 256

/-- The engine may issue another vector instruction in this 256 ACLK: at most DUTY + 1 (R137). -/
def dutyRoom (s : State) (l : Nat) : Bool :=
  let e := getEng s l
  e.dutyWin != dutyNow s || decide (e.dutyCnt ≤ s.pwr.duty.toNat)

/-- A vector instruction is counted (R137, R150). -/
def countIssue (l : Nat) (s : State) : State :=
  let w := dutyNow s
  updEng l (fun e => { e with issue := e.issue.inc, dutyWin := w, dutyCnt := if e.dutyWin = w then e.dutyCnt + 1 else 1 }) s

/-! ### Issue -/

/-- What one operation of a class needs: vector registers it names, scalar and predicate registers it names, formats it takes
(none: any), whether its IMM is one it takes, and whether it is a vector instruction. -/
structure Form where
  vec : List Nat
  scal : List Nat
  pred : List Nat
  fmts : List Nat
  immOk : Bool
  vector : Bool
deriving DecidableEq, Repr

/-- The instruction is illegal for a thread (R126, R151); format code 0xF is reserved (R73). -/
def illegalForm (th : Thread) (w : W64) (f : Form) : Bool :=
  f.vec.any (fun r => decide (th.vregs ≤ r)) || f.scal.any (fun r => decide (32 ≤ r)) || f.pred.any (fun r => decide (8 ≤ r)) ||
    decide (wFmt w = 0xF) || (f.fmts != [] && !f.fmts.contains (wFmt w)) || !f.immOk

/-- An operand is the destination of an outstanding load: the instruction waits (R125). -/
def operandBusy (th : Thread) (f : Form) : Bool := th.loads.any (fun a => a.writes == [] && f.vec.contains a.vd)

/-- A thread may issue now: no withhold, its half's ACLK runs (R282), it does not wait, and a customer thread needs CUST_EN
(R150). -/
def mayIssue (s : State) (l t : Nat) (th : Thread) : Bool :=
  !s.snuf.wheld && aclkOf s l != 3 && th.wait == .run && (decide (t < 8) || (getEng s l).custEn)

/-- A check found nothing that stops the instruction: residue checks stand in classes 0x1 to 0x4 alone (R134). -/
def chkStops (w : W64) (k : RegChk) : Bool :=
  k == .uncorrectable || (k == .residue && decide (1 ≤ wClass w) && decide (wClass w ≤ 4))

/-- Issue one instruction of a class: `ops` are the operations the event stands for, `count` how many the class has. A word of
another class or of another event's operation is not this instruction; an OP the class does not list is illegal (R126). -/
def issue (l : Lan) (t : ThreadI) (w : W64) (cls count : Nat) (ops : List Nat) (f : Form) (k : RegChk)
    (body : Thread → State → State) (s : State) : State :=
  if wClass w ≠ cls ∨ s.snuf.wheld then s
  else
    let need := (f.vec.foldl max 0) + 1
    let s := if t.val < 8 then supplyThread l.val t.val need s else s
    match threadAt s l.val t.val with
    | none => s
    | some th =>
      if !mayIssue s l.val t.val th || (f.vector && !dutyRoom s l.val) || (decide (t.val < 8) && decide (th.vregs < need)) then s
      else if count ≤ wOp w then threadFault l.val t.val 3 s
      else if !ops.contains (wOp w) then s
      else if illegalForm th w f then threadFault l.val t.val 3 s
      else if operandBusy th f then s
      else
        let s := if f.vector then countIssue l.val s else s
        if chkStops w k then engineError l.val t.val (k == .residue) s
        else body th (if k == .corrected then eccCorrected l.val s else s)

end Sys2Proof.Machine
end

