-- ==== Sys2Proof/Machine/VecCmds.lean ====
section
/-! DEFINITION. The control and arithmetic classes of the vector engines (R127 to R131): control, float, dot products, integer,
convert, compare, reduce, special functions and the hadamard unit. -/

namespace Sys2Proof.Machine

/-- Write the guarded lanes of VD with each lane's result, note the flags and go on. -/
def laneResult (l t : Nat) (w : W64) (th : Thread) (f : Nat → W32 × FFlags) (s : State) : State :=
  let e := getEng s l
  let rs := (lanesOn e t w).map (fun i => (i, f i))
  let s := updEng l (putLanes th (wVd w) (rs.map (fun p => (p.1, p.2.1)))) s
  advance l t (noteFlags l t (flagsOf (rs.map (fun p => p.2))) s)

/-- An operation whose result the manual does not state for these operands: a free value (log 8). -/
def freeLane (w : W64) (a b : W32) : W32 :=
  BitVec.ofNat 32 (Config.unstated (wClass w) (wOp w) w (a ++ b)).toNat

/-! ### Control (class 0x0) -/

/-- Branch and loop: the manual gives neither target nor condition; the counter's next value is a free multiple of 8 of the word, the
counter, the predicate and the scalar registers the word names (log 8). -/
def freePc (e : Engine) (t : Nat) (w : W64) (th : Thread) : W32 :=
  let p := (Tab.get 0 e.preds (t * 8 + wPred w)).toNat
  BitVec.ofNat 32 ((Config.unstated 0 (w.toNat + 2 ^ 64 * (th.pc.toNat + 2 ^ 32 * p)) (sreg e t (wVa w % 32)) (sreg e t (wVb w % 32))).toNat / 8 * 8)

/-- The last thread of an invocation is gone: its command completes (R142), with OK_EMPTY where its flares were empty queries alone
(R57). -/
def invDone (id : Nat) (s : State) : State :=
  match s.invs.find? (fun v => v.id == id) with
  | none => s
  | some v =>
    let live := v.lans.any (fun l => (threadsOf (getEng s l.val)).any (fun p => p.2.inv == some id))
    if live || !v.waiting.isEmpty then s
    else
      let s := stopInv id s
      match v.cmd with
      | none => s
      | some d => if v.empty = some true then finish d 1 s else if d.outlen = 0 then finish d 0 s else finishFree d s

/-- Exit: the slot and its registers are free, and a waiting thread takes them. -/
def threadExit (l : Lan) (t : Nat) (th : Thread) (s : State) : State :=
  let s := startWaiting l (endThread l.val t s)
  match th.inv with
  | none => s
  | some id => invDone id s

/-- Operations 0 branch, 1 loop, 2 exit, 3 barrier, 4 scalar arithmetic. -/
def doControl (l : Lan) (t : ThreadI) (w : W64) (s : State) : State :=
  let op := wOp w
  let f : Form := { vec := [], scal := if op = 4 then [wVd w, wVa w, wVb w] else [], pred := [], fmts := [], immOk := true,
                    vector := false }
  issue l t w 0 5 [0, 1, 2, 3, 4] f .clean (fun th s =>
    if op ≤ 1 then updThread l.val t.val (fun x => { x with pc := freePc (getEng s l.val) t.val w th }) s
    else if op = 2 then threadExit l t.val th s
    else if op = 3 then (if th.loads = [] then advance l.val t.val s else s)
    else
      let e := getEng s l.val
      let v := Config.unstated 0 w.toNat (sreg e t.val (wVa w)) (sreg e t.val (wVb w))
      advance l.val t.val (updEng l.val (putSreg t.val (wVd w) v) s)) s

/-- VEC_CONTROL (R127, R259). -/
def execVecControl (l : Lan) (t : ThreadI) (w : W64) (s : State) : Host.Outcome State Fault Refusal := .next (doControl l t w s)

/-! ### Float (class 0x1) -/

/-- The lesser or greater of two numbers. The manual states no result for a NaN or for two zeros of unlike sign (log 8). -/
def fpick (w : W64) (greater : Bool) (a b : W32) : W32 :=
  if isNan a || isNan b || (feq a b && a != b) then freeLane w a b
  else if flt a b then (if greater then b else a) else (if greater then a else b)

/-- Operations 0 FMA, 1 MUL, 2 ADD, 3 MIN, 4 MAX (R128). -/
def floatLane (w : W64) (a b c : W32) : W32 × FFlags :=
  let op := wOp w
  if op = 0 then ffma a b c
  else if op = 1 then fmul a b
  else if op = 2 then fadd a b
  else (fpick w (op = 4) a b, FFlags.none)

/-- The form of a lane operation with two or three vector sources. -/
def laneForm (w : W64) (three : Bool) (fmts : List Nat) : Form :=
  { vec := [wVd w, wVa w, wVb w] ++ (if three then [wVc w] else []), scal := [], pred := [], fmts := fmts, immOk := true,
    vector := true }

/-- A lane operation on VA, VB and VC. -/
def laneBody (l : Lan) (t : ThreadI) (w : W64) (f : W32 → W32 → W32 → W32 × FFlags) (th : Thread) (s : State) : State :=
  let e := getEng s l.val
  laneResult l.val t.val w th (fun i => f (lane e th (wVa w) i) (lane e th (wVb w) i) (lane e th (wVc w) i)) s

/-- Float operations on FP32 lanes. -/
def doFloat (l : Lan) (t : ThreadI) (w : W64) (k : RegChk) (s : State) : State :=
  issue l t w 1 5 [0, 1, 2, 3, 4] (laneForm w (wOp w = 0) [0xB]) k (laneBody l t w (floatLane w)) s

/-- VEC_FLOAT (R128). -/
def execVecFloat (l : Lan) (t : ThreadI) (w : W64) (chk : RegChk) (s : State) : Host.Outcome State Fault Refusal :=
  .next (doFloat l t w chk s)

/-! ### Dot products (classes 0x2 and 0x3) -/

/-- Element `j` of `n` bits of a lane. -/
def elem (n j : Nat) (v : W32) : Nat := v.toNat / 2 ^ (n * j) % 2 ^ n

/-- The exact sum of a lane's products and its accumulator, rounded once (R128). -/
def dotLane (f : FFmt) (n k : Nat) (a b c : W32) : W32 × FFlags :=
  toFp ((List.range k).foldl (fun x j => x.add ((f.decode (elem n j a)).mul (f.decode (elem n j b)))) (fp c))

/-- DOT2 on BF16 or FP16. -/
def doDot2 (l : Lan) (t : ThreadI) (w : W64) (k : RegChk) (s : State) : State :=
  issue l t w 2 1 [0] (laneForm w true [0x9, 0xA]) k
    (laneBody l t w (dotLane (if wFmt w = 0x9 then fBF16 else fFP16) 16 2)) s

/-- VEC_DOT2 (R128). -/
def execVecDot2 (l : Lan) (t : ThreadI) (w : W64) (chk : RegChk) (s : State) : Host.Outcome State Fault Refusal :=
  .next (doDot2 l t w chk s)

/-- The exact I8 dot product and its accumulator, saturated (R78, R128). -/
def idotLane (a b c : W32) : W32 × FFlags :=
  let x (v : W32) (j : Nat) : Int := (BitVec.ofNat 8 (elem 8 j v)).toInt
  satLane 32 ((List.range 4).foldl (fun z j => z + x a j * x b j) c.toInt)

/-- Operations 0 DOT4 on E4M3 or E5M2, 1 IDOT4 on I8. -/
def doDot4 (l : Lan) (t : ThreadI) (w : W64) (k : RegChk) (s : State) : State :=
  if wOp w = 1 then issue l t w 3 2 [0, 1] (laneForm w true [0x4]) k (laneBody l t w idotLane) s
  else issue l t w 3 2 [0, 1] (laneForm w true [0x7, 0x8]) k
    (laneBody l t w (dotLane (if wFmt w = 0x7 then fE4M3 else fE5M2) 8 4)) s

/-- VEC_DOT4 (R128). -/
def execVecDot4 (l : Lan) (t : ThreadI) (w : W64) (chk : RegChk) (s : State) : Host.Outcome State Fault Refusal :=
  .next (doDot4 l t w chk s)

/-! ### Integer (class 0x4) -/

/-- Operations 0 ADD, 1 SUB, 2 MUL, 3 SHL, 4 SHR, 5 AND, 6 OR, 7 XOR on I32 or I24. Results saturate and never wrap (R78). The
manual states no result for a shift count outside 0 to 31 or for the right shift of a negative number (log 8). -/
def intLane (w : W64) (a b : W32) : W32 × FFlags :=
  let n := if wFmt w = 0xC then 24 else 32
  let x : Int := (a.setWidth n).toInt
  let y : Int := (b.setWidth n).toInt
  let op := wOp w
  let bits (v : W32) : W32 × FFlags := (BitVec.ofInt 32 (v.setWidth n).toInt, FFlags.none)
  if op = 0 then satLane n (x + y)
  else if op = 1 then satLane n (x - y)
  else if op = 2 then satLane n (x * y)
  else if op = 3 then (if 0 ≤ y ∧ y < 32 then satLane n (x * 2 ^ y.toNat) else (freeLane w a b, FFlags.none))
  else if op = 4 then (if 0 ≤ y ∧ y < 32 ∧ 0 ≤ x then satLane n (x / 2 ^ y.toNat) else (freeLane w a b, FFlags.none))
  else if op = 5 then bits (a &&& b)
  else if op = 6 then bits (a ||| b)
  else bits (a ^^^ b)

/-- Integer operations. -/
def doInteger (l : Lan) (t : ThreadI) (w : W64) (k : RegChk) (s : State) : State :=
  issue l t w 4 8 [0, 1, 2, 3, 4, 5, 6, 7] (laneForm w false [0xC, 0xD]) k (laneBody l t w (fun a b _ => intLane w a b)) s

/-- VEC_INTEGER (R127). -/
def execVecInteger (l : Lan) (t : ThreadI) (w : W64) (chk : RegChk) (s : State) : Host.Outcome State Fault Refusal :=
  .next (doInteger l t w chk s)

/-! ### Convert (class 0x5) -/

/-- Formats of the convert class: all but W1, W2T and I3 (R127). -/
def cvtFmts : List Nat := [0x3, 0x4, 0x5, 0x6, 0x7, 0x8, 0x9, 0xA, 0xB, 0xC, 0xD, 0xE]

/-- Width in bits of an element in a register's lanes: I24 lies in a 32-bit container (R74), and an S40 mantissa is 32 bits
(R98). -/
def laneWidth (c : Nat) : Nat := if c = 0xE then 32 else memWidth c

/-- The exponent of an S40 conversion: IMM bits 15 to 8 (DESIGN CHOICE, log 35). -/
def s40Exp (w : W64) : Int := intBits 8 (wImm w / 256)

/-- The value of an element in a lane. -/
def laneVal (w : W64) (c v : Nat) : Fp := if c = 0xE then (Fp.fin false ⟨intBits 32 v, s40Exp w⟩) else fmtDecode c v

/-- A value narrowed for a lane (R78, R80, R98): the element in its container and the flags. -/
def laneNarrow (w : W64) (c : Nat) (x : Fp) : Nat × FFlags :=
  if c = 0xE then
    let r := narrowInt 32 (x.shift (s40Exp w))
    ((BitVec.ofInt 32 r.1).toNat, r.2)
  else
    let r := fmtNarrow c x
    (container c r.1, r.2)

/-- CVT of one lane: from the format in IMM bits 3 to 0 to that in FMT. -/
def cvtLane (w : W64) (a : W32) : W32 × FFlags :=
  let from_ := wImm w % 16
  let r := laneNarrow w (wFmt w) (laneVal w from_ (a.toNat % 2 ^ laneWidth from_))
  (BitVec.ofNat 32 r.1, r.2)

/-- Bits `hi` down to `lo` of 128 lanes as one string, lane 0 lowest (R76). -/
def laneBits (v : List W32) (lo n : Nat) : Nat :=
  let k := lo / 32
  let two := (v.getD k 0).toNat + (v.getD (k + 1) 0).toNat * 2 ^ 32
  two / 2 ^ (lo % 32) % 2 ^ n

/-- Put 128 elements of `n` bits side by side from bit 0 upward, as 4 × `n` lanes (R76). -/
def packLanes (n : Nat) (es : List Nat) : List W32 :=
  let total := (withPos 0 es).foldl (fun x p => x + p.2 * 2 ^ (n * p.1)) 0
  (List.range (4 * n)).map (fun i => BitVec.ofNat 32 (total / 2 ^ (32 * i)))

/-- The part of a register that PACK fills and UNPACK reads: IMM bits 7 to 0. -/
def packPart (w : W64) : Nat := wImm w % 256

/-- PACK narrows VA's 128 FP32 lanes to FMT and puts the elements into part IMM of VD. -/
def packBody (l : Lan) (t : ThreadI) (w : W64) (th : Thread) (s : State) : State :=
  let e := getEng s l.val
  let n := laneWidth (wFmt w)
  let rs := (vreg e th (wVa w)).map (fun v => laneNarrow w (wFmt w) (fp v))
  let out := packLanes n (rs.map (fun r => r.1))
  let put := ((withPos (packPart w * 4 * n) out).filter (fun p => laneOn e t.val w p.1))
  let fl := rs.foldl (fun f r => f.or r.2) FFlags.none
  advance l.val t.val (noteFlags l.val t.val fl (updEng l.val (putLanes th (wVd w) put) s))

/-- UNPACK widens 128 elements of FMT from part IMM of VA to FP32 lanes of VD. -/
def unpackLane (w : W64) (v : List W32) (i : Nat) : W32 × FFlags :=
  let n := laneWidth (wFmt w)
  toFp (laneVal w (wFmt w) (laneBits v (packPart w * 128 * n + n * i) n))

/-- Operations 0 CVT, 1 PACK, 2 UNPACK. -/
def doConvert (l : Lan) (t : ThreadI) (w : W64) (k : RegChk) (s : State) : State :=
  let imm := if wOp w = 0 then cvtFmts.contains (wImm w % 16) else decide ((packPart w + 1) * laneWidth (wFmt w) ≤ 32)
  let f : Form := { vec := [wVd w, wVa w], scal := [], pred := [], fmts := cvtFmts, immOk := imm, vector := true }
  issue l t w 5 3 [0, 1, 2] f k (fun th s =>
    let e := getEng s l.val
    if wOp w = 0 then laneResult l.val t.val w th (fun i => cvtLane w (lane e th (wVa w) i)) s
    else if wOp w = 1 then packBody l t w th s
    else laneResult l.val t.val w th (unpackLane w (vreg e th (wVa w))) s) s

/-- VEC_CONVERT (R78, R127). -/
def execVecConvert (l : Lan) (t : ThreadI) (w : W64) (chk : RegChk) (s : State) : Host.Outcome State Fault Refusal :=
  .next (doConvert l t w chk s)

/-! ### Compare (class 0x6) -/

/-- One lane's comparison: which relation an instruction asks for is not stated, so its truth is a free value of the word and the
two operands (log 8). -/
def cmpLane (w : W64) (a b : W32) : Bool := (freeLane w a b).toNat % 2 = 1

/-- Operations 0 CMP and 2 CMPI write the guarded lanes of predicate register VD; 1 SEL takes VA where the predicate guards a lane
and VB elsewhere. CMPI compares with IMM in place of VB. -/
def doCompare (l : Lan) (t : ThreadI) (w : W64) (k : RegChk) (s : State) : State :=
  let f : Form :=
    if wOp w = 1 then laneForm w false [0xB, 0xD]
    else { vec := if wOp w = 0 then [wVa w, wVb w] else [wVa w], scal := [], pred := [wVd w], fmts := [0xB, 0xD], immOk := true,
           vector := true }
  issue l t w 6 3 [0, 1, 2] f k (fun th s =>
    let e := getEng s l.val
    if wOp w = 1 then
      let v := (List.range 128).map (fun i =>
        (i, if laneOn e t.val w i then lane e th (wVa w) i else lane e th (wVb w) i))
      advance l.val t.val (updEng l.val (putLanes th (wVd w) v) s)
    else
      let y (i : Nat) : W32 := if wOp w = 0 then lane e th (wVb w) i else BitVec.ofNat 32 (wImm w)
      let v := (lanesOn e t.val w).map (fun i => (i, cmpLane w (lane e th (wVa w) i) (y i)))
      advance l.val t.val (updEng l.val (putPred t.val (wVd w) v) s)) s

/-- VEC_COMPARE (R127). -/
def execVecCompare (l : Lan) (t : ThreadI) (w : W64) (chk : RegChk) (s : State) : Host.Outcome State Fault Refusal :=
  .next (doCompare l t w chk s)

/-! ### Reduce (class 0x7) -/

/-- The greater or lesser of two FP32 values with a NaN below every number (R129); two zeros of unlike sign are a free choice
(log 8). -/
def rankPick (w : W64) (greater : Bool) (a b : W32) : W32 × FFlags :=
  let high := if isNan a then b else a
  (if isNan a && isNan b then 0x7FC00000
   else if isNan a || isNan b then (if greater then high else 0x7FC00000)
   else fpick w greater a b, FFlags.none)

/-- One step of a reduction: operations 0 RSUM, 1 RMAX, 2 RMIN on FP32 or I32. -/
def redStep (w : W64) (a b : W32) : W32 × FFlags :=
  let op := wOp w
  if wFmt w = 0xB then (if op = 0 then fadd a b else rankPick w (op = 1) a b)
  else if op = 0 then satLane 32 (a.toInt + b.toInt)
  else if op = 1 then (if a.toInt < b.toInt then b else a, FFlags.none)
  else (if b.toInt < a.toInt then b else a, FFlags.none)

/-- The result over all 128 lanes goes to the guarded lanes of VD. -/
def doReduce (l : Lan) (t : ThreadI) (w : W64) (k : RegChk) (s : State) : State :=
  let f : Form := { vec := [wVd w, wVa w], scal := [], pred := [], fmts := [0xB, 0xD], immOk := true, vector := true }
  issue l t w 7 3 [0, 1, 2] f k (fun th s =>
    let v := vreg (getEng s l.val) th (wVa w)
    let r := pairwise (redStep w) 7 v
    let fl := if wFmt w = 0xB then r.2.or (nanFlag v) else r.2
    laneResult l.val t.val w th (fun _ => (r.1, fl)) s) s

/-- VEC_REDUCE (R129). -/
def execVecReduce (l : Lan) (t : ThreadI) (w : W64) (chk : RegChk) (s : State) : Host.Outcome State Fault Refusal :=
  .next (doReduce l t w chk s)

/-! ### Special functions (class 0x8) -/

/-- Operations 0 EXP, 1 EXP2, 2 LOG2, 3 RCP, 4 RSQRT, 5 TANH, 6 SIGMOID, 7 SILU: within 2 ulp (log 6). -/
def doSpecial (l : Lan) (t : ThreadI) (w : W64) (k : RegChk) (s : State) : State :=
  let f : Form := { vec := [wVd w, wVa w], scal := [], pred := [], fmts := [0xB], immOk := true, vector := true }
  issue l t w 8 8 [0, 1, 2, 3, 4, 5, 6, 7] f k (fun th s =>
    let e := getEng s l.val
    laneResult l.val t.val w th (fun i => special (wOp w) (lane e th (wVa w) i)) s) s

/-- VEC_SPECIAL (R130). -/
def execVecSpecial (l : Lan) (t : ThreadI) (w : W64) (chk : RegChk) (s : State) : Host.Outcome State Fault Refusal :=
  .next (doSpecial l t w chk s)

/-! ### The hadamard unit (class 0x9) -/

/-- A block of 2,048 elements in 16 registers from `r` up. -/
def hadBlock (e : Engine) (th : Thread) (r : Nat) : List W32 := (List.range 16).flatMap (fun k => vreg e th (r + k))

/-- Write a block into 16 registers from `r` up. -/
def putBlockRegs (th : Thread) (r : Nat) (v : List W32) (e : Engine) : Engine :=
  (List.range 16).foldl (fun e k => putLanes th (r + k) (withPos 0 ((v.drop (k * 128)).take 128)) e) e

/-- The rotation of the block in VA to VA + 15, by the seed in scalar register VB and the block index in the low half of VC; u to
VD to VD + 15. NaN and infinite elements go in as +0 (R84). -/
def rotated (l t : Nat) (w : W64) (th : Thread) (s : State) : List W32 × FFlags :=
  let e := getEng s l
  rotBlock (sreg e t (wVb w)) ((sreg e t (wVc w)).toNat % 2 ^ 32) (hadBlock e th (wVa w))

/-- The form of ROT and ROTL1. -/
def rotForm (w : W64) : Form :=
  { vec := (List.range 16).flatMap (fun k => [wVd w + k, wVa w + k]), scal := [wVb w, wVc w], pred := [], fmts := [0xB], immOk := true,
    vector := true }

/-- ROT. -/
def doRot (l : Lan) (t : ThreadI) (w : W64) (k : RegChk) (s : State) : State :=
  issue l t w 9 2 [0] (rotForm w) k (fun th s =>
    let r := rotated l.val t.val w th s
    advance l.val t.val (noteFlags l.val t.val r.2 (updEng l.val (putBlockRegs th (wVd w) r.1) s))) s

/-- ROT (R85, R86, R131). -/
def execRot (l : Lan) (t : ThreadI) (w : W64) (chk : RegChk) (s : State) : Host.Outcome State Fault Refusal := .next (doRot l t w chk s)

/-- ROTL1: also L_s by adjacent pairs in 11 levels, and T_s with the CLIPK in the high half of scalar VC; scalar register VC takes
L_s in its low half and T_s in its high half. -/
def doRotl1 (l : Lan) (t : ThreadI) (w : W64) (k : RegChk) (s : State) : State :=
  issue l t w 9 2 [1] (rotForm w) k (fun th s =>
    let r := rotated l.val t.val w th s
    let clipk : W32 := BitVec.ofNat 32 ((sreg (getEng s l.val) t.val (wVc w)).toNat / 2 ^ 32)
    let ls := sliceL1 r.1
    let ts := clipT clipk ls.1
    let s := updEng l.val (fun e => putSreg t.val (wVc w) (ts.1 ++ ls.1) (putBlockRegs th (wVd w) r.1 e)) s
    advance l.val t.val (noteFlags l.val t.val ((r.2.or ls.2).or ts.2) s)) s

/-- ROTL1 (R85, R86, R88, R131). -/
def execRotl1 (l : Lan) (t : ThreadI) (w : W64) (chk : RegChk) (s : State) : Host.Outcome State Fault Refusal :=
  .next (doRotl1 l t w chk s)

end Sys2Proof.Machine
end

