-- ==== Sys2Proof/Machine/EngineCmds.lean ====
section
/-! DEFINITION. The remaining classes of the vector engines: gather, top-k, memory, transfer, fire and privileged (R127, R132 to
R136, R143, R144, R162), the responses of memory (R225, R287), and what stops customer kernels (R147, R151). -/

namespace Sys2Proof.Machine

/-! ### Gather and scatter (class 0xA) -/

/-- Bytes of an element. -/
def elemBytes (w : W64) : Nat := if wFmt w = 0xB ∨ wFmt w = 0xD ∨ wFmt w = 0xC then 4 else 1

/-- The buffer offset of a lane's element: IMM plus its I32 index times the element's bytes. -/
def elemAddr (w : W64) (ix : W32) : Int := (wImm w : Int) + ix.toInt * (elemBytes w : Int)

/-- Formats of 8 and 32 bits. -/
def gatherFmts : List Nat := [0x4, 0x7, 0x8, 0xB, 0xC, 0xD]

/-- GATHER: each guarded lane of VD takes the element its lane of VA indexes. A supplied kernel's index outside the buffer gives a
free value (log 8). -/
def doGather (l : Lan) (t : ThreadI) (w : W64) (k : RegChk) (s : State) : State :=
  let f : Form := { vec := [wVd w, wVa w], scal := [], pred := [], fmts := gatherFmts, immOk := true, vector := true }
  issue l t w 0xA 2 [0] f k (fun th s =>
    let e := getEng s l.val
    let n := elemBytes w
    let on := (lanesOn e t.val w).map (fun i => (i, elemAddr w (lane e th (wVa w) i)))
    if decide (8 ≤ t.val) && on.any (fun p => !bufReadable t.val th p.2 n) then threadFault l.val t.val 2 s
    else
      let v := on.map (fun p => (p.1,
        if bufReadable t.val th p.2 n then (BitVec.ofNat 32 (ofLe (bufRead s l.val p.2.toNat n)) : W32)
        else freeLane w (BitVec.ofInt 32 p.2) 0))
      advance l.val t.val { updEng l.val (putLanes th (wVd w) v) s with fresh := s.fresh + 1 }) s

/-- GATHER (R132). -/
def execGather (l : Lan) (t : ThreadI) (w : W64) (chk : RegChk) (s : State) : Host.Outcome State Fault Refusal :=
  .next (doGather l t w chk s)

/-- SCATTER: each guarded lane of VB goes to the element its lane of VA indexes, in lane order: the higher lane's value stays. -/
def doScatter (l : Lan) (t : ThreadI) (w : W64) (k : RegChk) (s : State) : State :=
  let f : Form := { vec := [wVa w, wVb w], scal := [], pred := [], fmts := gatherFmts, immOk := true, vector := true }
  issue l t w 0xA 2 [1] f k (fun th s =>
    let e := getEng s l.val
    let n := elemBytes w
    let on := (lanesOn e t.val w).map (fun i => (elemAddr w (lane e th (wVa w) i), lane e th (wVb w) i))
    if decide (8 ≤ t.val) && on.any (fun p => !bufWritable t.val th p.1 n) then threadFault l.val t.val 2 s
    else
      let on := on.filter (fun p => bufWritable t.val th p.1 n)
      advance l.val t.val (on.foldl (fun s p => putBuf l.val p.1.toNat (leBytes n p.2.toNat) s) s)) s

/-- SCATTER (R132). -/
def execScatter (l : Lan) (t : ThreadI) (w : W64) (chk : RegChk) (s : State) : Host.Outcome State Fault Refusal :=
  .next (doScatter l t w chk s)

/-! ### Top-k (class 0xB) -/

/-- Candidate `a` ranks before `b` by value: codes smallest first, FP32 largest first with a NaN below every number (R129, R133). -/
def tkAhead (small : Bool) (a b : W32) : Bool :=
  if small then decide (a.toNat % 512 < b.toNat % 512) else (isNan b && !isNan a) || flt b a

/-- The rank order (R133): equal values by lower index, an index being an I32 (DESIGN CHOICE, log 135). -/
def tkBefore (small : Bool) (a b : W32 × W32) : Bool :=
  tkAhead small a.1 b.1 || (!tkAhead small b.1 a.1 && decide (a.2.toInt < b.2.toInt))

/-- Put a candidate in its place. -/
def tkInsert (small : Bool) (x : W32 × W32) : List (W32 × W32) → List (W32 × W32)
  | [] => [x]
  | y :: r => if tkBefore small x y then x :: y :: r else y :: tkInsert small x r

/-- TKPUSH: with IMM bit 23 it first clears the unit for k in IMM bits 6 to 0, ranking codes where bit 22 is set; then the guarded
lanes of VA are candidates, with the indices in VB. -/
def doTkpush (l : Lan) (t : ThreadI) (w : W64) (k : RegChk) (s : State) : State :=
  let clear := decide (0x800000 ≤ wImm w)
  let f : Form := { vec := [wVa w, wVb w], scal := [], pred := [], fmts := [], immOk := !clear || decide (wImm w % 128 ≤ 64),
                    vector := true }
  issue l t w 0xB 2 [0] f k (fun th s =>
    let e := getEng s l.val
    let e := if clear then { e with tkK := wImm w % 128, tkSmall := decide (0x400000 ≤ wImm w % 0x800000), tkList := [] } else e
    let on := (lanesOn e t.val w).map (fun i => (lane e th (wVa w) i, lane e th (wVb w) i))
    let kept := (on.foldl (fun q x => tkInsert e.tkSmall x q) e.tkList).take e.tkK
    let fl := if e.tkSmall then FFlags.none else nanFlag (on.map (fun p => p.1))
    advance l.val t.val (noteFlags l.val t.val fl (setEng l.val { e with tkList := kept } s))) s

/-- TKPUSH (R133). -/
def execTkpush (l : Lan) (t : ThreadI) (w : W64) (chk : RegChk) (s : State) : Host.Outcome State Fault Refusal :=
  .next (doTkpush l t w chk s)

/-- TKPOP: the candidates in rank order, values to the lanes of VD from 0 and indices to those of VC; the unit is empty after. -/
def doTkpop (l : Lan) (t : ThreadI) (w : W64) (s : State) : State :=
  let f : Form := { vec := [wVd w, wVc w], scal := [], pred := [], fmts := [], immOk := true, vector := true }
  issue l t w 0xB 2 [1] f .clean (fun th s =>
    let e := getEng s l.val
    let q := withPos 0 e.tkList
    let e := putLanes th (wVc w) (q.map (fun p => (p.1, p.2.2))) (putLanes th (wVd w) (q.map (fun p => (p.1, p.2.1))) e)
    advance l.val t.val (setEng l.val { e with tkList := [] } s)) s

/-- TKPOP (R133). -/
def execTkpop (l : Lan) (t : ThreadI) (w : W64) (s : State) : Host.Outcome State Fault Refusal := .next (doTkpop l t w s)

/-! ### Memory accesses (class 0xC) -/

/-- A device address lies in companion memory (R366). -/
def isCompanion (a : Nat) : Bool := decide (0x8000000000000 ≤ a) && decide (a < 0x9000000000000)

/-- The half a block's access goes to; the Garvy Link lies at the west crossbar (R280). -/
def targetHalf (s : State) (a : Nat) : Bool :=
  match placeOf s a with
  | some p => eastSconce (sconceOfPlace p)
  | none => false

/-- The seam gate into a half is closed (R285). -/
def gateClosed (s : State) (east : Bool) : Bool := if east then s.clk.gateE else s.clk.gateW

/-- The crossing an access enters, if it leaves its half. -/
def crossOf (s : State) (l a : Nat) : Option Bool :=
  let h := targetHalf s a
  if h = eastSconce (sconceOf l) then none else some h

/-- The checks at issue of one block, in order: window (R268), populated address (R265), seam gate (R285), stack (R270). The answer
is the fault cause of a refused access. -/
def checkBlock (l t : Nat) (th : Thread) (write : Bool) (a : Nat) (s : State) : State × Option Nat :=
  if (isCompanion a && decide (8 ≤ t)) || !admits s (.thread th.ctx.val (decide (t < 8))) write a then (winFault s, some 1)
  else if !isCompanion a && (placeOf s a).isNone then (s, some 7)
  else match crossOf s l a with
    | some h =>
      if gateClosed s h then ({ s with clk := { s.clk with gateRef := true } }, some 9)
      else (s, if (placeOf s a).all (placeReady s) then none else some 7)
    | none => (s, if (placeOf s a).all (placeReady s) then none else some 7)

/-- Check the blocks of an access in order. -/
def checkBlocks (l t : Nat) (th : Thread) (write : Bool) : List Nat → State → State × Option Nat
  | [], s => (s, none)
  | a :: r, s =>
    let x := checkBlock l t th write a s
    if x.2.isSome then x else checkBlocks l t th write r x.1

/-- The block address an instruction names: scalar VA plus IMM, both without their low 8 bits. -/
def accessAddr (e : Engine) (t : Nat) (w : W64) : Nat :=
  ((sreg e t (wVa w)).toNat / 256 * 256 + wImm w / 256 * 256) % 2 ^ 52

/-- Its blocks: one, or two with IMM bit 0. -/
def accessBlocks (w : W64) : Nat := 1 + wImm w % 2

/-- It names the lantern's own buffer: IMM bit 1. -/
def accessBuf (w : W64) : Bool := wImm w / 2 % 2 = 1

/-- The block addresses of an access. -/
def blockAddrs (a n : Nat) : List Nat := (List.range n).map (fun i => a + 256 * i)

/-- Guarded lanes as a mask. -/
def maskOn (e : Engine) (t : Nat) (w : W64) : BitVec 128 := BitVec.ofNat 128 (maskOf (lanesOn e t w))

/-- The generation of a crossing (R287). -/
def crossGen (s : State) (c : Option Bool) : BitVec 2 :=
  match c with
  | none => 0
  | some east => if east then s.clk.genE else s.clk.genW

/-- The seam links of the blocks of an access: block number modulo 8 (R256). -/
def seamLinks (a n : Nat) : List Nat := (blockAddrs a n).map (fun b => b / 256 % 8)

/-- The pseudo-channels and block positions that an access's blocks lie at in their stacks (R266). -/
def chansOf (s : State) (a n : Nat) : List (Nat × Nat) :=
  (blockAddrs a n).filterMap (fun b => (placeOf s b).bind (fun p => if p < storeBase then some (channelOf p) else none))

/-- A new access of a thread. -/
def newAccess (s : State) (l a vd n : Nat) (mask : BitVec 128) (ws : List DevWrite) (retried err : Bool) : Access :=
  let c := if err then none else crossOf s l a
  { addr := a, vd := vd, blocks := n, mask := mask, cross := c, seam := if c.isSome then seamLinks a n else [],
    chans := chansOf s a n, gen := crossGen s c, retried := retried, err := err, writes := ws }

/-- An access is outstanding. -/
def addLoad (l t : Nat) (x : Access) (s : State) : State := updThread l t (fun th => { th with loads := th.loads ++ [x] }) s

/-- The companion lines of an access. -/
def linesOf (a n : Nat) : List Nat := (List.range (4 * n)).map (fun i => a % 2 ^ 48 / 64 + i)

/-- A load starts: the link reads companion lines, and the directory recalls a modified copy (R367, R368). -/
def startLoad (l : Lan) (t : ThreadI) (a n : Nat) (s : State) : State :=
  if isCompanion a then (linesOf a n).foldl (fun s k => compRead k (l, t) s) s
  else (blockAddrs a n).foldl (fun s b => devReadBlock (b / 256) s) s

/-- The guarded lanes of loaded words. -/
def loadLanes (mask : BitVec 128) (ws : List W32) : List (Nat × W32) :=
  (withPos 0 ws).filter (fun p => mask.toNat / 2 ^ p.1 % 2 == 1)

/-- The form of a memory access. -/
def memForm (w : W64) (v : Nat) (immOk : Bool) : Form :=
  { vec := [v], scal := [wVa w], pred := [], fmts := [], immOk := immOk, vector := true }

/-- LOAD (R135): from the lantern's buffer at once; else the access is checked and goes out. A refused access stops a customer
thread; a supplied kernel takes its error completion as a failed block (R287). -/
def doLoad (l : Lan) (t : ThreadI) (w : W64) (s : State) : State :=
  issue l t w 0xC 3 [0] (memForm w (wVd w) true) .clean (fun th s =>
    let e := getEng s l.val
    let n := accessBlocks w
    if accessBuf w then
      let o := accessAddr e t.val w
      if bufReadable t.val th o (256 * n : Nat) then
        let v := loadLanes (maskOn e t.val w) (wordsOf (bufRead s l.val o (256 * n)))
        advance l.val t.val { updEng l.val (putLanes th (wVd w) v) s with fresh := s.fresh + 1 }
      else threadFault l.val t.val 1 s
    else
      let a := accessAddr e t.val w
      let r := checkBlocks l.val t.val th false (blockAddrs a n) s
      match r.2 with
      | some c =>
        if t.val < 8 then
          advance l.val t.val (addLoad l.val t.val (newAccess r.1 l.val a (wVd w) n (maskOn e t.val w) [] false true) r.1)
        else customerFault l.val t.val c r.1
      | none =>
        advance l.val t.val (startLoad l t a n
          (addLoad l.val t.val (newAccess r.1 l.val a (wVd w) n (maskOn e t.val w) [] false false) r.1))) s

/-- LOAD (R135). -/
def execLoad (l : Lan) (t : ThreadI) (w : W64) (s : State) : Host.Outcome State Fault Refusal := .next (doLoad l t w s)

/-- A thread has an access outstanding to one of these blocks: a later one to the same block waits for it (R259). -/
def blockBusy (th : Thread) (a n : Nat) : Bool :=
  th.loads.any (fun x => (blockAddrs x.addr x.blocks).any (fun b => (blockAddrs a n).contains b))

/-- The writes of the guarded lanes of a register: lane `i` to word `i`. -/
def laneWrites (s : State) (e : Engine) (t : Nat) (th : Thread) (w : W64) (op : Option Nat) (a n : Nat) : List DevWrite :=
  (List.range (64 * n)).filterMap (fun i =>
    if laneOn e t w i then
      (placeOf s (a + 4 * i)).map (fun p => { place := p, op := op, data := leBytes 4 (lane e th (wVb w) i).toNat,
                                                   req := if th.inst = 0 then none else some (th.ctx, th.inst) })
    else none)

/-- Memory writes go out, each through the directory at its block (R368). -/
def putWrites (s : State) (a : Nat) (ws : List DevWrite) : State :=
  ws.foldl (fun s d => match (blockAddrs a 2).find? (fun b => placeOf s b == some (d.place / 256 * 256)) with
    | some b => devWriteBlock (b / 256) d s
    | none => s) s

/-- A companion store writes whole lines, each with at least one guarded lane (R366). -/
def storeLines (e : Engine) (t : Nat) (th : Thread) (w : W64) (a n : Nat) (s : State) : State :=
  (List.range (4 * n)).foldl (fun s i =>
    if (List.range 16).any (fun j => laneOn e t w (16 * i + j)) then
      gvlWriteLine (BitVec.ofNat 64 ((a + 64 * i) % 2 ^ 48))
        ((List.range 16).flatMap (fun j => leBytes 4 (lane e th (wVb w) (16 * i + j)).toNat)) s
    else s) s

/-- A store or atomic on memory, its checks passed or not. One that crosses into a half whose NCLK is gated hangs in the crossing
(R258). -/
def sendWrites (l : Lan) (t : ThreadI) (w : W64) (th : Thread) (op : Option Nat) (s : State) : State :=
  let e := getEng s l.val
  let n := accessBlocks w
  let a := accessAddr e t.val w
  let ws := laneWrites s e t.val th w op a n
  if blockBusy th a n then s
  else
    let r := checkBlocks l.val t.val th true (blockAddrs a n) s
    match r.2 with
    | some c =>
      if t.val < 8 then
        advance l.val t.val (addLoad l.val t.val (newAccess r.1 l.val a 64 n 0 ws false true) r.1)
      else customerFault l.val t.val c r.1
    | none =>
      if isCompanion a then advance l.val t.val (storeLines e t.val th w a n r.1)
      else if (crossOf r.1 l.val a).any (fun h => nclkOf r.1 h == 3) then
        advance l.val t.val (addLoad l.val t.val (newAccess r.1 l.val a 64 n 0 ws false false) r.1)
      else advance l.val t.val (putWrites r.1 a ws)

/-- STORE of VB (R135): whole blocks with a fresh code; lanes the predicate leaves out keep their bytes. -/
def doStore (l : Lan) (t : ThreadI) (w : W64) (k : RegChk) (s : State) : State :=
  issue l t w 0xC 3 [1] (memForm w (wVb w) true) k (fun th s =>
    let e := getEng s l.val
    if accessBuf w then
      let o := accessAddr e t.val w
      let n := accessBlocks w
      if bufWritable t.val th o (256 * n : Nat) then
        advance l.val t.val ((List.range (64 * n)).foldl (fun s i =>
          if laneOn e t.val w i then putBuf l.val (o + 4 * i) (leBytes 4 (lane e th (wVb w) i).toNat) s else s) s)
      else threadFault l.val t.val 1 s
    else sendWrites l t w th none s) s

/-- STORE (R135). -/
def execStore (l : Lan) (t : ThreadI) (w : W64) (chk : RegChk) (s : State) : Host.Outcome State Fault Refusal :=
  .next (doStore l t w chk s)

/-- ATOMIC (R136): the lanes of VB on I32 words of the shared store; IMM bits 4 to 2 name ADD, MIN, MAX, AND and OR as 0 to 4. -/
def doAtomic (l : Lan) (t : ThreadI) (w : W64) (k : RegChk) (s : State) : State :=
  let op := wImm w / 4 % 8
  issue l t w 0xC 3 [2] (memForm w (wVb w) (decide (op ≤ 4) && !accessBuf w)) k (fun th s =>
    let e := getEng s l.val
    let a := accessAddr e t.val w
    if (placeOf s a).all (fun p => decide (p < storeBase)) then threadFault l.val t.val 1 s
    else sendWrites l t w th (some op) s) s

/-- ATOMIC (R136). -/
def execAtomic (l : Lan) (t : ThreadI) (w : W64) (chk : RegChk) (s : State) : Host.Outcome State Fault Refusal :=
  .next (doAtomic l t w chk s)

/-! ### Responses (R225, R287) -/

/-- Change a thread's accesses. -/
def updLoads (l t : Nat) (f : List Access → List Access) (s : State) : State :=
  updThread l t (fun th => { th with loads := f th.loads }) s

/-- What a memory's ECC found is counted where the block lies (R264, R273). -/
def noteEcc (p : Nat) (x : EccRes) (s : State) : State :=
  let n := sconceOfPlace p
  match x with
  | .clean => s
  | .corrected =>
    if p < storeBase then updStk n (fun k => { k with cor := satInc k.cor, stat := setBit k.stat 2 }) s
    else updScn n (fun k => { k with cor := satInc k.cor }) s
  | .uncorrectable =>
    if p < storeBase then updStk n (fun k => { k with unc := satInc k.unc, stat := setBit k.stat 3 }) s
    else updScn n (fun k => { k with unc := satInc k.unc }) s

/-- The second fetch of a block resolved its failure (R225). -/
def loadResolved (l : Nat) (th : Thread) (s : State) : State :=
  checkEvent th (blockRetried (sconceOf l) (ctxIdOf s (some th.ctx)) s)

/-- The companion lines of an access that have arrived: none while one is awaited; else whether all are good, and the data. -/
def compData (s : State) (l : Lan) (t : ThreadI) (x : Access) : Option (Bool × List Byte) :=
  let got := (linesOf x.addr x.blocks).map (fun k =>
    (s.gvl.reads.find? (fun r => r.line == k && r.thread == (l, t) && r.got.isSome)).bind (fun r => r.got))
  if got.any (fun g => g.isNone) then none
  else some (got.all (fun g => g.any (fun q => q.1 == 0)), got.flatMap (fun g => match g with | some q => q.2 | none => []))

/-- Their records are taken. -/
def compTake (l : Lan) (t : ThreadI) (x : Access) (s : State) : State :=
  updGvl (fun g => { g with reads := g.reads.filter (fun r =>
    !(r.thread == (l, t) && (linesOf x.addr x.blocks).contains r.line)) }) s

/-- Both halves' crossbars run, where an access passes through them (R258). -/
def pathRuns (s : State) (l : Nat) (x : Access) : Bool :=
  nclkOf s (eastSconce (sconceOf l)) != 3 && x.cross.all (fun h => nclkOf s h != 3)

/-- A block failed (R225, R135, R148): a second fetch; then a shadow block is restored while the thread waits, a CTX.KRUN thread
stops, and anything else withholds. -/
def loadFailed (l : Lan) (t : ThreadI) (n : Nat) (th : Thread) (x : Access) (shadow : Option (W32 × W32)) (s : State) : State :=
  if !x.retried then
    let r := checkBlocks l.val t.val th (x.writes != []) (blockAddrs x.addr x.blocks) s
    let y := newAccess r.1 l.val x.addr x.vd x.blocks x.mask x.writes true r.2.isSome
    let s := updLoads l.val t.val (fun q => q.set n y) r.1
    if r.2.isNone && x.writes == [] then startLoad l t x.addr x.blocks s else s
  else match shadow.bind (fun k => (findShard s th.ctx.val k.1 k.2).map (fun h => (k.1, h))) with
    | some k => rehashBad th.ctx.val k.1 k.2 (updShard th.ctx.val k.1 k.2.ent.shard (fun h => { h with rehash := true }) (blockTwice s))
    | none =>
      if th.inv.isSome then customerFault l.val t.val 7 (blockTwice s)
      else blockLost l.val s

/-- A load's data enters its register. -/
def loadGood (l : Lan) (t : ThreadI) (n : Nat) (th : Thread) (x : Access) (d : List Byte) (s : State) : State :=
  let s := updEng l.val (putLanes th x.vd (loadLanes x.mask (wordsOf d))) s
  let s := updLoads l.val t.val (fun q => q.eraseIdx n) s
  if x.retried then loadResolved l.val th s else s

/-- A memory block of a load arrives with its check (R223). -/
def loadArrive (l : Lan) (t : ThreadI) (n : Nat) (th : Thread) (x : Access) (ecc : EccRes) (bad : Bool)
    (shadow : Option (W32 × W32)) (s : State) : State :=
  let bs := blockAddrs x.addr x.blocks
  let ps := bs.filterMap (placeOf s)
  if bs.any (fun b => !devReadable s (b / 256)) then s
  else
    let s := match ps.head? with | none => s | some p => noteEcc p ecc s
    let ok := !bad && ecc != .uncorrectable && ps.length == x.blocks && ps.all (fun p => codeGood s.mem p && placeReady s p)
    if ok then loadGood l t n th x (ps.flatMap (fun p => memRead s.mem p 256)) s
    else loadFailed l t n th x shadow s

/-- LOAD_DATA_RETURN: the response to a thread's outstanding access. -/
def loadReturn (l : Lan) (t : ThreadI) (n : Nat) (ecc : EccRes) (bad : Bool) (shadow : Option (W32 × W32)) (s : State) : State :=
  match threadAt s l.val t.val with
  | none => s
  | some th => match th.loads[n]? with
    | none => s
    | some x =>
      if s.snuf.wheld then s
      else if x.err then loadFailed l t n th x none s
      else if !pathRuns s l.val x then s
      else if x.writes ≠ [] then updLoads l.val t.val (fun q => q.eraseIdx n) (putWrites s x.addr x.writes)
      else if isCompanion x.addr then
        match compData s l t x with
        | none => s
        | some d =>
          let s := compTake l t x s
          if d.1 && !bad then loadGood l t n th x d.2 s else loadFailed l t n th x none s
      else loadArrive l t n th x ecc bad shadow s

/-- LOAD_DATA_RETURN (R225). -/
def execLoadDataReturn (l : Lan) (t : ThreadI) (n : Nat) (ecc : EccRes) (bad : Bool) (shadow : Option (W32 × W32)) (s : State) :
    Host.Outcome State Fault Refusal := .next (loadReturn l t n ecc bad shadow s)

/-! ### The seam hang watchdog (R287) -/

/-- The accesses of one thread that a crossing's flush ends: a customer thread stops with cause 0x9, and a supplied kernel's
become error completions. -/
def flushThread (east : Bool) (s : State) (p : Nat × Nat) : State :=
  match threadAt s p.1 p.2 with
  | none => s
  | some th =>
    if th.loads.any (fun a => a.cross == some east && !a.err) then
      if 8 ≤ p.2 then customerFault p.1 p.2 9 s
      else updLoads p.1 p.2 (fun q => updIf (fun a => a.cross == some east) (fun a => { a with err := true, cross := none }) q) s
    else s

/-- The threads of all engines, by lantern and slot. -/
def allThreads (s : State) : List (Nat × Nat) := s.engs.flatMap (fun p => (threadsOf p.2).map (fun q => (p.1, q.1)))

/-- The crossing into a half is flushed. -/
def seamHang (east : Bool) (s : State) : State :=
  if inflOf s east = 0 then s
  else
    let s := (allThreads s).foldl (flushThread east) s
    let k := s.clk
    let k := { k with hangs := k.hangs + 1 }
    let k := if east then { k with genE := k.genE + 1 } else { k with genW := k.genW + 1 }
    let s := { s with clk := k, xbr := { s.xbr with stat := setBit s.xbr.stat 2 } }
    ember 2 0x0801 (if east then 1 else 0) none k.hangs.toNat s

/-- SEAM_HANG_WATCHDOG (R287). -/
def execSeamHangWatchdog (east : Bool) (s : State) : Host.Outcome State Fault Refusal := .next (seamHang east s)

/-! ### Transfer (class 0xD) -/

/-- The lantern a SEND names: scalar VA. -/
def sendTarget (e : Engine) (t : Nat) (w : W64) : Nat := (sreg e t (wVa w)).toNat % 1088

/-- SEND puts VB on the crossbar for another engine. A customer kernel reaches engines of its own context alone (R143). -/
def doSend (l : Lan) (t : ThreadI) (w : W64) (k : RegChk) (s : State) : State :=
  let f : Form := { vec := [wVb w], scal := [wVa w], pred := [], fmts := [0xD, 0xE], immOk := true, vector := true }
  issue l t w 0xD 2 [0] f k (fun th s =>
    let e := getEng s l.val
    let to_ := sendTarget e t.val w
    let h := eastSconce (sconceOf to_)
    if ownerOfLan s to_ ≠ some th.ctx ∧ 8 ≤ t.val then threadFault l.val t.val 1 s
    else if h ≠ eastSconce (sconceOf l.val) ∧ gateClosed s h then
      let s := { s with clk := { s.clk with gateRef := true } }
      if 8 ≤ t.val then customerFault l.val t.val 9 s else s
    else
      advance l.val t.val (updEng to_ (fun e' => { e' with inbox := e'.inbox ++ [vreg e th (wVb w)] }) s)) s

/-- SEND (R127). -/
def execSend (l : Lan) (t : ThreadI) (w : W64) (chk : RegChk) (s : State) : Host.Outcome State Fault Refusal :=
  .next (doSend l t w chk s)

/-- RECV takes the oldest data sent to this engine into VD; it is not issued while there is none (R125). -/
def doRecv (l : Lan) (t : ThreadI) (w : W64) (s : State) : State :=
  match (getEng s l.val).inbox with
  | [] => s
  | d :: r =>
    let f : Form := { vec := [wVd w], scal := [], pred := [], fmts := [0xD, 0xE], immOk := true, vector := true }
    issue l t w 0xD 2 [1] f .clean (fun th s =>
      let e := getEng s l.val
      let v := (withPos 0 d).filter (fun p => laneOn e t.val w p.1)
      advance l.val t.val (setEng l.val (putLanes th (wVd w) v { e with inbox := r }) s)) s

/-- RECV (R127). -/
def execRecv (l : Lan) (t : ThreadI) (w : W64) (s : State) : Host.Outcome State Fault Refusal := .next (doRecv l t w s)

/-! ### Fire (class 0xE) -/

/-- The flare a FIRE submits: a customer's follows the direct path (R144). -/
def fireReq (l : Lan) (t : ThreadI) (th : Thread) (f : FireArg) (s : State) : FlareReq :=
  { cls := f.cls.val, reqtag := th.reqtag, inst := th.inst, tindex := f.tindex, part := f.part, lans := f.lans, vec := f.vec,
    daylight := f.daylight, epoch := f.epoch, enq := nowF s, seq := 0, lan := l, thread := t, marks := [] }

/-- Every lantern of a flare serves the context (R144). -/
def ownFlare (s : State) (c : CtxI) (ls : List LLan) : Bool :=
  ls.all (fun ll => (getScn s (sconceOfL ll.val)).owner == some c && (lanOf s ll.val).isSome)

/-- FIRE: the flare enters its context's queue, or stalls its thread while the queue is full (R162). It waits out a freeze
(R148). -/
def doFire (l : Lan) (t : ThreadI) (w : W64) (f : FireArg) (s : State) : State :=
  let g : Form := { vec := [], scal := [], pred := [], fmts := [0x3, 0x4], immOk := true, vector := false }
  issue l t w 0xE 2 [0] g .clean (fun th s =>
    if s.lmp.frozen then s
    else if !ownFlare s th.ctx f.lans then threadFault l.val t.val 1 s
    else
      let r := fireReq l t th f s
      let s := advance l.val t.val s
      if (getLctx s th.ctx.val).queue.length < 64 then enqueueFlare th.ctx.val r s
      else
        updThread l.val t.val (fun th => { th with wait := .fireFull r }) { s with lmp := { s.lmp with stat := setBit s.lmp.stat 4 } }) s

/-- FIRE (R162). -/
def execFire (l : Lan) (t : ThreadI) (w : W64) (f : FireArg) (s : State) : Host.Outcome State Fault Refusal := .next (doFire l t w f s)

/-- WAITF: the thread waits until its flares have completed; it waits out a freeze (R148). -/
def doWaitf (l : Lan) (t : ThreadI) (w : W64) (s : State) : State :=
  let g : Form := { vec := [], scal := [], pred := [], fmts := [], immOk := true, vector := false }
  issue l t w 0xE 2 [1] g .clean (fun th s =>
    if s.lmp.frozen then s
    else
      let x := getLctx s th.ctx.val
      let mine (q : FlareReq) : Bool := q.lan == l && q.thread == t
      let s := advance l.val t.val s
      if x.queue.any mine || x.refire.any mine || x.runs.any (fun r => mine r.req) || x.tails.any (fun r => mine r.req) then
        updThread l.val t.val (fun th => { th with wait := .flare }) s
      else s) s

/-- WAITF (R127). -/
def execWaitf (l : Lan) (t : ThreadI) (w : W64) (s : State) : Host.Outcome State Fault Refusal := .next (doWaitf l t w s)

/-! ### Privileged (class 0xF) -/

/-- The audit copy of a lantern whose marked flare holds its slot (R103, R227): the copy is taken and the mark met. -/
def auditNow (c l : Nat) (s : State) : State :=
  match (getLctx s c).runs.find? (fun r => r.marks.any (fun d => d.val == l) &&
      r.lans.any (fun q => q.2.1.val == l && (getSlot (getLan s l) q.2.2).st == .held)) with
  | none => s
  | some r => match r.lans.find? (fun q => q.2.1.val == l) with
    | none => s
    | some q =>
      let copy := auditCopy s c r q.1.val l q.2.2
      updRun c r.id (fun r => { r with marks := r.marks.filter (fun d => d.val != l) })
        (updLan l (fun v => { v with audits := v.audits ++ [copy], openMarks := v.openMarks - 1 }) s)

/-- Full windows of input moments go to the trim engine (R111). -/
def handOff (l : Nat) (s : State) : State :=
  (List.range 16).foldl (fun s k => if 65536 ≤ Tab.get 0 (getLan s l).momSteps k then momentEnd l k s else s) s

/-- Class 0xF: operations 0 output-area release (R102), 1 trim hand-off of full windows (R111; DESIGN CHOICE, log 133), 2 audit copy
(R227); a customer kernel stops with cause 0x4 (R143). -/
def doPrivileged (l : Lan) (t : ThreadI) (w : W64) (s : State) : State :=
  let g : Form := { vec := [], scal := [], pred := [], fmts := [], immOk := true, vector := false }
  if 8 ≤ t.val then
    match threadAt s l.val t.val with
    | none => s
    | some th => if wClass w = 0xF && mayIssue s l.val t.val th then customerFault l.val t.val 4 s else s
  else issue l t w 0xF 3 [0, 1, 2] g .clean (fun th s => advance l.val t.val
    (if wOp w = 0 then updLan l.val (fun v => { v with out := none }) s
     else if wOp w = 1 then handOff l.val s else auditNow th.ctx.val l.val s)) s

/-- VEC_PRIVILEGED (R143). -/
def execVecPrivileged (l : Lan) (t : ThreadI) (w : W64) (s : State) : Host.Outcome State Fault Refusal := .next (doPrivileged l t w s)

/-! ### Limits and KILL (R147, R150, R151) -/

/-- KERNEL_TIME_LIMIT: every engine of the invocation records cause 0x5, and the invocation ends. -/
def kernelLimit (c : CtxI) (id : Nat) (s : State) : State :=
  match s.invs.find? (fun v => v.id == id && v.ctx == c) with
  | none => s
  | some v =>
    let first (s : State) (l : Nat) : Option Nat := ((threadsOf (getEng s l)).find? (fun p => p.2.inv == some id)).map (fun p => p.1)
    let s := v.lans.foldl (fun s l => match first s l.val with
      | none => s
      | some t => updEng l.val (fun e => { e with stat := setBit e.stat 2 }) (recordFault l.val t 5 s)) s
    failInv (match v.lans with | l :: _ => l.val | [] => 0) id s

/-- KERNEL_TIME_LIMIT (R147). -/
def execKernelTimeLimit (c : CtxI) (inv : Nat) (s : State) : Host.Outcome State Fault Refusal := .next (kernelLimit c inv s)

/-- A write of VEC_CTL (R150): CUST_EN, and KILL. -/
def vecCtlWrite (l : Nat) (v : W32) (s : State) : State :=
  let s := updEng l (fun e => { e with custEn := bitAt v 0 }) s
  if bitAt v 31 then stopCustomers l s else s

/-- VEC_CTL_KILL (R150, R151). -/
def execVecCtlKill (l : Lan) (v : W32) (s : State) : Host.Outcome State Fault Refusal := .next (vecCtlWrite l.val v s)

end Sys2Proof.Machine
end

