-- ==== Sys2Proof/Machine/Registers.lean ====
section
/-! DEFINITION. Writes of registers that have no command of their own: access codes, clamps and refusals (R5, R59, R397,
R475). -/

namespace Sys2Proof.Machine

/-! ### Lantern windows -/

/-- WCK_SPLIT (R65): a FORCE of 3 is ignored, FORCE alone, and L1MAX is taken, clamped (DESIGN CHOICE, log 121). -/
def wckSplitWrite (v : W32) (w : Wick) : Wick :=
  { w with force := if fld v 17 16 = 3 then w.force else BitVec.ofNat 2 (fld v 17 16),
           l1max := BitVec.ofNat 13 (clampN 2048 6144 (fld v 12 0)) }

/-- WCK_LOOKUP (R71): writable in lookup mode outside SERVICE, KEYBITS up to 1,024. -/
def wckLookupWrite (v : W32) (w : Wick) : Wick :=
  if w.mode = 1 ∧ w.st ≠ .service then
    { w with keybits := BitVec.ofNat 11 (min 1024 (fld v 26 16)), matchT := BitVec.ofNat 9 (fld v 8 0) }
  else { w with stat := setBit w.stat 6 }

/-- LNT_MAPn (R112): read only in SERVICE. -/
def lntMapWrite (n : Nat) (w : W32) (v : Lantern) : Lantern :=
  let x : BitVec 30 := w.setWidth 30
  if v.st = .service then v
  else if n = 0 then { v with map0 := x } else if n = 1 then { v with map1 := x } else { v with map2 := x }

/-- CHK_BANDw_g (R250): least bands. -/
def bandWrite (g : Nat) (v : W32) (w : Wick) : Wick :=
  { w with bandP := w.bandP.set g (BitVec.ofNat 12 (max 4 (fld v 11 0))), bandI := w.bandI.set g (BitVec.ofNat 16 (max 64 (fld v 31 16))) }

/-! ### Die control window -/

/-- PWR_SHARE0 to PWR_SHARE2 (R169, R181), each as two of the six shares. -/
def shareWrite (n : Nat) (v : W32) (s : State) : State :=
  let p := s.pwr
  let hi := fld v 25 16
  let lo := fld v 9 0
  if n = 0 then setShares lo hi p.xbr.toNat p.stk.toNat p.ser.toNat p.ctl.toNat s
  else if n = 1 then setShares p.arr.toNat p.vec.toNat lo hi p.ser.toNat p.ctl.toNat s
  else setShares p.arr.toNat p.vec.toNat p.xbr.toNat p.stk.toNat lo hi s

/-- MON_CVn_SEQk (R213): it waits for the next pass (R204). -/
def monSeqWrite (n k : Nat) (v : W32) (s : State) : State := updCv n (fun c => { c with seq := c.seq.set k (urgEntry v) }) s

/-- MON_DTABd: ignored once LMP_CFG.EN is 1. -/
def monDtabWrite (d : Nat) (v : W32) (s : State) : State :=
  if s.lmp.en then s
  else { s with mon := { s.mon with dtab := s.mon.dtab.set d (BitVec.ofNat 16 (fld v 31 16), BitVec.ofNat 16 (fld v 15 0)) } }

/-- Writable bits of a window entry's four registers (R268). -/
def windowMask (k : Nat) : W32 :=
  if k = 0 then 0xFFFFFFFF else if k = 1 then 0x00000FFF else if k = 2 then 0xFFFFFFFF else 0xF8000FFF

/-- A window entry as last written: a change may wait for recalls (R375). -/
def windowPending (s : State) (i : Nat) : BitVec 128 :=
  match (s.xbr.winNext.filter (fun p => p.1 == i)).getLast? with
  | some p => p.2
  | none => Tab.get 0 s.xbr.windows i

/-- One register of a window entry (R268). -/
def windowWrite (i k : Nat) (v : W32) (s : State) : State :=
  let old := (windowPending s i).toNat
  let w := (v &&& windowMask k).toNat
  let cur := old / 2 ^ (32 * k) % 2 ^ 32
  setWindow i (BitVec.ofNat 128 (old - cur * 2 ^ (32 * k) + w * 2 ^ (32 * k))) s

/-- FAB_RTb_d (R329, R348): the active bank takes no write. -/
def routeWrite (bank : Bool) (d : Nat) (v : W32) (s : State) : State :=
  if bank = s.fab.bank then fabStat 0 5 s
  else
    let r : Route := { pv := bitAt v 31, plink := Fin.ofNat 32 (fld v 28 24), av := bitAt v 23, alink := Fin.ofNat 32 (fld v 20 16) }
    { s with fab := { s.fab with routes := Tab.set Route.init s.fab.routes ((if bank then 4096 else 0) + d) r } }

/-- FAB_TCHn (R345, R348). -/
def chainWrite (n : Nat) (v : W32) (s : State) : State :=
  let e : Chain := { v := bitAt v 31, tail := bitAt v 30, inlink := Fin.ofNat 32 (fld v 28 24), outlink := Fin.ofNat 32 (fld v 20 16),
                     chain := BitVec.ofNat 16 (fld v 15 0) }
  { s with fab := { s.fab with chains := Tab.set Chain.init s.fab.chains n e } }

/-- FAB_WRR (R330): a weight of 0 becomes 1. -/
def wrrWrite (v : W32) (s : State) : State :=
  let w (x : Nat) : BitVec 4 := BitVec.ofNat 4 (max 1 x)
  { s with fab := { s.fab with w0 := w (fld v 3 0), w1 := w (fld v 7 4), w2 := w (fld v 11 8), w5 := w (fld v 15 12) } }

/-- FAB_MYID (R327). -/
def myidWrite (v : W32) (s : State) : State :=
  { s with fab := { s.fab with myidV := bitAt v 31, myid := BitVec.ofNat 12 (fld v 11 0) } }

/-! ### Writes by register -/

/-- Lantern registers a control-processor write reaches. -/
def lanRegWrite (r : Reg) (v : W32) (s : State) : State :=
  match r with
  | .wckSplit l w => updWick l.val w.val (wckSplitWrite v) s
  | .wckStat l w => updWick l.val w.val (fun x => { x with stat := w1c x.stat (v.setWidth 8) }) s
  | .wckLookup l w => updWick l.val w.val (wckLookupWrite v) s
  | .lntMap l n => updLan l.val (lntMapWrite n.val v) s
  | .lntStat l => updLan l.val (fun x => { x with stat := w1c x.stat (v.setWidth 6) }) s
  | .vecCtl l => vecCtlWrite l.val v s
  | .vecStat l => updEng l.val (fun e => { e with stat := w1c e.stat (v.setWidth 6) }) s
  | .calCfg l => updLan l.val (calCfgSet v) s
  | .calDrcfg l => updLan l.val (calDrSet v) s
  | .calStat l => updLan l.val (fun x => { x with calStat := w1c x.calStat (v.setWidth 7) }) s
  | .chkCfg l => updLan l.val (audlogSet v) s
  | .chkStat l => updLan l.val (fun x => { x with chkStat := w1c x.chkStat (v.setWidth 6) }) s
  | .chkSubst l => updLan l.val (fun x => { x with subst := v.setWidth 16 }) s
  | .chkBand l w g => updWick l.val w.val (bandWrite g.val v) s
  | _ => s

/-- Die registers a control-processor write reaches. -/
def dieRegWrite (r : Reg) (v : W32) (s : State) : State :=
  match r with
  | .chkDstat => { s with chk := { s.chk with dstat := w1c s.chk.dstat (v.setWidth 5) } }
  | .lmpCfg => if 5 ≤ s.clk.step then doLmpCfg v s else s
  | .lmpStat => { s with lmp := { s.lmp with stat := w1c s.lmp.stat (v.setWidth 5) } }
  | .pwrLimit => setLimit (fld v 9 0) s
  | .pwrShare0 => shareWrite 0 v s
  | .pwrShare1 => shareWrite 1 v s
  | .pwrShare2 => shareWrite 2 v s
  | .pwrTherm => { s with pwr := { s.pwr with set := BitVec.ofNat 8 (clampN 80 100 (fld v 7 0)) } }
  | .pwrStat => { s with pwr := { s.pwr with stat := w1c s.pwr.stat (v.setWidth 3) } }
  | .monStat => { s with mon := { s.mon with stat := w1c s.mon.stat (v.setWidth 3) } }
  | .monCvCtl n => monCvWrite n.val v s
  | .monCvSeq n k => monSeqWrite n.val k.val v s
  | .monDtab d => monDtabWrite d.val v s
  | .scnVraise n => updScn n.val (fun x => { x with raised := BitVec.ofNat 2 (fld v 1 0) }) s
  | .xbrStat => { s with xbr := { s.xbr with stat := w1c s.xbr.stat (v.setWidth 3) } }
  | .xbrWindow c e k => windowWrite (c.val * 32 + e.val) k.val v s
  | .stkStat n => updStk n.val (fun x => { x with stat := w1c x.stat (v.setWidth 4) }) s
  | .stkPatrol n => updStk n.val (fun x => { x with period := BitVec.ofNat 8 (clampN 1 168 (fld v 23 16)) }) s
  | .clkStat =>
    { s with clk := { s.clk with lockLost := s.clk.lockLost && !bitAt v 2, gateRef := s.clk.gateRef && !bitAt v 1,
                                 cfgErr := s.clk.cfgErr && !bitAt v 0 } }
  | .clkSupcfg => { s with clk := { s.clk with warn := BitVec.ofNat 4 (min 8 (fld v 3 0)) } }
  | .clkSupwarn => { s with clk := { s.clk with warned := w1c s.clk.warned (v.setWidth 24) } }
  | .clkSupflt => { s with clk := { s.clk with fltPoints := w1c s.clk.fltPoints (v.setWidth 24) } }
  | _ => s

/-- Link, mailbox and management registers a control-processor write reaches. -/
def ioRegWrite (r : Reg) (v : W32) (s : State) : State :=
  match r with
  | .fabStat p => updPort p.val (fun x => { x with stat := w1c x.stat (v.setWidth 6) }) s
  | .fabMyid => myidWrite v s
  | .fabWrr => wrrWrite v s
  | .fabTstat => { s with fab := { s.fab with tstat := w1c s.fab.tstat (v.setWidth 7) } }
  | .fabTch n => chainWrite n.val v s
  | .fabRt b d => routeWrite (b.val == 1) d.val v s
  | .gvlCtl => gvlCtlWrite v s
  | .gvlErr => updGvl (fun g => { g with err := w1c g.err (v.setWidth 9) }) s
  | .gvlSigmod => updGvl (fun g => { g with sigIval := BitVec.ofNat 10 (min 1000 (fld v 9 0)) }) s
  | .mbxRtbaseLo => rtbaseWrite false v s
  | .mbxRtbaseHi => rtbaseWrite true v s
  | .mgtCfg => { s with mgt := { s.mgt with rate := BitVec.ofNat 8 (max 1 (fld v 23 16)) } }
  | .mgtStat =>
    { s with mgt := { s.mgt with qovf := s.mgt.qovf && !bitAt v 1, suppr := s.mgt.suppr && !bitAt v 0 } }
  | _ => s

/-- A write by the control processor or the keeper; a SEC_ register takes the keeper's alone, and any other writer's is a
security violation (R473, R475). -/
def cpuWrite (k : Writer) (r : Reg) (v : W32) (s : State) : State :=
  match r with
  | .secViol =>
    if k = .keeper then { s with sec := { s.sec with viol := w1c s.sec.viol (v.setWidth 5) } } else violate 2 s
  | _ => ioRegWrite r v (dieRegWrite r v (lanRegWrite r v s))

/-- The host writes the ring table's base alone (R381, R397); every other register ignores it (R59). -/
def hostWrite (r : Reg) (v : W32) (s : State) : State :=
  match r with
  | .mbxRtbaseLo => rtbaseWrite false v s
  | .mbxRtbaseHi => rtbaseWrite true v s
  | _ => s

/-- REGISTER_WRITE (R5). -/
def execRegisterWrite (by_ : Writer) (r : Reg) (v : W32) (s : State) : Host.Outcome State Fault Refusal :=
  .next (match by_ with
    | .host => hostWrite r v s
    | k => cpuWrite k r v s)

end Sys2Proof.Machine
end

