-- ==== Sys2Proof/Machine/Commands.lean ====
section
/-! DEFINITION. The CAL., CHK., MON., FAB. and DIAG. command families (R201, R205, R329, R345, R393, R394). -/

namespace Sys2Proof.Machine

/-! ### CAL. and CHK. -/

/-- One byte of a signed code. -/
def int8 (x : Int) : Byte := BitVec.ofInt 8 x

/-- Coefficient records of one wick and set (R201): set 5 is interpolated at the latched temperature point. -/
def calRecord (s : State) (l w set : Nat) : List Byte :=
  let v := getLan s l
  let x := getWick s l w
  let code (kind col : Nat) : Int := if set = 5 then trimCode x.trim kind col v.tpoint.toNat else trimGet x kind set col
  let live := x.live.foldl (fun m p => max m p.2.natAbs) 0
  leBytes 2 l ++ [BitVec.ofNat 8 w, BitVec.ofNat 8 set, int8 (code 2 0), BitVec.ofNat 8 live] ++ leBytes 2 v.tpoint.toNat ++
    (List.range 520).map (fun c => int8 (code 0 c)) ++ (List.range 520).map (fun c => int8 (code 1 c)) ++ List.replicate 8 0

/-- The drive-tap record of a lantern (R201). -/
def tapRecord (s : State) (l : Nat) : List Byte :=
  let v := getLan s l
  leBytes 2 l ++ [0xFF, 0, 0, 0] ++ leBytes 2 v.tpoint.toNat ++
    (List.range 16).map (fun i => int8 (Tab.get 0 v.taps i)) ++ List.replicate 1032 0

/-- Records of the named wicks (bits 0 to 16; bit 17 the taps) and sets (bits 0 to 5) of a lantern. -/
def lanRecords (s : State) (wicks sets : W32) (l : Nat) : List Byte :=
  (maskBits 17 wicks.toNat).flatMap (fun w => (maskBits 6 sets.toNat).flatMap (fun j => calRecord s l w j)) ++
    (if bitAt wicks 17 then tapRecord s l else [])

/-- A lantern of the list is not the caller's: on a context ring each must belong to its context (R201). -/
def lanDenied (s : State) (d : Desc) (l : Nat) : Bool :=
  decide (4 ≤ d.ring.val) && (ownerOfLan s l != (getRing s d.ring.val).ctx || (ownerOfLan s l).isNone)

/-- CAL_READ (R201, R394). -/
def doCalRead (d : Desc) (lans : List Nat) (wicks sets : W32) (s : State) : State :=
  runCmd d .ctxSysDiag false false true (fun s =>
    if d.inlen.toNat % 2 = 1 then finish d 0x07 s
    else if d.inlen = 0 ∨ d.outlen = 0 then finish d 1 s
    else if lans.any (fun l => decide (1088 ≤ l)) then finish d 0x07 s
    else if lans.any (lanDenied s d) then finish d 0x06 s
    else finishOut d 1056 (lans.flatMap (lanRecords s wicks sets)) s) s

/-- CAL_READ (R201). -/
def execCalRead (d : Desc) (lans : List Nat) (wicks sets : W32) (s : State) : Host.Outcome State Fault Refusal :=
  .next (doCalRead d lans wicks sets s)

/-- CAL_TRIM: the wick that serves is marked for early full trim, and a lantern without a spare is remapped; an unserved lantern changes
nothing (R189, R196, R394). -/
def doCalTrim (d : Desc) (ll w : Nat) (s : State) : State :=
  runCtx d false (fun c _ s =>
    if 1024 ≤ ll ∨ 16 ≤ w then finish d 0x07 s
    else if !(sconcesOf s c).contains (sconceOfL ll) then finish d 0x06 s
    else match lanOf s ll with
      | none => finish d 0 s
      | some p =>
        let s := updWick p (mapOf (getLan s p) w) (fun x => { x with early := true }) s
        finish d 0 (earlyRemap p (updLan p (fun v => { v with calStat := setBit v.calStat 6 }) s))) s

/-- CAL_TRIM (R393). -/
def execCalTrim (d : Desc) (ll : Nat) (w : Nat) (s : State) : Host.Outcome State Fault Refusal := .next (doCalTrim d ll w s)

/-- Change the lanterns that serve logical ones. -/
def onServed (ls : List LLan) (f : Lantern → Lantern) (s : State) : State :=
  ls.foldl (fun s l => match lanOf s l.val with | none => s | some p => updLan p f s) s

/-- CAL_CONFIG: the settings are kept for each logical lantern and applied where one serves (R394). -/
def doCalConfig (d : Desc) (lmask : List LLan) (cfg drcfg : W32) (s : State) : State :=
  runMask d lmask (fun c _ s =>
    let s := updCtx c (fun x => { x with calSet := lmask.foldl (fun t l => Tab.set none t l.val (some (cfg, drcfg))) x.calSet }) s
    finish d 0 (onServed lmask (fun v => calDrSet drcfg (calCfgSet cfg v)) s)) s

/-- CAL_CONFIG (R394). -/
def execCalConfig (d : Desc) (lmask : List LLan) (cfg drcfg : W32) (s : State) : Host.Outcome State Fault Refusal :=
  .next (doCalConfig d lmask cfg drcfg s)

/-- CHK_RATE (R394). -/
def doChkRate (d : Desc) (lmask : List LLan) (audlog : W32) (s : State) : State :=
  runMask d lmask (fun c _ s =>
    let s := updCtx c (fun x => { x with rateSet := lmask.foldl (fun t l => Tab.set none t l.val (some audlog)) x.rateSet }) s
    finish d 0 (onServed lmask (audlogSet audlog) s)) s

/-- CHK_RATE (R394). -/
def execChkRate (d : Desc) (lmask : List LLan) (audlog : W32) (s : State) : Host.Outcome State Fault Refusal :=
  .next (doChkRate d lmask audlog s)

/-- CHK_STATUS (R393): the output has no stated layout (log 9). -/
def execChkStatus (d : Desc) (s : State) : Host.Outcome State Fault Refusal := .next (runCtx d false (fun _ _ s => finishFree d s) s)

/-- CHK_AUDIT: the next flare of each served lantern is audited (R393, R394). -/
def doChkAudit (d : Desc) (lmask : List LLan) (s : State) : State :=
  runMask d lmask (fun _ _ s => finish d 0 (onServed lmask (fun v => { v with markNext := true }) s)) s

/-- CHK_AUDIT (R393). -/
def execChkAudit (d : Desc) (lmask : List LLan) (s : State) : Host.Outcome State Fault Refusal := .next (doChkAudit d lmask s)

/-! ### MON. -/

/-- MON_SEQ: entries 8 to 15 of converter 3 and its LEN, for MON_AIN inputs 56 to 63 alone (R205). -/
def doMonSeq (d : Desc) (ents : List SeqEntry) (len : Nat) (s : State) : State :=
  runCmd d .sysDiag false false false (fun s =>
    if len = 0 then finish d 1 s
    else if len < 8 ∨ 16 < len ∨ 8 < ents.length ∨ ents.any (fun e => decide (e.input.toNat < 56)) then finish d 0x06 s
    else finish d 0 (updCv 3 (fun c => { c with len := BitVec.ofNat 5 len,
                                                seq := c.seq.take 8 ++ ents ++ c.seq.drop (8 + ents.length) }) s)) s

/-- MON_SEQ (R205). -/
def execMonSeq (d : Desc) (ents : List SeqEntry) (len : Nat) (s : State) : Host.Outcome State Fault Refusal := .next (doMonSeq d ents len s)

/-- MON_READ (R393), served before LMP_CFG.EN (R395): the output has no stated layout (log 9). -/
def execMonRead (d : Desc) (s : State) : Host.Outcome State Fault Refusal :=
  .next (runCmd d .any false true false (finishFree d) s)

/-! ### FAB. -/

/-- A policy below the configuration block's entry for its link (R530). -/
def encBelow (s : State) (k v : Nat) : Bool :=
  match s.sec.cfg with
  | none => false
  | some c => v != 3 && decide (v < (c.enc.getD k 0).toNat)

/-- FAB_PORT (R307, R393). -/
def doFabPort (d : Desc) (port : Nat) (v : W32) (s : State) : State :=
  runSys d (fun s =>
    if 16 ≤ port then finish d 0x07 s
    else if encBelow s (2 * port) (fld v 29 28) ∨ encBelow s (2 * port + 1) (fld v 23 22) then finish d 0x0101 s
    else finish d 0 (pcfgWrite port v s)) s

/-- FAB_PORT (R393). -/
def execFabPort (d : Desc) (port : Nat) (v : W32) (s : State) : Host.Outcome State Fault Refusal := .next (doFabPort d port v s)

/-- FAB_ID (R327). -/
def doFabId (d : Desc) (id : W16) (s : State) : State :=
  runSys d (fun s =>
    if 4096 ≤ id.toNat then finish d 0x07 s else finish d 0 (myidWrite (0x80000000 ||| id.setWidth 32) s)) s

/-- FAB_ID (R327). -/
def execFabId (d : Desc) (id : W16) (s : State) : Host.Outcome State Fault Refusal := .next (doFabId d id s)

/-- FAB_ROUTE (R329): entries from a first destination upward into the inactive bank. -/
def doFabRoute (d : Desc) (bank first : Nat) (ents : List W32) (s : State) : State :=
  runCmd d .sys false false true (fun s =>
    if ents = [] then finish d 1 s
    else if 1 < bank ∨ 4096 < first + ents.length then finish d 0x07 s
    else if (bank == 1) = s.fab.bank then finish d 0x0901 s
    else finish d 0 ((withPos first ents).foldl (fun s p => routeWrite (bank == 1) p.1 p.2 s) s)) s

/-- FAB_ROUTE (R329). -/
def execFabRoute (d : Desc) (bank : Nat) (first : Nat) (ents : List W32) (s : State) : Host.Outcome State Fault Refusal :=
  .next (doFabRoute d bank first ents s)

/-- FAB_FLIP (R329). -/
def execFabFlip (d : Desc) (s : State) : Host.Outcome State Fault Refusal := .next (runSys d (fun s => finish d 0 (fabBankFlip s)) s)

/-- FAB_CHAIN (R345). -/
def doFabChain (d : Desc) (n : Nat) (v : W32) (s : State) : State :=
  runSys d (fun s => if 16 ≤ n then finish d 0x07 s else finish d 0 (chainWrite n v s)) s

/-- FAB_CHAIN (R345). -/
def execFabChain (d : Desc) (n : Nat) (v : W32) (s : State) : Host.Outcome State Fault Refusal := .next (doFabChain d n v s)

/-- FAB_WRR (R330). -/
def execFabWrr (d : Desc) (v : W32) (s : State) : Host.Outcome State Fault Refusal := .next (runSys d (fun s => finish d 0 (wrrWrite v s)) s)

/-- FAB_NEIGHBORS (R312): the output has no stated layout (log 9). -/
def execFabNeighbors (d : Desc) (s : State) : Host.Outcome State Fault Refusal :=
  .next (runCmd d .sysDiag false false false (finishFree d) s)

/-! ### DIAG. -/

/-- A diagnostics-ring command, served before LMP_CFG.EN (R395). -/
def runDiag (d : Desc) (body : State → State) (s : State) : State := runCmd d .diag false true false body s

/-- DIAG_EMBERS (R471): every ember, oldest first. -/
def execDiagEmbers (d : Desc) (s : State) : Host.Outcome State Fault Refusal :=
  .next (runDiag d (fun s => finishOut d 64 (s.mgt.log.flatMap Ember.bytes) s) s)

/-- DIAG_SNAPSHOT (R393): images of named blocks; the output has no stated layout (log 9). -/
def execDiagSnapshot (d : Desc) (blocks : List Nat) (s : State) : Host.Outcome State Fault Refusal :=
  .next (runDiag d (fun s => if blocks = [] then finish d 1 s else finishFree d s) s)

/-- DIAG_LOOPBACK (R393): the port must be DISABLED; the result has no stated form (log 9). -/
def doLoopback (d : Desc) (port : Nat) (s : State) : State :=
  runDiag d (fun s =>
    if 16 ≤ port then finish d 0x07 s
    else if (getPort s port).en ∨ (getLink s (2 * port)).st ≠ .disabled ∨ (getLink s (2 * port + 1)).st ≠ .disabled then finish d 0x05 s
    else
      let w := freeWords 0x0B03 8 s
      complete d 0 0 w.1 w.2) s

/-- DIAG_LOOPBACK (R393). -/
def execDiagLoopback (d : Desc) (port : Nat) (s : State) : Host.Outcome State Fault Refusal := .next (doLoopback d port s)

/-- DIAG_COUNTERS (R393): the output has no stated layout (log 9). -/
def execDiagCounters (d : Desc) (s : State) : Host.Outcome State Fault Refusal := .next (runDiag d (finishFree d) s)

end Sys2Proof.Machine
end

