-- ==== Sys2Proof/Machine/Manage.lean ====
section
/-! DEFINITION. Withholding as a command (R485, R486), embers and their rate windows (R503 to R508), the management paths'
queues (R509), MCTP and PLDM commands (R500 to R502, R509) and sensors (R510). -/

namespace Sys2Proof.Machine

/-- WITHHOLD (R485, R486): for the causes listed and no others. -/
def withholdFor (cause detail : Nat) (s : State) : State := if 1 ≤ cause ∧ cause ≤ 12 then withhold cause detail s else s

/-- WITHHOLD (R486). -/
def execWithhold (cause : Byte) (detail : W16) (s : State) : Host.Outcome State Fault Refusal :=
  .next (withholdFor cause.toNat detail.toNat s)

/-- EMBER_RAISE (R506). -/
def execEmberRaise (e : EmberReq) (s : State) : Host.Outcome State Fault Refusal := .next (raiseEmber e s)

/-! ### Rate windows (R508) -/

/-- The summary of a window's key, or of the shared overflow key. -/
def summaryOf (s : State) (w : RateWin) (e : Ember) : Ember :=
  let n : W32 := BitVec.ofNat 32 w.suppressed
  match w.key with
  | some _ => { e with summary := true, arg0 := n }
  | none => { formEmber s (emb 0 0 0 none w.suppressed) with summary := true, localt := e.localt }

/-- RATE_WINDOW_CLOSE (R508): the window goes; with suppressed embers, one summary is delivered. -/
def closeWindow (k : Option (W16 × W16 × Option W16)) (s : State) : State :=
  match findWin k s.mgt.wins with
  | none => s
  | some w =>
    let s := { s with mgt := { s.mgt with wins := s.mgt.wins.filter (fun x => x.key != k) } }
    match w.last with
    | none => s
    | some e => if w.suppressed = 0 then s else deliverEmber (summaryOf s w e) s

/-- RATE_WINDOW_CLOSE (R508). -/
def execRateWindowClose (key : Option (W16 × W16 × Option W16)) (s : State) : Host.Outcome State Fault Refusal :=
  .next (closeWindow key s)

/-! ### The queues (R509) -/

/-- A path. -/
def getPath (s : State) (p : Path) : MgtPath := match p with | .bus => s.mgt.bus | .udp => s.mgt.udp

/-- Change a path. -/
def updPath (p : Path) (f : MgtPath → MgtPath) (s : State) : State :=
  match p with
  | .bus => { s with mgt := { s.mgt with bus := f s.mgt.bus } }
  | .udp => { s with mgt := { s.mgt with udp := f s.mgt.udp } }

/-- A path answers: the presence runs, and UDP has its link (R500, R511, R512). -/
def pathAlive (s : State) (p : Path) : Bool :=
  s.mgt.started && (match p with | .bus => true | .udp => s.mgt.sgmiiEn && s.mgt.link)

/-- The queue has room again after drops: one 0x1101 with their count. -/
def noteDrops (p : Path) (s : State) : State :=
  let x := getPath s p
  if x.dropped ≠ 0 ∧ x.queue.length < 1024 then
    ember 0 0x1101 (match p with | .bus => 0 | .udp => 1) none x.dropped (updPath p (fun x => { x with dropped := 0 }) s)
  else s

/-- PLATFORM_EVENT_SEND: the oldest queued ember goes to the receiver; one message is outstanding. -/
def eventSend (p : Path) (s : State) : State :=
  let x := getPath s p
  match x.queue, x.receiver, x.out with
  | e :: q, some r, none =>
    if pathAlive s p then noteDrops p (updPath p (fun x => { x with queue := q, out := some (e, r, 1) }) s) else s
  | _, _, _ => s

/-- PLATFORM_EVENT_SEND (R509). -/
def execPlatformEventSend (p : Path) (s : State) : Host.Outcome State Fault Refusal := .next (eventSend p s)

/-- PLATFORM_EVENT_RESPONSE (R509): the message is done, whatever the response says. -/
def execPlatformEventResponse (p : Path) (_ok : Bool) (s : State) : Host.Outcome State Fault Refusal :=
  .next (if pathAlive s p then updPath p (fun x => { x with out := none }) s else s)

/-- PLATFORM_EVENT_TIMEOUT: sent again, twice at most, then dropped and counted. A withheld or fatal ember is never dropped:
it waits at the head of the queue (DEDUCED, log 32). -/
def eventTimeout (p : Path) (s : State) : State :=
  match (getPath s p).out with
  | none => s
  | some (e, r, n) =>
    if !pathAlive s p then s
    else if n < 3 then updPath p (fun x => { x with out := some (e, r, n + 1) }) s
    else if 3 ≤ e.sev.toNat then updPath p (fun x => { x with out := none, queue := e :: x.queue }) s
    else
      let s := updPath p (fun x => { x with out := none, dropped := x.dropped + 1 }) s
      noteDrops p { s with mgt := { s.mgt with droppedCnt := satInc s.mgt.droppedCnt, qovf := true } }

/-- PLATFORM_EVENT_TIMEOUT (R509). -/
def execPlatformEventTimeout (p : Path) (s : State) : Host.Outcome State Fault Refusal := .next (eventTimeout p s)

/-! ### MCTP and PLDM (R500 to R502) -/

/-- Answer a command. -/
def reply (p : Path) (op : MgtOp) (ok : Bool) (data : List Byte) (s : State) : State :=
  if pathAlive s p then updPath p (fun x => { x with resp := x.resp ++ [{ op := op, ok := ok, data := data }] }) s else s

/-- Answer with data the manual leaves to the standard: free bytes (log 9). -/
def replyFree (p : Path) (op : MgtOp) (n : Nat) (s : State) : State :=
  let w := freeWords 0x0A n s
  reply p op true (w.1.map (fun x => x.setWidth 8)) w.2

/-- Set Endpoint ID: the operations and the reserved IDs are those of DSP0236 (PRESUMED, log 33). -/
def setEid (p : Path) (op eid : Byte) (s : State) : State :=
  if op.toNat ≤ 1 ∧ eid ≠ 0 ∧ eid ≠ 0xFF then
    if pathAlive s p then reply p .setEid true [eid] (updPath p (fun x => { x with eid := eid }) s) else s
  else reply p .setEid false [] s

/-- SET_ENDPOINT_ID (R502). -/
def execSetEndpointId (p : Path) (op : Byte) (eid : Byte) (s : State) : Host.Outcome State Fault Refusal :=
  .next (setEid p op eid s)

/-- GET_ENDPOINT_ID (R502, R513). -/
def execGetEndpointId (p : Path) (s : State) : Host.Outcome State Fault Refusal :=
  .next (reply p .getEid true [(getPath s p).eid] s)

/-- GET_ENDPOINT_UUID (R502): bytes 0 to 15 of IDDIGEST. -/
def execGetEndpointUuid (p : Path) (s : State) : Host.Outcome State Fault Refusal :=
  .next (reply p .getUuid true ((digBytes s.sec.iddigest).take 16) s)

/-- Get MCTP Version Support: 1.3 for the base and control (DSP0236 1.3); PLDM over MCTP has no version in the manual. -/
def mctpVersion (p : Path) (type : Byte) (s : State) : State :=
  if type = 0x00 ∨ type = 0xFF then reply p .getVersion true [1, 3] s
  else if type = 0x01 then replyFree p .getVersion 2 s
  else reply p .getVersion false [] s

/-- GET_MCTP_VERSION_SUPPORT (R502). -/
def execGetMctpVersionSupport (p : Path) (type : Byte) (s : State) : Host.Outcome State Fault Refusal :=
  .next (mctpVersion p type s)

/-- GET_MESSAGE_TYPE_SUPPORT (R502): control and PLDM. -/
def execGetMessageTypeSupport (p : Path) (s : State) : Host.Outcome State Fault Refusal :=
  .next (reply p .getTypes true [0x00, 0x01] s)

/-- GETTID (R502): the manual gives no terminus ID, a free value. -/
def execGetTid (p : Path) (s : State) : Host.Outcome State Fault Refusal := .next (replyFree p .getTid 1 s)

/-- GetPLDMVersion: DSP0240 1.1 and DSP0248 1.2; the type codes are the standard's (PRESUMED, log 33). -/
def pldmVersion (p : Path) (type : Byte) (s : State) : State :=
  if type = 0 then reply p .pldmVersion true [1, 1] s
  else if type = 2 then reply p .pldmVersion true [1, 2] s
  else reply p .pldmVersion false [] s

/-- GETPLDMVERSION (R502). -/
def execGetPldmVersion (p : Path) (type : Byte) (s : State) : Host.Outcome State Fault Refusal := .next (pldmVersion p type s)

/-- GETPLDMTYPES (R502): base and platform monitoring and control. -/
def execGetPldmTypes (p : Path) (s : State) : Host.Outcome State Fault Refusal := .next (reply p .pldmTypes true [0, 2] s)

/-- GetPLDMCommands: the commands of R502 by the standards' codes (PRESUMED, log 33). -/
def pldmCommands (p : Path) (type : Byte) (s : State) : State :=
  if type = 0 then reply p .pldmCommands true [0x02, 0x03, 0x04, 0x05] s
  else if type = 2 then reply p .pldmCommands true [0x04, 0x11, 0x21, 0x50, 0x51] s
  else reply p .pldmCommands false [] s

/-- GETPLDMCOMMANDS (R502). -/
def execGetPldmCommands (p : Path) (type : Byte) (s : State) : Host.Outcome State Fault Refusal :=
  .next (pldmCommands p type s)

/-- SetEventReceiver (R509): a message outstanding stays with its old receiver (R512). -/
def setReceiver (p : Path) (enable eid : Byte) (s : State) : State :=
  if pathAlive s p then
    reply p .setReceiver true [] (updPath p (fun x => { x with receiver := if enable = 0 then none else some eid }) s)
  else s

/-- SETEVENTRECEIVER (R509). -/
def execSetEventReceiver (p : Path) (enable : Byte) (eid : Byte) (s : State) : Host.Outcome State Fault Refusal :=
  .next (setReceiver p enable eid s)

/-! ### Sensors (R510) -/

/-- The sensors of the PDR repository. -/
def isNumeric (n : Nat) : Bool := decide (1 ≤ n) && decide (n ≤ 66)

/-- A state sensor. -/
def isStateSensor (n : Nat) : Bool := decide (100 ≤ n) && decide (n ≤ 118)

/-- A numeric sensor's latest value: temperatures in 1/8 °C, converter codes, watts, the cut level. -/
def numReading (s : State) (n : Nat) : Int :=
  if n ≤ 32 then (s.mon.temp.getD (n - 1) (0, 0)).2
  else if n ≤ 56 then (Tab.get 0 s.mon.latest (n - 33 + 32)).toNat
  else if n ≤ 64 then (Tab.get 0 s.mon.latest (n - 57 + 56)).toNat
  else if n = 65 then s.pwr.meas
  else s.pwr.level.toNat

/-- A state sensor's value. -/
def stateReading (s : State) (n : Nat) : Nat :=
  if n = 100 then (if s.snuf.wheld then 2 else 1)
  else if n ≤ 116 then (getLink s (2 * (n - 101))).st.code
  else if n = 117 then s.gvl.st.code
  else s.twin.st.code

/-- A sensor's thresholds as its PDR gives them: the setpoint and 105 °C; the warning level in tenths of a percent and the
reset level of 90.0 % (R288); the package limit. -/
def thresholds (s : State) (n : Nat) : List Nat :=
  if 1 ≤ n ∧ n ≤ 32 then [s.pwr.set.toNat, 105]
  else if 33 ≤ n ∧ n ≤ 56 then [930 + 5 * s.clk.warn.toNat, 900]
  else if n = 65 then [s.pwr.limit.toNat]
  else []

/-- GETPDRREPOSITORYINFO (R510): one record for each of the 85 sensors. -/
def execGetPdrRepositoryInfo (p : Path) (s : State) : Host.Outcome State Fault Refusal :=
  .next (reply p .repoInfo true (leBytes 4 85) s)

/-- GetPDR: the record whose handle is the sensor's ID (DESIGN CHOICE, log 33): ID and thresholds. -/
def pdrReply (p : Path) (handle : W32) (s : State) : State :=
  let n := handle.toNat
  if isNumeric n || isStateSensor n then
    reply p .pdr true (leBytes 2 n ++ (thresholds s n).flatMap (leBytes 2)) s
  else reply p .pdr false [] s

/-- GETPDR (R510). -/
def execGetPdr (p : Path) (handle : W32) (s : State) : Host.Outcome State Fault Refusal := .next (pdrReply p handle s)

/-- GETSENSORREADING (R510). -/
def execGetSensorReading (p : Path) (sensor : W16) (s : State) : Host.Outcome State Fault Refusal :=
  .next (if isNumeric sensor.toNat then
      reply p .sensor true (leBytes 2 (BitVec.ofInt 16 (numReading s sensor.toNat)).toNat) s
    else reply p .sensor false [] s)

/-- GETSTATESENSORREADINGS (R510). -/
def execGetStateSensorReadings (p : Path) (sensor : W16) (s : State) : Host.Outcome State Fault Refusal :=
  .next (if isStateSensor sensor.toNat then
      reply p .stateSensor true (leBytes 1 (stateReading s sensor.toNat)) s
    else reply p .stateSensor false [] s)

/-- PLDM_UNSUPPORTED_COMMAND (R502): ERROR_UNSUPPORTED_PLDM_CMD. -/
def execPldmUnsupportedCommand (p : Path) (_type _cmd : Byte) (s : State) : Host.Outcome State Fault Refusal :=
  .next (reply p .unsupported false [] s)

/-- MCTP_UNSUPPORTED_MESSAGE (R502): dropped. -/
def execMctpUnsupportedMessage (_p : Path) (s : State) : Host.Outcome State Fault Refusal := .next s

/-- SGMII_LINK_CHANGE (R500). -/
def execSgmiiLinkChange (up : Bool) (s : State) : Host.Outcome State Fault Refusal :=
  .next (if s.mgt.started && s.mgt.sgmiiEn then { s with mgt := { s.mgt with link := up } } else s)

/-- I3C_DYNAMIC_ADDRESS (R500). -/
def execI3cDynamicAddress (a : Byte) (s : State) : Host.Outcome State Fault Refusal :=
  .next (if s.mgt.started && s.mgt.i3c then { s with mgt := { s.mgt with i3cAddr := a.setWidth 7 } } else s)

end Sys2Proof.Machine
end

