-- ==== Sys2Proof/Machine/Steps.lean ====
section
/-! DEFINITION. A completed step (R28): what a flare step, a trim probe, a readback probe and a drive-reference probe leave. -/

namespace Sys2Proof.Machine

/-- Take the oldest step in flight of a wick out. -/
def takeFlight (l w : Nat) (s : State) : Option (Flight × State) :=
  match takeFirst (fun (f : Flight) => f.lan.val == l && f.pw.val == w) s.lmp.flights with
  | none => none
  | some (f, rest) => some (f, { s with lmp := { s.lmp with flights := rest } })

/-- Add a fired group to its slice (R36, R107). -/
def addGroup (acc : SliceAcc) (g : Grp) (l : List SliceAcc) : List SliceAcc :=
  if l.any (fun a => a.flare == acc.flare && a.pw == acc.pw && a.slice == acc.slice && a.lpass == acc.lpass) then
    updIf (fun a => a.flare == acc.flare && a.pw == acc.pw && a.slice == acc.slice && a.lpass == acc.lpass)
      (fun a => { a with groups := a.groups ++ [g] }) l
  else l ++ [{ acc with groups := [g] }]

/-- Input moments of a slice or, at key 16, of the trim probe steps (R111). -/
def addMoments (key : Nat) (x : List (Nat × Int)) (last : Bool) (v : Lantern) : Lantern :=
  { v with
    x1 := x.foldl (fun t p => Tab.upd 0 t (key * 2048 + p.1) (fun y => y + p.2)) v.x1,
    x2 := x.foldl (fun t p => Tab.upd 0 t (key * 2048 + p.1) (fun y => y + p.2.natAbs * p.2.natAbs)) v.x2,
    momSteps := if last then Tab.upd 0 v.momSteps key (fun n => n + 1) else v.momSteps }

/-- Window sums of a wick from one fired group (R186): b of each mapped column adds up over the step's groups, and enters S1 and S2
with its last one. -/
def addWindow (f : Flight) (err : List (Nat × Int)) (rot : Bool) (w : Wick) : Wick :=
  let bs := (List.range 512).map (fun c => (physCol w c, codeOf w f err (physCol w c) * (2 ^ f.e : Nat)))
  let b := bs.foldl (fun t p => Tab.upd 0 t p.1 (fun y => y + p.2)) w.winB
  let w := { w with winB := if f.last then [] else b, se := w.se + 2 ^ f.e, sq12 := w.sq12 + 4 ^ f.e,
                    winSteps := if f.last then w.winSteps + 1 else w.winSteps, winRot := w.winRot && rot }
  if f.last then
    { w with s1 := b.foldl (fun t p => Tab.upd 0 t p.1 (fun y => y + p.2)) w.s1,
             s2 := b.foldl (fun t p => Tab.upd 0 t p.1 (fun y => y + p.2 * p.2)) w.s2 }
  else w

/-- New check-store entries that ECC found uncorrectable (R216, R231): the wick is handled as after an audit failure and
the lantern becomes suspect. -/
def storeErrors (l w : Nat) (lw : Option Nat) (bad : List Nat) (s : State) : State :=
  let x := getWick s l w
  let new := bad.filter (fun k => !(x.rsBad.contains k))
  if new = [] then s
  else
    let s := setWick l w { x with rsBad := x.rsBad ++ new, early := true } s
    let s := match lw with
      | none => s
      | some i => updLan l (fun v => { v with subst := setBit v.subst i }) s
    suspectEvent l s

/-- A flare's slot is HELD from the end of its last step (R103). -/
def holdIfDone (c id l : Nat) (s : State) : State :=
  match (getLctx s c).runs.find? (fun r => r.id == id) with
  | none => s
  | some r =>
    let left := r.plans.any (fun p => p.lan.val == l && !p.units.isEmpty)
    let inAir := s.lmp.flights.any (fun f => f.lan.val == l && flightId f == some id)
    if left || inAir then s
    else match r.lans.find? (fun q => q.2.1.val == l) with
      | none => s
      | some q => updLan l (fun v =>
          let x := getSlot v q.2.2
          if x.st = .firing then setSlot v q.2.2 { x with st := .held } else v) s

/-- The logical wick whose steps count for a slice (R111): the lowest one that fires it. -/
def countsFor (v : Lantern) (lw slice : Nat) : Bool :=
  (List.range 16).find? (fun i => i % shapeQ v == slice && v.substNow.toNat / 2 ^ i % 2 == 0) == some lw

/-- A slice's window is full before a further step: it is handed over (R111). -/
def windowFull (l slice : Nat) (s : State) : State :=
  if 65536 ≤ Tab.get 0 (getLan s l).momSteps slice then momentEnd l slice s else s

/-- A flare step's codes are valid: offset removal, saturation, row-sum check, moments (R31, R107, R111, R217). -/
def stepFlare (l w : Nat) (f : Flight) (id : Nat) (lw : LWick) (slice : Nat) (lpass fallback rot lookup : Bool)
    (err : List (Nat × Int)) (s : State) : State :=
  match findRun s id with
  | none => s
  | some (c, _) =>
    let first := countsFor (getLan s l) lw.val slice
    let s := if first then windowFull l slice s else s
    let x := getWick s l w
    let r := groupVals x f lookup err
    let chk := rowSumCheck x f.x r.1 (2 ^ f.e) (bandsP x) (bandsI x)
    let st : GrpSt := if r.2 then .sat else if chk = [] then .ok else .rsFail chk
    let acc : SliceAcc := { flare := id, lw := lw, pw := f.pw, slice := slice, lpass := lpass, fallback := fallback, groups := [] }
    let g : Grp := { e := f.e, gidx := f.gidx, gcnt := f.gcnt, lo := f.lo, hi := f.hi, vals := r.1, fired := r.1, st := st }
    let s := updLan l (fun v =>
      let v := { v with accs := addGroup acc g v.accs, stat := if r.2 then setBit v.stat 1 else v.stat,
                        chkStat := if st = .ok ∨ st = .sat then v.chkStat else setBit v.chkStat 0 }
      if first then addMoments slice f.x (f.last) v else v) s
    let s := updWick l w (fun x =>
      let x := { x with stat := if r.2 then setBit x.stat 0 else x.stat }
      if lookup then x else addWindow f err rot x) s
    let s := updRun c id (fun a => { a with flying := a.flying - 1, checks := if r.2 then a.checks else a.checks + 4,
                                            redo := if st = .ok then a.redo else a.redo + 1 }) s
    holdIfDone c id l s

/-- A trim probe step's codes: to the accumulators and the row-sum check alone (R191, R222). A saturated code does not set
WCK_STAT.SAT: no slice of a flare is recomputed (DESIGN CHOICE, log 113). -/
def stepTrim (l w : Nat) (f : Flight) (err : List (Nat × Int)) (s : State) : State :=
  let x := getWick s l w
  let r := groupVals x f false err
  let bad := !(rowSumCheck x f.x r.1 (2 ^ f.e) (bandsP x) (bandsI x)).isEmpty
  let rs := (List.range 4).map (fun g =>
    let d := residuals x f.x r.1 g
    let o := x.resid.getD g (0, 0, 0, 0)
    let a := d.1 * (2 ^ (6 - f.e) : Nat)
    let b := d.2 * (2 ^ (6 - f.e) : Nat)
    (o.1 + a, o.2.1 + a.natAbs * a.natAbs, o.2.2.1 + b, o.2.2.2 + b.natAbs * b.natAbs))
  let win2 := (getLan s l).phase = .win2
  let s := updLan l (addMoments 16 f.x (f.last)) s
  updWick l w (fun x =>
    let x := addWindow f err true x
    { x with probeFail := x.probeFail || bad, resid := if win2 then rs else x.resid }) s

/-- Codes of the mapped columns of a step. -/
def mappedCodes (x : Wick) (f : Flight) (err : List (Nat × Int)) : List Int :=
  (List.range 512).map (fun c => codeOf x f err (physCol x c))

/-- A readback probe row's codes (R48, R51): each level is the integer nearest to code ÷ 4, and a cell 0.5 or further from its level
is marginal. -/
def stepProbe (l w : Nat) (f : Flight) (err : List (Nat × Int)) (s : State) : State :=
  updWick l w (fun x =>
    if x.rbBusy ∧ f.lo = x.rbRows.toNat then
      let cs := (mappedCodes x f err).map (fun k => (nearLevel k, k))
      { x with rbRows := x.rbRows + 1,
               rbLev := (withPos 0 cs).foldl (fun t p => Tab.set 8 t (f.lo * 512 + p.1) p.2.1) x.rbLev,
               rbMarg := x.rbMarg + (cs.filter (fun p => 2 ≤ (4 * (p.1 : Int) - p.2).natAbs)).length }
    else x) s

/-- A drive-reference probe step's codes (R198, R221): the sum over the mapped columns joins its tap's step A or step B sum. A
row-sum failure counts against the wick (R222). -/
def stepDrive (l w : Nat) (f : Flight) (tap : Nat) (b : Bool) (err : List (Nat × Int)) (s : State) : State :=
  let x := getWick s l w
  let bad := !(rowSumCheck x f.x (groupVals x f false err).1 (2 ^ f.e) (bandsP x) (bandsI x)).isEmpty
  let k := sumI (mappedCodes x f err)
  let s := updWick l w (fun x => { x with probeFail := x.probeFail || bad }) s
  updLan l (fun v => if v.phase = .drRun then
    (if b then { v with drGot := v.drGot + 1, drB := Tab.upd 0 v.drB tap (fun y => y + k) }
      else { v with drGot := v.drGot + 1, drA := Tab.upd 0 v.drA tap (fun y => y + k) }) else v) s

/-- WICK_STEP_COMPLETE (R28): codes valid, the record goes to the reduction tree; a discarded step's codes are
dropped (R58). -/
def execWickStepComplete (l : Lan) (w : PWick) (err : List (Nat × Int)) (bad : List Nat) (s : State) :
    Host.Outcome State Fault Refusal :=
  match takeFlight l.val w.val s with
  | none => .next s
  | some (f, s) =>
    if f.dead then .next s
    else match f.kind with
      | .flare id lw slice lpass fallback rot lookup =>
        .next (earlyRemap l.val (stepFlare l.val w.val f id lw slice lpass fallback rot lookup err
          (storeErrors l.val w.val (some lw.val) bad s)))
      | .probe => .next (stepProbe l.val w.val f err s)
      | .trim => .next (earlyRemap l.val (stepTrim l.val w.val f err (storeErrors l.val w.val none bad s)))
      | .drive tap b => .next (earlyRemap l.val (stepDrive l.val w.val f tap b err (storeErrors l.val w.val none bad s)))

/-- SLICE_RECOMPUTE_DONE (R219). -/
def execSliceRecomputeDone (l : Lan) (w : PWick) (err : List (Nat × Int)) (s : State) : Host.Outcome State Fault Refusal :=
  .next (earlyRemap l.val (sliceRedone l.val w.val err s))

/-- AUDIT_DONE (R228, R229). -/
def execAuditDone (l : Lan) (s : State) : Host.Outcome State Fault Refusal := .next (earlyRemap l.val (auditDone l.val s))

end Sys2Proof.Machine
end

