-- ==== Sys2Proof/Machine/TwinPair.lean ====
section
/-! DEFINITION. Security violations (R464, R473, R474) and the twin pair (R493 to R499): forming, heartbeats, standby, and the
comparison of tokens. -/

namespace Sys2Proof.Machine

/-! ### Security violations -/

/-- The bit of SEC_VIOL that records a violation (R475). -/
def violationBit : Violation → Nat
  | .rng => 0 | .ksram => 1 | .secwr => 2 | .counter => 3 | .keyslot => 4

/-- SECURITY_VIOLATION (R473). -/
def securityEvent (v : Violation) (s : State) : State :=
  violate (violationBit v) (if v = .rng then { s with sec := { s.sec with rngOk := false } } else s)

/-- SECURITY_VIOLATION (R473). -/
def execSecurityViolation (v : Violation) (s : State) : Host.Outcome State Fault Refusal := .next (securityEvent v s)

/-! ### Forming (R493) -/

/-- A link is a twin port's with the peer as its verified neighbour. -/
def twinLinkOk (s : State) (peer : Pkg) (k : Nat) : Bool :=
  let p := getPort s (k / 2)
  (if k % 2 = 0 then p.twinA else p.twinB) && (getNbr s k).nst == 2 && (getNbr s k).pkg == some peer

/-- The twin links named by an argument. -/
def twinLinks (a : TwinArg) : List Nat := if a.link1 = 0xFF then [a.link0.toNat] else [a.link0.toNat, a.link1.toNat]

/-- The argument is in range. -/
def twinArgOk (a : TwinArg) : Bool :=
  (a.mode == 1 || a.mode == 2) && decide (a.link0.toNat ≤ 31) && (a.link1 == 0xFF || decide (a.link1.toNat ≤ 31)) &&
    decide (a.twait.toNat ≤ 1000)

/-- FLAGS of an argument. -/
def twinFlags (a : TwinArg) : Byte := BitVec.ofNat 8 (b2n a.strict + 2 * b2n a.active)

/-- Both sides' TFORM meet: alike in MODE and CTXID, and in standby exactly one starts active. -/
def formsAgree (a : TwinArg) (mode flags : Byte) (ctxid : W16) : Bool :=
  a.mode == mode && a.ctxid == ctxid && (a.mode != 1 || a.active != (flags.toNat / 2 % 2 == 1))

/-- The command that forms the pair ends. -/
def formEnd (st : TwinSt) (status : W16) (s : State) : State :=
  match s.twin.cmd with
  | none => s
  | some d => finish d status (setTwin st { s with twin := { s.twin with cmd := none, peerForm := none } })

/-- Both TFORM are here (R493). -/
def formMeet (s : State) : State :=
  match s.twin.arg, s.twin.peerForm with
  | some a, some (src, mode, flags, ctxid) =>
    if s.twin.st ≠ .forming ∨ src ≠ a.peer then s
    else if formsAgree a mode flags ctxid then
      formEnd (if a.mode = 2 then .compare else if a.active then .active else .standby) 0
        { s with twin := { s.twin with broken := false, digests := [], results := [] } }
    else formEnd .none_ 0x07 s
  | _, _ => s

/-- TWIN_FORM (R493). -/
def doTwinForm (d : Desc) (a : TwinArg) (s : State) : State :=
  runCmd d .twin false false false (fun s =>
    if !twinArgOk a || (slotOf s a.ctxid).isNone then finish d 0x07 s
    else if s.twin.st = .forming then finish d 0x05 s
    else if a.peer.toNat / 2048 = s.fab.myid.toNat / 2048 ∨ !(twinLinks a).all (twinLinkOk s a.peer) then finish d 0x0A01 s
    else
      let s := keepProg d { s with twin := { s.twin with arg := some a, cmd := some d } }
      let s := setTwin .forming s
      formMeet (sendMsg { hdrOf 0x30 a.peer.toNat with ctx := a.ctxid } (.tform a.mode (twinFlags a) a.ctxid a.twait) s)) s

/-- TWIN_FORM (R493). -/
def execTwinForm (d : Desc) (a : TwinArg) (s : State) : Host.Outcome State Fault Refusal := .next (doTwinForm d a s)

/-- TFORM_RECEIVE (R493). -/
def doTform (k : Nat) (m : Msg) (s : State) : State :=
  receive k m 0x30 (fun s => match m.body with
    | .tform mode flags ctxid _ => formMeet { s with twin := { s.twin with peerForm := some (m.hdr.src, mode, flags, ctxid) } }
    | _ => s) s

/-- TFORM_RECEIVE (R493). -/
def execTformReceive (k : LinkI) (m : Msg) (s : State) : Host.Outcome State Fault Refusal := .next (doTform k.val m s)

/-! ### Tokens that wait (R497) -/

/-- Release records with a token drawn, by context slot. -/
def drawnRecs (s : State) : List (Nat × RelRec × Drawn) :=
  (ctxSlots s).flatMap (fun c => match getCtx s c with
    | none => []
    | some x => x.rel.filterMap (fun r => if r.retired then none else r.drawn.map (fun d => (c, r, d))))

/-- A waiting token goes on without COMPARED; one under arbitration by the own daylight result. -/
def letGo (s : State) (p : Nat × RelRec × Drawn) : State :=
  let r := p.2.1
  let s := if p.2.2.arb && p.2.2.mine.isNone then arbitrate p.1 r.inst s else s
  if p.2.2.twinWait || p.2.2.arb then
    match r.retiring with
    | some e => retireRel p.1 r.num e s
    | none => updDrawn p.1 r.inst (fun d => { d with twinWait := false, arb := false }) s
  else s

/-- Every waiting token goes on. -/
def letAllGo (s : State) : State := (drawnRecs s).foldl letGo s

/-- The pair's argument asks for STRICT. -/
def twinStrict (s : State) : Bool := match s.twin.arg with | none => false | some a => a.strict

/-! ### Ending a pair, its state, its limits -/

/-- TWIN_DISSOLVE (R393): the pair ends; tokens that waited for it go on. -/
def doTwinDissolve (d : Desc) (s : State) : State :=
  runCmd d .twin false false false (fun s =>
    let s := formEnd .none_ 0x0A01 s
    let s := letAllGo s
    finish d 0 (setTwin .none_ { s with twin := { s.twin with arg := none, peerForm := none, digests := [], results := [] } })) s

/-- TWIN_DISSOLVE (R393). -/
def execTwinDissolve (d : Desc) (s : State) : Host.Outcome State Fault Refusal := .next (doTwinDissolve d s)

/-- TWIN_STATUS (R499): the pair state's code, one byte as in THEART. -/
def execTwinStatus (d : Desc) (s : State) : Host.Outcome State Fault Refusal :=
  .next (runCmd d .twin false false false (fun s => finishOut d 1 [BitVec.ofNat 8 s.twin.st.code] s) s)

/-- A TWIN.FORM whose peer has not answered in its bound ends without a peer (R393, R493). -/
def formLimit (r : Nat) (tag : W64) (s : State) : State :=
  match s.twin.cmd with
  | some d => if d.ring.val = r ∧ d.tag = tag then formEnd .none_ 0x0A01 s else s
  | none => s

/-- COMMAND_TIME_LIMIT (R393). -/
def execCommandTimeLimit (r : RingI) (tag : W64) (s : State) : Host.Outcome State Fault Refusal :=
  .next (formLimit r.val tag (cmdLimit r.val tag s))

/-! ### Heartbeats (R495, R496) -/

/-- A message of its own on one link. -/
def sendOn (s : State) (h : Hdr) (b : Body) (k : Nat) : State :=
  let key := h.dst.toNat * 8 + 5
  let m : Msg := { hdr := { h with src := s.fab.myid, hops := 64, msn := Tab.get 0 s.fab.msn key,
                                   len := BitVec.ofNat 32 (bodyLen b) },
                   vl := 5, body := b }
  if linkUp s k then linkPut k 5 (.msg m) { s with fab := { s.fab with msn := Tab.upd 0 s.fab.msn key (fun n => n + 1) } } else s

/-- TWIN_HEARTBEAT_SEND (R495): on every twin link. -/
def sendHeart (s : State) : State :=
  match s.twin.arg with
  | none => s
  | some a =>
    if s.snuf.wheld ∨ s.twin.st = .none_ then s
    else
      let b : Body := .theart (BitVec.ofNat 8 s.twin.st.code) s.twin.broken
      (twinLinks a).foldl (fun s k => sendOn s { hdrOf 0x34 a.peer.toNat with ctx := a.ctxid } b k) s

/-- TWIN_HEARTBEAT_SEND (R495). -/
def execTwinHeartbeatSend (s : State) : Host.Outcome State Fault Refusal := .next (sendHeart s)

/-- THEART_RECEIVE (R496): a broken twin is taken over from; a broken active system then becomes standby; two active ones
are split. -/
def doTheart (k : Nat) (m : Msg) (s : State) : State :=
  receive k m 0x34 (fun s => match m.body, s.twin.arg with
    | .theart st broken, some a =>
      if m.hdr.src ≠ a.peer then s
      else if s.twin.st = .standby ∧ broken then setTwin .active s
      else if s.twin.st = .active ∧ (st = 2 ∨ st = 6) then
        if s.twin.broken then setTwin .standby s else if broken then s else setTwin .split s
      else s
    | _, _ => s) s

/-- THEART_RECEIVE (R496). -/
def execTheartReceive (k : LinkI) (m : Msg) (s : State) : Host.Outcome State Fault Refusal := .next (doTheart k.val m s)

/-- TWIN_LOST (R495 to R498): no THEART for 5 ms. -/
def twinLost (s : State) : State :=
  match s.twin.st with
  | .standby => setTwin .active s
  | .compare => if twinStrict s then s else setTwin .single (letAllGo s)
  | _ => s

/-- TWIN_LOST (R496). -/
def execTwinLost (s : State) : Host.Outcome State Fault Refusal := .next (twinLost s)

/-! ### Comparison (R497) -/

/-- A twin message about a request: what it brings is kept, then the request goes on. -/
def receiveTwin (k : Nat) (m : Msg) (kind : Nat) (body : Nat → RelRec → State → State) (s : State) : State :=
  receive k m kind (fun s =>
    let fromPeer : Bool := match s.twin.arg with | none => false | some a => a.peer == m.hdr.src
    if fromPeer && comparing s m.hdr.ctx then
      match msgCtx s m.hdr with
      | none => s
      | some c =>
        let s := match m.body with
          | .tdigest v => { s with twin := { s.twin with digests := s.twin.digests ++ [(m.hdr.reqtag, m.hdr.tindex, v)] } }
          | .tresult v => { s with twin := { s.twin with results := s.twin.results ++ [(m.hdr.reqtag, m.hdr.tindex, v)] } }
          | _ => s
        match (getCtx s c).bind (fun x => relOf x (numOf m.hdr.reqtag)) with
        | none => s
        | some r => body c r s
    else s) s

/-- TDIGEST_RECEIVE (R497). -/
def doTdigest (k : Nat) (m : Msg) (s : State) : State := receiveTwin k m 0x31 (fun c r s => digestMeet c r.inst s) s

/-- TDIGEST_RECEIVE (R497). -/
def execTdigestReceive (k : LinkI) (m : Msg) (s : State) : Host.Outcome State Fault Refusal := .next (doTdigest k.val m s)

/-- TACT_RECEIVE (R497): the arbitrated token's activation. -/
def doTact (k : Nat) (m : Msg) (s : State) : State :=
  receiveTwin k m 0x32 (fun c r s => match r.drawn with
    | some d => if d.arb && d.mine.isNone && d.tindex == m.hdr.tindex then resultMeet c r.inst (arbitrate c r.inst s) else s
    | none => s) s

/-- TACT_RECEIVE (R497). -/
def execTactReceive (k : LinkI) (m : Msg) (s : State) : Host.Outcome State Fault Refusal := .next (doTact k.val m s)

/-- TRESULT_RECEIVE (R497). -/
def doTresult (k : Nat) (m : Msg) (s : State) : State := receiveTwin k m 0x33 (fun c r s => resultMeet c r.inst s) s

/-- TRESULT_RECEIVE (R497). -/
def execTresultReceive (k : LinkI) (m : Msg) (s : State) : Host.Outcome State Fault Refusal := .next (doTresult k.val m s)

/-- TWIN_DIGEST_TIMEOUT (R497): without STRICT the token goes on and the pair is SINGLE. -/
def digestTimeout (reqtag tindex : W32) (s : State) : State :=
  match (drawnRecs s).find? (fun p => numOf reqtag == p.2.1.num && p.2.2.tindex == tindex && p.2.2.twinWait) with
  | none => s
  | some p => if twinStrict s then s else setTwin .single (letGo s p)

/-- TWIN_DIGEST_TIMEOUT (R497). -/
def execTwinDigestTimeout (reqtag tindex : W32) (s : State) : Host.Outcome State Fault Refusal :=
  .next (digestTimeout reqtag tindex s)

end Sys2Proof.Machine
end

