-- ==== Sys2Proof/Machine/Dispatch.lean ====
section
/-! DEFINITION. What each command does: one arm per row of the table. -/

namespace Sys2Proof.Machine

/-- The effect of a command on everything but the queue. -/
def exec (i : Instr) (s : State) : Host.Outcome State Fault Refusal :=
  match i with
  | .powerOnReset => Sys2Proof.Machine.execPowerOnReset s
  | .dieReset src => Sys2Proof.Machine.execDieReset src s
  | .rootPllLock brdHigh => Sys2Proof.Machine.execRootPllLock brdHigh s
  | .bootRom b => Sys2Proof.Machine.execBootRom b s
  | .stackTrainingDone n r repairs => Sys2Proof.Machine.execStackTrainingDone n r repairs s
  | .startUpConfigure => Sys2Proof.Machine.execStartUpConfigure s
  | .stackOverwriteDone n => Sys2Proof.Machine.execStackOverwriteDone n s
  | .counterFloorRaise => Sys2Proof.Machine.execCounterFloorRaise s
  | .supplyWarning p => Sys2Proof.Machine.execSupplyWarning p s
  | .supplyRecovery p => Sys2Proof.Machine.execSupplyRecovery p s
  | .freezeResume => Sys2Proof.Machine.execFreezeResume s
  | .supplyWarningLong p => Sys2Proof.Machine.execSupplyWarningLong p s
  | .supplyResetLevel p => Sys2Proof.Machine.execSupplyResetLevel p s
  | .supplyOvervoltage p => Sys2Proof.Machine.execSupplyOvervoltage p s
  | .pllLockLoss => Sys2Proof.Machine.execPllLockLoss s
  | .holdoverEnd => Sys2Proof.Machine.execHoldoverEnd s
  | .clkHalfWrite east v => Sys2Proof.Machine.execClkHalfWrite east v s
  | .clockDividerApply => Sys2Proof.Machine.execClockDividerApply s
  | .clkSeamGateWrite v => Sys2Proof.Machine.execClkSeamGateWrite v s
  | .seamHangWatchdog east => Sys2Proof.Machine.execSeamHangWatchdog east s
  | .flicker draws => Sys2Proof.Machine.execFlicker draws s
  | .wickStepComplete l w err bad => Sys2Proof.Machine.execWickStepComplete l w err bad s
  | .sliceRecomputeDone l w err => Sys2Proof.Machine.execSliceRecomputeDone l w err s
  | .flareBoundary l => Sys2Proof.Machine.execFlareBoundary l s
  | .flareComplete c => Sys2Proof.Machine.execFlareComplete c s
  | .budgetWindow meas => Sys2Proof.Machine.execBudgetWindow meas s
  | .cutEpoch hot energy => Sys2Proof.Machine.execCutEpoch hot energy s
  | .thermalTrip d => Sys2Proof.Machine.execThermalTrip d s
  | .wickWrctlStart l w v => Sys2Proof.Machine.execWickWrctlStart l w v s
  | .wickWriteDone l w reads => Sys2Proof.Machine.execWickWriteDone l w reads s
  | .wickRepairPassDone l w reads => Sys2Proof.Machine.execWickRepairPassDone l w reads s
  | .wickRbctlStart l w v => Sys2Proof.Machine.execWickRbctlStart l w v s
  | .readbackDone l w => Sys2Proof.Machine.execReadbackDone l w s
  | .lookupCandidateConfirm l w col => Sys2Proof.Machine.execLookupCandidateConfirm l w col s
  | .wckColmapWrite l w n v => Sys2Proof.Machine.execWckColmapWrite l w n v s
  | .wckCfgWrite l w v => Sys2Proof.Machine.execWckCfgWrite l w v s
  | .inputBlockArrival l b good => Sys2Proof.Machine.execInputBlockArrival l b good s
  | .broadcast p lans b => Sys2Proof.Machine.execBroadcast p lans b s
  | .chainPartialArrival l m good => Sys2Proof.Machine.execChainPartialArrival l m good s
  | .lntSwapArm l v => Sys2Proof.Machine.execLntSwapArm l v s
  | .lntIssueWrite l v => Sys2Proof.Machine.execLntIssueWrite l v s
  | .lntCfgWrite l v => Sys2Proof.Machine.execLntCfgWrite l v s
  | .momentWindowEnd l slice => Sys2Proof.Machine.execMomentWindowEnd l slice s
  | .rotationCycle l => Sys2Proof.Machine.execRotationCycle l s
  | .fullTrimWindowDone l => Sys2Proof.Machine.execFullTrimWindowDone l s
  | .driveRefCalDue l => Sys2Proof.Machine.execDriveRefCalDue l s
  | .driveRefCalGapWait l => Sys2Proof.Machine.execDriveRefCalGapWait l s
  | .driveRefCalDone l => Sys2Proof.Machine.execDriveRefCalDone l s
  | .deviceRecordWrite => Sys2Proof.Machine.execDeviceRecordWrite s
  | .monConversionDone n level err => Sys2Proof.Machine.execMonConversionDone n level err s
  | .monUrgGo gov v => Sys2Proof.Machine.execMonUrgGo gov v s
  | .monCvGo n v => Sys2Proof.Machine.execMonCvGo n v s
  | .auditDone l => Sys2Proof.Machine.execAuditDone l s
  | .suspectDecay l => Sys2Proof.Machine.execSuspectDecay l s
  | .settleSend c inst => Sys2Proof.Machine.execSettleSend c inst s
  | .lanternRemap ll closing => Sys2Proof.Machine.execLanternRemap ll closing s
  | .patrolPass n corrected bad => Sys2Proof.Machine.execPatrolPass n corrected bad s
  | .sliceClearDone n => Sys2Proof.Machine.execSliceClearDone n s
  | .scnOwnWrite n v => Sys2Proof.Machine.execScnOwnWrite n v s
  | .xbrSlotmapWrite k v => Sys2Proof.Machine.execXbrSlotmapWrite k v s
  | .pwrCtxwWrite c v => Sys2Proof.Machine.execPwrCtxwWrite c v s
  | .vraiseStepDown n => Sys2Proof.Machine.execVraiseStepDown n s
  | .sconceRetire n => Sys2Proof.Machine.execSconceRetire n s
  | .vecControl l t w => Sys2Proof.Machine.execVecControl l t w s
  | .vecFloat l t w chk => Sys2Proof.Machine.execVecFloat l t w chk s
  | .vecDot2 l t w chk => Sys2Proof.Machine.execVecDot2 l t w chk s
  | .vecDot4 l t w chk => Sys2Proof.Machine.execVecDot4 l t w chk s
  | .vecInteger l t w chk => Sys2Proof.Machine.execVecInteger l t w chk s
  | .vecConvert l t w chk => Sys2Proof.Machine.execVecConvert l t w chk s
  | .vecCompare l t w chk => Sys2Proof.Machine.execVecCompare l t w chk s
  | .vecReduce l t w chk => Sys2Proof.Machine.execVecReduce l t w chk s
  | .vecSpecial l t w chk => Sys2Proof.Machine.execVecSpecial l t w chk s
  | .rot l t w chk => Sys2Proof.Machine.execRot l t w chk s
  | .rotl1 l t w chk => Sys2Proof.Machine.execRotl1 l t w chk s
  | .gather l t w chk => Sys2Proof.Machine.execGather l t w chk s
  | .scatter l t w chk => Sys2Proof.Machine.execScatter l t w chk s
  | .tkpush l t w chk => Sys2Proof.Machine.execTkpush l t w chk s
  | .tkpop l t w => Sys2Proof.Machine.execTkpop l t w s
  | .load l t w => Sys2Proof.Machine.execLoad l t w s
  | .loadDataReturn l t n ecc bad shadow => Sys2Proof.Machine.execLoadDataReturn l t n ecc bad shadow s
  | .store l t w chk => Sys2Proof.Machine.execStore l t w chk s
  | .atomic l t w chk => Sys2Proof.Machine.execAtomic l t w chk s
  | .send l t w chk => Sys2Proof.Machine.execSend l t w chk s
  | .recv l t w => Sys2Proof.Machine.execRecv l t w s
  | .fire l t w f => Sys2Proof.Machine.execFire l t w f s
  | .waitf l t w => Sys2Proof.Machine.execWaitf l t w s
  | .vecPrivileged l t w => Sys2Proof.Machine.execVecPrivileged l t w s
  | .kernelTimeLimit c inv => Sys2Proof.Machine.execKernelTimeLimit c inv s
  | .vecCtlKill l v => Sys2Proof.Machine.execVecCtlKill l v s
  | .lmpCfgEn v => Sys2Proof.Machine.execLmpCfgEn v s
  | .lmpPauseWrite c v => Sys2Proof.Machine.execLmpPauseWrite c v s
  | .mbxSqDoorbell r v => Sys2Proof.Machine.execMbxSqDoorbell r v s
  | .mbxCqDoorbell r v => Sys2Proof.Machine.execMbxCqDoorbell r v s
  | .mbxAttach e => Sys2Proof.Machine.execMbxAttach e s
  | .mbxReattach e => Sys2Proof.Machine.execMbxReattach e s
  | .reattachDiscardTimeout r => Sys2Proof.Machine.execReattachDiscardTimeout r s
  | .descriptorFetch r res => Sys2Proof.Machine.execDescriptorFetch r res s
  | .notificationFlush r => Sys2Proof.Machine.execNotificationFlush r s
  | .commandTimeLimit r tag => Sys2Proof.Machine.execCommandTimeLimit r tag s
  | .coreWatchdogExpiry core => Sys2Proof.Machine.execCoreWatchdogExpiry core s
  | .sysHello d vmin vmax => Sys2Proof.Machine.execSysHello d vmin vmax s
  | .sysInfo d => Sys2Proof.Machine.execSysInfo d s
  | .sysTime d => Sys2Proof.Machine.execSysTime d s
  | .sysRing d ring action e => Sys2Proof.Machine.execSysRing d ring action e s
  | .sysPower d limit arr vec xbr stk ser ctl => Sys2Proof.Machine.execSysPower d limit arr vec xbr stk ser ctl s
  | .sysClock d east adiv ndiv => Sys2Proof.Machine.execSysClock d east adiv ndiv s
  | .sysShutdown d => Sys2Proof.Machine.execSysShutdown d s
  | .sysReset d => Sys2Proof.Machine.execSysReset d s
  | .ctxCreate d a keydig => Sys2Proof.Machine.execCtxCreate d a keydig s
  | .ctxDestroy d ctxid => Sys2Proof.Machine.execCtxDestroy d ctxid s
  | .ctxPipeline d ctxid path => Sys2Proof.Machine.execCtxPipeline d ctxid path s
  | .ctxWeight d ctxid weight => Sys2Proof.Machine.execCtxWeight d ctxid weight s
  | .ctxPause d => Sys2Proof.Machine.execCtxPause d s
  | .ctxResume d => Sys2Proof.Machine.execCtxResume d s
  | .ctxKload d k => Sys2Proof.Machine.execCtxKload d k s
  | .ctxKunload d handle => Sys2Proof.Machine.execCtxKunload d handle s
  | .ctxKrun d handle entry lmask => Sys2Proof.Machine.execCtxKrun d handle entry lmask s
  | .ctxAttest d nonce => Sys2Proof.Machine.execCtxAttest d nonce s
  | .ctxEmbers d => Sys2Proof.Machine.execCtxEmbers d s
  | .wgtSession d => Sys2Proof.Machine.execWgtSession d s
  | .wgtKey d keyid key => Sys2Proof.Machine.execWgtKey d keyid key s
  | .wgtLand d off len => Sys2Proof.Machine.execWgtLand d off len s
  | .wgtLoad d epoch ents => Sys2Proof.Machine.execWgtLoad d epoch ents s
  | .wgtAdopt d epoch strict toks => Sys2Proof.Machine.execWgtAdopt d epoch strict toks s
  | .wgtReplace d old new drain => Sys2Proof.Machine.execWgtReplace d old new drain s
  | .wgtDrop d epoch => Sys2Proof.Machine.execWgtDrop d epoch s
  | .wgtStatus d => Sys2Proof.Machine.execWgtStatus d s
  | .adpLoad d slot gen ents => Sys2Proof.Machine.execAdpLoad d slot gen ents s
  | .adpReplace d slot gen ents => Sys2Proof.Machine.execAdpReplace d slot gen ents s
  | .adpFree d slot => Sys2Proof.Machine.execAdpFree d slot s
  | .adpStatus d => Sys2Proof.Machine.execAdpStatus d s
  | .reqSubmit d a => Sys2Proof.Machine.execReqSubmit d a s
  | .reqCancel d reqtag => Sys2Proof.Machine.execReqCancel d reqtag s
  | .reqResume d reqtag deadline maxtok tokens => Sys2Proof.Machine.execReqResume d reqtag deadline maxtok tokens s
  | .reqLedger d reqtag => Sys2Proof.Machine.execReqLedger d reqtag s
  | .reqReplay d reqtag form differ => Sys2Proof.Machine.execReqReplay d reqtag form differ s
  | .reqLog d reqtag => Sys2Proof.Machine.execReqLog d reqtag s
  | .calRead d lans wicks sets => Sys2Proof.Machine.execCalRead d lans wicks sets s
  | .calTrim d ll w => Sys2Proof.Machine.execCalTrim d ll w s
  | .calConfig d lmask cfg drcfg => Sys2Proof.Machine.execCalConfig d lmask cfg drcfg s
  | .chkRate d lmask audlog => Sys2Proof.Machine.execChkRate d lmask audlog s
  | .chkStatus d => Sys2Proof.Machine.execChkStatus d s
  | .chkAudit d lmask => Sys2Proof.Machine.execChkAudit d lmask s
  | .monSeq d ents len => Sys2Proof.Machine.execMonSeq d ents len s
  | .monRead d => Sys2Proof.Machine.execMonRead d s
  | .fabPort d port v => Sys2Proof.Machine.execFabPort d port v s
  | .fabId d id => Sys2Proof.Machine.execFabId d id s
  | .fabRoute d bank first ents => Sys2Proof.Machine.execFabRoute d bank first ents s
  | .fabFlip d => Sys2Proof.Machine.execFabFlip d s
  | .fabChain d n v => Sys2Proof.Machine.execFabChain d n v s
  | .fabWrr d v => Sys2Proof.Machine.execFabWrr d v s
  | .fabNeighbors d => Sys2Proof.Machine.execFabNeighbors d s
  | .twinForm d a => Sys2Proof.Machine.execTwinForm d a s
  | .twinDissolve d => Sys2Proof.Machine.execTwinDissolve d s
  | .twinStatus d => Sys2Proof.Machine.execTwinStatus d s
  | .diagEmbers d => Sys2Proof.Machine.execDiagEmbers d s
  | .diagSnapshot d blocks => Sys2Proof.Machine.execDiagSnapshot d blocks s
  | .diagLoopback d port => Sys2Proof.Machine.execDiagLoopback d port s
  | .diagCounters d => Sys2Proof.Machine.execDiagCounters d s
  | .fabPcfgWrite p v => Sys2Proof.Machine.execFabPcfgWrite p v s
  | .fabRtctlFlip v => Sys2Proof.Machine.execFabRtctlFlip v s
  | .linkTrainingDone k lanesOk rev polinv => Sys2Proof.Machine.execLinkTrainingDone k lanesOk rev polinv s
  | .linkAlignDone k => Sys2Proof.Machine.execLinkAlignDone k s
  | .linitReceive k m => Sys2Proof.Machine.execLinitReceive k m s
  | .linkStateLimitExpiry k => Sys2Proof.Machine.execLinkStateLimitExpiry k s
  | .linkDownRetrain k => Sys2Proof.Machine.execLinkDownRetrain k s
  | .linkSignalLoss k => Sys2Proof.Machine.execLinkSignalLoss k s
  | .linkNoFlitTimeout k => Sys2Proof.Machine.execLinkNoFlitTimeout k s
  | .linkReferenceLoss east => Sys2Proof.Machine.execLinkReferenceLoss east s
  | .flitReceive k f c => Sys2Proof.Machine.execFlitReceive k f c s
  | .flitSend k => Sys2Proof.Machine.execFlitSend k s
  | .replayTimeout k => Sys2Proof.Machine.execReplayTimeout k s
  | .helloReceive k m => Sys2Proof.Machine.execHelloReceive k m s
  | .attestReceive k r => Sys2Proof.Machine.execAttestReceive k r s
  | .verdictReceive k accept => Sys2Proof.Machine.execVerdictReceive k accept s
  | .linkStateReceive k withheld => Sys2Proof.Machine.execLinkStateReceive k withheld s
  | .keyxReceive k cipher ok => Sys2Proof.Machine.execKeyxReceive k cipher ok s
  | .discoverAttemptTimeout k nonce => Sys2Proof.Machine.execDiscoverAttemptTimeout k nonce s
  | .quarantineHelloRepeat k nonce => Sys2Proof.Machine.execQuarantineHelloRepeat k nonce s
  | .keyPhaseAdvance k => Sys2Proof.Machine.execKeyPhaseAdvance k s
  | .keyReexchange k => Sys2Proof.Machine.execKeyReexchange k s
  | .messageRelay k m => Sys2Proof.Machine.execMessageRelay k m s
  | .egressNoRouteTimeout dst => Sys2Proof.Machine.execEgressNoRouteTimeout dst s
  | .actReceive k m bad => Sys2Proof.Machine.execActReceive k m bad s
  | .s40Receive k m bad => Sys2Proof.Machine.execS40Receive k m bad s
  | .reductionResendTimer c inst tindex layer => Sys2Proof.Machine.execReductionResendTimer c inst tindex layer s
  | .reductionRecordExpiry c inst tindex layer => Sys2Proof.Machine.execReductionRecordExpiry c inst tindex layer s
  | .curfewSet k m => Sys2Proof.Machine.execCurfewSet k m s
  | .curfewLift k m closing => Sys2Proof.Machine.execCurfewLift k m closing s
  | .curfewQuery k m => Sys2Proof.Machine.execCurfewQuery k m s
  | .curfewReport k m => Sys2Proof.Machine.execCurfewReport k m s
  | .holdRuleTimeout ctx cfid closing => Sys2Proof.Machine.execHoldRuleTimeout ctx cfid closing s
  | .waveQueryTimer c => Sys2Proof.Machine.execWaveQueryTimer c s
  | .curfewResendTimer c => Sys2Proof.Machine.execCurfewResendTimer c s
  | .waveDrainExpiry c => Sys2Proof.Machine.execWaveDrainExpiry c s
  | .taperReceive k m dig => Sys2Proof.Machine.execTaperReceive k m dig s
  | .taperReqReceive k m => Sys2Proof.Machine.execTaperReqReceive k m s
  | .nextReceive k m => Sys2Proof.Machine.execNextReceive k m s
  | .withheldReceive k m => Sys2Proof.Machine.execWithheldReceive k m s
  | .commitReceive k m => Sys2Proof.Machine.execCommitReceive k m s
  | .discardReceive k m => Sys2Proof.Machine.execDiscardReceive k m s
  | .suspectReceive k m => Sys2Proof.Machine.execSuspectReceive k m s
  | .settleReceive k m => Sys2Proof.Machine.execSettleReceive k m s
  | .resendReceive k m => Sys2Proof.Machine.execResendReceive k m s
  | .epochMissReceive k m => Sys2Proof.Machine.execEpochMissReceive k m s
  | .retiredInstanceExpiry ctx inst => Sys2Proof.Machine.execRetiredInstanceExpiry ctx inst s
  | .tformReceive k m => Sys2Proof.Machine.execTformReceive k m s
  | .tdigestReceive k m => Sys2Proof.Machine.execTdigestReceive k m s
  | .tactReceive k m => Sys2Proof.Machine.execTactReceive k m s
  | .tresultReceive k m => Sys2Proof.Machine.execTresultReceive k m s
  | .theartReceive k m => Sys2Proof.Machine.execTheartReceive k m s
  | .twinHeartbeatSend => Sys2Proof.Machine.execTwinHeartbeatSend s
  | .twinLost => Sys2Proof.Machine.execTwinLost s
  | .twinDigestTimeout reqtag tindex => Sys2Proof.Machine.execTwinDigestTimeout reqtag tindex s
  | .requestDispatch c => Sys2Proof.Machine.execRequestDispatch c s
  | .tokenRelease c inst => Sys2Proof.Machine.execTokenRelease c inst s
  | .releaseDeadline c num => Sys2Proof.Machine.execReleaseDeadline c num s
  | .admissionDeadline c num => Sys2Proof.Machine.execAdmissionDeadline c num s
  | .releaseRecordWaitExpiry c inst => Sys2Proof.Machine.execReleaseRecordWaitExpiry c inst s
  | .attentionHoldExpiry c inst => Sys2Proof.Machine.execAttentionHoldExpiry c inst s
  | .prefixLeaseExpiry c slot => Sys2Proof.Machine.execPrefixLeaseExpiry c slot s
  | .shardSegmentsComplete c epoch shard b closing => Sys2Proof.Machine.execShardSegmentsComplete c epoch shard b closing s
  | .shardOverdue c epoch shard => Sys2Proof.Machine.execShardOverdue c epoch shard s
  | .taperReqRepeat c epoch shard => Sys2Proof.Machine.execTaperReqRepeat c epoch shard s
  | .storageCheckPoll c epoch shard b closing => Sys2Proof.Machine.execStorageCheckPoll c epoch shard b closing s
  | .shardFailDeadline c epoch shard => Sys2Proof.Machine.execShardFailDeadline c epoch shard s
  | .shadowRehash c epoch shard ok => Sys2Proof.Machine.execShadowRehash c epoch shard ok s
  | .buddyRehash c epoch shard ok => Sys2Proof.Machine.execBuddyRehash c epoch shard ok s
  | .wickReadbackCheck l w => Sys2Proof.Machine.execWickReadbackCheck l w s
  | .gvlCtlEn v => Sys2Proof.Machine.execGvlCtlEn v s
  | .gvlCtlPrst => Sys2Proof.Machine.execGvlCtlPrst s
  | .gvlCtlRetrain => Sys2Proof.Machine.execGvlCtlRetrain s
  | .gvlCacheFlush => Sys2Proof.Machine.execGvlCacheFlush s
  | .gvlReceiverDetect => Sys2Proof.Machine.execGvlReceiverDetect s
  | .gvlTrainDone goodLanes => Sys2Proof.Machine.execGvlTrainDone goodLanes s
  | .gvlLockDone polinv rev => Sys2Proof.Machine.execGvlLockDone polinv rev s
  | .gvlInitReceive version width credits rtt => Sys2Proof.Machine.execGvlInitReceive version width credits rtt s
  | .gvlStateLimitExpiry => Sys2Proof.Machine.execGvlStateLimitExpiry s
  | .gvlDownRetry => Sys2Proof.Machine.execGvlDownRetry s
  | .gvlRecoveryTrigger c => Sys2Proof.Machine.execGvlRecoveryTrigger c s
  | .gvlRecoveryDone goodLanes => Sys2Proof.Machine.execGvlRecoveryDone goodLanes s
  | .gvlRefclkLoss => Sys2Proof.Machine.execGvlRefclkLoss s
  | .gvlFlitReceive f c corr => Sys2Proof.Machine.execGvlFlitReceive f c corr s
  | .gvlFlitSend => Sys2Proof.Machine.execGvlFlitSend s
  | .gvlReplayTimeout => Sys2Proof.Machine.execGvlReplayTimeout s
  | .hrd m => Sys2Proof.Machine.execHrd m s
  | .hrds m => Sys2Proof.Machine.execHrds m s
  | .hrdx m => Sys2Proof.Machine.execHrdx m s
  | .hrdr m => Sys2Proof.Machine.execHrdr m s
  | .hwr m => Sys2Proof.Machine.execHwr m s
  | .hwrr m => Sys2Proof.Machine.execHwrr m s
  | .hwb m => Sys2Proof.Machine.execHwb m s
  | .hevx m => Sys2Proof.Machine.execHevx m s
  | .hevs m => Sys2Proof.Machine.execHevs m s
  | .snpinvReceive m => Sys2Proof.Machine.execSnpinvReceive m s
  | .sackReceive m => Sys2Proof.Machine.execSackReceive m s
  | .sdataReceive m => Sys2Proof.Machine.execSdataReceive m s
  | .datalReceive m => Sys2Proof.Machine.execDatalReceive m s
  | .lstateReceive m => Sys2Proof.Machine.execLstateReceive m s
  | .hostReadTimeout tag => Sys2Proof.Machine.execHostReadTimeout tag s
  | .deviceReadTimeout tag => Sys2Proof.Machine.execDeviceReadTimeout tag s
  | .snoopTimeout block => Sys2Proof.Machine.execSnoopTimeout block s
  | .sigIntervalExpiry vector => Sys2Proof.Machine.execSigIntervalExpiry vector s
  | .securityViolation v => Sys2Proof.Machine.execSecurityViolation v s
  | .withhold cause detail => Sys2Proof.Machine.execWithhold cause detail s
  | .emberRaise e => Sys2Proof.Machine.execEmberRaise e s
  | .rateWindowClose key => Sys2Proof.Machine.execRateWindowClose key s
  | .platformEventSend p => Sys2Proof.Machine.execPlatformEventSend p s
  | .platformEventResponse p ok => Sys2Proof.Machine.execPlatformEventResponse p ok s
  | .platformEventTimeout p => Sys2Proof.Machine.execPlatformEventTimeout p s
  | .setEndpointId p op eid => Sys2Proof.Machine.execSetEndpointId p op eid s
  | .getEndpointId p => Sys2Proof.Machine.execGetEndpointId p s
  | .getEndpointUuid p => Sys2Proof.Machine.execGetEndpointUuid p s
  | .getMctpVersionSupport p type => Sys2Proof.Machine.execGetMctpVersionSupport p type s
  | .getMessageTypeSupport p => Sys2Proof.Machine.execGetMessageTypeSupport p s
  | .getTid p => Sys2Proof.Machine.execGetTid p s
  | .getPldmVersion p type => Sys2Proof.Machine.execGetPldmVersion p type s
  | .getPldmTypes p => Sys2Proof.Machine.execGetPldmTypes p s
  | .getPldmCommands p type => Sys2Proof.Machine.execGetPldmCommands p type s
  | .setEventReceiver p enable eid => Sys2Proof.Machine.execSetEventReceiver p enable eid s
  | .getPdrRepositoryInfo p => Sys2Proof.Machine.execGetPdrRepositoryInfo p s
  | .getPdr p handle => Sys2Proof.Machine.execGetPdr p handle s
  | .getSensorReading p sensor => Sys2Proof.Machine.execGetSensorReading p sensor s
  | .getStateSensorReadings p sensor => Sys2Proof.Machine.execGetStateSensorReadings p sensor s
  | .pldmUnsupportedCommand p type cmd => Sys2Proof.Machine.execPldmUnsupportedCommand p type cmd s
  | .counterLoRead c => Sys2Proof.Machine.execCounterLoRead c s
  | .gvlHerrRead => Sys2Proof.Machine.execGvlHerrRead s
  | .registerWrite by_ r v => Sys2Proof.Machine.execRegisterWrite by_ r v s
  | .brdRstNRelease => Sys2Proof.Machine.execBrdRstNRelease s
  | .sgmiiLinkChange up => Sys2Proof.Machine.execSgmiiLinkChange up s
  | .i3cDynamicAddress a => Sys2Proof.Machine.execI3cDynamicAddress a s
  | .mctpUnsupportedMessage p => Sys2Proof.Machine.execMctpUnsupportedMessage p s
  | .gvlNoFlitTimeout => Sys2Proof.Machine.execGvlNoFlitTimeout s
  | .privateSramUncorrectable keeper => Sys2Proof.Machine.execPrivateSramUncorrectable keeper s
  | .crossbarFrame => Sys2Proof.Machine.execCrossbarFrame s

end Sys2Proof.Machine
end

