-- ==== Sys2Proof/Safety.lean ====
section
/-! DEFINITION. What claims say of a command: it runs to a next state with a property, what it leaves alone, what every step
keeps, and which commands reset the die. -/

namespace Sys2Proof.Machine

/-- The command answers a next state, and that state has the property. -/
def Runs (c : Sys2Proof.Instr) (s : State) (P : State → Prop) : Prop := ∃ t, exec c s = .next t ∧ P t

/-- The parts of the state, for frames. -/
inductive Part where
  | pending | wicks | lans | engs | lmp | lctx | pwr | mon | chk | scn | snuf | xbr | stks | mem | clk | fab | gvl | mbx
  | ctxs | invs | invNext | attn | posted | sec | flash | twin | mgt | fresh
deriving DecidableEq, Repr

/-- A part is the same in both states. -/
def Part.same (s t : State) : Part → Prop
  | .pending => t.pending = s.pending
  | .wicks => t.wicks = s.wicks
  | .lans => t.lans = s.lans
  | .engs => t.engs = s.engs
  | .lmp => t.lmp = s.lmp
  | .lctx => t.lctx = s.lctx
  | .pwr => t.pwr = s.pwr
  | .mon => t.mon = s.mon
  | .chk => t.chk = s.chk
  | .scn => t.scn = s.scn
  | .snuf => t.snuf = s.snuf
  | .xbr => t.xbr = s.xbr
  | .stks => t.stks = s.stks
  | .mem => t.mem = s.mem
  | .clk => t.clk = s.clk
  | .fab => t.fab = s.fab
  | .gvl => t.gvl = s.gvl
  | .mbx => t.mbx = s.mbx
  | .ctxs => t.ctxs = s.ctxs
  | .invs => t.invs = s.invs
  | .invNext => t.invNext = s.invNext
  | .attn => t.attn = s.attn
  | .posted => t.posted = s.posted
  | .sec => t.sec = s.sec
  | .flash => t.flash = s.flash
  | .twin => t.twin = s.twin
  | .mgt => t.mgt = s.mgt
  | .fresh => t.fresh = s.fresh

/-- Nothing but the listed parts changes: every register, buffer and counter of every other part stays as it was. -/
def Frame (touched : List Part) (s t : State) : Prop := ∀ p, p ∉ touched → p.same s t

/-- What posting a completion, a notification or an ember may touch: the ring, the Garvy Link's stream, companion memory,
the management queues and the model's own counter. -/
def Part.posting : List Part := [.gvl, .mbx, .posted, .mgt, .fresh]

/-- What withholding may touch (R486): launches, engines' requests and streams, links, rings, stacks and embers. -/
def Part.withholding : List Part := [.wicks, .lans, .lmp, .lctx, .chk, .snuf, .stks, .clk, .fab, .ctxs] ++ Part.posting

/-- The package has withheld for this cause. -/
def Withheld (cause : Nat) (t : State) : Prop := t.snuf.wheld = true ∧ t.snuf.cause = BitVec.ofNat 8 cause

/-- Every unit of the die stands at its reset record, clocks apart (R290, R291); wicks keep their cells and counter rows (R40, R68),
and board flash, companion memory, the waiting commands and the model's own counter stay. -/
def AtReset (s t : State) : Prop :=
  t.lmp = Lmp.init ∧ t.lctx = [] ∧ t.pwr = Pwr.init ∧ t.mon = Mon.init ∧ t.chk = ChkDie.init ∧ t.scn = [] ∧ t.snuf = Snuffer.init ∧
    t.xbr = Xbr.init ∧ t.stks = [] ∧ t.lans = [] ∧ t.engs = [] ∧ t.fab = Fab.init ∧ t.gvl = Gvl.init ∧ t.mbx = Mbx.init ∧
    t.ctxs = [] ∧ t.invs = [] ∧ t.invNext = State.reset.invNext ∧ t.attn = [] ∧ t.sec = Sec.init ∧ t.twin = Twin.init ∧
    t.mgt = Mgt.init ∧ t.mem = Mem.init ∧ t.flash = s.flash ∧ t.pending = s.pending ∧ t.posted = s.posted ∧ t.fresh = s.fresh ∧
    ∀ l w, getWick t l w = { Wick.init with cells := (getWick s l w).cells, pgm := (getWick s l w).pgm }

/-- The invariant of every step: memory is in canonical form, and WHELD_N is low while the package withholds (R524). -/
def Inv (s : State) : Prop := s.mem.wf = true ∧ (s.snuf.wheld = true → s.clk.wheldLow = true)

/-- An engine instruction issues (R125, R126, R137): its word is of the class, the thread stands in its slot and may issue, a supplied
kernel's thread holds registers enough, a vector instruction finds room in the duty, the word is legal for the thread and no
operand waits for a load. -/
def Issues (s : State) (l : Lan) (t : ThreadI) (w : W64) (cls : Nat) (f : Form) (th : Thread) : Prop :=
  wClass w = cls ∧ s.snuf.wheld = false ∧ threadAt s l.val t.val = some th ∧
    (8 ≤ t.val ∨ declaredFor (f.vec.foldl max 0 + 1) ≤ th.vregs) ∧ mayIssue s l.val t.val th = true ∧
    (f.vector = true → dutyRoom s l.val = true) ∧ illegalForm th w f = false ∧ operandBusy th f = false

/-- The thread has gone on to its next instruction. -/
def Went (s : State) (l : Lan) (t : ThreadI) (th : Thread) (u : State) : Prop :=
  threadAt s l.val t.val = some th ∧ threadAt u l.val t.val = some { th with pc := th.pc + 8 }

/-- Beside `r`, the physical vector register an instruction wrote, if any, the engine's vector, scalar and predicate registers and
its inbox are as before, and so is every other engine. -/
def EngineElse (s : State) (l : Lan) (r : Option Nat) (u : State) : Prop :=
  (∀ p, some (p / 128) ≠ r → Tab.get 0 (getEng u l.val).regs p = Tab.get 0 (getEng s l.val).regs p) ∧
    (getEng u l.val).sregs = (getEng s l.val).sregs ∧ (getEng u l.val).preds = (getEng s l.val).preds ∧
    (getEng u l.val).inbox = (getEng s l.val).inbox ∧ ∀ k, k ≠ l.val → getEng u k = getEng s k

/-- A lane operation was carried out: the guarded lanes of VD hold the results, its other lanes and every other register are as
before, and the thread has gone on. -/
def LanesGot (s : State) (l : Lan) (t : ThreadI) (w : W64) (th : Thread) (g : Nat → W32) (u : State) : Prop :=
  (∀ i, i < 128 → lane (getEng u l.val) th (wVd w) i =
    if laneOn (getEng s l.val) t.val w i then g i else lane (getEng s l.val) th (wVd w) i) ∧
  Went s l t th u ∧ (getEng u l.val).issue = (getEng s l.val).issue.inc ∧
  EngineElse s l (some (physReg th (wVd w))) u ∧ Frame [.engs, .ctxs] s u

/-- A mailbox command passes the checks every command passes (R379, R387, R391, R392, R395): the package has not withheld,
the command need not wait, its ring's kind takes its family, a version is chosen and start-up is done (save for the commands
that need neither), its descriptor is well formed, and its input could be read where it reads one. -/
def accepted (k : Rings) (early open_ input : Bool) (d : Sys2Proof.Desc) (s : State) : Bool :=
  !s.snuf.wheld && !cmdWaits s d && k.ok d.ring.val && (early || s.mbx.curver != 0) && (open_ || ready s) &&
    !(d.malformed || (d.tmo && (d.timeout == 0 || decide (600000 < d.timeout.toNat)))) && !(input && d.inlen != 0 && !d.inOk)

/-- A context-ring command passes them too, and its ring is bound to a context that exists (R392). -/
def acceptedCtx (input : Bool) (d : Sys2Proof.Desc) (c : Nat) (x : Ctx) (s : State) : Prop :=
  accepted .ctx false false input d s = true ∧ (getRing s d.ring.val).ctx.map (fun i => i.val) = some c ∧
    getCtx s c = some x

/-- A message is delivered to its destination (R323, R324, R327, R536): its port's half has NCLK, it is taken from the link, the package has an ID and has
not withheld, the message is well formed, of the kind and on the kind's lane, is for this package, is no duplicate and of no retired instance;
`w` is the state its kind's own handling begins in. -/
def delivered (k : Nat) (m : Msg) (kind : Nat) (s w : State) : Prop :=
  let t := takeItem k (.msg m) s
  dieWaits s k = false ∧ malformed m = false ∧ t.snuf.wheld = false ∧ t.fab.myidV = true ∧ m.hdr.kind.toNat = kind ∧
    kindVl kind = some m.vl.toNat ∧ m.hdr.dst = t.fab.myid ∧ acceptNum m.hdr.src m.vl m.hdr.msn t = some w ∧ ofRetired w m.hdr = false

/-- A command that resets the die. -/
def isReset (c : Sys2Proof.Instr) : Bool :=
  match c with
  | .powerOnReset => true
  | .dieReset _ => true
  | _ => false

end Sys2Proof.Machine
end

