-- ==== Sys2Proof/Certificates/Slice0/Obligations.lean ====
section
/-! DEFINITION. What is to be proved of the model: for every command where it completes, with its effect and what it leaves alone,
and what every step keeps. -/

section

open Sys2Proof Sys2Proof.Machine

/-- Power-on reset and die reset put the die at its reset values. POWER_ON_RESET and DIE_RESET complete in every state: every unit
of the die is at its reset record, the clocks too after power-on; a die reset keeps the PLL lock, the local time, the supply
events that stand and PWRGD, counts itself, records its cause and takes start-up to its step 1, 2 or 3. Wicks keep their cells
and their program counts and are otherwise as at reset; board flash, companion memory and the waiting commands stay. The fresh
memory contents and register values the spec does not give are the model's own (log 2, 3, 4). Where the manual leaves a point
of these commands open, the clause holds the model's choice (log 14).
Cites R290, R291, R40, R68, R213, R251, R499. -/
def Obligations.ResetsClearTheDie : Prop :=
  (∀ s : State, Runs .powerOnReset s (fun t => t.clk = Clk.init ∧ AtReset s t)) ∧
  (∀ (s : State) (src : RstSrc), Runs (.dieReset src) s (fun t => t.clk = { Clk.init with lock := s.clk.lock, aclk := s.clk.aclk, rstCount := satInc s.clk.rstCount, rstCause := (match src with | .brdRst => 1 | .sysReset => 2), pwrgd := s.clk.pwrgd, active := s.clk.active, brdRstN := (match src with | .brdRst => false | .sysReset => s.clk.brdRstN), step := if s.clk.lock = false then 1 else if src = .brdRst ∨ s.clk.brdRstN = false then 2 else 3 } ∧ AtReset s t))

/-- Start-up goes through its steps. ROOT_PLL_LOCK at step 1 records the lock and the board pin and waits at step 2 while
BRD_RST_N is low; BRD_RST_N_RELEASE goes on from there to step 3; BOOT_ROM at step 3 whose checks all pass takes the root
secret and its keys, runs the chosen image with the accepted configuration under the identity found, ends with every stack in
TRAINING, the application cores out of reset and the management presence started with the addresses of the block;
START_UP_CONFIGURE while EN is 0 and no port is enabled yet gives every recorded wick and lantern its part of the device
record, marks the recorded sconces retired, loads the diode table, and gives governor, clocks, stacks, Garvy Link and ports
their values of the configuration block. All else is unchanged. Where the manual leaves a point of these commands open, the
clause holds the model's choice (log 15, 16, 139, 149, 150, 151).
Cites R292, R456, R458, R461, R500, R520, R530, R451, R459, R200, R482. -/
def Obligations.StartUpSteps : Prop :=
  (∀ (s : State) (high : Bool), s.clk.step = 1 →
    exec (.rootPllLock high) s = .next { s with clk := { s.clk with lock := true, brdRstN := high, step := if high then 3 else 2 } }) ∧
  (∀ s : State, s.clk.step = 2 → exec .brdRstNRelease s = .next { s with clk := { s.clk with brdRstN := true, step := 3 } }) ∧
  (∀ (s : State) (b : BootInput) (slotB : Bool) (i : FwImage) (c : ConfigBlock), s.clk.step = 3 → s.sec.state = 0 →
    s.snuf.wheld = false → b.rngOk = true → pufOk b = true → b.counterOk = true → regionOk b.size b.dir 6 = true → identityOk b = true →
    chooseImage s.flash.fwFloor (inRegion b 3 b.imgA) (inRegion b 4 b.imgB) = some (slotB, i) →
    (inRegion b 2 b.cfg).filter (cfgOk s.flash.cfgFloor) = some c →
    Runs (.bootRom b) s (fun t => (∃ key, t.sec = { s.sec with state := 1, slotB := slotB, svn := i.svn, rngOk := true, image := some i, cfg := some c, iddigest := iddigestOf b.ident, chain := b.ident ++ [aliasOf i (iddigestOf b.ident) key], root := some b.secret, keys := some (keysFrom b.secret) }) ∧
      t.mbx.keeper = true ∧ t.mbx.alive = 0xF ∧ t.clk = { s.clk with step := 5, aclk := s.clk.aclk + 3 * b.cclk } ∧
      t.mgt.started = true ∧ t.mgt.sgmiiEn = c.plat.mgtSgmii ∧ t.mgt.i3c = c.plat.mgtBus ∧ t.mgt.smbAddr = BitVec.ofNat 7 c.plat.smbAddr.toNat ∧
      t.mgt.mac = macOf (iddigestOf b.ident) ∧ t.mgt.ipv4 = c.plat.ipv4 ∧ t.mgt.udpPort = c.plat.udpPort ∧
      (∀ n, n < 16 → getStk t n = { getStk s n with st := .training }) ∧ t.flash = { s.flash with noRec := !regionOk b.size b.dir 5 } ∧
      Frame ([.sec, .clk, .stks, .flash] ++ Part.posting) s t)) ∧
  (∀ (s : State) (c : ConfigBlock), 6 ≤ s.clk.step → s.lmp.en = false → s.sec.cfg = some c → (∀ p : PortI, (getPort s p.val).en = false) →
    Runs .startUpConfigure s (fun t =>
      (∀ (l : Lan) (w : PWick), getWick t l.val w.val = if l.val * 17 + w.val ∈ keysOf s.flash.wicks then recordedWick (recWick s l.val w.val) (getWick s l.val w.val) else getWick s l.val w.val) ∧
      (∀ l : Lan, getLan t l.val = if l.val ∈ keysOf s.flash.lans then recordedLan (recLan s l.val) (getLan s l.val) else getLan s l.val) ∧
      (∀ n : Sconce, getScn t n.val = if n.val ∈ recSconces s then { getScn s n.val with retired := true } else getScn s n.val) ∧
      t.mon.dtab = (if recDiodes s = [] then s.mon.dtab else recDiodes s) ∧ t.pwr = takeShares { s.pwr with limit := BitVec.ofNat 10 c.plat.plimit.toNat, arr := BitVec.ofNat 10 c.plat.sArr.toNat, vec := BitVec.ofNat 10 c.plat.sVec.toNat, xbr := BitVec.ofNat 10 c.plat.sXbr.toNat, stk := BitVec.ofNat 10 c.plat.sStk.toNat, ser := BitVec.ofNat 10 c.plat.sSer.toNat, ctl := BitVec.ofNat 10 c.plat.sCtl.toNat, set := c.plat.thset } ∧
      t.clk = { s.clk with warn := BitVec.ofNat 4 c.plat.warn.toNat, aW := c.plat.adivW, nW := c.plat.ndivW, aE := c.plat.adivE, nE := c.plat.ndivE } ∧
      t.gvl = { s.gvl with wmax := decide (c.plat.gvlW ≠ 0) } ∧ (∀ n : Sconce, getStk t n.val = { getStk s n.val with period := c.plat.patrol }) ∧
      (∀ p : PortI, getPort t p.val = { getPort s p.val with en := decide (c.plat.portEn.toNat / 2 ^ p.val % 2 = 1), split := decide (c.plat.portSplit.toNat / 2 ^ p.val % 2 = 1), ch := decide (c.plat.portCh.toNat / 2 ^ p.val % 2 = 1), txpre := BitVec.ofNat 4 (c.plat.txpre.toNat / 2 ^ (4 * p.val)), encA := c.enc.getD (2 * p.val) 0, encB := c.enc.getD (2 * p.val + 1) 0 }) ∧
      Frame [.wicks, .lans, .scn, .mon, .pwr, .clk, .gvl, .stks, .fab] s t))

/-- Supply and clock events freeze launches or withhold. SUPPLY_WARNING at a point that does not warn records the point as active
and as warned, freezes launches and counts a dip with its time; with fewer than sixteen earlier dips in the last second the
package does not withhold, and with sixteen it withholds with cause 06. SUPPLY_RECOVERY clears its point; where it was the
last under a freeze, the time of recovery is kept. FREEZE_RESUME 1,688 flickers after it lifts the freeze. A warning of 50 µs
that still stands, the reset level and over-voltage record their kind and point and withhold with cause 07 and the point as
detail; loss of lock withholds with cause 08 and enters holdover, whose end makes the clocks untrusted and, after cause 08,
stops the management presence. What a clause does not name is unchanged, or is what withholding, the freeze or the jobs that
start again may touch. Where the manual leaves a point of these commands open, the clause holds the model's choice (log 17,
87).
Cites R174, R288, R289, R206, R485, R499. -/
def Obligations.SupplyEventsFreezeAndWithhold : Prop :=
  (∀ (s : State) (p : PointI), s.clk.active.toNat / 2 ^ p.val % 2 = 0 → Runs (.supplyWarning p) s (fun t =>
    t.clk.active = setBit s.clk.active p.val ∧ t.clk.warned = setBit s.clk.warned p.val ∧ t.lmp.frozen = true ∧
    t.lmp.dipsTotal = satInc s.lmp.dipsTotal ∧ t.lmp.dipTimes = s.lmp.dipTimes.filter (fun f => nowF s < f + 337500000) ++ [nowF s] ∧
    ((s.lmp.dipTimes.filter (fun f => nowF s < f + 337500000)).length < 16 → t.snuf = s.snuf ∧ t.chk = s.chk ∧ t.fab = s.fab ∧ t.stks = s.stks ∧ t.ctxs = s.ctxs) ∧
    Frame (.mon :: Part.withholding) s t)) ∧
  (∀ (s : State) (p : PointI), s.clk.active.toNat / 2 ^ p.val % 2 = 0 → s.snuf.wheld = false →
    (s.lmp.dipTimes.filter (fun f => nowF s < f + 337500000)).length = 16 → Runs (.supplyWarning p) s (fun t => Withheld 6 t ∧ t.snuf.detail = 0 ∧ t.clk.wheldLow = true ∧ Frame (.mon :: Part.withholding) s t)) ∧
  (∀ (s : State) (p : PointI), clrBit s.clk.active p.val = 0 → s.lmp.frozen = true → exec (.supplyRecovery p) s =
    .next { s with clk := { s.clk with active := 0 }, lmp := { s.lmp with recovered := some (nowF s) } }) ∧
  (∀ (s : State) (p : PointI), (clrBit s.clk.active p.val ≠ 0 ∨ s.lmp.frozen = false) → exec (.supplyRecovery p) s =
    .next { s with clk := { s.clk with active := clrBit s.clk.active p.val } }) ∧
  (∀ (s : State) (n : Nat), s.lmp.frozen = true → s.clk.active = 0 → s.lmp.recovered = some n → n + 1688 ≤ nowF s → ∃ u, exec .freezeResume s = .next (kickAll u) ∧
    u.lmp = { s.lmp with frozen := false, recovered := none } ∧ ((∀ k : Sconce, (getScn s k.val).raiseDue = false) → u.scn = s.scn ∧ u.wicks = s.wicks) ∧ Frame [.lmp, .scn, .wicks] s u) ∧
  (∀ (s : State) (p : PointI), s.snuf.wheld = false → s.clk.active.toNat / 2 ^ p.val % 2 = 1 → Runs (.supplyWarningLong p) s (fun t =>
    Withheld 7 t ∧ t.snuf.detail = BitVec.ofNat 16 p.val ∧ t.clk.fltKind = 1 ∧ t.clk.fltPoints = setBit s.clk.fltPoints p.val ∧ t.clk.wheldLow = true ∧ Frame (.mon :: Part.withholding) s t)) ∧
  (∀ (s : State) (p : PointI), s.snuf.wheld = false → Runs (.supplyResetLevel p) s (fun t => Withheld 7 t ∧
    t.snuf.detail = BitVec.ofNat 16 p.val ∧ t.clk.fltKind = 2 ∧ t.clk.fltPoints = setBit s.clk.fltPoints p.val ∧ t.clk.wheldLow = true ∧ Frame (.mon :: Part.withholding) s t)) ∧
  (∀ (s : State) (p : PointI), s.snuf.wheld = false → Runs (.supplyOvervoltage p) s (fun t => Withheld 7 t ∧
    t.snuf.detail = BitVec.ofNat 16 p.val ∧ t.clk.fltKind = 3 ∧ t.clk.fltPoints = setBit s.clk.fltPoints p.val ∧ t.clk.wheldLow = true ∧ Frame (.mon :: Part.withholding) s t)) ∧
  (∀ s : State, s.snuf.wheld = false → Runs .pllLockLoss s (fun t => Withheld 8 t ∧ t.snuf.detail = 0 ∧
    t.clk = { s.clk with lock := false, hold := true, lockLost := true, wheldLow := true } ∧ Frame Part.withholding s t)) ∧
  (∀ s : State, s.clk.hold = true → exec .holdoverEnd s =
    .next { s with clk := { s.clk with untrusted := true }, mgt := if s.snuf.cause = 8 then { s.mgt with started := false } else s.mgt })

/-- Half dividers, their common boundary and the seam gates. A write of CLK_HALFn sets the two requested dividers of its half; a
gated west NCLK, or gating ACLK under a slot in FIRING or HELD, is ignored and sets CFG_ERR; at a flicker that is a multiple
of 12 the requested dividers of both halves come into force, with the local time as it was; CLK_SEAM sets both gates. All else
is unchanged, save that a change of dividers in force may end trim under way, start jobs, free credits held for the east half
and be shown to peers. Where the manual leaves a point of these commands open, the clause holds the model's choice (log 17).
Cites R280, R281, R282, R285, R199. -/
def Obligations.ClockDividersAndGates : Prop :=
  (∀ (s : State) (v : W32), ¬(fld v 1 0 = 3 ∧ halfFiring s true = true) → exec (.clkHalfWrite true v) s =
    .next { s with clk := { s.clk with aE := BitVec.ofNat 2 (fld v 1 0), nE := BitVec.ofNat 2 (fld v 5 4) } }) ∧
  (∀ (s : State) (v : W32), fld v 5 4 ≠ 3 → ¬(fld v 1 0 = 3 ∧ halfFiring s false = true) → exec (.clkHalfWrite false v) s =
    .next { s with clk := { s.clk with aW := BitVec.ofNat 2 (fld v 1 0), nW := BitVec.ofNat 2 (fld v 5 4) } }) ∧
  (∀ (s : State) (east : Bool) (v : W32), (east = false ∧ fld v 5 4 = 3) ∨ (fld v 1 0 = 3 ∧ halfFiring s east = true) →
    exec (.clkHalfWrite east v) s = .next { s with clk := { s.clk with cfgErr := true } }) ∧
  (∀ s : State, nowF s % 12 = 0 → ∃ u, exec .clockDividerApply s = .next (clockShown (kickAll u)) ∧
    u.clk = { s.clk with acE := s.clk.aE, ncE := s.clk.nE, acW := s.clk.aW, ncW := s.clk.nW } ∧ (s.clk.aE = s.clk.acE → s.clk.aW = s.clk.acW → u.lans = s.lans ∧ u.wicks = s.wicks) ∧
    (s.clk.nE = 3 → u.fab = s.fab) ∧ Frame [.clk, .wicks, .lans, .fab, .lmp] s u) ∧
  (∀ (s : State) (v : W32), exec (.clkSeamGateWrite v) s =
    .next { s with clk := { s.clk with gateE := bitAt v 31, gateW := bitAt v 30 } })

/-- A stack trains, is overwritten and patrolled. Training ends READY at 8.0 or 6.4 Gb/s (DEGRADED set) with its repairs counted,
the sconce under SCRUB and the overwrite of the context part begun, or FAILED with the sconce recorded as retired where the
device record can be written. When the overwrite ends every byte of the stack's context part reads 0 and every other byte
reads as before, and the sconce leaves SCRUB; slice clearing does the same for the context-owned regions of both slices and
begins the overwrite. A patrol pass counts itself, the blocks corrected and the blocks uncorrectable, and sets their status
bits. All else is unchanged, save what a post may touch. Where the manual leaves a point of these commands open, the clause
holds the model's choice (log 93, 100).
Cites R270, R273, R275, R264, R482, R292. -/
def Obligations.StacksTrainScrubAndPatrol : Prop :=
  (∀ (s : State) (n : Sconce) (rep : Nat), (getStk s n.val).st = .training → Runs (.stackTrainingDone n .full rep) s (fun t =>
    getStk t n.val = { getStk s n.val with st := .ready, slow := false, repairs := satOf 8 rep, sysk := true, ctxk := 0, scrubBusy := true, remain := 377487360 } ∧
    getScn t n.val = { getScn s n.val with scrub := true } ∧ Frame [.stks, .scn, .clk] s t)) ∧
  (∀ (s : State) (n : Sconce) (rep : Nat), (getStk s n.val).st = .training → Runs (.stackTrainingDone n .degraded rep) s (fun t =>
    getStk t n.val = { getStk s n.val with st := .ready, slow := true, repairs := satOf 8 rep, sysk := true, ctxk := 0, scrubBusy := true, remain := 377487360, stat := setBit (getStk s n.val).stat 1 } ∧
    getScn t n.val = { getScn s n.val with scrub := true } ∧ Frame ([.stks, .scn, .clk] ++ Part.posting) s t)) ∧
  (∀ (s : State) (n : Sconce) (rep : Nat), (getStk s n.val).st = .training → s.flash.noRec = false → Runs (.stackTrainingDone n .failed rep) s (fun t =>
    getStk t n.val = { getStk s n.val with st := .failed, repairs := satOf 8 rep } ∧ n.val ∈ t.flash.sconces ∧
    Frame ([.stks, .clk, .flash] ++ Part.posting) s t)) ∧
  (∀ (s : State) (n : Sconce), (getStk s n.val).scrubBusy = true → Runs (.stackOverwriteDone n) s (fun t =>
    (∀ a, memGet t.mem a = if localBase + n.val * stackSize ≤ a ∧ a < localBase + n.val * stackSize + ctxPart then 0 else memGet s.mem a) ∧
    getStk t n.val = { getStk s n.val with scrubBusy := false, remain := 0, overwritten := true } ∧ getScn t n.val = { getScn s n.val with scrub := false, scrubCmd := none } ∧
    Frame ([.stks, .scn, .mem] ++ Part.posting) s t)) ∧
  (∀ (s : State) (n : Sconce), (getScn s n.val).scrub = true → (getStk s n.val).scrubBusy = false → Runs (.sliceClearDone n) s (fun t =>
    (∀ a, memGet t.mem a = if (storeBase + 2 * n.val * sliceSize ≤ a ∧ a < storeBase + 2 * n.val * sliceSize + 0x700000) ∨
        (storeBase + (2 * n.val + 1) * sliceSize ≤ a ∧ a < storeBase + (2 * n.val + 1) * sliceSize + 0x700000) then 0 else memGet s.mem a) ∧
    getStk t n.val = { getStk s n.val with ctxk := 0, scrubBusy := true, remain := 377487360 } ∧ getScn t n.val = getScn s n.val ∧ Frame [.stks, .scn, .mem] s t)) ∧
  (∀ (s : State) (n : Sconce) (corrected : Nat) (bad : List Nat), (getStk s n.val).st = .ready → Runs (.patrolPass n corrected bad) s (fun t =>
    getStk t n.val = { getStk s n.val with passes := (getStk s n.val).passes + 1, cor := satAdd (getStk s n.val).cor corrected, unc := satAdd (getStk s n.val).unc bad.length, stat := (let a := setBit (getStk s n.val).stat 0; let a := if corrected = 0 then a else setBit a 2; if bad = [] then a else setBit a 3) } ∧ Frame (.stks :: Part.posting) s t))

/-- Sconce ownership, the slot map, supply steps and retirement. SCN_OWN sets or clears the owner of a sconce that is not under
scrub and serves nothing; it is ignored with XBR_STAT.CFG_ERR where a lantern serves, a scrub runs, or the owner would be set
while the stack failed or the sconce is retired. A write of XBR_SLOTMAP whose context slots each own a sconce takes its four
slots into the map that waits, and one that names a context slot without a sconce is ignored with CFG_ERR; a frame puts the
waiting map in force, counts itself and gives the lanterns the broadcasts that waited. A supply raise steps down by one where
fewer than four lanterns are suspect; a sconce at its highest supply with four suspect lanterns is marked for retirement and
recorded as retired where the device record can be written. What a clause does not name is unchanged, save the stack and
lanterns of the sconce and what a remap or a post may touch. Where the manual leaves a point of these commands open, the
clause holds the model's choice (log 17).
Cites R253, R255, R260, R483, R484, R482, R479, R272. -/
def Obligations.SconcesAndCrossbar : Prop :=
  (∀ (s : State) (n : Sconce) (v : W32), (getScn s n.val).scrub = false → anyService s n.val = false → bitAt v 13 = true →
    (getStk s n.val).st ≠ .failed → (getScn s n.val).retired = false → Runs (.scnOwnWrite n v) s (fun t =>
    getScn t n.val = { getScn s n.val with owner := some (Fin.ofNat 16 (fld v 12 9)) } ∧ Frame [.scn, .stks, .lans] s t)) ∧
  (∀ (s : State) (n : Sconce) (v : W32), (getScn s n.val).scrub = false → anyService s n.val = false → bitAt v 13 = false →
    Runs (.scnOwnWrite n v) s (fun t => getScn t n.val = { getScn s n.val with owner := none } ∧ Frame [.scn, .lans] s t)) ∧
  (∀ (s : State) (n : Sconce) (v : W32), ((getScn s n.val).scrub = true ∨ anyService s n.val = true ∨ (bitAt v 13 = true ∧ ((getStk s n.val).st = .failed ∨ (getScn s n.val).retired = true))) →
    exec (.scnOwnWrite n v) s = .next { s with xbr := { s.xbr with stat := setBit s.xbr.stat 0 } }) ∧
  (∀ (s : State) (k : Sconce) (v : W32), (∀ i, i < 4 → bitAt v (8 * i + 7) = true ∨ sconcesOf s (fld v (8 * i + 3) (8 * i)) ≠ []) → ∃ m,
    exec (.xbrSlotmapWrite k v) s = .next { s with xbr := { s.xbr with slotNext := some m } } ∧ m.length = (slotPending s.xbr).length ∧
    ∀ i, i < m.length → m[i]? = if i / 4 = k.val then some (if bitAt v (8 * (i % 4) + 7) then none else some (Fin.ofNat 16 (fld v (8 * (i % 4) + 3) (8 * (i % 4))))) else (slotPending s.xbr)[i]?) ∧
  (∀ (s : State) (k : Sconce) (v : W32) (i : Nat), i < 4 → bitAt v (8 * i + 7) = false → sconcesOf s (fld v (8 * i + 3) (8 * i)) = [] →
    exec (.xbrSlotmapWrite k v) s = .next { s with xbr := { s.xbr with stat := setBit s.xbr.stat 0 } }) ∧
  (∀ s : State, exec .crossbarFrame s = .next (drainBroadcasts { s with xbr := { s.xbr with slotmap := slotPending s.xbr, slotNext := none, frames := s.xbr.frames + 1 } })) ∧
  (∀ s : State, s.xbr.waiting = [] → exec .crossbarFrame s = .next { s with xbr := { s.xbr with slotmap := slotPending s.xbr, slotNext := none, frames := s.xbr.frames + 1 } }) ∧
  (∀ (s : State) (n : Sconce), suspCount s n.val < 4 → exec (.vraiseStepDown n) s =
    .next (setScn n.val { getScn s n.val with raised := if (getScn s n.val).raised = 0 then 0 else (getScn s n.val).raised - 1 } s)) ∧
  (∀ (s : State) (n : Sconce), (getScn s n.val).raised = 3 → 4 ≤ suspCount s n.val → (getScn s n.val).retire = false → ∃ u, exec (.sconceRetire n) s =
    .next (ember 2 0x0F01 n.val none 0 (addRecSconce n.val (setScn n.val { getScn u n.val with retire := true } u))) ∧
    u = ((lansOf n.val).filter (fun l => (getLan s l).suspect && (getLan s l).st == .service)).foldl (fun s l => match (getLan s l).llan, heldFree s n.val with
      | some ll, some _ => remapLan ll (getLan s l).epoch [] s
      | _, _ => s) s) ∧
  (∀ (s : State) (n : Sconce), (getScn s n.val).raised = 3 → 4 ≤ suspCount s n.val → (getScn s n.val).retire = false → heldFree s n.val = none → s.flash.noRec = false →
    Runs (.sconceRetire n) s (fun t => getScn t n.val = { getScn s n.val with retire := true } ∧ n.val ∈ t.flash.sconces ∧ Frame ([.scn, .flash] ++ Part.posting) s t))

/-- Watchdogs, violations, the thermal trip and the withhold command; floors; the seam watchdog. From a package that has not
withheld, a core watchdog, an uncorrectable private SRAM word, a security violation, the thermal trip and WITHHOLD with a
cause from 1 to 12 withhold with their cause and detail and drive WHELD_N low; the watchdog also sets MBX_STAT.WDOG and takes
its core out of those alive, a violation sets its bit of SEC_VIOL and that of the random source clears its health.
COUNTER_FLOOR_RAISE after EN raises the floor of a committed image to its SVN and of a committed block to its CFGSEQ where
they are higher, never lowers one, and records what was committed. The seam watchdog of a crossing with accesses in flight
flushes them thread by thread, advances the crossing's generation, counts and sets SEAM_HANG. All else is unchanged, or is
what withholding or a post may touch. Where the manual leaves a point of these commands open, the clause holds the model's
choice (log 18).
Cites R485, R486, R499, R378, R459, R473, R287, R171, R524. -/
def Obligations.WithholdCausesAndFloors : Prop :=
  (∀ (s : State) (core : Fin 4), s.snuf.wheld = false → Runs (.coreWatchdogExpiry core) s (fun t =>
    t.snuf = { wheld := true, cause := 9, detail := 0 } ∧ t.clk = { s.clk with wheldLow := true } ∧ t.mbx.wdog = true ∧ t.mbx.alive = clrBit s.mbx.alive core.val ∧ Frame Part.withholding s t)) ∧
  (∀ s : State, s.snuf.wheld = false → Runs (.privateSramUncorrectable false) s (fun t =>
    t.snuf = { wheld := true, cause := 9, detail := 0 } ∧ t.clk = { s.clk with wheldLow := true } ∧ Frame Part.withholding s t)) ∧
  (∀ s : State, s.snuf.wheld = false → Runs (.privateSramUncorrectable true) s (fun t =>
    t.snuf = { wheld := true, cause := 10, detail := 0 } ∧ t.clk = { s.clk with wheldLow := true } ∧ t.sec = { s.sec with viol := setBit s.sec.viol 1 } ∧ Frame (.sec :: Part.withholding) s t)) ∧
  (∀ (s : State) (v : Violation), s.snuf.wheld = false → Runs (.securityViolation v) s (fun t =>
    t.snuf = { wheld := true, cause := 10, detail := 0 } ∧ t.clk = { s.clk with wheldLow := true } ∧
    t.sec = { s.sec with viol := setBit s.sec.viol (match v with | .rng => 0 | .ksram => 1 | .secwr => 2 | .counter => 3 | .keyslot => 4), rngOk := s.sec.rngOk && v != .rng } ∧
    Frame (.sec :: Part.withholding) s t)) ∧
  (∀ (s : State) (cause : Byte) (detail : W16), s.snuf.wheld = false → 1 ≤ cause.toNat → cause.toNat ≤ 12 → Runs (.withhold cause detail) s (fun t =>
    t.snuf = { wheld := true, cause := cause, detail := detail } ∧ t.clk = { s.clk with wheldLow := true } ∧ Frame Part.withholding s t)) ∧
  (∀ (s : State) (d : DiodeI), s.snuf.wheld = false → Runs (.thermalTrip d) s (fun t =>
    t.snuf = { wheld := true, cause := 5, detail := BitVec.ofNat 16 d.val } ∧ t.clk = { s.clk with wheldLow := true } ∧ Frame Part.withholding s t)) ∧
  (∀ (s : State) (i : FwImage) (c : ConfigBlock), s.lmp.en = true → s.sec.state = 1 → s.sec.image = some i → s.sec.cfg = some c → exec .counterFloorRaise s =
    .next { s with flash := { s.flash with fwFloor := if i.commit = true ∧ s.flash.fwFloor < i.svn then i.svn else s.flash.fwFloor, cfgFloor := if c.commit = true ∧ s.flash.cfgFloor < c.cfgseq then c.cfgseq else s.flash.cfgFloor }, sec := { s.sec with fwCommit := s.sec.fwCommit || i.commit, cfgCommit := s.sec.cfgCommit || c.commit } }) ∧
  (∀ (s : State) (east : Bool), inflOf s east ≠ 0 → let u := (allThreads s).foldl (flushThread east) s; Runs (.seamHangWatchdog east) s (fun t =>
    t.engs = u.engs ∧ t.invs = u.invs ∧ t.ctxs = u.ctxs ∧
    t.clk = { s.clk with hangs := s.clk.hangs + 1, genE := if east then s.clk.genE + 1 else s.clk.genE, genW := if east then s.clk.genW else s.clk.genW + 1 } ∧
    t.xbr = { s.xbr with stat := setBit s.xbr.stat 2 } ∧ Frame ([.clk, .xbr, .engs, .invs, .ctxs] ++ Part.posting) s t))

/-- Writes and repair passes of a wick. A START with MAXP of 1 or more that is accepted puts the wick in WRITING from row 0 under
its lantern's owner, with the levels it will program and their format; a refused one sets CFG_ERR and changes nothing else;
without START only MAXP changes. WICK_WRITE_DONE programs the cells, fills the check store from the stream, counts the write
and the columns with unverified cells, and ends READY with RESULT 1 where every logical column verified and the check store
meets its digest; it starts a repair pass from row 0 with the failing columns mapped where free spares suffice, and ends
FAILED with RESULT 3, an ember and the retirement recorded (where the device record can be written) where they do not or the
digest differs. A repair pass whose columns verify ends READY with RESULT 2 and its column map recorded, and fails a lantern
test; one that does not ends FAILED. What the lantern's jobs do next follows (runLan, jobFail, afterJobs). The clauses on
writes leave out the write that reaches a program count of 800,000, which also raises ENDURE. Where the manual leaves a point
of these commands open, the clause holds the model's choice (log 89, 90, 110, 115, 116).
Cites R39, R43, R44, R45, R46, R58, R69, R216, R440, R479. -/
def Obligations.WickWritesStartAndEnd : Prop :=
  (∀ (s : State) (l : Lan) (w : PWick) (v : W32), let x := getWick s l.val w.val
    bitAt v 31 = true → fld v 3 0 ≠ 0 → mayWrite x = true →
    x.pgm.toNat < 999999 → (getLan s l.val).st ≠ .retired → busyOn s l.val < 2 → busyDie s < 2048 → s.lmp.frozen = false → s.snuf.wheld = false →
    Runs (.wickWrctlStart l w v) s (fun t => getWick t l.val w.val = { x with maxp := BitVec.ofNat 4 (fld v 3 0), st := .writing, ctx := ownerOfLan s l.val, lwick := none, wrBusy := true, wrRows := 0, wrResult := 0, failcol := 0, repair := false, stage := .writing, wfmt := fmtOfWick s l.val x, wrFrom := nowF s, wrCells := cellsOf x (streamOf s l.val x) } ∧
      (∀ k, k ≠ l.val * 17 + w.val → Tab.get Wick.init t.wicks k = Tab.get Wick.init s.wicks k) ∧ Frame [.wicks] s t)) ∧
  (∀ (s : State) (l : Lan) (w : PWick) (v : W32), bitAt v 31 = true → (mayWrite (getWick s l.val w.val) = false ∨ (getLan s l.val).st = .retired ∨ 2 ≤ busyOn s l.val ∨ 2048 ≤ busyDie s ∨ s.lmp.frozen = true ∨ s.snuf.wheld = true) →
    exec (.wickWrctlStart l w v) s = .next (setWick l.val w.val { getWick s l.val w.val with stat := setBit (getWick s l.val w.val).stat 6 } s)) ∧
  (∀ (s : State) (l : Lan) (w : PWick) (v : W32), bitAt v 31 = false → exec (.wickWrctlStart l w v) s =
    .next (setWick l.val w.val { getWick s l.val w.val with maxp := BitVec.ofNat 4 (fld v 3 0) } s)) ∧
  (∀ (s : State) (l : Lan) (w : PWick) (reads : Reads), let x := getWick s l.val w.val; let cols := badCols x reads; let ws := streamOf s l.val x
    x.wrBusy = true → x.repair = false → failedCols x cols = [] → storeOk (writeOver l.val w.val reads s) l.val w.val = true → x.pgm.toNat + 1 ≠ 800000 → ∃ u,
    exec (.wickWriteDone l w reads) s = .next (afterJobs (runLan l.val u)) ∧ getWick u l.val w.val = { x with pgm := BitVec.ofNat 24 (x.pgm.toNat + 1), cells := (program reads x).cells, wrCells := [], rs := (checkStore ws).1, rj := (checkStore ws).2, rsBad := [], failcol := satOf 4 cols.length, st := .ready, wrBusy := false, repair := false, wrRows := 2048, wrResult := 1, stat := setBit x.stat 1, stage := if x.job = .none then x.stage else .toTrim } ∧ Frame [.wicks] s u) ∧
  (∀ (s : State) (l : Lan) (w : PWick) (reads : Reads), let x := getWick s l.val w.val; let cols := badCols x reads; let ws := streamOf s l.val x
    x.wrBusy = true → x.repair = false → failedCols x cols ≠ [] → canRepair x cols = true → storeOk (writeOver l.val w.val reads s) l.val w.val = true → x.pgm.toNat + 1 ≠ 800000 →
    ∃ u, exec (.wickWriteDone l w reads) s = .next (afterJobs u) ∧ (let y := getWick u l.val w.val; y.st = .writing ∧ y.wrBusy = true ∧ y.repair = true ∧ y.wrRows = 0 ∧ y.wrFrom = nowF s ∧
      y.failcol = satOf 4 cols.length ∧ y.pgm = BitVec.ofNat 24 (x.pgm.toNat + 1) ∧ y.cells = (program reads x).cells ∧ y.rs = (checkStore ws).1 ∧ y.rj = (checkStore ws).2 ∧ y.wrCells = cellsOf y ws ∧
      (y.cm0, y.cm1, y.cm2, y.cm3) = (let r := repairMap x cols; (r.cm0, r.cm1, r.cm2, r.cm3))) ∧ Frame [.wicks] s u) ∧
  (∀ (s : State) (l : Lan) (w : PWick) (reads : Reads), let x := getWick s l.val w.val; let cols := badCols x reads; let ws := streamOf s l.val x
    x.wrBusy = true → x.repair = false → (storeOk (writeOver l.val w.val reads s) l.val w.val = false ∨ (failedCols x cols ≠ [] ∧ canRepair x cols = false)) → x.pgm.toNat + 1 ≠ 800000 → s.flash.noRec = false → ∃ u,
    exec (.wickWriteDone l w reads) s = .next (afterJobs (runLan l.val (jobFail l.val w.val (ember 2 0x0102 (l.val * 17 + w.val) none cols.length u)))) ∧
    (let y := getWick u l.val w.val; y.st = .failed ∧ y.wrBusy = false ∧ y.wrResult = 3 ∧ y.failcol = satOf 4 cols.length ∧ y.stat = setBit x.stat 2 ∧ y.pgm = BitVec.ofNat 24 (x.pgm.toNat + 1)) ∧
    (Tab.get RecWick.init u.flash.wicks (l.val * 17 + w.val)).retired = true ∧ Frame [.wicks, .lans, .flash] s u) ∧
  (∀ (s : State) (l : Lan) (w : PWick) (reads : Reads), let x := getWick s l.val w.val; let cols := badCols x reads; let ws := streamOf s l.val x
    x.wrBusy = true → x.repair = true → failedCols x cols = [] → storeOk (writeOver l.val w.val reads s) l.val w.val = true → s.flash.noRec = false → ∃ u,
    exec (.wickRepairPassDone l w reads) s = .next (afterJobs (if x.job = .lanTest then jobFail l.val w.val u else runLan l.val u)) ∧ getWick u l.val w.val = { x with cells := (program reads x).cells, wrCells := [], rs := (checkStore ws).1, rj := (checkStore ws).2, rsBad := [], st := .ready, wrBusy := false, repair := false, wrRows := 2048, wrResult := 2, stat := setBit x.stat 1, stage := if x.job = .none then x.stage else .toTrim } ∧
    (Tab.get RecWick.init u.flash.wicks (l.val * 17 + w.val)).colmap = [x.cm0, x.cm1, x.cm2, x.cm3] ∧ Frame [.wicks, .flash] s u) ∧
  (∀ (s : State) (l : Lan) (w : PWick) (reads : Reads), let x := getWick s l.val w.val; let cols := badCols x reads; let ws := streamOf s l.val x
    x.wrBusy = true → x.repair = true → (failedCols x cols ≠ [] ∨ storeOk (writeOver l.val w.val reads s) l.val w.val = false) → s.flash.noRec = false → ∃ u,
    exec (.wickRepairPassDone l w reads) s = .next (afterJobs (runLan l.val (jobFail l.val w.val (ember 2 0x0102 (l.val * 17 + w.val) none cols.length u)))) ∧
    (let y := getWick u l.val w.val; y.st = .failed ∧ y.wrBusy = false ∧ y.wrResult = 3 ∧ y.failcol = satOf 4 cols.length ∧ y.stat = setBit x.stat 2 ∧ y.pgm = x.pgm) ∧
    (Tab.get RecWick.init u.flash.wicks (l.val * 17 + w.val)).retired = true ∧ Frame [.wicks, .lans, .flash] s u)

/-- Readbacks, lookup confirmation and wick registers. WCK_RBCTL.START begins a readback at row 0 in ADOPTING or SERVICE, is
ignored in WRITING, while a readback runs or without START, and sets CFG_ERR elsewhere. READBACK_DONE after all 2,048 rows: in
SERVICE a match with no marginal cell records RESULT 1 and RB_DONE, and anything else records RESULT 2 and the count of
marginal cells and goes on as a failed audit does; in ADOPTING the wick goes READY with its match or UNOWNED, and the adoption
goes on. The interval check starts a readback on a serving wick whose lantern is not being rewritten. A candidate within
MATCH_T whose every driven bit agrees with the shadow adds a hit. WCK_COLMAPn is written, or refused with CFG_ERR in SERVICE
and where two entries would name one column; WCK_CFG is written, refused with CFG_ERR, or, with MODE 2 or 3, ignored. All else
is unchanged but for what follows in the lantern's jobs. Where the manual leaves a point of these commands open, the clause
holds the model's choice (log 90, 117, 120, 121).
Cites R48, R41, R50, R51, R447, R56, R37, R64, R58, R62. -/
def Obligations.WickReadbackLookupAndRegisters : Prop :=
  (∀ (s : State) (l : Lan) (w : PWick) (v : W32), bitAt v 31 = true → (getWick s l.val w.val).st = .adopting ∨ (getWick s l.val w.val).st = .service → (getWick s l.val w.val).rbBusy = false → s.snuf.wheld = false →
    exec (.wickRbctlStart l w v) s = .next (setWick l.val w.val { getWick s l.val w.val with rbBusy := true, rbRows := 0, rbLaunched := 0, rbLev := [], rbMarg := 0 } s)) ∧
  (∀ (s : State) (l : Lan) (w : PWick) (v : W32), bitAt v 31 = true → (getWick s l.val w.val).st ∉ [.writing, .adopting, .service] → (getWick s l.val w.val).rbBusy = false →
    exec (.wickRbctlStart l w v) s = .next (setWick l.val w.val { getWick s l.val w.val with stat := setBit (getWick s l.val w.val).stat 6 } s)) ∧
  (∀ (s : State) (l : Lan) (w : PWick) (v : W32), bitAt v 31 = false ∨ (getWick s l.val w.val).st = .writing ∨ (getWick s l.val w.val).rbBusy = true → exec (.wickRbctlStart l w v) s = .next s) ∧
  (∀ (s : State) (l : Lan) (w : PWick) (lw : LWick), let x := getWick s l.val w.val
    x.rbBusy = true → x.rbRows = 2048 → x.st = .service → x.rbMarg = 0 → rbHit s l.val x = some lw →
    exec (.readbackDone l w) s = .next (afterJobs (setWick l.val w.val { x with rbBusy := false, rbLaunched := 0, rbLev := [], rbMarg := 0, rbResult := 1, marg := 0, stat := setBit x.stat 3 } s))) ∧
  (∀ (s : State) (l : Lan) (w : PWick) (lw : LWick), let x := getWick s l.val w.val
    x.rbBusy = true → x.rbRows = 2048 → x.st = .service → x.lwick = some lw → (x.rbMarg ≠ 0 ∨ rbHit s l.val x = none) →
    exec (.readbackDone l w) s = .next (afterJobs (earlyRemap l.val (auditFail (ctxOfLan s l.val) l.val w.val lw.val (nowF s) 0 (noteAuditFail l.val (setWick l.val w.val { x with rbBusy := false, rbLaunched := 0, rbLev := [], rbMarg := 0, rbResult := 2, marg := satOf 12 x.rbMarg, stat := setBit (if x.rbMarg = 0 then setBit x.stat 4 else setBit (setBit x.stat 4) 5) 3 } s)))))) ∧
  (∀ (s : State) (l : Lan) (w : PWick), let x := getWick s l.val w.val; let hit := if x.rbMarg = 0 then rbHit s l.val x else none
    x.rbBusy = true → x.rbRows = 2048 → x.st = .adopting → ∃ u,
    exec (.readbackDone l w) s = .next (afterJobs (adoptCheck l.val u)) ∧ Frame [.wicks] s u ∧ getWick u l.val w.val = { x with rbBusy := false, rbLaunched := 0, rbLev := [], rbMarg := 0, rbResult := if hit.isSome then 1 else 2, marg := satOf 12 x.rbMarg, stat := setBit (if hit.isSome then x.stat else if x.rbMarg = 0 then setBit x.stat 4 else setBit (setBit x.stat 4) 5) 3, st := if hit.isSome then .ready else .unowned, hit := if hit.isSome then hit else x.hit }) ∧
  (∀ (s : State) (l : Lan) (w : PWick), (getWick s l.val w.val).st = .service → (getWick s l.val w.val).rbBusy = false → (∀ i < 17, ∀ lw, (getWick s l.val i).job ≠ .wave lw) → s.snuf.wheld = false →
    exec (.wickReadbackCheck l w) s = .next (setWick l.val w.val { getWick s l.val w.val with rbBusy := true, rbRows := 0, rbLaunched := 0, rbLev := [], rbMarg := 0 } s)) ∧
  (∀ (s : State) (l : Lan) (w : PWick) (col : Nat) (a : SliceAcc) (c : Nat) (r : FlareRun), (getWick s l.val w.val).mode = 1 →
    (getLan s l.val).accs.find? (fun a => a.pw.val == w.val) = some a → findRun s a.flare = some (c, r) →
    (let ins := a.groups.flatMap (redoInputs s l.val r a); isCandidate (getWick s l.val w.val) a (ins.length / 2) col = true ∧
      (exactVals s c (getLan s l.val).epoch (lanLL (getLan s l.val)) a.lw.val ins).getD col 0 = 2 * ((ins.length / 2 : Nat) : Int)) →
    exec (.lookupCandidateConfirm l w col) s = .next (setLan l.val { getLan s l.val with hits := (getLan s l.val).hits ++ [(a.flare, a.lw.val, col)] } s)) ∧
  (∀ (s : State) (l : Lan) (w : PWick) (n : Fin 4) (v : W32), exec (.wckColmapWrite l w n v) s = .next (
    if (getWick s l.val w.val).st = .service ∨ dupCols (putColmap (getWick s l.val w.val) n.val v) = true then setWick l.val w.val { getWick s l.val w.val with stat := setBit (getWick s l.val w.val).stat 6 } s
    else setWick l.val w.val (match n.val with | 0 => { getWick s l.val w.val with cm0 := v &&& 0x81FF81FF } | 1 => { getWick s l.val w.val with cm1 := v &&& 0x81FF81FF } | 2 => { getWick s l.val w.val with cm2 := v &&& 0x81FF81FF } | _ => { getWick s l.val w.val with cm3 := v &&& 0x81FF81FF }) s)) ∧
  (∀ (s : State) (l : Lan) (w : PWick) (v : W32), mayWrite (getWick s l.val w.val) = true → fld v 3 0 ≤ 3 → fld v 7 6 = 0 ∨ (fld v 7 6 = 1 ∧ fld v 3 0 = 0) →
    exec (.wckCfgWrite l w v) s = .next (setWick l.val w.val { getWick s l.val w.val with mode := BitVec.ofNat 2 (fld v 7 6), wfmt := BitVec.ofNat 4 (fld v 3 0) } s)) ∧
  (∀ (s : State) (l : Lan) (w : PWick) (v : W32), mayWrite (getWick s l.val w.val) = false ∨ 3 < fld v 3 0 ∨ (fld v 7 6 = 1 ∧ fld v 3 0 ≠ 0) →
    exec (.wckCfgWrite l w v) s = .next (setWick l.val w.val { getWick s l.val w.val with stat := setBit (getWick s l.val w.val).stat 6 } s)) ∧
  (∀ (s : State) (l : Lan) (w : PWick) (v : W32), mayWrite (getWick s l.val w.val) = true → fld v 3 0 ≤ 3 → 1 < fld v 7 6 → Runs (.wckCfgWrite l w v) s (fun t =>
    getWick t l.val w.val = getWick s l.val w.val ∧ (∀ k, k ≠ l.val * 17 + w.val → Tab.get Wick.init t.wicks k = Tab.get Wick.init s.wicks k) ∧ Frame [.wicks] s t))

/-- Input blocks, broadcasts and row-chain partials reach lantern buffers. A good block enters the slot that takes its vector,
opened where it was FREE: its 512 quantized values and their counts stand under its key, and the slot is READY exactly when
every block of the vector stands and FILLING otherwise; where the key had failed, CHK_RETRIED and CHK_RESOLVED also count. A
first failure marks the slot FAILED with the key and sets INBLK_ERR; a second failure of one key counts and withholds with
cause 02; a block that finds no slot waits by credit with its check's result. A broadcast gives every lantern of its mask what
the block alone would, and no other lantern anything. A good partial joins its head's sums and the chain goes on (runTail); a
first bad one is noted, a second one counts and withholds with cause 02. All else is unchanged. Where the manual leaves a
point of these commands open, the clause holds the model's choice (log 88, 126, 143).
Cites R103, R104, R119, R225, R257, R109, R251. -/
def Obligations.LanternBuffersTakeBlocks : Prop :=
  (∀ (s : State) (l : Lan) (b : InBlock) (one : Bool), slotOfBlock (getLan s l.val) b.vec = some one → ((getSlot (getLan s l.val) one).failed = [] ∨ (getSlot (getLan s l.val) one).st = .free) → let x := openSlot s l.val b (getSlot (getLan s l.val) one); let es := blockVals s l.val b x.base
    Runs (.inputBlockArrival l b true) s (fun t => let y := getSlot (getLan t l.val) one
      y = { x with blocks := Tab.set [] x.blocks (blockKey b) es, counts := Tab.set { nz := 0, l1 := 0, sum := 0 } x.counts (blockKey b) (countBlock es), st := y.st, order := y.order } ∧
      (y.st = .ready ↔ ∀ i ∈ vecBlocks y, Tab.get [] y.blocks i ≠ []) ∧ (y.st = .ready ∨ y.st = .filling) ∧
      getSlot (getLan t l.val) (!one) = getSlot (getLan s l.val) (!one) ∧ (∀ k, k ≠ l.val → getLan t k = getLan s k) ∧ Frame [.lans, .engs] s t)) ∧
  (∀ (s : State) (l : Lan) (b : InBlock) (one : Bool), slotOfBlock (getLan s l.val) b.vec = some one → blockKey b ∈ (getSlot (getLan s l.val) one).failed → (getSlot (getLan s l.val) one).st ≠ .free →
    Runs (.inputBlockArrival l b true) s (fun t => let y := getSlot (getLan t l.val) one
      Tab.get [] y.blocks (blockKey b) = blockVals s l.val b (getSlot (getLan s l.val) one).base ∧ blockKey b ∉ y.failed ∧ y.retried = (getSlot (getLan s l.val) one).retried + 1 ∧
      t.chk = { s.chk with retried := satInc s.chk.retried, resolved := satInc s.chk.resolved, dstat := setBit s.chk.dstat 2 } ∧ Frame ([.lans, .engs, .chk] ++ Part.posting) s t)) ∧
  (∀ (s : State) (l : Lan) (b : InBlock) (one : Bool), slotOfBlock (getLan s l.val) b.vec = some one → ((getSlot (getLan s l.val) one).st = .free ∨ blockKey b ∉ (getSlot (getLan s l.val) one).failed) → let x := openSlot s l.val b (getSlot (getLan s l.val) one); 
    Runs (.inputBlockArrival l b false) s (fun t => getSlot (getLan t l.val) one = { x with st := .failed, failed := blockKey b :: x.failed } ∧
      (getLan t l.val).stat = setBit (getLan s l.val).stat 3 ∧ getSlot (getLan t l.val) (!one) = getSlot (getLan s l.val) (!one) ∧ (∀ k, k ≠ l.val → getLan t k = getLan s k) ∧ Frame [.lans] s t)) ∧
  (∀ (s : State) (l : Lan) (b : InBlock) (one : Bool), slotOfBlock (getLan s l.val) b.vec = some one → (getSlot (getLan s l.val) one).st ≠ .free → blockKey b ∈ (getSlot (getLan s l.val) one).failed → s.snuf.wheld = false →
    Runs (.inputBlockArrival l b false) s (fun t => t.snuf = { wheld := true, cause := 2, detail := BitVec.ofNat 16 l.val } ∧
      t.chk = { s.chk with failed := satInc s.chk.failed, dstat := setBit s.chk.dstat 1 } ∧ Frame Part.withholding s t)) ∧
  (∀ (s : State) (l : Lan) (b : InBlock) (good : Bool), slotOfBlock (getLan s l.val) b.vec = none → exec (.inputBlockArrival l b good) s =
    .next { s with xbr := { s.xbr with waiting := s.xbr.waiting ++ [{ lan := l, blk := b, good := good }] } }) ∧
  (∀ (s : State) (p : Sconce) (ls : List Lan) (b : InBlock), ls.Nodup → Runs (.broadcast p ls b) s (fun t =>
    (∀ l ∈ ls, Runs (.inputBlockArrival l b true) s (fun u => getLan t l.val = getLan u l.val)) ∧ (∀ n, (∀ l ∈ ls, l.val ≠ n) → getLan t n = getLan s n) ∧
    Frame ([.lans, .engs, .xbr, .chk] ++ Part.posting) s t)) ∧
  (∀ (s : State) (l : Lan) (p : ChainPartial) (c : Nat) (t : FlareTail) (q : ChainRun) (m : Nat × OutArea), (List.range 16).findSome? (fun c => ((getLctx s c).tails.find? (fun t => t.id == p.flare)).map (fun t => (c, t))) = some (c, t) → t.chains.find? (fun q => q.head == l) = some q → q.parts.find? (fun m => m.1 == p.member) = some m → p.member ∉ q.fails →
    exec (.chainPartialArrival l p true) s = .next (runTail c { t with chains := updIf (fun x => x.head == l) (addPart p.member m.2) t.chains, checks := t.checks + (4 * m.2.a.length + 255) / 256 } s)) ∧
  (∀ (s : State) (l : Lan) (p : ChainPartial) (c : Nat) (t : FlareTail) (q : ChainRun) (m : Nat × OutArea), (List.range 16).findSome? (fun c => ((getLctx s c).tails.find? (fun t => t.id == p.flare)).map (fun t => (c, t))) = some (c, t) → t.chains.find? (fun q => q.head == l) = some q → q.parts.find? (fun m => m.1 == p.member) = some m → p.member ∈ q.fails →
    exec (.chainPartialArrival l p true) s = .next (runTail c { t with chains := updIf (fun x => x.head == l) (addPart p.member m.2) t.chains, clean := false, resolved := t.resolved + 1, checks := t.checks + (4 * m.2.a.length + 255) / 256 }
      (blockRetried (sconceOf l.val) (ctxIdOf s (some (Fin.ofNat 16 c))) s))) ∧
  (∀ (s : State) (l : Lan) (p : ChainPartial) (c : Nat) (t : FlareTail) (q : ChainRun) (m : Nat × OutArea), (List.range 16).findSome? (fun c => ((getLctx s c).tails.find? (fun t => t.id == p.flare)).map (fun t => (c, t))) = some (c, t) → t.chains.find? (fun q => q.head == l) = some q → q.parts.find? (fun m => m.1 == p.member) = some m → p.member ∉ q.fails →
    exec (.chainPartialArrival l p false) s = .next (runTail c { t with chains := updIf (fun x => x.head == l) (fun x => { x with fails := p.member :: x.fails }) t.chains } s)) ∧
  (∀ (s : State) (l : Lan) (p : ChainPartial) (c : Nat) (t : FlareTail) (q : ChainRun) (m : Nat × OutArea), (List.range 16).findSome? (fun c => ((getLctx s c).tails.find? (fun t => t.id == p.flare)).map (fun t => (c, t))) = some (c, t) → t.chains.find? (fun q => q.head == l) = some q → q.parts.find? (fun m => m.1 == p.member) = some m → p.member ∈ q.fails → s.snuf.wheld = false →
    Runs (.chainPartialArrival l p false) s (fun t => t.snuf = { wheld := true, cause := 2, detail := BitVec.ofNat 16 l.val } ∧ t.chk = { s.chk with failed := satInc s.chk.failed, dstat := setBit s.chk.dstat 1 } ∧ Frame Part.withholding s t))

/-- Takeover swap, issue interval and the flare boundary. LNT_SWAP with ARM = 1 arms a swap when the lantern's spare stands in
SPARE and none is armed, and is refused with CFG_ERR otherwise; with ARM = 0 it cancels the arm and takes LWICK (log 127).
LNT_ISSUE waits for the boundary; LNT_CFG takes codes 0 to 4 outside SERVICE and is refused with CFG_ERR otherwise. While a
unit of the lantern is in flight or due, FLARE_BOUNDARY changes nothing; else it clears ARM, the waiting trim changes and the
waiting interval, which comes into force with the substitutions. An armed swap then exchanges the map entry and SPARE: the
spare enters SERVICE, and the former wick SPARE, or QUARANTINED where it was substituted; when the spare has left SPARE,
CFG_ERR is set and the map stays. A drive calibration that waits for the boundary begins on an undivided half. Where the
manual leaves a point of these commands open, the clause holds the model's choice (log 91, 127, 141).
Cites R113, R115, R535, R106, R121, R189. -/
def Obligations.LanternBoundaryAndRegisters : Prop :=
  (∀ (s : State) (l : Lan) (v : W32), bitAt v 31 = true → spareOk s l.val = true → (getLan s l.val).arm = false → exec (.lntSwapArm l v) s =
    .next (setLan l.val { getLan s l.val with arm := true, swapLw := Fin.ofNat 16 (fld v 19 16) } s)) ∧
  (∀ (s : State) (l : Lan) (v : W32), bitAt v 31 = true → spareOk s l.val = false ∨ (getLan s l.val).arm = true → exec (.lntSwapArm l v) s =
    .next (setLan l.val { getLan s l.val with stat := setBit (getLan s l.val).stat 4 } s)) ∧
  (∀ (s : State) (l : Lan) (v : W32), bitAt v 31 = false → exec (.lntSwapArm l v) s =
    .next (setLan l.val { getLan s l.val with arm := false, swapLw := Fin.ofNat 16 (fld v 19 16) } s)) ∧
  (∀ (s : State) (l : Lan) (v : W32), exec (.lntIssueWrite l v) s = .next (setLan l.val { getLan s l.val with ivalNext := some (BitVec.ofNat 2 (fld v 1 0)) } s)) ∧
  (∀ (s : State) (l : Lan) (v : W32), exec (.lntCfgWrite l v) s = .next (setLan l.val (if 5 ≤ fld v 2 0 ∨ (getLan s l.val).st = .service then { getLan s l.val with stat := setBit (getLan s l.val).stat 4 }
    else { getLan s l.val with shape := BitVec.ofNat 3 (fld v 2 0) }) s)) ∧
  (∀ (s : State) (l : Lan), lanQuiet s l.val = true → (getLan s l.val).trimNext = [] → (getLan s l.val).arm = false → (getLan s l.val).drAtBoundary = false → exec (.flareBoundary l) s =
    .next (setLan l.val { getLan s l.val with ival := (getLan s l.val).ivalNext.getD (getLan s l.val).ival, ivalNext := none, launched := false, substNow := (getLan s l.val).subst } s)) ∧
  (∀ (s : State) (l : Lan), lanQuiet s l.val = false → exec (.flareBoundary l) s = .next s) ∧
  (∀ (s : State) (l : Lan), lanQuiet s l.val = true → Runs (.flareBoundary l) s (fun t => let w := getLan t l.val
      w.arm = false ∧ w.trimNext = [] ∧ w.ival = (getLan s l.val).ivalNext.getD (getLan s l.val).ival ∧ w.ivalNext = none ∧ w.launched = false ∧ w.substNow = w.subst ∧
      (∀ k, k ≠ l.val → getLan t k = getLan s k) ∧ Frame ([.lans, .wicks] ++ Part.posting) s t)) ∧
  (∀ (s : State) (l : Lan), lanQuiet s l.val = true → (getLan s l.val).trimNext = [] → (getLan s l.val).arm = true → spareOk s l.val = false → exec (.flareBoundary l) s =
    .next (let u := setLan l.val { getLan s l.val with arm := false, stat := setBit (getLan s l.val).stat 4, ival := (getLan s l.val).ivalNext.getD (getLan s l.val).ival, ivalNext := none, launched := false, substNow := (getLan s l.val).subst } s
      if (getLan s l.val).drAtBoundary ∧ (getLan s l.val).phase = .drWait ∧ divNow s l.val = 0 then drBegin l.val u else u)) ∧
  (∀ (s : State) (l : Lan), lanQuiet s l.val = true → (getLan s l.val).trimNext = [] → (getLan s l.val).arm = false → (getLan s l.val).drAtBoundary = true → (getLan s l.val).phase = .drWait → divNow s l.val = 0 → exec (.flareBoundary l) s =
    .next (setLan l.val (drStart (nowF s) s.fresh { getLan s l.val with ival := (getLan s l.val).ivalNext.getD (getLan s l.val).ival, ivalNext := none, launched := false, substNow := (getLan s l.val).subst }) { s with fresh := s.fresh + 983040 })) ∧
  (∀ (s : State) (l : Lan) (c : TrimChange), lanQuiet s l.val = true → (getLan s l.val).trimNext = [c] → (getLan s l.val).arm = false → (getLan s l.val).drAtBoundary = false → (trimAdd (getWick s l.val c.pw.val) c.kind c.col (getLan s l.val).tpoint.toNat c.delta).2 = false →
    Runs (.flareBoundary l) s (fun t => getWick t l.val c.pw.val = (let w := (trimAdd (getWick s l.val c.pw.val) c.kind c.col (getLan s l.val).tpoint.toNat c.delta).1; { w with live := Tab.upd 0 w.live (c.kind * 520 + c.col) (fun x => x + c.delta) }) ∧ Frame [.lans, .wicks] s t)) ∧
  (∀ (s : State) (l : Lan) (sp : PWick), let v := getLan s l.val; let lw := v.swapLw.val; let old := mapOf v lw
    lanQuiet s l.val = true → v.trimNext = [] → v.arm = true → v.spare = some sp → (getWick s l.val sp.val).st = .spare → old < 17 → old ≠ sp.val →
    Runs (.flareBoundary l) s (fun t => mapOf (getLan t l.val) lw = sp.val ∧ (getLan t l.val).spare.map (fun w => w.val) = some old ∧ (getLan t l.val).arm = false ∧
      (getLan t l.val).stat = setBit v.stat 5 ∧ (getWick t l.val sp.val).st = .service ∧ (getWick t l.val sp.val).lwick = some v.swapLw ∧
      (getWick t l.val old).st = (if v.subst.toNat / 2 ^ lw % 2 = 1 then .quarantined else .spare) ∧ (getWick t l.val old).lwick = none ∧ Frame [.lans, .wicks, .fresh] s t))

/-- Completed steps, exact recomputation, audits and the suspect decay. A completed step leaves the air; a discarded one does
nothing else. A readback probe of the row that is due gives its 512 levels and its marginal cells; a flare step adds its group
to the reduction tree with the verdict of saturation and row sums, counts its checks and its moments; a trim probe step joins
the wick's window sums and a drive-reference step its tap's sum, and neither touches a slice. New check-store entries that ECC
found bad take the wick out of service and make the lantern suspect. A recomputed slice that meets the exact prediction
replaces the analog values and counts as resolved, a row-sum failure also with its place; one that does not withholds with
cause 01. A passed audit notes its flicker in every audited wick; a failed one counts, substitutes the wick where it serves,
and makes the lantern suspect. A quiet interval ends the suspicion and steps the issue interval back; without one nothing
changes. Where a mark or a second audit failure asks for a remap, the remap follows at once (earlyRemap), and otherwise
nothing follows. Where the manual leaves a point of these commands open, the clause holds the model's choice (log 83, 84,
113).
Cites R28, R31, R48, R51, R58, R107, R217, R219, R198, R228, R229, R245. -/
def Obligations.StepsRecomputesAndAudits : Prop :=
  (∀ (s : State) (l : Lan) (w : PWick) (err : List (Nat × Int)) (bad : List Nat) (f : Flight) (rest : List Flight),
    takeFirst (fun (f : Flight) => f.lan.val == l.val && f.pw.val == w.val) s.lmp.flights = some (f, rest) → f.dead = true →
    exec (.wickStepComplete l w err bad) s = .next { s with lmp := { s.lmp with flights := rest } }) ∧
  (∀ (s : State) (l : Lan) (w : PWick) (err : List (Nat × Int)) (bad : List Nat), takeFirst (fun (f : Flight) => f.lan.val == l.val && f.pw.val == w.val) s.lmp.flights = none →
    exec (.wickStepComplete l w err bad) s = .next s) ∧
  (∀ (s : State) (l : Lan) (w : PWick) (err : List (Nat × Int)) (bad : List Nat) (f : Flight) (rest : List Flight),
    takeFirst (fun (f : Flight) => f.lan.val == l.val && f.pw.val == w.val) s.lmp.flights = some (f, rest) → f.dead = false → f.kind = .probe → (getWick s l.val w.val).rbBusy = true → f.lo = (getWick s l.val w.val).rbRows.toNat →
    let x := getWick s l.val w.val; let cs := (mappedCodes x f err).map (fun k => (nearLevel k, k))
    exec (.wickStepComplete l w err bad) s = .next (setWick l.val w.val { x with rbRows := x.rbRows + 1, rbLev := (withPos 0 cs).foldl (fun t p => Tab.set 8 t (f.lo * 512 + p.1) p.2.1) x.rbLev, rbMarg := x.rbMarg + (cs.filter (fun p => 2 ≤ (4 * (p.1 : Int) - p.2).natAbs)).length } { s with lmp := { s.lmp with flights := rest } })) ∧
  (∀ (s : State) (l : Lan) (w : PWick) (err : List (Nat × Int)) (bad : List Nat) (f : Flight) (rest : List Flight),
    takeFirst (fun (f : Flight) => f.lan.val == l.val && f.pw.val == w.val) s.lmp.flights = some (f, rest) → f.dead = false → f.kind = .probe → ¬ ((getWick s l.val w.val).rbBusy = true ∧ f.lo = (getWick s l.val w.val).rbRows.toNat) →
    exec (.wickStepComplete l w err bad) s = .next (setWick l.val w.val (getWick s l.val w.val) { s with lmp := { s.lmp with flights := rest } })) ∧
  (∀ (s : State) (l : Lan) (w : PWick) (err : List (Nat × Int)) (bad : List Nat) (f : Flight) (rest : List Flight) (id : Nat) (lw : LWick) (sl : Nat) (lp fb rot lk : Bool) (c : Nat) (r : FlareRun),
    takeFirst (fun (f : Flight) => f.lan.val == l.val && f.pw.val == w.val) s.lmp.flights = some (f, rest) → f.dead = false →
    f.kind = .flare id lw sl lp fb rot lk → findRun (storeErrors l.val w.val (some lw.val) bad { s with lmp := { s.lmp with flights := rest } }) id = some (c, r) →
    let a := storeErrors l.val w.val (some lw.val) bad { s with lmp := { s.lmp with flights := rest } }; let first := countsFor (getLan a l.val) lw.val sl
    let z := if first then windowFull l.val sl a else a; let x := getWick z l.val w.val; let v := groupVals x f lk err
    let chk := rowSumCheck x f.x v.1 (2 ^ f.e) (bandsP x) (bandsI x); let st : GrpSt := if v.2 then .sat else if chk = [] then .ok else .rsFail chk
    ∃ u, exec (.wickStepComplete l w err bad) s = .next (earlyRemap l.val u) ∧
      (getLan u l.val).accs = addGroup { flare := id, lw := lw, pw := f.pw, slice := sl, lpass := lp, fallback := fb, groups := [] }
        { e := f.e, gidx := f.gidx, gcnt := f.gcnt, lo := f.lo, hi := f.hi, vals := v.1, fired := v.1, st := st } (getLan z l.val).accs ∧
      (getLan u l.val).stat = (if v.2 then setBit (getLan z l.val).stat 1 else (getLan z l.val).stat) ∧
      (getLan u l.val).chkStat = (if st = .ok ∨ st = .sat then (getLan z l.val).chkStat else setBit (getLan z l.val).chkStat 0) ∧
      (getLan u l.val).x1 = (if first then (addMoments sl f.x f.last (getLan z l.val)).x1 else (getLan z l.val).x1) ∧ (getLan u l.val).x2 = (if first then (addMoments sl f.x f.last (getLan z l.val)).x2 else (getLan z l.val).x2) ∧
      (getLan u l.val).momSteps = (if first then (addMoments sl f.x f.last (getLan z l.val)).momSteps else (getLan z l.val).momSteps) ∧
      getWick u l.val w.val = (let y := { x with stat := if v.2 then setBit x.stat 0 else x.stat }; if lk then y else addWindow f err rot y) ∧ Frame [.lans, .wicks, .lctx] z u) ∧
  (∀ (s : State) (l w : Nat) (lw : Option Nat) (bad : List Nat), (bad.filter (fun k => !((getWick s l w).rsBad.contains k))) ≠ [] → let u := storeErrors l w lw bad s
    (getWick u l w).rsBad = (getWick s l w).rsBad ++ bad.filter (fun k => !((getWick s l w).rsBad.contains k)) ∧ (getWick u l w).early = true ∧ (getLan u l).suspect = true ∧
      (getLan u l).subst = (match lw with | none => (getLan s l).subst | some i => setBit (getLan s l).subst i) ∧ Frame ([.wicks, .lans, .scn] ++ Part.posting) s u) ∧
  (∀ (s : State) (l : Lan) (w : PWick) (err : List (Nat × Int)) (bad : List Nat) (f : Flight) (rest : List Flight),
    takeFirst (fun (f : Flight) => f.lan.val == l.val && f.pw.val == w.val) s.lmp.flights = some (f, rest) → f.dead = false → f.kind = .trim → let z := storeErrors l.val w.val none bad { s with lmp := { s.lmp with flights := rest } }
    ∃ u, exec (.wickStepComplete l w err bad) s = .next (earlyRemap l.val u) ∧
      getLan u l.val = addMoments 16 f.x f.last (getLan z l.val) ∧ (∃ y : Bool × List (Int × Nat × Int × Nat), getWick u l.val w.val = { addWindow f err true (getWick z l.val w.val) with probeFail := y.1, resid := y.2 } ∧
        (y.1 = true ↔ (getWick z l.val w.val).probeFail = true ∨ rowSumCheck (getWick z l.val w.val) f.x (groupVals (getWick z l.val w.val) f false err).1 (2 ^ f.e) (bandsP (getWick z l.val w.val)) (bandsI (getWick z l.val w.val)) ≠ [])) ∧
      Frame [.lans, .wicks] z u) ∧
  (∀ (s : State) (l : Lan) (w : PWick) (err : List (Nat × Int)) (bad : List Nat) (f : Flight) (rest : List Flight) (tap : Nat) (b : Bool),
    takeFirst (fun (f : Flight) => f.lan.val == l.val && f.pw.val == w.val) s.lmp.flights = some (f, rest) → f.dead = false → f.kind = .drive tap b → let z := storeErrors l.val w.val none bad { s with lmp := { s.lmp with flights := rest } }
    (getLan z l.val).phase = .drRun → let k := sumI (mappedCodes (getWick z l.val w.val) f err)
    ∃ u, exec (.wickStepComplete l w err bad) s = .next (earlyRemap l.val u) ∧ getLan u l.val = (if b then { getLan z l.val with drGot := (getLan z l.val).drGot + 1, drB := Tab.upd 0 (getLan z l.val).drB tap (fun y => y + k) }
        else { getLan z l.val with drGot := (getLan z l.val).drGot + 1, drA := Tab.upd 0 (getLan z l.val).drA tap (fun y => y + k) }) ∧ Frame [.lans, .wicks] z u) ∧
  (∀ (s : State) (l : Lan) (w : PWick) (err : List (Nat × Int)) (a : SliceAcc) (g : Grp) (c : Nat) (r : FlareRun), redoOf (getLan s l.val) w.val = some (a, g) → findRun s a.flare = some (c, r) →
    let v := getLan s l.val; let x := redoInputs s l.val r a g; let ex := exactVals s c v.epoch (lanLL v) a.lw.val x
    let vals := (withPos 0 ex).map (fun p => p.2 + errAt err p.1)
    exactCheck (getWick s l.val w.val) (shadowW s c v.epoch (lanLL v) a.lw.val) x vals = true → g.st = .sat →
    ∃ u, exec (.sliceRecomputeDone l w err) s = .next (earlyRemap l.val u) ∧ u.chk = { s.chk with resolved := satInc s.chk.resolved } ∧
      getLan u l.val = { v with accs := putGroup a g { g with vals := vals, fired := vals, st := .ok } v.accs } ∧
      (getWick u l.val w.val).sats = (if v.substNow.toNat / 2 ^ a.lw.val % 2 = 1 then (getWick s l.val w.val).sats else (getWick s l.val w.val).sats + 1) ∧ Frame [.lans, .wicks, .lctx, .chk] s u) ∧
  (∀ (s : State) (l : Lan) (w : PWick) (err : List (Nat × Int)) (a : SliceAcc) (g : Grp) (c : Nat) (r : FlareRun) (fs : List (Nat × Option Nat)), redoOf (getLan s l.val) w.val = some (a, g) → findRun s a.flare = some (c, r) →
    let v := getLan s l.val; let x := redoInputs s l.val r a g; let ex := exactVals s c v.epoch (lanLL v) a.lw.val x
    let vals := (withPos 0 ex).map (fun p => p.2 + errAt err p.1)
    exactCheck (getWick s l.val w.val) (shadowW s c v.epoch (lanLL v) a.lw.val) x vals = true → g.st = .rsFail fs →
    ∃ u, exec (.sliceRecomputeDone l w err) s = .next (earlyRemap l.val u) ∧ u.chk = { s.chk with resolved := satInc s.chk.resolved } ∧
      (getLan u l.val).accs = putGroup a g { g with vals := vals, st := .ok } v.accs ∧ (getLan u l.val).rsfails = v.rsfails + 1 ∧
      locWord (getLan u l.val) = locWord (writeLoc w.val fs g.e g.vals vals v) ∧ Frame ([.lans, .wicks, .lctx, .chk, .scn] ++ Part.posting) s u) ∧
  (∀ (s : State) (l : Lan) (w : PWick) (err : List (Nat × Int)) (a : SliceAcc) (g : Grp) (c : Nat) (r : FlareRun), redoOf (getLan s l.val) w.val = some (a, g) → findRun s a.flare = some (c, r) →
    let v := getLan s l.val; let x := redoInputs s l.val r a g; let ex := exactVals s c v.epoch (lanLL v) a.lw.val x
    exactCheck (getWick s l.val w.val) (shadowW s c v.epoch (lanLL v) a.lw.val) x ((withPos 0 ex).map (fun p => p.2 + errAt err p.1)) = false → s.snuf.wheld = false →
    Runs (.sliceRecomputeDone l w err) s (fun t => t.snuf = { wheld := true, cause := 1, detail := BitVec.ofNat 16 l.val } ∧ Frame Part.withholding s t)) ∧
  (∀ (s : State) (l : Lan) (w : PWick) (err : List (Nat × Int)), redoOf (getLan s l.val) w.val = none → exec (.sliceRecomputeDone l w err) s = .next (earlyRemap l.val s)) ∧
  (∀ (s : State) (l : Lan) (a : AuditCopy) (rest : List AuditCopy), (getLan s l.val).audits = a :: rest → (∀ t ∈ a.accs, accPasses s a t = true) →
    ∃ u, exec (.auditDone l) s = .next (earlyRemap l.val u) ∧ getLan u l.val = { getLan s l.val with audits := rest, audPasses := (getLan s l.val).audPasses + 1, chkStat := setBit (getLan s l.val).chkStat 3 } ∧
      (∀ q ∈ a.accs, (getWick u l.val q.pw.val).waud.val = BitVec.ofNat 64 a.flicker) ∧ Frame [.lans, .wicks, .chk, .ctxs] s u) ∧
  (∀ (s : State) (l : Lan) (a : AuditCopy) (rest : List AuditCopy) (q : SliceAcc), (getLan s l.val).audits = a :: rest → q ∈ a.accs → accPasses s a q = false →
    ∃ u, exec (.auditDone l) s = .next (earlyRemap l.val u) ∧ (getLan u l.val).audits = rest ∧ (getLan u l.val).audFails = satInc (getLan s l.val).audFails ∧ (getLan u l.val).audPasses = (getLan s l.val).audPasses ∧ (getLan u l.val).suspect = true ∧
      ((getWick s l.val q.pw.val).st = .service → (getWick u l.val q.pw.val).early = true ∧ (getLan u l.val).subst.toNat / 2 ^ q.lw.val % 2 = 1) ∧ Frame ([.lans, .wicks, .chk, .ctxs, .scn, .fab] ++ Part.posting) s u) ∧
  (∀ (s : State) (l : Lan), (getLan s l.val).audits = [] → exec (.auditDone l) s = .next (earlyRemap l.val s)) ∧
  (∀ (s : State) (l : Nat), (getLan s l).remapDue = false → ((getLan s l).spare.isSome = true ∨ ∀ lw < 16, (getWick s l (mapOf (getLan s l) lw)).early = false) → earlyRemap l s = s) ∧
  (∀ (s : State) (l : Lan) (n : Nat), (getLan s l.val).suspect = true → (getLan s l.val).lastEvent = some n → n + 4194304 ≤ (getLan s l.val).flares.val.toNat → exec (.suspectDecay l) s =
    .next (setLan l.val { getLan s l.val with suspect := false, stepBase := some (getLan s l.val).flares.val.toNat, ivalNext := if ivalSet (getLan s l.val) = 0 then (getLan s l.val).ivalNext else some (ivalSet (getLan s l.val) - 1) } s)) ∧
  (∀ (s : State) (l : Lan) (n : Nat), (getLan s l.val).suspect = false → (getLan s l.val).stepBase = some n → n + 4194304 ≤ (getLan s l.val).flares.val.toNat → ivalSet (getLan s l.val) ≠ 0 → exec (.suspectDecay l) s =
    .next (setLan l.val { getLan s l.val with stepBase := some (getLan s l.val).flares.val.toNat, ivalNext := some (ivalSet (getLan s l.val) - 1) } s)) ∧
  (∀ (s : State) (l : Lan), (∀ n ∈ (if (getLan s l.val).suspect then (getLan s l.val).lastEvent else (getLan s l.val).stepBase), (getLan s l.val).flares.val.toNat < n + 4194304) → exec (.suspectDecay l) s = .next s)

/-- Moment windows, rotation, full trim and drive-reference calibration. A complete moment window restarts the slice's row sums,
and with LIVE_EN = 0 queues no trim change; an incomplete one stays. A rotation cycle gives the spare the next logical wick; a
quarantined spare without a strike gets its one test, and one with a strike fails and is recorded as retired; with ROT_EN = 0
nothing happens. Window 1 of a full trim is corrected and window 2 begins; a clean window 2 sets TRIM_DONE and the bands; one
whose columns can still be repaired is trimmed once more; a further failed one sets TRIM_FAIL and ends in QUARANTINED. A due
drive-reference calibration begins at once in a gap, waits for one otherwise, and after 100 µs for the flare boundary; one
that is not due changes nothing. With all its codes there each tap moves by at most 4 as step A against m times step B asks
(log 123 where step B is 0). Jobs, trims and remaps that this sets free follow at once (afterJobs, runLan, tryDr, earlyRemap).
Where the manual leaves a point of these commands open, the clause holds the model's choice (log 20, 83, 91, 92, 122, 123,
133, 142).
Cites R111, R186, R192, R193, R194, R195, R197, R198, R210, R218, R477, R199. -/
def Obligations.TrimWindowsRotationAndDriveReference : Prop :=
  (∀ (s : State) (l : Lan) (k : LWick), 65536 ≤ Tab.get 0 (getLan s l.val).momSteps k.val → ∃ u, exec (.momentWindowEnd l k) s = .next (earlyRemap l.val u) ∧
    Tab.get 0 (getLan u l.val).momSteps k.val = 0 ∧ (∀ r < 2048, Tab.get 0 (getLan u l.val).x1 (k.val * 2048 + r) = 0 ∧ Tab.get 0 (getLan u l.val).x2 (k.val * 2048 + r) = 0) ∧
    ((getLan s l.val).liveEn = false → (getLan u l.val).trimNext = (getLan s l.val).trimNext) ∧ (∀ n, n ≠ l.val → getLan u n = getLan s n) ∧ Frame [.lans, .wicks] s u) ∧
  (∀ (s : State) (l : Lan) (k : LWick), Tab.get 0 (getLan s l.val).momSteps k.val < 65536 → exec (.momentWindowEnd l k) s = .next s) ∧
  (∀ (s : State) (l : Lan) (p : PWick) (ll : LLan), let v := getLan s l.val; v.spare = some p → v.llan = some ll → v.rotEn = true → v.st = .service → v.arm = false →
    (getWick s l.val p.val).job = .none → (getWick s l.val p.val).wrBusy = false → (getWick s l.val p.val).st = .spare → s.snuf.wheld = false → wavePending s l.val = none →
    ∃ u, exec (.rotationCycle l) s = .next (runLan l.val u) ∧ (let x := getWick u l.val p.val; x.job = .rotation (rotChoice s l.val) ∧ x.src = some (ll, rotChoice s l.val) ∧ x.srcEpoch = v.epoch ∧ x.stage = .toWrite) ∧
      getLan u l.val = { v with rotLast := some (rotChoice s l.val) } ∧ Frame [.lans, .wicks] s u) ∧
  (∀ (s : State) (l : Lan) (p : PWick) (ll : LLan) (q : LLan × LWick), let v := getLan s l.val; v.spare = some p → v.llan = some ll → v.rotEn = true → v.st = .service → v.arm = false →
    (getWick s l.val p.val).job = .none → (getWick s l.val p.val).wrBusy = false → (getWick s l.val p.val).st = .quarantined → (getWick s l.val p.val).strike = false → (getWick s l.val p.val).src = some q → s.snuf.wheld = false → wavePending s l.val = none →
    ∃ u, exec (.rotationCycle l) s = .next (runLan l.val u) ∧ (let x := getWick u l.val p.val; x.job = .quarTest ∧ x.src = some q ∧ x.srcEpoch = (getWick s l.val p.val).srcEpoch ∧ x.stage = .toWrite) ∧ Frame [.wicks] s u) ∧
  (∀ (s : State) (l : Lan) (p : PWick) (ll : LLan), let v := getLan s l.val; v.spare = some p → v.llan = some ll → v.rotEn = true → v.st = .service → v.arm = false →
    (getWick s l.val p.val).job = .none → (getWick s l.val p.val).wrBusy = false → (getWick s l.val p.val).st = .quarantined → (getWick s l.val p.val).strike = true → s.snuf.wheld = false → wavePending s l.val = none →
    Runs (.rotationCycle l) s (fun t => (getLan t l.val).spare = none ∧ (getWick t l.val p.val).st = .failed ∧ (s.flash.noRec = false → (Tab.get RecWick.init t.flash.wicks (l.val * 17 + p.val)).retired = true) ∧ Frame [.lans, .wicks, .flash] s t)) ∧
  (∀ (s : State) (l : Lan) (p : PWick) (ll : LLan), (getLan s l.val).spare = some p → (getLan s l.val).llan = some ll → (getLan s l.val).rotEn = false ∨ (getLan s l.val).st ≠ .service ∨ (getLan s l.val).arm = true → exec (.rotationCycle l) s = .next s) ∧
  (∀ (s : State) (l : Lan), (getLan s l.val).spare = none → exec (.rotationCycle l) s = .next (earlyRemap l.val s)) ∧
  (∀ (s : State) (l : Lan) (p : PWick), (getLan s l.val).calWick = some p → 65536 ≤ (getWick s l.val p.val).winSteps → (getLan s l.val).phase = .win1 → ∃ u, exec (.fullTrimWindowDone l) s = .next (afterJobs u) ∧
    (getLan u l.val).phase = .win2 ∧ (getWick u l.val p.val).winSteps = 0 ∧ (getWick u l.val p.val).s1 = [] ∧ (getWick u l.val p.val).s2 = [] ∧ Tab.get 0 (getLan u l.val).momSteps 16 = 0 ∧ Frame (.lans :: .wicks :: Part.posting) s u) ∧
  (∀ (s : State) (l : Lan) (p : PWick), (getLan s l.val).calWick = some p → 65536 ≤ (getWick s l.val p.val).winSteps → (getLan s l.val).phase = .win2 → trimFailing s l.val (getWick s l.val p.val) = [] → (getWick s l.val p.val).probeFail = false → ∃ u,
    exec (.fullTrimWindowDone l) s = .next (afterJobs (tryDr l.val (runLan l.val (jobTrimmed l.val p.val u)))) ∧ (getLan u l.val).phase = restPhase (getLan s l.val) ∧ (getLan u l.val).calWick = none ∧ (getLan u l.val).calStat = setBit (getLan s l.val).calStat 1 ∧
    (let y := getWick u l.val p.val; y.bandP = (setBands (getWick s l.val p.val)).bandP ∧ y.bandI = (setBands (getWick s l.val p.val)).bandI ∧ y.live = [] ∧ y.early = false ∧ y.trimFails = 0) ∧ Frame [.lans, .wicks] s u) ∧
  (∀ (s : State) (l : Lan) (p : PWick), (getLan s l.val).calWick = some p → 65536 ≤ (getWick s l.val p.val).winSteps → (getLan s l.val).phase = .win2 → (trimFailing s l.val (getWick s l.val p.val) ≠ [] ∨ (getWick s l.val p.val).probeFail = true) →
    (getWick s l.val p.val).trimTried = false → canRepair (getWick s l.val p.val) ((trimFailing s l.val (getWick s l.val p.val)).map (physCol (getWick s l.val p.val))) = true → (getWick s l.val p.val).job ≠ .lanTest → ∃ u,
    exec (.fullTrimWindowDone l) s = .next (afterJobs (earlyRemap l.val (tryDr l.val (if trimFailing s l.val (getWick s l.val p.val) = [] then runLan l.val u else startRepair l.val p.val ((trimFailing s l.val (getWick s l.val p.val)).map (physCol (getWick s l.val p.val))) u)))) ∧
    (getLan u l.val).phase = restPhase (getLan s l.val) ∧ (getLan u l.val).calStat = setBit (getLan s l.val).calStat 2 ∧ (getWick u l.val p.val).trimTried = true ∧ (getWick u l.val p.val).trimFails = (getWick s l.val p.val).trimFails + 1 ∧ Frame ([.lans, .wicks, .scn] ++ Part.posting) s u) ∧
  (∀ (s : State) (l : Lan) (p : PWick), (getLan s l.val).calWick = some p → 65536 ≤ (getWick s l.val p.val).winSteps → (getLan s l.val).phase = .win2 → (trimFailing s l.val (getWick s l.val p.val) ≠ [] ∨ (getWick s l.val p.val).probeFail = true) →
    ((getWick s l.val p.val).trimTried = true ∨ canRepair (getWick s l.val p.val) ((trimFailing s l.val (getWick s l.val p.val)).map (physCol (getWick s l.val p.val))) = false ∨ (getWick s l.val p.val).job = .lanTest) → ∃ u,
    exec (.fullTrimWindowDone l) s = .next (afterJobs (earlyRemap l.val (tryDr l.val (runLan l.val (jobFail l.val p.val u))))) ∧ (getLan u l.val).phase = restPhase (getLan s l.val) ∧ (getLan u l.val).calStat = setBit (getLan s l.val).calStat 2 ∧
    (getWick u l.val p.val).st = .quarantined ∧ (getWick u l.val p.val).lwick = none ∧ (getWick u l.val p.val).trimFails = (getWick s l.val p.val).trimFails + 1 ∧ (0 < (getWick s l.val p.val).trimFails → (getLan u l.val).suspect = true) ∧ Frame ([.lans, .wicks, .scn] ++ Part.posting) s u) ∧
  (∀ (s : State) (l : Lan), ((getLan s l.val).calWick = none ∨ ∃ p, (getLan s l.val).calWick = some p ∧ (getWick s l.val p.val).winSteps < 65536) → exec (.fullTrimWindowDone l) s = .next (afterJobs s)) ∧
  (∀ (s : State) (l : Lan), genFree (getLan s l.val) = true → divNow s l.val = 0 → drFalls (nowF s) (getLan s l.val) = true → (∀ t ∈ (getLan s l.val).drBegan, t + 675000000 ≤ nowF s) → s.lmp.frozen = false → s.snuf.wheld = false → (getLan s l.val).st ≠ .retired →
    let u := setLan l.val { getLan s l.val with drDue := true } s; drGap u l.val = true → exec (.driveRefCalDue l) s =
    .next (setLan l.val (drStart (nowF s) s.fresh (getLan s l.val)) { s with fresh := s.fresh + 983040 })) ∧
  (∀ (s : State) (l : Lan), genFree (getLan s l.val) = true → divNow s l.val = 0 → drFalls (nowF s) (getLan s l.val) = true → (∀ t ∈ (getLan s l.val).drBegan, t + 675000000 ≤ nowF s) → s.lmp.frozen = false → s.snuf.wheld = false → (getLan s l.val).st ≠ .retired →
    let u := setLan l.val { getLan s l.val with drDue := true } s; drGap u l.val = false → exec (.driveRefCalDue l) s = .next (setLan l.val { getLan s l.val with drDue := true, phase := .drWait } s)) ∧
  (∀ (s : State) (l : Lan), (getLan s l.val).phase = .drRun ∨ (getLan s l.val).phase = .drWait ∨ drFalls (nowF s) (getLan s l.val) = false → exec (.driveRefCalDue l) s = .next s) ∧
  (∀ (s : State) (l : Lan), exec (.driveRefCalGapWait l) s = .next (setLan l.val (if (getLan s l.val).phase = .drWait then { getLan s l.val with drAtBoundary := true } else getLan s l.val) s)) ∧
  (∀ (s : State) (l : Lan), (getLan s l.val).phase = .drRun → (getLan s l.val).drGot = 7680 → ∃ u, exec (.driveRefCalDone l) s = .next (afterJobs (runLan l.val (afterDriveRef l.val u))) ∧ (getLan u l.val).drcal = false ∧ (getLan u l.val).phase = restPhase (getLan s l.val) ∧
    (∀ i < 16, Tab.get 0 (getLan u l.val).taps i = if i = 8 then Tab.get 0 (getLan s l.val).taps i else (clip6 (Tab.get 0 (getLan s l.val).taps i + tapChange (Tab.get 0 (getLan s l.val).drA i) (Tab.get 0 (getLan s l.val).drB i) (tapVal i).natAbs)).1) ∧ Frame (.lans :: Part.posting) s u) ∧
  (∀ (s : State) (l : Lan), (getLan s l.val).phase ≠ .drRun ∨ (getLan s l.val).drGot ≠ 7680 → exec (.driveRefCalDone l) s = .next (afterJobs s))

/-- The device record in flash, monitor conversions, urgent requests and converter control. A device-record write puts every
listed wick's trim codes, column map, strike and failure, every listed lantern's taps and strike, the retired sconces and the
diode table into flash, each section under its tag, and touches nothing else; where the record's region is absent it writes
nothing. A conversion's code follows the input's level and the gain, with the nearest code a choice (log 138); a sequence
entry's code is stored with its pass and becomes the input's latest value, and a clipped level sets CLAMP; a ×1 diode entry
gives the temperature by SLOPE and INTERCEPT, counts hot samples, and at the sixteenth sets TRIP and withholds with cause 05.
An urgent result of firmware or the governor becomes the latest value, firmware's also the result; an idle converter's
conversion changes nothing. A second GO while firmware's own request waits sets URG_OVF, any other asks the converter;
MON_CVn_CTL sets LEN and MODE and starts a pass. Where the manual leaves a point of these commands open, the clause holds the
model's choice (log 21, 92, 93, 138, 139).
Cites R200, R450, R452, R202, R204, R206, R207, R208, R213, R171. -/
def Obligations.DeviceRecordAndMonitor : Prop :=
  (∀ s : State, s.flash.noRec = false → Runs .deviceRecordWrite s (fun t => (∀ k ∈ keysOf s.wicks, let x := Tab.get Wick.init s.wicks k; let r := Tab.get RecWick.init t.flash.wicks k
      r.trim = x.trim ∧ r.colmap = [x.cm0, x.cm1, x.cm2, x.cm3] ∧ r.strike = x.strike ∧ (x.st = .failed → r.retired = true)) ∧
    (∀ l ∈ keysOf s.lans, let v := Tab.get Lantern.init s.lans l; let r := Tab.get RecLan.init t.flash.lans l; r.taps = v.taps ∧ r.strike = v.strike ∧ (v.st = .retired → r.retired = true)) ∧
    t.flash.diodes = s.mon.dtab ∧ (∀ n < 16, (getScn s n).retire = true → n ∈ t.flash.sconces) ∧ (∀ n ∈ recSections s, Tab.get [] t.flash.tags n = secTag t n) ∧ Frame [.flash] s t)) ∧
  (∀ s : State, s.flash.noRec = true → exec .deviceRecordWrite s = .next s) ∧
  (∀ (g : BitVec 2) (level err : Int), levelCode g level err = BitVec.ofInt 12 (if level < 0 then 0 else if 1000000 < level * 2 ^ g.toNat then 4095 else clampI 0 4095 (rneDiv (level * 2 ^ g.toNat * 4095) 1000000 + err))) ∧
  (∀ (s : State) (n : Fin 4) (level err : Int) (e : SeqEntry), n.val < s.mon.cvs.length → (getCv s n.val).urgent = none → (getCv s n.val).run = true → (getCv s n.val).seqNow[(getCv s n.val).entry]? = some e →
    let code := levelCode e.gain level err; let t8 := tempOf (s.mon.dtab.getD e.input.toNat (0, 0)) code.toNat; let run := if 840 ≤ t8 then min 16 ((s.mon.temp.getD e.input.toNat (0, 0)).1.toNat + 1) else 0
    ¬ ((e.input.toNat < 32 ∧ e.gain = 0) ∧ run = 16) → Runs (.monConversionDone n level err) s (fun t => getCv t n.val = storeEntry (getCv s n.val) code ∧
      Tab.get 0 t.mon.latest e.input.toNat = code ∧ t.mon.stat = (if levelClips e.gain level then setBit s.mon.stat 1 else s.mon.stat) ∧
      (if (e.input.toNat < 32 ∧ e.gain = 0) then (e.input.toNat < s.mon.temp.length → t.mon.temp.getD e.input.toNat (0, 0) = (BitVec.ofNat 5 run, t8)) else t.mon.temp = s.mon.temp) ∧ Frame [.mon] s t)) ∧
  (∀ (s : State) (n : Fin 4) (level err : Int) (e : SeqEntry), (getCv s n.val).urgent = none → (getCv s n.val).run = true → (getCv s n.val).seqNow[(getCv s n.val).entry]? = some e →
    let code := levelCode e.gain level err; (e.input.toNat < 32 ∧ e.gain = 0) → 840 ≤ tempOf (s.mon.dtab.getD e.input.toNat (0, 0)) code.toNat → 15 ≤ (s.mon.temp.getD e.input.toNat (0, 0)).1.toNat → s.snuf.wheld = false →
    Runs (.monConversionDone n level err) s (fun t => t.snuf = { wheld := true, cause := 5, detail := BitVec.ofNat 16 e.input.toNat } ∧ t.mon.stat.toNat % 2 = 1 ∧ Frame (.mon :: Part.withholding) s t)) ∧
  (∀ (s : State) (n : Fin 4) (level err : Int) (e : SeqEntry) (gov : Bool), n.val < s.mon.cvs.length → (getCv s n.val).urgent = some (gov, e) → ¬ (e.input.toNat < 32 ∧ e.gain = 0) → Runs (.monConversionDone n level err) s (fun t => let code := levelCode e.gain level err
    getCv t n.val = nextUrgent (getCv s n.val) ∧ t.mon.resValid = (if gov then s.mon.resValid else true) ∧ t.mon.resCode = (if gov then s.mon.resCode else code) ∧ t.mon.urgBusy = (if gov then s.mon.urgBusy else fwUrgent t.mon.cvs) ∧
    Tab.get 0 t.mon.latest e.input.toNat = code ∧ t.mon.temp = s.mon.temp ∧ t.mon.stat = (if levelClips e.gain level then setBit s.mon.stat 1 else s.mon.stat) ∧ Frame [.mon] s t)) ∧
  (∀ (s : State) (n : Fin 4) (level err : Int), (getCv s n.val).urgent = none → (getCv s n.val).run = false → exec (.monConversionDone n level err) s = .next s) ∧
  (∀ (s : State) (v : W32), bitAt v 31 = true → s.mon.cvs.any (fun c => c.waitFw.isSome) = true → exec (.monUrgGo false v) s = .next { s with mon := { s.mon with stat := setBit s.mon.stat 2 } }) ∧
  (∀ (s : State) (v : W32), bitAt v 31 = true → s.mon.cvs.any (fun c => c.waitFw.isSome) = false → Runs (.monUrgGo false v) s (fun t => t.mon.urgBusy = true ∧ t.mon.resValid = false ∧ t.mon.urgConv = BitVec.ofNat 2 (fld v 17 16) ∧ t.mon.urgInput = BitVec.ofNat 6 (fld v 5 0) ∧
      (fld v 17 16 < s.mon.cvs.length → getCv t (fld v 17 16) = askUrgent false (urgEntry v) (getCv s (fld v 17 16))) ∧ Frame [.mon] s t)) ∧
  (∀ (s : State) (v : W32), bitAt v 31 = false → exec (.monUrgGo false v) s = .next { s with mon := { s.mon with urgConv := BitVec.ofNat 2 (fld v 17 16), urgGain := (urgEntry v).gain, urgTs := (urgEntry v).ts, urgInput := (urgEntry v).input } }) ∧
  (∀ (s : State) (v : W32) (n : Nat), n = fld v 17 16 → n < s.mon.cvs.length → Runs (.monUrgGo true v) s (fun t => getCv t n = askUrgent true (urgEntry v) (getCv s n) ∧ Frame [.mon] s t)) ∧
  (∀ (s : State) (n : Fin 4) (v : W32), n.val < s.mon.cvs.length → Runs (.monCvGo n v) s (fun t => let c := getCv s n.val; let c' := { c with len := BitVec.ofNat 5 (min 16 (fld v 4 0)), mode := bitAt v 8 }
    getCv t n.val = (if c.run = true then c' else if bitAt v 8 = false ∨ bitAt v 30 = true then beginPass c' else c') ∧ Frame [.mon] s t))

/-- A flicker, the launch of a granted probe, the completion of a flare and the settlement notice. From the start of ACLK on, a
flicker counts one and takes 8 ACLK; before it none passes. A granted readback probe drives its one row at 4 with exponent 0,
is put in flight on the wick's next bank with the trim and tap codes latched, and is counted as launched. A complete flare
leaves its context's runs and counts in the storm window; each of its lanterns frees the slot, counts the flare, drops the
wick values and holds the sums in its output area; blocks that waited enter the free slots, the flags of its vector and an
empty query are noted, and the row chains finish (runTail). A daylight flare whose exact sums miss the check store withholds
with cause 04; with no complete flare none closes. A settlement goes to its final package, or counts here where this package
is it, once the journal holds nothing of the request, and waits until then. Where the manual leaves a point of these commands
open, the clause holds the model's choice (log 83, 87, 107, 108).
Cites R152, R153, R155, R279, R292, R48, R103, R102, R121, R96, R231, R243. -/
def Obligations.FlickersAndFlareCompletion : Prop :=
  (∀ (s : State) (draws : List Lan), 5 ≤ s.clk.step → ∃ u, exec (.flicker draws) s = .next (kickOps (kickAllStages u)) ∧ u.lmp.flicker.val = s.lmp.flicker.val + 1 ∧ u.clk = { s.clk with aclk := s.clk.aclk + 8 } ∧
    Frame [.wicks, .lans, .engs, .lmp, .lctx, .pwr, .chk, .clk, .gvl, .mbx, .posted, .mgt, .fresh] s u) ∧
  (∀ (s : State) (draws : List Lan), s.clk.step < 5 → exec (.flicker draws) s = .next (kickOps (kickAllStages s))) ∧
  (∀ (s : State) (l : Lan) (w : PWick) (f : Nat), probing (getWick s l.val w.val) = true → let x := getWick s l.val w.val; let t := launch f s (.probe l w)
    getWick t l.val w.val = { x with rbLaunched := x.rbLaunched + 1, bankB := !x.bankB } ∧ getLan t l.val = { getLan s l.val with lastLaunch := some f } ∧ t.lmp = { s.lmp with flights := s.lmp.flights ++ [{ kind := .probe, lan := l, pw := w, x := [(x.rbLaunched, 4)], lo := x.rbLaunched, hi := x.rbLaunched + 1, gidx := 0, gcnt := 1, e := 0, last := true, bankB := x.bankB, tp := (getLan s l.val).tpoint.toNat, trim := x.trim, taps := (getLan s l.val).taps, launched := f, dead := false }] } ∧ Frame [.lans, .wicks, .lmp] s t) ∧
  (∀ (s : State) (c : CtxI) (r : FlareRun), s.snuf.wheld = false → (getLctx s c.val).runs.find? (runDone s) = some r → (r.lans.map (fun q => q.2.1)).Nodup → (if r.req.daylight then daylightBad s c.val r else none) = none →
    let out := fun (q : LLan × Lan × Bool) => outArea (shapeQ (getLan s q.2.1.val)) (getSlot (getLan s q.2.1.val) q.2.2) (wickVals s c.val r q); let areas := r.lans.map (fun q => (q.2.1, out q))
    let tail : FlareTail := { id := r.id, req := r.req, clean := r.clean, resolved := r.resolved, checks := if r.req.daylight then daylightChecks s r else r.checks, chains := if r.req.thread.val < 8 then r.lans.filterMap (flareChain s r areas) else [], outs := [] }
    ∃ u, exec (.flareComplete c) s = .next (kickOps (runTail c.val tail (noteEmpty s r (noteReq c.val r.req.inst (vecFlags s r) (drainBroadcasts u))))) ∧
    (let x := getLctx u c.val; x.runs = (getLctx s c.val).runs.filter (fun a => a.id != r.id) ∧ x.winFlares = (getLctx s c.val).winFlares + 1 ∧
      x.winFallback = (getLctx s c.val).winFallback + (if r.hadFallback then 1 else 0)) ∧
    (∀ q ∈ r.lans, let v := getLan s q.2.1.val; let w := getLan u q.2.1.val; getSlot w q.2.2 = Slot.init ∧ getSlot w (!q.2.2) = getSlot v (!q.2.2) ∧ w.flares = v.flares.inc ∧ w.out = some (out q) ∧ w.accs = v.accs.filter (fun a => a.flare != r.id)) ∧ Frame [.lans, .lctx] s u) ∧
  (∀ (s : State) (c : CtxI) (r : FlareRun) (l : Nat), s.snuf.wheld = false → (getLctx s c.val).runs.find? (runDone s) = some r → r.req.daylight = true → daylightBad s c.val r = some l →
    ∃ u, exec (.flareComplete c) s = .next (kickOps u) ∧ u.snuf = { wheld := true, cause := 4, detail := BitVec.ofNat 16 l } ∧ Frame Part.withholding s u) ∧
  (∀ (s : State) (c : CtxI), s.snuf.wheld = true ∨ (getLctx s c.val).runs.find? (runDone s) = none → exec (.flareComplete c) s = .next (kickOps s)) ∧
  (∀ (s : State) (c : CtxI) (inst : W32) (q : Settle), s.fab.settles.find? (fun q => q.slot == c.val && q.inst == inst) = some q → s.snuf.wheld = false →
    (∀ e ∈ Tab.get [] s.chk.jrnl c.val, e.inst ≠ inst) → exec (.settleSend c inst) s =
    .next (let s := { s with fab := { s.fab with settles := s.fab.settles.erase q } }; if q.final = s.fab.myid then settleCount c.val inst q.final s else sendNotice 0x24 q.final { ctx := q.ctx, reqtag := q.reqtag, inst := q.inst, seg := q.seg } 0 0 0 0 s)) ∧
  (∀ (s : State) (c : CtxI) (inst : W32) (e : JEntry), e ∈ Tab.get [] s.chk.jrnl c.val → e.inst = inst → exec (.settleSend c inst) s = .next s)

/-- Budget windows, cut epochs, the lamplighter's registers and the remap of a lantern. A budget window counts one and the next
begins: the shares come into force, scaled where they sum above the limit, and set the vector duty; every storm window
restarts, and commands that waited for the window finish. A cut epoch lowers, holds or raises the level (cutNext) and an ember
reports a change; before EN neither does anything but finish those commands. LMP_CFG sets EN for good and clamps AGE and
WIDE_T, and before ACLK leaves reset is ignored; PAUSE and the weights are written, a weight R159 refuses sets CFG_ERR. A
remap of a serving lantern gives its logical index and epoch to the HELD lantern of lowest index and leaves the old one
QUARANTINED or RETIRED, or withholds with cause 0B where the sconce has none. Where the manual leaves a point of these
commands open, the clause holds the model's choice (log 64, 87, 118, 147).
Cites R137, R159, R168, R169, R170, R172, R173, R180, R480, R481. -/
def Obligations.GovernorWindowsAndRemap : Prop :=
  (∀ (s : State) (m : Nat), s.lmp.en = true → Runs (.budgetWindow m) s (fun t => let p := takeShares { s.pwr with window := s.pwr.window + 1, meas := m, cmds := [] }
    t.pwr = { p with duty := BitVec.ofNat 8 (dutyOf p.vecNow p.level.toNat), cut := decide (p.level.toNat < 16), begun := true } ∧ (∀ c < 16, (getLctx t c).winFlares = 0 ∧ (getLctx t c).winFallback = 0) ∧ Frame ([.pwr, .lctx, .lmp] ++ Part.posting) s t)) ∧
  (∀ (s : State) (c : Nat), let x := getLctx s c; let n := x.winFlares; let hot := decide (n ≠ 0 ∧ s.lmp.wideT.toNat * n ≤ x.winFallback * 256)
    (getLctx (stormEnd s c) c).storm = (hot || (x.storm && !decide (n = 0 ∨ x.winFallback * 512 < s.lmp.wideT.toNat * n)))) ∧
  (∀ (s : State) (hot : BitVec 9) (e : Nat), s.lmp.en = true → cutNext s.pwr.level.toNat hot.toNat s.pwr.set.toNat e s.pwr.limit.toNat = s.pwr.level.toNat → exec (.cutEpoch hot e) s =
    .next { s with pwr := { s.pwr with epochs := s.pwr.epochs + 1, hot := hot, stat := if s.pwr.limit.toNat * 4096 < e then setBit s.pwr.stat 2 else s.pwr.stat, duty := BitVec.ofNat 8 (dutyOf s.pwr.vecNow s.pwr.level.toNat), cut := decide (s.pwr.level.toNat < 16) } }) ∧
  (∀ (s : State) (hot : BitVec 9) (e : Nat), s.lmp.en = true → let l := cutNext s.pwr.level.toNat hot.toNat s.pwr.set.toNat e s.pwr.limit.toNat; l ≠ s.pwr.level.toNat → exec (.cutEpoch hot e) s =
    .next (ember 0 0x0403 0 none l { s with lmp := { s.lmp with stat := setBit s.lmp.stat 1 }, pwr := { s.pwr with level := BitVec.ofNat 5 l, epochs := s.pwr.epochs + 1, hot := hot, stat := if s.pwr.limit.toNat * 4096 < e then setBit s.pwr.stat 2 else s.pwr.stat, duty := BitVec.ofNat 8 (dutyOf s.pwr.vecNow l), cut := decide (l < 16) } })) ∧
  (∀ (s : State), s.lmp.en = false → (∀ m, Runs (.budgetWindow m) s (fun t => t.pwr = { s.pwr with cmds := [] } ∧ Frame (.pwr :: Part.posting) s t)) ∧ ∀ hot e, exec (.cutEpoch hot e) s = .next s) ∧
  (∀ (s : State) (v : W32), 5 ≤ s.clk.step → (s.lmp.en = true ∨ bitAt v 31 = true) → exec (.lmpCfgEn v) s = .next { s with lmp := { s.lmp with en := true, age := BitVec.ofNat 14 (clampN 10 10000 (fld v 29 16)), wideT := if fld v 7 0 = 0 then 1 else BitVec.ofNat 8 (fld v 7 0) }, clk := { s.clk with step := 7 } }) ∧
  (∀ (s : State) (v : W32), 5 ≤ s.clk.step → s.lmp.en = false → bitAt v 31 = false → exec (.lmpCfgEn v) s = .next { s with lmp := { s.lmp with age := BitVec.ofNat 14 (clampN 10 10000 (fld v 29 16)), wideT := if fld v 7 0 = 0 then 1 else BitVec.ofNat 8 (fld v 7 0) } }) ∧
  (∀ (s : State) (v : W32), s.clk.step < 5 → exec (.lmpCfgEn v) s = .next s) ∧
  (∀ (s : State) (c : CtxI) (v : W32), exec (.lmpPauseWrite c v) s = .next (setLctx c.val { getLctx s c.val with pause := bitAt v 0 } s)) ∧
  (∀ (s : State) (c : CtxI) (v : W32), exec (.pwrCtxwWrite c v) s = .next (if weightSum s c.val (fld v 8 0) ≤ 256 ∧ ¬ (fld v 8 0 = 0 ∧ sconcesOf s c.val ≠ []) then
    setLctx c.val { getLctx s c.val with weight := BitVec.ofNat 9 (fld v 8 0) } s else { s with pwr := { s.pwr with stat := setBit s.pwr.stat 0 } })) ∧
  (∀ (s : State) (ll : LLan) (closing : List (LWick × List (Nat × Int))) (p : Nat), lanOf s ll.val = some p → heldFree s (sconceOfL ll.val) = none → s.snuf.wheld = false → Runs (.lanternRemap ll closing) s (fun t => t.snuf = { wheld := true, cause := 0x0B, detail := BitVec.ofNat 16 p } ∧ Frame [.wicks, .lans, .engs, .lmp, .lctx, .chk, .snuf, .stks, .clk, .fab, .gvl, .mbx, .ctxs, .invs, .posted, .flash, .mgt, .fresh] s t)) ∧
  (∀ (s : State) (ll : LLan) (closing : List (LWick × List (Nat × Int))) (p q : Nat), lanOf s ll.val = some p → heldFree s (sconceOfL ll.val) = some q → s.snuf.wheld = false → Runs (.lanternRemap ll closing) s (fun t =>
    (getLan t q).llan = some ll ∧ (getLan t q).epoch = (getLan s p).epoch ∧ (getLan t p).llan = none ∧ ((getLan t p).st = .quarantined ∨ (getLan t p).st = .retired) ∧ t.snuf = s.snuf ∧ Frame [.wicks, .lans, .engs, .lmp, .lctx, .chk, .snuf, .stks, .clk, .fab, .gvl, .mbx, .ctxs, .invs, .posted, .flash, .mgt, .fresh] s t)) ∧
  (∀ (s : State) (ll : LLan) (closing : List (LWick × List (Nat × Int))), lanOf s ll.val = none → exec (.lanternRemap ll closing) s = .next s)

/-- Lane operations of the vector engines. An issued float, dot-product, integer, conversion, selection, reduction or special-
function instruction puts its result into the guarded lanes of VD, keeps the others, counts itself and moves the thread on by
8 bytes; the other registers, the other engines and every other part of the machine but the request's ledger stay. Where the
manual leaves a point of these commands open, the clause holds the model's choice (log 8, 35, 36, 39, 41, 42, 134).
Cites R125, R126, R127, R128, R129, R130, R78, R80. -/
def Obligations.EngineLaneOperations : Prop :=
  (∀ (s : State) (l : Lan) (t : ThreadI) (w : W64) (th : Thread), let e := getEng s l.val; Issues s l t w 1 (laneForm w (wOp w = 0) [0xB]) th → wOp w ≤ 4 →
    Runs (.vecFloat l t w .clean) s (LanesGot s l t w th (fun i => (floatLane w (lane e th (wVa w) i) (lane e th (wVb w) i) (lane e th (wVc w) i)).1))) ∧
  (∀ (s : State) (l : Lan) (t : ThreadI) (w : W64) (th : Thread), let e := getEng s l.val; Issues s l t w 2 (laneForm w true [0x9, 0xA]) th → wOp w = 0 →
    Runs (.vecDot2 l t w .clean) s (LanesGot s l t w th (fun i => (dotLane (if wFmt w = 0x9 then fBF16 else fFP16) 16 2 (lane e th (wVa w) i) (lane e th (wVb w) i) (lane e th (wVc w) i)).1))) ∧
  (∀ (s : State) (l : Lan) (t : ThreadI) (w : W64) (th : Thread), let e := getEng s l.val; Issues s l t w 3 (laneForm w true [0x7, 0x8]) th → wOp w = 0 →
    Runs (.vecDot4 l t w .clean) s (LanesGot s l t w th (fun i => (dotLane (if wFmt w = 0x7 then fE4M3 else fE5M2) 8 4 (lane e th (wVa w) i) (lane e th (wVb w) i) (lane e th (wVc w) i)).1))) ∧
  (∀ (s : State) (l : Lan) (t : ThreadI) (w : W64) (th : Thread), let e := getEng s l.val; Issues s l t w 3 (laneForm w true [0x4]) th → wOp w = 1 →
    Runs (.vecDot4 l t w .clean) s (LanesGot s l t w th (fun i => (idotLane (lane e th (wVa w) i) (lane e th (wVb w) i) (lane e th (wVc w) i)).1))) ∧
  (∀ (s : State) (l : Lan) (t : ThreadI) (w : W64) (th : Thread), let e := getEng s l.val; Issues s l t w 4 (laneForm w false [0xC, 0xD]) th → wOp w ≤ 7 →
    Runs (.vecInteger l t w .clean) s (LanesGot s l t w th (fun i => (intLane w (lane e th (wVa w) i) (lane e th (wVb w) i)).1))) ∧
  (∀ (s : State) (l : Lan) (t : ThreadI) (w : W64) (th : Thread), let e := getEng s l.val; Issues s l t w 5 ({ vec := [wVd w, wVa w ], scal := [], pred := [], fmts := cvtFmts, immOk := cvtFmts.contains (wImm w % 16), vector := true }) th → wOp w = 0 →
    Runs (.vecConvert l t w .clean) s (LanesGot s l t w th (fun i => (cvtLane w (lane e th (wVa w) i)).1))) ∧
  (∀ (s : State) (l : Lan) (t : ThreadI) (w : W64) (th : Thread), let e := getEng s l.val; Issues s l t w 5 ({ vec := [wVd w, wVa w ], scal := [], pred := [], fmts := cvtFmts, immOk := decide ((packPart w + 1) * laneWidth (wFmt w) ≤ 32), vector := true }) th → wOp w = 2 →
    Runs (.vecConvert l t w .clean) s (LanesGot s l t w th (fun i => (unpackLane w (vreg e th (wVa w)) i).1))) ∧
  (∀ (s : State) (l : Lan) (t : ThreadI) (w : W64) (th : Thread), let e := getEng s l.val; Issues s l t w 7 ({ vec := [wVd w, wVa w ], scal := [], pred := [], fmts := [0xB, 0xD], immOk := true, vector := true }) th → wOp w ≤ 2 →
    Runs (.vecReduce l t w .clean) s (LanesGot s l t w th (fun i => (pairwise (redStep w) 7 (vreg e th (wVa w))).1))) ∧
  (∀ (s : State) (l : Lan) (t : ThreadI) (w : W64) (th : Thread), let e := getEng s l.val; Issues s l t w 8 ({ vec := [wVd w, wVa w ], scal := [], pred := [], fmts := [0xB], immOk := true, vector := true }) th → wOp w ≤ 7 →
    Runs (.vecSpecial l t w .clean) s (LanesGot s l t w th (fun i => (special (wOp w) (lane e th (wVa w) i)).1))) ∧
  (∀ (s : State) (l : Lan) (t : ThreadI) (w : W64) (th : Thread), let e := getEng s l.val; Issues s l t w 6 (laneForm w false [0xB, 0xD]) th → wOp w = 1 → Runs (.vecCompare l t w .clean) s (fun u =>
    (∀ i, i < 128 → lane (getEng u l.val) th (wVd w) i = if laneOn e t.val w i then lane e th (wVa w) i else lane e th (wVb w) i) ∧ Went s l t th u ∧ (getEng u l.val).issue = e.issue.inc ∧ EngineElse s l (some (physReg th (wVd w))) u ∧ Frame [.engs] s u)) ∧
  (∀ (s : State) (l : Lan) (t : ThreadI) (w : W64) (th : Thread), let e := getEng s l.val; wOp w = 0 ∨ wOp w = 2 → Issues s l t w 6 { vec := if wOp w = 0 then [wVa w, wVb w] else [wVa w], scal := [], pred := [wVd w], fmts := [0xB, 0xD], immOk := true, vector := true } th →
    Runs (.vecCompare l t w .clean) s (fun u => (∀ i, i < 128 → (Tab.get 0 (getEng u l.val).preds (t.val * 8 + wVd w)).toNat / 2 ^ i % 2 = if laneOn e t.val w i then (if cmpLane w (lane e th (wVa w) i) (if wOp w = 0 then lane e th (wVb w) i else BitVec.ofNat 32 (wImm w)) then 1 else 0)
      else (Tab.get 0 e.preds (t.val * 8 + wVd w)).toNat / 2 ^ i % 2) ∧
      (∀ p, p ≠ t.val * 8 + wVd w → Tab.get 0 (getEng u l.val).preds p = Tab.get 0 e.preds p) ∧ Went s l t th u ∧ (getEng u l.val).regs = e.regs ∧ (getEng u l.val).sregs = e.sregs ∧ (getEng u l.val).inbox = e.inbox ∧ (∀ k, k ≠ l.val → getEng u k = getEng s k) ∧ (getEng u l.val).issue = e.issue.inc ∧ Frame [.engs] s u)) ∧
  (∀ (s : State) (l : Lan) (t : ThreadI) (w : W64) (th : Thread), let e := getEng s l.val; let n := laneWidth (wFmt w); Issues s l t w 5 { vec := [wVd w, wVa w], scal := [], pred := [], fmts := cvtFmts, immOk := decide ((packPart w + 1) * n ≤ 32), vector := true } th → wOp w = 1 →
    Runs (.vecConvert l t w .clean) s (fun u => (∀ i, i < 128 → lane (getEng u l.val) th (wVd w) i =
      if laneOn e t.val w i = true ∧ packPart w * 4 * n ≤ i ∧ i < packPart w * 4 * n + 4 * n then (packLanes n ((vreg e th (wVa w)).map (fun v => (laneNarrow w (wFmt w) (fp v)).1))).getD (i - packPart w * 4 * n) 0
      else lane e th (wVd w) i) ∧ Went s l t th u ∧ (getEng u l.val).issue = e.issue.inc ∧ EngineElse s l (some (physReg th (wVd w))) u ∧ Frame [.engs, .ctxs] s u))

/-- Control, fire, transfer and privileged instructions; the time limit and KILL. Exit frees the thread's slot; a barrier passes
once no access is outstanding; scalar arithmetic writes its scalar register; FIRE queues the flare or stalls its thread while
64 wait; WAITF waits for the thread's own flares; SEND appends VB to the target's inbox and RECV takes the oldest. Class 0xF
of a supplied kernel releases the output area, hands the moments of full windows over or hands an audit copy over; of a
customer it is cause 4. A branch goes where the free target points (log 38). The time limit records cause 5 and ends the
invocation; VEC_CTL sets CUST_EN and stops the customer threads on KILL. Every other part of the machine, the other engines
and the registers not named stay. Where the manual leaves a point of these commands open, the clause holds the model's choice
(log 8, 40, 44, 46, 47, 48, 131, 133).
Cites R125, R126, R127, R143, R144, R147, R148, R150, R151, R162. -/
def Obligations.EngineControlFireAndTransfer : Prop :=
  (∀ (s : State) (l : Lan) (t : ThreadI) (w : W64) (th : Thread), let e := getEng s l.val; Issues s l t w 0 ({ vec := [], scal := if wOp w = 4 then [wVd w, wVa w, wVb w] else [], pred := [], fmts := [], immOk := true, vector := false }) th → wOp w = 3 → th.loads = [] → Runs (.vecControl l t w) s (fun u => Went s l t th u ∧ (getEng u l.val).issue = e.issue ∧ EngineElse s l none u ∧ Frame [.engs] s u)) ∧
  (∀ (s : State) (l : Lan) (t : ThreadI) (w : W64) (th : Thread), let e := getEng s l.val; Issues s l t w 0 ({ vec := [], scal := if wOp w = 4 then [wVd w, wVa w, wVb w] else [], pred := [], fmts := [], immOk := true, vector := false }) th → wOp w ≤ 1 → Runs (.vecControl l t w) s (fun u => threadAt u l.val t.val = some { th with pc := freePc e t.val w th } ∧ EngineElse s l none u ∧ Frame [.engs] s u)) ∧
  (∀ (s : State) (l : Lan) (t : ThreadI) (w : W64) (th : Thread), let e := getEng s l.val; Issues s l t w 0 ({ vec := [], scal := if wOp w = 4 then [wVd w, wVa w, wVb w] else [], pred := [], fmts := [], immOk := true, vector := false }) th → wOp w = 4 → Runs (.vecControl l t w) s (fun u => Went s l t th u ∧ sreg (getEng u l.val) t.val (wVd w) = Config.unstated 0 w.toNat (sreg e t.val (wVa w)) (sreg e t.val (wVb w)) ∧ (∀ k, k ≠ t.val * 32 + wVd w → Tab.get 0 (getEng u l.val).sregs k = Tab.get 0 e.sregs k) ∧ (getEng u l.val).regs = e.regs ∧ (getEng u l.val).preds = e.preds ∧ (∀ k, k ≠ l.val → getEng u k = getEng s k) ∧ Frame [.engs] s u)) ∧
  (∀ (s : State) (l : Lan) (t : ThreadI) (w : W64) (th : Thread), let e := getEng s l.val; Issues s l t w 0 ({ vec := [], scal := if wOp w = 4 then [wVd w, wVa w, wVb w] else [], pred := [], fmts := [], immOk := true, vector := false }) th → wOp w = 2 → exec (.vecControl l t w) s = .next (match th.inv with
      | none => startWaiting l (endThread l.val t.val s)
      | some id => invDone id (startWaiting l (endThread l.val t.val s))) ∧ threadAt (endThread l.val t.val s) l.val t.val = none) ∧
  (∀ (s : State) (l : Lan) (t : ThreadI) (w : W64) (th : Thread) (f : FireArg), Issues s l t w 0xE ({ vec := [], scal := [], pred := [], fmts := [0x3, 0x4], immOk := true, vector := false }) th → wOp w = 0 → s.lmp.frozen = false → ownFlare s th.ctx f.lans = true → (getLctx s th.ctx.val).queue.length < 64 →
    Runs (.fire l t w f) s (fun u => Went s l t th u ∧ (getLctx u th.ctx.val).queue = (getLctx s th.ctx.val).queue ++ [{ fireReq l t th f s with seq := (getLctx s th.ctx.val).seqNext }] ∧ (getLctx u th.ctx.val).seqNext = (getLctx s th.ctx.val).seqNext + 1 ∧ EngineElse s l none u ∧ (∀ k, k ≠ th.ctx.val → getLctx u k = getLctx s k) ∧ Frame [.engs, .lctx] s u)) ∧
  (∀ (s : State) (l : Lan) (t : ThreadI) (w : W64) (th : Thread) (f : FireArg), Issues s l t w 0xE ({ vec := [], scal := [], pred := [], fmts := [0x3, 0x4], immOk := true, vector := false }) th → wOp w = 0 → s.lmp.frozen = false → ownFlare s th.ctx f.lans = true → 64 ≤ (getLctx s th.ctx.val).queue.length →
    Runs (.fire l t w f) s (fun u => threadAt u l.val t.val = some { th with pc := th.pc + 8, wait := .fireFull (fireReq l t th f s) } ∧ u.lmp = { s.lmp with stat := setBit s.lmp.stat 4 } ∧ EngineElse s l none u ∧ Frame [.engs, .lmp] s u)) ∧
  (∀ (s : State) (l : Lan) (t : ThreadI) (w : W64) (th : Thread), let e := getEng s l.val; Issues s l t w 14 ({ vec := [], scal := [], pred := [], fmts := [], immOk := true, vector := false }) th → wOp w = 1 → s.lmp.frozen = false → Runs (.waitf l t w) s (fun u => Frame [.engs] s u ∧ EngineElse s l none u ∧ (let x := getLctx s th.ctx.val; let mine := fun (q : FlareReq) => q.lan == l && q.thread == t
      threadAt u l.val t.val = some (if x.queue.any mine || x.refire.any mine || x.runs.any (fun r => mine r.req) || x.tails.any (fun r => mine r.req) then { th with pc := th.pc + 8, wait := .flare } else { th with pc := th.pc + 8 })))) ∧
  (∀ (s : State) (l : Lan) (t : ThreadI) (w : W64) (th : Thread), let e := getEng s l.val; let to_ := sendTarget e t.val w
    Issues s l t w 0xD { vec := [wVb w], scal := [wVa w], pred := [], fmts := [0xD, 0xE], immOk := true, vector := true } th → wOp w = 0 →
    (ownerOfLan s to_ = some th.ctx ∨ t.val < 8) → (eastSconce (sconceOf to_) = eastSconce (sconceOf l.val) ∨ gateClosed s (eastSconce (sconceOf to_)) = false) →
    Runs (.send l t w .clean) s (fun u => (getEng u to_).inbox = (getEng s to_).inbox ++ [vreg e th (wVb w)] ∧ (∀ k, k ≠ to_ → (getEng u k).inbox = (getEng s k).inbox) ∧ Went s l t th u ∧
      (∀ k, (getEng u k).regs = (getEng s k).regs ∧ (getEng u k).sregs = (getEng s k).sregs ∧ (getEng u k).preds = (getEng s k).preds) ∧ (getEng u l.val).issue = e.issue.inc ∧ Frame [.engs] s u)) ∧
  (∀ (s : State) (l : Lan) (t : ThreadI) (w : W64) (th : Thread) (d : List W32) (r : List (List W32)), let e := getEng s l.val; e.inbox = d :: r → d.length ≤ 128 →
    Issues s l t w 0xD { vec := [wVd w], scal := [], pred := [], fmts := [0xD, 0xE], immOk := true, vector := true } th → wOp w = 1 →
    Runs (.recv l t w) s (fun u => (getEng u l.val).inbox = r ∧ Went s l t th u ∧ (∀ i, i < 128 → lane (getEng u l.val) th (wVd w) i = if laneOn e t.val w i = true ∧ i < d.length then d.getD i 0 else lane e th (wVd w) i) ∧
      (∀ p, p / 128 ≠ physReg th (wVd w) → Tab.get 0 (getEng u l.val).regs p = Tab.get 0 e.regs p) ∧ (getEng u l.val).sregs = e.sregs ∧ (getEng u l.val).preds = e.preds ∧ (getEng u l.val).issue = e.issue.inc ∧ (∀ k, k ≠ l.val → getEng u k = getEng s k) ∧ Frame [.engs] s u)) ∧
  (∀ (s : State) (l : Lan) (t : ThreadI) (w : W64) (th : Thread), Issues s l t w 0xF ({ vec := [], scal := [], pred := [], fmts := [], immOk := true, vector := false }) th → wOp w = 0 → t.val < 8 → exec (.vecPrivileged l t w) s = .next (advance l.val t.val (updLan l.val (fun v => { v with out := none }) s)) ∧
    threadAt (advance l.val t.val (updLan l.val (fun v => { v with out := none }) s)) l.val t.val = some { th with pc := th.pc + 8 }) ∧
  (∀ (s : State) (l : Lan) (t : ThreadI) (w : W64) (th : Thread), Issues s l t w 0xF ({ vec := [], scal := [], pred := [], fmts := [], immOk := true, vector := false }) th → wOp w = 2 → t.val < 8 → exec (.vecPrivileged l t w) s = .next (advance l.val t.val (auditNow th.ctx.val l.val s)) ∧
    threadAt (advance l.val t.val (auditNow th.ctx.val l.val s)) l.val t.val = some { th with pc := th.pc + 8 }) ∧
  (∀ (s : State) (l : Lan) (t : ThreadI) (w : W64) (th : Thread), Issues s l t w 0xF ({ vec := [], scal := [], pred := [], fmts := [], immOk := true, vector := false }) th → wOp w = 1 → t.val < 8 → exec (.vecPrivileged l t w) s = .next (advance l.val t.val (handOff l.val s)) ∧
    (∀ th', threadAt (handOff l.val s) l.val t.val = some th' → threadAt (advance l.val t.val (handOff l.val s)) l.val t.val = some { th' with pc := th'.pc + 8 }) ∧
    (∀ p ∈ [Part.attn, .mem, .mon, .pwr, .scn, .sec, .twin, .xbr], p.same s (advance l.val t.val (handOff l.val s)))) ∧
  (∀ (s : State) (l : Lan) (t : ThreadI) (w : W64) (th : Thread), 8 ≤ t.val → threadAt s l.val t.val = some th → wClass w = 0xF → mayIssue s l.val t.val th = true → exec (.vecPrivileged l t w) s = .next (customerFault l.val t.val 4 s)) ∧
  (∀ (s : State) (c : CtxI) (id : Nat) (v : Invocation) (l : Lan) (q : Nat × Thread), s.invs.find? (fun v => v.id == id && v.ctx == c) = some v → v.lans = [l] → (threadsOf (getEng s l.val)).find? (fun p => p.2.inv == some id) = some q → threadAt s l.val q.1 = some q.2 → ∃ u,
    exec (.kernelTimeLimit c id) s = .next (failInv l.val id u) ∧ (getEng u l.val).faultCause = 5 ∧ (getEng u l.val).faultSlot = BitVec.ofNat 5 q.1 ∧ (getEng u l.val).faultCtx = some q.2.ctx ∧ (getEng u l.val).faultPc = q.2.pc + 0x58 ∧
      (getEng u l.val).stat = setBit (if q.1 < 8 then (getEng s l.val).stat else setBit (getEng s l.val).stat 1) 2 ∧ EngineElse s l none u ∧ Frame [.engs] s u) ∧
  (∀ (s : State) (l : Lan) (v : W32), bitAt v 31 = false → exec (.vecCtlKill l v) s = .next (setEng l.val { getEng s l.val with custEn := bitAt v 0 } s)) ∧
  (∀ (s : State) (l : Lan) (v : W32), bitAt v 31 = true → exec (.vecCtlKill l v) s = .next (stopCustomers l.val (setEng l.val { getEng s l.val with custEn := bitAt v 0 } s)))

/-- The hadamard unit, gather and scatter, and the top-k unit. ROT leaves the rotated block in the 16 registers from VD on; ROTL1
also leaves L_s and T_s in scalar VC. GATHER gives each guarded lane the buffer element its lane of VA indexes; SCATTER writes
them in lane order. TKPUSH keeps the first k candidates in rank order; TKPOP hands them out and empties the unit. Where the
manual leaves a point of these commands open, the clause holds the model's choice (log 37, 38, 39, 135).
Cites R85, R86, R88, R131, R132, R133, R125, R150. -/
def Obligations.EngineRotationGatherAndTopK : Prop :=
  (∀ (s : State) (l : Lan) (t : ThreadI) (w : W64) (th : Thread), let e := getEng s l.val; Issues s l t w 9 (rotForm w) th → wOp w = 0 → Runs (.rot l t w .clean) s (fun u =>
    (getEng u l.val).regs = (putBlockRegs th (wVd w) (rotated l.val t.val w th s).1 e).regs ∧ Went s l t th u ∧ (getEng u l.val).issue = e.issue.inc ∧ (getEng u l.val).sregs = e.sregs ∧ (getEng u l.val).preds = e.preds ∧ (getEng u l.val).inbox = e.inbox ∧ (∀ k, k ≠ l.val → getEng u k = getEng s k) ∧ Frame [.engs, .ctxs] s u)) ∧
  (∀ (s : State) (l : Lan) (t : ThreadI) (w : W64) (th : Thread), let e := getEng s l.val; let r := (rotated l.val t.val w th s).1; Issues s l t w 9 (rotForm w) th → wOp w = 1 → Runs (.rotl1 l t w .clean) s (fun u =>
    (getEng u l.val).regs = (putBlockRegs th (wVd w) r e).regs ∧ (let ls := (pairwise fadd 11 (r.map (fun x => x &&& 0x7FFFFFFF))).1
      sreg (getEng u l.val) t.val (wVc w) = (clipT (BitVec.ofNat 32 ((sreg e t.val (wVc w)).toNat / 2 ^ 32)) ls).1 ++ ls) ∧ (∀ k, k ≠ t.val * 32 + wVc w → Tab.get 0 (getEng u l.val).sregs k = Tab.get 0 e.sregs k) ∧ Went s l t th u ∧ (getEng u l.val).issue = e.issue.inc ∧
    (getEng u l.val).preds = e.preds ∧ (getEng u l.val).inbox = e.inbox ∧ (∀ k, k ≠ l.val → getEng u k = getEng s k) ∧ Frame [.engs, .ctxs] s u)) ∧
  (∀ (s : State) (l : Lan) (t : ThreadI) (w : W64) (th : Thread), let e := getEng s l.val; let at_ := fun i => elemAddr w (lane e th (wVa w) i)
    Issues s l t w 0xA { vec := [wVd w, wVa w], scal := [], pred := [], fmts := gatherFmts, immOk := true, vector := true } th → wOp w = 0 → (∀ i ∈ lanesOn e t.val w, bufReadable t.val th (at_ i) (elemBytes w) = true) →
    Runs (.gather l t w .clean) s (fun u => (∀ i, i < 128 → lane (getEng u l.val) th (wVd w) i = if laneOn e t.val w i then BitVec.ofNat 32 (ofLe (bufRead s l.val (at_ i).toNat (elemBytes w))) else lane e th (wVd w) i) ∧ Went s l t th u ∧ (getEng u l.val).issue = e.issue.inc ∧ EngineElse s l (some (physReg th (wVd w))) u ∧ Frame [.engs, .fresh] s u)) ∧
  (∀ (s : State) (l : Lan) (t : ThreadI) (w : W64) (th : Thread), let e := getEng s l.val; let on := (lanesOn e t.val w).map (fun i => (elemAddr w (lane e th (wVa w) i), lane e th (wVb w) i))
    Issues s l t w 0xA { vec := [wVa w, wVb w], scal := [], pred := [], fmts := gatherFmts, immOk := true, vector := true } th → wOp w = 1 → (∀ p ∈ on, bufWritable t.val th p.1 (elemBytes w) = true) →
    exec (.scatter l t w .clean) s = .next (advance l.val t.val (on.foldl (fun s p => putBuf l.val p.1.toNat (leBytes (elemBytes w) p.2.toNat) s) (countIssue l.val s)))) ∧
  (∀ (s : State) (l : Lan) (t : ThreadI) (w : W64) (th : Thread), let e := getEng s l.val; let clear := decide (0x800000 ≤ wImm w); let small : Bool := if clear then decide (0x400000 ≤ wImm w % 0x800000) else e.tkSmall
    Issues s l t w 0xB { vec := [wVa w, wVb w], scal := [], pred := [], fmts := [], immOk := !clear || decide (wImm w % 128 ≤ 64), vector := true } th → wOp w = 0 → Runs (.tkpush l t w .clean) s (fun u => let n := if clear then wImm w % 128 else e.tkK
      (getEng u l.val).tkK = n ∧ (getEng u l.val).tkSmall = small ∧ (getEng u l.val).tkList = (((lanesOn e t.val w).map (fun i => (lane e th (wVa w) i, lane e th (wVb w) i))).foldl (fun q x => tkInsert small x q) (if clear then [] else e.tkList)).take n ∧
      Went s l t th u ∧ (getEng u l.val).issue = e.issue.inc ∧ EngineElse s l none u ∧ Frame [.engs, .ctxs] s u)) ∧
  (∀ (s : State) (l : Lan) (t : ThreadI) (w : W64) (th : Thread), let e := getEng s l.val; let n := e.tkList.length; Issues s l t w 0xB { vec := [wVd w, wVc w], scal := [], pred := [], fmts := [], immOk := true, vector := true } th → wOp w = 1 → n ≤ 128 →
    Runs (.tkpop l t w) s (fun u => (getEng u l.val).tkList = [] ∧ Went s l t th u ∧ (getEng u l.val).issue = e.issue.inc ∧
      (∀ i, i < 128 → lane (getEng u l.val) th (wVc w) i = (if i < n then (e.tkList.getD i (0, 0)).2 else lane e th (wVc w) i)) ∧
      (physReg th (wVd w) ≠ physReg th (wVc w) → ∀ i, i < 128 → lane (getEng u l.val) th (wVd w) i = (if i < n then (e.tkList.getD i (0, 0)).1 else lane e th (wVd w) i)) ∧
      (∀ p, p / 128 ≠ physReg th (wVd w) → p / 128 ≠ physReg th (wVc w) → Tab.get 0 (getEng u l.val).regs p = Tab.get 0 e.regs p) ∧ (getEng u l.val).sregs = e.sregs ∧ (getEng u l.val).preds = e.preds ∧ (∀ k, k ≠ l.val → getEng u k = getEng s k) ∧ Frame [.engs] s u))

/-- Loads, stores, atomics and the return of load data. A LOAD from the lantern's own buffer completes at once; one whose blocks
pass the checks goes out and is outstanding; a refused access stops a customer thread. A STORE or ATOMIC whose blocks pass
sends its guarded lanes' writes. Good data enters the guarded lanes of the destination; a first failed block is fetched again;
a second one withholds with cause 02, or stops a CTX.KRUN thread. Where the manual leaves a point of these commands open, the
clause holds the model's choice (log 34, 44, 45, 132).
Cites R125, R135, R136, R143, R223, R225, R268, R285, R287, R368. -/
def Obligations.EngineMemoryAccesses : Prop :=
  (∀ (s : State) (l : Lan) (t : ThreadI) (w : W64) (th : Thread), let e := getEng s l.val; let o := accessAddr e t.val w; let n := accessBlocks w
    Issues s l t w 0xC (memForm w (wVd w) true) th → wOp w = 0 → accessBuf w = true → bufReadable t.val th o (256 * n : Nat) = true → Runs (.load l t w) s (fun u => (∀ i, i < 128 → lane (getEng u l.val) th (wVd w) i = if laneOn e t.val w i = true ∧ i < 64 * n then (wordsOf (bufRead s l.val o (256 * n))).getD i 0 else lane e th (wVd w) i) ∧
      Went s l t th u ∧ (getEng u l.val).issue = e.issue.inc ∧ EngineElse s l (some (physReg th (wVd w))) u ∧ Frame [.engs, .fresh] s u)) ∧
  (∀ (s : State) (l : Lan) (t : ThreadI) (w : W64) (th : Thread), let e := getEng s l.val; let a := accessAddr e t.val w; let n := accessBlocks w
    Issues s l t w 0xC (memForm w (wVd w) true) th → wOp w = 0 → accessBuf w = false → ∀ r, checkBlocks l.val t.val th false (blockAddrs a n) (countIssue l.val s) = (r, none) →
    exec (.load l t w) s = .next (advance l.val t.val (startLoad l t a n (addLoad l.val t.val (newAccess r l.val a (wVd w) n (maskOn e t.val w) [] false false) r)))) ∧
  (∀ (s : State) (l : Lan) (t : ThreadI) (w : W64) (th : Thread), let e := getEng s l.val; let a := accessAddr e t.val w; let n := accessBlocks w
    Issues s l t w 0xC (memForm w (wVd w) true) th → wOp w = 0 → accessBuf w = false → ∀ r c, checkBlocks l.val t.val th false (blockAddrs a n) (countIssue l.val s) = (r, some c) → 8 ≤ t.val →
    exec (.load l t w) s = .next (customerFault l.val t.val c r)) ∧
  (∀ (s : State) (l : Lan) (t : ThreadI) (w : W64) (th : Thread), let e := getEng s l.val; let o := accessAddr e t.val w; let n := accessBlocks w
    Issues s l t w 0xC (memForm w (wVb w) true) th → wOp w = 1 → accessBuf w = true → bufWritable t.val th o (256 * n : Nat) = true →
    exec (.store l t w .clean) s = .next (advance l.val t.val ((List.range (64 * n)).foldl (fun s i => if laneOn e t.val w i then putBuf l.val (o + 4 * i) (leBytes 4 (lane e th (wVb w) i).toNat) s else s) (countIssue l.val s)))) ∧
  (∀ (s : State) (l : Lan) (t : ThreadI) (w : W64) (th : Thread), let e := getEng s l.val; let a := accessAddr e t.val w; let n := accessBlocks w
    Issues s l t w 0xC (memForm w (wVb w) true) th → wOp w = 1 → accessBuf w = false → blockBusy th a n = false → ∀ r, checkBlocks l.val t.val th true (blockAddrs a n) (countIssue l.val s) = (r, none) → isCompanion a = false → (∀ h, crossOf r l.val a = some h → nclkOf r h ≠ 3) →
    exec (.store l t w .clean) s = .next (advance l.val t.val (putWrites r a (laneWrites (countIssue l.val s) e t.val th w none a n)))) ∧
  (∀ (s : State) (l : Lan) (t : ThreadI) (w : W64) (th : Thread), let e := getEng s l.val; let a := accessAddr e t.val w; let n := accessBlocks w; let op := wImm w / 4 % 8
    Issues s l t w 0xC (memForm w (wVb w) (decide (op ≤ 4) && !accessBuf w)) th → wOp w = 2 → (∀ p, placeOf s a = some p → storeBase ≤ p) → (placeOf s a).isSome = true → blockBusy th a n = false → ∀ r, checkBlocks l.val t.val th true (blockAddrs a n) (countIssue l.val s) = (r, none) → isCompanion a = false → (∀ h, crossOf r l.val a = some h → nclkOf r h ≠ 3) →
    exec (.atomic l t w .clean) s = .next (advance l.val t.val (putWrites r a (laneWrites (countIssue l.val s) e t.val th w (some op) a n)))) ∧
  (∀ (s : State) (l : Lan) (t : ThreadI) (n : Nat) (th : Thread) (x : Access), threadAt s l.val t.val = some th → th.loads[n]? = some x → s.snuf.wheld = false → x.err = false → pathRuns s l.val x = true → x.writes = [] → isCompanion x.addr = false → x.retried = false → x.blocks ≤ 2 →
    (∀ b ∈ blockAddrs x.addr x.blocks, devReadable s (b / 256) = true ∧ ∃ p, placeOf s b = some p ∧ codeGood s.mem p = true ∧ placeReady s p = true) → Runs (.loadDataReturn l t n .clean false none) s (fun u =>
      threadAt u l.val t.val = some { th with loads := th.loads.eraseIdx n } ∧ EngineElse s l (some (physReg th x.vd)) u ∧ (getEng u l.val).issue = (getEng s l.val).issue ∧ Frame [.engs] s u ∧ ∀ i, i < 128 →
        lane (getEng u l.val) th x.vd i = if x.mask.toNat / 2 ^ i % 2 = 1 ∧ i < 64 * x.blocks then (wordsOf (((blockAddrs x.addr x.blocks).filterMap (placeOf s)).flatMap (fun p => memRead s.mem p 256))).getD i 0 else lane (getEng s l.val) th x.vd i)) ∧
  (∀ (s : State) (l : Lan) (t : ThreadI) (n : Nat) (th : Thread) (x : Access) (sh : Option (W32 × W32)) (r : State), threadAt s l.val t.val = some th → th.loads[n]? = some x → s.snuf.wheld = false → x.err = true → x.retried = false → x.writes = [] → checkBlocks l.val t.val th false (blockAddrs x.addr x.blocks) s = (r, none) →
    exec (.loadDataReturn l t n .clean false sh) s = .next (startLoad l t x.addr x.blocks (updLoads l.val t.val (fun q => q.set n (newAccess r l.val x.addr x.vd x.blocks x.mask [] true false)) r))) ∧
  (∀ (s : State) (l : Lan) (t : ThreadI) (n : Nat) (th : Thread) (x : Access), threadAt s l.val t.val = some th → th.loads[n]? = some x → s.snuf.wheld = false → x.err = true → x.retried = true → th.inv.isSome = true →
    exec (.loadDataReturn l t n .clean false none) s = .next (customerFault l.val t.val 7 (blockTwice s))) ∧
  (∀ (s : State) (l : Lan) (t : ThreadI) (n : Nat) (th : Thread) (x : Access) (sh : Option (W32 × W32)), threadAt s l.val t.val = some th → th.loads[n]? = some x → s.snuf.wheld = false → x.err = true → x.retried = true → th.inv = none →
    Runs (.loadDataReturn l t n .clean false sh) s (fun u => Withheld 2 u ∧ u.snuf.detail = BitVec.ofNat 16 l.val ∧ u.chk.failed = satInc s.chk.failed ∧ Frame Part.withholding s u))

/-- Attach, re-attach, doorbells, descriptor fetch and notifications. An in-range doorbell becomes the ring's count and a doorbell
out of range is ignored and sets DBERR; a doorbell while the ring is OFF is stored; a repeated value changes nothing. Attach
loads ring 0 from an entry in range; re-attach puts every ring OFF and clears the version. A ring still OFF at the 10 s limit
loses what it held. A fetch moves SQHEAD and queues the descriptor; a failed retry stops the ring. Held notifications are
posted in order. Where the manual leaves a point of these commands open, the clause holds the model's choice (log 97, 98).
Cites R381, R382, R383, R384, R385, R386, R396. -/
def Obligations.MailboxRingsAndDoorbells : Prop :=
  (∀ (s : State) (r : RingI) (v : W32), let g := getRing s r.val
    Runs (.mbxSqDoorbell r v) s (fun u => (g.st = .off ∨ (v - g.sqdb).toNat ≤ 2 ^ g.sqlog2.toNat - (g.sqdb - g.sqhead).toNat → getRing u r.val = { g with sqdb := v }) ∧ (g.st ≠ .off → 2 ^ g.sqlog2.toNat - (g.sqdb - g.sqhead).toNat < (v - g.sqdb).toNat → getRing u r.val = { g with dberr := true }) ∧ (∀ i, i ≠ r.val → getRing u i = getRing s i) ∧ Frame [.mbx] s u)) ∧
  (∀ (s : State) (r : RingI) (v : W32), let g := getRing s r.val
    Runs (.mbxCqDoorbell r v) s (fun u => (g.st = .off ∨ (v - g.cqdb).toNat ≤ (g.cqtail - g.cqdb).toNat → getRing u r.val = { g with cqdb := v }) ∧ (g.st ≠ .off → (g.cqtail - g.cqdb).toNat < (v - g.cqdb).toNat → getRing u r.val = { g with dberr := true }) ∧ (∀ i, i ≠ r.val → getRing u i = getRing s i) ∧ Frame [.mbx] s u)) ∧
  (∀ (s : State) (r : RingI) (g : Ring), getRing s r.val = g → Runs (.mbxSqDoorbell r g.sqdb) s (fun u => (∀ i, getRing u i = getRing s i) ∧ Frame [.mbx] s u) ∧ Runs (.mbxCqDoorbell r g.cqdb) s (fun u => (∀ i, getRing u i = getRing s i) ∧ Frame [.mbx] s u)) ∧
  (∀ (s : State) (e : RingEntry), s.snuf.wheld = false → (getRing s 0).st = .off → entryOk e = true → exec (.mbxAttach (some e)) s = .next (flushHeld 0 (loadRing 0 e { s with mbx := { s.mbx with atterr := false } }))) ∧
  (∀ (s : State) (e : Option RingEntry), s.snuf.wheld = false → (getRing s 0).st = .off → e.filter entryOk = none → exec (.mbxAttach e) s = .next { s with mbx := { s.mbx with atterr := true } }) ∧
  (∀ (s : State) (e : Option RingEntry), s.snuf.wheld = true ∨ (getRing s 0).st ≠ .off → exec (.mbxAttach e) s = .next s) ∧
  (∀ (s : State) (e : RingEntry), s.snuf.wheld = false → entryOk e = true → Runs (.mbxReattach (some e)) s (fun u => u.mbx.curver = 0 ∧ (getRing u 0).st = .run ∧ (getRing u 0).sqbase = e.sqbase ∧ (getRing u 0).cqbase = e.cqbase ∧
    (∀ r, 0 < r → r < 64 → getRing u r = { getRing s r with st := .off, notes := [], heldCpl := [] }) ∧ Frame [.mbx] s u)) ∧
  (∀ (s : State) (r : RingI), let g := getRing s r.val; g.st = .off → g.heldCpl ≠ [] → exec (.reattachDiscardTimeout r) s = .next (ember 0 0x0C01 r.val (ctxIdOf s g.ctx) g.heldCpl.length (updRing r.val (fun g => { g with heldCpl := [], lost := satAdd g.lost g.heldCpl.length }) s))) ∧
  (∀ (s : State) (r : RingI) (d : Desc), s.snuf.wheld = false → gvlUp s = true → fetchable s r.val = true → fetchTurn s r.val = true → Runs (.descriptorFetch r (.desc d)) s (fun u => (let g := getRing s r.val; getRing u r.val = { g with sqhead := g.sqhead + 1, queued := g.queued ++ [d] }) ∧ (∀ i, i ≠ r.val → getRing u i = getRing s i) ∧ Frame [.mbx] s u)) ∧
  (∀ (s : State) (r : RingI) (d : Desc), s.snuf.wheld = false → gvlUp s = true → fetchable s r.val = true → fetchTurn s r.val = true → Runs (.descriptorFetch r (.retried d)) s (fun u => (let g := getRing s r.val; getRing u r.val = { g with sqhead := g.sqhead + 1, queued := g.queued ++ [d] }) ∧ (∀ i, i ≠ r.val → getRing u i = getRing s i) ∧ Frame [.mbx] s u)) ∧
  (∀ (s : State) (r : RingI), s.snuf.wheld = false → gvlUp s = true → fetchable s r.val = true → fetchTurn s r.val = true → Runs (.descriptorFetch r .failed) s (fun u => getRing u r.val = { getRing s r.val with st := .stopped, fetcherr := true } ∧ (∀ i, i ≠ r.val → getRing u i = getRing s i) ∧ Frame [.mbx] s u)) ∧
  (∀ (s : State) (r : RingI) (c : Cpl), s.snuf.wheld = false → ringHeld s r.val = false → (getRing s r.val).notes = [c] → (getRing s r.val).lostSince = 0 → ringFree (getRing s r.val) ≠ 0 → exec (.notificationFlush r) s = .next (postRaw r c (updRing r.val (fun g => { g with notes := g.notes.drop 1 }) s)))

/-- The SYS. commands. Of commands that pass the mailbox checks: SYS.HELLO records and returns the version; SYS.INFO and SYS.TIME
answer; SYS.RING enables a ring from its table entry or disables it; SYS.POWER keeps its command until the next window
boundary and refuses a limit above PLIMIT; SYS.CLOCK writes the divider, gating the east seam first where NDIV is 3; SYS.RESET
completes and asks for a die reset. Where each refuses, it completes with the status of R395. Where the manual leaves a point
of these commands open, the clause holds the model's choice (log 24, 25).
Cites R168, R280, R286, R290, R380, R383, R391, R393, R395, R530. -/
def Obligations.SystemRingCommands : Prop :=
  (∀ (s : State) (d : Desc) (vmin vmax : W16), accepted .sys true true false d s = true → vmin ≤ 0x0100 → 0x0100 ≤ vmax → (s.mbx.curver = 0 ∨ s.mbx.curver = 0x0100) → exec (.sysHello d vmin vmax) s = .next (complete d 0 0 (helloResult s 0x0100) { dequeue d s with mbx := { (dequeue d s).mbx with curver := 0x0100 } })) ∧
  (∀ (s : State) (d : Desc) (vmin vmax : W16), accepted .sys true true false d s = true → vmax < vmin → exec (.sysHello d vmin vmax) s = .next (finish d 0x07 (dequeue d s))) ∧
  (∀ (s : State) (d : Desc) (vmin vmax : W16), accepted .sys true true false d s = true → vmin ≤ vmax → (0x0100 < vmin ∨ vmax < 0x0100) → exec (.sysHello d vmin vmax) s = .next (finish d 0x11 (dequeue d s))) ∧
  (∀ (s : State) (d : Desc), accepted .any true true false d s = true → d.outlen ≠ 0 → exec (.sysInfo d) s = .next (finishFree d (dequeue d s))) ∧
  (∀ (s : State) (d : Desc), accepted .any true true false d s = true → exec (.sysTime d) s = .next (complete d 0 0 (words64 (ltime s) ++ words64 s.lmp.flicker.val) (dequeue d s))) ∧
  (∀ (s : State) (d : Desc) (r : Fin 64) (e : RingEntry), accepted .sys false false false d s = true → r ≠ 0 → entryOk e = true → exec (.sysRing d r.val 1 (some e)) s = .next (finish d 0 (flushHeld r (loadRing r.val e (updRing r.val (fun g => { g with nlost := false, fetcherr := false, dberr := false }) (dequeue d s)))))) ∧
  (∀ (s : State) (d : Desc) (r : Fin 64) (e : Option RingEntry), accepted .sys false false false d s = true → r ≠ 0 → exec (.sysRing d r.val 2 e) s = .next (finish d 0 (updRing r.val (fun g => { g with st := .off }) (dequeue d s)))) ∧
  (∀ (s : State) (d : Desc) (ring action : Nat) (e : Option RingEntry), accepted .sys false false false d s = true → (ring = 0 ∨ 63 < ring ∨ action = 0 ∨ 2 < action ∨ (action = 1 ∧ ∃ x, e = some x ∧ entryOk x = false)) → exec (.sysRing d ring action e) s = .next (finish d 0x07 (dequeue d s))) ∧
  (∀ (s : State) (d : Desc) (limit a v x k e c : W16), accepted .sys false false false d s = true → (∀ g, s.sec.cfg = some g → limit.toNat ≤ g.plat.plimit.toNat) → (s.sec.cfg = none → limit.toNat ≤ 950) → exec (.sysPower d limit a v x k e c) s = .next (let t := setShares a.toNat v.toNat x.toNat k.toNat e.toNat c.toNat (setLimit limit.toNat (dequeue d s)); keepProg d { t with pwr := { t.pwr with cmds := t.pwr.cmds ++ [d] } })) ∧
  (∀ (s : State) (d : Desc) (limit a v x k e c : W16) (g : ConfigBlock), accepted .sys false false false d s = true → s.sec.cfg = some g → g.plat.plimit.toNat < limit.toNat → exec (.sysPower d limit a v x k e c) s = .next (finish d 0x0101 (dequeue d s))) ∧
  (∀ (s : State) (d : Desc) (east : Bool) (adiv ndiv : BitVec 2), accepted .sys false false false d s = true → ndiv ≠ 3 → adiv ≠ 3 → s.clk.cmd = none → Runs (.sysClock d east adiv ndiv) s (fun u => u.clk.cmd = some { cmd := d, east := east, adiv := adiv, ndiv := ndiv, written := true } ∧
    (if east then u.clk.nE = ndiv ∧ u.clk.aE = adiv ∧ u.clk.nW = s.clk.nW ∧ u.clk.aW = s.clk.aW else u.clk.nW = ndiv ∧ u.clk.aW = adiv ∧ u.clk.nE = s.clk.nE ∧ u.clk.aE = s.clk.aE) ∧ u.clk.gateE = s.clk.gateE ∧ Frame [.clk, .mbx] s u)) ∧
  (∀ (s : State) (d : Desc) (adiv : BitVec 2), accepted .sys false false false d s = true → exec (.sysClock d false adiv 3) s = .next (finish d 0x07 { dequeue d s with clk := { s.clk with cfgErr := true } })) ∧
  (∀ (s : State) (d : Desc) (adiv : BitVec 2), accepted .sys false false false d s = true → s.clk.cmd = none → s.clk.nE ≠ 3 → inflOf s true ≠ 0 → Runs (.sysClock d true adiv 3) s (fun u => u.clk.gateE = true ∧ u.clk.nE = s.clk.nE ∧ u.clk.cmd = some { cmd := d, east := true, adiv := adiv, ndiv := 3, written := false } ∧ (∀ c ∈ u.clk.paused, (sconcesOf s c).any eastSconce = true) ∧ Frame [.clk, .lctx, .mbx] s u)) ∧
  (∀ (s : State) (d : Desc), accepted .sys false false false d s = true → exec (.sysReset d) s = .next (finish d 0 { dequeue d s with mbx := { (dequeue d s).mbx with resetDue := true } }))

/-- The CTX. commands on their main paths. CTX.CREATE makes the context in the lowest free slot, with its sconces, weight, rings
and default slots; CTX.DESTROY of an idle context ends it and scrubs its sconces; CTX.PIPELINE replaces the path; CTX.WEIGHT
sets a weight R159 takes; PAUSE and RESUME set and clear PAUSE; KLOAD stores the image under the lowest free handle; KUNLOAD
removes an idle image; KRUN starts an invocation; ATTEST and EMBERS write their output. Each posts its final completion. Where
the manual leaves a point of these commands open, the clause holds the model's choice (log 48, 49, 60, 72, 73, 136, 144).
Cites R141, R142, R143, R159, R173, R255, R390, R392, R398, R399, R400, R462. -/
def Obligations.ContextCommands : Prop :=
  (∀ (s : State) (d : Desc) (a : CtxArg) (k : Digest) (c : Nat), let t := dequeue d s; accepted .sys false false true d s = true → a.sconces ≠ 0 → a.rings ≠ 0 → a.batchmax ≠ 0 → a.qmax ≠ 0 → a.vocab ≠ 0 → (a.pfx = true → a.pfxlant ≠ 0) → createBad t d a = false → (∀ r ∈ ringsOf a.rings, ringTaken t r = false) → stacksUp t = true → (∀ n ∈ maskBits 16 a.sconces.toNat, sconceTaken t n = false) → freeSlotC t = some c → ctxWeight a ≠ 0 → weightSum t c (ctxWeight a) ≤ 256 →
    ∃ u, exec (.ctxCreate d a k) s = .next (complete d 0 0 [BitVec.ofNat 32 c] u) ∧
      (∃ y, getCtx u c = some y ∧ y.ctxid = a.ctxid ∧ y.sconces = a.sconces ∧ y.path = [] ∧ y.epochs = [] ∧ y.kernels = [] ∧ y.born = nowC s) ∧ (∀ i, i ≠ c → getCtx u i = getCtx s i) ∧ (∀ n ∈ maskBits 16 a.sconces.toNat, (getScn u n).owner.map (fun i => i.val) = some c) ∧ (∀ r ∈ ringsOf a.rings, (getRing u r.val).ctx.map (fun i => i.val) = some c) ∧ (getLctx u c).weight.toNat = ctxWeight a ∧
      Frame [.lans, .ctxs, .lctx, .mbx, .scn, .stks, .xbr, .fresh] s u) ∧
  (∀ (s : State) (d : Desc) (id : W16) (c : Nat) (x : Ctx), accepted .sys false false false d s = true → slotOf s id = some c → getCtx s c = some x → x.ops = [] → x.dying = false → (getLctx s c).runs = [] → Runs (.ctxDestroy d id) s (fun u => getCtx u c = none ∧ (∀ n ∈ sconcesOf s c, (getScn u n).owner = none ∧ (getScn u n).scrub = true) ∧ (∀ r : RingI, (getRing u r.val).ctx.map (fun i => i.val) ≠ some c) ∧ (∀ i, i ≠ c → getCtx u i = getCtx s i) ∧
    Frame [.wicks, .lans, .engs, .lmp, .lctx, .chk, .scn, .xbr, .fab, .gvl, .mbx, .ctxs, .invs, .invNext, .attn, .posted, .flash, .fresh] s u)) ∧
  (∀ (s : State) (d : Desc) (id : W16) (path : List Pkg) (c : Nat) (x : Ctx), accepted .sys false false true d s = true → slotOf s id = some c → getCtx s c = some x → x.ops = [] → path ≠ [] → path.length ≤ 4096 → d.inlen.toNat = 2 * path.length → path.Nodup → launchIdle s c = true → (∀ p ∈ x.path, p ∈ path) →
    ∃ w, exec (.ctxPipeline d id path) s = .next (finish d 0 w) ∧ getCtx w c = some { x with path := path } ∧ (getLctx w c).pause = x.paused ∧ Frame [.mbx, .ctxs, .lctx] s w) ∧
  (∀ (s : State) (d : Desc) (id w : W16) (c : Nat) (x : Ctx), accepted .sys false false false d s = true → slotOf s id = some c → getCtx s c = some x → exec (.ctxWeight d id w) s = .next (if weightOk s c w.toNat then finish d 0 (updLctx c (fun x => { x with weight := BitVec.ofNat 9 w.toNat }) (dequeue d s)) else finish d 0x0205 (pwrCfgErr (dequeue d s)))) ∧
  (∀ (s : State) (d : Desc) (c : Nat) (x : Ctx), acceptedCtx false d c x s → x.ops = [] → launchIdle s c = true → ∃ w, exec (.ctxPause d) s = .next (finish d 0 w) ∧ getCtx w c = some { x with paused := true } ∧ (getLctx w c).pause = true ∧ Frame [.mbx, .ctxs, .lctx] s w) ∧
  (∀ (s : State) (d : Desc) (c : Nat) (x : Ctx), acceptedCtx false d c x s → x.ops = [] → ∃ w, exec (.ctxResume d) s = .next (finish d 0 w) ∧ getCtx w c = some { x with paused := false } ∧ (getLctx w c).pause = false ∧ Frame [.mbx, .ctxs, .lctx] s w) ∧
  (∀ (s : State) (d : Desc) (c : Nat) (x : Ctx) (k : KImage) (p : Nat × Nat), acceptedCtx true d c x s → d.inlen ≠ 0 → k.codesize ≠ 0 → k.entries ≠ 0 → k.threads ≠ 0 → imageBad k = false → k.sigsOk = true → x.nkeys ≠ 0 → x.kernels.length < 16 → kernelPlace s c x (imageSize k) = some p → ∃ w, exec (.ctxKload d k) s = .next (complete d 0 0 [BitVec.ofNat 32 (freeHandle x)] w) ∧ getCtx w c = some { x with kernels := x.kernels ++ [{ handle := freeHandle x, slice := p.1, size := imageSize k, addr := p.2, image := k, unloading := false }] } ∧ w.mem = storeBytes s.mem p.2 (imageBytes k) ∧
    (∀ i, i ≠ c → getCtx w i = getCtx s i) ∧ Frame [.mbx, .ctxs, .engs, .mem] s w) ∧
  (∀ (s : State) (d : Desc) (c : Nat) (x : Ctx) (h : Nat) (k : Kernel), acceptedCtx false d c x s → x.kernels.find? (fun k => k.handle == h && !k.unloading) = some k → x.unloads = [] → (∀ v ∈ s.invs, v.ctx.val ≠ c) → ∃ w, exec (.ctxKunload d h) s = .next (finish d 0 w) ∧ (∃ y, getCtx w c = some y ∧ ∀ k ∈ y.kernels, k.handle ≠ h) ∧ Frame [.mbx, .ctxs] s w) ∧
  (∀ (s : State) (d : Desc) (c : Nat) (x : Ctx) (hd entry : Nat) (ls : List LLan) (k : Kernel), acceptedCtx true d c x s → 128 ≤ d.inlen.toNat → ls ≠ [] → (∀ l ∈ ls, sconceOfL l.val ∈ sconcesOf s c) → x.kernels.find? (fun k => k.handle == hd) = some k → k.unloading = false → entry < k.image.entries.toNat → ls.filterMap (fun l => lanOf s l.val) ≠ [] → exec (.ctxKrun d hd entry ls) s = .next (invoke c k entry ((ls.filterMap (fun l => lanOf s l.val)).map (fun p => (Fin.ofNat 1088 p : Lan))) d (dequeue d s))) ∧
  (∀ (s : State) (d : Desc) (c : Nat) (x : Ctx) (nonce : BitVec 256), acceptedCtx false d c x s → reportSize ≤ d.outlen.toNat → let t := dequeue d s; let r := report (reportBody 2 nonce (digBytes x.keydig) (reportCtx c x t) t) 0x020A t
    exec (.ctxAttest d nonce) s = .next (complete d 0 reportSize [] (outLines d.outaddr r.1 r.2)) ∧ (reportBody 2 nonce (digBytes x.keydig) (reportCtx c x t) t).take 4 = leBytes 4 0x31545441) ∧
  (∀ (s : State) (d : Desc) (c : Nat) (x : Ctx), acceptedCtx false d c x s → exec (.ctxEmbers d) s = .next (finishOut d 64 ((s.mgt.log.filter (fun e => e.ctxid == some x.ctxid && decide (x.born ≤ e.localt.toNat))).flatMap Ember.bytes) (dequeue d s)))

/-- The CAL., CHK., MON., FAB. and DIAG. commands on their main paths. Of commands that pass the mailbox checks: each writes what
it names, through the same write as the register of that name, and completes OK; the ones that answer write their output at
OUTADDR; DIAG.LOOPBACK of a disabled port answers and of another port is BUSY; FAB.ROUTE into the active bank completes with
FAB_ACTIVE_BANK and MON.SEQ outside its inputs with DENIED. Where the manual leaves a point of these commands open, the clause
holds the model's choice (log 52).
Cites R201, R205, R307, R312, R327, R329, R330, R345, R390, R393, R394, R471. -/
def Obligations.CalibrationCheckMonitorFabricAndDiagnosticCommands : Prop :=
  (∀ (s : State) (d : Desc) (ls : List Nat) (wicks sets : W32), let t := dequeue d s; accepted .ctxSysDiag false false true d s = true → d.inlen.toNat % 2 = 0 → d.inlen ≠ 0 → d.outlen ≠ 0 → (∀ l ∈ ls, l < 1088 ∧ lanDenied t d l = false) → exec (.calRead d ls wicks sets) s = .next (finishOut d 1056 (ls.flatMap (lanRecords t wicks sets)) t)) ∧
  (∀ (s : State) (d : Desc) (c : Nat) (x : Ctx) (ll w p : Nat), acceptedCtx false d c x s → ll < 1024 → w < 16 → sconceOfL ll ∈ sconcesOf s c → lanOf s ll = some p → exec (.calTrim d ll w) s = .next (finish d 0 (earlyRemap p (updLan p (fun v => { v with calStat := setBit v.calStat 6 }) (updWick p (mapOf (getLan s p) w) (fun x => { x with early := true }) (dequeue d s)))))) ∧
  (∀ (s : State) (d : Desc) (c : Nat) (x : Ctx) (ls : List LLan) (cfg dr : W32), acceptedCtx true d c x s → 128 ≤ d.inlen.toNat → ls ≠ [] → (∀ l ∈ ls, sconceOfL l.val ∈ sconcesOf s c) → exec (.calConfig d ls cfg dr) s = .next (finish d 0 (onServed ls (fun v => calDrSet dr (calCfgSet cfg v)) (updCtx c (fun x => { x with calSet := ls.foldl (fun t l => Tab.set none t l.val (some (cfg, dr))) x.calSet }) (dequeue d s))))) ∧
  (∀ (s : State) (d : Desc) (c : Nat) (x : Ctx) (ls : List LLan) (v : W32), acceptedCtx true d c x s → 128 ≤ d.inlen.toNat → ls ≠ [] → (∀ l ∈ ls, sconceOfL l.val ∈ sconcesOf s c) → exec (.chkRate d ls v) s = .next (finish d 0 (onServed ls (audlogSet v) (updCtx c (fun x => { x with rateSet := ls.foldl (fun t l => Tab.set none t l.val (some v)) x.rateSet }) (dequeue d s))))) ∧
  (∀ (s : State) (d : Desc) (c : Nat) (x : Ctx), acceptedCtx false d c x s → exec (.chkStatus d) s = .next (finishFree d (dequeue d s))) ∧
  (∀ (s : State) (d : Desc) (c : Nat) (x : Ctx) (ls : List LLan), acceptedCtx true d c x s → 128 ≤ d.inlen.toNat → ls ≠ [] → (∀ l ∈ ls, sconceOfL l.val ∈ sconcesOf s c) → exec (.chkAudit d ls) s = .next (finish d 0 (onServed ls (fun v => { v with markNext := true }) (dequeue d s)))) ∧
  (∀ (s : State) (d : Desc) (es : List SeqEntry) (len : Nat), accepted .sysDiag false false false d s = true → 8 ≤ len → len ≤ 16 → es.length ≤ 8 → (∀ e ∈ es, 56 ≤ e.input.toNat) → exec (.monSeq d es len) s = .next (finish d 0 (updCv 3 (fun c => { c with len := BitVec.ofNat 5 len, seq := c.seq.take 8 ++ es ++ c.seq.drop (8 + es.length) }) (dequeue d s)))) ∧
  (∀ (s : State) (d : Desc) (es : List SeqEntry) (len : Nat) (e : SeqEntry), accepted .sysDiag false false false d s = true → len ≠ 0 → e ∈ es → e.input.toNat < 56 → exec (.monSeq d es len) s = .next (finish d 0x06 (dequeue d s))) ∧
  (∀ (s : State) (d : Desc), accepted .any false true false d s = true → exec (.monRead d) s = .next (finishFree d (dequeue d s))) ∧
  (∀ (s : State) (d : Desc) (p : Nat) (v : W32), accepted .sys false false false d s = true → p < 16 → encBelow s (2 * p) (fld v 29 28) = false → encBelow s (2 * p + 1) (fld v 23 22) = false → exec (.fabPort d p v) s = .next (finish d 0 (pcfgWrite p v (dequeue d s)))) ∧
  (∀ (s : State) (d : Desc) (p : Nat) (v : W32), accepted .sys false false false d s = true → p < 16 → encBelow s (2 * p) (fld v 29 28) = true → exec (.fabPort d p v) s = .next (finish d 0x0101 (dequeue d s))) ∧
  (∀ (s : State) (d : Desc) (id : W16), accepted .sys false false false d s = true → id.toNat < 4096 → ∃ w, exec (.fabId d id) s = .next (finish d 0 w) ∧ w.fab = { s.fab with myidV := true, myid := BitVec.ofNat 12 id.toNat } ∧ Frame [.fab, .mbx] s w) ∧
  (∀ (s : State) (d : Desc) (bank first : Nat) (es : List W32), accepted .sys false false true d s = true → es ≠ [] → bank ≤ 1 → first + es.length ≤ 4096 → (bank == 1) ≠ s.fab.bank → exec (.fabRoute d bank first es) s = .next (finish d 0 ((withPos first es).foldl (fun s p => routeWrite (bank == 1) p.1 p.2 s) (dequeue d s)))) ∧
  (∀ (s : State) (d : Desc) (bank first : Nat) (es : List W32), accepted .sys false false true d s = true → es ≠ [] → bank ≤ 1 → first + es.length ≤ 4096 → (bank == 1) = s.fab.bank → exec (.fabRoute d bank first es) s = .next (finish d 0x0901 (dequeue d s))) ∧
  (∀ (s : State) (d : Desc), accepted .sys false false false d s = true → exec (.fabFlip d) s = .next (finish d 0 (fabBankFlip (dequeue d s)))) ∧
  (∀ (s : State) (d : Desc) (n : Nat) (v : W32), accepted .sys false false false d s = true → n < 16 → exec (.fabChain d n v) s = .next (finish d 0 (chainWrite n v (dequeue d s)))) ∧
  (∀ (s : State) (d : Desc) (v : W32), accepted .sys false false false d s = true → exec (.fabWrr d v) s = .next (finish d 0 (wrrWrite v (dequeue d s)))) ∧
  (∀ (s : State) (d : Desc), accepted .sysDiag false false false d s = true → exec (.fabNeighbors d) s = .next (finishFree d (dequeue d s))) ∧
  (∀ (s : State) (d : Desc), accepted .diag false true false d s = true → exec (.diagEmbers d) s = .next (finishOut d 64 (s.mgt.log.flatMap Ember.bytes) (dequeue d s)) ∧ exec (.diagCounters d) s = .next (finishFree d (dequeue d s)) ∧ (∀ bs : List Nat, bs ≠ [] → exec (.diagSnapshot d bs) s = .next (finishFree d (dequeue d s)))) ∧
  (∀ (s : State) (d : Desc) (p : Nat), let t := dequeue d s; accepted .diag false true false d s = true → p < 16 → exec (.diagLoopback d p) s = .next (if (getPort t p).en ∨ (getLink t (2 * p)).st ≠ .disabled ∨ (getLink t (2 * p + 1)).st ≠ .disabled then finish d 0x05 t else complete d 0 0 (freeWords 0x0B03 8 t).1 (freeWords 0x0B03 8 t).2))

/-- The WGT. commands on their main paths. WGT.SESSION opens a session and writes key and report; WGT.KEY adds an unwrapped key
and refuses others; WGT.LAND sets the landing range and its window; WGT.LOAD and WGT.ADOPT, with nothing in their way, start
at once on the context with an empty queue of loads; WGT.DROP frees an epoch nothing is bound to, waits while a request is
bound, is BUSY while the epoch is loading and DENIED for a LIVE one; WGT.STATUS answers. Where the manual leaves a point of
these commands open, the clause holds the model's choice (log 65, 66, 67, 68, 137, 148, 151).
Cites R365, R390, R392, R433, R434, R439, R442, R443, R462. -/
def Obligations.WeightCommands : Prop :=
  (∀ (s : State) (d : Desc) (c : Nat) (x : Ctx), acceptedCtx false d c x s → kemKeySize + reportSize ≤ d.outlen.toNat → ∃ w, exec (.wgtSession d) s = .next (complete d 0 (kemKeySize + reportSize) [] w) ∧ getCtx w c = some { x with session := true } ∧ Frame [.ctxs, .mbx, .gvl, .fresh] s w) ∧
  (∀ (s : State) (d : Desc) (c : Nat) (x : Ctx) (k : W32) (v : BitVec 256), acceptedCtx true d c x s → d.inlen = 1612 → x.session = true → x.ckeys.any (fun q => q.1 == k) = false → x.ckeys.length < 16 → exec (.wgtKey d k (some v)) s = .next (finish d 0 (updCtx c (fun x => { x with ckeys := x.ckeys ++ [(k, v)] }) (dequeue d s)))) ∧
  (∀ (s : State) (d : Desc) (c : Nat) (x : Ctx) (k : W32) (v : Option (BitVec 256)), acceptedCtx true d c x s → d.inlen = 1612 → (v = none ∨ x.session = false ∨ (x.ckeys.any (fun q => q.1 == k) = false ∧ 16 ≤ x.ckeys.length)) → exec (.wgtKey d k v) s = .next (finish d 0x06 (dequeue d s))) ∧
  (∀ (s : State) (d : Desc) (c : Nat) (x : Ctx) (off len : W64) (i : Nat), acceptedCtx false d c x s → off.toNat % 256 = 0 → len.toNat % 256 = 0 → len ≠ 0 → (interleaved s c (off.toNat + len.toNat - 1)).isSome = true → landSlot s c x.landing = some i → let a := c * 0x20000000000 + off.toNat
    exec (.wgtLand d off len) s = .next (complete d 0 0 (words64 (BitVec.ofNat 64 a)) (updCtx c (fun x => { x with landing := some (off.toNat, len.toNat) }) (setWindow (c * 32 + i) (landEntry (a / 256) ((a + len.toNat - 1) / 256)) (dequeue d s))))) ∧
  (∀ (s : State) (d : Desc) (c : Nat) (x : Ctx) (ep : W32) (es : List ShardEntry), acceptedCtx true d c x s → let t := dequeue d s; d.inlen ≠ 0 → ep ≠ 0 → listBad t c x d es = false → listDenied t c es = false → x.loadQ = [] → loadFree x (.load d ep es) = true → ∃ w, exec (.wgtLoad d ep es) s = .next (reapJobs (loadStart c { x with loadQ := [] } d ep es w)) ∧ getCtx w c = some { x with loadQ := [] } ∧ Frame [.mbx, .ctxs] s w) ∧
  (∀ (s : State) (d : Desc) (c : Nat) (x : Ctx) (ep : W32) (strict : Bool) (ts : List Token), acceptedCtx true d c x s → d.inlen ≠ 0 → d.inlen.toNat = 64 * ts.length → x.loadQ = [] → loadFree x (.adopt d ep strict ts) = true → ∃ w, exec (.wgtAdopt d ep strict ts) s = .next (reapJobs (adoptStart c { x with loadQ := [] } d ep strict ts w)) ∧ getCtx w c = some { x with loadQ := [] } ∧ Frame [.mbx, .ctxs] s w) ∧
  (∀ (s : State) (d : Desc) (c : Nat) (x : Ctx) (ep : W32) (e : Epoch), acceptedCtx false d c x s → x.epochs.find? (fun e => e.epoch == ep) = some e → let t := dequeue d s; exec (.wgtDrop d ep) s = .next (if e.cmd.isSome then finish d 0x05 t else if e.st = .live then finish d 0x06 t else if epochBound t c x ep then keepProg d (updCtx c (fun x => { x with drops := x.drops ++ [(ep, d)] }) t) else finish d 0 (updCtx c (fun x => { x with epochs := x.epochs.filter (fun e => e.epoch != ep) }) t))) ∧
  (∀ (s : State) (d : Desc) (c : Nat) (x : Ctx), acceptedCtx false d c x s → exec (.wgtStatus d) s = .next (finishFree d (dequeue d s)) ∧ exec (.adpStatus d) s = .next (finishFree d (dequeue d s)))

/-- Adapter commands, the ends of holds and leases, and the life of a shard. ADP.LOAD, REPLACE and FREE start at once on a slot
nothing occupies. The end of an attention hold or prefix lease frees the retired entries whose lease has passed, and what
waited looks again. A container that passes R432 is kept verified, and one that fails starts recovery; a failed deadline
settles the shard FAILED; an overdue shard is asked for, then again up to three times. A rehash that agrees clears the mark;
one that differs restores the copy. Where the manual leaves a point of these commands open, the clause holds the model's
choice (log 69, 70, 71).
Cites R413, R427, R432, R435, R436, R437, R447, R448. -/
def Obligations.AdaptersAndShards : Prop :=
  (∀ (s : State) (d : Desc) (c : Nat) (x : Ctx) (slot : W16) (gen : W32) (es : List ShardEntry) (z : Ctx), acceptedCtx true d c x s → d.inlen ≠ 0 → slot.toNat ≤ 15 → gen ≠ 0 → listBad (dequeue d s) c x d es = false → (∀ e ∈ es, e.kind ≠ 1) → x.adpQ = [] → getCtx (adpSweep c (dequeue d s)) c = some z → adpFree z (.load d slot.toNat gen es) = true → ∃ w, exec (.adpLoad d slot gen es) s = .next (adpStart c { z with adpQ := [] } (.load d slot.toNat gen es) w) ∧ getCtx w c = some { z with adpQ := [] } ∧ Frame [.mbx, .ctxs] s w) ∧
  (∀ (s : State) (d : Desc) (c : Nat) (x : Ctx) (slot : W16) (gen : W32) (es : List ShardEntry) (z : Ctx), acceptedCtx true d c x s → d.inlen ≠ 0 → slot.toNat ≤ 15 → gen ≠ 0 → listBad (dequeue d s) c x d es = false → (∀ e ∈ es, e.kind ≠ 1) → x.adpQ = [] → getCtx (adpSweep c (dequeue d s)) c = some z → adpFree z (.replace d slot.toNat gen es) = true → ∃ w, exec (.adpReplace d slot gen es) s = .next (adpStart c { z with adpQ := [] } (.replace d slot.toNat gen es) w) ∧ getCtx w c = some { z with adpQ := [] } ∧ Frame [.mbx, .ctxs] s w) ∧
  (∀ (s : State) (d : Desc) (c : Nat) (x : Ctx) (slot : W16) (z : Ctx), acceptedCtx false d c x s → slot.toNat ≤ 15 → x.adpQ = [] → getCtx (adpSweep c (dequeue d s)) c = some z → adpFree z (.free d slot.toNat) = true → ∃ w, exec (.adpFree d slot) s = .next (adpStart c { z with adpQ := [] } (.free d slot.toNat) w) ∧ getCtx w c = some { z with adpQ := [] } ∧ Frame [.mbx, .ctxs] s w) ∧
  (∀ (s : State) (c : Nat) (x : Ctx) (d : Desc) (slot : Nat), (gensOf x slot = [] → adpStart c x (.free d slot) s = finish d 0x0401 s) ∧ (gensOf x slot ≠ [] → (∀ g ∈ gensOf x slot, genBound s c x slot g.gen = false) → adpStart c x (.free d slot) s = finish d 0 (updCtx c (fun x => { x with adapters := Tab.set [] x.adapters slot [] }) s))) ∧
  (∀ (s : State) (c : CtxI) (inst : W32), s.snuf.wheld = false → ∃ w, exec (.attentionHoldExpiry c inst) s = .next (kickBound c.val w) ∧ Frame [.attn] s w ∧ ∀ t, t ∈ w.attn ↔ t ∈ s.attn ∧ ¬ (t.ctx = c ∧ t.inst = inst ∧ t.retired = true ∧ t.lease ≤ nowC s)) ∧
  (∀ (s : State) (c : CtxI) (slot : Nat), s.snuf.wheld = false → ∃ w, exec (.prefixLeaseExpiry c slot) s = .next (kickBound c.val w) ∧ getCtx w c.val = (getCtx s c.val).map (leaseOut s slot) ∧ Frame [.attn, .ctxs] s w ∧ ∀ t, t ∈ w.attn ↔ t ∈ s.attn ∧ ¬ (t.ctx = c ∧ bitAt t.reqtag 31 = true ∧ tagSlot t.reqtag = slot ∧ t.retired = true ∧ t.lease ≤ nowC s)) ∧
  (∀ (s : State) (c : CtxI) (ep id : W32) (x : Ctx) (h : Shard) (b : ShardBody) (fails : List (Lan × LWick × List (Nat × Int))), getCtx s c.val = some x → findShard s c.val ep id = some h → s.snuf.wheld = false → h.ent.head = false → isAwaited h = true → h.ent.role ≠ 0 → isHere h = true → bodyOk x ep h b = true → (isOwnLan h && ep != 0 && (metaBad (bodyMeta (shardTab b)) || shardClash s c.val ep h (bodyMeta (shardTab b)))) = false → exec (.shardSegmentsComplete c ep id b fails) s = .next (afterShards (shardGo c.val ep fails (keepShard c.val ep h b s)))) ∧
  (∀ (s : State) (c : CtxI) (ep id : W32) (x : Ctx) (h : Shard) (b : ShardBody) (fails : List (Lan × LWick × List (Nat × Int))), getCtx s c.val = some x → findShard s c.val ep id = some h → s.snuf.wheld = false → h.ent.head = false → isAwaited h = true → h.ent.role ≠ 0 → isHere h = true → bodyOk x ep h b = false → h.requests < 4 → exec (.shardSegmentsComplete c ep id b fails) s = .next (afterShards (recover c.val ep h s))) ∧
  (∀ (s : State) (c : CtxI) (ep id : W32) (x : Ctx) (h : Shard) (b : ShardBody) (fails : List (Lan × LWick × List (Nat × Int))), getCtx s c.val = some x → findShard s c.val ep id = some h → s.snuf.wheld = false → h.ent.head = false → isAwaited h = true → h.ent.role ≠ 0 → 4 ≤ h.requests → bodyOk x ep h b = true → (isOwnLan h && ep != 0 && (metaBad (bodyMeta (shardTab b)) || shardClash s c.val ep h (bodyMeta (shardTab b)))) = false → exec (.storageCheckPoll c ep id (some b) fails) s = .next (afterShards (shardGo c.val ep fails (keepShard c.val ep h b s)))) ∧
  (∀ (s : State) (c : CtxI) (ep id : W32) (x : Ctx) (h : Shard), getCtx s c.val = some x → findShard s c.val ep id = some h → s.snuf.wheld = false → isAwaited h = true → exec (.shardFailDeadline c ep id) s = .next (afterShards (shardGo c.val ep [] (updShard c.val ep id (fun h => { h with st := .failed, restoring := false }) s)))) ∧
  (∀ (s : State) (c : CtxI) (ep id : W32) (x : Ctx) (h : Shard), getCtx s c.val = some x → findShard s c.val ep id = some h → s.snuf.wheld = false → isAwaited h = true → h.requests = 0 → exec (.shardOverdue c ep id) s = .next (recover c.val ep h s)) ∧
  (∀ (s : State) (c : CtxI) (ep id : W32) (x : Ctx) (h : Shard), getCtx s c.val = some x → findShard s c.val ep id = some h → s.snuf.wheld = false → isAwaited h = true → 1 ≤ h.requests → h.requests ≤ 3 → exec (.taperReqRepeat c ep id) s = .next (recover c.val ep h s)) ∧
  (∀ (s : State) (c : CtxI) (ep id : W32) (x : Ctx) (h : Shard), getCtx s c.val = some x → findShard s c.val ep id = some h → s.snuf.wheld = false → h.st = .verified → h.restoring = false → h.ent.role = 1 → exec (.shadowRehash c ep id true) s = .next (updShard c.val ep id (fun h => { h with rehash := false }) s) ∧ exec (.shadowRehash c ep id false) s = .next (rehashBad c.val ep h s)) ∧
  (∀ (s : State) (c : CtxI) (ep id : W32) (x : Ctx) (h : Shard), getCtx s c.val = some x → findShard s c.val ep id = some h → s.snuf.wheld = false → h.st = .verified → h.restoring = false → h.ent.role = 2 → exec (.buddyRehash c ep id true) s = .next (updShard c.val ep id (fun h => { h with rehash := false }) s) ∧ exec (.buddyRehash c ep id false) s = .next (rehashBad c.val ep h s))

/-- The REQ. commands and SYS.SHUTDOWN on their main paths. REQ.SUBMIT in range adds an admission or a release record and stays in
progress; SYS.SHUTDOWN stops admission and later submits are DENIED. REQ.CANCEL ends an open release record, or is OK for a
retired one; REQ.RESUME reopens a retired record within its hold at the next segment; REQ.LEDGER writes the ledger; REQ.LOG
and REPLAY answer a logged request and refuse others with 0x504. Where the manual leaves a point of these commands open, the
clause holds the model's choice (log 75, 78, 79, 146).
Cites R240, R393, R402, R405, R411, R414, R421, R537. -/
def Obligations.RequestCommands : Prop :=
  (∀ (s : State) (d : Desc) (c : Nat) (x : Ctx) (a : ReqArg), acceptedCtx true d c x s → let t := dequeue d s; s.mbx.shut = false → submitEmpty d a = false → submitBad x d a = false → a.role = 1 → admHeld t x a.num = false → builderHolds t c x a.num = false → waitingCount x < x.qmax → a.adpv = false → x.admEpoch ≠ none → ∃ w, exec (.reqSubmit d a) s = .next w ∧ getCtx w c = some { x with adm := x.adm.filter (fun q => q.num != a.num) ++ [admNew t x d a], subNext := x.subNext + 1 } ∧ Frame [.ctxs, .mbx] s w) ∧
  (∀ (s : State) (d : Desc) (c : Nat) (x : Ctx) (a : ReqArg), acceptedCtx true d c x s → let t := dequeue d s; s.mbx.shut = false → submitEmpty d a = false → submitBad x d a = false → a.role = 2 → relHeld t x a.num = false → builderHolds t c x a.num = false → s.twin.st ≠ .standby → a.mask = false → exec (.reqSubmit d a) s = .next (relAccept c (relNew t x d a none) t)) ∧
  (∀ (s : State) (d : Desc) (c : Nat) (x : Ctx) (a : ReqArg), acceptedCtx true d c x s → s.mbx.shut = true → exec (.reqSubmit d a) s = .next (finish d 0x06 (dequeue d s))) ∧
  (∀ (s : State) (d : Desc), let t := { dequeue d s with mbx := { (dequeue d s).mbx with shut := true } }; let t1 := (ctxSlots t).foldl (fun s c => endAdms c s) t; let t2 := t1.fab.streams.foldl shutStream t1; let t3 := (ctxSlots t2).foldl (fun s c => endRels c s) t2
    accepted .sys false false false d s = true → exec (.sysShutdown d) s = .next (finish d 0 (deviceRecord t3)) ∧ t3.mbx.shut = true) ∧
  (∀ (s : State) (d : Desc) (c : Nat) (x : Ctx) (tag : W32) (r : RelRec), acceptedCtx false d c x s → relOf x (numOf tag) = some r → exec (.reqCancel d tag) s = .next (finish d 0 (if r.retired then dequeue d s else endRequest c r 4 (dequeue d s)))) ∧
  (∀ (s : State) (d : Desc) (c : Nat) (x : Ctx) (tag : W32), acceptedCtx false d c x s → relOf x (numOf tag) = none → exec (.reqCancel d tag) s = .next (finish d (if (admOf x (numOf tag)).isSome then 0x06 else 0x07) (dequeue d s))) ∧
  (∀ (s : State) (d : Desc) (c : Nat) (x : Ctx) (tag dl mt : W32) (ts : List W32) (r : RelRec), acceptedCtx true d c x s → let t := dequeue d s; s.mbx.shut = false → d.inlen ≠ 0 → ts ≠ [] → mt ≠ 0 → resumeBad x dl mt ts = false → relOf x (numOf tag) = some r → r.retired = true → r.end_ ≠ 3 → r.released ≠ [] → nowC t < r.retiredAt + holdCycles t → exec (.reqResume d tag dl mt ts) s = .next (kickRel c r.num (finish d 0 (updRelNum c r.num (fun r => { r with retired := false, end_ := 0, seg := r.seg + 1, segReleased := 0, maxtok := mt.toNat, drawn := none, limit := nowC t + msCycles dl.toNat, passEnd := r.lastPos + ts.length, ledger := { r.ledger with state := 0, status := 0, settledBy := [], localt := ltime t } }) t)))) ∧
  (∀ (s : State) (d : Desc) (c : Nat) (x : Ctx) (tag dl mt : W32) (ts : List W32) (a : AdmRec), acceptedCtx true d c x s → s.mbx.shut = false → d.inlen ≠ 0 → ts ≠ [] → mt ≠ 0 → resumeBad x dl mt ts = false → relOf x (numOf tag) = none → admOf x (numOf tag) = some a → a.retired = true → exec (.reqResume d tag dl mt ts) s = .next (resumeAdm c x d a dl ts.length (dequeue d s))) ∧
  (∀ (s : State) (d : Desc) (c : Nat) (x : Ctx) (tag : W32) (r : RelRec), acceptedCtx false d c x s → relOf x (numOf tag) = some r → d.outlen ≠ 0 → let out := fitRecs d.outlen.toNat r.ledger.parts; exec (.reqLedger d tag) s = .next (complete d 0 out.length [] (outLines d.outaddr out (dequeue d s)))) ∧
  (∀ (s : State) (d : Desc) (c : Nat) (x : Ctx) (tag : W32), acceptedCtx false d c x s → (relOf x (numOf tag)).isSome = true ∨ (admOf x (numOf tag)).isSome = true → exec (.reqLog d tag) s = .next (if (logOf x (numOf tag)).isNone then finish d 0x0504 (dequeue d s) else finishFree d (dequeue d s))) ∧
  (∀ (s : State) (d : Desc) (c : Nat) (x : Ctx) (tag : W32) (form : Byte) (df : Option Nat) (g : LogRec), acceptedCtx false d c x s → logOf x (numOf tag) = some g → logResident x ((admOf x (numOf tag)).map (fun a => a.adpslot)) g = true → d.outlen ≠ 0 → g.daylight = false → exec (.reqReplay d tag form df) s = .next (finishFree d (dequeue d s)))

/-- Dispatch, release, deadlines, and the sending of flits. REQUEST_DISPATCH sends the position choose picks where the lane has
credit, and refuses a resume that is too late. TOKEN_RELEASE with the gate open appends the drawn token, counts it and writes
its ledger record. Deadlines end their records; a release record that never came discards its request. A live link sends its
lanes in the order VL7, VL4, VL3, round robin, IDLE, but nothing on every 16,384th codeword. Where the manual leaves a point
of these commands open, the clause holds the model's choice (log 26, 76, 77).
Cites R236, R240, R298, R304, R405, R406, R407, R410, R411, R412. -/
def Obligations.RequestEvents : Prop :=
  (∀ (s : State) (c : CtxI) (x : Ctx) (a : AdmRec) (k : Nat), getCtx s c.val = some x → x.paused = false → s.mbx.shut = false → s.snuf.wheld = false → x.path.head? = some s.fab.myid → chooseReq s x = some (a, k) → (a.resumed = none ∨ resumeLate s a = false) →
    exec (.requestDispatch c) s = .next (if vl1Credit s (firstPkg s c.val x (if a.admitted then a.epoch else x.admEpoch.getD 0)) then dispatchSend c.val x a k s else s)) ∧
  (∀ (s : State) (c : Nat) (x : Ctx) (a : AdmRec) (k : Nat), a.admitted = true → k ≠ 3 → a.resumed = none → dispatchSend c x a k s = sendPosition c x a (k != 1) (setCtx c (some { x with floor := floorNext a.cls x.floor, dispatches := x.dispatches + 1, adm := updIf (fun q => q.num == a.num) (fun _ => afterSend s k a) x.adm }) s)) ∧
  (∀ (s : State) (c : CtxI) (inst : W32) (x : Ctx) (r : RelRec) (d : Drawn), getCtx s c.val = some x → relInst x inst = some r → r.drawn = some d → gateOpen s c.val r d = true →
    exec (.tokenRelease c inst) s = .next (releaseToken c.val x r d s) ∧ (endOf r d = none → r.flagged = [] → ∃ y q, getCtx (releaseToken c.val x r d s) c.val = some y ∧ relInst y inst = some q ∧ q.released = r.released ++ [(d.token, d.tindex)] ∧ q.segReleased = r.segReleased + 1 ∧ q.drawn = none ∧ q.ledger.tokens = r.ledger.tokens + 1)) ∧
  (∀ (s : State) (c : CtxI) (num : W16) (x : Ctx) (r : RelRec), getCtx s c.val = some x → relOf x num = some r → r.retired = false → r.retiring = none → r.limit ≤ nowC s → exec (.releaseDeadline c num) s = .next (endRequest c.val r 5 s)) ∧
  (∀ (s : State) (c : CtxI) (num : W16) (x : Ctx) (a : AdmRec), getCtx s c.val = some x → admOf x num = some a → a.retired = false → a.limit + 900000000 ≤ nowC s → exec (.admissionDeadline c num) s = .next (endAdm c.val a 0x02 s)) ∧
  (∀ (s : State) (c : CtxI) (inst : W32) (x : Ctx) (a : Act), getCtx s c.val = some x → x.waitRel.find? (fun a => a.msg.hdr.inst == inst) = some a → exec (.releaseRecordWaitExpiry c inst) s = .next (raiseEmber { emb 2 0x0E01 0 (some x.ctxid) a.msg.hdr.tindex.toNat with reqtag := a.msg.hdr.reqtag } (noticePath c.val 0x22 (ridOf a.msg.hdr) 0 1 (updCtx c.val (fun x => { x with waitRel := x.waitRel.filter (fun a => a.msg.hdr.inst != inst) }) s)))) ∧
  (∀ (s : State) (k : LinkI), linkLive (getLink s k.val).st = true → (getLink s k.val).st ≠ .linit → ((getLink s k.val).codewords + 1) % 16384 = 0 → Runs (.flitSend k) s (fun u => getLink u k.val = { getLink s k.val with codewords := (getLink s k.val).codewords + 1 } ∧ Frame [.fab] s u)) ∧
  (∀ (s : State) (k : LinkI) (f : TxFlit) (t : List TxFlit), linkLive (getLink s k.val).st = true → (getLink s k.val).st ≠ .linit → ((getLink s k.val).codewords + 1) % 16384 ≠ 0 → (getLink s k.val).replay = f :: t → Runs (.flitSend k) s (fun u => getLink u k.val = { getLink s k.val with codewords := (getLink s k.val).codewords + 1, replay := t } ∧ Frame [.fab] s u)) ∧
  (∀ (s : State) (k : LinkI) (vl : Nat), (getLink s k.val).st = .up → ((getLink s k.val).codewords + 1) % 16384 ≠ 0 → (getLink s k.val).replay = [] → [7, 4, 3].find? (sendable { getLink s k.val with codewords := (getLink s k.val).codewords + 1 }) = some vl →
    doFlitSend k.val s = sendHeader k.val (sendData k.val vl (updLink k.val (fun x => { x with codewords := x.codewords + 1 }) s)) ∧ ∃ u, exec (.flitSend k) s = .next u) ∧
  (∀ (s : State) (k : LinkI), let z := updLink k.val (fun x => { x with codewords := x.codewords + 1 }) s; (getLink s k.val).st = .up → ((getLink s k.val).codewords + 1) % 16384 ≠ 0 → (getLink s k.val).replay = [] → [7, 4, 3].find? (sendable (getLink z k.val)) = none →
    exec (.flitSend k) s = .next (flitSent k.val s) ∧ doFlitSend k.val s = (match wrrTurn z k.val with
      | some (vl, y) => sendHeader k.val (sendData k.val vl y)
      | none => updLink k.val (fun x => { x with wrr := [0, 0, 0, 0], wrrNext := 0 }) (sendHeader k.val z)))

/-- Activations, contributions and reduction timers. A duplicate is counted and dropped. A good activation for a context here
starts its work and frees what was retained for the position before; a damaged one asks the sender again once. A good
contribution joins its record, and a contributor that joined before is discarded. After SYS.SHUTDOWN work is answered with a
notice. The resend timer asks every missing contributor; the expiry frees the record, raises an ember and tells the final
package with CODE 3. Where the manual leaves a point of these commands open, the clause holds the model's choice (log 26, 27,
28, 80, 85, 125, 128, 129, 130).
Cites R225, R323, R324, R326, R333, R334, R336, R337, R343, R487, R537. -/
def Obligations.WorkMessages : Prop :=
  (∀ (s w : State) (k : LinkI) (m : Msg) (c : Nat) (ep : W32) (layer part : W16) (fin : Pkg), let t := touchStream m true w
    delivered k.val m 0x10 s w → s.fab.freed = [] → w.mbx.shut = false → workCount m ≠ 0 → workKey m = some (ep, layer, part, fin) → t.fab.rules.find? (fun r => ruleHolds r m.hdr.ctx ep layer) = none → msgCtx t m.hdr = some c → actMalformed m = false → resentKey m ∉ t.fab.resent →
    exec (.actReceive k m false) s = .next (kickPfx c (actStart c { link := k, msg := m, outs := [], att := [], stage := [], done := 0, clean := true, resolved := 0, checks := workBlocks m } (freeKept m.hdr t)))) ∧
  (∀ (s w : State) (k : LinkI) (m : Msg) (c : Nat) (ep : W32) (layer part : W16) (fin : Pkg), let t := touchStream m true w
    delivered k.val m 0x10 s w → s.fab.freed = [] → w.mbx.shut = false → workCount m ≠ 0 → workKey m = some (ep, layer, part, fin) → t.fab.rules.find? (fun r => ruleHolds r m.hdr.ctx ep layer) = none → msgCtx t m.hdr = some c → actMalformed m = false → resentKey m ∉ t.fab.resent →
    exec (.actReceive k m true) s = .next (sendNotice 0x25 m.hdr.src (ridOf m.hdr) m.hdr.tindex (BitVec.ofNat 64 ((resentKey m).2.2.2.1.toNat + 65536 * (resentKey m).2.2.2.2.toNat)) m.hdr.msn 1 (tstatSet 3 { t with fab := { t.fab with resent := t.fab.resent ++ [resentKey m] } }))) ∧
  (∀ (s w : State) (k : LinkI) (m : Msg) (bad : Bool), delivered k.val m 0x10 s w → s.fab.freed = [] → w.mbx.shut = true → exec (.actReceive k m bad) s = .next (reportLoss m 4 w)) ∧
  (∀ (s : State) (k : LinkI) (m : Msg) (bad : Bool), let t := takeItem k.val (.msg m) s; s.fab.freed = [] → dieWaits s k.val = false → t.snuf.wheld = false → t.fab.myidV = true → m.hdr.kind = 0x10 → m.vl = 1 → m.hdr.dst = t.fab.myid → acceptNum m.hdr.src m.vl m.hdr.msn t = none →
    exec (.actReceive k m bad) s = .next (tstatSet 0 { t with fab := { t.fab with dups := t.fab.dups + 1 } })) ∧
  (∀ (s w : State) (k : LinkI) (m : Msg) (c : Nat) (r : RedHdr) (g : List Byte) (md : ShardMeta), let t := touchStream m true w
    delivered k.val m 0x11 s w → s.fab.freed = [] → w.mbx.shut = false → workCount m ≠ 0 → m.body = .s40 r g → t.fab.rules.find? (fun q => ruleHolds q m.hdr.ctx r.epoch r.layer) = none → msgCtx t m.hdr = some c → reduceMeta t c r.epoch r.layer.toNat r.part = some md → s40Malformed m = false → expsOk (partExps t c r.epoch md) r (s40Body r g) = true → resentKey m ∉ t.fab.resent →
    exec (.s40Receive k m false) s = .next (contribute c (partExps t c r.epoch md) m.hdr r (s40Body r g) true (workBlocks m) t)) ∧
  (∀ (s : State) (c : Nat) (e : List Int) (h : Hdr) (r : RedHdr) (g : List S40Group) (clean : Bool) (n : Nat) (q : RedRec), s.fab.reds.find? (redIs h.ctx h.inst h.tindex r.layer r.part) = some q → (q.mask &&& r.cmask ≠ 0 → contribute c e h r g clean n s = tstatSet 0 s) ∧ (q.mask &&& r.cmask = 0 →
    contribute c e h r g clean n s = redPut c { q with mask := q.mask ||| r.cmask, groups := addGroups r.group0.toNat g q.groups, clean := q.clean && h.clean && clean, resolved := satOf 8 (q.resolved.toNat + r.resolved.toNat + (if clean then 0 else 1)), checks := satOf 32 (q.checks.toNat + r.checks.toNat + n), begun := true } s)) ∧
  (∀ (s : State) (c : CtxI) (inst tindex : W32) (layer : W16) (r : RedRec) (md : ShardMeta), s.snuf.wheld = false → openRed s c.val inst tindex layer = some r → reduceMeta s c.val r.epoch layer.toNat r.part = some md →
    exec (.reductionResendTimer c inst tindex layer) s = .next ((maskBits 256 (md.rmask &&& ~~~ r.mask).toNat).foldl (fun s i => sendNotice 0x25 (contributorPkg layer r.part i) { ctx := r.ctx, reqtag := r.reqtag, inst := inst, seg := r.seg } tindex (BitVec.ofNat 64 (layer.toNat + 65536 * r.part.toNat)) 0 2 (tstatSet 3 s)) s)) ∧
  (∀ (s : State) (c : CtxI) (inst tindex : W32) (layer : W16) (r : RedRec), s.snuf.wheld = false → openRed s c.val inst tindex layer = some r → ∃ w, exec (.reductionRecordExpiry c inst tindex layer) s = .next (sendNotice 0x20 r.final { ctx := r.ctx, reqtag := r.reqtag, inst := inst, seg := r.seg } tindex (ltime s) 0 3 w) ∧ w.fab.reds = s.fab.reds.erase r ∧ Frame [.fab, .gvl, .mbx, .posted, .mgt] s w)

/-- Notices, taper segments, and the end of a retired instance. NEXT frees the retained messages of its position and makes the
following position ready; COMMIT and DISCARD act on the attention state and end a retired request; WITHHELD and EPOCH_MISS
retire the open record they name with END 6 and 8; SUSPECT amends and SETTLE counts; RESEND sends a retained message again. A
taper segment is stored and relayed on its chain, and joins the shards of a package it names; an empty one is counted. A
retired instance is forgotten at its expiry. Where the manual leaves a point of these commands open, the clause holds the
model's choice (log 70, 74).
Cites R238, R242, R243, R334, R340, R341, R345, R346, R407, R495, R536. -/
def Obligations.NoticesAndTapers : Prop :=
  (∀ (s w : State) (k : LinkI) (m : Msg) (c : Nat) (x : Ctx) (a : AdmRec), delivered k.val m 0x15 s w → msgCtx w m.hdr = some c → getCtx w c = some x → x.adm.find? (fun a => a.admitted && a.inst == m.hdr.inst && a.seg == m.hdr.seg && !a.retired) = some a → a.nextPos = m.hdr.tindex.toNat + 1 → a.build = false → exec (.nextReceive k m) s = .next (updAdm c a.num (fun a => { a with nextTok := some ((noticeOf m).arg0.setWidth 32), gotNext := true, lastPos := m.hdr.tindex.toNat + 1, readySince := nowF w }) { w with fab := { w.fab with kept := w.fab.kept.filter (fun q => !(q.hdr.ctx == m.hdr.ctx && q.hdr.inst == m.hdr.inst && q.hdr.tindex == m.hdr.tindex)) } })) ∧
  (∀ (s w : State) (k : LinkI) (m : Msg) (c : Nat) (x : Ctx) (r : RelRec), delivered k.val m 0x20 s w → msgCtx w m.hdr = some c → getCtx w c = some x → relNamed x m.hdr = some r → exec (.withheldReceive k m) s = .next (retireNamed c m.hdr r 6 (setBroken (noticeOf m).code w))) ∧
  (∀ (s w : State) (k : LinkI) (m : Msg) (c : Nat) (x : Ctx) (r : RelRec), delivered k.val m 0x26 s w → msgCtx w m.hdr = some c → getCtx w c = some x → relNamed x m.hdr = some r → exec (.epochMissReceive k m) s = .next (retireNamed c m.hdr r 8 w)) ∧
  (∀ (s w : State) (k : LinkI) (m : Msg) (c : Nat) (x : Ctx), delivered k.val m 0x21 s w → msgCtx w m.hdr = some c → getCtx w c = some x → exec (.commitReceive k m) s = .next (kickPfx c (if (noticeOf m).code.toNat % 2 = 1 then retireNotice c x m.hdr (attnCommit c m.hdr.inst (m.hdr.tindex.toNat + 1) w) else attnCommit c m.hdr.inst (m.hdr.tindex.toNat + 1) w))) ∧
  (∀ (s w : State) (k : LinkI) (m : Msg) (c : Nat) (x : Ctx), delivered k.val m 0x22 s w → msgCtx w m.hdr = some c → getCtx w c = some x → exec (.discardReceive k m) s = .next (kickPfx c (if (noticeOf m).code.toNat % 2 = 1 then retireNotice c x m.hdr (attnDiscard c m.hdr.inst m.hdr.tindex.toNat w) else attnDiscard c m.hdr.inst m.hdr.tindex.toNat w))) ∧
  (∀ (s w : State) (k : LinkI) (m : Msg) (c : Nat) (x : Ctx), delivered k.val m 0x23 s w → msgCtx w m.hdr = some c → getCtx w c = some x → exec (.suspectReceive k m) s = .next (suspectAtFinal c m.hdr (noticeOf m).arg0 w)) ∧
  (∀ (s w : State) (k : LinkI) (m : Msg) (c : Nat) (x : Ctx), delivered k.val m 0x24 s w → msgCtx w m.hdr = some c → getCtx w c = some x → exec (.settleReceive k m) s = .next (settleCount c m.hdr.inst m.hdr.src w)) ∧
  (∀ (s w : State) (k : LinkI) (m : Msg) (c : Nat) (x : Ctx) (q : Msg), delivered k.val m 0x25 s w → msgCtx w m.hdr = some c → getCtx w c = some x → wanted w m.hdr (noticeOf m) = some q → exec (.resendReceive k m) s = .next (sendAgain q w)) ∧
  (∀ (s w : State) (k : LinkI) (m : Msg) (dig : Digest) (t : TaperHdr) (i : Nat) (n : Chain), let v := takeItem k.val (.msg m) s; v.snuf.wheld = false → v.fab.myidV = true → m.body = .taper t → m.hdr.kind = 0x13 → m.vl = 0 → chainOf v k.val t.chain.toNat = some (i, n) → acceptNum (BitVec.ofNat 12 i) 0 m.hdr.msn v = some w → t.seglen ≠ 0 → m.hdr.len.toNat = 64 + t.seglen.toNat → t.seglen.toNat ≤ 65536 →
    exec (.taperReceive k m dig) s = .next (let u := storeSeg t dig (relayTaper n m w); if t.owner = w.fab.myid.setWidth 16 ∨ t.buddy = w.fab.myid.setWidth 16 then (match msgCtx u m.hdr with | none => u | some c => segArrived c t u) else u)) ∧
  (∀ (s w : State) (k : LinkI) (m : Msg) (dig : Digest) (t : TaperHdr) (i : Nat) (n : Chain), let v := takeItem k.val (.msg m) s; v.snuf.wheld = false → v.fab.myidV = true → m.body = .taper t → m.hdr.kind = 0x13 → m.vl = 0 → chainOf v k.val t.chain.toNat = some (i, n) → acceptNum (BitVec.ofNat 12 i) 0 m.hdr.msn v = some w → t.seglen = 0 →
    exec (.taperReceive k m dig) s = .next { w with fab := { w.fab with noop := satInc w.fab.noop } }) ∧
  (∀ (s w : State) (k : LinkI) (m : Msg) (t : TaperHdr) (i : Nat) (n : Chain), delivered k.val m 0x14 s w → m.body = .taperReq t → chainNamed w t.chain.toNat = some (i, n) →
    let held := w.fab.segs.filter (fun e => e.1 == t.chain && e.2.1.shard == t.shard && (segsAsked t).contains e.2.1.seg.toNat)
    (∀ i ∈ segsAsked t, ∃ e ∈ held, e.2.1.seg.toNat = i) → exec (.taperReqReceive k m) s = .next (held.foldl (fun s e => sendTaper n m.hdr.ctx e.2.1 s) w)) ∧
  (∀ (s : State) (ctx : W16) (inst : W32), exec (.retiredInstanceExpiry ctx inst) s = .next { s with fab := { s.fab with retired := s.fab.retired.filter (fun r => !(r.ctx == ctx && r.inst == inst)) } })

/-- Curfew messages at a target and the entry package's layer wave. SET adds or replaces the rule and reports; beyond 16 rules it
reports STATUS 3. LIFT acts on the rule or reports STATUS 2; QUERY reports the count and what is held; a REPORT moves the wave
on. A rule at its timeout whose epoch is not STAGED is dropped. The query timer asks every package of the path anew, the
resend timer sends again what drew no report, and the drain's expiry misses the requests still open. WGT.REPLACE starts at
once with no wave under way. Where the manual leaves a point of these commands open, the clause holds the model's choice (log
29, 63, 64, 147).
Cites R342, R343, R347, R392, R444, R445, R446. -/
def Obligations.CurfewsAndWaves : Prop :=
  (∀ (s w : State) (k : LinkI) (m : Msg) (b : CurfewBody), delivered k.val m 0x12 s w → m.body = .curfew b → m.hdr.len = 64 → b.op = 1 → ruleOf w m.hdr.ctx b.cfid ≠ none ∨ w.fab.rules.length < 16 → let r := newRule m b (ruleOf w m.hdr.ctx b.cfid)
    exec (.curfewSet k m) s = .next (sendReport m.hdr.src m.hdr.ctx b 0 r.held.length (if r.overflow then 1 else 0) { w with fab := { w.fab with rules := w.fab.rules.filter (fun q => !(q.cfid == b.cfid && q.ctx == m.hdr.ctx)) ++ [r] } })) ∧
  (∀ (s w : State) (k : LinkI) (m : Msg) (b : CurfewBody), delivered k.val m 0x12 s w → m.body = .curfew b → m.hdr.len = 64 → b.op = 1 → ruleOf w m.hdr.ctx b.cfid = none → 16 ≤ w.fab.rules.length → exec (.curfewSet k m) s = .next (sendReport m.hdr.src m.hdr.ctx b 0 0 3 w)) ∧
  (∀ (s w : State) (k : LinkI) (m : Msg) (b : CurfewBody) (fails : List (Lan × LWick × List (Nat × Int))), delivered k.val m 0x12 s w → m.body = .curfew b → m.hdr.len = 64 → b.op = 2 → exec (.curfewLift k m fails) s = .next (match ruleOf w m.hdr.ctx b.cfid with | none => sendReport m.hdr.src m.hdr.ctx b 0 0 2 w | some r => liftRule r m.hdr.src fails w)) ∧
  (∀ (s w : State) (k : LinkI) (m : Msg) (b : CurfewBody) (r : HoldRule), delivered k.val m 0x12 s w → m.body = .curfew b → m.hdr.len = 64 → b.op = 3 → ruleOf w m.hdr.ctx b.cfid = some r → exec (.curfewQuery k m) s = .next (sendReport m.hdr.src m.hdr.ctx b (curfewCount w m.hdr.ctx (b.mode == 1) b.epoch b.layLo b.layHi) r.held.length (if r.overflow then 1 else 0) w)) ∧
  (∀ (s w : State) (k : LinkI) (m : Msg) (b : CurfewBody) (c : Nat) (x : Ctx) (v : Wave), delivered k.val m 0x12 s w → m.body = .curfew b → m.hdr.len = 64 → b.op = 4 → msgCtx w m.hdr = some c → getCtx w c = some x → x.wave = some v → exec (.curfewReport k m) s = .next (kickRepl c (waveReport c x v m.hdr.src b w))) ∧
  (∀ (s : State) (ctx : W16) (cfid : W32) (fails : List (Lan × LWick × List (Nat × Int))) (r : HoldRule) (c : Nat) (x : Ctx), s.snuf.wheld = false → ruleOf s ctx cfid = some r → slotOf s ctx = some c → getCtx s c = some x → x.rewrite = none → isStaged s c r.epoch = false →
    exec (.holdRuleTimeout ctx cfid fails) s = .next (dropRule (some c) { r with overflow := false } (r.lifting.getD r.src) (updRule r (fun _ => { r with overflow := false }) s))) ∧
  (∀ (s : State) (c : CtxI) (x : Ctx) (w : Wave), waveOf s c.val = some (x, w) → w.phase = 3 → exec (.waveQueryTimer c) s = .next (waveSend x 3 w.new x.path (updWave c.val (fun w => { w with await := x.path.map (fun p => (p, 1)), counts := [] }) s))) ∧
  (∀ (s : State) (c : CtxI) (x : Ctx) (w : Wave), waveOf s c.val = some (x, w) → (∀ a ∈ w.await, a.2 < 3) → exec (.curfewResendTimer c) s = .next (waveSend x (if w.phase = 1 then 1 else if w.phase = 3 then 3 else 2) w.new (w.await.map (fun a => a.1)) (updWave c.val (fun w => { w with await := w.await.map (fun a => if a.2 < 3 then (a.1, a.2 + 1) else a) }) s))) ∧
  (∀ (s : State) (c : CtxI) (x : Ctx) (w : Wave), waveOf s c.val = some (x, w) → w.phase = 3 → w.expired = false → exec (.waveDrainExpiry c) s = .next (missOpen x w.new (updWave c.val (fun w => { w with expired := true }) s))) ∧
  (∀ (s : State) (d : Desc) (c : Nat) (x : Ctx) (old new drain : W32), acceptedCtx false d c x s → x.wave = none → x.replQ = [] → ∃ w, exec (.wgtReplace d old new drain) s = .next (replStart c x d old new drain w) ∧ getCtx w c = some x ∧ Frame [.ctxs, .mbx] s w) ∧
  (∀ (s : State) (c : Nat) (x : Ctx) (d : Desc) (old new drain : W32), drain.toNat ≤ 50000 → x.admEpoch = none → isStaged s c new = true → replStart c x d 0 new drain s = finish d 0 (updCtx c (fun x => { x with admEpoch := some new }) s))

/-- The twin pair, and the limit of a command. TWIN.FORM sends TFORM and meets the peer's; agreeing forms make the pair ACTIVE,
STANDBY or COMPARE. DISSOLVE ends it and STATUS answers its code. A standby takes over from a broken twin and at its loss; two
active systems split, and a broken active one becomes standby; without STRICT a comparing one goes on SINGLE. Digests,
activations and results of the peer are kept and met. An A command that reaches its limit completes with TIMEOUT. Where the
manual leaves a point of these commands open, the clause holds the model's choice (log 61, 71).
Cites R393, R395, R493, R495, R496, R497, R498, R499. -/
def Obligations.TwinPairs : Prop :=
  (∀ (s : State) (d : Desc) (a : TwinArg), let t := dequeue d s; accepted .twin false false false d s = true → twinArgOk a = true → (slotOf s a.ctxid).isSome = true → s.twin.st ≠ .forming → a.peer.toNat / 2048 ≠ s.fab.myid.toNat / 2048 → (∀ k ∈ twinLinks a, twinLinkOk s a.peer k = true) →
    exec (.twinForm d a) s = .next (formMeet (sendMsg { hdrOf 0x30 a.peer.toNat with ctx := a.ctxid } (.tform a.mode (twinFlags a) a.ctxid a.twait) (setTwin .forming (keepProg d { t with twin := { t.twin with arg := some a, cmd := some d } }))))) ∧
  (∀ (s : State) (d : Desc) (a : TwinArg), accepted .twin false false false d s = true → twinArgOk a = true → (slotOf s a.ctxid).isSome = true → s.twin.st ≠ .forming → (∃ k ∈ twinLinks a, twinLinkOk s a.peer k = false) → exec (.twinForm d a) s = .next (finish d 0x0A01 (dequeue d s))) ∧
  (∀ (s : State) (d : Desc), accepted .twin false false false d s = true → let w := letAllGo (formEnd .none_ 0x0A01 (dequeue d s)); exec (.twinDissolve d) s = .next (finish d 0 (setTwin .none_ { w with twin := { w.twin with arg := none, peerForm := none, digests := [], results := [] } })) ∧ exec (.twinStatus d) s = .next (finishOut d 1 [BitVec.ofNat 8 s.twin.st.code] (dequeue d s))) ∧
  (∀ (s w : State) (k : LinkI) (m : Msg) (mode flags : Byte) (ctxid twait : W16), delivered k.val m 0x30 s w → m.body = .tform mode flags ctxid twait → exec (.tformReceive k m) s = .next (formMeet { w with twin := { w.twin with peerForm := some (m.hdr.src, mode, flags, ctxid) } })) ∧
  (∀ (s : State) (a : TwinArg) (mode flags : Byte) (ctxid : W16), s.twin.arg = some a → s.twin.peerForm = some (a.peer, mode, flags, ctxid) → s.twin.st = .forming → formsAgree a mode flags ctxid = true →
    formMeet s = formEnd (if a.mode = 2 then .compare else if a.active then .active else .standby) 0 { s with twin := { s.twin with broken := false, digests := [], results := [] } }) ∧
  (∀ (s w : State) (k : LinkI) (m : Msg) (st : Byte) (broken : Bool) (a : TwinArg), delivered k.val m 0x34 s w → m.body = .theart st broken → w.twin.arg = some a → m.hdr.src = a.peer → exec (.theartReceive k m) s = .next (if w.twin.st = .standby ∧ broken = true then setTwin .active w else if w.twin.st = .active ∧ (st = 2 ∨ st = 6) then (if w.twin.broken then setTwin .standby w else if broken then w else setTwin .split w) else w)) ∧
  (∀ (s : State) (a : TwinArg), s.twin.arg = some a → s.snuf.wheld = false → s.twin.st ≠ .none_ → exec .twinHeartbeatSend s = .next ((twinLinks a).foldl (fun t k => sendOn t { hdrOf 0x34 a.peer.toNat with ctx := a.ctxid } (.theart (BitVec.ofNat 8 s.twin.st.code) s.twin.broken) k) s)) ∧
  (∀ s : State, (s.twin.st = .standby → exec .twinLost s = .next (setTwin .active s)) ∧ (s.twin.st = .compare → twinStrict s = false → exec .twinLost s = .next (setTwin .single (letAllGo s))) ∧ (s.twin.st = .compare → twinStrict s = true → exec .twinLost s = .next s)) ∧
  (∀ (s w : State) (k : LinkI) (m : Msg) (v : BitVec 256) (a : TwinArg) (c : Nat) (r : RelRec), delivered k.val m 0x31 s w → m.body = .tdigest v → w.twin.arg = some a → a.peer = m.hdr.src → comparing w m.hdr.ctx = true → msgCtx w m.hdr = some c → (getCtx w c).bind (fun x => relOf x (numOf m.hdr.reqtag)) = some r → exec (.tdigestReceive k m) s = .next (digestMeet c r.inst { w with twin := { w.twin with digests := w.twin.digests ++ [(m.hdr.reqtag, m.hdr.tindex, v)] } })) ∧
  (∀ (s w : State) (k : LinkI) (m : Msg) (v : BitVec 256) (a : TwinArg) (c : Nat) (r : RelRec), delivered k.val m 0x33 s w → m.body = .tresult v → w.twin.arg = some a → a.peer = m.hdr.src → comparing w m.hdr.ctx = true → msgCtx w m.hdr = some c → (getCtx w c).bind (fun x => relOf x (numOf m.hdr.reqtag)) = some r → exec (.tresultReceive k m) s = .next (resultMeet c r.inst { w with twin := { w.twin with results := w.twin.results ++ [(m.hdr.reqtag, m.hdr.tindex, v)] } })) ∧
  (∀ (s w : State) (k : LinkI) (m : Msg) (b : ActHdr) (y : List Byte) (a : TwinArg) (c : Nat) (r : RelRec) (d : Drawn), delivered k.val m 0x32 s w → m.body = .tact b y → w.twin.arg = some a → a.peer = m.hdr.src → comparing w m.hdr.ctx = true → msgCtx w m.hdr = some c → (getCtx w c).bind (fun x => relOf x (numOf m.hdr.reqtag)) = some r → r.drawn = some d → d.arb = true → d.mine = none → d.tindex = m.hdr.tindex → exec (.tactReceive k m) s = .next (resultMeet c r.inst (arbitrate c r.inst w))) ∧
  (∀ (s : State) (tag tindex : W32) (p : Nat × RelRec × Drawn), (drawnRecs s).find? (fun p => numOf tag == p.2.1.num && p.2.2.tindex == tindex && p.2.2.twinWait) = some p → exec (.twinDigestTimeout tag tindex) s = .next (if twinStrict s then s else setTwin .single (letGo s p))) ∧
  (∀ (s : State) (r : RingI) (tag : W64) (d : Desc), (getRing s r.val).prog.find? (fun d => d.tag == tag && abandonable.contains d.opcode.toNat) = some d → d.ring = r → ((getRing s r.val).prog.erase d).find? (fun d => d.tag == tag) = none → (∀ v ∈ s.invs, v.cmd ≠ some d) → s.twin.cmd = none → exec (.commandTimeLimit r tag) s = .next (finish d 0x13 s))

/-- Ports, bring-up and link loss. A FAB_PCFG write takes only EN while EN is 1 and sets CFG_ERR; EN = 1 starts TRAINING and EN =
0 leads to DISABLED. Training and alignment go on as the states say; a LINIT that agrees is kept with its round trip and one
that does not takes the link down with its cause. A time limit, loss of signal, silence or loss of a reference leads to DOWN,
and only there; from DOWN the link trains again. A flip makes the other routing bank active. Where the manual leaves a point
of these commands open, the clause holds the model's choice (log 94).
Cites R295, R296, R306, R307, R308, R312, R315, R317, R320, R321, R329. -/
def Obligations.LinkBringUp : Prop :=
  (∀ (s : State) (p : PortI) (v : W32), (getPort s p.val).en = true → bitAt v 31 = true → ∃ t, exec (.fabPcfgWrite p v) s = .next t ∧ getPort t p.val = { getPort s p.val with stat := setBit (getPort s p.val).stat 5 } ∧ t.fab.links = s.fab.links ∧ (∀ n, n ≠ p.val → getPort t n = getPort s n) ∧ Frame [.fab] s t) ∧
  (∀ (s : State) (p : PortI) (v : W32), (getPort s p.val).en = false → bitAt v 31 = true → ∃ t, exec (.fabPcfgWrite p v) s = .next t ∧ getPort t p.val = { pcfgFields v (getPort s p.val) with en := true } ∧ (getLink t (2 * p.val)).st = .training ∧ (bitAt v 30 = true → (getLink t (2 * p.val + 1)).st = .training) ∧ (∀ n, n / 2 ≠ p.val → getLink t n = getLink s n) ∧ (∀ n, n ≠ p.val → getPort t n = getPort s n) ∧ Frame [.fab] s t) ∧
  (∀ (s : State) (p : PortI) (v : W32), (getPort s p.val).en = true → bitAt v 31 = false → (getLink s (2 * p.val)).st ≠ .disabled → ∃ t, exec (.fabPcfgWrite p v) s = .next t ∧ (getLink t (2 * p.val)).st = .disabled ∧ (getLink t (2 * p.val)).cause = 1 ∧ Frame (.fab :: Part.posting) s t) ∧
  (∀ (s : State) (v : W32), bitAt v 31 = true → ∃ t, exec (.fabRtctlFlip v) s = .next t ∧ t.fab.bank = !s.fab.bank ∧ t.fab.routes = s.fab.routes ∧ (∀ k : LinkI, (getLink t k.val).st = (getLink s k.val).st) ∧ Frame [.fab] s t) ∧
  (∀ (s : State) (k : LinkI) (rev polinv : Byte), (getLink s k.val).st = .training → let lanes := linkLanes s k.val
    ∃ t, exec (.linkTrainingDone k true rev polinv) s = .next t ∧ getLink t k.val = { getLink s k.val with st := .align, rev := decide (rev &&& lanes ≠ 0) } ∧ getPort t (k.val / 2) = { getPort s (k.val / 2) with lock := (getPort s (k.val / 2)).lock ||| lanes, polinv := ((getPort s (k.val / 2)).polinv &&& ~~~ lanes) ||| (polinv &&& lanes) } ∧ Frame [.fab] s t) ∧
  (∀ (s : State) (k : LinkI), (getLink s k.val).st = .align → exec (.linkAlignDone k) s = .next (updLink k.val (fun x => { x with st := .linit, linitSent := 0, peerLinit := none }) s)) ∧
  (∀ (s : State) (k : LinkI) (m : Linit), (getLink s k.val).st = .linit → linitFault s k.val m = none → m.echoes = true → exec (.linitReceive k m) s = .next (updLink k.val (fun x => { x with rtt := satOf 16 m.rtt, peerLinit := some m }) s)) ∧
  (∀ (s : State) (k : LinkI) (m : Linit), m.version = 1 → m.split = (getPort s (k.val / 2)).split → let mine := linkPolicy s k.val
    ((mine = 2 ∧ m.policy = 0) ∨ (mine = 0 ∧ m.policy = 2) → linitFault s k.val m = some 8) ∧
    (¬((mine = 2 ∧ m.policy = 0) ∨ (mine = 0 ∧ m.policy = 2)) → m.echoes = true → 3500 < m.rtt → linitFault s k.val m = some 9)) ∧
  (∀ (s : State) (k : LinkI) (m : Linit) (c : BitVec 4), (getLink s k.val).st = .linit → linitFault s k.val m = some c → (getLink s k.val).st ≠ .disabled → ∃ t, exec (.linitReceive k m) s = .next t ∧ (getLink t k.val).st = .down ∧ (getLink t k.val).cause = c ∧ (∀ n, n ≠ k.val → (getLink t n).st = (getLink s n).st) ∧ Frame (.fab :: Part.posting) s t) ∧
  (∀ (s : State) (k : LinkI), ((getLink s k.val).st = .training ∨ (getLink s k.val).st = .align ∨ (getLink s k.val).st = .linit) → (getLink s k.val).st ≠ .disabled → ∃ t, exec (.linkStateLimitExpiry k) s = .next t ∧ (getLink t k.val).st = .down ∧ (getLink t k.val).cause = 6 ∧ (∀ n, n ≠ k.val → (getLink t n).st = (getLink s n).st) ∧ Frame (.fab :: Part.posting) s t) ∧
  (∀ (s : State) (k : LinkI), linkLocked (getLink s k.val).st = true → (getLink s k.val).st ≠ .disabled → ∃ t, exec (.linkSignalLoss k) s = .next t ∧ (getLink t k.val).st = .down ∧ (getLink t k.val).cause = 2 ∧ (∀ n, n ≠ k.val → (getLink t n).st = (getLink s n).st) ∧ Frame (.fab :: Part.posting) s t) ∧
  (∀ (s : State) (k : LinkI), linkLive (getLink s k.val).st = true → (getLink s k.val).st ≠ .disabled → ∃ t, exec (.linkNoFlitTimeout k) s = .next t ∧ (getLink t k.val).st = .down ∧ (getLink t k.val).cause = 5 ∧ (∀ n, n ≠ k.val → (getLink t n).st = (getLink s n).st) ∧ Frame (.fab :: Part.posting) s t) ∧
  (∀ (s : State) (k : LinkI), (getLink s k.val).st = .down → exec (.linkDownRetrain k) s = .next (updLink k.val (fun x => { x with st := .training }) s)) ∧
  (∀ (s : State) (east : Bool), let mine := fun n : Nat => (if east then 16 else 0) ≤ n ∧ n < (if east then 32 else 16)
    ∃ t, exec (.linkReferenceLoss east) s = .next t ∧ (∀ n, mine n → (getLink s n).st ≠ .disabled → (getLink t n).st = .down ∧ (getLink t n).cause = 0xD) ∧ (∀ n, (getLink s n).st = .disabled ∨ ¬ mine n → (getLink t n).st = (getLink s n).st ∧ (getLink t n).cause = (getLink s n).cause) ∧ Frame (.fab :: Part.posting) s t)

/-- Flits, replay, discovery, keys and relay of a fabric link. A flit that fails its checks is dropped and answered by NAK; the
sixteenth uncorrectable one in a row takes the link down; a good one is acknowledged, its credit taken and its messages handed
on in order. A NAK or 4 µs resends all; the eighth time takes the link down. HELLO is answered by ATTEST, ATTEST by the
verdict, and both verdicts with the keys lead to UP; three failures lead to QUARANTINE. A withheld peer puts the link in
WITHHELD. Keys advance after 2^31 flits. A relayed message loses one hop or is dropped at none; held messages are discarded
after 1 s. Where the manual leaves a point of these commands open, the clause holds the model's choice (log 22, 95, 96, 145,
151).
Cites R300, R305, R306, R310, R311, R314, R316, R317, R319, R325, R328, R463. -/
def Obligations.LinkFlitsDiscoveryAndKeys : Prop :=
  (∀ (s : State) (k : LinkI) (f : Flit) (c : FlitCheck), linkLive (getLink s k.val).st = true → c = .crcFail ∨ c = .tagFail → exec (.flitReceive k f c) s = .next (updLink k.val (fun x => { x with uncorrRun := 0, nakOwed := true }) s)) ∧
  (∀ (s : State) (k : LinkI) (f : Flit), linkLive (getLink s k.val).st = true → (getLink s k.val).uncorrRun < 15 → exec (.flitReceive k f .uncorrectable) s = .next (updLink k.val (fun x => { x with uncorrRun := (getLink s k.val).uncorrRun + 1, nakOwed := true }) (updPort (k.val / 2) (fun p => { p with uncorr := satInc p.uncorr }) s))) ∧
  (∀ (s : State) (k : LinkI) (f : Flit), linkLive (getLink s k.val).st = true → (getLink s k.val).uncorrRun = 15 → ∃ t, exec (.flitReceive k f .uncorrectable) s = .next t ∧ (getLink t k.val).st = .down ∧ (getLink t k.val).cause = 3 ∧ Frame (.fab :: Part.posting) s t) ∧
  (∀ (s : State) (k : LinkI) (f : Flit), (getLink s k.val).st = .up → f.type = 1 → f.nak = false → f.ackv = false → f.cv0 = false → f.cv1 = false → f.seq = (getLink s k.val).rxSeq → f.items = [] → exec (.flitReceive k f .good) s = .next (updLink k.val (fun x => { x with uncorrRun := 0, rxSeq := x.rxSeq + 1, rxCtr := x.rxCtr + 1, ackOwed := x.ackOwed + 1, nakOwed := false, owed := Tab.upd 0 x.owed f.vl.toNat (fun n => n + 1) }) s)) ∧
  (∀ (s : State) (k : LinkI) (f : Flit), let a := takeHeader k.val f (updLink k.val (fun x => { x with uncorrRun := 0 }) s)
    (getLink s k.val).st = .up → f.type = 1 → f.nak = false → exec (.flitReceive k f .good) s = .next (takeData k.val f a) ∧ (getLink a k.val).rxSeq = (getLink s k.val).rxSeq ∧ (f.ackv = true → ((getLink s k.val).unacked.any (fun t => t.num == f.ack)) = true → (getLink a k.val).unacked = ackPop f.ack (getLink s k.val).unacked)) ∧
  (∀ (s : State) (k : LinkI) (f : Flit), (getLink s k.val).st = .up → f.type = 1 → f.seq ≠ (getLink s k.val).rxSeq → takeData k.val f s = updLink k.val (fun x => { x with nakOwed := true }) s) ∧
  (∀ (s : State) (k : LinkI) (f : Flit) (i : Item), (getLink s k.val).st = .up → f.seq = (getLink s k.val).rxSeq → f.vl = 3 → f.items = [i] → (∃ m, i = .msg m ∧ kindVl m.hdr.kind.toNat = some 3) → s.fab.myidV = true → (takeData k.val f s).fab.inbox = s.fab.inbox ++ [(Fin.ofNat 32 k.val, i)]) ∧
  (∀ (s : State) (k : LinkI), linkLive (getLink s k.val).st = true → (getLink s k.val).unacked ≠ [] → (getLink s k.val).replaysSame < 7 → exec (.replayTimeout k) s = .next (updLink k.val (fun x => { x with replay := x.unacked, replaysSame := x.replaysSame + 1 }) (updPort (k.val / 2) (fun p => { p with replays := satInc p.replays }) s))) ∧
  (∀ (s : State) (k : LinkI), linkLive (getLink s k.val).st = true → (getLink s k.val).unacked ≠ [] → (getLink s k.val).replaysSame = 7 → ∃ t, exec (.replayTimeout k) s = .next t ∧ (getLink t k.val).st = .down ∧ (getLink t k.val).cause = 4 ∧ Frame (.fab :: Part.posting) s t) ∧
  (∀ (s : State) (k : LinkI) (d : Digest) (pkg : Pkg) (asg : Bool) (link : LinkI) (caps : Byte) (nonce : BitVec 256), let m := LinkMsg.hello d pkg asg link caps nonce; let t := takeItem k.val (.lnk m) s; let n := drawNonce t
    let z := nbrChange k.val (fun n => { n with iddigest := d, pkg := if asg then some pkg else none, plink := link, caps := caps, nst := 1 }) (if (getLink s k.val).st = .quarantine then startAttempt k.val n.1 n.2 else t)
    (getLink s k.val).st = .discover ∨ (getLink s k.val).st = .quarantine → exec (.helloReceive k m) s = .next (linkPut k.val 4 (.lnk (.attest (linkReport nonce z))) (updLink k.val (fun x => { x with hello := some m, myVerdict := none }) z))) ∧
  (∀ (s : State) (k : LinkI) (r : Report) (d : Digest) (pkg : Pkg) (asg : Bool) (link : LinkI) (caps : Byte) (n : BitVec 256), let t := takeItem k.val (.lnk (.attest r)) s
    (getLink s k.val).st = .discover → (getLink s k.val).hello = some (.hello d pkg asg link caps n) → reportOk t (getLink s k.val).nonce d r = true → exec (.attestReceive k r) s = .next (verdictsMet k.val (linkPut k.val 4 (.lnk (.verdict true)) (updLink k.val (fun x => { x with attested := true, myVerdict := some true }) t)))) ∧
  (∀ (s : State) (k : LinkI) (r : Report), let t := takeItem k.val (.lnk (.attest r)) s
    let n := drawNonce t
    (getLink s k.val).st = .discover → (∀ (d : Digest) (pkg : Pkg) (asg : Bool) (link : LinkI) (caps : Byte) (y : BitVec 256), (getLink s k.val).hello = some (.hello d pkg asg link caps y) → reportOk t (getLink s k.val).nonce d r = false) → exec (.attestReceive k r) s = .next (attemptFail k.val n.1 (linkPut k.val 4 (.lnk (.verdict false)) (updLink k.val (fun x => { x with attested := false, myVerdict := some false }) n.2)))) ∧
  (∀ (s : State) (k : LinkI), (getLink s k.val).st = .discover → exec (.verdictReceive k true) s = .next (verdictsMet k.val (updLink k.val (fun x => { x with peerVerdict := some true }) (takeItem k.val (.lnk (.verdict true)) s)))) ∧
  (∀ (s : State) (k : Nat), (getLink s k).myVerdict = some true → (getLink s k).peerVerdict = some true → ((getLink s k).encrypted = false → verdictsMet k s = enterUp k s) ∧ (∀ (d : Digest) (pkg : Pkg) (asg : Bool) (link : LinkI) (caps : Byte) (nonce : BitVec 256), (getLink s k).encrypted = true → (getLink s k).hello = some (.hello d pkg asg link caps nonce) → verdictsMet k s = if s.sec.iddigest.toNat < d.toNat then updLink k (fun x => { x with keyxSent := true }) (linkPut k 4 (.lnk (.keyx false)) s) else s)) ∧
  (∀ (s : State) (k : Nat) (n : Nat), (getLink (enterUp k s) k).st = .up ∧ (getLink (enterUp k s) k).attempts = 0 ∧ (n ≠ k → (getLink (enterUp k s) n).st = (getLink s n).st)) ∧
  (∀ (s : State) (k : LinkI), linkLive (getLink s k.val).st = true → ∃ t, exec (.linkStateReceive k true) s = .next t ∧ (getLink t k.val).st = .withheld ∧ (getLink t k.val).cause = 0xC ∧ Frame (.fab :: Part.posting) s t) ∧
  (∀ (s : State) (k : LinkI), linkLive (getLink s k.val).st = true → ∃ t, exec (.linkStateReceive k false) s = .next t ∧ (getLink t k.val).st = .down ∧ (getLink t k.val).cause = 0xB ∧ Frame (.fab :: Part.posting) s t) ∧
  (∀ (s : State) (k : LinkI), let t := takeItem k.val (.lnk (.keyx true)) s
    (getLink s k.val).st = .discover → (getLink s k.val).myVerdict = some true → (getLink s k.val).peerVerdict = some true → (getLink s k.val).encrypted = true → (getLink s k.val).keyxSent = true → exec (.keyxReceive k true true) s = .next (enterUp k.val t)) ∧
  (∀ (s : State) (k : LinkI), let t := takeItem k.val (.lnk (.keyx false)) s
    (getLink s k.val).st = .up → (getLink s k.val).encrypted = true → (getLink s k.val).keyxSent = false → exec (.keyxReceive k false true) s = .next (updLink k.val (fun x => { x with keyxSent := false, keyCount := 0 }) (linkPut k.val 4 (.lnk (.keyx true)) t))) ∧
  (∀ (s : State) (k : LinkI) (nonce : BitVec 256), (getLink s k.val).st = .discover → (getLink s k.val).attempts < 2 → exec (.discoverAttemptTimeout k nonce) s = .next (startAttempt k.val nonce (updLink k.val (fun x => { x with attempts := (getLink s k.val).attempts + 1 }) s))) ∧
  (∀ (s : State) (k : LinkI) (nonce : BitVec 256), (getLink s k.val).st = .discover → (getLink s k.val).attempts = 2 → ∃ t, exec (.discoverAttemptTimeout k nonce) s = .next t ∧ (getLink t k.val).st = .quarantine ∧ (getLink t k.val).cause = 0xA ∧ (getNbr t k.val).nst = 3 ∧ Frame (.fab :: Part.posting) s t) ∧
  (∀ (s : State) (k : LinkI) (nonce : BitVec 256), (getLink s k.val).st = .quarantine → exec (.quarantineHelloRepeat k nonce) s = .next (linkPut k.val 4 (.lnk (helloOf s k.val nonce)) (updLink k.val (fun x => { x with nonce := nonce }) s))) ∧
  (∀ (s : State) (k : LinkI), (getLink s k.val).st = .up → (getLink s k.val).encrypted = true → 2 ^ 31 ≤ (getLink s k.val).keyCount → exec (.keyPhaseAdvance k) s = .next (fabStat (k.val / 2) 4 (updLink k.val (fun x => { x with keyphTx := !x.keyphTx, oldKey := !x.unacked.isEmpty, keyCount := x.keyCount - 2 ^ 31 }) s))) ∧
  (∀ (s : State) (k : LinkI) (d : Digest) (pkg : Pkg) (asg : Bool) (link : LinkI) (caps : Byte) (nonce : BitVec 256), (getLink s k.val).st = .up → (getLink s k.val).encrypted = true → (getLink s k.val).hello = some (.hello d pkg asg link caps nonce) → s.sec.iddigest.toNat < d.toNat → exec (.keyReexchange k) s = .next (linkPut k.val 4 (.lnk (.keyx false)) (updLink k.val (fun x => { x with keyxSent := true }) s))) ∧
  (∀ (s : State) (k : LinkI) (m : Msg), let t := takeItem k.val (.msg m) s
    kindVl m.hdr.kind.toNat = some m.vl.toNat → s.fab.myidV = true → s.snuf.wheld = false → m.hdr.dst ≠ s.fab.myid → m.hdr.kind ≠ 0x13 → exec (.messageRelay k m) s = .next (if m.hdr.hops = 0 then reportLoss m 2 (ember 2 0x0A01 m.hdr.src.toNat none m.hdr.dst.toNat (countDrop (tstatSet 1 t))) else egress { m with hdr := { m.hdr with hops := m.hdr.hops - 1 } } t)) ∧
  (∀ (s : State) (dst : Pkg) (m : Msg) (r : List Msg), s.fab.noRoute.filter (fun m => m.hdr.dst == dst) = m :: r → exec (.egressNoRouteTimeout dst) s = .next ((m :: r).foldl (fun s m => reportLoss m 2 s) (raiseEmber { emb 2 0x0903 dst.toNat none (r.length + 1) with reqtag := m.hdr.reqtag } { s with fab := { s.fab with noRoute := s.fab.noRoute.filter (fun m => m.hdr.dst != dst) } })))

/-- The Garvy Link's states. EN leads from DISABLED to DETECT and back; detection, training, lock and the INIT exchange lead to
ACTIVE as the states say. A group of eight is taken where not all sixteen lanes lock, and with none the link goes DOWN.
RECOVERY keeps the link and replays what is unacknowledged; its failure, a limit, silence, loss of the reference, the peer's
LSTATE and PRST lead to DOWN, each with its cause. A link down empties cache and directory, ends the reads with LINKDOWN and
sets GVL_ERR.DOWN. Where the manual leaves a point of these commands open, the clause holds the model's choice (log 57, 58).
Cites R350, R351, R352, R360, R362, R370, R372, R374, R375, R376. -/
def Obligations.GarvyStates : Prop :=
  (∀ (s : State) (v : W32), s.gvl.st = .disabled → bitAt v 31 = true → bitAt v 30 = false → bitAt v 29 = false → exec (.gvlCtlEn v) s = .next (updGvl (fun g => { g with wmax := bitAt v 0, en := true, st := .detect }) s)) ∧
  (∀ (s : State) (v : W32), s.gvl.st = .active → bitAt v 31 = false → bitAt v 30 = false → bitAt v 29 = false → ∃ t, exec (.gvlCtlEn v) s = .next t ∧ t.gvl.st = .disabled ∧ t.gvl.en = false ∧ t.gvl.cause = 1 ∧ t.gvl.cache = [] ∧ t.gvl.dir = [] ∧ Frame [.xbr, .mem, .gvl, .mbx, .posted, .mgt, .fresh] s t) ∧
  (∀ (s : State), s.gvl.st = .active → exec (.gvlCtlPrst) s = .next (gvlDown 9 s)) ∧
  (∀ (s : State) (cause : Nat), let t := gvlDown cause s
    t.gvl.st = .down ∧ t.gvl.cause = BitVec.ofNat 4 cause ∧ t.gvl.cache = [] ∧ t.gvl.dir = [] ∧ bitAt (t.gvl.err.setWidth 32) 0 = true ∧ t.gvl.reads = s.gvl.reads.map (fun r => if r.got.isNone then { r with got := some (5, []) } else r) ∧ Frame [.xbr, .mem, .gvl, .mbx, .posted, .mgt, .fresh] s t) ∧
  (∀ (s : State), s.gvl.st = .active → exec (.gvlCtlRetrain) s = .next (gvlErr 2 (updGvl (fun g => { g with st := .recovery, exclude := none, atWmax := true }) s))) ∧
  (∀ (s : State), s.gvl.st = .down → exec (.gvlCtlRetrain) s = .next (gvlErr 8 s)) ∧
  (∀ (s : State), s.gvl.st = .detect → exec (.gvlReceiverDetect) s = .next (updGvl (fun g => { g with st := .train }) s)) ∧
  (∀ (s : State) (good : W16) (grp : BitVec 2), s.gvl.st = .train → pickGroup s.gvl.wmax good.toNat = some grp → exec (.gvlTrainDone good) s = .next (updGvl (fun g => { g with st := .lock }) (takeGroup grp good s))) ∧
  (∀ (s : State) (good : W16), s.gvl.st = .train → pickGroup s.gvl.wmax good.toNat = none → exec (.gvlTrainDone good) s = .next (gvlDown 4 s)) ∧
  (∀ (wmax : Bool) (n : Nat), n < 65536 → (pickGroup wmax n = some 0 ↔ wmax = false ∧ n = 0xFFFF) ∧ (pickGroup wmax n = some 1 ↔ n % 256 = 255 ∧ (wmax = true ∨ n ≠ 0xFFFF)) ∧ (pickGroup wmax n = some 2 ↔ n / 256 = 255 ∧ n % 256 ≠ 255)) ∧
  (∀ (s : State) (polinv : W16) (rev : Bool), s.gvl.st = .lock → exec (.gvlLockDone polinv rev) s = .next (updGvl (fun g => { g with st := .init, polinv := polinv, rev := rev, initSent := none }) s)) ∧
  (∀ (s : State) (width : Nat) (credits : List Nat) (rtt : Nat), s.gvl.st = .init → width = (if s.gvl.group = 0 then 16 else 8) → exec (.gvlInitReceive 1 width credits rtt) s = .next (updGvl (fun g => { g with credits := (withPos 0 (credits.take 6)).foldl (fun t p => Tab.set 0 t p.1 p.2) [], rtt := satOf 16 rtt, initSent := some (g.initSent.getD 0) }) s)) ∧
  (∀ (s : State) (version : Byte) (width : Nat) (credits : List Nat) (rtt : Nat), s.gvl.st = .init → version ≠ 1 ∨ width ≠ (if s.gvl.group = 0 then 16 else 8) → exec (.gvlInitReceive version width credits rtt) s = .next (gvlDown 5 s)) ∧
  (∀ (s : State), s.gvl.st = .train ∨ s.gvl.st = .lock ∨ s.gvl.st = .init → exec .gvlStateLimitExpiry s = .next (gvlDown 4 s)) ∧
  (∀ (s : State), s.gvl.st = .recovery → exec (.gvlStateLimitExpiry) s = .next (gvlDown 3 s)) ∧
  (∀ (s : State), s.gvl.st = .down → exec .gvlDownRetry s = .next (updGvl (fun g => { g with st := if g.en then .detect else .disabled }) s)) ∧
  (∀ (s : State) (c : RecovCause), s.gvl.st = .active → exec (.gvlRecoveryTrigger c) s = .next (gvlErr 2 (updGvl (fun g => { g with st := .recovery, exclude := match c with | .laneErrors grp => some grp | _ => none, atWmax := match c with | .retrain => true | _ => false }) s))) ∧
  (∀ (s : State) (good : W16) (grp : BitVec 2), s.gvl.st = .recovery → s.gvl.exclude = none → pickGroup (s.gvl.wmax || (s.gvl.group != 0 && !s.gvl.atWmax)) good.toNat = some grp → exec (.gvlRecoveryDone good) s = .next (gvlActive (gvlReplay (takeGroup grp good s)))) ∧
  (∀ (s : State) (good : W16) (hi : Bool), s.gvl.st = .recovery → s.gvl.exclude = some hi → (if hi then good.toNat % 256 ≠ 255 else good.toNat / 256 ≠ 255) → exec (.gvlRecoveryDone good) s = .next (gvlDown 3 s)) ∧
  (∀ (s : State), s.gvl.st ≠ .disabled → s.gvl.st ≠ .down → exec .gvlRefclkLoss s = .next (gvlDown 7 s)) ∧
  (∀ (s : State), s.gvl.st = .active → exec (.gvlNoFlitTimeout) s = .next (gvlDown 6 s)) ∧
  (∀ (s : State) (m : GMsg), s.gvl.st = .active → m.word = 1 ∨ m.word = 2 → exec (.lstateReceive m) s = .next (gvlDown 8 s)) ∧
  (∀ (s : State), s.snuf.wheld = false → ∃ w, gvlActive s = sigState (flushAll w) ∧ w = updGvl (fun g => { g with st := .active, exclude := none, atWmax := false, uncorrRun := 0, replaysSame := 0, initSent := none }) s)

/-- Flits, replay and signals of the Garvy Link. A good DATA flit in order advances the expected SEQ; one out of order is
discarded and owed a NAK; a damaged one is dropped and counted, and the sixteenth uncorrectable one in a row starts a
RECOVERY. A NAK or 2 µs sends every outstanding flit again, and the eighth time starts a RECOVERY. The sender replays first,
then fills a flit; sixteen INIT flits after the own timestamp came back, the link is ACTIVE. At the interval's end the merged
signal goes out. Where the manual leaves a point of these commands open, the clause holds the model's choice (log 57, 95).
Cites R352, R353, R355, R356, R357, R358, R359, R360, R370. -/
def Obligations.GarvyFlitsAndSignals : Prop :=
  (∀ (s : State) (f : GFlit) (corr : Nat), s.gvl.st = .active → f.type = 1 → f.nak = false → f.seq = s.gvl.rxSeq → ∃ t, exec (.gvlFlitReceive f .good corr) s = .next t ∧ t.gvl.rxSeq = s.gvl.rxSeq + 1 ∧ t.gvl.uncorrRun = 0 ∧ Frame Part.posting s t) ∧
  (∀ (s : State) (f : GFlit) (corr : Nat), s.gvl.st = .active → f.type = 1 → f.nak = false → f.ackv = false → f.cvc = 7 → f.seq ≠ s.gvl.rxSeq → exec (.gvlFlitReceive f .good corr) s = .next (updGvl (fun g => { g with corr := satAdd g.corr corr, uncorrRun := 0, nakOwed := true }) s)) ∧
  (∀ (s : State) (f : GFlit) (corr : Nat), s.gvl.st = .active → s.gvl.uncorrRun < 15 → exec (.gvlFlitReceive f .uncorrectable corr) s = .next (updGvl (fun g => { g with dropped := satInc g.dropped, nakOwed := true, uncorrRun := g.uncorrRun + 1 }) s)) ∧
  (∀ (s : State) (f : GFlit) (corr : Nat), s.gvl.st = .active → s.gvl.uncorrRun = 15 → ∃ t, exec (.gvlFlitReceive f .uncorrectable corr) s = .next t ∧ t.gvl.st = .recovery ∧ t.gvl.unacked = s.gvl.unacked ∧ t.gvl.txSeq = s.gvl.txSeq ∧ t.gvl.rxSeq = s.gvl.rxSeq ∧ Frame [.gvl] s t) ∧
  (∀ (s : State), s.gvl.st = .active → s.gvl.unacked ≠ [] → s.gvl.replaysSame < 7 → exec .gvlReplayTimeout s = .next (gvlErr 3 (updGvl (fun g => { g with replay := g.unacked, replays := satInc g.replays, replaysSame := g.replaysSame + 1 }) s))) ∧
  (∀ (s : State), s.gvl.st = .active → s.gvl.unacked ≠ [] → s.gvl.replaysSame = 7 → ∃ t, exec .gvlReplayTimeout s = .next t ∧ t.gvl.st = .recovery ∧ t.gvl.replay = s.gvl.unacked ∧ Frame [.gvl] s t) ∧
  (∀ (s : State) (n : Nat), s.gvl.st = .init → s.gvl.initSent = some n → exec .gvlFlitSend s = .next (if n < 15 then updGvl (fun g => { g with initSent := some (n + 1) }) s else gvlActive s)) ∧
  (∀ (s : State) (f : GTx) (r : List GTx), s.gvl.st = .active → s.gvl.replay = f :: r → ∃ t, exec .gvlFlitSend s = .next t ∧ t.gvl.replay = r ∧ t.gvl.unacked = s.gvl.unacked ∧ t.gvl.txSeq = s.gvl.txSeq ∧ Frame [.gvl] s t) ∧
  (∀ (s : State), s.gvl.st = .active → s.gvl.replay = [] → s.gvl.unacked.length < 512 → let x := fillFlit 15 15 (flitHeader s.clk.aclk s.gvl) []
    exec .gvlFlitSend s = .next (if x.2.2 = 15 then { s with gvl := x.1 } else { s with gvl := { x.1 with txSeq := s.gvl.txSeq + 1, unacked := s.gvl.unacked ++ [{ num := s.gvl.txSeq, msgs := x.2.1 }] } })) ∧
  (∀ (s : State) (v : Nat) (w : W32), Tab.get { isOpen := false, waiting := none } s.gvl.sigs v = { isOpen := true, waiting := some w } → exec (.sigIntervalExpiry v) s = .next (gvlSendSig v w (updGvl (fun g => { g with sigs := Tab.set { isOpen := false, waiting := none } g.sigs v { isOpen := true, waiting := none } }) s))) ∧
  (∀ (s : State) (v : Nat), (Tab.get { isOpen := false, waiting := none } s.gvl.sigs v).waiting = none → exec (.sigIntervalExpiry v) s = .next (updGvl (fun g => { g with sigs := Tab.set { isOpen := false, waiting := none } g.sigs v { isOpen := false, waiting := none } }) s))

/-- The companion's requests through the host window. A read of a block that a window entry of the named context covers answers
DATAB with the block and its stored code; HRDS and HRDX enter the block in the directory as S or X. HWR writes the block when
its code is right or CG asks for one, and a wrong code is refused with BLKFAIL. HWB and HEVX free an X entry, HEVS an S entry.
What no entry covers is refused: a read with UNREACH, a write without effect on memory. HRDR reads the diagnostics window and
HWRR writes the doorbells alone. A read held for 20 µs is answered TIMEOUT. After a withhold, reads are answered WITHHELD and
writes are discarded. Where the manual leaves a point of these commands open, the clause holds the model's choice (log 53, 54,
55).
Cites R268, R270, R363, R364, R368, R371, R373. -/
def Obligations.HostWindowRequests : Prop :=
  (∀ (s : State) (m : GMsg) (rd wr : Bool) (p : Nat), let a := blockOf m * 256
    m.fw = false → (rd = true → admits s (.host m.ctx.toNat) false a = true) → (wr = true → admits s (.host m.ctx.toNat) true a = true) → placeOf s a = some p → placeReady s p = true → storeBase ≤ p ∨ 6 ≤ s.clk.step → s.clk.gateE = false → hostPlace m rd wr s = (s, some p)) ∧
  (∀ (s w : State) (m : GMsg) (p : Nat), s.gvl.st = .active → recalling s (blockOf m) = false → hostPlace { m with opc := 1 } true false s = (w, some p) → exec (.hrd m) s = .next (gvlRsp { gmsg 0x42 with tag := m.tag, ctx := m.ctx, addr := m.addr, word := crc32c (memRead w.mem p 256) ^^^ Tab.get 0 w.mem.codes (p / 256), data := memRead w.mem p 256 } w)) ∧
  (∀ (s w : State) (m : GMsg) (p : Nat), s.gvl.st = .active → recalling s (blockOf m) = false → hostPlace { m with opc := 2 } true false s = (w, some p) → dirGet w (blockOf m) = none → (dirSet w (blockOf m)).length < 16 → exec (.hrds m) s = .next (gvlRsp { gmsg 0x42 with tag := m.tag, ctx := m.ctx, addr := m.addr, word := crc32c (memRead w.mem p 256) ^^^ Tab.get 0 w.mem.codes (p / 256), data := memRead w.mem p 256 } (dirAlloc (blockOf m) .s w))) ∧
  (∀ (s w : State) (m : GMsg) (p : Nat) (e : DirEnt), s.gvl.st = .active → recalling s (blockOf m) = false → hostPlace { m with opc := 3 } true true s = (w, some p) → dirGet w (blockOf m) = some e → exec (.hrdx m) s = .next (gvlRsp { gmsg 0x42 with tag := m.tag, ctx := m.ctx, addr := m.addr, word := crc32c (memRead w.mem p 256) ^^^ Tab.get 0 w.mem.codes (p / 256), data := memRead w.mem p 256 } (dirPut (blockOf m) (some { e with st := .x }) w))) ∧
  (∀ (s w : State) (m : GMsg), s.gvl.st = .active → recalling s (blockOf m) = false → hostPlace { m with opc := 1 } true false s = (w, none) → exec (.hrd m) s = .next (answerStatus 0x42 { m with opc := 1 } 1 (hostRefuse { m with opc := 1 } 1 w))) ∧
  (∀ (s : State) (m : GMsg) (e : DirEnt), s.gvl.st = .active → dirGet s (blockOf m) = some e → e.st = .r → exec (.hrdx m) s = .next (dirPut (blockOf m) (some { e with held := e.held ++ [{ m with opc := 3 }] }) s)) ∧
  (∀ (s w : State) (m : GMsg) (p : Nat), s.gvl.st = .active → recalling s (blockOf m) = false → hostPlace { m with opc := 5 } false true s = (w, some p) → m.cg = true ∨ m.word = crc32c m.data → dirGet w (blockOf m) = none → exec (.hwr m) s = .next { w with mem := storeBytes w.mem p m.data }) ∧
  (∀ (s w : State) (m : GMsg) (p : Nat), s.gvl.st = .active → recalling s (blockOf m) = false → hostPlace { m with opc := 5 } false true s = (w, some p) → m.cg = false → m.word ≠ crc32c m.data → dirGet (hostRefuse { m with opc := 5 } 2 w) (blockOf m) = none → exec (.hwr m) s = .next (hostRefuse { m with opc := 5 } 2 w) ∧ (hostRefuse { m with opc := 5 } 2 w).mem = s.mem) ∧
  (∀ (s w : State) (m : GMsg) (p : Nat) (e : DirEnt), s.gvl.st = .active → recalling s (blockOf m) = false → hostPlace { m with opc := 7 } false true s = (w, some p) → m.word = crc32c m.data → dirGet w (blockOf m) = some e → e.st = .x → exec (.hwb m) s = .next (dirPut (blockOf m) none { w with mem := storeBytes w.mem p m.data })) ∧
  (∀ (s w : State) (m : GMsg) (p : Nat) (e : DirEnt), s.gvl.st = .active → recalling s (blockOf m) = false → hostPlace { m with opc := 8 } true false s = (w, some p) → dirGet w (blockOf m) = some e → exec (.hevx m) s = .next (if e.st = .x then dirPut (blockOf m) none w else w)) ∧
  (∀ (s w : State) (m : GMsg) (p : Nat) (e : DirEnt), s.gvl.st = .active → recalling s (blockOf m) = false → hostPlace { m with opc := 9 } true false s = (w, some p) → dirGet w (blockOf m) = some e → exec (.hevs m) s = .next (if e.st = .s then dirPut (blockOf m) none w else w)) ∧
  (∀ (s t : State) (m : GMsg) (v : W32), s.gvl.st = .active ∨ s.gvl.st = .withheld → m.fw = false → readDiag m.addr.toNat s = some (v, t) → exec (.hrdr m) s = .next (gvlRsp { gmsg 0x41 with tag := m.tag, ctx := m.ctx, addr := m.addr, word := v } t)) ∧
  (∀ (s t : State) (m : GMsg), s.gvl.st = .active → m.fw = false → doorbell m.addr.toNat m.word s = some t → exec (.hwrr m) s = .next t) ∧
  (∀ (s : State) (m : GMsg), s.gvl.st = .active → m.fw = false → doorbell m.addr.toNat m.word s = none → exec (.hwrr m) s = .next (hostRefuse m 1 s)) ∧
  (∀ (s : State) (tag : BitVec 12) (k : Nat) (e : DirEnt) (m : GMsg), let isIt := fun m : GMsg => m.tag == tag && decide (m.opc.toNat ≤ 3)
    s.gvl.dir.findSome? (fun p => p.2.bind (fun e => (e.held.find? isIt).map (fun m => (p.1, e, m)))) = some (k, e, m) → exec (.hostReadTimeout tag) s = .next (answerStatus 0x42 m 3 (dirPut k (some { e with held := e.held.filter (fun x => !isIt x) }) s))) ∧
  (∀ (s : State) (m : GMsg), s.gvl.st = .withheld → exec (.hrd m) s = .next (answerStatus 0x42 { m with opc := 1 } 4 s) ∧ exec (.hrds m) s = .next (answerStatus 0x42 { m with opc := 2 } 4 s) ∧ exec (.hrdx m) s = .next (answerStatus 0x42 { m with opc := 3 } 4 s) ∧ exec (.hwr m) s = .next s ∧ exec (.hwrr m) s = .next s ∧ exec (.hwb m) s = .next s ∧ exec (.hevx m) s = .next s ∧ exec (.hevs m) s = .next s)

/-- Recalls, poisoned blocks and the link cache. SACK ends the recall of its tag; SDATA writes the modified block first unless the
device writes the block, and a wrong code poisons it. A snoop unanswered for 100 µs poisons the block, frees the entry and
lets the device access go on. FLUSH empties the link cache; SNPINV is answered with SACK and drops the line; data that comes
is delivered, and installed only when good and not crossed by an SNPINV; a read unanswered for 50 µs ends with TIMEOUT. Where
the manual leaves a point of these commands open, the clause holds the model's choice (log 55, 56).
Cites R364, R366, R367, R368, R369, R375. -/
def Obligations.DirectoryAndLinkCache : Prop :=
  (∀ (s : State), exec .gvlCacheFlush s = .next (updGvl (fun g => { g with cache := [] }) s)) ∧
  (∀ (s : State) (m : GMsg), s.gvl.st = .active ∨ s.gvl.st = .withheld → let line := (m.addr.toNat - 0x8000000000000) / 64
    exec (.snpinvReceive m) s = .next (updGvl (fun g => { g with cache := g.cache.filter (fun c => c.1 != line), reads := g.reads.map (fun r => if r.line == line then { r with once := true } else r), qSrsp := g.qSrsp ++ [{ gmsg 0x31 with tag := m.tag, addr := m.addr }] }) s)) ∧
  (∀ (s : State) (m : GMsg) (r : DRead), s.gvl.st = .active → s.gvl.reads.find? (fun r => r.tag == m.tag && r.got.isNone) = some r → let t := updGvl (fun g => { g with reads := g.reads.map (fun x => if x == r then { x with got := some (m.status, m.data) } else x) }) s
    exec (.datalReceive m) s = .next (if m.status = 0 ∧ r.once = false then installLine r.line m.data t else t)) ∧
  (∀ (s : State) (line : Nat) (d : List Byte), (∀ c ∈ s.gvl.cache, c.1 ≠ line) → (s.gvl.cache.filter (fun c => c.1 % 2048 == line % 2048)).length < 8 → installLine line d s = updGvl (fun g => { g with cache := g.cache ++ [(line, d)] }) s) ∧
  (∀ (s : State) (tag : BitVec 12), s.gvl.reads.any (fun r => r.tag == tag && r.got.isNone) = true → exec (.deviceReadTimeout tag) s = .next (gvlErr 6 (updGvl (fun g => { g with reads := g.reads.map (fun x => if x.tag == tag && x.got.isNone then { x with got := some (3, []) } else x) }) s))) ∧
  (∀ (s : State) (m : GMsg) (k : Nat) (e : DirEnt), s.gvl.st = .active → recallOf s m.tag = some (k, e) → exec (.sackReceive m) s = .next (recallEnd k e false s)) ∧
  (∀ (s : State) (k : Nat) (e : DirEnt) (free : Bool), e.held = [] → (e.why ≠ .read ∨ free = true → recallEnd k e free s = settleWindows (runWrites e.writes (dirPut k none s))) ∧ (e.why = .read → free = false → e.writes = [] → recallEnd k e free s = settleWindows (dirPut k (some { e with st := .s, held := [], writes := [] }) s))) ∧
  (∀ (s : State) (m : GMsg) (k : Nat) (e : DirEnt) (p : Nat), s.gvl.st = .active → recallOf s m.tag = some (k, e) → m.word = crc32c m.data → e.why ≠ .write → placeOf s (k * 256) = some p → exec (.sdataReceive m) s = .next (recallEnd k e false { s with mem := storeBytes s.mem p m.data })) ∧
  (∀ (s : State) (m : GMsg) (k : Nat) (e : DirEnt), s.gvl.st = .active → recallOf s m.tag = some (k, e) → (m.word = crc32c m.data → e.why = .write → exec (.sdataReceive m) s = .next (recallEnd k e false s)) ∧ (m.word ≠ crc32c m.data → exec (.sdataReceive m) s = .next (recallEnd k e true (hostRefuse m 2 (poisonHost k s))))) ∧
  (∀ (s : State) (k : Nat) (e : DirEnt), dirGet s k = some e → e.st = .r → exec (.snoopTimeout k) s = .next (recallEnd k e true (updGvl (fun g => { g with snptmo := satInc g.snptmo }) (poisonHost k s)))) ∧
  (∀ (s : State) (k p : Nat), placeOf s (k * 256) = some p → p % 256 = 0 → (∀ i, i < 256 → memGet (poisonHost k s).mem (p + i) = 0) ∧ Tab.get 0 (poisonHost k s).mem.codes (p / 256) = 0xFFFFFFFF ∧ (poisonHost k s).gvl.poisoned = satInc s.gvl.poisoned ∧ (poisonHost k s).gvl.err = setBit s.gvl.err 5 ∧ Frame [.mem, .gvl, .mbx, .posted, .mgt] s (poisonHost k s))

/-- Raising, limiting and sending embers. Before the presence starts, no ember is raised. A key's first ember opens its window, up
to MGT_CFG.RATE of them are delivered within it and more are counted; withheld and fatal ones are always delivered. The
window's close delivers a summary with the count. A delivered ember takes the next SEQ, goes to the log unless the package has
withheld, and to both queues; what a full queue drops is the oldest of the least severe kinds. One message is outstanding to
the receiver, sent three times at most. The SGMII link and the I3C address follow their events. Where the manual leaves a
point of these commands open, the clause holds the model's choice (log 19, 32, 62).
Cites R500, R503, R504, R506, R507, R508, R509. -/
def Obligations.EmbersAndManagementQueues : Prop :=
  (∀ (s : State) (e : EmberReq), s.mgt.started = false → exec (.emberRaise e) s = .next (s)) ∧
  (∀ (s : State) (e : EmberReq), s.mgt.started = true → 3 ≤ e.sev.toNat → exec (.emberRaise e) s = .next (deliverEmber (formEmber s e) s)) ∧
  (∀ (s : State) (e : EmberReq), s.mgt.started = true → e.sev.toNat < 3 → findWin (some (e.code, e.srcidx, e.ctxid)) s.mgt.wins = none → (s.mgt.wins.filter (fun w => w.key.isSome)).length < 256 →
    exec (.emberRaise e) s = .next (deliverEmber (formEmber s e) { s with mgt := { s.mgt with wins := s.mgt.wins ++ [{ key := some (e.code, e.srcidx, e.ctxid), delivered := 1, suppressed := 0, last := none }] } })) ∧
  (∀ (s : State) (e : EmberReq) (w : RateWin), s.mgt.started = true → e.sev.toNat < 3 → findWin (some (e.code, e.srcidx, e.ctxid)) s.mgt.wins = some w → s.mgt.rate.toNat ≤ w.delivered →
    exec (.emberRaise e) s = .next { s with mgt := { s.mgt with wins := updIf (fun x => x.key == some (e.code, e.srcidx, e.ctxid)) (fun x => { x with suppressed := x.suppressed + 1, last := some (formEmber s e) }) s.mgt.wins, suppressed := satInc s.mgt.suppressed, suppr := true } }) ∧
  (∀ (s : State) (k : Option (W16 × W16 × Option W16)) (w : RateWin) (e : Ember), findWin k s.mgt.wins = some w → w.last = some e → w.suppressed ≠ 0 → let t := { s with mgt := { s.mgt with wins := s.mgt.wins.filter (fun x => x.key != k) } }
    exec (.rateWindowClose k) s = .next (deliverEmber (summaryOf t w e) t) ∧ (summaryOf t w e).summary = true ∧ (summaryOf t w e).arg0 = BitVec.ofNat 32 w.suppressed ∧ (summaryOf t w e).localt = e.localt) ∧
  (∀ (s : State) (e : Ember), let t := deliverEmber e s
    t.mgt.nextSeq = s.mgt.nextSeq + 1 ∧ (s.snuf.wheld = true → t.mgt.log = s.mgt.log ∧ t.mbx = s.mbx) ∧ (s.snuf.wheld = false → t.mgt.log = lastN 65536 (s.mgt.log ++ [{ e with num := s.mgt.nextSeq }])) ∧ t.mgt.bus.queue = (queueEmber { e with num := s.mgt.nextSeq } s.mgt.bus.queue).1 ∧ t.mgt.udp.queue = (queueEmber { e with num := s.mgt.nextSeq } s.mgt.udp.queue).1) ∧
  (∀ (e : Ember) (q : List Ember), (q.length < 1024 → queueEmber e q = (q ++ [e], false)) ∧ (1024 ≤ q.length → (∀ x ∈ q ++ [e], 3 ≤ x.sev.toNat) → queueEmber e q = (q ++ [e], false)) ∧ (1024 ≤ q.length → (∃ x ∈ q ++ [e], x.sev.toNat < 3) → (queueEmber e q).2 = true ∧ (queueEmber e q).1.length = q.length)) ∧
  (∀ (s : State) (p : Path) (e : Ember) (q : List Ember) (r : Byte), pathAlive s p = true → (getPath s p).queue = e :: q → (getPath s p).receiver = some r → (getPath s p).out = none → (getPath s p).dropped = 0 → exec (.platformEventSend p) s = .next (updPath p (fun x => { x with queue := q, out := some (e, r, 1) }) s)) ∧
  (∀ (s : State) (p : Path) (ok : Bool), pathAlive s p = true → exec (.platformEventResponse p ok) s = .next (updPath p (fun x => { x with out := none }) s)) ∧
  (∀ (s : State) (p : Path) (e : Ember) (r : Byte) (n : Nat), pathAlive s p = true → (getPath s p).out = some (e, r, n) → (n < 3 → exec (.platformEventTimeout p) s = .next (updPath p (fun x => { x with out := some (e, r, n + 1) }) s)) ∧ (3 ≤ n → e.sev.toNat < 3 → ∃ t, exec (.platformEventTimeout p) s = .next t ∧ (getPath t p).out = none ∧ t.mgt.droppedCnt = satInc s.mgt.droppedCnt ∧ t.mgt.qovf = true ∧ Frame Part.posting s t)) ∧
  (∀ (s : State) (up : Bool), s.mgt.started = true → s.mgt.sgmiiEn = true → exec (.sgmiiLinkChange up) s = .next ({ s with mgt := { s.mgt with link := up } })) ∧
  (∀ (s : State) (a : Byte), s.mgt.started = true → s.mgt.i3c = true → exec (.i3cDynamicAddress a) s = .next ({ s with mgt := { s.mgt with i3cAddr := a.setWidth 7 } }))

/-- The MCTP and PLDM commands are answered as listed. While a path answers, each supported command is answered on that path: the
endpoint ID, the first 16 bytes of IDDIGEST, the message types 0x00 and 0x01, the PLDM types 0 and 2, the 85 sensor records,
the sensors' readings and the thresholds of their records; setting the endpoint ID or the event receiver changes that path
alone. An unsupported PLDM command is answered with the error code and a message of an unsupported type is dropped. Which
numbers stand for versions and commands is log 33's choice; the terminus ID is a free value (log 9).
Cites R288, R500, R502, R509, R510, R513. -/
def Obligations.MctpAndPldmCommands : Prop :=
  (∀ (s : State) (p : Path) (op eid : Byte), pathAlive s p = true → op.toNat ≤ 1 → eid ≠ 0 → eid ≠ 0xFF → exec (.setEndpointId p op eid) s = .next (updPath p (fun x => { x with resp := x.resp ++ [{ op := .setEid, ok := true, data := [eid] }] }) (updPath p (fun x => { x with eid := eid }) s))) ∧
  (∀ (s : State) (p : Path), pathAlive s p = true → exec (.getEndpointId p) s = .next (updPath p (fun x => { x with resp := x.resp ++ [{ op := .getEid, ok := true, data := [(getPath s p).eid] }] }) (s))) ∧
  (∀ (s : State) (p : Path), pathAlive s p = true → exec (.getEndpointUuid p) s = .next (updPath p (fun x => { x with resp := x.resp ++ [{ op := .getUuid, ok := true, data := (digBytes s.sec.iddigest).take 16 }] }) (s))) ∧
  (∀ (s : State) (p : Path), pathAlive s p = true → exec (.getMctpVersionSupport p 0x00) s = .next (updPath p (fun x => { x with resp := x.resp ++ [{ op := .getVersion, ok := true, data := [1, 3] }] }) (s))) ∧
  (∀ (s : State) (p : Path), pathAlive s p = true → exec (.getMessageTypeSupport p) s = .next (updPath p (fun x => { x with resp := x.resp ++ [{ op := .getTypes, ok := true, data := [0x00, 0x01] }] }) (s))) ∧
  (∀ (s : State) (p : Path), pathAlive s p = true → ∃ b t, exec (.getTid p) s = .next t ∧ t = updPath p (fun x => { x with resp := x.resp ++ [{ op := .getTid, ok := true, data := [b] }] }) ({ s with fresh := t.fresh })) ∧
  (∀ (s : State) (p : Path), pathAlive s p = true → exec (.getPldmVersion p 2) s = .next (updPath p (fun x => { x with resp := x.resp ++ [{ op := .pldmVersion, ok := true, data := [1, 2] }] }) (s))) ∧
  (∀ (s : State) (p : Path), pathAlive s p = true → exec (.getPldmTypes p) s = .next (updPath p (fun x => { x with resp := x.resp ++ [{ op := .pldmTypes, ok := true, data := [0, 2] }] }) (s))) ∧
  (∀ (s : State) (p : Path) (type : Byte), pathAlive s p = true → type ≠ 0 → type ≠ 2 → exec (.getPldmCommands p type) s = .next (updPath p (fun x => { x with resp := x.resp ++ [{ op := .pldmCommands, ok := false, data := [] }] }) (s))) ∧
  (∀ (s : State) (p : Path), pathAlive s p = true → exec (.getPldmCommands p 0) s = .next (updPath p (fun x => { x with resp := x.resp ++ [{ op := .pldmCommands, ok := true, data := [0x02, 0x03, 0x04, 0x05] }] }) (s))) ∧
  (∀ (s : State) (p : Path) (enable eid : Byte), pathAlive s p = true → exec (.setEventReceiver p enable eid) s = .next (updPath p (fun x => { x with resp := x.resp ++ [{ op := .setReceiver, ok := true, data := [] }] }) (updPath p (fun x => { x with receiver := if enable = 0 then none else some eid }) s))) ∧
  (∀ (s : State) (p : Path), pathAlive s p = true → exec (.getPdrRepositoryInfo p) s = .next (updPath p (fun x => { x with resp := x.resp ++ [{ op := .repoInfo, ok := true, data := leBytes 4 85 }] }) (s))) ∧
  (∀ (s : State) (p : Path) (n : W32), pathAlive s p = true → isNumeric n.toNat = true ∨ isStateSensor n.toNat = true → exec (.getPdr p n) s = .next (updPath p (fun x => { x with resp := x.resp ++ [{ op := .pdr, ok := true, data := leBytes 2 n.toNat ++ (thresholds s n.toNat).flatMap (leBytes 2) }] }) (s))) ∧
  (∀ (s : State) (p : Path) (n : W16), pathAlive s p = true → isNumeric n.toNat = true → exec (.getSensorReading p n) s = .next (updPath p (fun x => { x with resp := x.resp ++ [{ op := .sensor, ok := true, data := leBytes 2 (BitVec.ofInt 16 (numReading s n.toNat)).toNat }] }) (s))) ∧
  (∀ (s : State) (p : Path) (n : W16), pathAlive s p = true → isStateSensor n.toNat = true → exec (.getStateSensorReadings p n) s = .next (updPath p (fun x => { x with resp := x.resp ++ [{ op := .stateSensor, ok := true, data := leBytes 1 (stateReading s n.toNat) }] }) (s))) ∧
  (∀ (s : State), stateReading s 100 = (if s.snuf.wheld then 2 else 1) ∧ stateReading s 117 = s.gvl.st.code ∧ stateReading s 118 = s.twin.st.code ∧ (∀ i, i < 16 → stateReading s (101 + i) = (getLink s (2 * i)).st.code) ∧ numReading s 65 = s.pwr.meas ∧ numReading s 66 = s.pwr.level.toNat ∧ thresholds s 33 = [930 + 5 * s.clk.warn.toNat, 900] ∧ thresholds s 32 = [s.pwr.set.toNat, 105] ∧ thresholds s 65 = [s.pwr.limit.toNat] ∧ thresholds s 57 = []) ∧
  (∀ (s : State) (p : Path) (type cmd : Byte), pathAlive s p = true → exec (.pldmUnsupportedCommand p type cmd) s = .next (updPath p (fun x => { x with resp := x.resp ++ [{ op := .unsupported, ok := false, data := [] }] }) (s))) ∧
  (∀ (s : State) (p : Path), exec (.mctpUnsupportedMessage p) s = .next s)

/-- Writes of registers without a command of their own, and the two reads that change state. A W1C flag register loses the bits
written 1 and keeps the others. A field out of range takes the nearest value in range or is ignored, as its register says; a
register read only in a state takes no write there, and a refused write sets the unit's flag where it has one. A SEC_ register
written by firmware is a security violation. The host's writes reach the ring table base alone. Reading a counter's low word
latches its high word, and reading GVL_HERR clears its count. Where the manual leaves a point of these commands open, the
clause holds the model's choice (log 51, 53, 121, 127).
Cites R5, R59, R71, R268, R273, R288, R329, R376, R397, R473, R475, R534. -/
def Obligations.RegisterWritesAndReads : Prop :=
  (∀ (s : State) (v : W32) (l : Lan) (w : PWick), exec (.registerWrite .firmware (.wckStat l w) v) s = .next (updWick l.val w.val (fun x => { x with stat := w1c x.stat (v.setWidth 8) }) s)) ∧
  (∀ (v : W32) (f : BitVec 8) (i : Nat), i < 8 → (w1c f (v.setWidth 8)).getLsbD i = (f.getLsbD i && !v.getLsbD i)) ∧
  (∀ (s : State) (v : W32) (l : Lan), exec (.registerWrite .firmware (.lntStat l) v) s = .next (updLan l.val (fun x => { x with stat := w1c x.stat (v.setWidth 6) }) s)) ∧
  (∀ (s : State) (v : W32) (l : Lan), exec (.registerWrite .firmware (.vecStat l) v) s = .next (updEng l.val (fun e => { e with stat := w1c e.stat (v.setWidth 6) }) s)) ∧
  (∀ (s : State) (v : W32) (l : Lan), exec (.registerWrite .firmware (.calStat l) v) s = .next (updLan l.val (fun x => { x with calStat := w1c x.calStat (v.setWidth 7) }) s)) ∧
  (∀ (s : State) (v : W32) (l : Lan), exec (.registerWrite .firmware (.chkStat l) v) s = .next (updLan l.val (fun x => { x with chkStat := w1c x.chkStat (v.setWidth 6) }) s)) ∧
  (∀ (s : State) (v : W32), exec (.registerWrite .firmware .chkDstat v) s = .next ({ s with chk := { s.chk with dstat := w1c s.chk.dstat (v.setWidth 5) } })) ∧
  (∀ (s : State) (v : W32), exec (.registerWrite .firmware .lmpStat v) s = .next ({ s with lmp := { s.lmp with stat := w1c s.lmp.stat (v.setWidth 5) } })) ∧
  (∀ (s : State) (v : W32), exec (.registerWrite .firmware .xbrStat v) s = .next ({ s with xbr := { s.xbr with stat := w1c s.xbr.stat (v.setWidth 3) } })) ∧
  (∀ (s : State) (v : W32) (n : Sconce), exec (.registerWrite .firmware (.stkStat n) v) s = .next (updStk n.val (fun x => { x with stat := w1c x.stat (v.setWidth 4) }) s)) ∧
  (∀ (s : State) (v : W32) (p : PortI), exec (.registerWrite .firmware (.fabStat p) v) s = .next (updPort p.val (fun x => { x with stat := w1c x.stat (v.setWidth 6) }) s)) ∧
  (∀ (s : State) (v : W32), exec (.registerWrite .firmware .gvlErr v) s = .next (updGvl (fun g => { g with err := w1c g.err (v.setWidth 9) }) s)) ∧
  (∀ (s : State) (v : W32) (l : Lan) (w : PWick), exec (.registerWrite .firmware (.wckSplit l w) v) s = .next (updWick l.val w.val (fun x => { x with force := if fld v 17 16 = 3 then x.force else BitVec.ofNat 2 (fld v 17 16), l1max := BitVec.ofNat 13 (clampN 2048 6144 (fld v 12 0)) }) s)) ∧
  (∀ (s : State) (v : W32) (l : Lan) (w : PWick), (getWick s l.val w.val).mode = 1 → (getWick s l.val w.val).st ≠ .service → exec (.registerWrite .firmware (.wckLookup l w) v) s = .next (updWick l.val w.val (fun x => { x with keybits := BitVec.ofNat 11 (min 1024 (fld v 26 16)), matchT := BitVec.ofNat 9 (fld v 8 0) }) s)) ∧
  (∀ (s : State) (v : W32) (l : Lan) (w : PWick), (getWick s l.val w.val).st = .service → exec (.registerWrite .firmware (.wckLookup l w) v) s = .next (updWick l.val w.val (fun x => { x with stat := setBit x.stat 6 }) s)) ∧
  (∀ (s : State) (v : W32) (l : Lan) (n : Fin 3), (getLan s l.val).st = .service → exec (.registerWrite .firmware (.lntMap l n) v) s = .next (updLan l.val (fun x => x) s)) ∧
  (∀ (s : State) (v : W32) (l : Lan) (w : PWick) (g : Fin 4), exec (.registerWrite .firmware (.chkBand l w g) v) s = .next (updWick l.val w.val (fun x => { x with bandP := x.bandP.set g.val (BitVec.ofNat 12 (max 4 (fld v 11 0))), bandI := x.bandI.set g.val (BitVec.ofNat 16 (max 64 (fld v 31 16))) }) s)) ∧
  (∀ (s : State) (v : W32) (l : Lan), exec (.registerWrite .firmware (.chkSubst l) v) s = .next (updLan l.val (fun x => { x with subst := v.setWidth 16 }) s)) ∧
  (∀ (s : State) (v : W32), exec (.registerWrite .firmware .pwrTherm v) s = .next ({ s with pwr := { s.pwr with set := BitVec.ofNat 8 (clampN 80 100 (fld v 7 0)) } })) ∧
  (∀ (s : State) (v : W32) (d : DiodeI), s.lmp.en = true → exec (.registerWrite .firmware (.monDtab d) v) s = .next (s)) ∧
  (∀ (s : State) (v : W32) (n : Sconce), exec (.registerWrite .firmware (.stkPatrol n) v) s = .next (updStk n.val (fun x => { x with period := BitVec.ofNat 8 (clampN 1 168 (fld v 23 16)) }) s)) ∧
  (∀ (s : State) (v : W32), exec (.registerWrite .firmware .clkSupcfg v) s = .next ({ s with clk := { s.clk with warn := BitVec.ofNat 4 (min 8 (fld v 3 0)) } })) ∧
  (∀ (s : State) (v : W32) (c : CtxI) (e : Fin 32), trackedUnder s (Tab.get 0 s.xbr.windows (c.val * 32 + e.val)) = [] → (∀ p ∈ s.xbr.winNext, p.1 ≠ c.val * 32 + e.val) → let old := (Tab.get 0 s.xbr.windows (c.val * 32 + e.val)).toNat
    exec (.registerWrite .firmware (.xbrWindow c e 0) v) s = .next ({ s with xbr := { s.xbr with windows := Tab.set 0 s.xbr.windows (c.val * 32 + e.val) (BitVec.ofNat 128 (old - old % 2 ^ 32 + v.toNat)) } })) ∧
  (∀ (s : State) (v : W32), exec (.registerWrite .firmware .fabMyid v) s = .next ({ s with fab := { s.fab with myidV := bitAt v 31, myid := BitVec.ofNat 12 (fld v 11 0) } })) ∧
  (∀ (s : State) (v : W32), exec (.registerWrite .firmware .fabWrr v) s = .next ({ s with fab := { s.fab with w0 := BitVec.ofNat 4 (max 1 (fld v 3 0)), w1 := BitVec.ofNat 4 (max 1 (fld v 7 4)), w2 := BitVec.ofNat 4 (max 1 (fld v 11 8)), w5 := BitVec.ofNat 4 (max 1 (fld v 15 12)) } })) ∧
  (∀ (s : State) (v : W32) (b : Fin 2) (d : Fin 4096), (b.val == 1) = s.fab.bank → exec (.registerWrite .firmware (.fabRt b d) v) s = .next (fabStat 0 5 s)) ∧
  (∀ (s : State) (v : W32) (b : Fin 2) (d : Fin 4096), (b.val == 1) ≠ s.fab.bank → exec (.registerWrite .firmware (.fabRt b d) v) s = .next ({ s with fab := { s.fab with routes := Tab.set Route.init s.fab.routes ((if b.val == 1 then 4096 else 0) + d.val) { pv := bitAt v 31, plink := Fin.ofNat 32 (fld v 28 24), av := bitAt v 23, alink := Fin.ofNat 32 (fld v 20 16) } } })) ∧
  (∀ (s : State) (v : W32), exec (.registerWrite .firmware .gvlSigmod v) s = .next (updGvl (fun g => { g with sigIval := BitVec.ofNat 10 (min 1000 (fld v 9 0)) }) s)) ∧
  (∀ (s : State) (v : W32), exec (.registerWrite .firmware .mgtCfg v) s = .next ({ s with mgt := { s.mgt with rate := BitVec.ofNat 8 (max 1 (fld v 23 16)) } })) ∧
  (∀ (s : State) (v : W32), exec (.registerWrite .firmware .readOnly v) s = .next (s)) ∧
  (∀ (s : State) (v : W32), exec (.registerWrite .keeper .secViol v) s = .next ({ s with sec := { s.sec with viol := w1c s.sec.viol (v.setWidth 5) } })) ∧
  (∀ (s : State) (v : W32), exec (.registerWrite .firmware .secViol v) s = .next (violate 2 s)) ∧
  (∀ (s : State) (v : W32), exec (.registerWrite .host .mbxRtbaseLo v) s = .next (rtbaseWrite false v s)) ∧
  (∀ (s : State) (v : W32) (r : Reg), r ≠ .mbxRtbaseLo → r ≠ .mbxRtbaseHi → exec (.registerWrite .host r v) s = .next (s)) ∧
  (∀ (s : State) (l : Lan) (w : PWick), exec (.counterLoRead (.wckSteps l w)) s = .next (updWick l.val w.val (fun x => { x with steps := x.steps.latchHi }) s) ∧ exec (.counterLoRead (.lntFlares l)) s = .next (updLan l.val (fun v => { v with flares := v.flares.latchHi }) s) ∧ exec (.counterLoRead (.vecIssue l)) s = .next (updEng l.val (fun e => { e with issue := e.issue.latchHi }) s) ∧ exec (.counterLoRead (.chkWaud l w)) s = .next (updWick l.val w.val (fun x => { x with waud := x.waud.latchHi }) s) ∧ exec (.counterLoRead .lmpFlicker) s = .next { s with lmp := { s.lmp with flicker := s.lmp.flicker.latchHi } } ∧ exec (.counterLoRead .clkLtime) s = .next { s with clk := { s.clk with ltLatch := BitVec.ofNat 32 ((ltime s).toNat / 2 ^ 32) } }) ∧
  (∀ (s : State), exec .gvlHerrRead s = .next { s with gvl := { s.gvl with herrCount := 0 } })

/-- A step runs the command at the front of the queue. Where a command stands at the front of the queue, a step is that command on
the state with the queue's rest; on an empty queue the block idles (the model's choice, log 1).
Cites R379. -/
def Obligations.StepRunsTheFrontCommand : Prop :=
  (∀ (s : State) (c : Sys2Proof.Instr) (rest : List Sys2Proof.Instr), step { s with pending := c :: rest } = exec c { s with pending := rest }) ∧
  (∀ s : State, s.pending = [] → step s = .next s)

/-- Registers at reset. Read at reset, every register of the die control window, of a lantern's window and of a wick's block to
which the manual gives one reset value reads as that value, at its address.
Cites R61, R121, R150, R180, R181, R212, R213, R250, R251, R294, R376, R396. -/
def Obligations.ResetRegisters : Prop :=
  (∀ p ∈ ([(0x0, 0x1000000), (0x4, 0xC80080), (0x8, 0x0), (0xC, 0x0), (0x10, 0x0), (0x18, 0x0), (0x100, 0x0), (0x104, 0x0), (0x108, 0x0), (0x10C, 0x0), (0x800, 0x3B6), (0x804, 0xDC017C), (0x808, 0xA00064), (0x80C, 0x280032), (0x810, 0x8638884), (0x814, 0x10), (0x818, 0x5C), (0x81C, 0x202808), (0x820, 0x0), (0x824, 0x0), (0x840, 0x0), (0x880, 0x0), (0x1000, 0x0), (0x1004, 0x100), (0x1008, 0x0), (0x1180, 0x0), (0x1800, 0xC80F777), (0x1900, 0x0), (0x2000, 0x0), (0x2004, 0x0)] : List (Nat × W32)), (readReg (dieWinBase + p.1) State.reset).map (fun r => r.1) = some p.2) ∧
  (∀ p ∈ ([(0x2008, 0x0), (0x200C, 0x0), (0x2040, 0x0), (0x3000, 0x0), (0x3004, 0x0), (0x4000, 0x0), (0x4040, 0x80808080), (0x10000, 0x80000000), (0x10010, 0x0), (0x10020, 0x0), (0x10050, 0x4), (0x10054, 0x0), (0x10058, 0x0), (0x28000, 0x0), (0x28004, 0x0), (0x28008, 0x1483), (0x2800C, 0x0), (0x28010, 0x0), (0x28014, 0x0), (0x28018, 0x0), (0x28100, 0x0), (0x30000, 0x0), (0x40000, 0x0), (0x40004, 0x0), (0x40008, 0x0), (0x4000C, 0x0), (0x40010, 0x0), (0x40014, 0x0), (0x40018, 0x0), (0x4001C, 0x0)] : List (Nat × W32)), (readReg (dieWinBase + p.1) State.reset).map (fun r => r.1) = some p.2) ∧
  (∀ p ∈ ([(0x40020, 0x0), (0x40024, 0x0), (0x40028, 0x2), (0x4002C, 0x0), (0x50000, 0x1400000), (0x50004, 0x1000100), (0x50008, 0x0), (0x50010, 0x0), (0x50014, 0x0), (0x50018, 0x0), (0x5001C, 0x0), (0x50020, 0x0), (0x54000, 0x0), (0x54004, 0x0), (0x54008, 0x0), (0x5400C, 0x0), (0x54014, 0x0), (0x54018, 0x0), (0x60000, 0x1000000), (0x60004, 0x0), (0x60008, 0x0), (0x6000C, 0x0), (0x60010, 0x0), (0x3008, 0x0), (0x3800, 0x0), (0x70004, 0x0), (0x70008, 0x0), (0x7000C, 0x0), (0x70010, 0x0), (0x70014, 0x0)] : List (Nat × W32)), (readReg (dieWinBase + p.1) State.reset).map (fun r => r.1) = some p.2) ∧
  (∀ p ∈ ([(0x4, 0x0), (0x1C, 0x10), (0x20, 0x0), (0x28, 0x0), (0x2C, 0x0), (0x30, 0x0), (0x38, 0x0), (0x3C, 0x0), (0x40, 0x0), (0x44, 0x0), (0x4004, 0x0), (0x4008, 0xFF), (0x400C, 0x0), (0x4010, 0xC040), (0x4014, 0x0), (0x4018, 0x0), (0x401C, 0x0), (0x4020, 0x0), (0x4028, 0x0), (0x402C, 0x0), (0x5000, 0xC03C0000), (0x5004, 0x5000A), (0x5008, 0x1F0000), (0x500C, 0x0), (0x6000, 0xC), (0x6004, 0x0), (0x6008, 0x0), (0x600C, 0x0), (0x6010, 0x0), (0x6014, 0x0)] : List (Nat × W32)), (readReg (lanWinBase + p.1) State.reset).map (fun r => r.1) = some p.2) ∧
  (∀ p ∈ ([(0x6018, 0x0), (0x6100, 0x4000010), (0x6300, 0x0)] : List (Nat × W32)), (readReg (lanWinBase + p.1) State.reset).map (fun r => r.1) = some p.2) ∧
  (∀ p ∈ ([(0x2004, 0x3), (0x2010, 0x0), (0x2020, 0x1800), (0x2024, 0x0), (0x2028, 0x0), (0x2030, 0x0), (0x2034, 0x0), (0x2038, 0x0), (0x2044, 0x8), (0x2048, 0x0), (0x2050, 0x0), (0x2054, 0x0), (0x2058, 0x4000002)] : List (Nat × W32)), (readReg (lanWinBase + p.1) State.reset).map (fun r => r.1) = some p.2)

/-- The invariant holds at reset. At reset memory is in canonical form (the model's form of memory) and WHELD_N is high, the
package not withholding.
Cites R290, R524. -/
def Obligations.InvariantAtReset : Prop :=
  Inv State.reset ∧ State.reset.snuf.wheld = false ∧ State.reset.clk.wheldLow = false

/-- Every command runs to a next state and leaves the waiting commands alone. For every command and every state, exec answers a
next state, never a fault or a refusal, and the commands that wait are the same after it.
Cites R379, R395. -/
def Obligations.EveryCommandRunsAndKeepsTheQueue : Prop :=
  ∀ (c : Sys2Proof.Instr) (s : State), ∃ t, exec c s = .next t ∧ t.pending = s.pending

/-- Every step keeps the invariant. From every state in which memory is in canonical form and WHELD_N is low while the package
withholds, whatever command is at the front, a step leads to a state of which the same holds.
Cites R261, R266, R524. -/
def Obligations.StepKeepsTheInvariant : Prop :=
  ∀ s t : State, Inv s → step s = .next t → Inv t

/-- A withheld package stays withheld until a reset, with its first cause. From every state in which the package withholds, a step
that is no reset leaves SCN_SNUFFER as it is: withheld, with the first cause and its detail; WHELD_N stays low, and no command
but a reset releases it. A die reset and a power-on reset end both.
Cites R290, R486, R512, R524. -/
def Obligations.WithheldUntilReset : Prop :=
  (∀ (s t : State) (c : Sys2Proof.Instr) (rest : List Sys2Proof.Instr), s.pending = c :: rest → isReset c = false → s.snuf.wheld = true → step s = .next t → t.snuf = s.snuf) ∧
  (∀ (s t : State) (c : Sys2Proof.Instr) (rest : List Sys2Proof.Instr), s.pending = c :: rest → isReset c = false → s.clk.wheldLow = true → step s = .next t → t.clk.wheldLow = true) ∧
  (∀ (s : State) (c : Sys2Proof.Instr), isReset c = true → ∃ t, exec c s = .next t ∧ t.snuf.wheld = false ∧ t.clk.wheldLow = false)

/-- The counter floors never fall, and local time never runs back but at a power-on reset. Whatever command runs, resets among
them, neither the firmware floor nor the configuration floor of the counter falls; and whatever command but a power-on reset
runs, the local clock does not run back.
Cites R279, R459. -/
def Obligations.FloorsAndLocalTimeNeverFall : Prop :=
  (∀ (s t : State), step s = .next t → s.flash.fwFloor.toNat ≤ t.flash.fwFloor.toNat ∧ s.flash.cfgFloor.toNat ≤ t.flash.cfgFloor.toNat) ∧
  (∀ (s t : State) (c : Sys2Proof.Instr) (rest : List Sys2Proof.Instr), s.pending = c :: rest → c ≠ .powerOnReset → step s = .next t → s.clk.aclk ≤ t.clk.aclk)

/-- Every command passes the mailbox layer's checks in their order. Whatever a command does, a withheld package or a command whose
turn has not come changes nothing; a command on a ring that does not take its family ends with DENIED, then one without a
version with NO_VERSION, then one before LMP_CFG.EN with NOT_READY, then a malformed one with BAD_ARG, then one whose input
cannot be read with DMA_FAIL; only one that passes all is carried out, and it has left its ring's fetched commands. That the
ring is looked at before the version is the model's order. Where the manual leaves a point of these commands open, the clause
holds the model's choice (log 97).
Cites R379, R387, R391, R392, R395. -/
def Obligations.MailboxChecksInOrder : Prop :=
  (∀ (s : State) (d : Sys2Proof.Desc) (k : Rings) (early open_ input : Bool) (body : State → State), s.snuf.wheld = true ∨ cmdWaits s d = true → runCmd d k early open_ input body s = s) ∧
  (∀ (s : State) (d : Sys2Proof.Desc) (k : Rings) (early open_ input : Bool) (body : State → State), s.snuf.wheld = false → cmdWaits s d = false → k.ok d.ring.val = false → runCmd d k early open_ input body s = finish d 6 (dequeue d s)) ∧
  (∀ (s : State) (d : Sys2Proof.Desc) (k : Rings) (early open_ input : Bool) (body : State → State), s.snuf.wheld = false → cmdWaits s d = false → k.ok d.ring.val = true → early = false → s.mbx.curver = 0 → runCmd d k early open_ input body s = finish d 0x11 (dequeue d s)) ∧
  (∀ (s : State) (d : Sys2Proof.Desc) (k : Rings) (early open_ input : Bool) (body : State → State), s.snuf.wheld = false → cmdWaits s d = false → k.ok d.ring.val = true → early = true ∨ s.mbx.curver ≠ 0 → open_ = false → s.lmp.en = false → runCmd d k early open_ input body s = finish d 0x12 (dequeue d s)) ∧
  (∀ (s : State) (d : Sys2Proof.Desc) (k : Rings) (early open_ input : Bool) (body : State → State), s.snuf.wheld = false → cmdWaits s d = false → k.ok d.ring.val = true → early = true ∨ s.mbx.curver ≠ 0 → open_ = true ∨ s.lmp.en = true → d.malformed = true ∨ (d.tmo = true ∧ (d.timeout = 0 ∨ 600000 < d.timeout.toNat)) → runCmd d k early open_ input body s = finish d 7 (dequeue d s)) ∧
  (∀ (s : State) (d : Sys2Proof.Desc) (k : Rings) (early open_ input : Bool) (body : State → State), s.snuf.wheld = false → cmdWaits s d = false → k.ok d.ring.val = true → early = true ∨ s.mbx.curver ≠ 0 → open_ = true ∨ s.lmp.en = true → d.malformed = false → (d.tmo = true → d.timeout ≠ 0 ∧ d.timeout.toNat ≤ 600000) → input = true → d.inlen ≠ 0 → d.inOk = false → runCmd d k early open_ input body s = finish d 0x14 (dequeue d s)) ∧
  (∀ (s : State) (d : Sys2Proof.Desc) (k : Rings) (early open_ input : Bool) (body : State → State), accepted k early open_ input d s = true → cmdWaits s d = false → runCmd d k early open_ input body s = body (dequeue d s))

/-- A command ends with one completion, written at its ring's tail or held. Where the ring runs and the Garvy Link is up, ending a
command writes exactly one entry, at BASE + (tail mod 2^CQLOG2) × 64, with the phase, the ring's SQHEAD and the local time of
that moment and the command's CMDTAG, OPCODE, status and results; the tail advances by one. Where the link is down or the ring
OFF it is held, in order, and nothing is written. The command leaves the commands in progress. A withheld package posts none
of them. An entry's 64 bytes have the layout the manual gives. Where the manual leaves a point of these commands open, the
clause holds the model's choice (log 99).
Cites R379, R383, R385, R389, R390. -/
def Obligations.CompletionsArePostedOnce : Prop :=
  (∀ (s : State) (d : Sys2Proof.Desc) (st : W16) (used : Nat) (res : List W32), s.snuf.wheld = false → ringHeld s d.ring.val = false → ∃ t, complete d st used res s = t ∧ (let g := getRing s d.ring.val
      t.posted = s.posted ++ [{ ring := d.ring, addr := g.cqbase + BitVec.ofNat 64 (g.cqtail.toNat % 2 ^ g.cqlog2.toNat * 64), phase := decide (g.cqtail.toNat / 2 ^ g.cqlog2.toNat % 2 = 1), sqhead := g.sqhead, localt := ltime s, cpl := { tag := d.tag, status := st, kind := 1, opcode := d.opcode, outused := BitVec.ofNat 32 used, result := res } }] ∧
      getRing t d.ring.val = { g with cqtail := g.cqtail + 1, prog := g.prog.erase d }) ∧ Frame [.gvl, .mbx, .posted] s t) ∧
  (∀ (s : State) (d : Sys2Proof.Desc) (st : W16) (used : Nat) (res : List W32), s.snuf.wheld = false → ringHeld s d.ring.val = true → complete d st used res s = updRing d.ring.val (fun g => { g with heldCpl := g.heldCpl ++ [cplOf d st used res], prog := g.prog.erase d }) s) ∧
  (∀ (s : State) (d : Sys2Proof.Desc) (st : W16) (used : Nat) (res : List W32), s.snuf.wheld = true → complete d st used res s = dropProg d s) ∧
  (∀ p : Posted, p.bytes.length = 64 ∧ p.bytes.take 8 = leBytes 8 p.cpl.tag.toNat ∧ (p.bytes.drop 8).take 2 = leBytes 2 p.cpl.status.toNat ∧ p.bytes[10]? = some p.cpl.kind ∧ p.bytes[11]? = some (if p.phase then 1 else 0) ∧ (p.bytes.drop 12).take 2 = leBytes 2 p.cpl.opcode.toNat ∧ p.bytes[14]? = some (BitVec.ofNat 8 p.ring.val) ∧ p.bytes[15]? = some 0 ∧ (p.bytes.drop 16).take 4 = leBytes 4 p.sqhead.toNat ∧ (p.bytes.drop 20).take 4 = leBytes 4 p.cpl.outused.toNat ∧ (p.bytes.drop 24).take 8 = leBytes 8 p.localt.toNat)

/-- Memory reads back what is written and nothing else changes. A producer's write of bytes at an address is read back whole,
every byte outside it is as before, every block it lies in has a good code, and every other block's code is as it was.
Clearing a range reads as zeros and leaves the rest. Where the manual leaves a point of these commands open, the clause holds
the model's choice (log 2, 100).
Cites R224, R261, R266. -/
def Obligations.MemoryReadsBackWhatIsWritten : Prop :=
  (∀ (m : Mem) (a : Nat) (l : List Byte), memRead (storeBytes m a l) a l.length = l ∧ (∀ x, x < a ∨ a + l.length ≤ x → memGet (storeBytes m a l) x = memGet m x)) ∧
  (∀ (m : Mem) (a x : Nat) (l : List Byte), l ≠ [] → (a / 256 ≤ x / 256 ∧ x / 256 ≤ (a + l.length - 1) / 256 → codeGood (storeBytes m a l) x = true) ∧ (x / 256 < a / 256 ∨ (a + l.length - 1) / 256 < x / 256 → codeGood (storeBytes m a l) x = codeGood m x)) ∧
  (∀ (m : Mem) (lo hi x : Nat), memGet (zeroRange m lo hi) x = if lo ≤ x ∧ x < hi then 0 else memGet m x)

/-- The thermal trip. A monitor sample of any diode at 105 °C or more counts one more hot sample, one below starts the count
again, and at the sixteenth in a row the snuffer withholds with cause 5 and the diode in DETAIL, whatever the registers hold;
THERMAL_TRIP says so of a diode at once.
Cites R171. -/
def Obligations.ThermalTripWithholds : Prop :=
  (∀ (s : State) (d : DiodeI), s.snuf.wheld = false → Runs (.thermalTrip d) s (fun t => Withheld 5 t ∧ t.snuf.detail = BitVec.ofNat 16 d.val ∧ t.clk = { s.clk with wheldLow := true } ∧ Frame Part.withholding s t)) ∧
  (∀ (s : State) (n : Fin 4) (level err : Int) (e : SeqEntry), (getCv s n.val).urgent = none → (getCv s n.val).run = true → (getCv s n.val).seqNow[(getCv s n.val).entry]? = some e → e.input.toNat < 32 → e.gain = 0 → e.input.toNat < s.mon.temp.length → s.snuf.wheld = false →
    let d := e.input.toNat; let t8 := tempOf (s.mon.dtab.getD d (0, 0)) (levelCode 0 level err).toNat; let old := (s.mon.temp.getD d (0, 0)).1.toNat
    ∃ t, exec (.monConversionDone n level err) s = .next t ∧ (t8 < 8 * 105 → t.mon.temp.getD d (0, 0) = (0, t8) ∧ t.snuf.wheld = false) ∧
      (8 * 105 ≤ t8 → old < 15 → t.mon.temp.getD d (0, 0) = (BitVec.ofNat 5 (old + 1), t8) ∧ t.snuf.wheld = false) ∧
      (8 * 105 ≤ t8 → 15 ≤ old → t.mon.temp.getD d (0, 0) = (16, t8) ∧ Withheld 5 t ∧ t.snuf.detail = BitVec.ofNat 16 d ∧ t.clk.wheldLow = true))

/-- A core watchdog and an uncorrectable private SRAM word withhold. From every state that has not withheld, the expiry of the 100
ms watchdog of any of the four application cores withholds, and so does an uncorrectable ECC error in the control processor's
private SRAM; the cause the register shows is 9 and, of the rest, only what withholding may touch changes, so the security
state stays.
Cites R378. -/
def Obligations.ControlProcessorFailuresWithhold : Prop :=
  (∀ (s : State) (core : Fin 4), s.snuf.wheld = false → Runs (.coreWatchdogExpiry core) s (fun t => Withheld 9 t ∧ t.clk = { s.clk with wheldLow := true } ∧ Frame Part.withholding s t)) ∧
  (∀ s : State, s.snuf.wheld = false → Runs (.privateSramUncorrectable false) s (fun t => Withheld 9 t ∧ t.clk = { s.clk with wheldLow := true } ∧ Frame Part.withholding s t))

/-- A bad flit of the Garvy Link is dropped and answered by replay. While the link carries flits, a flit that the FEC cannot
correct, one whose CRC fails, and one of a reserved TYPE is taken in no part: no message, no sequence number, no
acknowledgement and no credit; a NAK is owed, which the next flit sent carries once 500 ns have passed since the last, and a
flit with NAK received makes every outstanding flit go again, in order.
Cites R355. -/
def Obligations.BadGarvyFlitsAreDropped : Prop :=
  (∀ (s : State) (f : GFlit) (c : FlitCheck) (corr : Nat), gvlFlits s = true → c = .uncorrectable ∨ c = .crcFail ∨ 2 < f.type.toNat → ∃ t, exec (.gvlFlitReceive f c corr) s = .next t ∧ t.gvl.rxSeq = s.gvl.rxSeq ∧ t.gvl.credits = s.gvl.credits ∧ t.gvl.unacked = s.gvl.unacked ∧ t.gvl.ackOwed = s.gvl.ackOwed ∧ t.gvl.owed = s.gvl.owed ∧ t.gvl.nakOwed = true ∧ t.gvl.dropped = satInc s.gvl.dropped ∧ t.gvl.qStream = s.gvl.qStream ∧ Frame [.gvl] s t) ∧
  (∀ (s : State), gvlFlits s = true → s.gvl.nakOwed = true → (∀ n, s.gvl.lastNak = some n → n + 1350 ≤ s.clk.aclk) → ∃ t, exec .gvlFlitSend s = .next t ∧ t.gvl.nakOwed = false ∧ t.gvl.lastNak = some s.clk.aclk ∧ Frame [.gvl] s t) ∧
  (∀ (s : State) (f : GFlit) (corr : Nat), gvlFlits s = true → f.type = 0 → f.nak = true → f.ackv = false → f.cvc = 7 → s.gvl.unacked ≠ [] → s.gvl.replaysSame < 7 → ∃ t, exec (.gvlFlitReceive f .good corr) s = .next t ∧ t.gvl.replay = s.gvl.unacked ∧ t.gvl.unacked = s.gvl.unacked ∧ t.gvl.st = s.gvl.st ∧ Frame [.gvl] s t)

/-- Counters wider than 32 bits are read in pairs. For every such pair, WCK_STEPS, LNT_FLARES, VEC_ISSUE, CHK_WAUD, LMP_FLICKER
and CLK_LTIME, a read of _LO at its address gives the low half and copies the high half into the latch, the counter and
everything else unchanged; a read of _HI gives the latch and changes nothing; each reset leaves the latch 0.
Cites R534. -/
def Obligations.WideCountersReadInPairs : Prop :=
  (∀ (s : State) (l : Lan) (w : PWick), readReg (lanWinBase + l.val * 0x10000 + 0x2000 + w.val * 0x100 + 0x28) s = some (BitVec.ofNat 32 (getWick s l.val w.val).steps.val.toNat, counterLatch (.wckSteps l w) s) ∧ readReg (lanWinBase + l.val * 0x10000 + 0x2000 + w.val * 0x100 + 0x2C) s = some ((getWick s l.val w.val).steps.latch, s) ∧ exec (.counterLoRead (.wckSteps l w)) s = .next (counterLatch (.wckSteps l w) s) ∧ (let t := counterLatch (.wckSteps l w) s; (getWick t l.val w.val).steps = { val := (getWick s l.val w.val).steps.val, latch := BitVec.ofNat 32 ((getWick s l.val w.val).steps.val.toNat / 2 ^ 32) } ∧ Frame [.wicks] s t) ∧ (∀ c t, isReset c = true → exec c s = .next t → (getWick t l.val w.val).steps.latch = 0)) ∧
  (∀ (s : State) (l : Lan), readReg (lanWinBase + l.val * 0x10000 + 0x30) s = some (BitVec.ofNat 32 (getLan s l.val).flares.val.toNat, counterLatch (.lntFlares l) s) ∧ readReg (lanWinBase + l.val * 0x10000 + 0x34) s = some ((getLan s l.val).flares.latch, s) ∧ exec (.counterLoRead (.lntFlares l)) s = .next (counterLatch (.lntFlares l) s) ∧ (let t := counterLatch (.lntFlares l) s; (getLan t l.val).flares = { val := (getLan s l.val).flares.val, latch := BitVec.ofNat 32 ((getLan s l.val).flares.val.toNat / 2 ^ 32) } ∧ Frame [.lans] s t) ∧ (∀ c t, isReset c = true → exec c s = .next t → (getLan t l.val).flares.latch = 0)) ∧
  (∀ (s : State) (l : Lan), readReg (lanWinBase + l.val * 0x10000 + 0x4020) s = some (BitVec.ofNat 32 (getEng s l.val).issue.val.toNat, counterLatch (.vecIssue l) s) ∧ readReg (lanWinBase + l.val * 0x10000 + 0x4024) s = some ((getEng s l.val).issue.latch, s) ∧ exec (.counterLoRead (.vecIssue l)) s = .next (counterLatch (.vecIssue l) s) ∧ (let t := counterLatch (.vecIssue l) s; (getEng t l.val).issue = { val := (getEng s l.val).issue.val, latch := BitVec.ofNat 32 ((getEng s l.val).issue.val.toNat / 2 ^ 32) } ∧ Frame [.engs] s t) ∧ (∀ c t, isReset c = true → exec c s = .next t → (getEng t l.val).issue.latch = 0)) ∧
  (∀ (s : State) (l : Lan) (w : PWick), readReg (lanWinBase + l.val * 0x10000 + 0x6300 + w.val * 8) s = some (BitVec.ofNat 32 (getWick s l.val w.val).waud.val.toNat, counterLatch (.chkWaud l w) s) ∧ readReg (lanWinBase + l.val * 0x10000 + 0x6304 + w.val * 8) s = some ((getWick s l.val w.val).waud.latch, s) ∧ exec (.counterLoRead (.chkWaud l w)) s = .next (counterLatch (.chkWaud l w) s) ∧ (let t := counterLatch (.chkWaud l w) s; (getWick t l.val w.val).waud = { val := (getWick s l.val w.val).waud.val, latch := BitVec.ofNat 32 ((getWick s l.val w.val).waud.val.toNat / 2 ^ 32) } ∧ Frame [.wicks] s t) ∧ (∀ c t, isReset c = true → exec c s = .next t → (getWick t l.val w.val).waud.latch = 0)) ∧
  (∀ (s : State), readReg (dieWinBase + 0x10) s = some (BitVec.ofNat 32 s.lmp.flicker.val.toNat, counterLatch .lmpFlicker s) ∧ readReg (dieWinBase + 0x14) s = some (s.lmp.flicker.latch, s) ∧ exec (.counterLoRead .lmpFlicker) s = .next (counterLatch .lmpFlicker s) ∧ (let t := counterLatch .lmpFlicker s; t.lmp.flicker = { val := s.lmp.flicker.val, latch := BitVec.ofNat 32 (s.lmp.flicker.val.toNat / 2 ^ 32) } ∧ Frame [.lmp] s t) ∧ (∀ c t, isReset c = true → exec c s = .next t → t.lmp.flicker.latch = 0)) ∧
  (∀ s : State, readReg (dieWinBase + 0x10030) s = some (BitVec.ofNat 32 (ltime s).toNat, counterLatch .clkLtime s) ∧ readReg (dieWinBase + 0x10034) s = some (s.clk.ltLatch, s) ∧ exec (.counterLoRead .clkLtime) s = .next (counterLatch .clkLtime s) ∧ (let t := counterLatch .clkLtime s; t.clk = { s.clk with ltLatch := BitVec.ofNat 32 ((ltime s).toNat / 2 ^ 32) } ∧ Frame [.clk] s t) ∧ (∀ c t, isReset c = true → exec c s = .next t → t.clk.ltLatch = 0))

end
end

