-- ==== Sys2Proof/Laws/Bytes.lean ====
section
/-! SUPPORT. Bytes and the values they spell: what is written in bytes is what is read from them. -/

namespace Sys2Proof.Machine

/-- The lowest byte stands first. -/
theorem leBytes_succ (n v : Nat) : leBytes (n + 1) v = BitVec.ofNat 8 v :: leBytes n (v / 256) := by
  simp only [leBytes, List.range_succ_eq_map, List.map_cons, List.map_map]
  refine congrArg₂ List.cons (by simp) (List.map_congr_left fun i _ => ?_)
  simp only [Function.comp, Nat.succ_eq_add_one, Nat.div_div_eq_div_mul]
  rw [show (256 : Nat) = 2 ^ 8 from rfl, ← Nat.pow_add]
  congr 3
  omega

/-- A number written in n bytes reads back modulo what n bytes hold. -/
theorem ofLe_leBytes (n v : Nat) : ofLe (leBytes n v) = v % 256 ^ n := by
  induction n generalizing v with
  | zero => simp [leBytes, ofLe, Nat.mod_one]
  | succ n ih =>
    rw [leBytes_succ, ofLe, ih, Nat.pow_succ', Nat.mod_mul]
    simp

/-- A digest written highest byte first reads back. -/
theorem digestOf_digBytes (d : Digest) : digestOf (digBytes d) = d := by
  have h : (digBytes d).reverse = leBytes 48 d.toNat := by
    apply List.ext_getElem
    · simp [digBytes, leBytes]
    · intro i h1 h2
      simp only [leBytes, List.length_map, List.length_range] at h2
      simp only [digBytes, leBytes, List.getElem_reverse, List.getElem_map, List.getElem_range, List.length_map, List.length_range]
      congr 4
      omega
  unfold digestOf
  rw [h, ofLe_leBytes]
  apply BitVec.eq_of_toNat_eq
  rw [BitVec.toNat_ofNat]
  have hd := d.isLt
  omega

end Sys2Proof.Machine
end

