-- ==== Sys2Proof/Laws/Tab.lean ====
section
/-! SUPPORT. Laws of the sparse tables: a read after a write, what a write leaves alone, and the canonical form. -/

namespace Sys2Proof.Machine

/-- Taking an entry out leaves every other key alone. -/
theorem Tab.get_filter_ne {α : Type} (d : α) (t : Tab α) (n m : Nat) (hm : m ≠ n) :
    Tab.get d (t.filter (fun e => e.1 != n)) m = Tab.get d t m := by
  induction t with
  | nil => rfl
  | cons p r ih =>
    obtain ⟨k, w⟩ := p
    by_cases hk : k = n
    · subst hk
      simp [Tab.get, ih, Ne.symm hm]
    · simp [Tab.get, hk, ih]

/-- A key that has been taken out reads as an unlisted one. -/
theorem Tab.get_filter_same {α : Type} (d : α) (t : Tab α) (n : Nat) :
    Tab.get d (t.filter (fun e => e.1 != n)) n = d := by
  induction t with
  | nil => rfl
  | cons p r ih =>
    obtain ⟨k, w⟩ := p
    by_cases hk : k = n
    · subst hk
      simpa [Tab.get] using ih
    · simp [Tab.get, hk, ih]

/-- A new entry leaves every other key alone. -/
theorem Tab.get_put_ne {α : Type} (d : α) (t : Tab α) (n m : Nat) (v : α) (hm : m ≠ n) :
    Tab.get d (Tab.put n v t) m = Tab.get d t m := by
  induction t with
  | nil => simp [Tab.put, Tab.get, Ne.symm hm]
  | cons p r ih =>
    obtain ⟨k, w⟩ := p
    simp only [Tab.put]
    split
    · simp [Tab.get, Ne.symm hm]
    · simp [Tab.get, ih]

/-- A new entry is read where nothing stood. -/
theorem Tab.get_put_same {α : Type} (d : α) (t : Tab α) (n : Nat) (v : α) :
    Tab.get d (Tab.put n v (t.filter (fun e => e.1 != n))) n = v := by
  induction t with
  | nil => simp [Tab.put, Tab.get]
  | cons p r ih =>
    obtain ⟨k, w⟩ := p
    by_cases hk : k = n
    · subst hk
      simpa using ih
    · simp only [bne_iff_ne, ne_eq, hk, not_false_eq_true, List.filter_cons_of_pos, Tab.put]
      split
      · simp [Tab.get]
      · simpa [Tab.get, hk] using ih

/-- A read after a write. -/
@[simp] theorem Tab.get_set {α : Type} [DecidableEq α] (d : α) (t : Tab α) (n m : Nat) (v : α) :
    Tab.get d (Tab.set d t n v) m = if m = n then v else Tab.get d t m := by
  unfold Tab.set
  split
  · rename_i hv
    split
    · rename_i hm
      subst hm hv
      exact Tab.get_filter_same _ t m
    · rename_i hm
      exact Tab.get_filter_ne d t n m hm
  · split
    · rename_i hm
      subst hm
      exact Tab.get_put_same d t m v
    · rename_i hm
      rw [Tab.get_put_ne d _ n m v hm, Tab.get_filter_ne d t n m hm]

/-- A read after a change. -/
@[simp] theorem Tab.get_upd {α : Type} [DecidableEq α] (d : α) (t : Tab α) (n m : Nat) (f : α → α) :
    Tab.get d (Tab.upd d t n f) m = if m = n then f (Tab.get d t n) else Tab.get d t m :=
  Tab.get_set d t n m _

/-- Fewer entries are above a bound too. -/
theorem Tab.above_filter {α : Type} (n : Nat) (t : Tab α) (p : Nat × α → Bool) (h : Tab.above n t = true) :
    Tab.above n (t.filter p) = true := by
  simp only [Tab.above, List.all_eq_true, List.mem_filter] at *
  exact fun x hx => h x hx.1

/-- Taking entries out keeps the canonical form. -/
theorem Tab.wf_filter {α : Type} [DecidableEq α] (d : α) (t : Tab α) (p : Nat × α → Bool) (h : Tab.wf d t = true) :
    Tab.wf d (t.filter p) = true := by
  induction t with
  | nil => rfl
  | cons e r ih =>
    obtain ⟨k, w⟩ := e
    simp only [Tab.wf, Bool.and_eq_true, decide_eq_true_eq] at h
    by_cases hp : p (k, w) = true
    · simp only [hp, List.filter_cons_of_pos, Tab.wf, Bool.and_eq_true, decide_eq_true_eq]
      exact ⟨⟨Tab.above_filter k r p h.1.1, h.1.2⟩, ih h.2⟩
    · simpa [hp] using ih h.2

/-- An entry put in stays above a lower bound. -/
theorem Tab.above_put {α : Type} (j n : Nat) (v : α) (t : Tab α) (hj : j < n) (h : Tab.above j t = true) :
    Tab.above j (Tab.put n v t) = true := by
  induction t with
  | nil => simpa [Tab.put, Tab.above] using hj
  | cons e r ih =>
    obtain ⟨k, w⟩ := e
    simp only [Tab.above, List.all_cons, Bool.and_eq_true, decide_eq_true_eq] at h ih
    simp only [Tab.put]
    split
    · simp only [Tab.above, List.all_cons, Bool.and_eq_true, decide_eq_true_eq]
      exact ⟨hj, h⟩
    · simp only [Tab.above, List.all_cons, Bool.and_eq_true, decide_eq_true_eq]
      exact ⟨h.1, ih h.2⟩

/-- A bound may be lowered. -/
theorem Tab.above_mono {α : Type} (j k : Nat) (t : Tab α) (hj : j ≤ k) (h : Tab.above k t = true) :
    Tab.above j t = true := by
  simp only [Tab.above, List.all_eq_true, decide_eq_true_eq] at *
  exact fun x hx => lt_of_le_of_lt hj (h x hx)

/-- A put keeps the canonical form where the key is free. -/
theorem Tab.wf_put {α : Type} [DecidableEq α] (d : α) (n : Nat) (v : α) (t : Tab α) (hv : v ≠ d)
    (hn : ∀ e ∈ t, e.1 ≠ n) (h : Tab.wf d t = true) : Tab.wf d (Tab.put n v t) = true := by
  induction t with
  | nil => simp [Tab.put, Tab.wf, Tab.above, hv]
  | cons e r ih =>
    obtain ⟨k, w⟩ := e
    simp only [Tab.wf, Bool.and_eq_true, decide_eq_true_eq] at h
    have hk : k ≠ n := hn (k, w) (by simp)
    simp only [Tab.put]
    split
    · rename_i hlt
      have ha := Tab.above_mono n k r (by omega) h.1.1
      simp only [Tab.above] at ha
      simp only [Tab.wf, Tab.above, List.all_cons, Bool.and_eq_true, decide_eq_true_eq]
      exact ⟨⟨⟨hlt, ha⟩, hv⟩, h⟩
    · rename_i hge
      simp only [Tab.wf, Bool.and_eq_true, decide_eq_true_eq]
      exact ⟨⟨Tab.above_put k n v r (by omega) h.1.1, h.1.2⟩, ih (fun e he => hn e (by simp [he])) h.2⟩

/-- A write keeps the canonical form. -/
theorem Tab.wf_set {α : Type} [DecidableEq α] (d : α) (t : Tab α) (n : Nat) (v : α) (h : Tab.wf d t = true) :
    Tab.wf d (Tab.set d t n v) = true := by
  unfold Tab.set
  split
  · exact Tab.wf_filter d t _ h
  · rename_i hv
    exact Tab.wf_put d n v _ hv (fun e he => by simpa using (List.mem_filter.mp he).2) (Tab.wf_filter d t _ h)

/-- A change keeps the canonical form. -/
theorem Tab.wf_upd {α : Type} [DecidableEq α] (d : α) (t : Tab α) (n : Nat) (f : α → α) (h : Tab.wf d t = true) :
    Tab.wf d (Tab.upd d t n f) = true := Tab.wf_set d t n _ h

/-- Taking one key's entry out of a table it was put into. -/
theorem Tab.filter_put {α : Type} (n : Nat) (v : α) (t : Tab α) (h : ∀ e ∈ t, e.1 ≠ n) :
    (Tab.put n v t).filter (fun e => e.1 != n) = t := by
  induction t with
  | nil => simp [Tab.put]
  | cons e r ih =>
    obtain ⟨k, w⟩ := e
    have hk : k ≠ n := h (k, w) (by simp)
    have hr : ∀ e ∈ r, e.1 ≠ n := fun e he => h e (by simp [he])
    have hf : r.filter (fun e => e.1 != n) = r := List.filter_eq_self.mpr (fun a ha => by simpa using hr a ha)
    simp only [Tab.put]
    split
    · simp [hk]; exact fun a b h => hr (a, b) h
    · simp [hk]; simpa using ih hr
/-- A second write of a key is the one that counts. -/
@[simp] theorem Tab.set_set {α : Type} [DecidableEq α] (d : α) (t : Tab α) (n : Nat) (v w : α) :
    Tab.set d (Tab.set d t n v) n w = Tab.set d t n w := by
  have h : (Tab.set d t n v).filter (fun e => e.1 != n) = t.filter (fun e => e.1 != n) := by
    unfold Tab.set
    split
    · simp
    · exact Tab.filter_put _ _ _ (fun e he => by simpa using (List.mem_filter.mp he).2)
  show (if w = d then (Tab.set d t n v).filter (fun e => e.1 != n) else Tab.put n w ((Tab.set d t n v).filter (fun e => e.1 != n))) = _
  rw [h]
  rfl

/-- Reading a table after whole ranges were dropped. -/
theorem Tab.get_drop {α : Type} (d : α) (p : Nat → Bool) (t : Tab α) (n : Nat) :
    Tab.get d (Tab.drop p t) n = if p n then d else Tab.get d t n := by
  induction t with
  | nil => simp [Tab.drop, Tab.get]
  | cons e r ih =>
    obtain ⟨k, w⟩ := e
    simp only [Tab.drop] at ih ⊢
    by_cases hk : p k = true
    · simp only [hk, Bool.not_true, Bool.false_eq_true, not_false_eq_true, List.filter_cons_of_neg, ih, Tab.get]
      by_cases h : k = n
      · subst h; simp [hk]
      · simp [h]
    · simp only [hk, Bool.not_eq_true', Bool.not_false, List.filter_cons_of_pos, Tab.get, ih]
      by_cases h : k = n
      · subst h; simp [hk]
      · simp [h]

end Sys2Proof.Machine
end

