-- ==== Sys2Proof/Laws/Mem.lean ====
section
/-! SUPPORT. Laws of memory: what a read gives after each write, and that every write keeps the canonical form. -/

namespace Sys2Proof.Machine

/-! ### Reads after writes -/

@[simp] theorem memGet_memPut (m : Mem) (a x : Nat) (b : Byte) : memGet (memPut m a b) x = if x = a then b else memGet m x := by
  simp [memGet, memPut]

/-- A write of bytes is read back byte for byte, and leaves every other byte alone. -/
theorem memGet_memWrite (l : List Byte) (m : Mem) (a x : Nat) :
    memGet (memWrite m a l) x = if a ≤ x ∧ x < a + l.length then l.getD (x - a) 0 else memGet m x := by
  induction l generalizing m a with
  | nil => simp [memWrite]
  | cons b t ih =>
    rw [memWrite, ih, memGet_memPut]
    by_cases h : x = a
    · subst h; simp
    · by_cases h1 : a + 1 ≤ x ∧ x < a + 1 + t.length
      · have e : x - a = (x - (a + 1)) + 1 := by omega
        rw [if_pos h1, if_pos ⟨by omega, by simp only [List.length_cons]; omega⟩, e]; simp
      · rw [if_neg h1, if_neg h, if_neg (by simp only [List.length_cons]; omega)]

@[simp] theorem memGet_sealBlock (m : Mem) (a x : Nat) : memGet (sealBlock m a) x = memGet m x := rfl
@[simp] theorem memGet_poisonBlock (m : Mem) (a x : Nat) : memGet (poisonBlock m a) x = memGet m x := rfl

theorem memGet_seals (l : List Nat) (m : Mem) (x : Nat) : memGet (l.foldl sealBlock m) x = memGet m x := by
  induction l generalizing m with
  | nil => rfl
  | cons a t ih => rw [List.foldl_cons, ih, memGet_sealBlock]

/-- A producer's write is read back byte for byte, and leaves every other byte alone. -/
theorem memGet_storeBytes (m : Mem) (a x : Nat) (l : List Byte) :
    memGet (storeBytes m a l) x = if a ≤ x ∧ x < a + l.length then l.getD (x - a) 0 else memGet m x := by
  unfold storeBytes; dsimp only; rw [memGet_seals, memGet_memWrite]

theorem memGet_zeroRange (m : Mem) (lo hi x : Nat) :
    memGet (zeroRange m lo hi) x = if lo ≤ x ∧ x < hi then 0 else memGet m x := by
  unfold memGet zeroRange; rw [Tab.get_drop]
  by_cases h : lo ≤ x ∧ x < hi
  · simp [h]
  · rw [if_neg h]; simp only [Bool.and_eq_true, decide_eq_true_eq]; rw [if_neg h]

/-! ### Canonical form -/


theorem memPut_wf {m : Mem} {a : Nat} {b : Byte} (h : m.wf = true) : (memPut m a b).wf = true := by
  unfold Mem.wf memPut at *
  simp only [Bool.and_eq_true] at *
  exact ⟨Tab.wf_set _ _ _ _ h.1, h.2⟩

theorem memWrite_wf {l : List Byte} {m : Mem} {a : Nat} (h : m.wf = true) : (memWrite m a l).wf = true := by
  induction l generalizing m a with
  | nil => exact h
  | cons b t ih => exact ih (memPut_wf h)

theorem sealBlock_wf {m : Mem} {a : Nat} (h : m.wf = true) : (sealBlock m a).wf = true := by
  unfold Mem.wf sealBlock at *
  simp only [Bool.and_eq_true] at *
  exact ⟨h.1, Tab.wf_set _ _ _ _ h.2⟩

theorem poisonBlock_wf {m : Mem} {a : Nat} (h : m.wf = true) : (poisonBlock m a).wf = true := by
  unfold Mem.wf poisonBlock at *
  simp only [Bool.and_eq_true] at *
  exact ⟨h.1, Tab.wf_set _ _ _ _ h.2⟩

theorem memFoldl_wf {α : Type} (g : Mem → α → Mem) (hg : ∀ m x, m.wf = true → (g m x).wf = true) (l : List α) {m : Mem} (h : m.wf = true) :
    (l.foldl g m).wf = true := by
  induction l generalizing m with
  | nil => exact h
  | cons a t ih => exact ih (hg m a h)

theorem storeBytes_wf {m : Mem} {a : Nat} {l : List Byte} (h : m.wf = true) : (storeBytes m a l).wf = true := by
  unfold storeBytes
  exact memFoldl_wf _ (fun _ _ h => sealBlock_wf h) _ (memWrite_wf h)

theorem zeroRange_wf {m : Mem} {lo hi : Nat} (h : m.wf = true) : (zeroRange m lo hi).wf = true := by
  unfold Mem.wf zeroRange Tab.drop at *
  simp only [Bool.and_eq_true] at *
  exact ⟨Tab.wf_filter _ _ _ h.1, Tab.wf_filter _ _ _ h.2⟩

/-- A device write keeps the form. -/
theorem devWrite_wf {m : Mem} {d : DevWrite} (h : m.wf = true) : (d.run m).wf = true := by
  unfold DevWrite.run
  split
  · exact storeBytes_wf h
  · exact storeBytes_wf h

theorem devWrites_wf {m : Mem} {l : List DevWrite} (h : m.wf = true) : (l.foldl (fun m d => d.run m) m).wf = true :=
  memFoldl_wf _ (fun _ _ h => devWrite_wf h) _ h

end Sys2Proof.Machine
end

