-- ==== Sys2Proof/Laws/Keeps.lean ====
section
/-! SUPPORT. What every command but a reset keeps, said once for each shared operation and each meaning: if it held up to the
state before, it holds up to the state after. -/

set_option linter.all false
set_option maxRecDepth 2000

namespace Sys2Proof.Machine

/-- What a command that is no reset keeps, between two states: the queue; the canonical form of memory; WHELD_N low while the
package withholds (R524); a withhold, its cause and detail (R486); the counter floors, which never fall (R459); and the local
clock, which never runs back (R279). -/
structure Keeps (s t : State) : Prop where
  pending : t.pending = s.pending
  mem : s.mem.wf = true → t.mem.wf = true
  lown : s.clk.wheldLow = true → t.clk.wheldLow = true
  low : (s.snuf.wheld = true → s.clk.wheldLow = true) → t.snuf.wheld = true → t.clk.wheldLow = true
  snuf : s.snuf.wheld = true → t.snuf = s.snuf
  fw : s.flash.fwFloor.toNat ≤ t.flash.fwFloor.toNat
  cfg : s.flash.cfgFloor.toNat ≤ t.flash.cfgFloor.toNat
  aclk : s.clk.aclk ≤ t.clk.aclk

theorem Keeps.refl (s : State) : Keeps s s := ⟨rfl, id, id, id, fun _ => rfl, le_rfl, le_rfl, le_rfl⟩

theorem Keeps.trans {s t u : State} (h : Keeps s t) (k : Keeps t u) : Keeps s u :=
  ⟨k.pending.trans h.pending, fun q => k.mem (h.mem q), fun q => k.lown (h.lown q), fun q => k.low (h.low q),
    fun q => (k.snuf (by rw [h.snuf q]; exact q)).trans (h.snuf q), h.fw.trans k.fw, h.cfg.trans k.cfg, h.aclk.trans k.aclk⟩

/-- An update of other parts keeps all of it. -/
theorem keeps_upd {s0 s : State} {wicks lans engs lmp lctx pwr mon chk scn snuf xbr stks mem clk fab gvl mbx ctxs invs invNext attn posted sec flash twin mgt fresh}
    (h : Keeps s0 s) (h2 : snuf = s.snuf) (h3 : mem = s.mem) (h4 : clk.wheldLow = s.clk.wheldLow)
    (h5 : clk.aclk = s.clk.aclk) (h6 : flash.fwFloor = s.flash.fwFloor) (h7 : flash.cfgFloor = s.flash.cfgFloor) :
    Keeps s0 (State.mk s.pending wicks lans engs lmp lctx pwr mon chk scn snuf xbr stks mem clk fab gvl mbx ctxs invs invNext attn posted sec flash twin mgt fresh) := by
  subst h2 h3
  refine h.trans ⟨rfl, id, ?_, ?_, fun _ => rfl, ?_, ?_, ?_⟩
  · exact fun q => h4.trans q
  · exact fun q r => h4.trans (q r)
  · exact le_of_eq (congrArg _ h6.symm)
  · exact le_of_eq (congrArg _ h7.symm)
  · exact le_of_eq h5.symm

/-- A write to memory keeps all of it when it keeps the canonical form. -/
theorem keeps_mem {s0 s : State} {m : Mem} (h : Keeps s0 s) (hm : s.mem.wf = true → m.wf = true) : Keeps s0 { s with mem := m } :=
  h.trans ⟨rfl, hm, id, id, fun _ => rfl, le_rfl, le_rfl, le_rfl⟩

theorem keeps_low {s0 s : State} (h : Keeps s0 s) : Keeps s0 { s with clk := { s.clk with wheldLow := true } } :=
  h.trans ⟨rfl, id, fun _ => rfl, fun _ _ => rfl, fun _ => rfl, le_rfl, le_rfl, le_rfl⟩

/-- The end of a withhold that no withhold came before. -/
theorem keeps_snuf {s s0 s1 t : State} {cause : BitVec 8} {detail : BitVec 16} (w : ¬ s.snuf.wheld = true) (k1 : Keeps s0 s1) (l1 : s1.clk.wheldLow = true)
    (k : Keeps s1 t) (hs : Keeps s0 s) : Keeps s0 { t with snuf := { wheld := true, cause := cause, detail := detail } } :=
  have j := k1.trans k
  ⟨j.pending, j.mem, j.lown, fun _ _ => k.lown l1, fun q => absurd (hs.snuf q ▸ q) w, j.fw, j.cfg, j.aclk⟩

theorem keeps_foldl {α : Type} {s0 : State} (g : State → α → State) (hg : ∀ s x, Keeps s0 s → Keeps s0 (g s x)) (l : List α) {s : State}
    (h : Keeps s0 s) : Keeps s0 (l.foldl g s) := by
  induction l generalizing s with
  | nil => exact h
  | cons a t ih => exact ih (hg s a h)

theorem keeps_foldl1 {α β : Type} {s0 : State} (g : State × β → α → State × β) (hg : ∀ a x, Keeps s0 a.1 → Keeps s0 (g a x).1) (l : List α)
    {a : State × β} (h : Keeps s0 a.1) : Keeps s0 (l.foldl g a).1 := by
  induction l generalizing a with
  | nil => exact h
  | cons b t ih => exact ih (hg a b h)

theorem keeps_foldl2 {α β : Type} {s0 : State} (g : β × State → α → β × State) (hg : ∀ a x, Keeps s0 a.2 → Keeps s0 (g a x).2) (l : List α)
    {a : β × State} (h : Keeps s0 a.2) : Keeps s0 (l.foldl g a).2 := by
  induction l generalizing a with
  | nil => exact h
  | cons b t ih => exact ih (hg a b h)

theorem setWick_keeps {s0 : State} {l w : Nat} {v : Wick} {s : State} (hk : Keeps s0 s) : Keeps s0 (setWick l w v s) := by
  unfold setWick; repeat' first | (with_reducible assumption) | (fail_if_no_progress with_reducible refine keeps_upd ?_ rfl rfl rfl rfl rfl rfl)

theorem updWick_keeps {s0 : State} {l w : Nat} {f : Wick → Wick} {s : State} (hk : Keeps s0 s) : Keeps s0 (updWick l w f s) := by
  unfold updWick; repeat' first | (with_reducible assumption) | (with_reducible apply setWick_keeps)

theorem setLan_keeps {s0 : State} {l : Nat} {v : Lantern} {s : State} (hk : Keeps s0 s) : Keeps s0 (setLan l v s) := by
  unfold setLan; repeat' first | (with_reducible assumption) | (fail_if_no_progress with_reducible refine keeps_upd ?_ rfl rfl rfl rfl rfl rfl)

theorem updLan_keeps {s0 : State} {l : Nat} {f : Lantern → Lantern} {s : State} (hk : Keeps s0 s) : Keeps s0 (updLan l f s) := by
  unfold updLan; repeat' first | (with_reducible assumption) | (with_reducible apply setLan_keeps)

theorem setEng_keeps {s0 : State} {l : Nat} {v : Engine} {s : State} (hk : Keeps s0 s) : Keeps s0 (setEng l v s) := by
  unfold setEng; repeat' first | (with_reducible assumption) | (fail_if_no_progress with_reducible refine keeps_upd ?_ rfl rfl rfl rfl rfl rfl)

theorem updEng_keeps {s0 : State} {l : Nat} {f : Engine → Engine} {s : State} (hk : Keeps s0 s) : Keeps s0 (updEng l f s) := by
  unfold updEng; repeat' first | (with_reducible assumption) | (with_reducible apply setEng_keeps)

theorem setLctx_keeps {s0 : State} {c : Nat} {v : LmpCtx} {s : State} (hk : Keeps s0 s) : Keeps s0 (setLctx c v s) := by
  unfold setLctx; repeat' first | (with_reducible assumption) | (fail_if_no_progress with_reducible refine keeps_upd ?_ rfl rfl rfl rfl rfl rfl)

theorem updLctx_keeps {s0 : State} {c : Nat} {f : LmpCtx → LmpCtx} {s : State} (hk : Keeps s0 s) : Keeps s0 (updLctx c f s) := by
  unfold updLctx; repeat' first | (with_reducible assumption) | (with_reducible apply setLctx_keeps)

theorem setScn_keeps {s0 : State} {n : Nat} {v : SconceR} {s : State} (hk : Keeps s0 s) : Keeps s0 (setScn n v s) := by
  unfold setScn; repeat' first | (with_reducible assumption) | (fail_if_no_progress with_reducible refine keeps_upd ?_ rfl rfl rfl rfl rfl rfl)

theorem updScn_keeps {s0 : State} {n : Nat} {f : SconceR → SconceR} {s : State} (hk : Keeps s0 s) : Keeps s0 (updScn n f s) := by
  unfold updScn; repeat' first | (with_reducible assumption) | (with_reducible apply setScn_keeps)

theorem setStk_keeps {s0 : State} {n : Nat} {v : Stack} {s : State} (hk : Keeps s0 s) : Keeps s0 (setStk n v s) := by
  unfold setStk; repeat' first | (with_reducible assumption) | (fail_if_no_progress with_reducible refine keeps_upd ?_ rfl rfl rfl rfl rfl rfl)

theorem updStk_keeps {s0 : State} {n : Nat} {f : Stack → Stack} {s : State} (hk : Keeps s0 s) : Keeps s0 (updStk n f s) := by
  unfold updStk; repeat' first | (with_reducible assumption) | (with_reducible apply setStk_keeps)

theorem updPort_keeps {s0 : State} {p : Nat} {f : Port → Port} {s : State} (hk : Keeps s0 s) : Keeps s0 (updPort p f s) := by
  unfold updPort; repeat' first | (with_reducible assumption) | (fail_if_no_progress with_reducible refine keeps_upd ?_ rfl rfl rfl rfl rfl rfl)

theorem updLink_keeps {s0 : State} {k : Nat} {f : Link → Link} {s : State} (hk : Keeps s0 s) : Keeps s0 (updLink k f s) := by
  unfold updLink; repeat' first | (with_reducible assumption) | (fail_if_no_progress with_reducible refine keeps_upd ?_ rfl rfl rfl rfl rfl rfl)

theorem updNbr_keeps {s0 : State} {k : Nat} {f : Neighbour → Neighbour} {s : State} (hk : Keeps s0 s) : Keeps s0 (updNbr k f s) := by
  unfold updNbr; repeat' first | (with_reducible assumption) | (fail_if_no_progress with_reducible refine keeps_upd ?_ rfl rfl rfl rfl rfl rfl)

theorem updRing_keeps {s0 : State} {r : Nat} {f : Ring → Ring} {s : State} (hk : Keeps s0 s) : Keeps s0 (updRing r f s) := by
  unfold updRing; repeat' first | (with_reducible assumption) | (fail_if_no_progress with_reducible refine keeps_upd ?_ rfl rfl rfl rfl rfl rfl)

theorem setCtx_keeps {s0 : State} {c : Nat} {v : Option Ctx} {s : State} (hk : Keeps s0 s) : Keeps s0 (setCtx c v s) := by
  unfold setCtx; repeat' first | (with_reducible assumption) | (fail_if_no_progress with_reducible refine keeps_upd ?_ rfl rfl rfl rfl rfl rfl)

theorem updCtx_keeps {s0 : State} {c : Nat} {f : Ctx → Ctx} {s : State} (hk : Keeps s0 s) : Keeps s0 (updCtx c f s) := by
  unfold updCtx; repeat' first | (with_reducible assumption) | (with_reducible apply setCtx_keeps) | split

theorem drawRandom_keeps {s0 : State} {s : State} (hk : Keeps s0 s) : Keeps s0 (drawRandom s).2 := by
  unfold drawRandom; repeat' first | (with_reducible assumption) | (fail_if_no_progress with_reducible refine keeps_upd ?_ rfl rfl rfl rfl rfl rfl)

theorem freeWords_keeps {s0 : State} {op n : Nat} {s : State} (hk : Keeps s0 s) : Keeps s0 (freeWords op n s).2 := by
  unfold freeWords; repeat' first | (with_reducible assumption) | (fail_if_no_progress with_reducible refine keeps_upd ?_ rfl rfl rfl rfl rfl rfl)

theorem freeFlare_keeps {s0 : State} {s : State} {r : FlareReq} (hk : Keeps s0 s) : Keeps s0 (freeFlare s r) := by
  unfold freeFlare; repeat' first | (with_reducible assumption) | (fail_if_no_progress with_reducible refine keeps_upd ?_ rfl rfl rfl rfl rfl rfl) | (with_reducible refine keeps_foldl _ (fun s _ _ => ?_) _ ?_) | (with_reducible apply updLan_keeps) | split

theorem dropQueued_keeps {s0 : State} {c : Nat} {inst : W32} {s : State} (hk : Keeps s0 s) : Keeps s0 (dropQueued c inst s) := by
  unfold dropQueued; repeat' first | (with_reducible assumption) | (with_reducible refine keeps_foldl _ (fun s _ _ => ?_) _ ?_) | (with_reducible apply freeFlare_keeps) | (with_reducible apply updLctx_keeps)

theorem gvlStream_keeps {s0 : State} {vc : BitVec 3} {m : GMsg} {s : State} (hk : Keeps s0 s) : Keeps s0 (gvlStream vc m s) := by
  unfold gvlStream; repeat' first | (with_reducible assumption) | (fail_if_no_progress with_reducible refine keeps_upd ?_ rfl rfl rfl rfl rfl rfl)

theorem gvlRsp_keeps {s0 : State} {m : GMsg} {s : State} (hk : Keeps s0 s) : Keeps s0 (gvlRsp m s) := by
  unfold gvlRsp; repeat' first | (with_reducible assumption) | (fail_if_no_progress with_reducible refine keeps_upd ?_ rfl rfl rfl rfl rfl rfl)

theorem gvlWriteLine_keeps {s0 : State} {a : W64} {data : List Byte} {s : State} (hk : Keeps s0 s) : Keeps s0 (gvlWriteLine a data s) := by
  unfold gvlWriteLine; repeat' first | (with_reducible assumption) | (fail_if_no_progress with_reducible refine keeps_upd ?_ rfl rfl rfl rfl rfl rfl)

theorem gvlSendSig_keeps {s0 : State} {v : Nat} {w : W32} {s : State} (hk : Keeps s0 s) : Keeps s0 (gvlSendSig v w s) := by
  unfold gvlSendSig; repeat' first | (with_reducible assumption) | (with_reducible apply gvlStream_keeps)

theorem gvlSig_keeps {s0 : State} {v : Nat} {w : W32} {s : State} (hk : Keeps s0 s) : Keeps s0 (gvlSig v w s) := by
  unfold gvlSig; repeat' first | (with_reducible assumption) | (fail_if_no_progress with_reducible refine keeps_upd ?_ rfl rfl rfl rfl rfl rfl) | (with_reducible apply gvlSendSig_keeps) | split | lift_lets | (intro x; clear_value x)

theorem sigState_keeps {s0 : State} {s : State} (hk : Keeps s0 s) : Keeps s0 (sigState s) := by
  unfold sigState; repeat' first | (with_reducible assumption) | (with_reducible apply freeWords_keeps) | (with_reducible apply gvlSig_keeps)

theorem postRaw_keeps {s0 : State} {r : RingI} {c : Cpl} {s : State} (hk : Keeps s0 s) : Keeps s0 (postRaw r c s) := by
  unfold postRaw; repeat' first | (with_reducible assumption) | (fail_if_no_progress with_reducible refine keeps_upd ?_ rfl rfl rfl rfl rfl rfl) | (with_reducible apply updRing_keeps) | (with_reducible apply gvlSig_keeps) | (with_reducible apply gvlWriteLine_keeps)

theorem holdCpl_keeps {s0 : State} {r : RingI} {c : Cpl} {s : State} (hk : Keeps s0 s) : Keeps s0 (holdCpl r c s) := by
  unfold holdCpl; repeat' first | (with_reducible assumption) | (with_reducible apply updRing_keeps)

theorem postCpl_keeps {s0 : State} {r : RingI} {c : Cpl} {s : State} (hk : Keeps s0 s) : Keeps s0 (postCpl r c s) := by
  unfold postCpl; repeat' first | (with_reducible assumption) | (with_reducible apply holdCpl_keeps) | (with_reducible apply postRaw_keeps) | split

theorem postNote_keeps {s0 : State} {r : RingI} {c : Cpl} {s : State} (hk : Keeps s0 s) : Keeps s0 (postNote r c s) := by
  unfold postNote; repeat' first | (with_reducible assumption) | (with_reducible apply holdCpl_keeps) | (with_reducible apply postRaw_keeps) | (with_reducible apply updRing_keeps) | split | lift_lets | (intro x; clear_value x)

theorem dropProg_keeps {s0 : State} {d : Desc} {s : State} (hk : Keeps s0 s) : Keeps s0 (dropProg d s) := by
  unfold dropProg; repeat' first | (with_reducible assumption) | (with_reducible apply updRing_keeps)

theorem complete_keeps {s0 : State} {d : Desc} {st : W16} {used : Nat} {res : List W32} {s : State} (hk : Keeps s0 s) : Keeps s0 (complete d st used res s) := by
  unfold complete; repeat' first | (with_reducible assumption) | (with_reducible apply postCpl_keeps) | (with_reducible apply dropProg_keeps)

theorem finish_keeps {s0 : State} {d : Desc} {st : W16} {s : State} (hk : Keeps s0 s) : Keeps s0 (finish d st s) := by
  unfold finish; repeat' first | (with_reducible assumption) | (with_reducible apply complete_keeps)

theorem keepProg_keeps {s0 : State} {d : Desc} {s : State} (hk : Keeps s0 s) : Keeps s0 (keepProg d s) := by
  unfold keepProg; repeat' first | (with_reducible assumption) | (with_reducible apply updRing_keeps)

theorem notify_keeps {s0 : State} {c : Option Nat} {code st : W16} {res : List W32} {s : State} (hk : Keeps s0 s) : Keeps s0 (notify c code st res s) := by
  unfold notify; repeat' first | (with_reducible assumption) | (with_reducible apply postNote_keeps) | split

theorem pathPut_keeps {s0 : State} {e : Ember} {udp : Bool} {s : State} (hk : Keeps s0 s) : Keeps s0 (pathPut e udp s) := by
  unfold pathPut; repeat' first | (with_reducible assumption) | (fail_if_no_progress with_reducible refine keeps_upd ?_ rfl rfl rfl rfl rfl rfl)

theorem deliverEmber_keeps {s0 : State} {e : Ember} {s : State} (hk : Keeps s0 s) : Keeps s0 (deliverEmber e s) := by
  unfold deliverEmber; repeat' first | (with_reducible assumption) | (fail_if_no_progress with_reducible refine keeps_upd ?_ rfl rfl rfl rfl rfl rfl) | (with_reducible apply gvlSig_keeps) | (with_reducible apply postNote_keeps) | (with_reducible apply pathPut_keeps) | split | lift_lets | (intro x; refine (fun hx => ?_ : Keeps s0 x → _) ?_; (on_goal 1 => clear_value x); (on_goal 2 => simp only [x])) | (intro x; clear_value x)

theorem rateLimit_keeps {s0 : State} {k : Option (W16 × W16 × Option W16)} {e : Ember} {s : State} (hk : Keeps s0 s) : Keeps s0 (rateLimit k e s).1 := by
  unfold rateLimit; repeat' first | (with_reducible assumption) | (fail_if_no_progress with_reducible refine keeps_upd ?_ rfl rfl rfl rfl rfl rfl) | split

theorem raiseEmber_keeps {s0 : State} {r : EmberReq} {s : State} (hk : Keeps s0 s) : Keeps s0 (raiseEmber r s) := by
  unfold raiseEmber; repeat' first | (with_reducible assumption) | (with_reducible apply deliverEmber_keeps) | (with_reducible apply rateLimit_keeps) | split | lift_lets | (intro x; refine (fun hx => ?_ : Keeps s0 x.1 → _) ?_; (on_goal 1 => clear_value x); (on_goal 2 => simp only [x])) | (intro x; clear_value x)

theorem ember_keeps {s0 : State} {sev code src : Nat} {ctx : Option W16} {arg0 : Nat} {s : State} (hk : Keeps s0 s) : Keeps s0 (ember sev code src ctx arg0 s) := by
  unfold ember; repeat' first | (with_reducible assumption) | (with_reducible apply raiseEmber_keeps)

theorem linkPut_keeps {s0 : State} {k vl : Nat} {i : Item} {s : State} (hk : Keeps s0 s) : Keeps s0 (linkPut k vl i s) := by
  unfold linkPut; repeat' first | (with_reducible assumption) | (with_reducible apply updLink_keeps)

theorem egress_keeps {s0 : State} {m : Msg} {s : State} (hk : Keeps s0 s) : Keeps s0 (egress m s) := by
  unfold egress; repeat' first | (with_reducible assumption) | (fail_if_no_progress with_reducible refine keeps_upd ?_ rfl rfl rfl rfl rfl rfl) | (with_reducible apply linkPut_keeps) | split

theorem touchStream_keeps {s0 : State} {m : Msg} {received : Bool} {s : State} (hk : Keeps s0 s) : Keeps s0 (touchStream m received s) := by
  unfold touchStream; repeat' first | (with_reducible assumption) | (fail_if_no_progress with_reducible refine keeps_upd ?_ rfl rfl rfl rfl rfl rfl) | split

theorem sendMsg_keeps {s0 : State} {h : Hdr} {b : Body} {s : State} (hk : Keeps s0 s) : Keeps s0 (sendMsg h b s) := by
  unfold sendMsg; repeat' first | (with_reducible assumption) | (fail_if_no_progress with_reducible refine keeps_upd ?_ rfl rfl rfl rfl rfl rfl) | (with_reducible apply touchStream_keeps) | (with_reducible apply egress_keeps) | split

theorem sendNotice_keeps {s0 : State} {kind : Nat} {dst : Pkg} {q : ReqId} {tindex : W32} {arg0 : W64} {arg1 : W32} {code : W16} {s : State} (hk : Keeps s0 s) : Keeps s0 (sendNotice kind dst q tindex arg0 arg1 code s) := by
  unfold sendNotice; repeat' first | (with_reducible assumption) | (with_reducible apply sendMsg_keeps)

theorem countDrop_keeps {s0 : State} {s : State} (hk : Keeps s0 s) : Keeps s0 (countDrop s) := by
  unfold countDrop; repeat' first | (with_reducible assumption) | (fail_if_no_progress with_reducible refine keeps_upd ?_ rfl rfl rfl rfl rfl rfl)

theorem tstatSet_keeps {s0 : State} {i : Nat} {s : State} (hk : Keeps s0 s) : Keeps s0 (tstatSet i s) := by
  unfold tstatSet; repeat' first | (with_reducible assumption) | (fail_if_no_progress with_reducible refine keeps_upd ?_ rfl rfl rfl rfl rfl rfl)

theorem reportLoss_keeps {s0 : State} {m : Msg} {code : W16} {s : State} (hk : Keeps s0 s) : Keeps s0 (reportLoss m code s) := by
  unfold reportLoss; repeat' first | (with_reducible assumption) | (fail_if_no_progress with_reducible refine keeps_upd ?_ rfl rfl rfl rfl rfl rfl) | (with_reducible apply sendNotice_keeps) | split | lift_lets | (intro x; clear_value x)

theorem trimApply_keeps {s0 : State} {l pw kind col tp : Nat} {d : Int} {s : State} (hk : Keeps s0 s) : Keeps s0 (trimApply l pw kind col tp d s) := by
  unfold trimApply; repeat' first | (with_reducible assumption) | (with_reducible apply setWick_keeps) | (with_reducible apply ember_keeps) | (with_reducible apply updLan_keeps) | split | lift_lets | (intro x; clear_value x)

theorem swapAtBoundary_keeps {s0 : State} {l : Nat} {s : State} (hk : Keeps s0 s) : Keeps s0 (swapAtBoundary l s) := by
  unfold swapAtBoundary; repeat' first | (with_reducible assumption) | (with_reducible apply setLan_keeps) | (with_reducible apply updWick_keeps) | split | lift_lets | intro x

theorem trimAtBoundary_keeps {s0 : State} {l : Nat} {s : State} (hk : Keeps s0 s) : Keeps s0 (trimAtBoundary l s) := by
  unfold trimAtBoundary; repeat' first | (with_reducible assumption) | (with_reducible refine keeps_foldl _ (fun s _ _ => ?_) _ ?_) | (with_reducible apply setLan_keeps) | (with_reducible apply updWick_keeps) | (with_reducible apply trimApply_keeps)

theorem drBegin_keeps {s0 : State} {l : Nat} {s : State} (hk : Keeps s0 s) : Keeps s0 (drBegin l s) := by
  unfold drBegin; repeat' first | (with_reducible assumption) | (fail_if_no_progress with_reducible refine keeps_upd ?_ rfl rfl rfl rfl rfl rfl) | (with_reducible apply setLan_keeps)

theorem atBoundary_keeps {s0 : State} {l : Nat} {s : State} (hk : Keeps s0 s) : Keeps s0 (atBoundary l s) := by
  unfold atBoundary; repeat' first | (with_reducible assumption) | (with_reducible apply trimAtBoundary_keeps) | (with_reducible apply swapAtBoundary_keeps) | (with_reducible apply updLan_keeps) | (with_reducible apply drBegin_keeps) | split | lift_lets | (intro x; refine (fun hx => ?_ : Keeps s0 x → _) ?_; (on_goal 1 => clear_value x); (on_goal 2 => simp only [x]))

theorem markLan_keeps {s0 : State} {draws : List Lan} {kept : Bool} {p : Nat} {s : State} (hk : Keeps s0 s) : Keeps s0 (markLan draws kept p s).1 := by
  unfold markLan; repeat' first | (with_reducible assumption) | (fail_if_no_progress with_reducible refine keeps_upd ?_ rfl rfl rfl rfl rfl rfl) | (with_reducible apply setLan_keeps) | split | lift_lets | (intro x; clear_value x)

theorem journalAppend_keeps {s0 : State} {c : Nat} {e : JEntry} {s : State} (hk : Keeps s0 s) : Keeps s0 (journalAppend c e s) := by
  unfold journalAppend; repeat' first | (with_reducible assumption) | (fail_if_no_progress with_reducible refine keeps_upd ?_ rfl rfl rfl rfl rfl rfl) | (with_reducible refine keeps_foldl _ (fun s _ _ => ?_) _ ?_) | (with_reducible apply updLan_keeps) | split | lift_lets | (intro x; clear_value x)

theorem beginLan_keeps {s0 : State} {daylight : Bool} {p : Nat} {one : Bool} {s : State} (hk : Keeps s0 s) : Keeps s0 (beginLan daylight p one s) := by
  unfold beginLan; repeat' first | (with_reducible assumption) | (with_reducible apply setLan_keeps)

theorem startFlare_keeps {s0 : State} {draws : List Lan} {c f : Nat} {r : FlareReq} {floored : Bool} {s : State} (hk : Keeps s0 s) : Keeps s0 (startFlare draws c f r floored s) := by
  unfold startFlare
  extract_lets id p0 s1 s2 lans s3 plans accs redo s4 s5 m s6 s7 busy fb clean tp
  have e3 : Keeps s0 s3 := keeps_foldl _ (fun s _ h => beginLan_keeps h) _ (updLctx_keeps (keeps_upd hk rfl rfl rfl rfl rfl rfl))
  have e4 : Keeps s0 s4 := keeps_foldl _ (fun s _ h => updLan_keeps h) _ e3
  have e5 : Keeps s0 s5 := by
    unfold s5; split
    · exact e4
    · exact keeps_foldl _ (fun s _ h => updWick_keeps h) _ e4
  have em : Keeps s0 m.1 := by
    unfold m; split
    · exact e5
    · exact by
        refine keeps_foldl1 _ (fun a x h => ?_) _ ?_
        · exact markLan_keeps h
        · exact e5
  have e7 : Keeps s0 s7 := by
    unfold s7; split
    · exact em
    · exact journalAppend_keeps em
  exact updLctx_keeps e7

theorem selectFor_keeps {s0 : State} {draws : List Lan} {f : Nat} {s : State} {c : Nat} (hk : Keeps s0 s) : Keeps s0 (selectFor draws f s c) := by
  unfold selectFor; repeat' first | (with_reducible assumption) | (with_reducible apply startFlare_keeps) | split | lift_lets | (intro x; clear_value x)

theorem fillFor_keeps {s0 : State} {f : Nat} {s : State} {c : Nat} (hk : Keeps s0 s) : Keeps s0 (fillFor f s c) := by
  unfold fillFor; repeat' first | (with_reducible assumption) | (fail_if_no_progress with_reducible refine keeps_upd ?_ rfl rfl rfl rfl rfl rfl) | (with_reducible apply updLctx_keeps)

theorem updRun_keeps {s0 : State} {c id : Nat} {f : FlareRun → FlareRun} {s : State} (hk : Keeps s0 s) : Keeps s0 (updRun c id f s) := by
  unfold updRun; repeat' first | (with_reducible assumption) | (with_reducible apply updLctx_keeps)

theorem flipBank_keeps {s0 : State} {l w : Nat} {s : State} (hk : Keeps s0 s) : Keeps s0 (flipBank l w s) := by
  unfold flipBank; repeat' first | (with_reducible assumption) | (with_reducible apply updWick_keeps)

theorem fly_keeps {s0 : State} {x : Flight} {s : State} (hk : Keeps s0 s) : Keeps s0 (fly x s) := by
  unfold fly; repeat' first | (with_reducible assumption) | (fail_if_no_progress with_reducible refine keeps_upd ?_ rfl rfl rfl rfl rfl rfl) | (with_reducible apply flipBank_keeps)

theorem noteLaunch_keeps {s0 : State} {f l : Nat} {s : State} (hk : Keeps s0 s) : Keeps s0 (noteLaunch f l s) := by
  unfold noteLaunch; repeat' first | (with_reducible assumption) | (with_reducible apply updLan_keeps)

theorem launchUnit_keeps {s0 : State} {f id : Nat} {ll : LLan} {lw : LWick} {s : State} (hk : Keeps s0 s) : Keeps s0 (launchUnit f id ll lw s) := by
  unfold launchUnit; repeat' first | (with_reducible assumption) | (with_reducible apply fly_keeps) | (with_reducible apply updWick_keeps) | (with_reducible apply updLan_keeps) | (with_reducible apply updRun_keeps) | split

theorem launchProbe_keeps {s0 : State} {f : Nat} {l : Lan} {w : PWick} {s : State} (hk : Keeps s0 s) : Keeps s0 (launchProbe f l w s) := by
  unfold launchProbe; repeat' first | (with_reducible assumption) | (with_reducible apply noteLaunch_keeps) | (with_reducible apply updWick_keeps) | (with_reducible apply fly_keeps) | split | lift_lets | (intro x; clear_value x)

theorem drawTrim_keeps {s0 : State} {l : Nat} {s : State} (hk : Keeps s0 s) : Keeps s0 (drawTrim l s) := by
  unfold drawTrim; repeat' first | (with_reducible assumption) | (fail_if_no_progress with_reducible refine keeps_upd ?_ rfl rfl rfl rfl rfl rfl) | (with_reducible apply updWick_keeps) | split | lift_lets | (intro x; clear_value x)

theorem launchTrim_keeps {s0 : State} {f : Nat} {l : Lan} {w : PWick} {s : State} (hk : Keeps s0 s) : Keeps s0 (launchTrim f l w s) := by
  unfold launchTrim; repeat' first | (with_reducible assumption) | (with_reducible apply noteLaunch_keeps) | (with_reducible apply updWick_keeps) | (with_reducible apply fly_keeps) | split | dsimp only

theorem launchDrive_keeps {s0 : State} {f : Nat} {l : Lan} {w : PWick} {s : State} (hk : Keeps s0 s) : Keeps s0 (launchDrive f l w s) := by
  unfold launchDrive; repeat' first | (with_reducible assumption) | (with_reducible apply noteLaunch_keeps) | (with_reducible apply updLan_keeps) | (with_reducible apply fly_keeps) | split | lift_lets | (intro x; clear_value x)

theorem launch_keeps {s0 : State} {f : Nat} {s : State} {g : Grant} (hk : Keeps s0 s) : Keeps s0 (launch f s g) := by
  unfold launch; repeat' first | (with_reducible assumption) | (with_reducible apply launchUnit_keeps) | (with_reducible apply launchProbe_keeps) | (with_reducible apply launchTrim_keeps) | (with_reducible apply launchDrive_keeps) | split

theorem countLaunch_keeps {s0 : State} {s : State} {p : Nat × Nat} (hk : Keeps s0 s) : Keeps s0 (countLaunch s p) := by
  unfold countLaunch; repeat' first | (with_reducible assumption) | (with_reducible apply updLctx_keeps)

theorem dropOnLan_keeps {s0 : State} {id : Nat} {freeze : Bool} {gone : Nat → Bool} {s : State} {q : LLan × Lan × Bool} (hk : Keeps s0 s) : Keeps s0 (dropOnLan id freeze gone s q) := by
  unfold dropOnLan; repeat' first | (with_reducible assumption) | (with_reducible refine keeps_foldl _ (fun s _ _ => ?_) _ ?_) | (with_reducible apply updWick_keeps) | (with_reducible apply updLan_keeps)

theorem discardRuns_keeps {s0 : State} {p : FlareRun → Bool} {freeze : Bool} {gone : Nat → Bool} {s : State} {c : Nat} (hk : Keeps s0 s) : Keeps s0 (discardRuns p freeze gone s c) := by
  unfold discardRuns; repeat' first | (with_reducible assumption) | (fail_if_no_progress with_reducible refine keeps_upd ?_ rfl rfl rfl rfl rfl rfl) | (with_reducible refine keeps_foldl _ (fun s _ _ => ?_) _ ?_) | (with_reducible apply dropOnLan_keeps) | (with_reducible apply setLctx_keeps)

theorem killProbes_keeps {s0 : State} {l : Nat} {p : StepKind → Bool} {s : State} (hk : Keeps s0 s) : Keeps s0 (killProbes l p s) := by
  unfold killProbes; repeat' first | (with_reducible assumption) | (fail_if_no_progress with_reducible refine keeps_upd ?_ rfl rfl rfl rfl rfl rfl)

theorem restartTrim_keeps {s0 : State} {l : Nat} {s : State} (hk : Keeps s0 s) : Keeps s0 (restartTrim l s) := by
  unfold restartTrim; repeat' first | (with_reducible assumption) | (with_reducible apply setLan_keeps) | (with_reducible apply updWick_keeps) | split | lift_lets | (intro x; clear_value x)

theorem freeze_keeps {s0 : State} {s : State} (hk : Keeps s0 s) : Keeps s0 (freeze s) := by
  unfold freeze; repeat' first | (with_reducible assumption) | (fail_if_no_progress with_reducible refine keeps_upd ?_ rfl rfl rfl rfl rfl rfl) | (with_reducible refine keeps_foldl _ (fun s _ _ => ?_) _ ?_) | (with_reducible apply discardRuns_keeps) | (with_reducible apply updWick_keeps) | (with_reducible apply updLan_keeps) | (with_reducible apply restartTrim_keeps)

theorem updRel_keeps {s0 : State} {c : Nat} {inst : W32} {f : RelRec → RelRec} {s : State} (hk : Keeps s0 s) : Keeps s0 (updRel c inst f s) := by
  unfold updRel; repeat' first | (with_reducible assumption) | (with_reducible apply updCtx_keeps)

theorem noteReq_keeps {s0 : State} {c : Nat} {inst : W32} {f : FFlags} {s : State} (hk : Keeps s0 s) : Keeps s0 (noteReq c inst f s) := by
  unfold noteReq; repeat' first | (with_reducible assumption) | (with_reducible apply updRel_keeps) | split

theorem updRelNum_keeps {s0 : State} {c : Nat} {num : W16} {f : RelRec → RelRec} {s : State} (hk : Keeps s0 s) : Keeps s0 (updRelNum c num f s) := by
  unfold updRelNum; repeat' first | (with_reducible assumption) | (with_reducible apply updCtx_keeps)

theorem updAdm_keeps {s0 : State} {c : Nat} {num : W16} {f : AdmRec → AdmRec} {s : State} (hk : Keeps s0 s) : Keeps s0 (updAdm c num f s) := by
  unfold updAdm; repeat' first | (with_reducible assumption) | (with_reducible apply updCtx_keeps)

theorem noticePath_keeps {s0 : State} {c : Nat} {kind : Nat} {q : ReqId} {tindex : W32} {code : W16} {s : State} (hk : Keeps s0 s) : Keeps s0 (noticePath c kind q tindex code s) := by
  unfold noticePath; repeat' first | (with_reducible assumption) | (with_reducible refine keeps_foldl _ (fun s _ _ => ?_) _ ?_) | (with_reducible apply sendNotice_keeps) | split

theorem retireNotices_keeps {s0 : State} {c : Nat} {ctxid : W16} {r : RelRec} {e : Nat} {s : State} (hk : Keeps s0 s) : Keeps s0 (retireNotices c ctxid r e s) := by
  unfold retireNotices; repeat' first | (with_reducible assumption) | (with_reducible apply noticePath_keeps) | split | lift_lets | intro x

theorem retireRel_keeps {s0 : State} {c : Nat} {num : W16} {e : Nat} {s : State} (hk : Keeps s0 s) : Keeps s0 (retireRel c num e s) := by
  unfold retireRel; repeat' first | (with_reducible assumption) | (with_reducible apply retireNotices_keeps) | (with_reducible apply dropQueued_keeps) | (with_reducible apply updRelNum_keeps) | (with_reducible apply updCtx_keeps) | (with_reducible apply complete_keeps) | split

theorem withholdLamp_keeps {s0 : State} {s : State} (hk : Keeps s0 s) : Keeps s0 (withholdLamp s) := by
  unfold withholdLamp; repeat' first | (with_reducible assumption) | (with_reducible refine keeps_foldl _ (fun s _ _ => ?_) _ ?_) | (with_reducible apply freeze_keeps) | (with_reducible apply discardRuns_keeps) | (with_reducible apply updLctx_keeps) | (with_reducible apply updWick_keeps) | (with_reducible apply updLan_keeps)

theorem withholdNotices_keeps {s0 : State} {s : State} (hk : Keeps s0 s) : Keeps s0 (withholdNotices s) := by
  unfold withholdNotices; repeat' first | (with_reducible assumption) | (fail_if_no_progress with_reducible refine keeps_upd ?_ rfl rfl rfl rfl rfl rfl) | (with_reducible refine keeps_foldl _ (fun s _ _ => ?_) _ ?_) | (with_reducible apply sendNotice_keeps) | split

theorem withholdLink_keeps {s0 : State} {s : State} {k : Nat} (hk : Keeps s0 s) : Keeps s0 (withholdLink s k) := by
  unfold withholdLink; repeat' first | (with_reducible assumption) | (with_reducible apply updLink_keeps) | (with_reducible apply linkPut_keeps) | split | lift_lets | (intro x; clear_value x)

theorem postOrHold_keeps {s0 : State} {r : RingI} {c : Cpl} {s : State} (hk : Keeps s0 s) : Keeps s0 (postOrHold r c s) := by
  unfold postOrHold; repeat' first | (with_reducible assumption) | (with_reducible apply holdCpl_keeps) | (with_reducible apply postRaw_keeps) | split

theorem withholdRing_keeps {s0 : State} {s : State} {r : RingI} (hk : Keeps s0 s) : Keeps s0 (withholdRing s r) := by
  unfold withholdRing; repeat' first | (with_reducible assumption) | (with_reducible refine keeps_foldl _ (fun s _ _ => ?_) _ ?_) | (with_reducible apply postOrHold_keeps) | (with_reducible apply updRing_keeps)

theorem withholdRequests_keeps {s0 : State} {s : State} (hk : Keeps s0 s) : Keeps s0 (withholdRequests s) := by
  unfold withholdRequests; repeat' first | (with_reducible assumption) | (with_reducible refine keeps_foldl _ (fun s _ _ => ?_) _ ?_) | (with_reducible apply updCtx_keeps)

theorem withholdEmbers_keeps {s0 : State} {e : Ember} {s : State} (hk : Keeps s0 s) : Keeps s0 (withholdEmbers e s) := by
  unfold withholdEmbers; repeat' first | (with_reducible assumption) | (with_reducible refine keeps_foldl _ (fun s _ _ => ?_) _ ?_) | (with_reducible apply postOrHold_keeps) | (with_reducible apply gvlSig_keeps) | split | lift_lets | (intro x; refine (fun hx => ?_ : Keeps s0 x → _) ?_; (on_goal 1 => clear_value x); (on_goal 2 => simp only [x]))

theorem gvlEnterWithheld_keeps {s0 : State} {s : State} (hk : Keeps s0 s) : Keeps s0 (gvlEnterWithheld s) := by
  unfold gvlEnterWithheld; repeat' first | (with_reducible assumption) | (fail_if_no_progress with_reducible refine keeps_upd ?_ rfl rfl rfl rfl rfl rfl) | (with_reducible apply sigState_keeps)

theorem withholdGarvy_keeps {s0 : State} {e : Ember} {s : State} (hk : Keeps s0 s) : Keeps s0 (withholdGarvy e s) := by
  unfold withholdGarvy; repeat' first | (with_reducible assumption) | (fail_if_no_progress with_reducible refine keeps_upd ?_ rfl rfl rfl rfl rfl rfl) | (with_reducible refine keeps_foldl _ (fun s _ _ => ?_) _ ?_) | (with_reducible apply withholdRing_keeps) | (with_reducible apply withholdRequests_keeps) | (with_reducible apply withholdEmbers_keeps) | (with_reducible apply gvlEnterWithheld_keeps) | split | dsimp only

theorem withholdQueues_keeps {s0 : State} {e : Ember} {s : State} (hk : Keeps s0 s) : Keeps s0 (withholdQueues e s) := by
  unfold withholdQueues; repeat' first | (with_reducible assumption) | (fail_if_no_progress with_reducible refine keeps_upd ?_ rfl rfl rfl rfl rfl rfl)

theorem withholdStacks_keeps {s0 : State} {s : State} (hk : Keeps s0 s) : Keeps s0 (withholdStacks s) := by
  unfold withholdStacks; repeat' first | (with_reducible assumption) | (with_reducible refine keeps_foldl _ (fun s _ _ => ?_) _ ?_) | (with_reducible apply updStk_keeps)

theorem withhold_keeps {s0 : State} {cause detail : Nat} {s : State} (hk : Keeps s0 s) : Keeps s0 (withhold cause detail s) := by
  unfold withhold
  split
  · exact hk
  · rename_i w
    dsimp only
    generalize (if cause = 4 then { s.chk with dstat := setBit s.chk.dstat 0 } else s.chk) = ck
    have k1 : Keeps s0 { s with clk := { s.clk with wheldLow := true }, chk := ck } :=
      hk.trans ⟨rfl, id, fun _ => rfl, fun _ _ => rfl, fun _ => rfl, le_rfl, le_rfl, le_rfl⟩
    generalize hs1 : ({ s with clk := { s.clk with wheldLow := true }, chk := ck } : State) = s1 at k1
    have l1 : s1.clk.wheldLow = true := by rw [← hs1]
    clear hs1
    have k3 : Keeps s1 ((List.range 32).foldl withholdLink (withholdNotices (withholdLamp s1))) :=
      keeps_foldl _ (fun s x h => withholdLink_keeps h) _ (withholdNotices_keeps (withholdLamp_keeps (Keeps.refl s1)))
    generalize (List.range 32).foldl withholdLink (withholdNotices (withholdLamp s1)) = s3 at k3
    have k4 : ∀ e, Keeps s1 (if s3.mgt.started then
        { s3 with mgt := { s3.mgt with nextSeq := s3.mgt.nextSeq + 1, log := lastN 65536 (s3.mgt.log ++ [e]) } } else s3) := by
      intro e; split
      · exact keeps_upd k3 rfl rfl rfl rfl rfl rfl
      · exact k3
    have k7 : ∀ e s4, Keeps s1 s4 → Keeps s1 (withholdStacks (if (withholdGarvy e s4).mgt.started then
        withholdQueues e (withholdGarvy e s4) else withholdGarvy e s4)) := by
      intro e s4 k4
      refine withholdStacks_keeps ?_
      split
      · exact withholdQueues_keeps (withholdGarvy_keeps k4)
      · exact withholdGarvy_keeps k4
    exact keeps_snuf w k1 l1 (k7 _ _ (k4 _)) hk

theorem raiseSupply_keeps {s0 : State} {n : Nat} {s : State} (hk : Keeps s0 s) : Keeps s0 (raiseSupply n s) := by
  unfold raiseSupply; repeat' first | (with_reducible assumption) | (with_reducible refine keeps_foldl _ (fun s _ _ => ?_) _ ?_) | (with_reducible apply updScn_keeps) | (with_reducible apply updWick_keeps) | split

theorem suspectEvent_keeps {s0 : State} {l : Nat} {s : State} (hk : Keeps s0 s) : Keeps s0 (suspectEvent l s) := by
  unfold suspectEvent
  extract_lets v now i again s1 i' s2
  have e2 : Keeps s0 s2 := ember_keeps (setLan_keeps hk)
  split
  · exact setLan_keeps hk
  · split
    · exact raiseSupply_keeps e2
    · exact e2

theorem countRsFail_keeps {s0 : State} {l : Nat} {s : State} (hk : Keeps s0 s) : Keeps s0 (countRsFail l s) := by
  unfold countRsFail; repeat' first | (with_reducible assumption) | (with_reducible apply setLan_keeps) | (with_reducible apply suspectEvent_keeps) | split | lift_lets | (intro x; clear_value x)

theorem sliceRedone_keeps {s0 : State} {l w : Nat} {err : List (Nat × Int)} {s : State} (hk : Keeps s0 s) : Keeps s0 (sliceRedone l w err s) := by
  unfold sliceRedone; repeat' first | (with_reducible assumption) | (fail_if_no_progress with_reducible refine keeps_upd ?_ rfl rfl rfl rfl rfl rfl) | (with_reducible apply updLan_keeps) | (with_reducible apply updRun_keeps) | (with_reducible apply ember_keeps) | (with_reducible apply countRsFail_keeps) | (with_reducible apply updWick_keeps) | (with_reducible apply withhold_keeps) | split | dsimp only

theorem journalPass_keeps {s0 : State} {c : Nat} {l lw : Nat} {flicker : Nat} {s : State} (hk : Keeps s0 s) : Keeps s0 (journalPass c l lw flicker s) := by
  unfold journalPass; repeat' first | (with_reducible assumption) | (fail_if_no_progress with_reducible refine keeps_upd ?_ rfl rfl rfl rfl rfl rfl)

theorem flagSuspect_keeps {s0 : State} {c : Nat} {l : Nat} {after upto : Nat} {s : State} (hk : Keeps s0 s) : Keeps s0 (flagSuspect c l after upto s) := by
  unfold flagSuspect; repeat' first | (with_reducible assumption) | (fail_if_no_progress with_reducible refine keeps_upd ?_ rfl rfl rfl rfl rfl rfl) | (with_reducible refine keeps_foldl _ (fun s _ _ => ?_) _ ?_) | (with_reducible apply sendNotice_keeps) | split | lift_lets | (intro x; clear_value x)

theorem noteAuditFail_keeps {s0 : State} {l : Nat} {s : State} (hk : Keeps s0 s) : Keeps s0 (noteAuditFail l s) := by
  unfold noteAuditFail; repeat' first | (with_reducible assumption) | (with_reducible apply updLan_keeps)

theorem auditFail_keeps {s0 : State} {c l pw lw flicker : Nat} {tag : W32} {s : State} (hk : Keeps s0 s) : Keeps s0 (auditFail c l pw lw flicker tag s) := by
  unfold auditFail; repeat' first | (with_reducible assumption) | (with_reducible apply flagSuspect_keeps) | (with_reducible apply updWick_keeps) | (with_reducible apply updLan_keeps) | (with_reducible apply suspectEvent_keeps) | (with_reducible apply raiseEmber_keeps) | split

theorem ledAudit_keeps {s0 : State} {c : Nat} {inst : W32} {ok : Bool} {s : State} (hk : Keeps s0 s) : Keeps s0 (ledAudit c inst ok s) := by
  unfold ledAudit; repeat' first | (with_reducible assumption) | (with_reducible apply updRel_keeps)

theorem auditDone_keeps {s0 : State} {l : Nat} {s : State} (hk : Keeps s0 s) : Keeps s0 (auditDone l s) := by
  unfold auditDone; repeat' first | (with_reducible assumption) | (with_reducible refine keeps_foldl _ (fun s _ _ => ?_) _ ?_) | (with_reducible apply setLan_keeps) | (with_reducible apply noteAuditFail_keeps) | (with_reducible apply ledAudit_keeps) | (with_reducible apply journalPass_keeps) | (with_reducible apply updWick_keeps) | (with_reducible apply auditFail_keeps) | split | intro x | dsimp only

theorem updThread_keeps {s0 : State} {l t : Nat} {f : Thread → Thread} {s : State} (hk : Keeps s0 s) : Keeps s0 (updThread l t f s) := by
  unfold updThread; repeat' first | (with_reducible assumption) | (with_reducible apply updEng_keeps)

theorem endThread_keeps {s0 : State} {l t : Nat} {s : State} (hk : Keeps s0 s) : Keeps s0 (endThread l t s) := by
  unfold endThread; repeat' first | (with_reducible assumption) | (with_reducible apply updEng_keeps)

theorem startThread_keeps {s0 : State} {l : Lan} {v : Invocation} {s : State} (hk : Keeps s0 s) : Keeps s0 (startThread l v s) := by
  unfold startThread; repeat' first | (with_reducible assumption) | (fail_if_no_progress with_reducible refine keeps_upd ?_ rfl rfl rfl rfl rfl rfl) | (with_reducible apply setEng_keeps) | split | lift_lets | (intro x; clear_value x)

theorem startWaiting_keeps {s0 : State} {l : Lan} {s : State} (hk : Keeps s0 s) : Keeps s0 (startWaiting l s) := by
  unfold startWaiting; repeat' first | (with_reducible assumption) | (with_reducible refine keeps_foldl _ (fun s _ _ => ?_) _ ?_) | (with_reducible apply startThread_keeps)

theorem startInv_keeps {s0 : State} {c : Nat} {k : Kernel} {entry : Nat} {ls : List Lan} {cmd : Option Desc} {tag : Option (W32 × W32)} {s : State} (hk : Keeps s0 s) : Keeps s0 (startInv c k entry ls cmd tag s) := by
  unfold startInv; repeat' first | (with_reducible assumption) | (fail_if_no_progress with_reducible refine keeps_upd ?_ rfl rfl rfl rfl rfl rfl) | (with_reducible refine keeps_foldl _ (fun s _ _ => ?_) _ ?_) | (with_reducible apply startWaiting_keeps)

theorem unloadCheck_keeps {s0 : State} {c : Nat} {s : State} (hk : Keeps s0 s) : Keeps s0 (unloadCheck c s) := by
  unfold unloadCheck; repeat' first | (with_reducible assumption) | (with_reducible refine keeps_foldl _ (fun s _ _ => ?_) _ ?_) | (with_reducible apply updCtx_keeps) | (with_reducible apply finish_keeps) | split

theorem stopInv_keeps {s0 : State} {id : Nat} {s : State} (hk : Keeps s0 s) : Keeps s0 (stopInv id s) := by
  unfold stopInv; repeat' first | (with_reducible assumption) | (fail_if_no_progress with_reducible refine keeps_upd ?_ rfl rfl rfl rfl rfl rfl) | (with_reducible refine keeps_foldl _ (fun s _ _ => ?_) _ ?_) | (with_reducible apply updEng_keeps) | (with_reducible apply startWaiting_keeps) | (with_reducible apply unloadCheck_keeps) | split

theorem recordFault_keeps {s0 : State} {l t cause : Nat} {s : State} (hk : Keeps s0 s) : Keeps s0 (recordFault l t cause s) := by
  unfold recordFault; repeat' first | (with_reducible assumption) | (with_reducible apply updEng_keeps) | split

theorem failInv_keeps {s0 : State} {l id : Nat} {s : State} (hk : Keeps s0 s) : Keeps s0 (failInv l id s) := by
  unfold failInv; repeat' first | (with_reducible assumption) | (with_reducible apply stopInv_keeps) | (with_reducible apply finish_keeps) | (with_reducible apply updCtx_keeps) | (with_reducible apply ember_keeps) | split

theorem customerFault_keeps {s0 : State} {l t cause : Nat} {s : State} (hk : Keeps s0 s) : Keeps s0 (customerFault l t cause s) := by
  unfold customerFault; repeat' first | (with_reducible assumption) | (with_reducible apply recordFault_keeps) | (with_reducible apply endThread_keeps) | (with_reducible apply failInv_keeps) | split

theorem stopCustomers_keeps {s0 : State} {l : Nat} {s : State} (hk : Keeps s0 s) : Keeps s0 (stopCustomers l s) := by
  unfold stopCustomers; repeat' first | (with_reducible assumption) | (with_reducible refine keeps_foldl _ (fun s _ _ => ?_) _ ?_) | (with_reducible apply customerFault_keeps) | split

theorem stopThreads_keeps {s0 : State} {l : Nat} {s : State} (hk : Keeps s0 s) : Keeps s0 (stopThreads l s) := by
  unfold stopThreads; repeat' first | (with_reducible assumption) | (with_reducible refine keeps_foldl _ (fun s _ _ => ?_) _ ?_) | (with_reducible apply recordFault_keeps) | (with_reducible apply updEng_keeps)

theorem dropSec_keeps {s0 : State} {n : Nat} {s : State} (hk : Keeps s0 s) : Keeps s0 (dropSec n s) := by
  unfold dropSec; repeat' first | (with_reducible assumption) | (fail_if_no_progress with_reducible refine keeps_upd ?_ rfl rfl rfl rfl rfl rfl) | split

theorem retag_keeps {s0 : State} {n : Nat} {s : State} (hk : Keeps s0 s) : Keeps s0 (retag n s) := by
  unfold retag; repeat' first | (with_reducible assumption) | (fail_if_no_progress with_reducible refine keeps_upd ?_ rfl rfl rfl rfl rfl rfl)

theorem putRecWick_keeps {s0 : State} {l w : Nat} {f : RecWick → RecWick} {s : State} (hk : Keeps s0 s) : Keeps s0 (putRecWick l w f s) := by
  unfold putRecWick; repeat' first | (with_reducible assumption) | (fail_if_no_progress with_reducible refine keeps_upd ?_ rfl rfl rfl rfl rfl rfl)

theorem putRecLan_keeps {s0 : State} {l : Nat} {f : RecLan → RecLan} {s : State} (hk : Keeps s0 s) : Keeps s0 (putRecLan l f s) := by
  unfold putRecLan; repeat' first | (with_reducible assumption) | (fail_if_no_progress with_reducible refine keeps_upd ?_ rfl rfl rfl rfl rfl rfl)

theorem writeSec_keeps {s0 : State} (n : Nat) (f : State → State) (hb : ∀ s, Keeps s0 s → Keeps s0 (f s)) {s : State} (hk : Keeps s0 s) : Keeps s0 (writeSec n f s) := by
  unfold writeSec; repeat' first | (with_reducible assumption) | (with_reducible apply retag_keeps) | (with_reducible apply dropSec_keeps) | (apply hb) | split

theorem updRecWick_keeps {s0 : State} {l w : Nat} {f : RecWick → RecWick} {s : State} (hk : Keeps s0 s) : Keeps s0 (updRecWick l w f s) := by
  unfold updRecWick; repeat' first | (with_reducible assumption) | (with_reducible refine writeSec_keeps _ _ (fun s _ => ?_) ?_) | (with_reducible apply putRecWick_keeps)

theorem updRecLan_keeps {s0 : State} {l : Nat} {f : RecLan → RecLan} {s : State} (hk : Keeps s0 s) : Keeps s0 (updRecLan l f s) := by
  unfold updRecLan; repeat' first | (with_reducible assumption) | (with_reducible refine writeSec_keeps _ _ (fun s _ => ?_) ?_) | (with_reducible apply putRecLan_keeps)

theorem addRecSconce_keeps {s0 : State} {n : Nat} {s : State} (hk : Keeps s0 s) : Keeps s0 (addRecSconce n s) := by
  unfold addRecSconce; repeat' first | (with_reducible assumption) | (fail_if_no_progress with_reducible refine keeps_upd ?_ rfl rfl rfl rfl rfl rfl) | (with_reducible refine writeSec_keeps _ _ (fun s _ => ?_) ?_)

theorem retireWick_keeps {s0 : State} {l w : Nat} {s : State} (hk : Keeps s0 s) : Keeps s0 (retireWick l w s) := by
  unfold retireWick; repeat' first | (with_reducible assumption) | (with_reducible apply updLan_keeps) | (with_reducible apply updRecWick_keeps) | (with_reducible apply updWick_keeps)

theorem updEpoch_keeps {s0 : State} {c : Nat} {ep : W32} {f : Epoch → Epoch} {s : State} (hk : Keeps s0 s) : Keeps s0 (updEpoch c ep f s) := by
  unfold updEpoch; repeat' first | (with_reducible assumption) | (with_reducible apply updCtx_keeps)

theorem endJob_keeps {s0 : State} {l w : Nat} {s : State} (hk : Keeps s0 s) : Keeps s0 (endJob l w s) := by
  unfold endJob; repeat' first | (with_reducible assumption) | (with_reducible apply updWick_keeps)

theorem emptyWrite_keeps {s0 : State} {l w : Nat} {s : State} (hk : Keeps s0 s) : Keeps s0 (emptyWrite l w s) := by
  unfold emptyWrite; repeat' first | (with_reducible assumption) | (with_reducible apply endJob_keeps) | (with_reducible apply setWick_keeps) | (with_reducible apply finish_keeps) | (with_reducible apply updEpoch_keeps) | (with_reducible apply updCtx_keeps) | split | lift_lets | (intro x; refine (fun hx => ?_ : Keeps s0 x → _) ?_; (on_goal 1 => clear_value x); (on_goal 2 => simp only [x])) | (intro x; clear_value x)

theorem startWrite_keeps {s0 : State} {l w : Nat} {s : State} (hk : Keeps s0 s) : Keeps s0 (startWrite l w s) := by
  unfold startWrite; repeat' first | (with_reducible assumption) | (with_reducible apply emptyWrite_keeps) | (with_reducible apply retireWick_keeps) | (with_reducible apply updWick_keeps) | (with_reducible apply setWick_keeps) | split | lift_lets | (intro x; clear_value x)

theorem startTrim_keeps {s0 : State} {l w : Nat} {s : State} (hk : Keeps s0 s) : Keeps s0 (startTrim l w s) := by
  unfold startTrim; repeat' first | (with_reducible assumption) | (with_reducible apply updWick_keeps) | (with_reducible apply updLan_keeps)

theorem kickLan_keeps {s0 : State} {l : Nat} {s : State} (hk : Keeps s0 s) : Keeps s0 (kickLan l s) := by
  unfold kickLan; repeat' first | (with_reducible assumption) | (with_reducible refine keeps_foldl _ (fun s _ _ => ?_) _ ?_) | (with_reducible apply startWrite_keeps) | (with_reducible apply startTrim_keeps) | split | lift_lets | (intro x; refine (fun hx => ?_ : Keeps s0 x → _) ?_; (on_goal 1 => clear_value x); (on_goal 2 => simp only [x])) | (intro x; clear_value x)

theorem giveJob_keeps {s0 : State} {l w : Nat} {j : Job} {ll : LLan} {lw : LWick} {ep : W32} {s : State} (hk : Keeps s0 s) : Keeps s0 (giveJob l w j ll lw ep s) := by
  unfold giveJob; repeat' first | (with_reducible assumption) | (with_reducible apply setWick_keeps)

theorem assignLan_keeps {s0 : State} {c p : Nat} {ll : LLan} {ep : W32} {j : Job} {s : State} (hk : Keeps s0 s) : Keeps s0 (assignLan c p ll ep j s) := by
  unfold assignLan; repeat' first | (with_reducible assumption) | (with_reducible refine keeps_foldl _ (fun s _ _ => ?_) _ ?_) | (with_reducible apply updLan_keeps) | (with_reducible apply updWick_keeps) | (with_reducible apply giveJob_keeps) | (with_reducible apply kickLan_keeps) | split

theorem startLookup_keeps {s0 : State} {c : Nat} {s : State} (hk : Keeps s0 s) : Keeps s0 (startLookup c s) := by
  unfold startLookup; repeat' first | (with_reducible assumption) | (with_reducible refine keeps_foldl _ (fun s _ _ => ?_) _ ?_) | (with_reducible apply assignLan_keeps) | (with_reducible apply setCtx_keeps) | split | lift_lets | (intro x; clear_value x)

theorem endLoad_keeps {s0 : State} {c : Nat} {ep : W32} {s : State} (hk : Keeps s0 s) : Keeps s0 (endLoad c ep s) := by
  unfold endLoad; repeat' first | (with_reducible assumption) | (with_reducible apply updEpoch_keeps) | (with_reducible apply complete_keeps) | (with_reducible apply startLookup_keeps) | (with_reducible apply finish_keeps) | split

theorem updLanShard_keeps {s0 : State} {c : Nat} {ep : W32} {ll : Nat} {f : Shard → Shard} {s : State} (hk : Keeps s0 s) : Keeps s0 (updLanShard c ep ll f s) := by
  unfold updLanShard; repeat' first | (with_reducible assumption) | (with_reducible apply updEpoch_keeps)

theorem loadCheck_keeps {s0 : State} {c : Nat} {ep : W32} {s : State} (hk : Keeps s0 s) : Keeps s0 (loadCheck c ep s) := by
  unfold loadCheck; repeat' first | (with_reducible assumption) | (with_reducible apply endLoad_keeps) | (with_reducible apply updEpoch_keeps) | split | lift_lets | (intro x; clear_value x)

theorem sendCurfew_keeps {s0 : State} {dst : Pkg} {ctx : W16} {b : CurfewBody} {s : State} (hk : Keeps s0 s) : Keeps s0 (sendCurfew dst ctx b s) := by
  unfold sendCurfew; repeat' first | (with_reducible assumption) | (with_reducible apply sendMsg_keeps)

theorem sendReport_keeps {s0 : State} {dst : Pkg} {ctx : W16} {q : CurfewBody} {count held : Nat} {st : Nat} {s : State} (hk : Keeps s0 s) : Keeps s0 (sendReport dst ctx q count held st s) := by
  unfold sendReport; repeat' first | (with_reducible assumption) | (with_reducible apply sendCurfew_keeps)

theorem freeRule_keeps {s0 : State} {r : HoldRule} {s : State} (hk : Keeps s0 s) : Keeps s0 (freeRule r s) := by
  unfold freeRule; repeat' first | (with_reducible assumption) | (fail_if_no_progress with_reducible refine keeps_upd ?_ rfl rfl rfl rfl rfl rfl)

theorem removeRule_keeps {s0 : State} {r : HoldRule} {to_ : Pkg} {s : State} (hk : Keeps s0 s) : Keeps s0 (removeRule r to_ s) := by
  unfold removeRule; repeat' first | (with_reducible assumption) | (with_reducible apply sendReport_keeps) | (with_reducible apply freeRule_keeps)

theorem commitEpoch_keeps {s0 : State} {c : Nat} {ep : W32} {s : State} (hk : Keeps s0 s) : Keeps s0 (commitEpoch c ep s) := by
  unfold commitEpoch; repeat' first | (with_reducible assumption) | (with_reducible apply updCtx_keeps)

theorem waveCheck_keeps {s0 : State} {c : Nat} {s : State} (hk : Keeps s0 s) : Keeps s0 (waveCheck c s) := by
  unfold waveCheck; repeat' first | (with_reducible assumption) | (with_reducible refine keeps_foldl _ (fun s _ _ => ?_) _ ?_) | (with_reducible apply updCtx_keeps) | (with_reducible apply commitEpoch_keeps) | (with_reducible apply removeRule_keeps) | split

theorem placeLan_keeps {s0 : State} {l : Nat} {s : State} (hk : Keeps s0 s) : Keeps s0 (placeLan l s) := by
  unfold placeLan; repeat' first | (with_reducible assumption) | (with_reducible refine keeps_foldl _ (fun s _ _ => ?_) _ ?_) | (with_reducible apply setWick_keeps) | (with_reducible apply updLan_keeps) | (with_reducible apply updEng_keeps) | split | lift_lets | (intro x; refine (fun hx => ?_ : Keeps s0 x → _) ?_; (on_goal 1 => clear_value x); (on_goal 2 => simp only [x]))

theorem loadPlaced_keeps {s0 : State} {l : Nat} {s : State} (hk : Keeps s0 s) : Keeps s0 (loadPlaced l s) := by
  unfold loadPlaced; repeat' first | (with_reducible assumption) | (with_reducible apply placeLan_keeps) | (with_reducible apply updEpoch_keeps) | (with_reducible apply updLan_keeps) | (with_reducible apply updLanShard_keeps) | (with_reducible apply waveCheck_keeps) | (with_reducible apply loadCheck_keeps) | split

theorem retireLan_keeps {s0 : State} {l : Nat} {s : State} (hk : Keeps s0 s) : Keeps s0 (retireLan l s) := by
  unfold retireLan; repeat' first | (with_reducible assumption) | (with_reducible refine keeps_foldl _ (fun s _ _ => ?_) _ ?_) | (with_reducible apply updWick_keeps) | (with_reducible apply updRecLan_keeps) | (with_reducible apply updLan_keeps)

theorem lanternTest_keeps {s0 : State} {l : Nat} {ll : LLan} {ep : W32} {s : State} (hk : Keeps s0 s) : Keeps s0 (lanternTest l ll ep s) := by
  unfold lanternTest; repeat' first | (with_reducible assumption) | (with_reducible refine keeps_foldl _ (fun s _ _ => ?_) _ ?_) | (with_reducible apply retireLan_keeps) | (with_reducible apply giveJob_keeps) | (with_reducible apply kickLan_keeps) | split

theorem quarantineLan_keeps {s0 : State} {l : Nat} {s : State} (hk : Keeps s0 s) : Keeps s0 (quarantineLan l s) := by
  unfold quarantineLan; repeat' first | (with_reducible assumption) | (with_reducible refine keeps_foldl _ (fun s _ _ => ?_) _ ?_) | (with_reducible apply killProbes_keeps) | (with_reducible apply stopCustomers_keeps) | (with_reducible apply updEng_keeps) | (with_reducible apply updWick_keeps) | (with_reducible apply updLan_keeps)

theorem chooseReserve_keeps {s0 : State} {c from_ : Nat} {ll : LLan} {ep : W32} {s : State} (hk : Keeps s0 s) : Keeps s0 (chooseReserve c from_ ll ep s) := by
  unfold chooseReserve; repeat' first | (with_reducible assumption) | (with_reducible apply assignLan_keeps) | (with_reducible apply withhold_keeps) | split

theorem closingAudits_keeps {s0 : State} {c l : Nat} {errs : List (Nat × List (Nat × Int))} {s : State} (hk : Keeps s0 s) : Keeps s0 (closingAudits c l errs s) := by
  unfold closingAudits; repeat' first | (with_reducible assumption) | (fail_if_no_progress with_reducible refine keeps_upd ?_ rfl rfl rfl rfl rfl rfl) | (with_reducible refine keeps_foldl _ (fun s _ _ => ?_) _ ?_) | (with_reducible apply journalPass_keeps) | (with_reducible apply flagSuspect_keeps) | split | lift_lets | (intro x; clear_value x)

theorem remapLan_keeps {s0 : State} {ll : LLan} {ep : W32} {errs : List (Nat × List (Nat × Int))} {s : State} (hk : Keeps s0 s) : Keeps s0 (remapLan ll ep errs s) := by
  unfold remapLan; repeat' first | (with_reducible assumption) | (with_reducible apply discardRuns_keeps) | (with_reducible apply closingAudits_keeps) | (with_reducible apply quarantineLan_keeps) | (with_reducible apply chooseReserve_keeps) | (with_reducible apply lanternTest_keeps) | split | lift_lets | (intro x; refine (fun hx => ?_ : Keeps s0 x → _) ?_; (on_goal 1 => clear_value x); (on_goal 2 => simp only [x])) | (intro x; clear_value x)

theorem waveStep_keeps {s0 : State} {l : Nat} {s : State} (hk : Keeps s0 s) : Keeps s0 (waveStep l s) := by
  unfold waveStep; repeat' first | (with_reducible assumption) | (with_reducible apply updLan_keeps) | (with_reducible apply remapLan_keeps) | (with_reducible apply retireWick_keeps) | (with_reducible apply kickLan_keeps) | (with_reducible apply giveJob_keeps) | split | lift_lets | (intro x; clear_value x)

theorem waveResume_keeps {s0 : State} {l : Nat} {s : State} (hk : Keeps s0 s) : Keeps s0 (waveResume l s) := by
  unfold waveResume; repeat' first | (with_reducible assumption) | (with_reducible apply waveStep_keeps) | (with_reducible apply swapAtBoundary_keeps) | split

theorem rejectLan_keeps {s0 : State} {l : Nat} {j : Job} {s : State} (hk : Keeps s0 s) : Keeps s0 (rejectLan l j s) := by
  unfold rejectLan; repeat' first | (with_reducible assumption) | (with_reducible apply quarantineLan_keeps) | (with_reducible apply updEpoch_keeps) | (with_reducible apply lanternTest_keeps) | (with_reducible apply updLan_keeps) | (with_reducible apply assignLan_keeps) | (with_reducible apply withhold_keeps) | (with_reducible apply loadCheck_keeps) | (with_reducible apply updLanShard_keeps) | split | intro x | dsimp only

theorem jobFail_keeps {s0 : State} {l w : Nat} {s : State} (hk : Keeps s0 s) : Keeps s0 (jobFail l w s) := by
  unfold jobFail; repeat' first | (with_reducible assumption) | (with_reducible apply endJob_keeps) | (with_reducible apply kickLan_keeps) | (with_reducible apply giveJob_keeps) | (with_reducible apply updLan_keeps) | (with_reducible apply rejectLan_keeps) | (with_reducible apply waveResume_keeps) | (with_reducible apply retireWick_keeps) | (with_reducible apply chooseReserve_keeps) | (with_reducible apply lanternTest_keeps) | (with_reducible apply quarantineLan_keeps) | (with_reducible apply retireLan_keeps) | split | (intro x; refine (fun hx => ?_ : Keeps s0 x → _) ?_; (on_goal 1 => clear_value x); (on_goal 2 => simp only [x])) | (intro x; refine (fun hx => ?_ : Keeps s0 x.1 → _) ?_; (on_goal 1 => clear_value x); (on_goal 2 => simp only [x])) | (intro x; refine (fun hx => ?_ : Keeps s0 x.2 → _) ?_; (on_goal 1 => clear_value x); (on_goal 2 => simp only [x])) | (intro x; clear_value x) | intro x | dsimp only

theorem reapLan_keeps {s0 : State} {l : Nat} {s : State} (hk : Keeps s0 s) : Keeps s0 (reapLan l s) := by
  unfold reapLan; repeat' first | (with_reducible assumption) | (with_reducible refine keeps_foldl _ (fun s _ _ => ?_) _ ?_) | (with_reducible apply jobFail_keeps) | split | lift_lets | (intro x; clear_value x)

theorem runLan_keeps {s0 : State} {l : Nat} {s : State} (hk : Keeps s0 s) : Keeps s0 (runLan l s) := by
  unfold runLan; repeat' first | (with_reducible assumption) | (with_reducible apply reapLan_keeps) | (with_reducible apply kickLan_keeps)

theorem jobTrimmed_keeps {s0 : State} {l w : Nat} {s : State} (hk : Keeps s0 s) : Keeps s0 (jobTrimmed l w s) := by
  unfold jobTrimmed; repeat' first | (with_reducible assumption) | (with_reducible apply updWick_keeps) | (with_reducible apply loadPlaced_keeps) | (with_reducible apply updLan_keeps) | (with_reducible apply waveResume_keeps) | (with_reducible apply endJob_keeps) | (with_reducible apply updRecWick_keeps) | (with_reducible apply waveStep_keeps) | (with_reducible apply swapAtBoundary_keeps) | (with_reducible apply waveCheck_keeps) | split | (intro x; refine (fun hx => ?_ : Keeps s0 x → _) ?_; (on_goal 1 => clear_value x); (on_goal 2 => simp only [x])) | (intro x; clear_value x) | intro x | dsimp only

theorem testPassed_keeps {s0 : State} {l : Nat} {s : State} (hk : Keeps s0 s) : Keeps s0 (testPassed l s) := by
  unfold testPassed; repeat' first | (with_reducible assumption) | (with_reducible refine keeps_foldl _ (fun s _ _ => ?_) _ ?_) | (with_reducible apply endJob_keeps) | (with_reducible apply updRecLan_keeps) | (with_reducible apply updLan_keeps)

theorem afterDriveRef_keeps {s0 : State} {l : Nat} {s : State} (hk : Keeps s0 s) : Keeps s0 (afterDriveRef l s) := by
  unfold afterDriveRef; repeat' first | (with_reducible assumption) | (with_reducible apply loadPlaced_keeps) | (with_reducible apply testPassed_keeps) | split | lift_lets | (intro x; clear_value x)

theorem earlyRemap_keeps {s0 : State} {l : Nat} {s : State} (hk : Keeps s0 s) : Keeps s0 (earlyRemap l s) := by
  unfold earlyRemap; repeat' first | (with_reducible assumption) | (with_reducible apply remapLan_keeps) | (with_reducible apply updLan_keeps) | split | lift_lets | (intro x; clear_value x)

theorem fillStore_keeps {s0 : State} {l w : Nat} {s : State} (hk : Keeps s0 s) : Keeps s0 (fillStore l w s) := by
  unfold fillStore; repeat' first | (with_reducible assumption) | (with_reducible apply setWick_keeps)

theorem countProgram_keeps {s0 : State} {l w : Nat} {s : State} (hk : Keeps s0 s) : Keeps s0 (countProgram l w s) := by
  unfold countProgram; repeat' first | (with_reducible assumption) | (with_reducible apply updWick_keeps) | (with_reducible apply ember_keeps) | split | lift_lets | (intro x; clear_value x)

theorem writeFailed_keeps {s0 : State} {l w n : Nat} {s : State} (hk : Keeps s0 s) : Keeps s0 (writeFailed l w n s) := by
  unfold writeFailed; repeat' first | (with_reducible assumption) | (with_reducible apply retireWick_keeps) | (with_reducible apply updWick_keeps) | (with_reducible apply runLan_keeps) | (with_reducible apply jobFail_keeps) | (with_reducible apply ember_keeps)

theorem writeOk_keeps {s0 : State} {l w : Nat} {res : BitVec 2} {s : State} (hk : Keeps s0 s) : Keeps s0 (writeOk l w res s) := by
  unfold writeOk; repeat' first | (with_reducible assumption) | (with_reducible apply runLan_keeps) | (with_reducible apply updWick_keeps)

theorem startRepair_keeps {s0 : State} {l w : Nat} {cols : List Nat} {s : State} (hk : Keeps s0 s) : Keeps s0 (startRepair l w cols s) := by
  unfold startRepair; repeat' first | (with_reducible assumption) | (with_reducible apply setWick_keeps)

theorem writeOver_keeps {s0 : State} {l w : Nat} {rs : Reads} {s : State} (hk : Keeps s0 s) : Keeps s0 (writeOver l w rs s) := by
  unfold writeOver; repeat' first | (with_reducible assumption) | (with_reducible apply fillStore_keeps) | (with_reducible apply updWick_keeps)

theorem writeDone_keeps {s0 : State} {l w : Nat} {rs : Reads} {s : State} (hk : Keeps s0 s) : Keeps s0 (writeDone l w rs s) := by
  unfold writeDone; repeat' first | (with_reducible assumption) | (with_reducible apply updWick_keeps) | (with_reducible apply countProgram_keeps) | (with_reducible apply writeOver_keeps) | (with_reducible apply writeFailed_keeps) | (with_reducible apply writeOk_keeps) | (with_reducible apply startRepair_keeps) | split | lift_lets | (intro x; refine (fun hx => ?_ : Keeps s0 x → _) ?_; (on_goal 1 => clear_value x); (on_goal 2 => simp only [x])) | (intro x; clear_value x)

theorem repairDone_keeps {s0 : State} {l w : Nat} {rs : Reads} {s : State} (hk : Keeps s0 s) : Keeps s0 (repairDone l w rs s) := by
  unfold repairDone; repeat' first | (with_reducible assumption) | (with_reducible apply writeOver_keeps) | (with_reducible apply updRecWick_keeps) | (with_reducible apply jobFail_keeps) | (with_reducible apply updWick_keeps) | (with_reducible apply writeOk_keeps) | (with_reducible apply writeFailed_keeps) | split | lift_lets | (intro x; refine (fun hx => ?_ : Keeps s0 x → _) ?_; (on_goal 1 => clear_value x); (on_goal 2 => simp only [x])) | (intro x; clear_value x)

theorem wrctlWrite_keeps {s0 : State} {l w : Nat} {v : W32} {s : State} (hk : Keeps s0 s) : Keeps s0 (wrctlWrite l w v s) := by
  unfold wrctlWrite; repeat' first | (with_reducible assumption) | (with_reducible apply setWick_keeps) | (with_reducible apply startWrite_keeps) | split | lift_lets | (intro x; clear_value x)

theorem startRb_keeps {s0 : State} {l w : Nat} {s : State} (hk : Keeps s0 s) : Keeps s0 (startRb l w s) := by
  unfold startRb; repeat' first | (with_reducible assumption) | (with_reducible apply updWick_keeps)

theorem rbctlWrite_keeps {s0 : State} {l w : Nat} {v : W32} {s : State} (hk : Keeps s0 s) : Keeps s0 (rbctlWrite l w v s) := by
  unfold rbctlWrite; repeat' first | (with_reducible assumption) | (with_reducible apply startRb_keeps) | (with_reducible apply setWick_keeps) | split | lift_lets | (intro x; clear_value x)

theorem kickAdopt_keeps {s0 : State} {l : Nat} {s : State} (hk : Keeps s0 s) : Keeps s0 (kickAdopt l s) := by
  unfold kickAdopt; repeat' first | (with_reducible assumption) | (with_reducible refine keeps_foldl _ (fun s _ _ => ?_) _ ?_) | (with_reducible apply startRb_keeps)

theorem adoptGiveUp_keeps {s0 : State} {l : Nat} {st : W16} {s : State} (hk : Keeps s0 s) : Keeps s0 (adoptGiveUp l st s) := by
  unfold adoptGiveUp; repeat' first | (with_reducible assumption) | (with_reducible refine keeps_foldl _ (fun s _ _ => ?_) _ ?_) | (with_reducible apply updWick_keeps) | (with_reducible apply updLan_keeps) | (with_reducible apply loadCheck_keeps) | (with_reducible apply updEpoch_keeps)

theorem adoptMap_keeps {s0 : State} {l : Nat} {ll : LLan} {ep : W32} {strict : Bool} {s : State} (hk : Keeps s0 s) : Keeps s0 (adoptMap l ll ep strict s) := by
  unfold adoptMap; repeat' first | (with_reducible assumption) | (with_reducible refine keeps_foldl _ (fun s _ _ => ?_) _ ?_) | (with_reducible apply fillStore_keeps) | (with_reducible apply giveJob_keeps) | (with_reducible apply adoptGiveUp_keeps) | (with_reducible apply updWick_keeps) | (with_reducible apply updLan_keeps) | (with_reducible apply rejectLan_keeps) | (with_reducible apply kickLan_keeps) | split | (intro x; refine (fun hx => ?_ : Keeps s0 x → _) ?_; (on_goal 1 => clear_value x); (on_goal 2 => simp only [x])) | (intro x; clear_value x) | intro x | dsimp only

theorem adoptCheck_keeps {s0 : State} {l : Nat} {s : State} (hk : Keeps s0 s) : Keeps s0 (adoptCheck l s) := by
  unfold adoptCheck; repeat' first | (with_reducible assumption) | (with_reducible apply adoptMap_keeps) | (with_reducible apply kickAdopt_keeps) | split | lift_lets | (intro x; clear_value x)

theorem readbackDone_keeps {s0 : State} {l w : Nat} {s : State} (hk : Keeps s0 s) : Keeps s0 (readbackDone l w s) := by
  unfold readbackDone; repeat' first | (with_reducible assumption) | (with_reducible apply setWick_keeps) | (with_reducible apply adoptCheck_keeps) | (with_reducible apply updWick_keeps) | (with_reducible apply earlyRemap_keeps) | (with_reducible apply auditFail_keeps) | (with_reducible apply noteAuditFail_keeps) | split | lift_lets | (intro x; clear_value x)

theorem lookupConfirm_keeps {s0 : State} {l w col : Nat} {s : State} (hk : Keeps s0 s) : Keeps s0 (lookupConfirm l w col s) := by
  unfold lookupConfirm; repeat' first | (with_reducible assumption) | (with_reducible apply updLan_keeps) | split | lift_lets | (intro x; clear_value x)

theorem liveChange_keeps {s0 : State} {l w kind pc : Nat} {d : Int} {s : State} (hk : Keeps s0 s) : Keeps s0 (liveChange l w kind pc d s) := by
  unfold liveChange; repeat' first | (with_reducible assumption) | (with_reducible apply updWick_keeps) | (with_reducible apply setLan_keeps) | split | lift_lets | (intro x; clear_value x)

theorem liveWick_keeps {s0 : State} {l key n : Nat} {s : State} {lw : Nat} (hk : Keeps s0 s) : Keeps s0 (liveWick l key n s lw) := by
  unfold liveWick; repeat' first | (with_reducible assumption) | (with_reducible refine keeps_foldl _ (fun s _ _ => ?_) _ ?_) | (with_reducible apply updLan_keeps) | (with_reducible apply liveChange_keeps) | (with_reducible apply updWick_keeps) | split | lift_lets | (intro x; clear_value x)

theorem momentEnd_keeps {s0 : State} {l key : Nat} {s : State} (hk : Keeps s0 s) : Keeps s0 (momentEnd l key s) := by
  unfold momentEnd; repeat' first | (with_reducible assumption) | (with_reducible refine keeps_foldl _ (fun s _ _ => ?_) _ ?_) | (with_reducible apply earlyRemap_keeps) | (with_reducible apply updLan_keeps) | (with_reducible apply liveWick_keeps) | split | lift_lets | (intro x; clear_value x)

theorem rotate_keeps {s0 : State} {l : Nat} {s : State} (hk : Keeps s0 s) : Keeps s0 (rotate l s) := by
  unfold rotate; repeat' first | (with_reducible assumption) | (with_reducible apply retireWick_keeps) | (with_reducible apply runLan_keeps) | (with_reducible apply giveJob_keeps) | (with_reducible apply setLan_keeps) | (with_reducible apply earlyRemap_keeps) | split | dsimp only

theorem trimCorrect_keeps {s0 : State} {l w : Nat} {s : State} (hk : Keeps s0 s) : Keeps s0 (trimCorrect l w s) := by
  unfold trimCorrect; repeat' first | (with_reducible assumption) | (with_reducible refine keeps_foldl _ (fun s _ _ => ?_) _ ?_) | (with_reducible apply trimApply_keeps) | split | lift_lets | (intro x; clear_value x)

theorem tryDr_keeps {s0 : State} {l : Nat} {s : State} (hk : Keeps s0 s) : Keeps s0 (tryDr l s) := by
  unfold tryDr; repeat' first | (with_reducible assumption) | (with_reducible apply drBegin_keeps) | (with_reducible apply setLan_keeps) | split | lift_lets | (intro x; clear_value x)

theorem trimPass_keeps {s0 : State} {l w : Nat} {s : State} (hk : Keeps s0 s) : Keeps s0 (trimPass l w s) := by
  unfold trimPass; repeat' first | (with_reducible assumption) | (with_reducible apply updWick_keeps) | (with_reducible apply updLan_keeps) | (with_reducible apply tryDr_keeps) | (with_reducible apply runLan_keeps) | (with_reducible apply jobTrimmed_keeps)

theorem trimFail_keeps {s0 : State} {l w : Nat} {cols : List Nat} {s : State} (hk : Keeps s0 s) : Keeps s0 (trimFail l w cols s) := by
  unfold trimFail; repeat' first | (with_reducible assumption) | (with_reducible apply updLan_keeps) | (with_reducible apply updWick_keeps) | (with_reducible apply suspectEvent_keeps) | (with_reducible apply earlyRemap_keeps) | (with_reducible apply tryDr_keeps) | (with_reducible apply runLan_keeps) | (with_reducible apply startRepair_keeps) | (with_reducible apply jobFail_keeps) | split | intro x | dsimp only

theorem trimWindow_keeps {s0 : State} {l : Nat} {s : State} (hk : Keeps s0 s) : Keeps s0 (trimWindow l s) := by
  unfold trimWindow; repeat' first | (with_reducible assumption) | (with_reducible apply updWick_keeps) | (with_reducible apply updLan_keeps) | (with_reducible apply trimCorrect_keeps) | (with_reducible apply trimPass_keeps) | (with_reducible apply trimFail_keeps) | split | lift_lets | (intro x; clear_value x)

theorem drDone_keeps {s0 : State} {l : Nat} {s : State} (hk : Keeps s0 s) : Keeps s0 (drDone l s) := by
  unfold drDone; repeat' first | (with_reducible assumption) | (with_reducible apply setLan_keeps) | (with_reducible apply ember_keeps) | (with_reducible apply runLan_keeps) | (with_reducible apply afterDriveRef_keeps) | split | lift_lets | (intro x; clear_value x)

theorem writeRecord_keeps {s0 : State} {s : State} (hk : Keeps s0 s) : Keeps s0 (writeRecord s) := by
  unfold writeRecord; repeat' first | (with_reducible assumption) | (fail_if_no_progress with_reducible refine keeps_upd ?_ rfl rfl rfl rfl rfl rfl) | (with_reducible refine keeps_foldl _ (fun s _ _ => ?_) _ ?_) | (with_reducible apply dropSec_keeps) | (with_reducible apply putRecWick_keeps) | (with_reducible apply putRecLan_keeps) | (with_reducible apply retag_keeps)

theorem deviceRecord_keeps {s0 : State} {s : State} (hk : Keeps s0 s) : Keeps s0 (deviceRecord s) := by
  unfold deviceRecord; repeat' first | (with_reducible assumption) | (with_reducible apply writeRecord_keeps) | split

theorem lanBegin_keeps {s0 : State} {s : State} {l : Nat} (hk : Keeps s0 s) : Keeps s0 (lanBegin s l) := by
  unfold lanBegin; repeat' first | (with_reducible assumption) | (with_reducible apply atBoundary_keeps) | (with_reducible apply tryDr_keeps) | (with_reducible apply drBegin_keeps) | (with_reducible apply drawTrim_keeps) | split | lift_lets | (intro x; refine (fun hx => ?_ : Keeps s0 x → _) ?_; (on_goal 1 => clear_value x); (on_goal 2 => simp only [x])) | (intro x; clear_value x)

theorem flickerBegin_keeps {s0 : State} {s : State} (hk : Keeps s0 s) : Keeps s0 (flickerBegin s) := by
  unfold flickerBegin; repeat' first | (with_reducible assumption) | (fail_if_no_progress with_reducible refine keeps_upd ?_ rfl rfl rfl rfl rfl rfl) | (with_reducible refine keeps_foldl _ (fun s _ _ => ?_) _ ?_) | (with_reducible apply lanBegin_keeps) | split

theorem flickerLaunch_keeps {s0 : State} {s : State} (hk : Keeps s0 s) : Keeps s0 (flickerLaunch s) := by
  unfold flickerLaunch; repeat' first | (with_reducible assumption) | (fail_if_no_progress with_reducible refine keeps_upd ?_ rfl rfl rfl rfl rfl rfl) | (with_reducible refine keeps_foldl _ (fun s _ _ => ?_) _ ?_) | (with_reducible apply countLaunch_keeps) | (with_reducible apply launch_keeps)

theorem enqueueFlare_keeps {s0 : State} {c : Nat} {r : FlareReq} {s : State} (hk : Keeps s0 s) : Keeps s0 (enqueueFlare c r s) := by
  unfold enqueueFlare; repeat' first | (with_reducible assumption) | (with_reducible apply updLctx_keeps)

theorem admitStalled_keeps {s0 : State} {s : State} {p : Nat × Nat} (hk : Keeps s0 s) : Keeps s0 (admitStalled s p) := by
  unfold admitStalled; repeat' first | (with_reducible assumption) | (with_reducible apply updThread_keeps) | (with_reducible apply enqueueFlare_keeps) | split

theorem flickerPlan_keeps {s0 : State} {draws : List Lan} {s : State} (hk : Keeps s0 s) : Keeps s0 (flickerPlan draws s) := by
  unfold flickerPlan; repeat' first | (with_reducible assumption) | (with_reducible refine keeps_foldl _ (fun s _ _ => ?_) _ ?_) | (with_reducible apply selectFor_keeps) | (with_reducible apply fillFor_keeps) | (with_reducible apply admitStalled_keeps) | split

theorem countStall_keeps {s0 : State} {s : State} {l : Nat} (hk : Keeps s0 s) : Keeps s0 (countStall s l) := by
  unfold countStall; repeat' first | (with_reducible assumption) | (with_reducible apply updEng_keeps) | split | lift_lets | (intro x; clear_value x)

theorem flickerEnd_keeps {s0 : State} {s : State} (hk : Keeps s0 s) : Keeps s0 (flickerEnd s) := by
  unfold flickerEnd; exact (keeps_foldl _ (fun s _ h => countStall_keeps h) _ hk).trans ⟨rfl, id, id, id, fun _ => rfl, le_rfl, le_rfl, Nat.le_add_right _ _⟩

theorem doFlicker_keeps {s0 : State} {draws : List Lan} {s : State} (hk : Keeps s0 s) : Keeps s0 (doFlicker draws s) := by
  unfold doFlicker; repeat' first | (with_reducible assumption) | (with_reducible apply flickerEnd_keeps) | (with_reducible apply flickerPlan_keeps) | (with_reducible apply flickerLaunch_keeps) | (with_reducible apply flickerBegin_keeps) | split

theorem doFlareBoundary_keeps {s0 : State} {l : Nat} {s : State} (hk : Keeps s0 s) : Keeps s0 (doFlareBoundary l s) := by
  unfold doFlareBoundary; repeat' first | (with_reducible assumption) | (with_reducible apply atBoundary_keeps) | split

theorem stormEnd_keeps {s0 : State} {s : State} {c : Nat} (hk : Keeps s0 s) : Keeps s0 (stormEnd s c) := by
  unfold stormEnd; repeat' first | (with_reducible assumption) | (fail_if_no_progress with_reducible refine keeps_upd ?_ rfl rfl rfl rfl rfl rfl) | (with_reducible apply updLctx_keeps) | (with_reducible apply ember_keeps) | split | lift_lets | (intro x; clear_value x)

theorem doBudgetWindow_keeps {s0 : State} {meas : Nat} {s : State} (hk : Keeps s0 s) : Keeps s0 (doBudgetWindow meas s) := by
  unfold doBudgetWindow; repeat' first | (with_reducible assumption) | (fail_if_no_progress with_reducible refine keeps_upd ?_ rfl rfl rfl rfl rfl rfl) | (with_reducible refine keeps_foldl _ (fun s _ _ => ?_) _ ?_) | (with_reducible apply stormEnd_keeps) | split

theorem doCutEpoch_keeps {s0 : State} {hot : BitVec 9} {energy : Nat} {s : State} (hk : Keeps s0 s) : Keeps s0 (doCutEpoch hot energy s) := by
  unfold doCutEpoch; repeat' first | (with_reducible assumption) | (fail_if_no_progress with_reducible refine keeps_upd ?_ rfl rfl rfl rfl rfl rfl) | (with_reducible apply ember_keeps) | split | lift_lets | (intro x; clear_value x)

theorem doLmpCfg_keeps {s0 : State} {v : W32} {s : State} (hk : Keeps s0 s) : Keeps s0 (doLmpCfg v s) := by
  unfold doLmpCfg; repeat' first | (with_reducible assumption) | (fail_if_no_progress with_reducible refine keeps_upd ?_ rfl rfl rfl rfl rfl rfl) | split | dsimp only

theorem pwrCfgErr_keeps {s0 : State} {s : State} (hk : Keeps s0 s) : Keeps s0 (pwrCfgErr s) := by
  unfold pwrCfgErr; repeat' first | (with_reducible assumption) | (fail_if_no_progress with_reducible refine keeps_upd ?_ rfl rfl rfl rfl rfl rfl)

theorem noteQuant_keeps {s0 : State} {l : Nat} {ep : W32} {x : Slot} {s : State} (hk : Keeps s0 s) : Keeps s0 (noteQuant l ep x s) := by
  unfold noteQuant; repeat' first | (with_reducible assumption) | (with_reducible apply updEng_keeps) | split

theorem blockRetried_keeps {s0 : State} {src : Nat} {c : Option W16} {s : State} (hk : Keeps s0 s) : Keeps s0 (blockRetried src c s) := by
  unfold blockRetried; repeat' first | (with_reducible assumption) | (fail_if_no_progress with_reducible refine keeps_upd ?_ rfl rfl rfl rfl rfl rfl) | (with_reducible apply ember_keeps)

theorem blockTwice_keeps {s0 : State} {s : State} (hk : Keeps s0 s) : Keeps s0 (blockTwice s) := by
  unfold blockTwice; repeat' first | (with_reducible assumption) | (fail_if_no_progress with_reducible refine keeps_upd ?_ rfl rfl rfl rfl rfl rfl)

theorem blockLost_keeps {s0 : State} {l : Nat} {s : State} (hk : Keeps s0 s) : Keeps s0 (blockLost l s) := by
  unfold blockLost; repeat' first | (with_reducible assumption) | (with_reducible apply withhold_keeps) | (with_reducible apply blockTwice_keeps)

theorem takeBlock_keeps {s0 : State} {l : Lan} {b : InBlock} {good : Bool} {s : State} (hk : Keeps s0 s) : Keeps s0 (takeBlock l b good s) := by
  unfold takeBlock; repeat' first | (with_reducible assumption) | (fail_if_no_progress with_reducible refine keeps_upd ?_ rfl rfl rfl rfl rfl rfl) | (with_reducible apply setLan_keeps) | (with_reducible apply noteQuant_keeps) | (with_reducible apply blockRetried_keeps) | (with_reducible apply blockLost_keeps) | split | lift_lets | (intro x; clear_value x)

theorem drainBroadcasts_keeps {s0 : State} {s : State} (hk : Keeps s0 s) : Keeps s0 (drainBroadcasts s) := by
  unfold drainBroadcasts; repeat' first | (with_reducible assumption) | (fail_if_no_progress with_reducible refine keeps_upd ?_ rfl rfl rfl rfl rfl rfl) | (with_reducible refine keeps_foldl _ (fun s _ _ => ?_) _ ?_) | (with_reducible apply takeBlock_keeps)

theorem updCv_keeps {s0 : State} {n : Nat} {f : MonCv → MonCv} {s : State} (hk : Keeps s0 s) : Keeps s0 (updCv n f s) := by
  unfold updCv; repeat' first | (with_reducible assumption) | (fail_if_no_progress with_reducible refine keeps_upd ?_ rfl rfl rfl rfl rfl rfl)

theorem diodeSample_keeps {s0 : State} {d : Nat} {code : BitVec 12} {s : State} (hk : Keeps s0 s) : Keeps s0 (diodeSample d code s) := by
  unfold diodeSample; repeat' first | (with_reducible assumption) | (fail_if_no_progress with_reducible refine keeps_upd ?_ rfl rfl rfl rfl rfl rfl) | (with_reducible apply withhold_keeps) | split | lift_lets | (intro x; clear_value x)

theorem inputSample_keeps {s0 : State} {e : SeqEntry} {code : BitVec 12} {clamped : Bool} {s : State} (hk : Keeps s0 s) : Keeps s0 (inputSample e code clamped s) := by
  unfold inputSample; repeat' first | (with_reducible assumption) | (fail_if_no_progress with_reducible refine keeps_upd ?_ rfl rfl rfl rfl rfl rfl) | (with_reducible apply diodeSample_keeps) | split | lift_lets | (intro x; clear_value x)

theorem conversionDone_keeps {s0 : State} {n : Nat} {level err : Int} {s : State} (hk : Keeps s0 s) : Keeps s0 (conversionDone n level err s) := by
  unfold conversionDone; repeat' first | (with_reducible assumption) | (fail_if_no_progress with_reducible refine keeps_upd ?_ rfl rfl rfl rfl rfl rfl) | (with_reducible apply updCv_keeps) | (with_reducible apply inputSample_keeps) | split | lift_lets | (intro x; clear_value x)

theorem supplyUrgent_keeps {s0 : State} {p : Nat} {s : State} (hk : Keeps s0 s) : Keeps s0 (supplyUrgent p s) := by
  unfold supplyUrgent; repeat' first | (with_reducible assumption) | (with_reducible apply updCv_keeps)

theorem monUrg_keeps {s0 : State} {gov : Bool} {v : W32} {s : State} (hk : Keeps s0 s) : Keeps s0 (monUrg gov v s) := by
  unfold monUrg; repeat' first | (with_reducible assumption) | (fail_if_no_progress with_reducible refine keeps_upd ?_ rfl rfl rfl rfl rfl rfl) | (with_reducible apply updCv_keeps) | split

theorem monCvWrite_keeps {s0 : State} {n : Nat} {v : W32} {s : State} (hk : Keeps s0 s) : Keeps s0 (monCvWrite n v s) := by
  unfold monCvWrite; repeat' first | (with_reducible assumption) | (with_reducible apply updCv_keeps)

theorem winFault_keeps {s0 : State} {s : State} (hk : Keeps s0 s) : Keeps s0 (winFault s) := by
  unfold winFault; repeat' first | (with_reducible assumption) | (fail_if_no_progress with_reducible refine keeps_upd ?_ rfl rfl rfl rfl rfl rfl)

theorem xbrCfgErr_keeps {s0 : State} {s : State} (hk : Keeps s0 s) : Keeps s0 (xbrCfgErr s) := by
  unfold xbrCfgErr; repeat' first | (with_reducible assumption) | (fail_if_no_progress with_reducible refine keeps_upd ?_ rfl rfl rfl rfl rfl rfl)

theorem ownSconce_keeps {s0 : State} {n : Nat} {c : CtxI} {s : State} (hk : Keeps s0 s) : Keeps s0 (ownSconce n c s) := by
  unfold ownSconce; repeat' first | (with_reducible assumption) | (with_reducible refine keeps_foldl _ (fun s _ _ => ?_) _ ?_) | (with_reducible apply updScn_keeps) | (with_reducible apply updStk_keeps) | (with_reducible apply updLan_keeps)

theorem freeSconce_keeps {s0 : State} {n : Nat} {s : State} (hk : Keeps s0 s) : Keeps s0 (freeSconce n s) := by
  unfold freeSconce; repeat' first | (with_reducible assumption) | (with_reducible refine keeps_foldl _ (fun s _ _ => ?_) _ ?_) | (with_reducible apply updScn_keeps) | (with_reducible apply updLan_keeps)

theorem scnOwn_keeps {s0 : State} {n : Nat} {v : W32} {s : State} (hk : Keeps s0 s) : Keeps s0 (scnOwn n v s) := by
  unfold scnOwn; repeat' first | (with_reducible assumption) | (with_reducible apply xbrCfgErr_keeps) | (with_reducible apply ownSconce_keeps) | (with_reducible apply freeSconce_keeps) | split | lift_lets | (intro x; clear_value x)

theorem slotmapWrite_keeps {s0 : State} {k : Nat} {v : W32} {s : State} (hk : Keeps s0 s) : Keeps s0 (slotmapWrite k v s) := by
  unfold slotmapWrite; repeat' first | (with_reducible assumption) | (fail_if_no_progress with_reducible refine keeps_upd ?_ rfl rfl rfl rfl rfl rfl) | (with_reducible apply xbrCfgErr_keeps) | split | lift_lets | (intro x; clear_value x)

theorem crossbarFrame_keeps {s0 : State} {s : State} (hk : Keeps s0 s) : Keeps s0 (crossbarFrame s) := by
  unfold crossbarFrame; repeat' first | (with_reducible assumption) | (fail_if_no_progress with_reducible refine keeps_upd ?_ rfl rfl rfl rfl rfl rfl) | (with_reducible apply drainBroadcasts_keeps)

theorem startOverwrite_keeps {s0 : State} {n : Nat} {s : State} (hk : Keeps s0 s) : Keeps s0 (startOverwrite n s) := by
  unfold startOverwrite; repeat' first | (with_reducible assumption) | (with_reducible apply updScn_keeps) | (with_reducible apply updStk_keeps)

theorem trainCheck_keeps {s0 : State} {s : State} (hk : Keeps s0 s) : Keeps s0 (trainCheck s) := by
  unfold trainCheck; repeat' first | (with_reducible assumption) | (fail_if_no_progress with_reducible refine keeps_upd ?_ rfl rfl rfl rfl rfl rfl) | split

theorem trainingDone_keeps {s0 : State} {n : Nat} {r : TrainResult} {rep : Nat} {s : State} (hk : Keeps s0 s) : Keeps s0 (trainingDone n r rep s) := by
  unfold trainingDone; repeat' first | (with_reducible assumption) | (with_reducible apply startOverwrite_keeps) | (with_reducible apply updStk_keeps) | (with_reducible apply trainCheck_keeps) | (with_reducible apply ember_keeps) | (with_reducible apply addRecSconce_keeps) | split

theorem patrolPass_keeps {s0 : State} {n corrected : Nat} {bad : List Nat} {s : State} (hk : Keeps s0 s) : Keeps s0 (patrolPass n corrected bad s) := by
  unfold patrolPass; repeat' first | (with_reducible assumption) | (with_reducible refine keeps_foldl _ (fun s _ _ => ?_) _ ?_) | (with_reducible apply updStk_keeps) | (with_reducible apply ember_keeps) | split

theorem sliceClear_keeps {s0 : State} {n : Nat} {s : State} (hk : Keeps s0 s) : Keeps s0 (sliceClear n s) := by
  unfold sliceClear; dsimp only; split
  · exact startOverwrite_keeps (keeps_mem hk (fun h => zeroRange_wf (zeroRange_wf h)))
  · exact hk

theorem scrubCheck_keeps {s0 : State} {d : Option Desc} {s : State} (hk : Keeps s0 s) : Keeps s0 (scrubCheck d s) := by
  unfold scrubCheck; repeat' first | (with_reducible assumption) | (with_reducible apply finish_keeps) | split

theorem overwriteDone_keeps {s0 : State} {n : Nat} {s : State} (hk : Keeps s0 s) : Keeps s0 (overwriteDone n s) := by
  unfold overwriteDone; dsimp only; split
  · exact scrubCheck_keeps (updScn_keeps (updStk_keeps (keeps_mem hk (fun h => zeroRange_wf h))))
  · exact hk

theorem retireSconce_keeps {s0 : State} {n : Nat} {s : State} (hk : Keeps s0 s) : Keeps s0 (retireSconce n s) := by
  unfold retireSconce; repeat' first | (with_reducible assumption) | (with_reducible refine keeps_foldl _ (fun s _ _ => ?_) _ ?_) | (with_reducible apply remapLan_keeps) | (with_reducible apply updScn_keeps) | (with_reducible apply ember_keeps) | (with_reducible apply addRecSconce_keeps) | split

theorem pllLock_keeps {s0 : State} {brdHigh : Bool} {s : State} (hk : Keeps s0 s) : Keeps s0 (pllLock brdHigh s) := by
  unfold pllLock; repeat' first | (with_reducible assumption) | (fail_if_no_progress with_reducible refine keeps_upd ?_ rfl rfl rfl rfl rfl rfl) | split

theorem bootStop_keeps {s0 : State} {st : BitVec 4} {s : State} (hk : Keeps s0 s) : Keeps s0 (bootStop st s) := by
  exact hk.trans ⟨rfl, id, fun _ => rfl, fun _ _ => rfl, fun _ => rfl, le_rfl, le_rfl, le_rfl⟩

theorem bootRun_keeps {s0 : State} {b : BootInput} {slotB : Bool} {i : FwImage} {c : ConfigBlock} {s : State} (hk : Keeps s0 s) : Keeps s0 (bootRun b slotB i c s) := by
  unfold bootRun; repeat' first | (with_reducible assumption) | (fail_if_no_progress with_reducible refine keeps_upd ?_ rfl rfl rfl rfl rfl rfl) | (with_reducible refine keeps_foldl _ (fun s _ _ => ?_) _ ?_) | (with_reducible apply freeWords_keeps) | (with_reducible apply updStk_keeps) | (with_reducible apply ember_keeps)

theorem violate_keeps {s0 : State} {v : Nat} {s : State} (hk : Keeps s0 s) : Keeps s0 (violate v s) := by
  unfold violate; repeat' first | (with_reducible assumption) | (fail_if_no_progress with_reducible refine keeps_upd ?_ rfl rfl rfl rfl rfl rfl) | (with_reducible apply withhold_keeps)

theorem bootRom_keeps {s0 : State} {b : BootInput} {s : State} (hk : Keeps s0 s) : Keeps s0 (bootRom b s) := by
  unfold bootRom
  have e : Keeps s0 { s with clk := { s.clk with aclk := s.clk.aclk + 3 * b.cclk } } :=
    hk.trans ⟨rfl, id, id, id, fun _ => rfl, le_rfl, le_rfl, Nat.le_add_right _ _⟩
  split
  · extract_lets p0 s1 p1 s2
    split
    · exact violate_keeps e
    · have e2 : Keeps s0 s2 := keeps_upd e rfl rfl rfl rfl rfl rfl
      split
      · exact bootStop_keeps e2
      · have e3 : ∀ r k, Keeps s0 { s2 with sec := { s2.sec with root := r, keys := k } } := fun _ _ => keeps_upd e2 rfl rfl rfl rfl rfl rfl
        repeat' first | exact bootStop_keeps (e3 _ _) | exact bootRun_keeps (e3 _ _) | exact e3 _ _ | split
  · exact hk

theorem raiseFloors_keeps {s0 : State} {s : State} (hk : Keeps s0 s) : Keeps s0 (raiseFloors s) := by
  unfold raiseFloors
  have up : ∀ (old : W32) (n : Option W32), old.toNat ≤ (match n with | none => old | some x => if old < x then x else old : W32).toNat := by
    intro old n; cases n with
    | none => exact le_rfl
    | some x => dsimp only; split
                · rename_i q; exact Nat.le_of_lt q
                · exact le_rfl
  split
  · exact hk.trans ⟨rfl, id, id, id, fun _ => rfl, up _ _, up _ _, le_rfl⟩
  · exact hk

theorem countDip_keeps {s0 : State} {p : Nat} {s : State} (hk : Keeps s0 s) : Keeps s0 (countDip p s) := by
  unfold countDip; repeat' first | (with_reducible assumption) | (fail_if_no_progress with_reducible refine keeps_upd ?_ rfl rfl rfl rfl rfl rfl) | (with_reducible apply ember_keeps) | (with_reducible apply withhold_keeps) | split | lift_lets | (intro x; clear_value x)

theorem supplyWarning_keeps {s0 : State} {p : Nat} {s : State} (hk : Keeps s0 s) : Keeps s0 (supplyWarning p s) := by
  unfold supplyWarning; repeat' first | (with_reducible assumption) | (fail_if_no_progress with_reducible refine keeps_upd ?_ rfl rfl rfl rfl rfl rfl) | (with_reducible apply countDip_keeps) | (with_reducible apply freeze_keeps) | (with_reducible apply supplyUrgent_keeps) | split

theorem supplyRecovery_keeps {s0 : State} {p : Nat} {s : State} (hk : Keeps s0 s) : Keeps s0 (supplyRecovery p s) := by
  unfold supplyRecovery; repeat' first | (with_reducible assumption) | (fail_if_no_progress with_reducible refine keeps_upd ?_ rfl rfl rfl rfl rfl rfl) | split | dsimp only

theorem kickAll_keeps {s0 : State} {s : State} (hk : Keeps s0 s) : Keeps s0 (kickAll s) := by
  unfold kickAll; repeat' first | (with_reducible assumption) | (with_reducible refine keeps_foldl _ (fun s _ _ => ?_) _ ?_) | (with_reducible apply tryDr_keeps) | (with_reducible apply runLan_keeps)

theorem freezeResume_keeps {s0 : State} {s : State} (hk : Keeps s0 s) : Keeps s0 (freezeResume s) := by
  unfold freezeResume; repeat' first | (with_reducible assumption) | (fail_if_no_progress with_reducible refine keeps_upd ?_ rfl rfl rfl rfl rfl rfl) | (with_reducible refine keeps_foldl _ (fun s _ _ => ?_) _ ?_) | (with_reducible apply raiseSupply_keeps) | (with_reducible apply kickAll_keeps) | split

theorem supplyFault_keeps {s0 : State} {kind : BitVec 2} {p : Nat} {s : State} (hk : Keeps s0 s) : Keeps s0 (supplyFault kind p s) := by
  unfold supplyFault; repeat' first | (with_reducible assumption) | (fail_if_no_progress with_reducible refine keeps_upd ?_ rfl rfl rfl rfl rfl rfl) | (with_reducible apply withhold_keeps) | (with_reducible apply supplyUrgent_keeps)

theorem halfWrite_keeps {s0 : State} {east : Bool} {v : W32} {s : State} (hk : Keeps s0 s) : Keeps s0 (halfWrite east v s) := by
  unfold halfWrite; repeat' first | (with_reducible assumption) | (fail_if_no_progress with_reducible refine keeps_upd ?_ rfl rfl rfl rfl rfl rfl) | split | dsimp only

theorem dividerTrim_keeps {s0 : State} {l : Nat} {s : State} (hk : Keeps s0 s) : Keeps s0 (dividerTrim l s) := by
  unfold dividerTrim; repeat' first | (with_reducible assumption) | (with_reducible apply killProbes_keeps) | (with_reducible apply updWick_keeps) | (with_reducible apply updLan_keeps) | split | lift_lets | (intro x; clear_value x)

theorem dividerApply_keeps {s0 : State} {s : State} (hk : Keeps s0 s) : Keeps s0 (dividerApply s) := by
  unfold dividerApply; repeat' first | (with_reducible assumption) | (fail_if_no_progress with_reducible refine keeps_upd ?_ rfl rfl rfl rfl rfl rfl) | (with_reducible refine keeps_foldl _ (fun s _ _ => ?_) _ ?_) | (with_reducible apply updLink_keeps) | (with_reducible apply dividerTrim_keeps) | (with_reducible apply kickAll_keeps) | split

theorem fabStat_keeps {s0 : State} {p i : Nat} {s : State} (hk : Keeps s0 s) : Keeps s0 (fabStat p i s) := by
  unfold fabStat; repeat' first | (with_reducible assumption) | (with_reducible apply updPort_keeps)

theorem nbrChange_keeps {s0 : State} {k : Nat} {f : Neighbour → Neighbour} {s : State} (hk : Keeps s0 s) : Keeps s0 (nbrChange k f s) := by
  unfold nbrChange; repeat' first | (with_reducible assumption) | (with_reducible apply freeWords_keeps) | (with_reducible apply notify_keeps) | (with_reducible apply updNbr_keeps) | split | lift_lets | (intro x; clear_value x)

theorem drawNonce_keeps {s0 : State} {s : State} (hk : Keeps s0 s) : Keeps s0 (drawNonce s).2 := by
  unfold drawNonce; repeat' first | (with_reducible assumption) | (with_reducible apply drawRandom_keeps)

theorem linkPutFront_keeps {s0 : State} {k : Nat} {m : Msg} {s : State} (hk : Keeps s0 s) : Keeps s0 (linkPutFront k m s) := by
  unfold linkPutFront; repeat' first | (with_reducible assumption) | (with_reducible apply updLink_keeps)

theorem egressFront_keeps {s0 : State} {m : Msg} {s : State} (hk : Keeps s0 s) : Keeps s0 (egressFront m s) := by
  unfold egressFront; repeat' first | (with_reducible assumption) | (with_reducible apply linkPutFront_keeps) | (with_reducible apply egress_keeps) | split

theorem retryHeld_keeps {s0 : State} {s : State} (hk : Keeps s0 s) : Keeps s0 (retryHeld s) := by
  unfold retryHeld; repeat' first | (with_reducible assumption) | (fail_if_no_progress with_reducible refine keeps_upd ?_ rfl rfl rfl rfl rfl rfl) | (with_reducible refine keeps_foldl _ (fun s _ _ => ?_) _ ?_) | (with_reducible apply egress_keeps)

theorem failover_keeps {s0 : State} {k : Nat} {unacked : List TxFlit} {queues : Tab (List Item)} {s : State} (hk : Keeps s0 s) : Keeps s0 (failover k unacked queues s) := by
  unfold failover; repeat' first | (with_reducible assumption) | (fail_if_no_progress with_reducible refine keeps_upd ?_ rfl rfl rfl rfl rfl rfl) | (with_reducible refine keeps_foldl _ (fun s _ _ => ?_) _ ?_) | (with_reducible apply egressFront_keeps) | (with_reducible apply egress_keeps) | (with_reducible apply ember_keeps) | (with_reducible apply fabStat_keeps)

theorem linkLeave_keeps {s0 : State} {k : Nat} {st : LinkSt} {cause : BitVec 4} {s : State} (hk : Keeps s0 s) : Keeps s0 (linkLeave k st cause s) := by
  unfold linkLeave; repeat' first | (with_reducible assumption) | (with_reducible apply updPort_keeps) | (with_reducible apply fabStat_keeps) | (with_reducible apply updLink_keeps) | (with_reducible apply failover_keeps) | (with_reducible apply nbrChange_keeps) | split | lift_lets | (intro x; clear_value x)

theorem linkDown_keeps {s0 : State} {k : Nat} {cause : BitVec 4} {s : State} (hk : Keeps s0 s) : Keeps s0 (linkDown k cause s) := by
  unfold linkDown; repeat' first | (with_reducible assumption) | (with_reducible apply linkLeave_keeps)

theorem portEnable_keeps {s0 : State} {p : Nat} {en : Bool} {s : State} (hk : Keeps s0 s) : Keeps s0 (portEnable p en s) := by
  unfold portEnable; repeat' first | (with_reducible assumption) | (with_reducible refine keeps_foldl _ (fun s _ _ => ?_) _ ?_) | (with_reducible apply updPort_keeps) | (with_reducible apply updLink_keeps) | (with_reducible apply linkLeave_keeps) | split | lift_lets | (intro x; clear_value x)

theorem pcfgWrite_keeps {s0 : State} {p : Nat} {v : W32} {s : State} (hk : Keeps s0 s) : Keeps s0 (pcfgWrite p v s) := by
  unfold pcfgWrite; repeat' first | (with_reducible assumption) | (with_reducible apply fabStat_keeps) | (with_reducible apply updPort_keeps) | (with_reducible apply portEnable_keeps) | split

theorem fabBankFlip_keeps {s0 : State} {s : State} (hk : Keeps s0 s) : Keeps s0 (fabBankFlip s) := by
  unfold fabBankFlip; repeat' first | (with_reducible assumption) | (fail_if_no_progress with_reducible refine keeps_upd ?_ rfl rfl rfl rfl rfl rfl) | (with_reducible refine keeps_foldl _ (fun s _ _ => ?_) _ ?_) | (with_reducible apply retryHeld_keeps) | (with_reducible apply updLink_keeps)

theorem doTrainingDone_keeps {s0 : State} {k : Nat} {lanesOk : Bool} {rev polinv : Byte} {s : State} (hk : Keeps s0 s) : Keeps s0 (doTrainingDone k lanesOk rev polinv s) := by
  unfold doTrainingDone; repeat' first | (with_reducible assumption) | (with_reducible apply updPort_keeps) | (with_reducible apply updLink_keeps) | split

theorem doLinitReceive_keeps {s0 : State} {k : Nat} {m : Linit} {s : State} (hk : Keeps s0 s) : Keeps s0 (doLinitReceive k m s) := by
  unfold doLinitReceive; repeat' first | (with_reducible assumption) | (with_reducible apply linkDown_keeps) | (with_reducible apply updLink_keeps) | split

theorem startAttempt_keeps {s0 : State} {k : Nat} {nonce : BitVec 256} {s : State} (hk : Keeps s0 s) : Keeps s0 (startAttempt k nonce s) := by
  unfold startAttempt; repeat' first | (with_reducible assumption) | (with_reducible apply linkPut_keeps) | (with_reducible apply updLink_keeps)

theorem enterDiscover_keeps {s0 : State} {k : Nat} {m : Linit} {s : State} (hk : Keeps s0 s) : Keeps s0 (enterDiscover k m s) := by
  unfold enterDiscover; repeat' first | (with_reducible assumption) | (with_reducible apply updLink_keeps) | (with_reducible apply linkPut_keeps) | (with_reducible apply drawNonce_keeps) | (with_reducible apply nbrChange_keeps) | (with_reducible apply startAttempt_keeps) | split | dsimp only

theorem sendData_keeps {s0 : State} {k vl : Nat} {s : State} (hk : Keeps s0 s) : Keeps s0 (sendData k vl s) := by
  unfold sendData; repeat' first | (with_reducible assumption) | (with_reducible apply updLink_keeps)

theorem sendHeader_keeps {s0 : State} {k : Nat} {s : State} (hk : Keeps s0 s) : Keeps s0 (sendHeader k s) := by
  unfold sendHeader; repeat' first | (with_reducible assumption) | (with_reducible apply updLink_keeps) | (with_reducible apply updPort_keeps) | split | lift_lets | (intro x; clear_value x)

theorem wrrTurn_keeps {s0 : State} {s : State} {k : Nat} {r : Nat × State} (hk : Keeps s0 s) (hr : wrrTurn s k = some r) : Keeps s0 r.2 := by
  unfold wrrTurn at hr; dsimp only at hr; (repeat' split at hr) <;> first | (simp at hr; done) | (injection hr with hr; subst hr; repeat' first | (with_reducible assumption) | (with_reducible apply updLink_keeps))

theorem chooseFlit_keeps {s0 : State} {k : Nat} {s : State} (hk : Keeps s0 s) : Keeps s0 (chooseFlit k s) := by
  unfold chooseFlit; repeat' first | (with_reducible assumption) | (with_reducible apply updLink_keeps) | (with_reducible apply sendHeader_keeps) | (with_reducible apply sendData_keeps) | (exact wrrTurn_keeps ‹_› ‹wrrTurn _ _ = some _›) | split | lift_lets | (intro x; clear_value x)

theorem doFlitSend_keeps {s0 : State} {k : Nat} {s : State} (hk : Keeps s0 s) : Keeps s0 (doFlitSend k s) := by
  unfold doFlitSend; repeat' first | (with_reducible assumption) | (with_reducible apply enterDiscover_keeps) | (with_reducible apply updLink_keeps) | (with_reducible apply chooseFlit_keeps) | split | lift_lets | (intro x; clear_value x)

theorem startReplay_keeps {s0 : State} {k : Nat} {s : State} (hk : Keeps s0 s) : Keeps s0 (startReplay k s) := by
  unfold startReplay; repeat' first | (with_reducible assumption) | (with_reducible apply updPort_keeps) | (with_reducible apply linkDown_keeps) | (with_reducible apply updLink_keeps) | split | lift_lets | (intro x; clear_value x)

theorem takeHeader_keeps {s0 : State} {k : Nat} {f : Flit} {s : State} (hk : Keeps s0 s) : Keeps s0 (takeHeader k f s) := by
  unfold takeHeader; repeat' first | (with_reducible assumption) | (with_reducible apply updLink_keeps)

theorem deliverItem_keeps {s0 : State} {k : Nat} {vl : BitVec 3} {s : State} {i : Item} (hk : Keeps s0 s) : Keeps s0 (deliverItem k vl s i) := by
  unfold deliverItem; repeat' first | (with_reducible assumption) | (fail_if_no_progress with_reducible refine keeps_upd ?_ rfl rfl rfl rfl rfl rfl) | (with_reducible apply countDrop_keeps) | (with_reducible apply fabStat_keeps) | split

theorem takeData_keeps {s0 : State} {k : Nat} {f : Flit} {s : State} (hk : Keeps s0 s) : Keeps s0 (takeData k f s) := by
  unfold takeData; repeat' first | (with_reducible assumption) | (with_reducible refine keeps_foldl _ (fun s _ _ => ?_) _ ?_) | (with_reducible apply updLink_keeps) | (with_reducible apply deliverItem_keeps) | split | lift_lets | (intro x; clear_value x)

theorem dropFlit_keeps {s0 : State} {k : Nat} {s : State} (hk : Keeps s0 s) : Keeps s0 (dropFlit k s) := by
  unfold dropFlit; repeat' first | (with_reducible assumption) | (with_reducible apply updLink_keeps)

theorem doFlitReceive_keeps {s0 : State} {k : Nat} {f : Flit} {c : FlitCheck} {s : State} (hk : Keeps s0 s) : Keeps s0 (doFlitReceive k f c s) := by
  unfold doFlitReceive; repeat' first | (with_reducible assumption) | (with_reducible apply updLink_keeps) | (with_reducible apply updPort_keeps) | (with_reducible apply linkDown_keeps) | (with_reducible apply dropFlit_keeps) | (with_reducible apply takeHeader_keeps) | (with_reducible apply startReplay_keeps) | (with_reducible apply takeData_keeps) | split | dsimp only

theorem takeItem_keeps {s0 : State} {k : Nat} {i : Item} {s : State} (hk : Keeps s0 s) : Keeps s0 (takeItem k i s) := by
  unfold takeItem; repeat' first | (with_reducible assumption) | (fail_if_no_progress with_reducible refine keeps_upd ?_ rfl rfl rfl rfl rfl rfl)

theorem enterUp_keeps {s0 : State} {k : Nat} {s : State} (hk : Keeps s0 s) : Keeps s0 (enterUp k s) := by
  unfold enterUp; repeat' first | (with_reducible assumption) | (with_reducible apply updLink_keeps) | (with_reducible apply nbrChange_keeps) | (with_reducible apply fabStat_keeps) | (with_reducible apply retryHeld_keeps)

theorem attemptFail_keeps {s0 : State} {k : Nat} {nonce : BitVec 256} {s : State} (hk : Keeps s0 s) : Keeps s0 (attemptFail k nonce s) := by
  unfold attemptFail; repeat' first | (with_reducible assumption) | (with_reducible apply updLink_keeps) | (with_reducible apply fabStat_keeps) | (with_reducible apply ember_keeps) | (with_reducible apply nbrChange_keeps) | (with_reducible apply startAttempt_keeps) | split | lift_lets | (intro x; clear_value x)

theorem verdictsMet_keeps {s0 : State} {k : Nat} {s : State} (hk : Keeps s0 s) : Keeps s0 (verdictsMet k s) := by
  unfold verdictsMet; repeat' first | (with_reducible assumption) | (with_reducible apply updLink_keeps) | (with_reducible apply linkPut_keeps) | (with_reducible apply enterUp_keeps) | split | lift_lets | (intro x; clear_value x)

theorem doHello_keeps {s0 : State} {k : Nat} {m : LinkMsg} {s : State} (hk : Keeps s0 s) : Keeps s0 (doHello k m s) := by
  unfold doHello; repeat' first | (with_reducible assumption) | (with_reducible apply takeItem_keeps) | (with_reducible apply drawNonce_keeps) | (with_reducible apply startAttempt_keeps) | (with_reducible apply nbrChange_keeps) | (with_reducible apply linkPut_keeps) | (with_reducible apply updLink_keeps) | split | lift_lets | (intro x; refine (fun hx => ?_ : Keeps s0 x → _) ?_; (on_goal 1 => clear_value x); (on_goal 2 => simp only [x])) | (intro x; clear_value x)

theorem doAttest_keeps {s0 : State} {k : Nat} {r : Report} {s : State} (hk : Keeps s0 s) : Keeps s0 (doAttest k r s) := by
  unfold doAttest; repeat' first | (with_reducible assumption) | (with_reducible apply takeItem_keeps) | (with_reducible apply linkPut_keeps) | (with_reducible apply updLink_keeps) | (with_reducible apply verdictsMet_keeps) | (with_reducible apply drawNonce_keeps) | (with_reducible apply attemptFail_keeps) | split | lift_lets | intro x

theorem doVerdict_keeps {s0 : State} {k : Nat} {accept : Bool} {s : State} (hk : Keeps s0 s) : Keeps s0 (doVerdict k accept s) := by
  unfold doVerdict; repeat' first | (with_reducible assumption) | (with_reducible apply takeItem_keeps) | (with_reducible apply updLink_keeps) | (with_reducible apply verdictsMet_keeps) | (with_reducible apply drawNonce_keeps) | (with_reducible apply attemptFail_keeps) | split | lift_lets | (intro x; refine (fun hx => ?_ : Keeps s0 x → _) ?_; (on_goal 1 => clear_value x); (on_goal 2 => simp only [x]))

theorem doLinkState_keeps {s0 : State} {k : Nat} {wh : Bool} {s : State} (hk : Keeps s0 s) : Keeps s0 (doLinkState k wh s) := by
  unfold doLinkState; repeat' first | (with_reducible assumption) | (with_reducible apply takeItem_keeps) | (with_reducible apply updLink_keeps) | (with_reducible apply failover_keeps) | (with_reducible apply nbrChange_keeps) | (with_reducible apply linkDown_keeps) | split | lift_lets | (intro x; refine (fun hx => ?_ : Keeps s0 x → _) ?_; (on_goal 1 => clear_value x); (on_goal 2 => simp only [x])) | (intro x; clear_value x)

theorem doKeyx_keeps {s0 : State} {k : Nat} {cipher ok : Bool} {s : State} (hk : Keeps s0 s) : Keeps s0 (doKeyx k cipher ok s) := by
  unfold doKeyx; repeat' first | (with_reducible assumption) | (with_reducible apply takeItem_keeps) | (with_reducible apply enterUp_keeps) | (with_reducible apply linkPut_keeps) | (with_reducible apply drawNonce_keeps) | (with_reducible apply attemptFail_keeps) | (with_reducible apply updLink_keeps) | split | lift_lets | intro x

theorem doRelay_keeps {s0 : State} {k : Nat} {m : Msg} {s : State} (hk : Keeps s0 s) : Keeps s0 (doRelay k m s) := by
  unfold doRelay; repeat' first | (with_reducible assumption) | (with_reducible apply takeItem_keeps) | (with_reducible apply countDrop_keeps) | (with_reducible apply tstatSet_keeps) | (with_reducible apply reportLoss_keeps) | (with_reducible apply ember_keeps) | (with_reducible apply egress_keeps) | split | lift_lets | (intro x; refine (fun hx => ?_ : Keeps s0 x → _) ?_; (on_goal 1 => clear_value x); (on_goal 2 => simp only [x]))

theorem doNoRoute_keeps {s0 : State} {dst : Pkg} {s : State} (hk : Keeps s0 s) : Keeps s0 (doNoRoute dst s) := by
  unfold doNoRoute; repeat' first | (with_reducible assumption) | (fail_if_no_progress with_reducible refine keeps_upd ?_ rfl rfl rfl rfl rfl rfl) | (with_reducible refine keeps_foldl _ (fun s _ _ => ?_) _ ?_) | (with_reducible apply raiseEmber_keeps) | (with_reducible apply reportLoss_keeps) | split | lift_lets | (intro x; clear_value x)

theorem loadWick_keeps {s0 : State} {s : State} {k : Nat} (hk : Keeps s0 s) : Keeps s0 (loadWick s k) := by
  unfold loadWick; repeat' first | (with_reducible assumption) | (with_reducible apply updWick_keeps)

theorem loadLan_keeps {s0 : State} {s : State} {l : Nat} (hk : Keeps s0 s) : Keeps s0 (loadLan s l) := by
  unfold loadLan; repeat' first | (with_reducible assumption) | (with_reducible apply updLan_keeps)

theorem loadScn_keeps {s0 : State} {s : State} {n : Nat} (hk : Keeps s0 s) : Keeps s0 (loadScn s n) := by
  unfold loadScn; repeat' first | (with_reducible assumption) | (with_reducible apply updScn_keeps)

theorem loadRecord_keeps {s0 : State} {s : State} (hk : Keeps s0 s) : Keeps s0 (loadRecord s) := by
  unfold loadRecord; repeat' first | (with_reducible assumption) | (fail_if_no_progress with_reducible refine keeps_upd ?_ rfl rfl rfl rfl rfl rfl) | (with_reducible refine keeps_foldl _ (fun s _ _ => ?_) _ ?_) | (with_reducible apply loadWick_keeps) | (with_reducible apply loadLan_keeps) | (with_reducible apply loadScn_keeps) | split | lift_lets | (intro x; refine (fun hx => ?_ : Keeps s0 x → _) ?_; (on_goal 1 => clear_value x); (on_goal 2 => simp only [x]))

theorem applyPlatform_keeps {s0 : State} {p : Platform} {s : State} (hk : Keeps s0 s) : Keeps s0 (applyPlatform p s) := by
  unfold applyPlatform; repeat' first | (with_reducible assumption) | (fail_if_no_progress with_reducible refine keeps_upd ?_ rfl rfl rfl rfl rfl rfl) | (with_reducible refine keeps_foldl _ (fun s _ _ => ?_) _ ?_) | (with_reducible apply updStk_keeps)

theorem applyPort_keeps {s0 : State} {c : ConfigBlock} {s : State} {p : Nat} (hk : Keeps s0 s) : Keeps s0 (applyPort c s p) := by
  unfold applyPort; repeat' first | (with_reducible assumption) | (with_reducible apply updPort_keeps) | (with_reducible apply portEnable_keeps)

theorem startUpConfigure_keeps {s0 : State} {s : State} (hk : Keeps s0 s) : Keeps s0 (startUpConfigure s) := by
  unfold startUpConfigure; repeat' first | (with_reducible assumption) | (with_reducible refine keeps_foldl _ (fun s _ _ => ?_) _ ?_) | (with_reducible apply loadRecord_keeps) | (with_reducible apply applyPort_keeps) | (with_reducible apply applyPlatform_keeps) | split | lift_lets | (intro x; refine (fun hx => ?_ : Keeps s0 x → _) ?_; (on_goal 1 => clear_value x); (on_goal 2 => simp only [x]))

theorem outLines_keeps {s0 : State} {a : W64} {bs : List Byte} {s : State} (hk : Keeps s0 s) : Keeps s0 (outLines a bs s) := by
  unfold outLines; repeat' first | (with_reducible assumption) | (with_reducible refine keeps_foldl _ (fun s _ _ => ?_) _ ?_) | (with_reducible apply gvlWriteLine_keeps)

theorem finishOut_keeps {s0 : State} {d : Desc} {rec_ : Nat} {bs : List Byte} {s : State} (hk : Keeps s0 s) : Keeps s0 (finishOut d rec_ bs s) := by
  unfold finishOut; repeat' first | (with_reducible assumption) | (with_reducible apply finish_keeps) | (with_reducible apply complete_keeps) | (with_reducible apply outLines_keeps) | split

theorem finishFree_keeps {s0 : State} {d : Desc} {s : State} (hk : Keeps s0 s) : Keeps s0 (finishFree d s) := by
  unfold finishFree; repeat' first | (with_reducible assumption) | (with_reducible apply finish_keeps) | (with_reducible apply freeWords_keeps) | (with_reducible apply complete_keeps) | (with_reducible apply outLines_keeps) | split

theorem dequeue_keeps {s0 : State} {d : Desc} {s : State} (hk : Keeps s0 s) : Keeps s0 (dequeue d s) := by
  unfold dequeue; repeat' first | (with_reducible assumption) | (with_reducible apply updRing_keeps)

theorem runCmd_keeps {s0 : State} (d : Desc) (k : Rings) (early open_ input : Bool) (body : State → State) (hb : ∀ s, Keeps s0 s → Keeps s0 (body s)) {s : State} (hk : Keeps s0 s) : Keeps s0 (runCmd d k early open_ input body s) := by
  unfold runCmd; repeat' first | (with_reducible assumption) | (with_reducible apply dequeue_keeps) | (with_reducible apply finish_keeps) | (apply hb) | split | lift_lets | (intro x; refine (fun hx => ?_ : Keeps s0 x → _) ?_; (on_goal 1 => clear_value x); (on_goal 2 => simp only [x]))

theorem runCtx_keeps {s0 : State} (d : Desc) (input : Bool) (body : Nat → Ctx → State → State) (hb : ∀ c x s, Keeps s0 s → Keeps s0 (body c x s)) {s : State} (hk : Keeps s0 s) : Keeps s0 (runCtx d input body s) := by
  unfold runCtx; repeat' first | (with_reducible assumption) | (with_reducible refine runCmd_keeps _ _ _ _ _ _ (fun s _ => ?_) ?_) | (with_reducible apply finish_keeps) | (apply hb) | split

theorem loadRing_keeps {s0 : State} {r : Nat} {e : RingEntry} {s : State} (hk : Keeps s0 s) : Keeps s0 (loadRing r e s) := by
  unfold loadRing; repeat' first | (with_reducible assumption) | (with_reducible apply updRing_keeps)

theorem flushHeld_keeps {s0 : State} {r : RingI} {s : State} (hk : Keeps s0 s) : Keeps s0 (flushHeld r s) := by
  unfold flushHeld; repeat' first | (with_reducible assumption) | (with_reducible refine keeps_foldl _ (fun s _ _ => ?_) _ ?_) | (with_reducible apply postCpl_keeps) | (with_reducible apply postNote_keeps) | (with_reducible apply updRing_keeps) | split

theorem flushAll_keeps {s0 : State} {s : State} (hk : Keeps s0 s) : Keeps s0 (flushAll s) := by
  unfold flushAll; repeat' first | (with_reducible assumption) | (with_reducible refine keeps_foldl _ (fun s _ _ => ?_) _ ?_) | (with_reducible apply flushHeld_keeps)

theorem attach0_keeps {s0 : State} {e : Option RingEntry} {s : State} (hk : Keeps s0 s) : Keeps s0 (attach0 e s) := by
  unfold attach0; repeat' first | (with_reducible assumption) | (fail_if_no_progress with_reducible refine keeps_upd ?_ rfl rfl rfl rfl rfl rfl) | (with_reducible apply flushHeld_keeps) | (with_reducible apply loadRing_keeps) | split

theorem doAttach_keeps {s0 : State} {e : Option RingEntry} {s : State} (hk : Keeps s0 s) : Keeps s0 (doAttach e s) := by
  unfold doAttach; repeat' first | (with_reducible assumption) | (with_reducible apply attach0_keeps) | split

theorem doReattach_keeps {s0 : State} {e : Option RingEntry} {s : State} (hk : Keeps s0 s) : Keeps s0 (doReattach e s) := by
  unfold doReattach; repeat' first | (with_reducible assumption) | (fail_if_no_progress with_reducible refine keeps_upd ?_ rfl rfl rfl rfl rfl rfl) | (with_reducible refine keeps_foldl _ (fun s _ _ => ?_) _ ?_) | (with_reducible apply updRing_keeps) | (with_reducible apply attach0_keeps) | split

theorem doReattachDiscard_keeps {s0 : State} {r : Nat} {s : State} (hk : Keeps s0 s) : Keeps s0 (doReattachDiscard r s) := by
  unfold doReattachDiscard; repeat' first | (with_reducible assumption) | (with_reducible apply ember_keeps) | (with_reducible apply updRing_keeps) | split | lift_lets | (intro x; clear_value x)

theorem sqDoorbell_keeps {s0 : State} {r : Nat} {v : W32} {s : State} (hk : Keeps s0 s) : Keeps s0 (sqDoorbell r v s) := by
  unfold sqDoorbell; repeat' first | (with_reducible assumption) | (with_reducible apply updRing_keeps)

theorem cqDoorbell_keeps {s0 : State} {r : Nat} {v : W32} {s : State} (hk : Keeps s0 s) : Keeps s0 (cqDoorbell r v s) := by
  unfold cqDoorbell; repeat' first | (with_reducible assumption) | (with_reducible apply updRing_keeps)

theorem doFetch_keeps {s0 : State} {r : Nat} {res : FetchRes} {s : State} (hk : Keeps s0 s) : Keeps s0 (doFetch r res s) := by
  unfold doFetch; repeat' first | (with_reducible assumption) | (fail_if_no_progress with_reducible refine keeps_upd ?_ rfl rfl rfl rfl rfl rfl) | (with_reducible apply updRing_keeps) | split

theorem flushNotes_keeps {s0 : State} {r : RingI} {l : List Cpl} {s : State} (hk : Keeps s0 s) : Keeps s0 (flushNotes r l s) := by
  induction l generalizing s with
  | nil => exact hk
  | cons c t ih => unfold flushNotes; repeat' first | (with_reducible assumption) | (with_reducible apply postRaw_keeps) | (with_reducible apply updRing_keeps) | (apply ih) | split

theorem postLost_keeps {s0 : State} {r : RingI} {s : State} (hk : Keeps s0 s) : Keeps s0 (postLost r s) := by
  unfold postLost; repeat' first | (with_reducible assumption) | (with_reducible apply postRaw_keeps) | (with_reducible apply updRing_keeps) | split | lift_lets | (intro x; clear_value x)

theorem doNoteFlush_keeps {s0 : State} {r : RingI} {s : State} (hk : Keeps s0 s) : Keeps s0 (doNoteFlush r s) := by
  unfold doNoteFlush; repeat' first | (with_reducible assumption) | (with_reducible apply postLost_keeps) | (with_reducible apply flushNotes_keeps) | split

theorem doCmdLimit_keeps {s0 : State} {r : Nat} {tag : W64} {s : State} (hk : Keeps s0 s) : Keeps s0 (doCmdLimit r tag s) := by
  unfold doCmdLimit; repeat' first | (with_reducible assumption) | (with_reducible refine keeps_foldl _ (fun s _ _ => ?_) _ ?_) | (with_reducible apply stopInv_keeps) | (with_reducible apply finish_keeps) | split

theorem doWatchdog_keeps {s0 : State} {core : Nat} {s : State} (hk : Keeps s0 s) : Keeps s0 (doWatchdog core s) := by
  unfold doWatchdog; repeat' first | (with_reducible assumption) | (fail_if_no_progress with_reducible refine keeps_upd ?_ rfl rfl rfl rfl rfl rfl) | (with_reducible apply withhold_keeps)

theorem runSys_keeps {s0 : State} (d : Desc) (body : State → State) (hb : ∀ s, Keeps s0 s → Keeps s0 (body s)) {s : State} (hk : Keeps s0 s) : Keeps s0 (runSys d body s) := by
  unfold runSys; repeat' first | (with_reducible assumption) | (with_reducible refine runCmd_keeps _ _ _ _ _ _ (fun s _ => ?_) ?_) | (apply hb)

theorem doHelloCmd_keeps {s0 : State} {d : Desc} {vmin vmax : W16} {s : State} (hk : Keeps s0 s) : Keeps s0 (doHelloCmd d vmin vmax s) := by
  unfold doHelloCmd; repeat' first | (with_reducible assumption) | (fail_if_no_progress with_reducible refine keeps_upd ?_ rfl rfl rfl rfl rfl rfl) | (with_reducible refine runCmd_keeps _ _ _ _ _ _ (fun s _ => ?_) ?_) | (with_reducible apply finish_keeps) | (with_reducible apply complete_keeps) | split

theorem doSysRing_keeps {s0 : State} {d : Desc} {ring action : Nat} {e : Option RingEntry} {s : State} (hk : Keeps s0 s) : Keeps s0 (doSysRing d ring action e s) := by
  unfold doSysRing; repeat' first | (with_reducible assumption) | (with_reducible refine runSys_keeps _ _ (fun s _ => ?_) ?_) | (with_reducible apply finish_keeps) | (with_reducible apply updRing_keeps) | (with_reducible apply flushHeld_keeps) | (with_reducible apply loadRing_keeps) | split

theorem setLimit_keeps {s0 : State} {v : Nat} {s : State} (hk : Keeps s0 s) : Keeps s0 (setLimit v s) := by
  unfold setLimit; repeat' first | (with_reducible assumption) | (fail_if_no_progress with_reducible refine keeps_upd ?_ rfl rfl rfl rfl rfl rfl)

theorem setShares_keeps {s0 : State} {arr vec xbr stk ser ctl : Nat} {s : State} (hk : Keeps s0 s) : Keeps s0 (setShares arr vec xbr stk ser ctl s) := by
  unfold setShares; repeat' first | (with_reducible assumption) | (fail_if_no_progress with_reducible refine keeps_upd ?_ rfl rfl rfl rfl rfl rfl)

theorem doSysPower_keeps {s0 : State} {d : Desc} {limit : W16} {arr vec xbr stk ser ctl : W16} {s : State} (hk : Keeps s0 s) : Keeps s0 (doSysPower d limit arr vec xbr stk ser ctl s) := by
  unfold doSysPower; repeat' first | (with_reducible assumption) | (fail_if_no_progress with_reducible refine keeps_upd ?_ rfl rfl rfl rfl rfl rfl) | (with_reducible refine runSys_keeps _ _ (fun s _ => ?_) ?_) | (with_reducible apply finish_keeps) | (with_reducible apply setShares_keeps) | (with_reducible apply setLimit_keeps) | (with_reducible apply keepProg_keeps) | split | lift_lets | (intro x; clear_value x)

theorem windowEnd_keeps {s0 : State} {meas : Nat} {s : State} (hk : Keeps s0 s) : Keeps s0 (windowEnd meas s) := by
  unfold windowEnd; repeat' first | (with_reducible assumption) | (fail_if_no_progress with_reducible refine keeps_upd ?_ rfl rfl rfl rfl rfl rfl) | (with_reducible refine keeps_foldl _ (fun s _ _ => ?_) _ ?_) | (with_reducible apply finish_keeps) | (with_reducible apply doBudgetWindow_keeps)

theorem clockUndo_keeps {s0 : State} {s : State} (hk : Keeps s0 s) : Keeps s0 (clockUndo s) := by
  unfold clockUndo; repeat' first | (with_reducible assumption) | (fail_if_no_progress with_reducible refine keeps_upd ?_ rfl rfl rfl rfl rfl rfl) | (with_reducible refine keeps_foldl _ (fun s _ _ => ?_) _ ?_) | (with_reducible apply updLctx_keeps)

theorem clockWrite_keeps {s0 : State} {k : ClkCmd} {s : State} (hk : Keeps s0 s) : Keeps s0 (clockWrite k s) := by
  unfold clockWrite; repeat' first | (with_reducible assumption) | (fail_if_no_progress with_reducible refine keeps_upd ?_ rfl rfl rfl rfl rfl rfl) | (with_reducible apply finish_keeps) | (with_reducible apply clockUndo_keeps) | (with_reducible apply halfWrite_keeps) | split | dsimp only

theorem clockGo_keeps {s0 : State} {s : State} (hk : Keeps s0 s) : Keeps s0 (clockGo s) := by
  unfold clockGo; repeat' first | (with_reducible assumption) | (with_reducible apply clockWrite_keeps) | split

theorem doSysClock_keeps {s0 : State} {d : Desc} {east : Bool} {adiv ndiv : BitVec 2} {s : State} (hk : Keeps s0 s) : Keeps s0 (doSysClock d east adiv ndiv s) := by
  unfold doSysClock; repeat' first | (with_reducible assumption) | (fail_if_no_progress with_reducible refine keeps_upd ?_ rfl rfl rfl rfl rfl rfl) | (with_reducible refine keeps_foldl _ (fun s _ _ => ?_) _ ?_) | (with_reducible refine runSys_keeps _ _ (fun s _ => ?_) ?_) | (with_reducible apply finish_keeps) | (with_reducible apply updLctx_keeps) | (with_reducible apply clockGo_keeps) | (with_reducible apply keepProg_keeps) | split

theorem clockShown_keeps {s0 : State} {s : State} (hk : Keeps s0 s) : Keeps s0 (clockShown s) := by
  unfold clockShown; repeat' first | (with_reducible assumption) | (fail_if_no_progress with_reducible refine keeps_upd ?_ rfl rfl rfl rfl rfl rfl) | (with_reducible apply finish_keeps) | (with_reducible apply clockUndo_keeps) | split | dsimp only

theorem doDividerApply_keeps {s0 : State} {s : State} (hk : Keeps s0 s) : Keeps s0 (doDividerApply s) := by
  unfold doDividerApply; repeat' first | (with_reducible assumption) | (with_reducible apply clockShown_keeps) | (with_reducible apply dividerApply_keeps) | split

theorem doSysReset_keeps {s0 : State} {d : Desc} {s : State} (hk : Keeps s0 s) : Keeps s0 (doSysReset d s) := by
  unfold doSysReset; repeat' first | (with_reducible assumption) | (fail_if_no_progress with_reducible refine keeps_upd ?_ rfl rfl rfl rfl rfl rfl) | (with_reducible refine runSys_keeps _ _ (fun s _ => ?_) ?_) | (with_reducible apply finish_keeps)

theorem updAttn_keeps {s0 : State} {c : Nat} {inst : W32} {f : Attn → Attn} {s : State} (hk : Keeps s0 s) : Keeps s0 (updAttn c inst f s) := by
  unfold updAttn; repeat' first | (with_reducible assumption) | (fail_if_no_progress with_reducible refine keeps_upd ?_ rfl rfl rfl rfl rfl rfl)

theorem attnAdd_keeps {s0 : State} {c : Nat} {h : Hdr} {b : ActHdr} {s : State} (hk : Keeps s0 s) : Keeps s0 (attnAdd c h b s) := by
  unfold attnAdd; repeat' first | (with_reducible assumption) | (fail_if_no_progress with_reducible refine keeps_upd ?_ rfl rfl rfl rfl rfl rfl) | (with_reducible apply updAttn_keeps) | split

theorem attnCommit_keeps {s0 : State} {c : Nat} {inst : W32} {below : Nat} {s : State} (hk : Keeps s0 s) : Keeps s0 (attnCommit c inst below s) := by
  unfold attnCommit; repeat' first | (with_reducible assumption) | (with_reducible apply updAttn_keeps)

theorem attnDiscard_keeps {s0 : State} {c : Nat} {inst : W32} {from_ : Nat} {s : State} (hk : Keeps s0 s) : Keeps s0 (attnDiscard c inst from_ s) := by
  unfold attnDiscard; repeat' first | (with_reducible assumption) | (with_reducible apply updAttn_keeps)

theorem attnLayer_keeps {s0 : State} {c : Nat} {h : Hdr} {ep : W32} {m : ShardMeta} {s : State} (hk : Keeps s0 s) : Keeps s0 (attnLayer c h ep m s).2.2 := by
  unfold attnLayer; repeat' first | (with_reducible assumption) | (with_reducible apply freeWords_keeps) | (with_reducible apply updAttn_keeps)

theorem dropWork_keeps {s0 : State} {ctx : W16} {inst : W32} {s : State} (hk : Keeps s0 s) : Keeps s0 (dropWork ctx inst s) := by
  unfold dropWork; repeat' first | (with_reducible assumption) | (fail_if_no_progress with_reducible refine keeps_upd ?_ rfl rfl rfl rfl rfl rfl) | (with_reducible refine keeps_foldl _ (fun s _ _ => ?_) _ ?_) | (with_reducible apply updLink_keeps)

theorem dropFlares_keeps {s0 : State} {c : Nat} {inst : W32} {s : State} (hk : Keeps s0 s) : Keeps s0 (dropFlares c inst s) := by
  unfold dropFlares; repeat' first | (with_reducible assumption) | (with_reducible apply dropQueued_keeps) | (with_reducible apply updCtx_keeps)

theorem retireHere_keeps {s0 : State} {c : Nat} {h : Hdr} {final : Pkg} {s : State} (hk : Keeps s0 s) : Keeps s0 (retireHere c h final s) := by
  unfold retireHere; repeat' first | (with_reducible assumption) | (fail_if_no_progress with_reducible refine keeps_upd ?_ rfl rfl rfl rfl rfl rfl) | (with_reducible apply dropFlares_keeps) | (with_reducible apply dropWork_keeps) | (with_reducible apply updAttn_keeps)

theorem postProgress_keeps {s0 : State} {d : Desc} {res : List W32} {s : State} (hk : Keeps s0 s) : Keeps s0 (postProgress d res s) := by
  unfold postProgress; repeat' first | (with_reducible assumption) | (with_reducible apply postCpl_keeps)

theorem noteSuspect_keeps {s0 : State} {c : Nat} {s : State} (hk : Keeps s0 s) : Keeps s0 (noteSuspect c s) := by
  unfold noteSuspect; repeat' first | (with_reducible assumption) | (with_reducible apply freeWords_keeps) | (with_reducible apply notify_keeps)

theorem amendSuspect_keeps {s0 : State} {c : Nat} {inst : W32} {tindex : W32} {from_ : Pkg} {flicker : W64} {s : State} (hk : Keeps s0 s) : Keeps s0 (amendSuspect c inst tindex from_ flicker s) := by
  unfold amendSuspect; repeat' first | (with_reducible assumption) | (with_reducible apply updRel_keeps) | (with_reducible apply noteSuspect_keeps)

theorem suspectAtFinal_keeps {s0 : State} {c : Nat} {h : Hdr} {flicker : W64} {s : State} (hk : Keeps s0 s) : Keeps s0 (suspectAtFinal c h flicker s) := by
  unfold suspectAtFinal; repeat' first | (with_reducible assumption) | (with_reducible apply updCtx_keeps) | (with_reducible apply amendSuspect_keeps) | (with_reducible apply updRel_keeps) | split

theorem settleCount_keeps {s0 : State} {c : Nat} {inst : W32} {from_ : Pkg} {s : State} (hk : Keeps s0 s) : Keeps s0 (settleCount c inst from_ s) := by
  unfold settleCount; repeat' first | (with_reducible assumption) | (with_reducible apply updRel_keeps) | split

theorem retireSoon_keeps {s0 : State} {c : Nat} {num : W16} {e : Nat} {s : State} (hk : Keeps s0 s) : Keeps s0 (retireSoon c num e s) := by
  unfold retireSoon; repeat' first | (with_reducible assumption) | (with_reducible apply updRelNum_keeps) | (with_reducible apply retireRel_keeps) | split

theorem setBroken_keeps {s0 : State} {code : W16} {s : State} (hk : Keeps s0 s) : Keeps s0 (setBroken code s) := by
  unfold setBroken; repeat' first | (with_reducible assumption) | (fail_if_no_progress with_reducible refine keeps_upd ?_ rfl rfl rfl rfl rfl rfl) | split

theorem setTwin_keeps {s0 : State} {st : TwinSt} {s : State} (hk : Keeps s0 s) : Keeps s0 (setTwin st s) := by
  unfold setTwin; repeat' first | (with_reducible assumption) | (fail_if_no_progress with_reducible refine keeps_upd ?_ rfl rfl rfl rfl rfl rfl) | (with_reducible apply freeWords_keeps) | (with_reducible apply notify_keeps) | (with_reducible apply ember_keeps) | split

theorem sendTwin_keeps {s0 : State} {kind : Nat} {ctxid : W16} {num : W16} {tindex : W32} {b : Body} {s : State} (hk : Keeps s0 s) : Keeps s0 (sendTwin kind ctxid num tindex b s) := by
  unfold sendTwin; repeat' first | (with_reducible assumption) | (with_reducible apply sendMsg_keeps) | split

theorem updDrawn_keeps {s0 : State} {c : Nat} {inst : W32} {f : Drawn → Drawn} {s : State} (hk : Keeps s0 s) : Keeps s0 (updDrawn c inst f s) := by
  unfold updDrawn; repeat' first | (with_reducible assumption) | (with_reducible apply updRel_keeps)

theorem arbitrate_keeps {s0 : State} {c : Nat} {inst : W32} {s : State} (hk : Keeps s0 s) : Keeps s0 (arbitrate c inst s) := by
  unfold arbitrate; repeat' first | (with_reducible assumption) | (with_reducible apply freeWords_keeps) | (with_reducible apply updRel_keeps) | (with_reducible apply retireRel_keeps) | (with_reducible apply updDrawn_keeps) | (with_reducible apply sendTwin_keeps) | split | lift_lets | (intro x; refine (fun hx => ?_ : Keeps s0 x.2 → _) ?_; (on_goal 1 => clear_value x); (on_goal 2 => simp only [x])) | (intro x; clear_value x)

theorem resultMeet_keeps {s0 : State} {c : Nat} {inst : W32} {s : State} (hk : Keeps s0 s) : Keeps s0 (resultMeet c inst s) := by
  unfold resultMeet; repeat' first | (with_reducible assumption) | (fail_if_no_progress with_reducible refine keeps_upd ?_ rfl rfl rfl rfl rfl rfl) | (with_reducible apply retireRel_keeps) | (with_reducible apply updDrawn_keeps) | (with_reducible apply withhold_keeps) | split

theorem digestMeet_keeps {s0 : State} {c : Nat} {inst : W32} {s : State} (hk : Keeps s0 s) : Keeps s0 (digestMeet c inst s) := by
  unfold digestMeet; repeat' first | (with_reducible assumption) | (fail_if_no_progress with_reducible refine keeps_upd ?_ rfl rfl rfl rfl rfl rfl) | (with_reducible apply updDrawn_keeps) | (with_reducible apply sendTwin_keeps) | (with_reducible apply resultMeet_keeps) | (with_reducible apply arbitrate_keeps) | split | lift_lets | (intro x; refine (fun hx => ?_ : Keeps s0 x → _) ?_; (on_goal 1 => clear_value x); (on_goal 2 => simp only [x])) | (intro x; clear_value x)

theorem actLogits_keeps {s0 : State} {s : State} {c : Nat} {a : Act} {vocab : Nat} (hk : Keeps s0 s) : Keeps s0 (actLogits s c a vocab).2 := by
  unfold actLogits; repeat' first | (with_reducible assumption) | (with_reducible apply freeWords_keeps) | split | lift_lets | (intro x; clear_value x)

theorem drawToken_keeps {s0 : State} {c : Nat} {a : Act} {s : State} (hk : Keeps s0 s) : Keeps s0 (drawToken c a s) := by
  unfold drawToken; repeat' first | (with_reducible assumption) | (with_reducible apply actLogits_keeps) | (with_reducible apply updRel_keeps) | (with_reducible apply retireRel_keeps) | (with_reducible apply digestMeet_keeps) | (with_reducible apply sendTwin_keeps) | split | dsimp only

theorem finalDone_keeps {s0 : State} {c : Nat} {a : Act} {s : State} (hk : Keeps s0 s) : Keeps s0 (finalDone c a s) := by
  unfold finalDone; repeat' first | (with_reducible assumption) | (with_reducible apply updRel_keeps) | (with_reducible apply drawToken_keeps) | split

theorem freeAct_keeps {s0 : State} {s : State} (hk : Keeps s0 s) : Keeps s0 (freeAct s).2.2.2.2 := by
  unfold freeAct; repeat' first | (with_reducible assumption) | (with_reducible apply freeWords_keeps)

theorem forwardAct_keeps {s0 : State} {c : Nat} {a : Act} {layer : Nat} {s : State} (hk : Keeps s0 s) : Keeps s0 (forwardAct c a layer s) := by
  unfold forwardAct; repeat' first | (with_reducible assumption) | (with_reducible apply freeAct_keeps) | (with_reducible apply sendMsg_keeps) | (with_reducible apply noteReq_keeps) | split

theorem continueAt_keeps {s0 : State} {c : Nat} {a : Act} {layer : Nat} {s : State} (hk : Keeps s0 s) : Keeps s0 (continueAt c a layer s) := by
  unfold continueAt; repeat' first | (with_reducible assumption) | (with_reducible apply updCtx_keeps) | (with_reducible apply finalDone_keeps) | (with_reducible apply forwardAct_keeps) | split

theorem sendPartial_keeps {s0 : State} {m : ShardMeta} {r : RedRec} {s : State} (hk : Keeps s0 s) : Keeps s0 (sendPartial m r s) := by
  unfold sendPartial; repeat' first | (with_reducible assumption) | (with_reducible apply sendMsg_keeps)

theorem redRoot_keeps {s0 : State} {c : Nat} {r : RedRec} {s : State} (hk : Keeps s0 s) : Keeps s0 (redRoot c r s) := by
  unfold redRoot; repeat' first | (with_reducible assumption) | (fail_if_no_progress with_reducible refine keeps_upd ?_ rfl rfl rfl rfl rfl rfl) | (with_reducible apply continueAt_keeps) | split | lift_lets | (intro x; clear_value x)

theorem redFinish_keeps {s0 : State} {c : Nat} {r : RedRec} {s : State} (hk : Keeps s0 s) : Keeps s0 (redFinish c r s) := by
  unfold redFinish; repeat' first | (with_reducible assumption) | (fail_if_no_progress with_reducible refine keeps_upd ?_ rfl rfl rfl rfl rfl rfl) | (with_reducible apply noteReq_keeps) | (with_reducible apply redRoot_keeps) | (with_reducible apply sendPartial_keeps) | split | lift_lets | intro x

theorem redPut_keeps {s0 : State} {c : Nat} {r : RedRec} {s : State} (hk : Keeps s0 s) : Keeps s0 (redPut c r s) := by
  unfold redPut; repeat' first | (with_reducible assumption) | (fail_if_no_progress with_reducible refine keeps_upd ?_ rfl rfl rfl rfl rfl rfl) | (with_reducible apply redFinish_keeps)

theorem redOwn_keeps {s0 : State} {c : Nat} {a : Act} {s : State} {m : ShardMeta} (hk : Keeps s0 s) : Keeps s0 (redOwn c a s m) := by
  unfold redOwn; repeat' first | (with_reducible assumption) | (with_reducible apply redPut_keeps) | (with_reducible apply noteReq_keeps) | split

theorem attnRun_keeps {s0 : State} {c : Nat} {a : Act} {s : State} (hk : Keeps s0 s) : Keeps s0 (attnRun c a s).2 := by
  unfold attnRun; repeat' first | (with_reducible assumption) | (with_reducible refine keeps_foldl2 _ (fun s _ _ => ?_) _ ?_) | (with_reducible apply attnLayer_keeps) | (with_reducible apply noteReq_keeps) | split

theorem actGoOn_keeps {s0 : State} {c : Nat} {a : Act} {s : State} (hk : Keeps s0 s) : Keeps s0 (actGoOn c a s) := by
  unfold actGoOn; repeat' first | (with_reducible assumption) | (with_reducible refine keeps_foldl _ (fun s _ _ => ?_) _ ?_) | (with_reducible apply continueAt_keeps) | (with_reducible apply redOwn_keeps) | split | lift_lets | (intro x; clear_value x)

theorem actComplete_keeps {s0 : State} {c : Nat} {a : Act} {s : State} (hk : Keeps s0 s) : Keeps s0 (actComplete c a s) := by
  unfold actComplete
  have e : Keeps s0 (attnRun c a s).2 := attnRun_keeps hk
  dsimp only
  split
  · have q : ∀ (h : ActHdr) (l : List Nat), Keeps s0 (l.foldl (layerStage c (attnRun c a s).1 h) ([], (attnRun c a s).2)).2 := fun h l => by
      refine keeps_foldl2 _ (fun p n h => ?_) _ e
      unfold layerStage; dsimp only; split
      · exact h
      · split
        · exact h
        · exact startInv_keeps h
    split
    · exact actGoOn_keeps (q _ _)
    · exact updCtx_keeps (q _ _)
  · exact hk

theorem kickStages_keeps {s0 : State} {c : Nat} {s : State} (hk : Keeps s0 s) : Keeps s0 (kickStages c s) := by
  unfold kickStages; repeat' first | (with_reducible assumption) | (with_reducible refine keeps_foldl _ (fun s _ _ => ?_) _ ?_) | (with_reducible apply actGoOn_keeps) | (with_reducible apply updCtx_keeps) | split

theorem answerPos_keeps {s0 : State} {c : Nat} {inst tindex : W32} {s : State} (hk : Keeps s0 s) : Keeps s0 (answerPos c inst tindex s) := by
  unfold answerPos; repeat' first | (with_reducible assumption) | (with_reducible apply updCtx_keeps)

theorem flareForAct_keeps {s0 : State} {c : Nat} {inst tindex : W32} {clean : Bool} {resolved checks : Nat} {outs : List ActOut} {s : State} (hk : Keeps s0 s) : Keeps s0 (flareForAct c inst tindex clean resolved checks outs s) := by
  unfold flareForAct; repeat' first | (with_reducible assumption) | (with_reducible apply answerPos_keeps) | (with_reducible apply actComplete_keeps) | (with_reducible apply updCtx_keeps) | split | dsimp only

theorem dropFreed_keeps {s0 : State} {a : Act} {s : State} (hk : Keeps s0 s) : Keeps s0 (dropFreed a s) := by
  unfold dropFreed; repeat' first | (with_reducible assumption) | (with_reducible apply raiseEmber_keeps)

theorem epochMiss_keeps {s0 : State} {h : Hdr} {b : ActHdr} {s : State} (hk : Keeps s0 s) : Keeps s0 (epochMiss h b s) := by
  unfold epochMiss; repeat' first | (with_reducible assumption) | (with_reducible apply sendNotice_keeps) | (with_reducible apply raiseEmber_keeps) | (with_reducible apply tstatSet_keeps)

theorem actTake_keeps {s0 : State} {c : Nat} {x : Ctx} {a : Act} {s : State} (hk : Keeps s0 s) : Keeps s0 (actTake c x a s) := by
  unfold actTake; repeat' first | (with_reducible assumption) | (with_reducible apply epochMiss_keeps) | (with_reducible apply updCtx_keeps) | (with_reducible apply attnCommit_keeps) | (with_reducible apply attnAdd_keeps) | (with_reducible apply updRel_keeps) | split | lift_lets | (intro x; clear_value x)

theorem actArrive_keeps {s0 : State} {c : Nat} {x : Ctx} {a : Act} {s : State} (hk : Keeps s0 s) : Keeps s0 (actArrive c x a s) := by
  unfold actArrive; repeat' first | (with_reducible assumption) | (with_reducible apply actTake_keeps) | (with_reducible apply dropFreed_keeps) | (with_reducible apply updCtx_keeps) | (with_reducible apply updAttn_keeps) | split | lift_lets | (intro x; clear_value x)

theorem relStart_keeps {s0 : State} {c : Nat} {x : Ctx} {r : RelRec} {h : Hdr} {b : ActHdr} {s : State} (hk : Keeps s0 s) : Keeps s0 (relStart c x r h b s) := by
  unfold relStart; repeat' first | (with_reducible assumption) | (with_reducible apply updRelNum_keeps) | (with_reducible apply updCtx_keeps) | (with_reducible apply postProgress_keeps) | split

theorem actAtFinal_keeps {s0 : State} {c : Nat} {x : Ctx} {a : Act} {s : State} (hk : Keeps s0 s) : Keeps s0 (actAtFinal c x a s) := by
  unfold actAtFinal; repeat' first | (with_reducible assumption) | (with_reducible apply updCtx_keeps) | (with_reducible apply relStart_keeps) | (with_reducible apply retireRel_keeps) | (with_reducible apply actArrive_keeps) | split | lift_lets | (intro x; clear_value x)

theorem kickPfx_keeps {s0 : State} {c : Nat} {s : State} (hk : Keeps s0 s) : Keeps s0 (kickPfx c s) := by
  unfold kickPfx; repeat' first | (with_reducible assumption) | (with_reducible refine keeps_foldl _ (fun s _ _ => ?_) _ ?_) | (with_reducible apply actArrive_keeps) | (with_reducible apply updCtx_keeps) | split

theorem actStart_keeps {s0 : State} {c : Nat} {a : Act} {s : State} (hk : Keeps s0 s) : Keeps s0 (actStart c a s) := by
  unfold actStart; repeat' first | (with_reducible assumption) | (with_reducible apply kickPfx_keeps) | (with_reducible apply actAtFinal_keeps) | (with_reducible apply actArrive_keeps) | split

theorem kickRel_keeps {s0 : State} {c : Nat} {num : W16} {s : State} (hk : Keeps s0 s) : Keeps s0 (kickRel c num s) := by
  unfold kickRel; repeat' first | (with_reducible assumption) | (with_reducible refine keeps_foldl _ (fun s _ _ => ?_) _ ?_) | (with_reducible apply actStart_keeps) | (with_reducible apply updCtx_keeps) | split

theorem finishChain_keeps {s0 : State} {c : Nat} {inst : W32} {t : ChainRun} {s : State} (hk : Keeps s0 s) : Keeps s0 (finishChain c inst t s).2 := by
  unfold finishChain; repeat' first | (with_reducible assumption) | (with_reducible apply updEng_keeps) | (with_reducible apply noteReq_keeps) | split

theorem wakeFlare_keeps {s0 : State} {c : Nat} {l : Lan} {t : ThreadI} {s : State} (hk : Keeps s0 s) : Keeps s0 (wakeFlare c l t s) := by
  unfold wakeFlare; repeat' first | (with_reducible assumption) | (with_reducible apply updEng_keeps) | split | lift_lets | (intro x; clear_value x)

theorem retireDue_keeps {s0 : State} {c : Nat} {inst : W32} {s : State} (hk : Keeps s0 s) : Keeps s0 (retireDue c inst s) := by
  unfold retireDue; repeat' first | (with_reducible assumption) | (with_reducible apply retireRel_keeps) | split | lift_lets | (intro x; clear_value x)

theorem finishTail_keeps {s0 : State} {c : Nat} {t : FlareTail} {s : State} (hk : Keeps s0 s) : Keeps s0 (finishTail c t s) := by
  unfold finishTail; repeat' first | (with_reducible assumption) | (with_reducible apply flareForAct_keeps) | (with_reducible apply retireDue_keeps) | (with_reducible apply wakeFlare_keeps)

theorem runTail_keeps {s0 : State} {c : Nat} {t : FlareTail} {s : State} (hk : Keeps s0 s) : Keeps s0 (runTail c t s) := by
  unfold runTail; repeat' first | (with_reducible assumption) | (with_reducible refine keeps_foldl2 _ (fun s _ _ => ?_) _ ?_) | (with_reducible apply finishChain_keeps) | (with_reducible apply updLctx_keeps) | (with_reducible apply finishTail_keeps) | split | lift_lets | (intro x; refine (fun hx => ?_ : Keeps s0 x.2 → _) ?_; (on_goal 1 => clear_value x); (on_goal 2 => simp only [x])) | (intro x; clear_value x)

theorem takePartial_keeps {s0 : State} {l : Lan} {p : ChainPartial} {good : Bool} {s : State} (hk : Keeps s0 s) : Keeps s0 (takePartial l p good s) := by
  unfold takePartial; repeat' first | (with_reducible assumption) | (with_reducible apply blockRetried_keeps) | (with_reducible apply runTail_keeps) | (with_reducible apply blockLost_keeps) | split | lift_lets | (intro x; clear_value x)

theorem closeLan_keeps {s0 : State} {c : Nat} {r : FlareRun} {areas : List (Lan × OutArea)} {s : State} {q : LLan × Lan × Bool} (hk : Keeps s0 s) : Keeps s0 (closeLan c r areas s q) := by
  unfold closeLan; repeat' first | (with_reducible assumption) | (with_reducible apply updLan_keeps)

theorem noteEmpty_keeps {s0 : State} {old : State} {r : FlareRun} {s : State} (hk : Keeps s0 s) : Keeps s0 (noteEmpty old r s) := by
  unfold noteEmpty; repeat' first | (with_reducible assumption) | (fail_if_no_progress with_reducible refine keeps_upd ?_ rfl rfl rfl rfl rfl rfl) | split

theorem closeRun_keeps {s0 : State} {c : Nat} {r : FlareRun} {s : State} (hk : Keeps s0 s) : Keeps s0 (closeRun c r s) := by
  unfold closeRun; exact runTail_keeps (noteEmpty_keeps (noteReq_keeps (drainBroadcasts_keeps (updLctx_keeps (keeps_foldl _ (fun s _ h => closeLan_keeps h) _ hk)))))

theorem flareComplete_keeps {s0 : State} {c : Nat} {s : State} (hk : Keeps s0 s) : Keeps s0 (flareComplete c s) := by
  unfold flareComplete; repeat' first | (with_reducible assumption) | (with_reducible apply withhold_keeps) | (with_reducible apply closeRun_keeps) | split

theorem submitAdm_keeps {s0 : State} {c : Nat} {x : Ctx} {d : Desc} {a : ReqArg} {s : State} (hk : Keeps s0 s) : Keeps s0 (submitAdm c x d a s) := by
  unfold submitAdm; repeat' first | (with_reducible assumption) | (with_reducible apply finish_keeps) | (with_reducible apply keepProg_keeps) | (with_reducible apply updCtx_keeps) | split

theorem relAccept_keeps {s0 : State} {c : Nat} {r : RelRec} {s : State} (hk : Keeps s0 s) : Keeps s0 (relAccept c r s) := by
  unfold relAccept; repeat' first | (with_reducible assumption) | (with_reducible apply updCtx_keeps) | (with_reducible apply kickRel_keeps) | (with_reducible apply keepProg_keeps)

theorem submitRel_keeps {s0 : State} {c : Nat} {x : Ctx} {d : Desc} {a : ReqArg} {s : State} (hk : Keeps s0 s) : Keeps s0 (submitRel c x d a s) := by
  unfold submitRel; repeat' first | (with_reducible assumption) | (with_reducible apply finish_keeps) | (with_reducible apply relAccept_keeps) | split

theorem doReqSubmit_keeps {s0 : State} {d : Desc} {a : ReqArg} {s : State} (hk : Keeps s0 s) : Keeps s0 (doReqSubmit d a s) := by
  unfold doReqSubmit; repeat' first | (with_reducible assumption) | (with_reducible refine runCtx_keeps _ _ _ (fun _ _ s _ => ?_) ?_) | (with_reducible apply finish_keeps) | (with_reducible apply submitRel_keeps) | (with_reducible apply submitAdm_keeps) | split

theorem sendPosition_keeps {s0 : State} {c : Nat} {x : Ctx} {a : AdmRec} {prompt : Bool} {s : State} (hk : Keeps s0 s) : Keeps s0 (sendPosition c x a prompt s) := by
  unfold sendPosition; repeat' first | (with_reducible assumption) | (with_reducible apply freeAct_keeps) | (with_reducible apply sendMsg_keeps) | (with_reducible apply noteReq_keeps)

theorem dispatchSend_keeps {s0 : State} {c : Nat} {x : Ctx} {a : AdmRec} {k : Nat} {s : State} (hk : Keeps s0 s) : Keeps s0 (dispatchSend c x a k s) := by
  unfold dispatchSend; repeat' first | (with_reducible assumption) | (with_reducible apply finish_keeps) | (with_reducible apply updCtx_keeps) | (with_reducible apply postProgress_keeps) | (with_reducible apply setCtx_keeps) | (with_reducible apply sendPosition_keeps) | split

theorem doDispatch_keeps {s0 : State} {c : Nat} {s : State} (hk : Keeps s0 s) : Keeps s0 (doDispatch c s) := by
  unfold doDispatch; repeat' first | (with_reducible assumption) | (with_reducible apply finish_keeps) | (with_reducible apply updAdm_keeps) | (with_reducible apply dispatchSend_keeps) | split

theorem answerSent_keeps {s0 : State} {i : Item} {s : State} (hk : Keeps s0 s) : Keeps s0 (answerSent i s) := by
  unfold answerSent; repeat' first | (with_reducible assumption) | (with_reducible apply answerPos_keeps) | split

theorem flitSent_keeps {s0 : State} {k : Nat} {s : State} (hk : Keeps s0 s) : Keeps s0 (flitSent k s) := by
  unfold flitSent; repeat' first | (with_reducible assumption) | (with_reducible refine keeps_foldl _ (fun s _ _ => ?_) _ ?_) | (with_reducible apply doFlitSend_keeps) | (with_reducible apply answerSent_keeps)

theorem outToken_keeps {s0 : State} {d : Desc} {l : List (W32 × W32)} {i : Nat} {s : State} (hk : Keeps s0 s) : Keeps s0 (outToken d l i s) := by
  unfold outToken; repeat' first | (with_reducible assumption) | (with_reducible apply gvlWriteLine_keeps) | split | lift_lets | (intro x; clear_value x)

theorem releaseToken_keeps {s0 : State} {c : Nat} {x : Ctx} {r : RelRec} {d : Drawn} {s : State} (hk : Keeps s0 s) : Keeps s0 (releaseToken c x r d s) := by
  unfold releaseToken; repeat' first | (with_reducible assumption) | (with_reducible refine keeps_foldl _ (fun s _ _ => ?_) _ ?_) | (with_reducible apply outToken_keeps) | (with_reducible apply updRel_keeps) | (with_reducible apply updCtx_keeps) | (with_reducible apply amendSuspect_keeps) | (with_reducible apply retireRel_keeps) | (with_reducible apply sendNotice_keeps) | split

theorem doTokenRelease_keeps {s0 : State} {c : Nat} {inst : W32} {s : State} (hk : Keeps s0 s) : Keeps s0 (doTokenRelease c inst s) := by
  unfold doTokenRelease; repeat' first | (with_reducible assumption) | (with_reducible apply releaseToken_keeps) | split

theorem endRequest_keeps {s0 : State} {c : Nat} {r : RelRec} {e : Nat} {s : State} (hk : Keeps s0 s) : Keeps s0 (endRequest c r e s) := by
  unfold endRequest; repeat' first | (with_reducible assumption) | (with_reducible apply updLctx_keeps) | (with_reducible apply retireSoon_keeps) | split

theorem doReqCancel_keeps {s0 : State} {d : Desc} {tag : W32} {s : State} (hk : Keeps s0 s) : Keeps s0 (doReqCancel d tag s) := by
  unfold doReqCancel; repeat' first | (with_reducible assumption) | (with_reducible refine runCtx_keeps _ _ _ (fun _ _ s _ => ?_) ?_) | (with_reducible apply finish_keeps) | (with_reducible apply endRequest_keeps) | split

theorem doReleaseDeadline_keeps {s0 : State} {c : Nat} {num : W16} {s : State} (hk : Keeps s0 s) : Keeps s0 (doReleaseDeadline c num s) := by
  unfold doReleaseDeadline; repeat' first | (with_reducible assumption) | (with_reducible apply endRequest_keeps) | split

theorem endAdm_keeps {s0 : State} {c : Nat} {a : AdmRec} {st : W16} {s : State} (hk : Keeps s0 s) : Keeps s0 (endAdm c a st s) := by
  unfold endAdm; repeat' first | (with_reducible assumption) | (with_reducible apply updAdm_keeps) | (with_reducible apply updCtx_keeps) | (with_reducible apply finish_keeps) | (with_reducible apply complete_keeps) | split

theorem doAdmissionDeadline_keeps {s0 : State} {c : Nat} {num : W16} {s : State} (hk : Keeps s0 s) : Keeps s0 (doAdmissionDeadline c num s) := by
  unfold doAdmissionDeadline; repeat' first | (with_reducible assumption) | (with_reducible apply endAdm_keeps) | split

theorem doRelWaitExpiry_keeps {s0 : State} {c : Nat} {inst : W32} {s : State} (hk : Keeps s0 s) : Keeps s0 (doRelWaitExpiry c inst s) := by
  unfold doRelWaitExpiry; repeat' first | (with_reducible assumption) | (with_reducible apply updCtx_keeps) | (with_reducible apply noticePath_keeps) | (with_reducible apply raiseEmber_keeps) | split

theorem resumeRel_keeps {s0 : State} {c : Nat} {d : Desc} {r : RelRec} {deadline maxtok : W32} {n : Nat} {s : State} (hk : Keeps s0 s) : Keeps s0 (resumeRel c d r deadline maxtok n s) := by
  unfold resumeRel; repeat' first | (with_reducible assumption) | (with_reducible apply finish_keeps) | (with_reducible apply updRelNum_keeps) | (with_reducible apply kickRel_keeps) | split

theorem resumeAdm_keeps {s0 : State} {c : Nat} {x : Ctx} {d : Desc} {a : AdmRec} {deadline : W32} {n : Nat} {s : State} (hk : Keeps s0 s) : Keeps s0 (resumeAdm c x d a deadline n s) := by
  unfold resumeAdm; repeat' first | (with_reducible assumption) | (with_reducible apply finish_keeps) | (with_reducible apply keepProg_keeps) | (with_reducible apply updAdm_keeps) | split | lift_lets | (intro x; clear_value x)

theorem doReqResume_keeps {s0 : State} {d : Desc} {tag deadline maxtok : W32} {toks : List W32} {s : State} (hk : Keeps s0 s) : Keeps s0 (doReqResume d tag deadline maxtok toks s) := by
  unfold doReqResume; repeat' first | (with_reducible assumption) | (with_reducible refine runCtx_keeps _ _ _ (fun _ _ s _ => ?_) ?_) | (with_reducible apply finish_keeps) | (with_reducible apply resumeRel_keeps) | (with_reducible apply resumeAdm_keeps) | split | lift_lets | (intro x; clear_value x)

theorem doReqLedger_keeps {s0 : State} {d : Desc} {tag : W32} {s : State} (hk : Keeps s0 s) : Keeps s0 (doReqLedger d tag s) := by
  unfold doReqLedger; repeat' first | (with_reducible assumption) | (with_reducible refine runCtx_keeps _ _ _ (fun _ _ s _ => ?_) ?_) | (with_reducible apply finish_keeps) | (with_reducible apply complete_keeps) | (with_reducible apply outLines_keeps) | split

theorem doReqLog_keeps {s0 : State} {d : Desc} {tag : W32} {s : State} (hk : Keeps s0 s) : Keeps s0 (doReqLog d tag s) := by
  unfold doReqLog; repeat' first | (with_reducible assumption) | (with_reducible refine runCtx_keeps _ _ _ (fun _ _ s _ => ?_) ?_) | (with_reducible apply finish_keeps) | (with_reducible apply finishFree_keeps) | split | lift_lets | (intro x; clear_value x)

theorem doReqReplay_keeps {s0 : State} {d : Desc} {tag : W32} {differ : Option Nat} {s : State} (hk : Keeps s0 s) : Keeps s0 (doReqReplay d tag differ s) := by
  unfold doReqReplay; repeat' first | (with_reducible assumption) | (with_reducible refine runCtx_keeps _ _ _ (fun _ _ s _ => ?_) ?_) | (with_reducible apply finish_keeps) | (with_reducible apply updRel_keeps) | (with_reducible apply finishFree_keeps) | (with_reducible apply ember_keeps) | split | lift_lets | (intro x; clear_value x)

theorem doSettleSend_keeps {s0 : State} {c : Nat} {inst : W32} {s : State} (hk : Keeps s0 s) : Keeps s0 (doSettleSend c inst s) := by
  unfold doSettleSend; repeat' first | (with_reducible assumption) | (fail_if_no_progress with_reducible refine keeps_upd ?_ rfl rfl rfl rfl rfl rfl) | (with_reducible apply settleCount_keeps) | (with_reducible apply sendNotice_keeps) | split | lift_lets | (intro x; refine (fun hx => ?_ : Keeps s0 x → _) ?_; (on_goal 1 => clear_value x); (on_goal 2 => simp only [x])) | (intro x; clear_value x)

theorem endAdms_keeps {s0 : State} {c : Nat} {s : State} (hk : Keeps s0 s) : Keeps s0 (endAdms c s) := by
  unfold endAdms; repeat' first | (with_reducible assumption) | (with_reducible refine keeps_foldl _ (fun s _ _ => ?_) _ ?_) | (with_reducible apply endAdm_keeps) | split

theorem endRels_keeps {s0 : State} {c : Nat} {s : State} (hk : Keeps s0 s) : Keeps s0 (endRels c s) := by
  unfold endRels; repeat' first | (with_reducible assumption) | (with_reducible refine keeps_foldl _ (fun s _ _ => ?_) _ ?_) | (with_reducible apply retireRel_keeps) | split

theorem shutStream_keeps {s0 : State} {s : State} {t : Stream} (hk : Keeps s0 s) : Keeps s0 (shutStream s t) := by
  unfold shutStream; repeat' first | (with_reducible assumption) | (fail_if_no_progress with_reducible refine keeps_upd ?_ rfl rfl rfl rfl rfl rfl) | (with_reducible apply sendNotice_keeps) | split | lift_lets | (intro x; clear_value x)

theorem doSysShutdown_keeps {s0 : State} {d : Desc} {s : State} (hk : Keeps s0 s) : Keeps s0 (doSysShutdown d s) := by
  unfold doSysShutdown; repeat' first | (with_reducible assumption) | (fail_if_no_progress with_reducible refine keeps_upd ?_ rfl rfl rfl rfl rfl rfl) | (with_reducible refine keeps_foldl _ (fun s _ _ => ?_) _ ?_) | (with_reducible refine runSys_keeps _ _ (fun s _ => ?_) ?_) | (with_reducible apply endAdms_keeps) | (with_reducible apply shutStream_keeps) | (with_reducible apply endRels_keeps) | (with_reducible apply finish_keeps) | (with_reducible apply deviceRecord_keeps)

theorem runWrite_keeps {s0 : State} {s : State} {d : DevWrite} (hk : Keeps s0 s) : Keeps s0 (runWrite s d) := by
  unfold runWrite
  have e : Keeps s0 { s with mem := d.run s.mem } := keeps_mem hk (fun q => devWrite_wf q)
  dsimp only; split
  · exact e
  · exact noteReq_keeps e

theorem runWrites_keeps {s0 : State} {ds : List DevWrite} {s : State} (hk : Keeps s0 s) : Keeps s0 (runWrites ds s) := by
  unfold runWrites; repeat' first | (with_reducible assumption) | (with_reducible refine keeps_foldl _ (fun s _ _ => ?_) _ ?_) | (with_reducible apply runWrite_keeps)

theorem dirPut_keeps {s0 : State} {k : Nat} {e : Option DirEnt} {s : State} (hk : Keeps s0 s) : Keeps s0 (dirPut k e s) := by
  unfold dirPut; repeat' first | (with_reducible assumption) | (fail_if_no_progress with_reducible refine keeps_upd ?_ rfl rfl rfl rfl rfl rfl)

theorem dirAlloc_keeps {s0 : State} {k : Nat} {st : DirSt} {s : State} (hk : Keeps s0 s) : Keeps s0 (dirAlloc k st s) := by
  unfold dirAlloc; repeat' first | (with_reducible assumption) | (fail_if_no_progress with_reducible refine keeps_upd ?_ rfl rfl rfl rfl rfl rfl) | (with_reducible apply dirPut_keeps)

theorem dirRecall_keeps {s0 : State} {k : Nat} {why : Recall} {s : State} (hk : Keeps s0 s) : Keeps s0 (dirRecall k why s) := by
  unfold dirRecall; repeat' first | (with_reducible assumption) | (fail_if_no_progress with_reducible refine keeps_upd ?_ rfl rfl rfl rfl rfl rfl) | (with_reducible apply dirPut_keeps) | split

theorem poisonHost_keeps {s0 : State} {k : Nat} {s : State} (hk : Keeps s0 s) : Keeps s0 (poisonHost k s) := by
  unfold poisonHost; dsimp only; split
  · exact ember_keeps (keeps_upd hk rfl rfl rfl rfl rfl rfl)
  · exact ember_keeps (keeps_upd (keeps_mem hk (fun h => poisonBlock_wf (memWrite_wf h))) rfl rfl rfl rfl rfl rfl)

theorem devReadBlock_keeps {s0 : State} {k : Nat} {s : State} (hk : Keeps s0 s) : Keeps s0 (devReadBlock k s) := by
  unfold devReadBlock; repeat' first | (with_reducible assumption) | (with_reducible apply dirRecall_keeps) | split

theorem devWriteBlock_keeps {s0 : State} {k : Nat} {d : DevWrite} {s : State} (hk : Keeps s0 s) : Keeps s0 (devWriteBlock k d s) := by
  unfold devWriteBlock; repeat' first | (with_reducible assumption) | (with_reducible apply runWrites_keeps) | (with_reducible apply dirRecall_keeps) | (with_reducible apply dirPut_keeps) | split | lift_lets | (intro x; refine (fun hx => ?_ : Keeps s0 x → _) ?_; (on_goal 1 => clear_value x); (on_goal 2 => simp only [x]))

theorem setWindow_keeps {s0 : State} {i : Nat} {v : BitVec 128} {s : State} (hk : Keeps s0 s) : Keeps s0 (setWindow i v s) := by
  unfold setWindow; repeat' first | (with_reducible assumption) | (fail_if_no_progress with_reducible refine keeps_upd ?_ rfl rfl rfl rfl rfl rfl) | (with_reducible refine keeps_foldl _ (fun s _ _ => ?_) _ ?_) | (with_reducible apply dirRecall_keeps) | split | lift_lets | (intro x; clear_value x)

theorem settleWindows_keeps {s0 : State} {s : State} (hk : Keeps s0 s) : Keeps s0 (settleWindows s) := by
  unfold settleWindows; repeat' first | (with_reducible assumption) | (fail_if_no_progress with_reducible refine keeps_upd ?_ rfl rfl rfl rfl rfl rfl) | (with_reducible refine keeps_foldl _ (fun s _ _ => ?_) _ ?_) | (with_reducible apply setWindow_keeps)

theorem runMask_keeps {s0 : State} (d : Desc) (ls : List LLan) (body : Nat → Ctx → State → State) (hb : ∀ c x s, Keeps s0 s → Keeps s0 (body c x s)) {s : State} (hk : Keeps s0 s) : Keeps s0 (runMask d ls body s) := by
  unfold runMask; repeat' first | (with_reducible assumption) | (with_reducible refine runCtx_keeps _ _ _ (fun _ _ s _ => ?_) ?_) | (with_reducible apply finish_keeps) | (apply hb) | split

theorem createCtx_keeps {s0 : State} {c : Nat} {d : Desc} {a : CtxArg} {keydig : Digest} {s : State} (hk : Keeps s0 s) : Keeps s0 (createCtx c d a keydig s) := by
  unfold createCtx; repeat' first | (with_reducible assumption) | (fail_if_no_progress with_reducible refine keeps_upd ?_ rfl rfl rfl rfl rfl rfl) | (with_reducible refine keeps_foldl _ (fun s _ _ => ?_) _ ?_) | (with_reducible apply drawRandom_keeps) | (with_reducible apply updLctx_keeps) | (with_reducible apply setCtx_keeps) | (with_reducible apply ownSconce_keeps) | (with_reducible apply updRing_keeps)

theorem doCtxCreate_keeps {s0 : State} {d : Desc} {a : CtxArg} {keydig : Digest} {s : State} (hk : Keeps s0 s) : Keeps s0 (doCtxCreate d a keydig s) := by
  unfold doCtxCreate; repeat' first | (with_reducible assumption) | (with_reducible refine runCmd_keeps _ _ _ _ _ _ (fun s _ => ?_) ?_) | (with_reducible apply finish_keeps) | (with_reducible apply pwrCfgErr_keeps) | (with_reducible apply complete_keeps) | (with_reducible apply createCtx_keeps) | split

theorem unbindRing_keeps {s0 : State} {s : State} {r : RingI} (hk : Keeps s0 s) : Keeps s0 (unbindRing s r) := by
  unfold unbindRing; repeat' first | (with_reducible assumption) | (with_reducible refine keeps_foldl _ (fun s _ _ => ?_) _ ?_) | (with_reducible apply complete_keeps) | (with_reducible apply dequeue_keeps) | (with_reducible apply updRing_keeps)

theorem destroyBegin_keeps {s0 : State} {c : Nat} {s : State} (hk : Keeps s0 s) : Keeps s0 (destroyBegin c s) := by
  unfold destroyBegin; repeat' first | (with_reducible assumption) | (fail_if_no_progress with_reducible refine keeps_upd ?_ rfl rfl rfl rfl rfl rfl) | (with_reducible refine keeps_foldl _ (fun s _ _ => ?_) _ ?_) | (with_reducible apply updLctx_keeps) | (with_reducible apply stopThreads_keeps) | (with_reducible apply endRels_keeps) | (with_reducible apply endAdms_keeps) | (with_reducible apply unbindRing_keeps) | (with_reducible apply updCtx_keeps) | split

theorem teardownWick_keeps {s0 : State} {l w : Nat} {s : State} (hk : Keeps s0 s) : Keeps s0 (teardownWick l w s) := by
  unfold teardownWick; repeat' first | (with_reducible assumption) | (with_reducible apply setWick_keeps) | (with_reducible apply updRecWick_keeps) | split | lift_lets | intro x

theorem teardownLan_keeps {s0 : State} {s : State} {l : Nat} (hk : Keeps s0 s) : Keeps s0 (teardownLan s l) := by
  unfold teardownLan; repeat' first | (with_reducible assumption) | (with_reducible refine keeps_foldl _ (fun s _ _ => ?_) _ ?_) | (with_reducible apply teardownWick_keeps) | (with_reducible apply updEng_keeps) | (with_reducible apply updLan_keeps)

theorem teardownSconce_keeps {s0 : State} {d : Desc} {s : State} {n : Nat} (hk : Keeps s0 s) : Keeps s0 (teardownSconce d s n) := by
  unfold teardownSconce; repeat' first | (with_reducible assumption) | (with_reducible refine keeps_foldl _ (fun s _ _ => ?_) _ ?_) | (with_reducible apply freeSconce_keeps) | (with_reducible apply teardownLan_keeps) | (with_reducible apply updScn_keeps)

theorem teardownTables_keeps {s0 : State} {c : Nat} {ctxid : W16} {ls : List Nat} {s : State} (hk : Keeps s0 s) : Keeps s0 (teardownTables c ctxid ls s) := by
  unfold teardownTables; repeat' first | (with_reducible assumption) | (fail_if_no_progress with_reducible refine keeps_upd ?_ rfl rfl rfl rfl rfl rfl)

theorem destroyEnd_keeps {s0 : State} {c : Nat} {x : Ctx} {d : Desc} {s : State} (hk : Keeps s0 s) : Keeps s0 (destroyEnd c x d s) := by
  unfold destroyEnd; repeat' first | (with_reducible assumption) | (with_reducible refine keeps_foldl _ (fun s _ _ => ?_) _ ?_) | (with_reducible apply teardownTables_keeps) | (with_reducible apply setWindow_keeps) | (with_reducible apply teardownSconce_keeps) | (with_reducible apply setCtx_keeps) | (with_reducible apply updLctx_keeps) | (with_reducible apply finish_keeps) | (with_reducible apply scrubCheck_keeps) | split

theorem pathLost_keeps {s0 : State} {c : Nat} {p : Pkg} {s : State} (hk : Keeps s0 s) : Keeps s0 (pathLost c p s) := by
  unfold pathLost; repeat' first | (with_reducible assumption) | (with_reducible refine keeps_foldl _ (fun s _ _ => ?_) _ ?_) | (with_reducible apply settleCount_keeps) | (with_reducible apply amendSuspect_keeps) | split

theorem newPath_keeps {s0 : State} {c : Nat} {x : Ctx} {path : List Pkg} {s : State} (hk : Keeps s0 s) : Keeps s0 (newPath c x path s) := by
  unfold newPath; repeat' first | (with_reducible assumption) | (with_reducible refine keeps_foldl _ (fun s _ _ => ?_) _ ?_) | (with_reducible apply pathLost_keeps) | (with_reducible apply updCtx_keeps)

theorem popOp_keeps {s0 : State} {c : Nat} {s : State} (hk : Keeps s0 s) : Keeps s0 (popOp c s) := by
  unfold popOp; repeat' first | (with_reducible assumption) | (with_reducible apply updCtx_keeps)

theorem setPause_keeps {s0 : State} {c : Nat} {b : Bool} {s : State} (hk : Keeps s0 s) : Keeps s0 (setPause c b s) := by
  unfold setPause; repeat' first | (with_reducible assumption) | (with_reducible apply updLctx_keeps)

theorem opStep_keeps {s0 : State} {c : Nat} {s : State} (hk : Keeps s0 s) : Keeps s0 (opStep c s) := by
  unfold opStep; repeat' first | (with_reducible assumption) | (with_reducible apply setPause_keeps) | (with_reducible apply updCtx_keeps) | (with_reducible apply finish_keeps) | (with_reducible apply popOp_keeps) | (with_reducible apply newPath_keeps) | (with_reducible apply destroyBegin_keeps) | (with_reducible apply destroyEnd_keeps) | split | dsimp only

theorem opsGo_keeps {s0 : State} {c : Nat} {s : State} (hk : Keeps s0 s) : Keeps s0 (opsGo c s) := by
  unfold opsGo; repeat' first | (with_reducible assumption) | (with_reducible refine keeps_foldl _ (fun s _ _ => ?_) _ ?_) | (with_reducible apply opStep_keeps) | split

theorem pushOp_keeps {s0 : State} {c : Nat} {d : Desc} {o : CtxOp} {s : State} (hk : Keeps s0 s) : Keeps s0 (pushOp c d o s) := by
  unfold pushOp; repeat' first | (with_reducible assumption) | (with_reducible apply opsGo_keeps) | (with_reducible apply updCtx_keeps) | (with_reducible apply keepProg_keeps)

theorem runCtxId_keeps {s0 : State} (d : Desc) (ctxid : W16) (input : Bool) (body : Nat → Ctx → State → State) (hb : ∀ c x s, Keeps s0 s → Keeps s0 (body c x s)) {s : State} (hk : Keeps s0 s) : Keeps s0 (runCtxId d ctxid input body s) := by
  unfold runCtxId; repeat' first | (with_reducible assumption) | (with_reducible refine runCmd_keeps _ _ _ _ _ _ (fun s _ => ?_) ?_) | (with_reducible apply finish_keeps) | (apply hb) | split

theorem doCtxDestroy_keeps {s0 : State} {d : Desc} {ctxid : W16} {s : State} (hk : Keeps s0 s) : Keeps s0 (doCtxDestroy d ctxid s) := by
  unfold doCtxDestroy; repeat' first | (with_reducible assumption) | (with_reducible refine runCtxId_keeps _ _ _ _ (fun _ _ s _ => ?_) ?_) | (with_reducible apply pushOp_keeps)

theorem doCtxPipeline_keeps {s0 : State} {d : Desc} {ctxid : W16} {path : List Pkg} {s : State} (hk : Keeps s0 s) : Keeps s0 (doCtxPipeline d ctxid path s) := by
  unfold doCtxPipeline; repeat' first | (with_reducible assumption) | (with_reducible refine runCtxId_keeps _ _ _ _ (fun _ _ s _ => ?_) ?_) | (with_reducible apply finish_keeps) | (with_reducible apply pushOp_keeps) | split

theorem doCtxWeight_keeps {s0 : State} {d : Desc} {ctxid weight : W16} {s : State} (hk : Keeps s0 s) : Keeps s0 (doCtxWeight d ctxid weight s) := by
  unfold doCtxWeight; repeat' first | (with_reducible assumption) | (with_reducible refine runCtxId_keeps _ _ _ _ (fun _ _ s _ => ?_) ?_) | (with_reducible apply finish_keeps) | (with_reducible apply updLctx_keeps) | (with_reducible apply pwrCfgErr_keeps) | split

theorem doKload_keeps {s0 : State} {d : Desc} {k : KImage} {s : State} (hk : Keeps s0 s) : Keeps s0 (doKload d k s) := by
  unfold doKload
  refine runCtx_keeps _ _ _ (fun c x s h => ?_) hk
  split
  · exact finish_keeps h
  split
  · exact finish_keeps h
  split
  · exact finish_keeps h
  split
  · exact finish_keeps h
  generalize kernelPlace s c x (imageSize k) = kp
  cases kp with
  | none => exact finish_keeps h
  | some p =>
    have e : Keeps s0 { s with mem := storeBytes s.mem p.2 (imageBytes k) } := keeps_mem h (fun q => storeBytes_wf q)
    dsimp only
    exact complete_keeps (keeps_foldl _ (fun s l h => updEng_keeps h) _ (updCtx_keeps e))

theorem doKunload_keeps {s0 : State} {d : Desc} {handle : Nat} {s : State} (hk : Keeps s0 s) : Keeps s0 (doKunload d handle s) := by
  unfold doKunload; repeat' first | (with_reducible assumption) | (with_reducible refine runCtx_keeps _ _ _ (fun _ _ s _ => ?_) ?_) | (with_reducible apply finish_keeps) | (with_reducible apply updCtx_keeps) | (with_reducible apply unloadCheck_keeps) | (with_reducible apply keepProg_keeps) | split

theorem invoke_keeps {s0 : State} {c : Nat} {k : Kernel} {entry : Nat} {ls : List Lan} {d : Desc} {s : State} (hk : Keeps s0 s) : Keeps s0 (invoke c k entry ls d s) := by
  unfold invoke; repeat' first | (with_reducible assumption) | (with_reducible apply startInv_keeps) | (with_reducible apply keepProg_keeps)

theorem doKrun_keeps {s0 : State} {d : Desc} {handle entry : Nat} {lmask : List LLan} {s : State} (hk : Keeps s0 s) : Keeps s0 (doKrun d handle entry lmask s) := by
  unfold doKrun; repeat' first | (with_reducible assumption) | (with_reducible refine runMask_keeps _ _ _ (fun _ _ s _ => ?_) ?_) | (with_reducible apply finish_keeps) | (with_reducible apply invoke_keeps) | split | lift_lets | (intro x; clear_value x)

theorem report_keeps {s0 : State} {body : List Byte} {op : Nat} {s : State} (hk : Keeps s0 s) : Keeps s0 (report body op s).2 := by
  unfold report; repeat' first | (with_reducible assumption) | (with_reducible apply freeWords_keeps)

theorem doCtxAttest_keeps {s0 : State} {d : Desc} {nonce : BitVec 256} {s : State} (hk : Keeps s0 s) : Keeps s0 (doCtxAttest d nonce s) := by
  unfold doCtxAttest; repeat' first | (with_reducible assumption) | (with_reducible refine runCtx_keeps _ _ _ (fun _ _ s _ => ?_) ?_) | (with_reducible apply finish_keeps) | (with_reducible apply report_keeps) | (with_reducible apply complete_keeps) | (with_reducible apply outLines_keeps) | split

theorem doCtxEmbers_keeps {s0 : State} {d : Desc} {s : State} (hk : Keeps s0 s) : Keeps s0 (doCtxEmbers d s) := by
  unfold doCtxEmbers; repeat' first | (with_reducible assumption) | (with_reducible refine runCtx_keeps _ _ _ (fun _ _ s _ => ?_) ?_) | (with_reducible apply finishOut_keeps)

theorem kickOps_keeps {s0 : State} {s : State} (hk : Keeps s0 s) : Keeps s0 (kickOps s) := by
  unfold kickOps; repeat' first | (with_reducible assumption) | (with_reducible refine keeps_foldl _ (fun s _ _ => ?_) _ ?_) | (with_reducible apply clockGo_keeps) | (with_reducible apply opsGo_keeps) | split

theorem kickAllStages_keeps {s0 : State} {s : State} (hk : Keeps s0 s) : Keeps s0 (kickAllStages s) := by
  unfold kickAllStages; repeat' first | (with_reducible assumption) | (with_reducible refine keeps_foldl _ (fun s _ _ => ?_) _ ?_) | (with_reducible apply kickStages_keeps)

theorem acceptNum_keeps {s0 : State} {src : Pkg} {vl : BitVec 3} {n : W32} {s r : State} (hk : Keeps s0 s) (hr : acceptNum src vl n s = some r) : Keeps s0 r := by
  unfold acceptNum at hr; dsimp only at hr; (repeat' split at hr) <;> first | (simp at hr; done) | (injection hr with hr; subst hr; repeat' first | (with_reducible assumption) | (fail_if_no_progress with_reducible refine keeps_upd ?_ rfl rfl rfl rfl rfl rfl))

theorem countDup_keeps {s0 : State} {s : State} (hk : Keeps s0 s) : Keeps s0 (countDup s) := by
  unfold countDup; repeat' first | (with_reducible assumption) | (fail_if_no_progress with_reducible refine keeps_upd ?_ rfl rfl rfl rfl rfl rfl) | (with_reducible apply tstatSet_keeps)

theorem workBad_keeps {s0 : State} {c : Nat} {m : Msg} {cause : W16} {s : State} (hk : Keeps s0 s) : Keeps s0 (workBad c m cause s) := by
  unfold workBad; repeat' first | (with_reducible assumption) | (fail_if_no_progress with_reducible refine keeps_upd ?_ rfl rfl rfl rfl rfl rfl) | (with_reducible apply blockLost_keeps) | (with_reducible apply tstatSet_keeps) | (with_reducible apply sendNotice_keeps) | split | lift_lets | (intro x; clear_value x)

theorem receive_keeps {s0 : State} (k : Nat) (m : Msg) (kind : Nat) (body : State → State) (hb : ∀ s, Keeps s0 s → Keeps s0 (body s)) {s : State} (hk : Keeps s0 s) : Keeps s0 (receive k m kind body s) := by
  unfold receive; repeat' first | (with_reducible assumption) | (with_reducible apply takeItem_keeps) | (with_reducible apply countDrop_keeps) | (refine acceptNum_keeps ?_ ‹acceptNum _ _ _ _ = some _›) | (with_reducible apply countDup_keeps) | (with_reducible apply workBad_keeps) | (apply hb) | split | dsimp only

theorem holdUnder_keeps {s0 : State} {r : HoldRule} {k : LinkI} {m : Msg} {s : State} (hk : Keeps s0 s) : Keeps s0 (holdUnder r k m s) := by
  unfold holdUnder; repeat' first | (with_reducible assumption) | (fail_if_no_progress with_reducible refine keeps_upd ?_ rfl rfl rfl rfl rfl rfl) | (with_reducible apply reportLoss_keeps) | (with_reducible apply tstatSet_keeps) | split

theorem shutNotice_keeps {s0 : State} {m : Msg} {s : State} (hk : Keeps s0 s) : Keeps s0 (shutNotice m s) := by
  unfold shutNotice; repeat' first | (with_reducible assumption) | (with_reducible apply reportLoss_keeps)

theorem receiveWork_keeps {s0 : State} (k : LinkI) (m : Msg) (kind : Nat) (body : State → State) (hb : ∀ s, Keeps s0 s → Keeps s0 (body s)) {s : State} (hk : Keeps s0 s) : Keeps s0 (receiveWork k m kind body s) := by
  unfold receiveWork; repeat' first | (with_reducible assumption) | (fail_if_no_progress with_reducible refine keeps_upd ?_ rfl rfl rfl rfl rfl rfl) | (with_reducible refine receive_keeps _ _ _ _ (fun s _ => ?_) ?_) | (with_reducible apply shutNotice_keeps) | (with_reducible apply touchStream_keeps) | (with_reducible apply holdUnder_keeps) | (apply hb) | split | lift_lets | (intro x; refine (fun hx => ?_ : Keeps s0 x → _) ?_; (on_goal 1 => clear_value x); (on_goal 2 => simp only [x]))

theorem workGood_keeps {s0 : State} {c : Nat} {m : Msg} {s : State} (hk : Keeps s0 s) : Keeps s0 (workGood c m s).2 := by
  unfold workGood; repeat' first | (with_reducible assumption) | (fail_if_no_progress with_reducible refine keeps_upd ?_ rfl rfl rfl rfl rfl rfl) | (with_reducible apply blockRetried_keeps) | split | lift_lets | (intro x; clear_value x)

theorem freeKept_keeps {s0 : State} {h : Hdr} {s : State} (hk : Keeps s0 s) : Keeps s0 (freeKept h s) := by
  unfold freeKept; repeat' first | (with_reducible assumption) | (fail_if_no_progress with_reducible refine keeps_upd ?_ rfl rfl rfl rfl rfl rfl)

theorem actNoCtx_keeps {s0 : State} {m : Msg} {s : State} (hk : Keeps s0 s) : Keeps s0 (actNoCtx m s) := by
  unfold actNoCtx; repeat' first | (with_reducible assumption) | (with_reducible apply epochMiss_keeps) | split

theorem doActReceive_keeps {s0 : State} {k : LinkI} {m : Msg} {bad : Bool} {s : State} (hk : Keeps s0 s) : Keeps s0 (doActReceive k m bad s) := by
  unfold doActReceive; repeat' first | (with_reducible assumption) | (with_reducible refine receiveWork_keeps _ _ _ _ (fun s _ => ?_) ?_) | (with_reducible apply actNoCtx_keeps) | (with_reducible apply workBad_keeps) | (with_reducible apply workGood_keeps) | (with_reducible apply freeKept_keeps) | (with_reducible apply kickPfx_keeps) | (with_reducible apply actStart_keeps) | split

theorem contribute_keeps {s0 : State} {c : Nat} {exps : List Int} {h : Hdr} {r : RedHdr} {g : List S40Group} {clean : Bool} {blocks : Nat} {s : State} (hk : Keeps s0 s) : Keeps s0 (contribute c exps h r g clean blocks s) := by
  unfold contribute; repeat' first | (with_reducible assumption) | (with_reducible apply redPut_keeps) | (with_reducible apply tstatSet_keeps) | split | lift_lets | (intro x; clear_value x)

theorem doS40Receive_keeps {s0 : State} {k : LinkI} {m : Msg} {bad : Bool} {s : State} (hk : Keeps s0 s) : Keeps s0 (doS40Receive k m bad s) := by
  unfold doS40Receive; repeat' first | (with_reducible assumption) | (with_reducible refine receiveWork_keeps _ _ _ _ (fun s _ => ?_) ?_) | (with_reducible apply epochMiss_keeps) | (with_reducible apply countDrop_keeps) | (with_reducible apply workBad_keeps) | (with_reducible apply workGood_keeps) | (with_reducible apply contribute_keeps) | split | lift_lets | (intro x; clear_value x)

theorem doRedResend_keeps {s0 : State} {c : Nat} {inst tindex : W32} {layer : W16} {s : State} (hk : Keeps s0 s) : Keeps s0 (doRedResend c inst tindex layer s) := by
  unfold doRedResend; repeat' first | (with_reducible assumption) | (with_reducible refine keeps_foldl _ (fun s _ _ => ?_) _ ?_) | (with_reducible apply sendNotice_keeps) | (with_reducible apply tstatSet_keeps) | split

theorem doRedExpiry_keeps {s0 : State} {c : Nat} {inst tindex : W32} {layer : W16} {s : State} (hk : Keeps s0 s) : Keeps s0 (doRedExpiry c inst tindex layer s) := by
  unfold doRedExpiry; repeat' first | (with_reducible assumption) | (fail_if_no_progress with_reducible refine keeps_upd ?_ rfl rfl rfl rfl rfl rfl) | (with_reducible apply tstatSet_keeps) | (with_reducible apply raiseEmber_keeps) | (with_reducible apply sendNotice_keeps) | split

theorem receiveNotice_keeps {s0 : State} (k : LinkI) (m : Msg) (kind : Nat) (body : Nat → Ctx → State → State) (hb : ∀ c x s, Keeps s0 s → Keeps s0 (body c x s)) {s : State} (hk : Keeps s0 s) : Keeps s0 (receiveNotice k m kind body s) := by
  unfold receiveNotice; repeat' first | (with_reducible assumption) | (with_reducible refine receive_keeps _ _ _ _ (fun s _ => ?_) ?_) | (apply hb) | split

theorem enterPrefix_keeps {s0 : State} {c : Nat} {a : AdmRec} {s : State} (hk : Keeps s0 s) : Keeps s0 (enterPrefix c a s) := by
  unfold enterPrefix; repeat' first | (with_reducible assumption) | (with_reducible refine keeps_foldl _ (fun s _ _ => ?_) _ ?_) | (with_reducible apply updWick_keeps) | (with_reducible apply setCtx_keeps) | split | lift_lets | (intro x; clear_value x)

theorem doNextReceive_keeps {s0 : State} {k : LinkI} {m : Msg} {s : State} (hk : Keeps s0 s) : Keeps s0 (doNextReceive k m s) := by
  unfold doNextReceive; repeat' first | (with_reducible assumption) | (fail_if_no_progress with_reducible refine keeps_upd ?_ rfl rfl rfl rfl rfl rfl) | (with_reducible refine receiveNotice_keeps _ _ _ _ (fun _ _ s _ => ?_) ?_) | (with_reducible apply updAdm_keeps) | (with_reducible apply enterPrefix_keeps) | split | lift_lets | (intro x; clear_value x)

theorem retireNamed_keeps {s0 : State} {c : Nat} {h : Hdr} {r : RelRec} {e : Nat} {s : State} (hk : Keeps s0 s) : Keeps s0 (retireNamed c h r e s) := by
  unfold retireNamed; repeat' first | (with_reducible assumption) | (with_reducible apply updRelNum_keeps) | (with_reducible apply retireRel_keeps) | split

theorem doWithheldReceive_keeps {s0 : State} {k : LinkI} {m : Msg} {s : State} (hk : Keeps s0 s) : Keeps s0 (doWithheldReceive k m s) := by
  unfold doWithheldReceive; repeat' first | (with_reducible assumption) | (with_reducible refine receiveNotice_keeps _ _ _ _ (fun _ _ s _ => ?_) ?_) | (with_reducible apply retireNamed_keeps) | (with_reducible apply setBroken_keeps) | split

theorem retireNotice_keeps {s0 : State} {c : Nat} {x : Ctx} {h : Hdr} {s : State} (hk : Keeps s0 s) : Keeps s0 (retireNotice c x h s) := by
  unfold retireNotice; repeat' first | (with_reducible assumption) | (with_reducible apply retireHere_keeps) | (with_reducible apply endAdm_keeps) | split

theorem doCommitReceive_keeps {s0 : State} {k : LinkI} {m : Msg} {s : State} (hk : Keeps s0 s) : Keeps s0 (doCommitReceive k m s) := by
  unfold doCommitReceive; repeat' first | (with_reducible assumption) | (with_reducible refine receiveNotice_keeps _ _ _ _ (fun _ _ s _ => ?_) ?_) | (with_reducible apply attnCommit_keeps) | (with_reducible apply kickPfx_keeps) | (with_reducible apply retireNotice_keeps) | split

theorem doDiscardReceive_keeps {s0 : State} {k : LinkI} {m : Msg} {s : State} (hk : Keeps s0 s) : Keeps s0 (doDiscardReceive k m s) := by
  unfold doDiscardReceive; repeat' first | (with_reducible assumption) | (with_reducible refine receiveNotice_keeps _ _ _ _ (fun _ _ s _ => ?_) ?_) | (with_reducible apply attnDiscard_keeps) | (with_reducible apply kickPfx_keeps) | (with_reducible apply retireNotice_keeps) | split

theorem sendAgain_keeps {s0 : State} {m : Msg} {s : State} (hk : Keeps s0 s) : Keeps s0 (sendAgain m s) := by
  unfold sendAgain; repeat' first | (with_reducible assumption) | (fail_if_no_progress with_reducible refine keeps_upd ?_ rfl rfl rfl rfl rfl rfl) | (with_reducible apply egress_keeps)

theorem doResendReceive_keeps {s0 : State} {k : LinkI} {m : Msg} {s : State} (hk : Keeps s0 s) : Keeps s0 (doResendReceive k m s) := by
  unfold doResendReceive; repeat' first | (with_reducible assumption) | (with_reducible refine receiveNotice_keeps _ _ _ _ (fun _ _ s _ => ?_) ?_) | (with_reducible apply sendAgain_keeps) | split

theorem doEpochMiss_keeps {s0 : State} {k : LinkI} {m : Msg} {s : State} (hk : Keeps s0 s) : Keeps s0 (doEpochMiss k m s) := by
  unfold doEpochMiss; repeat' first | (with_reducible assumption) | (with_reducible refine receiveNotice_keeps _ _ _ _ (fun _ _ s _ => ?_) ?_) | (with_reducible apply retireNamed_keeps) | split

theorem doRetiredExpiry_keeps {s0 : State} {ctx : W16} {inst : W32} {s : State} (hk : Keeps s0 s) : Keeps s0 (doRetiredExpiry ctx inst s) := by
  unfold doRetiredExpiry; repeat' first | (with_reducible assumption) | (fail_if_no_progress with_reducible refine keeps_upd ?_ rfl rfl rfl rfl rfl rfl)

theorem sendTaper_keeps {s0 : State} {n : Chain} {ctx : W16} {t : TaperHdr} {s : State} (hk : Keeps s0 s) : Keeps s0 (sendTaper n ctx t s) := by
  unfold sendTaper; repeat' first | (with_reducible assumption) | (fail_if_no_progress with_reducible refine keeps_upd ?_ rfl rfl rfl rfl rfl rfl) | (with_reducible apply linkPut_keeps) | split

theorem storeSeg_keeps {s0 : State} {t : TaperHdr} {dig : Digest} {s : State} (hk : Keeps s0 s) : Keeps s0 (storeSeg t dig s) := by
  unfold storeSeg; repeat' first | (with_reducible assumption) | (fail_if_no_progress with_reducible refine keeps_upd ?_ rfl rfl rfl rfl rfl rfl)

theorem segArrived_keeps {s0 : State} {c : Nat} {t : TaperHdr} {s : State} (hk : Keeps s0 s) : Keeps s0 (segArrived c t s) := by
  unfold segArrived; repeat' first | (with_reducible assumption) | (with_reducible apply updCtx_keeps)

theorem relayTaper_keeps {s0 : State} {n : Chain} {m : Msg} {s : State} (hk : Keeps s0 s) : Keeps s0 (relayTaper n m s) := by
  unfold relayTaper; repeat' first | (with_reducible assumption) | (with_reducible apply ember_keeps) | (with_reducible apply countDrop_keeps) | (with_reducible apply tstatSet_keeps) | (with_reducible apply linkPut_keeps) | split

theorem doTaperReceive_keeps {s0 : State} {k : LinkI} {m : Msg} {dig : Digest} {s : State} (hk : Keeps s0 s) : Keeps s0 (doTaperReceive k m dig s) := by
  unfold doTaperReceive; repeat' first | (with_reducible assumption) | (fail_if_no_progress with_reducible refine keeps_upd ?_ rfl rfl rfl rfl rfl rfl) | (with_reducible apply takeItem_keeps) | (with_reducible apply countDrop_keeps) | (refine acceptNum_keeps ?_ ‹acceptNum _ _ _ _ = some _›) | (with_reducible apply countDup_keeps) | (with_reducible apply relayTaper_keeps) | (with_reducible apply storeSeg_keeps) | (with_reducible apply segArrived_keeps) | split | (intro x; refine (fun hx => ?_ : Keeps s0 x → _) ?_; (on_goal 1 => clear_value x); (on_goal 2 => simp only [x])) | (intro x; clear_value x) | intro x | dsimp only

theorem askUp_keeps {s0 : State} {n : Chain} {ctx : W16} {t : TaperHdr} {first count : Nat} {s : State} (hk : Keeps s0 s) : Keeps s0 (askUp n ctx t first count s) := by
  unfold askUp; repeat' first | (with_reducible assumption) | (with_reducible apply sendMsg_keeps) | split

theorem doTaperReq_keeps {s0 : State} {k : LinkI} {m : Msg} {s : State} (hk : Keeps s0 s) : Keeps s0 (doTaperReq k m s) := by
  unfold doTaperReq; repeat' first | (with_reducible assumption) | (with_reducible refine keeps_foldl _ (fun s _ _ => ?_) _ ?_) | (with_reducible refine receive_keeps _ _ _ _ (fun s _ => ?_) ?_) | (with_reducible apply sendTaper_keeps) | (with_reducible apply askUp_keeps) | split | lift_lets | (intro x; refine (fun hx => ?_ : Keeps s0 x → _) ?_; (on_goal 1 => clear_value x); (on_goal 2 => simp only [x])) | (intro x; clear_value x)

theorem closingAudit_keeps {s0 : State} {c : Nat} {errs : List (Lan × LWick × List (Nat × Int))} {s : State} {l : Nat} (hk : Keeps s0 s) : Keeps s0 (closingAudit c errs s l) := by
  unfold closingAudit; repeat' first | (with_reducible assumption) | (fail_if_no_progress with_reducible refine keeps_upd ?_ rfl rfl rfl rfl rfl rfl) | (with_reducible refine keeps_foldl _ (fun s _ _ => ?_) _ ?_) | (with_reducible apply journalPass_keeps) | (with_reducible apply auditFail_keeps) | (with_reducible apply noteAuditFail_keeps) | split | lift_lets | (intro x; clear_value x)

theorem waveNewLan_keeps {s0 : State} {c : Nat} {ep : W32} {s : State} {ll : Nat} (hk : Keeps s0 s) : Keeps s0 (waveNewLan c ep s ll) := by
  unfold waveNewLan; repeat' first | (with_reducible assumption) | (with_reducible apply assignLan_keeps) | (with_reducible apply withhold_keeps) | split

theorem waveStart_keeps {s0 : State} {c : Nat} {ep : W32} {errs : List (Lan × LWick × List (Nat × Int))} {s : State} (hk : Keeps s0 s) : Keeps s0 (waveStart c ep errs s) := by
  unfold waveStart; repeat' first | (with_reducible assumption) | (with_reducible refine keeps_foldl _ (fun s _ _ => ?_) _ ?_) | (with_reducible apply updCtx_keeps) | (with_reducible apply closingAudit_keeps) | (with_reducible apply waveStep_keeps) | (with_reducible apply earlyRemap_keeps) | (with_reducible apply waveCheck_keeps) | (with_reducible apply waveNewLan_keeps) | split

theorem dropRule_keeps {s0 : State} {c : Option Nat} {r : HoldRule} {to_ : Pkg} {s : State} (hk : Keeps s0 s) : Keeps s0 (dropRule c r to_ s) := by
  unfold dropRule; repeat' first | (with_reducible assumption) | (with_reducible apply updCtx_keeps) | (with_reducible apply removeRule_keeps) | split

theorem updRule_keeps {s0 : State} {r : HoldRule} {f : HoldRule → HoldRule} {s : State} (hk : Keeps s0 s) : Keeps s0 (updRule r f s) := by
  unfold updRule; repeat' first | (with_reducible assumption) | (fail_if_no_progress with_reducible refine keeps_upd ?_ rfl rfl rfl rfl rfl rfl)

theorem liftRule_keeps {s0 : State} {r : HoldRule} {to_ : Pkg} {errs : List (Lan × LWick × List (Nat × Int))} {s : State} (hk : Keeps s0 s) : Keeps s0 (liftRule r to_ errs s) := by
  unfold liftRule; repeat' first | (with_reducible assumption) | (with_reducible apply dropRule_keeps) | (with_reducible apply updRule_keeps) | (with_reducible apply waveStart_keeps) | split | lift_lets | (intro x; refine (fun hx => ?_ : Keeps s0 x → _) ?_; (on_goal 1 => clear_value x); (on_goal 2 => simp only [x]))

theorem liftWaiting_keeps {s0 : State} {c : Nat} {ep : W32} {errs : List (Lan × LWick × List (Nat × Int))} {s : State} (hk : Keeps s0 s) : Keeps s0 (liftWaiting c ep errs s) := by
  unfold liftWaiting; repeat' first | (with_reducible assumption) | (with_reducible apply waveStart_keeps) | split | lift_lets | (intro x; clear_value x)

theorem liftedBefore_keeps {s0 : State} {c : Nat} {ep : W32} {errs : List (Lan × LWick × List (Nat × Int))} {s : State} (hk : Keeps s0 s) : Keeps s0 (liftedBefore c ep errs s) := by
  unfold liftedBefore; repeat' first | (with_reducible assumption) | (with_reducible apply waveStart_keeps) | split

theorem receiveCurfew_keeps {s0 : State} (k : LinkI) (m : Msg) (op : Nat) (body : CurfewBody → State → State) (hb : ∀ b s, Keeps s0 s → Keeps s0 (body b s)) {s : State} (hk : Keeps s0 s) : Keeps s0 (receiveCurfew k m op body s) := by
  unfold receiveCurfew; repeat' first | (with_reducible assumption) | (with_reducible refine receive_keeps _ _ _ _ (fun s _ => ?_) ?_) | (with_reducible apply countDrop_keeps) | (apply hb) | split

theorem doCurfewSet_keeps {s0 : State} {k : LinkI} {m : Msg} {s : State} (hk : Keeps s0 s) : Keeps s0 (doCurfewSet k m s) := by
  unfold doCurfewSet; repeat' first | (with_reducible assumption) | (fail_if_no_progress with_reducible refine keeps_upd ?_ rfl rfl rfl rfl rfl rfl) | (with_reducible refine receiveCurfew_keeps _ _ _ _ (fun _ s _ => ?_) ?_) | (with_reducible apply sendReport_keeps) | split | lift_lets | (intro x; clear_value x)

theorem doCurfewLift_keeps {s0 : State} {k : LinkI} {m : Msg} {errs : List (Lan × LWick × List (Nat × Int))} {s : State} (hk : Keeps s0 s) : Keeps s0 (doCurfewLift k m errs s) := by
  unfold doCurfewLift; repeat' first | (with_reducible assumption) | (with_reducible refine receiveCurfew_keeps _ _ _ _ (fun _ s _ => ?_) ?_) | (with_reducible apply sendReport_keeps) | (with_reducible apply liftRule_keeps) | split

theorem doCurfewQuery_keeps {s0 : State} {k : LinkI} {m : Msg} {s : State} (hk : Keeps s0 s) : Keeps s0 (doCurfewQuery k m s) := by
  unfold doCurfewQuery; repeat' first | (with_reducible assumption) | (with_reducible refine receiveCurfew_keeps _ _ _ _ (fun _ s _ => ?_) ?_) | (with_reducible apply sendReport_keeps) | split

theorem doRuleTimeout_keeps {s0 : State} {ctx : W16} {cfid : W32} {errs : List (Lan × LWick × List (Nat × Int))} {s : State} (hk : Keeps s0 s) : Keeps s0 (doRuleTimeout ctx cfid errs s) := by
  unfold doRuleTimeout; repeat' first | (with_reducible assumption) | (with_reducible apply updRule_keeps) | (with_reducible apply dropRule_keeps) | (with_reducible apply liftRule_keeps) | split | lift_lets | (intro x; refine (fun hx => ?_ : Keeps s0 x → _) ?_; (on_goal 1 => clear_value x); (on_goal 2 => simp only [x])) | (intro x; clear_value x)

theorem updWave_keeps {s0 : State} {c : Nat} {f : Wave → Wave} {s : State} (hk : Keeps s0 s) : Keeps s0 (updWave c f s) := by
  unfold updWave; repeat' first | (with_reducible assumption) | (with_reducible apply updCtx_keeps)

theorem waveSend_keeps {s0 : State} {x : Ctx} {op : Nat} {new : W32} {ps : List Pkg} {s : State} (hk : Keeps s0 s) : Keeps s0 (waveSend x op new ps s) := by
  unfold waveSend; repeat' first | (with_reducible assumption) | (with_reducible refine keeps_foldl _ (fun s _ _ => ?_) _ ?_) | (with_reducible apply sendCurfew_keeps)

theorem missOpen_keeps {s0 : State} {x : Ctx} {new : W32} {s : State} (hk : Keeps s0 s) : Keeps s0 (missOpen x new s) := by
  unfold missOpen; repeat' first | (with_reducible assumption) | (with_reducible refine keeps_foldl _ (fun s _ _ => ?_) _ ?_) | (with_reducible apply sendNotice_keeps)

theorem waveLift_keeps {s0 : State} {c : Nat} {x : Ctx} {w : Wave} {s : State} (hk : Keeps s0 s) : Keeps s0 (waveLift c x w s) := by
  unfold waveLift; repeat' first | (with_reducible assumption) | (with_reducible apply waveSend_keeps) | (with_reducible apply updWave_keeps)

theorem waveDrained_keeps {s0 : State} {c : Nat} {s : State} (hk : Keeps s0 s) : Keeps s0 (waveDrained c s) := by
  unfold waveDrained; repeat' first | (with_reducible assumption) | (with_reducible apply waveLift_keeps) | split

theorem waveSwitch_keeps {s0 : State} {c : Nat} {s : State} (hk : Keeps s0 s) : Keeps s0 (waveSwitch c s) := by
  unfold waveSwitch; repeat' first | (with_reducible assumption) | (with_reducible apply updCtx_keeps) | (with_reducible apply updWave_keeps) | (with_reducible apply missOpen_keeps) | split

theorem waveEnd_keeps {s0 : State} {c : Nat} {w : Wave} {st : W16} {s : State} (hk : Keeps s0 s) : Keeps s0 (waveEnd c w st s) := by
  unfold waveEnd; repeat' first | (with_reducible assumption) | (with_reducible apply finish_keeps) | (with_reducible apply updCtx_keeps)

theorem waveFail_keeps {s0 : State} {c : Nat} {x : Ctx} {w : Wave} {s : State} (hk : Keeps s0 s) : Keeps s0 (waveFail c x w s) := by
  unfold waveFail; repeat' first | (with_reducible assumption) | (with_reducible refine keeps_foldl _ (fun s _ _ => ?_) _ ?_) | (with_reducible apply waveSend_keeps) | (with_reducible apply waveEnd_keeps) | (with_reducible apply freeRule_keeps)

theorem waveSet_keeps {s0 : State} {c : Nat} {x : Ctx} {d : Desc} {old new drain : W32} {s : State} (hk : Keeps s0 s) : Keeps s0 (waveSet c x d old new drain s) := by
  unfold waveSet; repeat' first | (with_reducible assumption) | (fail_if_no_progress with_reducible refine keeps_upd ?_ rfl rfl rfl rfl rfl rfl) | (with_reducible apply finish_keeps) | (with_reducible apply updCtx_keeps) | (with_reducible apply waveSend_keeps) | (with_reducible apply waveSwitch_keeps) | split | lift_lets | (intro x; clear_value x)

theorem replStart_keeps {s0 : State} {c : Nat} {x : Ctx} {d : Desc} {old new drain : W32} {s : State} (hk : Keeps s0 s) : Keeps s0 (replStart c x d old new drain s) := by
  unfold replStart; repeat' first | (with_reducible assumption) | (with_reducible apply finish_keeps) | (with_reducible apply updCtx_keeps) | (with_reducible apply waveSet_keeps) | split | lift_lets | (intro x; clear_value x)

theorem replGo_keeps {s0 : State} {n c : Nat} {s : State} (hk : Keeps s0 s) : Keeps s0 (replGo n c s) := by
  induction n generalizing s with
  | zero => exact hk
  | succ n ih => unfold replGo; repeat' first | (with_reducible assumption) | (with_reducible apply replStart_keeps) | (with_reducible apply updCtx_keeps) | (apply ih) | split

theorem kickRepl_keeps {s0 : State} {c : Nat} {s : State} (hk : Keeps s0 s) : Keeps s0 (kickRepl c s) := by
  unfold kickRepl; repeat' first | (with_reducible assumption) | (with_reducible apply replGo_keeps) | split

theorem doWgtReplace_keeps {s0 : State} {d : Desc} {old new drain : W32} {s : State} (hk : Keeps s0 s) : Keeps s0 (doWgtReplace d old new drain s) := by
  unfold doWgtReplace; repeat' first | (with_reducible assumption) | (with_reducible refine runCtx_keeps _ _ _ (fun _ _ s _ => ?_) ?_) | (with_reducible apply kickRepl_keeps) | (with_reducible apply keepProg_keeps) | (with_reducible apply updCtx_keeps)

theorem waveReport_keeps {s0 : State} {c : Nat} {x : Ctx} {w : Wave} {p : Pkg} {b : CurfewBody} {s : State} (hk : Keeps s0 s) : Keeps s0 (waveReport c x w p b s) := by
  unfold waveReport; repeat' first | (with_reducible assumption) | (with_reducible apply updWave_keeps) | (with_reducible apply waveFail_keeps) | (with_reducible apply waveSwitch_keeps) | (with_reducible apply waveDrained_keeps) | (with_reducible apply waveEnd_keeps) | split | lift_lets | (intro x; refine (fun hx => ?_ : Keeps s0 x → _) ?_; (on_goal 1 => clear_value x); (on_goal 2 => simp only [x])) | (intro x; clear_value x)

theorem doCurfewReport_keeps {s0 : State} {k : LinkI} {m : Msg} {s : State} (hk : Keeps s0 s) : Keeps s0 (doCurfewReport k m s) := by
  unfold doCurfewReport; repeat' first | (with_reducible assumption) | (with_reducible refine receiveCurfew_keeps _ _ _ _ (fun _ s _ => ?_) ?_) | (with_reducible apply kickRepl_keeps) | (with_reducible apply waveReport_keeps) | split

theorem doWaveQuery_keeps {s0 : State} {c : Nat} {s : State} (hk : Keeps s0 s) : Keeps s0 (doWaveQuery c s) := by
  unfold doWaveQuery; repeat' first | (with_reducible assumption) | (with_reducible apply waveSend_keeps) | (with_reducible apply updWave_keeps) | split

theorem doCurfewResend_keeps {s0 : State} {c : Nat} {s : State} (hk : Keeps s0 s) : Keeps s0 (doCurfewResend c s) := by
  unfold doCurfewResend; repeat' first | (with_reducible assumption) | (with_reducible apply kickRepl_keeps) | (with_reducible apply waveFail_keeps) | (with_reducible apply waveSend_keeps) | (with_reducible apply updWave_keeps) | split

theorem doDrainExpiry_keeps {s0 : State} {c : Nat} {s : State} (hk : Keeps s0 s) : Keeps s0 (doDrainExpiry c s) := by
  unfold doDrainExpiry; repeat' first | (with_reducible assumption) | (with_reducible apply missOpen_keeps) | (with_reducible apply updWave_keeps) | split

theorem updShard_keeps {s0 : State} {c : Nat} {ep id : W32} {f : Shard → Shard} {s : State} (hk : Keeps s0 s) : Keeps s0 (updShard c ep id f s) := by
  unfold updShard; repeat' first | (with_reducible assumption) | (with_reducible apply updCtx_keeps) | (with_reducible apply updEpoch_keeps) | split

theorem injectSegs_keeps {s0 : State} {ctxid : W16} {e : ShardEntry} {blen : Nat} {s : State} (hk : Keeps s0 s) : Keeps s0 (injectSegs ctxid e blen s) := by
  unfold injectSegs; repeat' first | (with_reducible assumption) | (fail_if_no_progress with_reducible refine keeps_upd ?_ rfl rfl rfl rfl rfl rfl) | (with_reducible refine keeps_foldl _ (fun s _ _ => ?_) _ ?_) | (with_reducible apply sendTaper_keeps) | split

theorem injectHead_keeps {s0 : State} {c : Nat} {ep : W32} {s : State} {h : Shard} (hk : Keeps s0 s) : Keeps s0 (injectHead c ep s h) := by
  unfold injectHead; repeat' first | (with_reducible assumption) | (with_reducible apply updShard_keeps) | (with_reducible apply injectSegs_keeps) | split

theorem injectHeads_keeps {s0 : State} {c : Nat} {ep : W32} {s : State} (hk : Keeps s0 s) : Keeps s0 (injectHeads c ep s) := by
  unfold injectHeads; repeat' first | (with_reducible assumption) | (with_reducible refine keeps_foldl _ (fun s _ _ => ?_) _ ?_) | (with_reducible apply injectHead_keeps)

theorem writeShard_keeps {s0 : State} {c : Nat} {ep : W32} {adopting : Option Bool} {s : State} {h : Shard} (hk : Keeps s0 s) : Keeps s0 (writeShard c ep adopting s h) := by
  unfold writeShard; repeat' first | (with_reducible assumption) | (with_reducible apply assignLan_keeps) | (with_reducible apply updLan_keeps) | (with_reducible apply updLanShard_keeps) | split | lift_lets | (intro x; clear_value x)

theorem writeStart_keeps {s0 : State} {c : Nat} {ep : W32} {adopting : Option Bool} {s : State} (hk : Keeps s0 s) : Keeps s0 (writeStart c ep adopting s) := by
  unfold writeStart; repeat' first | (with_reducible assumption) | (with_reducible refine keeps_foldl _ (fun s _ _ => ?_) _ ?_) | (with_reducible apply loadCheck_keeps) | (with_reducible apply writeShard_keeps) | split

theorem setEpoch_keeps {s0 : State} {c : Nat} {ep : W32} {st : EpSt} {s : State} (hk : Keeps s0 s) : Keeps s0 (setEpoch c ep st s) := by
  unfold setEpoch; repeat' first | (with_reducible assumption) | (with_reducible apply updEpoch_keeps)

theorem epochGo_keeps {s0 : State} {c : Nat} {ep : W32} {errs : List (Lan × LWick × List (Nat × Int))} {s : State} (hk : Keeps s0 s) : Keeps s0 (epochGo c ep errs s) := by
  unfold epochGo; repeat' first | (with_reducible assumption) | (with_reducible apply liftWaiting_keeps) | (with_reducible apply endLoad_keeps) | (with_reducible apply setEpoch_keeps) | (with_reducible apply writeStart_keeps) | (with_reducible apply liftedBefore_keeps) | split | lift_lets | (intro x; clear_value x)

theorem refuseLoad_keeps {s0 : State} {c : Nat} {ep id : W32} {s : State} (hk : Keeps s0 s) : Keeps s0 (refuseLoad c ep id s) := by
  unfold refuseLoad; repeat' first | (with_reducible assumption) | (with_reducible apply finish_keeps) | (with_reducible apply updEpoch_keeps) | split

theorem adpSweep_keeps {s0 : State} {c : Nat} {s : State} (hk : Keeps s0 s) : Keeps s0 (adpSweep c s) := by
  unfold adpSweep; repeat' first | (with_reducible assumption) | (with_reducible apply setCtx_keeps) | split

theorem genEnd_keeps {s0 : State} {c slot : Nat} {g : AdpGen} {d : Desc} {s : State} (hk : Keeps s0 s) : Keeps s0 (genEnd c slot g d s) := by
  unfold genEnd; repeat' first | (with_reducible assumption) | (with_reducible apply updCtx_keeps) | (with_reducible apply adpSweep_keeps) | (with_reducible apply finish_keeps) | (with_reducible apply complete_keeps) | split

theorem gensGo_keeps {s0 : State} {c : Nat} {s : State} (hk : Keeps s0 s) : Keeps s0 (gensGo c s) := by
  unfold gensGo; repeat' first | (with_reducible assumption) | (with_reducible refine keeps_foldl _ (fun s _ _ => ?_) _ ?_) | (with_reducible apply genEnd_keeps) | split

theorem shardGo_keeps {s0 : State} {c : Nat} {ep : W32} {errs : List (Lan × LWick × List (Nat × Int))} {s : State} (hk : Keeps s0 s) : Keeps s0 (shardGo c ep errs s) := by
  unfold shardGo; repeat' first | (with_reducible assumption) | (with_reducible apply gensGo_keeps) | (with_reducible apply epochGo_keeps) | split

theorem storeTable_keeps {s0 : State} {c : Nat} {target : Nat} {bs : List Byte} {s : State} (hk : Keeps s0 s) : Keeps s0 (storeTable c target bs s) := by
  unfold storeTable
  refine keeps_foldl _ (fun s x h => ?_) _ hk
  split
  · exact h
  · exact keeps_mem h (fun q => storeBytes_wf q)

theorem keepShard_keeps {s0 : State} {c : Nat} {ep : W32} {h : Shard} {b : ShardBody} {s : State} (hk : Keeps s0 s) : Keeps s0 (keepShard c ep h b s) := by
  unfold keepShard; repeat' first | (with_reducible assumption) | (with_reducible apply updShard_keeps) | (with_reducible apply storeTable_keeps) | split | lift_lets | (intro x; clear_value x)

theorem askStorage_keeps {s0 : State} {c : Nat} {ep : W32} {h : Shard} {s : State} (hk : Keeps s0 s) : Keeps s0 (askStorage c ep h s) := by
  unfold askStorage; repeat' first | (with_reducible assumption) | (with_reducible apply raiseEmber_keeps) | (with_reducible apply updShard_keeps)

theorem recover_keeps {s0 : State} {c : Nat} {ep : W32} {h : Shard} {s : State} (hk : Keeps s0 s) : Keeps s0 (recover c ep h s) := by
  unfold recover; repeat' first | (with_reducible assumption) | (with_reducible refine keeps_foldl _ (fun s _ _ => ?_) _ ?_) | (with_reducible apply askUp_keeps) | (with_reducible apply updShard_keeps) | (with_reducible apply askStorage_keeps) | split

theorem openShard_keeps {s0 : State} {c : Nat} {ep : W32} {x : Ctx} {h : Shard} {b : ShardBody} {errs : List (Lan × LWick × List (Nat × Int))} {s : State} (hk : Keeps s0 s) : Keeps s0 (openShard c ep x h b errs s) := by
  unfold openShard; repeat' first | (with_reducible assumption) | (with_reducible apply refuseLoad_keeps) | (with_reducible apply shardGo_keeps) | (with_reducible apply keepShard_keeps) | (with_reducible apply recover_keeps) | split

theorem doSegmentsComplete_keeps {s0 : State} {c : Nat} {ep id : W32} {b : ShardBody} {errs : List (Lan × LWick × List (Nat × Int))} {s : State} (hk : Keeps s0 s) : Keeps s0 (doSegmentsComplete c ep id b errs s) := by
  unfold doSegmentsComplete; repeat' first | (with_reducible assumption) | (with_reducible apply injectHead_keeps) | (with_reducible apply openShard_keeps) | (with_reducible apply shardGo_keeps) | split

theorem doShardOverdue_keeps {s0 : State} {c : Nat} {ep id : W32} {s : State} (hk : Keeps s0 s) : Keeps s0 (doShardOverdue c ep id s) := by
  unfold doShardOverdue; repeat' first | (with_reducible assumption) | (with_reducible apply recover_keeps) | split

theorem doTaperRepeat_keeps {s0 : State} {c : Nat} {ep id : W32} {s : State} (hk : Keeps s0 s) : Keeps s0 (doTaperRepeat c ep id s) := by
  unfold doTaperRepeat; repeat' first | (with_reducible assumption) | (with_reducible apply recover_keeps) | split

theorem doStoragePoll_keeps {s0 : State} {c : Nat} {ep id : W32} {b : Option ShardBody} {errs : List (Lan × LWick × List (Nat × Int))} {s : State} (hk : Keeps s0 s) : Keeps s0 (doStoragePoll c ep id b errs s) := by
  unfold doStoragePoll; repeat' first | (with_reducible assumption) | (with_reducible apply injectHead_keeps) | (with_reducible apply shardGo_keeps) | (with_reducible apply openShard_keeps) | split | lift_lets | (intro x; refine (fun hx => ?_ : Keeps s0 x → _) ?_; (on_goal 1 => clear_value x); (on_goal 2 => simp only [x]))

theorem doShardFail_keeps {s0 : State} {c : Nat} {ep id : W32} {s : State} (hk : Keeps s0 s) : Keeps s0 (doShardFail c ep id s) := by
  unfold doShardFail; repeat' first | (with_reducible assumption) | (with_reducible apply shardGo_keeps) | (with_reducible apply updShard_keeps) | split

theorem rehashBad_keeps {s0 : State} {c : Nat} {ep : W32} {h : Shard} {s : State} (hk : Keeps s0 s) : Keeps s0 (rehashBad c ep h s) := by
  unfold rehashBad; repeat' first | (with_reducible assumption) | (with_reducible apply ember_keeps) | (with_reducible apply recover_keeps) | (with_reducible apply updShard_keeps)

theorem rehash_keeps {s0 : State} {role : Nat} {c : Nat} {ep id : W32} {ok : Bool} {s : State} (hk : Keeps s0 s) : Keeps s0 (rehash role c ep id ok s) := by
  unfold rehash; repeat' first | (with_reducible assumption) | (with_reducible apply updShard_keeps) | (with_reducible apply rehashBad_keeps) | split

theorem counterLatch_keeps {s0 : State} {c : Counter} {s : State} (hk : Keeps s0 s) : Keeps s0 (counterLatch c s) := by
  unfold counterLatch; repeat' first | (with_reducible assumption) | (fail_if_no_progress with_reducible refine keeps_upd ?_ rfl rfl rfl rfl rfl rfl) | (with_reducible apply updWick_keeps) | (with_reducible apply updLan_keeps) | (with_reducible apply updEng_keeps) | split

theorem herrRead_keeps {s0 : State} {s : State} (hk : Keeps s0 s) : Keeps s0 (herrRead s) := by
  unfold herrRead; repeat' first | (with_reducible assumption) | (fail_if_no_progress with_reducible refine keeps_upd ?_ rfl rfl rfl rfl rfl rfl)

theorem dieReadEffect_keeps {s0 : State} {off : Nat} {s : State} (hk : Keeps s0 s) : Keeps s0 (dieReadEffect off s) := by
  unfold dieReadEffect; repeat' first | (with_reducible assumption) | (with_reducible apply counterLatch_keeps) | (with_reducible apply herrRead_keeps) | split

theorem readReg_keeps {s0 : State} {a : Nat} {s : State} {r : W32 × State} (hk : Keeps s0 s) (hr : readReg a s = some r) : Keeps s0 r.2 := by
  unfold readReg at hr; dsimp only at hr; (repeat' split at hr) <;> first | (simp at hr; done) | (injection hr with hr; subst hr; repeat' first | (with_reducible assumption) | (with_reducible apply counterLatch_keeps) | (with_reducible apply dieReadEffect_keeps))

theorem readDiag_keeps {s0 : State} {a : Nat} {s : State} {r : W32 × State} (hk : Keeps s0 s) (hr : readDiag a s = some r) : Keeps s0 r.2 := by
  unfold readDiag at hr; dsimp only at hr; split at hr
  · exact absurd hr (by simp)
  · split at hr
    · injection hr with hr; subst hr; exact hk
    · exact readReg_keeps hk hr

theorem doWgtSession_keeps {s0 : State} {d : Desc} {s : State} (hk : Keeps s0 s) : Keeps s0 (doWgtSession d s) := by
  unfold doWgtSession; repeat' first | (with_reducible assumption) | (with_reducible refine runCtx_keeps _ _ _ (fun _ _ s _ => ?_) ?_) | (with_reducible apply finish_keeps) | (with_reducible apply freeWords_keeps) | (with_reducible apply updCtx_keeps) | (with_reducible apply report_keeps) | (with_reducible apply complete_keeps) | (with_reducible apply outLines_keeps) | split

theorem doWgtKey_keeps {s0 : State} {d : Desc} {keyid : W32} {key : Option (BitVec 256)} {s : State} (hk : Keeps s0 s) : Keeps s0 (doWgtKey d keyid key s) := by
  unfold doWgtKey; repeat' first | (with_reducible assumption) | (with_reducible refine runCtx_keeps _ _ _ (fun _ _ s _ => ?_) ?_) | (with_reducible apply finish_keeps) | (with_reducible apply updCtx_keeps) | split

theorem doWgtLand_keeps {s0 : State} {d : Desc} {off len : W64} {s : State} (hk : Keeps s0 s) : Keeps s0 (doWgtLand d off len s) := by
  unfold doWgtLand; repeat' first | (with_reducible assumption) | (with_reducible refine runCtx_keeps _ _ _ (fun _ _ s _ => ?_) ?_) | (with_reducible apply finish_keeps) | (with_reducible apply setWindow_keeps) | (with_reducible apply complete_keeps) | (with_reducible apply updCtx_keeps) | split | lift_lets | (intro x; clear_value x)

theorem loadInto_keeps {s0 : State} {c : Nat} {d : Desc} {ep : W32} {e : Epoch} {new : List ShardEntry} {first : Bool} {s : State} (hk : Keeps s0 s) : Keeps s0 (loadInto c d ep e new first s) := by
  unfold loadInto; repeat' first | (with_reducible assumption) | (with_reducible apply updCtx_keeps) | (with_reducible apply epochGo_keeps) | (with_reducible apply injectHeads_keeps)

theorem sendBuddy_keeps {s0 : State} {ctxid : W16} {e : Epoch} {s : State} {n : ShardEntry} (hk : Keeps s0 s) : Keeps s0 (sendBuddy ctxid e s n) := by
  unfold sendBuddy; repeat' first | (with_reducible assumption) | (with_reducible apply injectSegs_keeps) | split

theorem loadStart_keeps {s0 : State} {c : Nat} {x : Ctx} {d : Desc} {ep : W32} {es : List ShardEntry} {s : State} (hk : Keeps s0 s) : Keeps s0 (loadStart c x d ep es s) := by
  unfold loadStart; repeat' first | (with_reducible assumption) | (with_reducible refine keeps_foldl _ (fun s _ _ => ?_) _ ?_) | (with_reducible apply finish_keeps) | (with_reducible apply loadInto_keeps) | (with_reducible apply sendBuddy_keeps) | split | lift_lets | (intro x; clear_value x)

theorem adoptLan_keeps {s0 : State} {c : Nat} {e : Epoch} {t : Token} {s : State} (hk : Keeps s0 s) : Keeps s0 (adoptLan c e t s) := by
  unfold adoptLan; repeat' first | (with_reducible assumption) | (with_reducible refine keeps_foldl _ (fun s _ _ => ?_) _ ?_) | (with_reducible apply updLan_keeps) | (with_reducible apply updWick_keeps) | (with_reducible apply kickAdopt_keeps) | split

theorem adoptStart_keeps {s0 : State} {c : Nat} {x : Ctx} {d : Desc} {ep : W32} {strict : Bool} {toks : List Token} {s : State} (hk : Keeps s0 s) : Keeps s0 (adoptStart c x d ep strict toks s) := by
  unfold adoptStart; repeat' first | (with_reducible assumption) | (with_reducible refine keeps_foldl _ (fun s _ _ => ?_) _ ?_) | (with_reducible apply finish_keeps) | (with_reducible apply updEpoch_keeps) | (with_reducible apply adoptLan_keeps) | (with_reducible apply loadCheck_keeps) | (with_reducible apply writeStart_keeps) | split

theorem loadsGo_keeps {s0 : State} {n c : Nat} {s : State} (hk : Keeps s0 s) : Keeps s0 (loadsGo n c s) := by
  induction n generalizing s with
  | zero => exact hk
  | succ n ih => unfold loadsGo; repeat' first | (with_reducible assumption) | (with_reducible apply setCtx_keeps) | (with_reducible apply loadStart_keeps) | (with_reducible apply adoptStart_keeps) | (apply ih) | split

theorem reapJobs_keeps {s0 : State} {s : State} (hk : Keeps s0 s) : Keeps s0 (reapJobs s) := by
  unfold reapJobs; repeat' first | (with_reducible assumption) | (with_reducible refine keeps_foldl _ (fun s _ _ => ?_) _ ?_) | (with_reducible apply jobFail_keeps)

theorem kickLoads_keeps {s0 : State} {c : Nat} {s : State} (hk : Keeps s0 s) : Keeps s0 (kickLoads c s) := by
  unfold kickLoads; repeat' first | (with_reducible assumption) | (with_reducible apply loadsGo_keeps) | split

theorem afterJobs_keeps {s0 : State} {s : State} (hk : Keeps s0 s) : Keeps s0 (afterJobs s) := by
  unfold afterJobs; repeat' first | (with_reducible assumption) | (with_reducible refine keeps_foldl _ (fun s _ _ => ?_) _ ?_) | (with_reducible apply kickLoads_keeps) | (with_reducible apply reapJobs_keeps) | split

theorem pushLoad_keeps {s0 : State} {c : Nat} {d : Desc} {q : LoadCmd} {s : State} (hk : Keeps s0 s) : Keeps s0 (pushLoad c d q s) := by
  unfold pushLoad; repeat' first | (with_reducible assumption) | (with_reducible apply reapJobs_keeps) | (with_reducible apply kickLoads_keeps) | (with_reducible apply keepProg_keeps) | (with_reducible apply updCtx_keeps)

theorem doWgtLoad_keeps {s0 : State} {d : Desc} {ep : W32} {es : List ShardEntry} {s : State} (hk : Keeps s0 s) : Keeps s0 (doWgtLoad d ep es s) := by
  unfold doWgtLoad; repeat' first | (with_reducible assumption) | (with_reducible refine runCtx_keeps _ _ _ (fun _ _ s _ => ?_) ?_) | (with_reducible apply finish_keeps) | (with_reducible apply pushLoad_keeps) | split

theorem doWgtAdopt_keeps {s0 : State} {d : Desc} {ep : W32} {strict : Bool} {toks : List Token} {s : State} (hk : Keeps s0 s) : Keeps s0 (doWgtAdopt d ep strict toks s) := by
  unfold doWgtAdopt; repeat' first | (with_reducible assumption) | (with_reducible refine runCtx_keeps _ _ _ (fun _ _ s _ => ?_) ?_) | (with_reducible apply finish_keeps) | (with_reducible apply pushLoad_keeps) | split

theorem dropEpoch_keeps {s0 : State} {c : Nat} {ep : W32} {d : Desc} {s : State} (hk : Keeps s0 s) : Keeps s0 (dropEpoch c ep d s) := by
  unfold dropEpoch; repeat' first | (with_reducible assumption) | (with_reducible apply finish_keeps) | (with_reducible apply updCtx_keeps)

theorem doWgtDrop_keeps {s0 : State} {d : Desc} {ep : W32} {s : State} (hk : Keeps s0 s) : Keeps s0 (doWgtDrop d ep s) := by
  unfold doWgtDrop; repeat' first | (with_reducible assumption) | (with_reducible refine runCtx_keeps _ _ _ (fun _ _ s _ => ?_) ?_) | (with_reducible apply finish_keeps) | (with_reducible apply keepProg_keeps) | (with_reducible apply updCtx_keeps) | (with_reducible apply dropEpoch_keeps) | split

theorem dropTry_keeps {s0 : State} {c : Nat} {limit : Bool} {s : State} {q : W32 × Desc} (hk : Keeps s0 s) : Keeps s0 (dropTry c limit s q) := by
  unfold dropTry; split
  · exact hk
  · extract_lets out idle
    split
    · exact dropEpoch_keeps (updCtx_keeps hk)
    · split
      · exact finish_keeps (updCtx_keeps hk)
      · exact hk

theorem kickDrops_keeps {s0 : State} {c : Nat} {s : State} (hk : Keeps s0 s) : Keeps s0 (kickDrops c s) := by
  unfold kickDrops; repeat' first | (with_reducible assumption) | (with_reducible refine keeps_foldl _ (fun s _ _ => ?_) _ ?_) | (with_reducible apply dropTry_keeps) | split

theorem genStart_keeps {s0 : State} {c slot : Nat} {d : Desc} {gen : W32} {es : List ShardEntry} {s : State} (hk : Keeps s0 s) : Keeps s0 (genStart c slot d gen es s) := by
  unfold genStart; repeat' first | (with_reducible assumption) | (with_reducible apply gensGo_keeps) | (with_reducible apply injectHeads_keeps) | (with_reducible apply updCtx_keeps)

theorem adpStart_keeps {s0 : State} {c : Nat} {x : Ctx} {q : AdpCmd} {s : State} (hk : Keeps s0 s) : Keeps s0 (adpStart c x q s) := by
  unfold adpStart; repeat' first | (with_reducible assumption) | (with_reducible apply finish_keeps) | (with_reducible apply genStart_keeps) | (with_reducible apply updCtx_keeps) | split | lift_lets | (intro x; clear_value x)

theorem adpsGo_keeps {s0 : State} {n c : Nat} {s : State} (hk : Keeps s0 s) : Keeps s0 (adpsGo n c s) := by
  induction n generalizing s with
  | zero => exact hk
  | succ n ih => unfold adpsGo; repeat' first | (with_reducible assumption) | (with_reducible apply adpStart_keeps) | (with_reducible apply setCtx_keeps) | (apply ih) | split

theorem kickAdps_keeps {s0 : State} {c : Nat} {s : State} (hk : Keeps s0 s) : Keeps s0 (kickAdps c s) := by
  unfold kickAdps; repeat' first | (with_reducible assumption) | (with_reducible apply adpSweep_keeps) | (with_reducible apply adpsGo_keeps) | split | lift_lets | (intro x; refine (fun hx => ?_ : Keeps s0 x → _) ?_; (on_goal 1 => clear_value x); (on_goal 2 => simp only [x]))

theorem pushAdp_keeps {s0 : State} {c : Nat} {d : Desc} {q : AdpCmd} {s : State} (hk : Keeps s0 s) : Keeps s0 (pushAdp c d q s) := by
  unfold pushAdp; repeat' first | (with_reducible assumption) | (with_reducible apply kickAdps_keeps) | (with_reducible apply keepProg_keeps) | (with_reducible apply updCtx_keeps)

theorem adpList_keeps {s0 : State} {d : Desc} {slot : W16} {gen : W32} {es : List ShardEntry} {q : AdpCmd} {s : State} (hk : Keeps s0 s) : Keeps s0 (adpList d slot gen es q s) := by
  unfold adpList; repeat' first | (with_reducible assumption) | (with_reducible refine runCtx_keeps _ _ _ (fun _ _ s _ => ?_) ?_) | (with_reducible apply finish_keeps) | (with_reducible apply pushAdp_keeps) | split

theorem kickBound_keeps {s0 : State} {c : Nat} {s : State} (hk : Keeps s0 s) : Keeps s0 (kickBound c s) := by
  unfold kickBound; repeat' first | (with_reducible assumption) | (with_reducible apply kickPfx_keeps) | (with_reducible apply kickAdps_keeps) | (with_reducible apply kickDrops_keeps)

theorem doHoldExpiry_keeps {s0 : State} {c : Nat} {inst : W32} {s : State} (hk : Keeps s0 s) : Keeps s0 (doHoldExpiry c inst s) := by
  unfold doHoldExpiry; repeat' first | (with_reducible assumption) | (fail_if_no_progress with_reducible refine keeps_upd ?_ rfl rfl rfl rfl rfl rfl) | (with_reducible apply kickBound_keeps) | split

theorem doLeaseExpiry_keeps {s0 : State} {c slot : Nat} {s : State} (hk : Keeps s0 s) : Keeps s0 (doLeaseExpiry c slot s) := by
  unfold doLeaseExpiry; repeat' first | (with_reducible assumption) | (fail_if_no_progress with_reducible refine keeps_upd ?_ rfl rfl rfl rfl rfl rfl) | (with_reducible apply updCtx_keeps) | (with_reducible apply kickBound_keeps) | split

theorem afterShards_keeps {s0 : State} {s : State} (hk : Keeps s0 s) : Keeps s0 (afterShards s) := by
  unfold afterShards; repeat' first | (with_reducible assumption) | (with_reducible refine keeps_foldl _ (fun s _ _ => ?_) _ ?_) | (with_reducible apply kickAdps_keeps) | (with_reducible apply afterJobs_keeps)

theorem fixedLimit_keeps {s0 : State} {d : Desc} {s : State} {c : Nat} (hk : Keeps s0 s) : Keeps s0 (fixedLimit d s c) := by
  unfold fixedLimit; repeat' first | (with_reducible assumption) | (with_reducible refine keeps_foldl _ (fun s _ _ => ?_) _ ?_) | (with_reducible apply dropTry_keeps) | (with_reducible apply finish_keeps) | (with_reducible apply updCtx_keeps) | split | lift_lets | (intro x; refine (fun hx => ?_ : Keeps s0 x → _) ?_; (on_goal 1 => clear_value x); (on_goal 2 => simp only [x])) | (intro x; clear_value x)

theorem cmdLimit_keeps {s0 : State} {r : Nat} {tag : W64} {s : State} (hk : Keeps s0 s) : Keeps s0 (cmdLimit r tag s) := by
  unfold cmdLimit; repeat' first | (with_reducible assumption) | (with_reducible refine keeps_foldl _ (fun s _ _ => ?_) _ ?_) | (with_reducible apply doCmdLimit_keeps) | (with_reducible apply fixedLimit_keeps) | split | lift_lets | (intro x; refine (fun hx => ?_ : Keeps s0 x → _) ?_; (on_goal 1 => clear_value x); (on_goal 2 => simp only [x]))

theorem updGvl_keeps {s0 : State} {f : Gvl → Gvl} {s : State} (hk : Keeps s0 s) : Keeps s0 (updGvl f s) := by
  unfold updGvl; repeat' first | (with_reducible assumption) | (fail_if_no_progress with_reducible refine keeps_upd ?_ rfl rfl rfl rfl rfl rfl)

theorem gvlErr_keeps {s0 : State} {i : Nat} {s : State} (hk : Keeps s0 s) : Keeps s0 (gvlErr i s) := by
  unfold gvlErr; repeat' first | (with_reducible assumption) | (with_reducible apply updGvl_keeps)

theorem downEntry_keeps {s0 : State} {s : State} {p : Nat × Option DirEnt} (hk : Keeps s0 s) : Keeps s0 (downEntry s p) := by
  unfold downEntry; repeat' first | (with_reducible assumption) | (with_reducible apply runWrites_keeps) | (with_reducible apply poisonHost_keeps) | split

theorem gvlDown_keeps {s0 : State} {cause : Nat} {s : State} (hk : Keeps s0 s) : Keeps s0 (gvlDown cause s) := by
  unfold gvlDown; repeat' first | (with_reducible assumption) | (fail_if_no_progress with_reducible refine keeps_upd ?_ rfl rfl rfl rfl rfl rfl) | (with_reducible refine keeps_foldl _ (fun s _ _ => ?_) _ ?_) | (with_reducible apply settleWindows_keeps) | (with_reducible apply downEntry_keeps) | (with_reducible apply sigState_keeps) | (with_reducible apply ember_keeps) | (with_reducible apply gvlErr_keeps)

theorem gvlRecover_keeps {s0 : State} {ex : Option Bool} {atWmax : Bool} {s : State} (hk : Keeps s0 s) : Keeps s0 (gvlRecover ex atWmax s) := by
  unfold gvlRecover; repeat' first | (with_reducible assumption) | (with_reducible apply gvlErr_keeps) | (with_reducible apply updGvl_keeps) | split

theorem gvlPrst_keeps {s0 : State} {s : State} (hk : Keeps s0 s) : Keeps s0 (gvlPrst s) := by
  unfold gvlPrst; repeat' first | (with_reducible assumption) | (with_reducible apply gvlDown_keeps) | split

theorem gvlRetrain_keeps {s0 : State} {s : State} (hk : Keeps s0 s) : Keeps s0 (gvlRetrain s) := by
  unfold gvlRetrain; repeat' first | (with_reducible assumption) | (with_reducible apply gvlErr_keeps) | (with_reducible apply gvlRecover_keeps) | split

theorem gvlEnable_keeps {s0 : State} {en : Bool} {s : State} (hk : Keeps s0 s) : Keeps s0 (gvlEnable en s) := by
  unfold gvlEnable; repeat' first | (with_reducible assumption) | (with_reducible apply updGvl_keeps) | (with_reducible apply gvlDown_keeps) | split | lift_lets | (intro x; refine (fun hx => ?_ : Keeps s0 x → _) ?_; (on_goal 1 => clear_value x); (on_goal 2 => simp only [x]))

theorem gvlCtlWrite_keeps {s0 : State} {v : W32} {s : State} (hk : Keeps s0 s) : Keeps s0 (gvlCtlWrite v s) := by
  unfold gvlCtlWrite; repeat' first | (with_reducible assumption) | (with_reducible apply gvlEnable_keeps) | (with_reducible apply updGvl_keeps) | (with_reducible apply gvlPrst_keeps) | (with_reducible apply gvlRetrain_keeps) | split

theorem takeGroup_keeps {s0 : State} {grp : BitVec 2} {good : W16} {s : State} (hk : Keeps s0 s) : Keeps s0 (takeGroup grp good s) := by
  unfold takeGroup; repeat' first | (with_reducible assumption) | (with_reducible apply updGvl_keeps) | (with_reducible apply ember_keeps) | (with_reducible apply gvlErr_keeps) | split | lift_lets | (intro x; clear_value x)

theorem trainDone_keeps {s0 : State} {good : W16} {s : State} (hk : Keeps s0 s) : Keeps s0 (trainDone good s) := by
  unfold trainDone; repeat' first | (with_reducible assumption) | (with_reducible apply gvlDown_keeps) | (with_reducible apply updGvl_keeps) | (with_reducible apply takeGroup_keeps) | split

theorem initReceive_keeps {s0 : State} {version : Byte} {width : Nat} {credits : List Nat} {rtt : Nat} {s : State} (hk : Keeps s0 s) : Keeps s0 (initReceive version width credits rtt s) := by
  unfold initReceive; repeat' first | (with_reducible assumption) | (with_reducible apply gvlDown_keeps) | (with_reducible apply updGvl_keeps) | split

theorem flushWithheld_keeps {s0 : State} {s : State} (hk : Keeps s0 s) : Keeps s0 (flushWithheld s) := by
  unfold flushWithheld; repeat' first | (with_reducible assumption) | (with_reducible refine keeps_foldl _ (fun s _ _ => ?_) _ ?_) | (with_reducible apply postRaw_keeps) | (with_reducible apply updRing_keeps) | split | lift_lets | (intro x; clear_value x)

theorem gvlActive_keeps {s0 : State} {s : State} (hk : Keeps s0 s) : Keeps s0 (gvlActive s) := by
  unfold gvlActive; repeat' first | (with_reducible assumption) | (with_reducible apply updGvl_keeps) | (with_reducible apply gvlEnterWithheld_keeps) | (with_reducible apply flushWithheld_keeps) | (with_reducible apply sigState_keeps) | (with_reducible apply flushAll_keeps) | split | lift_lets | (intro x; refine (fun hx => ?_ : Keeps s0 x → _) ?_; (on_goal 1 => clear_value x); (on_goal 2 => simp only [x]))

theorem stateLimit_keeps {s0 : State} {s : State} (hk : Keeps s0 s) : Keeps s0 (stateLimit s) := by
  unfold stateLimit; repeat' first | (with_reducible assumption) | (with_reducible apply gvlDown_keeps) | split

theorem recoveryTrigger_keeps {s0 : State} {c : RecovCause} {s : State} (hk : Keeps s0 s) : Keeps s0 (recoveryTrigger c s) := by
  unfold recoveryTrigger; repeat' first | (with_reducible assumption) | (with_reducible apply gvlRecover_keeps) | (with_reducible apply gvlRetrain_keeps) | split

theorem gvlReplay_keeps {s0 : State} {s : State} (hk : Keeps s0 s) : Keeps s0 (gvlReplay s) := by
  unfold gvlReplay; repeat' first | (with_reducible assumption) | (with_reducible apply gvlErr_keeps) | (with_reducible apply updGvl_keeps) | split

theorem recoveryDone_keeps {s0 : State} {good : W16} {s : State} (hk : Keeps s0 s) : Keeps s0 (recoveryDone good s) := by
  unfold recoveryDone; repeat' first | (with_reducible assumption) | (with_reducible apply gvlDown_keeps) | (with_reducible apply gvlActive_keeps) | (with_reducible apply gvlReplay_keeps) | (with_reducible apply takeGroup_keeps) | split | lift_lets | (intro x; clear_value x)

theorem checkOpc_keeps {s0 : State} {s : State} {p : BitVec 3 × GMsg} (hk : Keeps s0 s) : Keeps s0 (checkOpc s p) := by
  unfold checkOpc; repeat' first | (with_reducible assumption) | (with_reducible apply ember_keeps) | (with_reducible apply gvlErr_keeps) | split

theorem replayAll_keeps {s0 : State} {s : State} (hk : Keeps s0 s) : Keeps s0 (replayAll s) := by
  unfold replayAll; repeat' first | (with_reducible assumption) | (with_reducible apply updGvl_keeps) | (with_reducible apply gvlReplay_keeps) | (with_reducible apply gvlRecover_keeps) | split | lift_lets | (intro x; refine (fun hx => ?_ : Keeps s0 x → _) ?_; (on_goal 1 => clear_value x); (on_goal 2 => simp only [x]))

theorem gvlTakeData_keeps {s0 : State} {f : GFlit} {s : State} (hk : Keeps s0 s) : Keeps s0 (gvlTakeData f s) := by
  unfold gvlTakeData; repeat' first | (with_reducible assumption) | (with_reducible refine keeps_foldl _ (fun s _ _ => ?_) _ ?_) | (with_reducible apply checkOpc_keeps) | (with_reducible apply updGvl_keeps) | split

theorem gvlDropFlit_keeps {s0 : State} {c : FlitCheck} {s : State} (hk : Keeps s0 s) : Keeps s0 (gvlDropFlit c s) := by
  unfold gvlDropFlit; repeat' first | (with_reducible assumption) | (with_reducible apply updGvl_keeps) | (with_reducible apply gvlRecover_keeps) | split | lift_lets | (intro x; refine (fun hx => ?_ : Keeps s0 x → _) ?_; (on_goal 1 => clear_value x); (on_goal 2 => simp only [x]))

theorem flitReceive_keeps {s0 : State} {f : GFlit} {c : FlitCheck} {corr : Nat} {s : State} (hk : Keeps s0 s) : Keeps s0 (flitReceive f c corr s) := by
  unfold flitReceive; repeat' first | (with_reducible assumption) | (with_reducible apply updGvl_keeps) | (with_reducible apply gvlTakeData_keeps) | (with_reducible apply replayAll_keeps) | (with_reducible apply gvlDropFlit_keeps) | split

theorem flitSend_keeps {s0 : State} {s : State} (hk : Keeps s0 s) : Keeps s0 (flitSend s) := by
  unfold flitSend; repeat' first | (with_reducible assumption) | (fail_if_no_progress with_reducible refine keeps_upd ?_ rfl rfl rfl rfl rfl rfl) | (with_reducible apply gvlActive_keeps) | (with_reducible apply updGvl_keeps) | split | lift_lets | (intro x; clear_value x)

theorem hostRefuse_keeps {s0 : State} {m : GMsg} {st : Byte} {s : State} (hk : Keeps s0 s) : Keeps s0 (hostRefuse m st s) := by
  unfold hostRefuse; repeat' first | (with_reducible assumption) | (with_reducible apply gvlErr_keeps) | (with_reducible apply updGvl_keeps) | (with_reducible apply ember_keeps)

theorem hostPlace_keeps {s0 : State} {m : GMsg} {rd wr : Bool} {s : State} (hk : Keeps s0 s) : Keeps s0 (hostPlace m rd wr s).1 := by
  unfold hostPlace; repeat' first | (with_reducible assumption) | (fail_if_no_progress with_reducible refine keeps_upd ?_ rfl rfl rfl rfl rfl rfl) | (with_reducible apply winFault_keeps) | split | dsimp only

theorem holdMsg_keeps {s0 : State} {k : Nat} {m : GMsg} {s : State} (hk : Keeps s0 s) : Keeps s0 (holdMsg k m s) := by
  unfold holdMsg; repeat' first | (with_reducible assumption) | (with_reducible apply dirPut_keeps) | split

theorem answerBlock_keeps {s0 : State} {m : GMsg} {p : Nat} {s : State} (hk : Keeps s0 s) : Keeps s0 (answerBlock m p s) := by
  unfold answerBlock; repeat' first | (with_reducible assumption) | (with_reducible apply gvlRsp_keeps)

theorem answerStatus_keeps {s0 : State} {opc : Nat} {m : GMsg} {st : Byte} {s : State} (hk : Keeps s0 s) : Keeps s0 (answerStatus opc m st s) := by
  unfold answerStatus; repeat' first | (with_reducible assumption) | (with_reducible apply gvlRsp_keeps)

theorem dirRead_keeps {s0 : State} {m : GMsg} {st : DirSt} {p : Nat} {s : State} (hk : Keeps s0 s) : Keeps s0 (dirRead m st p s) := by
  unfold dirRead; repeat' first | (with_reducible assumption) | (with_reducible apply answerBlock_keeps) | (with_reducible apply dirPut_keeps) | (with_reducible apply dirAlloc_keeps) | (with_reducible apply holdMsg_keeps) | (with_reducible apply dirRecall_keeps) | split | lift_lets | (intro x; clear_value x)

theorem serveRead_keeps {s0 : State} {m : GMsg} {s : State} (hk : Keeps s0 s) : Keeps s0 (serveRead m s) := by
  unfold serveRead; repeat' first | (with_reducible assumption) | (with_reducible apply holdMsg_keeps) | (with_reducible apply hostPlace_keeps) | (with_reducible apply answerStatus_keeps) | (with_reducible apply hostRefuse_keeps) | (with_reducible apply dirRead_keeps) | (with_reducible apply answerBlock_keeps) | split | lift_lets | (intro x; refine (fun hx => ?_ : Keeps s0 x.1 → _) ?_; (on_goal 1 => clear_value x); (on_goal 2 => simp only [x]))

theorem serveWrite_keeps {s0 : State} {m : GMsg} {s : State} (hk : Keeps s0 s) : Keeps s0 (serveWrite m s) := by
  unfold serveWrite
  extract_lets k x
  have e : Keeps s0 x.1 := hostPlace_keeps hk
  split
  · exact holdMsg_keeps hk
  · split
    · exact hostRefuse_keeps e
    · rename_i p _
      extract_lets s2
      have e2 : Keeps s0 s2 := by
        unfold s2; split
        · exact keeps_mem e (fun q => storeBytes_wf q)
        · exact hostRefuse_keeps e
      split
      · split
        · exact dirPut_keeps e2
        · exact e2
      · exact e2

theorem serveEvict_keeps {s0 : State} {m : GMsg} {s : State} (hk : Keeps s0 s) : Keeps s0 (serveEvict m s) := by
  unfold serveEvict; repeat' first | (with_reducible assumption) | (with_reducible apply holdMsg_keeps) | (with_reducible apply hostPlace_keeps) | (with_reducible apply hostRefuse_keeps) | (with_reducible apply dirPut_keeps) | split | lift_lets | (intro x; refine (fun hx => ?_ : Keeps s0 x.1 → _) ?_; (on_goal 1 => clear_value x); (on_goal 2 => simp only [x])) | (intro x; clear_value x)

theorem serveMsg_keeps {s0 : State} {s : State} {m : GMsg} (hk : Keeps s0 s) : Keeps s0 (serveMsg s m) := by
  unfold serveMsg; repeat' first | (with_reducible assumption) | (with_reducible apply serveRead_keeps) | (with_reducible apply serveWrite_keeps) | (with_reducible apply serveEvict_keeps) | split

theorem hostRead_keeps {s0 : State} {m : GMsg} {s : State} (hk : Keeps s0 s) : Keeps s0 (hostRead m s) := by
  unfold hostRead; repeat' first | (with_reducible assumption) | (with_reducible apply answerStatus_keeps) | (with_reducible apply serveRead_keeps) | split

theorem hostRegRead_keeps {s0 : State} {m : GMsg} {s : State} (hk : Keeps s0 s) : Keeps s0 (hostRegRead m s) := by
  unfold hostRegRead; split
  · split
    · rename_i q
      split at q
      · exact absurd q (by simp)
      · exact gvlRsp_keeps (readDiag_keeps hk q)
    · split
      · exact answerStatus_keeps hk
      · exact answerStatus_keeps (hostRefuse_keeps hk)
  · exact hk

theorem rtbaseWrite_keeps {s0 : State} {hi : Bool} {v : W32} {s : State} (hk : Keeps s0 s) : Keeps s0 (rtbaseWrite hi v s) := by
  unfold rtbaseWrite; repeat' first | (with_reducible assumption) | (fail_if_no_progress with_reducible refine keeps_upd ?_ rfl rfl rfl rfl rfl rfl) | split

theorem doorbell_keeps {s0 : State} {a : Nat} {v : W32} {s r : State} (hk : Keeps s0 s) (hr : doorbell a v s = some r) : Keeps s0 r := by
  unfold doorbell at hr; dsimp only at hr; (repeat' split at hr) <;> first | (simp at hr; done) | (injection hr with hr; subst hr; repeat' first | (with_reducible assumption) | (with_reducible apply rtbaseWrite_keeps) | (with_reducible apply sqDoorbell_keeps) | (with_reducible apply cqDoorbell_keeps))

theorem hostRegWrite_keeps {s0 : State} {m : GMsg} {s : State} (hk : Keeps s0 s) : Keeps s0 (hostRegWrite m s) := by
  unfold hostRegWrite; split
  · split
    · rename_i q
      split at q
      · exact absurd q (by simp)
      · exact doorbell_keeps hk q
    · exact hostRefuse_keeps hk
  · exact hk

theorem recallEnd_keeps {s0 : State} {k : Nat} {e : DirEnt} {free : Bool} {s : State} (hk : Keeps s0 s) : Keeps s0 (recallEnd k e free s) := by
  unfold recallEnd; repeat' first | (with_reducible assumption) | (with_reducible refine keeps_foldl _ (fun s _ _ => ?_) _ ?_) | (with_reducible apply dirPut_keeps) | (with_reducible apply devWriteBlock_keeps) | (with_reducible apply runWrites_keeps) | (with_reducible apply settleWindows_keeps) | (with_reducible apply serveMsg_keeps) | split

theorem sackReceive_keeps {s0 : State} {m : GMsg} {s : State} (hk : Keeps s0 s) : Keeps s0 (sackReceive m s) := by
  unfold sackReceive; repeat' first | (with_reducible assumption) | (with_reducible apply recallEnd_keeps) | split

theorem sdataReceive_keeps {s0 : State} {m : GMsg} {s : State} (hk : Keeps s0 s) : Keeps s0 (sdataReceive m s) := by
  unfold sdataReceive
  repeat' first
    | exact hk | exact recallEnd_keeps (hostRefuse_keeps (poisonHost_keeps hk)) | exact recallEnd_keeps hk
    | exact recallEnd_keeps (keeps_mem hk (fun q => storeBytes_wf q)) | split

theorem snoopTimeout_keeps {s0 : State} {k : Nat} {s : State} (hk : Keeps s0 s) : Keeps s0 (snoopTimeout k s) := by
  unfold snoopTimeout; repeat' first | (with_reducible assumption) | (with_reducible apply recallEnd_keeps) | (with_reducible apply updGvl_keeps) | (with_reducible apply poisonHost_keeps) | split

theorem hostReadTimeout_keeps {s0 : State} {tag : BitVec 12} {s : State} (hk : Keeps s0 s) : Keeps s0 (hostReadTimeout tag s) := by
  unfold hostReadTimeout; repeat' first | (with_reducible assumption) | (with_reducible apply answerStatus_keeps) | (with_reducible apply dirPut_keeps) | split | lift_lets | (intro x; clear_value x)

theorem compRead_keeps {s0 : State} {line : Nat} {thread : Lan × ThreadI} {s : State} (hk : Keeps s0 s) : Keeps s0 (compRead line thread s) := by
  unfold compRead; repeat' first | (with_reducible assumption) | (with_reducible apply updGvl_keeps) | (with_reducible apply gvlStream_keeps) | split | lift_lets | (intro x; clear_value x)

theorem installLine_keeps {s0 : State} {line : Nat} {d : List Byte} {s : State} (hk : Keeps s0 s) : Keeps s0 (installLine line d s) := by
  unfold installLine; repeat' first | (with_reducible assumption) | (with_reducible apply updGvl_keeps) | (with_reducible apply drawRandom_keeps) | split | lift_lets | (intro x; clear_value x)

theorem datalReceive_keeps {s0 : State} {m : GMsg} {s : State} (hk : Keeps s0 s) : Keeps s0 (datalReceive m s) := by
  unfold datalReceive; repeat' first | (with_reducible assumption) | (with_reducible apply updGvl_keeps) | (with_reducible apply installLine_keeps) | split

theorem deviceReadTimeout_keeps {s0 : State} {tag : BitVec 12} {s : State} (hk : Keeps s0 s) : Keeps s0 (deviceReadTimeout tag s) := by
  unfold deviceReadTimeout; repeat' first | (with_reducible assumption) | (with_reducible apply gvlErr_keeps) | (with_reducible apply updGvl_keeps) | split

theorem snpinvReceive_keeps {s0 : State} {m : GMsg} {s : State} (hk : Keeps s0 s) : Keeps s0 (snpinvReceive m s) := by
  unfold snpinvReceive; repeat' first | (with_reducible assumption) | (with_reducible apply updGvl_keeps) | split

theorem sigExpiry_keeps {s0 : State} {v : Nat} {s : State} (hk : Keeps s0 s) : Keeps s0 (sigExpiry v s) := by
  unfold sigExpiry; repeat' first | (with_reducible assumption) | (with_reducible apply updGvl_keeps) | (with_reducible apply gvlSendSig_keeps) | split | lift_lets | (intro x; clear_value x)

theorem securityEvent_keeps {s0 : State} {v : Violation} {s : State} (hk : Keeps s0 s) : Keeps s0 (securityEvent v s) := by
  unfold securityEvent; repeat' first | (with_reducible assumption) | (fail_if_no_progress with_reducible refine keeps_upd ?_ rfl rfl rfl rfl rfl rfl) | (with_reducible apply violate_keeps) | split

theorem formEnd_keeps {s0 : State} {st : TwinSt} {status : W16} {s : State} (hk : Keeps s0 s) : Keeps s0 (formEnd st status s) := by
  unfold formEnd; repeat' first | (with_reducible assumption) | (fail_if_no_progress with_reducible refine keeps_upd ?_ rfl rfl rfl rfl rfl rfl) | (with_reducible apply finish_keeps) | (with_reducible apply setTwin_keeps) | split

theorem formMeet_keeps {s0 : State} {s : State} (hk : Keeps s0 s) : Keeps s0 (formMeet s) := by
  unfold formMeet; repeat' first | (with_reducible assumption) | (fail_if_no_progress with_reducible refine keeps_upd ?_ rfl rfl rfl rfl rfl rfl) | (with_reducible apply formEnd_keeps) | split

theorem doTwinForm_keeps {s0 : State} {d : Desc} {a : TwinArg} {s : State} (hk : Keeps s0 s) : Keeps s0 (doTwinForm d a s) := by
  unfold doTwinForm; repeat' first | (with_reducible assumption) | (fail_if_no_progress with_reducible refine keeps_upd ?_ rfl rfl rfl rfl rfl rfl) | (with_reducible refine runCmd_keeps _ _ _ _ _ _ (fun s _ => ?_) ?_) | (with_reducible apply finish_keeps) | (with_reducible apply keepProg_keeps) | (with_reducible apply setTwin_keeps) | (with_reducible apply formMeet_keeps) | (with_reducible apply sendMsg_keeps) | split

theorem doTform_keeps {s0 : State} {k : Nat} {m : Msg} {s : State} (hk : Keeps s0 s) : Keeps s0 (doTform k m s) := by
  unfold doTform; repeat' first | (with_reducible assumption) | (fail_if_no_progress with_reducible refine keeps_upd ?_ rfl rfl rfl rfl rfl rfl) | (with_reducible refine receive_keeps _ _ _ _ (fun s _ => ?_) ?_) | (with_reducible apply formMeet_keeps) | split

theorem letGo_keeps {s0 : State} {s : State} {p : Nat × RelRec × Drawn} (hk : Keeps s0 s) : Keeps s0 (letGo s p) := by
  unfold letGo; repeat' first | (with_reducible assumption) | (with_reducible apply arbitrate_keeps) | (with_reducible apply retireRel_keeps) | (with_reducible apply updDrawn_keeps) | split | lift_lets | (intro x; clear_value x)

theorem letAllGo_keeps {s0 : State} {s : State} (hk : Keeps s0 s) : Keeps s0 (letAllGo s) := by
  unfold letAllGo; repeat' first | (with_reducible assumption) | (with_reducible refine keeps_foldl _ (fun s _ _ => ?_) _ ?_) | (with_reducible apply letGo_keeps)

theorem doTwinDissolve_keeps {s0 : State} {d : Desc} {s : State} (hk : Keeps s0 s) : Keeps s0 (doTwinDissolve d s) := by
  unfold doTwinDissolve; repeat' first | (with_reducible assumption) | (fail_if_no_progress with_reducible refine keeps_upd ?_ rfl rfl rfl rfl rfl rfl) | (with_reducible refine runCmd_keeps _ _ _ _ _ _ (fun s _ => ?_) ?_) | (with_reducible apply formEnd_keeps) | (with_reducible apply letAllGo_keeps) | (with_reducible apply finish_keeps) | (with_reducible apply setTwin_keeps)

theorem formLimit_keeps {s0 : State} {r : Nat} {tag : W64} {s : State} (hk : Keeps s0 s) : Keeps s0 (formLimit r tag s) := by
  unfold formLimit; repeat' first | (with_reducible assumption) | (with_reducible apply formEnd_keeps) | split

theorem sendOn_keeps {s0 : State} {s : State} {h : Hdr} {b : Body} {k : Nat} (hk : Keeps s0 s) : Keeps s0 (sendOn s h b k) := by
  unfold sendOn; repeat' first | (with_reducible assumption) | (fail_if_no_progress with_reducible refine keeps_upd ?_ rfl rfl rfl rfl rfl rfl) | (with_reducible apply linkPut_keeps) | split

theorem sendHeart_keeps {s0 : State} {s : State} (hk : Keeps s0 s) : Keeps s0 (sendHeart s) := by
  unfold sendHeart; repeat' first | (with_reducible assumption) | (with_reducible refine keeps_foldl _ (fun s _ _ => ?_) _ ?_) | (with_reducible apply sendOn_keeps) | split

theorem doTheart_keeps {s0 : State} {k : Nat} {m : Msg} {s : State} (hk : Keeps s0 s) : Keeps s0 (doTheart k m s) := by
  unfold doTheart; repeat' first | (with_reducible assumption) | (with_reducible refine receive_keeps _ _ _ _ (fun s _ => ?_) ?_) | (with_reducible apply setTwin_keeps) | split

theorem twinLost_keeps {s0 : State} {s : State} (hk : Keeps s0 s) : Keeps s0 (twinLost s) := by
  unfold twinLost; repeat' first | (with_reducible assumption) | (with_reducible apply setTwin_keeps) | (with_reducible apply letAllGo_keeps) | split

theorem receiveTwin_keeps {s0 : State} (k : Nat) (m : Msg) (kind : Nat) (body : Nat → RelRec → State → State) (hb : ∀ c r s, Keeps s0 s → Keeps s0 (body c r s)) {s : State} (hk : Keeps s0 s) : Keeps s0 (receiveTwin k m kind body s) := by
  unfold receiveTwin; repeat' first | (with_reducible assumption) | (fail_if_no_progress with_reducible refine keeps_upd ?_ rfl rfl rfl rfl rfl rfl) | (with_reducible refine receive_keeps _ _ _ _ (fun s _ => ?_) ?_) | (apply hb) | split | lift_lets | (intro x; refine (fun hx => ?_ : Keeps s0 x → _) ?_; (on_goal 1 => clear_value x); (on_goal 2 => simp only [x])) | (intro x; clear_value x)

theorem doTdigest_keeps {s0 : State} {k : Nat} {m : Msg} {s : State} (hk : Keeps s0 s) : Keeps s0 (doTdigest k m s) := by
  unfold doTdigest; repeat' first | (with_reducible assumption) | (with_reducible refine receiveTwin_keeps _ _ _ _ (fun _ _ s _ => ?_) ?_) | (with_reducible apply digestMeet_keeps)

theorem doTact_keeps {s0 : State} {k : Nat} {m : Msg} {s : State} (hk : Keeps s0 s) : Keeps s0 (doTact k m s) := by
  unfold doTact; repeat' first | (with_reducible assumption) | (with_reducible refine receiveTwin_keeps _ _ _ _ (fun _ _ s _ => ?_) ?_) | (with_reducible apply resultMeet_keeps) | (with_reducible apply arbitrate_keeps) | split

theorem doTresult_keeps {s0 : State} {k : Nat} {m : Msg} {s : State} (hk : Keeps s0 s) : Keeps s0 (doTresult k m s) := by
  unfold doTresult; repeat' first | (with_reducible assumption) | (with_reducible refine receiveTwin_keeps _ _ _ _ (fun _ _ s _ => ?_) ?_) | (with_reducible apply resultMeet_keeps)

theorem digestTimeout_keeps {s0 : State} {reqtag tindex : W32} {s : State} (hk : Keeps s0 s) : Keeps s0 (digestTimeout reqtag tindex s) := by
  unfold digestTimeout; repeat' first | (with_reducible assumption) | (with_reducible apply setTwin_keeps) | (with_reducible apply letGo_keeps) | split

theorem withholdFor_keeps {s0 : State} {cause detail : Nat} {s : State} (hk : Keeps s0 s) : Keeps s0 (withholdFor cause detail s) := by
  unfold withholdFor; repeat' first | (with_reducible assumption) | (with_reducible apply withhold_keeps) | split

theorem closeWindow_keeps {s0 : State} {k : Option (W16 × W16 × Option W16)} {s : State} (hk : Keeps s0 s) : Keeps s0 (closeWindow k s) := by
  unfold closeWindow; repeat' first | (with_reducible assumption) | (fail_if_no_progress with_reducible refine keeps_upd ?_ rfl rfl rfl rfl rfl rfl) | (with_reducible apply deliverEmber_keeps) | split

theorem updPath_keeps {s0 : State} {p : Path} {f : MgtPath → MgtPath} {s : State} (hk : Keeps s0 s) : Keeps s0 (updPath p f s) := by
  unfold updPath; repeat' first | (with_reducible assumption) | (fail_if_no_progress with_reducible refine keeps_upd ?_ rfl rfl rfl rfl rfl rfl) | split

theorem noteDrops_keeps {s0 : State} {p : Path} {s : State} (hk : Keeps s0 s) : Keeps s0 (noteDrops p s) := by
  unfold noteDrops; repeat' first | (with_reducible assumption) | (with_reducible apply ember_keeps) | (with_reducible apply updPath_keeps) | split | lift_lets | (intro x; clear_value x)

theorem eventSend_keeps {s0 : State} {p : Path} {s : State} (hk : Keeps s0 s) : Keeps s0 (eventSend p s) := by
  unfold eventSend; repeat' first | (with_reducible assumption) | (with_reducible apply noteDrops_keeps) | (with_reducible apply updPath_keeps) | split | lift_lets | (intro x; clear_value x)

theorem eventTimeout_keeps {s0 : State} {p : Path} {s : State} (hk : Keeps s0 s) : Keeps s0 (eventTimeout p s) := by
  unfold eventTimeout; repeat' first | (with_reducible assumption) | (fail_if_no_progress with_reducible refine keeps_upd ?_ rfl rfl rfl rfl rfl rfl) | (with_reducible apply updPath_keeps) | (with_reducible apply noteDrops_keeps) | split

theorem reply_keeps {s0 : State} {p : Path} {op : MgtOp} {ok : Bool} {data : List Byte} {s : State} (hk : Keeps s0 s) : Keeps s0 (reply p op ok data s) := by
  unfold reply; repeat' first | (with_reducible assumption) | (with_reducible apply updPath_keeps) | split

theorem replyFree_keeps {s0 : State} {p : Path} {op : MgtOp} {n : Nat} {s : State} (hk : Keeps s0 s) : Keeps s0 (replyFree p op n s) := by
  unfold replyFree; repeat' first | (with_reducible assumption) | (with_reducible apply freeWords_keeps) | (with_reducible apply reply_keeps)

theorem setEid_keeps {s0 : State} {p : Path} {op eid : Byte} {s : State} (hk : Keeps s0 s) : Keeps s0 (setEid p op eid s) := by
  unfold setEid; repeat' first | (with_reducible assumption) | (with_reducible apply reply_keeps) | (with_reducible apply updPath_keeps) | split

theorem mctpVersion_keeps {s0 : State} {p : Path} {type : Byte} {s : State} (hk : Keeps s0 s) : Keeps s0 (mctpVersion p type s) := by
  unfold mctpVersion; repeat' first | (with_reducible assumption) | (with_reducible apply reply_keeps) | (with_reducible apply replyFree_keeps) | split

theorem pldmVersion_keeps {s0 : State} {p : Path} {type : Byte} {s : State} (hk : Keeps s0 s) : Keeps s0 (pldmVersion p type s) := by
  unfold pldmVersion; repeat' first | (with_reducible assumption) | (with_reducible apply reply_keeps) | split

theorem pldmCommands_keeps {s0 : State} {p : Path} {type : Byte} {s : State} (hk : Keeps s0 s) : Keeps s0 (pldmCommands p type s) := by
  unfold pldmCommands; repeat' first | (with_reducible assumption) | (with_reducible apply reply_keeps) | split

theorem setReceiver_keeps {s0 : State} {p : Path} {enable eid : Byte} {s : State} (hk : Keeps s0 s) : Keeps s0 (setReceiver p enable eid s) := by
  unfold setReceiver; repeat' first | (with_reducible assumption) | (with_reducible apply reply_keeps) | (with_reducible apply updPath_keeps) | split

theorem pdrReply_keeps {s0 : State} {p : Path} {handle : W32} {s : State} (hk : Keeps s0 s) : Keeps s0 (pdrReply p handle s) := by
  unfold pdrReply; repeat' first | (with_reducible assumption) | (with_reducible apply reply_keeps) | split | lift_lets | (intro x; clear_value x)

theorem putBufByte_keeps {s0 : State} {l o : Nat} {b : Byte} {s : State} (hk : Keeps s0 s) : Keeps s0 (putBufByte l o b s) := by
  unfold putBufByte; repeat' first | (with_reducible assumption) | (with_reducible apply updEng_keeps) | (with_reducible apply updLan_keeps) | split

theorem putBuf_keeps {s0 : State} {l o : Nat} {b : List Byte} {s : State} (hk : Keeps s0 s) : Keeps s0 (putBuf l o b s) := by
  induction b generalizing o s with
  | nil => exact hk
  | cons c t ih => unfold putBuf; repeat' first | (with_reducible assumption) | (with_reducible apply putBufByte_keeps) | (apply ih)

theorem noteFlags_keeps {s0 : State} {l t : Nat} {f : FFlags} {s : State} (hk : Keeps s0 s) : Keeps s0 (noteFlags l t f s) := by
  unfold noteFlags; repeat' first | (with_reducible assumption) | (with_reducible apply updEng_keeps) | (with_reducible apply updRel_keeps) | split

theorem supplyThread_keeps {s0 : State} {l t need : Nat} {s : State} (hk : Keeps s0 s) : Keeps s0 (supplyThread l t need s) := by
  unfold supplyThread; repeat' first | (with_reducible assumption) | (with_reducible apply setEng_keeps) | (with_reducible apply updThread_keeps) | split | lift_lets | (intro x; clear_value x)

theorem advance_keeps {s0 : State} {l t : Nat} {s : State} (hk : Keeps s0 s) : Keeps s0 (advance l t s) := by
  unfold advance; repeat' first | (with_reducible assumption) | (with_reducible apply updThread_keeps)

theorem threadFault_keeps {s0 : State} {l t cause : Nat} {s : State} (hk : Keeps s0 s) : Keeps s0 (threadFault l t cause s) := by
  unfold threadFault; repeat' first | (with_reducible assumption) | (with_reducible apply endThread_keeps) | (with_reducible apply recordFault_keeps) | (with_reducible apply customerFault_keeps) | split

theorem kernelRerun_keeps {s0 : State} {l t : Nat} {s : State} (hk : Keeps s0 s) : Keeps s0 (kernelRerun l t s) := by
  unfold kernelRerun; repeat' first | (with_reducible assumption) | (with_reducible apply withhold_keeps) | (with_reducible apply updThread_keeps) | split

theorem checkEvent_keeps {s0 : State} {th : Thread} {s : State} (hk : Keeps s0 s) : Keeps s0 (checkEvent th s) := by
  unfold checkEvent; repeat' first | (with_reducible assumption) | (with_reducible apply updLctx_keeps) | (with_reducible apply updCtx_keeps) | split

theorem engineError_keeps {s0 : State} {l t : Nat} {res : Bool} {s : State} (hk : Keeps s0 s) : Keeps s0 (engineError l t res s) := by
  unfold engineError; repeat' first | (with_reducible assumption) | (with_reducible apply updEng_keeps) | (with_reducible apply customerFault_keeps) | (with_reducible apply kernelRerun_keeps) | (with_reducible apply checkEvent_keeps) | split | lift_lets | (intro x; refine (fun hx => ?_ : Keeps s0 x → _) ?_; (on_goal 1 => clear_value x); (on_goal 2 => simp only [x]))

theorem eccCorrected_keeps {s0 : State} {l : Nat} {s : State} (hk : Keeps s0 s) : Keeps s0 (eccCorrected l s) := by
  unfold eccCorrected; repeat' first | (with_reducible assumption) | (with_reducible apply updEng_keeps)

theorem countIssue_keeps {s0 : State} {l : Nat} {s : State} (hk : Keeps s0 s) : Keeps s0 (countIssue l s) := by
  unfold countIssue; repeat' first | (with_reducible assumption) | (with_reducible apply updEng_keeps)

theorem issue_keeps {s0 : State} (l : Lan) (t : ThreadI) (w : W64) (cls count : Nat) (ops : List Nat) (f : Form) (k : RegChk) (body : Thread → State → State) (hb : ∀ th s, Keeps s0 s → Keeps s0 (body th s)) {s : State} (hk : Keeps s0 s) : Keeps s0 (issue l t w cls count ops f k body s) := by
  unfold issue; repeat' first | (with_reducible assumption) | (with_reducible apply supplyThread_keeps) | (with_reducible apply threadFault_keeps) | (with_reducible apply countIssue_keeps) | (with_reducible apply engineError_keeps) | (with_reducible apply eccCorrected_keeps) | (apply hb) | split | intro x | dsimp only

theorem laneResult_keeps {s0 : State} {l t : Nat} {w : W64} {th : Thread} {f : Nat → W32 × FFlags} {s : State} (hk : Keeps s0 s) : Keeps s0 (laneResult l t w th f s) := by
  unfold laneResult; repeat' first | (with_reducible assumption) | (with_reducible apply updEng_keeps) | (with_reducible apply advance_keeps) | (with_reducible apply noteFlags_keeps)

theorem invDone_keeps {s0 : State} {id : Nat} {s : State} (hk : Keeps s0 s) : Keeps s0 (invDone id s) := by
  unfold invDone; repeat' first | (with_reducible assumption) | (with_reducible apply stopInv_keeps) | (with_reducible apply finish_keeps) | (with_reducible apply finishFree_keeps) | split | lift_lets | (intro x; clear_value x)

theorem threadExit_keeps {s0 : State} {l : Lan} {t : Nat} {th : Thread} {s : State} (hk : Keeps s0 s) : Keeps s0 (threadExit l t th s) := by
  unfold threadExit; repeat' first | (with_reducible assumption) | (with_reducible apply startWaiting_keeps) | (with_reducible apply endThread_keeps) | (with_reducible apply invDone_keeps) | split

theorem doControl_keeps {s0 : State} {l : Lan} {t : ThreadI} {w : W64} {s : State} (hk : Keeps s0 s) : Keeps s0 (doControl l t w s) := by
  unfold doControl; repeat' first | (with_reducible assumption) | (with_reducible refine issue_keeps _ _ _ _ _ _ _ _ _ (fun _ s _ => ?_) ?_) | (with_reducible apply updThread_keeps) | (with_reducible apply threadExit_keeps) | (with_reducible apply advance_keeps) | (with_reducible apply updEng_keeps) | split

theorem laneBody_keeps {s0 : State} {l : Lan} {t : ThreadI} {w : W64} {f : W32 → W32 → W32 → W32 × FFlags} {th : Thread} {s : State} (hk : Keeps s0 s) : Keeps s0 (laneBody l t w f th s) := by
  unfold laneBody; repeat' first | (with_reducible assumption) | (with_reducible apply laneResult_keeps)

theorem doFloat_keeps {s0 : State} {l : Lan} {t : ThreadI} {w : W64} {k : RegChk} {s : State} (hk : Keeps s0 s) : Keeps s0 (doFloat l t w k s) := by
  unfold doFloat; repeat' first | (with_reducible assumption) | (with_reducible refine issue_keeps _ _ _ _ _ _ _ _ _ (fun _ s _ => ?_) ?_) | (with_reducible apply laneBody_keeps)

theorem doDot2_keeps {s0 : State} {l : Lan} {t : ThreadI} {w : W64} {k : RegChk} {s : State} (hk : Keeps s0 s) : Keeps s0 (doDot2 l t w k s) := by
  unfold doDot2; repeat' first | (with_reducible assumption) | (with_reducible refine issue_keeps _ _ _ _ _ _ _ _ _ (fun _ s _ => ?_) ?_) | (with_reducible apply laneBody_keeps)

theorem doDot4_keeps {s0 : State} {l : Lan} {t : ThreadI} {w : W64} {k : RegChk} {s : State} (hk : Keeps s0 s) : Keeps s0 (doDot4 l t w k s) := by
  unfold doDot4; repeat' first | (with_reducible assumption) | (with_reducible refine issue_keeps _ _ _ _ _ _ _ _ _ (fun _ s _ => ?_) ?_) | (with_reducible apply laneBody_keeps) | split

theorem doInteger_keeps {s0 : State} {l : Lan} {t : ThreadI} {w : W64} {k : RegChk} {s : State} (hk : Keeps s0 s) : Keeps s0 (doInteger l t w k s) := by
  unfold doInteger; repeat' first | (with_reducible assumption) | (with_reducible refine issue_keeps _ _ _ _ _ _ _ _ _ (fun _ s _ => ?_) ?_) | (with_reducible apply laneBody_keeps)

theorem packBody_keeps {s0 : State} {l : Lan} {t : ThreadI} {w : W64} {th : Thread} {s : State} (hk : Keeps s0 s) : Keeps s0 (packBody l t w th s) := by
  unfold packBody; repeat' first | (with_reducible assumption) | (with_reducible apply advance_keeps) | (with_reducible apply noteFlags_keeps) | (with_reducible apply updEng_keeps)

theorem doConvert_keeps {s0 : State} {l : Lan} {t : ThreadI} {w : W64} {k : RegChk} {s : State} (hk : Keeps s0 s) : Keeps s0 (doConvert l t w k s) := by
  unfold doConvert; repeat' first | (with_reducible assumption) | (with_reducible refine issue_keeps _ _ _ _ _ _ _ _ _ (fun _ s _ => ?_) ?_) | (with_reducible apply laneResult_keeps) | (with_reducible apply packBody_keeps) | split

theorem doCompare_keeps {s0 : State} {l : Lan} {t : ThreadI} {w : W64} {k : RegChk} {s : State} (hk : Keeps s0 s) : Keeps s0 (doCompare l t w k s) := by
  unfold doCompare; repeat' first | (with_reducible assumption) | (with_reducible refine issue_keeps _ _ _ _ _ _ _ _ _ (fun _ s _ => ?_) ?_) | (with_reducible apply advance_keeps) | (with_reducible apply updEng_keeps) | split

theorem doReduce_keeps {s0 : State} {l : Lan} {t : ThreadI} {w : W64} {k : RegChk} {s : State} (hk : Keeps s0 s) : Keeps s0 (doReduce l t w k s) := by
  unfold doReduce; repeat' first | (with_reducible assumption) | (with_reducible refine issue_keeps _ _ _ _ _ _ _ _ _ (fun _ s _ => ?_) ?_) | (with_reducible apply laneResult_keeps)

theorem doSpecial_keeps {s0 : State} {l : Lan} {t : ThreadI} {w : W64} {k : RegChk} {s : State} (hk : Keeps s0 s) : Keeps s0 (doSpecial l t w k s) := by
  unfold doSpecial; repeat' first | (with_reducible assumption) | (with_reducible refine issue_keeps _ _ _ _ _ _ _ _ _ (fun _ s _ => ?_) ?_) | (with_reducible apply laneResult_keeps)

theorem doRot_keeps {s0 : State} {l : Lan} {t : ThreadI} {w : W64} {k : RegChk} {s : State} (hk : Keeps s0 s) : Keeps s0 (doRot l t w k s) := by
  unfold doRot; repeat' first | (with_reducible assumption) | (with_reducible refine issue_keeps _ _ _ _ _ _ _ _ _ (fun _ s _ => ?_) ?_) | (with_reducible apply advance_keeps) | (with_reducible apply noteFlags_keeps) | (with_reducible apply updEng_keeps)

theorem doRotl1_keeps {s0 : State} {l : Lan} {t : ThreadI} {w : W64} {k : RegChk} {s : State} (hk : Keeps s0 s) : Keeps s0 (doRotl1 l t w k s) := by
  unfold doRotl1; repeat' first | (with_reducible assumption) | (with_reducible refine issue_keeps _ _ _ _ _ _ _ _ _ (fun _ s _ => ?_) ?_) | (with_reducible apply updEng_keeps) | (with_reducible apply advance_keeps) | (with_reducible apply noteFlags_keeps)

theorem doGather_keeps {s0 : State} {l : Lan} {t : ThreadI} {w : W64} {k : RegChk} {s : State} (hk : Keeps s0 s) : Keeps s0 (doGather l t w k s) := by
  unfold doGather; repeat' first | (with_reducible assumption) | (fail_if_no_progress with_reducible refine keeps_upd ?_ rfl rfl rfl rfl rfl rfl) | (with_reducible refine issue_keeps _ _ _ _ _ _ _ _ _ (fun _ s _ => ?_) ?_) | (with_reducible apply threadFault_keeps) | (with_reducible apply advance_keeps) | (with_reducible apply updEng_keeps) | split | lift_lets | (intro x; clear_value x)

theorem doScatter_keeps {s0 : State} {l : Lan} {t : ThreadI} {w : W64} {k : RegChk} {s : State} (hk : Keeps s0 s) : Keeps s0 (doScatter l t w k s) := by
  unfold doScatter; repeat' first | (with_reducible assumption) | (with_reducible refine keeps_foldl _ (fun s _ _ => ?_) _ ?_) | (with_reducible refine issue_keeps _ _ _ _ _ _ _ _ _ (fun _ s _ => ?_) ?_) | (with_reducible apply threadFault_keeps) | (with_reducible apply advance_keeps) | (with_reducible apply putBuf_keeps) | split | lift_lets | (intro x; clear_value x)

theorem doTkpush_keeps {s0 : State} {l : Lan} {t : ThreadI} {w : W64} {k : RegChk} {s : State} (hk : Keeps s0 s) : Keeps s0 (doTkpush l t w k s) := by
  unfold doTkpush; repeat' first | (with_reducible assumption) | (with_reducible refine issue_keeps _ _ _ _ _ _ _ _ _ (fun _ s _ => ?_) ?_) | (with_reducible apply advance_keeps) | (with_reducible apply noteFlags_keeps) | (with_reducible apply setEng_keeps)

theorem doTkpop_keeps {s0 : State} {l : Lan} {t : ThreadI} {w : W64} {s : State} (hk : Keeps s0 s) : Keeps s0 (doTkpop l t w s) := by
  unfold doTkpop; repeat' first | (with_reducible assumption) | (with_reducible refine issue_keeps _ _ _ _ _ _ _ _ _ (fun _ s _ => ?_) ?_) | (with_reducible apply advance_keeps) | (with_reducible apply setEng_keeps)

theorem checkBlock_keeps {s0 : State} {l t : Nat} {th : Thread} {write : Bool} {a : Nat} {s : State} (hk : Keeps s0 s) : Keeps s0 (checkBlock l t th write a s).1 := by
  unfold checkBlock; repeat' first | (with_reducible assumption) | (fail_if_no_progress with_reducible refine keeps_upd ?_ rfl rfl rfl rfl rfl rfl) | (with_reducible apply winFault_keeps) | split

theorem checkBlocks_keeps {s0 : State} {l t : Nat} {th : Thread} {write : Bool} {r : List Nat} {s : State} (hk : Keeps s0 s) : Keeps s0 ((checkBlocks l t th write r s).1) := by
  induction r generalizing s with
  | nil => exact hk
  | cons c t ih => unfold checkBlocks; repeat' first | (with_reducible assumption) | (with_reducible apply checkBlock_keeps) | (apply ih) | split | lift_lets | (intro x; refine (fun hx => ?_ : Keeps s0 x.1 → _) ?_; (on_goal 1 => clear_value x); (on_goal 2 => simp only [x]))

theorem addLoad_keeps {s0 : State} {l t : Nat} {x : Access} {s : State} (hk : Keeps s0 s) : Keeps s0 (addLoad l t x s) := by
  unfold addLoad; repeat' first | (with_reducible assumption) | (with_reducible apply updThread_keeps)

theorem startLoad_keeps {s0 : State} {l : Lan} {t : ThreadI} {a n : Nat} {s : State} (hk : Keeps s0 s) : Keeps s0 (startLoad l t a n s) := by
  unfold startLoad; repeat' first | (with_reducible assumption) | (with_reducible refine keeps_foldl _ (fun s _ _ => ?_) _ ?_) | (with_reducible apply compRead_keeps) | (with_reducible apply devReadBlock_keeps) | split

theorem doLoad_keeps {s0 : State} {l : Lan} {t : ThreadI} {w : W64} {s : State} (hk : Keeps s0 s) : Keeps s0 (doLoad l t w s) := by
  unfold doLoad; repeat' first | (with_reducible assumption) | (fail_if_no_progress with_reducible refine keeps_upd ?_ rfl rfl rfl rfl rfl rfl) | (with_reducible refine issue_keeps _ _ _ _ _ _ _ _ _ (fun _ s _ => ?_) ?_) | (with_reducible apply advance_keeps) | (with_reducible apply updEng_keeps) | (with_reducible apply threadFault_keeps) | (with_reducible apply checkBlocks_keeps) | (with_reducible apply addLoad_keeps) | (with_reducible apply customerFault_keeps) | (with_reducible apply startLoad_keeps) | split | (intro x; refine (fun hx => ?_ : Keeps s0 x.1 → _) ?_; (on_goal 1 => clear_value x); (on_goal 2 => simp only [x])) | (intro x; clear_value x) | intro x | dsimp only

theorem putWrites_keeps {s0 : State} {s : State} {a : Nat} {ws : List DevWrite} (hk : Keeps s0 s) : Keeps s0 (putWrites s a ws) := by
  unfold putWrites; repeat' first | (with_reducible assumption) | (with_reducible refine keeps_foldl _ (fun s _ _ => ?_) _ ?_) | (with_reducible apply devWriteBlock_keeps) | split

theorem storeLines_keeps {s0 : State} {e : Engine} {t : Nat} {th : Thread} {w : W64} {a n : Nat} {s : State} (hk : Keeps s0 s) : Keeps s0 (storeLines e t th w a n s) := by
  unfold storeLines; repeat' first | (with_reducible assumption) | (with_reducible refine keeps_foldl _ (fun s _ _ => ?_) _ ?_) | (with_reducible apply gvlWriteLine_keeps) | split

theorem sendWrites_keeps {s0 : State} {l : Lan} {t : ThreadI} {w : W64} {th : Thread} {op : Option Nat} {s : State} (hk : Keeps s0 s) : Keeps s0 (sendWrites l t w th op s) := by
  unfold sendWrites; repeat' first | (with_reducible assumption) | (with_reducible apply checkBlocks_keeps) | (with_reducible apply advance_keeps) | (with_reducible apply addLoad_keeps) | (with_reducible apply customerFault_keeps) | (with_reducible apply storeLines_keeps) | (with_reducible apply putWrites_keeps) | split | lift_lets | (intro x; refine (fun hx => ?_ : Keeps s0 x.1 → _) ?_; (on_goal 1 => clear_value x); (on_goal 2 => simp only [x])) | (intro x; clear_value x)

theorem doStore_keeps {s0 : State} {l : Lan} {t : ThreadI} {w : W64} {k : RegChk} {s : State} (hk : Keeps s0 s) : Keeps s0 (doStore l t w k s) := by
  unfold doStore; repeat' first | (with_reducible assumption) | (with_reducible refine keeps_foldl _ (fun s _ _ => ?_) _ ?_) | (with_reducible refine issue_keeps _ _ _ _ _ _ _ _ _ (fun _ s _ => ?_) ?_) | (with_reducible apply advance_keeps) | (with_reducible apply putBuf_keeps) | (with_reducible apply threadFault_keeps) | (with_reducible apply sendWrites_keeps) | split | dsimp only

theorem doAtomic_keeps {s0 : State} {l : Lan} {t : ThreadI} {w : W64} {k : RegChk} {s : State} (hk : Keeps s0 s) : Keeps s0 (doAtomic l t w k s) := by
  unfold doAtomic; repeat' first | (with_reducible assumption) | (with_reducible refine issue_keeps _ _ _ _ _ _ _ _ _ (fun _ s _ => ?_) ?_) | (with_reducible apply threadFault_keeps) | (with_reducible apply sendWrites_keeps) | split | lift_lets | (intro x; clear_value x)

theorem updLoads_keeps {s0 : State} {l t : Nat} {f : List Access → List Access} {s : State} (hk : Keeps s0 s) : Keeps s0 (updLoads l t f s) := by
  unfold updLoads; repeat' first | (with_reducible assumption) | (with_reducible apply updThread_keeps)

theorem noteEcc_keeps {s0 : State} {p : Nat} {x : EccRes} {s : State} (hk : Keeps s0 s) : Keeps s0 (noteEcc p x s) := by
  unfold noteEcc; repeat' first | (with_reducible assumption) | (with_reducible apply updStk_keeps) | (with_reducible apply updScn_keeps) | split

theorem loadResolved_keeps {s0 : State} {l : Nat} {th : Thread} {s : State} (hk : Keeps s0 s) : Keeps s0 (loadResolved l th s) := by
  unfold loadResolved; repeat' first | (with_reducible assumption) | (with_reducible apply checkEvent_keeps) | (with_reducible apply blockRetried_keeps)

theorem compTake_keeps {s0 : State} {l : Lan} {t : ThreadI} {x : Access} {s : State} (hk : Keeps s0 s) : Keeps s0 (compTake l t x s) := by
  unfold compTake; repeat' first | (with_reducible assumption) | (with_reducible apply updGvl_keeps)

theorem loadFailed_keeps {s0 : State} {l : Lan} {t : ThreadI} {n : Nat} {th : Thread} {x : Access} {shadow : Option (W32 × W32)} {s : State} (hk : Keeps s0 s) : Keeps s0 (loadFailed l t n th x shadow s) := by
  unfold loadFailed; repeat' first | (with_reducible assumption) | (with_reducible apply checkBlocks_keeps) | (with_reducible apply updLoads_keeps) | (with_reducible apply startLoad_keeps) | (with_reducible apply rehashBad_keeps) | (with_reducible apply updShard_keeps) | (with_reducible apply blockTwice_keeps) | (with_reducible apply customerFault_keeps) | (with_reducible apply blockLost_keeps) | split | (intro x; refine (fun hx => ?_ : Keeps s0 x.1 → _) ?_; (on_goal 1 => clear_value x); (on_goal 2 => simp only [x])) | (intro x; clear_value x) | intro x | dsimp only

theorem loadGood_keeps {s0 : State} {l : Lan} {t : ThreadI} {n : Nat} {th : Thread} {x : Access} {d : List Byte} {s : State} (hk : Keeps s0 s) : Keeps s0 (loadGood l t n th x d s) := by
  unfold loadGood; repeat' first | (with_reducible assumption) | (with_reducible apply updEng_keeps) | (with_reducible apply updLoads_keeps) | (with_reducible apply loadResolved_keeps) | split

theorem loadArrive_keeps {s0 : State} {l : Lan} {t : ThreadI} {n : Nat} {th : Thread} {x : Access} {ecc : EccRes} {bad : Bool} {shadow : Option (W32 × W32)} {s : State} (hk : Keeps s0 s) : Keeps s0 (loadArrive l t n th x ecc bad shadow s) := by
  unfold loadArrive; repeat' first | (with_reducible assumption) | (with_reducible apply noteEcc_keeps) | (with_reducible apply loadGood_keeps) | (with_reducible apply loadFailed_keeps) | split | lift_lets | (intro x; refine (fun hx => ?_ : Keeps s0 x → _) ?_; (on_goal 1 => clear_value x); (on_goal 2 => simp only [x])) | (intro x; clear_value x)

theorem loadReturn_keeps {s0 : State} {l : Lan} {t : ThreadI} {n : Nat} {ecc : EccRes} {bad : Bool} {shadow : Option (W32 × W32)} {s : State} (hk : Keeps s0 s) : Keeps s0 (loadReturn l t n ecc bad shadow s) := by
  unfold loadReturn; repeat' first | (with_reducible assumption) | (with_reducible apply loadFailed_keeps) | (with_reducible apply updLoads_keeps) | (with_reducible apply putWrites_keeps) | (with_reducible apply compTake_keeps) | (with_reducible apply loadGood_keeps) | (with_reducible apply loadArrive_keeps) | split

theorem flushThread_keeps {s0 : State} {east : Bool} {s : State} {p : Nat × Nat} (hk : Keeps s0 s) : Keeps s0 (flushThread east s p) := by
  unfold flushThread; repeat' first | (with_reducible assumption) | (with_reducible apply customerFault_keeps) | (with_reducible apply updLoads_keeps) | split

theorem seamHang_keeps {s0 : State} {east : Bool} {s : State} (hk : Keeps s0 s) : Keeps s0 (seamHang east s) := by
  unfold seamHang; repeat' first | (with_reducible assumption) | (fail_if_no_progress with_reducible refine keeps_upd ?_ rfl rfl rfl rfl rfl rfl) | (with_reducible refine keeps_foldl _ (fun s _ _ => ?_) _ ?_) | (with_reducible apply flushThread_keeps) | (with_reducible apply ember_keeps) | split

theorem doSend_keeps {s0 : State} {l : Lan} {t : ThreadI} {w : W64} {k : RegChk} {s : State} (hk : Keeps s0 s) : Keeps s0 (doSend l t w k s) := by
  unfold doSend; repeat' first | (with_reducible assumption) | (fail_if_no_progress with_reducible refine keeps_upd ?_ rfl rfl rfl rfl rfl rfl) | (with_reducible refine issue_keeps _ _ _ _ _ _ _ _ _ (fun _ s _ => ?_) ?_) | (with_reducible apply threadFault_keeps) | (with_reducible apply customerFault_keeps) | (with_reducible apply advance_keeps) | (with_reducible apply updEng_keeps) | split | dsimp only

theorem doRecv_keeps {s0 : State} {l : Lan} {t : ThreadI} {w : W64} {s : State} (hk : Keeps s0 s) : Keeps s0 (doRecv l t w s) := by
  unfold doRecv; repeat' first | (with_reducible assumption) | (with_reducible refine issue_keeps _ _ _ _ _ _ _ _ _ (fun _ s _ => ?_) ?_) | (with_reducible apply advance_keeps) | (with_reducible apply setEng_keeps) | split

theorem doFire_keeps {s0 : State} {l : Lan} {t : ThreadI} {w : W64} {f : FireArg} {s : State} (hk : Keeps s0 s) : Keeps s0 (doFire l t w f s) := by
  unfold doFire; repeat' first | (with_reducible assumption) | (fail_if_no_progress with_reducible refine keeps_upd ?_ rfl rfl rfl rfl rfl rfl) | (with_reducible refine issue_keeps _ _ _ _ _ _ _ _ _ (fun _ s _ => ?_) ?_) | (with_reducible apply threadFault_keeps) | (with_reducible apply advance_keeps) | (with_reducible apply enqueueFlare_keeps) | (with_reducible apply updThread_keeps) | split | lift_lets | (intro x; refine (fun hx => ?_ : Keeps s0 x → _) ?_; (on_goal 1 => clear_value x); (on_goal 2 => simp only [x])) | (intro x; clear_value x)

theorem doWaitf_keeps {s0 : State} {l : Lan} {t : ThreadI} {w : W64} {s : State} (hk : Keeps s0 s) : Keeps s0 (doWaitf l t w s) := by
  unfold doWaitf; repeat' first | (with_reducible assumption) | (with_reducible refine issue_keeps _ _ _ _ _ _ _ _ _ (fun _ s _ => ?_) ?_) | (with_reducible apply advance_keeps) | (with_reducible apply updThread_keeps) | split | lift_lets | (intro x; clear_value x)

theorem auditNow_keeps {s0 : State} {c l : Nat} {s : State} (hk : Keeps s0 s) : Keeps s0 (auditNow c l s) := by
  unfold auditNow; repeat' first | (with_reducible assumption) | (with_reducible apply updRun_keeps) | (with_reducible apply updLan_keeps) | split

theorem handOff_keeps {s0 : State} {l : Nat} {s : State} (hk : Keeps s0 s) : Keeps s0 (handOff l s) := by
  unfold handOff; repeat' first | (with_reducible assumption) | (with_reducible refine keeps_foldl _ (fun s _ _ => ?_) _ ?_) | (with_reducible apply momentEnd_keeps) | split

theorem doPrivileged_keeps {s0 : State} {l : Lan} {t : ThreadI} {w : W64} {s : State} (hk : Keeps s0 s) : Keeps s0 (doPrivileged l t w s) := by
  unfold doPrivileged; repeat' first | (with_reducible assumption) | (with_reducible apply customerFault_keeps) | (with_reducible refine issue_keeps _ _ _ _ _ _ _ _ _ (fun _ s _ => ?_) ?_) | (with_reducible apply advance_keeps) | (with_reducible apply updLan_keeps) | (with_reducible apply handOff_keeps) | (with_reducible apply auditNow_keeps) | split

theorem kernelLimit_keeps {s0 : State} {c : CtxI} {id : Nat} {s : State} (hk : Keeps s0 s) : Keeps s0 (kernelLimit c id s) := by
  unfold kernelLimit; repeat' first | (with_reducible assumption) | (with_reducible refine keeps_foldl _ (fun s _ _ => ?_) _ ?_) | (with_reducible apply updEng_keeps) | (with_reducible apply recordFault_keeps) | (with_reducible apply failInv_keeps) | split

theorem vecCtlWrite_keeps {s0 : State} {l : Nat} {v : W32} {s : State} (hk : Keeps s0 s) : Keeps s0 (vecCtlWrite l v s) := by
  unfold vecCtlWrite; repeat' first | (with_reducible assumption) | (with_reducible apply updEng_keeps) | (with_reducible apply stopCustomers_keeps) | split

theorem shareWrite_keeps {s0 : State} {n : Nat} {v : W32} {s : State} (hk : Keeps s0 s) : Keeps s0 (shareWrite n v s) := by
  unfold shareWrite; repeat' first | (with_reducible assumption) | (with_reducible apply setShares_keeps) | split

theorem monSeqWrite_keeps {s0 : State} {n k : Nat} {v : W32} {s : State} (hk : Keeps s0 s) : Keeps s0 (monSeqWrite n k v s) := by
  unfold monSeqWrite; repeat' first | (with_reducible assumption) | (with_reducible apply updCv_keeps)

theorem monDtabWrite_keeps {s0 : State} {d : Nat} {v : W32} {s : State} (hk : Keeps s0 s) : Keeps s0 (monDtabWrite d v s) := by
  unfold monDtabWrite; repeat' first | (with_reducible assumption) | (fail_if_no_progress with_reducible refine keeps_upd ?_ rfl rfl rfl rfl rfl rfl) | split

theorem windowWrite_keeps {s0 : State} {i k : Nat} {v : W32} {s : State} (hk : Keeps s0 s) : Keeps s0 (windowWrite i k v s) := by
  unfold windowWrite; repeat' first | (with_reducible assumption) | (with_reducible apply setWindow_keeps)

theorem routeWrite_keeps {s0 : State} {bank : Bool} {d : Nat} {v : W32} {s : State} (hk : Keeps s0 s) : Keeps s0 (routeWrite bank d v s) := by
  unfold routeWrite; repeat' first | (with_reducible assumption) | (fail_if_no_progress with_reducible refine keeps_upd ?_ rfl rfl rfl rfl rfl rfl) | (with_reducible apply fabStat_keeps) | split

theorem chainWrite_keeps {s0 : State} {n : Nat} {v : W32} {s : State} (hk : Keeps s0 s) : Keeps s0 (chainWrite n v s) := by
  unfold chainWrite; repeat' first | (with_reducible assumption) | (fail_if_no_progress with_reducible refine keeps_upd ?_ rfl rfl rfl rfl rfl rfl)

theorem wrrWrite_keeps {s0 : State} {v : W32} {s : State} (hk : Keeps s0 s) : Keeps s0 (wrrWrite v s) := by
  unfold wrrWrite; repeat' first | (with_reducible assumption) | (fail_if_no_progress with_reducible refine keeps_upd ?_ rfl rfl rfl rfl rfl rfl)

theorem myidWrite_keeps {s0 : State} {v : W32} {s : State} (hk : Keeps s0 s) : Keeps s0 (myidWrite v s) := by
  unfold myidWrite; repeat' first | (with_reducible assumption) | (fail_if_no_progress with_reducible refine keeps_upd ?_ rfl rfl rfl rfl rfl rfl)

theorem lanRegWrite_keeps {s0 : State} {r : Reg} {v : W32} {s : State} (hk : Keeps s0 s) : Keeps s0 (lanRegWrite r v s) := by
  unfold lanRegWrite; repeat' first | (with_reducible assumption) | (with_reducible apply updWick_keeps) | (with_reducible apply updLan_keeps) | (with_reducible apply vecCtlWrite_keeps) | (with_reducible apply updEng_keeps) | split

theorem dieRegWrite_keeps {s0 : State} {r : Reg} {v : W32} {s : State} (hk : Keeps s0 s) : Keeps s0 (dieRegWrite r v s) := by
  unfold dieRegWrite; repeat' first | (with_reducible assumption) | (fail_if_no_progress with_reducible refine keeps_upd ?_ rfl rfl rfl rfl rfl rfl) | (with_reducible apply doLmpCfg_keeps) | (with_reducible apply setLimit_keeps) | (with_reducible apply shareWrite_keeps) | (with_reducible apply monCvWrite_keeps) | (with_reducible apply monSeqWrite_keeps) | (with_reducible apply monDtabWrite_keeps) | (with_reducible apply updScn_keeps) | (with_reducible apply windowWrite_keeps) | (with_reducible apply updStk_keeps) | split

set_option maxRecDepth 6000 in
theorem ioRegWrite_keeps {s0 : State} {r : Reg} {v : W32} {s : State} (hk : Keeps s0 s) : Keeps s0 (ioRegWrite r v s) := by
  unfold ioRegWrite; cases r
  all_goals dsimp only
  all_goals first
    | exact hk | (with_reducible apply updPort_keeps; exact hk) | (with_reducible apply myidWrite_keeps; exact hk) | (with_reducible apply wrrWrite_keeps; exact hk) | (with_reducible apply chainWrite_keeps; exact hk)
    | (with_reducible apply routeWrite_keeps; exact hk) | (with_reducible apply gvlCtlWrite_keeps; exact hk) | (with_reducible apply updGvl_keeps; exact hk) | (with_reducible apply rtbaseWrite_keeps; exact hk)
    | (refine keeps_upd hk ?_ ?_ ?_ ?_ ?_ ?_ <;> rfl)

theorem cpuWrite_keeps {s0 : State} {k : Writer} {r : Reg} {v : W32} {s : State} (hk : Keeps s0 s) : Keeps s0 (cpuWrite k r v s) := by
  unfold cpuWrite; repeat' first | (with_reducible assumption) | (fail_if_no_progress with_reducible refine keeps_upd ?_ rfl rfl rfl rfl rfl rfl) | (with_reducible apply violate_keeps) | (with_reducible apply ioRegWrite_keeps) | (with_reducible apply dieRegWrite_keeps) | (with_reducible apply lanRegWrite_keeps) | split

theorem hostWrite_keeps {s0 : State} {r : Reg} {v : W32} {s : State} (hk : Keeps s0 s) : Keeps s0 (hostWrite r v s) := by
  unfold hostWrite; repeat' first | (with_reducible assumption) | (with_reducible apply rtbaseWrite_keeps) | split

theorem doCalRead_keeps {s0 : State} {d : Desc} {lans : List Nat} {wicks sets : W32} {s : State} (hk : Keeps s0 s) : Keeps s0 (doCalRead d lans wicks sets s) := by
  unfold doCalRead; repeat' first | (with_reducible assumption) | (with_reducible refine runCmd_keeps _ _ _ _ _ _ (fun s _ => ?_) ?_) | (with_reducible apply finish_keeps) | (with_reducible apply finishOut_keeps) | split

theorem doCalTrim_keeps {s0 : State} {d : Desc} {ll w : Nat} {s : State} (hk : Keeps s0 s) : Keeps s0 (doCalTrim d ll w s) := by
  unfold doCalTrim; repeat' first | (with_reducible assumption) | (with_reducible refine runCtx_keeps _ _ _ (fun _ _ s _ => ?_) ?_) | (with_reducible apply finish_keeps) | (with_reducible apply updWick_keeps) | (with_reducible apply earlyRemap_keeps) | (with_reducible apply updLan_keeps) | split

theorem onServed_keeps {s0 : State} {ls : List LLan} {f : Lantern → Lantern} {s : State} (hk : Keeps s0 s) : Keeps s0 (onServed ls f s) := by
  unfold onServed; repeat' first | (with_reducible assumption) | (with_reducible refine keeps_foldl _ (fun s _ _ => ?_) _ ?_) | (with_reducible apply updLan_keeps) | split

theorem doCalConfig_keeps {s0 : State} {d : Desc} {lmask : List LLan} {cfg drcfg : W32} {s : State} (hk : Keeps s0 s) : Keeps s0 (doCalConfig d lmask cfg drcfg s) := by
  unfold doCalConfig; repeat' first | (with_reducible assumption) | (with_reducible refine runMask_keeps _ _ _ (fun _ _ s _ => ?_) ?_) | (with_reducible apply updCtx_keeps) | (with_reducible apply finish_keeps) | (with_reducible apply onServed_keeps)

theorem doChkRate_keeps {s0 : State} {d : Desc} {lmask : List LLan} {audlog : W32} {s : State} (hk : Keeps s0 s) : Keeps s0 (doChkRate d lmask audlog s) := by
  unfold doChkRate; repeat' first | (with_reducible assumption) | (with_reducible refine runMask_keeps _ _ _ (fun _ _ s _ => ?_) ?_) | (with_reducible apply updCtx_keeps) | (with_reducible apply finish_keeps) | (with_reducible apply onServed_keeps)

theorem doChkAudit_keeps {s0 : State} {d : Desc} {lmask : List LLan} {s : State} (hk : Keeps s0 s) : Keeps s0 (doChkAudit d lmask s) := by
  unfold doChkAudit; repeat' first | (with_reducible assumption) | (with_reducible refine runMask_keeps _ _ _ (fun _ _ s _ => ?_) ?_) | (with_reducible apply finish_keeps) | (with_reducible apply onServed_keeps)

theorem doMonSeq_keeps {s0 : State} {d : Desc} {ents : List SeqEntry} {len : Nat} {s : State} (hk : Keeps s0 s) : Keeps s0 (doMonSeq d ents len s) := by
  unfold doMonSeq; repeat' first | (with_reducible assumption) | (with_reducible refine runCmd_keeps _ _ _ _ _ _ (fun s _ => ?_) ?_) | (with_reducible apply finish_keeps) | (with_reducible apply updCv_keeps) | split

theorem doFabPort_keeps {s0 : State} {d : Desc} {port : Nat} {v : W32} {s : State} (hk : Keeps s0 s) : Keeps s0 (doFabPort d port v s) := by
  unfold doFabPort; repeat' first | (with_reducible assumption) | (with_reducible refine runSys_keeps _ _ (fun s _ => ?_) ?_) | (with_reducible apply finish_keeps) | (with_reducible apply pcfgWrite_keeps) | split

theorem doFabId_keeps {s0 : State} {d : Desc} {id : W16} {s : State} (hk : Keeps s0 s) : Keeps s0 (doFabId d id s) := by
  unfold doFabId; repeat' first | (with_reducible assumption) | (with_reducible refine runSys_keeps _ _ (fun s _ => ?_) ?_) | (with_reducible apply finish_keeps) | (with_reducible apply myidWrite_keeps) | split

theorem doFabRoute_keeps {s0 : State} {d : Desc} {bank first : Nat} {ents : List W32} {s : State} (hk : Keeps s0 s) : Keeps s0 (doFabRoute d bank first ents s) := by
  unfold doFabRoute; repeat' first | (with_reducible assumption) | (with_reducible refine keeps_foldl _ (fun s _ _ => ?_) _ ?_) | (with_reducible refine runCmd_keeps _ _ _ _ _ _ (fun s _ => ?_) ?_) | (with_reducible apply finish_keeps) | (with_reducible apply routeWrite_keeps) | split

theorem doFabChain_keeps {s0 : State} {d : Desc} {n : Nat} {v : W32} {s : State} (hk : Keeps s0 s) : Keeps s0 (doFabChain d n v s) := by
  unfold doFabChain; repeat' first | (with_reducible assumption) | (with_reducible refine runSys_keeps _ _ (fun s _ => ?_) ?_) | (with_reducible apply finish_keeps) | (with_reducible apply chainWrite_keeps) | split

theorem runDiag_keeps {s0 : State} (d : Desc) (body : State → State) (hb : ∀ s, Keeps s0 s → Keeps s0 (body s)) {s : State} (hk : Keeps s0 s) : Keeps s0 (runDiag d body s) := by
  unfold runDiag; repeat' first | (with_reducible assumption) | (with_reducible refine runCmd_keeps _ _ _ _ _ _ (fun s _ => ?_) ?_) | (apply hb)

theorem doLoopback_keeps {s0 : State} {d : Desc} {port : Nat} {s : State} (hk : Keeps s0 s) : Keeps s0 (doLoopback d port s) := by
  unfold doLoopback; repeat' first | (with_reducible assumption) | (with_reducible refine runDiag_keeps _ _ (fun s _ => ?_) ?_) | (with_reducible apply finish_keeps) | (with_reducible apply freeWords_keeps) | (with_reducible apply complete_keeps) | split

theorem takeFlight_keeps {s0 : State} {l w : Nat} {s : State} {r : Flight × State} (hk : Keeps s0 s) (hr : takeFlight l w s = some r) : Keeps s0 r.2 := by
  unfold takeFlight at hr; dsimp only at hr; (repeat' split at hr) <;> first | (simp at hr; done) | (injection hr with hr; subst hr; repeat' first | (with_reducible assumption) | (fail_if_no_progress with_reducible refine keeps_upd ?_ rfl rfl rfl rfl rfl rfl))

theorem storeErrors_keeps {s0 : State} {l w : Nat} {lw : Option Nat} {bad : List Nat} {s : State} (hk : Keeps s0 s) : Keeps s0 (storeErrors l w lw bad s) := by
  unfold storeErrors; repeat' first | (with_reducible assumption) | (with_reducible apply setWick_keeps) | (with_reducible apply updLan_keeps) | (with_reducible apply suspectEvent_keeps) | split | lift_lets | (intro x; clear_value x)

theorem holdIfDone_keeps {s0 : State} {c id l : Nat} {s : State} (hk : Keeps s0 s) : Keeps s0 (holdIfDone c id l s) := by
  unfold holdIfDone; repeat' first | (with_reducible assumption) | (with_reducible apply updLan_keeps) | split | lift_lets | (intro x; clear_value x)

theorem windowFull_keeps {s0 : State} {l slice : Nat} {s : State} (hk : Keeps s0 s) : Keeps s0 (windowFull l slice s) := by
  unfold windowFull; repeat' first | (with_reducible assumption) | (with_reducible apply momentEnd_keeps) | split

theorem stepFlare_keeps {s0 : State} {l w : Nat} {f : Flight} {id : Nat} {lw : LWick} {slice : Nat} {lpass fallback rot lookup : Bool} {err : List (Nat × Int)} {s : State} (hk : Keeps s0 s) : Keeps s0 (stepFlare l w f id lw slice lpass fallback rot lookup err s) := by
  unfold stepFlare; repeat' first | (with_reducible assumption) | (with_reducible apply windowFull_keeps) | (with_reducible apply updLan_keeps) | (with_reducible apply updWick_keeps) | (with_reducible apply updRun_keeps) | (with_reducible apply holdIfDone_keeps) | split

theorem stepTrim_keeps {s0 : State} {l w : Nat} {f : Flight} {err : List (Nat × Int)} {s : State} (hk : Keeps s0 s) : Keeps s0 (stepTrim l w f err s) := by
  unfold stepTrim; repeat' first | (with_reducible assumption) | (with_reducible apply updLan_keeps) | (with_reducible apply updWick_keeps)

theorem stepProbe_keeps {s0 : State} {l w : Nat} {f : Flight} {err : List (Nat × Int)} {s : State} (hk : Keeps s0 s) : Keeps s0 (stepProbe l w f err s) := by
  unfold stepProbe; repeat' first | (with_reducible assumption) | (with_reducible apply updWick_keeps)

theorem stepDrive_keeps {s0 : State} {l w : Nat} {f : Flight} {tap : Nat} {b : Bool} {err : List (Nat × Int)} {s : State} (hk : Keeps s0 s) : Keeps s0 (stepDrive l w f tap b err s) := by
  unfold stepDrive; repeat' first | (with_reducible assumption) | (with_reducible apply updWick_keeps) | (with_reducible apply updLan_keeps)

end Sys2Proof.Machine
end

