-- ==== Sys2Proof/Laws/KeepsExec.lean ====
section
/-! SUPPORT. Each command's meaning, resets apart, answers a next state and keeps what every such command keeps. -/

set_option linter.all false
set_option maxRecDepth 4000

namespace Sys2Proof.Machine

/-- The command answers a next state, and what no reset ends is kept up to it. -/
def KeepsO (s : State) (o : Host.Outcome State Fault Refusal) : Prop := ∃ t, o = .next t ∧ Keeps s t

theorem keepsO_next {s t : State} (h : Keeps s t) : KeepsO s (.next t) := ⟨t, rfl, h⟩

theorem execSuspectDecay_keeps {s0 : State} (l : Lan) (s : State) (hk : Keeps s0 s) : KeepsO s0 (execSuspectDecay l s) := by
  unfold execSuspectDecay; repeat' first | (with_reducible refine keepsO_next ?_) | (with_reducible assumption) | (with_reducible apply setLan_keeps) | split | lift_lets | (intro x; clear_value x)

theorem execLanternRemap_keeps {s0 : State} (ll : LLan) (closing : List (LWick × List (Nat × Int))) (s : State) (hk : Keeps s0 s) : KeepsO s0 (execLanternRemap ll closing s) := by
  unfold execLanternRemap; repeat' first | (with_reducible refine keepsO_next ?_) | (with_reducible assumption) | (with_reducible apply remapLan_keeps) | split

theorem execWickWrctlStart_keeps {s0 : State} (l : Lan) (w : PWick) (v : W32) (s : State) (hk : Keeps s0 s) : KeepsO s0 (execWickWrctlStart l w v s) := by
  unfold execWickWrctlStart; repeat' first | (with_reducible refine keepsO_next ?_) | (with_reducible assumption) | (with_reducible apply wrctlWrite_keeps)

theorem execWickRbctlStart_keeps {s0 : State} (l : Lan) (w : PWick) (v : W32) (s : State) (hk : Keeps s0 s) : KeepsO s0 (execWickRbctlStart l w v s) := by
  unfold execWickRbctlStart; repeat' first | (with_reducible refine keepsO_next ?_) | (with_reducible assumption) | (with_reducible apply rbctlWrite_keeps)

theorem execWickReadbackCheck_keeps {s0 : State} (l : Lan) (w : PWick) (s : State) (hk : Keeps s0 s) : KeepsO s0 (execWickReadbackCheck l w s) := by
  unfold execWickReadbackCheck; repeat' first | (with_reducible refine keepsO_next ?_) | (with_reducible assumption) | (with_reducible apply startRb_keeps) | split

theorem execLookupCandidateConfirm_keeps {s0 : State} (l : Lan) (w : PWick) (col : Nat) (s : State) (hk : Keeps s0 s) : KeepsO s0 (execLookupCandidateConfirm l w col s) := by
  unfold execLookupCandidateConfirm; repeat' first | (with_reducible refine keepsO_next ?_) | (with_reducible assumption) | (with_reducible apply lookupConfirm_keeps)

theorem execWckColmapWrite_keeps {s0 : State} (l : Lan) (w : PWick) (n : Fin 4) (v : W32) (s : State) (hk : Keeps s0 s) : KeepsO s0 (execWckColmapWrite l w n v s) := by
  unfold execWckColmapWrite; repeat' first | (with_reducible refine keepsO_next ?_) | (with_reducible assumption) | (with_reducible apply setWick_keeps)

theorem execWckCfgWrite_keeps {s0 : State} (l : Lan) (w : PWick) (v : W32) (s : State) (hk : Keeps s0 s) : KeepsO s0 (execWckCfgWrite l w v s) := by
  unfold execWckCfgWrite; repeat' first | (with_reducible refine keepsO_next ?_) | (with_reducible assumption) | (with_reducible apply setWick_keeps)

theorem execMomentWindowEnd_keeps {s0 : State} (l : Lan) (slice : LWick) (s : State) (hk : Keeps s0 s) : KeepsO s0 (execMomentWindowEnd l slice s) := by
  unfold execMomentWindowEnd; repeat' first | (with_reducible refine keepsO_next ?_) | (with_reducible assumption) | (with_reducible apply momentEnd_keeps)

theorem execRotationCycle_keeps {s0 : State} (l : Lan) (s : State) (hk : Keeps s0 s) : KeepsO s0 (execRotationCycle l s) := by
  unfold execRotationCycle; repeat' first | (with_reducible refine keepsO_next ?_) | (with_reducible assumption) | (with_reducible apply rotate_keeps)

theorem execDriveRefCalDue_keeps {s0 : State} (l : Lan) (s : State) (hk : Keeps s0 s) : KeepsO s0 (execDriveRefCalDue l s) := by
  unfold execDriveRefCalDue; repeat' first | (with_reducible refine keepsO_next ?_) | (with_reducible assumption) | (with_reducible apply tryDr_keeps) | (with_reducible apply setLan_keeps) | split

theorem execDriveRefCalGapWait_keeps {s0 : State} (l : Lan) (s : State) (hk : Keeps s0 s) : KeepsO s0 (execDriveRefCalGapWait l s) := by
  unfold execDriveRefCalGapWait; repeat' first | (with_reducible refine keepsO_next ?_) | (with_reducible assumption) | (with_reducible apply updLan_keeps)

theorem execDeviceRecordWrite_keeps {s0 : State} (s : State) (hk : Keeps s0 s) : KeepsO s0 (execDeviceRecordWrite s) := by
  unfold execDeviceRecordWrite; repeat' first | (with_reducible refine keepsO_next ?_) | (with_reducible assumption) | (with_reducible apply deviceRecord_keeps)

theorem execFlareBoundary_keeps {s0 : State} (l : Lan) (s : State) (hk : Keeps s0 s) : KeepsO s0 (execFlareBoundary l s) := by
  unfold execFlareBoundary; repeat' first | (with_reducible refine keepsO_next ?_) | (with_reducible assumption) | (with_reducible apply doFlareBoundary_keeps)

theorem execCutEpoch_keeps {s0 : State} (hot : BitVec 9) (energy : Nat) (s : State) (hk : Keeps s0 s) : KeepsO s0 (execCutEpoch hot energy s) := by
  unfold execCutEpoch; repeat' first | (with_reducible refine keepsO_next ?_) | (with_reducible assumption) | (with_reducible apply doCutEpoch_keeps)

theorem execThermalTrip_keeps {s0 : State} (d : DiodeI) (s : State) (hk : Keeps s0 s) : KeepsO s0 (execThermalTrip d s) := by
  unfold execThermalTrip; repeat' first | (with_reducible refine keepsO_next ?_) | (with_reducible assumption) | (with_reducible apply withhold_keeps)

theorem execLmpCfgEn_keeps {s0 : State} (v : W32) (s : State) (hk : Keeps s0 s) : KeepsO s0 (execLmpCfgEn v s) := by
  unfold execLmpCfgEn; repeat' first | (with_reducible refine keepsO_next ?_) | (with_reducible assumption) | (with_reducible apply doLmpCfg_keeps) | split

theorem execLmpPauseWrite_keeps {s0 : State} (c : CtxI) (v : W32) (s : State) (hk : Keeps s0 s) : KeepsO s0 (execLmpPauseWrite c v s) := by
  unfold execLmpPauseWrite; repeat' first | (with_reducible refine keepsO_next ?_) | (with_reducible assumption) | (with_reducible apply updLctx_keeps)

theorem execPwrCtxwWrite_keeps {s0 : State} (c : CtxI) (v : W32) (s : State) (hk : Keeps s0 s) : KeepsO s0 (execPwrCtxwWrite c v s) := by
  unfold execPwrCtxwWrite; repeat' first | (with_reducible refine keepsO_next ?_) | (with_reducible assumption) | (with_reducible apply updLctx_keeps) | (with_reducible apply pwrCfgErr_keeps) | split

theorem execInputBlockArrival_keeps {s0 : State} (l : Lan) (b : InBlock) (good : Bool) (s : State) (hk : Keeps s0 s) : KeepsO s0 (execInputBlockArrival l b good s) := by
  unfold execInputBlockArrival; repeat' first | (with_reducible refine keepsO_next ?_) | (with_reducible assumption) | (with_reducible apply takeBlock_keeps)

theorem execBroadcast_keeps {s0 : State} (_p : Sconce) (lans : List Lan) (b : InBlock) (s : State) (hk : Keeps s0 s) : KeepsO s0 (execBroadcast _p lans b s) := by
  unfold execBroadcast; repeat' first | (with_reducible refine keepsO_next ?_) | (with_reducible assumption) | (with_reducible refine keeps_foldl _ (fun s _ _ => ?_) _ ?_) | (with_reducible apply takeBlock_keeps)

theorem execLntSwapArm_keeps {s0 : State} (l : Lan) (v : W32) (s : State) (hk : Keeps s0 s) : KeepsO s0 (execLntSwapArm l v s) := by
  unfold execLntSwapArm; repeat' first | (with_reducible refine keepsO_next ?_) | (with_reducible assumption) | (with_reducible apply updLan_keeps)

theorem execLntIssueWrite_keeps {s0 : State} (l : Lan) (v : W32) (s : State) (hk : Keeps s0 s) : KeepsO s0 (execLntIssueWrite l v s) := by
  unfold execLntIssueWrite; repeat' first | (with_reducible refine keepsO_next ?_) | (with_reducible assumption) | (with_reducible apply updLan_keeps)

theorem execLntCfgWrite_keeps {s0 : State} (l : Lan) (v : W32) (s : State) (hk : Keeps s0 s) : KeepsO s0 (execLntCfgWrite l v s) := by
  unfold execLntCfgWrite; repeat' first | (with_reducible refine keepsO_next ?_) | (with_reducible assumption) | (with_reducible apply updLan_keeps)

theorem execMonConversionDone_keeps {s0 : State} (n : Fin 4) (level err : Int) (s : State) (hk : Keeps s0 s) : KeepsO s0 (execMonConversionDone n level err s) := by
  unfold execMonConversionDone; repeat' first | (with_reducible refine keepsO_next ?_) | (with_reducible assumption) | (with_reducible apply conversionDone_keeps)

theorem execMonUrgGo_keeps {s0 : State} (gov : Bool) (v : W32) (s : State) (hk : Keeps s0 s) : KeepsO s0 (execMonUrgGo gov v s) := by
  unfold execMonUrgGo; repeat' first | (with_reducible refine keepsO_next ?_) | (with_reducible assumption) | (with_reducible apply monUrg_keeps)

theorem execMonCvGo_keeps {s0 : State} (n : Fin 4) (v : W32) (s : State) (hk : Keeps s0 s) : KeepsO s0 (execMonCvGo n v s) := by
  unfold execMonCvGo; repeat' first | (with_reducible refine keepsO_next ?_) | (with_reducible assumption) | (with_reducible apply monCvWrite_keeps)

theorem execScnOwnWrite_keeps {s0 : State} (n : Sconce) (v : W32) (s : State) (hk : Keeps s0 s) : KeepsO s0 (execScnOwnWrite n v s) := by
  unfold execScnOwnWrite; repeat' first | (with_reducible refine keepsO_next ?_) | (with_reducible assumption) | (with_reducible apply scnOwn_keeps)

theorem execXbrSlotmapWrite_keeps {s0 : State} (k : Sconce) (v : W32) (s : State) (hk : Keeps s0 s) : KeepsO s0 (execXbrSlotmapWrite k v s) := by
  unfold execXbrSlotmapWrite; repeat' first | (with_reducible refine keepsO_next ?_) | (with_reducible assumption) | (with_reducible apply slotmapWrite_keeps)

theorem execCrossbarFrame_keeps {s0 : State} (s : State) (hk : Keeps s0 s) : KeepsO s0 (execCrossbarFrame s) := by
  unfold execCrossbarFrame; repeat' first | (with_reducible refine keepsO_next ?_) | (with_reducible assumption) | (with_reducible apply crossbarFrame_keeps)

theorem execStackTrainingDone_keeps {s0 : State} (n : Sconce) (r : TrainResult) (repairs : Nat) (s : State) (hk : Keeps s0 s) : KeepsO s0 (execStackTrainingDone n r repairs s) := by
  unfold execStackTrainingDone; repeat' first | (with_reducible refine keepsO_next ?_) | (with_reducible assumption) | (with_reducible apply trainingDone_keeps)

theorem execPatrolPass_keeps {s0 : State} (n : Sconce) (corrected : Nat) (bad : List Nat) (s : State) (hk : Keeps s0 s) : KeepsO s0 (execPatrolPass n corrected bad s) := by
  unfold execPatrolPass; repeat' first | (with_reducible refine keepsO_next ?_) | (with_reducible assumption) | (with_reducible apply patrolPass_keeps)

theorem execSliceClearDone_keeps {s0 : State} (n : Sconce) (s : State) (hk : Keeps s0 s) : KeepsO s0 (execSliceClearDone n s) := by
  unfold execSliceClearDone; repeat' first | (with_reducible refine keepsO_next ?_) | (with_reducible assumption) | (with_reducible apply sliceClear_keeps)

theorem execStackOverwriteDone_keeps {s0 : State} (n : Sconce) (s : State) (hk : Keeps s0 s) : KeepsO s0 (execStackOverwriteDone n s) := by
  unfold execStackOverwriteDone; repeat' first | (with_reducible refine keepsO_next ?_) | (with_reducible assumption) | (with_reducible apply overwriteDone_keeps)

theorem execVraiseStepDown_keeps {s0 : State} (n : Sconce) (s : State) (hk : Keeps s0 s) : KeepsO s0 (execVraiseStepDown n s) := by
  unfold execVraiseStepDown; repeat' first | (with_reducible refine keepsO_next ?_) | (with_reducible assumption) | (with_reducible apply updScn_keeps) | split

theorem execSconceRetire_keeps {s0 : State} (n : Sconce) (s : State) (hk : Keeps s0 s) : KeepsO s0 (execSconceRetire n s) := by
  unfold execSconceRetire; repeat' first | (with_reducible refine keepsO_next ?_) | (with_reducible assumption) | (with_reducible apply retireSconce_keeps)

theorem execRootPllLock_keeps {s0 : State} (brdHigh : Bool) (s : State) (hk : Keeps s0 s) : KeepsO s0 (execRootPllLock brdHigh s) := by
  unfold execRootPllLock; repeat' first | (with_reducible refine keepsO_next ?_) | (with_reducible assumption) | (with_reducible apply pllLock_keeps)

theorem execBrdRstNRelease_keeps {s0 : State} (s : State) (hk : Keeps s0 s) : KeepsO s0 (execBrdRstNRelease s) := by
  unfold execBrdRstNRelease; repeat' first | (with_reducible refine keepsO_next ?_) | (with_reducible assumption) | (fail_if_no_progress with_reducible refine keeps_upd ?_ rfl rfl rfl rfl rfl rfl)

theorem execBootRom_keeps {s0 : State} (b : BootInput) (s : State) (hk : Keeps s0 s) : KeepsO s0 (execBootRom b s) := by
  unfold execBootRom; repeat' first | (with_reducible refine keepsO_next ?_) | (with_reducible assumption) | (with_reducible apply bootRom_keeps)

theorem execCounterFloorRaise_keeps {s0 : State} (s : State) (hk : Keeps s0 s) : KeepsO s0 (execCounterFloorRaise s) := by
  unfold execCounterFloorRaise; repeat' first | (with_reducible refine keepsO_next ?_) | (with_reducible assumption) | (with_reducible apply raiseFloors_keeps)

theorem execSupplyWarning_keeps {s0 : State} (p : PointI) (s : State) (hk : Keeps s0 s) : KeepsO s0 (execSupplyWarning p s) := by
  unfold execSupplyWarning; repeat' first | (with_reducible refine keepsO_next ?_) | (with_reducible assumption) | (with_reducible apply supplyWarning_keeps)

theorem execSupplyRecovery_keeps {s0 : State} (p : PointI) (s : State) (hk : Keeps s0 s) : KeepsO s0 (execSupplyRecovery p s) := by
  unfold execSupplyRecovery; repeat' first | (with_reducible refine keepsO_next ?_) | (with_reducible assumption) | (with_reducible apply supplyRecovery_keeps)

theorem execFreezeResume_keeps {s0 : State} (s : State) (hk : Keeps s0 s) : KeepsO s0 (execFreezeResume s) := by
  unfold execFreezeResume; repeat' first | (with_reducible refine keepsO_next ?_) | (with_reducible assumption) | (with_reducible apply freezeResume_keeps)

theorem execSupplyWarningLong_keeps {s0 : State} (p : PointI) (s : State) (hk : Keeps s0 s) : KeepsO s0 (execSupplyWarningLong p s) := by
  unfold execSupplyWarningLong; repeat' first | (with_reducible refine keepsO_next ?_) | (with_reducible assumption) | (with_reducible apply supplyFault_keeps) | split

theorem execSupplyResetLevel_keeps {s0 : State} (p : PointI) (s : State) (hk : Keeps s0 s) : KeepsO s0 (execSupplyResetLevel p s) := by
  unfold execSupplyResetLevel; repeat' first | (with_reducible refine keepsO_next ?_) | (with_reducible assumption) | (with_reducible apply supplyFault_keeps)

theorem execSupplyOvervoltage_keeps {s0 : State} (p : PointI) (s : State) (hk : Keeps s0 s) : KeepsO s0 (execSupplyOvervoltage p s) := by
  unfold execSupplyOvervoltage; repeat' first | (with_reducible refine keepsO_next ?_) | (with_reducible assumption) | (with_reducible apply supplyFault_keeps)

theorem execPllLockLoss_keeps {s0 : State} (s : State) (hk : Keeps s0 s) : KeepsO s0 (execPllLockLoss s) := by
  unfold execPllLockLoss; repeat' first | (with_reducible refine keepsO_next ?_) | (with_reducible assumption) | (fail_if_no_progress with_reducible refine keeps_upd ?_ rfl rfl rfl rfl rfl rfl) | (with_reducible apply withhold_keeps)

theorem execHoldoverEnd_keeps {s0 : State} (s : State) (hk : Keeps s0 s) : KeepsO s0 (execHoldoverEnd s) := by
  unfold execHoldoverEnd; repeat' first | (with_reducible refine keepsO_next ?_) | (with_reducible assumption) | (fail_if_no_progress with_reducible refine keeps_upd ?_ rfl rfl rfl rfl rfl rfl) | split

theorem execClkHalfWrite_keeps {s0 : State} (east : Bool) (v : W32) (s : State) (hk : Keeps s0 s) : KeepsO s0 (execClkHalfWrite east v s) := by
  unfold execClkHalfWrite; repeat' first | (with_reducible refine keepsO_next ?_) | (with_reducible assumption) | (with_reducible apply halfWrite_keeps)

theorem execClkSeamGateWrite_keeps {s0 : State} (v : W32) (s : State) (hk : Keeps s0 s) : KeepsO s0 (execClkSeamGateWrite v s) := by
  unfold execClkSeamGateWrite; repeat' first | (with_reducible refine keepsO_next ?_) | (with_reducible assumption) | (fail_if_no_progress with_reducible refine keeps_upd ?_ rfl rfl rfl rfl rfl rfl)

theorem execFabPcfgWrite_keeps {s0 : State} (p : PortI) (v : W32) (s : State) (hk : Keeps s0 s) : KeepsO s0 (execFabPcfgWrite p v s) := by
  unfold execFabPcfgWrite; repeat' first | (with_reducible refine keepsO_next ?_) | (with_reducible assumption) | (with_reducible apply pcfgWrite_keeps)

theorem execFabRtctlFlip_keeps {s0 : State} (v : W32) (s : State) (hk : Keeps s0 s) : KeepsO s0 (execFabRtctlFlip v s) := by
  unfold execFabRtctlFlip; repeat' first | (with_reducible refine keepsO_next ?_) | (with_reducible assumption) | (with_reducible apply fabBankFlip_keeps) | split

theorem execLinkTrainingDone_keeps {s0 : State} (k : LinkI) (lanesOk : Bool) (rev polinv : Byte) (s : State) (hk : Keeps s0 s) : KeepsO s0 (execLinkTrainingDone k lanesOk rev polinv s) := by
  unfold execLinkTrainingDone; repeat' first | (with_reducible refine keepsO_next ?_) | (with_reducible assumption) | (with_reducible apply doTrainingDone_keeps)

theorem execLinkAlignDone_keeps {s0 : State} (k : LinkI) (s : State) (hk : Keeps s0 s) : KeepsO s0 (execLinkAlignDone k s) := by
  unfold execLinkAlignDone; repeat' first | (with_reducible refine keepsO_next ?_) | (with_reducible assumption) | (with_reducible apply updLink_keeps) | split

theorem execLinitReceive_keeps {s0 : State} (k : LinkI) (m : Linit) (s : State) (hk : Keeps s0 s) : KeepsO s0 (execLinitReceive k m s) := by
  unfold execLinitReceive; repeat' first | (with_reducible refine keepsO_next ?_) | (with_reducible assumption) | (with_reducible apply doLinitReceive_keeps)

theorem execLinkStateLimitExpiry_keeps {s0 : State} (k : LinkI) (s : State) (hk : Keeps s0 s) : KeepsO s0 (execLinkStateLimitExpiry k s) := by
  unfold execLinkStateLimitExpiry; repeat' first | (with_reducible refine keepsO_next ?_) | (with_reducible assumption) | (with_reducible apply linkDown_keeps) | split

theorem execLinkDownRetrain_keeps {s0 : State} (k : LinkI) (s : State) (hk : Keeps s0 s) : KeepsO s0 (execLinkDownRetrain k s) := by
  unfold execLinkDownRetrain; repeat' first | (with_reducible refine keepsO_next ?_) | (with_reducible assumption) | (with_reducible apply updLink_keeps) | split

theorem execLinkSignalLoss_keeps {s0 : State} (k : LinkI) (s : State) (hk : Keeps s0 s) : KeepsO s0 (execLinkSignalLoss k s) := by
  unfold execLinkSignalLoss; repeat' first | (with_reducible refine keepsO_next ?_) | (with_reducible assumption) | (with_reducible apply linkDown_keeps) | split

theorem execLinkNoFlitTimeout_keeps {s0 : State} (k : LinkI) (s : State) (hk : Keeps s0 s) : KeepsO s0 (execLinkNoFlitTimeout k s) := by
  unfold execLinkNoFlitTimeout; repeat' first | (with_reducible refine keepsO_next ?_) | (with_reducible assumption) | (with_reducible apply linkDown_keeps) | split

theorem execLinkReferenceLoss_keeps {s0 : State} (east : Bool) (s : State) (hk : Keeps s0 s) : KeepsO s0 (execLinkReferenceLoss east s) := by
  unfold execLinkReferenceLoss; repeat' first | (with_reducible refine keepsO_next ?_) | (with_reducible assumption) | (with_reducible refine keeps_foldl _ (fun s _ _ => ?_) _ ?_) | (with_reducible apply linkDown_keeps)

theorem execReplayTimeout_keeps {s0 : State} (k : LinkI) (s : State) (hk : Keeps s0 s) : KeepsO s0 (execReplayTimeout k s) := by
  unfold execReplayTimeout; repeat' first | (with_reducible refine keepsO_next ?_) | (with_reducible assumption) | (with_reducible apply startReplay_keeps) | split

theorem execFlitReceive_keeps {s0 : State} (k : LinkI) (f : Flit) (c : FlitCheck) (s : State) (hk : Keeps s0 s) : KeepsO s0 (execFlitReceive k f c s) := by
  unfold execFlitReceive; repeat' first | (with_reducible refine keepsO_next ?_) | (with_reducible assumption) | (with_reducible apply doFlitReceive_keeps)

theorem execHelloReceive_keeps {s0 : State} (k : LinkI) (m : LinkMsg) (s : State) (hk : Keeps s0 s) : KeepsO s0 (execHelloReceive k m s) := by
  unfold execHelloReceive; repeat' first | (with_reducible refine keepsO_next ?_) | (with_reducible assumption) | (with_reducible apply doHello_keeps)

theorem execAttestReceive_keeps {s0 : State} (k : LinkI) (r : Report) (s : State) (hk : Keeps s0 s) : KeepsO s0 (execAttestReceive k r s) := by
  unfold execAttestReceive; repeat' first | (with_reducible refine keepsO_next ?_) | (with_reducible assumption) | (with_reducible apply doAttest_keeps)

theorem execVerdictReceive_keeps {s0 : State} (k : LinkI) (accept : Bool) (s : State) (hk : Keeps s0 s) : KeepsO s0 (execVerdictReceive k accept s) := by
  unfold execVerdictReceive; repeat' first | (with_reducible refine keepsO_next ?_) | (with_reducible assumption) | (with_reducible apply doVerdict_keeps)

theorem execLinkStateReceive_keeps {s0 : State} (k : LinkI) (withheld : Bool) (s : State) (hk : Keeps s0 s) : KeepsO s0 (execLinkStateReceive k withheld s) := by
  unfold execLinkStateReceive; repeat' first | (with_reducible refine keepsO_next ?_) | (with_reducible assumption) | (with_reducible apply doLinkState_keeps)

theorem execKeyxReceive_keeps {s0 : State} (k : LinkI) (cipher : Bool) (ok : Bool) (s : State) (hk : Keeps s0 s) : KeepsO s0 (execKeyxReceive k cipher ok s) := by
  unfold execKeyxReceive; repeat' first | (with_reducible refine keepsO_next ?_) | (with_reducible assumption) | (with_reducible apply doKeyx_keeps)

theorem execDiscoverAttemptTimeout_keeps {s0 : State} (k : LinkI) (nonce : BitVec 256) (s : State) (hk : Keeps s0 s) : KeepsO s0 (execDiscoverAttemptTimeout k nonce s) := by
  unfold execDiscoverAttemptTimeout; repeat' first | (with_reducible refine keepsO_next ?_) | (with_reducible assumption) | (with_reducible apply attemptFail_keeps) | split

theorem execQuarantineHelloRepeat_keeps {s0 : State} (k : LinkI) (nonce : BitVec 256) (s : State) (hk : Keeps s0 s) : KeepsO s0 (execQuarantineHelloRepeat k nonce s) := by
  unfold execQuarantineHelloRepeat; repeat' first | (with_reducible refine keepsO_next ?_) | (with_reducible assumption) | (with_reducible apply linkPut_keeps) | (with_reducible apply updLink_keeps) | split

theorem execKeyPhaseAdvance_keeps {s0 : State} (k : LinkI) (s : State) (hk : Keeps s0 s) : KeepsO s0 (execKeyPhaseAdvance k s) := by
  unfold execKeyPhaseAdvance; repeat' first | (with_reducible refine keepsO_next ?_) | (with_reducible assumption) | (with_reducible apply fabStat_keeps) | (with_reducible apply updLink_keeps) | split

theorem execKeyReexchange_keeps {s0 : State} (k : LinkI) (s : State) (hk : Keeps s0 s) : KeepsO s0 (execKeyReexchange k s) := by
  unfold execKeyReexchange; repeat' first | (with_reducible refine keepsO_next ?_) | (with_reducible assumption) | (with_reducible apply linkPut_keeps) | (with_reducible apply updLink_keeps) | split

theorem execMessageRelay_keeps {s0 : State} (k : LinkI) (m : Msg) (s : State) (hk : Keeps s0 s) : KeepsO s0 (execMessageRelay k m s) := by
  unfold execMessageRelay; repeat' first | (with_reducible refine keepsO_next ?_) | (with_reducible assumption) | (with_reducible apply doRelay_keeps)

theorem execEgressNoRouteTimeout_keeps {s0 : State} (dst : Pkg) (s : State) (hk : Keeps s0 s) : KeepsO s0 (execEgressNoRouteTimeout dst s) := by
  unfold execEgressNoRouteTimeout; repeat' first | (with_reducible refine keepsO_next ?_) | (with_reducible assumption) | (with_reducible apply doNoRoute_keeps)

theorem execStartUpConfigure_keeps {s0 : State} (s : State) (hk : Keeps s0 s) : KeepsO s0 (execStartUpConfigure s) := by
  unfold execStartUpConfigure; repeat' first | (with_reducible refine keepsO_next ?_) | (with_reducible assumption) | (with_reducible apply startUpConfigure_keeps)

theorem execMbxAttach_keeps {s0 : State} (e : Option RingEntry) (s : State) (hk : Keeps s0 s) : KeepsO s0 (execMbxAttach e s) := by
  unfold execMbxAttach; repeat' first | (with_reducible refine keepsO_next ?_) | (with_reducible assumption) | (with_reducible apply doAttach_keeps)

theorem execMbxReattach_keeps {s0 : State} (e : Option RingEntry) (s : State) (hk : Keeps s0 s) : KeepsO s0 (execMbxReattach e s) := by
  unfold execMbxReattach; repeat' first | (with_reducible refine keepsO_next ?_) | (with_reducible assumption) | (with_reducible apply doReattach_keeps)

theorem execReattachDiscardTimeout_keeps {s0 : State} (r : RingI) (s : State) (hk : Keeps s0 s) : KeepsO s0 (execReattachDiscardTimeout r s) := by
  unfold execReattachDiscardTimeout; repeat' first | (with_reducible refine keepsO_next ?_) | (with_reducible assumption) | (with_reducible apply doReattachDiscard_keeps)

theorem execMbxSqDoorbell_keeps {s0 : State} (r : RingI) (v : W32) (s : State) (hk : Keeps s0 s) : KeepsO s0 (execMbxSqDoorbell r v s) := by
  unfold execMbxSqDoorbell; repeat' first | (with_reducible refine keepsO_next ?_) | (with_reducible assumption) | (with_reducible apply sqDoorbell_keeps)

theorem execMbxCqDoorbell_keeps {s0 : State} (r : RingI) (v : W32) (s : State) (hk : Keeps s0 s) : KeepsO s0 (execMbxCqDoorbell r v s) := by
  unfold execMbxCqDoorbell; repeat' first | (with_reducible refine keepsO_next ?_) | (with_reducible assumption) | (with_reducible apply cqDoorbell_keeps)

theorem execDescriptorFetch_keeps {s0 : State} (r : RingI) (res : FetchRes) (s : State) (hk : Keeps s0 s) : KeepsO s0 (execDescriptorFetch r res s) := by
  unfold execDescriptorFetch; repeat' first | (with_reducible refine keepsO_next ?_) | (with_reducible assumption) | (with_reducible apply doFetch_keeps)

theorem execNotificationFlush_keeps {s0 : State} (r : RingI) (s : State) (hk : Keeps s0 s) : KeepsO s0 (execNotificationFlush r s) := by
  unfold execNotificationFlush; repeat' first | (with_reducible refine keepsO_next ?_) | (with_reducible assumption) | (with_reducible apply doNoteFlush_keeps)

theorem execCoreWatchdogExpiry_keeps {s0 : State} (core : Fin 4) (s : State) (hk : Keeps s0 s) : KeepsO s0 (execCoreWatchdogExpiry core s) := by
  unfold execCoreWatchdogExpiry; repeat' first | (with_reducible refine keepsO_next ?_) | (with_reducible assumption) | (with_reducible apply doWatchdog_keeps)

theorem execPrivateSramUncorrectable_keeps {s0 : State} (keeper : Bool) (s : State) (hk : Keeps s0 s) : KeepsO s0 (execPrivateSramUncorrectable keeper s) := by
  unfold execPrivateSramUncorrectable; repeat' first | (with_reducible refine keepsO_next ?_) | (with_reducible assumption) | (with_reducible apply violate_keeps) | (with_reducible apply withhold_keeps) | split

theorem execSysHello_keeps {s0 : State} (d : Desc) (vmin vmax : W16) (s : State) (hk : Keeps s0 s) : KeepsO s0 (execSysHello d vmin vmax s) := by
  unfold execSysHello; repeat' first | (with_reducible refine keepsO_next ?_) | (with_reducible assumption) | (with_reducible apply doHelloCmd_keeps)

theorem execSysInfo_keeps {s0 : State} (d : Desc) (s : State) (hk : Keeps s0 s) : KeepsO s0 (execSysInfo d s) := by
  unfold execSysInfo; repeat' first | (with_reducible refine keepsO_next ?_) | (with_reducible assumption) | (with_reducible refine runCmd_keeps _ _ _ _ _ _ (fun s _ => ?_) ?_) | (with_reducible apply finishFree_keeps)

theorem execSysTime_keeps {s0 : State} (d : Desc) (s : State) (hk : Keeps s0 s) : KeepsO s0 (execSysTime d s) := by
  unfold execSysTime; repeat' first | (with_reducible refine keepsO_next ?_) | (with_reducible assumption) | (with_reducible refine runCmd_keeps _ _ _ _ _ _ (fun s _ => ?_) ?_) | (with_reducible apply complete_keeps)

theorem execSysRing_keeps {s0 : State} (d : Desc) (ring : Nat) (action : Nat) (e : Option RingEntry) (s : State) (hk : Keeps s0 s) : KeepsO s0 (execSysRing d ring action e s) := by
  unfold execSysRing; repeat' first | (with_reducible refine keepsO_next ?_) | (with_reducible assumption) | (with_reducible apply doSysRing_keeps)

theorem execSysPower_keeps {s0 : State} (d : Desc) (limit : W16) (arr vec xbr stk ser ctl : W16) (s : State) (hk : Keeps s0 s) : KeepsO s0 (execSysPower d limit arr vec xbr stk ser ctl s) := by
  unfold execSysPower; repeat' first | (with_reducible refine keepsO_next ?_) | (with_reducible assumption) | (with_reducible apply doSysPower_keeps)

theorem execBudgetWindow_keeps {s0 : State} (meas : Nat) (s : State) (hk : Keeps s0 s) : KeepsO s0 (execBudgetWindow meas s) := by
  unfold execBudgetWindow; repeat' first | (with_reducible refine keepsO_next ?_) | (with_reducible assumption) | (with_reducible apply windowEnd_keeps)

theorem execSysClock_keeps {s0 : State} (d : Desc) (east : Bool) (adiv ndiv : BitVec 2) (s : State) (hk : Keeps s0 s) : KeepsO s0 (execSysClock d east adiv ndiv s) := by
  unfold execSysClock; repeat' first | (with_reducible refine keepsO_next ?_) | (with_reducible assumption) | (with_reducible apply doSysClock_keeps)

theorem execClockDividerApply_keeps {s0 : State} (s : State) (hk : Keeps s0 s) : KeepsO s0 (execClockDividerApply s) := by
  unfold execClockDividerApply; repeat' first | (with_reducible refine keepsO_next ?_) | (with_reducible assumption) | (with_reducible apply doDividerApply_keeps)

theorem execSysReset_keeps {s0 : State} (d : Desc) (s : State) (hk : Keeps s0 s) : KeepsO s0 (execSysReset d s) := by
  unfold execSysReset; repeat' first | (with_reducible refine keepsO_next ?_) | (with_reducible assumption) | (with_reducible apply doSysReset_keeps)

theorem execChainPartialArrival_keeps {s0 : State} (l : Lan) (p : ChainPartial) (good : Bool) (s : State) (hk : Keeps s0 s) : KeepsO s0 (execChainPartialArrival l p good s) := by
  unfold execChainPartialArrival; repeat' first | (with_reducible refine keepsO_next ?_) | (with_reducible assumption) | (with_reducible apply takePartial_keeps)

theorem execReqSubmit_keeps {s0 : State} (d : Desc) (a : ReqArg) (s : State) (hk : Keeps s0 s) : KeepsO s0 (execReqSubmit d a s) := by
  unfold execReqSubmit; repeat' first | (with_reducible refine keepsO_next ?_) | (with_reducible assumption) | (with_reducible apply doReqSubmit_keeps)

theorem execRequestDispatch_keeps {s0 : State} (c : CtxI) (s : State) (hk : Keeps s0 s) : KeepsO s0 (execRequestDispatch c s) := by
  unfold execRequestDispatch; repeat' first | (with_reducible refine keepsO_next ?_) | (with_reducible assumption) | (with_reducible apply doDispatch_keeps)

theorem execFlitSend_keeps {s0 : State} (k : LinkI) (s : State) (hk : Keeps s0 s) : KeepsO s0 (execFlitSend k s) := by
  unfold execFlitSend; repeat' first | (with_reducible refine keepsO_next ?_) | (with_reducible assumption) | (with_reducible apply flitSent_keeps)

theorem execTokenRelease_keeps {s0 : State} (c : CtxI) (inst : W32) (s : State) (hk : Keeps s0 s) : KeepsO s0 (execTokenRelease c inst s) := by
  unfold execTokenRelease; repeat' first | (with_reducible refine keepsO_next ?_) | (with_reducible assumption) | (with_reducible apply doTokenRelease_keeps)

theorem execReqCancel_keeps {s0 : State} (d : Desc) (reqtag : W32) (s : State) (hk : Keeps s0 s) : KeepsO s0 (execReqCancel d reqtag s) := by
  unfold execReqCancel; repeat' first | (with_reducible refine keepsO_next ?_) | (with_reducible assumption) | (with_reducible apply doReqCancel_keeps)

theorem execReleaseDeadline_keeps {s0 : State} (c : CtxI) (num : W16) (s : State) (hk : Keeps s0 s) : KeepsO s0 (execReleaseDeadline c num s) := by
  unfold execReleaseDeadline; repeat' first | (with_reducible refine keepsO_next ?_) | (with_reducible assumption) | (with_reducible apply doReleaseDeadline_keeps)

theorem execAdmissionDeadline_keeps {s0 : State} (c : CtxI) (num : W16) (s : State) (hk : Keeps s0 s) : KeepsO s0 (execAdmissionDeadline c num s) := by
  unfold execAdmissionDeadline; repeat' first | (with_reducible refine keepsO_next ?_) | (with_reducible assumption) | (with_reducible apply doAdmissionDeadline_keeps)

theorem execReleaseRecordWaitExpiry_keeps {s0 : State} (c : CtxI) (inst : W32) (s : State) (hk : Keeps s0 s) : KeepsO s0 (execReleaseRecordWaitExpiry c inst s) := by
  unfold execReleaseRecordWaitExpiry; repeat' first | (with_reducible refine keepsO_next ?_) | (with_reducible assumption) | (with_reducible apply doRelWaitExpiry_keeps)

theorem execReqResume_keeps {s0 : State} (d : Desc) (reqtag deadline maxtok : W32) (tokens : List W32) (s : State) (hk : Keeps s0 s) : KeepsO s0 (execReqResume d reqtag deadline maxtok tokens s) := by
  unfold execReqResume; repeat' first | (with_reducible refine keepsO_next ?_) | (with_reducible assumption) | (with_reducible apply doReqResume_keeps)

theorem execReqLedger_keeps {s0 : State} (d : Desc) (reqtag : W32) (s : State) (hk : Keeps s0 s) : KeepsO s0 (execReqLedger d reqtag s) := by
  unfold execReqLedger; repeat' first | (with_reducible refine keepsO_next ?_) | (with_reducible assumption) | (with_reducible apply doReqLedger_keeps)

theorem execReqLog_keeps {s0 : State} (d : Desc) (reqtag : W32) (s : State) (hk : Keeps s0 s) : KeepsO s0 (execReqLog d reqtag s) := by
  unfold execReqLog; repeat' first | (with_reducible refine keepsO_next ?_) | (with_reducible assumption) | (with_reducible apply doReqLog_keeps)

theorem execReqReplay_keeps {s0 : State} (d : Desc) (reqtag : W32) (_form : Byte) (differ : Option Nat) (s : State) (hk : Keeps s0 s) : KeepsO s0 (execReqReplay d reqtag _form differ s) := by
  unfold execReqReplay; repeat' first | (with_reducible refine keepsO_next ?_) | (with_reducible assumption) | (with_reducible apply doReqReplay_keeps)

theorem execSettleSend_keeps {s0 : State} (c : CtxI) (inst : W32) (s : State) (hk : Keeps s0 s) : KeepsO s0 (execSettleSend c inst s) := by
  unfold execSettleSend; repeat' first | (with_reducible refine keepsO_next ?_) | (with_reducible assumption) | (with_reducible apply doSettleSend_keeps)

theorem execSysShutdown_keeps {s0 : State} (d : Desc) (s : State) (hk : Keeps s0 s) : KeepsO s0 (execSysShutdown d s) := by
  unfold execSysShutdown; repeat' first | (with_reducible refine keepsO_next ?_) | (with_reducible assumption) | (with_reducible apply doSysShutdown_keeps)

theorem execCtxCreate_keeps {s0 : State} (d : Desc) (a : CtxArg) (keydig : Digest) (s : State) (hk : Keeps s0 s) : KeepsO s0 (execCtxCreate d a keydig s) := by
  unfold execCtxCreate; repeat' first | (with_reducible refine keepsO_next ?_) | (with_reducible assumption) | (with_reducible apply doCtxCreate_keeps)

theorem execCtxDestroy_keeps {s0 : State} (d : Desc) (ctxid : W16) (s : State) (hk : Keeps s0 s) : KeepsO s0 (execCtxDestroy d ctxid s) := by
  unfold execCtxDestroy; repeat' first | (with_reducible refine keepsO_next ?_) | (with_reducible assumption) | (with_reducible apply doCtxDestroy_keeps)

theorem execCtxPipeline_keeps {s0 : State} (d : Desc) (ctxid : W16) (path : List Pkg) (s : State) (hk : Keeps s0 s) : KeepsO s0 (execCtxPipeline d ctxid path s) := by
  unfold execCtxPipeline; repeat' first | (with_reducible refine keepsO_next ?_) | (with_reducible assumption) | (with_reducible apply doCtxPipeline_keeps)

theorem execCtxWeight_keeps {s0 : State} (d : Desc) (ctxid : W16) (weight : W16) (s : State) (hk : Keeps s0 s) : KeepsO s0 (execCtxWeight d ctxid weight s) := by
  unfold execCtxWeight; repeat' first | (with_reducible refine keepsO_next ?_) | (with_reducible assumption) | (with_reducible apply doCtxWeight_keeps)

theorem execCtxPause_keeps {s0 : State} (d : Desc) (s : State) (hk : Keeps s0 s) : KeepsO s0 (execCtxPause d s) := by
  unfold execCtxPause; repeat' first | (with_reducible refine keepsO_next ?_) | (with_reducible assumption) | (with_reducible refine runCtx_keeps _ _ _ (fun _ _ s _ => ?_) ?_) | (with_reducible apply pushOp_keeps)

theorem execCtxResume_keeps {s0 : State} (d : Desc) (s : State) (hk : Keeps s0 s) : KeepsO s0 (execCtxResume d s) := by
  unfold execCtxResume; repeat' first | (with_reducible refine keepsO_next ?_) | (with_reducible assumption) | (with_reducible refine runCtx_keeps _ _ _ (fun _ _ s _ => ?_) ?_) | (with_reducible apply pushOp_keeps)

theorem execCtxKload_keeps {s0 : State} (d : Desc) (k : KImage) (s : State) (hk : Keeps s0 s) : KeepsO s0 (execCtxKload d k s) := by
  unfold execCtxKload; repeat' first | (with_reducible refine keepsO_next ?_) | (with_reducible assumption) | (with_reducible apply doKload_keeps)

theorem execCtxKunload_keeps {s0 : State} (d : Desc) (handle : Nat) (s : State) (hk : Keeps s0 s) : KeepsO s0 (execCtxKunload d handle s) := by
  unfold execCtxKunload; repeat' first | (with_reducible refine keepsO_next ?_) | (with_reducible assumption) | (with_reducible apply doKunload_keeps)

theorem execCtxKrun_keeps {s0 : State} (d : Desc) (handle entry : Nat) (lmask : List LLan) (s : State) (hk : Keeps s0 s) : KeepsO s0 (execCtxKrun d handle entry lmask s) := by
  unfold execCtxKrun; repeat' first | (with_reducible refine keepsO_next ?_) | (with_reducible assumption) | (with_reducible apply doKrun_keeps)

theorem execCtxAttest_keeps {s0 : State} (d : Desc) (nonce : BitVec 256) (s : State) (hk : Keeps s0 s) : KeepsO s0 (execCtxAttest d nonce s) := by
  unfold execCtxAttest; repeat' first | (with_reducible refine keepsO_next ?_) | (with_reducible assumption) | (with_reducible apply doCtxAttest_keeps)

theorem execCtxEmbers_keeps {s0 : State} (d : Desc) (s : State) (hk : Keeps s0 s) : KeepsO s0 (execCtxEmbers d s) := by
  unfold execCtxEmbers; repeat' first | (with_reducible refine keepsO_next ?_) | (with_reducible assumption) | (with_reducible apply doCtxEmbers_keeps)

theorem execFlicker_keeps {s0 : State} (draws : List Lan) (s : State) (hk : Keeps s0 s) : KeepsO s0 (execFlicker draws s) := by
  unfold execFlicker; repeat' first | (with_reducible refine keepsO_next ?_) | (with_reducible assumption) | (with_reducible apply kickOps_keeps) | (with_reducible apply kickAllStages_keeps) | (with_reducible apply doFlicker_keeps)

theorem execFlareComplete_keeps {s0 : State} (c : CtxI) (s : State) (hk : Keeps s0 s) : KeepsO s0 (execFlareComplete c s) := by
  unfold execFlareComplete; repeat' first | (with_reducible refine keepsO_next ?_) | (with_reducible assumption) | (with_reducible apply kickOps_keeps) | (with_reducible apply flareComplete_keeps)

theorem execActReceive_keeps {s0 : State} (k : LinkI) (m : Msg) (bad : Bool) (s : State) (hk : Keeps s0 s) : KeepsO s0 (execActReceive k m bad s) := by
  unfold execActReceive; repeat' first | (with_reducible refine keepsO_next ?_) | (with_reducible assumption) | (with_reducible apply doActReceive_keeps)

theorem execS40Receive_keeps {s0 : State} (k : LinkI) (m : Msg) (bad : Bool) (s : State) (hk : Keeps s0 s) : KeepsO s0 (execS40Receive k m bad s) := by
  unfold execS40Receive; repeat' first | (with_reducible refine keepsO_next ?_) | (with_reducible assumption) | (with_reducible apply doS40Receive_keeps)

theorem execReductionResendTimer_keeps {s0 : State} (c : CtxI) (inst tindex : W32) (layer : W16) (s : State) (hk : Keeps s0 s) : KeepsO s0 (execReductionResendTimer c inst tindex layer s) := by
  unfold execReductionResendTimer; repeat' first | (with_reducible refine keepsO_next ?_) | (with_reducible assumption) | (with_reducible apply doRedResend_keeps)

theorem execReductionRecordExpiry_keeps {s0 : State} (c : CtxI) (inst tindex : W32) (layer : W16) (s : State) (hk : Keeps s0 s) : KeepsO s0 (execReductionRecordExpiry c inst tindex layer s) := by
  unfold execReductionRecordExpiry; repeat' first | (with_reducible refine keepsO_next ?_) | (with_reducible assumption) | (with_reducible apply doRedExpiry_keeps)

theorem execNextReceive_keeps {s0 : State} (k : LinkI) (m : Msg) (s : State) (hk : Keeps s0 s) : KeepsO s0 (execNextReceive k m s) := by
  unfold execNextReceive; repeat' first | (with_reducible refine keepsO_next ?_) | (with_reducible assumption) | (with_reducible apply doNextReceive_keeps)

theorem execWithheldReceive_keeps {s0 : State} (k : LinkI) (m : Msg) (s : State) (hk : Keeps s0 s) : KeepsO s0 (execWithheldReceive k m s) := by
  unfold execWithheldReceive; repeat' first | (with_reducible refine keepsO_next ?_) | (with_reducible assumption) | (with_reducible apply doWithheldReceive_keeps)

theorem execCommitReceive_keeps {s0 : State} (k : LinkI) (m : Msg) (s : State) (hk : Keeps s0 s) : KeepsO s0 (execCommitReceive k m s) := by
  unfold execCommitReceive; repeat' first | (with_reducible refine keepsO_next ?_) | (with_reducible assumption) | (with_reducible apply doCommitReceive_keeps)

theorem execDiscardReceive_keeps {s0 : State} (k : LinkI) (m : Msg) (s : State) (hk : Keeps s0 s) : KeepsO s0 (execDiscardReceive k m s) := by
  unfold execDiscardReceive; repeat' first | (with_reducible refine keepsO_next ?_) | (with_reducible assumption) | (with_reducible apply doDiscardReceive_keeps)

theorem execSuspectReceive_keeps {s0 : State} (k : LinkI) (m : Msg) (s : State) (hk : Keeps s0 s) : KeepsO s0 (execSuspectReceive k m s) := by
  unfold execSuspectReceive; repeat' first | (with_reducible refine keepsO_next ?_) | (with_reducible assumption) | (with_reducible refine receiveNotice_keeps _ _ _ _ (fun _ _ s _ => ?_) ?_) | (with_reducible apply suspectAtFinal_keeps)

theorem execSettleReceive_keeps {s0 : State} (k : LinkI) (m : Msg) (s : State) (hk : Keeps s0 s) : KeepsO s0 (execSettleReceive k m s) := by
  unfold execSettleReceive; repeat' first | (with_reducible refine keepsO_next ?_) | (with_reducible assumption) | (with_reducible refine receiveNotice_keeps _ _ _ _ (fun _ _ s _ => ?_) ?_) | (with_reducible apply settleCount_keeps)

theorem execResendReceive_keeps {s0 : State} (k : LinkI) (m : Msg) (s : State) (hk : Keeps s0 s) : KeepsO s0 (execResendReceive k m s) := by
  unfold execResendReceive; repeat' first | (with_reducible refine keepsO_next ?_) | (with_reducible assumption) | (with_reducible apply doResendReceive_keeps)

theorem execEpochMissReceive_keeps {s0 : State} (k : LinkI) (m : Msg) (s : State) (hk : Keeps s0 s) : KeepsO s0 (execEpochMissReceive k m s) := by
  unfold execEpochMissReceive; repeat' first | (with_reducible refine keepsO_next ?_) | (with_reducible assumption) | (with_reducible apply doEpochMiss_keeps)

theorem execRetiredInstanceExpiry_keeps {s0 : State} (ctx : W16) (inst : W32) (s : State) (hk : Keeps s0 s) : KeepsO s0 (execRetiredInstanceExpiry ctx inst s) := by
  unfold execRetiredInstanceExpiry; repeat' first | (with_reducible refine keepsO_next ?_) | (with_reducible assumption) | (with_reducible apply doRetiredExpiry_keeps)

theorem execTaperReceive_keeps {s0 : State} (k : LinkI) (m : Msg) (dig : Digest) (s : State) (hk : Keeps s0 s) : KeepsO s0 (execTaperReceive k m dig s) := by
  unfold execTaperReceive; repeat' first | (with_reducible refine keepsO_next ?_) | (with_reducible assumption) | (with_reducible apply doTaperReceive_keeps)

theorem execTaperReqReceive_keeps {s0 : State} (k : LinkI) (m : Msg) (s : State) (hk : Keeps s0 s) : KeepsO s0 (execTaperReqReceive k m s) := by
  unfold execTaperReqReceive; repeat' first | (with_reducible refine keepsO_next ?_) | (with_reducible assumption) | (with_reducible apply doTaperReq_keeps)

theorem execCurfewSet_keeps {s0 : State} (k : LinkI) (m : Msg) (s : State) (hk : Keeps s0 s) : KeepsO s0 (execCurfewSet k m s) := by
  unfold execCurfewSet; repeat' first | (with_reducible refine keepsO_next ?_) | (with_reducible assumption) | (with_reducible apply doCurfewSet_keeps)

theorem execCurfewLift_keeps {s0 : State} (k : LinkI) (m : Msg) (closing : List (Lan × LWick × List (Nat × Int))) (s : State) (hk : Keeps s0 s) : KeepsO s0 (execCurfewLift k m closing s) := by
  unfold execCurfewLift; repeat' first | (with_reducible refine keepsO_next ?_) | (with_reducible assumption) | (with_reducible apply doCurfewLift_keeps)

theorem execCurfewQuery_keeps {s0 : State} (k : LinkI) (m : Msg) (s : State) (hk : Keeps s0 s) : KeepsO s0 (execCurfewQuery k m s) := by
  unfold execCurfewQuery; repeat' first | (with_reducible refine keepsO_next ?_) | (with_reducible assumption) | (with_reducible apply doCurfewQuery_keeps)

theorem execHoldRuleTimeout_keeps {s0 : State} (ctx : W16) (cfid : W32) (closing : List (Lan × LWick × List (Nat × Int))) (s : State) (hk : Keeps s0 s) : KeepsO s0 (execHoldRuleTimeout ctx cfid closing s) := by
  unfold execHoldRuleTimeout; repeat' first | (with_reducible refine keepsO_next ?_) | (with_reducible assumption) | (with_reducible apply doRuleTimeout_keeps)

theorem execWgtReplace_keeps {s0 : State} (d : Desc) (old new drain : W32) (s : State) (hk : Keeps s0 s) : KeepsO s0 (execWgtReplace d old new drain s) := by
  unfold execWgtReplace; repeat' first | (with_reducible refine keepsO_next ?_) | (with_reducible assumption) | (with_reducible apply doWgtReplace_keeps)

theorem execCurfewReport_keeps {s0 : State} (k : LinkI) (m : Msg) (s : State) (hk : Keeps s0 s) : KeepsO s0 (execCurfewReport k m s) := by
  unfold execCurfewReport; repeat' first | (with_reducible refine keepsO_next ?_) | (with_reducible assumption) | (with_reducible apply doCurfewReport_keeps)

theorem execWaveQueryTimer_keeps {s0 : State} (c : CtxI) (s : State) (hk : Keeps s0 s) : KeepsO s0 (execWaveQueryTimer c s) := by
  unfold execWaveQueryTimer; repeat' first | (with_reducible refine keepsO_next ?_) | (with_reducible assumption) | (with_reducible apply doWaveQuery_keeps)

theorem execCurfewResendTimer_keeps {s0 : State} (c : CtxI) (s : State) (hk : Keeps s0 s) : KeepsO s0 (execCurfewResendTimer c s) := by
  unfold execCurfewResendTimer; repeat' first | (with_reducible refine keepsO_next ?_) | (with_reducible assumption) | (with_reducible apply doCurfewResend_keeps)

theorem execWaveDrainExpiry_keeps {s0 : State} (c : CtxI) (s : State) (hk : Keeps s0 s) : KeepsO s0 (execWaveDrainExpiry c s) := by
  unfold execWaveDrainExpiry; repeat' first | (with_reducible refine keepsO_next ?_) | (with_reducible assumption) | (with_reducible apply doDrainExpiry_keeps)

theorem execShardOverdue_keeps {s0 : State} (c : CtxI) (epoch shard : W32) (s : State) (hk : Keeps s0 s) : KeepsO s0 (execShardOverdue c epoch shard s) := by
  unfold execShardOverdue; repeat' first | (with_reducible refine keepsO_next ?_) | (with_reducible assumption) | (with_reducible apply doShardOverdue_keeps)

theorem execTaperReqRepeat_keeps {s0 : State} (c : CtxI) (epoch shard : W32) (s : State) (hk : Keeps s0 s) : KeepsO s0 (execTaperReqRepeat c epoch shard s) := by
  unfold execTaperReqRepeat; repeat' first | (with_reducible refine keepsO_next ?_) | (with_reducible assumption) | (with_reducible apply doTaperRepeat_keeps)

theorem execShadowRehash_keeps {s0 : State} (c : CtxI) (epoch shard : W32) (ok : Bool) (s : State) (hk : Keeps s0 s) : KeepsO s0 (execShadowRehash c epoch shard ok s) := by
  unfold execShadowRehash; repeat' first | (with_reducible refine keepsO_next ?_) | (with_reducible assumption) | (with_reducible apply rehash_keeps)

theorem execBuddyRehash_keeps {s0 : State} (c : CtxI) (epoch shard : W32) (ok : Bool) (s : State) (hk : Keeps s0 s) : KeepsO s0 (execBuddyRehash c epoch shard ok s) := by
  unfold execBuddyRehash; repeat' first | (with_reducible refine keepsO_next ?_) | (with_reducible assumption) | (with_reducible apply rehash_keeps)

theorem execCounterLoRead_keeps {s0 : State} (c : Counter) (s : State) (hk : Keeps s0 s) : KeepsO s0 (execCounterLoRead c s) := by
  unfold execCounterLoRead; repeat' first | (with_reducible refine keepsO_next ?_) | (with_reducible assumption) | (with_reducible apply counterLatch_keeps)

theorem execGvlHerrRead_keeps {s0 : State} (s : State) (hk : Keeps s0 s) : KeepsO s0 (execGvlHerrRead s) := by
  unfold execGvlHerrRead; repeat' first | (with_reducible refine keepsO_next ?_) | (with_reducible assumption) | (with_reducible apply herrRead_keeps)

theorem execWgtSession_keeps {s0 : State} (d : Desc) (s : State) (hk : Keeps s0 s) : KeepsO s0 (execWgtSession d s) := by
  unfold execWgtSession; repeat' first | (with_reducible refine keepsO_next ?_) | (with_reducible assumption) | (with_reducible apply doWgtSession_keeps)

theorem execWgtKey_keeps {s0 : State} (d : Desc) (keyid : W32) (key : Option (BitVec 256)) (s : State) (hk : Keeps s0 s) : KeepsO s0 (execWgtKey d keyid key s) := by
  unfold execWgtKey; repeat' first | (with_reducible refine keepsO_next ?_) | (with_reducible assumption) | (with_reducible apply doWgtKey_keeps)

theorem execWgtLand_keeps {s0 : State} (d : Desc) (off len : W64) (s : State) (hk : Keeps s0 s) : KeepsO s0 (execWgtLand d off len s) := by
  unfold execWgtLand; repeat' first | (with_reducible refine keepsO_next ?_) | (with_reducible assumption) | (with_reducible apply doWgtLand_keeps)

theorem execWgtLoad_keeps {s0 : State} (d : Desc) (epoch : W32) (ents : List ShardEntry) (s : State) (hk : Keeps s0 s) : KeepsO s0 (execWgtLoad d epoch ents s) := by
  unfold execWgtLoad; repeat' first | (with_reducible refine keepsO_next ?_) | (with_reducible assumption) | (with_reducible apply doWgtLoad_keeps)

theorem execWgtAdopt_keeps {s0 : State} (d : Desc) (epoch : W32) (strict : Bool) (toks : List Token) (s : State) (hk : Keeps s0 s) : KeepsO s0 (execWgtAdopt d epoch strict toks s) := by
  unfold execWgtAdopt; repeat' first | (with_reducible refine keepsO_next ?_) | (with_reducible assumption) | (with_reducible apply doWgtAdopt_keeps)

theorem execWgtDrop_keeps {s0 : State} (d : Desc) (epoch : W32) (s : State) (hk : Keeps s0 s) : KeepsO s0 (execWgtDrop d epoch s) := by
  unfold execWgtDrop; repeat' first | (with_reducible refine keepsO_next ?_) | (with_reducible assumption) | (with_reducible apply doWgtDrop_keeps)

theorem execWgtStatus_keeps {s0 : State} (d : Desc) (s : State) (hk : Keeps s0 s) : KeepsO s0 (execWgtStatus d s) := by
  unfold execWgtStatus; repeat' first | (with_reducible refine keepsO_next ?_) | (with_reducible assumption) | (with_reducible refine runCtx_keeps _ _ _ (fun _ _ s _ => ?_) ?_) | (with_reducible apply finishFree_keeps)

theorem execWickWriteDone_keeps {s0 : State} (l : Lan) (w : PWick) (reads : List (Nat × Nat × List Int)) (s : State) (hk : Keeps s0 s) : KeepsO s0 (execWickWriteDone l w reads s) := by
  unfold execWickWriteDone; repeat' first | (with_reducible refine keepsO_next ?_) | (with_reducible assumption) | (with_reducible apply afterJobs_keeps) | (with_reducible apply writeDone_keeps)

theorem execWickRepairPassDone_keeps {s0 : State} (l : Lan) (w : PWick) (reads : List (Nat × Nat × List Int)) (s : State) (hk : Keeps s0 s) : KeepsO s0 (execWickRepairPassDone l w reads s) := by
  unfold execWickRepairPassDone; repeat' first | (with_reducible refine keepsO_next ?_) | (with_reducible assumption) | (with_reducible apply afterJobs_keeps) | (with_reducible apply repairDone_keeps)

theorem execReadbackDone_keeps {s0 : State} (l : Lan) (w : PWick) (s : State) (hk : Keeps s0 s) : KeepsO s0 (execReadbackDone l w s) := by
  unfold execReadbackDone; repeat' first | (with_reducible refine keepsO_next ?_) | (with_reducible assumption) | (with_reducible apply afterJobs_keeps) | (with_reducible apply readbackDone_keeps)

theorem execFullTrimWindowDone_keeps {s0 : State} (l : Lan) (s : State) (hk : Keeps s0 s) : KeepsO s0 (execFullTrimWindowDone l s) := by
  unfold execFullTrimWindowDone; repeat' first | (with_reducible refine keepsO_next ?_) | (with_reducible assumption) | (with_reducible apply afterJobs_keeps) | (with_reducible apply trimWindow_keeps)

theorem execDriveRefCalDone_keeps {s0 : State} (l : Lan) (s : State) (hk : Keeps s0 s) : KeepsO s0 (execDriveRefCalDone l s) := by
  unfold execDriveRefCalDone; repeat' first | (with_reducible refine keepsO_next ?_) | (with_reducible assumption) | (with_reducible apply afterJobs_keeps) | (with_reducible apply drDone_keeps)

theorem execAdpLoad_keeps {s0 : State} (d : Desc) (slot : W16) (gen : W32) (ents : List ShardEntry) (s : State) (hk : Keeps s0 s) : KeepsO s0 (execAdpLoad d slot gen ents s) := by
  unfold execAdpLoad; repeat' first | (with_reducible refine keepsO_next ?_) | (with_reducible assumption) | (with_reducible apply adpList_keeps)

theorem execAdpReplace_keeps {s0 : State} (d : Desc) (slot : W16) (gen : W32) (ents : List ShardEntry) (s : State) (hk : Keeps s0 s) : KeepsO s0 (execAdpReplace d slot gen ents s) := by
  unfold execAdpReplace; repeat' first | (with_reducible refine keepsO_next ?_) | (with_reducible assumption) | (with_reducible apply adpList_keeps)

theorem execAdpFree_keeps {s0 : State} (d : Desc) (slot : W16) (s : State) (hk : Keeps s0 s) : KeepsO s0 (execAdpFree d slot s) := by
  unfold execAdpFree; repeat' first | (with_reducible refine keepsO_next ?_) | (with_reducible assumption) | (with_reducible refine runCtx_keeps _ _ _ (fun _ _ s _ => ?_) ?_) | (with_reducible apply finish_keeps) | (with_reducible apply pushAdp_keeps) | split

theorem execAdpStatus_keeps {s0 : State} (d : Desc) (s : State) (hk : Keeps s0 s) : KeepsO s0 (execAdpStatus d s) := by
  unfold execAdpStatus; repeat' first | (with_reducible refine keepsO_next ?_) | (with_reducible assumption) | (with_reducible refine runCtx_keeps _ _ _ (fun _ _ s _ => ?_) ?_) | (with_reducible apply finishFree_keeps)

theorem execAttentionHoldExpiry_keeps {s0 : State} (c : CtxI) (inst : W32) (s : State) (hk : Keeps s0 s) : KeepsO s0 (execAttentionHoldExpiry c inst s) := by
  unfold execAttentionHoldExpiry; repeat' first | (with_reducible refine keepsO_next ?_) | (with_reducible assumption) | (with_reducible apply doHoldExpiry_keeps)

theorem execPrefixLeaseExpiry_keeps {s0 : State} (c : CtxI) (slot : Nat) (s : State) (hk : Keeps s0 s) : KeepsO s0 (execPrefixLeaseExpiry c slot s) := by
  unfold execPrefixLeaseExpiry; repeat' first | (with_reducible refine keepsO_next ?_) | (with_reducible assumption) | (with_reducible apply doLeaseExpiry_keeps)

theorem execShardSegmentsComplete_keeps {s0 : State} (c : CtxI) (epoch shard : W32) (b : ShardBody) (closing : List (Lan × LWick × List (Nat × Int))) (s : State) (hk : Keeps s0 s) : KeepsO s0 (execShardSegmentsComplete c epoch shard b closing s) := by
  unfold execShardSegmentsComplete; repeat' first | (with_reducible refine keepsO_next ?_) | (with_reducible assumption) | (with_reducible apply afterShards_keeps) | (with_reducible apply doSegmentsComplete_keeps)

theorem execStorageCheckPoll_keeps {s0 : State} (c : CtxI) (epoch shard : W32) (b : Option ShardBody) (closing : List (Lan × LWick × List (Nat × Int))) (s : State) (hk : Keeps s0 s) : KeepsO s0 (execStorageCheckPoll c epoch shard b closing s) := by
  unfold execStorageCheckPoll; repeat' first | (with_reducible refine keepsO_next ?_) | (with_reducible assumption) | (with_reducible apply afterShards_keeps) | (with_reducible apply doStoragePoll_keeps)

theorem execShardFailDeadline_keeps {s0 : State} (c : CtxI) (epoch shard : W32) (s : State) (hk : Keeps s0 s) : KeepsO s0 (execShardFailDeadline c epoch shard s) := by
  unfold execShardFailDeadline; repeat' first | (with_reducible refine keepsO_next ?_) | (with_reducible assumption) | (with_reducible apply afterShards_keeps) | (with_reducible apply doShardFail_keeps)

theorem execGvlCtlEn_keeps {s0 : State} (v : W32) (s : State) (hk : Keeps s0 s) : KeepsO s0 (execGvlCtlEn v s) := by
  unfold execGvlCtlEn; repeat' first | (with_reducible refine keepsO_next ?_) | (with_reducible assumption) | (with_reducible apply gvlCtlWrite_keeps)

theorem execGvlCtlPrst_keeps {s0 : State} (s : State) (hk : Keeps s0 s) : KeepsO s0 (execGvlCtlPrst s) := by
  unfold execGvlCtlPrst; repeat' first | (with_reducible refine keepsO_next ?_) | (with_reducible assumption) | (with_reducible apply gvlPrst_keeps)

theorem execGvlCtlRetrain_keeps {s0 : State} (s : State) (hk : Keeps s0 s) : KeepsO s0 (execGvlCtlRetrain s) := by
  unfold execGvlCtlRetrain; repeat' first | (with_reducible refine keepsO_next ?_) | (with_reducible assumption) | (with_reducible apply gvlRetrain_keeps)

theorem execGvlCacheFlush_keeps {s0 : State} (s : State) (hk : Keeps s0 s) : KeepsO s0 (execGvlCacheFlush s) := by
  unfold execGvlCacheFlush; repeat' first | (with_reducible refine keepsO_next ?_) | (with_reducible assumption) | (with_reducible apply updGvl_keeps)

theorem execGvlReceiverDetect_keeps {s0 : State} (s : State) (hk : Keeps s0 s) : KeepsO s0 (execGvlReceiverDetect s) := by
  unfold execGvlReceiverDetect; repeat' first | (with_reducible refine keepsO_next ?_) | (with_reducible assumption) | (with_reducible apply updGvl_keeps) | split

theorem execGvlTrainDone_keeps {s0 : State} (goodLanes : W16) (s : State) (hk : Keeps s0 s) : KeepsO s0 (execGvlTrainDone goodLanes s) := by
  unfold execGvlTrainDone; repeat' first | (with_reducible refine keepsO_next ?_) | (with_reducible assumption) | (with_reducible apply trainDone_keeps)

theorem execGvlLockDone_keeps {s0 : State} (polinv : W16) (rev : Bool) (s : State) (hk : Keeps s0 s) : KeepsO s0 (execGvlLockDone polinv rev s) := by
  unfold execGvlLockDone; repeat' first | (with_reducible refine keepsO_next ?_) | (with_reducible assumption) | (with_reducible apply updGvl_keeps) | split

theorem execGvlInitReceive_keeps {s0 : State} (version : Byte) (width : Nat) (credits : List Nat) (rtt : Nat) (s : State) (hk : Keeps s0 s) : KeepsO s0 (execGvlInitReceive version width credits rtt s) := by
  unfold execGvlInitReceive; repeat' first | (with_reducible refine keepsO_next ?_) | (with_reducible assumption) | (with_reducible apply initReceive_keeps)

theorem execGvlStateLimitExpiry_keeps {s0 : State} (s : State) (hk : Keeps s0 s) : KeepsO s0 (execGvlStateLimitExpiry s) := by
  unfold execGvlStateLimitExpiry; repeat' first | (with_reducible refine keepsO_next ?_) | (with_reducible assumption) | (with_reducible apply stateLimit_keeps)

theorem execGvlDownRetry_keeps {s0 : State} (s : State) (hk : Keeps s0 s) : KeepsO s0 (execGvlDownRetry s) := by
  unfold execGvlDownRetry; repeat' first | (with_reducible refine keepsO_next ?_) | (with_reducible assumption) | (with_reducible apply updGvl_keeps) | split

theorem execGvlRecoveryTrigger_keeps {s0 : State} (c : RecovCause) (s : State) (hk : Keeps s0 s) : KeepsO s0 (execGvlRecoveryTrigger c s) := by
  unfold execGvlRecoveryTrigger; repeat' first | (with_reducible refine keepsO_next ?_) | (with_reducible assumption) | (with_reducible apply recoveryTrigger_keeps)

theorem execGvlRecoveryDone_keeps {s0 : State} (goodLanes : W16) (s : State) (hk : Keeps s0 s) : KeepsO s0 (execGvlRecoveryDone goodLanes s) := by
  unfold execGvlRecoveryDone; repeat' first | (with_reducible refine keepsO_next ?_) | (with_reducible assumption) | (with_reducible apply recoveryDone_keeps)

theorem execGvlRefclkLoss_keeps {s0 : State} (s : State) (hk : Keeps s0 s) : KeepsO s0 (execGvlRefclkLoss s) := by
  unfold execGvlRefclkLoss; repeat' first | (with_reducible refine keepsO_next ?_) | (with_reducible assumption) | (with_reducible apply gvlDown_keeps) | split

theorem execGvlNoFlitTimeout_keeps {s0 : State} (s : State) (hk : Keeps s0 s) : KeepsO s0 (execGvlNoFlitTimeout s) := by
  unfold execGvlNoFlitTimeout; repeat' first | (with_reducible refine keepsO_next ?_) | (with_reducible assumption) | (with_reducible apply gvlDown_keeps) | split

theorem execGvlFlitReceive_keeps {s0 : State} (f : GFlit) (c : FlitCheck) (corr : Nat) (s : State) (hk : Keeps s0 s) : KeepsO s0 (execGvlFlitReceive f c corr s) := by
  unfold execGvlFlitReceive; repeat' first | (with_reducible refine keepsO_next ?_) | (with_reducible assumption) | (with_reducible apply flitReceive_keeps)

theorem execGvlReplayTimeout_keeps {s0 : State} (s : State) (hk : Keeps s0 s) : KeepsO s0 (execGvlReplayTimeout s) := by
  unfold execGvlReplayTimeout; repeat' first | (with_reducible refine keepsO_next ?_) | (with_reducible assumption) | (with_reducible apply replayAll_keeps) | split

theorem execGvlFlitSend_keeps {s0 : State} (s : State) (hk : Keeps s0 s) : KeepsO s0 (execGvlFlitSend s) := by
  unfold execGvlFlitSend; repeat' first | (with_reducible refine keepsO_next ?_) | (with_reducible assumption) | (with_reducible apply flitSend_keeps)

theorem execHrd_keeps {s0 : State} (m : GMsg) (s : State) (hk : Keeps s0 s) : KeepsO s0 (execHrd m s) := by
  unfold execHrd; repeat' first | (with_reducible refine keepsO_next ?_) | (with_reducible assumption) | (with_reducible apply hostRead_keeps)

theorem execHrds_keeps {s0 : State} (m : GMsg) (s : State) (hk : Keeps s0 s) : KeepsO s0 (execHrds m s) := by
  unfold execHrds; repeat' first | (with_reducible refine keepsO_next ?_) | (with_reducible assumption) | (with_reducible apply hostRead_keeps)

theorem execHrdx_keeps {s0 : State} (m : GMsg) (s : State) (hk : Keeps s0 s) : KeepsO s0 (execHrdx m s) := by
  unfold execHrdx; repeat' first | (with_reducible refine keepsO_next ?_) | (with_reducible assumption) | (with_reducible apply hostRead_keeps)

theorem execHrdr_keeps {s0 : State} (m : GMsg) (s : State) (hk : Keeps s0 s) : KeepsO s0 (execHrdr m s) := by
  unfold execHrdr; repeat' first | (with_reducible refine keepsO_next ?_) | (with_reducible assumption) | (with_reducible apply hostRegRead_keeps)

theorem execHwr_keeps {s0 : State} (m : GMsg) (s : State) (hk : Keeps s0 s) : KeepsO s0 (execHwr m s) := by
  unfold execHwr; repeat' first | (with_reducible refine keepsO_next ?_) | (with_reducible assumption) | (with_reducible apply serveWrite_keeps) | split

theorem execHwrr_keeps {s0 : State} (m : GMsg) (s : State) (hk : Keeps s0 s) : KeepsO s0 (execHwrr m s) := by
  unfold execHwrr; repeat' first | (with_reducible refine keepsO_next ?_) | (with_reducible assumption) | (with_reducible apply hostRegWrite_keeps)

theorem execHwb_keeps {s0 : State} (m : GMsg) (s : State) (hk : Keeps s0 s) : KeepsO s0 (execHwb m s) := by
  unfold execHwb; repeat' first | (with_reducible refine keepsO_next ?_) | (with_reducible assumption) | (with_reducible apply serveWrite_keeps) | split

theorem execHevx_keeps {s0 : State} (m : GMsg) (s : State) (hk : Keeps s0 s) : KeepsO s0 (execHevx m s) := by
  unfold execHevx; repeat' first | (with_reducible refine keepsO_next ?_) | (with_reducible assumption) | (with_reducible apply serveEvict_keeps) | split

theorem execHevs_keeps {s0 : State} (m : GMsg) (s : State) (hk : Keeps s0 s) : KeepsO s0 (execHevs m s) := by
  unfold execHevs; repeat' first | (with_reducible refine keepsO_next ?_) | (with_reducible assumption) | (with_reducible apply serveEvict_keeps) | split

theorem execSackReceive_keeps {s0 : State} (m : GMsg) (s : State) (hk : Keeps s0 s) : KeepsO s0 (execSackReceive m s) := by
  unfold execSackReceive; repeat' first | (with_reducible refine keepsO_next ?_) | (with_reducible assumption) | (with_reducible apply sackReceive_keeps)

theorem execSdataReceive_keeps {s0 : State} (m : GMsg) (s : State) (hk : Keeps s0 s) : KeepsO s0 (execSdataReceive m s) := by
  unfold execSdataReceive; repeat' first | (with_reducible refine keepsO_next ?_) | (with_reducible assumption) | (with_reducible apply sdataReceive_keeps)

theorem execSnoopTimeout_keeps {s0 : State} (block : Nat) (s : State) (hk : Keeps s0 s) : KeepsO s0 (execSnoopTimeout block s) := by
  unfold execSnoopTimeout; repeat' first | (with_reducible refine keepsO_next ?_) | (with_reducible assumption) | (with_reducible apply snoopTimeout_keeps)

theorem execHostReadTimeout_keeps {s0 : State} (tag : BitVec 12) (s : State) (hk : Keeps s0 s) : KeepsO s0 (execHostReadTimeout tag s) := by
  unfold execHostReadTimeout; repeat' first | (with_reducible refine keepsO_next ?_) | (with_reducible assumption) | (with_reducible apply hostReadTimeout_keeps)

theorem execDatalReceive_keeps {s0 : State} (m : GMsg) (s : State) (hk : Keeps s0 s) : KeepsO s0 (execDatalReceive m s) := by
  unfold execDatalReceive; repeat' first | (with_reducible refine keepsO_next ?_) | (with_reducible assumption) | (with_reducible apply datalReceive_keeps)

theorem execDeviceReadTimeout_keeps {s0 : State} (tag : BitVec 12) (s : State) (hk : Keeps s0 s) : KeepsO s0 (execDeviceReadTimeout tag s) := by
  unfold execDeviceReadTimeout; repeat' first | (with_reducible refine keepsO_next ?_) | (with_reducible assumption) | (with_reducible apply deviceReadTimeout_keeps)

theorem execSnpinvReceive_keeps {s0 : State} (m : GMsg) (s : State) (hk : Keeps s0 s) : KeepsO s0 (execSnpinvReceive m s) := by
  unfold execSnpinvReceive; repeat' first | (with_reducible refine keepsO_next ?_) | (with_reducible assumption) | (with_reducible apply snpinvReceive_keeps)

theorem execLstateReceive_keeps {s0 : State} (m : GMsg) (s : State) (hk : Keeps s0 s) : KeepsO s0 (execLstateReceive m s) := by
  unfold execLstateReceive; repeat' first | (with_reducible refine keepsO_next ?_) | (with_reducible assumption) | (with_reducible apply gvlDown_keeps) | split

theorem execSigIntervalExpiry_keeps {s0 : State} (vector : Nat) (s : State) (hk : Keeps s0 s) : KeepsO s0 (execSigIntervalExpiry vector s) := by
  unfold execSigIntervalExpiry; repeat' first | (with_reducible refine keepsO_next ?_) | (with_reducible assumption) | (with_reducible apply sigExpiry_keeps)

theorem execSecurityViolation_keeps {s0 : State} (v : Violation) (s : State) (hk : Keeps s0 s) : KeepsO s0 (execSecurityViolation v s) := by
  unfold execSecurityViolation; repeat' first | (with_reducible refine keepsO_next ?_) | (with_reducible assumption) | (with_reducible apply securityEvent_keeps)

theorem execTwinForm_keeps {s0 : State} (d : Desc) (a : TwinArg) (s : State) (hk : Keeps s0 s) : KeepsO s0 (execTwinForm d a s) := by
  unfold execTwinForm; repeat' first | (with_reducible refine keepsO_next ?_) | (with_reducible assumption) | (with_reducible apply doTwinForm_keeps)

theorem execTformReceive_keeps {s0 : State} (k : LinkI) (m : Msg) (s : State) (hk : Keeps s0 s) : KeepsO s0 (execTformReceive k m s) := by
  unfold execTformReceive; repeat' first | (with_reducible refine keepsO_next ?_) | (with_reducible assumption) | (with_reducible apply doTform_keeps)

theorem execTwinDissolve_keeps {s0 : State} (d : Desc) (s : State) (hk : Keeps s0 s) : KeepsO s0 (execTwinDissolve d s) := by
  unfold execTwinDissolve; repeat' first | (with_reducible refine keepsO_next ?_) | (with_reducible assumption) | (with_reducible apply doTwinDissolve_keeps)

theorem execTwinStatus_keeps {s0 : State} (d : Desc) (s : State) (hk : Keeps s0 s) : KeepsO s0 (execTwinStatus d s) := by
  unfold execTwinStatus; repeat' first | (with_reducible refine keepsO_next ?_) | (with_reducible assumption) | (with_reducible refine runCmd_keeps _ _ _ _ _ _ (fun s _ => ?_) ?_) | (with_reducible apply finishOut_keeps)

theorem execCommandTimeLimit_keeps {s0 : State} (r : RingI) (tag : W64) (s : State) (hk : Keeps s0 s) : KeepsO s0 (execCommandTimeLimit r tag s) := by
  unfold execCommandTimeLimit; repeat' first | (with_reducible refine keepsO_next ?_) | (with_reducible assumption) | (with_reducible apply formLimit_keeps) | (with_reducible apply cmdLimit_keeps)

theorem execTwinHeartbeatSend_keeps {s0 : State} (s : State) (hk : Keeps s0 s) : KeepsO s0 (execTwinHeartbeatSend s) := by
  unfold execTwinHeartbeatSend; repeat' first | (with_reducible refine keepsO_next ?_) | (with_reducible assumption) | (with_reducible apply sendHeart_keeps)

theorem execTheartReceive_keeps {s0 : State} (k : LinkI) (m : Msg) (s : State) (hk : Keeps s0 s) : KeepsO s0 (execTheartReceive k m s) := by
  unfold execTheartReceive; repeat' first | (with_reducible refine keepsO_next ?_) | (with_reducible assumption) | (with_reducible apply doTheart_keeps)

theorem execTwinLost_keeps {s0 : State} (s : State) (hk : Keeps s0 s) : KeepsO s0 (execTwinLost s) := by
  unfold execTwinLost; repeat' first | (with_reducible refine keepsO_next ?_) | (with_reducible assumption) | (with_reducible apply twinLost_keeps)

theorem execTdigestReceive_keeps {s0 : State} (k : LinkI) (m : Msg) (s : State) (hk : Keeps s0 s) : KeepsO s0 (execTdigestReceive k m s) := by
  unfold execTdigestReceive; repeat' first | (with_reducible refine keepsO_next ?_) | (with_reducible assumption) | (with_reducible apply doTdigest_keeps)

theorem execTactReceive_keeps {s0 : State} (k : LinkI) (m : Msg) (s : State) (hk : Keeps s0 s) : KeepsO s0 (execTactReceive k m s) := by
  unfold execTactReceive; repeat' first | (with_reducible refine keepsO_next ?_) | (with_reducible assumption) | (with_reducible apply doTact_keeps)

theorem execTresultReceive_keeps {s0 : State} (k : LinkI) (m : Msg) (s : State) (hk : Keeps s0 s) : KeepsO s0 (execTresultReceive k m s) := by
  unfold execTresultReceive; repeat' first | (with_reducible refine keepsO_next ?_) | (with_reducible assumption) | (with_reducible apply doTresult_keeps)

theorem execTwinDigestTimeout_keeps {s0 : State} (reqtag tindex : W32) (s : State) (hk : Keeps s0 s) : KeepsO s0 (execTwinDigestTimeout reqtag tindex s) := by
  unfold execTwinDigestTimeout; repeat' first | (with_reducible refine keepsO_next ?_) | (with_reducible assumption) | (with_reducible apply digestTimeout_keeps)

theorem execWithhold_keeps {s0 : State} (cause : Byte) (detail : W16) (s : State) (hk : Keeps s0 s) : KeepsO s0 (execWithhold cause detail s) := by
  unfold execWithhold; repeat' first | (with_reducible refine keepsO_next ?_) | (with_reducible assumption) | (with_reducible apply withholdFor_keeps)

theorem execEmberRaise_keeps {s0 : State} (e : EmberReq) (s : State) (hk : Keeps s0 s) : KeepsO s0 (execEmberRaise e s) := by
  unfold execEmberRaise; repeat' first | (with_reducible refine keepsO_next ?_) | (with_reducible assumption) | (with_reducible apply raiseEmber_keeps)

theorem execRateWindowClose_keeps {s0 : State} (key : Option (W16 × W16 × Option W16)) (s : State) (hk : Keeps s0 s) : KeepsO s0 (execRateWindowClose key s) := by
  unfold execRateWindowClose; repeat' first | (with_reducible refine keepsO_next ?_) | (with_reducible assumption) | (with_reducible apply closeWindow_keeps)

theorem execPlatformEventSend_keeps {s0 : State} (p : Path) (s : State) (hk : Keeps s0 s) : KeepsO s0 (execPlatformEventSend p s) := by
  unfold execPlatformEventSend; repeat' first | (with_reducible refine keepsO_next ?_) | (with_reducible assumption) | (with_reducible apply eventSend_keeps)

theorem execPlatformEventResponse_keeps {s0 : State} (p : Path) (_ok : Bool) (s : State) (hk : Keeps s0 s) : KeepsO s0 (execPlatformEventResponse p _ok s) := by
  unfold execPlatformEventResponse; repeat' first | (with_reducible refine keepsO_next ?_) | (with_reducible assumption) | (with_reducible apply updPath_keeps) | split

theorem execPlatformEventTimeout_keeps {s0 : State} (p : Path) (s : State) (hk : Keeps s0 s) : KeepsO s0 (execPlatformEventTimeout p s) := by
  unfold execPlatformEventTimeout; repeat' first | (with_reducible refine keepsO_next ?_) | (with_reducible assumption) | (with_reducible apply eventTimeout_keeps)

theorem execSetEndpointId_keeps {s0 : State} (p : Path) (op : Byte) (eid : Byte) (s : State) (hk : Keeps s0 s) : KeepsO s0 (execSetEndpointId p op eid s) := by
  unfold execSetEndpointId; repeat' first | (with_reducible refine keepsO_next ?_) | (with_reducible assumption) | (with_reducible apply setEid_keeps)

theorem execGetEndpointId_keeps {s0 : State} (p : Path) (s : State) (hk : Keeps s0 s) : KeepsO s0 (execGetEndpointId p s) := by
  unfold execGetEndpointId; repeat' first | (with_reducible refine keepsO_next ?_) | (with_reducible assumption) | (with_reducible apply reply_keeps)

theorem execGetEndpointUuid_keeps {s0 : State} (p : Path) (s : State) (hk : Keeps s0 s) : KeepsO s0 (execGetEndpointUuid p s) := by
  unfold execGetEndpointUuid; repeat' first | (with_reducible refine keepsO_next ?_) | (with_reducible assumption) | (with_reducible apply reply_keeps)

theorem execGetMctpVersionSupport_keeps {s0 : State} (p : Path) (type : Byte) (s : State) (hk : Keeps s0 s) : KeepsO s0 (execGetMctpVersionSupport p type s) := by
  unfold execGetMctpVersionSupport; repeat' first | (with_reducible refine keepsO_next ?_) | (with_reducible assumption) | (with_reducible apply mctpVersion_keeps)

theorem execGetMessageTypeSupport_keeps {s0 : State} (p : Path) (s : State) (hk : Keeps s0 s) : KeepsO s0 (execGetMessageTypeSupport p s) := by
  unfold execGetMessageTypeSupport; repeat' first | (with_reducible refine keepsO_next ?_) | (with_reducible assumption) | (with_reducible apply reply_keeps)

theorem execGetTid_keeps {s0 : State} (p : Path) (s : State) (hk : Keeps s0 s) : KeepsO s0 (execGetTid p s) := by
  unfold execGetTid; repeat' first | (with_reducible refine keepsO_next ?_) | (with_reducible assumption) | (with_reducible apply replyFree_keeps)

theorem execGetPldmVersion_keeps {s0 : State} (p : Path) (type : Byte) (s : State) (hk : Keeps s0 s) : KeepsO s0 (execGetPldmVersion p type s) := by
  unfold execGetPldmVersion; repeat' first | (with_reducible refine keepsO_next ?_) | (with_reducible assumption) | (with_reducible apply pldmVersion_keeps)

theorem execGetPldmTypes_keeps {s0 : State} (p : Path) (s : State) (hk : Keeps s0 s) : KeepsO s0 (execGetPldmTypes p s) := by
  unfold execGetPldmTypes; repeat' first | (with_reducible refine keepsO_next ?_) | (with_reducible assumption) | (with_reducible apply reply_keeps)

theorem execGetPldmCommands_keeps {s0 : State} (p : Path) (type : Byte) (s : State) (hk : Keeps s0 s) : KeepsO s0 (execGetPldmCommands p type s) := by
  unfold execGetPldmCommands; repeat' first | (with_reducible refine keepsO_next ?_) | (with_reducible assumption) | (with_reducible apply pldmCommands_keeps)

theorem execSetEventReceiver_keeps {s0 : State} (p : Path) (enable : Byte) (eid : Byte) (s : State) (hk : Keeps s0 s) : KeepsO s0 (execSetEventReceiver p enable eid s) := by
  unfold execSetEventReceiver; repeat' first | (with_reducible refine keepsO_next ?_) | (with_reducible assumption) | (with_reducible apply setReceiver_keeps)

theorem execGetPdrRepositoryInfo_keeps {s0 : State} (p : Path) (s : State) (hk : Keeps s0 s) : KeepsO s0 (execGetPdrRepositoryInfo p s) := by
  unfold execGetPdrRepositoryInfo; repeat' first | (with_reducible refine keepsO_next ?_) | (with_reducible assumption) | (with_reducible apply reply_keeps)

theorem execGetPdr_keeps {s0 : State} (p : Path) (handle : W32) (s : State) (hk : Keeps s0 s) : KeepsO s0 (execGetPdr p handle s) := by
  unfold execGetPdr; repeat' first | (with_reducible refine keepsO_next ?_) | (with_reducible assumption) | (with_reducible apply pdrReply_keeps)

theorem execGetSensorReading_keeps {s0 : State} (p : Path) (sensor : W16) (s : State) (hk : Keeps s0 s) : KeepsO s0 (execGetSensorReading p sensor s) := by
  unfold execGetSensorReading; repeat' first | (with_reducible refine keepsO_next ?_) | (with_reducible assumption) | (with_reducible apply reply_keeps) | split

theorem execGetStateSensorReadings_keeps {s0 : State} (p : Path) (sensor : W16) (s : State) (hk : Keeps s0 s) : KeepsO s0 (execGetStateSensorReadings p sensor s) := by
  unfold execGetStateSensorReadings; repeat' first | (with_reducible refine keepsO_next ?_) | (with_reducible assumption) | (with_reducible apply reply_keeps) | split

theorem execPldmUnsupportedCommand_keeps {s0 : State} (p : Path) (_type _cmd : Byte) (s : State) (hk : Keeps s0 s) : KeepsO s0 (execPldmUnsupportedCommand p _type _cmd s) := by
  unfold execPldmUnsupportedCommand; repeat' first | (with_reducible refine keepsO_next ?_) | (with_reducible assumption) | (with_reducible apply reply_keeps)

theorem execMctpUnsupportedMessage_keeps {s0 : State} (_p : Path) (s : State) (hk : Keeps s0 s) : KeepsO s0 (execMctpUnsupportedMessage _p s) := by
  unfold execMctpUnsupportedMessage; repeat' first | (with_reducible refine keepsO_next ?_) | (with_reducible assumption)

theorem execSgmiiLinkChange_keeps {s0 : State} (up : Bool) (s : State) (hk : Keeps s0 s) : KeepsO s0 (execSgmiiLinkChange up s) := by
  unfold execSgmiiLinkChange; repeat' first | (with_reducible refine keepsO_next ?_) | (with_reducible assumption) | (fail_if_no_progress with_reducible refine keeps_upd ?_ rfl rfl rfl rfl rfl rfl) | split

theorem execI3cDynamicAddress_keeps {s0 : State} (a : Byte) (s : State) (hk : Keeps s0 s) : KeepsO s0 (execI3cDynamicAddress a s) := by
  unfold execI3cDynamicAddress; repeat' first | (with_reducible refine keepsO_next ?_) | (with_reducible assumption) | (fail_if_no_progress with_reducible refine keeps_upd ?_ rfl rfl rfl rfl rfl rfl) | split

theorem execVecControl_keeps {s0 : State} (l : Lan) (t : ThreadI) (w : W64) (s : State) (hk : Keeps s0 s) : KeepsO s0 (execVecControl l t w s) := by
  unfold execVecControl; repeat' first | (with_reducible refine keepsO_next ?_) | (with_reducible assumption) | (with_reducible apply doControl_keeps)

theorem execVecFloat_keeps {s0 : State} (l : Lan) (t : ThreadI) (w : W64) (chk : RegChk) (s : State) (hk : Keeps s0 s) : KeepsO s0 (execVecFloat l t w chk s) := by
  unfold execVecFloat; repeat' first | (with_reducible refine keepsO_next ?_) | (with_reducible assumption) | (with_reducible apply doFloat_keeps)

theorem execVecDot2_keeps {s0 : State} (l : Lan) (t : ThreadI) (w : W64) (chk : RegChk) (s : State) (hk : Keeps s0 s) : KeepsO s0 (execVecDot2 l t w chk s) := by
  unfold execVecDot2; repeat' first | (with_reducible refine keepsO_next ?_) | (with_reducible assumption) | (with_reducible apply doDot2_keeps)

theorem execVecDot4_keeps {s0 : State} (l : Lan) (t : ThreadI) (w : W64) (chk : RegChk) (s : State) (hk : Keeps s0 s) : KeepsO s0 (execVecDot4 l t w chk s) := by
  unfold execVecDot4; repeat' first | (with_reducible refine keepsO_next ?_) | (with_reducible assumption) | (with_reducible apply doDot4_keeps)

theorem execVecInteger_keeps {s0 : State} (l : Lan) (t : ThreadI) (w : W64) (chk : RegChk) (s : State) (hk : Keeps s0 s) : KeepsO s0 (execVecInteger l t w chk s) := by
  unfold execVecInteger; repeat' first | (with_reducible refine keepsO_next ?_) | (with_reducible assumption) | (with_reducible apply doInteger_keeps)

theorem execVecConvert_keeps {s0 : State} (l : Lan) (t : ThreadI) (w : W64) (chk : RegChk) (s : State) (hk : Keeps s0 s) : KeepsO s0 (execVecConvert l t w chk s) := by
  unfold execVecConvert; repeat' first | (with_reducible refine keepsO_next ?_) | (with_reducible assumption) | (with_reducible apply doConvert_keeps)

theorem execVecCompare_keeps {s0 : State} (l : Lan) (t : ThreadI) (w : W64) (chk : RegChk) (s : State) (hk : Keeps s0 s) : KeepsO s0 (execVecCompare l t w chk s) := by
  unfold execVecCompare; repeat' first | (with_reducible refine keepsO_next ?_) | (with_reducible assumption) | (with_reducible apply doCompare_keeps)

theorem execVecReduce_keeps {s0 : State} (l : Lan) (t : ThreadI) (w : W64) (chk : RegChk) (s : State) (hk : Keeps s0 s) : KeepsO s0 (execVecReduce l t w chk s) := by
  unfold execVecReduce; repeat' first | (with_reducible refine keepsO_next ?_) | (with_reducible assumption) | (with_reducible apply doReduce_keeps)

theorem execVecSpecial_keeps {s0 : State} (l : Lan) (t : ThreadI) (w : W64) (chk : RegChk) (s : State) (hk : Keeps s0 s) : KeepsO s0 (execVecSpecial l t w chk s) := by
  unfold execVecSpecial; repeat' first | (with_reducible refine keepsO_next ?_) | (with_reducible assumption) | (with_reducible apply doSpecial_keeps)

theorem execRot_keeps {s0 : State} (l : Lan) (t : ThreadI) (w : W64) (chk : RegChk) (s : State) (hk : Keeps s0 s) : KeepsO s0 (execRot l t w chk s) := by
  unfold execRot; repeat' first | (with_reducible refine keepsO_next ?_) | (with_reducible assumption) | (with_reducible apply doRot_keeps)

theorem execRotl1_keeps {s0 : State} (l : Lan) (t : ThreadI) (w : W64) (chk : RegChk) (s : State) (hk : Keeps s0 s) : KeepsO s0 (execRotl1 l t w chk s) := by
  unfold execRotl1; repeat' first | (with_reducible refine keepsO_next ?_) | (with_reducible assumption) | (with_reducible apply doRotl1_keeps)

theorem execGather_keeps {s0 : State} (l : Lan) (t : ThreadI) (w : W64) (chk : RegChk) (s : State) (hk : Keeps s0 s) : KeepsO s0 (execGather l t w chk s) := by
  unfold execGather; repeat' first | (with_reducible refine keepsO_next ?_) | (with_reducible assumption) | (with_reducible apply doGather_keeps)

theorem execScatter_keeps {s0 : State} (l : Lan) (t : ThreadI) (w : W64) (chk : RegChk) (s : State) (hk : Keeps s0 s) : KeepsO s0 (execScatter l t w chk s) := by
  unfold execScatter; repeat' first | (with_reducible refine keepsO_next ?_) | (with_reducible assumption) | (with_reducible apply doScatter_keeps)

theorem execTkpush_keeps {s0 : State} (l : Lan) (t : ThreadI) (w : W64) (chk : RegChk) (s : State) (hk : Keeps s0 s) : KeepsO s0 (execTkpush l t w chk s) := by
  unfold execTkpush; repeat' first | (with_reducible refine keepsO_next ?_) | (with_reducible assumption) | (with_reducible apply doTkpush_keeps)

theorem execTkpop_keeps {s0 : State} (l : Lan) (t : ThreadI) (w : W64) (s : State) (hk : Keeps s0 s) : KeepsO s0 (execTkpop l t w s) := by
  unfold execTkpop; repeat' first | (with_reducible refine keepsO_next ?_) | (with_reducible assumption) | (with_reducible apply doTkpop_keeps)

theorem execLoad_keeps {s0 : State} (l : Lan) (t : ThreadI) (w : W64) (s : State) (hk : Keeps s0 s) : KeepsO s0 (execLoad l t w s) := by
  unfold execLoad; repeat' first | (with_reducible refine keepsO_next ?_) | (with_reducible assumption) | (with_reducible apply doLoad_keeps)

theorem execStore_keeps {s0 : State} (l : Lan) (t : ThreadI) (w : W64) (chk : RegChk) (s : State) (hk : Keeps s0 s) : KeepsO s0 (execStore l t w chk s) := by
  unfold execStore; repeat' first | (with_reducible refine keepsO_next ?_) | (with_reducible assumption) | (with_reducible apply doStore_keeps)

theorem execAtomic_keeps {s0 : State} (l : Lan) (t : ThreadI) (w : W64) (chk : RegChk) (s : State) (hk : Keeps s0 s) : KeepsO s0 (execAtomic l t w chk s) := by
  unfold execAtomic; repeat' first | (with_reducible refine keepsO_next ?_) | (with_reducible assumption) | (with_reducible apply doAtomic_keeps)

theorem execLoadDataReturn_keeps {s0 : State} (l : Lan) (t : ThreadI) (n : Nat) (ecc : EccRes) (bad : Bool) (shadow : Option (W32 × W32)) (s : State) (hk : Keeps s0 s) : KeepsO s0 (execLoadDataReturn l t n ecc bad shadow s) := by
  unfold execLoadDataReturn; repeat' first | (with_reducible refine keepsO_next ?_) | (with_reducible assumption) | (with_reducible apply loadReturn_keeps)

theorem execSeamHangWatchdog_keeps {s0 : State} (east : Bool) (s : State) (hk : Keeps s0 s) : KeepsO s0 (execSeamHangWatchdog east s) := by
  unfold execSeamHangWatchdog; repeat' first | (with_reducible refine keepsO_next ?_) | (with_reducible assumption) | (with_reducible apply seamHang_keeps)

theorem execSend_keeps {s0 : State} (l : Lan) (t : ThreadI) (w : W64) (chk : RegChk) (s : State) (hk : Keeps s0 s) : KeepsO s0 (execSend l t w chk s) := by
  unfold execSend; repeat' first | (with_reducible refine keepsO_next ?_) | (with_reducible assumption) | (with_reducible apply doSend_keeps)

theorem execRecv_keeps {s0 : State} (l : Lan) (t : ThreadI) (w : W64) (s : State) (hk : Keeps s0 s) : KeepsO s0 (execRecv l t w s) := by
  unfold execRecv; repeat' first | (with_reducible refine keepsO_next ?_) | (with_reducible assumption) | (with_reducible apply doRecv_keeps)

theorem execFire_keeps {s0 : State} (l : Lan) (t : ThreadI) (w : W64) (f : FireArg) (s : State) (hk : Keeps s0 s) : KeepsO s0 (execFire l t w f s) := by
  unfold execFire; repeat' first | (with_reducible refine keepsO_next ?_) | (with_reducible assumption) | (with_reducible apply doFire_keeps)

theorem execWaitf_keeps {s0 : State} (l : Lan) (t : ThreadI) (w : W64) (s : State) (hk : Keeps s0 s) : KeepsO s0 (execWaitf l t w s) := by
  unfold execWaitf; repeat' first | (with_reducible refine keepsO_next ?_) | (with_reducible assumption) | (with_reducible apply doWaitf_keeps)

theorem execVecPrivileged_keeps {s0 : State} (l : Lan) (t : ThreadI) (w : W64) (s : State) (hk : Keeps s0 s) : KeepsO s0 (execVecPrivileged l t w s) := by
  unfold execVecPrivileged; repeat' first | (with_reducible refine keepsO_next ?_) | (with_reducible assumption) | (with_reducible apply doPrivileged_keeps)

theorem execKernelTimeLimit_keeps {s0 : State} (c : CtxI) (inv : Nat) (s : State) (hk : Keeps s0 s) : KeepsO s0 (execKernelTimeLimit c inv s) := by
  unfold execKernelTimeLimit; repeat' first | (with_reducible refine keepsO_next ?_) | (with_reducible assumption) | (with_reducible apply kernelLimit_keeps)

theorem execVecCtlKill_keeps {s0 : State} (l : Lan) (v : W32) (s : State) (hk : Keeps s0 s) : KeepsO s0 (execVecCtlKill l v s) := by
  unfold execVecCtlKill; repeat' first | (with_reducible refine keepsO_next ?_) | (with_reducible assumption) | (with_reducible apply vecCtlWrite_keeps)

theorem execRegisterWrite_keeps {s0 : State} (by_ : Writer) (r : Reg) (v : W32) (s : State) (hk : Keeps s0 s) : KeepsO s0 (execRegisterWrite by_ r v s) := by
  unfold execRegisterWrite; repeat' first | (with_reducible refine keepsO_next ?_) | (with_reducible assumption) | (with_reducible apply hostWrite_keeps) | (with_reducible apply cpuWrite_keeps) | split

theorem execCalRead_keeps {s0 : State} (d : Desc) (lans : List Nat) (wicks sets : W32) (s : State) (hk : Keeps s0 s) : KeepsO s0 (execCalRead d lans wicks sets s) := by
  unfold execCalRead; repeat' first | (with_reducible refine keepsO_next ?_) | (with_reducible assumption) | (with_reducible apply doCalRead_keeps)

theorem execCalTrim_keeps {s0 : State} (d : Desc) (ll : Nat) (w : Nat) (s : State) (hk : Keeps s0 s) : KeepsO s0 (execCalTrim d ll w s) := by
  unfold execCalTrim; repeat' first | (with_reducible refine keepsO_next ?_) | (with_reducible assumption) | (with_reducible apply doCalTrim_keeps)

theorem execCalConfig_keeps {s0 : State} (d : Desc) (lmask : List LLan) (cfg drcfg : W32) (s : State) (hk : Keeps s0 s) : KeepsO s0 (execCalConfig d lmask cfg drcfg s) := by
  unfold execCalConfig; repeat' first | (with_reducible refine keepsO_next ?_) | (with_reducible assumption) | (with_reducible apply doCalConfig_keeps)

theorem execChkRate_keeps {s0 : State} (d : Desc) (lmask : List LLan) (audlog : W32) (s : State) (hk : Keeps s0 s) : KeepsO s0 (execChkRate d lmask audlog s) := by
  unfold execChkRate; repeat' first | (with_reducible refine keepsO_next ?_) | (with_reducible assumption) | (with_reducible apply doChkRate_keeps)

theorem execChkStatus_keeps {s0 : State} (d : Desc) (s : State) (hk : Keeps s0 s) : KeepsO s0 (execChkStatus d s) := by
  unfold execChkStatus; repeat' first | (with_reducible refine keepsO_next ?_) | (with_reducible assumption) | (with_reducible refine runCtx_keeps _ _ _ (fun _ _ s _ => ?_) ?_) | (with_reducible apply finishFree_keeps)

theorem execChkAudit_keeps {s0 : State} (d : Desc) (lmask : List LLan) (s : State) (hk : Keeps s0 s) : KeepsO s0 (execChkAudit d lmask s) := by
  unfold execChkAudit; repeat' first | (with_reducible refine keepsO_next ?_) | (with_reducible assumption) | (with_reducible apply doChkAudit_keeps)

theorem execMonSeq_keeps {s0 : State} (d : Desc) (ents : List SeqEntry) (len : Nat) (s : State) (hk : Keeps s0 s) : KeepsO s0 (execMonSeq d ents len s) := by
  unfold execMonSeq; repeat' first | (with_reducible refine keepsO_next ?_) | (with_reducible assumption) | (with_reducible apply doMonSeq_keeps)

theorem execMonRead_keeps {s0 : State} (d : Desc) (s : State) (hk : Keeps s0 s) : KeepsO s0 (execMonRead d s) := by
  unfold execMonRead; repeat' first | (with_reducible refine keepsO_next ?_) | (with_reducible assumption) | (with_reducible refine runCmd_keeps _ _ _ _ _ _ (fun s _ => ?_) ?_) | (with_reducible apply finishFree_keeps)

theorem execFabPort_keeps {s0 : State} (d : Desc) (port : Nat) (v : W32) (s : State) (hk : Keeps s0 s) : KeepsO s0 (execFabPort d port v s) := by
  unfold execFabPort; repeat' first | (with_reducible refine keepsO_next ?_) | (with_reducible assumption) | (with_reducible apply doFabPort_keeps)

theorem execFabId_keeps {s0 : State} (d : Desc) (id : W16) (s : State) (hk : Keeps s0 s) : KeepsO s0 (execFabId d id s) := by
  unfold execFabId; repeat' first | (with_reducible refine keepsO_next ?_) | (with_reducible assumption) | (with_reducible apply doFabId_keeps)

theorem execFabRoute_keeps {s0 : State} (d : Desc) (bank : Nat) (first : Nat) (ents : List W32) (s : State) (hk : Keeps s0 s) : KeepsO s0 (execFabRoute d bank first ents s) := by
  unfold execFabRoute; repeat' first | (with_reducible refine keepsO_next ?_) | (with_reducible assumption) | (with_reducible apply doFabRoute_keeps)

theorem execFabFlip_keeps {s0 : State} (d : Desc) (s : State) (hk : Keeps s0 s) : KeepsO s0 (execFabFlip d s) := by
  unfold execFabFlip; repeat' first | (with_reducible refine keepsO_next ?_) | (with_reducible assumption) | (with_reducible refine runSys_keeps _ _ (fun s _ => ?_) ?_) | (with_reducible apply finish_keeps) | (with_reducible apply fabBankFlip_keeps)

theorem execFabChain_keeps {s0 : State} (d : Desc) (n : Nat) (v : W32) (s : State) (hk : Keeps s0 s) : KeepsO s0 (execFabChain d n v s) := by
  unfold execFabChain; repeat' first | (with_reducible refine keepsO_next ?_) | (with_reducible assumption) | (with_reducible apply doFabChain_keeps)

theorem execFabWrr_keeps {s0 : State} (d : Desc) (v : W32) (s : State) (hk : Keeps s0 s) : KeepsO s0 (execFabWrr d v s) := by
  unfold execFabWrr; repeat' first | (with_reducible refine keepsO_next ?_) | (with_reducible assumption) | (with_reducible refine runSys_keeps _ _ (fun s _ => ?_) ?_) | (with_reducible apply finish_keeps) | (with_reducible apply wrrWrite_keeps)

theorem execFabNeighbors_keeps {s0 : State} (d : Desc) (s : State) (hk : Keeps s0 s) : KeepsO s0 (execFabNeighbors d s) := by
  unfold execFabNeighbors; repeat' first | (with_reducible refine keepsO_next ?_) | (with_reducible assumption) | (with_reducible refine runCmd_keeps _ _ _ _ _ _ (fun s _ => ?_) ?_) | (with_reducible apply finishFree_keeps)

theorem execDiagEmbers_keeps {s0 : State} (d : Desc) (s : State) (hk : Keeps s0 s) : KeepsO s0 (execDiagEmbers d s) := by
  unfold execDiagEmbers; repeat' first | (with_reducible refine keepsO_next ?_) | (with_reducible assumption) | (with_reducible refine runDiag_keeps _ _ (fun s _ => ?_) ?_) | (with_reducible apply finishOut_keeps)

theorem execDiagSnapshot_keeps {s0 : State} (d : Desc) (blocks : List Nat) (s : State) (hk : Keeps s0 s) : KeepsO s0 (execDiagSnapshot d blocks s) := by
  unfold execDiagSnapshot; repeat' first | (with_reducible refine keepsO_next ?_) | (with_reducible assumption) | (with_reducible refine runDiag_keeps _ _ (fun s _ => ?_) ?_) | (with_reducible apply finish_keeps) | (with_reducible apply finishFree_keeps) | split

theorem execDiagLoopback_keeps {s0 : State} (d : Desc) (port : Nat) (s : State) (hk : Keeps s0 s) : KeepsO s0 (execDiagLoopback d port s) := by
  unfold execDiagLoopback; repeat' first | (with_reducible refine keepsO_next ?_) | (with_reducible assumption) | (with_reducible apply doLoopback_keeps)

theorem execDiagCounters_keeps {s0 : State} (d : Desc) (s : State) (hk : Keeps s0 s) : KeepsO s0 (execDiagCounters d s) := by
  unfold execDiagCounters; repeat' first | (with_reducible refine keepsO_next ?_) | (with_reducible assumption) | (with_reducible refine runDiag_keeps _ _ (fun s _ => ?_) ?_) | (with_reducible apply finishFree_keeps)

theorem execWickStepComplete_keeps {s0 : State} (l : Lan) (w : PWick) (err : List (Nat × Int)) (bad : List Nat) (s : State) (hk : Keeps s0 s) : KeepsO s0 (execWickStepComplete l w err bad s) := by
  unfold execWickStepComplete; repeat' first | (with_reducible refine keepsO_next ?_) | (with_reducible assumption) | (exact takeFlight_keeps ‹_› ‹takeFlight _ _ _ = some _›) | (with_reducible apply earlyRemap_keeps) | (with_reducible apply stepFlare_keeps) | (with_reducible apply storeErrors_keeps) | (with_reducible apply stepProbe_keeps) | (with_reducible apply stepTrim_keeps) | (with_reducible apply stepDrive_keeps) | split

theorem execSliceRecomputeDone_keeps {s0 : State} (l : Lan) (w : PWick) (err : List (Nat × Int)) (s : State) (hk : Keeps s0 s) : KeepsO s0 (execSliceRecomputeDone l w err s) := by
  unfold execSliceRecomputeDone; repeat' first | (with_reducible refine keepsO_next ?_) | (with_reducible assumption) | (with_reducible apply earlyRemap_keeps) | (with_reducible apply sliceRedone_keeps)

theorem execAuditDone_keeps {s0 : State} (l : Lan) (s : State) (hk : Keeps s0 s) : KeepsO s0 (execAuditDone l s) := by
  unfold execAuditDone; repeat' first | (with_reducible refine keepsO_next ?_) | (with_reducible assumption) | (with_reducible apply earlyRemap_keeps) | (with_reducible apply auditDone_keeps)

end Sys2Proof.Machine
end

