-- ==== Sys2Proof/Laws/State.lean ====
section
/-! SUPPORT. What the setters of one unit leave alone: one lemma per field of the state and setter, true by definition, and
reading a unit back. -/

namespace Sys2Proof.Machine

/-! setWick -/

@[simp] theorem setWick_pending (l w : Nat) (v : Wick) (s : State) : (setWick l w v s).pending = s.pending := rfl
@[simp] theorem setWick_lans (l w : Nat) (v : Wick) (s : State) : (setWick l w v s).lans = s.lans := rfl
@[simp] theorem setWick_engs (l w : Nat) (v : Wick) (s : State) : (setWick l w v s).engs = s.engs := rfl
@[simp] theorem setWick_lmp (l w : Nat) (v : Wick) (s : State) : (setWick l w v s).lmp = s.lmp := rfl
@[simp] theorem setWick_lctx (l w : Nat) (v : Wick) (s : State) : (setWick l w v s).lctx = s.lctx := rfl
@[simp] theorem setWick_pwr (l w : Nat) (v : Wick) (s : State) : (setWick l w v s).pwr = s.pwr := rfl
@[simp] theorem setWick_mon (l w : Nat) (v : Wick) (s : State) : (setWick l w v s).mon = s.mon := rfl
@[simp] theorem setWick_chk (l w : Nat) (v : Wick) (s : State) : (setWick l w v s).chk = s.chk := rfl
@[simp] theorem setWick_scn (l w : Nat) (v : Wick) (s : State) : (setWick l w v s).scn = s.scn := rfl
@[simp] theorem setWick_snuf (l w : Nat) (v : Wick) (s : State) : (setWick l w v s).snuf = s.snuf := rfl
@[simp] theorem setWick_xbr (l w : Nat) (v : Wick) (s : State) : (setWick l w v s).xbr = s.xbr := rfl
@[simp] theorem setWick_stks (l w : Nat) (v : Wick) (s : State) : (setWick l w v s).stks = s.stks := rfl
@[simp] theorem setWick_mem (l w : Nat) (v : Wick) (s : State) : (setWick l w v s).mem = s.mem := rfl
@[simp] theorem setWick_clk (l w : Nat) (v : Wick) (s : State) : (setWick l w v s).clk = s.clk := rfl
@[simp] theorem setWick_fab (l w : Nat) (v : Wick) (s : State) : (setWick l w v s).fab = s.fab := rfl
@[simp] theorem setWick_gvl (l w : Nat) (v : Wick) (s : State) : (setWick l w v s).gvl = s.gvl := rfl
@[simp] theorem setWick_mbx (l w : Nat) (v : Wick) (s : State) : (setWick l w v s).mbx = s.mbx := rfl
@[simp] theorem setWick_ctxs (l w : Nat) (v : Wick) (s : State) : (setWick l w v s).ctxs = s.ctxs := rfl
@[simp] theorem setWick_invs (l w : Nat) (v : Wick) (s : State) : (setWick l w v s).invs = s.invs := rfl
@[simp] theorem setWick_invNext (l w : Nat) (v : Wick) (s : State) : (setWick l w v s).invNext = s.invNext := rfl
@[simp] theorem setWick_attn (l w : Nat) (v : Wick) (s : State) : (setWick l w v s).attn = s.attn := rfl
@[simp] theorem setWick_posted (l w : Nat) (v : Wick) (s : State) : (setWick l w v s).posted = s.posted := rfl
@[simp] theorem setWick_sec (l w : Nat) (v : Wick) (s : State) : (setWick l w v s).sec = s.sec := rfl
@[simp] theorem setWick_flash (l w : Nat) (v : Wick) (s : State) : (setWick l w v s).flash = s.flash := rfl
@[simp] theorem setWick_twin (l w : Nat) (v : Wick) (s : State) : (setWick l w v s).twin = s.twin := rfl
@[simp] theorem setWick_mgt (l w : Nat) (v : Wick) (s : State) : (setWick l w v s).mgt = s.mgt := rfl
@[simp] theorem setWick_fresh (l w : Nat) (v : Wick) (s : State) : (setWick l w v s).fresh = s.fresh := rfl

/-! updWick -/

@[simp] theorem updWick_pending (l w : Nat) (f : Wick → Wick) (s : State) : (updWick l w f s).pending = s.pending := rfl
@[simp] theorem updWick_lans (l w : Nat) (f : Wick → Wick) (s : State) : (updWick l w f s).lans = s.lans := rfl
@[simp] theorem updWick_engs (l w : Nat) (f : Wick → Wick) (s : State) : (updWick l w f s).engs = s.engs := rfl
@[simp] theorem updWick_lmp (l w : Nat) (f : Wick → Wick) (s : State) : (updWick l w f s).lmp = s.lmp := rfl
@[simp] theorem updWick_lctx (l w : Nat) (f : Wick → Wick) (s : State) : (updWick l w f s).lctx = s.lctx := rfl
@[simp] theorem updWick_pwr (l w : Nat) (f : Wick → Wick) (s : State) : (updWick l w f s).pwr = s.pwr := rfl
@[simp] theorem updWick_mon (l w : Nat) (f : Wick → Wick) (s : State) : (updWick l w f s).mon = s.mon := rfl
@[simp] theorem updWick_chk (l w : Nat) (f : Wick → Wick) (s : State) : (updWick l w f s).chk = s.chk := rfl
@[simp] theorem updWick_scn (l w : Nat) (f : Wick → Wick) (s : State) : (updWick l w f s).scn = s.scn := rfl
@[simp] theorem updWick_snuf (l w : Nat) (f : Wick → Wick) (s : State) : (updWick l w f s).snuf = s.snuf := rfl
@[simp] theorem updWick_xbr (l w : Nat) (f : Wick → Wick) (s : State) : (updWick l w f s).xbr = s.xbr := rfl
@[simp] theorem updWick_stks (l w : Nat) (f : Wick → Wick) (s : State) : (updWick l w f s).stks = s.stks := rfl
@[simp] theorem updWick_mem (l w : Nat) (f : Wick → Wick) (s : State) : (updWick l w f s).mem = s.mem := rfl
@[simp] theorem updWick_clk (l w : Nat) (f : Wick → Wick) (s : State) : (updWick l w f s).clk = s.clk := rfl
@[simp] theorem updWick_fab (l w : Nat) (f : Wick → Wick) (s : State) : (updWick l w f s).fab = s.fab := rfl
@[simp] theorem updWick_gvl (l w : Nat) (f : Wick → Wick) (s : State) : (updWick l w f s).gvl = s.gvl := rfl
@[simp] theorem updWick_mbx (l w : Nat) (f : Wick → Wick) (s : State) : (updWick l w f s).mbx = s.mbx := rfl
@[simp] theorem updWick_ctxs (l w : Nat) (f : Wick → Wick) (s : State) : (updWick l w f s).ctxs = s.ctxs := rfl
@[simp] theorem updWick_invs (l w : Nat) (f : Wick → Wick) (s : State) : (updWick l w f s).invs = s.invs := rfl
@[simp] theorem updWick_invNext (l w : Nat) (f : Wick → Wick) (s : State) : (updWick l w f s).invNext = s.invNext := rfl
@[simp] theorem updWick_attn (l w : Nat) (f : Wick → Wick) (s : State) : (updWick l w f s).attn = s.attn := rfl
@[simp] theorem updWick_posted (l w : Nat) (f : Wick → Wick) (s : State) : (updWick l w f s).posted = s.posted := rfl
@[simp] theorem updWick_sec (l w : Nat) (f : Wick → Wick) (s : State) : (updWick l w f s).sec = s.sec := rfl
@[simp] theorem updWick_flash (l w : Nat) (f : Wick → Wick) (s : State) : (updWick l w f s).flash = s.flash := rfl
@[simp] theorem updWick_twin (l w : Nat) (f : Wick → Wick) (s : State) : (updWick l w f s).twin = s.twin := rfl
@[simp] theorem updWick_mgt (l w : Nat) (f : Wick → Wick) (s : State) : (updWick l w f s).mgt = s.mgt := rfl
@[simp] theorem updWick_fresh (l w : Nat) (f : Wick → Wick) (s : State) : (updWick l w f s).fresh = s.fresh := rfl

/-! setLan -/

@[simp] theorem setLan_pending (l : Nat) (v : Lantern) (s : State) : (setLan l v s).pending = s.pending := rfl
@[simp] theorem setLan_wicks (l : Nat) (v : Lantern) (s : State) : (setLan l v s).wicks = s.wicks := rfl
@[simp] theorem setLan_engs (l : Nat) (v : Lantern) (s : State) : (setLan l v s).engs = s.engs := rfl
@[simp] theorem setLan_lmp (l : Nat) (v : Lantern) (s : State) : (setLan l v s).lmp = s.lmp := rfl
@[simp] theorem setLan_lctx (l : Nat) (v : Lantern) (s : State) : (setLan l v s).lctx = s.lctx := rfl
@[simp] theorem setLan_pwr (l : Nat) (v : Lantern) (s : State) : (setLan l v s).pwr = s.pwr := rfl
@[simp] theorem setLan_mon (l : Nat) (v : Lantern) (s : State) : (setLan l v s).mon = s.mon := rfl
@[simp] theorem setLan_chk (l : Nat) (v : Lantern) (s : State) : (setLan l v s).chk = s.chk := rfl
@[simp] theorem setLan_scn (l : Nat) (v : Lantern) (s : State) : (setLan l v s).scn = s.scn := rfl
@[simp] theorem setLan_snuf (l : Nat) (v : Lantern) (s : State) : (setLan l v s).snuf = s.snuf := rfl
@[simp] theorem setLan_xbr (l : Nat) (v : Lantern) (s : State) : (setLan l v s).xbr = s.xbr := rfl
@[simp] theorem setLan_stks (l : Nat) (v : Lantern) (s : State) : (setLan l v s).stks = s.stks := rfl
@[simp] theorem setLan_mem (l : Nat) (v : Lantern) (s : State) : (setLan l v s).mem = s.mem := rfl
@[simp] theorem setLan_clk (l : Nat) (v : Lantern) (s : State) : (setLan l v s).clk = s.clk := rfl
@[simp] theorem setLan_fab (l : Nat) (v : Lantern) (s : State) : (setLan l v s).fab = s.fab := rfl
@[simp] theorem setLan_gvl (l : Nat) (v : Lantern) (s : State) : (setLan l v s).gvl = s.gvl := rfl
@[simp] theorem setLan_mbx (l : Nat) (v : Lantern) (s : State) : (setLan l v s).mbx = s.mbx := rfl
@[simp] theorem setLan_ctxs (l : Nat) (v : Lantern) (s : State) : (setLan l v s).ctxs = s.ctxs := rfl
@[simp] theorem setLan_invs (l : Nat) (v : Lantern) (s : State) : (setLan l v s).invs = s.invs := rfl
@[simp] theorem setLan_invNext (l : Nat) (v : Lantern) (s : State) : (setLan l v s).invNext = s.invNext := rfl
@[simp] theorem setLan_attn (l : Nat) (v : Lantern) (s : State) : (setLan l v s).attn = s.attn := rfl
@[simp] theorem setLan_posted (l : Nat) (v : Lantern) (s : State) : (setLan l v s).posted = s.posted := rfl
@[simp] theorem setLan_sec (l : Nat) (v : Lantern) (s : State) : (setLan l v s).sec = s.sec := rfl
@[simp] theorem setLan_flash (l : Nat) (v : Lantern) (s : State) : (setLan l v s).flash = s.flash := rfl
@[simp] theorem setLan_twin (l : Nat) (v : Lantern) (s : State) : (setLan l v s).twin = s.twin := rfl
@[simp] theorem setLan_mgt (l : Nat) (v : Lantern) (s : State) : (setLan l v s).mgt = s.mgt := rfl
@[simp] theorem setLan_fresh (l : Nat) (v : Lantern) (s : State) : (setLan l v s).fresh = s.fresh := rfl

/-! updLan -/

@[simp] theorem updLan_pending (l : Nat) (f : Lantern → Lantern) (s : State) : (updLan l f s).pending = s.pending := rfl
@[simp] theorem updLan_wicks (l : Nat) (f : Lantern → Lantern) (s : State) : (updLan l f s).wicks = s.wicks := rfl
@[simp] theorem updLan_engs (l : Nat) (f : Lantern → Lantern) (s : State) : (updLan l f s).engs = s.engs := rfl
@[simp] theorem updLan_lmp (l : Nat) (f : Lantern → Lantern) (s : State) : (updLan l f s).lmp = s.lmp := rfl
@[simp] theorem updLan_lctx (l : Nat) (f : Lantern → Lantern) (s : State) : (updLan l f s).lctx = s.lctx := rfl
@[simp] theorem updLan_pwr (l : Nat) (f : Lantern → Lantern) (s : State) : (updLan l f s).pwr = s.pwr := rfl
@[simp] theorem updLan_mon (l : Nat) (f : Lantern → Lantern) (s : State) : (updLan l f s).mon = s.mon := rfl
@[simp] theorem updLan_chk (l : Nat) (f : Lantern → Lantern) (s : State) : (updLan l f s).chk = s.chk := rfl
@[simp] theorem updLan_scn (l : Nat) (f : Lantern → Lantern) (s : State) : (updLan l f s).scn = s.scn := rfl
@[simp] theorem updLan_snuf (l : Nat) (f : Lantern → Lantern) (s : State) : (updLan l f s).snuf = s.snuf := rfl
@[simp] theorem updLan_xbr (l : Nat) (f : Lantern → Lantern) (s : State) : (updLan l f s).xbr = s.xbr := rfl
@[simp] theorem updLan_stks (l : Nat) (f : Lantern → Lantern) (s : State) : (updLan l f s).stks = s.stks := rfl
@[simp] theorem updLan_mem (l : Nat) (f : Lantern → Lantern) (s : State) : (updLan l f s).mem = s.mem := rfl
@[simp] theorem updLan_clk (l : Nat) (f : Lantern → Lantern) (s : State) : (updLan l f s).clk = s.clk := rfl
@[simp] theorem updLan_fab (l : Nat) (f : Lantern → Lantern) (s : State) : (updLan l f s).fab = s.fab := rfl
@[simp] theorem updLan_gvl (l : Nat) (f : Lantern → Lantern) (s : State) : (updLan l f s).gvl = s.gvl := rfl
@[simp] theorem updLan_mbx (l : Nat) (f : Lantern → Lantern) (s : State) : (updLan l f s).mbx = s.mbx := rfl
@[simp] theorem updLan_ctxs (l : Nat) (f : Lantern → Lantern) (s : State) : (updLan l f s).ctxs = s.ctxs := rfl
@[simp] theorem updLan_invs (l : Nat) (f : Lantern → Lantern) (s : State) : (updLan l f s).invs = s.invs := rfl
@[simp] theorem updLan_invNext (l : Nat) (f : Lantern → Lantern) (s : State) : (updLan l f s).invNext = s.invNext := rfl
@[simp] theorem updLan_attn (l : Nat) (f : Lantern → Lantern) (s : State) : (updLan l f s).attn = s.attn := rfl
@[simp] theorem updLan_posted (l : Nat) (f : Lantern → Lantern) (s : State) : (updLan l f s).posted = s.posted := rfl
@[simp] theorem updLan_sec (l : Nat) (f : Lantern → Lantern) (s : State) : (updLan l f s).sec = s.sec := rfl
@[simp] theorem updLan_flash (l : Nat) (f : Lantern → Lantern) (s : State) : (updLan l f s).flash = s.flash := rfl
@[simp] theorem updLan_twin (l : Nat) (f : Lantern → Lantern) (s : State) : (updLan l f s).twin = s.twin := rfl
@[simp] theorem updLan_mgt (l : Nat) (f : Lantern → Lantern) (s : State) : (updLan l f s).mgt = s.mgt := rfl
@[simp] theorem updLan_fresh (l : Nat) (f : Lantern → Lantern) (s : State) : (updLan l f s).fresh = s.fresh := rfl

/-! setEng -/

@[simp] theorem setEng_pending (l : Nat) (v : Engine) (s : State) : (setEng l v s).pending = s.pending := rfl
@[simp] theorem setEng_wicks (l : Nat) (v : Engine) (s : State) : (setEng l v s).wicks = s.wicks := rfl
@[simp] theorem setEng_lans (l : Nat) (v : Engine) (s : State) : (setEng l v s).lans = s.lans := rfl
@[simp] theorem setEng_lmp (l : Nat) (v : Engine) (s : State) : (setEng l v s).lmp = s.lmp := rfl
@[simp] theorem setEng_lctx (l : Nat) (v : Engine) (s : State) : (setEng l v s).lctx = s.lctx := rfl
@[simp] theorem setEng_pwr (l : Nat) (v : Engine) (s : State) : (setEng l v s).pwr = s.pwr := rfl
@[simp] theorem setEng_mon (l : Nat) (v : Engine) (s : State) : (setEng l v s).mon = s.mon := rfl
@[simp] theorem setEng_chk (l : Nat) (v : Engine) (s : State) : (setEng l v s).chk = s.chk := rfl
@[simp] theorem setEng_scn (l : Nat) (v : Engine) (s : State) : (setEng l v s).scn = s.scn := rfl
@[simp] theorem setEng_snuf (l : Nat) (v : Engine) (s : State) : (setEng l v s).snuf = s.snuf := rfl
@[simp] theorem setEng_xbr (l : Nat) (v : Engine) (s : State) : (setEng l v s).xbr = s.xbr := rfl
@[simp] theorem setEng_stks (l : Nat) (v : Engine) (s : State) : (setEng l v s).stks = s.stks := rfl
@[simp] theorem setEng_mem (l : Nat) (v : Engine) (s : State) : (setEng l v s).mem = s.mem := rfl
@[simp] theorem setEng_clk (l : Nat) (v : Engine) (s : State) : (setEng l v s).clk = s.clk := rfl
@[simp] theorem setEng_fab (l : Nat) (v : Engine) (s : State) : (setEng l v s).fab = s.fab := rfl
@[simp] theorem setEng_gvl (l : Nat) (v : Engine) (s : State) : (setEng l v s).gvl = s.gvl := rfl
@[simp] theorem setEng_mbx (l : Nat) (v : Engine) (s : State) : (setEng l v s).mbx = s.mbx := rfl
@[simp] theorem setEng_ctxs (l : Nat) (v : Engine) (s : State) : (setEng l v s).ctxs = s.ctxs := rfl
@[simp] theorem setEng_invs (l : Nat) (v : Engine) (s : State) : (setEng l v s).invs = s.invs := rfl
@[simp] theorem setEng_invNext (l : Nat) (v : Engine) (s : State) : (setEng l v s).invNext = s.invNext := rfl
@[simp] theorem setEng_attn (l : Nat) (v : Engine) (s : State) : (setEng l v s).attn = s.attn := rfl
@[simp] theorem setEng_posted (l : Nat) (v : Engine) (s : State) : (setEng l v s).posted = s.posted := rfl
@[simp] theorem setEng_sec (l : Nat) (v : Engine) (s : State) : (setEng l v s).sec = s.sec := rfl
@[simp] theorem setEng_flash (l : Nat) (v : Engine) (s : State) : (setEng l v s).flash = s.flash := rfl
@[simp] theorem setEng_twin (l : Nat) (v : Engine) (s : State) : (setEng l v s).twin = s.twin := rfl
@[simp] theorem setEng_mgt (l : Nat) (v : Engine) (s : State) : (setEng l v s).mgt = s.mgt := rfl
@[simp] theorem setEng_fresh (l : Nat) (v : Engine) (s : State) : (setEng l v s).fresh = s.fresh := rfl

/-! updEng -/

@[simp] theorem updEng_pending (l : Nat) (f : Engine → Engine) (s : State) : (updEng l f s).pending = s.pending := rfl
@[simp] theorem updEng_wicks (l : Nat) (f : Engine → Engine) (s : State) : (updEng l f s).wicks = s.wicks := rfl
@[simp] theorem updEng_lans (l : Nat) (f : Engine → Engine) (s : State) : (updEng l f s).lans = s.lans := rfl
@[simp] theorem updEng_lmp (l : Nat) (f : Engine → Engine) (s : State) : (updEng l f s).lmp = s.lmp := rfl
@[simp] theorem updEng_lctx (l : Nat) (f : Engine → Engine) (s : State) : (updEng l f s).lctx = s.lctx := rfl
@[simp] theorem updEng_pwr (l : Nat) (f : Engine → Engine) (s : State) : (updEng l f s).pwr = s.pwr := rfl
@[simp] theorem updEng_mon (l : Nat) (f : Engine → Engine) (s : State) : (updEng l f s).mon = s.mon := rfl
@[simp] theorem updEng_chk (l : Nat) (f : Engine → Engine) (s : State) : (updEng l f s).chk = s.chk := rfl
@[simp] theorem updEng_scn (l : Nat) (f : Engine → Engine) (s : State) : (updEng l f s).scn = s.scn := rfl
@[simp] theorem updEng_snuf (l : Nat) (f : Engine → Engine) (s : State) : (updEng l f s).snuf = s.snuf := rfl
@[simp] theorem updEng_xbr (l : Nat) (f : Engine → Engine) (s : State) : (updEng l f s).xbr = s.xbr := rfl
@[simp] theorem updEng_stks (l : Nat) (f : Engine → Engine) (s : State) : (updEng l f s).stks = s.stks := rfl
@[simp] theorem updEng_mem (l : Nat) (f : Engine → Engine) (s : State) : (updEng l f s).mem = s.mem := rfl
@[simp] theorem updEng_clk (l : Nat) (f : Engine → Engine) (s : State) : (updEng l f s).clk = s.clk := rfl
@[simp] theorem updEng_fab (l : Nat) (f : Engine → Engine) (s : State) : (updEng l f s).fab = s.fab := rfl
@[simp] theorem updEng_gvl (l : Nat) (f : Engine → Engine) (s : State) : (updEng l f s).gvl = s.gvl := rfl
@[simp] theorem updEng_mbx (l : Nat) (f : Engine → Engine) (s : State) : (updEng l f s).mbx = s.mbx := rfl
@[simp] theorem updEng_ctxs (l : Nat) (f : Engine → Engine) (s : State) : (updEng l f s).ctxs = s.ctxs := rfl
@[simp] theorem updEng_invs (l : Nat) (f : Engine → Engine) (s : State) : (updEng l f s).invs = s.invs := rfl
@[simp] theorem updEng_invNext (l : Nat) (f : Engine → Engine) (s : State) : (updEng l f s).invNext = s.invNext := rfl
@[simp] theorem updEng_attn (l : Nat) (f : Engine → Engine) (s : State) : (updEng l f s).attn = s.attn := rfl
@[simp] theorem updEng_posted (l : Nat) (f : Engine → Engine) (s : State) : (updEng l f s).posted = s.posted := rfl
@[simp] theorem updEng_sec (l : Nat) (f : Engine → Engine) (s : State) : (updEng l f s).sec = s.sec := rfl
@[simp] theorem updEng_flash (l : Nat) (f : Engine → Engine) (s : State) : (updEng l f s).flash = s.flash := rfl
@[simp] theorem updEng_twin (l : Nat) (f : Engine → Engine) (s : State) : (updEng l f s).twin = s.twin := rfl
@[simp] theorem updEng_mgt (l : Nat) (f : Engine → Engine) (s : State) : (updEng l f s).mgt = s.mgt := rfl
@[simp] theorem updEng_fresh (l : Nat) (f : Engine → Engine) (s : State) : (updEng l f s).fresh = s.fresh := rfl

/-! setLctx -/

@[simp] theorem setLctx_pending (c : Nat) (v : LmpCtx) (s : State) : (setLctx c v s).pending = s.pending := rfl
@[simp] theorem setLctx_wicks (c : Nat) (v : LmpCtx) (s : State) : (setLctx c v s).wicks = s.wicks := rfl
@[simp] theorem setLctx_lans (c : Nat) (v : LmpCtx) (s : State) : (setLctx c v s).lans = s.lans := rfl
@[simp] theorem setLctx_engs (c : Nat) (v : LmpCtx) (s : State) : (setLctx c v s).engs = s.engs := rfl
@[simp] theorem setLctx_lmp (c : Nat) (v : LmpCtx) (s : State) : (setLctx c v s).lmp = s.lmp := rfl
@[simp] theorem setLctx_pwr (c : Nat) (v : LmpCtx) (s : State) : (setLctx c v s).pwr = s.pwr := rfl
@[simp] theorem setLctx_mon (c : Nat) (v : LmpCtx) (s : State) : (setLctx c v s).mon = s.mon := rfl
@[simp] theorem setLctx_chk (c : Nat) (v : LmpCtx) (s : State) : (setLctx c v s).chk = s.chk := rfl
@[simp] theorem setLctx_scn (c : Nat) (v : LmpCtx) (s : State) : (setLctx c v s).scn = s.scn := rfl
@[simp] theorem setLctx_snuf (c : Nat) (v : LmpCtx) (s : State) : (setLctx c v s).snuf = s.snuf := rfl
@[simp] theorem setLctx_xbr (c : Nat) (v : LmpCtx) (s : State) : (setLctx c v s).xbr = s.xbr := rfl
@[simp] theorem setLctx_stks (c : Nat) (v : LmpCtx) (s : State) : (setLctx c v s).stks = s.stks := rfl
@[simp] theorem setLctx_mem (c : Nat) (v : LmpCtx) (s : State) : (setLctx c v s).mem = s.mem := rfl
@[simp] theorem setLctx_clk (c : Nat) (v : LmpCtx) (s : State) : (setLctx c v s).clk = s.clk := rfl
@[simp] theorem setLctx_fab (c : Nat) (v : LmpCtx) (s : State) : (setLctx c v s).fab = s.fab := rfl
@[simp] theorem setLctx_gvl (c : Nat) (v : LmpCtx) (s : State) : (setLctx c v s).gvl = s.gvl := rfl
@[simp] theorem setLctx_mbx (c : Nat) (v : LmpCtx) (s : State) : (setLctx c v s).mbx = s.mbx := rfl
@[simp] theorem setLctx_ctxs (c : Nat) (v : LmpCtx) (s : State) : (setLctx c v s).ctxs = s.ctxs := rfl
@[simp] theorem setLctx_invs (c : Nat) (v : LmpCtx) (s : State) : (setLctx c v s).invs = s.invs := rfl
@[simp] theorem setLctx_invNext (c : Nat) (v : LmpCtx) (s : State) : (setLctx c v s).invNext = s.invNext := rfl
@[simp] theorem setLctx_attn (c : Nat) (v : LmpCtx) (s : State) : (setLctx c v s).attn = s.attn := rfl
@[simp] theorem setLctx_posted (c : Nat) (v : LmpCtx) (s : State) : (setLctx c v s).posted = s.posted := rfl
@[simp] theorem setLctx_sec (c : Nat) (v : LmpCtx) (s : State) : (setLctx c v s).sec = s.sec := rfl
@[simp] theorem setLctx_flash (c : Nat) (v : LmpCtx) (s : State) : (setLctx c v s).flash = s.flash := rfl
@[simp] theorem setLctx_twin (c : Nat) (v : LmpCtx) (s : State) : (setLctx c v s).twin = s.twin := rfl
@[simp] theorem setLctx_mgt (c : Nat) (v : LmpCtx) (s : State) : (setLctx c v s).mgt = s.mgt := rfl
@[simp] theorem setLctx_fresh (c : Nat) (v : LmpCtx) (s : State) : (setLctx c v s).fresh = s.fresh := rfl

/-! updLctx -/

@[simp] theorem updLctx_pending (c : Nat) (f : LmpCtx → LmpCtx) (s : State) : (updLctx c f s).pending = s.pending := rfl
@[simp] theorem updLctx_wicks (c : Nat) (f : LmpCtx → LmpCtx) (s : State) : (updLctx c f s).wicks = s.wicks := rfl
@[simp] theorem updLctx_lans (c : Nat) (f : LmpCtx → LmpCtx) (s : State) : (updLctx c f s).lans = s.lans := rfl
@[simp] theorem updLctx_engs (c : Nat) (f : LmpCtx → LmpCtx) (s : State) : (updLctx c f s).engs = s.engs := rfl
@[simp] theorem updLctx_lmp (c : Nat) (f : LmpCtx → LmpCtx) (s : State) : (updLctx c f s).lmp = s.lmp := rfl
@[simp] theorem updLctx_pwr (c : Nat) (f : LmpCtx → LmpCtx) (s : State) : (updLctx c f s).pwr = s.pwr := rfl
@[simp] theorem updLctx_mon (c : Nat) (f : LmpCtx → LmpCtx) (s : State) : (updLctx c f s).mon = s.mon := rfl
@[simp] theorem updLctx_chk (c : Nat) (f : LmpCtx → LmpCtx) (s : State) : (updLctx c f s).chk = s.chk := rfl
@[simp] theorem updLctx_scn (c : Nat) (f : LmpCtx → LmpCtx) (s : State) : (updLctx c f s).scn = s.scn := rfl
@[simp] theorem updLctx_snuf (c : Nat) (f : LmpCtx → LmpCtx) (s : State) : (updLctx c f s).snuf = s.snuf := rfl
@[simp] theorem updLctx_xbr (c : Nat) (f : LmpCtx → LmpCtx) (s : State) : (updLctx c f s).xbr = s.xbr := rfl
@[simp] theorem updLctx_stks (c : Nat) (f : LmpCtx → LmpCtx) (s : State) : (updLctx c f s).stks = s.stks := rfl
@[simp] theorem updLctx_mem (c : Nat) (f : LmpCtx → LmpCtx) (s : State) : (updLctx c f s).mem = s.mem := rfl
@[simp] theorem updLctx_clk (c : Nat) (f : LmpCtx → LmpCtx) (s : State) : (updLctx c f s).clk = s.clk := rfl
@[simp] theorem updLctx_fab (c : Nat) (f : LmpCtx → LmpCtx) (s : State) : (updLctx c f s).fab = s.fab := rfl
@[simp] theorem updLctx_gvl (c : Nat) (f : LmpCtx → LmpCtx) (s : State) : (updLctx c f s).gvl = s.gvl := rfl
@[simp] theorem updLctx_mbx (c : Nat) (f : LmpCtx → LmpCtx) (s : State) : (updLctx c f s).mbx = s.mbx := rfl
@[simp] theorem updLctx_ctxs (c : Nat) (f : LmpCtx → LmpCtx) (s : State) : (updLctx c f s).ctxs = s.ctxs := rfl
@[simp] theorem updLctx_invs (c : Nat) (f : LmpCtx → LmpCtx) (s : State) : (updLctx c f s).invs = s.invs := rfl
@[simp] theorem updLctx_invNext (c : Nat) (f : LmpCtx → LmpCtx) (s : State) : (updLctx c f s).invNext = s.invNext := rfl
@[simp] theorem updLctx_attn (c : Nat) (f : LmpCtx → LmpCtx) (s : State) : (updLctx c f s).attn = s.attn := rfl
@[simp] theorem updLctx_posted (c : Nat) (f : LmpCtx → LmpCtx) (s : State) : (updLctx c f s).posted = s.posted := rfl
@[simp] theorem updLctx_sec (c : Nat) (f : LmpCtx → LmpCtx) (s : State) : (updLctx c f s).sec = s.sec := rfl
@[simp] theorem updLctx_flash (c : Nat) (f : LmpCtx → LmpCtx) (s : State) : (updLctx c f s).flash = s.flash := rfl
@[simp] theorem updLctx_twin (c : Nat) (f : LmpCtx → LmpCtx) (s : State) : (updLctx c f s).twin = s.twin := rfl
@[simp] theorem updLctx_mgt (c : Nat) (f : LmpCtx → LmpCtx) (s : State) : (updLctx c f s).mgt = s.mgt := rfl
@[simp] theorem updLctx_fresh (c : Nat) (f : LmpCtx → LmpCtx) (s : State) : (updLctx c f s).fresh = s.fresh := rfl

/-! setScn -/

@[simp] theorem setScn_pending (n : Nat) (v : SconceR) (s : State) : (setScn n v s).pending = s.pending := rfl
@[simp] theorem setScn_wicks (n : Nat) (v : SconceR) (s : State) : (setScn n v s).wicks = s.wicks := rfl
@[simp] theorem setScn_lans (n : Nat) (v : SconceR) (s : State) : (setScn n v s).lans = s.lans := rfl
@[simp] theorem setScn_engs (n : Nat) (v : SconceR) (s : State) : (setScn n v s).engs = s.engs := rfl
@[simp] theorem setScn_lmp (n : Nat) (v : SconceR) (s : State) : (setScn n v s).lmp = s.lmp := rfl
@[simp] theorem setScn_lctx (n : Nat) (v : SconceR) (s : State) : (setScn n v s).lctx = s.lctx := rfl
@[simp] theorem setScn_pwr (n : Nat) (v : SconceR) (s : State) : (setScn n v s).pwr = s.pwr := rfl
@[simp] theorem setScn_mon (n : Nat) (v : SconceR) (s : State) : (setScn n v s).mon = s.mon := rfl
@[simp] theorem setScn_chk (n : Nat) (v : SconceR) (s : State) : (setScn n v s).chk = s.chk := rfl
@[simp] theorem setScn_snuf (n : Nat) (v : SconceR) (s : State) : (setScn n v s).snuf = s.snuf := rfl
@[simp] theorem setScn_xbr (n : Nat) (v : SconceR) (s : State) : (setScn n v s).xbr = s.xbr := rfl
@[simp] theorem setScn_stks (n : Nat) (v : SconceR) (s : State) : (setScn n v s).stks = s.stks := rfl
@[simp] theorem setScn_mem (n : Nat) (v : SconceR) (s : State) : (setScn n v s).mem = s.mem := rfl
@[simp] theorem setScn_clk (n : Nat) (v : SconceR) (s : State) : (setScn n v s).clk = s.clk := rfl
@[simp] theorem setScn_fab (n : Nat) (v : SconceR) (s : State) : (setScn n v s).fab = s.fab := rfl
@[simp] theorem setScn_gvl (n : Nat) (v : SconceR) (s : State) : (setScn n v s).gvl = s.gvl := rfl
@[simp] theorem setScn_mbx (n : Nat) (v : SconceR) (s : State) : (setScn n v s).mbx = s.mbx := rfl
@[simp] theorem setScn_ctxs (n : Nat) (v : SconceR) (s : State) : (setScn n v s).ctxs = s.ctxs := rfl
@[simp] theorem setScn_invs (n : Nat) (v : SconceR) (s : State) : (setScn n v s).invs = s.invs := rfl
@[simp] theorem setScn_invNext (n : Nat) (v : SconceR) (s : State) : (setScn n v s).invNext = s.invNext := rfl
@[simp] theorem setScn_attn (n : Nat) (v : SconceR) (s : State) : (setScn n v s).attn = s.attn := rfl
@[simp] theorem setScn_posted (n : Nat) (v : SconceR) (s : State) : (setScn n v s).posted = s.posted := rfl
@[simp] theorem setScn_sec (n : Nat) (v : SconceR) (s : State) : (setScn n v s).sec = s.sec := rfl
@[simp] theorem setScn_flash (n : Nat) (v : SconceR) (s : State) : (setScn n v s).flash = s.flash := rfl
@[simp] theorem setScn_twin (n : Nat) (v : SconceR) (s : State) : (setScn n v s).twin = s.twin := rfl
@[simp] theorem setScn_mgt (n : Nat) (v : SconceR) (s : State) : (setScn n v s).mgt = s.mgt := rfl
@[simp] theorem setScn_fresh (n : Nat) (v : SconceR) (s : State) : (setScn n v s).fresh = s.fresh := rfl

/-! updScn -/

@[simp] theorem updScn_pending (n : Nat) (f : SconceR → SconceR) (s : State) : (updScn n f s).pending = s.pending := rfl
@[simp] theorem updScn_wicks (n : Nat) (f : SconceR → SconceR) (s : State) : (updScn n f s).wicks = s.wicks := rfl
@[simp] theorem updScn_lans (n : Nat) (f : SconceR → SconceR) (s : State) : (updScn n f s).lans = s.lans := rfl
@[simp] theorem updScn_engs (n : Nat) (f : SconceR → SconceR) (s : State) : (updScn n f s).engs = s.engs := rfl
@[simp] theorem updScn_lmp (n : Nat) (f : SconceR → SconceR) (s : State) : (updScn n f s).lmp = s.lmp := rfl
@[simp] theorem updScn_lctx (n : Nat) (f : SconceR → SconceR) (s : State) : (updScn n f s).lctx = s.lctx := rfl
@[simp] theorem updScn_pwr (n : Nat) (f : SconceR → SconceR) (s : State) : (updScn n f s).pwr = s.pwr := rfl
@[simp] theorem updScn_mon (n : Nat) (f : SconceR → SconceR) (s : State) : (updScn n f s).mon = s.mon := rfl
@[simp] theorem updScn_chk (n : Nat) (f : SconceR → SconceR) (s : State) : (updScn n f s).chk = s.chk := rfl
@[simp] theorem updScn_snuf (n : Nat) (f : SconceR → SconceR) (s : State) : (updScn n f s).snuf = s.snuf := rfl
@[simp] theorem updScn_xbr (n : Nat) (f : SconceR → SconceR) (s : State) : (updScn n f s).xbr = s.xbr := rfl
@[simp] theorem updScn_stks (n : Nat) (f : SconceR → SconceR) (s : State) : (updScn n f s).stks = s.stks := rfl
@[simp] theorem updScn_mem (n : Nat) (f : SconceR → SconceR) (s : State) : (updScn n f s).mem = s.mem := rfl
@[simp] theorem updScn_clk (n : Nat) (f : SconceR → SconceR) (s : State) : (updScn n f s).clk = s.clk := rfl
@[simp] theorem updScn_fab (n : Nat) (f : SconceR → SconceR) (s : State) : (updScn n f s).fab = s.fab := rfl
@[simp] theorem updScn_gvl (n : Nat) (f : SconceR → SconceR) (s : State) : (updScn n f s).gvl = s.gvl := rfl
@[simp] theorem updScn_mbx (n : Nat) (f : SconceR → SconceR) (s : State) : (updScn n f s).mbx = s.mbx := rfl
@[simp] theorem updScn_ctxs (n : Nat) (f : SconceR → SconceR) (s : State) : (updScn n f s).ctxs = s.ctxs := rfl
@[simp] theorem updScn_invs (n : Nat) (f : SconceR → SconceR) (s : State) : (updScn n f s).invs = s.invs := rfl
@[simp] theorem updScn_invNext (n : Nat) (f : SconceR → SconceR) (s : State) : (updScn n f s).invNext = s.invNext := rfl
@[simp] theorem updScn_attn (n : Nat) (f : SconceR → SconceR) (s : State) : (updScn n f s).attn = s.attn := rfl
@[simp] theorem updScn_posted (n : Nat) (f : SconceR → SconceR) (s : State) : (updScn n f s).posted = s.posted := rfl
@[simp] theorem updScn_sec (n : Nat) (f : SconceR → SconceR) (s : State) : (updScn n f s).sec = s.sec := rfl
@[simp] theorem updScn_flash (n : Nat) (f : SconceR → SconceR) (s : State) : (updScn n f s).flash = s.flash := rfl
@[simp] theorem updScn_twin (n : Nat) (f : SconceR → SconceR) (s : State) : (updScn n f s).twin = s.twin := rfl
@[simp] theorem updScn_mgt (n : Nat) (f : SconceR → SconceR) (s : State) : (updScn n f s).mgt = s.mgt := rfl
@[simp] theorem updScn_fresh (n : Nat) (f : SconceR → SconceR) (s : State) : (updScn n f s).fresh = s.fresh := rfl

/-! setStk -/

@[simp] theorem setStk_pending (n : Nat) (v : Stack) (s : State) : (setStk n v s).pending = s.pending := rfl
@[simp] theorem setStk_wicks (n : Nat) (v : Stack) (s : State) : (setStk n v s).wicks = s.wicks := rfl
@[simp] theorem setStk_lans (n : Nat) (v : Stack) (s : State) : (setStk n v s).lans = s.lans := rfl
@[simp] theorem setStk_engs (n : Nat) (v : Stack) (s : State) : (setStk n v s).engs = s.engs := rfl
@[simp] theorem setStk_lmp (n : Nat) (v : Stack) (s : State) : (setStk n v s).lmp = s.lmp := rfl
@[simp] theorem setStk_lctx (n : Nat) (v : Stack) (s : State) : (setStk n v s).lctx = s.lctx := rfl
@[simp] theorem setStk_pwr (n : Nat) (v : Stack) (s : State) : (setStk n v s).pwr = s.pwr := rfl
@[simp] theorem setStk_mon (n : Nat) (v : Stack) (s : State) : (setStk n v s).mon = s.mon := rfl
@[simp] theorem setStk_chk (n : Nat) (v : Stack) (s : State) : (setStk n v s).chk = s.chk := rfl
@[simp] theorem setStk_scn (n : Nat) (v : Stack) (s : State) : (setStk n v s).scn = s.scn := rfl
@[simp] theorem setStk_snuf (n : Nat) (v : Stack) (s : State) : (setStk n v s).snuf = s.snuf := rfl
@[simp] theorem setStk_xbr (n : Nat) (v : Stack) (s : State) : (setStk n v s).xbr = s.xbr := rfl
@[simp] theorem setStk_mem (n : Nat) (v : Stack) (s : State) : (setStk n v s).mem = s.mem := rfl
@[simp] theorem setStk_clk (n : Nat) (v : Stack) (s : State) : (setStk n v s).clk = s.clk := rfl
@[simp] theorem setStk_fab (n : Nat) (v : Stack) (s : State) : (setStk n v s).fab = s.fab := rfl
@[simp] theorem setStk_gvl (n : Nat) (v : Stack) (s : State) : (setStk n v s).gvl = s.gvl := rfl
@[simp] theorem setStk_mbx (n : Nat) (v : Stack) (s : State) : (setStk n v s).mbx = s.mbx := rfl
@[simp] theorem setStk_ctxs (n : Nat) (v : Stack) (s : State) : (setStk n v s).ctxs = s.ctxs := rfl
@[simp] theorem setStk_invs (n : Nat) (v : Stack) (s : State) : (setStk n v s).invs = s.invs := rfl
@[simp] theorem setStk_invNext (n : Nat) (v : Stack) (s : State) : (setStk n v s).invNext = s.invNext := rfl
@[simp] theorem setStk_attn (n : Nat) (v : Stack) (s : State) : (setStk n v s).attn = s.attn := rfl
@[simp] theorem setStk_posted (n : Nat) (v : Stack) (s : State) : (setStk n v s).posted = s.posted := rfl
@[simp] theorem setStk_sec (n : Nat) (v : Stack) (s : State) : (setStk n v s).sec = s.sec := rfl
@[simp] theorem setStk_flash (n : Nat) (v : Stack) (s : State) : (setStk n v s).flash = s.flash := rfl
@[simp] theorem setStk_twin (n : Nat) (v : Stack) (s : State) : (setStk n v s).twin = s.twin := rfl
@[simp] theorem setStk_mgt (n : Nat) (v : Stack) (s : State) : (setStk n v s).mgt = s.mgt := rfl
@[simp] theorem setStk_fresh (n : Nat) (v : Stack) (s : State) : (setStk n v s).fresh = s.fresh := rfl

/-! updStk -/

@[simp] theorem updStk_pending (n : Nat) (f : Stack → Stack) (s : State) : (updStk n f s).pending = s.pending := rfl
@[simp] theorem updStk_wicks (n : Nat) (f : Stack → Stack) (s : State) : (updStk n f s).wicks = s.wicks := rfl
@[simp] theorem updStk_lans (n : Nat) (f : Stack → Stack) (s : State) : (updStk n f s).lans = s.lans := rfl
@[simp] theorem updStk_engs (n : Nat) (f : Stack → Stack) (s : State) : (updStk n f s).engs = s.engs := rfl
@[simp] theorem updStk_lmp (n : Nat) (f : Stack → Stack) (s : State) : (updStk n f s).lmp = s.lmp := rfl
@[simp] theorem updStk_lctx (n : Nat) (f : Stack → Stack) (s : State) : (updStk n f s).lctx = s.lctx := rfl
@[simp] theorem updStk_pwr (n : Nat) (f : Stack → Stack) (s : State) : (updStk n f s).pwr = s.pwr := rfl
@[simp] theorem updStk_mon (n : Nat) (f : Stack → Stack) (s : State) : (updStk n f s).mon = s.mon := rfl
@[simp] theorem updStk_chk (n : Nat) (f : Stack → Stack) (s : State) : (updStk n f s).chk = s.chk := rfl
@[simp] theorem updStk_scn (n : Nat) (f : Stack → Stack) (s : State) : (updStk n f s).scn = s.scn := rfl
@[simp] theorem updStk_snuf (n : Nat) (f : Stack → Stack) (s : State) : (updStk n f s).snuf = s.snuf := rfl
@[simp] theorem updStk_xbr (n : Nat) (f : Stack → Stack) (s : State) : (updStk n f s).xbr = s.xbr := rfl
@[simp] theorem updStk_mem (n : Nat) (f : Stack → Stack) (s : State) : (updStk n f s).mem = s.mem := rfl
@[simp] theorem updStk_clk (n : Nat) (f : Stack → Stack) (s : State) : (updStk n f s).clk = s.clk := rfl
@[simp] theorem updStk_fab (n : Nat) (f : Stack → Stack) (s : State) : (updStk n f s).fab = s.fab := rfl
@[simp] theorem updStk_gvl (n : Nat) (f : Stack → Stack) (s : State) : (updStk n f s).gvl = s.gvl := rfl
@[simp] theorem updStk_mbx (n : Nat) (f : Stack → Stack) (s : State) : (updStk n f s).mbx = s.mbx := rfl
@[simp] theorem updStk_ctxs (n : Nat) (f : Stack → Stack) (s : State) : (updStk n f s).ctxs = s.ctxs := rfl
@[simp] theorem updStk_invs (n : Nat) (f : Stack → Stack) (s : State) : (updStk n f s).invs = s.invs := rfl
@[simp] theorem updStk_invNext (n : Nat) (f : Stack → Stack) (s : State) : (updStk n f s).invNext = s.invNext := rfl
@[simp] theorem updStk_attn (n : Nat) (f : Stack → Stack) (s : State) : (updStk n f s).attn = s.attn := rfl
@[simp] theorem updStk_posted (n : Nat) (f : Stack → Stack) (s : State) : (updStk n f s).posted = s.posted := rfl
@[simp] theorem updStk_sec (n : Nat) (f : Stack → Stack) (s : State) : (updStk n f s).sec = s.sec := rfl
@[simp] theorem updStk_flash (n : Nat) (f : Stack → Stack) (s : State) : (updStk n f s).flash = s.flash := rfl
@[simp] theorem updStk_twin (n : Nat) (f : Stack → Stack) (s : State) : (updStk n f s).twin = s.twin := rfl
@[simp] theorem updStk_mgt (n : Nat) (f : Stack → Stack) (s : State) : (updStk n f s).mgt = s.mgt := rfl
@[simp] theorem updStk_fresh (n : Nat) (f : Stack → Stack) (s : State) : (updStk n f s).fresh = s.fresh := rfl

/-! updPort -/

@[simp] theorem updPort_pending (p : Nat) (f : Port → Port) (s : State) : (updPort p f s).pending = s.pending := rfl
@[simp] theorem updPort_wicks (p : Nat) (f : Port → Port) (s : State) : (updPort p f s).wicks = s.wicks := rfl
@[simp] theorem updPort_lans (p : Nat) (f : Port → Port) (s : State) : (updPort p f s).lans = s.lans := rfl
@[simp] theorem updPort_engs (p : Nat) (f : Port → Port) (s : State) : (updPort p f s).engs = s.engs := rfl
@[simp] theorem updPort_lmp (p : Nat) (f : Port → Port) (s : State) : (updPort p f s).lmp = s.lmp := rfl
@[simp] theorem updPort_lctx (p : Nat) (f : Port → Port) (s : State) : (updPort p f s).lctx = s.lctx := rfl
@[simp] theorem updPort_pwr (p : Nat) (f : Port → Port) (s : State) : (updPort p f s).pwr = s.pwr := rfl
@[simp] theorem updPort_mon (p : Nat) (f : Port → Port) (s : State) : (updPort p f s).mon = s.mon := rfl
@[simp] theorem updPort_chk (p : Nat) (f : Port → Port) (s : State) : (updPort p f s).chk = s.chk := rfl
@[simp] theorem updPort_scn (p : Nat) (f : Port → Port) (s : State) : (updPort p f s).scn = s.scn := rfl
@[simp] theorem updPort_snuf (p : Nat) (f : Port → Port) (s : State) : (updPort p f s).snuf = s.snuf := rfl
@[simp] theorem updPort_xbr (p : Nat) (f : Port → Port) (s : State) : (updPort p f s).xbr = s.xbr := rfl
@[simp] theorem updPort_stks (p : Nat) (f : Port → Port) (s : State) : (updPort p f s).stks = s.stks := rfl
@[simp] theorem updPort_mem (p : Nat) (f : Port → Port) (s : State) : (updPort p f s).mem = s.mem := rfl
@[simp] theorem updPort_clk (p : Nat) (f : Port → Port) (s : State) : (updPort p f s).clk = s.clk := rfl
@[simp] theorem updPort_gvl (p : Nat) (f : Port → Port) (s : State) : (updPort p f s).gvl = s.gvl := rfl
@[simp] theorem updPort_mbx (p : Nat) (f : Port → Port) (s : State) : (updPort p f s).mbx = s.mbx := rfl
@[simp] theorem updPort_ctxs (p : Nat) (f : Port → Port) (s : State) : (updPort p f s).ctxs = s.ctxs := rfl
@[simp] theorem updPort_invs (p : Nat) (f : Port → Port) (s : State) : (updPort p f s).invs = s.invs := rfl
@[simp] theorem updPort_invNext (p : Nat) (f : Port → Port) (s : State) : (updPort p f s).invNext = s.invNext := rfl
@[simp] theorem updPort_attn (p : Nat) (f : Port → Port) (s : State) : (updPort p f s).attn = s.attn := rfl
@[simp] theorem updPort_posted (p : Nat) (f : Port → Port) (s : State) : (updPort p f s).posted = s.posted := rfl
@[simp] theorem updPort_sec (p : Nat) (f : Port → Port) (s : State) : (updPort p f s).sec = s.sec := rfl
@[simp] theorem updPort_flash (p : Nat) (f : Port → Port) (s : State) : (updPort p f s).flash = s.flash := rfl
@[simp] theorem updPort_twin (p : Nat) (f : Port → Port) (s : State) : (updPort p f s).twin = s.twin := rfl
@[simp] theorem updPort_mgt (p : Nat) (f : Port → Port) (s : State) : (updPort p f s).mgt = s.mgt := rfl
@[simp] theorem updPort_fresh (p : Nat) (f : Port → Port) (s : State) : (updPort p f s).fresh = s.fresh := rfl

/-! updLink -/

@[simp] theorem updLink_pending (k : Nat) (f : Link → Link) (s : State) : (updLink k f s).pending = s.pending := rfl
@[simp] theorem updLink_wicks (k : Nat) (f : Link → Link) (s : State) : (updLink k f s).wicks = s.wicks := rfl
@[simp] theorem updLink_lans (k : Nat) (f : Link → Link) (s : State) : (updLink k f s).lans = s.lans := rfl
@[simp] theorem updLink_engs (k : Nat) (f : Link → Link) (s : State) : (updLink k f s).engs = s.engs := rfl
@[simp] theorem updLink_lmp (k : Nat) (f : Link → Link) (s : State) : (updLink k f s).lmp = s.lmp := rfl
@[simp] theorem updLink_lctx (k : Nat) (f : Link → Link) (s : State) : (updLink k f s).lctx = s.lctx := rfl
@[simp] theorem updLink_pwr (k : Nat) (f : Link → Link) (s : State) : (updLink k f s).pwr = s.pwr := rfl
@[simp] theorem updLink_mon (k : Nat) (f : Link → Link) (s : State) : (updLink k f s).mon = s.mon := rfl
@[simp] theorem updLink_chk (k : Nat) (f : Link → Link) (s : State) : (updLink k f s).chk = s.chk := rfl
@[simp] theorem updLink_scn (k : Nat) (f : Link → Link) (s : State) : (updLink k f s).scn = s.scn := rfl
@[simp] theorem updLink_snuf (k : Nat) (f : Link → Link) (s : State) : (updLink k f s).snuf = s.snuf := rfl
@[simp] theorem updLink_xbr (k : Nat) (f : Link → Link) (s : State) : (updLink k f s).xbr = s.xbr := rfl
@[simp] theorem updLink_stks (k : Nat) (f : Link → Link) (s : State) : (updLink k f s).stks = s.stks := rfl
@[simp] theorem updLink_mem (k : Nat) (f : Link → Link) (s : State) : (updLink k f s).mem = s.mem := rfl
@[simp] theorem updLink_clk (k : Nat) (f : Link → Link) (s : State) : (updLink k f s).clk = s.clk := rfl
@[simp] theorem updLink_gvl (k : Nat) (f : Link → Link) (s : State) : (updLink k f s).gvl = s.gvl := rfl
@[simp] theorem updLink_mbx (k : Nat) (f : Link → Link) (s : State) : (updLink k f s).mbx = s.mbx := rfl
@[simp] theorem updLink_ctxs (k : Nat) (f : Link → Link) (s : State) : (updLink k f s).ctxs = s.ctxs := rfl
@[simp] theorem updLink_invs (k : Nat) (f : Link → Link) (s : State) : (updLink k f s).invs = s.invs := rfl
@[simp] theorem updLink_invNext (k : Nat) (f : Link → Link) (s : State) : (updLink k f s).invNext = s.invNext := rfl
@[simp] theorem updLink_attn (k : Nat) (f : Link → Link) (s : State) : (updLink k f s).attn = s.attn := rfl
@[simp] theorem updLink_posted (k : Nat) (f : Link → Link) (s : State) : (updLink k f s).posted = s.posted := rfl
@[simp] theorem updLink_sec (k : Nat) (f : Link → Link) (s : State) : (updLink k f s).sec = s.sec := rfl
@[simp] theorem updLink_flash (k : Nat) (f : Link → Link) (s : State) : (updLink k f s).flash = s.flash := rfl
@[simp] theorem updLink_twin (k : Nat) (f : Link → Link) (s : State) : (updLink k f s).twin = s.twin := rfl
@[simp] theorem updLink_mgt (k : Nat) (f : Link → Link) (s : State) : (updLink k f s).mgt = s.mgt := rfl
@[simp] theorem updLink_fresh (k : Nat) (f : Link → Link) (s : State) : (updLink k f s).fresh = s.fresh := rfl

/-! updNbr -/

@[simp] theorem updNbr_pending (k : Nat) (f : Neighbour → Neighbour) (s : State) : (updNbr k f s).pending = s.pending := rfl
@[simp] theorem updNbr_wicks (k : Nat) (f : Neighbour → Neighbour) (s : State) : (updNbr k f s).wicks = s.wicks := rfl
@[simp] theorem updNbr_lans (k : Nat) (f : Neighbour → Neighbour) (s : State) : (updNbr k f s).lans = s.lans := rfl
@[simp] theorem updNbr_engs (k : Nat) (f : Neighbour → Neighbour) (s : State) : (updNbr k f s).engs = s.engs := rfl
@[simp] theorem updNbr_lmp (k : Nat) (f : Neighbour → Neighbour) (s : State) : (updNbr k f s).lmp = s.lmp := rfl
@[simp] theorem updNbr_lctx (k : Nat) (f : Neighbour → Neighbour) (s : State) : (updNbr k f s).lctx = s.lctx := rfl
@[simp] theorem updNbr_pwr (k : Nat) (f : Neighbour → Neighbour) (s : State) : (updNbr k f s).pwr = s.pwr := rfl
@[simp] theorem updNbr_mon (k : Nat) (f : Neighbour → Neighbour) (s : State) : (updNbr k f s).mon = s.mon := rfl
@[simp] theorem updNbr_chk (k : Nat) (f : Neighbour → Neighbour) (s : State) : (updNbr k f s).chk = s.chk := rfl
@[simp] theorem updNbr_scn (k : Nat) (f : Neighbour → Neighbour) (s : State) : (updNbr k f s).scn = s.scn := rfl
@[simp] theorem updNbr_snuf (k : Nat) (f : Neighbour → Neighbour) (s : State) : (updNbr k f s).snuf = s.snuf := rfl
@[simp] theorem updNbr_xbr (k : Nat) (f : Neighbour → Neighbour) (s : State) : (updNbr k f s).xbr = s.xbr := rfl
@[simp] theorem updNbr_stks (k : Nat) (f : Neighbour → Neighbour) (s : State) : (updNbr k f s).stks = s.stks := rfl
@[simp] theorem updNbr_mem (k : Nat) (f : Neighbour → Neighbour) (s : State) : (updNbr k f s).mem = s.mem := rfl
@[simp] theorem updNbr_clk (k : Nat) (f : Neighbour → Neighbour) (s : State) : (updNbr k f s).clk = s.clk := rfl
@[simp] theorem updNbr_gvl (k : Nat) (f : Neighbour → Neighbour) (s : State) : (updNbr k f s).gvl = s.gvl := rfl
@[simp] theorem updNbr_mbx (k : Nat) (f : Neighbour → Neighbour) (s : State) : (updNbr k f s).mbx = s.mbx := rfl
@[simp] theorem updNbr_ctxs (k : Nat) (f : Neighbour → Neighbour) (s : State) : (updNbr k f s).ctxs = s.ctxs := rfl
@[simp] theorem updNbr_invs (k : Nat) (f : Neighbour → Neighbour) (s : State) : (updNbr k f s).invs = s.invs := rfl
@[simp] theorem updNbr_invNext (k : Nat) (f : Neighbour → Neighbour) (s : State) : (updNbr k f s).invNext = s.invNext := rfl
@[simp] theorem updNbr_attn (k : Nat) (f : Neighbour → Neighbour) (s : State) : (updNbr k f s).attn = s.attn := rfl
@[simp] theorem updNbr_posted (k : Nat) (f : Neighbour → Neighbour) (s : State) : (updNbr k f s).posted = s.posted := rfl
@[simp] theorem updNbr_sec (k : Nat) (f : Neighbour → Neighbour) (s : State) : (updNbr k f s).sec = s.sec := rfl
@[simp] theorem updNbr_flash (k : Nat) (f : Neighbour → Neighbour) (s : State) : (updNbr k f s).flash = s.flash := rfl
@[simp] theorem updNbr_twin (k : Nat) (f : Neighbour → Neighbour) (s : State) : (updNbr k f s).twin = s.twin := rfl
@[simp] theorem updNbr_mgt (k : Nat) (f : Neighbour → Neighbour) (s : State) : (updNbr k f s).mgt = s.mgt := rfl
@[simp] theorem updNbr_fresh (k : Nat) (f : Neighbour → Neighbour) (s : State) : (updNbr k f s).fresh = s.fresh := rfl

/-! updRing -/

@[simp] theorem updRing_pending (r : Nat) (f : Ring → Ring) (s : State) : (updRing r f s).pending = s.pending := rfl
@[simp] theorem updRing_wicks (r : Nat) (f : Ring → Ring) (s : State) : (updRing r f s).wicks = s.wicks := rfl
@[simp] theorem updRing_lans (r : Nat) (f : Ring → Ring) (s : State) : (updRing r f s).lans = s.lans := rfl
@[simp] theorem updRing_engs (r : Nat) (f : Ring → Ring) (s : State) : (updRing r f s).engs = s.engs := rfl
@[simp] theorem updRing_lmp (r : Nat) (f : Ring → Ring) (s : State) : (updRing r f s).lmp = s.lmp := rfl
@[simp] theorem updRing_lctx (r : Nat) (f : Ring → Ring) (s : State) : (updRing r f s).lctx = s.lctx := rfl
@[simp] theorem updRing_pwr (r : Nat) (f : Ring → Ring) (s : State) : (updRing r f s).pwr = s.pwr := rfl
@[simp] theorem updRing_mon (r : Nat) (f : Ring → Ring) (s : State) : (updRing r f s).mon = s.mon := rfl
@[simp] theorem updRing_chk (r : Nat) (f : Ring → Ring) (s : State) : (updRing r f s).chk = s.chk := rfl
@[simp] theorem updRing_scn (r : Nat) (f : Ring → Ring) (s : State) : (updRing r f s).scn = s.scn := rfl
@[simp] theorem updRing_snuf (r : Nat) (f : Ring → Ring) (s : State) : (updRing r f s).snuf = s.snuf := rfl
@[simp] theorem updRing_xbr (r : Nat) (f : Ring → Ring) (s : State) : (updRing r f s).xbr = s.xbr := rfl
@[simp] theorem updRing_stks (r : Nat) (f : Ring → Ring) (s : State) : (updRing r f s).stks = s.stks := rfl
@[simp] theorem updRing_mem (r : Nat) (f : Ring → Ring) (s : State) : (updRing r f s).mem = s.mem := rfl
@[simp] theorem updRing_clk (r : Nat) (f : Ring → Ring) (s : State) : (updRing r f s).clk = s.clk := rfl
@[simp] theorem updRing_fab (r : Nat) (f : Ring → Ring) (s : State) : (updRing r f s).fab = s.fab := rfl
@[simp] theorem updRing_gvl (r : Nat) (f : Ring → Ring) (s : State) : (updRing r f s).gvl = s.gvl := rfl
@[simp] theorem updRing_ctxs (r : Nat) (f : Ring → Ring) (s : State) : (updRing r f s).ctxs = s.ctxs := rfl
@[simp] theorem updRing_invs (r : Nat) (f : Ring → Ring) (s : State) : (updRing r f s).invs = s.invs := rfl
@[simp] theorem updRing_invNext (r : Nat) (f : Ring → Ring) (s : State) : (updRing r f s).invNext = s.invNext := rfl
@[simp] theorem updRing_attn (r : Nat) (f : Ring → Ring) (s : State) : (updRing r f s).attn = s.attn := rfl
@[simp] theorem updRing_posted (r : Nat) (f : Ring → Ring) (s : State) : (updRing r f s).posted = s.posted := rfl
@[simp] theorem updRing_sec (r : Nat) (f : Ring → Ring) (s : State) : (updRing r f s).sec = s.sec := rfl
@[simp] theorem updRing_flash (r : Nat) (f : Ring → Ring) (s : State) : (updRing r f s).flash = s.flash := rfl
@[simp] theorem updRing_twin (r : Nat) (f : Ring → Ring) (s : State) : (updRing r f s).twin = s.twin := rfl
@[simp] theorem updRing_mgt (r : Nat) (f : Ring → Ring) (s : State) : (updRing r f s).mgt = s.mgt := rfl
@[simp] theorem updRing_fresh (r : Nat) (f : Ring → Ring) (s : State) : (updRing r f s).fresh = s.fresh := rfl

/-! setCtx -/

@[simp] theorem setCtx_pending (c : Nat) (v : Option Ctx) (s : State) : (setCtx c v s).pending = s.pending := rfl
@[simp] theorem setCtx_wicks (c : Nat) (v : Option Ctx) (s : State) : (setCtx c v s).wicks = s.wicks := rfl
@[simp] theorem setCtx_lans (c : Nat) (v : Option Ctx) (s : State) : (setCtx c v s).lans = s.lans := rfl
@[simp] theorem setCtx_engs (c : Nat) (v : Option Ctx) (s : State) : (setCtx c v s).engs = s.engs := rfl
@[simp] theorem setCtx_lmp (c : Nat) (v : Option Ctx) (s : State) : (setCtx c v s).lmp = s.lmp := rfl
@[simp] theorem setCtx_lctx (c : Nat) (v : Option Ctx) (s : State) : (setCtx c v s).lctx = s.lctx := rfl
@[simp] theorem setCtx_pwr (c : Nat) (v : Option Ctx) (s : State) : (setCtx c v s).pwr = s.pwr := rfl
@[simp] theorem setCtx_mon (c : Nat) (v : Option Ctx) (s : State) : (setCtx c v s).mon = s.mon := rfl
@[simp] theorem setCtx_chk (c : Nat) (v : Option Ctx) (s : State) : (setCtx c v s).chk = s.chk := rfl
@[simp] theorem setCtx_scn (c : Nat) (v : Option Ctx) (s : State) : (setCtx c v s).scn = s.scn := rfl
@[simp] theorem setCtx_snuf (c : Nat) (v : Option Ctx) (s : State) : (setCtx c v s).snuf = s.snuf := rfl
@[simp] theorem setCtx_xbr (c : Nat) (v : Option Ctx) (s : State) : (setCtx c v s).xbr = s.xbr := rfl
@[simp] theorem setCtx_stks (c : Nat) (v : Option Ctx) (s : State) : (setCtx c v s).stks = s.stks := rfl
@[simp] theorem setCtx_mem (c : Nat) (v : Option Ctx) (s : State) : (setCtx c v s).mem = s.mem := rfl
@[simp] theorem setCtx_clk (c : Nat) (v : Option Ctx) (s : State) : (setCtx c v s).clk = s.clk := rfl
@[simp] theorem setCtx_fab (c : Nat) (v : Option Ctx) (s : State) : (setCtx c v s).fab = s.fab := rfl
@[simp] theorem setCtx_gvl (c : Nat) (v : Option Ctx) (s : State) : (setCtx c v s).gvl = s.gvl := rfl
@[simp] theorem setCtx_mbx (c : Nat) (v : Option Ctx) (s : State) : (setCtx c v s).mbx = s.mbx := rfl
@[simp] theorem setCtx_invs (c : Nat) (v : Option Ctx) (s : State) : (setCtx c v s).invs = s.invs := rfl
@[simp] theorem setCtx_invNext (c : Nat) (v : Option Ctx) (s : State) : (setCtx c v s).invNext = s.invNext := rfl
@[simp] theorem setCtx_attn (c : Nat) (v : Option Ctx) (s : State) : (setCtx c v s).attn = s.attn := rfl
@[simp] theorem setCtx_posted (c : Nat) (v : Option Ctx) (s : State) : (setCtx c v s).posted = s.posted := rfl
@[simp] theorem setCtx_sec (c : Nat) (v : Option Ctx) (s : State) : (setCtx c v s).sec = s.sec := rfl
@[simp] theorem setCtx_flash (c : Nat) (v : Option Ctx) (s : State) : (setCtx c v s).flash = s.flash := rfl
@[simp] theorem setCtx_twin (c : Nat) (v : Option Ctx) (s : State) : (setCtx c v s).twin = s.twin := rfl
@[simp] theorem setCtx_mgt (c : Nat) (v : Option Ctx) (s : State) : (setCtx c v s).mgt = s.mgt := rfl
@[simp] theorem setCtx_fresh (c : Nat) (v : Option Ctx) (s : State) : (setCtx c v s).fresh = s.fresh := rfl

/-! updCtx -/

@[simp] theorem updCtx_pending (c : Nat) (f : Ctx → Ctx) (s : State) : (updCtx c f s).pending = s.pending := by unfold updCtx; split <;> rfl
@[simp] theorem updCtx_wicks (c : Nat) (f : Ctx → Ctx) (s : State) : (updCtx c f s).wicks = s.wicks := by unfold updCtx; split <;> rfl
@[simp] theorem updCtx_lans (c : Nat) (f : Ctx → Ctx) (s : State) : (updCtx c f s).lans = s.lans := by unfold updCtx; split <;> rfl
@[simp] theorem updCtx_engs (c : Nat) (f : Ctx → Ctx) (s : State) : (updCtx c f s).engs = s.engs := by unfold updCtx; split <;> rfl
@[simp] theorem updCtx_lmp (c : Nat) (f : Ctx → Ctx) (s : State) : (updCtx c f s).lmp = s.lmp := by unfold updCtx; split <;> rfl
@[simp] theorem updCtx_lctx (c : Nat) (f : Ctx → Ctx) (s : State) : (updCtx c f s).lctx = s.lctx := by unfold updCtx; split <;> rfl
@[simp] theorem updCtx_pwr (c : Nat) (f : Ctx → Ctx) (s : State) : (updCtx c f s).pwr = s.pwr := by unfold updCtx; split <;> rfl
@[simp] theorem updCtx_mon (c : Nat) (f : Ctx → Ctx) (s : State) : (updCtx c f s).mon = s.mon := by unfold updCtx; split <;> rfl
@[simp] theorem updCtx_chk (c : Nat) (f : Ctx → Ctx) (s : State) : (updCtx c f s).chk = s.chk := by unfold updCtx; split <;> rfl
@[simp] theorem updCtx_scn (c : Nat) (f : Ctx → Ctx) (s : State) : (updCtx c f s).scn = s.scn := by unfold updCtx; split <;> rfl
@[simp] theorem updCtx_snuf (c : Nat) (f : Ctx → Ctx) (s : State) : (updCtx c f s).snuf = s.snuf := by unfold updCtx; split <;> rfl
@[simp] theorem updCtx_xbr (c : Nat) (f : Ctx → Ctx) (s : State) : (updCtx c f s).xbr = s.xbr := by unfold updCtx; split <;> rfl
@[simp] theorem updCtx_stks (c : Nat) (f : Ctx → Ctx) (s : State) : (updCtx c f s).stks = s.stks := by unfold updCtx; split <;> rfl
@[simp] theorem updCtx_mem (c : Nat) (f : Ctx → Ctx) (s : State) : (updCtx c f s).mem = s.mem := by unfold updCtx; split <;> rfl
@[simp] theorem updCtx_clk (c : Nat) (f : Ctx → Ctx) (s : State) : (updCtx c f s).clk = s.clk := by unfold updCtx; split <;> rfl
@[simp] theorem updCtx_fab (c : Nat) (f : Ctx → Ctx) (s : State) : (updCtx c f s).fab = s.fab := by unfold updCtx; split <;> rfl
@[simp] theorem updCtx_gvl (c : Nat) (f : Ctx → Ctx) (s : State) : (updCtx c f s).gvl = s.gvl := by unfold updCtx; split <;> rfl
@[simp] theorem updCtx_mbx (c : Nat) (f : Ctx → Ctx) (s : State) : (updCtx c f s).mbx = s.mbx := by unfold updCtx; split <;> rfl
@[simp] theorem updCtx_invs (c : Nat) (f : Ctx → Ctx) (s : State) : (updCtx c f s).invs = s.invs := by unfold updCtx; split <;> rfl
@[simp] theorem updCtx_invNext (c : Nat) (f : Ctx → Ctx) (s : State) : (updCtx c f s).invNext = s.invNext := by unfold updCtx; split <;> rfl
@[simp] theorem updCtx_attn (c : Nat) (f : Ctx → Ctx) (s : State) : (updCtx c f s).attn = s.attn := by unfold updCtx; split <;> rfl
@[simp] theorem updCtx_posted (c : Nat) (f : Ctx → Ctx) (s : State) : (updCtx c f s).posted = s.posted := by unfold updCtx; split <;> rfl
@[simp] theorem updCtx_sec (c : Nat) (f : Ctx → Ctx) (s : State) : (updCtx c f s).sec = s.sec := by unfold updCtx; split <;> rfl
@[simp] theorem updCtx_flash (c : Nat) (f : Ctx → Ctx) (s : State) : (updCtx c f s).flash = s.flash := by unfold updCtx; split <;> rfl
@[simp] theorem updCtx_twin (c : Nat) (f : Ctx → Ctx) (s : State) : (updCtx c f s).twin = s.twin := by unfold updCtx; split <;> rfl
@[simp] theorem updCtx_mgt (c : Nat) (f : Ctx → Ctx) (s : State) : (updCtx c f s).mgt = s.mgt := by unfold updCtx; split <;> rfl
@[simp] theorem updCtx_fresh (c : Nat) (f : Ctx → Ctx) (s : State) : (updCtx c f s).fresh = s.fresh := by unfold updCtx; split <;> rfl

end Sys2Proof.Machine
end

