-- ==== Sys2Proof/Laws/Units.lean ====
section
/-! SUPPORT. Reading a unit back: what was written where it was written, and what stood there everywhere else. -/

namespace Sys2Proof.Machine

@[simp] theorem getWick_setWick (k j l w : Nat) (v : Wick) (s : State) : getWick (setWick k j v s) l w = if l * 17 + w = k * 17 + j then v else getWick s l w := by
  simp [getWick, setWick]
@[simp] theorem setWick_setWick (l w : Nat) (u v : Wick) (s : State) : setWick l w v (setWick l w u s) = setWick l w v s := by
  simp [setWick]
@[simp] theorem getWick_updWick (k j l w : Nat) (f : Wick → Wick) (s : State) :
    getWick (updWick k j f s) l w = if l * 17 + w = k * 17 + j then f (getWick s k j) else getWick s l w := by
  simp [getWick, updWick, setWick]
@[simp] theorem getWick_setLan (k : Nat) (l w : Nat) (v : Lantern) (s : State) : getWick (setLan k v s) l w = getWick s l w := rfl
@[simp] theorem getWick_updLan (k : Nat) (l w : Nat) (f : Lantern → Lantern) (s : State) : getWick (updLan k f s) l w = getWick s l w := rfl
@[simp] theorem getWick_setEng (k : Nat) (l w : Nat) (v : Engine) (s : State) : getWick (setEng k v s) l w = getWick s l w := rfl
@[simp] theorem getWick_updEng (k : Nat) (l w : Nat) (f : Engine → Engine) (s : State) : getWick (updEng k f s) l w = getWick s l w := rfl
@[simp] theorem getWick_setLctx (k : Nat) (l w : Nat) (v : LmpCtx) (s : State) : getWick (setLctx k v s) l w = getWick s l w := rfl
@[simp] theorem getWick_updLctx (k : Nat) (l w : Nat) (f : LmpCtx → LmpCtx) (s : State) : getWick (updLctx k f s) l w = getWick s l w := rfl
@[simp] theorem getWick_setScn (k : Nat) (l w : Nat) (v : SconceR) (s : State) : getWick (setScn k v s) l w = getWick s l w := rfl
@[simp] theorem getWick_updScn (k : Nat) (l w : Nat) (f : SconceR → SconceR) (s : State) : getWick (updScn k f s) l w = getWick s l w := rfl
@[simp] theorem getWick_setStk (k : Nat) (l w : Nat) (v : Stack) (s : State) : getWick (setStk k v s) l w = getWick s l w := rfl
@[simp] theorem getWick_updStk (k : Nat) (l w : Nat) (f : Stack → Stack) (s : State) : getWick (updStk k f s) l w = getWick s l w := rfl
@[simp] theorem getWick_updPort (k : Nat) (l w : Nat) (f : Port → Port) (s : State) : getWick (updPort k f s) l w = getWick s l w := rfl
@[simp] theorem getWick_updLink (k : Nat) (l w : Nat) (f : Link → Link) (s : State) : getWick (updLink k f s) l w = getWick s l w := rfl
@[simp] theorem getWick_updNbr (k : Nat) (l w : Nat) (f : Neighbour → Neighbour) (s : State) : getWick (updNbr k f s) l w = getWick s l w := rfl
@[simp] theorem getWick_updRing (k : Nat) (l w : Nat) (f : Ring → Ring) (s : State) : getWick (updRing k f s) l w = getWick s l w := rfl
@[simp] theorem getWick_setCtx (k : Nat) (l w : Nat) (v : Option Ctx) (s : State) : getWick (setCtx k v s) l w = getWick s l w := rfl
@[simp] theorem getWick_updCtx (k : Nat) (l w : Nat) (f : Ctx → Ctx) (s : State) : getWick (updCtx k f s) l w = getWick s l w := by
  unfold updCtx; split <;> rfl

@[simp] theorem getLan_setLan (k n : Nat) (v : Lantern) (s : State) : getLan (setLan k v s) n = if n = k then v else getLan s n := by
  simp [getLan, setLan]
@[simp] theorem setLan_setLan (n : Nat) (u v : Lantern) (s : State) : setLan n v (setLan n u s) = setLan n v s := by
  simp [setLan]
@[simp] theorem getLan_updLan (k n : Nat) (f : Lantern → Lantern) (s : State) :
    getLan (updLan k f s) n = if n = k then f (getLan s k) else getLan s n := by
  simp [getLan, updLan, setLan]
@[simp] theorem getLan_setWick (k j : Nat) (n : Nat) (v : Wick) (s : State) : getLan (setWick k j v s) n = getLan s n := rfl
@[simp] theorem getLan_updWick (k j : Nat) (n : Nat) (f : Wick → Wick) (s : State) : getLan (updWick k j f s) n = getLan s n := rfl
@[simp] theorem getLan_setEng (k : Nat) (n : Nat) (v : Engine) (s : State) : getLan (setEng k v s) n = getLan s n := rfl
@[simp] theorem getLan_updEng (k : Nat) (n : Nat) (f : Engine → Engine) (s : State) : getLan (updEng k f s) n = getLan s n := rfl
@[simp] theorem getLan_setLctx (k : Nat) (n : Nat) (v : LmpCtx) (s : State) : getLan (setLctx k v s) n = getLan s n := rfl
@[simp] theorem getLan_updLctx (k : Nat) (n : Nat) (f : LmpCtx → LmpCtx) (s : State) : getLan (updLctx k f s) n = getLan s n := rfl
@[simp] theorem getLan_setScn (k : Nat) (n : Nat) (v : SconceR) (s : State) : getLan (setScn k v s) n = getLan s n := rfl
@[simp] theorem getLan_updScn (k : Nat) (n : Nat) (f : SconceR → SconceR) (s : State) : getLan (updScn k f s) n = getLan s n := rfl
@[simp] theorem getLan_setStk (k : Nat) (n : Nat) (v : Stack) (s : State) : getLan (setStk k v s) n = getLan s n := rfl
@[simp] theorem getLan_updStk (k : Nat) (n : Nat) (f : Stack → Stack) (s : State) : getLan (updStk k f s) n = getLan s n := rfl
@[simp] theorem getLan_updPort (k : Nat) (n : Nat) (f : Port → Port) (s : State) : getLan (updPort k f s) n = getLan s n := rfl
@[simp] theorem getLan_updLink (k : Nat) (n : Nat) (f : Link → Link) (s : State) : getLan (updLink k f s) n = getLan s n := rfl
@[simp] theorem getLan_updNbr (k : Nat) (n : Nat) (f : Neighbour → Neighbour) (s : State) : getLan (updNbr k f s) n = getLan s n := rfl
@[simp] theorem getLan_updRing (k : Nat) (n : Nat) (f : Ring → Ring) (s : State) : getLan (updRing k f s) n = getLan s n := rfl
@[simp] theorem getLan_setCtx (k : Nat) (n : Nat) (v : Option Ctx) (s : State) : getLan (setCtx k v s) n = getLan s n := rfl
@[simp] theorem getLan_updCtx (k : Nat) (n : Nat) (f : Ctx → Ctx) (s : State) : getLan (updCtx k f s) n = getLan s n := by
  unfold updCtx; split <;> rfl

@[simp] theorem getEng_setEng (k n : Nat) (v : Engine) (s : State) : getEng (setEng k v s) n = if n = k then v else getEng s n := by
  simp [getEng, setEng]
@[simp] theorem setEng_setEng (n : Nat) (u v : Engine) (s : State) : setEng n v (setEng n u s) = setEng n v s := by
  simp [setEng]
@[simp] theorem getEng_updEng (k n : Nat) (f : Engine → Engine) (s : State) :
    getEng (updEng k f s) n = if n = k then f (getEng s k) else getEng s n := by
  simp [getEng, updEng, setEng]
@[simp] theorem getEng_setWick (k j : Nat) (n : Nat) (v : Wick) (s : State) : getEng (setWick k j v s) n = getEng s n := rfl
@[simp] theorem getEng_updWick (k j : Nat) (n : Nat) (f : Wick → Wick) (s : State) : getEng (updWick k j f s) n = getEng s n := rfl
@[simp] theorem getEng_setLan (k : Nat) (n : Nat) (v : Lantern) (s : State) : getEng (setLan k v s) n = getEng s n := rfl
@[simp] theorem getEng_updLan (k : Nat) (n : Nat) (f : Lantern → Lantern) (s : State) : getEng (updLan k f s) n = getEng s n := rfl
@[simp] theorem getEng_setLctx (k : Nat) (n : Nat) (v : LmpCtx) (s : State) : getEng (setLctx k v s) n = getEng s n := rfl
@[simp] theorem getEng_updLctx (k : Nat) (n : Nat) (f : LmpCtx → LmpCtx) (s : State) : getEng (updLctx k f s) n = getEng s n := rfl
@[simp] theorem getEng_setScn (k : Nat) (n : Nat) (v : SconceR) (s : State) : getEng (setScn k v s) n = getEng s n := rfl
@[simp] theorem getEng_updScn (k : Nat) (n : Nat) (f : SconceR → SconceR) (s : State) : getEng (updScn k f s) n = getEng s n := rfl
@[simp] theorem getEng_setStk (k : Nat) (n : Nat) (v : Stack) (s : State) : getEng (setStk k v s) n = getEng s n := rfl
@[simp] theorem getEng_updStk (k : Nat) (n : Nat) (f : Stack → Stack) (s : State) : getEng (updStk k f s) n = getEng s n := rfl
@[simp] theorem getEng_updPort (k : Nat) (n : Nat) (f : Port → Port) (s : State) : getEng (updPort k f s) n = getEng s n := rfl
@[simp] theorem getEng_updLink (k : Nat) (n : Nat) (f : Link → Link) (s : State) : getEng (updLink k f s) n = getEng s n := rfl
@[simp] theorem getEng_updNbr (k : Nat) (n : Nat) (f : Neighbour → Neighbour) (s : State) : getEng (updNbr k f s) n = getEng s n := rfl
@[simp] theorem getEng_updRing (k : Nat) (n : Nat) (f : Ring → Ring) (s : State) : getEng (updRing k f s) n = getEng s n := rfl
@[simp] theorem getEng_setCtx (k : Nat) (n : Nat) (v : Option Ctx) (s : State) : getEng (setCtx k v s) n = getEng s n := rfl
@[simp] theorem getEng_updCtx (k : Nat) (n : Nat) (f : Ctx → Ctx) (s : State) : getEng (updCtx k f s) n = getEng s n := by
  unfold updCtx; split <;> rfl

@[simp] theorem getLctx_setLctx (k n : Nat) (v : LmpCtx) (s : State) : getLctx (setLctx k v s) n = if n = k then v else getLctx s n := by
  simp [getLctx, setLctx]
@[simp] theorem setLctx_setLctx (n : Nat) (u v : LmpCtx) (s : State) : setLctx n v (setLctx n u s) = setLctx n v s := by
  simp [setLctx]
@[simp] theorem getLctx_updLctx (k n : Nat) (f : LmpCtx → LmpCtx) (s : State) :
    getLctx (updLctx k f s) n = if n = k then f (getLctx s k) else getLctx s n := by
  simp [getLctx, updLctx, setLctx]
@[simp] theorem getLctx_setWick (k j : Nat) (n : Nat) (v : Wick) (s : State) : getLctx (setWick k j v s) n = getLctx s n := rfl
@[simp] theorem getLctx_updWick (k j : Nat) (n : Nat) (f : Wick → Wick) (s : State) : getLctx (updWick k j f s) n = getLctx s n := rfl
@[simp] theorem getLctx_setLan (k : Nat) (n : Nat) (v : Lantern) (s : State) : getLctx (setLan k v s) n = getLctx s n := rfl
@[simp] theorem getLctx_updLan (k : Nat) (n : Nat) (f : Lantern → Lantern) (s : State) : getLctx (updLan k f s) n = getLctx s n := rfl
@[simp] theorem getLctx_setEng (k : Nat) (n : Nat) (v : Engine) (s : State) : getLctx (setEng k v s) n = getLctx s n := rfl
@[simp] theorem getLctx_updEng (k : Nat) (n : Nat) (f : Engine → Engine) (s : State) : getLctx (updEng k f s) n = getLctx s n := rfl
@[simp] theorem getLctx_setScn (k : Nat) (n : Nat) (v : SconceR) (s : State) : getLctx (setScn k v s) n = getLctx s n := rfl
@[simp] theorem getLctx_updScn (k : Nat) (n : Nat) (f : SconceR → SconceR) (s : State) : getLctx (updScn k f s) n = getLctx s n := rfl
@[simp] theorem getLctx_setStk (k : Nat) (n : Nat) (v : Stack) (s : State) : getLctx (setStk k v s) n = getLctx s n := rfl
@[simp] theorem getLctx_updStk (k : Nat) (n : Nat) (f : Stack → Stack) (s : State) : getLctx (updStk k f s) n = getLctx s n := rfl
@[simp] theorem getLctx_updPort (k : Nat) (n : Nat) (f : Port → Port) (s : State) : getLctx (updPort k f s) n = getLctx s n := rfl
@[simp] theorem getLctx_updLink (k : Nat) (n : Nat) (f : Link → Link) (s : State) : getLctx (updLink k f s) n = getLctx s n := rfl
@[simp] theorem getLctx_updNbr (k : Nat) (n : Nat) (f : Neighbour → Neighbour) (s : State) : getLctx (updNbr k f s) n = getLctx s n := rfl
@[simp] theorem getLctx_updRing (k : Nat) (n : Nat) (f : Ring → Ring) (s : State) : getLctx (updRing k f s) n = getLctx s n := rfl
@[simp] theorem getLctx_setCtx (k : Nat) (n : Nat) (v : Option Ctx) (s : State) : getLctx (setCtx k v s) n = getLctx s n := rfl
@[simp] theorem getLctx_updCtx (k : Nat) (n : Nat) (f : Ctx → Ctx) (s : State) : getLctx (updCtx k f s) n = getLctx s n := by
  unfold updCtx; split <;> rfl

@[simp] theorem getScn_setScn (k n : Nat) (v : SconceR) (s : State) : getScn (setScn k v s) n = if n = k then v else getScn s n := by
  simp [getScn, setScn]
@[simp] theorem setScn_setScn (n : Nat) (u v : SconceR) (s : State) : setScn n v (setScn n u s) = setScn n v s := by
  simp [setScn]
@[simp] theorem getScn_updScn (k n : Nat) (f : SconceR → SconceR) (s : State) :
    getScn (updScn k f s) n = if n = k then f (getScn s k) else getScn s n := by
  simp [getScn, updScn, setScn]
@[simp] theorem getScn_setWick (k j : Nat) (n : Nat) (v : Wick) (s : State) : getScn (setWick k j v s) n = getScn s n := rfl
@[simp] theorem getScn_updWick (k j : Nat) (n : Nat) (f : Wick → Wick) (s : State) : getScn (updWick k j f s) n = getScn s n := rfl
@[simp] theorem getScn_setLan (k : Nat) (n : Nat) (v : Lantern) (s : State) : getScn (setLan k v s) n = getScn s n := rfl
@[simp] theorem getScn_updLan (k : Nat) (n : Nat) (f : Lantern → Lantern) (s : State) : getScn (updLan k f s) n = getScn s n := rfl
@[simp] theorem getScn_setEng (k : Nat) (n : Nat) (v : Engine) (s : State) : getScn (setEng k v s) n = getScn s n := rfl
@[simp] theorem getScn_updEng (k : Nat) (n : Nat) (f : Engine → Engine) (s : State) : getScn (updEng k f s) n = getScn s n := rfl
@[simp] theorem getScn_setLctx (k : Nat) (n : Nat) (v : LmpCtx) (s : State) : getScn (setLctx k v s) n = getScn s n := rfl
@[simp] theorem getScn_updLctx (k : Nat) (n : Nat) (f : LmpCtx → LmpCtx) (s : State) : getScn (updLctx k f s) n = getScn s n := rfl
@[simp] theorem getScn_setStk (k : Nat) (n : Nat) (v : Stack) (s : State) : getScn (setStk k v s) n = getScn s n := rfl
@[simp] theorem getScn_updStk (k : Nat) (n : Nat) (f : Stack → Stack) (s : State) : getScn (updStk k f s) n = getScn s n := rfl
@[simp] theorem getScn_updPort (k : Nat) (n : Nat) (f : Port → Port) (s : State) : getScn (updPort k f s) n = getScn s n := rfl
@[simp] theorem getScn_updLink (k : Nat) (n : Nat) (f : Link → Link) (s : State) : getScn (updLink k f s) n = getScn s n := rfl
@[simp] theorem getScn_updNbr (k : Nat) (n : Nat) (f : Neighbour → Neighbour) (s : State) : getScn (updNbr k f s) n = getScn s n := rfl
@[simp] theorem getScn_updRing (k : Nat) (n : Nat) (f : Ring → Ring) (s : State) : getScn (updRing k f s) n = getScn s n := rfl
@[simp] theorem getScn_setCtx (k : Nat) (n : Nat) (v : Option Ctx) (s : State) : getScn (setCtx k v s) n = getScn s n := rfl
@[simp] theorem getScn_updCtx (k : Nat) (n : Nat) (f : Ctx → Ctx) (s : State) : getScn (updCtx k f s) n = getScn s n := by
  unfold updCtx; split <;> rfl

@[simp] theorem getStk_setStk (k n : Nat) (v : Stack) (s : State) : getStk (setStk k v s) n = if n = k then v else getStk s n := by
  simp [getStk, setStk]
@[simp] theorem setStk_setStk (n : Nat) (u v : Stack) (s : State) : setStk n v (setStk n u s) = setStk n v s := by
  simp [setStk]
@[simp] theorem getStk_updStk (k n : Nat) (f : Stack → Stack) (s : State) :
    getStk (updStk k f s) n = if n = k then f (getStk s k) else getStk s n := by
  simp [getStk, updStk, setStk]
@[simp] theorem getStk_setWick (k j : Nat) (n : Nat) (v : Wick) (s : State) : getStk (setWick k j v s) n = getStk s n := rfl
@[simp] theorem getStk_updWick (k j : Nat) (n : Nat) (f : Wick → Wick) (s : State) : getStk (updWick k j f s) n = getStk s n := rfl
@[simp] theorem getStk_setLan (k : Nat) (n : Nat) (v : Lantern) (s : State) : getStk (setLan k v s) n = getStk s n := rfl
@[simp] theorem getStk_updLan (k : Nat) (n : Nat) (f : Lantern → Lantern) (s : State) : getStk (updLan k f s) n = getStk s n := rfl
@[simp] theorem getStk_setEng (k : Nat) (n : Nat) (v : Engine) (s : State) : getStk (setEng k v s) n = getStk s n := rfl
@[simp] theorem getStk_updEng (k : Nat) (n : Nat) (f : Engine → Engine) (s : State) : getStk (updEng k f s) n = getStk s n := rfl
@[simp] theorem getStk_setLctx (k : Nat) (n : Nat) (v : LmpCtx) (s : State) : getStk (setLctx k v s) n = getStk s n := rfl
@[simp] theorem getStk_updLctx (k : Nat) (n : Nat) (f : LmpCtx → LmpCtx) (s : State) : getStk (updLctx k f s) n = getStk s n := rfl
@[simp] theorem getStk_setScn (k : Nat) (n : Nat) (v : SconceR) (s : State) : getStk (setScn k v s) n = getStk s n := rfl
@[simp] theorem getStk_updScn (k : Nat) (n : Nat) (f : SconceR → SconceR) (s : State) : getStk (updScn k f s) n = getStk s n := rfl
@[simp] theorem getStk_updPort (k : Nat) (n : Nat) (f : Port → Port) (s : State) : getStk (updPort k f s) n = getStk s n := rfl
@[simp] theorem getStk_updLink (k : Nat) (n : Nat) (f : Link → Link) (s : State) : getStk (updLink k f s) n = getStk s n := rfl
@[simp] theorem getStk_updNbr (k : Nat) (n : Nat) (f : Neighbour → Neighbour) (s : State) : getStk (updNbr k f s) n = getStk s n := rfl
@[simp] theorem getStk_updRing (k : Nat) (n : Nat) (f : Ring → Ring) (s : State) : getStk (updRing k f s) n = getStk s n := rfl
@[simp] theorem getStk_setCtx (k : Nat) (n : Nat) (v : Option Ctx) (s : State) : getStk (setCtx k v s) n = getStk s n := rfl
@[simp] theorem getStk_updCtx (k : Nat) (n : Nat) (f : Ctx → Ctx) (s : State) : getStk (updCtx k f s) n = getStk s n := by
  unfold updCtx; split <;> rfl

@[simp] theorem getPort_updPort (k n : Nat) (f : Port → Port) (s : State) :
    getPort (updPort k f s) n = if n = k then f (getPort s k) else getPort s n := by
  simp [getPort, updPort]
@[simp] theorem getPort_setWick (k j : Nat) (n : Nat) (v : Wick) (s : State) : getPort (setWick k j v s) n = getPort s n := rfl
@[simp] theorem getPort_updWick (k j : Nat) (n : Nat) (f : Wick → Wick) (s : State) : getPort (updWick k j f s) n = getPort s n := rfl
@[simp] theorem getPort_setLan (k : Nat) (n : Nat) (v : Lantern) (s : State) : getPort (setLan k v s) n = getPort s n := rfl
@[simp] theorem getPort_updLan (k : Nat) (n : Nat) (f : Lantern → Lantern) (s : State) : getPort (updLan k f s) n = getPort s n := rfl
@[simp] theorem getPort_setEng (k : Nat) (n : Nat) (v : Engine) (s : State) : getPort (setEng k v s) n = getPort s n := rfl
@[simp] theorem getPort_updEng (k : Nat) (n : Nat) (f : Engine → Engine) (s : State) : getPort (updEng k f s) n = getPort s n := rfl
@[simp] theorem getPort_setLctx (k : Nat) (n : Nat) (v : LmpCtx) (s : State) : getPort (setLctx k v s) n = getPort s n := rfl
@[simp] theorem getPort_updLctx (k : Nat) (n : Nat) (f : LmpCtx → LmpCtx) (s : State) : getPort (updLctx k f s) n = getPort s n := rfl
@[simp] theorem getPort_setScn (k : Nat) (n : Nat) (v : SconceR) (s : State) : getPort (setScn k v s) n = getPort s n := rfl
@[simp] theorem getPort_updScn (k : Nat) (n : Nat) (f : SconceR → SconceR) (s : State) : getPort (updScn k f s) n = getPort s n := rfl
@[simp] theorem getPort_setStk (k : Nat) (n : Nat) (v : Stack) (s : State) : getPort (setStk k v s) n = getPort s n := rfl
@[simp] theorem getPort_updStk (k : Nat) (n : Nat) (f : Stack → Stack) (s : State) : getPort (updStk k f s) n = getPort s n := rfl
@[simp] theorem getPort_updLink (k : Nat) (n : Nat) (f : Link → Link) (s : State) : getPort (updLink k f s) n = getPort s n := rfl
@[simp] theorem getPort_updNbr (k : Nat) (n : Nat) (f : Neighbour → Neighbour) (s : State) : getPort (updNbr k f s) n = getPort s n := rfl
@[simp] theorem getPort_updRing (k : Nat) (n : Nat) (f : Ring → Ring) (s : State) : getPort (updRing k f s) n = getPort s n := rfl
@[simp] theorem getPort_setCtx (k : Nat) (n : Nat) (v : Option Ctx) (s : State) : getPort (setCtx k v s) n = getPort s n := rfl
@[simp] theorem getPort_updCtx (k : Nat) (n : Nat) (f : Ctx → Ctx) (s : State) : getPort (updCtx k f s) n = getPort s n := by
  unfold updCtx; split <;> rfl

@[simp] theorem getLink_updLink (k n : Nat) (f : Link → Link) (s : State) :
    getLink (updLink k f s) n = if n = k then f (getLink s k) else getLink s n := by
  simp [getLink, updLink]
@[simp] theorem getLink_setWick (k j : Nat) (n : Nat) (v : Wick) (s : State) : getLink (setWick k j v s) n = getLink s n := rfl
@[simp] theorem getLink_updWick (k j : Nat) (n : Nat) (f : Wick → Wick) (s : State) : getLink (updWick k j f s) n = getLink s n := rfl
@[simp] theorem getLink_setLan (k : Nat) (n : Nat) (v : Lantern) (s : State) : getLink (setLan k v s) n = getLink s n := rfl
@[simp] theorem getLink_updLan (k : Nat) (n : Nat) (f : Lantern → Lantern) (s : State) : getLink (updLan k f s) n = getLink s n := rfl
@[simp] theorem getLink_setEng (k : Nat) (n : Nat) (v : Engine) (s : State) : getLink (setEng k v s) n = getLink s n := rfl
@[simp] theorem getLink_updEng (k : Nat) (n : Nat) (f : Engine → Engine) (s : State) : getLink (updEng k f s) n = getLink s n := rfl
@[simp] theorem getLink_setLctx (k : Nat) (n : Nat) (v : LmpCtx) (s : State) : getLink (setLctx k v s) n = getLink s n := rfl
@[simp] theorem getLink_updLctx (k : Nat) (n : Nat) (f : LmpCtx → LmpCtx) (s : State) : getLink (updLctx k f s) n = getLink s n := rfl
@[simp] theorem getLink_setScn (k : Nat) (n : Nat) (v : SconceR) (s : State) : getLink (setScn k v s) n = getLink s n := rfl
@[simp] theorem getLink_updScn (k : Nat) (n : Nat) (f : SconceR → SconceR) (s : State) : getLink (updScn k f s) n = getLink s n := rfl
@[simp] theorem getLink_setStk (k : Nat) (n : Nat) (v : Stack) (s : State) : getLink (setStk k v s) n = getLink s n := rfl
@[simp] theorem getLink_updStk (k : Nat) (n : Nat) (f : Stack → Stack) (s : State) : getLink (updStk k f s) n = getLink s n := rfl
@[simp] theorem getLink_updPort (k : Nat) (n : Nat) (f : Port → Port) (s : State) : getLink (updPort k f s) n = getLink s n := rfl
@[simp] theorem getLink_updNbr (k : Nat) (n : Nat) (f : Neighbour → Neighbour) (s : State) : getLink (updNbr k f s) n = getLink s n := rfl
@[simp] theorem getLink_updRing (k : Nat) (n : Nat) (f : Ring → Ring) (s : State) : getLink (updRing k f s) n = getLink s n := rfl
@[simp] theorem getLink_setCtx (k : Nat) (n : Nat) (v : Option Ctx) (s : State) : getLink (setCtx k v s) n = getLink s n := rfl
@[simp] theorem getLink_updCtx (k : Nat) (n : Nat) (f : Ctx → Ctx) (s : State) : getLink (updCtx k f s) n = getLink s n := by
  unfold updCtx; split <;> rfl

@[simp] theorem getNbr_updNbr (k n : Nat) (f : Neighbour → Neighbour) (s : State) :
    getNbr (updNbr k f s) n = if n = k then f (getNbr s k) else getNbr s n := by
  simp [getNbr, updNbr]
@[simp] theorem getNbr_setWick (k j : Nat) (n : Nat) (v : Wick) (s : State) : getNbr (setWick k j v s) n = getNbr s n := rfl
@[simp] theorem getNbr_updWick (k j : Nat) (n : Nat) (f : Wick → Wick) (s : State) : getNbr (updWick k j f s) n = getNbr s n := rfl
@[simp] theorem getNbr_setLan (k : Nat) (n : Nat) (v : Lantern) (s : State) : getNbr (setLan k v s) n = getNbr s n := rfl
@[simp] theorem getNbr_updLan (k : Nat) (n : Nat) (f : Lantern → Lantern) (s : State) : getNbr (updLan k f s) n = getNbr s n := rfl
@[simp] theorem getNbr_setEng (k : Nat) (n : Nat) (v : Engine) (s : State) : getNbr (setEng k v s) n = getNbr s n := rfl
@[simp] theorem getNbr_updEng (k : Nat) (n : Nat) (f : Engine → Engine) (s : State) : getNbr (updEng k f s) n = getNbr s n := rfl
@[simp] theorem getNbr_setLctx (k : Nat) (n : Nat) (v : LmpCtx) (s : State) : getNbr (setLctx k v s) n = getNbr s n := rfl
@[simp] theorem getNbr_updLctx (k : Nat) (n : Nat) (f : LmpCtx → LmpCtx) (s : State) : getNbr (updLctx k f s) n = getNbr s n := rfl
@[simp] theorem getNbr_setScn (k : Nat) (n : Nat) (v : SconceR) (s : State) : getNbr (setScn k v s) n = getNbr s n := rfl
@[simp] theorem getNbr_updScn (k : Nat) (n : Nat) (f : SconceR → SconceR) (s : State) : getNbr (updScn k f s) n = getNbr s n := rfl
@[simp] theorem getNbr_setStk (k : Nat) (n : Nat) (v : Stack) (s : State) : getNbr (setStk k v s) n = getNbr s n := rfl
@[simp] theorem getNbr_updStk (k : Nat) (n : Nat) (f : Stack → Stack) (s : State) : getNbr (updStk k f s) n = getNbr s n := rfl
@[simp] theorem getNbr_updPort (k : Nat) (n : Nat) (f : Port → Port) (s : State) : getNbr (updPort k f s) n = getNbr s n := rfl
@[simp] theorem getNbr_updLink (k : Nat) (n : Nat) (f : Link → Link) (s : State) : getNbr (updLink k f s) n = getNbr s n := rfl
@[simp] theorem getNbr_updRing (k : Nat) (n : Nat) (f : Ring → Ring) (s : State) : getNbr (updRing k f s) n = getNbr s n := rfl
@[simp] theorem getNbr_setCtx (k : Nat) (n : Nat) (v : Option Ctx) (s : State) : getNbr (setCtx k v s) n = getNbr s n := rfl
@[simp] theorem getNbr_updCtx (k : Nat) (n : Nat) (f : Ctx → Ctx) (s : State) : getNbr (updCtx k f s) n = getNbr s n := by
  unfold updCtx; split <;> rfl

@[simp] theorem getRing_updRing (k n : Nat) (f : Ring → Ring) (s : State) :
    getRing (updRing k f s) n = if n = k then f (getRing s k) else getRing s n := by
  simp [getRing, updRing]
@[simp] theorem getRing_setWick (k j : Nat) (n : Nat) (v : Wick) (s : State) : getRing (setWick k j v s) n = getRing s n := rfl
@[simp] theorem getRing_updWick (k j : Nat) (n : Nat) (f : Wick → Wick) (s : State) : getRing (updWick k j f s) n = getRing s n := rfl
@[simp] theorem getRing_setLan (k : Nat) (n : Nat) (v : Lantern) (s : State) : getRing (setLan k v s) n = getRing s n := rfl
@[simp] theorem getRing_updLan (k : Nat) (n : Nat) (f : Lantern → Lantern) (s : State) : getRing (updLan k f s) n = getRing s n := rfl
@[simp] theorem getRing_setEng (k : Nat) (n : Nat) (v : Engine) (s : State) : getRing (setEng k v s) n = getRing s n := rfl
@[simp] theorem getRing_updEng (k : Nat) (n : Nat) (f : Engine → Engine) (s : State) : getRing (updEng k f s) n = getRing s n := rfl
@[simp] theorem getRing_setLctx (k : Nat) (n : Nat) (v : LmpCtx) (s : State) : getRing (setLctx k v s) n = getRing s n := rfl
@[simp] theorem getRing_updLctx (k : Nat) (n : Nat) (f : LmpCtx → LmpCtx) (s : State) : getRing (updLctx k f s) n = getRing s n := rfl
@[simp] theorem getRing_setScn (k : Nat) (n : Nat) (v : SconceR) (s : State) : getRing (setScn k v s) n = getRing s n := rfl
@[simp] theorem getRing_updScn (k : Nat) (n : Nat) (f : SconceR → SconceR) (s : State) : getRing (updScn k f s) n = getRing s n := rfl
@[simp] theorem getRing_setStk (k : Nat) (n : Nat) (v : Stack) (s : State) : getRing (setStk k v s) n = getRing s n := rfl
@[simp] theorem getRing_updStk (k : Nat) (n : Nat) (f : Stack → Stack) (s : State) : getRing (updStk k f s) n = getRing s n := rfl
@[simp] theorem getRing_updPort (k : Nat) (n : Nat) (f : Port → Port) (s : State) : getRing (updPort k f s) n = getRing s n := rfl
@[simp] theorem getRing_updLink (k : Nat) (n : Nat) (f : Link → Link) (s : State) : getRing (updLink k f s) n = getRing s n := rfl
@[simp] theorem getRing_updNbr (k : Nat) (n : Nat) (f : Neighbour → Neighbour) (s : State) : getRing (updNbr k f s) n = getRing s n := rfl
@[simp] theorem getRing_setCtx (k : Nat) (n : Nat) (v : Option Ctx) (s : State) : getRing (setCtx k v s) n = getRing s n := rfl
@[simp] theorem getRing_updCtx (k : Nat) (n : Nat) (f : Ctx → Ctx) (s : State) : getRing (updCtx k f s) n = getRing s n := by
  unfold updCtx; split <;> rfl

@[simp] theorem getCtx_setCtx (k n : Nat) (v : Option Ctx) (s : State) : getCtx (setCtx k v s) n = if n = k then v else getCtx s n := by
  simp [getCtx, setCtx]
@[simp] theorem setCtx_setCtx (n : Nat) (u v : Option Ctx) (s : State) : setCtx n v (setCtx n u s) = setCtx n v s := by
  simp [setCtx]
@[simp] theorem getCtx_updCtx (k n : Nat) (f : Ctx → Ctx) (s : State) :
    getCtx (updCtx k f s) n = if n = k then (getCtx s k).map f else getCtx s n := by
  unfold updCtx
  split
  · rename_i h; split <;> simp_all
  · rename_i h; simp [h]
@[simp] theorem getCtx_setWick (k j : Nat) (n : Nat) (v : Wick) (s : State) : getCtx (setWick k j v s) n = getCtx s n := rfl
@[simp] theorem getCtx_updWick (k j : Nat) (n : Nat) (f : Wick → Wick) (s : State) : getCtx (updWick k j f s) n = getCtx s n := rfl
@[simp] theorem getCtx_setLan (k : Nat) (n : Nat) (v : Lantern) (s : State) : getCtx (setLan k v s) n = getCtx s n := rfl
@[simp] theorem getCtx_updLan (k : Nat) (n : Nat) (f : Lantern → Lantern) (s : State) : getCtx (updLan k f s) n = getCtx s n := rfl
@[simp] theorem getCtx_setEng (k : Nat) (n : Nat) (v : Engine) (s : State) : getCtx (setEng k v s) n = getCtx s n := rfl
@[simp] theorem getCtx_updEng (k : Nat) (n : Nat) (f : Engine → Engine) (s : State) : getCtx (updEng k f s) n = getCtx s n := rfl
@[simp] theorem getCtx_setLctx (k : Nat) (n : Nat) (v : LmpCtx) (s : State) : getCtx (setLctx k v s) n = getCtx s n := rfl
@[simp] theorem getCtx_updLctx (k : Nat) (n : Nat) (f : LmpCtx → LmpCtx) (s : State) : getCtx (updLctx k f s) n = getCtx s n := rfl
@[simp] theorem getCtx_setScn (k : Nat) (n : Nat) (v : SconceR) (s : State) : getCtx (setScn k v s) n = getCtx s n := rfl
@[simp] theorem getCtx_updScn (k : Nat) (n : Nat) (f : SconceR → SconceR) (s : State) : getCtx (updScn k f s) n = getCtx s n := rfl
@[simp] theorem getCtx_setStk (k : Nat) (n : Nat) (v : Stack) (s : State) : getCtx (setStk k v s) n = getCtx s n := rfl
@[simp] theorem getCtx_updStk (k : Nat) (n : Nat) (f : Stack → Stack) (s : State) : getCtx (updStk k f s) n = getCtx s n := rfl
@[simp] theorem getCtx_updPort (k : Nat) (n : Nat) (f : Port → Port) (s : State) : getCtx (updPort k f s) n = getCtx s n := rfl
@[simp] theorem getCtx_updLink (k : Nat) (n : Nat) (f : Link → Link) (s : State) : getCtx (updLink k f s) n = getCtx s n := rfl
@[simp] theorem getCtx_updNbr (k : Nat) (n : Nat) (f : Neighbour → Neighbour) (s : State) : getCtx (updNbr k f s) n = getCtx s n := rfl
@[simp] theorem getCtx_updRing (k : Nat) (n : Nat) (f : Ring → Ring) (s : State) : getCtx (updRing k f s) n = getCtx s n := rfl

end Sys2Proof.Machine
end

