-- ==== Sys2Proof/WellFormed.lean ====
section
/-! DEFINITION. When a command's operands are ones the manual's formats allow. -/

namespace Sys2Proof

/-- Every listed column is below a bound. -/
def colsBelow (n : Nat) (l : List Nat) : Bool := l.all (fun c => c < n)

/-- Errors by physical column of a wick, spare columns included (R8, R35). -/
def errsBelow (n : Nat) (l : List (Nat × Int)) : Bool := l.all (fun p => p.1 < n)

/-- Verify reads name cells of the array: 2,048 rows by 520 columns (R25, R43). -/
def readsOk (l : List (Nat × Nat × List Int)) : Bool := l.all (fun r => r.1 < 2048 && r.2.1 < 520)

/-- A 256-byte block of one plane has an index below 64 (R102, R103). -/
def InBlock.ok (b : InBlock) : Bool := decide (b.idx < 64)

/-- A container's header has 256 bytes and its plaintext at most 8,454,144 (R429, R430). -/
def ShardBody.ok (b : ShardBody) : Bool := b.hdr.length == 256 && b.body.all (fun p => p.1 < 8454144)

/-- A certificate's keys take 436 bytes (R453). -/
def Cert.ok (c : Cert) : Bool := c.key.length == 436

/-- An S40 message carries its groups in whole 256-byte blocks (R335). -/
def Msg.ok (m : Msg) : Bool :=
  match m.body with
  | .s40 _ data => data.length % 256 == 0
  | _ => true

/-- The command's operands respect the manual's sizes and ranges. -/
def WellFormed : Instr → Bool
  | .bootRom b => b.dir.length == 7 && b.ident.all Cert.ok
  | .attestReceive _ r => r.chain.all Cert.ok
  | .inputBlockArrival _ b _ => b.ok
  | .broadcast _ _ b => b.ok
  | .wickStepComplete _ _ err bad => errsBelow 520 err && colsBelow 8192 bad
  | .sliceRecomputeDone _ _ err => errsBelow 512 err
  | .wickWriteDone _ _ reads => readsOk reads
  | .wickRepairPassDone _ _ reads => readsOk reads
  | .lookupCandidateConfirm _ _ c => decide (c < 512)
  | .lanternRemap _ closing => closing.all (fun p => errsBelow 520 p.2)
  | .curfewLift _ _ closing => closing.all (fun p => errsBelow 520 p.2.2)
  | .holdRuleTimeout _ _ closing => closing.all (fun p => errsBelow 520 p.2.2)
  | .shardSegmentsComplete _ _ _ b closing => b.ok && closing.all (fun p => errsBelow 520 p.2.2)
  | .storageCheckPoll _ _ _ b closing => b.all ShardBody.ok && closing.all (fun p => errsBelow 520 p.2.2)
  | .stackTrainingDone _ _ r => decide (r < 256)
  | .s40Receive _ m _ => m.ok
  | .fabRoute _ _ first ents => decide (first + ents.length ≤ 4096)
  | .patrolPass _ _ bad => bad.all (fun b => b < 402653184)
  | _ => true

end Sys2Proof
end

