-- ==== Sys2Proof/Tests/Slice0.lean ====
section
/-! SUPPORT. Checks of well-formedness, the manual's worked examples, and for each statement with hypotheses states and operands
that meet them. -/

namespace Sys2Proof.Tests

open Sys2Proof Sys2Proof.Machine

set_option Elab.async false
set_option linter.unusedVariables false

/-! ### What well-formedness refuses -/

/-- A 256-byte input block of a direct vector of 32 I4 elements. -/
def blk : InBlock :=
  { vec := 1, idx := 63, lpass := false, src := { how := .direct, epoch := 0, fmt := 0x3, blocked := false, n := 32, data := List.replicate 16 0x21 } }

/-- A plane of an input slot has blocks 0 to 63 (R102, R103). -/
theorem test_wf_input_block :
    WellFormed (.inputBlockArrival 0 blk true) = true ∧ WellFormed (.inputBlockArrival 0 { blk with idx := 64 } true) = false := by
  decide +kernel

/-- The same block broadcast. -/
theorem test_wf_broadcast :
    WellFormed (.broadcast 0 [0, 1] blk) = true ∧ WellFormed (.broadcast 0 [0] { blk with idx := 64 }) = false := by
  decide +kernel

/-- Physical column 520 of a wick does not exist, nor check-store entry 8,192 (R216). -/
theorem test_wf_wick_step :
    WellFormed (.wickStepComplete 0 0 [(519, 1)] [8191]) = true ∧
    WellFormed (.wickStepComplete 0 0 [(520, 1)] []) = false ∧ WellFormed (.wickStepComplete 0 0 [] [8192]) = false := by
  decide +kernel

/-- Logical column 512 of a slice does not exist. -/
theorem test_wf_recompute :
    WellFormed (.sliceRecomputeDone 0 0 [(511, 1)]) = true ∧ WellFormed (.sliceRecomputeDone 0 0 [(512, 1)]) = false := by
  decide +kernel

/-- Verify reads are of rows 0 to 2,047 and physical columns 0 to 519 (R25, R43). -/
theorem test_wf_wick_write :
    WellFormed (.wickWriteDone 0 0 [(2047, 519, [33])]) = true ∧ WellFormed (.wickWriteDone 0 0 [(2048, 0, [33])]) = false ∧
    WellFormed (.wickWriteDone 0 0 [(0, 520, [33])]) = false ∧
    WellFormed (.wickRepairPassDone 0 0 [(2047, 519, [])]) = true ∧ WellFormed (.wickRepairPassDone 0 0 [(0, 520, [])]) = false := by
  decide +kernel

/-- A lookup candidate is one of 512 columns. -/
theorem test_wf_lookup :
    WellFormed (.lookupCandidateConfirm 0 0 511) = true ∧ WellFormed (.lookupCandidateConfirm 0 0 512) = false := by
  decide +kernel

/-- A closing probe step's errors are of physical columns (R446). -/
theorem test_wf_closing (k : LinkI) (m : Msg) (x : W16) (f : W32) :
    WellFormed (.lanternRemap 0 [(3, [(519, 1)])]) = true ∧ WellFormed (.lanternRemap 0 [(3, [(520, 1)])]) = false ∧
    WellFormed (.curfewLift k m [(0, 3, [(520, 1)])]) = false ∧ WellFormed (.holdRuleTimeout x f [(0, 3, [(520, 1)])]) = false :=
  ⟨rfl, rfl, rfl, rfl⟩

/-- A container's header has 256 bytes and its plaintext at most 8,454,144 (R429, R430). -/
theorem test_wf_shard (c : CtxI) (e n : W32) :
    let b : ShardBody := { tagOk := true, hdr := List.replicate 256 0, body := [(8454143, 1)] }
    WellFormed (.shardSegmentsComplete c e n b []) = true ∧
    WellFormed (.shardSegmentsComplete c e n { b with hdr := [] } []) = false ∧
    WellFormed (.shardSegmentsComplete c e n { b with body := [(8454144, 1)] } []) = false ∧
    WellFormed (.shardSegmentsComplete c e n b [(0, 3, [(520, 1)])]) = false ∧
    WellFormed (.storageCheckPoll c e n none []) = true ∧
    WellFormed (.storageCheckPoll c e n (some { b with hdr := [] }) []) = false := by
  simp only [WellFormed, ShardBody.ok, errsBelow, Option.all_some, Option.all_none, List.all_cons, List.all_nil, List.length_replicate, List.length_nil]
  decide

/-- A stack's repair count is a byte. -/
theorem test_wf_training :
    WellFormed (.stackTrainingDone 0 .full 255) = true ∧ WellFormed (.stackTrainingDone 0 .full 256) = false := by
  decide +kernel

/-- A routing row lies in a bank's 4,096 entries. -/
theorem test_wf_route (d : Desc) :
    WellFormed (.fabRoute d 0 4095 [0]) = true ∧ WellFormed (.fabRoute d 0 4095 [0, 0]) = false := by
  constructor <;> rfl

/-- A stack has 402,653,184 blocks of 256 bytes. -/
theorem test_wf_patrol :
    WellFormed (.patrolPass 0 0 [402653183]) = true ∧ WellFormed (.patrolPass 0 0 [402653184]) = false := by
  decide +kernel

/-- A message of partial sums carries whole 256-byte blocks (R335). -/
theorem test_wf_s40_message (h : Hdr) (k : RedHdr) (l : LinkI) :
    WellFormed (.s40Receive l { hdr := h, vl := 1, body := .s40 k (List.replicate 512 0) } false) = true ∧
    WellFormed (.s40Receive l { hdr := h, vl := 1, body := .s40 k (List.replicate 321 0) } false) = false := by
  simp only [WellFormed, Msg.ok, List.length_replicate]
  decide

/-- A certificate whose keys have `n` bytes. -/
def certOf (n : Nat) : Cert := { role := 1, issuer := 0, key := List.replicate n 0, meas := 0, svn := 0, rsa := true, slh := true }

/-- The flash directory has seven regions and a certificate's keys 436 bytes (R450, R453). -/
theorem test_wf_boot (b : BootInput) (h : b.dir = List.replicate 7 (0, 0)) (h1 : b.ident = []) :
    WellFormed (.bootRom b) = true ∧ WellFormed (.bootRom { b with dir := [] }) = false ∧
    WellFormed (.bootRom { b with ident := [certOf 436] }) = true ∧ WellFormed (.bootRom { b with ident := [certOf 435] }) = false := by
  simp only [WellFormed, h, h1]
  refine ⟨rfl, rfl, by decide +kernel, by decide +kernel⟩

/-- Nor does a report of a peer carry another certificate. -/
theorem test_wf_report (k : LinkI) (r : Report) :
    WellFormed (.attestReceive k { r with chain := [certOf 436] }) = true ∧
    WellFormed (.attestReceive k { r with chain := [certOf 437] }) = false := by
  simp only [WellFormed, Cert.ok, certOf, List.all_cons, List.all_nil, List.length_replicate]
  decide

/-! ### The manual's worked examples -/

/-- Physical lantern 700 lies in sconce 10. -/
theorem test_lantern_700 : sconceOf 700 = 10 := by decide

/-- L1 = 4,980 takes range exponent 6; L1 = 2,900 takes 5 and L1 = 96 takes 0 (R30). -/
theorem test_range_exponent : expOf 4980 = 6 ∧ expOf 2900 = 5 ∧ expOf 3072 = 5 ∧ expOf 96 = 0 := by decide

/-- One group of a flare's step over these inputs at a range exponent. -/
def fl (e : Nat) (x : List (Nat × Int)) : Flight :=
  { kind := .probe, lan := 0, pw := 0, x := x, lo := 0, hi := 2047, gidx := 0, gcnt := 1, e := e, last := true, bankB := false, tp := 0,
    trim := [], taps := [], launched := 0, dead := false }

/-- A charge of 827 is code 13 at exponent 6 (R30): rows driven by 7 against a cell of level 15 seven times, by 7 against
level 13 once and by 1 against level 1 once make 827. -/
theorem test_code_13 :
    codeOf { Wick.init with cells := [(17, 15), (537, 15), (1057, 15), (1577, 15), (2097, 15), (2617, 15), (3137, 15), (3657, 13), (4177, 1)] }
      (fl 6 [(0, 7), (1, 7), (2, 7), (3, 7), (4, 7), (5, 7), (6, 7), (7, 7), (8, 1)]) [] 17 = 13 := by
  decide +kernel

/-- A key that matches gives d = 0, and one that differs in three bits d = 3, over a lookup wick of four pairs whose last
three pairs are stored the other way round (R54, R55). -/
theorem test_lookup_distance :
    let same : Wick := { Wick.init with cells := [(0, 9), (520, 7), (1040, 9), (1560, 7), (2080, 9), (2600, 7), (3120, 9), (3640, 7)] }
    let diff : Wick := { Wick.init with cells := [(0, 9), (520, 7), (1040, 7), (1560, 9), (2080, 7), (2600, 9), (3120, 7), (3640, 9)] }
    let q : List (Nat × Int) := [(0, 1), (1, -1), (2, 1), (3, -1), (4, 1), (5, -1), (6, 1), (7, -1)]
    distOf same (fl 2 q) [] 0 = 0 ∧ distOf diff (fl 2 q) [] 0 = 3 := by
  decide +kernel

/-- A charge of 6,144 fires once, more in halves, and a half above the limit in quarters (R32). -/
theorem test_split_plan :
    planGroups 6144 0 6144 0 0 0 = [(0, 4)] ∧ planGroups 6144 0 6144 0 1 0 = [(0, 2), (2, 2)] ∧
    planGroups 6144 0 6144 1 0 0 = [(0, 1), (1, 1), (2, 1), (3, 1)] ∧ planGroups 6144 0 0 0 0 0 = [] := by
  decide

/-- Half sums of 2,900 and 3,400 fire two groups, at exponents 5 and 6 (R32, R104). -/
theorem test_two_groups :
    planGroups 6144 0 1450 1450 1700 1700 = [(0, 2), (2, 2)] ∧ expOf 2900 = 5 ∧ expOf 3400 = 6 := by decide

/-- At 64.5 °C, codes −5 at 60 °C and +3 at 75 °C give −3 (R184). -/
theorem test_trim_code : trimCode [(2 * 520, -5), (3 * 520, 3)] 0 0 129 = -3 := by decide +kernel

/-- 380 W at level 16 give 140,740,740 BU a flicker; a weight of 16 is 8,796,296 BU, 192 is 105,555,555 and 64 is
35,185,185. -/
theorem test_budget :
    let s : State := { State.reset with
      pwr := { State.reset.pwr with arrNow := 380, level := 16 }
      lctx := [(0, { LmpCtx.init with weight := 16 }), (1, { LmpCtx.init with weight := 192 }), (2, { LmpCtx.init with weight := 64 })] }
    budget s = 140740740 ∧ share s 0 = 8796296 ∧ share s 1 = 105555555 ∧ share s 2 = 35185185 := by
  decide +kernel

/-- A limit of 600 W scales the default shares to 240 W of arrays and 138 W of vector engines, and B to 88,888,888 BU. -/
theorem test_power_limit :
    let p := takeShares { State.reset.pwr with limit := 600 }
    p.arrNow = 240 ∧ p.vecNow = 138 ∧ budget { State.reset with pwr := p } = 88888888 := by
  decide +kernel

/-- An excess of 7,757 u and an index-weighted one of 140,160 u point at column 17 of the group (R217). -/
theorem test_location_hint : locate 7757 140160 (820 * 64) = some 17 := by decide

/-- Context slot 3 owns sconces 4 to 7: offset 0x5123 of its view lies at 0x0_2078_0000_1123. -/
theorem test_interleaved :
    placeOf { State.reset with scn := [(4, { SconceR.init with owner := some 3 }), (5, { SconceR.init with owner := some 3 }),
        (6, { SconceR.init with owner := some 3 }), (7, { SconceR.init with owner := some 3 })] } 0x0060000005123 =
      some 0x0207800001123 := by
  decide +kernel

/-- The CRC-32C of the characters 1 to 9 is 0xE306_9283 (R223). -/
theorem test_crc32c : crc32c [0x31, 0x32, 0x33, 0x34, 0x35, 0x36, 0x37, 0x38, 0x39] = 0xE3069283 := by decide +kernel

/-- With 512 entries and 1,010 posted, the next completion of ring 5 lies at CQBASE + 0x7C80 with PHASE 1. -/
theorem test_completion_slot (c : Cpl) :
    (postRaw 5 c { State.reset with mbx := { State.reset.mbx with
        rings := [(5, { Ring.init with cqbase := 0x100000, cqlog2 := 9, cqtail := 1010 })] } }).posted.map (fun p => (p.addr, p.phase)) =
      [(0x107C80, true)] := rfl

/-- Partials of 1,234.5 and −1,000.25 at exponent −20 add to 245,628,928 (R97, R98). -/
theorem test_s40_sum :
    addGroups 0 [{ exp := -20, mant := [1294467072] }] [{ exp := -20, mant := [-1048838144] }] = [{ exp := -20, mant := [245628928] }] := by
  decide +kernel

/-- A partial of 3,000 at exponent −20 clamps to 2,147,483,647 and sets RANGE; one of 1,234.5 is 1,294,467,072 (R98). -/
theorem test_s40_mant :
    s40Mant (-20) 0x453B8000 = (2147483647, ⟨true, false⟩) ∧ s40Mant (-20) 0x449A5000 = (1294467072, FFlags.none) := by decide +kernel

/-- L1 = 1,792 with CLIPK 4.5 gives the threshold 8,064 × 2^−17, and with it k = −6 (R88, R89). -/
theorem test_threshold :
    clipT 0x40900000 0x44E00000 = (0x3D7C0000, FFlags.none) ∧ vecExp 7 (dyOf 0x3D7C0000) = (-6, false) := by decide +kernel

/-- At k = −6 the elements 0.05, −0.0390625 and 0.061523437 quantize to 3, −2 and 4 (R90). -/
theorem test_quantized_elements :
    (rneSat (-6) (-8) 7 (dyOf 0x3D4CCCCD)).1 = 3 ∧ (rneSat (-6) (-8) 7 (dyOf 0xBD200000)).1 = -2 ∧
    (rneSat (-6) (-8) 7 (dyOf 0x3D7C0000)).1 = 4 := by decide +kernel

/-- A largest magnitude of 0.40 takes k8 = −8; 0.40 is then 102 and −0.05 is −13, which split into 6 and 6 and into −1 and 3 (R91,
R92). -/
theorem test_wide_fallback :
    vecExp 119 (dyOf 0x3ECCCCCD) = (-8, false) ∧ (rneSat (-8) (-128) 119 (dyOf 0x3ECCCCCD)).1 = 102 ∧
    (rneSat (-8) (-128) 119 (dyOf 0xBD4CCCCD)).1 = -13 ∧ highQ 102 = 6 ∧ lowQ 102 = 6 ∧ highQ (-13) = -1 ∧ lowQ (-13) = 3 := by
  decide +kernel

/-- An activation of 32,768 elements in blocked I8 fills 132 blocks of 256 bytes (R83). -/
theorem test_blocked_size : tensorSize 0x4 true 32768 = 132 * 256 := by decide

/-- One row at +7 against a cell of level 15 and one at −6 against level 0 charge 7 × 15 = 105 and 0; with 7 against an
unlisted cell of level 8 that makes 161, in 2,000ths (R27). -/
theorem test_charge :
    charge { Wick.init with cells := [(17, 15), (520 + 17, 0)] } [] [(0, 7), (1, -6), (2, 7)] 17 = 161 * 2000 := by decide +kernel


/-! ### States that meet the statements' hypotheses -/

/-- A certificate of the given role and issuer whose signatures verify. -/
def cert (role : Byte) (issuer : Digest) : Cert :=
  { role := role, issuer := issuer, key := List.replicate 436 role, meas := 0, svn := 0, rsa := true, slh := true }
/-- An intermediate certificate under the root keys. -/
def certInt : Cert := cert 1 Config.rootSubject
/-- An image of SVN 3. -/
def imgGood : FwImage :=
  { chain := [certInt, cert 4 (subject certInt)], rsa := true, slh := true, commit := true, svn := 3, ifmin := 1, ifmax := 1, meas := 5 }
/-- A configuration block within its ranges. -/
def cfgGood : ConfigBlock :=
  { chain := [certInt, cert 5 (subject certInt)], rsa := true, slh := true, commit := true, cfgseq := 2, cfgdig := 7, peerMin := 0,
    sameCfg := false, allow := [], enc := List.replicate 32 0,
    plat := { plimit := 950, sArr := 380, sVec := 220, sXbr := 100, sStk := 160, sSer := 50, sCtl := 40,
              thset := 92, warn := 4, adivW := 0, ndivW := 0, adivE := 0, ndivE := 0, portEn := 1, portSplit := 0,
              portCh := 0, txpre := 0, gvlW := 0, mgtSgmii := true, mgtBus := true, smbAddr := 0x20, ipv4 := 0,
              udpPort := 623, hold := 1000, lease := 600, shReh := 24, budReh := 24, rbChk := 24, patrol := 24 } }
/-- Boot inputs that pass every check, the image in slot A. -/
def bootGood : BootInput :=
  { rngOk := true, size := 8192, dir := (List.range 7).map (fun i => (1024 * i, 1024)), secret := 7,
    pufTag := Config.sha384 (secretBytes 7), counterOk := true, imgA := some imgGood, imgB := none, cfg := some cfgGood,
    ident := [certInt, cert 2 (subject certInt)], identOk := true, cclk := 10 }
/-- A region that is there gives its object. -/
theorem inRegion_ok {α : Type} (b : BootInput) (n : Nat) (o : Option α) (h : regionOk b.size b.dir n = true) : inRegion b n o = o := by
  unfold inRegion; rw [h]; rfl
/-- Two certificates chained from the root keys. -/
theorem issued_pair (a b : Cert) (h1 : a.issuer = Config.rootSubject) (h2 : a.rsa = true) (h3 : a.slh = true) (h4 : b.issuer = subject a)
    (h5 : b.rsa = true) (h6 : b.slh = true) : issued Config.rootSubject [a, b] = true := by
  simp [issued, h1, h2, h3, h4, h5, h6]
/-- The root secret is accepted. -/
theorem bootGood_puf : pufOk bootGood = true := by
  unfold pufOk; rw [show bootGood.pufTag = Config.sha384 (secretBytes bootGood.secret) from rfl, beq_self_eq_true, Bool.and_true]; decide +kernel
/-- The identity passes. -/
theorem bootGood_ident : identityOk bootGood = true := by
  unfold identityOk; rw [show issued Config.rootSubject bootGood.ident = true from issued_pair _ _ rfl rfl rfl rfl rfl rfl, Bool.and_true]
  rw [show regionOk bootGood.size bootGood.dir 1 = true by decide +kernel]; rfl
/-- The image is eligible over a floor of 0. -/
theorem imgGood_ok : imageOk 0 imgGood = true := by
  unfold imageOk chainValid; rw [show issued Config.rootSubject imgGood.chain = true from issued_pair _ _ rfl rfl rfl rfl rfl rfl]; rfl
/-- The block is accepted over a floor of 0. -/
theorem cfgGood_ok : cfgOk 0 cfgGood = true := by
  unfold cfgOk chainValid; rw [show issued Config.rootSubject cfgGood.chain = true from issued_pair _ _ rfl rfl rfl rfl rfl rfl, show platOk cfgGood.plat = true by decide +kernel]; rfl
/-- Slot A's image is chosen. -/
theorem bootGood_image : chooseImage 0 (inRegion bootGood 3 bootGood.imgA) (inRegion bootGood 4 bootGood.imgB) = some (false, imgGood) := by
  rw [inRegion_ok _ _ _ (by decide +kernel), inRegion_ok _ _ _ (by decide +kernel)]
  unfold chooseImage; rw [show bootGood.imgA = some imgGood from rfl, show bootGood.imgB = none from rfl, Option.filter_some, imgGood_ok]; rfl
/-- The block is found. -/
theorem bootGood_cfg : (inRegion bootGood 2 bootGood.cfg).filter (cfgOk 0) = some cfgGood := by
  rw [inRegion_ok _ _ _ (by decide +kernel), show bootGood.cfg = some cfgGood from rfl, Option.filter_some, cfgGood_ok]; rfl
/-- The state after power-on reset with the root PLL locked and the board pin high. -/
def sLocked : State := { State.reset with clk := { Clk.init with step := 3 } }

/-- A state in which sense point 0 warns and a freeze is in force. -/
def sDip : State := { State.reset with clk := { Clk.init with active := 1 }, lmp := { Lmp.init with frozen := true } }
/-- The supply is back at flicker 0, and 1,688 flickers have gone by. -/
def sBack : State := { State.reset with lmp := { Lmp.init with frozen := true, recovered := some 0, flicker := { val := 1688, latch := 0 } } }
/-- Sixteen dips in the last second. -/
def sDips : State := { State.reset with lmp := { Lmp.init with dipTimes := List.replicate 16 0 } }
/-- In holdover after the PLL lost lock and the package withheld. -/
def sHold : State :=
  { State.reset with clk := { Clk.init with hold := true, lock := false }, snuf := { wheld := true, cause := 8, detail := 0 },
                     mgt := { Mgt.init with started := true } }
/-- Lantern 600 of the east half holds a slot in FIRING. -/
def sFiring : State := { State.reset with lans := [(600, { Lantern.init with slot0 := { Slot.init with st := .firing } })] }

/-- Stack 3 trains. -/
def sTrain : State := { State.reset with stks := [(3, { Stack.init with st := .training })], clk := { Clk.init with step := 5 } }
/-- Sconce 2 is under scrub, its stack overwriting; one byte of its context part is listed. -/
def sScrub : State :=
  { State.reset with scn := [(2, { SconceR.init with scrub := true })],
                     stks := [(2, { Stack.init with st := .ready, scrubBusy := true, remain := 5 })],
                     mem := { bytes := [(localBase + 2 * stackSize, 7)], codes := [] } }
/-- Sconce 2 waits for its slice clearing. -/
def sSlice : State := { sScrub with stks := [(2, { Stack.init with st := .ready })] }
/-- Sconce 1 belongs to context slot 4. -/
def sOwned : State := { State.reset with scn := [(1, { SconceR.init with owner := some 4 })] }
/-- Sconce 0 at its highest supply with four suspect lanterns. -/
def sWorn : State :=
  { State.reset with scn := [(0, { SconceR.init with raised := 3 })],
                     lans := (List.range 4).map (fun l => (l, { Lantern.init with suspect := true })) }
/-- A thread of lantern 0 has an access in the crossing into the east half. -/
def sCross : State :=
  { State.reset with engs := [(0, { Engine.init with threads := [(8, some
      { ctx := 0, inv := none, vregs := 8, map := [], scratch := 0, pc := 0, wait := .run, rerun := false, reqtag := 0, inst := 0,
        loads := [{ addr := 0, vd := 0, blocks := 1, mask := 0, cross := some true, gen := 0, retried := false, err := false, writes := [], seam := [], chans := [] }] })] })] }
/-- The running image and block ask to be committed, after EN. -/
def sCommit : State :=
  { State.reset with lmp := { Lmp.init with en := true },
                     sec := { Sec.init with state := 1, image := some imgGood, cfg := some cfgGood } }

/-- A descriptor of a ring. -/
def dsc (ring : RingI) (op : Nat) : Desc :=
  { ring := ring, opcode := BitVec.ofNat 16 op, fence := false, tmo := false, timeout := 0, tag := 7, inaddr := 0, inlen := 0, outlen := 64, outaddr := 0x1000, malformed := false, inOk := true }
/-- A version is chosen, start-up is done, the Garvy Link is ACTIVE, and the rings 0, 1, 2 and 4 run. -/
def sMbx : State :=
  { State.reset with lmp := { State.reset.lmp with en := true }, mbx := { State.reset.mbx with curver := 0x0100, rings := [0, 1, 2, 4].map (fun r => (r, { Ring.init with st := .run, sqlog2 := 4, cqlog2 := 7, sqdb := 2, sqhead := 1 })) }, gvl := { State.reset.gvl with st := .active } }
/-- An access waits in the crossing into the east half, and no context owns a sconce there. -/
def sSeam : State :=
  { sMbx with engs := [(5, { Engine.init with threads := [(0, some { ctx := 0, inv := none, vregs := 64, map := [], scratch := 0, pc := 0, wait := .run, rerun := false, reqtag := 0, inst := 0, loads := [{ addr := 0, vd := 2, blocks := 1, mask := 1, cross := some true, gen := 0, retried := false, err := false, seam := [], chans := [], writes := [] }] })] })] }
/-- A ring table entry in range. -/
def ent0 : RingEntry := { sqbase := 0x1000, cqbase := 0x2000, sqlog2 := 4, cqlog2 := 7, reservedZero := true }
/-- Ring 4 is OFF and holds a completion. -/
def sHeld : State :=
  { sMbx with mbx := { sMbx.mbx with rings := [(4, { Ring.init with heldCpl := [cplOf (dsc 4 0x0205) 0 0 []] })] } }
/-- Ring 4 runs and holds a notification. -/
def sNote : State :=
  { sMbx with mbx := { sMbx.mbx with rings := [(4, { Ring.init with st := .run, sqlog2 := 4, cqlog2 := 7, notes := [cplOf (dsc 4 0x0581) 3 0 []] })] } }

/-- What a CTX.CREATE asks for. -/
def carg : CtxArg :=
  { ctxid := 5, sconces := 2, weight := 0, daylight := false, log := false, wset := false, pfx := false, pfxlant := 0, rings := 0x20, batchmax := 4, qmax := 4, vocab := 100 }
/-- A kernel image in range. -/
def img0 : KImage :=
  { magicOk := true, codesize := 8, entries := 1, vregs := 8, threads := 1, scratch := 0, tlimit := 10, entryOffs := List.replicate 16 0, reservedZero := true, sigsOk := true, digest := 0, code := List.replicate 8 0, sigs := List.replicate 32 0 }
/-- Context 5 in slot 0 owns sconce 0; ring 4 is bound to it; lantern 2 serves logical lantern 2; an image is loaded. -/
def sCtx : State :=
  { sMbx with mbx := { sMbx.mbx with rings := [(4, { Ring.init with st := .run, ctx := some 0, sqlog2 := 4, cqlog2 := 7, sqdb := 2, sqhead := 1 })] ++ sMbx.mbx.rings.take 1 },
              ctxs := [(0, some { ctxNew State.reset (dsc 0 0x0201) carg 0 1 with sconces := 1, nkeys := 1, kernels := [{ handle := 0, slice := 0, size := 256, addr := 0, image := img0, unloading := false }] })],
              scn := [(0, { SconceR.init with owner := some 0 })], lans := [(2, { Lantern.init with st := .service, llan := some 2 })] }
/-- The same, with all sixteen stacks up. -/
def sUp : State := { sCtx with stks := (List.range 16).map (fun n => (n, { Stack.init with st := .ready, overwritten := true })) }
/-- A context-ring descriptor with room for its input and a mask. -/
def dscIn (op len out : Nat) : Desc := { dsc 4 op with inlen := BitVec.ofNat 32 len, outlen := BitVec.ofNat 32 out }

/-- Wick 3 of lantern 5 is UNOWNED. -/
def sIdle : State := State.reset
/-- Wick 3 of lantern 5 is under a write, with no job. -/
def sWriting : State := { State.reset with wicks := [(88, { Wick.init with st := .writing, wrBusy := true })] }
/-- The same wick under a repair pass. -/
def sRepair : State := { State.reset with wicks := [(88, { Wick.init with st := .writing, wrBusy := true, repair := true })] }
/-- A repair pass that mapped spare 513. -/
def sRepair513 : State := { State.reset with wicks := [(88, { Wick.init with st := .writing, wrBusy := true, repair := true, maxp := 4, cm0 := 0x80070000 })] }
/-- One cell of each of nine columns reads 7 to its first pulse, and so on. -/
def nineBad : Reads := (List.range 9).map (fun c => (4, c, [7]))
/-- Metadata of a lantern shard with nothing special. -/
def noMeta : ShardMeta :=
  { layer := 0, part := 0, lindex := 0, wfmt := 3, shape := 0, inmode := 0, rot := false, attGroups := 0, kdim := 0, seed := 0, clipk := 0,
    attScale := 0, lkind := 0, rbdig := [], ckdig := [], redexp := [], scale := [], kernel := none, rflags := 0, rindex := 0, rparent := 0, rmask := 0 }
/-- A shard whose readback digests are those of cells at level 8. -/
def rbShard : Shard :=
  { newShard { shard := 9, kind := 1, role := 1, head := false, source := 0xFFFF, target := 5, loff := 0, digest := 0 } with
    md := some { noMeta with rbdig := List.replicate 16 (rbDigest Wick.init) } }
/-- Wick 3 of lantern 5 serves logical wick 2; its readback has run all its rows. -/
def sReading : State :=
  { State.reset with wicks := [(88, { Wick.init with st := .service, lwick := some 2, rbBusy := true, rbRows := 2048 })],
                     lans := [(5, { Lantern.init with llan := some 5 })], scn := [(0, { SconceR.init with owner := some 0 })],
                     ctxs := [(0, some { ctxNew State.reset (dsc 0 0x0201) carg 0 1 with lkp := [rbShard] })] }
/-- Its readback meets its digest. -/
theorem sReading_hit : rbHit sReading 5 (getWick sReading 5 3) = some 2 := by
  have h1 : lanShard sReading (ctxOfLan sReading 5) (getWick sReading 5 3).srcEpoch (5 : LLan).val = some rbShard := rfl
  have h2 : rbDigest (getWick sReading 5 3) = rbDigest Wick.init := rfl
  have h3 : wantDigest rbShard 2 = rbDigest Wick.init := rfl
  unfold rbHit
  dsimp only
  rw [show (getLan sReading 5).llan = some 5 from rfl]
  simp only [Option.bind_some]
  rw [if_neg (by decide +kernel)]
  rw [h1]
  simp only
  rw [List.find?_eq_some_iff_append]
  refine ⟨by rw [h2, show wantDigest rbShard (2 : Fin 16).val = rbDigest Wick.init from h3, show ((getWick sReading 5 3).lwick == some (2 : LWick)) = true from by decide +kernel]; simp, [0, 1], (List.finRange 16).drop 3, by decide, ?_⟩
  intro a ha; simp at ha; rcases ha with rfl | rfl <;> rfl
/-- A readback of a serving wick has found a marginal cell. -/
def sServing2 : State := { State.reset with wicks := [(88, { Wick.init with st := .service, lwick := some 2, rbBusy := true, rbRows := 2048, rbMarg := 1 })] }
/-- The same wick with no readback. -/
def sServing : State := { State.reset with wicks := [(88, { Wick.init with st := .service, lwick := some 2 })] }
/-- Wick 3 of lantern 5 adopts; its readback runs. -/
def sAdopting : State := { State.reset with wicks := [(88, { Wick.init with st := .adopting, rbBusy := true, rbRows := 2048 })] }
/-- A lookup flare's slice of one group on wick 3 of lantern 5. -/
def sLookup : State :=
  let g : Grp := { e := 0, gidx := 0, gcnt := 1, lo := 0, hi := 7, vals := [], fired := [], st := .ok }
  let a : SliceAcc := { flare := 9, lw := 2, pw := 3, slice := 0, lpass := false, fallback := false, groups := [g] }
  let q : FlareReq := { cls := 0, reqtag := 0, inst := 0, tindex := 0, part := 0, lans := [], vec := 0, daylight := false, epoch := 0,
                        enq := 0, seq := 0, lan := 5, thread := 0, marks := [] }
  let r : FlareRun := { id := 9, req := q, lans := [], plans := [], launching := false, selected := 0, first := none, last := none, flying := 0,
                        redo := 0, resolved := 0, checks := 0, clean := true, hadFallback := false, marks := [], temp := 0 }
  { State.reset with wicks := [(88, { Wick.init with mode := 1 })], lans := [(5, { Lantern.init with accs := [a] })],
                     lctx := [(0, { LmpCtx.init with runs := [r] })] }

/-- The first block of a vector of one slice, taken unrotated from FP32 zeros. -/
def blk0 : InBlock := { vec := 1, idx := 0, lpass := false, src := { how := .direct, epoch := 0, fmt := 0xB, blocked := false, n := 4, data := [0x80, 0x3F] } }
/-- In slot 0 of lantern 5 one block of vector 1 failed. -/
def sFilling : State := { State.reset with lans := [(5, { Lantern.init with slot0 := { Slot.init with st := .failed, vec := 1, slices := 1, failed := [0] } })] }
/-- Both slots of lantern 5 hold other vectors. -/
def sBoth : State := { State.reset with lans := [(5, { Lantern.init with slot0 := { Slot.init with st := .ready, vec := 7 }, slot1 := { Slot.init with st := .ready, vec := 8 } })] }
/-- A flare runs for context slot 0; lantern 5 heads its row chain. -/
def sChain : State :=
  let q : FlareReq := { cls := 0, reqtag := 0, inst := 0, tindex := 0, part := 0, lans := [], vec := 0, daylight := false, epoch := 0,
                        enq := 0, seq := 0, lan := 5, thread := 0, marks := [] }
  let r : FlareRun := { id := 9, req := q, lans := [], plans := [], launching := false, selected := 0, first := none, last := none, flying := 0,
                        redo := 0, resolved := 0, checks := 0, clean := true, hadFallback := false, marks := [], temp := 0 }
  { State.reset with lctx := [(0, { LmpCtx.init with runs := [r] })] }
/-- A flare's row chain headed by lantern 5 waits for the partial of member 1; with `f`, its first failure is noted. -/
def tail9 (f : List Nat) : FlareTail :=
  { id := 9, req := { cls := 0, reqtag := 0, inst := 0, tindex := 0, part := 0, lans := [], vec := 0, daylight := false, epoch := 0, enq := 0, seq := 0, lan := 5, thread := 0, marks := [] },
    clean := true, resolved := 0, checks := 0, outs := [],
    chains := [{ head := 5, lls := [], layer := 0, part := 0, group := 0, q := 1, epoch := 0, k := 0, fbAll := [], outl := [], sigma := [], a := [2], b := [], parts := [(1, { a := [1], b := [] })], fails := f }] }
/-- The state that holds it. -/
def sTail (f : List Nat) : State := { State.reset with lctx := [(0, { LmpCtx.init with tails := [tail9 f] })] }
/-- The partial of member 1 of flare 9. -/
def part1 : ChainPartial := { flare := 9, member := 1 }
/-- Lantern 5 has wick 16 as its spare, in SPARE, and an armed swap of logical wick 2, now on wick 3. -/
def sArmed : State :=
  { State.reset with lans := [(5, { (mapSet Lantern.init 2 3) with st := .service, spare := some 16, arm := true, swapLw := 2, launched := true, ivalNext := some 2 })],
                     wicks := [(88, { Wick.init with st := .service, lwick := some 2 }), (101, { Wick.init with st := .spare })] }
/-- The same lantern with its spare out of SPARE. -/
def sArmedBad : State := { sArmed with wicks := [(88, { Wick.init with st := .service, lwick := some 2 })] }
/-- A step of lantern 5 is in flight. -/
def sFlying : State :=
  { State.reset with lmp := { State.reset.lmp with flights := [{ kind := .probe, lan := 5, pw := 2, x := [], lo := 0, hi := 0, gidx := 0, gcnt := 1, e := 0, last := true, bankB := false, tp := 0, trim := [], taps := [], launched := 1, dead := false }] } }
/-- Lantern 5 waits at its boundary for a drive calibration. -/
def sDrWait : State := { State.reset with lans := [(5, { Lantern.init with phase := .drWait, drAtBoundary := true })] }
/-- Lantern 5 has a trim change waiting. -/
def sTrimNext : State := { State.reset with lans := [(5, { Lantern.init with trimNext := [{ pw := 2, kind := 0, col := 7, delta := 1 }] })] }

/-- A flight of wick 3 of lantern 5. -/
def fly (k : StepKind) (d : Bool) : Flight :=
  { kind := k, lan := 5, pw := 3, x := [], lo := 0, hi := 7, gidx := 0, gcnt := 1, e := 0, last := true, bankB := false, tp := 0, trim := [], taps := [], launched := 0, dead := d }
/-- It is in the air. -/
def sFly (k : StepKind) (d : Bool) : State := { State.reset with lmp := { Lmp.init with flights := [fly k d] } }
/-- A flare's step in the air, with the flare running for context slot 0. -/
def sFlyFlare : State := { sChain with lmp := { Lmp.init with flights := [fly (.flare 9 2 0 false false false false) false] } }
/-- A saturated group of flare 9 waits for the digital path. -/
def sRedo : State :=
  let g : Grp := { e := 0, gidx := 0, gcnt := 1, lo := 0, hi := 7, vals := [], fired := [], st := .sat }
  { sChain with lans := [(5, { Lantern.init with accs := [{ flare := 9, lw := 2, pw := 3, slice := 0, lpass := false, fallback := false, groups := [g] }] })] }
/-- One audit copy with one empty slice waits. -/
def sAudit : State :=
  let t : SliceAcc := { flare := 9, lw := 2, pw := 3, slice := 0, lpass := false, fallback := false, groups := [] }
  let a : AuditCopy := { flare := 9, flicker := 77, ctx := 0, epoch := 1, llan := 0, reqtag := 0, inst := 0, accs := [t], inputs := [], bytes := 0 }
  { State.reset with lans := [(5, { Lantern.init with audits := [a] })] }
/-- The same with a value out of bounds. -/
def sAuditBad : State :=
  let g : Grp := { e := 0, gidx := 0, gcnt := 1, lo := 0, hi := 7, vals := [50], fired := [50], st := .ok }
  let t : SliceAcc := { flare := 9, lw := 2, pw := 3, slice := 0, lpass := false, fallback := false, groups := [g] }
  let a : AuditCopy := { flare := 9, flicker := 77, ctx := 0, epoch := 1, llan := 0, reqtag := 0, inst := 0, accs := [t], inputs := [], bytes := 0 }
  { State.reset with lans := [(5, { Lantern.init with audits := [a] })] }
/-- A group of flare 9 whose row-sum check failed waits for the digital path. -/
def sRedoRs : State :=
  let g : Grp := { e := 0, gidx := 0, gcnt := 1, lo := 0, hi := 7, vals := [], fired := [], st := .rsFail [(0, none)] }
  { sChain with lans := [(5, { Lantern.init with accs := [{ flare := 9, lw := 2, pw := 3, slice := 0, lpass := false, fallback := false, groups := [g] }] })] }
/-- A readback runs on wick 3 of lantern 5, with a probe step of row 0 in the air. -/
def sFlyProbe : State := { sFly .probe false with wicks := [(88, { Wick.init with rbBusy := true })] }
/-- A drive-reference step of lantern 5 is in the air, under its calibration. -/
def sFlyDrive : State := { sFly (.drive 3 true) false with lans := [(5, { Lantern.init with phase := .drRun })] }
/-- Lantern 5 became suspect 4,194,304 flares ago. -/
def sDecay : State := { State.reset with lans := [(5, { Lantern.init with suspect := true, lastEvent := some 0, ival := 1, flares := { val := 4194304, latch := 0 } })] }

/-- Slice 0 of lantern 5 has its 65,536 steps. -/
def sMoments : State := { State.reset with lans := [(5, { Lantern.init with momSteps := [(0, 65536)] })] }
/-- Lantern 5 serves logical lantern 0; its spare, wick 16, stands in SPARE. -/
def sRotate : State :=
  { State.reset with lans := [(5, { Lantern.init with st := .service, llan := some 0, rotEn := true, spare := some 16 })],
                     wicks := [(101, { Wick.init with st := .spare })] }
/-- The spare stands QUARANTINED with a strike. -/
def sStrike : State := { sRotate with wicks := [(101, { Wick.init with st := .quarantined, strike := true })] }
/-- A full trim of wick 3 of lantern 5 ends window 1. -/
def sWin1 : State :=
  { State.reset with lans := [(5, { Lantern.init with phase := .win1, calWick := some 3 })], wicks := [(88, { Wick.init with st := .ready, winSteps := 65536 })] }
/-- It ends window 2. -/
def sWin2 : State :=
  { State.reset with lans := [(5, { Lantern.init with phase := .win2, calWick := some 3 })], wicks := [(88, { Wick.init with st := .ready, winSteps := 65536, trimFails := 1, trimTried := true, probeFail := true })] }
/-- It ends window 2 of a first trim. -/
def sWin2a : State :=
  { State.reset with lans := [(5, { Lantern.init with phase := .win2, calWick := some 3 })], wicks := [(88, { Wick.init with st := .ready, winSteps := 65536, probeFail := true })] }
/-- A slot of lantern 5 is in FIRING. -/
def sFiring5 : State := { State.reset with lans := [(5, { Lantern.init with slot0 := { Slot.init with st := .firing } })] }
/-- It runs. -/
def sDrRun : State := { State.reset with lans := [(5, { Lantern.init with phase := .drRun, drcal := true, drGot := 7680 })] }
/-- The spare stands QUARANTINED without a strike, with the weights it carried known. -/
def sQuar : State := { sRotate with wicks := [(101, { Wick.init with st := .quarantined, src := some (0, 4) })] }
/-- Converter 0 runs a pass of one diode entry; an urgent conversion of firmware runs on converter 1. -/
def sMon : State :=
  let e : SeqEntry := { gain := 0, ts := 1, input := 3 }
  { State.reset with mon := { Mon.init with cvs := [{ MonCv.init 0 with run := true, lenNow := 1, modeNow := true, mode := true, seqNow := [e] },
      { MonCv.init 1 with urgent := some (false, { e with input := 40 }) }, MonCv.init 2, MonCv.init 3], urgBusy := true } }
/-- Diode 0 has read 15 hot samples in converter 0's running pass. -/
def sHot : State :=
  let e : SeqEntry := { gain := 0, ts := 1, input := 0 }
  let c := { MonCv.init 0 with run := true, lenNow := 1, modeNow := true, mode := true, seqNow := [e] }
  { State.reset with mon := { Mon.init with cvs := [c, MonCv.init 1, MonCv.init 2, MonCv.init 3], dtab := [(4096, 0)], temp := [(15, 900)] } }
/-- Converter 0 is idle. -/
def sMonIdle : State := { State.reset with mon := { Mon.init with cvs := [{ MonCv.init 0 with run := false }] } }
/-- Window 2 of a full trim of wick 3 of lantern 5 ends with gain 1 and offset 0 in every column. -/
def sWin2ok : State :=
  { State.reset with lans := [(5, { Lantern.init with phase := .win2, calWick := some 3, x2 := [(32768, 65536)] })],
                     wicks := [(88, { Wick.init with st := .ready, winSteps := 65536, se := 65536, s2 := (List.range 520).map (fun c => (c, 4194304)) })] }
/-- The same, and a probe step of window 2 failed its check. -/
def sWin2p : State := updWick 5 3 (fun w => { w with probeFail := true }) sWin2ok
/-- Its window fails no column. -/
theorem win2_clean : trimFailing sWin2ok 5 (getWick sWin2ok 5 3) = [] := by
  have rows (c : Nat) : windowRows sWin2ok 5 (getWick sWin2ok 5 3) 16 c = [(8, 0, 65536)] := rfl
  have cols : ∀ c < 512, Tab.get 0 (getWick sWin2ok 5 3).s1 (physCol (getWick sWin2ok 5 3) c) = 0 ∧
      Tab.get 0 (getWick sWin2ok 5 3).s2 (physCol (getWick sWin2ok 5 3) c) = 4194304 := by decide +kernel
  rw [trimFailing, List.filter_eq_nil_iff]
  intro c hc
  obtain ⟨h1, h2⟩ := cols c (List.mem_range.mp hc)
  rw [estCol, rows, h1, h2]
  decide +kernel
/-- Nor does the window with the failed step. -/
theorem win2_cleanp : trimFailing sWin2p 5 (getWick sWin2p 5 3) = [] :=
  have h (s : State) (f : Wick → Wick) (x : Wick) : trimFailing (updWick 5 3 f s) 5 { x with probeFail := true } = trimFailing s 5 x := rfl
  (h sWin2ok _ (getWick sWin2ok 5 3)).trans win2_clean
/-- Firmware's urgent request waits on converter 1. -/
def sMonWait : State :=
  { State.reset with mon := { Mon.init with cvs := [MonCv.init 0, { MonCv.init 1 with waitFw := some { gain := 0, ts := 1, input := 40 } }, MonCv.init 2, MonCv.init 3] } }

/-- ACLK runs and a probe of wick 3 of lantern 5 is granted. -/
def sGrant : State :=
  { State.reset with clk := { Clk.init with step := 7 }, lmp := { Lmp.init with grants := [.probe 5 3] },
                     wicks := [(88, { Wick.init with st := .service, rbBusy := true, rbRows := 12, rbLaunched := 12 })] }
/-- A complete daylight flare of lantern 5 whose input drives row 0 at 3; wick 0's check store predicts 15, the shadow 0. -/
def sDayBad : State :=
  let q : FlareReq := { cls := 0, reqtag := 0, inst := 0, tindex := 0, part := 0, lans := [], vec := 0, daylight := true, epoch := 0,
                        enq := 0, seq := 0, lan := 5, thread := 0, marks := [] }
  let r : FlareRun := { id := 9, req := q, lans := [(0, 5, false)], plans := [], launching := false, selected := 0, first := none, last := none, flying := 0,
                        redo := 0, resolved := 0, checks := 0, clean := true, hadFallback := false, marks := [], temp := 0 }
  { State.reset with lctx := [(0, { LmpCtx.init with runs := [r] })],
                     lans := [(5, { Lantern.init with slot0 := { Slot.init with st := .held, blocks := [(0, [3])] } })],
                     wicks := [(85, { Wick.init with src := some (0, 0), rs := [(0, 5)] })] }
/-- The journal holds an entry of request 8 of context slot 0. -/
def sJrnl : State := { State.reset with chk := { ChkDie.init with jrnl := [(0, [{ flicker := 1, part := 0, open_ := [], lans := [], reqtag := 1, inst := 8, tindex := 0, final := 7 }])] } }
/-- A complete flare of context slot 0 on lantern 5. -/
def sDone : State :=
  let q : FlareReq := { cls := 0, reqtag := 0, inst := 0, tindex := 0, part := 0, lans := [], vec := 0, daylight := false, epoch := 0,
                        enq := 0, seq := 0, lan := 5, thread := 0, marks := [] }
  let r : FlareRun := { id := 9, req := q, lans := [(0, 5, false)], plans := [], launching := false, selected := 0, first := none, last := none, flying := 0,
                        redo := 0, resolved := 0, checks := 0, clean := true, hadFallback := true, marks := [], temp := 0 }
  { State.reset with lctx := [(0, { LmpCtx.init with runs := [r] })] }
/-- EN is set, and context slot 3 owns sconce 1. -/
def sEn : State :=
  { State.reset with lmp := { Lmp.init with en := true }, clk := { Clk.init with step := 7 }, scn := [(1, { SconceR.init with owner := some 3 })],
                     pwr := { Pwr.init with level := 16, set := 90, limit := 400, vec := 354 } }
/-- Lantern 5 serves logical lantern 0; lantern 6 is HELD. -/
def sReserve : State :=
  { State.reset with lans := [(5, { Lantern.init with st := .service, llan := some 0, epoch := 4 }), (6, { Lantern.init with st := .held })] }
/-- Lantern 5 serves logical lantern 0, and the sconce has no reserve. -/
def sNoReserve : State := { State.reset with lans := [(5, { Lantern.init with st := .service, llan := some 0 })] }
/-- Context slot 0 owes a settlement to package 7; this package is 2. -/
def sSettle : State :=
  { State.reset with fab := { Fab.init with myid := 2, myidV := true, settles := [{ slot := 0, ctx := 5, reqtag := 1, inst := 8, seg := 0, final := 7 }] } }

/-- A customer thread of 64 registers in slot 8 of lantern 5, on an engine that takes customer kernels. -/
def th8 : Thread := { ctx := 0, inv := some 1, vregs := 64, map := (List.range 64).map (fun i => 64 + i), scratch := 256, pc := 64, wait := .run, loads := [], rerun := false, reqtag := 0, inst := 0 }
/-- It stands ready. -/
def sThread : State := { State.reset with engs := [(5, { Engine.init with custEn := true, threads := [(8, some th8)], inbox := [List.replicate 128 7] })],
                                          scn := [(0, { SconceR.init with owner := some 0 })] }
/-- An instruction word from its class, operation, VD, VA, VB, format and IMM. -/
def word (cls op vd va vb fmt imm : Nat) : W64 := BitVec.ofNat 64 (cls * 2 ^ 60 + op * 2 ^ 56 + vd * 2 ^ 50 + va * 2 ^ 44 + vb * 2 ^ 38 + fmt * 2 ^ 24 + imm)

/-- The same thread and a flare of lantern 0, which lantern 5 serves. -/
def sFireable : State := { sThread with lans := [(5, { Lantern.init with st := .service, llan := some 0 })] }
/-- Its context's queue holds 64 flares. -/
def sQueueFull : State :=
  { sFireable with lctx := [(0, { LmpCtx.init with queue := List.replicate 64 { cls := 0, reqtag := 0, inst := 0, tindex := 0, part := 0, lans := [], vec := 0, daylight := false, epoch := 0, enq := 0, seq := 0, lan := 5, thread := 8, marks := [] } })] }
/-- The flare. -/
def fire0 : FireArg := { cls := 1, tindex := 0, part := 0, lans := [0], vec := 3, daylight := false, epoch := 0 }
/-- The thread waits for a load of block 0x1000 into register 2, which is in place and good. -/
def sLoading : State :=
  { sThread with engs := [(5, { Engine.init with threads := [(0, some { th8 with inv := none, map := List.range 64, loads := [{ addr := 0, vd := 2, blocks := 1, mask := 1, cross := none, gen := 0, retried := false, err := false, seam := [], chans := [], writes := [] }] })] })],
                 stks := [(0, { Stack.init with st := .ready, sysk := true, overwritten := true })] }
/-- A supplied thread stands ready in slot 0. -/
def th0 : Thread := { th8 with inv := none, map := List.range 64 }
/-- Lantern 5 runs it. -/
def sSup : State := { State.reset with engs := [(5, { Engine.init with threads := [(0, some th0)] })], scn := [(0, { SconceR.init with owner := some 0 })] }
/-- An invocation. -/
def sInvV : Invocation := { id := 1, ctx := 0, handle := 0, entry := 0, lans := [5], waiting := [], cmd := none, tag := none, empty := none }
/-- An invocation of the kernel runs on lantern 5. -/
def sInv : State := { sThread with invs := [{ id := 1, ctx := 0, handle := 0, entry := 0, lans := [5], waiting := [], cmd := none, tag := none, empty := none }] }

/-- Read of a word at 0x0 of the lantern buffer: an own-buffer access. -/
def sBuf : State := sThread
/-- An access that was sent to no block. -/
def accErr : Access := { addr := storeBase, vd := 2, blocks := 1, mask := 1, cross := none, gen := 0, retried := false, err := true, seam := [], chans := [], writes := [] }
/-- Its thread. -/
def thErr : Thread := { th8 with inv := none, map := List.range 64, loads := [accErr] }
/-- The supplied thread waits for the first return of it; a customer's, in slot 8, for the second. -/
def sLoadErr : State := { sThread with xbr := { sThread.xbr with windows := [(0, BitVec.ofNat 128 (storeBase / 256 + (storeBase / 256 + 15) * 2 ^ 64 + 2 ^ 127 + 2 ^ 126 + 2 ^ 125))] }, engs := [(5, { Engine.init with threads := [(0, some thErr), (8, some { th8 with loads := [{ accErr with retried := true }] })] })] }
/-- The thread waits for the first block of the shared store. -/
def sLoadStore : State :=
  { sThread with engs := [(5, { Engine.init with threads := [(0, some { th8 with inv := none, map := List.range 64, loads := [{ addr := storeBase, vd := 2, blocks := 1, mask := 1, cross := none, gen := 0, retried := false, err := false, seam := [], chans := [], writes := [] }] })] })] }

/-- The digest of a body of 256 zero bytes. -/
def sDig : Digest := Config.sha384 ((List.range 256).map (Tab.get 0 []))
/-- An entry of a shard list: table shard 9 of the landing range. -/
def sent : ShardEntry := { shard := 9, kind := 2, role := 1, head := false, source := 0xFFFF, target := 1, loff := 0, digest := sDig }
/-- The container's header (R430). -/
def shdr (id : Nat) : List Byte :=
  leBytes 4 0x31444853 ++ leBytes 2 0x0100 ++ [2, 0] ++ leBytes 4 id ++ leBytes 4 3 ++ leBytes 4 0 ++ leBytes 4 0xFFFF ++ leBytes 4 256 ++ List.replicate 12 0 ++ leBytes 4 1 ++ leBytes 4 0 ++ digBytes sDig ++ List.replicate 160 0
/-- What opened of it. -/
def sbody (id : Nat) : ShardBody := { tagOk := true, hdr := shdr id, body := [] }
/-- Epoch 3 of context 5 awaits the shard, adapter slot 2 holds a generation, and a session is open. -/
def sShard : State :=
  { sCtx with ctxs := [(0, some { ctxNew State.reset (dsc 0 0x0201) carg 0 1 with sconces := 1, session := true, ckeys := [(1, 5)], landing := some (0, 65536), epochs := [{ epoch := 3, st := .staging, first := true, shards := [newShard sent, { newShard { sent with shard := 10 } with st := .verified, requests := 1 }, { newShard { sent with shard := 11 } with st := .fetch, requests := 4 }, { newShard { sent with shard := 12, role := 2 } with st := .verified }], cmd := some (dsc 4 0x0304), adopt := none }, { epoch := 4, st := .retained, first := false, shards := [], cmd := none, adopt := none }], adapters := [(2, [{ gen := 1, current := true, shards := [], cmd := none }])] })] }
/-- The container of shard 9 passes R432. -/
theorem sbody_ok9 : bodyOk ((getCtx sShard 0).get (by decide +kernel)) 3 ((findShard sShard 0 3 9).get (by decide +kernel)) (sbody 9) = true := by
  have e1 : Config.sha384 (shardBytes (sbody 9)) = sDig := congrArg Config.sha384 (by decide +kernel)
  have e2 : digestOf ((((sbody 9).hdr.drop 0x30)).take 48) = sDig := digestOf_digBytes sDig
  have e3 : ((findShard sShard 0 3 9).get (by decide +kernel)).ent.digest = sDig := rfl
  unfold bodyOk headerOk
  rw [e1, e2, e3, beq_self_eq_true]
  decide +kernel
/-- The container of shard 11 passes R432. -/
theorem sbody_ok11 : bodyOk ((getCtx sShard 0).get (by decide +kernel)) 3 ((findShard sShard 0 3 11).get (by decide +kernel)) (sbody 11) = true := by
  have e1 : Config.sha384 (shardBytes (sbody 11)) = sDig := congrArg Config.sha384 (by decide +kernel)
  have e2 : digestOf ((((sbody 11).hdr.drop 0x30)).take 48) = sDig := digestOf_digBytes sDig
  have e3 : ((findShard sShard 0 3 11).get (by decide +kernel)).ent.digest = sDig := rfl
  unfold bodyOk headerOk
  rw [e1, e2, e3, beq_self_eq_true]
  decide +kernel

/-- A release record of number 9, instance 77, with one drawn token. -/
def rel9 : RelRec :=
  { num := 9, daylight := false, greedy := true, topk := 1, topp := none, seed := 0, temp := 0, maxtok := 4, stop := [], prompt := [1, 2], mask := none, mdigest := none, gstate := 0, started := true, inst := 77, seg := 0, reqtag := 9, entry := 1, released := [(5, 1)], segReleased := 1, lastPos := 2,
    drawn := some { tindex := 2, token := 6, gnext := 0, clean := true, daylight := false, compared := false, resolved := 0, checks := 3, msg := { hdr := hdrOf 0x10 1, vl := 1, body := .notice { arg0 := 0, arg1 := 0, code := 0 } }, twinWait := false, arb := false, mine := none },
    ledger := ledNew 5 9 false, end_ := 0, retired := false, retiring := none, retiredAt := 0, limit := 0, pfxSuspect := false, passEnd := 1, stale := false, flagged := [], owed := true, cmd := dsc 4 0x0501 }
/-- An admission record of number 8, instance 78. -/
def adm8 : AdmRec :=
  { num := 8, cls := 0, daylight := false, build := false, nopfx := true, adpv := false, adpslot := 0, prompt := [1, 2], order := 0, admitted := true, inst := 78, seg := 0, reqtag := 8, epoch := 3, adpgen := 0, mode := false, nextPos := 0, promptEnd := 2, unanswered := [], nextTok := none, resumed := none, readySince := 0, pfxLen := 0, retired := false, retiredAt := 0, lastPos := 0, gotNext := false, limit := 0, owed := true, cmd := dsc 4 0x0501 }
/-- Package 1 is the whole path of context 5, whose epoch 3 is LIVE; a request is under release, one admitted, two retired. -/
def sReq : State :=
  { sCtx with fab := { sCtx.fab with myidV := true, myid := 1 },
              ctxs := [(0, (getCtx sCtx 0).map (fun x => { x with path := [1], admEpoch := some 3, epochs := [{ epoch := 3, st := .live, first := false, shards := [], cmd := none, adopt := none }], rel := [rel9, { rel9 with num := 10, retired := true, retiredAt := 0, started := true, inst := 79 }], adm := [adm8, { adm8 with num := 11, inst := 80, retired := true, lastPos := 2 }], logs := [{ num := 9, inst := 77, prompt := [1, 2], seed := 0, greedy := true, temp := 0, topp := none, topk := 1, maxtok := 4, mdigest := none, epoch := 3, adpgen := 0, daylight := false, tokens := [], digest := 0 }] })) ] }
/-- A REQ.SUBMIT's arguments. -/
def rarg : ReqArg :=
  { num := 20, role := 1, cls := 0, daylight := false, build := false, nopfx := true, greedy := true, topp := false, mask := false, grammar := false, adpv := false, deadline := 1000, adpslot := 0, topk := 1, seed := 0, temp := 0, toppv := 0, maxtok := 4, masklen := 0, maskread := .noMask, nprompt := 2, stop := [], prompt := [1, 2] }
/-- A release of instance 77 waited for, and its activation. -/
def sWaitRel : State :=
  { sReq with ctxs := [(0, (getCtx sReq 0).map (fun x => { x with waitRel := [{ link := 0, msg := { hdr := { hdrOf 0x10 1 with inst := 90 }, vl := 1, body := .notice { arg0 := 0, arg1 := 0, code := 0 } }, outs := [], att := [], stage := [], done := 0, clean := true, resolved := 0, checks := 0 }] }))] }
/-- Link 0 is UP and has nothing to send. -/
def sIdleLink : State := { sReq with fab := { sReq.fab with links := [(0, { Link.init with st := .up, codewords := 3 })] } }
/-- It has a message for VL 1 and credit. -/
def sTurnLink : State :=
  { sReq with fab := { sReq.fab with links := [(0, { Link.init with st := .up, codewords := 3, queues := [(1, [.msg { hdr := hdrOf 0x20 1, vl := 1, body := .notice { arg0 := 6, arg1 := 0, code := 0 } }])], credits := [(1, 100)] })] } }

/-- A header from package 2 to package 1 for context 5. -/
def hdr2 (kind : Nat) : Hdr := { hdrOf kind 1 with src := 2, ctx := 5, reqtag := 9, inst := 77, tindex := 3 }
/-- A notice on VL3. -/
def nmsg (kind : Nat) (code : W16) : Msg := { hdr := { hdr2 kind with len := 48 }, vl := 3, body := .notice { arg0 := 6, arg1 := 0, code := code } }
/-- Four elements of format 3. -/
def amsg : Msg :=
  { hdr := { hdr2 0x10 with len := BitVec.ofNat 32 (bodyLen (.act { epoch := 3, adpgen := 0, layer := 0, part := 0, fmt := 8, resolved := 0, final := 1, checks := 0, nelem := 1, adpslot := 0 } (List.replicate (tensorSize 8 false 1) 0))) }, vl := 1, body := .act { epoch := 3, adpgen := 0, layer := 0, part := 0, fmt := 8, resolved := 0, final := 1, checks := 0, nelem := 1, adpslot := 0 } (List.replicate (tensorSize 8 false 1) 0) }
/-- An S40 contribution of one group. -/
def smsg : Msg :=
  let g : S40Group := { exp := 0, mant := List.replicate 64 0 }
  let r : RedHdr := { epoch := 3, adpgen := 0, layer := 1, part := 0, resolved := 0, final := 1, checks := 0, cmask := 1, group0 := 0, ngroups := 1 }
  { hdr := { hdr2 0x11 with len := BitVec.ofNat 32 (bodyLen (.s40 r (s40Bytes g ++ List.replicate 191 0))) }, vl := 2, body := .s40 r (s40Bytes g ++ List.replicate 191 0) }
/-- Chain 4 comes in on link 0 and goes out on link 2. -/
def sChained : State := { sReq with fab := { sReq.fab with chains := [(0, { v := true, tail := false, inlink := 0, outlink := 2, chain := 4 })] } }
/-- A segment of chain 4. -/
def tmsg (kind len : Nat) : Msg :=
  let t : TaperHdr := { chain := 4, owner := 1, buddy := 9, shard := 9, seg := 0, segs := 1, seglen := BitVec.ofNat 32 len }
  { hdr := hdr2 kind, vl := if kind = 0x13 then 0 else 3, body := if kind = 0x13 then .taper t else .taperReq t }
/-- A reduction of position 3 waits for contributor 1; a message is retained; an instance is retired. -/
def sRed : State :=
  { sReq with fab := { sReq.fab with reds := [{ redNew (hdr2 0x11) 3 0 1 1 0 [0] with begun := true, mask := 1 }], kept := [{ amsg with hdr := { amsg.hdr with dst := 2 } }], retired := [{ ctx := 5, inst := 70, seg := 0, num := 7 }] } }
/-- Metadata of a partition of layer 1 that is summed across packages. -/
def mdSum : ShardMeta := { layer := 1, part := 0, lindex := 0, wfmt := 0, shape := 0, inmode := 0, rot := false, attGroups := 0, kdim := 0, seed := 0, clipk := 0, attScale := 0, lkind := 0, rbdig := [], ckdig := [], redexp := List.replicate 128 0, scale := [], kernel := none, rflags := 1, rindex := 0, rparent := 0, rmask := 0 }
/-- The same where epoch 3 holds a partition of layer 1 that is summed across packages. -/
def sReduce : State :=
  { sRed with ctxs := [(0, (getCtx sReq 0).map (fun x => { x with epochs := [{ epoch := 3, st := .live, first := false, shards := [{ newShard { sent with kind := 1, target := 0 } with st := .verified, written := true, md := some mdSum }], cmd := none, adopt := none }] }))] }

/-- A curfew message for rule 3. -/
def cmsg (op : Nat) : Msg :=
  { hdr := { hdr2 0x12 with len := 64 }, vl := 7, body := .curfew { cfid := 3, op := BitVec.ofNat 8 op, mode := 0, layLo := 0, layHi := 5, epoch := 4, count := 0, held := 0, status := 0 } }
/-- Rule 3 is set here. -/
def sRule : State :=
  { sReq with fab := { sReq.fab with rules := [{ cfid := 3, ctx := 5, below := false, layLo := 0, layHi := 5, epoch := 4, src := 2, overflow := false, lifting := none, held := [] }] } }
/-- A wave of context 5 drains. -/
def sWave : State :=
  { sReq with ctxs := [(0, (getCtx sReq 0).map (fun x => { x with wave := some { phase := 3, old := 2, new := 3, drain := 10, await := [(2, 1)], counts := [], expired := false, cmd := dsc 4 0x0306 } }))] }
/-- What TWIN.FORM asks for: comparison with package 2,049 over link 2. -/
def targ : TwinArg := { mode := 2, strict := false, active := false, ctxid := 5, peer := 2049, link0 := 2, link1 := 0xFF, twait := 10 }
/-- Link 2 is a twin port's with package 2,049 beyond it. -/
def sTwin (st : TwinSt) : State :=
  { sReq with fab := { sReq.fab with ports := [(1, { Port.init with twinA := true, twinB := true })], nbr := [(2, { Neighbour.init with nst := 2, pkg := some 2049 })] },
              twin := { sReq.twin with st := st, arg := if st = .none_ then none else some targ } }
/-- A twin message from package 2,049. -/
def wmsg (kind : Nat) (b : Body) : Msg := { hdr := { hdr2 kind with src := 2049, len := BitVec.ofNat 32 (bodyLen b) }, vl := 5, body := b }
/-- A CTX.EMBERS has not ended at its limit. -/
def sLate : State := { sCtx with mbx := { sCtx.mbx with rings := [(4, { Ring.init with st := .run, ctx := some 0, prog := [dsc 4 0x020B] })] } }

/-- Port 1 with a link in a state. -/
def sLink (st : LinkSt) (x : Link) : State :=
  { sReq with fab := { sReq.fab with ports := [(1, { Port.init with en := true })], nbr := [(2, { Neighbour.init with nst := 2, pkg := some 2 })], links := [(2, { x with st := st })] } }
/-- A LINIT that agrees with port 1. -/
def goodLinit (pol : BitVec 2) (rtt : Nat) : Linit := { version := 1, split := false, link := 4, policy := pol, credits := [], echoes := true, rtt := rtt }

/-- A flit in order on VL3 with the notice of package 2. -/
def inFlit : Flit :=
  { type := 1, vl := 3, seq := 0, ackv := true, ack := 7, nak := false, keyph := false, cv0 := true, cvl0 := 3, cred0 := 2, cv1 := false, cvl1 := 0, cred1 := 0, items := [.msg (nmsg 0x20 0)] }
/-- A flit that waits for its acknowledgement. -/
def oldFlit : TxFlit := { num := 7, vl := 3, keyph := false, ctr := 0, items := [.msg (nmsg 0x20 0)] }
/-- A peer's HELLO with the lowest identity but one. -/
def hel : LinkMsg := .hello 1 2 true 5 0 77
/-- The peer's identity certificate. -/
def certDev : Cert := cert 2 (subject certInt)
/-- An attestation report that the keeper takes. -/
def repGood : Report :=
  { kind := 1, iddigest := subject certDev, fwmeas := 0, svn := 0, cfgseq := 0, cfgdig := 0, nonce := 5, chain := [certInt, certDev, cert 3 (subject certDev)], rsa := true, slh := true }
/-- Link 2 in DISCOVER has sent nonce 5 and heard the peer's HELLO; the configuration names no measurement. -/
def sAtt : State :=
  let s := sLink .discover { Link.init with nonce := 5, hello := some (.hello (subject certDev) 2 true 5 0 77) }
  { s with sec := { s.sec with cfg := some cfgGood } }
/-- Three certificates chained from the root keys. -/
theorem issued_triple (a b c : Cert) (h1 : a.issuer = Config.rootSubject) (h2 : a.rsa = true) (h3 : a.slh = true) (h4 : b.issuer = subject a)
    (h5 : b.rsa = true) (h6 : b.slh = true) (h7 : c.issuer = subject b) (h8 : c.rsa = true) (h9 : c.slh = true) : issued Config.rootSubject [a, b, c] = true := by
  simp [issued, h1, h2, h3, h4, h5, h6, h7, h8, h9]
/-- The report passes the checks of R463. -/
theorem repGood_ok : reportOk (takeItem 2 (.lnk (.attest repGood)) sAtt) 5 (subject certDev) repGood = true := by
  have h1 : issued Config.rootSubject repGood.chain = true := by
    exact issued_triple _ _ _ rfl rfl rfl rfl rfl rfl rfl rfl rfl
  have h2 : reportBound repGood (subject certDev) = true := by
    unfold reportBound chainValid
    rw [h1]
    show ((true && true) && (subject certDev == subject certDev && subject certDev == subject certDev && true && true)) = true
    rw [beq_self_eq_true]
    rfl
  unfold reportOk
  rw [h2]
  decide +kernel
/-- A message for package 9 that came in on link 2. -/
def far : Msg := { nmsg 0x20 0 with hdr := { hdr2 0x20 with dst := 9, hops := 3 } }
/-- Package 2's message waits for a route to package 9. -/
def sNoWay : State := { sReq with fab := { sReq.fab with noRoute := [far] } }

/-- The Garvy Link in a state. -/
def sGvl (st : GSt) : State :=
  { sReq with gvl := { sReq.gvl with en := true, st := st } }

/-- A DATA flit in order with a read of block 0. -/
def gfl : GFlit := { type := 1, seq := 0, ackv := false, ack := 0, nak := false, cvc := 7, cred := 0, msgs := [(1, { gmsg 0x01 with tag := 4 })] }
/-- Block 0 of the shared store is covered by a window entry of context slot 0 that admits the companion. -/
def sWin (e : DirSt) : State :=
  { sGvl .active with xbr := { (sGvl .active).xbr with windows := [(0, BitVec.ofNat 128 (storeBase / 256 + (storeBase / 256 + 15) * 2 ^ 64 + 2 ^ 127 + 2 ^ 126 + 2 ^ 125 + 2 ^ 123))] },
                      gvl := { (sGvl .active).gvl with dir := if e = .r then [] else [(storeBase / 256, some { st := e, order := 0, why := .read, tag := 0, held := [], writes := [] })] } }
/-- A companion message for that block; four data bytes stand for the block. -/
def hmsg (opc : Nat) : GMsg := { gmsg opc with tag := 5, addr := BitVec.ofNat 52 storeBase, data := List.replicate 4 7, word := crc32c (List.replicate 4 7) }
/-- The same with a wrong CRC. -/
def badMsg : GMsg := { hmsg 5 with word := 0 }
/-- A read of GVL_CTL through the diagnostics image. -/
def diagMsg : GMsg := { gmsg 0x41 with addr := BitVec.ofNat 52 (0x200000000 + dieWinBase + 0x40000) }
/-- A write of ring 0's submission doorbell. -/
def ringMsg : GMsg := { gmsg 0x43 with addr := BitVec.ofNat 52 (dieWinBase + 0x54000), word := 3 }
/-- A recall of that block runs, and a read of it is held. -/
def sRecall (why : Recall) : State :=
  { sWin .r with gvl := { (sWin .r).gvl with dir := [(storeBase / 256, some { st := .r, order := 0, why := why, tag := 5, held := [], writes := [] })] } }
/-- A read of companion line 9 is outstanding. -/
def sRead : State :=
  { sGvl .active with gvl := { (sGvl .active).gvl with reads := [{ tag := 5, line := 9, cached := true, once := false, thread := (0, 0), got := none }] } }

/-- The presence runs on the board bus and on UDP. -/
def sMgt : State :=
  { sGvl .active with mgt := { (sGvl .active).mgt with started := true, sgmiiEn := true, i3c := true, link := true } }
/-- An ember of severity 1. -/
def eOne : Ember := formEmber sMgt (emb 1 0x0201 700 none 0)
/-- The bus path has a receiver, and an ember in its queue or sent. -/
def sEv (q : List Ember) (o : Option (Ember × Byte × Nat)) : State :=
  { sMgt with mgt := { sMgt.mgt with bus := { sMgt.mgt.bus with receiver := some 9, queue := q, out := o } } }
/-- The window of the key of `eOne`, with `n` delivered and `k` suppressed. -/
def sKey (n k : Nat) : State :=
  { sMgt with mgt := { sMgt.mgt with wins := [{ key := some (0x0201, 700, none), delivered := n, suppressed := k, last := if k = 0 then none else some eOne }] } }

/-- Converter 0 runs one ×1 entry for diode 3, which has read hot in fifteen samples. -/
def sHotD : State :=
  { sMon with mon := { sMon.mon with temp := (List.replicate 32 ((0 : BitVec 5), (0 : Int))).set 3 (15, 840), dtab := List.replicate 32 (0xC80F, 0xF777) } }

/-- Meets the hypotheses of clause 1 of `StartUpSteps`. -/
theorem test_met_StartUpSteps_1 : State.reset.clk.step = 1 := by
  decide +kernel
/-- Meets the hypotheses of clause 2 of `StartUpSteps`. -/
theorem test_met_StartUpSteps_2 : (pllLock false State.reset).clk.step = 2 := by
  decide +kernel
/-- Meets the hypotheses of clause 3 of `StartUpSteps`. -/
theorem test_met_StartUpSteps_3 : (sLocked.clk.step = 3 ∧ sLocked.sec.state = 0 ∧ sLocked.snuf.wheld = false ∧ bootGood.rngOk = true ∧ bootGood.counterOk = true ∧ regionOk bootGood.size bootGood.dir 6 = true) ∧ pufOk bootGood = true ∧ identityOk bootGood = true ∧ chooseImage sLocked.flash.fwFloor (inRegion bootGood 3 bootGood.imgA) (inRegion bootGood 4 bootGood.imgB) = some (false, imgGood) ∧ (inRegion bootGood 2 bootGood.cfg).filter (cfgOk sLocked.flash.cfgFloor) = some cfgGood := by
  exact ⟨by decide +kernel, bootGood_puf, bootGood_ident, bootGood_image, bootGood_cfg⟩
/-- Meets the hypotheses of clause 4 of `StartUpSteps`. -/
theorem test_met_StartUpSteps_4 : ∃ (s : State) (c : ConfigBlock), (s.sec.cfg = some c) ∧ ((6 ≤ s.clk.step) ∧ (s.lmp.en = false) ∧ ((∀ p : PortI, (getPort s p.val).en = false))) := by
  exact ⟨{ State.reset with clk := { Clk.init with step := 6 }, sec := { Sec.init with cfg := some cfgGood }, flash := { Flash.init with diodes := [(1, 2)] } }, cfgGood, rfl, by decide +kernel⟩

/-- Meets the hypotheses of clause 1 of `SupplyEventsFreezeAndWithhold`. -/
theorem test_met_SupplyEventsFreezeAndWithhold_1 : State.reset.clk.active.toNat / 2 ^ (23 : PointI).val % 2 = 0 := by
  decide +kernel
/-- Meets the hypotheses of clause 2 of `SupplyEventsFreezeAndWithhold`. -/
theorem test_met_SupplyEventsFreezeAndWithhold_2 : sDips.clk.active.toNat / 2 ^ (0 : PointI).val % 2 = 0 ∧ sDips.snuf.wheld = false ∧ (sDips.lmp.dipTimes.filter (fun f => nowF sDips < f + 337500000)).length = 16 := by
  decide +kernel
/-- Meets the hypotheses of clause 3 of `SupplyEventsFreezeAndWithhold`. -/
theorem test_met_SupplyEventsFreezeAndWithhold_3 : clrBit sDip.clk.active (0 : PointI).val = 0 ∧ sDip.lmp.frozen = true := by
  decide +kernel
/-- Meets the hypotheses of clause 4 of `SupplyEventsFreezeAndWithhold`. -/
theorem test_met_SupplyEventsFreezeAndWithhold_4 : clrBit sDip.clk.active (1 : PointI).val ≠ 0 := by
  decide +kernel
/-- Meets the hypotheses of clause 5 of `SupplyEventsFreezeAndWithhold`. -/
theorem test_met_SupplyEventsFreezeAndWithhold_5 : sBack.lmp.frozen = true ∧ sBack.clk.active = 0 ∧ sBack.lmp.recovered = some 0 ∧ 0 + 1688 ≤ nowF sBack := by
  decide +kernel
/-- Meets the hypotheses of clause 6 of `SupplyEventsFreezeAndWithhold`. -/
theorem test_met_SupplyEventsFreezeAndWithhold_6 : sDip.snuf.wheld = false ∧ sDip.clk.active.toNat / 2 ^ (0 : PointI).val % 2 = 1 := by
  decide +kernel
/-- Meets the hypotheses of clause 7 of `SupplyEventsFreezeAndWithhold`. -/
theorem test_met_SupplyEventsFreezeAndWithhold_7 : State.reset.snuf.wheld = false := by
  decide +kernel
/-- Meets the hypotheses of clause 8 of `SupplyEventsFreezeAndWithhold`. -/
theorem test_met_SupplyEventsFreezeAndWithhold_8 : State.reset.snuf.wheld = false := by
  decide +kernel
/-- Meets the hypotheses of clause 9 of `SupplyEventsFreezeAndWithhold`. -/
theorem test_met_SupplyEventsFreezeAndWithhold_9 : State.reset.snuf.wheld = false := by
  decide +kernel
/-- Meets the hypotheses of clause 10 of `SupplyEventsFreezeAndWithhold`. -/
theorem test_met_SupplyEventsFreezeAndWithhold_10 : sHold.clk.hold = true := by
  decide +kernel

/-- Meets the hypotheses of clause 1 of `ClockDividersAndGates`. -/
theorem test_met_ClockDividersAndGates_1 : ¬(fld 0x31 1 0 = 3 ∧ halfFiring sFiring true = true) := by
  decide +kernel
/-- Meets the hypotheses of clause 2 of `ClockDividersAndGates`. -/
theorem test_met_ClockDividersAndGates_2 : fld 0x23 5 4 ≠ 3 ∧ ¬(fld 0x23 1 0 = 3 ∧ halfFiring sFiring false = true) := by
  decide +kernel
/-- Meets the hypotheses of clause 3 of `ClockDividersAndGates`. -/
theorem test_met_ClockDividersAndGates_3 : ∃ (s : State) (east : Bool) (v : W32), ((east = false ∧ fld v 5 4 = 3) ∨ (fld v 1 0 = 3 ∧ halfFiring s east = true)) := by
  exact ⟨sFiring, true, 0x3, by decide +kernel⟩
/-- Meets the hypotheses of clause 4 of `ClockDividersAndGates`. -/
theorem test_met_ClockDividersAndGates_4 : nowF State.reset % 12 = 0 := by
  decide +kernel

/-- Meets the hypotheses of clause 1 of `StacksTrainScrubAndPatrol`. -/
theorem test_met_StacksTrainScrubAndPatrol_1 : (getStk sTrain (3 : Sconce).val).st = .training := by
  decide +kernel
/-- Meets the hypotheses of clause 2 of `StacksTrainScrubAndPatrol`. -/
theorem test_met_StacksTrainScrubAndPatrol_2 : (getStk sTrain (3 : Sconce).val).st = .training := by
  decide +kernel
/-- Meets the hypotheses of clause 3 of `StacksTrainScrubAndPatrol`. -/
theorem test_met_StacksTrainScrubAndPatrol_3 : (getStk sTrain (3 : Sconce).val).st = .training ∧ sTrain.flash.noRec = false := by
  decide +kernel
/-- Meets the hypotheses of clause 4 of `StacksTrainScrubAndPatrol`. -/
theorem test_met_StacksTrainScrubAndPatrol_4 : (getStk sScrub (2 : Sconce).val).scrubBusy = true := by
  decide +kernel
/-- Meets the hypotheses of clause 5 of `StacksTrainScrubAndPatrol`. -/
theorem test_met_StacksTrainScrubAndPatrol_5 : (getScn sSlice (2 : Sconce).val).scrub = true ∧ (getStk sSlice (2 : Sconce).val).scrubBusy = false := by
  decide +kernel
/-- Meets the hypotheses of clause 6 of `StacksTrainScrubAndPatrol`. -/
theorem test_met_StacksTrainScrubAndPatrol_6 : (getStk sSlice (2 : Sconce).val).st = .ready := by
  decide +kernel

/-- Meets the hypotheses of clause 1 of `SconcesAndCrossbar`. -/
theorem test_met_SconcesAndCrossbar_1 : (getScn sOwned (1 : Sconce).val).scrub = false ∧ anyService sOwned (1 : Sconce).val = false ∧ bitAt 0x2000 13 = true ∧ (getStk sOwned (1 : Sconce).val).st ≠ .failed ∧ (getScn sOwned (1 : Sconce).val).retired = false := by
  decide +kernel
/-- Meets the hypotheses of clause 2 of `SconcesAndCrossbar`. -/
theorem test_met_SconcesAndCrossbar_2 : (getScn sOwned (1 : Sconce).val).scrub = false ∧ anyService sOwned (1 : Sconce).val = false ∧ bitAt 0x1000 13 = false := by
  decide +kernel
/-- Meets the hypotheses of clause 3 of `SconcesAndCrossbar`. -/
theorem test_met_SconcesAndCrossbar_3 : ∃ (s : State) (n : Sconce) (v : W32), (((getScn s n.val).scrub = true ∨ anyService s n.val = true ∨ (bitAt v 13 = true ∧ ((getStk s n.val).st = .failed ∨ (getScn s n.val).retired = true)))) := by
  exact ⟨sScrub, 2, 0, by decide +kernel⟩
/-- Meets the hypotheses of clause 4 of `SconcesAndCrossbar`. -/
theorem test_met_SconcesAndCrossbar_4 : ∀ i, i < 4 → bitAt 0x84048484 (8 * i + 7) = true ∨ sconcesOf sOwned (fld 0x84048484 (8 * i + 3) (8 * i)) ≠ [] := by
  decide +kernel
/-- Meets the hypotheses of clause 5 of `SconcesAndCrossbar`. -/
theorem test_met_SconcesAndCrossbar_5 : ∃ (s : State) (k : Sconce) (v : W32) (i : Nat), (i < 4) ∧ (bitAt v (8 * i + 7) = false) ∧ (sconcesOf s (fld v (8 * i + 3) (8 * i)) = []) := by
  exact ⟨State.reset, 0, 0x00808080, 3, by decide +kernel⟩
/-- Meets the hypotheses of clause 7 of `SconcesAndCrossbar`. -/
theorem test_met_SconcesAndCrossbar_7 : State.reset.xbr.waiting = [] := by
  decide +kernel
/-- Meets the hypotheses of clause 8 of `SconcesAndCrossbar`. -/
theorem test_met_SconcesAndCrossbar_8 : suspCount State.reset (15 : Sconce).val < 4 := by
  decide +kernel
/-- Meets the hypotheses of clause 9 of `SconcesAndCrossbar`. -/
theorem test_met_SconcesAndCrossbar_9 : (getScn sWorn (0 : Sconce).val).raised = 3 ∧ 4 ≤ suspCount sWorn (0 : Sconce).val ∧ (getScn sWorn (0 : Sconce).val).retire = false := by
  decide +kernel
/-- Meets the hypotheses of clause 10 of `SconcesAndCrossbar`. -/
theorem test_met_SconcesAndCrossbar_10 : (getScn sWorn (0 : Sconce).val).raised = 3 ∧ 4 ≤ suspCount sWorn (0 : Sconce).val ∧ (getScn sWorn (0 : Sconce).val).retire = false ∧ heldFree sWorn (0 : Sconce).val = none ∧ sWorn.flash.noRec = false := by
  decide +kernel

/-- Meets the hypotheses of clause 1 of `WithholdCausesAndFloors`. -/
theorem test_met_WithholdCausesAndFloors_1 : State.reset.snuf.wheld = false := by
  decide +kernel
/-- Meets the hypotheses of clause 2 of `WithholdCausesAndFloors`. -/
theorem test_met_WithholdCausesAndFloors_2 : State.reset.snuf.wheld = false := by
  decide +kernel
/-- Meets the hypotheses of clause 3 of `WithholdCausesAndFloors`. -/
theorem test_met_WithholdCausesAndFloors_3 : State.reset.snuf.wheld = false := by
  decide +kernel
/-- Meets the hypotheses of clause 4 of `WithholdCausesAndFloors`. -/
theorem test_met_WithholdCausesAndFloors_4 : State.reset.snuf.wheld = false := by
  decide +kernel
/-- Meets the hypotheses of clause 5 of `WithholdCausesAndFloors`. -/
theorem test_met_WithholdCausesAndFloors_5 : State.reset.snuf.wheld = false ∧ 1 ≤ (12 : Byte).toNat ∧ (12 : Byte).toNat ≤ 12 := by
  decide +kernel
/-- Meets the hypotheses of clause 6 of `WithholdCausesAndFloors`. -/
theorem test_met_WithholdCausesAndFloors_6 : State.reset.snuf.wheld = false := by
  decide +kernel
/-- Meets the hypotheses of clause 7 of `WithholdCausesAndFloors`. -/
theorem test_met_WithholdCausesAndFloors_7 : ∃ (s : State) (i : FwImage) (c : ConfigBlock), (s.sec.image = some i) ∧ (s.sec.cfg = some c) ∧ ((s.lmp.en = true) ∧ (s.sec.state = 1)) := by
  exact ⟨sCommit, imgGood, cfgGood, rfl, rfl, by decide +kernel⟩
/-- Meets the hypotheses of clause 8 of `WithholdCausesAndFloors`. -/
theorem test_met_WithholdCausesAndFloors_8 : inflOf sCross true ≠ 0 := by
  decide +kernel

/-- Meets the hypotheses of clause 1 of `WickWritesStartAndEnd`. -/
theorem test_met_WickWritesStartAndEnd_1 : bitAt 0x80000004 31 = true ∧ fld 0x80000004 3 0 ≠ 0 ∧ mayWrite (getWick sIdle 5 3) = true ∧ (getWick sIdle 5 3).pgm.toNat < 999999 ∧ (getLan sIdle 5).st ≠ .retired ∧ busyOn sIdle 5 < 2 ∧ busyDie sIdle < 2048 ∧ sIdle.lmp.frozen = false ∧ sIdle.snuf.wheld = false := by
  decide +kernel
/-- Meets the hypotheses of clause 2 of `WickWritesStartAndEnd`. -/
theorem test_met_WickWritesStartAndEnd_2 : bitAt 0x80000004 31 = true ∧ mayWrite (getWick sWriting 5 3) = false := by
  decide +kernel
/-- Meets the hypotheses of clause 3 of `WickWritesStartAndEnd`. -/
theorem test_met_WickWritesStartAndEnd_3 : bitAt 4 31 = false := by
  decide +kernel
/-- Meets the hypotheses of clause 4 of `WickWritesStartAndEnd`. -/
theorem test_met_WickWritesStartAndEnd_4 : (getWick sWriting 5 3).wrBusy = true ∧ (getWick sWriting 5 3).repair = false ∧ failedCols (getWick sWriting 5 3) (badCols (getWick sWriting 5 3) [(4, 513, [7])]) = [] ∧ storeOk (writeOver 5 3 [(4, 513, [7])] sWriting) 5 3 = true ∧ (getWick sWriting 5 3).pgm.toNat + 1 ≠ 800000 := by
  decide +kernel
/-- Meets the hypotheses of clause 5 of `WickWritesStartAndEnd`. -/
theorem test_met_WickWritesStartAndEnd_5 : (getWick sWriting 5 3).wrBusy = true ∧ (getWick sWriting 5 3).repair = false ∧ failedCols (getWick sWriting 5 3) (badCols (getWick sWriting 5 3) [(4, 7, [7])]) ≠ [] ∧ canRepair (getWick sWriting 5 3) (badCols (getWick sWriting 5 3) [(4, 7, [7])]) = true ∧ storeOk (writeOver 5 3 [(4, 7, [7])] sWriting) 5 3 = true ∧ (getWick sWriting 5 3).pgm.toNat + 1 ≠ 800000 := by
  decide +kernel
/-- Meets the hypotheses of clause 6 of `WickWritesStartAndEnd`. -/
theorem test_met_WickWritesStartAndEnd_6 : (getWick sWriting 5 3).wrBusy = true ∧ (getWick sWriting 5 3).repair = false ∧ failedCols (getWick sWriting 5 3) (badCols (getWick sWriting 5 3) nineBad) ≠ [] ∧ canRepair (getWick sWriting 5 3) (badCols (getWick sWriting 5 3) nineBad) = false ∧ (getWick sWriting 5 3).pgm.toNat + 1 ≠ 800000 ∧ sWriting.flash.noRec = false := by
  decide +kernel
/-- Meets the hypotheses of clause 7 of `WickWritesStartAndEnd`. -/
theorem test_met_WickWritesStartAndEnd_7 : (getWick sRepair 5 3).wrBusy = true ∧ (getWick sRepair 5 3).repair = true ∧ failedCols (getWick sRepair 5 3) (badCols (getWick sRepair 5 3) [(4, 513, [7])]) = [] ∧ storeOk (writeOver 5 3 [(4, 513, [7])] sRepair) 5 3 = true ∧ sRepair.flash.noRec = false := by
  decide +kernel
/-- Meets the hypotheses of clause 8 of `WickWritesStartAndEnd`. -/
theorem test_met_WickWritesStartAndEnd_8 : (getWick sRepair 5 3).wrBusy = true ∧ (getWick sRepair 5 3).repair = true ∧ failedCols (getWick sRepair513 5 3) (badCols (getWick sRepair513 5 3) [(4, 513, [7])]) ≠ [] ∧ sRepair.flash.noRec = false := by
  decide +kernel

/-- Meets the hypotheses of clause 1 of `WickReadbackLookupAndRegisters`. -/
theorem test_met_WickReadbackLookupAndRegisters_1 : bitAt 0x80000000 31 = true ∧ (getWick sServing 5 3).st = .service ∧ (getWick sServing 5 3).rbBusy = false ∧ sServing.snuf.wheld = false := by
  decide +kernel
/-- Meets the hypotheses of clause 2 of `WickReadbackLookupAndRegisters`. -/
theorem test_met_WickReadbackLookupAndRegisters_2 : bitAt 0x80000000 31 = true ∧ (getWick sIdle 5 3).st ∉ [.writing, .adopting, .service] ∧ (getWick sIdle 5 3).rbBusy = false := by
  decide +kernel
/-- Meets the hypotheses of clause 3 of `WickReadbackLookupAndRegisters`. -/
theorem test_met_WickReadbackLookupAndRegisters_3a : bitAt 0 31 = false := by
  decide +kernel
/-- Meets the hypotheses of clause 3 of `WickReadbackLookupAndRegisters`. -/
theorem test_met_WickReadbackLookupAndRegisters_3b : (getWick sWriting 5 3).st = .writing := by
  decide +kernel
/-- Meets the hypotheses of clause 4 of `WickReadbackLookupAndRegisters`. -/
theorem test_met_WickReadbackLookupAndRegisters_4 : (getWick sReading 5 3).rbBusy = true ∧ (getWick sReading 5 3).rbRows = 2048 ∧ (getWick sReading 5 3).st = .service ∧ (getWick sReading 5 3).rbMarg = 0 ∧ rbHit sReading 5 (getWick sReading 5 3) = some 2 := by
  exact ⟨by decide +kernel, by decide +kernel, by decide +kernel, by decide +kernel, sReading_hit⟩
/-- Meets the hypotheses of clause 5 of `WickReadbackLookupAndRegisters`. -/
theorem test_met_WickReadbackLookupAndRegisters_5 : (getWick sServing2 5 3).rbBusy = true ∧ (getWick sServing2 5 3).rbRows = 2048 ∧ (getWick sServing2 5 3).st = .service ∧ (getWick sServing2 5 3).lwick = some 2 ∧ (getWick sServing2 5 3).rbMarg ≠ 0 := by
  decide +kernel
/-- Meets the hypotheses of clause 6 of `WickReadbackLookupAndRegisters`. -/
theorem test_met_WickReadbackLookupAndRegisters_6 : (getWick sAdopting 5 3).rbBusy = true ∧ (getWick sAdopting 5 3).rbRows = 2048 ∧ (getWick sAdopting 5 3).st = .adopting := by
  decide +kernel
/-- Meets the hypotheses of clause 7 of `WickReadbackLookupAndRegisters`. -/
theorem test_met_WickReadbackLookupAndRegisters_7 : (getWick sServing 5 3).st = .service ∧ (getWick sServing 5 3).rbBusy = false ∧ (∀ i < 17, (getWick sServing 5 i).job = .none) ∧ sServing.snuf.wheld = false := by
  decide +kernel
/-- Meets the hypotheses of clause 8 of `WickReadbackLookupAndRegisters`. -/
theorem test_met_WickReadbackLookupAndRegisters_8 : ∃ (s : State) (l : Lan) (w : PWick) (col : Nat) (a : SliceAcc) (c : Nat) (r : FlareRun), ((getLan s l.val).accs.find? (fun a => a.pw.val == w.val) = some a) ∧ (findRun s a.flare = some (c, r)) ∧ (((getWick s l.val w.val).mode = 1) ∧ ((let ins := a.groups.flatMap (redoInputs s l.val r a); isCandidate (getWick s l.val w.val) a (ins.length / 2) col = true ∧
      (exactVals s c (getLan s l.val).epoch (lanLL (getLan s l.val)) a.lw.val ins).getD col 0 = 2 * ((ins.length / 2 : Nat) : Int)))) := by
  exact ⟨sLookup, 5, 3, 0, ((((getLan sLookup 5).accs.find? (fun a => a.pw.val == 3))).get (by decide +kernel)), ((findRun sLookup ((((getLan sLookup 5).accs.find? (fun a => a.pw.val == 3))).get (by decide +kernel)).flare).get (by decide +kernel)).1, ((findRun sLookup ((((getLan sLookup 5).accs.find? (fun a => a.pw.val == 3))).get (by decide +kernel)).flare).get (by decide +kernel)).2, (Option.some_get (by decide +kernel)).symm, (Option.some_get (by decide +kernel)).symm, by decide +kernel⟩
/-- Meets the hypotheses of clause 10 of `WickReadbackLookupAndRegisters`. -/
theorem test_met_WickReadbackLookupAndRegisters_10 : ∃ (s : State) (l : Lan) (w : PWick) (v : W32), (mayWrite (getWick s l.val w.val) = true) ∧ (fld v 3 0 ≤ 3) ∧ (fld v 7 6 = 0 ∨ (fld v 7 6 = 1 ∧ fld v 3 0 = 0)) := by
  exact ⟨sIdle, 5, 3, 0x40, by decide +kernel⟩
/-- Meets the hypotheses of clause 11 of `WickReadbackLookupAndRegisters`. -/
theorem test_met_WickReadbackLookupAndRegisters_11a : mayWrite (getWick sServing 5 3) = false := by
  decide +kernel
/-- Meets the hypotheses of clause 11 of `WickReadbackLookupAndRegisters`. -/
theorem test_met_WickReadbackLookupAndRegisters_11b : 3 < fld 4 3 0 := by
  decide +kernel
/-- Meets the hypotheses of clause 11 of `WickReadbackLookupAndRegisters`. -/
theorem test_met_WickReadbackLookupAndRegisters_11c : fld 0x43 7 6 = 1 ∧ fld 0x43 3 0 ≠ 0 := by
  decide +kernel
/-- Meets the hypotheses of clause 12 of `WickReadbackLookupAndRegisters`. -/
theorem test_met_WickReadbackLookupAndRegisters_12 : mayWrite (getWick sIdle 5 3) = true ∧ fld 0x80 3 0 ≤ 3 ∧ 1 < fld 0x80 7 6 := by
  decide +kernel

/-- Meets the hypotheses of clause 1 of `LanternBuffersTakeBlocks`. -/
theorem test_met_LanternBuffersTakeBlocks_1 : slotOfBlock (getLan State.reset 5) blk0.vec = some false ∧ (getSlot (getLan State.reset 5) false).failed = [] := by
  decide +kernel
/-- Meets the hypotheses of clause 2 of `LanternBuffersTakeBlocks`. -/
theorem test_met_LanternBuffersTakeBlocks_2 : slotOfBlock (getLan sFilling 5) blk0.vec = some false ∧ blockKey blk0 ∈ (getSlot (getLan sFilling 5) false).failed ∧ (getSlot (getLan sFilling 5) false).st ≠ .free := by
  decide +kernel
/-- Meets the hypotheses of clause 3 of `LanternBuffersTakeBlocks`. -/
theorem test_met_LanternBuffersTakeBlocks_3 : slotOfBlock (getLan State.reset 5) blk0.vec = some false ∧ (getSlot (getLan State.reset 5) false).st = .free := by
  decide +kernel
/-- Meets the hypotheses of clause 4 of `LanternBuffersTakeBlocks`. -/
theorem test_met_LanternBuffersTakeBlocks_4 : slotOfBlock (getLan sFilling 5) blk0.vec = some false ∧ (getSlot (getLan sFilling 5) false).st ≠ .free ∧ blockKey blk0 ∈ (getSlot (getLan sFilling 5) false).failed ∧ sFilling.snuf.wheld = false := by
  decide +kernel
/-- Meets the hypotheses of clause 5 of `LanternBuffersTakeBlocks`. -/
theorem test_met_LanternBuffersTakeBlocks_5 : slotOfBlock (getLan sBoth 5) blk0.vec = none := by
  decide +kernel
/-- Meets the hypotheses of clause 6 of `LanternBuffersTakeBlocks`. -/
theorem test_met_LanternBuffersTakeBlocks_6 : ([5, 6] : List Lan).Nodup := by
  decide +kernel
/-- Meets the hypotheses of clause 7 of `LanternBuffersTakeBlocks`. -/
theorem test_met_LanternBuffersTakeBlocks_7 : ((List.range 16).findSome? (fun c => ((getLctx (sTail []) c).tails.find? (fun t => t.id == part1.flare)).map (fun t => (c, t)))).isSome = true ∧ (tail9 []).chains.find? (fun q => q.head == 5) = (tail9 []).chains.head? ∧ (∃ q ∈ (tail9 []).chains, q.parts.find? (fun m => m.1 == part1.member) = some (1, { a := [1], b := [] }) ∧ part1.member ∉ q.fails) := by
  decide +kernel
/-- Meets the hypotheses of clause 8 of `LanternBuffersTakeBlocks`. -/
theorem test_met_LanternBuffersTakeBlocks_8 : ((List.range 16).findSome? (fun c => ((getLctx (sTail [1]) c).tails.find? (fun t => t.id == part1.flare)).map (fun t => (c, t)))).isSome = true ∧ (tail9 [1]).chains.find? (fun q => q.head == 5) = (tail9 [1]).chains.head? ∧ (∃ q ∈ (tail9 [1]).chains, q.parts.find? (fun m => m.1 == part1.member) = some (1, { a := [1], b := [] }) ∧ part1.member ∈ q.fails) := by
  decide +kernel
/-- Meets the hypotheses of clause 9 of `LanternBuffersTakeBlocks`. -/
theorem test_met_LanternBuffersTakeBlocks_9 : ((List.range 16).findSome? (fun c => ((getLctx (sTail []) c).tails.find? (fun t => t.id == part1.flare)).map (fun t => (c, t)))).isSome = true ∧ (tail9 []).chains.find? (fun q => q.head == 5) = (tail9 []).chains.head? ∧ (∃ q ∈ (tail9 []).chains, q.parts.find? (fun m => m.1 == part1.member) = some (1, { a := [1], b := [] }) ∧ part1.member ∉ q.fails) := by
  decide +kernel
/-- Meets the hypotheses of clause 10 of `LanternBuffersTakeBlocks`. -/
theorem test_met_LanternBuffersTakeBlocks_10 : ((List.range 16).findSome? (fun c => ((getLctx (sTail [1]) c).tails.find? (fun t => t.id == part1.flare)).map (fun t => (c, t)))).isSome = true ∧ (tail9 [1]).chains.find? (fun q => q.head == 5) = (tail9 [1]).chains.head? ∧ (∃ q ∈ (tail9 [1]).chains, q.parts.find? (fun m => m.1 == part1.member) = some (1, { a := [1], b := [] }) ∧ part1.member ∈ q.fails) ∧ (sTail [1]).snuf.wheld = false := by
  decide +kernel

/-- Meets the hypotheses of clause 1 of `LanternBoundaryAndRegisters`. -/
theorem test_met_LanternBoundaryAndRegisters_1 : ∃ (s : State) (l : Lan) (v : W32), (bitAt v 31 = true) ∧ (spareOk s l.val = true) ∧ ((getLan s l.val).arm = false) := by
  exact ⟨{ sArmed with lans := [(5, { Lantern.init with spare := some 16 })] }, 5, 0x80020000, by decide +kernel⟩
/-- Meets the hypotheses of clause 2 of `LanternBoundaryAndRegisters`. -/
theorem test_met_LanternBoundaryAndRegisters_2 : bitAt 0x80020000 31 = true ∧ (getLan sArmed 5).arm = true := by
  decide +kernel
/-- Meets the hypotheses of clause 3 of `LanternBoundaryAndRegisters`. -/
theorem test_met_LanternBoundaryAndRegisters_3 : bitAt 0 31 = false := by
  decide +kernel
/-- Meets the hypotheses of clause 6 of `LanternBoundaryAndRegisters`. -/
theorem test_met_LanternBoundaryAndRegisters_6 : lanQuiet State.reset 5 = true ∧ (getLan State.reset 5).trimNext = [] ∧ (getLan State.reset 5).arm = false ∧ (getLan State.reset 5).drAtBoundary = false := by
  decide +kernel
/-- Meets the hypotheses of clause 7 of `LanternBoundaryAndRegisters`. -/
theorem test_met_LanternBoundaryAndRegisters_7 : lanQuiet sFlying 5 = false := by
  decide +kernel
/-- Meets the hypotheses of clause 8 of `LanternBoundaryAndRegisters`. -/
theorem test_met_LanternBoundaryAndRegisters_8 : lanQuiet sArmed 5 = true := by
  decide +kernel
/-- Meets the hypotheses of clause 9 of `LanternBoundaryAndRegisters`. -/
theorem test_met_LanternBoundaryAndRegisters_9 : lanQuiet sArmedBad 5 = true ∧ (getLan sArmedBad 5).trimNext = [] ∧ (getLan sArmedBad 5).arm = true ∧ spareOk sArmedBad 5 = false := by
  decide +kernel
/-- Meets the hypotheses of clause 10 of `LanternBoundaryAndRegisters`. -/
theorem test_met_LanternBoundaryAndRegisters_10 : lanQuiet sDrWait 5 = true ∧ (getLan sDrWait 5).trimNext = [] ∧ (getLan sDrWait 5).arm = false ∧ (getLan sDrWait 5).drAtBoundary = true ∧ (getLan sDrWait 5).phase = .drWait ∧ divNow sDrWait 5 = 0 := by
  decide +kernel
/-- Meets the hypotheses of clause 11 of `LanternBoundaryAndRegisters`. -/
theorem test_met_LanternBoundaryAndRegisters_11 : lanQuiet sTrimNext 5 = true ∧ (getLan sTrimNext 5).trimNext = [{ pw := 2, kind := 0, col := 7, delta := 1 }] ∧ (getLan sTrimNext 5).arm = false ∧ (getLan sTrimNext 5).drAtBoundary = false ∧ (trimAdd (getWick sTrimNext 5 2) 0 7 (getLan sTrimNext 5).tpoint.toNat 1).2 = false := by
  decide +kernel
/-- Meets the hypotheses of clause 12 of `LanternBoundaryAndRegisters`. -/
theorem test_met_LanternBoundaryAndRegisters_12 : let v := getLan sArmed 5; lanQuiet sArmed 5 = true ∧ v.trimNext = [] ∧ v.arm = true ∧ v.spare = some 16 ∧ (getWick sArmed 5 16).st = .spare ∧ mapOf v v.swapLw.val < 17 ∧ mapOf v v.swapLw.val ≠ 16 := by
  decide +kernel

/-- Meets the hypotheses of clause 1 of `StepsRecomputesAndAudits`. -/
theorem test_met_StepsRecomputesAndAudits_1 : takeFirst (fun (f : Flight) => f.lan.val == 5 && f.pw.val == 3) (sFly .trim true).lmp.flights = some (fly .trim true, []) ∧ (fly .trim true).dead = true := by
  decide +kernel
/-- Meets the hypotheses of clause 2 of `StepsRecomputesAndAudits`. -/
theorem test_met_StepsRecomputesAndAudits_2 : takeFirst (fun (f : Flight) => f.lan.val == 5 && f.pw.val == 3) State.reset.lmp.flights = none := by
  decide +kernel
/-- Meets the hypotheses of clause 3 of `StepsRecomputesAndAudits`. -/
theorem test_met_StepsRecomputesAndAudits_3 : takeFirst (fun (f : Flight) => f.lan.val == 5 && f.pw.val == 3) sFlyProbe.lmp.flights = some (fly .probe false, []) ∧ (fly .probe false).dead = false ∧ (fly .probe false).kind = .probe ∧ (getWick sFlyProbe 5 3).rbBusy = true ∧ (fly .probe false).lo = (getWick sFlyProbe 5 3).rbRows.toNat := by
  decide +kernel
/-- Meets the hypotheses of clause 4 of `StepsRecomputesAndAudits`. -/
theorem test_met_StepsRecomputesAndAudits_4 : ∃ (s : State) (l : Lan) (w : PWick) (err : List (Nat × Int)) (bad : List Nat) (f : Flight) (rest : List Flight), (takeFirst (fun (f : Flight) => f.lan.val == l.val && f.pw.val == w.val) s.lmp.flights = some (f, rest)) ∧ (f.dead = false) ∧ (f.kind = .probe) ∧ (¬ ((getWick s l.val w.val).rbBusy = true ∧ f.lo = (getWick s l.val w.val).rbRows.toNat)) := by
  exact ⟨sFly .probe false, 5, 3, [], [], fly .probe false, [], by decide +kernel⟩
/-- Meets the hypotheses of clause 5 of `StepsRecomputesAndAudits`. -/
theorem test_met_StepsRecomputesAndAudits_5 : ∃ (s : State) (l : Lan) (w : PWick) (err : List (Nat × Int)) (bad : List Nat) (f : Flight) (rest : List Flight) (id : Nat) (lw : LWick) (sl : Nat) (lp fb rot lk : Bool) (c : Nat) (r : FlareRun), let a := storeErrors l.val w.val (some lw.val) bad { s with lmp := { s.lmp with flights := rest } }; let first := countsFor (getLan a l.val) lw.val sl; let z := if first then windowFull l.val sl a else a; let x := getWick z l.val w.val; let v := groupVals x f lk err; let chk := rowSumCheck x f.x v.1 (2 ^ f.e) (bandsP x) (bandsI x); let st : GrpSt := if v.2 then .sat else if chk = [] then .ok else .rsFail chk; (takeFirst (fun (f : Flight) => f.lan.val == l.val && f.pw.val == w.val) s.lmp.flights = some (f, rest)) ∧ (f.dead = false) ∧ (f.kind = .flare id lw sl lp fb rot lk) ∧ (findRun (storeErrors l.val w.val (some lw.val) bad { s with lmp := { s.lmp with flights := rest } }) id = some (c, r)) := by
  exact ⟨sFlyFlare, 5, 3, [], [], fly (.flare 9 2 0 false false false false) false, [], 9, 2, 0, false, false, false, false, ((findRun sFlyFlare 9).get (by decide +kernel)).1, ((findRun sFlyFlare 9).get (by decide +kernel)).2, by decide +kernel⟩
/-- Meets the hypotheses of clause 6 of `StepsRecomputesAndAudits`. -/
theorem test_met_StepsRecomputesAndAudits_6 : ([3].filter (fun k => !((getWick State.reset 5 3).rsBad.contains k))) ≠ [] := by
  decide +kernel
/-- Meets the hypotheses of clause 7 of `StepsRecomputesAndAudits`. -/
theorem test_met_StepsRecomputesAndAudits_7 : ∃ (s : State) (l : Lan) (w : PWick) (err : List (Nat × Int)) (bad : List Nat) (f : Flight) (rest : List Flight), let z := storeErrors l.val w.val none bad { s with lmp := { s.lmp with flights := rest } }; (takeFirst (fun (f : Flight) => f.lan.val == l.val && f.pw.val == w.val) s.lmp.flights = some (f, rest)) ∧ (f.dead = false) ∧ (f.kind = .trim) := by
  exact ⟨sFly .trim false, 5, 3, [], [], fly .trim false, [], by decide +kernel⟩
/-- Meets the hypotheses of clause 8 of `StepsRecomputesAndAudits`. -/
theorem test_met_StepsRecomputesAndAudits_8 : takeFirst (fun (f : Flight) => f.lan.val == 5 && f.pw.val == 3) sFlyDrive.lmp.flights = some (fly (.drive 3 true) false, []) ∧ (fly (.drive 3 true) false).dead = false ∧ (fly (.drive 3 true) false).kind = .drive 3 true ∧ (getLan sFlyDrive 5).phase = .drRun := by
  decide +kernel
/-- Meets the hypotheses of clause 9 of `StepsRecomputesAndAudits`. -/
theorem test_met_StepsRecomputesAndAudits_9 : ∃ (s : State) (l : Lan) (w : PWick) (err : List (Nat × Int)) (a : SliceAcc) (g : Grp) (c : Nat) (r : FlareRun), let v := getLan s l.val; let x := redoInputs s l.val r a g; let ex := exactVals s c v.epoch (lanLL v) a.lw.val x; let vals := (withPos 0 ex).map (fun p => p.2 + errAt err p.1); (redoOf (getLan s l.val) w.val = some (a, g)) ∧ (findRun s a.flare = some (c, r)) ∧ (exactCheck (getWick s l.val w.val) (shadowW s c v.epoch (lanLL v) a.lw.val) x vals = true) ∧ (g.st = .sat) := by
  exact ⟨sRedo, 5, 3, [], ((redoOf (getLan sRedo 5) 3).get (by decide +kernel)).1, ((redoOf (getLan sRedo 5) 3).get (by decide +kernel)).2, ((findRun sRedo 9).get (by decide +kernel)).1, ((findRun sRedo 9).get (by decide +kernel)).2, by decide +kernel⟩
/-- Meets the hypotheses of clause 10 of `StepsRecomputesAndAudits`. -/
theorem test_met_StepsRecomputesAndAudits_10 : ∃ (s : State) (l : Lan) (w : PWick) (err : List (Nat × Int)) (a : SliceAcc) (g : Grp) (c : Nat) (r : FlareRun) (fs : List (Nat × Option Nat)), let v := getLan s l.val; let x := redoInputs s l.val r a g; let ex := exactVals s c v.epoch (lanLL v) a.lw.val x; let vals := (withPos 0 ex).map (fun p => p.2 + errAt err p.1); (redoOf (getLan s l.val) w.val = some (a, g)) ∧ (findRun s a.flare = some (c, r)) ∧ (exactCheck (getWick s l.val w.val) (shadowW s c v.epoch (lanLL v) a.lw.val) x vals = true) ∧ (g.st = .rsFail fs) := by
  exact ⟨sRedoRs, 5, 3, [], ((redoOf (getLan sRedoRs 5) 3).get (by decide +kernel)).1, ((redoOf (getLan sRedoRs 5) 3).get (by decide +kernel)).2, ((findRun sRedoRs 9).get (by decide +kernel)).1, ((findRun sRedoRs 9).get (by decide +kernel)).2, [(0, none)], by decide +kernel⟩
/-- Meets the hypotheses of clause 11 of `StepsRecomputesAndAudits`. -/
theorem test_met_StepsRecomputesAndAudits_11 : (redoOf (getLan sRedo 5) 3).isSome = true ∧ (findRun sRedo 9).isSome = true ∧ exactCheck (getWick sRedo 5 3) (shadowW sRedo 0 0 0 2) [] ((withPos 0 (exactVals sRedo 0 0 0 2 [])).map (fun p => p.2 + errAt [(4, 1)] p.1)) = false ∧ sRedo.snuf.wheld = false := by
  decide +kernel
/-- Meets the hypotheses of clause 12 of `StepsRecomputesAndAudits`. -/
theorem test_met_StepsRecomputesAndAudits_12 : redoOf (getLan State.reset 5) 3 = none := by
  decide +kernel
/-- Meets the hypotheses of clause 13 of `StepsRecomputesAndAudits`. -/
theorem test_met_StepsRecomputesAndAudits_13 : (getLan sAudit 5).audits.length = 1 ∧ ((getLan sAudit 5).audits.all (fun a => a.accs.all (fun t => accPasses sAudit a t))) = true := by
  decide +kernel
/-- Meets the hypotheses of clause 14 of `StepsRecomputesAndAudits`. -/
theorem test_met_StepsRecomputesAndAudits_14 : ∃ (s : State) (l : Lan) (a : AuditCopy) (rest : List AuditCopy) (q : SliceAcc), ((getLan s l.val).audits = a :: rest) ∧ (q ∈ a.accs) ∧ (accPasses s a q = false) := by
  exact ⟨sAuditBad, 5, (((getLan sAuditBad 5).audits.head?).get (by decide +kernel)), [], (((((getLan sAuditBad 5).audits.head?).get (by decide +kernel)).accs.head?).get (by decide +kernel)), by decide +kernel⟩
/-- Meets the hypotheses of clause 15 of `StepsRecomputesAndAudits`. -/
theorem test_met_StepsRecomputesAndAudits_15 : (getLan State.reset 5).audits = [] := by
  decide +kernel
/-- Meets the hypotheses of clause 16 of `StepsRecomputesAndAudits`. -/
theorem test_met_StepsRecomputesAndAudits_16 : (getLan State.reset 5).remapDue = false ∧ (∀ lw < 16, (getWick State.reset 5 (mapOf (getLan State.reset 5) lw)).early = false) := by
  decide +kernel
/-- Meets the hypotheses of clause 17 of `StepsRecomputesAndAudits`. -/
theorem test_met_StepsRecomputesAndAudits_17 : (getLan sDecay 5).suspect = true ∧ (getLan sDecay 5).lastEvent = some 0 ∧ 0 + 4194304 ≤ (getLan sDecay 5).flares.val.toNat := by
  decide +kernel
/-- Meets the hypotheses of clause 18 of `StepsRecomputesAndAudits`. -/
theorem test_met_StepsRecomputesAndAudits_18 : ∃ (s : State) (l : Lan) (n : Nat), ((getLan s l.val).suspect = false) ∧ ((getLan s l.val).stepBase = some n) ∧ (n + 4194304 ≤ (getLan s l.val).flares.val.toNat) ∧ (ivalSet (getLan s l.val) ≠ 0) := by
  exact ⟨{ State.reset with lans := [(5, { Lantern.init with stepBase := some 0, ival := 1, flares := { val := 4194304, latch := 0 } })] }, 5, 0, by decide +kernel⟩
/-- Meets the hypotheses of clause 19 of `StepsRecomputesAndAudits`. -/
theorem test_met_StepsRecomputesAndAudits_19 : ∀ n ∈ (if (getLan State.reset 5).suspect then (getLan State.reset 5).lastEvent else (getLan State.reset 5).stepBase), (getLan State.reset 5).flares.val.toNat < n + 4194304 := by
  decide +kernel

/-- Meets the hypotheses of clause 1 of `TrimWindowsRotationAndDriveReference`. -/
theorem test_met_TrimWindowsRotationAndDriveReference_1 : 65536 ≤ Tab.get 0 (getLan sMoments 5).momSteps 0 := by
  decide +kernel
/-- Meets the hypotheses of clause 2 of `TrimWindowsRotationAndDriveReference`. -/
theorem test_met_TrimWindowsRotationAndDriveReference_2 : Tab.get 0 (getLan State.reset 5).momSteps 0 < 65536 := by
  decide +kernel
/-- Meets the hypotheses of clause 3 of `TrimWindowsRotationAndDriveReference`. -/
theorem test_met_TrimWindowsRotationAndDriveReference_3 : let v := getLan sRotate 5; v.spare = some 16 ∧ v.llan = some 0 ∧ v.rotEn = true ∧ v.st = .service ∧ v.arm = false ∧ (getWick sRotate 5 16).job = .none ∧ (getWick sRotate 5 16).wrBusy = false ∧ (getWick sRotate 5 16).st = .spare ∧ sRotate.snuf.wheld = false ∧ wavePending sRotate 5 = none := by
  decide +kernel
/-- Meets the hypotheses of clause 4 of `TrimWindowsRotationAndDriveReference`. -/
theorem test_met_TrimWindowsRotationAndDriveReference_4 : let v := getLan sQuar 5; v.spare = some 16 ∧ v.llan = some 0 ∧ v.rotEn = true ∧ v.st = .service ∧ v.arm = false ∧ (getWick sQuar 5 16).job = .none ∧ (getWick sQuar 5 16).wrBusy = false ∧ (getWick sQuar 5 16).st = .quarantined ∧ (getWick sQuar 5 16).strike = false ∧ (getWick sQuar 5 16).src = some (0, 4) ∧ sQuar.snuf.wheld = false ∧ wavePending sQuar 5 = none := by
  decide +kernel
/-- Meets the hypotheses of clause 5 of `TrimWindowsRotationAndDriveReference`. -/
theorem test_met_TrimWindowsRotationAndDriveReference_5 : let v := getLan sStrike 5; v.spare = some 16 ∧ v.llan = some 0 ∧ v.rotEn = true ∧ v.st = .service ∧ v.arm = false ∧ (getWick sStrike 5 16).job = .none ∧ (getWick sStrike 5 16).wrBusy = false ∧ (getWick sStrike 5 16).st = .quarantined ∧ (getWick sStrike 5 16).strike = true ∧ sStrike.snuf.wheld = false ∧ wavePending sStrike 5 = none := by
  decide +kernel
/-- Meets the hypotheses of clause 6 of `TrimWindowsRotationAndDriveReference`. -/
theorem test_met_TrimWindowsRotationAndDriveReference_6 : (let s : State := { State.reset with lans := [(5, { Lantern.init with spare := some 16, llan := some 0, rotEn := false })] }; (getLan s 5).spare = some 16 ∧ (getLan s 5).llan = some 0 ∧ (getLan s 5).rotEn = false) := by
  decide +kernel
/-- Meets the hypotheses of clause 7 of `TrimWindowsRotationAndDriveReference`. -/
theorem test_met_TrimWindowsRotationAndDriveReference_7 : (getLan { State.reset with lans := [(5, { Lantern.init with spare := none })] } 5).spare = none := by
  decide +kernel
/-- Meets the hypotheses of clause 8 of `TrimWindowsRotationAndDriveReference`. -/
theorem test_met_TrimWindowsRotationAndDriveReference_8 : (getLan sWin1 5).calWick = some 3 ∧ 65536 ≤ (getWick sWin1 5 3).winSteps ∧ (getLan sWin1 5).phase = .win1 := by
  decide +kernel
/-- Meets the hypotheses of clause 9 of `TrimWindowsRotationAndDriveReference`. -/
theorem test_met_TrimWindowsRotationAndDriveReference_9 : ∃ (s : State) (l : Lan) (p : PWick), (trimFailing s l.val (getWick s l.val p.val) = []) ∧ (((getLan s l.val).calWick = some p) ∧ (65536 ≤ (getWick s l.val p.val).winSteps) ∧ ((getLan s l.val).phase = .win2) ∧ ((getWick s l.val p.val).probeFail = false)) := by
  exact ⟨sWin2ok, 5, 3, win2_clean, by decide +kernel⟩
/-- Meets the hypotheses of clause 10 of `TrimWindowsRotationAndDriveReference`. -/
theorem test_met_TrimWindowsRotationAndDriveReference_10 : (getLan sWin2p 5).calWick = some 3 ∧ 65536 ≤ (getWick sWin2p 5 3).winSteps ∧ (getLan sWin2p 5).phase = .win2 ∧ (getWick sWin2p 5 3).probeFail = true ∧ (getWick sWin2p 5 3).trimTried = false ∧ trimFailing sWin2p 5 (getWick sWin2p 5 3) = [] ∧ canRepair (getWick sWin2p 5 3) [] = true ∧ (getWick sWin2p 5 3).job ≠ .lanTest := by
  exact ⟨by decide +kernel, by decide +kernel, by decide +kernel, by decide +kernel, by decide +kernel, win2_cleanp, by decide +kernel, by decide +kernel⟩
/-- Meets the hypotheses of clause 11 of `TrimWindowsRotationAndDriveReference`. -/
theorem test_met_TrimWindowsRotationAndDriveReference_11 : (getLan sWin2 5).calWick = some 3 ∧ 65536 ≤ (getWick sWin2 5 3).winSteps ∧ (getLan sWin2 5).phase = .win2 ∧ (getWick sWin2 5 3).probeFail = true ∧ (getWick sWin2 5 3).trimTried = true := by
  decide +kernel
/-- Meets the hypotheses of clause 12 of `TrimWindowsRotationAndDriveReference`. -/
theorem test_met_TrimWindowsRotationAndDriveReference_12 : (getLan State.reset 5).calWick = none := by
  decide +kernel
/-- Meets the hypotheses of clause 13 of `TrimWindowsRotationAndDriveReference`. -/
theorem test_met_TrimWindowsRotationAndDriveReference_13 : genFree (getLan State.reset 5) = true ∧ divNow State.reset 5 = 0 ∧ drFalls (nowF State.reset) (getLan State.reset 5) = true ∧ (∀ t ∈ (getLan State.reset 5).drBegan, t + 675000000 ≤ nowF State.reset) ∧ State.reset.lmp.frozen = false ∧ State.reset.snuf.wheld = false ∧ (getLan State.reset 5).st ≠ .retired ∧ drGap (setLan 5 { getLan State.reset 5 with drDue := true } State.reset) 5 = true := by
  decide +kernel
/-- Meets the hypotheses of clause 14 of `TrimWindowsRotationAndDriveReference`. -/
theorem test_met_TrimWindowsRotationAndDriveReference_14 : (let s := sFiring5; genFree (getLan s 5) = true ∧ divNow s 5 = 0 ∧ drFalls (nowF s) (getLan s 5) = true ∧ (∀ t ∈ (getLan s 5).drBegan, t + 675000000 ≤ nowF s) ∧ s.lmp.frozen = false ∧ s.snuf.wheld = false ∧ (getLan s 5).st ≠ .retired ∧ drGap (setLan 5 { getLan s 5 with drDue := true } s) 5 = false) := by
  decide +kernel
/-- Meets the hypotheses of clause 15 of `TrimWindowsRotationAndDriveReference`. -/
theorem test_met_TrimWindowsRotationAndDriveReference_15 : (getLan sDrWait 5).phase = .drWait := by
  decide +kernel
/-- Meets the hypotheses of clause 17 of `TrimWindowsRotationAndDriveReference`. -/
theorem test_met_TrimWindowsRotationAndDriveReference_17 : (getLan sDrRun 5).phase = .drRun ∧ (getLan sDrRun 5).drGot = 7680 := by
  decide +kernel
/-- Meets the hypotheses of clause 18 of `TrimWindowsRotationAndDriveReference`. -/
theorem test_met_TrimWindowsRotationAndDriveReference_18 : (getLan State.reset 5).phase ≠ .drRun := by
  decide +kernel

/-- Meets the hypotheses of clause 1 of `DeviceRecordAndMonitor`. -/
theorem test_met_DeviceRecordAndMonitor_1 : State.reset.flash.noRec = false := by
  decide +kernel
/-- Meets the hypotheses of clause 2 of `DeviceRecordAndMonitor`. -/
theorem test_met_DeviceRecordAndMonitor_2 : ({ State.reset with flash := { State.reset.flash with noRec := true } } : State).flash.noRec = true := by
  decide +kernel
/-- Meets the hypotheses of clause 4 of `DeviceRecordAndMonitor`. -/
theorem test_met_DeviceRecordAndMonitor_4 : (0 : Fin 4).val < sMon.mon.cvs.length ∧ (getCv sMon 0).urgent = none ∧ (getCv sMon 0).run = true ∧ (getCv sMon 0).seqNow[(getCv sMon 0).entry]? = some { gain := 0, ts := 1, input := 3 } ∧ (if 840 ≤ tempOf (sMon.mon.dtab.getD 3 (0, 0)) (levelCode 0 500000 0).toNat then min 16 ((sMon.mon.temp.getD 3 (0, 0)).1.toNat + 1) else 0) ≠ 16 ∧ 3 < sMon.mon.temp.length := by
  decide +kernel
/-- Meets the hypotheses of clause 5 of `DeviceRecordAndMonitor`. -/
theorem test_met_DeviceRecordAndMonitor_5 : (getCv sHot 0).urgent = none ∧ (getCv sHot 0).run = true ∧ (getCv sHot 0).seqNow[(getCv sHot 0).entry]? = some { gain := 0, ts := 1, input := 0 } ∧ 840 ≤ tempOf (sHot.mon.dtab.getD 0 (0, 0)) (levelCode 0 900000 0).toNat ∧ 15 ≤ (sHot.mon.temp.getD 0 (0, 0)).1.toNat ∧ sHot.snuf.wheld = false := by
  decide +kernel
/-- Meets the hypotheses of clause 6 of `DeviceRecordAndMonitor`. -/
theorem test_met_DeviceRecordAndMonitor_6 : (1 : Fin 4).val < sMon.mon.cvs.length ∧ (getCv sMon 1).urgent = some (false, { gain := 0, ts := 1, input := 40 }) ∧ ¬ ((40 : BitVec 6).toNat < 32) := by
  decide +kernel
/-- Meets the hypotheses of clause 7 of `DeviceRecordAndMonitor`. -/
theorem test_met_DeviceRecordAndMonitor_7 : (getCv sMonIdle 0).urgent = none ∧ (getCv sMonIdle 0).run = false := by
  decide +kernel
/-- Meets the hypotheses of clause 8 of `DeviceRecordAndMonitor`. -/
theorem test_met_DeviceRecordAndMonitor_8 : bitAt 0x80000000 31 = true ∧ sMonWait.mon.cvs.any (fun c => c.waitFw.isSome) = true := by
  decide +kernel
/-- Meets the hypotheses of clause 9 of `DeviceRecordAndMonitor`. -/
theorem test_met_DeviceRecordAndMonitor_9 : bitAt 0x80000000 31 = true ∧ State.reset.mon.cvs.any (fun c => c.waitFw.isSome) = false ∧ fld 0x80000000 17 16 < State.reset.mon.cvs.length := by
  decide +kernel
/-- Meets the hypotheses of clause 10 of `DeviceRecordAndMonitor`. -/
theorem test_met_DeviceRecordAndMonitor_10 : bitAt 0 31 = false := by
  decide +kernel
/-- Meets the hypotheses of clause 11 of `DeviceRecordAndMonitor`. -/
theorem test_met_DeviceRecordAndMonitor_11 : fld 0 17 16 < State.reset.mon.cvs.length := by
  decide +kernel
/-- Meets the hypotheses of clause 12 of `DeviceRecordAndMonitor`. -/
theorem test_met_DeviceRecordAndMonitor_12 : ∃ (s : State) (n : Fin 4) (v : W32), (n.val < s.mon.cvs.length) := by
  exact ⟨State.reset, 0x30000, 3, by decide +kernel⟩

/-- Meets the hypotheses of clause 1 of `FlickersAndFlareCompletion`. -/
theorem test_met_FlickersAndFlareCompletion_1 : 5 ≤ sGrant.clk.step := by
  decide +kernel
/-- Meets the hypotheses of clause 2 of `FlickersAndFlareCompletion`. -/
theorem test_met_FlickersAndFlareCompletion_2 : State.reset.clk.step < 5 := by
  decide +kernel
/-- Meets the hypotheses of clause 3 of `FlickersAndFlareCompletion`. -/
theorem test_met_FlickersAndFlareCompletion_3 : probing (getWick sGrant 5 3) = true := by
  decide +kernel
/-- Meets the hypotheses of clause 4 of `FlickersAndFlareCompletion`. -/
theorem test_met_FlickersAndFlareCompletion_4 : ∃ (s : State) (c : CtxI) (r : FlareRun), let out := fun (q : LLan × Lan × Bool) => outArea (shapeQ (getLan s q.2.1.val)) (getSlot (getLan s q.2.1.val) q.2.2) (wickVals s c.val r q); let areas := r.lans.map (fun q => (q.2.1, out q)); let tail : FlareTail := { id := r.id, req := r.req, clean := r.clean, resolved := r.resolved, checks := if r.req.daylight then daylightChecks s r else r.checks, chains := if r.req.thread.val < 8 then r.lans.filterMap (flareChain s r areas) else [], outs := [] }; (s.snuf.wheld = false) ∧ ((getLctx s c.val).runs.find? (runDone s) = some r) ∧ ((r.lans.map (fun q => q.2.1)).Nodup) ∧ ((if r.req.daylight then daylightBad s c.val r else none) = none) := by
  exact ⟨sDone, 0, (((getLctx sDone 0).runs.head?).get (by decide +kernel)), by decide +kernel⟩
/-- Meets the hypotheses of clause 5 of `FlickersAndFlareCompletion`. -/
theorem test_met_FlickersAndFlareCompletion_5 : ∃ (s : State) (c : CtxI) (r : FlareRun) (l : Nat), (s.snuf.wheld = false) ∧ ((getLctx s c.val).runs.find? (runDone s) = some r) ∧ (r.req.daylight = true) ∧ (daylightBad s c.val r = some l) := by
  exact ⟨sDayBad, 0, (((getLctx sDayBad 0).runs.head?).get (by decide +kernel)), 5, by decide +kernel⟩
/-- Meets the hypotheses of clause 6 of `FlickersAndFlareCompletion`. -/
theorem test_met_FlickersAndFlareCompletion_6 : (getLctx State.reset 0).runs.find? (runDone State.reset) = none := by
  decide +kernel
/-- Meets the hypotheses of clause 7 of `FlickersAndFlareCompletion`. -/
theorem test_met_FlickersAndFlareCompletion_7 : (sSettle.fab.settles.find? (fun q => q.slot == 0 && q.inst == 8)).isSome = true ∧ sSettle.snuf.wheld = false ∧ Tab.get [] sSettle.chk.jrnl 0 = [] := by
  decide +kernel
/-- Meets the hypotheses of clause 8 of `FlickersAndFlareCompletion`. -/
theorem test_met_FlickersAndFlareCompletion_8 : ((Tab.get [] sJrnl.chk.jrnl 0).head?.any (fun e => e.inst == 8)) = true := by
  decide +kernel

/-- Meets the hypotheses of clause 1 of `GovernorWindowsAndRemap`. -/
theorem test_met_GovernorWindowsAndRemap_1 : sEn.lmp.en = true := by
  decide +kernel
/-- Meets the hypotheses of clause 3 of `GovernorWindowsAndRemap`. -/
theorem test_met_GovernorWindowsAndRemap_3 : sEn.lmp.en = true ∧ cutNext sEn.pwr.level.toNat (100 : BitVec 9).toNat sEn.pwr.set.toNat 0 sEn.pwr.limit.toNat = sEn.pwr.level.toNat := by
  decide +kernel
/-- Meets the hypotheses of clause 4 of `GovernorWindowsAndRemap`. -/
theorem test_met_GovernorWindowsAndRemap_4 : sEn.lmp.en = true ∧ cutNext sEn.pwr.level.toNat (200 : BitVec 9).toNat sEn.pwr.set.toNat 0 sEn.pwr.limit.toNat ≠ sEn.pwr.level.toNat := by
  decide +kernel
/-- Meets the hypotheses of clause 5 of `GovernorWindowsAndRemap`. -/
theorem test_met_GovernorWindowsAndRemap_5 : State.reset.lmp.en = false := by
  decide +kernel
/-- Meets the hypotheses of clause 6 of `GovernorWindowsAndRemap`. -/
theorem test_met_GovernorWindowsAndRemap_6 : 5 ≤ sEn.clk.step ∧ sEn.lmp.en = true := by
  decide +kernel
/-- Meets the hypotheses of clause 7 of `GovernorWindowsAndRemap`. -/
theorem test_met_GovernorWindowsAndRemap_7 : 5 ≤ sGrant.clk.step ∧ sGrant.lmp.en = false ∧ bitAt 0 31 = false := by
  decide +kernel
/-- Meets the hypotheses of clause 8 of `GovernorWindowsAndRemap`. -/
theorem test_met_GovernorWindowsAndRemap_8 : State.reset.clk.step < 5 := by
  decide +kernel
/-- Meets the hypotheses of clause 11 of `GovernorWindowsAndRemap`. -/
theorem test_met_GovernorWindowsAndRemap_11 : lanOf sNoReserve 0 = some 5 ∧ heldFree sNoReserve (sconceOfL 0) = none ∧ sNoReserve.snuf.wheld = false := by
  decide +kernel
/-- Meets the hypotheses of clause 12 of `GovernorWindowsAndRemap`. -/
theorem test_met_GovernorWindowsAndRemap_12 : lanOf sReserve 0 = some 5 ∧ heldFree sReserve (sconceOfL 0) = some 6 ∧ sReserve.snuf.wheld = false := by
  decide +kernel
/-- Meets the hypotheses of clause 13 of `GovernorWindowsAndRemap`. -/
theorem test_met_GovernorWindowsAndRemap_13 : lanOf State.reset 0 = none := by
  decide +kernel

/-- Meets the hypotheses of clause 1 of `EngineLaneOperations`. -/
theorem test_met_EngineLaneOperations_1 : wClass (word 1 0 2 1 0 11 0) = 1 ∧ sThread.snuf.wheld = false ∧ threadAt sThread 5 8 = some th8 ∧ mayIssue sThread 5 8 th8 = true ∧ dutyRoom sThread 5 = true ∧ illegalForm th8 (word 1 0 2 1 0 11 0) (laneForm (word 1 0 2 1 0 11 0) (wOp (word 1 0 2 1 0 11 0) = 0) [0xB]) = false ∧ operandBusy th8 (laneForm (word 1 0 2 1 0 11 0) (wOp (word 1 0 2 1 0 11 0) = 0) [0xB]) = false ∧ wOp (word 1 0 2 1 0 11 0) = 0 := by
  decide +kernel
/-- Meets the hypotheses of clause 2 of `EngineLaneOperations`. -/
theorem test_met_EngineLaneOperations_2 : wClass (word 2 0 2 1 0 9 0) = 2 ∧ sThread.snuf.wheld = false ∧ threadAt sThread 5 8 = some th8 ∧ mayIssue sThread 5 8 th8 = true ∧ dutyRoom sThread 5 = true ∧ illegalForm th8 (word 2 0 2 1 0 9 0) (laneForm (word 2 0 2 1 0 9 0) true [0x9, 0xA]) = false ∧ operandBusy th8 (laneForm (word 2 0 2 1 0 9 0) true [0x9, 0xA]) = false ∧ wOp (word 2 0 2 1 0 9 0) = 0 := by
  decide +kernel
/-- Meets the hypotheses of clause 3 of `EngineLaneOperations`. -/
theorem test_met_EngineLaneOperations_3 : wClass (word 3 0 2 1 0 7 0) = 3 ∧ sThread.snuf.wheld = false ∧ threadAt sThread 5 8 = some th8 ∧ mayIssue sThread 5 8 th8 = true ∧ dutyRoom sThread 5 = true ∧ illegalForm th8 (word 3 0 2 1 0 7 0) (laneForm (word 3 0 2 1 0 7 0) true [0x7, 0x8]) = false ∧ operandBusy th8 (laneForm (word 3 0 2 1 0 7 0) true [0x7, 0x8]) = false ∧ wOp (word 3 0 2 1 0 7 0) = 0 := by
  decide +kernel
/-- Meets the hypotheses of clause 4 of `EngineLaneOperations`. -/
theorem test_met_EngineLaneOperations_4 : wClass (word 3 1 2 1 0 4 0) = 3 ∧ sThread.snuf.wheld = false ∧ threadAt sThread 5 8 = some th8 ∧ mayIssue sThread 5 8 th8 = true ∧ dutyRoom sThread 5 = true ∧ illegalForm th8 (word 3 1 2 1 0 4 0) (laneForm (word 3 1 2 1 0 4 0) true [0x4]) = false ∧ operandBusy th8 (laneForm (word 3 1 2 1 0 4 0) true [0x4]) = false ∧ wOp (word 3 1 2 1 0 4 0) = 1 := by
  decide +kernel
/-- Meets the hypotheses of clause 5 of `EngineLaneOperations`. -/
theorem test_met_EngineLaneOperations_5 : wClass (word 4 0 2 1 0 13 0) = 4 ∧ sThread.snuf.wheld = false ∧ threadAt sThread 5 8 = some th8 ∧ mayIssue sThread 5 8 th8 = true ∧ dutyRoom sThread 5 = true ∧ illegalForm th8 (word 4 0 2 1 0 13 0) (laneForm (word 4 0 2 1 0 13 0) false [0xC, 0xD]) = false ∧ operandBusy th8 (laneForm (word 4 0 2 1 0 13 0) false [0xC, 0xD]) = false ∧ wOp (word 4 0 2 1 0 13 0) = 0 := by
  decide +kernel
/-- Meets the hypotheses of clause 6 of `EngineLaneOperations`. -/
theorem test_met_EngineLaneOperations_6 : wClass (word 5 0 2 1 0 11 11) = 5 ∧ sThread.snuf.wheld = false ∧ threadAt sThread 5 8 = some th8 ∧ mayIssue sThread 5 8 th8 = true ∧ dutyRoom sThread 5 = true ∧ illegalForm th8 (word 5 0 2 1 0 11 11) ({ vec := [wVd (word 5 0 2 1 0 11 11), wVa (word 5 0 2 1 0 11 11) ], scal := [], pred := [], fmts := cvtFmts, immOk := cvtFmts.contains (wImm (word 5 0 2 1 0 11 11) % 16), vector := true }) = false ∧ operandBusy th8 ({ vec := [wVd (word 5 0 2 1 0 11 11), wVa (word 5 0 2 1 0 11 11) ], scal := [], pred := [], fmts := cvtFmts, immOk := cvtFmts.contains (wImm (word 5 0 2 1 0 11 11) % 16), vector := true }) = false ∧ wOp (word 5 0 2 1 0 11 11) = 0 := by
  decide +kernel
/-- Meets the hypotheses of clause 7 of `EngineLaneOperations`. -/
theorem test_met_EngineLaneOperations_7 : wClass (word 5 2 2 1 0 9 0) = 5 ∧ sThread.snuf.wheld = false ∧ threadAt sThread 5 8 = some th8 ∧ mayIssue sThread 5 8 th8 = true ∧ dutyRoom sThread 5 = true ∧ illegalForm th8 (word 5 2 2 1 0 9 0) ({ vec := [wVd (word 5 2 2 1 0 9 0), wVa (word 5 2 2 1 0 9 0) ], scal := [], pred := [], fmts := cvtFmts, immOk := decide ((packPart (word 5 2 2 1 0 9 0) + 1) * laneWidth (wFmt (word 5 2 2 1 0 9 0)) ≤ 32), vector := true }) = false ∧ operandBusy th8 ({ vec := [wVd (word 5 2 2 1 0 9 0), wVa (word 5 2 2 1 0 9 0) ], scal := [], pred := [], fmts := cvtFmts, immOk := decide ((packPart (word 5 2 2 1 0 9 0) + 1) * laneWidth (wFmt (word 5 2 2 1 0 9 0)) ≤ 32), vector := true }) = false ∧ wOp (word 5 2 2 1 0 9 0) = 2 := by
  decide +kernel
/-- Meets the hypotheses of clause 8 of `EngineLaneOperations`. -/
theorem test_met_EngineLaneOperations_8 : wClass (word 7 0 2 1 0 11 0) = 7 ∧ sThread.snuf.wheld = false ∧ threadAt sThread 5 8 = some th8 ∧ mayIssue sThread 5 8 th8 = true ∧ dutyRoom sThread 5 = true ∧ illegalForm th8 (word 7 0 2 1 0 11 0) ({ vec := [wVd (word 7 0 2 1 0 11 0), wVa (word 7 0 2 1 0 11 0) ], scal := [], pred := [], fmts := [0xB, 0xD], immOk := true, vector := true }) = false ∧ operandBusy th8 ({ vec := [wVd (word 7 0 2 1 0 11 0), wVa (word 7 0 2 1 0 11 0) ], scal := [], pred := [], fmts := [0xB, 0xD], immOk := true, vector := true }) = false ∧ wOp (word 7 0 2 1 0 11 0) = 0 := by
  decide +kernel
/-- Meets the hypotheses of clause 9 of `EngineLaneOperations`. -/
theorem test_met_EngineLaneOperations_9 : wClass (word 8 0 2 1 0 11 0) = 8 ∧ sThread.snuf.wheld = false ∧ threadAt sThread 5 8 = some th8 ∧ mayIssue sThread 5 8 th8 = true ∧ dutyRoom sThread 5 = true ∧ illegalForm th8 (word 8 0 2 1 0 11 0) ({ vec := [wVd (word 8 0 2 1 0 11 0), wVa (word 8 0 2 1 0 11 0) ], scal := [], pred := [], fmts := [0xB], immOk := true, vector := true }) = false ∧ operandBusy th8 ({ vec := [wVd (word 8 0 2 1 0 11 0), wVa (word 8 0 2 1 0 11 0) ], scal := [], pred := [], fmts := [0xB], immOk := true, vector := true }) = false ∧ wOp (word 8 0 2 1 0 11 0) = 0 := by
  decide +kernel
/-- Meets the hypotheses of clause 10 of `EngineLaneOperations`. -/
theorem test_met_EngineLaneOperations_10 : wClass (word 6 1 2 1 0 11 0) = 6 ∧ sThread.snuf.wheld = false ∧ threadAt sThread 5 8 = some th8 ∧ mayIssue sThread 5 8 th8 = true ∧ dutyRoom sThread 5 = true ∧ illegalForm th8 (word 6 1 2 1 0 11 0) (laneForm (word 6 1 2 1 0 11 0) false [0xB, 0xD]) = false ∧ operandBusy th8 (laneForm (word 6 1 2 1 0 11 0) false [0xB, 0xD]) = false ∧ wOp (word 6 1 2 1 0 11 0) = 1 := by
  decide +kernel
/-- Meets the hypotheses of clause 11 of `EngineLaneOperations`. -/
theorem test_met_EngineLaneOperations_11 : wClass (word 6 0 2 1 0 11 0) = 6 ∧ sThread.snuf.wheld = false ∧ threadAt sThread 5 8 = some th8 ∧ mayIssue sThread 5 8 th8 = true ∧ dutyRoom sThread 5 = true ∧ illegalForm th8 (word 6 0 2 1 0 11 0) ({ vec := [wVa (word 6 0 2 1 0 11 0), wVb (word 6 0 2 1 0 11 0)], scal := [], pred := [wVd (word 6 0 2 1 0 11 0)], fmts := [0xB, 0xD], immOk := true, vector := true }) = false ∧ operandBusy th8 ({ vec := [wVa (word 6 0 2 1 0 11 0), wVb (word 6 0 2 1 0 11 0)], scal := [], pred := [wVd (word 6 0 2 1 0 11 0)], fmts := [0xB, 0xD], immOk := true, vector := true }) = false ∧ wOp (word 6 0 2 1 0 11 0) = 0 := by
  decide +kernel
/-- Meets the hypotheses of clause 12 of `EngineLaneOperations`. -/
theorem test_met_EngineLaneOperations_12 : wClass (word 5 1 2 1 0 9 0) = 5 ∧ sThread.snuf.wheld = false ∧ threadAt sThread 5 8 = some th8 ∧ mayIssue sThread 5 8 th8 = true ∧ dutyRoom sThread 5 = true ∧ illegalForm th8 (word 5 1 2 1 0 9 0) ({ vec := [wVd (word 5 1 2 1 0 9 0), wVa (word 5 1 2 1 0 9 0)], scal := [], pred := [], fmts := cvtFmts, immOk := decide ((packPart (word 5 1 2 1 0 9 0) + 1) * laneWidth (wFmt (word 5 1 2 1 0 9 0)) ≤ 32), vector := true }) = false ∧ operandBusy th8 ({ vec := [wVd (word 5 1 2 1 0 9 0), wVa (word 5 1 2 1 0 9 0)], scal := [], pred := [], fmts := cvtFmts, immOk := decide ((packPart (word 5 1 2 1 0 9 0) + 1) * laneWidth (wFmt (word 5 1 2 1 0 9 0)) ≤ 32), vector := true }) = false ∧ wOp (word 5 1 2 1 0 9 0) = 1 := by
  decide +kernel

/-- Meets the hypotheses of clause 1 of `EngineControlFireAndTransfer`. -/
theorem test_met_EngineControlFireAndTransfer_1 : wClass (word 0 3 2 1 0 0 0) = 0 ∧ sThread.snuf.wheld = false ∧ threadAt sThread 5 8 = some th8 ∧ mayIssue sThread 5 8 th8 = true ∧ dutyRoom sThread 5 = true ∧ illegalForm th8 (word 0 3 2 1 0 0 0) ({ vec := [], scal := if wOp (word 0 3 2 1 0 0 0) = 4 then [wVd (word 0 3 2 1 0 0 0), wVa (word 0 3 2 1 0 0 0), wVb (word 0 3 2 1 0 0 0)] else [], pred := [], fmts := [], immOk := true, vector := false }) = false ∧ operandBusy th8 ({ vec := [], scal := if wOp (word 0 3 2 1 0 0 0) = 4 then [wVd (word 0 3 2 1 0 0 0), wVa (word 0 3 2 1 0 0 0), wVb (word 0 3 2 1 0 0 0)] else [], pred := [], fmts := [], immOk := true, vector := false }) = false ∧ wOp (word 0 3 2 1 0 0 0) = 3 := by
  decide +kernel
/-- Meets the hypotheses of clause 2 of `EngineControlFireAndTransfer`. -/
theorem test_met_EngineControlFireAndTransfer_2 : wClass (word 0 1 2 1 0 0 0) = 0 ∧ sThread.snuf.wheld = false ∧ threadAt sThread 5 8 = some th8 ∧ mayIssue sThread 5 8 th8 = true ∧ dutyRoom sThread 5 = true ∧ illegalForm th8 (word 0 1 2 1 0 0 0) ({ vec := [], scal := if wOp (word 0 1 2 1 0 0 0) = 4 then [wVd (word 0 1 2 1 0 0 0), wVa (word 0 1 2 1 0 0 0), wVb (word 0 1 2 1 0 0 0)] else [], pred := [], fmts := [], immOk := true, vector := false }) = false ∧ operandBusy th8 ({ vec := [], scal := if wOp (word 0 1 2 1 0 0 0) = 4 then [wVd (word 0 1 2 1 0 0 0), wVa (word 0 1 2 1 0 0 0), wVb (word 0 1 2 1 0 0 0)] else [], pred := [], fmts := [], immOk := true, vector := false }) = false ∧ wOp (word 0 1 2 1 0 0 0) = 1 := by
  decide +kernel
/-- Meets the hypotheses of clause 3 of `EngineControlFireAndTransfer`. -/
theorem test_met_EngineControlFireAndTransfer_3 : wClass (word 0 4 2 1 0 0 0) = 0 ∧ sThread.snuf.wheld = false ∧ threadAt sThread 5 8 = some th8 ∧ mayIssue sThread 5 8 th8 = true ∧ dutyRoom sThread 5 = true ∧ illegalForm th8 (word 0 4 2 1 0 0 0) ({ vec := [], scal := if wOp (word 0 4 2 1 0 0 0) = 4 then [wVd (word 0 4 2 1 0 0 0), wVa (word 0 4 2 1 0 0 0), wVb (word 0 4 2 1 0 0 0)] else [], pred := [], fmts := [], immOk := true, vector := false }) = false ∧ operandBusy th8 ({ vec := [], scal := if wOp (word 0 4 2 1 0 0 0) = 4 then [wVd (word 0 4 2 1 0 0 0), wVa (word 0 4 2 1 0 0 0), wVb (word 0 4 2 1 0 0 0)] else [], pred := [], fmts := [], immOk := true, vector := false }) = false ∧ wOp (word 0 4 2 1 0 0 0) = 4 := by
  decide +kernel
/-- Meets the hypotheses of clause 4 of `EngineControlFireAndTransfer`. -/
theorem test_met_EngineControlFireAndTransfer_4 : wClass (word 0 2 2 1 0 0 0) = 0 ∧ sThread.snuf.wheld = false ∧ threadAt sThread 5 8 = some th8 ∧ mayIssue sThread 5 8 th8 = true ∧ dutyRoom sThread 5 = true ∧ illegalForm th8 (word 0 2 2 1 0 0 0) ({ vec := [], scal := if wOp (word 0 2 2 1 0 0 0) = 4 then [wVd (word 0 2 2 1 0 0 0), wVa (word 0 2 2 1 0 0 0), wVb (word 0 2 2 1 0 0 0)] else [], pred := [], fmts := [], immOk := true, vector := false }) = false ∧ operandBusy th8 ({ vec := [], scal := if wOp (word 0 2 2 1 0 0 0) = 4 then [wVd (word 0 2 2 1 0 0 0), wVa (word 0 2 2 1 0 0 0), wVb (word 0 2 2 1 0 0 0)] else [], pred := [], fmts := [], immOk := true, vector := false }) = false ∧ wOp (word 0 2 2 1 0 0 0) = 2 := by
  decide +kernel
/-- Meets the hypotheses of clause 5 of `EngineControlFireAndTransfer`. -/
theorem test_met_EngineControlFireAndTransfer_5 : mayIssue sFireable 5 8 th8 = true ∧ sFireable.lmp.frozen = false ∧ ownFlare sFireable th8.ctx fire0.lans = true ∧ (getLctx sFireable 0).queue.length < 64 ∧ wClass (word 14 0 2 1 0 3 0) = 14 ∧ sThread.snuf.wheld = false ∧ threadAt sThread 5 8 = some th8 ∧ mayIssue sThread 5 8 th8 = true ∧ dutyRoom sThread 5 = true ∧ illegalForm th8 (word 14 0 2 1 0 3 0) ({ vec := [], scal := [], pred := [], fmts := [0x3, 0x4], immOk := true, vector := false }) = false ∧ operandBusy th8 ({ vec := [], scal := [], pred := [], fmts := [0x3, 0x4], immOk := true, vector := false }) = false ∧ wOp (word 14 0 2 1 0 3 0) = 0 := by
  decide +kernel
/-- Meets the hypotheses of clause 6 of `EngineControlFireAndTransfer`. -/
theorem test_met_EngineControlFireAndTransfer_6 : ownFlare sQueueFull th8.ctx fire0.lans = true ∧ 64 ≤ (getLctx sQueueFull 0).queue.length ∧ wClass (word 14 0 2 1 0 3 0) = 14 ∧ sThread.snuf.wheld = false ∧ threadAt sThread 5 8 = some th8 ∧ mayIssue sThread 5 8 th8 = true ∧ dutyRoom sThread 5 = true ∧ illegalForm th8 (word 14 0 2 1 0 3 0) ({ vec := [], scal := [], pred := [], fmts := [0x3, 0x4], immOk := true, vector := false }) = false ∧ operandBusy th8 ({ vec := [], scal := [], pred := [], fmts := [0x3, 0x4], immOk := true, vector := false }) = false ∧ wOp (word 14 0 2 1 0 3 0) = 0 := by
  decide +kernel
/-- Meets the hypotheses of clause 7 of `EngineControlFireAndTransfer`. -/
theorem test_met_EngineControlFireAndTransfer_7 : wClass (word 14 1 2 1 0 0 0) = 14 ∧ sThread.snuf.wheld = false ∧ threadAt sThread 5 8 = some th8 ∧ mayIssue sThread 5 8 th8 = true ∧ dutyRoom sThread 5 = true ∧ illegalForm th8 (word 14 1 2 1 0 0 0) ({ vec := [], scal := [], pred := [], fmts := [], immOk := true, vector := false }) = false ∧ operandBusy th8 ({ vec := [], scal := [], pred := [], fmts := [], immOk := true, vector := false }) = false ∧ wOp (word 14 1 2 1 0 0 0) = 1 := by
  decide +kernel
/-- Meets the hypotheses of clause 8 of `EngineControlFireAndTransfer`. -/
theorem test_met_EngineControlFireAndTransfer_8 : sendTarget (getEng sThread 5) 8 (word 13 0 2 1 0 13 0) = 0 ∧ ownerOfLan sThread 0 = some th8.ctx ∧ wClass (word 13 0 2 1 0 13 0) = 13 ∧ sThread.snuf.wheld = false ∧ threadAt sThread 5 8 = some th8 ∧ mayIssue sThread 5 8 th8 = true ∧ dutyRoom sThread 5 = true ∧ illegalForm th8 (word 13 0 2 1 0 13 0) ({ vec := [wVb (word 13 0 2 1 0 13 0)], scal := [wVa (word 13 0 2 1 0 13 0)], pred := [], fmts := [0xD, 0xE], immOk := true, vector := true }) = false ∧ operandBusy th8 ({ vec := [wVb (word 13 0 2 1 0 13 0)], scal := [wVa (word 13 0 2 1 0 13 0)], pred := [], fmts := [0xD, 0xE], immOk := true, vector := true }) = false ∧ wOp (word 13 0 2 1 0 13 0) = 0 := by
  decide +kernel
/-- Meets the hypotheses of clause 9 of `EngineControlFireAndTransfer`. -/
theorem test_met_EngineControlFireAndTransfer_9 : (getEng sThread 5).inbox = [List.replicate 128 7] ∧ wClass (word 13 1 2 1 0 13 0) = 13 ∧ sThread.snuf.wheld = false ∧ threadAt sThread 5 8 = some th8 ∧ mayIssue sThread 5 8 th8 = true ∧ dutyRoom sThread 5 = true ∧ illegalForm th8 (word 13 1 2 1 0 13 0) ({ vec := [wVd (word 13 1 2 1 0 13 0)], scal := [], pred := [], fmts := [0xD, 0xE], immOk := true, vector := true }) = false ∧ operandBusy th8 ({ vec := [wVd (word 13 1 2 1 0 13 0)], scal := [], pred := [], fmts := [0xD, 0xE], immOk := true, vector := true }) = false ∧ wOp (word 13 1 2 1 0 13 0) = 1 := by
  decide +kernel
/-- Meets the hypotheses of clause 10 of `EngineControlFireAndTransfer`. -/
theorem test_met_EngineControlFireAndTransfer_10 : (wClass (word 15 0 0 0 0 0 0) = 15 ∧ sSup.snuf.wheld = false ∧ threadAt sSup 5 0 = some th0 ∧ mayIssue sSup 5 0 th0 = true ∧ declaredFor 1 ≤ th0.vregs ∧ illegalForm th0 (word 15 0 0 0 0 0 0) ({ vec := [], scal := [], pred := [], fmts := [], immOk := true, vector := false }) = false ∧ wOp (word 15 0 0 0 0 0 0) = 0) := by
  decide +kernel
/-- Meets the hypotheses of clause 11 of `EngineControlFireAndTransfer`. -/
theorem test_met_EngineControlFireAndTransfer_11 : (wClass (word 15 2 0 0 0 0 0) = 15 ∧ sSup.snuf.wheld = false ∧ threadAt sSup 5 0 = some th0 ∧ mayIssue sSup 5 0 th0 = true ∧ declaredFor 1 ≤ th0.vregs ∧ illegalForm th0 (word 15 2 0 0 0 0 0) ({ vec := [], scal := [], pred := [], fmts := [], immOk := true, vector := false }) = false ∧ wOp (word 15 2 0 0 0 0 0) = 2) := by
  decide +kernel
/-- Meets the hypotheses of clause 12 of `EngineControlFireAndTransfer`. -/
theorem test_met_EngineControlFireAndTransfer_12 : (wClass (word 15 1 0 0 0 0 0) = 15 ∧ sSup.snuf.wheld = false ∧ threadAt sSup 5 0 = some th0 ∧ mayIssue sSup 5 0 th0 = true ∧ declaredFor 1 ≤ th0.vregs ∧ illegalForm th0 (word 15 1 0 0 0 0 0) ({ vec := [], scal := [], pred := [], fmts := [], immOk := true, vector := false }) = false ∧ wOp (word 15 1 0 0 0 0 0) = 1) := by
  decide +kernel
/-- Meets the hypotheses of clause 13 of `EngineControlFireAndTransfer`. -/
theorem test_met_EngineControlFireAndTransfer_13 : 8 ≤ (8 : ThreadI).val ∧ threadAt sThread 5 8 = some th8 ∧ wClass (word 15 0 0 0 0 0 0) = 15 ∧ mayIssue sThread 5 8 th8 = true := by
  decide +kernel
/-- Meets the hypotheses of clause 14 of `EngineControlFireAndTransfer`. -/
theorem test_met_EngineControlFireAndTransfer_14 : ∃ (s : State) (c : CtxI) (id : Nat) (v : Invocation) (l : Lan) (q : Nat × Thread), (s.invs.find? (fun v => v.id == id && v.ctx == c) = some v) ∧ (v.lans = [l]) ∧ ((threadsOf (getEng s l.val)).find? (fun p => p.2.inv == some id) = some q) ∧ (threadAt s l.val q.1 = some q.2) := by
  exact ⟨sInv, 0, 1, sInvV, 5, (8, th8), by decide +kernel⟩
/-- Meets the hypotheses of clause 15 of `EngineControlFireAndTransfer`. -/
theorem test_met_EngineControlFireAndTransfer_15 : bitAt 1 31 = false := by
  decide +kernel
/-- Meets the hypotheses of clause 16 of `EngineControlFireAndTransfer`. -/
theorem test_met_EngineControlFireAndTransfer_16 : bitAt 0x80000000 31 = true := by
  decide +kernel

/-- Meets the hypotheses of clause 1 of `EngineRotationGatherAndTopK`. -/
theorem test_met_EngineRotationGatherAndTopK_1 : wClass (word 9 0 16 0 0 11 0) = 9 ∧ sThread.snuf.wheld = false ∧ threadAt sThread 5 8 = some th8 ∧ mayIssue sThread 5 8 th8 = true ∧ dutyRoom sThread 5 = true ∧ illegalForm th8 (word 9 0 16 0 0 11 0) (rotForm (word 9 0 16 0 0 11 0)) = false ∧ operandBusy th8 (rotForm (word 9 0 16 0 0 11 0)) = false ∧ wOp (word 9 0 16 0 0 11 0) = 0 := by
  decide +kernel
/-- Meets the hypotheses of clause 2 of `EngineRotationGatherAndTopK`. -/
theorem test_met_EngineRotationGatherAndTopK_2 : wClass (word 9 1 16 0 0 11 0) = 9 ∧ sThread.snuf.wheld = false ∧ threadAt sThread 5 8 = some th8 ∧ mayIssue sThread 5 8 th8 = true ∧ dutyRoom sThread 5 = true ∧ illegalForm th8 (word 9 1 16 0 0 11 0) (rotForm (word 9 1 16 0 0 11 0)) = false ∧ operandBusy th8 (rotForm (word 9 1 16 0 0 11 0)) = false ∧ wOp (word 9 1 16 0 0 11 0) = 1 := by
  decide +kernel
/-- Meets the hypotheses of clause 3 of `EngineRotationGatherAndTopK`. -/
theorem test_met_EngineRotationGatherAndTopK_3 : lanesOn (getEng sThread 5) 8 (word 10 0 2 1 0 11 0) = [] ∧ wClass (word 10 0 2 1 0 11 0) = 10 ∧ sThread.snuf.wheld = false ∧ threadAt sThread 5 8 = some th8 ∧ mayIssue sThread 5 8 th8 = true ∧ dutyRoom sThread 5 = true ∧ illegalForm th8 (word 10 0 2 1 0 11 0) ({ vec := [wVd (word 10 0 2 1 0 11 0), wVa (word 10 0 2 1 0 11 0)], scal := [], pred := [], fmts := gatherFmts, immOk := true, vector := true }) = false ∧ operandBusy th8 ({ vec := [wVd (word 10 0 2 1 0 11 0), wVa (word 10 0 2 1 0 11 0)], scal := [], pred := [], fmts := gatherFmts, immOk := true, vector := true }) = false ∧ wOp (word 10 0 2 1 0 11 0) = 0 := by
  decide +kernel
/-- Meets the hypotheses of clause 4 of `EngineRotationGatherAndTopK`. -/
theorem test_met_EngineRotationGatherAndTopK_4 : lanesOn (getEng sThread 5) 8 (word 10 1 2 1 0 11 0) = [] ∧ wClass (word 10 1 2 1 0 11 0) = 10 ∧ sThread.snuf.wheld = false ∧ threadAt sThread 5 8 = some th8 ∧ mayIssue sThread 5 8 th8 = true ∧ dutyRoom sThread 5 = true ∧ illegalForm th8 (word 10 1 2 1 0 11 0) ({ vec := [wVa (word 10 1 2 1 0 11 0), wVb (word 10 1 2 1 0 11 0)], scal := [], pred := [], fmts := gatherFmts, immOk := true, vector := true }) = false ∧ operandBusy th8 ({ vec := [wVa (word 10 1 2 1 0 11 0), wVb (word 10 1 2 1 0 11 0)], scal := [], pred := [], fmts := gatherFmts, immOk := true, vector := true }) = false ∧ wOp (word 10 1 2 1 0 11 0) = 1 := by
  decide +kernel
/-- Meets the hypotheses of clause 5 of `EngineRotationGatherAndTopK`. -/
theorem test_met_EngineRotationGatherAndTopK_5 : wClass (word 11 0 2 1 0 11 8388613) = 11 ∧ sThread.snuf.wheld = false ∧ threadAt sThread 5 8 = some th8 ∧ mayIssue sThread 5 8 th8 = true ∧ dutyRoom sThread 5 = true ∧ illegalForm th8 (word 11 0 2 1 0 11 8388613) ({ vec := [wVa (word 11 0 2 1 0 11 8388613), wVb (word 11 0 2 1 0 11 8388613)], scal := [], pred := [], fmts := [], immOk := true, vector := true }) = false ∧ operandBusy th8 ({ vec := [wVa (word 11 0 2 1 0 11 8388613), wVb (word 11 0 2 1 0 11 8388613)], scal := [], pred := [], fmts := [], immOk := true, vector := true }) = false ∧ wOp (word 11 0 2 1 0 11 8388613) = 0 := by
  decide +kernel
/-- Meets the hypotheses of clause 6 of `EngineRotationGatherAndTopK`. -/
theorem test_met_EngineRotationGatherAndTopK_6 : wClass (word 11 1 2 1 0 11 0) = 11 ∧ sThread.snuf.wheld = false ∧ threadAt sThread 5 8 = some th8 ∧ mayIssue sThread 5 8 th8 = true ∧ dutyRoom sThread 5 = true ∧ illegalForm th8 (word 11 1 2 1 0 11 0) ({ vec := [wVd (word 11 1 2 1 0 11 0), wVc (word 11 1 2 1 0 11 0)], scal := [], pred := [], fmts := [], immOk := true, vector := true }) = false ∧ operandBusy th8 ({ vec := [wVd (word 11 1 2 1 0 11 0), wVc (word 11 1 2 1 0 11 0)], scal := [], pred := [], fmts := [], immOk := true, vector := true }) = false ∧ wOp (word 11 1 2 1 0 11 0) = 1 ∧ (getEng sThread 5).tkList.length ≤ 128 := by
  decide +kernel

/-- Meets the hypotheses of clause 1 of `EngineMemoryAccesses`. -/
theorem test_met_EngineMemoryAccesses_1 : accessBuf (word 12 0 2 1 0 0 2) = true ∧ bufReadable 8 th8 (accessAddr (getEng sThread 5) 8 (word 12 0 2 1 0 0 2)) 256 = true ∧ wClass (word 12 0 2 1 0 0 2) = 12 ∧ sThread.snuf.wheld = false ∧ threadAt sThread 5 8 = some th8 ∧ mayIssue sThread 5 8 th8 = true ∧ dutyRoom sThread 5 = true ∧ illegalForm th8 (word 12 0 2 1 0 0 2) (memForm (word 12 0 2 1 0 0 2) (wVd (word 12 0 2 1 0 0 2)) true) = false ∧ operandBusy th8 (memForm (word 12 0 2 1 0 0 2) (wVd (word 12 0 2 1 0 0 2)) true) = false ∧ wOp (word 12 0 2 1 0 0 2) = 0 := by
  decide +kernel
/-- Meets the hypotheses of clause 2 of `EngineMemoryAccesses`. -/
theorem test_met_EngineMemoryAccesses_2 : accessBuf (word 12 0 2 1 0 0 0) = false ∧ wClass (word 12 0 2 1 0 0 0) = 12 ∧ sThread.snuf.wheld = false ∧ threadAt sThread 5 8 = some th8 ∧ mayIssue sThread 5 8 th8 = true ∧ dutyRoom sThread 5 = true ∧ illegalForm th8 (word 12 0 2 1 0 0 0) (memForm (word 12 0 2 1 0 0 0) (wVd (word 12 0 2 1 0 0 0)) true) = false ∧ operandBusy th8 (memForm (word 12 0 2 1 0 0 0) (wVd (word 12 0 2 1 0 0 0)) true) = false ∧ wOp (word 12 0 2 1 0 0 0) = 0 := by
  decide +kernel
/-- Meets the hypotheses of clause 3 of `EngineMemoryAccesses`. -/
theorem test_met_EngineMemoryAccesses_3 : (checkBlocks 5 8 th8 false (blockAddrs (accessAddr (getEng sThread 5) 8 (word 12 0 2 1 0 0 0)) 1) (countIssue 5 sThread)).2.isSome = true ∧ 8 ≤ (8 : ThreadI).val ∧ wClass (word 12 0 2 1 0 0 0) = 12 ∧ sThread.snuf.wheld = false ∧ threadAt sThread 5 8 = some th8 ∧ mayIssue sThread 5 8 th8 = true ∧ dutyRoom sThread 5 = true ∧ illegalForm th8 (word 12 0 2 1 0 0 0) (memForm (word 12 0 2 1 0 0 0) (wVd (word 12 0 2 1 0 0 0)) true) = false ∧ operandBusy th8 (memForm (word 12 0 2 1 0 0 0) (wVd (word 12 0 2 1 0 0 0)) true) = false ∧ wOp (word 12 0 2 1 0 0 0) = 0 := by
  decide +kernel
/-- Meets the hypotheses of clause 4 of `EngineMemoryAccesses`. -/
theorem test_met_EngineMemoryAccesses_4 : accessBuf (word 12 1 2 1 0 0 2) = true ∧ bufWritable 0 th0 (accessAddr (getEng sSup 5) 0 (word 12 1 2 1 0 0 2)) 256 = true ∧ declaredFor 1 ≤ th0.vregs ∧ wClass (word 12 1 2 1 0 0 2) = 12 ∧ sSup.snuf.wheld = false ∧ threadAt sSup 5 0 = some th0 ∧ mayIssue sSup 5 0 th0 = true ∧ dutyRoom sSup 5 = true ∧ illegalForm th0 (word 12 1 2 1 0 0 2) (memForm (word 12 1 2 1 0 0 2) (wVb (word 12 1 2 1 0 0 2)) true) = false ∧ operandBusy th0 (memForm (word 12 1 2 1 0 0 2) (wVb (word 12 1 2 1 0 0 2)) true) = false ∧ wOp (word 12 1 2 1 0 0 2) = 1 := by
  decide +kernel
/-- Meets the hypotheses of clause 5 of `EngineMemoryAccesses`. -/
theorem test_met_EngineMemoryAccesses_5 : accessBuf (word 12 1 0 1 2 0 0) = false ∧ blockBusy th8 0 1 = false ∧ isCompanion 0 = false ∧ wClass (word 12 1 2 1 0 0 0) = 12 ∧ sThread.snuf.wheld = false ∧ threadAt sThread 5 8 = some th8 ∧ mayIssue sThread 5 8 th8 = true ∧ dutyRoom sThread 5 = true ∧ illegalForm th8 (word 12 1 2 1 0 0 0) (memForm (word 12 1 2 1 0 0 0) (wVb (word 12 1 2 1 0 0 0)) true) = false ∧ operandBusy th8 (memForm (word 12 1 2 1 0 0 0) (wVb (word 12 1 2 1 0 0 0)) true) = false ∧ wOp (word 12 1 2 1 0 0 0) = 1 := by
  decide +kernel
/-- Meets the hypotheses of clause 6 of `EngineMemoryAccesses`. -/
theorem test_met_EngineMemoryAccesses_6 : (decide (wImm (word 12 2 0 1 2 0 0) / 4 % 8 ≤ 4) && !accessBuf (word 12 2 0 1 2 0 0)) = true ∧ wClass (word 12 2 2 1 0 0 0) = 12 ∧ sThread.snuf.wheld = false ∧ threadAt sThread 5 8 = some th8 ∧ mayIssue sThread 5 8 th8 = true ∧ dutyRoom sThread 5 = true ∧ illegalForm th8 (word 12 2 2 1 0 0 0) (memForm (word 12 2 2 1 0 0 0) (wVb (word 12 2 2 1 0 0 0)) true) = false ∧ operandBusy th8 (memForm (word 12 2 2 1 0 0 0) (wVb (word 12 2 2 1 0 0 0)) true) = false ∧ wOp (word 12 2 2 1 0 0 0) = 2 := by
  decide +kernel
/-- Meets the hypotheses of clause 7 of `EngineMemoryAccesses`. -/
theorem test_met_EngineMemoryAccesses_7 : (∃ th ∈ threadAt sLoadStore 5 0, ∃ x ∈ th.loads[0]?, x.err = false ∧ pathRuns sLoadStore 5 x = true ∧ x.writes = [] ∧ isCompanion x.addr = false ∧ x.retried = false ∧ x.blocks ≤ 2 ∧ (∀ b ∈ blockAddrs x.addr x.blocks, devReadable sLoadStore (b / 256) = true ∧ ∃ p ∈ placeOf sLoadStore b, codeGood sLoadStore.mem p = true ∧ placeReady sLoadStore p = true)) ∧ sLoadStore.snuf.wheld = false := by
  decide +kernel
/-- Meets the hypotheses of clause 8 of `EngineMemoryAccesses`. -/
theorem test_met_EngineMemoryAccesses_8 : ∃ th x, threadAt sLoadErr 5 0 = some th ∧ th.loads[0]? = some x ∧ sLoadErr.snuf.wheld = false ∧ x.err = true ∧ x.retried = false ∧ x.writes = [] ∧ (checkBlocks 5 0 th false (blockAddrs x.addr x.blocks) sLoadErr).2 = none := by
  exact ⟨thErr, accErr, by decide +kernel⟩
/-- Meets the hypotheses of clause 9 of `EngineMemoryAccesses`. -/
theorem test_met_EngineMemoryAccesses_9 : ∃ th x, threadAt sLoadErr 5 8 = some th ∧ th.loads[0]? = some x ∧ sLoadErr.snuf.wheld = false ∧ x.err = true ∧ x.retried = true ∧ th.inv.isSome = true := by
  exact ⟨{ th8 with loads := [{ accErr with retried := true }] }, { accErr with retried := true }, by decide +kernel⟩
/-- Meets the hypotheses of clause 10 of `EngineMemoryAccesses`. -/
theorem test_met_EngineMemoryAccesses_10 : ∃ (s : State) (l : Lan) (t : ThreadI) (n : Nat) (th : Thread) (x : Access) (sh : Option (W32 × W32)), (threadAt s l.val t.val = some th) ∧ (th.loads[n]? = some x) ∧ (s.snuf.wheld = false) ∧ (x.err = true) ∧ (x.retried = true) ∧ (th.inv = none) := by
  exact ⟨{ sThread with engs := [(5, { Engine.init with threads := [(0, some { th8 with inv := none, map := List.range 64, loads := [{ addr := 0, vd := 2, blocks := 1, mask := 1, cross := none, gen := 0, retried := true, err := true, seam := [], chans := [], writes := [] }] })] })] }, 5, 0, 0, { th8 with inv := none, map := List.range 64, loads := [{ addr := 0, vd := 2, blocks := 1, mask := 1, cross := none, gen := 0, retried := true, err := true, seam := [], chans := [], writes := [] }] }, { addr := 0, vd := 2, blocks := 1, mask := 1, cross := none, gen := 0, retried := true, err := true, seam := [], chans := [], writes := [] }, none, by decide +kernel⟩

/-- Meets the hypotheses of clause 1 of `MailboxRingsAndDoorbells`. -/
theorem test_met_MailboxRingsAndDoorbells_1a : let g := getRing sMbx 4; g.st ≠ .off ∧ ((17 : W32) - g.sqdb).toNat ≤ 2 ^ g.sqlog2.toNat - (g.sqdb - g.sqhead).toNat := by
  decide +kernel
/-- Meets the hypotheses of clause 1 of `MailboxRingsAndDoorbells`. -/
theorem test_met_MailboxRingsAndDoorbells_1b : let g := getRing sMbx 4; g.st ≠ .off ∧ 2 ^ g.sqlog2.toNat - (g.sqdb - g.sqhead).toNat < ((18 : W32) - g.sqdb).toNat := by
  decide +kernel
/-- Meets the hypotheses of clause 1 of `MailboxRingsAndDoorbells`. -/
theorem test_met_MailboxRingsAndDoorbells_1c : (getRing sHeld 4).st = .off := by
  decide +kernel
/-- Meets the hypotheses of clause 2 of `MailboxRingsAndDoorbells`. -/
theorem test_met_MailboxRingsAndDoorbells_2a : let g := getRing sMbx 4; g.st ≠ .off ∧ ((0 : W32) - g.cqdb).toNat ≤ (g.cqtail - g.cqdb).toNat := by
  decide +kernel
/-- Meets the hypotheses of clause 2 of `MailboxRingsAndDoorbells`. -/
theorem test_met_MailboxRingsAndDoorbells_2b : let g := getRing sMbx 4; g.st ≠ .off ∧ (g.cqtail - g.cqdb).toNat < ((1 : W32) - g.cqdb).toNat := by
  decide +kernel
/-- Meets the hypotheses of clause 3 of `MailboxRingsAndDoorbells`. -/
theorem test_met_MailboxRingsAndDoorbells_3 : ∃ (s : State) (r : RingI) (g : Ring), (getRing s r.val = g) := by
  exact ⟨sMbx, 4, getRing sMbx 4, rfl⟩
/-- Meets the hypotheses of clause 4 of `MailboxRingsAndDoorbells`. -/
theorem test_met_MailboxRingsAndDoorbells_4 : State.reset.snuf.wheld = false ∧ (getRing State.reset 0).st = .off ∧ entryOk ent0 = true := by
  decide +kernel
/-- Meets the hypotheses of clause 5 of `MailboxRingsAndDoorbells`. -/
theorem test_met_MailboxRingsAndDoorbells_5 : State.reset.snuf.wheld = false ∧ (getRing State.reset 0).st = .off ∧ Option.filter entryOk none = none := by
  decide +kernel
/-- Meets the hypotheses of clause 6 of `MailboxRingsAndDoorbells`. -/
theorem test_met_MailboxRingsAndDoorbells_6 : (getRing sMbx 0).st ≠ .off := by
  decide +kernel
/-- Meets the hypotheses of clause 7 of `MailboxRingsAndDoorbells`. -/
theorem test_met_MailboxRingsAndDoorbells_7 : sMbx.snuf.wheld = false ∧ entryOk ent0 = true := by
  decide +kernel
/-- Meets the hypotheses of clause 8 of `MailboxRingsAndDoorbells`. -/
theorem test_met_MailboxRingsAndDoorbells_8 : (getRing sHeld 4).st = .off ∧ (getRing sHeld 4).heldCpl ≠ [] := by
  decide +kernel
/-- Meets the hypotheses of clause 9 of `MailboxRingsAndDoorbells`. -/
theorem test_met_MailboxRingsAndDoorbells_9 : sMbx.snuf.wheld = false ∧ gvlUp sMbx = true ∧ fetchable sMbx 0 = true ∧ fetchTurn sMbx 0 = true := by
  decide +kernel
/-- Meets the hypotheses of clause 10 of `MailboxRingsAndDoorbells`. -/
theorem test_met_MailboxRingsAndDoorbells_10 : sMbx.snuf.wheld = false ∧ gvlUp sMbx = true ∧ fetchable sMbx 0 = true ∧ fetchTurn sMbx 0 = true := by
  decide +kernel
/-- Meets the hypotheses of clause 11 of `MailboxRingsAndDoorbells`. -/
theorem test_met_MailboxRingsAndDoorbells_11 : sMbx.snuf.wheld = false ∧ gvlUp sMbx = true ∧ fetchable sMbx 0 = true ∧ fetchTurn sMbx 0 = true := by
  decide +kernel
/-- Meets the hypotheses of clause 12 of `MailboxRingsAndDoorbells`. -/
theorem test_met_MailboxRingsAndDoorbells_12 : sNote.snuf.wheld = false ∧ ringHeld sNote 4 = false ∧ (getRing sNote 4).notes = [cplOf (dsc 4 0x0581) 3 0 []] ∧ (getRing sNote 4).lostSince = 0 ∧ ringFree (getRing sNote 4) ≠ 0 := by
  decide +kernel

/-- Meets the hypotheses of clause 1 of `SystemRingCommands`. -/
theorem test_met_SystemRingCommands_1 : ∃ (s : State) (d : Desc) (vmin vmax : W16), (accepted .sys true true false d s = true) ∧ (vmin ≤ 0x0100) ∧ (0x0100 ≤ vmax) ∧ ((s.mbx.curver = 0 ∨ s.mbx.curver = 0x0100)) := by
  exact ⟨{ sMbx with mbx := { sMbx.mbx with curver := 0 } }, dsc 0 0x0101, 0x0100, 0x0200, by decide +kernel⟩
/-- Meets the hypotheses of clause 2 of `SystemRingCommands`. -/
theorem test_met_SystemRingCommands_2 : accepted .sys true true false (dsc 0 0x0101) sMbx = true ∧ (1 : W16) < 2 := by
  decide +kernel
/-- Meets the hypotheses of clause 3 of `SystemRingCommands`. -/
theorem test_met_SystemRingCommands_3 : accepted .sys true true false (dsc 0 0x0101) sMbx = true ∧ (0x0100 : W16) < 0x0200 ∧ (0x0200 : W16) ≤ 0x0300 := by
  decide +kernel
/-- Meets the hypotheses of clause 4 of `SystemRingCommands`. -/
theorem test_met_SystemRingCommands_4 : accepted .any true true false (dsc 5 0x0102) State.reset = true ∧ (dsc 5 0x0102).outlen ≠ 0 := by
  decide +kernel
/-- Meets the hypotheses of clause 5 of `SystemRingCommands`. -/
theorem test_met_SystemRingCommands_5 : accepted .any true true false (dsc 5 0x0103) State.reset = true := by
  decide +kernel
/-- Meets the hypotheses of clause 6 of `SystemRingCommands`. -/
theorem test_met_SystemRingCommands_6 : accepted .sys false false false (dsc 0 0x0104) sMbx = true ∧ (5 : Fin 64) ≠ 0 ∧ entryOk ent0 = true := by
  decide +kernel
/-- Meets the hypotheses of clause 7 of `SystemRingCommands`. -/
theorem test_met_SystemRingCommands_7 : accepted .sys false false false (dsc 0 0x0104) sMbx = true ∧ (5 : Fin 64) ≠ 0 := by
  decide +kernel
/-- Meets the hypotheses of clause 8 of `SystemRingCommands`. -/
theorem test_met_SystemRingCommands_8 : ∃ (s : State) (d : Desc) (ring action : Nat) (e : Option RingEntry), ((ring = 0 ∨ 63 < ring ∨ action = 0 ∨ 2 < action ∨ (action = 1 ∧ ∃ x, e = some x ∧ entryOk x = false))) ∧ (accepted .sys false false false d s = true) := by
  exact ⟨sMbx, dsc 0 0x0104, 4, 1, some { ent0 with reservedZero := false }, Or.inr (Or.inr (Or.inr (Or.inr ⟨rfl, _, rfl, by decide +kernel⟩))), by decide +kernel⟩
/-- Meets the hypotheses of clause 9 of `SystemRingCommands`. -/
theorem test_met_SystemRingCommands_9 : ∃ (s : State) (d : Desc) (limit a v x k e c : W16), ((∀ g, s.sec.cfg = some g → limit.toNat ≤ g.plat.plimit.toNat)) ∧ ((accepted .sys false false false d s = true) ∧ ((s.sec.cfg = none → limit.toNat ≤ 950))) := by
  exact ⟨sMbx, dsc 0 0x0105, 950, 1, 1, 1, 1, 1, 1, fun g h => absurd h (by rw [show sMbx.sec.cfg = none from rfl]; simp), by decide +kernel⟩
/-- Meets the hypotheses of clause 10 of `SystemRingCommands`. -/
theorem test_met_SystemRingCommands_10 : ∃ (s : State) (d : Desc) (limit a v x k e c : W16) (g : ConfigBlock), (s.sec.cfg = some g) ∧ ((accepted .sys false false false d s = true) ∧ (g.plat.plimit.toNat < limit.toNat)) := by
  exact ⟨{ sMbx with sec := { sMbx.sec with cfg := bootGood.cfg } }, dsc 0 0x0105, 951, 1, 1, 1, 1, 1, 1, ((bootGood.cfg).get (by decide +kernel)), (Option.some_get _).symm, by decide +kernel⟩
/-- Meets the hypotheses of clause 11 of `SystemRingCommands`. -/
theorem test_met_SystemRingCommands_11 : ∃ (s : State) (d : Desc) (east : Bool) (adiv ndiv : BitVec 2), (accepted .sys false false false d s = true) ∧ (ndiv ≠ 3) ∧ (adiv ≠ 3) ∧ (s.clk.cmd = none) := by
  exact ⟨sMbx, dsc 0 0x0106, true, 0, 0, by decide +kernel⟩
/-- Meets the hypotheses of clause 12 of `SystemRingCommands`. -/
theorem test_met_SystemRingCommands_12 : accepted .sys false false false (dsc 0 0x0106) sMbx = true := by
  decide +kernel
/-- Meets the hypotheses of clause 13 of `SystemRingCommands`. -/
theorem test_met_SystemRingCommands_13 : accepted .sys false false false (dsc 0 0x0106) sSeam = true ∧ sSeam.clk.cmd = none ∧ sSeam.clk.nE ≠ 3 ∧ inflOf sSeam true ≠ 0 := by
  decide +kernel
/-- Meets the hypotheses of clause 14 of `SystemRingCommands`. -/
theorem test_met_SystemRingCommands_14 : accepted .sys false false false (dsc 0 0x0108) sMbx = true := by
  decide +kernel

/-- Meets the hypotheses of clause 1 of `ContextCommands`. -/
theorem test_met_ContextCommands_1 : ∃ (s : State) (d : Desc) (a : CtxArg) (k : Digest) (c : Nat), let t := dequeue d s; (accepted .sys false false true d s = true) ∧ (a.sconces ≠ 0) ∧ (a.rings ≠ 0) ∧ (a.batchmax ≠ 0) ∧ (a.qmax ≠ 0) ∧ (a.vocab ≠ 0) ∧ ((a.pfx = true → a.pfxlant ≠ 0)) ∧ (createBad t d a = false) ∧ ((∀ r ∈ ringsOf a.rings, ringTaken t r = false)) ∧ (stacksUp t = true) ∧ ((∀ n ∈ maskBits 16 a.sconces.toNat, sconceTaken t n = false)) ∧ (freeSlotC t = some c) ∧ (ctxWeight a ≠ 0) ∧ (weightSum t c (ctxWeight a) ≤ 256) := by
  exact ⟨sUp, dsc 0 0x0201, { carg with ctxid := 6 }, 0, 1, by decide +kernel⟩
/-- Meets the hypotheses of clause 2 of `ContextCommands`. -/
theorem test_met_ContextCommands_2 : accepted .sys false false false (dsc 0 0x0202) sCtx = true ∧ slotOf sCtx 5 = some 0 ∧ (∃ x ∈ getCtx sCtx 0, x.ops = [] ∧ x.dying = false) ∧ (getLctx sCtx 0).runs = [] ∧ sconcesOf sCtx 0 = [0] := by
  decide +kernel
/-- Meets the hypotheses of clause 3 of `ContextCommands`. -/
theorem test_met_ContextCommands_3 : ∃ (s : State) (d : Desc) (id : W16) (path : List Pkg) (c : Nat) (x : Ctx), (getCtx s c = some x) ∧ ((accepted .sys false false true d s = true) ∧ (slotOf s id = some c) ∧ (x.ops = []) ∧ (path ≠ []) ∧ (path.length ≤ 4096) ∧ (d.inlen.toNat = 2 * path.length) ∧ (path.Nodup) ∧ (launchIdle s c = true) ∧ ((∀ p ∈ x.path, p ∈ path))) := by
  exact ⟨sCtx, { dsc 0 0x0203 with inlen := 4 }, 5, [1, 2], 0, ((getCtx sCtx 0).get (by decide +kernel)), (Option.some_get (by decide +kernel)).symm, by decide +kernel⟩
/-- Meets the hypotheses of clause 4 of `ContextCommands`. -/
theorem test_met_ContextCommands_4 : accepted .sys false false false (dsc 0 0x0204) sCtx = true ∧ slotOf sCtx 5 = some 0 ∧ (getCtx sCtx 0).isSome = true := by
  decide +kernel
/-- Meets the hypotheses of clause 5 of `ContextCommands`. -/
theorem test_met_ContextCommands_5 : accepted .ctx false false false (dsc 4 0x0205) sCtx = true ∧ (getRing sCtx 4).ctx = some 0 ∧ (getCtx sCtx 0).isSome = true ∧ (∃ x ∈ getCtx sCtx 0, x.ops = []) ∧ launchIdle sCtx 0 = true := by
  decide +kernel
/-- Meets the hypotheses of clause 6 of `ContextCommands`. -/
theorem test_met_ContextCommands_6 : accepted .ctx false false false (dsc 4 0x0206) sCtx = true ∧ (getRing sCtx 4).ctx = some 0 ∧ (getCtx sCtx 0).isSome = true ∧ (∃ x ∈ getCtx sCtx 0, x.ops = []) := by
  decide +kernel
/-- Meets the hypotheses of clause 7 of `ContextCommands`. -/
theorem test_met_ContextCommands_7 : accepted .ctx false false true (dscIn 0x0207 64 64) sCtx = true ∧ (getRing sCtx 4).ctx = some 0 ∧ (getCtx sCtx 0).isSome = true ∧ (dscIn 0x0207 64 64).inlen ≠ 0 ∧ img0.codesize ≠ 0 ∧ img0.entries ≠ 0 ∧ img0.threads ≠ 0 ∧ imageBad img0 = false ∧ img0.sigsOk = true ∧ (∃ x ∈ getCtx sCtx 0, x.nkeys ≠ 0 ∧ x.kernels.length < 16 ∧ (kernelPlace sCtx 0 x (imageSize img0)).isSome = true) := by
  decide +kernel
/-- Meets the hypotheses of clause 8 of `ContextCommands`. -/
theorem test_met_ContextCommands_8 : accepted .ctx false false false (dsc 4 0x0208) sCtx = true ∧ (getRing sCtx 4).ctx = some 0 ∧ (getCtx sCtx 0).isSome = true ∧ (∃ x ∈ getCtx sCtx 0, (x.kernels.find? (fun k => k.handle == 0 && !k.unloading)).isSome = true ∧ x.unloads = []) ∧ sCtx.invs = [] := by
  decide +kernel
/-- Meets the hypotheses of clause 9 of `ContextCommands`. -/
theorem test_met_ContextCommands_9 : accepted .ctx false false true (dscIn 0x209 128 64) sCtx = true ∧ (getRing sCtx 4).ctx = some 0 ∧ (getCtx sCtx 0).isSome = true ∧ 128 ≤ (dscIn 0x209 128 64).inlen.toNat ∧ sconceOfL (2 : LLan).val ∈ sconcesOf sCtx 0 ∧ (∃ x ∈ getCtx sCtx 0, ∃ k ∈ x.kernels.find? (fun k => k.handle == 0), k.unloading = false ∧ 0 < k.image.entries.toNat) ∧ ([2] : List LLan).filterMap (fun l => lanOf sCtx l.val) = [2] := by
  decide +kernel
/-- Meets the hypotheses of clause 10 of `ContextCommands`. -/
theorem test_met_ContextCommands_10 : accepted .ctx false false false (dscIn 0x020A 0 70000) sCtx = true ∧ (getRing sCtx 4).ctx = some 0 ∧ (getCtx sCtx 0).isSome = true ∧ reportSize ≤ (dscIn 0x020A 0 70000).outlen.toNat := by
  decide +kernel
/-- Meets the hypotheses of clause 11 of `ContextCommands`. -/
theorem test_met_ContextCommands_11 : accepted .ctx false false false (dsc 4 0x020B) sCtx = true ∧ (getRing sCtx 4).ctx = some 0 ∧ (getCtx sCtx 0).isSome = true := by
  decide +kernel

/-- Meets the hypotheses of clause 1 of `CalibrationCheckMonitorFabricAndDiagnosticCommands`. -/
theorem test_met_CalibrationCheckMonitorFabricAndDiagnosticCommands_1 : ∃ (s : State) (d : Desc) (ls : List Nat) (wicks sets : W32), let t := dequeue d s; (accepted .ctxSysDiag false false true d s = true) ∧ (d.inlen.toNat % 2 = 0) ∧ (d.inlen ≠ 0) ∧ (d.outlen ≠ 0) ∧ ((∀ l ∈ ls, l < 1088 ∧ lanDenied t d l = false)) := by
  exact ⟨sCtx, { dsc 0 0x0601 with inlen := 2 }, [2], 0, 0, by decide +kernel⟩
/-- Meets the hypotheses of clause 2 of `CalibrationCheckMonitorFabricAndDiagnosticCommands`. -/
theorem test_met_CalibrationCheckMonitorFabricAndDiagnosticCommands_2 : accepted .ctx false false false (dsc 4 0x0602) sCtx = true ∧ (getRing sCtx 4).ctx = some 0 ∧ (getCtx sCtx 0).isSome = true ∧ sconceOfL 2 ∈ sconcesOf sCtx 0 ∧ lanOf sCtx 2 = some 2 := by
  decide +kernel
/-- Meets the hypotheses of clause 3 of `CalibrationCheckMonitorFabricAndDiagnosticCommands`. -/
theorem test_met_CalibrationCheckMonitorFabricAndDiagnosticCommands_3 : accepted .ctx false false true (dscIn 0x603 128 64) sCtx = true ∧ (getRing sCtx 4).ctx = some 0 ∧ (getCtx sCtx 0).isSome = true ∧ 128 ≤ (dscIn 0x603 128 64).inlen.toNat ∧ sconceOfL (2 : LLan).val ∈ sconcesOf sCtx 0 := by
  decide +kernel
/-- Meets the hypotheses of clause 4 of `CalibrationCheckMonitorFabricAndDiagnosticCommands`. -/
theorem test_met_CalibrationCheckMonitorFabricAndDiagnosticCommands_4 : accepted .ctx false false true (dscIn 0x701 128 64) sCtx = true ∧ (getRing sCtx 4).ctx = some 0 ∧ (getCtx sCtx 0).isSome = true ∧ 128 ≤ (dscIn 0x701 128 64).inlen.toNat ∧ sconceOfL (2 : LLan).val ∈ sconcesOf sCtx 0 := by
  decide +kernel
/-- Meets the hypotheses of clause 5 of `CalibrationCheckMonitorFabricAndDiagnosticCommands`. -/
theorem test_met_CalibrationCheckMonitorFabricAndDiagnosticCommands_5 : accepted .ctx false false false (dsc 4 0x0702) sCtx = true ∧ (getRing sCtx 4).ctx = some 0 ∧ (getCtx sCtx 0).isSome = true := by
  decide +kernel
/-- Meets the hypotheses of clause 6 of `CalibrationCheckMonitorFabricAndDiagnosticCommands`. -/
theorem test_met_CalibrationCheckMonitorFabricAndDiagnosticCommands_6 : accepted .ctx false false true (dscIn 0x703 128 64) sCtx = true ∧ (getRing sCtx 4).ctx = some 0 ∧ (getCtx sCtx 0).isSome = true ∧ 128 ≤ (dscIn 0x703 128 64).inlen.toNat ∧ sconceOfL (2 : LLan).val ∈ sconcesOf sCtx 0 := by
  decide +kernel
/-- Meets the hypotheses of clause 7 of `CalibrationCheckMonitorFabricAndDiagnosticCommands`. -/
theorem test_met_CalibrationCheckMonitorFabricAndDiagnosticCommands_7 : ∃ (s : State) (d : Desc) (es : List SeqEntry) (len : Nat), (accepted .sysDiag false false false d s = true) ∧ (8 ≤ len) ∧ (len ≤ 16) ∧ (es.length ≤ 8) ∧ ((∀ e ∈ es, 56 ≤ e.input.toNat)) := by
  exact ⟨sCtx, dsc 0 0x0801, [({ gain := 0, ts := 1, input := 56 } : SeqEntry)], 8, by decide +kernel⟩
/-- Meets the hypotheses of clause 8 of `CalibrationCheckMonitorFabricAndDiagnosticCommands`. -/
theorem test_met_CalibrationCheckMonitorFabricAndDiagnosticCommands_8 : ∃ (s : State) (d : Desc) (es : List SeqEntry) (len : Nat) (e : SeqEntry), (accepted .sysDiag false false false d s = true) ∧ (len ≠ 0) ∧ (e ∈ es) ∧ (e.input.toNat < 56) := by
  exact ⟨sCtx, dsc 0 0x0801, [({ gain := 0, ts := 1, input := 55 } : SeqEntry)], 8, ({ gain := 0, ts := 1, input := 55 } : SeqEntry), by decide +kernel⟩
/-- Meets the hypotheses of clause 9 of `CalibrationCheckMonitorFabricAndDiagnosticCommands`. -/
theorem test_met_CalibrationCheckMonitorFabricAndDiagnosticCommands_9 : accepted .any false true false (dsc 0 0x0802) sCtx = true := by
  decide +kernel
/-- Meets the hypotheses of clause 10 of `CalibrationCheckMonitorFabricAndDiagnosticCommands`. -/
theorem test_met_CalibrationCheckMonitorFabricAndDiagnosticCommands_10 : ∃ (s : State) (d : Desc) (p : Nat) (v : W32), (accepted .sys false false false d s = true) ∧ (p < 16) ∧ (encBelow s (2 * p) (fld v 29 28) = false) ∧ (encBelow s (2 * p + 1) (fld v 23 22) = false) := by
  exact ⟨sCtx, dsc 0 0x0901, 15, 0, by decide +kernel⟩
/-- Meets the hypotheses of clause 11 of `CalibrationCheckMonitorFabricAndDiagnosticCommands`. -/
theorem test_met_CalibrationCheckMonitorFabricAndDiagnosticCommands_11 : ∃ (s : State) (d : Desc) (p : Nat) (v : W32), (accepted .sys false false false d s = true) ∧ (p < 16) ∧ (encBelow s (2 * p) (fld v 29 28) = true) := by
  exact ⟨{ sCtx with sec := { sCtx.sec with cfg := bootGood.cfg.map (fun c => { c with enc := List.replicate 32 2 }) } }, dsc 0 0x0901, 15, 0, by decide +kernel⟩
/-- Meets the hypotheses of clause 12 of `CalibrationCheckMonitorFabricAndDiagnosticCommands`. -/
theorem test_met_CalibrationCheckMonitorFabricAndDiagnosticCommands_12 : ∃ (s : State) (d : Desc) (id : W16), (accepted .sys false false false d s = true) ∧ (id.toNat < 4096) := by
  exact ⟨sCtx, dsc 0 0x0902, 4095, by decide +kernel⟩
/-- Meets the hypotheses of clause 13 of `CalibrationCheckMonitorFabricAndDiagnosticCommands`. -/
theorem test_met_CalibrationCheckMonitorFabricAndDiagnosticCommands_13 : ∃ (s : State) (d : Desc) (bank first : Nat) (es : List W32), (accepted .sys false false true d s = true) ∧ (es ≠ []) ∧ (bank ≤ 1) ∧ (first + es.length ≤ 4096) ∧ ((bank == 1) ≠ s.fab.bank) := by
  exact ⟨sCtx, dsc 0 0x0903, 1, 4095, [5], by decide +kernel⟩
/-- Meets the hypotheses of clause 14 of `CalibrationCheckMonitorFabricAndDiagnosticCommands`. -/
theorem test_met_CalibrationCheckMonitorFabricAndDiagnosticCommands_14 : ∃ (s : State) (d : Desc) (bank first : Nat) (es : List W32), (accepted .sys false false true d s = true) ∧ (es ≠ []) ∧ (bank ≤ 1) ∧ (first + es.length ≤ 4096) ∧ ((bank == 1) = s.fab.bank) := by
  exact ⟨sCtx, dsc 0 0x0903, 0, 4095, [5], by decide +kernel⟩
/-- Meets the hypotheses of clause 15 of `CalibrationCheckMonitorFabricAndDiagnosticCommands`. -/
theorem test_met_CalibrationCheckMonitorFabricAndDiagnosticCommands_15 : accepted .sys false false false (dsc 0 0x0904) sCtx = true := by
  decide +kernel
/-- Meets the hypotheses of clause 16 of `CalibrationCheckMonitorFabricAndDiagnosticCommands`. -/
theorem test_met_CalibrationCheckMonitorFabricAndDiagnosticCommands_16 : ∃ (s : State) (d : Desc) (n : Nat) (v : W32), (accepted .sys false false false d s = true) ∧ (n < 16) := by
  exact ⟨sCtx, dsc 0 0x0905, 15, 0, by decide +kernel⟩
/-- Meets the hypotheses of clause 17 of `CalibrationCheckMonitorFabricAndDiagnosticCommands`. -/
theorem test_met_CalibrationCheckMonitorFabricAndDiagnosticCommands_17 : accepted .sys false false false (dsc 0 0x0906) sCtx = true := by
  decide +kernel
/-- Meets the hypotheses of clause 18 of `CalibrationCheckMonitorFabricAndDiagnosticCommands`. -/
theorem test_met_CalibrationCheckMonitorFabricAndDiagnosticCommands_18 : accepted .sysDiag false false false (dsc 0 0x0907) sCtx = true := by
  decide +kernel
/-- Meets the hypotheses of clause 19 of `CalibrationCheckMonitorFabricAndDiagnosticCommands`. -/
theorem test_met_CalibrationCheckMonitorFabricAndDiagnosticCommands_19 : accepted .diag false true false (dsc 2 0x0B01) sCtx = true := by
  decide +kernel
/-- Meets the hypotheses of clause 20 of `CalibrationCheckMonitorFabricAndDiagnosticCommands`. -/
theorem test_met_CalibrationCheckMonitorFabricAndDiagnosticCommands_20 : accepted .diag false true false (dsc 2 0x0B03) sCtx = true ∧ (getPort sCtx 0).en = false ∧ (getLink sCtx 0).st = .disabled := by
  decide +kernel

/-- Meets the hypotheses of clause 1 of `WeightCommands`. -/
theorem test_met_WeightCommands_1 : accepted .ctx false false false (dscIn 0x0301 0 80000) sShard = true ∧ (getRing sShard 4).ctx = some 0 ∧ (getCtx sShard 0).isSome = true ∧ kemKeySize + reportSize ≤ (dscIn 0x0301 0 80000).outlen.toNat := by
  decide +kernel
/-- Meets the hypotheses of clause 2 of `WeightCommands`. -/
theorem test_met_WeightCommands_2 : accepted .ctx false false true (dscIn 0x0302 1612 0) sShard = true ∧ (getRing sShard 4).ctx = some 0 ∧ (getCtx sShard 0).isSome = true ∧ (dscIn 0x0302 1612 0).inlen = 1612 ∧ (∃ x ∈ getCtx sShard 0, x.session = true ∧ x.ckeys.any (fun q => q.1 == 5) = false ∧ x.ckeys.length < 16) := by
  decide +kernel
/-- Meets the hypotheses of clause 3 of `WeightCommands`. -/
theorem test_met_WeightCommands_3 : accepted .ctx false false true (dscIn 0x0302 1612 0) sShard = true ∧ (getRing sShard 4).ctx = some 0 ∧ (getCtx sShard 0).isSome = true ∧ (dscIn 0x0302 1612 0).inlen = 1612 := by
  decide +kernel
/-- Meets the hypotheses of clause 4 of `WeightCommands`. -/
theorem test_met_WeightCommands_4 : ∃ (s : State) (d : Desc) (c : Nat) (x : Ctx) (off len : W64) (i : Nat), let a := c * 0x20000000000 + off.toNat; (acceptedCtx false d c x s) ∧ ((off.toNat % 256 = 0) ∧ (len.toNat % 256 = 0) ∧ (len ≠ 0) ∧ ((interleaved s c (off.toNat + len.toNat - 1)).isSome = true) ∧ (landSlot s c x.landing = some i)) := by
  exact ⟨{ sShard with ctxs := [(0, (getCtx sShard 0).map (fun x => { x with landing := none }))] }, dsc 4 0x0303, 0, ((getCtx { sShard with ctxs := [(0, (getCtx sShard 0).map (fun x => { x with landing := none }))] } 0).get (by decide +kernel)), 0, 65536, 0, ⟨by decide +kernel, by decide +kernel, (Option.some_get _).symm⟩, by decide +kernel⟩
/-- Meets the hypotheses of clause 5 of `WeightCommands`. -/
theorem test_met_WeightCommands_5 : accepted .ctx false false true (dscIn 0x0304 64 0) sShard = true ∧ (getRing sShard 4).ctx = some 0 ∧ (getCtx sShard 0).isSome = true ∧ (∃ x ∈ getCtx sShard 0, listBad (dequeue (dscIn 0x0304 64 0) sShard) 0 x (dscIn 0x0304 64 0) [sent] = false ∧ x.loadQ = []) ∧ listDenied (dequeue (dscIn 0x0304 64 0) sShard) 0 [sent] = false ∧ (∃ x ∈ getCtx sCtx 0, loadFree x (.load (dsc 4 0x0304) 3 [sent]) = true) := by
  decide +kernel
/-- Meets the hypotheses of clause 6 of `WeightCommands`. -/
theorem test_met_WeightCommands_6 : accepted .ctx false false true (dscIn 0x0305 64 0) sCtx = true ∧ (getRing sCtx 4).ctx = some 0 ∧ (getCtx sCtx 0).isSome = true ∧ (∃ x ∈ getCtx sCtx 0, x.loadQ = [] ∧ loadFree x (.adopt (dscIn 0x0305 64 0) 4 true [{ shard := 9, epoch := 4, plant := 2, mac := 0 }]) = true) ∧ (dscIn 0x0305 64 0).inlen.toNat = 64 * 1 := by
  decide +kernel
/-- Meets the hypotheses of clause 7 of `WeightCommands`. -/
theorem test_met_WeightCommands_7 : accepted .ctx false false false (dsc 4 0x0307) sShard = true ∧ (getRing sShard 4).ctx = some 0 ∧ (getCtx sShard 0).isSome = true ∧ (∃ x ∈ getCtx sShard 0, (x.epochs.find? (fun e => e.epoch == 4)).isSome = true) := by
  decide +kernel
/-- Meets the hypotheses of clause 8 of `WeightCommands`. -/
theorem test_met_WeightCommands_8 : accepted .ctx false false false (dsc 4 0x0308) sShard = true ∧ (getRing sShard 4).ctx = some 0 ∧ (getCtx sShard 0).isSome = true := by
  decide +kernel

/-- Meets the hypotheses of clause 1 of `AdaptersAndShards`. -/
theorem test_met_AdaptersAndShards_1 : ∃ (s : State) (d : Desc) (c : Nat) (x : Ctx) (slot : W16) (gen : W32) (es : List ShardEntry) (z : Ctx), (acceptedCtx true d c x s) ∧ (getCtx (adpSweep c (dequeue d s)) c = some z) ∧ ((d.inlen ≠ 0) ∧ (slot.toNat ≤ 15) ∧ (gen ≠ 0) ∧ (listBad (dequeue d s) c x d es = false) ∧ ((∀ e ∈ es, e.kind ≠ 1)) ∧ (x.adpQ = []) ∧ (adpFree z (.load d slot.toNat gen es) = true)) := by
  exact ⟨sShard, dscIn 0x401 64 0, 0, ((getCtx sShard 0).get (by decide +kernel)), 1, 5, [sent], ((getCtx (adpSweep 0 (dequeue (dscIn 0x401 64 0) sShard)) 0).get (by decide +kernel)), ⟨by decide +kernel, by decide +kernel, (Option.some_get _).symm⟩, (Option.some_get (by decide +kernel)).symm, by decide +kernel⟩
/-- Meets the hypotheses of clause 2 of `AdaptersAndShards`. -/
theorem test_met_AdaptersAndShards_2 : ∃ (s : State) (d : Desc) (c : Nat) (x : Ctx) (slot : W16) (gen : W32) (es : List ShardEntry) (z : Ctx), (acceptedCtx true d c x s) ∧ (getCtx (adpSweep c (dequeue d s)) c = some z) ∧ ((d.inlen ≠ 0) ∧ (slot.toNat ≤ 15) ∧ (gen ≠ 0) ∧ (listBad (dequeue d s) c x d es = false) ∧ ((∀ e ∈ es, e.kind ≠ 1)) ∧ (x.adpQ = []) ∧ (adpFree z (.replace d slot.toNat gen es) = true)) := by
  exact ⟨sShard, dscIn 0x402 64 0, 0, ((getCtx sShard 0).get (by decide +kernel)), 2, 2, [sent], ((getCtx (adpSweep 0 (dequeue (dscIn 0x402 64 0) sShard)) 0).get (by decide +kernel)), ⟨by decide +kernel, by decide +kernel, (Option.some_get _).symm⟩, (Option.some_get (by decide +kernel)).symm, by decide +kernel⟩
/-- Meets the hypotheses of clause 3 of `AdaptersAndShards`. -/
theorem test_met_AdaptersAndShards_3 : ∃ (s : State) (d : Desc) (c : Nat) (x : Ctx) (slot : W16) (z : Ctx), (acceptedCtx false d c x s) ∧ (getCtx (adpSweep c (dequeue d s)) c = some z) ∧ ((slot.toNat ≤ 15) ∧ (x.adpQ = []) ∧ (adpFree z (.free d slot.toNat) = true)) := by
  exact ⟨sShard, dsc 4 0x0403, 0, ((getCtx sShard 0).get (by decide +kernel)), 2, ((getCtx (adpSweep 0 (dequeue (dsc 4 0x0403) sShard)) 0).get (by decide +kernel)), ⟨by decide +kernel, by decide +kernel, (Option.some_get _).symm⟩, (Option.some_get (by decide +kernel)).symm, by decide +kernel⟩
/-- Meets the hypotheses of clause 4 of `AdaptersAndShards`. -/
theorem test_met_AdaptersAndShards_4 : ∃ x ∈ getCtx sShard 0, gensOf x 5 = [] ∧ gensOf x 2 ≠ [] ∧ ∀ g ∈ gensOf x 2, genBound sShard 0 x 2 g.gen = false := by
  decide +kernel
/-- Meets the hypotheses of clause 5 of `AdaptersAndShards`. -/
theorem test_met_AdaptersAndShards_5 : sMbx.snuf.wheld = false := by
  decide +kernel
/-- Meets the hypotheses of clause 6 of `AdaptersAndShards`. -/
theorem test_met_AdaptersAndShards_6 : sMbx.snuf.wheld = false := by
  decide +kernel
/-- Meets the hypotheses of clause 7 of `AdaptersAndShards`. -/
theorem test_met_AdaptersAndShards_7 : ∃ (s : State) (c : CtxI) (ep id : W32) (x : Ctx) (h : Shard) (b : ShardBody) (fails : List (Lan × LWick × List (Nat × Int))), (getCtx s c.val = some x) ∧ (findShard s c.val ep id = some h) ∧ (bodyOk x ep h b = true) ∧ ((s.snuf.wheld = false) ∧ (h.ent.head = false) ∧ (isAwaited h = true) ∧ (h.ent.role ≠ 0) ∧ (isHere h = true) ∧ ((isOwnLan h && ep != 0 && (metaBad (bodyMeta (shardTab b)) || shardClash s c.val ep h (bodyMeta (shardTab b)))) = false)) := by
  exact ⟨sShard, 0, 3, 9, ((getCtx sShard 0).get (by decide +kernel)), ((findShard sShard 0 3 9).get (by decide +kernel)), sbody 9, [], (Option.some_get (by decide +kernel)).symm, (Option.some_get (by decide +kernel)).symm, sbody_ok9, by decide +kernel⟩
/-- Meets the hypotheses of clause 8 of `AdaptersAndShards`. -/
theorem test_met_AdaptersAndShards_8 : ∃ (s : State) (c : CtxI) (ep id : W32) (x : Ctx) (h : Shard) (b : ShardBody) (fails : List (Lan × LWick × List (Nat × Int))), (getCtx s c.val = some x) ∧ (findShard s c.val ep id = some h) ∧ ((s.snuf.wheld = false) ∧ (h.ent.head = false) ∧ (isAwaited h = true) ∧ (h.ent.role ≠ 0) ∧ (isHere h = true) ∧ (bodyOk x ep h b = false) ∧ (h.requests < 4)) := by
  exact ⟨sShard, 0, 3, 9, ((getCtx sShard 0).get (by decide +kernel)), ((findShard sShard 0 3 9).get (by decide +kernel)), { sbody 9 with tagOk := false }, [], (Option.some_get (by decide +kernel)).symm, (Option.some_get (by decide +kernel)).symm, by decide +kernel⟩
/-- Meets the hypotheses of clause 9 of `AdaptersAndShards`. -/
theorem test_met_AdaptersAndShards_9 : ∃ (s : State) (c : CtxI) (ep id : W32) (x : Ctx) (h : Shard) (b : ShardBody) (fails : List (Lan × LWick × List (Nat × Int))), (getCtx s c.val = some x) ∧ (findShard s c.val ep id = some h) ∧ (bodyOk x ep h b = true) ∧ ((s.snuf.wheld = false) ∧ (h.ent.head = false) ∧ (isAwaited h = true) ∧ (h.ent.role ≠ 0) ∧ (4 ≤ h.requests) ∧ ((isOwnLan h && ep != 0 && (metaBad (bodyMeta (shardTab b)) || shardClash s c.val ep h (bodyMeta (shardTab b)))) = false)) := by
  exact ⟨sShard, 0, 3, 11, ((getCtx sShard 0).get (by decide +kernel)), ((findShard sShard 0 3 11).get (by decide +kernel)), sbody 11, [], (Option.some_get (by decide +kernel)).symm, (Option.some_get (by decide +kernel)).symm, sbody_ok11, by decide +kernel⟩
/-- Meets the hypotheses of clause 10 of `AdaptersAndShards`. -/
theorem test_met_AdaptersAndShards_10 : ∃ (s : State) (c : CtxI) (ep id : W32) (x : Ctx) (h : Shard), (getCtx s c.val = some x) ∧ (findShard s c.val ep id = some h) ∧ ((s.snuf.wheld = false) ∧ (isAwaited h = true)) := by
  exact ⟨sShard, 0, 3, 11, ((getCtx sShard 0).get (by decide +kernel)), ((findShard sShard 0 3 11).get (by decide +kernel)), (Option.some_get (by decide +kernel)).symm, (Option.some_get (by decide +kernel)).symm, by decide +kernel⟩
/-- Meets the hypotheses of clause 11 of `AdaptersAndShards`. -/
theorem test_met_AdaptersAndShards_11 : ∃ (s : State) (c : CtxI) (ep id : W32) (x : Ctx) (h : Shard), (getCtx s c.val = some x) ∧ (findShard s c.val ep id = some h) ∧ ((s.snuf.wheld = false) ∧ (isAwaited h = true) ∧ (h.requests = 0)) := by
  exact ⟨sShard, 0, 3, 9, ((getCtx sShard 0).get (by decide +kernel)), ((findShard sShard 0 3 9).get (by decide +kernel)), (Option.some_get (by decide +kernel)).symm, (Option.some_get (by decide +kernel)).symm, by decide +kernel⟩
/-- Meets the hypotheses of clause 12 of `AdaptersAndShards`. -/
theorem test_met_AdaptersAndShards_12 : ∃ (s : State) (c : CtxI) (ep id : W32) (x : Ctx) (h : Shard), (getCtx s c.val = some x) ∧ (findShard s c.val ep id = some h) ∧ ((s.snuf.wheld = false) ∧ (isAwaited h = true) ∧ (1 ≤ h.requests) ∧ (h.requests ≤ 3)) := by
  exact ⟨{ sShard with ctxs := [(0, (getCtx sShard 0).map (fun x => { x with epochs := [{ epoch := 3, st := .staging, first := true, shards := [{ newShard sent with requests := 3 }], cmd := none, adopt := none }] }))] }, 0, 3, 9, ((getCtx { sShard with ctxs := [(0, (getCtx sShard 0).map (fun x => { x with epochs := [{ epoch := 3, st := .staging, first := true, shards := [{ newShard sent with requests := 3 }], cmd := none, adopt := none }] }))] } 0).get (by decide +kernel)), ((findShard { sShard with ctxs := [(0, (getCtx sShard 0).map (fun x => { x with epochs := [{ epoch := 3, st := .staging, first := true, shards := [{ newShard sent with requests := 3 }], cmd := none, adopt := none }] }))] } 0 3 9).get (by decide +kernel)), (Option.some_get (by decide +kernel)).symm, (Option.some_get (by decide +kernel)).symm, by decide +kernel⟩
/-- Meets the hypotheses of clause 13 of `AdaptersAndShards`. -/
theorem test_met_AdaptersAndShards_13 : ∃ (s : State) (c : CtxI) (ep id : W32) (x : Ctx) (h : Shard), (getCtx s c.val = some x) ∧ (findShard s c.val ep id = some h) ∧ ((s.snuf.wheld = false) ∧ (h.st = .verified) ∧ (h.restoring = false) ∧ (h.ent.role = 1)) := by
  exact ⟨sShard, 0, 3, 10, ((getCtx sShard 0).get (by decide +kernel)), ((findShard sShard 0 3 10).get (by decide +kernel)), (Option.some_get (by decide +kernel)).symm, (Option.some_get (by decide +kernel)).symm, by decide +kernel⟩
/-- Meets the hypotheses of clause 14 of `AdaptersAndShards`. -/
theorem test_met_AdaptersAndShards_14 : ∃ (s : State) (c : CtxI) (ep id : W32) (x : Ctx) (h : Shard), (getCtx s c.val = some x) ∧ (findShard s c.val ep id = some h) ∧ ((s.snuf.wheld = false) ∧ (h.st = .verified) ∧ (h.restoring = false) ∧ (h.ent.role = 2)) := by
  exact ⟨sShard, 0, 3, 12, ((getCtx sShard 0).get (by decide +kernel)), ((findShard sShard 0 3 12).get (by decide +kernel)), (Option.some_get (by decide +kernel)).symm, (Option.some_get (by decide +kernel)).symm, by decide +kernel⟩

/-- Meets the hypotheses of clause 1 of `RequestCommands`. -/
theorem test_met_RequestCommands_1 : ∃ (s : State) (d : Desc) (c : Nat) (x : Ctx) (a : ReqArg), let t := dequeue d s; (acceptedCtx true d c x s) ∧ ((s.mbx.shut = false) ∧ (submitEmpty d a = false) ∧ (submitBad x d a = false) ∧ (a.role = 1) ∧ (admHeld t x a.num = false) ∧ (builderHolds t c x a.num = false) ∧ (waitingCount x < x.qmax) ∧ (a.adpv = false) ∧ (x.admEpoch ≠ none)) := by
  exact ⟨sReq, dscIn 0x0501 0x58 64, 0, ((getCtx sReq 0).get (by decide +kernel)), rarg, ⟨by decide +kernel, by decide +kernel, (Option.some_get _).symm⟩, by decide +kernel⟩
/-- Meets the hypotheses of clause 2 of `RequestCommands`. -/
theorem test_met_RequestCommands_2 : ∃ (s : State) (d : Desc) (c : Nat) (x : Ctx) (a : ReqArg), let t := dequeue d s; (acceptedCtx true d c x s) ∧ ((s.mbx.shut = false) ∧ (submitEmpty d a = false) ∧ (submitBad x d a = false) ∧ (a.role = 2) ∧ (relHeld t x a.num = false) ∧ (builderHolds t c x a.num = false) ∧ (s.twin.st ≠ .standby) ∧ (a.mask = false)) := by
  exact ⟨sReq, dscIn 0x0501 0x58 64, 0, ((getCtx sReq 0).get (by decide +kernel)), { rarg with role := 2 }, ⟨by decide +kernel, by decide +kernel, (Option.some_get _).symm⟩, by decide +kernel⟩
/-- Meets the hypotheses of clause 3 of `RequestCommands`. -/
theorem test_met_RequestCommands_3 : (let s := { sReq with mbx := { sReq.mbx with shut := true } }; accepted .ctx false false true (dscIn 0x0501 0x58 64) s = true ∧ s.mbx.shut = true) := by
  decide +kernel
/-- Meets the hypotheses of clause 4 of `RequestCommands`. -/
theorem test_met_RequestCommands_4 : accepted .sys false false false (dsc 0 0x0107) sReq = true := by
  decide +kernel
/-- Meets the hypotheses of clause 5 of `RequestCommands`. -/
theorem test_met_RequestCommands_5 : accepted .ctx false false false (dsc 4 0x0502) sReq = true ∧ (getRing sReq 4).ctx = some 0 ∧ (getCtx sReq 0).isSome = true ∧ (∃ x ∈ getCtx sReq 0, (relOf x (numOf 9)).isSome = true) := by
  decide +kernel
/-- Meets the hypotheses of clause 6 of `RequestCommands`. -/
theorem test_met_RequestCommands_6 : accepted .ctx false false false (dsc 4 0x0502) sReq = true ∧ (getRing sReq 4).ctx = some 0 ∧ (getCtx sReq 0).isSome = true ∧ (∃ x ∈ getCtx sReq 0, relOf x (numOf 8) = none) := by
  decide +kernel
/-- Meets the hypotheses of clause 7 of `RequestCommands`. -/
theorem test_met_RequestCommands_7 : ∃ (s : State) (d : Desc) (c : Nat) (x : Ctx) (tag dl mt : W32) (ts : List W32) (r : RelRec), let t := dequeue d s; (acceptedCtx true d c x s) ∧ (relOf x (numOf tag) = some r) ∧ ((s.mbx.shut = false) ∧ (d.inlen ≠ 0) ∧ (ts ≠ []) ∧ (mt ≠ 0) ∧ (resumeBad x dl mt ts = false) ∧ (r.retired = true) ∧ (r.end_ ≠ 3) ∧ (r.released ≠ []) ∧ (nowC t < r.retiredAt + holdCycles t)) := by
  exact ⟨sReq, dscIn 0x0503 16 0, 0, ((getCtx sReq 0).get (by decide +kernel)), 10, 1000, 4, [1], ((relOf ((getCtx sReq 0).get (by decide +kernel)) (numOf 10)).get (by decide +kernel)), ⟨by decide +kernel, by decide +kernel, (Option.some_get _).symm⟩, (Option.some_get (by decide +kernel)).symm, by decide +kernel⟩
/-- Meets the hypotheses of clause 8 of `RequestCommands`. -/
theorem test_met_RequestCommands_8 : ∃ (s : State) (d : Desc) (c : Nat) (x : Ctx) (tag dl mt : W32) (ts : List W32) (a : AdmRec), (acceptedCtx true d c x s) ∧ (admOf x (numOf tag) = some a) ∧ ((s.mbx.shut = false) ∧ (d.inlen ≠ 0) ∧ (ts ≠ []) ∧ (mt ≠ 0) ∧ (resumeBad x dl mt ts = false) ∧ (relOf x (numOf tag) = none) ∧ (a.retired = true)) := by
  exact ⟨sReq, dscIn 0x0503 16 0, 0, ((getCtx sReq 0).get (by decide +kernel)), 11, 1000, 4, [1], ((admOf ((getCtx sReq 0).get (by decide +kernel)) (numOf 11)).get (by decide +kernel)), ⟨by decide +kernel, by decide +kernel, (Option.some_get _).symm⟩, (Option.some_get (by decide +kernel)).symm, by decide +kernel⟩
/-- Meets the hypotheses of clause 9 of `RequestCommands`. -/
theorem test_met_RequestCommands_9 : accepted .ctx false false false (dsc 4 0x0504) sReq = true ∧ (getRing sReq 4).ctx = some 0 ∧ (getCtx sReq 0).isSome = true ∧ (∃ x ∈ getCtx sReq 0, (relOf x (numOf 9)).isSome = true) := by
  decide +kernel
/-- Meets the hypotheses of clause 10 of `RequestCommands`. -/
theorem test_met_RequestCommands_10 : accepted .ctx false false false (dsc 4 0x0506) sReq = true ∧ (getRing sReq 4).ctx = some 0 ∧ (getCtx sReq 0).isSome = true ∧ (∃ x ∈ getCtx sReq 0, (relOf x (numOf 9)).isSome = true ∧ (logOf x (numOf 9)).isSome = true) := by
  decide +kernel
/-- Meets the hypotheses of clause 11 of `RequestCommands`. -/
theorem test_met_RequestCommands_11 : accepted .ctx false false false (dsc 4 0x0505) sReq = true ∧ (getRing sReq 4).ctx = some 0 ∧ (getCtx sReq 0).isSome = true ∧ (∃ x ∈ getCtx sReq 0, (∃ g ∈ logOf x (numOf 9), logResident x ((admOf x (numOf 9)).map (fun a => a.adpslot)) g = true ∧ g.daylight = false)) := by
  decide +kernel

/-- Meets the hypotheses of clause 1 of `RequestEvents`. -/
theorem test_met_RequestEvents_1 : ∃ (s : State) (c : CtxI) (x : Ctx) (a : AdmRec) (k : Nat), (getCtx s c.val = some x) ∧ (chooseReq s x = some (a, k)) ∧ ((x.paused = false) ∧ (s.mbx.shut = false) ∧ (s.snuf.wheld = false) ∧ (x.path.head? = some s.fab.myid) ∧ ((a.resumed = none ∨ resumeLate s a = false))) := by
  exact ⟨{ sReq with ctxs := [(0, (getCtx sReq 0).map (fun x => { x with adm := [{ adm8 with limit := 900000 }] }))] }, 0, ((getCtx { sReq with ctxs := [(0, (getCtx sReq 0).map (fun x => { x with adm := [{ adm8 with limit := 900000 }] }))] } 0).get (by decide +kernel)), ((chooseReq { sReq with ctxs := [(0, (getCtx sReq 0).map (fun x => { x with adm := [{ adm8 with limit := 900000 }] }))] } ((getCtx { sReq with ctxs := [(0, (getCtx sReq 0).map (fun x => { x with adm := [{ adm8 with limit := 900000 }] }))] } 0).get (by decide +kernel))).get (by decide +kernel)).1, ((chooseReq { sReq with ctxs := [(0, (getCtx sReq 0).map (fun x => { x with adm := [{ adm8 with limit := 900000 }] }))] } ((getCtx { sReq with ctxs := [(0, (getCtx sReq 0).map (fun x => { x with adm := [{ adm8 with limit := 900000 }] }))] } 0).get (by decide +kernel))).get (by decide +kernel)).2, (Option.some_get (by decide +kernel)).symm, (Option.some_get (by decide +kernel)).symm, by decide +kernel⟩
/-- Meets the hypotheses of clause 2 of `RequestEvents`. -/
theorem test_met_RequestEvents_2 : adm8.admitted = true ∧ (2 : Nat) ≠ 3 ∧ adm8.resumed = none := by
  decide +kernel
/-- Meets the hypotheses of clause 3 of `RequestEvents`. -/
theorem test_met_RequestEvents_3 : ∃ (s : State) (c : CtxI) (inst : W32) (x : Ctx) (r : RelRec) (d : Drawn), (getCtx s c.val = some x) ∧ (relInst x inst = some r) ∧ (r.drawn = some d) ∧ (gateOpen s c.val r d = true) := by
  exact ⟨sReq, 0, 77, ((getCtx sReq 0).get (by decide +kernel)), ((relInst ((getCtx sReq 0).get (by decide +kernel)) 77).get (by decide +kernel)), ((((relInst ((getCtx sReq 0).get (by decide +kernel)) 77).get (by decide +kernel)).drawn).get (by decide +kernel)), (Option.some_get (by decide +kernel)).symm, (Option.some_get (by decide +kernel)).symm, (Option.some_get (by decide +kernel)).symm, by decide +kernel⟩
/-- Meets the hypotheses of clause 4 of `RequestEvents`. -/
theorem test_met_RequestEvents_4 : ∃ (s : State) (c : CtxI) (num : W16) (x : Ctx) (r : RelRec), (getCtx s c.val = some x) ∧ (relOf x num = some r) ∧ ((r.retired = false) ∧ (r.retiring = none) ∧ (r.limit ≤ nowC s)) := by
  exact ⟨sReq, 0, 9, ((getCtx sReq 0).get (by decide +kernel)), ((relOf ((getCtx sReq 0).get (by decide +kernel)) 9).get (by decide +kernel)), (Option.some_get (by decide +kernel)).symm, (Option.some_get (by decide +kernel)).symm, by decide +kernel⟩
/-- Meets the hypotheses of clause 5 of `RequestEvents`. -/
theorem test_met_RequestEvents_5 : ∃ (s : State) (c : CtxI) (num : W16) (x : Ctx) (a : AdmRec), (getCtx s c.val = some x) ∧ (admOf x num = some a) ∧ ((a.retired = false) ∧ (a.limit + 900000000 ≤ nowC s)) := by
  exact ⟨{ sReq with clk := { sReq.clk with aclk := 3000000000 } }, 0, 8, ((getCtx { sReq with clk := { sReq.clk with aclk := 3000000000 } } 0).get (by decide +kernel)), ((admOf ((getCtx { sReq with clk := { sReq.clk with aclk := 3000000000 } } 0).get (by decide +kernel)) 8).get (by decide +kernel)), (Option.some_get (by decide +kernel)).symm, (Option.some_get (by decide +kernel)).symm, by decide +kernel⟩
/-- Meets the hypotheses of clause 6 of `RequestEvents`. -/
theorem test_met_RequestEvents_6 : ∃ (s : State) (c : CtxI) (inst : W32) (x : Ctx) (a : Act), (getCtx s c.val = some x) ∧ (x.waitRel.find? (fun a => a.msg.hdr.inst == inst) = some a) := by
  exact ⟨sWaitRel, 0, 90, ((getCtx sWaitRel 0).get (by decide +kernel)), ((((getCtx sWaitRel 0).get (by decide +kernel)).waitRel.find? (fun a => a.msg.hdr.inst == 90)).get (by decide +kernel)), (Option.some_get (by decide +kernel)).symm, (Option.some_get (by decide +kernel)).symm⟩
/-- Meets the hypotheses of clause 7 of `RequestEvents`. -/
theorem test_met_RequestEvents_7 : ∃ (s : State) (k : LinkI), (linkLive (getLink s k.val).st = true) ∧ ((getLink s k.val).st ≠ .linit) ∧ (((getLink s k.val).codewords + 1) % 16384 = 0) := by
  exact ⟨{ sReq with fab := { sReq.fab with links := [(0, { Link.init with st := .up, codewords := 16383 })] } }, 0, by decide +kernel⟩
/-- Meets the hypotheses of clause 8 of `RequestEvents`. -/
theorem test_met_RequestEvents_8 : ∃ (s : State) (k : LinkI) (f : TxFlit) (t : List TxFlit), (linkLive (getLink s k.val).st = true) ∧ ((getLink s k.val).st ≠ .linit) ∧ (((getLink s k.val).codewords + 1) % 16384 ≠ 0) ∧ ((getLink s k.val).replay = f :: t) := by
  exact ⟨{ sReq with fab := { sReq.fab with links := [(0, { Link.init with st := .up, codewords := 3, replay := [({ num := 7, vl := 3, keyph := false, ctr := 0, items := [] } : TxFlit)] })] } }, 0, ({ num := 7, vl := 3, keyph := false, ctr := 0, items := [] } : TxFlit), [], by decide +kernel⟩
/-- Meets the hypotheses of clause 9 of `RequestEvents`. -/
theorem test_met_RequestEvents_9 : ∃ (s : State) (k : LinkI) (vl : Nat), ((getLink s k.val).st = .up) ∧ (((getLink s k.val).codewords + 1) % 16384 ≠ 0) ∧ ((getLink s k.val).replay = []) ∧ ([7, 4, 3].find? (sendable { getLink s k.val with codewords := (getLink s k.val).codewords + 1 }) = some vl) := by
  exact ⟨{ sReq with fab := { sReq.fab with links := [(0, { Link.init with st := .up, codewords := 3, queues := [(3, [.msg { hdr := hdrOf 0x20 1, vl := 3, body := .notice { arg0 := 6, arg1 := 0, code := 0 } }])], credits := [(3, 100)] })] } }, 0, 3, by decide +kernel⟩
/-- Meets the hypotheses of clause 10 of `RequestEvents`. -/
theorem test_met_RequestEvents_10a : (getLink sIdleLink 0).st = .up ∧ ((getLink sIdleLink 0).codewords + 1) % 16384 ≠ 0 ∧ (getLink sIdleLink 0).replay = [] ∧ [7, 4, 3].find? (sendable (getLink sIdleLink 0)) = none ∧ (wrrTurn sIdleLink 0).isNone = true := by
  decide +kernel
/-- Meets the hypotheses of clause 10 of `RequestEvents`. -/
theorem test_met_RequestEvents_10b : (getLink sTurnLink 0).st = .up ∧ [7, 4, 3].find? (sendable (getLink sTurnLink 0)) = none ∧ (wrrTurn sTurnLink 0).isSome = true := by
  decide +kernel

/-- Meets the hypotheses of clause 1 of `WorkMessages`. -/
theorem test_met_WorkMessages_1 : (∃ w ∈ acceptNum 2 amsg.vl 0 (takeItem 0 (.msg amsg) sReq), dieWaits (sReq) 0 = false ∧ malformed (amsg) = false ∧ amsg.hdr.kind.toNat = 0x10 ∧ kindVl 0x10 = some amsg.vl.toNat ∧ amsg.hdr.dst = sReq.fab.myid ∧ sReq.fab.myidV = true ∧ sReq.snuf.wheld = false ∧ ofRetired w amsg.hdr = false ∧ msgCtx w amsg.hdr = some 0 ∧ (touchStream amsg true w).fab.rules.find? (fun r => ruleHolds r 5 3 0) = none ∧ msgCtx (touchStream amsg true w) amsg.hdr = some 0 ∧ actMalformed amsg = false ∧ workCount amsg ≠ 0 ∧ w.mbx.shut = false) := by
  decide +kernel
/-- Meets the hypotheses of clause 2 of `WorkMessages`. -/
theorem test_met_WorkMessages_2 : ∃ (s w : State) (k : LinkI) (m : Msg) (c : Nat) (ep : W32) (layer part : W16) (fin : Pkg), let t := touchStream m true w; (delivered k.val m 0x10 s w) ∧ ((s.fab.freed = []) ∧ (w.mbx.shut = false) ∧ (workCount m ≠ 0) ∧ (workKey m = some (ep, layer, part, fin)) ∧ (t.fab.rules.find? (fun r => ruleHolds r m.hdr.ctx ep layer) = none) ∧ (msgCtx t m.hdr = some c) ∧ (actMalformed m = false) ∧ (resentKey m ∉ t.fab.resent)) := by
  exact ⟨sReq, ((acceptNum 2 1 0 (takeItem 0 (.msg (amsg)) sReq)).get (by decide +kernel)), 0, amsg, 0, ((workKey amsg).get (by decide +kernel)).1, ((workKey amsg).get (by decide +kernel)).2.1, ((workKey amsg).get (by decide +kernel)).2.2.1, ((workKey amsg).get (by decide +kernel)).2.2.2, ⟨by decide +kernel, by decide +kernel, by decide +kernel, by decide +kernel, by decide +kernel, by decide +kernel, by decide +kernel, (Option.some_get _).symm, by decide +kernel⟩, by decide +kernel⟩
/-- Meets the hypotheses of clause 3 of `WorkMessages`. -/
theorem test_met_WorkMessages_3 : (let s := { sReq with mbx := { sReq.mbx with shut := true } }; (∃ w ∈ acceptNum 2 amsg.vl 0 (takeItem 0 (.msg amsg) s), dieWaits (s) 0 = false ∧ malformed (amsg) = false ∧ amsg.hdr.kind.toNat = 0x10 ∧ kindVl 0x10 = some amsg.vl.toNat ∧ amsg.hdr.dst = s.fab.myid ∧ s.fab.myidV = true ∧ s.snuf.wheld = false ∧ ofRetired w amsg.hdr = false ∧ msgCtx w amsg.hdr = some 0 ∧ w.mbx.shut = true)) := by
  decide +kernel
/-- Meets the hypotheses of clause 4 of `WorkMessages`. -/
theorem test_met_WorkMessages_4 : ∃ (s : State) (k : LinkI) (m : Msg) (bad : Bool), let t := takeItem k.val (.msg m) s; (s.fab.freed = []) ∧ (dieWaits s k.val = false) ∧ (t.snuf.wheld = false) ∧ (t.fab.myidV = true) ∧ (m.hdr.kind = 0x10) ∧ (m.vl = 1) ∧ (m.hdr.dst = t.fab.myid) ∧ (acceptNum m.hdr.src m.vl m.hdr.msn t = none) := by
  exact ⟨{ sReq with fab := { sReq.fab with wins := [{ src := 2, vl := 1, top := 0, seen := 1 }] } }, 0, amsg, false, by decide +kernel⟩
/-- Meets the hypotheses of clause 5 of `WorkMessages`. -/
theorem test_met_WorkMessages_5 : ∃ (s w : State) (k : LinkI) (m : Msg) (c : Nat) (r : RedHdr) (g : List Byte) (md : ShardMeta), let t := touchStream m true w; (delivered k.val m 0x11 s w) ∧ (m.body = .s40 r g) ∧ ((s.fab.freed = []) ∧ (w.mbx.shut = false) ∧ (workCount m ≠ 0) ∧ (t.fab.rules.find? (fun q => ruleHolds q m.hdr.ctx r.epoch r.layer) = none) ∧ (msgCtx t m.hdr = some c) ∧ (reduceMeta t c r.epoch r.layer.toNat r.part = some md) ∧ (s40Malformed m = false) ∧ (expsOk (partExps t c r.epoch md) r (s40Body r g) = true) ∧ (resentKey m ∉ t.fab.resent)) := by
  exact ⟨{ sReduce with fab := { sReduce.fab with reds := [] } }, ((acceptNum 2 2 0 (takeItem 0 (.msg (smsg)) { sReduce with fab := { sReduce.fab with reds := [] } })).get (by decide +kernel)), 0, smsg, 0, { epoch := 3, adpgen := 0, layer := 1, part := 0, resolved := 0, final := 1, checks := 0, cmask := 1, group0 := 0, ngroups := 1 }, (s40Bytes { exp := 0, mant := List.replicate 64 0 } ++ List.replicate 191 0), ((reduceMeta sReduce 0 3 1 0).get (by decide +kernel)), ⟨by decide +kernel, by decide +kernel, by decide +kernel, by decide +kernel, by decide +kernel, by decide +kernel, by decide +kernel, (Option.some_get _).symm, by decide +kernel⟩, rfl, by decide +kernel⟩
/-- Meets the hypotheses of clause 6 of `WorkMessages`. -/
theorem test_met_WorkMessages_6 : ∃ (s : State) (c : Nat) (e : List Int) (h : Hdr) (r : RedHdr) (g : List S40Group) (clean : Bool) (n : Nat) (q : RedRec), (s.fab.reds.find? (redIs h.ctx h.inst h.tindex r.layer r.part) = some q) := by
  exact ⟨sRed, 0, [0], hdr2 0x11, { epoch := 3, adpgen := 0, layer := 1, part := 0, resolved := 0, final := 1, checks := 0, cmask := 1, group0 := 0, ngroups := 1 }, [], true, 0, ((sRed.fab.reds.find? (redIs 5 77 3 1 0)).get (by decide +kernel)), (Option.some_get (by decide +kernel)).symm⟩
/-- Meets the hypotheses of clause 7 of `WorkMessages`. -/
theorem test_met_WorkMessages_7 : ∃ (s : State) (c : CtxI) (inst tindex : W32) (layer : W16) (r : RedRec) (md : ShardMeta), (openRed s c.val inst tindex layer = some r) ∧ (reduceMeta s c.val r.epoch layer.toNat r.part = some md) ∧ (s.snuf.wheld = false) := by
  exact ⟨sReduce, 0, 77, 3, 1, ((openRed sReduce 0 77 3 1).get (by decide +kernel)), ((reduceMeta sReduce 0 ((openRed sReduce 0 77 3 1).get (by decide +kernel)).epoch 1 0).get (by decide +kernel)), (Option.some_get (by decide +kernel)).symm, (Option.some_get (by decide +kernel)).symm, by decide +kernel⟩
/-- Meets the hypotheses of clause 8 of `WorkMessages`. -/
theorem test_met_WorkMessages_8 : sRed.snuf.wheld = false ∧ (openRed sRed 0 77 3 1).isSome = true := by
  decide +kernel

/-- Meets the hypotheses of clause 1 of `NoticesAndTapers`. -/
theorem test_met_NoticesAndTapers_1 : (let m := { nmsg 0x15 0 with vl := 1, hdr := { hdr2 0x15 with inst := 78, tindex := 3, len := 48 } }; let s := { sReq with ctxs := [(0, (getCtx sReq 0).map (fun x => { x with adm := [{ adm8 with nextPos := 4 }] }))] }; (∃ w ∈ acceptNum 2 m.vl 0 (takeItem 0 (.msg m) s), dieWaits (s) 0 = false ∧ malformed (m) = false ∧ m.hdr.kind.toNat = 0x15 ∧ kindVl 0x15 = some m.vl.toNat ∧ m.hdr.dst = s.fab.myid ∧ s.fab.myidV = true ∧ s.snuf.wheld = false ∧ ofRetired w m.hdr = false ∧ msgCtx w m.hdr = some 0 ∧ (∃ x ∈ getCtx w 0, (x.adm.find? (fun a => a.admitted && a.inst == m.hdr.inst && a.seg == m.hdr.seg && !a.retired)).isSome = true))) := by
  decide +kernel
/-- Meets the hypotheses of clause 2 of `NoticesAndTapers`. -/
theorem test_met_NoticesAndTapers_2 : (let m := nmsg 0x20 1; (∃ w ∈ acceptNum 2 m.vl 0 (takeItem 0 (.msg m) sReq), dieWaits (sReq) 0 = false ∧ malformed (m) = false ∧ m.hdr.kind.toNat = 0x20 ∧ kindVl 0x20 = some m.vl.toNat ∧ m.hdr.dst = sReq.fab.myid ∧ sReq.fab.myidV = true ∧ sReq.snuf.wheld = false ∧ ofRetired w m.hdr = false ∧ msgCtx w m.hdr = some 0 ∧ (∃ x ∈ getCtx w 0, (relNamed x m.hdr).isSome = true))) := by
  decide +kernel
/-- Meets the hypotheses of clause 3 of `NoticesAndTapers`. -/
theorem test_met_NoticesAndTapers_3 : (let m := nmsg 0x26 1; (∃ w ∈ acceptNum 2 m.vl 0 (takeItem 0 (.msg m) sReq), dieWaits (sReq) 0 = false ∧ malformed (m) = false ∧ m.hdr.kind.toNat = 0x26 ∧ kindVl 0x26 = some m.vl.toNat ∧ m.hdr.dst = sReq.fab.myid ∧ sReq.fab.myidV = true ∧ sReq.snuf.wheld = false ∧ ofRetired w m.hdr = false ∧ msgCtx w m.hdr = some 0 ∧ (∃ x ∈ getCtx w 0, (relNamed x m.hdr).isSome = true))) := by
  decide +kernel
/-- Meets the hypotheses of clause 4 of `NoticesAndTapers`. -/
theorem test_met_NoticesAndTapers_4 : (let m := nmsg 0x21 0; (∃ w ∈ acceptNum 2 m.vl 0 (takeItem 0 (.msg m) sReq), dieWaits (sReq) 0 = false ∧ malformed (m) = false ∧ m.hdr.kind.toNat = 0x21 ∧ kindVl 0x21 = some m.vl.toNat ∧ m.hdr.dst = sReq.fab.myid ∧ sReq.fab.myidV = true ∧ sReq.snuf.wheld = false ∧ ofRetired w m.hdr = false ∧ msgCtx w m.hdr = some 0 ∧ (getCtx w 0).isSome = true)) := by
  decide +kernel
/-- Meets the hypotheses of clause 5 of `NoticesAndTapers`. -/
theorem test_met_NoticesAndTapers_5 : (let m := nmsg 0x22 0; (∃ w ∈ acceptNum 2 m.vl 0 (takeItem 0 (.msg m) sReq), dieWaits (sReq) 0 = false ∧ malformed (m) = false ∧ m.hdr.kind.toNat = 0x22 ∧ kindVl 0x22 = some m.vl.toNat ∧ m.hdr.dst = sReq.fab.myid ∧ sReq.fab.myidV = true ∧ sReq.snuf.wheld = false ∧ ofRetired w m.hdr = false ∧ msgCtx w m.hdr = some 0 ∧ (getCtx w 0).isSome = true)) := by
  decide +kernel
/-- Meets the hypotheses of clause 6 of `NoticesAndTapers`. -/
theorem test_met_NoticesAndTapers_6 : (let m := nmsg 0x23 0; (∃ w ∈ acceptNum 2 m.vl 0 (takeItem 0 (.msg m) sReq), dieWaits (sReq) 0 = false ∧ malformed (m) = false ∧ m.hdr.kind.toNat = 0x23 ∧ kindVl 0x23 = some m.vl.toNat ∧ m.hdr.dst = sReq.fab.myid ∧ sReq.fab.myidV = true ∧ sReq.snuf.wheld = false ∧ ofRetired w m.hdr = false ∧ msgCtx w m.hdr = some 0 ∧ (getCtx w 0).isSome = true)) := by
  decide +kernel
/-- Meets the hypotheses of clause 7 of `NoticesAndTapers`. -/
theorem test_met_NoticesAndTapers_7 : (let m := nmsg 0x24 0; (∃ w ∈ acceptNum 2 m.vl 0 (takeItem 0 (.msg m) sReq), dieWaits (sReq) 0 = false ∧ malformed (m) = false ∧ m.hdr.kind.toNat = 0x24 ∧ kindVl 0x24 = some m.vl.toNat ∧ m.hdr.dst = sReq.fab.myid ∧ sReq.fab.myidV = true ∧ sReq.snuf.wheld = false ∧ ofRetired w m.hdr = false ∧ msgCtx w m.hdr = some 0 ∧ (getCtx w 0).isSome = true)) := by
  decide +kernel
/-- Meets the hypotheses of clause 8 of `NoticesAndTapers`. -/
theorem test_met_NoticesAndTapers_8 : (let m := { nmsg 0x25 1 with body := .notice { arg0 := 0, arg1 := 0, code := 1 } }; (∃ w ∈ acceptNum 2 m.vl 0 (takeItem 0 (.msg m) sRed), dieWaits (sRed) 0 = false ∧ malformed (m) = false ∧ m.hdr.kind.toNat = 0x25 ∧ kindVl 0x25 = some m.vl.toNat ∧ m.hdr.dst = sRed.fab.myid ∧ sRed.fab.myidV = true ∧ sRed.snuf.wheld = false ∧ ofRetired w m.hdr = false ∧ msgCtx w m.hdr = some 0 ∧ (wanted w m.hdr (noticeOf m)).isSome = true)) := by
  decide +kernel
/-- Meets the hypotheses of clause 9 of `NoticesAndTapers`. -/
theorem test_met_NoticesAndTapers_9 : ∃ (s w : State) (k : LinkI) (m : Msg) (dig : Digest) (t : TaperHdr) (i : Nat) (n : Chain), let v := takeItem k.val (.msg m) s; (m.body = .taper t) ∧ (chainOf v k.val t.chain.toNat = some (i, n)) ∧ (acceptNum (BitVec.ofNat 12 i) 0 m.hdr.msn v = some w) ∧ ((v.snuf.wheld = false) ∧ (v.fab.myidV = true) ∧ (m.hdr.kind = 0x13) ∧ (m.vl = 0) ∧ (t.seglen ≠ 0) ∧ (m.hdr.len.toNat = 64 + t.seglen.toNat) ∧ (t.seglen.toNat ≤ 65536)) := by
  exact ⟨sChained, ((acceptNum (BitVec.ofNat 12 ((chainOf (takeItem 0 (.msg ({ tmsg 0x13 4 with hdr := { hdr2 0x13 with len := 68 } })) sChained) 0 4).get (by decide +kernel)).1) 0 0 (takeItem 0 (.msg ({ tmsg 0x13 4 with hdr := { hdr2 0x13 with len := 68 } })) sChained)).get (by decide +kernel)), 0, { tmsg 0x13 4 with hdr := { hdr2 0x13 with len := 68 } }, 0, { chain := 4, owner := 1, buddy := 9, shard := 9, seg := 0, segs := 1, seglen := 4 }, ((chainOf (takeItem 0 (.msg ({ tmsg 0x13 4 with hdr := { hdr2 0x13 with len := 68 } })) sChained) 0 4).get (by decide +kernel)).1, ((chainOf (takeItem 0 (.msg ({ tmsg 0x13 4 with hdr := { hdr2 0x13 with len := 68 } })) sChained) 0 4).get (by decide +kernel)).2, rfl, (Option.some_get (by decide +kernel)).symm, (Option.some_get (by decide +kernel)).symm, by decide +kernel⟩
/-- Meets the hypotheses of clause 10 of `NoticesAndTapers`. -/
theorem test_met_NoticesAndTapers_10 : ∃ (s w : State) (k : LinkI) (m : Msg) (dig : Digest) (t : TaperHdr) (i : Nat) (n : Chain), let v := takeItem k.val (.msg m) s; (m.body = .taper t) ∧ (chainOf v k.val t.chain.toNat = some (i, n)) ∧ (acceptNum (BitVec.ofNat 12 i) 0 m.hdr.msn v = some w) ∧ ((v.snuf.wheld = false) ∧ (v.fab.myidV = true) ∧ (m.hdr.kind = 0x13) ∧ (m.vl = 0) ∧ (t.seglen = 0)) := by
  exact ⟨sChained, ((acceptNum (BitVec.ofNat 12 ((chainOf (takeItem 0 (.msg ({ tmsg 0x13 0 with hdr := { hdr2 0x13 with len := 64 } })) sChained) 0 4).get (by decide +kernel)).1) 0 0 (takeItem 0 (.msg ({ tmsg 0x13 0 with hdr := { hdr2 0x13 with len := 64 } })) sChained)).get (by decide +kernel)), 0, { tmsg 0x13 0 with hdr := { hdr2 0x13 with len := 64 } }, 0, { chain := 4, owner := 1, buddy := 9, shard := 9, seg := 0, segs := 1, seglen := 0 }, ((chainOf (takeItem 0 (.msg ({ tmsg 0x13 0 with hdr := { hdr2 0x13 with len := 64 } })) sChained) 0 4).get (by decide +kernel)).1, ((chainOf (takeItem 0 (.msg ({ tmsg 0x13 0 with hdr := { hdr2 0x13 with len := 64 } })) sChained) 0 4).get (by decide +kernel)).2, rfl, (Option.some_get (by decide +kernel)).symm, (Option.some_get (by decide +kernel)).symm, by decide +kernel⟩
/-- Meets the hypotheses of clause 11 of `NoticesAndTapers`. -/
theorem test_met_NoticesAndTapers_11 : (let m := { tmsg 0x14 0 with hdr := { hdr2 0x14 with len := 64 } }; (∃ w ∈ acceptNum 2 3 0 (takeItem 0 (.msg m) sChained), malformed m = false ∧ m.hdr.kind.toNat = 0x14 ∧ kindVl 0x14 = some m.vl.toNat ∧ m.hdr.dst = sChained.fab.myid ∧ ofRetired w m.hdr = false ∧ (chainNamed w 4).isSome = true)) := by
  decide +kernel

/-- Meets the hypotheses of clause 1 of `CurfewsAndWaves`. -/
theorem test_met_CurfewsAndWaves_1 : (let m := cmsg 1; ∃ w ∈ acceptNum 2 7 0 (takeItem 0 (.msg m) (sReq)), malformed m = false ∧ m.hdr.kind.toNat = 0x12 ∧ kindVl 0x12 = some m.vl.toNat ∧ m.hdr.dst = sReq.fab.myid ∧ sReq.fab.myidV = true ∧ ofRetired w m.hdr = false ∧ m.hdr.len = 64 ∧ w.fab.rules.length < 16) := by
  decide +kernel
/-- Meets the hypotheses of clause 2 of `CurfewsAndWaves`. -/
theorem test_met_CurfewsAndWaves_2 : (let s := { sReq with fab := { sReq.fab with rules := (List.range 16).map (fun i => { cfid := BitVec.ofNat 32 (i + 10), ctx := 5, below := false, layLo := 0, layHi := 0, epoch := 9, src := 2, overflow := false, lifting := none, held := [] }) } }; (let m := cmsg 1; ∃ w ∈ acceptNum 2 7 0 (takeItem 0 (.msg m) (s)), malformed m = false ∧ m.hdr.kind.toNat = 0x12 ∧ kindVl 0x12 = some m.vl.toNat ∧ m.hdr.dst = s.fab.myid ∧ s.fab.myidV = true ∧ ofRetired w m.hdr = false ∧ m.hdr.len = 64 ∧ ruleOf w 5 3 = none ∧ 16 ≤ w.fab.rules.length)) := by
  decide +kernel
/-- Meets the hypotheses of clause 3 of `CurfewsAndWaves`. -/
theorem test_met_CurfewsAndWaves_3 : (let m := cmsg 2; ∃ w ∈ acceptNum 2 7 0 (takeItem 0 (.msg m) (sRule)), malformed m = false ∧ m.hdr.kind.toNat = 0x12 ∧ kindVl 0x12 = some m.vl.toNat ∧ m.hdr.dst = sRule.fab.myid ∧ sRule.fab.myidV = true ∧ ofRetired w m.hdr = false ∧ m.hdr.len = 64 ∧ (ruleOf w 5 3).isSome = true) := by
  decide +kernel
/-- Meets the hypotheses of clause 4 of `CurfewsAndWaves`. -/
theorem test_met_CurfewsAndWaves_4 : (let m := cmsg 3; ∃ w ∈ acceptNum 2 7 0 (takeItem 0 (.msg m) (sRule)), malformed m = false ∧ m.hdr.kind.toNat = 0x12 ∧ kindVl 0x12 = some m.vl.toNat ∧ m.hdr.dst = sRule.fab.myid ∧ sRule.fab.myidV = true ∧ ofRetired w m.hdr = false ∧ m.hdr.len = 64 ∧ (ruleOf w 5 3).isSome = true) := by
  decide +kernel
/-- Meets the hypotheses of clause 5 of `CurfewsAndWaves`. -/
theorem test_met_CurfewsAndWaves_5 : (let m := cmsg 4; ∃ w ∈ acceptNum 2 7 0 (takeItem 0 (.msg m) (sWave)), malformed m = false ∧ m.hdr.kind.toNat = 0x12 ∧ kindVl 0x12 = some m.vl.toNat ∧ m.hdr.dst = sWave.fab.myid ∧ sWave.fab.myidV = true ∧ ofRetired w m.hdr = false ∧ m.hdr.len = 64 ∧ msgCtx w m.hdr = some 0 ∧ (∃ x ∈ getCtx w 0, x.wave.isSome = true)) := by
  decide +kernel
/-- Meets the hypotheses of clause 6 of `CurfewsAndWaves`. -/
theorem test_met_CurfewsAndWaves_6 : ∃ (s : State) (ctx : W16) (cfid : W32) (fails : List (Lan × LWick × List (Nat × Int))) (r : HoldRule) (c : Nat) (x : Ctx), (ruleOf s ctx cfid = some r) ∧ (getCtx s c = some x) ∧ ((s.snuf.wheld = false) ∧ (slotOf s ctx = some c) ∧ (x.rewrite = none) ∧ (isStaged s c r.epoch = false)) := by
  exact ⟨sRule, 5, 3, [], ((ruleOf sRule 5 3).get (by decide +kernel)), 0, ((getCtx sRule 0).get (by decide +kernel)), (Option.some_get (by decide +kernel)).symm, (Option.some_get (by decide +kernel)).symm, by decide +kernel⟩
/-- Meets the hypotheses of clause 7 of `CurfewsAndWaves`. -/
theorem test_met_CurfewsAndWaves_7 : ∃ (s : State) (c : CtxI) (x : Ctx) (w : Wave), (waveOf s c.val = some (x, w)) ∧ (w.phase = 3) := by
  exact ⟨sWave, 0, ((waveOf sWave 0).get (by decide +kernel)).1, ((waveOf sWave 0).get (by decide +kernel)).2, (Option.some_get (by decide +kernel)).symm, by decide +kernel⟩
/-- Meets the hypotheses of clause 8 of `CurfewsAndWaves`. -/
theorem test_met_CurfewsAndWaves_8 : ∃ (s : State) (c : CtxI) (x : Ctx) (w : Wave), (waveOf s c.val = some (x, w)) ∧ ((∀ a ∈ w.await, a.2 < 3)) := by
  exact ⟨sWave, 0, ((waveOf sWave 0).get (by decide +kernel)).1, ((waveOf sWave 0).get (by decide +kernel)).2, (Option.some_get (by decide +kernel)).symm, by decide +kernel⟩
/-- Meets the hypotheses of clause 9 of `CurfewsAndWaves`. -/
theorem test_met_CurfewsAndWaves_9 : ∃ (s : State) (c : CtxI) (x : Ctx) (w : Wave), (waveOf s c.val = some (x, w)) ∧ ((w.phase = 3) ∧ (w.expired = false)) := by
  exact ⟨sWave, 0, ((waveOf sWave 0).get (by decide +kernel)).1, ((waveOf sWave 0).get (by decide +kernel)).2, (Option.some_get (by decide +kernel)).symm, by decide +kernel⟩
/-- Meets the hypotheses of clause 10 of `CurfewsAndWaves`. -/
theorem test_met_CurfewsAndWaves_10 : accepted .ctx false false false (dsc 4 0x0306) sReq = true ∧ (getRing sReq 4).ctx = some 0 ∧ (∃ x ∈ getCtx sReq 0, x.wave = none ∧ x.replQ = []) := by
  decide +kernel
/-- Meets the hypotheses of clause 11 of `CurfewsAndWaves`. -/
theorem test_met_CurfewsAndWaves_11 : ∃ (s : State) (c : Nat) (x : Ctx) (d : Desc) (old new drain : W32), (drain.toNat ≤ 50000) ∧ (x.admEpoch = none) ∧ (isStaged s c new = true) := by
  exact ⟨{ sReq with ctxs := [(0, (getCtx sReq 0).map (fun x => { x with admEpoch := none, epochs := [{ epoch := 3, st := .staged, first := true, shards := [], cmd := none, adopt := none }] }))] }, 0, ((getCtx { sReq with ctxs := [(0, (getCtx sReq 0).map (fun x => { x with admEpoch := none, epochs := [{ epoch := 3, st := .staged, first := true, shards := [], cmd := none, adopt := none }] }))] } 0).get (by decide +kernel)), dsc 4 0x0306, 0, 3, 50000, by decide +kernel⟩

/-- Meets the hypotheses of clause 1 of `TwinPairs`. -/
theorem test_met_TwinPairs_1 : accepted .twin false false false (dsc 1 0x0A01) (sTwin .none_) = true ∧ twinArgOk targ = true ∧ (slotOf (sTwin .none_) 5).isSome = true ∧ (sTwin .none_).twin.st ≠ .forming ∧ targ.peer.toNat / 2048 ≠ (sTwin .none_).fab.myid.toNat / 2048 ∧ (∀ k ∈ twinLinks targ, twinLinkOk (sTwin .none_) targ.peer k = true) := by
  decide +kernel
/-- Meets the hypotheses of clause 2 of `TwinPairs`. -/
theorem test_met_TwinPairs_2 : ∃ (s : State) (d : Desc) (a : TwinArg), ((∃ k ∈ twinLinks a, twinLinkOk s a.peer k = false)) ∧ ((accepted .twin false false false d s = true) ∧ (twinArgOk a = true) ∧ ((slotOf s a.ctxid).isSome = true) ∧ (s.twin.st ≠ .forming)) := by
  exact ⟨{ sReq with mbx := { sReq.mbx with rings := [(1, { Ring.init with st := .run })] } }, dsc 1 0x0A01, targ, ⟨2, by decide +kernel, by decide +kernel⟩, by decide +kernel⟩
/-- Meets the hypotheses of clause 3 of `TwinPairs`. -/
theorem test_met_TwinPairs_3 : accepted .twin false false false (dsc 1 0x0A02) (sTwin .active) = true := by
  decide +kernel
/-- Meets the hypotheses of clause 4 of `TwinPairs`. -/
theorem test_met_TwinPairs_4 : (let m := wmsg 0x30 (.tform 2 0 5 10); ∃ w ∈ acceptNum 2049 5 0 (takeItem 0 (.msg m) (sTwin .forming)), malformed m = false ∧ m.hdr.kind.toNat = 0x30 ∧ kindVl 0x30 = some m.vl.toNat ∧ m.hdr.dst = (sTwin .forming).fab.myid ∧ (sTwin .forming).fab.myidV = true ∧ ofRetired w m.hdr = false ∧ w.twin.st = .forming) := by
  decide +kernel
/-- Meets the hypotheses of clause 5 of `TwinPairs`. -/
theorem test_met_TwinPairs_5 : ∃ (s : State) (a : TwinArg) (mode flags : Byte) (ctxid : W16), (s.twin.arg = some a) ∧ (s.twin.peerForm = some (a.peer, mode, flags, ctxid)) ∧ (s.twin.st = .forming) ∧ (formsAgree a mode flags ctxid = true) := by
  exact ⟨{ sTwin .forming with twin := { (sTwin .forming).twin with peerForm := some (2049, 2, 0, 5) } }, targ, 2, 0, 5, by decide +kernel⟩
/-- Meets the hypotheses of clause 6 of `TwinPairs`. -/
theorem test_met_TwinPairs_6 : (let m := wmsg 0x34 (.theart 2 false); ∃ w ∈ acceptNum 2049 5 0 (takeItem 0 (.msg m) (sTwin .active)), malformed m = false ∧ m.hdr.kind.toNat = 0x34 ∧ kindVl 0x34 = some m.vl.toNat ∧ m.hdr.dst = (sTwin .active).fab.myid ∧ (sTwin .active).fab.myidV = true ∧ ofRetired w m.hdr = false ∧ (∃ a ∈ w.twin.arg, m.hdr.src = a.peer) ∧ w.twin.st = .active) := by
  decide +kernel
/-- Meets the hypotheses of clause 7 of `TwinPairs`. -/
theorem test_met_TwinPairs_7 : (sTwin .active).twin.arg = some targ ∧ (sTwin .active).snuf.wheld = false ∧ (sTwin .active).twin.st ≠ .none_ := by
  decide +kernel
/-- Meets the hypotheses of clause 8 of `TwinPairs`. -/
theorem test_met_TwinPairs_8 : (sTwin .compare).twin.st = .compare ∧ twinStrict (sTwin .compare) = false := by
  decide +kernel
/-- Meets the hypotheses of clause 9 of `TwinPairs`. -/
theorem test_met_TwinPairs_9 : (let m := wmsg 0x31 (.tdigest 1); ∃ w ∈ acceptNum 2049 5 0 (takeItem 0 (.msg m) (sTwin .compare)), malformed m = false ∧ m.hdr.kind.toNat = 0x31 ∧ kindVl 0x31 = some m.vl.toNat ∧ m.hdr.dst = (sTwin .compare).fab.myid ∧ (sTwin .compare).fab.myidV = true ∧ ofRetired w m.hdr = false ∧ (∃ a ∈ w.twin.arg, a.peer = m.hdr.src) ∧ comparing w m.hdr.ctx = true ∧ msgCtx w m.hdr = some 0 ∧ ((getCtx w 0).bind (fun x => relOf x (numOf m.hdr.reqtag))).isSome = true) := by
  decide +kernel
/-- Meets the hypotheses of clause 10 of `TwinPairs`. -/
theorem test_met_TwinPairs_10 : (let m := wmsg 0x33 (.tresult 1); ∃ w ∈ acceptNum 2049 5 0 (takeItem 0 (.msg m) (sTwin .compare)), malformed m = false ∧ m.hdr.kind.toNat = 0x33 ∧ kindVl 0x33 = some m.vl.toNat ∧ m.hdr.dst = (sTwin .compare).fab.myid ∧ (sTwin .compare).fab.myidV = true ∧ ofRetired w m.hdr = false ∧ (∃ a ∈ w.twin.arg, a.peer = m.hdr.src) ∧ comparing w m.hdr.ctx = true ∧ msgCtx w m.hdr = some 0 ∧ ((getCtx w 0).bind (fun x => relOf x (numOf m.hdr.reqtag))).isSome = true) := by
  decide +kernel
/-- Meets the hypotheses of clause 11 of `TwinPairs`. -/
theorem test_met_TwinPairs_11 : (let s := { sTwin .compare with ctxs := [(0, (getCtx sReq 0).map (fun x => { x with rel := [{ rel9 with drawn := rel9.drawn.map (fun d => { d with arb := true, tindex := 3 }) }] }))] }; (let m := wmsg 0x32 (.tact { epoch := 3, adpgen := 0, layer := 0, part := 0, fmt := 8, resolved := 0, final := 1, checks := 0, nelem := 1, adpslot := 0 } (List.replicate (tensorSize 8 false 1) 0)); ∃ w ∈ acceptNum 2049 5 0 (takeItem 0 (.msg m) (s)), malformed m = false ∧ m.hdr.kind.toNat = 0x32 ∧ kindVl 0x32 = some m.vl.toNat ∧ m.hdr.dst = (s).fab.myid ∧ (s).fab.myidV = true ∧ ofRetired w m.hdr = false ∧ (∃ a ∈ w.twin.arg, a.peer = m.hdr.src) ∧ comparing w m.hdr.ctx = true ∧ msgCtx w m.hdr = some 0 ∧ ((getCtx w 0).bind (fun x => relOf x (numOf m.hdr.reqtag))).isSome = true ∧ (∃ r ∈ (getCtx w 0).bind (fun x => relOf x (numOf m.hdr.reqtag)), ∃ d ∈ r.drawn, d.arb = true ∧ d.mine = none ∧ d.tindex = m.hdr.tindex))) := by
  decide +kernel
/-- Meets the hypotheses of clause 12 of `TwinPairs`. -/
theorem test_met_TwinPairs_12 : ((drawnRecs { sReq with ctxs := [(0, (getCtx sReq 0).map (fun x => { x with rel := [{ rel9 with drawn := rel9.drawn.map (fun d => { d with twinWait := true }) }] }))] }).find? (fun p => numOf 9 == p.2.1.num && p.2.2.tindex == 2 && p.2.2.twinWait)).isSome = true := by
  decide +kernel
/-- Meets the hypotheses of clause 13 of `TwinPairs`. -/
theorem test_met_TwinPairs_13 : ∃ (s : State) (r : RingI) (tag : W64) (d : Desc), ((getRing s r.val).prog.find? (fun d => d.tag == tag && abandonable.contains d.opcode.toNat) = some d) ∧ (d.ring = r) ∧ (((getRing s r.val).prog.erase d).find? (fun d => d.tag == tag) = none) ∧ ((∀ v ∈ s.invs, v.cmd ≠ some d)) ∧ (s.twin.cmd = none) := by
  exact ⟨sLate, 4, 7, dsc 4 0x020B, by decide +kernel⟩

/-- Meets the hypotheses of clause 1 of `LinkBringUp`. -/
theorem test_met_LinkBringUp_1 : ∃ (s : State) (p : PortI) (v : W32), ((getPort s p.val).en = true) ∧ (bitAt v 31 = true) := by
  exact ⟨sLink .up Link.init, 1, 0x80000000, by decide +kernel⟩
/-- Meets the hypotheses of clause 2 of `LinkBringUp`. -/
theorem test_met_LinkBringUp_2 : (getPort State.reset 1).en = false ∧ bitAt 0xC0000000 31 = true ∧ bitAt 0xC0000000 30 = true := by
  decide +kernel
/-- Meets the hypotheses of clause 3 of `LinkBringUp`. -/
theorem test_met_LinkBringUp_3 : ∃ (s : State) (p : PortI) (v : W32), ((getPort s p.val).en = true) ∧ (bitAt v 31 = false) ∧ ((getLink s (2 * p.val)).st ≠ .disabled) := by
  exact ⟨sLink .up Link.init, 1, 0, by decide +kernel⟩
/-- Meets the hypotheses of clause 4 of `LinkBringUp`. -/
theorem test_met_LinkBringUp_4 : bitAt 0x80000000 31 = true := by
  decide +kernel
/-- Meets the hypotheses of clause 5 of `LinkBringUp`. -/
theorem test_met_LinkBringUp_5 : (getLink (sLink .training Link.init) 2).st = .training := by
  decide +kernel
/-- Meets the hypotheses of clause 6 of `LinkBringUp`. -/
theorem test_met_LinkBringUp_6 : (getLink (sLink .align Link.init) 2).st = .align := by
  decide +kernel
/-- Meets the hypotheses of clause 7 of `LinkBringUp`. -/
theorem test_met_LinkBringUp_7 : ∃ (s : State) (k : LinkI) (m : Linit), ((getLink s k.val).st = .linit) ∧ (linitFault s k.val m = none) ∧ (m.echoes = true) := by
  exact ⟨sLink .linit Link.init, 2, goodLinit 0 900, by decide +kernel⟩
/-- Meets the hypotheses of clause 8 of `LinkBringUp`. -/
theorem test_met_LinkBringUp_8a : (goodLinit 2 900).version = 1 ∧ (goodLinit 2 900).split = (getPort (sLink .linit Link.init) 1).split ∧ linkPolicy (sLink .linit Link.init) 2 = 0 ∧ (goodLinit 2 900).policy = 2 := by
  decide +kernel
/-- Meets the hypotheses of clause 8 of `LinkBringUp`. -/
theorem test_met_LinkBringUp_8b : (goodLinit 0 3501).policy = 0 ∧ (goodLinit 0 3501).echoes = true ∧ 3500 < (goodLinit 0 3501).rtt := by
  decide +kernel
/-- Meets the hypotheses of clause 9 of `LinkBringUp`. -/
theorem test_met_LinkBringUp_9 : ∃ (s : State) (k : LinkI) (m : Linit) (c : BitVec 4), ((getLink s k.val).st = .linit) ∧ (linitFault s k.val m = some c) ∧ ((getLink s k.val).st ≠ .disabled) := by
  exact ⟨sLink .linit Link.init, 2, { goodLinit 0 900 with version := 2 }, 7, by decide +kernel⟩
/-- Meets the hypotheses of clause 10 of `LinkBringUp`. -/
theorem test_met_LinkBringUp_10 : ∃ (s : State) (k : LinkI), (((getLink s k.val).st = .training ∨ (getLink s k.val).st = .align ∨ (getLink s k.val).st = .linit)) ∧ ((getLink s k.val).st ≠ .disabled) := by
  exact ⟨sLink .align Link.init, 2, by decide +kernel⟩
/-- Meets the hypotheses of clause 11 of `LinkBringUp`. -/
theorem test_met_LinkBringUp_11 : ∃ (s : State) (k : LinkI), (linkLocked (getLink s k.val).st = true) ∧ ((getLink s k.val).st ≠ .disabled) := by
  exact ⟨sLink .up Link.init, 2, by decide +kernel⟩
/-- Meets the hypotheses of clause 12 of `LinkBringUp`. -/
theorem test_met_LinkBringUp_12 : ∃ (s : State) (k : LinkI), (linkLive (getLink s k.val).st = true) ∧ ((getLink s k.val).st ≠ .disabled) := by
  exact ⟨sLink .withheld Link.init, 2, by decide +kernel⟩
/-- Meets the hypotheses of clause 13 of `LinkBringUp`. -/
theorem test_met_LinkBringUp_13 : (getLink (sLink .down Link.init) 2).st = .down := by
  decide +kernel
/-- Meets the hypotheses of clause 14 of `LinkBringUp`. -/
theorem test_met_LinkBringUp_14 : (getLink (sLink .up Link.init) 2).st ≠ .disabled := by
  decide +kernel

/-- Meets the hypotheses of clause 1 of `LinkFlitsDiscoveryAndKeys`. -/
theorem test_met_LinkFlitsDiscoveryAndKeys_1 : ∃ (s : State) (k : LinkI) (f : Flit) (c : FlitCheck), (linkLive (getLink s k.val).st = true) ∧ (c = .crcFail ∨ c = .tagFail) := by
  exact ⟨sLink .up Link.init, 2, inFlit, .tagFail, by decide +kernel⟩
/-- Meets the hypotheses of clause 2 of `LinkFlitsDiscoveryAndKeys`. -/
theorem test_met_LinkFlitsDiscoveryAndKeys_2 : linkLive (getLink (sLink .up Link.init) 2).st = true ∧ (getLink (sLink .up Link.init) 2).uncorrRun < 15 := by
  decide +kernel
/-- Meets the hypotheses of clause 3 of `LinkFlitsDiscoveryAndKeys`. -/
theorem test_met_LinkFlitsDiscoveryAndKeys_3 : ∃ (s : State) (k : LinkI) (f : Flit), (linkLive (getLink s k.val).st = true) ∧ ((getLink s k.val).uncorrRun = 15) := by
  exact ⟨sLink .up { Link.init with uncorrRun := 15 }, 2, inFlit, by decide +kernel⟩
/-- Meets the hypotheses of clause 4 of `LinkFlitsDiscoveryAndKeys`. -/
theorem test_met_LinkFlitsDiscoveryAndKeys_4 : ∃ (s : State) (k : LinkI) (f : Flit), ((getLink s k.val).st = .up) ∧ (f.type = 1) ∧ (f.nak = false) ∧ (f.ackv = false) ∧ (f.cv0 = false) ∧ (f.cv1 = false) ∧ (f.seq = (getLink s k.val).rxSeq) ∧ (f.items = []) := by
  exact ⟨sLink .up Link.init, 2, { inFlit with ackv := false, cv0 := false, items := [] }, by decide +kernel⟩
/-- Meets the hypotheses of clause 5 of `LinkFlitsDiscoveryAndKeys`. -/
theorem test_met_LinkFlitsDiscoveryAndKeys_5 : (let s := sLink .up { Link.init with unacked := [oldFlit] }; (getLink s 2).st = .up ∧ inFlit.ackv = true ∧ ((getLink s 2).unacked.any (fun t => t.num == inFlit.ack)) = true) := by
  decide +kernel
/-- Meets the hypotheses of clause 6 of `LinkFlitsDiscoveryAndKeys`. -/
theorem test_met_LinkFlitsDiscoveryAndKeys_6 : ∃ (s : State) (k : LinkI) (f : Flit), ((getLink s k.val).st = .up) ∧ (f.type = 1) ∧ (f.seq ≠ (getLink s k.val).rxSeq) := by
  exact ⟨sLink .up Link.init, 2, { inFlit with seq := 9 }, by decide +kernel⟩
/-- Meets the hypotheses of clause 7 of `LinkFlitsDiscoveryAndKeys`. -/
theorem test_met_LinkFlitsDiscoveryAndKeys_7 : ∃ (s : State) (k : LinkI) (f : Flit) (i : Item), ((∃ m, i = .msg m ∧ kindVl m.hdr.kind.toNat = some 3)) ∧ (((getLink s k.val).st = .up) ∧ (f.seq = (getLink s k.val).rxSeq) ∧ (f.vl = 3) ∧ (f.items = [i]) ∧ (s.fab.myidV = true)) := by
  exact ⟨sLink .up Link.init, 2, inFlit, .msg (nmsg 0x20 0), ⟨_, rfl, by decide +kernel⟩, by decide +kernel⟩
/-- Meets the hypotheses of clause 8 of `LinkFlitsDiscoveryAndKeys`. -/
theorem test_met_LinkFlitsDiscoveryAndKeys_8 : (let s := sLink .up { Link.init with unacked := [oldFlit] }; linkLive (getLink s 2).st = true ∧ (getLink s 2).unacked ≠ [] ∧ (getLink s 2).replaysSame < 7) := by
  decide +kernel
/-- Meets the hypotheses of clause 9 of `LinkFlitsDiscoveryAndKeys`. -/
theorem test_met_LinkFlitsDiscoveryAndKeys_9 : ∃ (s : State) (k : LinkI), (linkLive (getLink s k.val).st = true) ∧ ((getLink s k.val).unacked ≠ []) ∧ ((getLink s k.val).replaysSame = 7) := by
  exact ⟨sLink .up { Link.init with unacked := [oldFlit], replaysSame := 7 }, 2, by decide +kernel⟩
/-- Meets the hypotheses of clause 10 of `LinkFlitsDiscoveryAndKeys`. -/
theorem test_met_LinkFlitsDiscoveryAndKeys_10 : ∃ (s : State) (k : LinkI) (d : Digest) (pkg : Pkg) (asg : Bool) (link : LinkI) (caps : Byte) (nonce : BitVec 256), let m := LinkMsg.hello d pkg asg link caps nonce; let t := takeItem k.val (.lnk m) s; let n := drawNonce t; let z := nbrChange k.val (fun n => { n with iddigest := d, pkg := if asg then some pkg else none, plink := link, caps := caps, nst := 1 }) (if (getLink s k.val).st = .quarantine then startAttempt k.val n.1 n.2 else t); ((getLink s k.val).st = .discover ∨ (getLink s k.val).st = .quarantine) := by
  exact ⟨sLink .discover Link.init, 2, 1, 2, true, 5, 0, 77, by decide +kernel⟩
/-- Meets the hypotheses of clause 11 of `LinkFlitsDiscoveryAndKeys`. -/
theorem test_met_LinkFlitsDiscoveryAndKeys_11 : ∃ (s : State) (k : LinkI) (r : Report) (d : Digest) (pkg : Pkg) (asg : Bool) (link : LinkI) (caps : Byte) (n : BitVec 256), let t := takeItem k.val (.lnk (.attest r)) s; ((getLink s k.val).hello = some (.hello d pkg asg link caps n)) ∧ (reportOk t (getLink s k.val).nonce d r = true) ∧ ((getLink s k.val).st = .discover) := by
  exact ⟨sAtt, 2, repGood, subject certDev, 2, true, 5, 0, 77, rfl, repGood_ok, by decide +kernel⟩
/-- Meets the hypotheses of clause 12 of `LinkFlitsDiscoveryAndKeys`. -/
theorem test_met_LinkFlitsDiscoveryAndKeys_12 : ∃ (s : State) (k : LinkI) (r : Report), let t := takeItem k.val (.lnk (.attest r)) s; let n := drawNonce t; ((∀ (d : Digest) (pkg : Pkg) (asg : Bool) (link : LinkI) (caps : Byte) (y : BitVec 256), (getLink s k.val).hello = some (.hello d pkg asg link caps y) → reportOk t (getLink s k.val).nonce d r = false)) ∧ ((getLink s k.val).st = .discover) := by
  exact ⟨sLink .discover Link.init, 2, repGood, fun _ _ _ _ _ _ h => by rw [show (getLink (sLink .discover Link.init) (2 : LinkI).val).hello = none from rfl] at h; simp at h, by decide +kernel⟩
/-- Meets the hypotheses of clause 13 of `LinkFlitsDiscoveryAndKeys`. -/
theorem test_met_LinkFlitsDiscoveryAndKeys_13 : (getLink (sLink .discover Link.init) 2).st = .discover := by
  decide +kernel
/-- Meets the hypotheses of clause 14 of `LinkFlitsDiscoveryAndKeys`. -/
theorem test_met_LinkFlitsDiscoveryAndKeys_14a : (let s := sLink .discover { Link.init with myVerdict := some true, peerVerdict := some true }; (getLink s 2).myVerdict = some true ∧ (getLink s 2).peerVerdict = some true ∧ (getLink s 2).encrypted = false) := by
  decide +kernel
/-- Meets the hypotheses of clause 14 of `LinkFlitsDiscoveryAndKeys`. -/
theorem test_met_LinkFlitsDiscoveryAndKeys_14b : (let s := sLink .discover { Link.init with myVerdict := some true, peerVerdict := some true, encrypted := true, hello := some hel }; (getLink s 2).encrypted = true ∧ (getLink s 2).hello = some hel) := by
  decide +kernel
/-- Meets the hypotheses of clause 16 of `LinkFlitsDiscoveryAndKeys`. -/
theorem test_met_LinkFlitsDiscoveryAndKeys_16 : linkLive (getLink (sLink .up Link.init) 2).st = true := by
  decide +kernel
/-- Meets the hypotheses of clause 17 of `LinkFlitsDiscoveryAndKeys`. -/
theorem test_met_LinkFlitsDiscoveryAndKeys_17 : linkLive (getLink (sLink .up Link.init) 2).st = true := by
  decide +kernel
/-- Meets the hypotheses of clause 18 of `LinkFlitsDiscoveryAndKeys`. -/
theorem test_met_LinkFlitsDiscoveryAndKeys_18 : ∃ (s : State) (k : LinkI), let t := takeItem k.val (.lnk (.keyx true)) s; ((getLink s k.val).st = .discover) ∧ ((getLink s k.val).myVerdict = some true) ∧ ((getLink s k.val).peerVerdict = some true) ∧ ((getLink s k.val).encrypted = true) ∧ ((getLink s k.val).keyxSent = true) := by
  exact ⟨sLink .discover { Link.init with myVerdict := some true, peerVerdict := some true, encrypted := true, keyxSent := true }, 2, by decide +kernel⟩
/-- Meets the hypotheses of clause 19 of `LinkFlitsDiscoveryAndKeys`. -/
theorem test_met_LinkFlitsDiscoveryAndKeys_19 : (let s := sLink .up { Link.init with encrypted := true }; (getLink s 2).st = .up ∧ (getLink s 2).encrypted = true ∧ (getLink s 2).keyxSent = false) := by
  decide +kernel
/-- Meets the hypotheses of clause 20 of `LinkFlitsDiscoveryAndKeys`. -/
theorem test_met_LinkFlitsDiscoveryAndKeys_20 : (let s := sLink .discover Link.init; (getLink s 2).st = .discover ∧ (getLink s 2).attempts < 2) := by
  decide +kernel
/-- Meets the hypotheses of clause 21 of `LinkFlitsDiscoveryAndKeys`. -/
theorem test_met_LinkFlitsDiscoveryAndKeys_21 : (let s := sLink .discover { Link.init with attempts := 2 }; (getLink s 2).st = .discover ∧ (getLink s 2).attempts = 2) := by
  decide +kernel
/-- Meets the hypotheses of clause 22 of `LinkFlitsDiscoveryAndKeys`. -/
theorem test_met_LinkFlitsDiscoveryAndKeys_22 : (getLink (sLink .quarantine Link.init) 2).st = .quarantine := by
  decide +kernel
/-- Meets the hypotheses of clause 23 of `LinkFlitsDiscoveryAndKeys`. -/
theorem test_met_LinkFlitsDiscoveryAndKeys_23 : (let s := sLink .up { Link.init with encrypted := true, keyCount := 2 ^ 31 }; (getLink s 2).st = .up ∧ (getLink s 2).encrypted = true ∧ 2 ^ 31 ≤ (getLink s 2).keyCount) := by
  decide +kernel
/-- Meets the hypotheses of clause 24 of `LinkFlitsDiscoveryAndKeys`. -/
theorem test_met_LinkFlitsDiscoveryAndKeys_24 : ∃ (s : State) (k : LinkI) (d : Digest) (pkg : Pkg) (asg : Bool) (link : LinkI) (caps : Byte) (nonce : BitVec 256), ((getLink s k.val).st = .up) ∧ ((getLink s k.val).encrypted = true) ∧ ((getLink s k.val).hello = some (.hello d pkg asg link caps nonce)) ∧ (s.sec.iddigest.toNat < d.toNat) := by
  exact ⟨sLink .up { Link.init with encrypted := true, hello := some hel }, 2, 1, 2, true, 5, 0, 77, by decide +kernel⟩
/-- Meets the hypotheses of clause 25 of `LinkFlitsDiscoveryAndKeys`. -/
theorem test_met_LinkFlitsDiscoveryAndKeys_25 : kindVl far.hdr.kind.toNat = some far.vl.toNat ∧ sReq.fab.myidV = true ∧ sReq.snuf.wheld = false ∧ far.hdr.dst ≠ sReq.fab.myid ∧ far.hdr.kind ≠ 0x13 := by
  decide +kernel
/-- Meets the hypotheses of clause 26 of `LinkFlitsDiscoveryAndKeys`. -/
theorem test_met_LinkFlitsDiscoveryAndKeys_26 : sNoWay.fab.noRoute.filter (fun m => m.hdr.dst == 9) = [far] := by
  decide +kernel

/-- Meets the hypotheses of clause 1 of `GarvyStates`. -/
theorem test_met_GarvyStates_1 : bitAt 0x80000001 31 = true ∧ bitAt 0x80000001 30 = false ∧ bitAt 0x80000001 29 = false ∧ State.reset.gvl.st = .disabled := by
  decide +kernel
/-- Meets the hypotheses of clause 2 of `GarvyStates`. -/
theorem test_met_GarvyStates_2 : ∃ (s : State) (v : W32), (s.gvl.st = .active) ∧ (bitAt v 31 = false) ∧ (bitAt v 30 = false) ∧ (bitAt v 29 = false) := by
  exact ⟨sGvl .active, 0, by decide +kernel⟩
/-- Meets the hypotheses of clause 3 of `GarvyStates`. -/
theorem test_met_GarvyStates_3 : (sGvl .active).gvl.st = .active := by
  decide +kernel
/-- Meets the hypotheses of clause 5 of `GarvyStates`. -/
theorem test_met_GarvyStates_5 : (sGvl .active).gvl.st = .active := by
  decide +kernel
/-- Meets the hypotheses of clause 6 of `GarvyStates`. -/
theorem test_met_GarvyStates_6 : (sGvl .down).gvl.st = .down := by
  decide +kernel
/-- Meets the hypotheses of clause 7 of `GarvyStates`. -/
theorem test_met_GarvyStates_7 : (sGvl .detect).gvl.st = .detect := by
  decide +kernel
/-- Meets the hypotheses of clause 8 of `GarvyStates`. -/
theorem test_met_GarvyStates_8 : (sGvl .train).gvl.st = .train ∧ pickGroup (sGvl .train).gvl.wmax (0xFFFF : W16).toNat = some 0 := by
  decide +kernel
/-- Meets the hypotheses of clause 9 of `GarvyStates`. -/
theorem test_met_GarvyStates_9 : (sGvl .train).gvl.st = .train ∧ pickGroup (sGvl .train).gvl.wmax (0x7FFE : W16).toNat = none := by
  decide +kernel
/-- Meets the hypotheses of clause 10 of `GarvyStates`. -/
theorem test_met_GarvyStates_10 : (65535 : Nat) < 65536 := by
  decide +kernel
/-- Meets the hypotheses of clause 11 of `GarvyStates`. -/
theorem test_met_GarvyStates_11 : (sGvl .lock).gvl.st = .lock := by
  decide +kernel
/-- Meets the hypotheses of clause 12 of `GarvyStates`. -/
theorem test_met_GarvyStates_12 : (sGvl .init).gvl.st = .init ∧ 16 = (if (sGvl .init).gvl.group = 0 then 16 else 8) := by
  decide +kernel
/-- Meets the hypotheses of clause 13 of `GarvyStates`. -/
theorem test_met_GarvyStates_13 : (sGvl .init).gvl.st = .init ∧ (2 : Byte) ≠ 1 := by
  decide +kernel
/-- Meets the hypotheses of clause 14 of `GarvyStates`. -/
theorem test_met_GarvyStates_14 : (sGvl .lock).gvl.st = .lock := by
  decide +kernel
/-- Meets the hypotheses of clause 15 of `GarvyStates`. -/
theorem test_met_GarvyStates_15 : (sGvl .recovery).gvl.st = .recovery := by
  decide +kernel
/-- Meets the hypotheses of clause 16 of `GarvyStates`. -/
theorem test_met_GarvyStates_16 : (sGvl .down).gvl.st = .down := by
  decide +kernel
/-- Meets the hypotheses of clause 17 of `GarvyStates`. -/
theorem test_met_GarvyStates_17 : (sGvl .active).gvl.st = .active := by
  decide +kernel
/-- Meets the hypotheses of clause 18 of `GarvyStates`. -/
theorem test_met_GarvyStates_18 : (sGvl .recovery).gvl.st = .recovery ∧ (sGvl .recovery).gvl.exclude = none ∧ pickGroup ((sGvl .recovery).gvl.wmax || ((sGvl .recovery).gvl.group != 0 && !(sGvl .recovery).gvl.atWmax)) (0x00FF : W16).toNat = some 1 := by
  decide +kernel
/-- Meets the hypotheses of clause 19 of `GarvyStates`. -/
theorem test_met_GarvyStates_19 : (let s := { sGvl .recovery with gvl := { (sGvl .recovery).gvl with exclude := some true } }; s.gvl.st = .recovery ∧ s.gvl.exclude = some true ∧ (0xFF00 : W16).toNat % 256 ≠ 255) := by
  decide +kernel
/-- Meets the hypotheses of clause 20 of `GarvyStates`. -/
theorem test_met_GarvyStates_20 : (sGvl .active).gvl.st ≠ .disabled ∧ (sGvl .active).gvl.st ≠ .down := by
  decide +kernel
/-- Meets the hypotheses of clause 21 of `GarvyStates`. -/
theorem test_met_GarvyStates_21 : (sGvl .active).gvl.st = .active := by
  decide +kernel
/-- Meets the hypotheses of clause 22 of `GarvyStates`. -/
theorem test_met_GarvyStates_22 : (sGvl .active).gvl.st = .active ∧ { gmsg 0x51 with word := 2 }.word = 2 := by
  decide +kernel
/-- Meets the hypotheses of clause 23 of `GarvyStates`. -/
theorem test_met_GarvyStates_23 : sReq.snuf.wheld = false := by
  decide +kernel

/-- Meets the hypotheses of clause 1 of `GarvyFlitsAndSignals`. -/
theorem test_met_GarvyFlitsAndSignals_1 : (sGvl .active).gvl.st = .active ∧ gfl.type = 1 ∧ gfl.nak = false ∧ gfl.seq = (sGvl .active).gvl.rxSeq := by
  decide +kernel
/-- Meets the hypotheses of clause 2 of `GarvyFlitsAndSignals`. -/
theorem test_met_GarvyFlitsAndSignals_2 : ∃ (s : State) (f : GFlit) (corr : Nat), (s.gvl.st = .active) ∧ (f.type = 1) ∧ (f.nak = false) ∧ (f.ackv = false) ∧ (f.cvc = 7) ∧ (f.seq ≠ s.gvl.rxSeq) := by
  exact ⟨sGvl .active, { gfl with seq := 9 }, 3, by decide +kernel⟩
/-- Meets the hypotheses of clause 3 of `GarvyFlitsAndSignals`. -/
theorem test_met_GarvyFlitsAndSignals_3 : (sGvl .active).gvl.st = .active ∧ (sGvl .active).gvl.uncorrRun < 15 := by
  decide +kernel
/-- Meets the hypotheses of clause 4 of `GarvyFlitsAndSignals`. -/
theorem test_met_GarvyFlitsAndSignals_4 : (let s := { sGvl .active with gvl := { (sGvl .active).gvl with uncorrRun := 15 } }; s.gvl.st = .active ∧ s.gvl.uncorrRun = 15) := by
  decide +kernel
/-- Meets the hypotheses of clause 5 of `GarvyFlitsAndSignals`. -/
theorem test_met_GarvyFlitsAndSignals_5 : (let s := { sGvl .active with gvl := { (sGvl .active).gvl with unacked := [{ num := 0, msgs := [] }] } }; s.gvl.st = .active ∧ s.gvl.unacked ≠ [] ∧ s.gvl.replaysSame < 7) := by
  decide +kernel
/-- Meets the hypotheses of clause 6 of `GarvyFlitsAndSignals`. -/
theorem test_met_GarvyFlitsAndSignals_6 : ∃ (s : State), (s.gvl.st = .active) ∧ (s.gvl.unacked ≠ []) ∧ (s.gvl.replaysSame = 7) := by
  exact ⟨{ sGvl .active with gvl := { (sGvl .active).gvl with unacked := [{ num := 0, msgs := [] }], replaysSame := 7 } }, by decide +kernel⟩
/-- Meets the hypotheses of clause 7 of `GarvyFlitsAndSignals`. -/
theorem test_met_GarvyFlitsAndSignals_7 : (let s := { sGvl .init with gvl := { (sGvl .init).gvl with initSent := some 15 } }; s.gvl.st = .init ∧ s.gvl.initSent = some 15) := by
  decide +kernel
/-- Meets the hypotheses of clause 8 of `GarvyFlitsAndSignals`. -/
theorem test_met_GarvyFlitsAndSignals_8 : (let s := { sGvl .active with gvl := { (sGvl .active).gvl with replay := [{ num := 0, msgs := [] }] } }; s.gvl.st = .active ∧ s.gvl.replay ≠ []) := by
  decide +kernel
/-- Meets the hypotheses of clause 9 of `GarvyFlitsAndSignals`. -/
theorem test_met_GarvyFlitsAndSignals_9 : (sGvl .active).gvl.st = .active ∧ (sGvl .active).gvl.replay = [] ∧ (sGvl .active).gvl.unacked.length < 512 := by
  decide +kernel
/-- Meets the hypotheses of clause 10 of `GarvyFlitsAndSignals`. -/
theorem test_met_GarvyFlitsAndSignals_10 : (let s := { sReq with gvl := { sReq.gvl with sigs := [(4, { isOpen := true, waiting := some 9 })] } }; Tab.get { isOpen := false, waiting := none } s.gvl.sigs 4 = { isOpen := true, waiting := some 9 }) := by
  decide +kernel
/-- Meets the hypotheses of clause 11 of `GarvyFlitsAndSignals`. -/
theorem test_met_GarvyFlitsAndSignals_11 : (Tab.get { isOpen := false, waiting := none } sReq.gvl.sigs 4).waiting = none := by
  decide +kernel

/-- Meets the hypotheses of clause 1 of `HostWindowRequests`. -/
theorem test_met_HostWindowRequests_1 : ∃ (s : State) (m : GMsg) (rd wr : Bool) (p : Nat), let a := blockOf m * 256; (m.fw = false) ∧ ((rd = true → admits s (.host m.ctx.toNat) false a = true)) ∧ ((wr = true → admits s (.host m.ctx.toNat) true a = true)) ∧ (placeOf s a = some p) ∧ (placeReady s p = true) ∧ (storeBase ≤ p ∨ 6 ≤ s.clk.step) ∧ (s.clk.gateE = false) := by
  exact ⟨sWin .x, hmsg 1, true, true, storeBase, by decide +kernel⟩
/-- Meets the hypotheses of clause 2 of `HostWindowRequests`. -/
theorem test_met_HostWindowRequests_2 : ∃ (s w : State) (m : GMsg) (p : Nat), (hostPlace { m with opc := 1 } true false s = (w, some p)) ∧ ((s.gvl.st = .active) ∧ (recalling s (blockOf m) = false)) := by
  exact ⟨sWin .x, (hostPlace { hmsg 1 with opc := 1 } true false (sWin .x)).1, hmsg 1, storeBase, Prod.ext rfl (by decide +kernel), by decide +kernel⟩
/-- Meets the hypotheses of clause 3 of `HostWindowRequests`. -/
theorem test_met_HostWindowRequests_3 : ∃ (s w : State) (m : GMsg) (p : Nat), (hostPlace { m with opc := 2 } true false s = (w, some p)) ∧ ((s.gvl.st = .active) ∧ (recalling s (blockOf m) = false) ∧ (dirGet w (blockOf m) = none) ∧ ((dirSet w (blockOf m)).length < 16)) := by
  exact ⟨sWin .r, (hostPlace { hmsg 2 with opc := 2 } true false (sWin .r)).1, hmsg 2, storeBase, Prod.ext rfl (by decide +kernel), by decide +kernel⟩
/-- Meets the hypotheses of clause 4 of `HostWindowRequests`. -/
theorem test_met_HostWindowRequests_4 : ∃ (s w : State) (m : GMsg) (p : Nat) (e : DirEnt), (hostPlace { m with opc := 3 } true true s = (w, some p)) ∧ (dirGet w (blockOf m) = some e) ∧ ((s.gvl.st = .active) ∧ (recalling s (blockOf m) = false)) := by
  exact ⟨sWin .s, (hostPlace { hmsg 3 with opc := 3 } true true (sWin .s)).1, hmsg 3, storeBase, ((dirGet (hostPlace { hmsg 3 with opc := 3 } true true (sWin .s)).1 (blockOf (hmsg 3))).get (by decide +kernel)), Prod.ext rfl (by decide +kernel), (Option.some_get (by decide +kernel)).symm, by decide +kernel⟩
/-- Meets the hypotheses of clause 5 of `HostWindowRequests`. -/
theorem test_met_HostWindowRequests_5 : ∃ (s w : State) (m : GMsg), (hostPlace { m with opc := 1 } true false s = (w, none)) ∧ ((s.gvl.st = .active) ∧ (recalling s (blockOf m) = false)) := by
  exact ⟨sGvl .active, (hostPlace { hmsg 1 with opc := 1 } true false (sGvl .active)).1, hmsg 1, Prod.ext rfl (by decide +kernel), by decide +kernel⟩
/-- Meets the hypotheses of clause 6 of `HostWindowRequests`. -/
theorem test_met_HostWindowRequests_6 : ∃ (s : State) (m : GMsg) (e : DirEnt), (dirGet s (blockOf m) = some e) ∧ ((s.gvl.st = .active) ∧ (e.st = .r)) := by
  exact ⟨sRecall .read, hmsg 3, ((dirGet (sRecall .read) (blockOf (hmsg 3))).get (by decide +kernel)), (Option.some_get (by decide +kernel)).symm, by decide +kernel⟩
/-- Meets the hypotheses of clause 7 of `HostWindowRequests`. -/
theorem test_met_HostWindowRequests_7 : ∃ (s w : State) (m : GMsg) (p : Nat), (hostPlace { m with opc := 5 } false true s = (w, some p)) ∧ ((s.gvl.st = .active) ∧ (recalling s (blockOf m) = false) ∧ (m.cg = true ∨ m.word = crc32c m.data) ∧ (dirGet w (blockOf m) = none)) := by
  exact ⟨sWin .r, (hostPlace { hmsg 5 with opc := 5 } false true (sWin .r)).1, hmsg 5, storeBase, Prod.ext rfl (by decide +kernel), by decide +kernel⟩
/-- Meets the hypotheses of clause 8 of `HostWindowRequests`. -/
theorem test_met_HostWindowRequests_8 : ∃ (s w : State) (m : GMsg) (p : Nat), (hostPlace { m with opc := 5 } false true s = (w, some p)) ∧ ((s.gvl.st = .active) ∧ (recalling s (blockOf m) = false) ∧ (m.cg = false) ∧ (m.word ≠ crc32c m.data) ∧ (dirGet (hostRefuse { m with opc := 5 } 2 w) (blockOf m) = none)) := by
  exact ⟨sWin .r, (hostPlace { badMsg with opc := 5 } false true (sWin .r)).1, badMsg, storeBase, Prod.ext rfl (by decide +kernel), by decide +kernel⟩
/-- Meets the hypotheses of clause 9 of `HostWindowRequests`. -/
theorem test_met_HostWindowRequests_9 : ∃ (s w : State) (m : GMsg) (p : Nat) (e : DirEnt), (hostPlace { m with opc := 7 } false true s = (w, some p)) ∧ (dirGet w (blockOf m) = some e) ∧ ((s.gvl.st = .active) ∧ (recalling s (blockOf m) = false) ∧ (m.word = crc32c m.data) ∧ (e.st = .x)) := by
  exact ⟨sWin .x, (hostPlace { hmsg 7 with opc := 7 } false true (sWin .x)).1, hmsg 7, storeBase, ((dirGet (hostPlace { hmsg 7 with opc := 7 } false true (sWin .x)).1 (blockOf (hmsg 7))).get (by decide +kernel)), Prod.ext rfl (by decide +kernel), (Option.some_get (by decide +kernel)).symm, by decide +kernel⟩
/-- Meets the hypotheses of clause 10 of `HostWindowRequests`. -/
theorem test_met_HostWindowRequests_10 : ∃ (s w : State) (m : GMsg) (p : Nat) (e : DirEnt), (hostPlace { m with opc := 8 } true false s = (w, some p)) ∧ (dirGet w (blockOf m) = some e) ∧ ((s.gvl.st = .active) ∧ (recalling s (blockOf m) = false)) := by
  exact ⟨sWin .x, (hostPlace { hmsg 8 with opc := 8 } true false (sWin .x)).1, hmsg 8, storeBase, ((dirGet (hostPlace { hmsg 8 with opc := 8 } true false (sWin .x)).1 (blockOf (hmsg 8))).get (by decide +kernel)), Prod.ext rfl (by decide +kernel), (Option.some_get (by decide +kernel)).symm, by decide +kernel⟩
/-- Meets the hypotheses of clause 11 of `HostWindowRequests`. -/
theorem test_met_HostWindowRequests_11 : ∃ (s w : State) (m : GMsg) (p : Nat) (e : DirEnt), (hostPlace { m with opc := 9 } true false s = (w, some p)) ∧ (dirGet w (blockOf m) = some e) ∧ ((s.gvl.st = .active) ∧ (recalling s (blockOf m) = false)) := by
  exact ⟨sWin .s, (hostPlace { hmsg 9 with opc := 9 } true false (sWin .s)).1, hmsg 9, storeBase, ((dirGet (hostPlace { hmsg 9 with opc := 9 } true false (sWin .s)).1 (blockOf (hmsg 9))).get (by decide +kernel)), Prod.ext rfl (by decide +kernel), (Option.some_get (by decide +kernel)).symm, by decide +kernel⟩
/-- Meets the hypotheses of clause 12 of `HostWindowRequests`. -/
theorem test_met_HostWindowRequests_12 : ∃ (s t : State) (m : GMsg) (v : W32), (readDiag m.addr.toNat s = some (v, t)) ∧ ((s.gvl.st = .active ∨ s.gvl.st = .withheld) ∧ (m.fw = false)) := by
  exact ⟨sGvl .active, ((readDiag diagMsg.addr.toNat (sGvl .active)).get (by decide +kernel)).2, diagMsg, ((readDiag diagMsg.addr.toNat (sGvl .active)).get (by decide +kernel)).1, (by rw [Prod.mk.eta, Option.some_get]), by decide +kernel⟩
/-- Meets the hypotheses of clause 13 of `HostWindowRequests`. -/
theorem test_met_HostWindowRequests_13 : ∃ (s t : State) (m : GMsg), (doorbell m.addr.toNat m.word s = some t) ∧ ((s.gvl.st = .active) ∧ (m.fw = false)) := by
  exact ⟨sGvl .active, ((doorbell ringMsg.addr.toNat ringMsg.word (sGvl .active)).get (by decide +kernel)), ringMsg, (by rw [Option.some_get]), by decide +kernel⟩
/-- Meets the hypotheses of clause 14 of `HostWindowRequests`. -/
theorem test_met_HostWindowRequests_14 : ∃ (s : State) (m : GMsg), (s.gvl.st = .active) ∧ (m.fw = false) ∧ (doorbell m.addr.toNat m.word s = none) := by
  exact ⟨sGvl .active, { hmsg 1 with addr := BitVec.ofNat 52 dieWinBase, word := 3 }, by decide +kernel⟩
/-- Meets the hypotheses of clause 15 of `HostWindowRequests`. -/
theorem test_met_HostWindowRequests_15 : (let s := { sRecall .read with gvl := { (sRecall .read).gvl with dir := [(storeBase / 256, some { st := .r, order := 0, why := .read, tag := 5, held := [hmsg 1], writes := [] })] } }; (s.gvl.dir.findSome? (fun p => p.2.bind (fun e => (e.held.find? (fun m => m.tag == 5 && decide (m.opc.toNat ≤ 3))).map (fun m => (p.1, e, m))))).isSome = true) := by
  decide +kernel
/-- Meets the hypotheses of clause 16 of `HostWindowRequests`. -/
theorem test_met_HostWindowRequests_16 : (sGvl .withheld).gvl.st = .withheld := by
  decide +kernel

/-- Meets the hypotheses of clause 2 of `DirectoryAndLinkCache`. -/
theorem test_met_DirectoryAndLinkCache_2 : (sGvl .active).gvl.st = .active := by
  decide +kernel
/-- Meets the hypotheses of clause 3 of `DirectoryAndLinkCache`. -/
theorem test_met_DirectoryAndLinkCache_3 : ∃ (s : State) (m : GMsg) (r : DRead), let t := updGvl (fun g => { g with reads := g.reads.map (fun x => if x == r then { x with got := some (m.status, m.data) } else x) }) s; (s.gvl.reads.find? (fun r => r.tag == m.tag && r.got.isNone) = some r) ∧ (s.gvl.st = .active) := by
  exact ⟨sRead, hmsg 0, ((sRead.gvl.reads.find? (fun r => r.tag == 5 && r.got.isNone)).get (by decide +kernel)), (Option.some_get (by decide +kernel)).symm, by decide +kernel⟩
/-- Meets the hypotheses of clause 4 of `DirectoryAndLinkCache`. -/
theorem test_met_DirectoryAndLinkCache_4 : (∀ c ∈ sRead.gvl.cache, c.1 ≠ 9) ∧ (sRead.gvl.cache.filter (fun c => c.1 % 2048 == 9 % 2048)).length < 8 := by
  decide +kernel
/-- Meets the hypotheses of clause 5 of `DirectoryAndLinkCache`. -/
theorem test_met_DirectoryAndLinkCache_5 : sRead.gvl.reads.any (fun r => r.tag == 5 && r.got.isNone) = true := by
  decide +kernel
/-- Meets the hypotheses of clause 6 of `DirectoryAndLinkCache`. -/
theorem test_met_DirectoryAndLinkCache_6 : ∃ (s : State) (m : GMsg) (k : Nat) (e : DirEnt), (recallOf s m.tag = some (k, e)) ∧ (s.gvl.st = .active) := by
  exact ⟨sRecall .read, hmsg 0, ((recallOf (sRecall .read) (hmsg 0).tag).get (by decide +kernel)).1, ((recallOf (sRecall .read) (hmsg 0).tag).get (by decide +kernel)).2, (Option.some_get (by decide +kernel)).symm, by decide +kernel⟩
/-- Meets the hypotheses of clause 7 of `DirectoryAndLinkCache`. -/
theorem test_met_DirectoryAndLinkCache_7 : (∃ x ∈ recallOf (sRecall .read) 5, x.2.held = [] ∧ x.2.why = .read ∧ x.2.writes = []) ∧ (∃ x ∈ recallOf (sRecall .write) 5, x.2.held = [] ∧ x.2.why ≠ .read) := by
  decide +kernel
/-- Meets the hypotheses of clause 8 of `DirectoryAndLinkCache`. -/
theorem test_met_DirectoryAndLinkCache_8 : ∃ (s : State) (m : GMsg) (k : Nat) (e : DirEnt) (p : Nat), (recallOf s m.tag = some (k, e)) ∧ (placeOf s (k * 256) = some p) ∧ ((s.gvl.st = .active) ∧ (m.word = crc32c m.data) ∧ (e.why ≠ .write)) := by
  exact ⟨sRecall .read, hmsg 0, ((recallOf (sRecall .read) (hmsg 0).tag).get (by decide +kernel)).1, ((recallOf (sRecall .read) (hmsg 0).tag).get (by decide +kernel)).2, ((placeOf (sRecall .read) (((recallOf (sRecall .read) (hmsg 0).tag).get (by decide +kernel)).1 * 256)).get (by decide +kernel)), (Option.some_get (by decide +kernel)).symm, (Option.some_get (by decide +kernel)).symm, by decide +kernel⟩
/-- Meets the hypotheses of clause 9 of `DirectoryAndLinkCache`. -/
theorem test_met_DirectoryAndLinkCache_9 : (∃ x ∈ recallOf (sRecall .write) 5, x.2.why = .write) ∧ { hmsg 0 with word := 0 }.word ≠ crc32c (hmsg 0).data := by
  decide +kernel
/-- Meets the hypotheses of clause 10 of `DirectoryAndLinkCache`. -/
theorem test_met_DirectoryAndLinkCache_10 : ∃ (s : State) (k : Nat) (e : DirEnt), (dirGet s k = some e) ∧ (e.st = .r) := by
  exact ⟨sRecall .read, storeBase / 256, ((dirGet (sRecall .read) (storeBase / 256)).get (by decide +kernel)), (Option.some_get (by decide +kernel)).symm, by decide +kernel⟩
/-- Meets the hypotheses of clause 11 of `DirectoryAndLinkCache`. -/
theorem test_met_DirectoryAndLinkCache_11 : placeOf (sRecall .read) (storeBase / 256 * 256) = some storeBase ∧ storeBase % 256 = 0 := by
  decide +kernel

/-- Meets the hypotheses of clause 1 of `EmbersAndManagementQueues`. -/
theorem test_met_EmbersAndManagementQueues_1 : State.reset.mgt.started = false := by
  decide +kernel
/-- Meets the hypotheses of clause 2 of `EmbersAndManagementQueues`. -/
theorem test_met_EmbersAndManagementQueues_2 : sMgt.mgt.started = true ∧ 3 ≤ (emb 3 0x1000 0 none 0).sev.toNat := by
  decide +kernel
/-- Meets the hypotheses of clause 3 of `EmbersAndManagementQueues`. -/
theorem test_met_EmbersAndManagementQueues_3 : ∃ (s : State) (e : EmberReq), (s.mgt.started = true) ∧ (e.sev.toNat < 3) ∧ (findWin (some (e.code, e.srcidx, e.ctxid)) s.mgt.wins = none) ∧ ((s.mgt.wins.filter (fun w => w.key.isSome)).length < 256) := by
  exact ⟨sMgt, emb 1 0x0201 700 none 0, by decide +kernel⟩
/-- Meets the hypotheses of clause 4 of `EmbersAndManagementQueues`. -/
theorem test_met_EmbersAndManagementQueues_4 : ∃ (s : State) (e : EmberReq) (w : RateWin), (findWin (some (e.code, e.srcidx, e.ctxid)) s.mgt.wins = some w) ∧ ((s.mgt.started = true) ∧ (e.sev.toNat < 3) ∧ (s.mgt.rate.toNat ≤ w.delivered)) := by
  exact ⟨sKey 16 0, emb 1 0x0201 700 none 0, ((findWin (some (0x0201, 700, none)) (sKey 16 0).mgt.wins).get (by decide +kernel)), (Option.some_get (by decide +kernel)).symm, by decide +kernel⟩
/-- Meets the hypotheses of clause 5 of `EmbersAndManagementQueues`. -/
theorem test_met_EmbersAndManagementQueues_5 : ∃ (s : State) (k : Option (W16 × W16 × Option W16)) (w : RateWin) (e : Ember), let t := { s with mgt := { s.mgt with wins := s.mgt.wins.filter (fun x => x.key != k) } }; (findWin k s.mgt.wins = some w) ∧ (w.last = some e) ∧ (w.suppressed ≠ 0) := by
  exact ⟨sKey 16 24, some (0x0201, 700, none), ((findWin (some (0x0201, 700, none)) (sKey 16 24).mgt.wins).get (by decide +kernel)), ((((findWin (some (0x0201, 700, none)) (sKey 16 24).mgt.wins).get (by decide +kernel)).last).get (by decide +kernel)), (Option.some_get (by decide +kernel)).symm, (Option.some_get (by decide +kernel)).symm, by decide +kernel⟩
/-- Meets the hypotheses of clause 6 of `EmbersAndManagementQueues`. -/
theorem test_met_EmbersAndManagementQueues_6a : ({ sMgt with snuf := { sMgt.snuf with wheld := true } } : State).snuf.wheld = true := by
  decide +kernel
/-- Meets the hypotheses of clause 6 of `EmbersAndManagementQueues`. -/
theorem test_met_EmbersAndManagementQueues_6b : sMgt.snuf.wheld = false := by
  decide +kernel
/-- Meets the hypotheses of clause 7 of `EmbersAndManagementQueues`. -/
theorem test_met_EmbersAndManagementQueues_7a : ([] : List Ember).length < 1024 := by
  decide +kernel
/-- Meets the hypotheses of clause 7 of `EmbersAndManagementQueues`. -/
theorem test_met_EmbersAndManagementQueues_7b : 1024 ≤ (List.replicate 1024 eOne).length ∧ eOne.sev.toNat < 3 := by
  decide +kernel
/-- Meets the hypotheses of clause 8 of `EmbersAndManagementQueues`. -/
theorem test_met_EmbersAndManagementQueues_8 : pathAlive (sEv [eOne] none) .bus = true ∧ (getPath (sEv [eOne] none) .bus).queue.length = 1 ∧ (getPath (sEv [eOne] none) .bus).receiver = some 9 ∧ (getPath (sEv [eOne] none) .bus).out.isNone = true ∧ (getPath (sEv [eOne] none) .bus).dropped = 0 := by
  decide +kernel
/-- Meets the hypotheses of clause 9 of `EmbersAndManagementQueues`. -/
theorem test_met_EmbersAndManagementQueues_9 : pathAlive (sEv [] (some (eOne, 9, 1))) .bus = true := by
  decide +kernel
/-- Meets the hypotheses of clause 10 of `EmbersAndManagementQueues`. -/
theorem test_met_EmbersAndManagementQueues_10a : pathAlive (sEv [] (some (eOne, 9, 2))) .bus = true ∧ ((getPath (sEv [] (some (eOne, 9, 2))) .bus).out.isSome) = true := by
  decide +kernel
/-- Meets the hypotheses of clause 10 of `EmbersAndManagementQueues`. -/
theorem test_met_EmbersAndManagementQueues_10b : (∃ o ∈ (getPath (sEv [] (some (eOne, 9, 3))) .bus).out, 3 ≤ o.2.2 ∧ o.1.sev.toNat < 3) := by
  decide +kernel
/-- Meets the hypotheses of clause 11 of `EmbersAndManagementQueues`. -/
theorem test_met_EmbersAndManagementQueues_11 : sMgt.mgt.started = true ∧ sMgt.mgt.sgmiiEn = true := by
  decide +kernel
/-- Meets the hypotheses of clause 12 of `EmbersAndManagementQueues`. -/
theorem test_met_EmbersAndManagementQueues_12 : sMgt.mgt.started = true ∧ sMgt.mgt.i3c = true := by
  decide +kernel

/-- Meets the hypotheses of clause 1 of `MctpAndPldmCommands`. -/
theorem test_met_MctpAndPldmCommands_1 : pathAlive sMgt .bus = true ∧ (1 : Byte).toNat ≤ 1 ∧ (9 : Byte) ≠ 0 ∧ (9 : Byte) ≠ 0xFF := by
  decide +kernel
/-- Meets the hypotheses of clause 2 of `MctpAndPldmCommands`. -/
theorem test_met_MctpAndPldmCommands_2 : pathAlive sMgt .bus = true := by
  decide +kernel
/-- Meets the hypotheses of clause 3 of `MctpAndPldmCommands`. -/
theorem test_met_MctpAndPldmCommands_3 : pathAlive sMgt .bus = true := by
  decide +kernel
/-- Meets the hypotheses of clause 4 of `MctpAndPldmCommands`. -/
theorem test_met_MctpAndPldmCommands_4 : pathAlive sMgt .bus = true := by
  decide +kernel
/-- Meets the hypotheses of clause 5 of `MctpAndPldmCommands`. -/
theorem test_met_MctpAndPldmCommands_5 : pathAlive sMgt .bus = true := by
  decide +kernel
/-- Meets the hypotheses of clause 6 of `MctpAndPldmCommands`. -/
theorem test_met_MctpAndPldmCommands_6 : pathAlive sMgt .bus = true := by
  decide +kernel
/-- Meets the hypotheses of clause 7 of `MctpAndPldmCommands`. -/
theorem test_met_MctpAndPldmCommands_7 : pathAlive sMgt .bus = true := by
  decide +kernel
/-- Meets the hypotheses of clause 8 of `MctpAndPldmCommands`. -/
theorem test_met_MctpAndPldmCommands_8 : pathAlive sMgt .bus = true := by
  decide +kernel
/-- Meets the hypotheses of clause 9 of `MctpAndPldmCommands`. -/
theorem test_met_MctpAndPldmCommands_9 : pathAlive sMgt .bus = true ∧ (3 : Byte) ≠ 0 ∧ (3 : Byte) ≠ 2 := by
  decide +kernel
/-- Meets the hypotheses of clause 10 of `MctpAndPldmCommands`. -/
theorem test_met_MctpAndPldmCommands_10 : pathAlive sMgt .bus = true := by
  decide +kernel
/-- Meets the hypotheses of clause 11 of `MctpAndPldmCommands`. -/
theorem test_met_MctpAndPldmCommands_11 : pathAlive sMgt .bus = true := by
  decide +kernel
/-- Meets the hypotheses of clause 12 of `MctpAndPldmCommands`. -/
theorem test_met_MctpAndPldmCommands_12 : pathAlive sMgt .bus = true := by
  decide +kernel
/-- Meets the hypotheses of clause 13 of `MctpAndPldmCommands`. -/
theorem test_met_MctpAndPldmCommands_13 : pathAlive sMgt .bus = true ∧ isNumeric (33 : W32).toNat = true ∧ isStateSensor (118 : W32).toNat = true := by
  decide +kernel
/-- Meets the hypotheses of clause 14 of `MctpAndPldmCommands`. -/
theorem test_met_MctpAndPldmCommands_14 : pathAlive sMgt .bus = true ∧ isNumeric (66 : W16).toNat = true := by
  decide +kernel
/-- Meets the hypotheses of clause 15 of `MctpAndPldmCommands`. -/
theorem test_met_MctpAndPldmCommands_15 : pathAlive sMgt .bus = true ∧ isStateSensor (100 : W16).toNat = true := by
  decide +kernel
/-- Meets the hypotheses of clause 16 of `MctpAndPldmCommands`. -/
theorem test_met_MctpAndPldmCommands_16 : (15 : Nat) < 16 := by
  decide +kernel
/-- Meets the hypotheses of clause 17 of `MctpAndPldmCommands`. -/
theorem test_met_MctpAndPldmCommands_17 : pathAlive sMgt .bus = true := by
  decide +kernel

/-- Meets the hypotheses of clause 2 of `RegisterWritesAndReads`. -/
theorem test_met_RegisterWritesAndReads_2 : (7 : Nat) < 8 := by
  decide +kernel
/-- Meets the hypotheses of clause 14 of `RegisterWritesAndReads`. -/
theorem test_met_RegisterWritesAndReads_14 : (let s := { State.reset with wicks := [(0, { Wick.init with mode := 1 })] }; (getWick s 0 0).mode = 1 ∧ (getWick s 0 0).st ≠ .service) := by
  decide +kernel
/-- Meets the hypotheses of clause 15 of `RegisterWritesAndReads`. -/
theorem test_met_RegisterWritesAndReads_15 : (let s := { State.reset with wicks := [(0, { Wick.init with st := .service })] }; (getWick s 0 0).st = .service) := by
  decide +kernel
/-- Meets the hypotheses of clause 16 of `RegisterWritesAndReads`. -/
theorem test_met_RegisterWritesAndReads_16 : (let s := { State.reset with lans := [(0, { Lantern.init with st := .service })] }; (getLan s 0).st = .service) := by
  decide +kernel
/-- Meets the hypotheses of clause 20 of `RegisterWritesAndReads`. -/
theorem test_met_RegisterWritesAndReads_20 : sMbx.lmp.en = true := by
  decide +kernel
/-- Meets the hypotheses of clause 23 of `RegisterWritesAndReads`. -/
theorem test_met_RegisterWritesAndReads_23 : trackedUnder State.reset (Tab.get 0 State.reset.xbr.windows 5) = [] ∧ State.reset.xbr.winNext = [] := by
  decide +kernel
/-- Meets the hypotheses of clause 26 of `RegisterWritesAndReads`. -/
theorem test_met_RegisterWritesAndReads_26 : ((0 : Fin 2).val == 1) = State.reset.fab.bank := by
  decide +kernel
/-- Meets the hypotheses of clause 27 of `RegisterWritesAndReads`. -/
theorem test_met_RegisterWritesAndReads_27 : ((1 : Fin 2).val == 1) ≠ State.reset.fab.bank := by
  decide +kernel
/-- Meets the hypotheses of clause 34 of `RegisterWritesAndReads`. -/
theorem test_met_RegisterWritesAndReads_34 : Reg.lmpCfg ≠ .mbxRtbaseLo ∧ Reg.lmpCfg ≠ .mbxRtbaseHi := by
  decide +kernel

/-- Meets the hypotheses of clause 2 of `StepRunsTheFrontCommand`. -/
theorem test_met_StepRunsTheFrontCommand_2 : State.reset.pending = [] := by
  decide +kernel

/-- Meets the hypotheses of clause 1 of `StepKeepsTheInvariant`. -/
theorem test_met_StepKeepsTheInvariant_1 : ∃ t, Inv { State.reset with pending := [.rootPllLock true] } ∧ step { State.reset with pending := [.rootPllLock true] } = .next t := by
  exact ⟨_, ⟨by decide, fun h => absurd h (by decide)⟩, rfl⟩

/-- Meets the hypotheses of clause 1 of `WithheldUntilReset`. -/
theorem test_met_WithheldUntilReset_1 : ∃ (s t : State) (c : Sys2Proof.Instr) (rest : List Sys2Proof.Instr), (s.pending = c :: rest) ∧ (step s = .next t) ∧ ((isReset c = false) ∧ (s.snuf.wheld = true)) := by
  exact ⟨{ State.reset with pending := [.brdRstNRelease], snuf := { State.reset.snuf with wheld := true } }, (match step { State.reset with pending := [.brdRstNRelease], snuf := { State.reset.snuf with wheld := true } } with | .next t => t | _ => State.reset), .brdRstNRelease, [], rfl, rfl, by decide +kernel⟩
/-- Meets the hypotheses of clause 2 of `WithheldUntilReset`. -/
theorem test_met_WithheldUntilReset_2 : ∃ (s t : State) (c : Sys2Proof.Instr) (rest : List Sys2Proof.Instr), (s.pending = c :: rest) ∧ (step s = .next t) ∧ ((isReset c = false) ∧ (s.clk.wheldLow = true)) := by
  exact ⟨{ State.reset with pending := [.brdRstNRelease], clk := { State.reset.clk with wheldLow := true } }, (match step { State.reset with pending := [.brdRstNRelease], clk := { State.reset.clk with wheldLow := true } } with | .next t => t | _ => State.reset), .brdRstNRelease, [], rfl, rfl, by decide +kernel⟩
/-- Meets the hypotheses of clause 3 of `WithheldUntilReset`. -/
theorem test_met_WithheldUntilReset_3 : isReset .powerOnReset = true ∧ isReset (.dieReset .brdRst) = true := by
  decide +kernel

/-- Meets the hypotheses of clause 1 of `FloorsAndLocalTimeNeverFall`. -/
theorem test_met_FloorsAndLocalTimeNeverFall_1 : ∃ t, step { State.reset with pending := [.counterFloorRaise] } = .next t := by
  exact ⟨_, rfl⟩
/-- Meets the hypotheses of clause 2 of `FloorsAndLocalTimeNeverFall`. -/
theorem test_met_FloorsAndLocalTimeNeverFall_2 : ∃ (s t : State) (c : Sys2Proof.Instr) (rest : List Sys2Proof.Instr), (s.pending = c :: rest) ∧ (c ≠ .powerOnReset) ∧ (step s = .next t) := by
  exact ⟨{ State.reset with pending := [.brdRstNRelease] }, (match step { State.reset with pending := [.brdRstNRelease] } with | .next t => t | _ => State.reset), .brdRstNRelease, [], rfl, fun h => Sys2Proof.Instr.noConfusion h, rfl⟩

/-- Meets the hypotheses of clause 1 of `MailboxChecksInOrder`. -/
theorem test_met_MailboxChecksInOrder_1 : State.reset.snuf.wheld = true ∨ cmdWaits { sMbx with mbx := { sMbx.mbx with rings := [(4, { Ring.init with prog := [dsc 4 0x0205] })] } } (dsc 4 0x0205) = true := by
  decide +kernel
/-- Meets the hypotheses of clause 2 of `MailboxChecksInOrder`. -/
theorem test_met_MailboxChecksInOrder_2 : sMbx.snuf.wheld = false ∧ cmdWaits sMbx (dsc 4 0x0101) = false ∧ Rings.sys.ok (dsc 4 0x0101).ring.val = false := by
  decide +kernel
/-- Meets the hypotheses of clause 3 of `MailboxChecksInOrder`. -/
theorem test_met_MailboxChecksInOrder_3 : ∃ (s : State) (d : Sys2Proof.Desc) (k : Rings) (early open_ input : Bool) (body : State → State), (s.snuf.wheld = false) ∧ (cmdWaits s d = false) ∧ (k.ok d.ring.val = true) ∧ (early = false) ∧ (s.mbx.curver = 0) := by
  exact ⟨State.reset, dsc 4 0x0205, .ctx, false, false, true, id, by decide +kernel⟩
/-- Meets the hypotheses of clause 4 of `MailboxChecksInOrder`. -/
theorem test_met_MailboxChecksInOrder_4 : ∃ (s : State) (d : Sys2Proof.Desc) (k : Rings) (early open_ input : Bool) (body : State → State), (s.snuf.wheld = false) ∧ (cmdWaits s d = false) ∧ (k.ok d.ring.val = true) ∧ (early = true ∨ s.mbx.curver ≠ 0) ∧ (open_ = false) ∧ (s.lmp.en = false) := by
  exact ⟨{ State.reset with mbx := { State.reset.mbx with curver := 0x100 } }, dsc 4 0x0205, .ctx, false, false, true, id, by decide +kernel⟩
/-- Meets the hypotheses of clause 5 of `MailboxChecksInOrder`. -/
theorem test_met_MailboxChecksInOrder_5 : ∃ (s : State) (d : Sys2Proof.Desc) (k : Rings) (early open_ input : Bool) (body : State → State), (s.snuf.wheld = false) ∧ (cmdWaits s d = false) ∧ (k.ok d.ring.val = true) ∧ (early = true ∨ s.mbx.curver ≠ 0) ∧ (open_ = true ∨ s.lmp.en = true) ∧ (d.malformed = true ∨ (d.tmo = true ∧ (d.timeout = 0 ∨ 600000 < d.timeout.toNat))) := by
  exact ⟨sMbx, { dsc 4 0x0205 with tmo := true }, .ctx, false, false, true, id, by decide +kernel⟩
/-- Meets the hypotheses of clause 6 of `MailboxChecksInOrder`. -/
theorem test_met_MailboxChecksInOrder_6 : ∃ (s : State) (d : Sys2Proof.Desc) (k : Rings) (early open_ input : Bool) (body : State → State), (s.snuf.wheld = false) ∧ (cmdWaits s d = false) ∧ (k.ok d.ring.val = true) ∧ (early = true ∨ s.mbx.curver ≠ 0) ∧ (open_ = true ∨ s.lmp.en = true) ∧ (d.malformed = false) ∧ ((d.tmo = true → d.timeout ≠ 0 ∧ d.timeout.toNat ≤ 600000)) ∧ (input = true) ∧ (d.inlen ≠ 0) ∧ (d.inOk = false) := by
  exact ⟨sMbx, { dsc 4 0x0205 with inlen := 64, inOk := false }, .ctx, false, false, true, id, by decide +kernel⟩
/-- Meets the hypotheses of clause 7 of `MailboxChecksInOrder`. -/
theorem test_met_MailboxChecksInOrder_7 : accepted .ctx false false true (dsc 4 0x0205) sMbx = true ∧ cmdWaits sMbx (dsc 4 0x0205) = false := by
  decide +kernel

/-- Meets the hypotheses of clause 1 of `CompletionsArePostedOnce`. -/
theorem test_met_CompletionsArePostedOnce_1 : (let s := { sMbx with gvl := { sMbx.gvl with st := .active }, mbx := { sMbx.mbx with rings := [(4, { Ring.init with st := .run, cqlog2 := 7 })] } }; s.snuf.wheld = false ∧ ringHeld s 4 = false) := by
  decide +kernel
/-- Meets the hypotheses of clause 2 of `CompletionsArePostedOnce`. -/
theorem test_met_CompletionsArePostedOnce_2 : State.reset.snuf.wheld = false ∧ ringHeld State.reset 4 = true := by
  decide +kernel
/-- Meets the hypotheses of clause 3 of `CompletionsArePostedOnce`. -/
theorem test_met_CompletionsArePostedOnce_3 : ({ State.reset with snuf := { State.reset.snuf with wheld := true } } : State).snuf.wheld = true := by
  decide +kernel

/-- Meets the hypotheses of clause 2 of `MemoryReadsBackWhatIsWritten`. -/
theorem test_met_MemoryReadsBackWhatIsWritten_2 : ([1] : List Byte) ≠ [] := by
  decide +kernel

/-- Meets the hypotheses of clause 1 of `ThermalTripWithholds`. -/
theorem test_met_ThermalTripWithholds_1 : sHotD.snuf.wheld = false := by
  decide +kernel
/-- Meets the hypotheses of clause 2 of `ThermalTripWithholds`. -/
theorem test_met_ThermalTripWithholds_2 : (getCv sHotD 0).urgent = none ∧ (getCv sHotD 0).run = true ∧ (getCv sHotD 0).seqNow[(getCv sHotD 0).entry]? = some { gain := 0, ts := 1, input := 3 } ∧ 3 < sHotD.mon.temp.length ∧ sHotD.snuf.wheld = false ∧ (sHotD.mon.temp.getD 3 (0, 0)).1.toNat = 15 ∧ 8 * 105 ≤ tempOf (sHotD.mon.dtab.getD 3 (0, 0)) (levelCode 0 4000000 0).toNat := by
  decide +kernel

/-- Meets the hypotheses of clause 1 of `ControlProcessorFailuresWithhold`. -/
theorem test_met_ControlProcessorFailuresWithhold_1 : State.reset.snuf.wheld = false := by
  decide +kernel
/-- Meets the hypotheses of clause 2 of `ControlProcessorFailuresWithhold`. -/
theorem test_met_ControlProcessorFailuresWithhold_2 : State.reset.snuf.wheld = false := by
  decide +kernel

/-- Meets the hypotheses of clause 1 of `BadGarvyFlitsAreDropped`. -/
theorem test_met_BadGarvyFlitsAreDropped_1 : ∃ (s : State) (f : GFlit) (c : FlitCheck) (corr : Nat), (gvlFlits s = true) ∧ (c = .uncorrectable ∨ c = .crcFail ∨ 2 < f.type.toNat) := by
  exact ⟨sGvl .active, { gfl with type := 3 }, .good, 0, by decide +kernel⟩
/-- Meets the hypotheses of clause 2 of `BadGarvyFlitsAreDropped`. -/
theorem test_met_BadGarvyFlitsAreDropped_2 : (let s := { sGvl .active with gvl := { (sGvl .active).gvl with nakOwed := true } }; gvlFlits s = true ∧ s.gvl.nakOwed = true ∧ s.gvl.lastNak = none) := by
  decide +kernel
/-- Meets the hypotheses of clause 3 of `BadGarvyFlitsAreDropped`. -/
theorem test_met_BadGarvyFlitsAreDropped_3 : ∃ (s : State) (f : GFlit) (corr : Nat), (gvlFlits s = true) ∧ (f.type = 0) ∧ (f.nak = true) ∧ (f.ackv = false) ∧ (f.cvc = 7) ∧ (s.gvl.unacked ≠ []) ∧ (s.gvl.replaysSame < 7) := by
  exact ⟨{ sGvl .active with gvl := { (sGvl .active).gvl with unacked := [{ num := 0, msgs := [] }] } }, { gfl with type := 0, nak := true }, 0, by decide +kernel⟩

end Sys2Proof.Tests
end

section
/-! SUPPORT. The register interface: which block of registers a write reaches, what a register address reads, and the 64-bit
counters that are read in pairs. -/

namespace Sys2Proof.Machine

/-! ### What commands do to registers -/

theorem exec_registerWrite (k : Writer) (r : Reg) (v : W32) (s : State) :
    exec (.registerWrite k r v) s = execRegisterWrite k r v s := rfl

theorem exec_counterLoRead (c : Counter) (s : State) : exec (.counterLoRead c) s = .next (counterLatch c s) := rfl

theorem exec_gvlHerrRead (s : State) : exec .gvlHerrRead s = .next (herrRead s) := rfl

/-- The block a register belongs to: a lantern's window, the units of the die, the links with mailbox and management, the
keeper, or none for a register that takes no write. -/
inductive RegBlock where
  | lantern | die | io | keeper | readOnly

/-- The block of each register. -/
def regBlock : Reg → RegBlock
  | .wckSplit .. | .wckStat .. | .wckLookup .. | .lntMap .. | .lntStat _ | .vecCtl _ | .vecStat _ | .calCfg _ | .calDrcfg _
  | .calStat _ | .chkCfg _ | .chkStat _ | .chkSubst _ | .chkBand .. => .lantern
  | .chkDstat | .lmpCfg | .lmpStat | .pwrLimit | .pwrShare0 | .pwrShare1 | .pwrShare2 | .pwrTherm | .pwrStat | .monStat
  | .monCvCtl _ | .monCvSeq .. | .monDtab _ | .scnVraise _ | .xbrStat | .xbrWindow .. | .stkStat _ | .stkPatrol _ | .clkStat
  | .clkSupcfg | .clkSupwarn | .clkSupflt => .die
  | .fabStat _ | .fabMyid | .fabWrr | .fabTstat | .fabTch _ | .fabRt .. | .gvlCtl | .gvlErr | .gvlSigmod | .mbxRtbaseLo
  | .mbxRtbaseHi | .mgtCfg | .mgtStat => .io
  | .secViol => .keeper
  | .readOnly => .readOnly

/-- What a firmware write does in the register's own block alone. -/
def blockWrite (r : Reg) (v : W32) (s : State) : State :=
  match regBlock r with
  | .lantern => lanRegWrite r v s
  | .die => dieRegWrite r v s
  | .io => ioRegWrite r v s
  | .keeper => violate 2 s
  | .readOnly => s

/-- A write by firmware reaches the register's own block and no other (R5, R475). -/
theorem firmwareWrite_reaches_block (r : Reg) (v : W32) (s : State) :
    exec (.registerWrite .firmware r v) s = .next (blockWrite r v s) := by
  cases r <;> rfl

/-- The host's writes reach the ring table base alone (R397). -/
theorem hostWrite_ignored {r : Reg} (hlo : r ≠ .mbxRtbaseLo) (hhi : r ≠ .mbxRtbaseHi) (v : W32) (s : State) :
    exec (.registerWrite .host r v) s = .next s := by
  rw [exec_registerWrite]
  cases r
  case mbxRtbaseLo => exact absurd rfl hlo
  case mbxRtbaseHi => exact absurd rfl hhi
  all_goals rfl

/-- The keeper's write clears the violations it names (R473). -/
theorem keeperWrite_secViol (v : W32) (s : State) :
    exec (.registerWrite .keeper .secViol v) s = .next { s with sec := { s.sec with viol := w1c s.sec.viol (v.setWidth 5) } } := rfl

/-! ### Fields and refusals -/

/-- A flag stays set only where no 1 was written (R5). -/
theorem getLsbD_w1c {n : Nat} (x v : BitVec n) (i : Nat) (hi : i < n) :
    (w1c x v).getLsbD i = (x.getLsbD i && !v.getLsbD i) := by
  simp [w1c, hi]

/-- A change of a wick is what it makes of the wick that stands there. -/
theorem updWick_congr {l w : Nat} {f g : Wick → Wick} {s : State} (h : f (getWick s l w) = g (getWick s l w)) :
    updWick l w f s = updWick l w g s := by
  simp only [updWick, h]

/-- A change of a lantern is what it makes of the lantern that stands there. -/
theorem updLan_congr {l : Nat} {f g : Lantern → Lantern} {s : State} (h : f (getLan s l) = g (getLan s l)) :
    updLan l f s = updLan l g s := by
  simp only [updLan, h]

theorem wckLookupWrite_writable {w : Wick} (hm : w.mode = 1) (hs : w.st ≠ .service) (v : W32) :
    wckLookupWrite v w = { w with keybits := BitVec.ofNat 11 (min 1024 (fld v 26 16)), matchT := BitVec.ofNat 9 (fld v 8 0) } :=
  if_pos ⟨hm, hs⟩

theorem wckLookupWrite_service {w : Wick} (hs : w.st = .service) (v : W32) :
    wckLookupWrite v w = { w with stat := setBit w.stat 6 } :=
  if_neg fun h => h.2 hs

theorem lntMapWrite_service {x : Lantern} (hs : x.st = .service) (n : Nat) (v : W32) : lntMapWrite n v x = x := if_pos hs

theorem monDtabWrite_enabled {s : State} (he : s.lmp.en = true) (d : Nat) (v : W32) : monDtabWrite d v s = s := if_pos he

theorem routeWrite_active {s : State} {bank : Bool} (hb : bank = s.fab.bank) (d : Nat) (v : W32) :
    routeWrite bank d v s = fabStat 0 5 s := if_pos hb

theorem routeWrite_inactive {s : State} {bank : Bool} (hb : bank ≠ s.fab.bank) (d : Nat) (v : W32) :
    routeWrite bank d v s = { s with fab := { s.fab with
      routes := Tab.set Route.init s.fab.routes ((if bank then 4096 else 0) + d)
        { pv := bitAt v 31, plink := Fin.ofNat 32 (fld v 28 24), av := bitAt v 23, alink := Fin.ofNat 32 (fld v 20 16) } } } :=
  if_neg hb

/-- With no change waiting for recalls, an entry was last written as it stands. -/
theorem windowPending_settled {s : State} {i : Nat} (h : ∀ p ∈ s.xbr.winNext, p.1 ≠ i) :
    windowPending s i = Tab.get 0 s.xbr.windows i := by
  have hnone : s.xbr.winNext.filter (fun p => p.1 == i) = [] := by simpa using h
  simp [windowPending, hnone]

/-- Where no block is tracked under a window entry, a change takes effect at once. -/
theorem setWindow_untracked {s : State} {i : Nat} (h : trackedUnder s (Tab.get 0 s.xbr.windows i) = []) (x : BitVec 128) :
    setWindow i x s = { s with xbr := { s.xbr with windows := Tab.set 0 s.xbr.windows i x } } := if_pos h

/-- Every bit of a window entry's first word is writable (R268). -/
theorem windowMask_zero (v : W32) : v &&& windowMask 0 = v := BitVec.and_allOnes

/-- The first word of a settled, untracked window entry takes the value written; its other words stay. -/
theorem windowWrite_word_zero {s : State} {i : Nat} (ht : trackedUnder s (Tab.get 0 s.xbr.windows i) = [])
    (hw : ∀ p ∈ s.xbr.winNext, p.1 ≠ i) (v : W32) :
    windowWrite i 0 v s = { s with xbr := { s.xbr with
      windows := Tab.set 0 s.xbr.windows i
        (BitVec.ofNat 128 ((Tab.get 0 s.xbr.windows i).toNat - (Tab.get 0 s.xbr.windows i).toNat % 2 ^ 32 + v.toNat)) } } := by
  simp only [windowWrite, windowPending_settled hw, windowMask_zero, setWindow_untracked ht, Nat.mul_zero, Nat.pow_zero,
    Nat.div_one, Nat.mul_one]

/-! ### Register addresses -/

/-- An address inside a lantern's window: the register at the offset, and the latch of the counter whose _LO lies there. -/
theorem readReg_lanWin_counter {l : Lan} {off a : Nat} {c : Counter} (ho : off < 0x10000)
    (ha : a = lanWinBase + l.val * 0x10000 + off) (hc : lanCounter l.val off = some c)
    {s : State} {v : W32} (hv : readLanWin s l.val off = v) :
    readReg a s = some (v, counterLatch c s) := by
  have hl := l.isLt
  have hin : lanWinBase ≤ a ∧ a < lanWinBase + 1088 * 0x10000 := by omega
  have hwin : (a - lanWinBase) / 0x10000 = l.val := by omega
  have hoff : a % 0x10000 = off := by simp only [lanWinBase] at ha; omega
  simp only [readReg, if_pos hin, hwin, hoff, hc, hv]

/-- Any other address inside a lantern's window: the register, and the state as it was. -/
theorem readReg_lanWin_plain {l : Lan} {off a : Nat} (ho : off < 0x10000)
    (ha : a = lanWinBase + l.val * 0x10000 + off) (hc : lanCounter l.val off = none)
    {s : State} {v : W32} (hv : readLanWin s l.val off = v) :
    readReg a s = some (v, s) := by
  have hl := l.isLt
  have hin : lanWinBase ≤ a ∧ a < lanWinBase + 1088 * 0x10000 := by omega
  have hwin : (a - lanWinBase) / 0x10000 = l.val := by omega
  have hoff : a % 0x10000 = off := by simp only [lanWinBase] at ha; omega
  simp only [readReg, if_pos hin, hwin, hoff, hc, hv]

/-- An address inside the die control window. -/
theorem readReg_dieWin {off : Nat} (ho : off < 0x100000) (s : State) :
    readReg (dieWinBase + off) s = some (readDieWin s off, dieReadEffect off s) := by
  have hout : ¬ (lanWinBase ≤ dieWinBase + off ∧ dieWinBase + off < lanWinBase + 1088 * 0x10000) := by
    simp only [lanWinBase, dieWinBase]; omega
  have hin : dieWinBase ≤ dieWinBase + off ∧ dieWinBase + off < dieWinBase + 0x100000 := by omega
  simp only [readReg, if_neg hout, if_pos hin, Nat.add_sub_cancel_left]

/-- A wick's block of registers in its lantern's window. -/
theorem readLanWin_wick (s : State) (l : Lan) (w : PWick) {o : Nat} (ho : o < 0x100) :
    readLanWin s l.val (0x2000 + w.val * 0x100 + o) = readWick s l.val w.val o := by
  have hw := w.isLt
  have hlnt : ¬ 0x2000 + w.val * 0x100 + o < 0x2000 := by omega
  have hwck : 0x2000 + w.val * 0x100 + o < 0x3100 := by omega
  have hi : (0x2000 + w.val * 0x100 + o - 0x2000) / 0x100 = w.val := by omega
  have hm : (0x2000 + w.val * 0x100 + o) % 0x100 = o := by omega
  simp only [readLanWin, if_neg hlnt, if_pos hwck, hi, hm]

/-- The pair of words a wick's audit counter has among the CHK_ registers. -/
theorem readLanWin_waud (s : State) (l : Lan) (w : PWick) {o : Nat} (ho : o < 8) :
    readLanWin s l.val (0x6300 + w.val * 8 + o) =
      if o = 0 then ctrLo (getWick s l.val w.val).waud else (getWick s l.val w.val).waud.latch := by
  have hw := w.isLt
  generalize hoff : 0x6300 + w.val * 8 + o = off
  have hi : (off - 0x6300) / 8 = w.val := by omega
  have hm : off % 8 = o := by omega
  have hchk : readLanWin s l.val off = readChk s l.val off := by
    simp only [readLanWin, show ¬ off < 0x2000 by omega, show ¬ off < 0x3100 by omega, show ¬ off < 0x4000 by omega,
      show ¬ off < 0x5000 by omega, show ¬ off < 0x6000 by omega, if_false]
  rw [hchk]
  simp only [readChk, show off ≠ 0x6000 by omega, show off ≠ 0x6004 by omega, show off ≠ 0x6008 by omega,
    show off ≠ 0x600C by omega, show off ≠ 0x6010 by omega, show off ≠ 0x6014 by omega, show off ≠ 0x6018 by omega,
    show ¬ (0x6100 ≤ off ∧ off < 0x6100 + 0x110) by omega, show 0x6300 ≤ off ∧ off < 0x6300 + 8 * 17 by omega, hi, hm,
    if_false, if_true, and_self]

/-- The counters of a lantern's window are found at the addresses of their _LO registers. -/
theorem lanCounter_wckSteps (l : Lan) (w : PWick) :
    lanCounter l.val (0x2000 + w.val * 0x100 + 0x28) = some (.wckSteps l w) := by
  have hw := w.isLt
  generalize hoff : 0x2000 + w.val * 0x100 + 0x28 = off
  have hi : (off - 0x2000) / 0x100 = w.val := by omega
  have hin : 0x2000 ≤ off ∧ off < 0x3100 ∧ off % 0x100 = 0x28 := by omega
  simp only [lanCounter, show off ≠ 0x30 by omega, show off ≠ 0x4020 by omega, if_false, if_pos hin, hi, Fin.ofNat_val_eq_self]

theorem lanCounter_chkWaud (l : Lan) (w : PWick) : lanCounter l.val (0x6300 + w.val * 8) = some (.chkWaud l w) := by
  have hw := w.isLt
  generalize hoff : 0x6300 + w.val * 8 = off
  have hi : (off - 0x6300) / 8 = w.val := by omega
  have hin : 0x6300 ≤ off ∧ off < 0x6300 + 8 * 17 ∧ off % 8 = 0 := by omega
  have hwck : ¬ (0x2000 ≤ off ∧ off < 0x3100 ∧ off % 0x100 = 0x28) := by omega
  simp only [lanCounter, show off ≠ 0x30 by omega, show off ≠ 0x4020 by omega, if_neg hwck, if_false, if_pos hin, hi,
    Fin.ofNat_val_eq_self]

theorem lanCounter_lntFlares (l : Lan) : lanCounter l.val 0x30 = some (.lntFlares l) := by
  simp [lanCounter]

theorem lanCounter_vecIssue (l : Lan) : lanCounter l.val 0x4020 = some (.vecIssue l) := by
  simp [lanCounter]

/-- At no offset that is 4 more than a multiple of 8 does a _LO register of a lantern lie. -/
theorem lanCounter_hi (l : Lan) {off : Nat} (h : off % 8 = 4) : lanCounter l.val off = none := by
  have hwck : ¬ (0x2000 ≤ off ∧ off < 0x3100 ∧ off % 0x100 = 0x28) := by omega
  have hchk : ¬ (0x6300 ≤ off ∧ off < 0x6300 + 8 * 17 ∧ off % 8 = 0) := by omega
  simp only [lanCounter, show off ≠ 0x30 by omega, show off ≠ 0x4020 by omega, if_neg hwck, if_neg hchk, if_false]

/-! ### Resets -/

/-- Reading a table after a list of keys was written, each with its value. -/
theorem Tab.get_foldl_set {α : Type} [DecidableEq α] (d : α) (g : Nat → α) (ks : List Nat) (t : Tab α) (n : Nat) :
    Tab.get d (ks.foldl (fun t k => Tab.set d t k (g k)) t) n = if n ∈ ks then g n else Tab.get d t n := by
  induction ks generalizing t with
  | nil => simp
  | cons k ks ih =>
    rw [List.foldl_cons, ih, Tab.get_set]
    by_cases hk : n = k
    · simp [hk]
    · simp [hk]

/-- A key that a table does not list reads as the default. -/
theorem Tab.get_unlisted {α : Type} (d : α) (t : Tab α) (n : Nat) (h : n ∉ keysOf t) : Tab.get d t n = d := by
  induction t with
  | nil => rfl
  | cons e r ih =>
    obtain ⟨k, v⟩ := e
    simp only [keysOf, List.map_cons, List.mem_cons, not_or] at h
    rw [Tab.get, if_neg (Ne.symm h.1)]
    exact ih h.2

/-- Every wick after a reset: its cells and its counter row, all else as at power-on (R40, R68). -/
theorem getWick_cleared (s : State) (l w : Nat) : getWick (cleared s) l w = wickKept (getWick s l w) := by
  simp only [getWick, cleared, wicksKept, Tab.get_foldl_set]
  by_cases h : l * 17 + w ∈ keysOf s.wicks
  · rw [if_pos h]
  · rw [if_neg h, Tab.get_unlisted _ _ _ h]
    rfl

/-- A reset clears the die, its clocks apart; the latch of the local time is cleared too. -/
theorem exec_reset {c : Instr} {s t : State} (hc : isReset c = true) (h : exec c s = .next t) :
    ∃ clk : Clk, clk.ltLatch = 0 ∧ t = { cleared s with clk := clk } := by
  cases c <;> cases hc
  case powerOnReset => cases h; exact ⟨_, rfl, rfl⟩
  case dieReset src => cases h; exact ⟨_, rfl, rfl⟩

/-! ### Counters read in pairs (R534) -/

/-- A counter with its latch. -/
def counterOf (s : State) : Counter → Ctr64
  | .wckSteps l w => (getWick s l.val w.val).steps
  | .lntFlares l => (getLan s l.val).flares
  | .vecIssue l => (getEng s l.val).issue
  | .chkWaud l w => (getWick s l.val w.val).waud
  | .lmpFlicker => s.lmp.flicker
  | .clkLtime => { val := ltime s, latch := s.clk.ltLatch }

/-- The address of a counter's _LO register. -/
def loAddr : Counter → Nat
  | .wckSteps l w => lanWinBase + l.val * 0x10000 + 0x2000 + w.val * 0x100 + 0x28
  | .lntFlares l => lanWinBase + l.val * 0x10000 + 0x30
  | .vecIssue l => lanWinBase + l.val * 0x10000 + 0x4020
  | .chkWaud l w => lanWinBase + l.val * 0x10000 + 0x6300 + w.val * 8
  | .lmpFlicker => dieWinBase + 0x10
  | .clkLtime => dieWinBase + 0x10030

/-- The address of a counter's _HI register. -/
def hiAddr : Counter → Nat
  | .wckSteps l w => lanWinBase + l.val * 0x10000 + 0x2000 + w.val * 0x100 + 0x2C
  | .lntFlares l => lanWinBase + l.val * 0x10000 + 0x34
  | .vecIssue l => lanWinBase + l.val * 0x10000 + 0x4024
  | .chkWaud l w => lanWinBase + l.val * 0x10000 + 0x6304 + w.val * 8
  | .lmpFlicker => dieWinBase + 0x14
  | .clkLtime => dieWinBase + 0x10034

/-- The part of the state a counter stands in. -/
def counterPart : Counter → Part
  | .wckSteps .. | .chkWaud .. => .wicks
  | .lntFlares _ => .lans
  | .vecIssue _ => .engs
  | .lmpFlicker => .lmp
  | .clkLtime => .clk

/-- A read of _LO gives the low half and latches. -/
theorem readReg_loAddr (c : Counter) (s : State) :
    readReg (loAddr c) s = some (ctrLo (counterOf s c), counterLatch c s) := by
  cases c with
  | wckSteps l w =>
    have hw := w.isLt
    have ha : loAddr (.wckSteps l w) = lanWinBase + l.val * 0x10000 + (0x2000 + w.val * 0x100 + 0x28) := by
      change lanWinBase + l.val * 0x10000 + 0x2000 + w.val * 0x100 + 0x28 = _
      omega
    exact readReg_lanWin_counter (by omega) ha (lanCounter_wckSteps l w) (readLanWin_wick s l w (by omega))
  | lntFlares l => exact readReg_lanWin_counter (off := 0x30) (by omega) rfl (lanCounter_lntFlares l) rfl
  | vecIssue l => exact readReg_lanWin_counter (off := 0x4020) (by omega) rfl (lanCounter_vecIssue l) rfl
  | chkWaud l w =>
    have hw := w.isLt
    exact readReg_lanWin_counter (by omega) (Nat.add_assoc _ 0x6300 (w.val * 8)) (lanCounter_chkWaud l w)
      (readLanWin_waud s l w (o := 0) (by omega))
  | lmpFlicker => exact readReg_dieWin (by omega) s
  | clkLtime => exact readReg_dieWin (by omega) s

/-- A read of _HI gives the latch and changes nothing. -/
theorem readReg_hiAddr (c : Counter) (s : State) : readReg (hiAddr c) s = some ((counterOf s c).latch, s) := by
  cases c with
  | wckSteps l w =>
    have hw := w.isLt
    have ha : hiAddr (.wckSteps l w) = lanWinBase + l.val * 0x10000 + (0x2000 + w.val * 0x100 + 0x2C) := by
      change lanWinBase + l.val * 0x10000 + 0x2000 + w.val * 0x100 + 0x2C = _
      omega
    exact readReg_lanWin_plain (by omega) ha (lanCounter_hi l (by omega)) (readLanWin_wick s l w (by omega))
  | lntFlares l => exact readReg_lanWin_plain (off := 0x34) (by omega) rfl (lanCounter_hi l (by omega)) rfl
  | vecIssue l => exact readReg_lanWin_plain (off := 0x4024) (by omega) rfl (lanCounter_hi l (by omega)) rfl
  | chkWaud l w =>
    have hw := w.isLt
    have ha : hiAddr (.chkWaud l w) = lanWinBase + l.val * 0x10000 + (0x6300 + w.val * 8 + 4) := by
      change lanWinBase + l.val * 0x10000 + 0x6304 + w.val * 8 = _
      omega
    exact readReg_lanWin_plain (by omega) ha (lanCounter_hi l (by omega)) (readLanWin_waud s l w (by omega))
  | lmpFlicker => exact readReg_dieWin (by omega) s
  | clkLtime => exact readReg_dieWin (by omega) s

/-- Latching copies the high half into the latch and leaves the counter. -/
theorem counterOf_counterLatch (c : Counter) (s : State) : counterOf (counterLatch c s) c = (counterOf s c).latchHi := by
  cases c with
  | lmpFlicker => rfl
  | clkLtime => rfl
  | _ => simp [counterOf, counterLatch]

/-- Latching leaves every part but the counter's own. -/
theorem counterLatch_frame (c : Counter) (s : State) : Frame [counterPart c] s (counterLatch c s) := by
  intro p hp
  have hne : p ≠ counterPart c := fun h => hp (List.mem_singleton.mpr h)
  cases c <;> cases p <;> simp [counterPart] at hne <;> rfl

/-- Each reset leaves every counter's latch 0. -/
theorem counterOf_reset_latch {i : Instr} {s t : State} (hi : isReset i = true) (h : exec i s = .next t) (c : Counter) :
    (counterOf t c).latch = 0 := by
  obtain ⟨clk, hclk, rfl⟩ := exec_reset hi h
  cases c with
  | wckSteps l w => exact congrArg (fun x : Wick => x.steps.latch) (getWick_cleared s l.val w.val)
  | chkWaud l w => exact congrArg (fun x : Wick => x.waud.latch) (getWick_cleared s l.val w.val)
  | clkLtime => exact hclk
  | lntFlares l => rfl
  | vecIssue l => rfl
  | lmpFlicker => rfl

/-- What R534 says of one pair of registers. -/
theorem counter_read_in_pair (c : Counter) (s : State) :
    readReg (loAddr c) s = some (ctrLo (counterOf s c), counterLatch c s) ∧
      readReg (hiAddr c) s = some ((counterOf s c).latch, s) ∧
      exec (.counterLoRead c) s = .next (counterLatch c s) ∧
      (counterOf (counterLatch c s) c = (counterOf s c).latchHi ∧ Frame [counterPart c] s (counterLatch c s)) ∧
      ∀ i t, isReset i = true → exec i s = .next t → (counterOf t c).latch = 0 :=
  ⟨readReg_loAddr c s, readReg_hiAddr c s, exec_counterLoRead c s, ⟨counterOf_counterLatch c s, counterLatch_frame c s⟩,
    fun _ _ hi h => counterOf_reset_latch hi h c⟩

/-! ### The obligations -/

/-- Settles O55: every pair is a case of `counter_read_in_pair`; the local time's clause speaks of all the clocks. -/
theorem wideCountersReadInPairs : Obligations.WideCountersReadInPairs := by
  unfold Obligations.WideCountersReadInPairs
  refine ⟨fun s l w => counter_read_in_pair (.wckSteps l w) s, fun s l => counter_read_in_pair (.lntFlares l) s,
    fun s l => counter_read_in_pair (.vecIssue l) s, fun s l w => counter_read_in_pair (.chkWaud l w) s,
    fun s => counter_read_in_pair .lmpFlicker s, fun s => ?_⟩
  obtain ⟨hlo, hhi, hexec, ⟨_, hframe⟩, hreset⟩ := counter_read_in_pair .clkLtime s
  exact ⟨hlo, hhi, hexec, ⟨rfl, hframe⟩, hreset⟩

/-- Settles O41: a write by firmware is what `blockWrite` does; the clauses with a condition go through the lemma about that
condition. -/
theorem registerWritesAndReads : Obligations.RegisterWritesAndReads := by
  unfold Obligations.RegisterWritesAndReads
  refine ⟨?wckStat, ?w1cBits, ?lntStat, ?vecStat, ?calStat, ?chkStat, ?chkDstat, ?lmpStat, ?xbrStat, ?stkStat, ?fabStat, ?gvlErr,
    ?wckSplit, ?lookupWritable, ?lookupService, ?mapService, ?chkBand, ?chkSubst, ?pwrTherm, ?dtabEnabled, ?stkPatrol,
    ?clkSupcfg, ?window, ?fabMyid, ?fabWrr, ?routeActive, ?routeInactive, ?gvlSigmod, ?mgtCfg, ?readOnly, ?keeperViol,
    ?firmwareViol, ?hostRtbase, ?hostElse, ?counters, ?herr⟩
  case w1cBits =>
    intro v f i hi
    rw [getLsbD_w1c _ _ i hi, BitVec.getLsbD_setWidth, decide_eq_true hi, Bool.true_and]
  case lookupWritable =>
    intro s v l w hm hs
    rw [firmwareWrite_reaches_block]
    exact congrArg _ (updWick_congr (wckLookupWrite_writable hm hs v))
  case lookupService =>
    intro s v l w hs
    rw [firmwareWrite_reaches_block]
    exact congrArg _ (updWick_congr (wckLookupWrite_service hs v))
  case mapService =>
    intro s v l n hs
    rw [firmwareWrite_reaches_block]
    exact congrArg _ (updLan_congr (lntMapWrite_service hs n.val v))
  case dtabEnabled =>
    intro s v d he
    rw [firmwareWrite_reaches_block]
    exact congrArg _ (monDtabWrite_enabled he d.val v)
  case window =>
    intro s v c e ht hw
    rw [firmwareWrite_reaches_block]
    exact congrArg _ (windowWrite_word_zero ht hw v)
  case routeActive =>
    intro s v b d hb
    rw [firmwareWrite_reaches_block]
    exact congrArg _ (routeWrite_active hb d.val v)
  case routeInactive =>
    intro s v b d hb
    rw [firmwareWrite_reaches_block]
    exact congrArg _ (routeWrite_inactive hb d.val v)
  case keeperViol => exact fun s v => keeperWrite_secViol v s
  case hostRtbase => exact fun s v => exec_registerWrite .host .mbxRtbaseLo v s
  case hostElse => exact fun s v r hlo hhi => hostWrite_ignored hlo hhi v s
  case counters =>
    exact fun s l w => ⟨exec_counterLoRead _ s, exec_counterLoRead _ s, exec_counterLoRead _ s, exec_counterLoRead _ s,
      exec_counterLoRead _ s, exec_counterLoRead _ s⟩
  case herr => exact exec_gvlHerrRead
  case wckStat | wckSplit => exact fun s v l w => firmwareWrite_reaches_block _ v s
  case chkBand => exact fun s v l w g => firmwareWrite_reaches_block _ v s
  case lntStat | vecStat | calStat | chkStat | chkSubst | stkStat | stkPatrol | fabStat =>
    exact fun s v n => firmwareWrite_reaches_block _ v s
  case chkDstat | lmpStat | xbrStat | gvlErr | pwrTherm | clkSupcfg | fabMyid | fabWrr | gvlSigmod | mgtCfg | readOnly
      | firmwareViol =>
    exact fun s v => firmwareWrite_reaches_block _ v s

end Sys2Proof.Machine
end

section
/-! SUPPORT. Frames: how what commands leave alone adds up, and what each shared operation may touch. -/

namespace Sys2Proof.Machine

/-! ### The calculus of frames -/

theorem Part.same_refl (p : Part) (s : State) : p.same s s := by
  cases p <;> rfl

theorem Part.same_trans {p : Part} {s t u : State} (h : p.same s t) (k : p.same t u) : p.same s u := by
  cases p <;> exact Eq.trans k h

theorem Frame.refl (ps : List Part) (s : State) : Frame ps s s := fun p _ => p.same_refl s

theorem Frame.mono {ps qs : List Part} {s t : State} (h : Frame ps s t) (hs : ps ⊆ qs) : Frame qs s t :=
  fun p hp => h p fun hq => hp (hs hq)

/-- One more operation that touches no other part. -/
theorem Frame.step {ps qs : List Part} {s t u : State} (h : Frame ps s t) (k : Frame qs t u) (hs : qs ⊆ ps) :
    Frame ps s u :=
  fun p hp => Part.same_trans (h p hp) (k.mono hs p hp)

/-- The same, the last operation named first. -/
theorem Frame.after {ps qs : List Part} {s t u : State} (hs : qs ⊆ ps) (k : Frame qs t u) (h : Frame ps s t) :
    Frame ps s u := h.step k hs

/-- What every turn of a loop leaves alone, the loop leaves alone. -/
theorem frame_foldl {α : Type} {ps : List Part} {g : State → α → State} (hg : ∀ s x, Frame ps s (g s x)) (l : List α)
    (s : State) : Frame ps s (l.foldl g s) := by
  induction l generalizing s with
  | nil => exact Frame.refl ps s
  | cons x l ih => exact (hg s x).step (ih _) (List.Subset.refl ps)

theorem Frame.ite {ps : List Part} {s t u : State} {c : Prop} [Decidable c] (h : Frame ps s t) (k : Frame ps s u) :
    Frame ps s (if c then t else u) := by
  split
  · exact h
  · exact k

/-- A unit of a part that a frame leaves alone reads as before. -/
theorem Frame.getWick {ps : List Part} {s t : State} (h : Frame ps s t) (l w : Nat) (hp : .wicks ∉ ps) :
    getWick t l w = getWick s l w :=
  congrArg (fun x => Tab.get Wick.init x (l * 17 + w)) (h .wicks hp)

theorem Frame.getLan {ps : List Part} {s t : State} (h : Frame ps s t) (l : Nat) (hp : .lans ∉ ps) :
    getLan t l = getLan s l :=
  congrArg (fun x => Tab.get Lantern.init x l) (h .lans hp)

/-! ### One part -/

section
variable (s : State)

theorem frame_wicks (x : Tab Wick) : Frame [.wicks] s { s with wicks := x } := by
  intro p hp; cases p <;> simp at hp <;> rfl
theorem frame_lans (x : Tab Lantern) : Frame [.lans] s { s with lans := x } := by
  intro p hp; cases p <;> simp at hp <;> rfl
theorem frame_lmp (x : Lmp) : Frame [.lmp] s { s with lmp := x } := by
  intro p hp; cases p <;> simp at hp <;> rfl
theorem frame_lctx (x : Tab LmpCtx) : Frame [.lctx] s { s with lctx := x } := by
  intro p hp; cases p <;> simp at hp <;> rfl
theorem frame_chk (x : ChkDie) : Frame [.chk] s { s with chk := x } := by
  intro p hp; cases p <;> simp at hp <;> rfl
theorem frame_scn (x : Tab SconceR) : Frame [.scn] s { s with scn := x } := by
  intro p hp; cases p <;> simp at hp <;> rfl
theorem frame_snuf (x : Snuffer) : Frame [.snuf] s { s with snuf := x } := by
  intro p hp; cases p <;> simp at hp <;> rfl
theorem frame_stks (x : Tab Stack) : Frame [.stks] s { s with stks := x } := by
  intro p hp; cases p <;> simp at hp <;> rfl
theorem frame_clk (x : Clk) : Frame [.clk] s { s with clk := x } := by
  intro p hp; cases p <;> simp at hp <;> rfl
theorem frame_fab (x : Fab) : Frame [.fab] s { s with fab := x } := by
  intro p hp; cases p <;> simp at hp <;> rfl
theorem frame_gvl (x : Gvl) : Frame [.gvl] s { s with gvl := x } := by
  intro p hp; cases p <;> simp at hp <;> rfl
theorem frame_mbx (x : Mbx) : Frame [.mbx] s { s with mbx := x } := by
  intro p hp; cases p <;> simp at hp <;> rfl
theorem frame_ctxs (x : Tab (Option Ctx)) : Frame [.ctxs] s { s with ctxs := x } := by
  intro p hp; cases p <;> simp at hp <;> rfl
theorem frame_posted (x : List Posted) : Frame [.posted] s { s with posted := x } := by
  intro p hp; cases p <;> simp at hp <;> rfl
theorem frame_flash (x : Flash) : Frame [.flash] s { s with flash := x } := by
  intro p hp; cases p <;> simp at hp <;> rfl
theorem frame_mgt (x : Mgt) : Frame [.mgt] s { s with mgt := x } := by
  intro p hp; cases p <;> simp at hp <;> rfl
theorem frame_fresh (x : Nat) : Frame [.fresh] s { s with fresh := x } := by
  intro p hp; cases p <;> simp at hp <;> rfl

/-! ### One unit -/

theorem setWick_frame (l w : Nat) (v : Wick) : Frame [.wicks] s (setWick l w v s) := frame_wicks s _
theorem updWick_frame (l w : Nat) (f : Wick → Wick) : Frame [.wicks] s (updWick l w f s) := frame_wicks s _
theorem setLan_frame (l : Nat) (v : Lantern) : Frame [.lans] s (setLan l v s) := frame_lans s _
theorem updLan_frame (l : Nat) (f : Lantern → Lantern) : Frame [.lans] s (updLan l f s) := frame_lans s _
theorem setLctx_frame (c : Nat) (v : LmpCtx) : Frame [.lctx] s (setLctx c v s) := frame_lctx s _
theorem updLctx_frame (c : Nat) (f : LmpCtx → LmpCtx) : Frame [.lctx] s (updLctx c f s) := frame_lctx s _
theorem updScn_frame (n : Nat) (f : SconceR → SconceR) : Frame [.scn] s (updScn n f s) := frame_scn s _
theorem updStk_frame (n : Nat) (f : Stack → Stack) : Frame [.stks] s (updStk n f s) := frame_stks s _
theorem updLink_frame (k : Nat) (f : Link → Link) : Frame [.fab] s (updLink k f s) := frame_fab s _
theorem updRing_frame (r : Nat) (f : Ring → Ring) : Frame [.mbx] s (updRing r f s) := frame_mbx s _
theorem updRun_frame (c id : Nat) (f : FlareRun → FlareRun) : Frame [.lctx] s (updRun c id f s) := updLctx_frame s _ _

theorem updCtx_frame (c : Nat) (f : Ctx → Ctx) : Frame [.ctxs] s (updCtx c f s) := by
  unfold updCtx
  split
  · exact Frame.refl _ s
  · exact frame_ctxs s _

end

/-! ### Posting -/

theorem gvlSendSig_frame (v : Nat) (w : W32) (s : State) : Frame [.gvl] s (gvlSendSig v w s) := frame_gvl s _

theorem gvlSig_frame (v : Nat) (w : W32) (s : State) : Frame [.gvl] s (gvlSig v w s) := by
  unfold gvlSig
  exact (gvlSendSig_frame v w s).ite ((frame_gvl s _).ite ((frame_gvl s _).step (gvlSendSig_frame v w _) (by decide)))

theorem sigState_frame (s : State) : Frame [.gvl, .fresh] s (sigState s) :=
  (Frame.refl _ s).step (frame_fresh s _) (by decide) |>.step (gvlSig_frame _ _ _) (by decide)

theorem postRaw_frame (r : RingI) (c : Cpl) (s : State) : Frame [.gvl, .mbx, .posted] s (postRaw r c s) :=
  .after (by decide) (gvlSig_frame _ _ _) <| .after (by decide) (frame_gvl _ _) <| .after (by decide) (updRing_frame _ _ _)
    ((frame_posted s _).mono (by decide))

theorem holdCpl_frame (r : RingI) (c : Cpl) (s : State) : Frame [.mbx] s (holdCpl r c s) := updRing_frame s _ _

theorem postOrHold_frame (r : RingI) (c : Cpl) (s : State) : Frame [.gvl, .mbx, .posted] s (postOrHold r c s) :=
  ((holdCpl_frame r c s).mono (by decide)).ite (postRaw_frame r c s)

theorem postNote_frame (r : RingI) (c : Cpl) (s : State) : Frame [.gvl, .mbx, .posted] s (postNote r c s) := by
  have hring (f : Ring → Ring) : Frame [.gvl, .mbx, .posted] s (updRing r.val f s) := (updRing_frame s _ f).mono (by decide)
  exact (Frame.refl _ s).ite ((hring _).ite ((postRaw_frame r c s).ite ((hring _).ite (hring _))))

theorem pathPut_frame (e : Ember) (udp : Bool) (s : State) : Frame [.mgt] s (pathPut e udp s) := frame_mgt s _

theorem deliverEmber_frame (e : Ember) (s : State) : Frame [.gvl, .mbx, .posted, .mgt] s (deliverEmber e s) := by
  have hring (e : Ember) (a : State) : Frame [.gvl, .mbx, .posted] a (match emberRing a e with
      | none => a
      | some r => gvlSig 64 e.num (postNote r (emberCpl e) a)) := by
    split
    · exact Frame.refl _ a
    · exact .after (by decide) (gvlSig_frame _ _ _) (postNote_frame _ _ a)
  have hseq : Frame [.gvl, .mbx, .posted, .mgt] s { s with mgt := { s.mgt with nextSeq := s.mgt.nextSeq + 1 } } :=
    (frame_mgt s _).mono (by decide)
  unfold deliverEmber
  exact .after (by decide) (pathPut_frame _ true _) <| .after (by decide) (pathPut_frame _ false _) <|
    hseq.ite (.after (by decide) (hring _ _) <| .after (by decide) (frame_mgt _ _) hseq)

theorem rateLimit_frame (k : Option (W16 × W16 × Option W16)) (e : Ember) (s : State) : Frame [.mgt] s (rateLimit k e s).1 := by
  unfold rateLimit
  split
  · exact frame_mgt s _
  · split <;> exact frame_mgt s _

theorem raiseEmber_frame (r : EmberReq) (s : State) : Frame [.gvl, .mbx, .posted, .mgt] s (raiseEmber r s) := by
  unfold raiseEmber
  have hlim (k : Option (W16 × W16 × Option W16)) (e : Ember) : Frame [.gvl, .mbx, .posted, .mgt] s (rateLimit k e s).1 :=
    (rateLimit_frame k e s).mono (by decide)
  refine Frame.ite (Frame.ite (deliverEmber_frame _ s) (Frame.ite ?_ (hlim _ _))) (Frame.refl _ s)
  exact (hlim _ _).step (deliverEmber_frame _ _) (by decide)

theorem ember_frame (sev code src : Nat) (ctx : Option W16) (arg0 : Nat) (s : State) :
    Frame [.gvl, .mbx, .posted, .mgt] s (ember sev code src ctx arg0 s) := raiseEmber_frame _ s

/-! ### Fabric messages -/

theorem egress_frame (m : Msg) (s : State) : Frame [.fab] s (egress m s) := by
  unfold egress
  refine Frame.ite (frame_fab s _) ?_
  split
  · exact updLink_frame s _ _
  · exact frame_fab s _

theorem touchStream_frame (m : Msg) (received : Bool) (s : State) : Frame [.fab] s (touchStream m received s) := by
  unfold touchStream
  dsimp only
  split
  · exact Frame.refl _ s
  · exact frame_fab s _

theorem sendMsg_frame (h : Hdr) (b : Body) (s : State) : Frame [.fab] s (sendMsg h b s) := by
  unfold sendMsg
  split
  · split
    · exact Frame.refl _ s
    · refine Frame.step (Frame.ite ?_ (frame_fab s _)) (egress_frame _ _) (by decide)
      exact (frame_fab s _).step (frame_fab _ _) (by decide) |>.step (touchStream_frame _ _ _) (by decide)
  · exact Frame.refl _ s

theorem sendNotice_frame (kind : Nat) (dst : Pkg) (q : ReqId) (tindex : W32) (arg0 : W64) (arg1 : W32) (code : W16) (s : State) :
    Frame [.fab] s (sendNotice kind dst q tindex arg0 arg1 code s) := sendMsg_frame _ _ s

/-! ### Discarded flares, the freeze and the withhold -/

theorem dropOnLan_frame (id : Nat) (fr : Bool) (gone : Nat → Bool) (s : State) (q : LLan × Lan × Bool) :
    Frame [.wicks, .lans] s (dropOnLan id fr gone s q) :=
  .after (by decide) (updLan_frame _ _ _) ((frame_foldl (fun s w => updWick_frame s _ w _) _ s).mono (by decide))

theorem discardRuns_frame (p : FlareRun → Bool) (fr : Bool) (gone : Nat → Bool) (s : State) (c : Nat) :
    Frame [.wicks, .lans, .lctx, .lmp] s (discardRuns p fr gone s c) := by
  have hdrop (a : State) (r : FlareRun) : Frame [.wicks, .lans] a (r.lans.foldl (dropOnLan r.id fr gone) a) :=
    frame_foldl (dropOnLan_frame r.id fr gone) r.lans a
  unfold discardRuns
  exact .after (by decide) (frame_lmp _ _) <| .after (by decide) (setLctx_frame _ _ _) ((frame_foldl hdrop _ s).mono (by decide))

theorem restartTrim_frame (l : Nat) (s : State) : Frame [.wicks, .lans] s (restartTrim l s) := by
  unfold restartTrim
  refine Frame.ite ?_ (Frame.refl _ s)
  have hlan := (setLan_frame s l (clearMoments 16 (getLan s l))).mono (qs := [.wicks, .lans]) (by decide)
  split
  · exact hlan
  · exact hlan.step (updWick_frame _ _ _ _) (by decide)

theorem freeze_frame (s : State) : Frame [.wicks, .lans, .lctx, .lmp] s (freeze s) := by
  have htrim (a : State) (l : Nat) : Frame [.wicks, .lans] a (updLan l abortDr (restartTrim l a)) :=
    .after (by decide) (updLan_frame _ l _) (restartTrim_frame l a)
  unfold freeze
  exact .after (by decide) (frame_lmp _ _) <| .after (by decide) (frame_foldl htrim _ _) <|
    .after (by decide) (frame_foldl (fun a k => updWick_frame a (k / 17) (k % 17) _) _ _)
      (frame_foldl (discardRuns_frame _ _ _) _ s)

theorem withholdLamp_frame (s : State) : Frame [.wicks, .lans, .lctx, .lmp] s (withholdLamp s) := by
  unfold withholdLamp
  exact .after (by decide) (frame_foldl (fun a l => updLan_frame a l _) _ _) <|
    .after (by decide) (frame_foldl (fun a k => updWick_frame a (k / 17) (k % 17) _) _ _) <|
    .after (by decide) (frame_foldl (fun a c => updLctx_frame a c _) _ _) <|
    .after (by decide) (frame_foldl (discardRuns_frame _ _ _) _ _) (freeze_frame s)

theorem withholdNotices_frame (s : State) : Frame [.fab] s (withholdNotices s) :=
  (frame_foldl (fun a t => (Frame.refl _ a).ite (sendNotice_frame _ _ _ _ _ _ _ a)) _ s).step (frame_fab _ _) (by decide)

theorem withholdLink_frame (s : State) (k : Nat) : Frame [.fab] s (withholdLink s k) :=
  Frame.ite ((updLink_frame s _ _).step (updLink_frame _ _ _) (by decide) |>.step (updLink_frame _ _ _) (by decide))
    (Frame.refl _ s)

theorem withholdRing_frame (s : State) (r : RingI) : Frame [.gvl, .mbx, .posted] s (withholdRing s r) :=
  (frame_foldl (fun a d => postOrHold_frame r _ a) _ s).step (updRing_frame _ _ _) (by decide)

theorem withholdRequests_frame (s : State) : Frame [.ctxs] s (withholdRequests s) :=
  frame_foldl (fun a c => updCtx_frame a c _) _ s

theorem withholdEmbers_frame (e : Ember) (s : State) : Frame [.gvl, .mbx, .posted] s (withholdEmbers e s) := by
  have hcopy (a : State) (c : Nat) : Frame [.gvl, .mbx, .posted] a (match getCtx a c with
      | none => a
      | some x => match ctxRing a c with
        | none => a
        | some r => postOrHold r (emberCpl (ctxCopy e x.ctxid)) a) := by
    split
    · exact Frame.refl _ a
    · split
      · exact Frame.refl _ a
      · exact postOrHold_frame _ _ a
  have hall := (postOrHold_frame 0 (emberCpl e) s).step (frame_foldl hcopy (ctxSlots (postOrHold 0 (emberCpl e) s)) _) (by decide)
  exact Frame.ite (hall.step (gvlSig_frame _ _ _) (by decide)) hall

theorem gvlEnterWithheld_frame (s : State) : Frame [.gvl, .fresh] s (gvlEnterWithheld s) :=
  (sigState_frame s).step (frame_gvl _ _) (by decide)

theorem withholdGarvy_frame (e : Ember) (s : State) : Frame [.ctxs, .gvl, .mbx, .posted, .fresh] s (withholdGarvy e s) := by
  unfold withholdGarvy
  have hreq : Frame [.ctxs, .gvl, .mbx, .posted, .fresh] s (withholdRequests ((List.finRange 64).foldl withholdRing s)) :=
    ((frame_foldl withholdRing_frame _ s).mono (by decide)).step (withholdRequests_frame _) (by decide)
  have hemb := Frame.ite (c := (withholdRequests ((List.finRange 64).foldl withholdRing s)).mgt.started = true)
    (hreq.step (withholdEmbers_frame e _) (by decide)) hreq
  exact Frame.ite (hemb.step (gvlEnterWithheld_frame _) (by decide)) (hemb.step (frame_gvl _ _) (by decide))

theorem withholdStacks_frame (s : State) : Frame [.stks] s (withholdStacks s) :=
  frame_foldl (fun a n => updStk_frame a n _) _ s

/-- What a withhold may touch (R486). -/
theorem withhold_frame (cause detail : Nat) (s : State) : Frame Part.withholding s (withhold cause detail s) := by
  have hlog (e : Ember) (a : State) : Frame [.mgt] a (if a.mgt.started then
      { a with mgt := { a.mgt with nextSeq := a.mgt.nextSeq + 1, log := lastN 65536 (a.mgt.log ++ [e]) } } else a) :=
    (frame_mgt a _).ite (Frame.refl _ a)
  have hqueue (e : Ember) (a : State) : Frame [.mgt] a (if a.mgt.started then withholdQueues e a else a) :=
    (frame_mgt a _).ite (Frame.refl _ a)
  have hlow : Frame Part.withholding s { s with
      clk := { s.clk with wheldLow := true },
      chk := if cause = 4 then { s.chk with dstat := setBit s.chk.dstat 0 } else s.chk } :=
    ((frame_clk s { s.clk with wheldLow := true }).mono (by decide)).step (frame_chk _ _) (by decide)
  unfold withhold
  refine (Frame.refl _ s).ite ?_
  exact .after (by decide) (frame_snuf _ _) <| .after (by decide) (withholdStacks_frame _) <| .after (by decide) (hqueue _ _) <|
    .after (by decide) (withholdGarvy_frame _ _) <| .after (by decide) (hlog _ _) <|
    .after (by decide) (frame_foldl withholdLink_frame _ _) <|
    .after (by decide) (withholdNotices_frame _) <| .after (by decide) (withholdLamp_frame _) hlow

theorem withhold_snuf {s : State} (h : s.snuf.wheld = false) (cause detail : Nat) :
    (withhold cause detail s).snuf = { wheld := true, cause := BitVec.ofNat 8 cause, detail := BitVec.ofNat 16 detail } := by
  simp [withhold, h]

end Sys2Proof.Machine
end

section
/-! SUPPORT. Writes of a wick (R43 to R47, R216): what a write, a repair pass and a failed write leave. -/

namespace Sys2Proof.Machine

/-! ### The device record -/

theorem dropSec_frame (n : Nat) (s : State) : Frame [.flash] s (dropSec n s) := by
  unfold dropSec
  exact Frame.ite ((frame_flash s _).ite (frame_flash s _)) (Frame.refl _ s)

theorem updRecWick_frame (l w : Nat) (f : RecWick → RecWick) (s : State) : Frame [.flash] s (updRecWick l w f s) := by
  unfold updRecWick writeSec
  exact (Frame.refl _ s).ite (.after (by decide) (frame_flash _ _) <| .after (by decide) (frame_flash _ _) (dropSec_frame l s))

/-- What a wick's section of the device record holds once it is written (R450, R528). -/
theorem recWick_updRecWick (l w : Nat) (f : RecWick → RecWick) {s : State} (h : s.flash.noRec = false) :
    Tab.get RecWick.init (updRecWick l w f s).flash.wicks (l * 17 + w) =
      f (Tab.get RecWick.init (dropSec l s).flash.wicks (l * 17 + w)) := by
  simp [updRecWick, writeSec, h, retag, putRecWick, Tab.upd]

/-! ### Starting a write -/

theorem getWick_setWick_same (l w : Nat) (v : Wick) (s : State) : getWick (setWick l w v s) l w = v := by
  simp

theorem getWick_updWick_same (l w : Nat) (f : Wick → Wick) (s : State) : getWick (updWick l w f s) l w = f (getWick s l w) := by
  simp

/-- A write to one wick leaves every other one. -/
theorem wicks_setWick_ne {l w k : Nat} (h : k ≠ l * 17 + w) (v : Wick) (s : State) :
    Tab.get Wick.init (setWick l w v s).wicks k = Tab.get Wick.init s.wicks k := by
  simp [setWick, h]

theorem exec_wickWrctlStart (l : Lan) (w : PWick) (v : W32) (s : State) :
    exec (.wickWrctlStart l w v) s = .next (wrctlWrite l.val w.val v s) := rfl

/-- A START that may be begins a write from row 0 (R43). -/
theorem startWrite_begins {l w : Nat} {s : State} (hm : (getWick s l w).maxp ≠ 0) (hp : (getWick s l w).pgm.toNat < 999999) :
    startWrite l w s = setWick l w { getWick s l w with
      st := .writing, ctx := ownerOfLan s l, lwick := none, wrBusy := true, wrRows := 0, wrResult := 0, failcol := 0,
      repair := false, stage := .writing, wfmt := fmtOfWick s l (getWick s l w), wrFrom := nowF s,
      wrCells := cellsOf (getWick s l w) (streamOf s l (getWick s l w)) } s := by
  simp only [startWrite, if_neg hm, if_neg (Nat.not_le.mpr hp)]

/-- What keeps a START from being accepted (R39, R44, R58). -/
def startRefused (l w : Nat) (s : State) : Prop :=
  mayWrite (getWick s l w) = false ∨ (getLan s l).st = .retired ∨ 2 ≤ busyOn s l ∨ 2048 ≤ busyDie s ∨ s.lmp.frozen = true ∨
    s.snuf.wheld = true

theorem wrctlWrite_refused {l w : Nat} {v : W32} {s : State} (hv : bitAt v 31 = true) (h : startRefused l w s) :
    wrctlWrite l w v s = setWick l w (wickCfgErr (getWick s l w)) s := by
  have hc : (!(mayWrite (getWick s l w)) || (getLan s l).st == .retired || (decide (2 ≤ busyOn s l) || decide (2048 ≤ busyDie s))
      || s.lmp.frozen || s.snuf.wheld) = true := by
    simp only [startRefused] at h
    simpa [or_assoc] using h
  simp only [wrctlWrite, if_pos hv, if_pos hc]

theorem wrctlWrite_accepted {l w : Nat} {v : W32} {s : State} (hv : bitAt v 31 = true) (h : ¬ startRefused l w s) :
    wrctlWrite l w v s = startWrite l w (setWick l w { getWick s l w with maxp := BitVec.ofNat 4 (fld v 3 0) } s) := by
  have hc : ¬ (!(mayWrite (getWick s l w)) || (getLan s l).st == .retired || (decide (2 ≤ busyOn s l) || decide (2048 ≤ busyDie s))
      || s.lmp.frozen || s.snuf.wheld) = true := by
    simp only [startRefused] at h
    simpa [or_assoc] using h
  simp only [wrctlWrite, if_pos hv, if_neg hc]

theorem maxp_ne_zero {v : W32} (h : fld v 3 0 ≠ 0) : BitVec.ofNat 4 (fld v 3 0) ≠ 0 := by
  have hlt : fld v 3 0 < 2 ^ 4 := Nat.mod_lt _ (by decide)
  intro h0
  have := congrArg BitVec.toNat h0
  simp only [BitVec.toNat_ofNat, Nat.mod_eq_of_lt hlt] at this
  exact h this

/-! ### The end of a write -/

/-- The stream of a wick is its source's, whatever else of the wick, of the wicks and of the lanterns has changed. -/
theorem streamOf_source {s t : State} {x y : Wick} (l : Nat) (hsrc : y.src = x.src) (hep : y.srcEpoch = x.srcEpoch)
    (hscn : t.scn = s.scn) (hctx : t.ctxs = s.ctxs) : streamOf t l y = streamOf s l x := by
  simp only [streamOf, shardOfWick, lanShard, epochShards, ctxOfLan, ownerOfLan, getScn, getCtx, hsrc, hep, hscn, hctx]

theorem exec_wickWriteDone (l : Lan) (w : PWick) (rs : Reads) (s : State) :
    exec (.wickWriteDone l w rs) s = .next (afterJobs (writeDone l.val w.val rs s)) := rfl

theorem exec_wickRepairPassDone (l : Lan) (w : PWick) (rs : Reads) (s : State) :
    exec (.wickRepairPassDone l w rs) s = .next (afterJobs (repairDone l.val w.val rs s)) := rfl

/-- A wick whose rows a write or a repair pass has all programmed, its check store filled from the stream (R43, R216). -/
def writtenWick (l : Nat) (rs : Reads) (s : State) (x : Wick) : Wick :=
  { program rs x with rs := (checkStore (streamOf s l x)).1, rj := (checkStore (streamOf s l x)).2, rsBad := [] }

theorem writeOver_eq (l w : Nat) (rs : Reads) (s : State) :
    writeOver l w rs s = setWick l w (writtenWick l rs s (getWick s l w)) s := by
  simp only [writeOver, fillStore, updWick, setWick_setWick, getWick_setWick_same]
  rfl

/-- A write counts unless it reaches the count of ENDURE (R46). -/
theorem countProgram_eq {l w : Nat} {s : State} (h : (getWick s l w).pgm.toNat + 1 ≠ 800000) :
    countProgram l w s = setWick l w { getWick s l w with pgm := BitVec.ofNat 24 ((getWick s l w).pgm.toNat + 1) } s := by
  simp only [countProgram, if_neg h]
  rfl

/-- The wick as a counted write leaves it, before its outcome. -/
def countedWick (l w : Nat) (rs : Reads) (s : State) : Wick :=
  { writtenWick l rs s (getWick s l w) with
    pgm := BitVec.ofNat 24 ((getWick s l w).pgm.toNat + 1), failcol := satOf 4 (badCols (getWick s l w) rs).length }

/-- The check digest is of the check store and the weights' source alone (R216). -/
theorem storeOk_counted (l w : Nat) (rs : Reads) (s : State) :
    storeOk (setWick l w (countedWick l w rs s) s) l w = storeOk (writeOver l w rs s) l w := by
  rw [writeOver_eq]
  simp only [storeOk, getWick_setWick_same]
  rfl

/-- The outcomes of a write that counts no further than 800,000. -/
theorem writeDone_eq {l w : Nat} {rs : Reads} {s : State} (hb : (getWick s l w).wrBusy = true) (hr : (getWick s l w).repair = false)
    (hp : (getWick s l w).pgm.toNat + 1 ≠ 800000) :
    writeDone l w rs s =
      let x := getWick s l w
      let cols := badCols x rs
      let s' := setWick l w (countedWick l w rs s) s
      if storeOk (writeOver l w rs s) l w = false then writeFailed l w cols.length s'
      else if failedCols x cols = [] then writeOk l w 1 s'
      else if canRepair x cols then startRepair l w cols s'
      else writeFailed l w cols.length s' := by
  have hcount : updWick l w (fun x => { x with failcol := satOf 4 (badCols (getWick s l w) rs).length })
      (countProgram l w (writeOver l w rs s)) = setWick l w (countedWick l w rs s) s := by
    rw [countProgram_eq (by rw [writeOver_eq, getWick_setWick_same]; exact hp), writeOver_eq]
    simp only [updWick, setWick_setWick, getWick_setWick_same]
    rfl
  simp only [writeDone, hb, hr, Bool.not_false, Bool.and_self, if_true, hcount, storeOk_counted, Bool.not_eq_true']

/-- The outcomes of a repair pass. -/
theorem repairDone_eq {l w : Nat} {rs : Reads} {s : State} (hb : (getWick s l w).wrBusy = true) (hr : (getWick s l w).repair = true) :
    repairDone l w rs s =
      let x := getWick s l w
      let s' := writeOver l w rs s
      if failedCols x (badCols x rs) = [] ∧ storeOk s' l w = true then
        let u := updWick l w (writeEnds 2) (updRecWick l w (fun r => { r with colmap := [x.cm0, x.cm1, x.cm2, x.cm3] }) s')
        if x.job = .lanTest then jobFail l w u else runLan l u
      else writeFailed l w (badCols x rs).length s' := by
  simp only [repairDone, hb, hr, Bool.and_self, if_true]
  rfl

/-- A wick whose write has failed, recorded as retired, before its ember and its job's next step. -/
def failedWrite (l w n : Nat) (s : State) : State :=
  retireWick l w (updWick l w (fun x => { x with wrResult := 3, failcol := satOf 4 n, stat := setBit x.stat 2 }) s)

theorem writeFailed_eq (l w n : Nat) (s : State) :
    writeFailed l w n s = runLan l (jobFail l w (ember 2 0x0102 (l * 17 + w) none n (failedWrite l w n s))) := rfl

theorem retireWick_frame (l w : Nat) (s : State) : Frame [.wicks, .lans, .flash] s (retireWick l w s) := by
  unfold retireWick
  exact .after (by decide) (updRecWick_frame l w _ _) <| .after (by decide) (updWick_frame _ l w _)
    ((updLan_frame s l _).mono (by decide))

theorem getWick_retireWick (l w : Nat) (s : State) :
    getWick (retireWick l w s) l w =
      { getWick s l w with st := .failed, wrBusy := false, wrCells := [], repair := false, lwick := none } := by
  unfold retireWick
  rw [(updRecWick_frame _ _ _ _).getWick _ _ (by decide), getWick_updWick_same, getWick_updLan]

theorem retireWick_recorded (l w : Nat) {s : State} (h : s.flash.noRec = false) :
    (Tab.get RecWick.init (retireWick l w s).flash.wicks (l * 17 + w)).retired = true := by
  unfold retireWick
  rw [recWick_updRecWick _ _ _ (by simpa using h)]

theorem failedWrite_frame (l w n : Nat) (s : State) : Frame [.wicks, .lans, .flash] s (failedWrite l w n s) :=
  .after (by decide) (retireWick_frame l w _) ((updWick_frame s l w _).mono (by decide))

theorem getWick_failedWrite (l w n : Nat) (s : State) :
    getWick (failedWrite l w n s) l w = { getWick s l w with
      wrResult := 3, failcol := satOf 4 n, stat := setBit (getWick s l w).stat 2, st := .failed, wrBusy := false,
      wrCells := [], repair := false, lwick := none } := by
  rw [failedWrite, getWick_retireWick, getWick_updWick_same]

/-! ### Column maps -/

/-- A wick with another's column map. -/
def withMapOf (x m : Wick) : Wick := { x with cm0 := m.cm0, cm1 := m.cm1, cm2 := m.cm2, cm3 := m.cm3 }

theorem putSpare_withMapOf (x m : Wick) (i : Nat) (c : Option Nat) :
    putSpare (withMapOf x m) i c = withMapOf x (putSpare m i c) := by
  simp only [putSpare]
  split
  · rfl
  · split
    · rfl
    · split <;> rfl

theorem foldl_withMapOf {α : Type} {g : Wick → α → Wick} (hg : ∀ x m a, g (withMapOf x m) a = withMapOf x (g m a)) (l : List α)
    (x m : Wick) : l.foldl g (withMapOf x m) = withMapOf x (l.foldl g m) := by
  induction l generalizing m with
  | nil => rfl
  | cons a l ih => rw [List.foldl_cons, hg, ih, List.foldl_cons]

theorem spareMap_withMapOf (x m : Wick) : spareMap (withMapOf x m) = spareMap m := rfl

theorem physCol_withMapOf (x m : Wick) (c : Nat) : physCol (withMapOf x m) c = physCol m c := by
  simp only [physCol, spareMap_withMapOf]

/-- A repair looks at the column map alone and changes nothing else (R45). -/
theorem repairMap_withMapOf (x m : Wick) (cols : List Nat) :
    repairMap (withMapOf x m) cols = withMapOf x (repairMap m cols) := by
  have hclear (x m : Wick) (p : Nat × Option Nat) :
      (if p.2.isSome && cols.contains (512 + p.1) then putSpare (withMapOf x m) p.1 none else withMapOf x m) =
        withMapOf x (if p.2.isSome && cols.contains (512 + p.1) then putSpare m p.1 none else m) := by
    split
    · exact putSpare_withMapOf x m p.1 none
    · rfl
  have hput (x m : Wick) (p : Nat × Nat) : putSpare (withMapOf x m) p.2 (some p.1) = withMapOf x (putSpare m p.2 (some p.1)) :=
    putSpare_withMapOf x m p.2 (some p.1)
  simp only [repairMap, failedCols, freeSpares, spareMap_withMapOf, physCol_withMapOf]
  rw [foldl_withMapOf hclear, foldl_withMapOf hput]

/-- The cells of a stream lie where the column map puts them, whatever else of the wick has changed. -/
theorem cellsOf_sameMap {x y : Wick} (h : spareMap y = spareMap x) (ws : List (Nat × Nat × Int)) : cellsOf y ws = cellsOf x ws := by
  simp only [cellsOf, physCol, h]

/-- A wick in a repair pass from row 0, its column map already the repaired one (R45). -/
def repairingWick (x : Wick) (now : Nat) (cells : Tab Nat) : Wick :=
  { x with st := .writing, wrBusy := true, repair := true, wrRows := 0, wrFrom := now, wrCells := cells }

theorem getWick_startRepair (l w : Nat) (cols : List Nat) (s : State) :
    getWick (startRepair l w cols s) l w = repairingWick (repairMap (getWick s l w) cols) (nowF s)
      (cellsOf (repairMap (getWick s l w) cols) (streamOf s l (repairMap (getWick s l w) cols))) := by
  simp only [startRepair, getWick_setWick_same, repairingWick]

/-! ### The obligation -/

/-- Settles O8, clause by clause: what the START and the two ends of a pass do is said once in `startWrite_begins`,
`writeDone_eq` and `repairDone_eq`. -/
theorem wickWritesStartAndEnd : Obligations.WickWritesStartAndEnd := by
  unfold Obligations.WickWritesStartAndEnd
  refine ⟨?starts, ?refused, ?maxpOnly, ?verified, ?repairs, ?fails, ?repaired, ?repairFails⟩
  case starts =>
    intro s l w v x hv hmax hmay hpgm hlan hon hdie hfrozen hheld
    have hok : ¬ startRefused l.val w.val s := by
      simp only [startRefused, not_or]
      exact ⟨by simp [x, hmay] , hlan, by omega, by omega, by simp [hfrozen], by simp [hheld]⟩
    have hrun := wrctlWrite_accepted (v := v) hv hok
    rw [startWrite_begins (by rw [getWick_setWick_same]; exact maxp_ne_zero hmax)
      (by rw [getWick_setWick_same]; exact hpgm), setWick_setWick] at hrun
    rw [Runs, exec_wickWrctlStart, hrun]
    refine ⟨_, rfl, ?_, fun k hk => wicks_setWick_ne hk _ s, setWick_frame s _ _ _⟩
    simp only [getWick_setWick_same]
    rfl
  case refused =>
    intro s l w v hv h
    rw [exec_wickWrctlStart, wrctlWrite_refused hv h]
    rfl
  case maxpOnly =>
    intro s l w v hv
    rw [exec_wickWrctlStart]
    simp only [wrctlWrite, hv, Bool.false_eq_true, if_false]
  case verified =>
    intro s l w rs
    dsimp only
    intro hb hr hcols hstore hp
    refine ⟨updWick l.val w.val (writeEnds 1) (setWick l.val w.val (countedWick l.val w.val rs s) s), ?_, ?_,
      .after (by decide) (updWick_frame _ _ _ _) (setWick_frame s _ _ _)⟩
    · rw [exec_wickWriteDone, writeDone_eq hb hr hp]
      simp only [hstore, Bool.true_eq_false, if_false, hcols, if_true, writeOk]
    · rw [getWick_updWick_same, getWick_setWick_same]
      unfold writeEnds countedWick writtenWick program
      rfl
  case repairs =>
    intro s l w rs
    dsimp only
    intro hb hr hcols hcan hstore hp
    refine ⟨startRepair l.val w.val (badCols (getWick s l.val w.val) rs) (setWick l.val w.val (countedWick l.val w.val rs s) s), ?_, ?_,
      .after (by decide) (setWick_frame _ _ _ _) (setWick_frame s _ _ _)⟩
    · rw [exec_wickWriteDone, writeDone_eq hb hr hp]
      simp only [hstore, Bool.true_eq_false, if_false, if_neg hcols, if_pos hcan]
    · have hmap : repairMap (countedWick l.val w.val rs s) (badCols (getWick s l.val w.val) rs) =
          withMapOf (countedWick l.val w.val rs s) (repairMap (getWick s l.val w.val) (badCols (getWick s l.val w.val) rs)) :=
        repairMap_withMapOf (countedWick l.val w.val rs s) (getWick s l.val w.val) _
      have hstream : streamOf (setWick l.val w.val (countedWick l.val w.val rs s) s) l.val (withMapOf (countedWick l.val w.val rs s)
          (repairMap (getWick s l.val w.val) (badCols (getWick s l.val w.val) rs))) = streamOf s l.val (getWick s l.val w.val) :=
        streamOf_source l.val (by simp only [withMapOf, countedWick, writtenWick, program])
          (by simp only [withMapOf, countedWick, writtenWick, program]) rfl rfl
      rw [getWick_startRepair, getWick_setWick_same, hmap, hstream]
      refine ⟨rfl, rfl, rfl, rfl, rfl, rfl, rfl, rfl, rfl, rfl, ?_, ?_⟩
      · exact cellsOf_sameMap (by simp only [spareMap, repairingWick]) _
      · simp only [repairingWick, withMapOf]
  case fails =>
    intro s l w rs
    dsimp only
    intro hb hr hfail hp hrec
    refine ⟨failedWrite l.val w.val (badCols (getWick s l.val w.val) rs).length (setWick l.val w.val (countedWick l.val w.val rs s) s),
      ?_, ?_, retireWick_recorded _ _ hrec,
      .after (by decide) (failedWrite_frame _ _ _ _) ((setWick_frame s _ _ _).mono (by decide))⟩
    · rw [exec_wickWriteDone, writeDone_eq hb hr hp]
      rcases hfail with hstore | ⟨hcols, hcan⟩
      · simp only [if_pos hstore, writeFailed_eq]
      · simp only [if_neg hcols, hcan, Bool.false_eq_true, if_false, ite_self, writeFailed_eq]
    · rw [getWick_failedWrite, getWick_setWick_same]
      exact ⟨rfl, rfl, rfl, rfl, rfl, rfl⟩
  case repaired =>
    intro s l w rs
    dsimp only
    intro hb hr hcols hstore hrec
    have hrec' : (writeOver l.val w.val rs s).flash.noRec = false := by
      rw [writeOver_eq]; exact hrec
    refine ⟨updWick l.val w.val (writeEnds 2) (updRecWick l.val w.val (fun r => { r with colmap :=
      [(getWick s l.val w.val).cm0, (getWick s l.val w.val).cm1, (getWick s l.val w.val).cm2, (getWick s l.val w.val).cm3] })
      (writeOver l.val w.val rs s)), ?_, ?_, ?_, ?_⟩
    · rw [exec_wickRepairPassDone, repairDone_eq hb hr]
      simp only [hcols, hstore, and_self, if_true]
    · rw [getWick_updWick_same, (updRecWick_frame _ _ _ _).getWick _ _ (by decide), writeOver_eq, getWick_setWick_same]
      unfold writeEnds writtenWick program
      rfl
    · rw [updWick_flash, recWick_updRecWick _ _ _ hrec']
    · rw [writeOver_eq]
      exact .after (by decide) (updWick_frame _ _ _ _) <| .after (by decide) (updRecWick_frame _ _ _ _)
        ((setWick_frame s _ _ _).mono (by decide))
  case repairFails =>
    intro s l w rs
    dsimp only
    intro hb hr hfail hrec
    have hout : ¬ (failedCols (getWick s l.val w.val) (badCols (getWick s l.val w.val) rs) = [] ∧
        storeOk (writeOver l.val w.val rs s) l.val w.val = true) := by
      rcases hfail with hcols | hstore
      · exact fun h => hcols h.1
      · exact fun h => by simp [hstore] at h
    rw [exec_wickRepairPassDone, repairDone_eq hb hr]
    simp only [if_neg hout, writeFailed_eq]
    rw [writeOver_eq]
    refine ⟨_, rfl, ?_, retireWick_recorded _ _ hrec,
      .after (by decide) (failedWrite_frame _ _ _ _) ((setWick_frame s _ _ _).mono (by decide))⟩
    rw [getWick_failedWrite, getWick_setWick_same]
    exact ⟨rfl, rfl, rfl, rfl, rfl, rfl⟩

end Sys2Proof.Machine
end

section
/-! SUPPORT. Readbacks, lookup confirmation and the registers of a wick (R37, R48 to R52, R56, R62, R64, R447). -/

namespace Sys2Proof.Machine

theorem exec_wickRbctlStart (l : Lan) (w : PWick) (v : W32) (s : State) :
    exec (.wickRbctlStart l w v) s = .next (rbctlWrite l.val w.val v s) := rfl

theorem exec_readbackDone (l : Lan) (w : PWick) (s : State) :
    exec (.readbackDone l w) s = .next (afterJobs (readbackDone l.val w.val s)) := rfl

theorem exec_lookupCandidateConfirm (l : Lan) (w : PWick) (col : Nat) (s : State) :
    exec (.lookupCandidateConfirm l w col) s = .next (lookupConfirm l.val w.val col s) := rfl

/-! ### Starting a readback -/

theorem rbctlWrite_starts {l w : Nat} {v : W32} {s : State} (hv : bitAt v 31 = true)
    (hst : (getWick s l w).st = .adopting ∨ (getWick s l w).st = .service) (hb : (getWick s l w).rbBusy = false)
    (hheld : s.snuf.wheld = false) : rbctlWrite l w v s = startRb l w s := by
  have hw : ¬ ((getWick s l w).st = .writing ∨ (getWick s l w).rbBusy = true) := by
    rcases hst with h | h <;> simp [h, hb]
  simp only [rbctlWrite, if_pos hv, if_neg hw, hst, hheld, Bool.not_false, and_self, if_true]

theorem rbctlWrite_refused {l w : Nat} {v : W32} {s : State} (hv : bitAt v 31 = true)
    (hst : (getWick s l w).st ∉ [.writing, .adopting, .service]) (hb : (getWick s l w).rbBusy = false) :
    rbctlWrite l w v s = setWick l w (wickCfgErr (getWick s l w)) s := by
  simp only [List.mem_cons, List.not_mem_nil, or_false, not_or] at hst
  obtain ⟨hw, ha, hs⟩ := hst
  simp only [rbctlWrite, if_pos hv, hw, ha, hs, hb, Bool.false_eq_true, or_self, false_and, if_false]

theorem rbctlWrite_ignored {l w : Nat} {v : W32} {s : State}
    (h : bitAt v 31 = false ∨ (getWick s l w).st = .writing ∨ (getWick s l w).rbBusy = true) : rbctlWrite l w v s = s := by
  unfold rbctlWrite
  rcases h with hv | hw
  · simp only [hv, Bool.false_eq_true, if_false]
  · simp only [if_pos hw, ite_self]

/-! ### The end of a readback -/

/-- A wick whose readback is over (R48, R51): `hit` is the logical wick it meets. -/
def rbOverWick (x : Wick) (hit : Option LWick) : Wick :=
  { x with
    rbBusy := false, rbLaunched := 0, rbLev := [], rbMarg := 0, rbResult := if hit.isSome then 1 else 2,
    marg := satOf 12 x.rbMarg,
    stat := setBit (if hit.isSome then x.stat else if x.rbMarg = 0 then setBit x.stat 4 else setBit (setBit x.stat 4) 5) 3 }

/-- A wick in ADOPTING whose readback is over (R443). -/
def adoptedWick (hit : Option LWick) (x : Wick) : Wick :=
  if hit.isSome then { x with st := .ready, hit := hit } else { x with st := .unowned }

/-- What a readback of all 2,048 rows leads to (R50, R51, R443, R447). -/
theorem readbackDone_eq {l w : Nat} {s : State} (hb : (getWick s l w).rbBusy = true) (hr : (getWick s l w).rbRows = 2048) :
    readbackDone l w s =
      let x := getWick s l w
      let hit := if x.rbMarg = 0 then rbHit s l x else none
      let s' := setWick l w (rbOverWick x hit) s
      if x.st = .adopting then
        adoptCheck l (updWick l w (adoptedWick hit) s')
      else if x.st = .service ∧ hit.isSome = false then
        match x.lwick with
        | none => s'
        | some lw => earlyRemap l (auditFail (ctxOfLan s' l) l w lw.val (nowF s') 0 (noteAuditFail l s'))
      else s' := by
  have hover : (getWick s l w).rbBusy = true ∧ (getWick s l w).rbRows = 2048 := ⟨hb, hr⟩
  simp only [readbackDone, if_pos hover, Bool.not_eq_true'] <;> rfl

/-- The interval's check starts a readback of a serving wick none of whose lantern's wicks is rewritten (R447, R449). -/
theorem exec_wickReadbackCheck {l : Lan} {w : PWick} {s : State} (hst : (getWick s l.val w.val).st = .service)
    (hb : (getWick s l.val w.val).rbBusy = false) (hjobs : ∀ i < 17, ∀ lw, (getWick s l.val i).job ≠ .wave lw)
    (hheld : s.snuf.wheld = false) : exec (.wickReadbackCheck l w) s = .next (startRb l.val w.val s) := by
  have hchain : (List.range 17).any (fun i => match (getWick s l.val i).job with | .wave _ => true | _ => false) = false := by
    rw [List.any_eq_false]
    intro i hi
    have hjob := hjobs i (List.mem_range.mp hi)
    split
    · rename_i lw heq
      exact absurd heq (hjob lw)
    · exact Bool.false_ne_true
  have hgo : (getWick s l.val w.val).st = .service ∧ (!(getWick s l.val w.val).rbBusy) = true ∧
      (!(List.range 17).any (fun i => match (getWick s l.val i).job with | .wave _ => true | _ => false)) = true ∧
      (!s.snuf.wheld) = true := by
    rw [hchain, hb, hheld]
    exact ⟨hst, rfl, rfl, rfl⟩
  exact congrArg _ (if_pos hgo)

/-! ### Registers -/

/-- WCK_CFG (R58, R62). -/
theorem exec_wckCfgWrite (l : Lan) (w : PWick) (v : W32) (s : State) :
    exec (.wckCfgWrite l w v) s = .next (setWick l.val w.val (
      if mayWrite (getWick s l.val w.val) = false ∨ 3 < fld v 3 0 ∨ (fld v 7 6 = 1 ∧ fld v 3 0 ≠ 0) then
        wickCfgErr (getWick s l.val w.val)
      else if 1 < fld v 7 6 then getWick s l.val w.val
      else { getWick s l.val w.val with mode := BitVec.ofNat 2 (fld v 7 6), wfmt := BitVec.ofNat 4 (fld v 3 0) }) s) := by
  change execWckCfgWrite l w v s = _
  simp only [execWckCfgWrite, Bool.not_eq_true']

/-- WCK_COLMAPn (R37, R64). -/
theorem exec_wckColmapWrite (l : Lan) (w : PWick) (n : Fin 4) (v : W32) (s : State) :
    exec (.wckColmapWrite l w n v) s = .next (setWick l.val w.val (
      if (getWick s l.val w.val).st = .service ∨ dupCols (putColmap (getWick s l.val w.val) n.val v) = true then
        wickCfgErr (getWick s l.val w.val)
      else putColmap (getWick s l.val w.val) n.val v) s) := rfl

/-! ### The obligation -/

/-- Settles O9, clause by clause: a START goes through `rbctlWrite`'s three outcomes, the end of a readback through
`readbackDone_eq`. -/
theorem wickReadbackLookupAndRegisters : Obligations.WickReadbackLookupAndRegisters := by
  unfold Obligations.WickReadbackLookupAndRegisters
  refine ⟨?starts, ?refused, ?ignored, ?meets, ?mismatch, ?adopts, ?interval, ?lookup, ?colmap, ?cfg, ?cfgRefused, ?cfgIgnored⟩
  case starts =>
    intro s l w v hv hst hb hheld
    rw [exec_wickRbctlStart, rbctlWrite_starts hv hst hb hheld]
    rfl
  case refused =>
    intro s l w v hv hst hb
    rw [exec_wickRbctlStart, rbctlWrite_refused hv hst hb]
    rfl
  case ignored =>
    intro s l w v h
    rw [exec_wickRbctlStart, rbctlWrite_ignored h]
  case meets =>
    intro s l w lw
    dsimp only
    intro hb hr hst hmarg hhit
    rw [exec_readbackDone, readbackDone_eq hb hr]
    simp only [hst, hmarg, hhit, rbOverWick, if_true, Option.isSome_some, reduceCtorEq, and_false, if_false]
    rfl
  case mismatch =>
    intro s l w lw
    dsimp only
    intro hb hr hst hlw hno
    have hhit : (if (getWick s l.val w.val).rbMarg = 0 then rbHit s l.val (getWick s l.val w.val) else none) = none := by
      rcases hno with h | h
      · exact if_neg h
      · rw [h, ite_self]
    rw [exec_readbackDone, readbackDone_eq hb hr]
    simp only [hst, hhit, hlw, rbOverWick, Option.isSome_none, reduceCtorEq, and_self, if_true, if_false, Bool.false_eq_true]
    rfl
  case adopts =>
    intro s l w
    dsimp only
    intro hb hr hst
    rw [exec_readbackDone, readbackDone_eq hb hr]
    simp only [hst, if_true]
    refine ⟨_, rfl, .after (by decide) (updWick_frame _ l.val w.val _) (setWick_frame s l.val w.val _), ?_⟩
    rw [getWick_updWick_same, getWick_setWick_same]
    generalize (if (getWick s l.val w.val).rbMarg = 0 then rbHit s l.val (getWick s l.val w.val) else none) = hit
    unfold adoptedWick rbOverWick
    cases hit <;> rfl
  case interval =>
    intro s l w hst hb hjobs hheld
    rw [exec_wickReadbackCheck hst hb hjobs hheld]
    rfl
  case lookup =>
    intro s l w col a c r hmode hacc hrun h
    obtain ⟨hcand, hagree⟩ := h
    rw [exec_lookupCandidateConfirm]
    simp only [lookupConfirm, if_pos hmode, hacc, hrun, hcand, hagree, and_self, if_true]
    rfl
  case colmap =>
    intro s l w n v
    rw [exec_wckColmapWrite]
    split
    · rfl
    · fin_cases n <;> rfl
  case cfg =>
    intro s l w v hmay hfmt hmode
    have hok : ¬ (mayWrite (getWick s l.val w.val) = false ∨ 3 < fld v 3 0 ∨ (fld v 7 6 = 1 ∧ fld v 3 0 ≠ 0)) := by
      rw [hmay]; simp only [Bool.true_eq_false, false_or]; omega
    rw [exec_wckCfgWrite, if_neg hok, if_neg (by omega)]
  case cfgRefused =>
    intro s l w v h
    rw [exec_wckCfgWrite, if_pos h]
    rfl
  case cfgIgnored =>
    intro s l w v hmay hfmt hmode
    have hok : ¬ (mayWrite (getWick s l.val w.val) = false ∨ 3 < fld v 3 0 ∨ (fld v 7 6 = 1 ∧ fld v 3 0 ≠ 0)) := by
      rw [hmay]; simp only [Bool.true_eq_false, false_or]; omega
    rw [Runs, exec_wckCfgWrite, if_neg hok, if_pos hmode]
    exact ⟨_, rfl, getWick_setWick_same _ _ _ _, fun k hk => wicks_setWick_ne hk _ s, setWick_frame s _ _ _⟩

end Sys2Proof.Machine
end

section
/-! SUPPORT. Registers at reset: an address of the die control window or of lantern 0's window reads what its window holds at the
offset, and at reset the listed offsets hold the manual's values. -/

namespace Sys2Proof.Machine

/-- What offsets of the die control window hold is what their addresses read (R265). -/
theorem readReg_dieWin_values {l : List (Nat × W32)} {s : State} (h : ∀ p ∈ l, p.1 < 0x100000 ∧ readDieWin s p.1 = p.2) :
    ∀ p ∈ l, (readReg (dieWinBase + p.1) s).map (fun r => r.1) = some p.2 := by
  intro p hp
  obtain ⟨hoff, hval⟩ := h p hp
  rw [readReg_dieWin hoff, Option.map_some, hval]

/-- What offsets of the first lantern's window hold is what their addresses read (R265). -/
theorem readReg_lanWin_values {l : List (Nat × W32)} {s : State} (h : ∀ p ∈ l, p.1 < 0x10000 ∧ readLanWin s 0 p.1 = p.2) :
    ∀ p ∈ l, (readReg (lanWinBase + p.1) s).map (fun r => r.1) = some p.2 := by
  intro p hp
  obtain ⟨hoff, hval⟩ := h p hp
  have hin : lanWinBase ≤ lanWinBase + p.1 ∧ lanWinBase + p.1 < lanWinBase + 1088 * 0x10000 := by omega
  have hlan : (lanWinBase + p.1 - lanWinBase) / 0x10000 = 0 := by omega
  have hmod : (lanWinBase + p.1) % 0x10000 = p.1 := by simp only [lanWinBase]; omega
  simp only [readReg, if_pos hin, hlan, hmod, Option.map_some, hval]

/-- Settles O43: at the listed offsets the windows of `State.reset` hold the listed values, which is a finite computation. -/
theorem resetRegisters : Obligations.ResetRegisters := by
  unfold Obligations.ResetRegisters
  refine ⟨readReg_dieWin_values ?_, readReg_dieWin_values ?_, readReg_dieWin_values ?_, readReg_lanWin_values ?_,
    readReg_lanWin_values ?_, readReg_lanWin_values ?_⟩
  · decide +kernel
  · decide +kernel
  · decide +kernel
  · decide +kernel
  · decide +kernel
  · decide +kernel

end Sys2Proof.Machine
end

section
/-! SUPPORT. Suspect lanterns (R245, R246), check-store errors (R216, R231) and the early remap (R196, R231): what an event of
R245 leaves of the lantern, of every wick and of the rest. -/

namespace Sys2Proof.Machine

theorem getLan_setLan_same (l : Nat) (v : Lantern) (s : State) : getLan (setLan l v s) l = v := by
  simp

theorem getLan_updLan_same (l : Nat) (f : Lantern → Lantern) (s : State) : getLan (updLan l f s) l = f (getLan s l) := by
  simp

/-! ### Wicks that are only marked for an early full trim -/

/-- Every wick of the second state is the first's, or that one marked for an early full trim. -/
def MarkedEarly (s t : State) : Prop :=
  ∀ l w, ∃ b, getWick t l w = { getWick s l w with early := (getWick s l w).early || b }

theorem MarkedEarly.of_same {s t : State} (h : ∀ l w, getWick t l w = getWick s l w) : MarkedEarly s t :=
  fun l w => ⟨false, by rw [h l w, Bool.or_false]⟩

theorem MarkedEarly.refl (s : State) : MarkedEarly s s := .of_same fun _ _ => rfl

theorem MarkedEarly.trans {s t u : State} (h : MarkedEarly s t) (k : MarkedEarly t u) : MarkedEarly s u := by
  intro l w
  obtain ⟨b, hb⟩ := h l w
  obtain ⟨c, hc⟩ := k l w
  exact ⟨b || c, by rw [hc, hb, Bool.or_assoc]⟩

theorem markedEarly_foldl {α : Type} {g : State → α → State} (hg : ∀ s x, MarkedEarly s (g s x)) (l : List α) (s : State) :
    MarkedEarly s (l.foldl g s) := by
  induction l generalizing s with
  | nil => exact .refl s
  | cons x l ih => exact (hg s x).trans (ih _)

theorem markedEarly_mark (l w : Nat) (s : State) : MarkedEarly s (updWick l w (fun x => { x with early := true }) s) := by
  intro l' w'
  rw [getWick_updWick]
  split
  · rename_i h
    exact ⟨true, by rw [Bool.or_true, getWick, getWick, h]⟩
  · exact ⟨false, by rw [Bool.or_false]⟩

/-- A mark stays. -/
theorem MarkedEarly.early {s t : State} (h : MarkedEarly s t) {l w : Nat} (he : (getWick s l w).early = true) :
    (getWick t l w).early = true := by
  obtain ⟨b, hb⟩ := h l w
  rw [hb, he, Bool.true_or]

/-! ### A raised supply and an event of R245 -/

theorem raiseSupply_frame (n : Nat) (s : State) : Frame [.wicks, .scn] s (raiseSupply n s) := by
  have hmark (p : Nat) (a : State) (w : Nat) : Frame [.wicks] a
      (if (getWick a p w).st = .service then updWick p w (fun x => { x with early := true }) a else a) :=
    (updWick_frame a p w _).ite (Frame.refl _ a)
  unfold raiseSupply
  refine Frame.ite ((updScn_frame s n _).mono (by decide)) ?_
  exact .after (by decide) (frame_foldl (fun a p => frame_foldl (hmark p) (List.range 17) a) _ _)
    ((updScn_frame s n _).mono (by decide))

theorem raiseSupply_marks (n : Nat) (s : State) : MarkedEarly s (raiseSupply n s) := by
  have hmark (p : Nat) (a : State) (w : Nat) : MarkedEarly a
      (if (getWick a p w).st = .service then updWick p w (fun x => { x with early := true }) a else a) := by
    split
    · exact markedEarly_mark p w a
    · exact .refl a
  unfold raiseSupply
  split
  · exact .of_same fun _ _ => rfl
  · refine MarkedEarly.trans ?_ (markedEarly_foldl (fun a p => markedEarly_foldl (hmark p) (List.range 17) a) _ _)
    exact .of_same fun _ _ => rfl

/-- The lantern's last event of R245 lies within 1,048,576 of its flares (R246). -/
def eventAgain (v : Lantern) : Bool :=
  match v.lastEvent with
  | none => false
  | some t => decide (v.flares.val.toNat ≤ t + 1048576)

/-- What an event of R245 makes of its lantern (R246). -/
def suspectLan (v : Lantern) : Lantern :=
  { v with
    suspect := true, lastEvent := some v.flares.val.toNat,
    stepBase := if v.suspect then v.stepBase else none,
    ivalNext := if v.suspect then (if eventAgain v = true ∧ ivalSet v ≠ 3 then some (ivalSet v + 1) else v.ivalNext)
      else some (if ivalSet v = 3 then 3 else ivalSet v + 1),
    remapDue := if v.suspect then v.remapDue || ivalSet v == 3 else v.remapDue,
    chkStat := if v.suspect then v.chkStat else setBit v.chkStat 5 }

/-- What follows where a lantern has become suspect at an interval: an ember, and at four of a sconce a supply raise (R246). -/
def suspectFollows (l : Nat) (i : BitVec 2) (s : State) : State :=
  let u := ember 2 0x0203 l (ctxIdOf s (ownerOfLan s l)) (ivalAclk i) s
  if 4 ≤ suspCount u (sconceOf l) then raiseSupply (sconceOf l) u else u

theorem suspectFollows_frame (l : Nat) (i : BitVec 2) (s : State) :
    Frame [.wicks, .scn, .gvl, .mbx, .posted, .mgt] s (suspectFollows l i s) := by
  unfold suspectFollows
  exact Frame.ite (.after (by decide) (raiseSupply_frame _ _) ((ember_frame _ _ _ _ _ s).mono (by decide)))
    ((ember_frame _ _ _ _ _ s).mono (by decide))

theorem suspectFollows_marks (l : Nat) (i : BitVec 2) (s : State) : MarkedEarly s (suspectFollows l i s) := by
  have hember : MarkedEarly s (ember 2 0x0203 l (ctxIdOf s (ownerOfLan s l)) (ivalAclk i) s) :=
    .of_same fun k w => (ember_frame _ _ _ _ _ _).getWick k w (by decide)
  unfold suspectFollows
  dsimp only
  split
  · exact hember.trans (raiseSupply_marks _ _)
  · exact hember

/-- An event of R245 is the lantern's change, and on one that was not suspect what follows. -/
theorem suspectEvent_eq (l : Nat) (s : State) :
    suspectEvent l s = if (getLan s l).suspect then setLan l (suspectLan (getLan s l)) s else
      suspectFollows l (if ivalSet (getLan s l) = 3 then 3 else ivalSet (getLan s l) + 1) (setLan l (suspectLan (getLan s l)) s) := by
  by_cases h : (getLan s l).suspect = true
  · simp only [suspectEvent, suspectLan, h, if_true]
    rfl
  · simp only [suspectEvent, suspectFollows, suspectLan, if_neg h]

/-- What an event of R245 may touch. -/
theorem suspectEvent_frame (l : Nat) (s : State) : Frame [.wicks, .lans, .scn, .gvl, .mbx, .posted, .mgt] s (suspectEvent l s) := by
  rw [suspectEvent_eq]
  exact Frame.ite ((setLan_frame s l _).mono (by decide))
    (.after (by decide) (suspectFollows_frame l _ _) ((setLan_frame s l _).mono (by decide)))

/-- Of the lanterns an event of R245 changes its own alone. -/
theorem getLan_suspectEvent (l : Nat) (s : State) : getLan (suspectEvent l s) l = suspectLan (getLan s l) := by
  rw [suspectEvent_eq]
  split
  · exact getLan_setLan_same l _ s
  · rw [(suspectFollows_frame l _ _).getLan _ (by decide), getLan_setLan_same]

theorem suspectEvent_marks (l : Nat) (s : State) : MarkedEarly s (suspectEvent l s) := by
  have hset : MarkedEarly s (setLan l (suspectLan (getLan s l)) s) := .of_same fun _ _ => rfl
  rw [suspectEvent_eq]
  split
  · exact hset
  · exact hset.trans (suspectFollows_marks l _ _)

@[simp] theorem suspectLan_subst (v : Lantern) : (suspectLan v).subst = v.subst := rfl

/-! ### Check-store errors -/

/-- Check-store entries that ECC finds bad and that were not bad before. -/
def newBad (x : Wick) (bad : List Nat) : List Nat := bad.filter (fun k => !(x.rsBad.contains k))

/-- The state new check-store errors leave before the event of R245 that they are (R216, R231). -/
def storeMarked (l w : Nat) (lw : Option Nat) (bad : List Nat) (s : State) : State :=
  let s' := setWick l w { getWick s l w with rsBad := (getWick s l w).rsBad ++ newBad (getWick s l w) bad, early := true } s
  match lw with
  | none => s'
  | some i => updLan l (fun v => { v with subst := setBit v.subst i }) s'

theorem storeErrors_new {l w : Nat} (lw : Option Nat) {bad : List Nat} {s : State} (h : newBad (getWick s l w) bad ≠ []) :
    storeErrors l w lw bad s = suspectEvent l (storeMarked l w lw bad s) := by
  cases lw with
  | none => exact if_neg h
  | some i => exact if_neg h

theorem storeMarked_frame (l w : Nat) (lw : Option Nat) (bad : List Nat) (s : State) :
    Frame [.wicks, .lans] s (storeMarked l w lw bad s) := by
  unfold storeMarked
  cases lw with
  | none => exact (setWick_frame s l w _).mono (by decide)
  | some i => exact .after (by decide) (updLan_frame _ l _) ((setWick_frame s l w _).mono (by decide))

theorem getWick_storeMarked (l w : Nat) (lw : Option Nat) (bad : List Nat) (s : State) :
    getWick (storeMarked l w lw bad s) l w =
      { getWick s l w with rsBad := (getWick s l w).rsBad ++ newBad (getWick s l w) bad, early := true } := by
  unfold storeMarked
  cases lw with
  | none => exact getWick_setWick_same l w _ s
  | some i => exact getWick_setWick_same l w _ s

theorem getLan_storeMarked (l w : Nat) (lw : Option Nat) (bad : List Nat) (s : State) :
    getLan (storeMarked l w lw bad s) l =
      match lw with | none => getLan s l | some i => { getLan s l with subst := setBit (getLan s l).subst i } := by
  unfold storeMarked
  cases lw with
  | none => rfl
  | some i => exact getLan_updLan_same l _ _

/-! ### The early remap and the decay -/

theorem earlyRemap_withheld {s : State} (h : s.snuf.wheld = true) (l : Nat) : earlyRemap l s = s := by
  unfold earlyRemap
  dsimp only
  split
  · exact if_neg fun hc => by simp [h] at hc
  · rfl

/-- Without a mark or a pending remap nothing follows (R196, R231). -/
theorem earlyRemap_idle {l : Nat} {s : State} (hdue : (getLan s l).remapDue = false)
    (h : (getLan s l).spare.isSome = true ∨ ∀ lw < 16, (getWick s l (mapOf (getLan s l) lw)).early = false) :
    earlyRemap l s = s := by
  have hquiet : ¬ ((getLan s l).remapDue = true ∨ ((getLan s l).spare.isNone = true ∧
      (List.range 16).any (fun lw => (getWick s l (mapOf (getLan s l) lw)).early) = true)) := by
    rintro (hr | ⟨hnone, hany⟩)
    · simp [hdue] at hr
    · rcases h with hsome | hearly
      · rw [Option.isNone_iff_eq_none] at hnone
        simp [hnone] at hsome
      · obtain ⟨lw, hlw, he⟩ := List.any_eq_true.mp hany
        rw [hearly lw (List.mem_range.mp hlw)] at he
        exact Bool.false_ne_true he
  unfold earlyRemap
  dsimp only
  split
  · exact if_neg fun ⟨_, _, hwant⟩ => hquiet hwant
  · rfl

end Sys2Proof.Machine
end

section
/-! SUPPORT. A completed step (R28) by its kind: what a flare step, a probe row, a trim probe step and a drive-reference step
leave of their wick and their lantern. -/

namespace Sys2Proof.Machine

/-- The oldest step in flight of a wick, and the steps that stay (R28). -/
def landing (l w : Nat) (s : State) : Option (Flight × List Flight) :=
  takeFirst (fun (f : Flight) => f.lan.val == l && f.pw.val == w) s.lmp.flights

/-- The state in which a step's codes are taken: it has left the air. -/
def landed (rest : List Flight) (s : State) : State := { s with lmp := { s.lmp with flights := rest } }

section
variable {s : State} {l : Lan} {w : PWick} {err : List (Nat × Int)} {bad : List Nat} {f : Flight} {rest : List Flight}

theorem exec_step_none (h : landing l.val w.val s = none) : exec (.wickStepComplete l w err bad) s = .next s := by
  change execWickStepComplete l w err bad s = _
  simp only [landing] at h
  simp only [execWickStepComplete, takeFlight, h]

/-- A discarded step leaves the air and nothing else (R58). -/
theorem exec_step_dead (h : landing l.val w.val s = some (f, rest)) (hd : f.dead = true) :
    exec (.wickStepComplete l w err bad) s = .next (landed rest s) := by
  change execWickStepComplete l w err bad s = _
  simp only [landing] at h
  simp only [execWickStepComplete, takeFlight, h, if_pos hd, landed]

theorem exec_step_probe (h : landing l.val w.val s = some (f, rest)) (hd : f.dead = false) (hk : f.kind = .probe) :
    exec (.wickStepComplete l w err bad) s = .next (stepProbe l.val w.val f err (landed rest s)) := by
  change execWickStepComplete l w err bad s = _
  simp only [landing] at h
  simp only [execWickStepComplete, takeFlight, h, hd, hk, Bool.false_eq_true, if_false, landed]

theorem exec_step_flare {id : Nat} {lw : LWick} {sl : Nat} {lp fb rot lk : Bool} (h : landing l.val w.val s = some (f, rest))
    (hd : f.dead = false) (hk : f.kind = .flare id lw sl lp fb rot lk) :
    exec (.wickStepComplete l w err bad) s = .next (earlyRemap l.val (stepFlare l.val w.val f id lw sl lp fb rot lk err
      (storeErrors l.val w.val (some lw.val) bad (landed rest s)))) := by
  change execWickStepComplete l w err bad s = _
  simp only [landing] at h
  simp only [execWickStepComplete, takeFlight, h, hd, hk, Bool.false_eq_true, if_false, landed]

theorem exec_step_trim (h : landing l.val w.val s = some (f, rest)) (hd : f.dead = false) (hk : f.kind = .trim) :
    exec (.wickStepComplete l w err bad) s =
      .next (earlyRemap l.val (stepTrim l.val w.val f err (storeErrors l.val w.val none bad (landed rest s)))) := by
  change execWickStepComplete l w err bad s = _
  simp only [landing] at h
  simp only [execWickStepComplete, takeFlight, h, hd, hk, Bool.false_eq_true, if_false, landed]

theorem exec_step_drive {tap : Nat} {b : Bool} (h : landing l.val w.val s = some (f, rest)) (hd : f.dead = false)
    (hk : f.kind = .drive tap b) :
    exec (.wickStepComplete l w err bad) s =
      .next (earlyRemap l.val (stepDrive l.val w.val f tap b err (storeErrors l.val w.val none bad (landed rest s)))) := by
  change execWickStepComplete l w err bad s = _
  simp only [landing] at h
  simp only [execWickStepComplete, takeFlight, h, hd, hk, Bool.false_eq_true, if_false, landed]

end

/-! ### A flare step -/

/-- The verdict on a fired group (R31, R217): saturated, in order, or failing the row-sum check in some groups. -/
def verdict (x : Wick) (f : Flight) (v : List Int × Bool) : GrpSt :=
  let chk := rowSumCheck x f.x v.1 (2 ^ f.e) (bandsP x) (bandsI x)
  if v.2 then .sat else if chk = [] then .ok else .rsFail chk

/-- What a flare step leaves of its lantern but for its slots (R107, R111): `first` where its moments count, `acc` and `g` its slice
and group. -/
def flareLan (first : Bool) (slice : Nat) (f : Flight) (sat : Bool) (st : GrpSt) (acc : SliceAcc) (g : Grp) (v : Lantern) : Lantern :=
  let v := { v with accs := addGroup acc g v.accs, stat := if sat then setBit v.stat 1 else v.stat,
                    chkStat := if st = .ok ∨ st = .sat then v.chkStat else setBit v.chkStat 0 }
  if first then addMoments slice f.x (f.last) v else v

/-- What a flare step leaves of its wick (R186). -/
def flareWick (f : Flight) (sat lookup rot : Bool) (err : List (Nat × Int)) (x : Wick) : Wick :=
  let x := { x with stat := if sat then setBit x.stat 0 else x.stat }
  if lookup then x else addWindow f err rot x

/-- Holding a flare's slot changes no more of the lantern than its slots (R103). -/
theorem getLan_holdIfDone (c id l : Nat) (s : State) :
    ∃ a b, getLan (holdIfDone c id l s) l = { getLan s l with slot0 := a, slot1 := b } := by
  have hself : ∃ a b, getLan s l = { getLan s l with slot0 := a, slot1 := b } := ⟨_, _, rfl⟩
  have hset (one : Bool) (x : Slot) : ∃ a b, setSlot (getLan s l) one x = { getLan s l with slot0 := a, slot1 := b } := by
    cases one <;> exact ⟨_, _, rfl⟩
  unfold holdIfDone
  dsimp only
  split
  · exact hself
  · split
    · exact hself
    · split
      · exact hself
      · rw [getLan_updLan_same]
        split
        · exact hset _ _
        · exact hself

theorem holdIfDone_frame (c id l : Nat) (s : State) : Frame [.lans] s (holdIfDone c id l s) := by
  unfold holdIfDone
  dsimp only
  split
  · exact Frame.refl _ s
  · refine (Frame.refl _ s).ite ?_
    split
    · exact Frame.refl _ s
    · exact updLan_frame s l _

/-- The state a flare step's moments are taken in: a full window of its slice is handed over first (R111). -/
def windowed (l : Nat) (first : Bool) (slice : Nat) (s : State) : State := if first then windowFull l slice s else s

/-- A flare step's group in the reduction tree (R107). -/
def flareGroup (f : Flight) (vals : List Int) (st : GrpSt) : Grp :=
  { e := f.e, gidx := f.gidx, gcnt := f.gcnt, lo := f.lo, hi := f.hi, vals := vals, fired := vals, st := st }

/-- What a flare step's verdict counts in its run. -/
def flareRun (sat : Bool) (st : GrpSt) (a : FlareRun) : FlareRun :=
  { a with flying := a.flying - 1, checks := if sat then a.checks else a.checks + 4, redo := if st = .ok then a.redo else a.redo + 1 }

theorem stepFlare_eq {l w : Nat} {f : Flight} {id : Nat} {lw : LWick} {slice : Nat} {lpass fallback rot lookup : Bool}
    {err : List (Nat × Int)} {s : State} {c : Nat} {r : FlareRun} (h : findRun s id = some (c, r)) :
    stepFlare l w f id lw slice lpass fallback rot lookup err s =
      let first := countsFor (getLan s l) lw.val slice
      let z := windowed l first slice s
      let v := groupVals (getWick z l w) f lookup err
      let st := verdict (getWick z l w) f v
      let acc : SliceAcc := { flare := id, lw := lw, pw := f.pw, slice := slice, lpass := lpass, fallback := fallback, groups := [] }
      holdIfDone c id l (updRun c id (flareRun v.2 st) (updWick l w (flareWick f v.2 lookup rot err)
        (updLan l (flareLan first slice f v.2 st acc (flareGroup f v.1 st)) z))) := by
  simp only [stepFlare, h]
  rfl

section
variable (first : Bool) (slice : Nat) (f : Flight) (sat : Bool) (st : GrpSt) (acc : SliceAcc) (g : Grp) (v : Lantern)

theorem flareLan_accs : (flareLan first slice f sat st acc g v).accs = addGroup acc g v.accs := by
  cases first <;> rfl
theorem flareLan_stat : (flareLan first slice f sat st acc g v).stat = if sat then setBit v.stat 1 else v.stat := by
  cases first <;> rfl
theorem flareLan_chkStat :
    (flareLan first slice f sat st acc g v).chkStat = if st = .ok ∨ st = .sat then v.chkStat else setBit v.chkStat 0 := by
  cases first <;> rfl
theorem flareLan_x1 :
    (flareLan first slice f sat st acc g v).x1 = if first then (addMoments slice f.x f.last v).x1 else v.x1 := by
  cases first <;> rfl
theorem flareLan_x2 :
    (flareLan first slice f sat st acc g v).x2 = if first then (addMoments slice f.x f.last v).x2 else v.x2 := by
  cases first <;> rfl
theorem flareLan_momSteps :
    (flareLan first slice f sat st acc g v).momSteps = if first then (addMoments slice f.x f.last v).momSteps else v.momSteps := by
  cases first <;> rfl

end

section
variable {l w : Nat} {f : Flight} {id : Nat} {lw : LWick} {slice : Nat} {lp fb rot lk : Bool} {err : List (Nat × Int)} {s : State}
  {c : Nat} {r : FlareRun}

/-- A flare step touches its wick, its lantern and its run; the window handed over before it is counted apart (R111). -/
theorem stepFlare_frame (h : findRun s id = some (c, r)) :
    Frame [.lans, .wicks, .lctx] (windowed l (countsFor (getLan s l) lw.val slice) slice s)
      (stepFlare l w f id lw slice lp fb rot lk err s) := by
  rw [stepFlare_eq h]
  exact .after (by decide) (holdIfDone_frame _ _ _ _) <| .after (by decide) (updRun_frame _ _ _ _) <|
    .after (by decide) (updWick_frame _ _ _ _) ((updLan_frame _ _ _).mono (by decide))

theorem getWick_stepFlare (h : findRun s id = some (c, r)) :
    getWick (stepFlare l w f id lw slice lp fb rot lk err s) l w =
      let x := getWick (windowed l (countsFor (getLan s l) lw.val slice) slice s) l w
      flareWick f (groupVals x f lk err).2 lk rot err x := by
  rw [stepFlare_eq h, (holdIfDone_frame _ _ _ _).getWick _ _ (by decide), (updRun_frame _ _ _ _).getWick _ _ (by decide),
    getWick_updWick_same, getWick_updLan]

theorem getLan_stepFlare (h : findRun s id = some (c, r)) :
    let first := countsFor (getLan s l) lw.val slice
    let z := windowed l first slice s
    let v := groupVals (getWick z l w) f lk err
    let st := verdict (getWick z l w) f v
    ∃ a b, getLan (stepFlare l w f id lw slice lp fb rot lk err s) l = { flareLan first slice f v.2 st
      { flare := id, lw := lw, pw := f.pw, slice := slice, lpass := lp, fallback := fb, groups := [] } (flareGroup f v.1 st)
      (getLan z l) with slot0 := a, slot1 := b } := by
  rw [stepFlare_eq h]
  obtain ⟨a, b, hold⟩ := getLan_holdIfDone c id l (updRun c id (flareRun _ _) (updWick l w (flareWick f _ lk rot err)
    (updLan l (flareLan (countsFor (getLan s l) lw.val slice) slice f _ _ _ _) _)))
  refine ⟨a, b, hold.trans ?_⟩
  rw [(updRun_frame _ _ _ _).getLan _ (by decide), (updWick_frame _ _ _ _).getLan _ (by decide), getLan_updLan_same]

end

/-! ### Probe steps -/

theorem addWindow_probeFail (f : Flight) (err : List (Nat × Int)) (rot : Bool) (x : Wick) :
    (addWindow f err rot x).probeFail = x.probeFail := by
  unfold addWindow
  dsimp only
  split <;> rfl

theorem stepTrim_frame (l w : Nat) (f : Flight) (err : List (Nat × Int)) (s : State) :
    Frame [.lans, .wicks] s (stepTrim l w f err s) := by
  unfold stepTrim
  exact .after (by decide) (updWick_frame _ _ _ _) ((updLan_frame s l _).mono (by decide))

theorem getLan_stepTrim (l w : Nat) (f : Flight) (err : List (Nat × Int)) (s : State) :
    getLan (stepTrim l w f err s) l = addMoments 16 f.x f.last (getLan s l) := by
  unfold stepTrim
  rw [getLan_updWick, getLan_updLan_same]

/-- Whether a probe step fails the row-sum check (R222). -/
def probeBad (x : Wick) (f : Flight) (err : List (Nat × Int)) : Bool :=
  !(rowSumCheck x f.x (groupVals x f false err).1 (2 ^ f.e) (bandsP x) (bandsI x)).isEmpty

/-- A trim probe step adds to its wick's window, its check and, in window 2, its residuals (R191, R192, R222). -/
theorem getWick_stepTrim (l w : Nat) (f : Flight) (err : List (Nat × Int)) (s : State) :
    ∃ r, getWick (stepTrim l w f err s) l w = { addWindow f err true (getWick s l w) with
      probeFail := (getWick s l w).probeFail || probeBad (getWick s l w) f err, resid := r } := by
  unfold stepTrim
  rw [getWick_updWick_same, getWick_updLan, ← addWindow_probeFail f err true]
  exact ⟨_, rfl⟩

theorem stepDrive_frame (l w : Nat) (f : Flight) (tap : Nat) (b : Bool) (err : List (Nat × Int)) (s : State) :
    Frame [.lans, .wicks] s (stepDrive l w f tap b err s) := by
  unfold stepDrive
  exact .after (by decide) (updLan_frame _ _ _) ((updWick_frame s l w _).mono (by decide))

/-- A drive-reference step joins its tap's sum while the calibration runs (R198). -/
theorem getLan_stepDrive {l : Nat} (w : Nat) (f : Flight) (tap : Nat) (b : Bool) (err : List (Nat × Int)) {s : State}
    (h : (getLan s l).phase = .drRun) :
    getLan (stepDrive l w f tap b err s) l =
      let k := sumI (mappedCodes (getWick s l w) f err)
      if b then { getLan s l with drGot := (getLan s l).drGot + 1, drB := Tab.upd 0 (getLan s l).drB tap (fun y => y + k) }
      else { getLan s l with drGot := (getLan s l).drGot + 1, drA := Tab.upd 0 (getLan s l).drA tap (fun y => y + k) } := by
  unfold stepDrive
  rw [getLan_updLan_same, getLan_updWick, if_pos h]

/-- A probe row that is not the one due leaves the wick (R48). -/
theorem stepProbe_undue {l w : Nat} {f : Flight} (err : List (Nat × Int)) {s : State}
    (h : ¬ ((getWick s l w).rbBusy = true ∧ f.lo = (getWick s l w).rbRows.toNat)) :
    stepProbe l w f err s = setWick l w (getWick s l w) s :=
  congrArg (fun x => setWick l w x s) (if_neg h)

/-- The probe row that is due gives its levels and its marginal cells (R48, R51). -/
theorem stepProbe_due {l w : Nat} {f : Flight} (err : List (Nat × Int)) {s : State}
    (h : (getWick s l w).rbBusy = true ∧ f.lo = (getWick s l w).rbRows.toNat) :
    stepProbe l w f err s =
      let x := getWick s l w
      let cs := (mappedCodes x f err).map (fun k => (nearLevel k, k))
      setWick l w { x with
        rbRows := x.rbRows + 1,
        rbLev := (withPos 0 cs).foldl (fun t p => Tab.set 8 t (f.lo * 512 + p.1) p.2.1) x.rbLev,
        rbMarg := x.rbMarg + (cs.filter (fun p => 2 ≤ (4 * (p.1 : Int) - p.2).natAbs)).length } s :=
  congrArg (fun x => setWick l w x s) (if_pos h)

end Sys2Proof.Machine
end

section
/-! SUPPORT. Exact recomputation (R219, R220) and audits (R227 to R229): what a recomputed slice and a compared audit copy leave. -/

namespace Sys2Proof.Machine

/-! ### A recomputed slice -/

/-- The exact values of a waiting group with the errors the event reports. -/
def redoVals (s : State) (l c : Nat) (r : FlareRun) (a : SliceAcc) (g : Grp) (err : List (Nat × Int)) : List Int :=
  (withPos 0 (exactVals s c (getLan s l).epoch (lanLL (getLan s l)) a.lw.val (redoInputs s l r a g))).map
    (fun p => p.2 + errAt err p.1)

/-- The values meet the exact prediction (R219). -/
def redoMeets (s : State) (l w c : Nat) (r : FlareRun) (a : SliceAcc) (g : Grp) (err : List (Nat × Int)) : Bool :=
  exactCheck (getWick s l w) (shadowW s c (getLan s l).epoch (lanLL (getLan s l)) a.lw.val) (redoInputs s l r a g)
    (redoVals s l c r a g err)

/-- The state in which a resolved group's values stand and are counted, its fired ones given (R219). -/
def redone (l c : Nat) (a : SliceAcc) (g g' : Grp) (s : State) : State :=
  let s := updLan l (fun v => { v with accs := putGroup a g g' v.accs }) s
  let s := { s with chk := { s.chk with resolved := satInc s.chk.resolved } }
  updRun c a.flare (fun q => { q with redo := q.redo - 1, resolved := q.resolved + 1, checks := q.checks + 4 }) s

section
variable {s : State} {l w c : Nat} {r : FlareRun} {a : SliceAcc} {g : Grp} {err : List (Nat × Int)}

theorem sliceRedone_none (h : redoOf (getLan s l) w = none) : sliceRedone l w err s = s := by
  simp only [sliceRedone, h]

/-- A saturated slice is resolved (R219); it counts at its wick where the wick is not substituted (R31). -/
theorem sliceRedone_sat (hg : redoOf (getLan s l) w = some (a, g)) (hr : findRun s a.flare = some (c, r))
    (hm : redoMeets s l w c r a g err = true) (hst : g.st = .sat) :
    sliceRedone l w err s =
      let vals := redoVals s l c r a g err
      let t := redone l c a g { g with vals := vals, fired := vals, st := .ok } s
      if (getLan s l).substNow.toNat / 2 ^ a.lw.val % 2 = 1 then t else updWick l w (fun x => { x with sats := x.sats + 1 }) t := by
  simp only [redoMeets, redoVals] at hm
  simp only [sliceRedone, hg, hr, hm, hst, if_true]
  rfl

/-- A failure of the row-sum check is resolved, counted and located (R219, R220). -/
theorem sliceRedone_rsFail {fs : List (Nat × Option Nat)} (hg : redoOf (getLan s l) w = some (a, g))
    (hr : findRun s a.flare = some (c, r)) (hm : redoMeets s l w c r a g err = true) (hst : g.st = .rsFail fs) :
    sliceRedone l w err s =
      let vals := redoVals s l c r a g err
      let t := updRun c a.flare (fun q => { q with clean := false })
        (updLan l (writeLoc w fs g.e g.vals vals) (redone l c a g { g with vals := vals, st := .ok } s))
      countRsFail l (ember 1 0x0201 l (ctxIdOf t (ownerOfLan t l)) (locWord (getLan t l)) t) := by
  simp only [redoMeets, redoVals] at hm
  simp only [sliceRedone, hg, hr, hm, hst, if_true]
  rfl

/-- A slice that misses its exact prediction withholds with cause 01 (R219). -/
theorem sliceRedone_misses (hg : redoOf (getLan s l) w = some (a, g)) (hr : findRun s a.flare = some (c, r))
    (hm : redoMeets s l w c r a g err = false) :
    sliceRedone l w err s = withhold 0x01 l (updLan l (fun v => { v with chkStat := setBit v.chkStat 1 }) s) := by
  simp only [redoMeets, redoVals] at hm
  simp only [sliceRedone, hg, hr, hm, Bool.false_eq_true, if_false]

end

section
variable (l c : Nat) (a : SliceAcc) (g g' : Grp) (s : State)

theorem redone_frame : Frame [.lans, .lctx, .chk] s (redone l c a g g' s) := by
  unfold redone
  exact .after (by decide) (updRun_frame _ _ _ _) <| .after (by decide) (frame_chk _ _) ((updLan_frame s l _).mono (by decide))

theorem redone_chk : (redone l c a g g' s).chk = { s.chk with resolved := satInc s.chk.resolved } := rfl

theorem getLan_redone : getLan (redone l c a g g' s) l = { getLan s l with accs := putGroup a g g' (getLan s l).accs } := by
  unfold redone
  rw [(updRun_frame _ _ _ _).getLan _ (by decide), (frame_chk _ _).getLan _ (by decide), getLan_updLan_same]

end

/-- Where a failure lies is found without the slices and changes neither them nor the count (R220). -/
theorem writeLoc_accs (w : Nat) (fs : List (Nat × Option Nat)) (e : Nat) (an ex : List Int) (v : Lantern) (x : List SliceAcc) :
    writeLoc w fs e an ex { v with accs := x } = { writeLoc w fs e an ex v with accs := x } := by
  unfold writeLoc
  dsimp only
  split <;> rfl

theorem writeLoc_rsfails (w : Nat) (fs : List (Nat × Option Nat)) (e : Nat) (an ex : List Int) (v : Lantern) :
    (writeLoc w fs e an ex v).rsfails = v.rsfails := by
  unfold writeLoc
  dsimp only
  split <;> rfl

/-- The flares of the last four resolved row-sum failures within 65,536 (R220, R231). -/
def recentRsFails (v : Lantern) : List Nat :=
  lastN 4 ((v.rsFlares.filter (fun t => v.flares.val.toNat ≤ t + 65536)) ++ [v.flares.val.toNat])

theorem countRsFail_eq (l : Nat) (s : State) :
    countRsFail l s =
      let t := setLan l { getLan s l with rsfails := (getLan s l).rsfails + 1, rsFlares := recentRsFails (getLan s l) } s
      if (recentRsFails (getLan s l)).length = 4 then suspectEvent l t else t := rfl

theorem countRsFail_frame (l : Nat) (s : State) : Frame [.wicks, .lans, .scn, .gvl, .mbx, .posted, .mgt] s (countRsFail l s) := by
  rw [countRsFail_eq]
  exact Frame.ite (.after (by decide) (suspectEvent_frame l _) ((setLan_frame s l _).mono (by decide)))
    ((setLan_frame s l _).mono (by decide))

/-- A resolved row-sum failure counts, and leaves the slices and the place as they are (R220). -/
theorem getLan_countRsFail (l : Nat) (s : State) :
    (getLan (countRsFail l s) l).accs = (getLan s l).accs ∧ (getLan (countRsFail l s) l).rsfails = (getLan s l).rsfails + 1 ∧
      locWord (getLan (countRsFail l s) l) = locWord (getLan s l) := by
  rw [countRsFail_eq]
  dsimp only
  split
  · rw [getLan_suspectEvent, getLan_setLan_same]
    exact ⟨rfl, rfl, rfl⟩
  · rw [getLan_setLan_same]
    exact ⟨rfl, rfl, rfl⟩

/-! ### Bits of a mask -/

theorem div_mod_iff_getLsbD {n : Nat} (x : BitVec n) (i : Nat) : x.toNat / 2 ^ i % 2 = 1 ↔ x.getLsbD i = true := by
  rw [← BitVec.testBit_toNat, Nat.testBit_eq_decide_div_mod_eq, decide_eq_true_iff]

theorem getLsbD_setBit {n : Nat} (x : BitVec n) (i j : Nat) (hj : j < n) :
    (setBit x i).getLsbD j = (x.getLsbD j || decide (j = i)) := by
  simp only [setBit, BitVec.getLsbD_or, BitVec.getLsbD_shiftLeft, BitVec.getLsbD_one, hj, decide_true, Bool.true_and]
  by_cases h : j = i
  · subst h
    simp; omega
  · simp [h]; omega

/-! ### Loops that establish something -/

theorem foldl_keeps {α : Type} {g : State → α → State} {I : State → Prop} (hI : ∀ s x, I s → I (g s x)) (l : List α) {s : State}
    (hs : I s) : I (l.foldl g s) := by
  induction l generalizing s with
  | nil => exact hs
  | cons x l ih => exact ih (hI s x hs)

/-- What one element's turn establishes, and every later turn keeps, holds after the loop. -/
theorem foldl_reaches {α : Type} {g : State → α → State} {I P : State → Prop} {x : α} (hI : ∀ s y, I s → I (g s y))
    (hP : ∀ s y, P s → P (g s y)) (hset : ∀ s, I s → P (g s x)) {l : List α} (hx : x ∈ l) {s : State} (hs : I s) :
    P (l.foldl g s) := by
  obtain ⟨as, bs, rfl⟩ := List.append_of_mem hx
  rw [List.foldl_append, List.foldl_cons]
  exact foldl_keeps hP bs (hset _ (foldl_keeps hI as hs))

/-! ### A failed audit -/

theorem flagSuspect_frame (c l after upto : Nat) (s : State) : Frame [.chk, .fab] s (flagSuspect c l after upto s) := by
  unfold flagSuspect
  dsimp only
  split
  · exact Frame.refl _ s
  · exact .after (by decide) (frame_foldl (fun a k => sendNotice_frame _ _ _ _ _ _ _ a) _ _) ((frame_chk s _).mono (by decide))

theorem journalPass_frame (c l lw flicker : Nat) (s : State) : Frame [.chk] s (journalPass c l lw flicker s) := frame_chk s _

theorem ledAudit_frame (c : Nat) (inst : W32) (ok : Bool) (s : State) : Frame [.ctxs] s (ledAudit c inst ok s) :=
  updCtx_frame s c _

/-- What a failed audit does to the wick and the logical wick it serves, `st` its state (R229, R248). -/
def auditMarked (st : WickSt) (l pw lw : Nat) (s : State) : State :=
  if st = .service then updWick l pw (fun x => { x with early := true }) (updLan l (fun v => { v with subst := setBit v.subst lw }) s)
  else if st = .spare then updWick l pw (fun x => { x with st := .quarantined }) s
  else s

theorem auditFail_eq (c l pw lw flicker : Nat) (tag : W32) (s : State) :
    auditFail c l pw lw flicker tag s =
      let t := auditMarked (getWick s l pw).st l pw lw (flagSuspect c l (getWick s l pw).waud.val.toNat flicker s)
      suspectEvent l (raiseEmber { emb 2 0x0202 l (ctxIdOf t (some (Fin.ofNat 16 c))) pw with reqtag := tag } t) := rfl

theorem auditMarked_frame (st : WickSt) (l pw lw : Nat) (s : State) : Frame [.wicks, .lans] s (auditMarked st l pw lw s) := by
  unfold auditMarked
  refine Frame.ite (.after (by decide) (updWick_frame _ _ _ _) ((updLan_frame s l _).mono (by decide)))
    (Frame.ite ((updWick_frame s _ _ _).mono (by decide)) (Frame.refl _ s))

theorem auditFail_frame (c l pw lw flicker : Nat) (tag : W32) (s : State) :
    Frame [.lans, .wicks, .chk, .fab, .scn, .gvl, .mbx, .posted, .mgt] s (auditFail c l pw lw flicker tag s) := by
  rw [auditFail_eq]
  exact .after (by decide) (suspectEvent_frame l _) <| .after (by decide) (raiseEmber_frame _ _) <|
    .after (by decide) (auditMarked_frame _ _ _ _ _)
    ((flagSuspect_frame _ _ _ _ s).mono (by decide))

theorem auditMarked_getLan (st : WickSt) (l pw lw : Nat) (s : State) :
    getLan (auditMarked st l pw lw s) l =
      if st = .service then { getLan s l with subst := setBit (getLan s l).subst lw } else getLan s l := by
  unfold auditMarked
  split
  · rw [getLan_updWick, getLan_updLan_same]
  · split <;> rfl

/-- What a failed audit leaves of its lantern. -/
theorem getLan_auditFail (c l pw lw flicker : Nat) (tag : W32) (s : State) :
    getLan (auditFail c l pw lw flicker tag s) l = suspectLan
      (if (getWick s l pw).st = .service then { getLan s l with subst := setBit (getLan s l).subst lw } else getLan s l) := by
  rw [auditFail_eq, getLan_suspectEvent, (raiseEmber_frame _ _).getLan _ (by decide), auditMarked_getLan,
    (flagSuspect_frame _ _ _ _ s).getLan _ (by decide)]

/-- What a failed audit makes of its own wick (R229, R248). -/
def auditMarkedWick (x : Wick) : Wick :=
  if x.st = .service then { x with early := true } else if x.st = .spare then { x with st := .quarantined } else x

theorem getWick_auditMarked (l pw lw w : Nat) (s : State) :
    getWick (auditMarked (getWick s l pw).st l pw lw s) l w =
      if w = pw then auditMarkedWick (getWick s l w) else getWick s l w := by
  unfold auditMarked auditMarkedWick
  by_cases hw : w = pw
  · subst hw
    rw [if_pos rfl]
    split
    · rw [getWick_updWick_same, getWick_updLan]
    · split
      · rw [getWick_updWick_same]
      · rfl
  · have hkey : ¬ l * 17 + w = l * 17 + pw := by omega
    rw [if_neg hw]
    split
    · rw [getWick_updWick, if_neg hkey, getWick_updLan]
    · split
      · rw [getWick_updWick, if_neg hkey]
      · rfl

/-- A failed audit leaves a wick of its lantern as `auditMarkedWick` says, perhaps marked for an early full trim. -/
theorem getWick_auditFail (c l pw lw flicker : Nat) (tag : W32) (w : Nat) (s : State) :
    ∃ y b, y = (if w = pw then auditMarkedWick (getWick s l w) else getWick s l w) ∧
      getWick (auditFail c l pw lw flicker tag s) l w = { y with early := y.early || b } := by
  have hflag (k : Nat) : getWick (flagSuspect c l (getWick s l pw).waud.val.toNat flicker s) l k = getWick s l k :=
    (flagSuspect_frame _ _ _ _ s).getWick l k (by decide)
  have hmark := getWick_auditMarked l pw lw w (flagSuspect c l (getWick s l pw).waud.val.toNat flicker s)
  rw [hflag, hflag] at hmark
  rw [auditFail_eq]
  obtain ⟨b, hb⟩ := suspectEvent_marks l (raiseEmber { emb 2 0x0202 l (ctxIdOf (auditMarked (getWick s l pw).st l pw lw
    (flagSuspect c l (getWick s l pw).waud.val.toNat flicker s)) (some (Fin.ofNat 16 c))) pw with reqtag := tag }
    (auditMarked (getWick s l pw).st l pw lw (flagSuspect c l (getWick s l pw).waud.val.toNat flicker s))) l w
  rw [(raiseEmber_frame _ _).getWick _ _ (by decide), hmark] at hb
  exact ⟨_, b, rfl, hb⟩

section
variable (c l pw lw flicker : Nat) (tag : W32) (s : State)

/-- A wick in SERVICE stays there through a failed audit. -/
theorem auditFail_service {w : Nat} (h : (getWick s l w).st = .service) :
    (getWick (auditFail c l pw lw flicker tag s) l w).st = .service := by
  obtain ⟨y, b, rfl, hy⟩ := getWick_auditFail c l pw lw flicker tag w s
  rw [hy]
  split
  · rw [auditMarkedWick, if_pos h]
    exact h
  · exact h

/-- A mark for an early full trim stays through a failed audit. -/
theorem auditFail_early {w : Nat} (h : (getWick s l w).early = true) :
    (getWick (auditFail c l pw lw flicker tag s) l w).early = true := by
  obtain ⟨y, b, rfl, hy⟩ := getWick_auditFail c l pw lw flicker tag w s
  rw [hy, Bool.or_eq_true]
  left
  unfold auditMarkedWick
  split
  · split
    · rfl
    · split <;> exact h
  · exact h

/-- The wick a failed audit finds in SERVICE is marked for an early full trim (R229). -/
theorem auditFail_marks (h : (getWick s l pw).st = .service) : (getWick (auditFail c l pw lw flicker tag s) l pw).early = true := by
  obtain ⟨y, b, rfl, hy⟩ := getWick_auditFail c l pw lw flicker tag pw s
  rw [hy, if_pos rfl, auditMarkedWick, if_pos h]
  rfl

/-- A substituted logical wick stays substituted through a failed audit. -/
theorem auditFail_subst {j : Nat} (hj : j < 16) (h : (getLan s l).subst.toNat / 2 ^ j % 2 = 1) :
    (getLan (auditFail c l pw lw flicker tag s) l).subst.toNat / 2 ^ j % 2 = 1 := by
  rw [div_mod_iff_getLsbD] at h ⊢
  rw [getLan_auditFail, suspectLan_subst]
  split
  · rw [getLsbD_setBit _ _ _ hj, h, Bool.true_or]
  · exact h

/-- The logical wick whose wick a failed audit finds in SERVICE is substituted (R229). -/
theorem auditFail_substitutes (hlw : lw < 16) (h : (getWick s l pw).st = .service) :
    (getLan (auditFail c l pw lw flicker tag s) l).subst.toNat / 2 ^ lw % 2 = 1 := by
  rw [div_mod_iff_getLsbD, getLan_auditFail, if_pos h, suspectLan_subst, getLsbD_setBit _ _ _ hlw, decide_eq_true rfl,
    Bool.or_true]

end

/-! ### A compared audit copy -/

/-- The wicks of an audit copy whose slices missed, with the logical wicks they served (R228). -/
def auditBad (s : State) (a : AuditCopy) : List (Nat × Nat) :=
  ((a.accs.filter (fun t => !accPasses s a t)).map (fun t => (t.pw.val, t.lw.val))).dedup

/-- The wicks of an audit copy all of whose slices passed. -/
def auditGood (s : State) (a : AuditCopy) : List (Nat × Nat) :=
  ((a.accs.map (fun t => (t.pw.val, t.lw.val))).dedup).filter (fun p => !((auditBad s a).contains p))

/-- A passed audit of one wick (R229, R241). -/
def auditPassed (l : Nat) (a : AuditCopy) (s : State) (p : Nat × Nat) : State :=
  journalPass a.ctx.val l p.2 a.flicker
    (updWick l p.1 (fun x => { x with waud := { x.waud with val := BitVec.ofNat 64 a.flicker } }) s)

/-- The lantern whose oldest audit copy has been compared. -/
def comparedLan (ok : Bool) (rest : List AuditCopy) (v : Lantern) : Lantern :=
  { v with
    audits := rest, audPasses := if ok then v.audPasses + 1 else v.audPasses,
    audFails := if ok then v.audFails else satInc v.audFails, chkStat := setBit v.chkStat (if ok then 3 else 4) }

/-- The state in which the wicks of a compared copy are judged one by one. -/
def compared (l : Nat) (a : AuditCopy) (rest : List AuditCopy) (ok : Bool) (s : State) : State :=
  let t := setLan l (comparedLan ok rest (getLan s l)) s
  ledAudit a.ctx.val a.inst ok (if ok then t else noteAuditFail l t)

theorem auditDone_none {l : Nat} {s : State} (h : (getLan s l).audits = []) : auditDone l s = s := by
  simp only [auditDone, h]

theorem auditDone_eq {l : Nat} {s : State} {a : AuditCopy} {rest : List AuditCopy} (h : (getLan s l).audits = a :: rest) :
    auditDone l s = (auditBad s a).foldl (fun s p => auditFail a.ctx.val l p.1 p.2 a.flicker a.reqtag s)
      ((auditGood s a).foldl (auditPassed l a) (compared l a rest (decide (auditBad s a = [])) s)) := by
  have hbad : ((a.accs.filter (fun t => !accPasses s a t)).map (fun t => (t.pw.val, t.lw.val))).dedup = auditBad s a := rfl
  by_cases hok : auditBad s a = []
  · simp only [auditDone, h, hbad, if_pos hok, compared, comparedLan, decide_eq_true hok, if_true]
    rfl
  · simp only [auditDone, h, hbad, if_neg hok, compared, comparedLan, decide_eq_false hok, Bool.false_eq_true, if_false]
    rfl

theorem noteAuditFail_frame (l : Nat) (s : State) : Frame [.lans] s (noteAuditFail l s) := updLan_frame s l _

theorem compared_frame (l : Nat) (a : AuditCopy) (rest : List AuditCopy) (ok : Bool) (s : State) :
    Frame [.lans, .ctxs] s (compared l a rest ok s) := by
  unfold compared
  refine .after (by decide) (ledAudit_frame _ _ _ _) ?_
  cases ok with
  | true => exact (setLan_frame s l _).mono (by decide)
  | false => exact .after (by decide) (noteAuditFail_frame l _) ((setLan_frame s l _).mono (by decide))

theorem st_compared (l w : Nat) (a : AuditCopy) (rest : List AuditCopy) (ok : Bool) (s : State) :
    (getWick (compared l a rest ok s) l w).st = (getWick s l w).st :=
  congrArg Wick.st ((compared_frame l a rest ok s).getWick l w (by decide))

/-- A copy all of whose slices passed leaves its lantern compared and nothing more. -/
theorem getLan_compared_ok (l : Nat) (a : AuditCopy) (rest : List AuditCopy) (s : State) :
    getLan (compared l a rest true s) l = comparedLan true rest (getLan s l) := by
  unfold compared
  rw [(ledAudit_frame _ _ _ _).getLan _ (by decide)]
  exact getLan_setLan_same l _ s

theorem auditPassed_frame (l : Nat) (a : AuditCopy) (s : State) (p : Nat × Nat) : Frame [.wicks, .chk] s (auditPassed l a s p) :=
  .after (by decide) (journalPass_frame _ _ _ _ _) ((updWick_frame s _ _ _).mono (by decide))

theorem getWick_auditPassed (l w : Nat) (a : AuditCopy) (s : State) (p : Nat × Nat) :
    getWick (auditPassed l a s p) l w = if w = p.1 then
      { getWick s l w with waud := { (getWick s l w).waud with val := BitVec.ofNat 64 a.flicker } } else getWick s l w := by
  unfold auditPassed
  rw [(journalPass_frame _ _ _ _ _).getWick _ _ (by decide), getWick_updWick]
  by_cases h : w = p.1
  · rw [if_pos h, if_pos (by rw [h]), h]
  · rw [if_neg h, if_neg (by omega)]

/-- Without a miss every wick of the copy passes. -/
theorem mem_auditGood {s : State} {a : AuditCopy} (h : auditBad s a = []) {q : SliceAcc} (hq : q ∈ a.accs) :
    (q.pw.val, q.lw.val) ∈ auditGood s a := by
  unfold auditGood
  rw [h, List.mem_filter]
  exact ⟨List.mem_dedup.mpr (List.mem_map.mpr ⟨q, hq, rfl⟩), rfl⟩

theorem auditBad_eq_nil {s : State} {a : AuditCopy} (h : ∀ t ∈ a.accs, accPasses s a t = true) : auditBad s a = [] := by
  have hnone : a.accs.filter (fun t => !accPasses s a t) = [] := by
    rw [List.filter_eq_nil_iff]
    intro t ht
    simp [h t ht]
  rw [auditBad, hnone]
  rfl

theorem mem_auditBad {s : State} {a : AuditCopy} {q : SliceAcc} (hq : q ∈ a.accs) (h : accPasses s a q = false) :
    (q.pw.val, q.lw.val) ∈ auditBad s a := by
  refine List.mem_dedup.mpr (List.mem_map.mpr ⟨q, List.mem_filter.mpr ⟨hq, ?_⟩, rfl⟩)
  rw [h]
  rfl

/-- The wicks of a passed copy note its flicker (R229). -/
theorem waud_auditGood (l : Nat) (a : AuditCopy) (s t : State) {p : Nat × Nat} (hp : p ∈ auditGood s a) :
    (getWick ((auditGood s a).foldl (auditPassed l a) t) l p.1).waud.val = BitVec.ofNat 64 a.flicker := by
  refine foldl_reaches (I := fun _ => True) (P := fun u => (getWick u l p.1).waud.val = BitVec.ofNat 64 a.flicker)
    (fun _ _ _ => trivial) (fun u q hu => ?_) (fun u _ => ?_) hp trivial
  · rw [getWick_auditPassed]
    split
    · rfl
    · exact hu
  · rw [getWick_auditPassed, if_pos rfl]

/-! ### Audit copies -/

/-- The oldest copy of a lantern passes (R228, R229). -/
theorem auditDone_passes {l : Nat} {s : State} {a : AuditCopy} {rest : List AuditCopy} (h : (getLan s l).audits = a :: rest)
    (hp : ∀ t ∈ a.accs, accPasses s a t = true) :
    getLan (auditDone l s) l = comparedLan true rest (getLan s l) ∧
      (∀ q ∈ a.accs, (getWick (auditDone l s) l q.pw.val).waud.val = BitVec.ofNat 64 a.flicker) ∧
      Frame [.lans, .wicks, .chk, .ctxs] s (auditDone l s) := by
  have hbad := auditBad_eq_nil hp
  rw [auditDone_eq h, hbad, List.foldl_nil, decide_eq_true rfl]
  have hpass := frame_foldl (auditPassed_frame l a) (auditGood s a) (compared l a rest true s)
  refine ⟨?_, fun q hq => waud_auditGood l a s _ (mem_auditGood hbad hq),
    .after (by decide) hpass ((compared_frame l a rest true s).mono (by decide))⟩
  rw [hpass.getLan _ (by decide), getLan_compared_ok]

/-- The lantern of a failed copy has its counts before its wicks are judged (R228, R231). -/
theorem getLan_compared_fails (l : Nat) (a : AuditCopy) (rest : List AuditCopy) (s : State) :
    let v := getLan (compared l a rest false s) l
    v.audits = rest ∧ v.audFails = satInc (getLan s l).audFails ∧ v.audPasses = (getLan s l).audPasses := by
  unfold compared noteAuditFail
  rw [(ledAudit_frame _ _ _ _).getLan _ (by decide), if_neg Bool.false_ne_true, getLan_updLan_same, getLan_setLan_same]
  exact ⟨rfl, rfl, rfl⟩

theorem st_foldl_auditPassed (l w : Nat) (a : AuditCopy) (ps : List (Nat × Nat)) (t : State) :
    (getWick (ps.foldl (auditPassed l a) t) l w).st = (getWick t l w).st := by
  refine foldl_keeps (I := fun u => (getWick u l w).st = (getWick t l w).st) (fun u p hu => ?_) ps rfl
  rw [getWick_auditPassed]
  split
  · exact hu
  · exact hu

/-- A failed audit of one wick of a copy. -/
def auditFailed (l : Nat) (a : AuditCopy) (s : State) (p : Nat × Nat) : State :=
  auditFail a.ctx.val l p.1 p.2 a.flicker a.reqtag s

theorem auditFailed_frame (l : Nat) (a : AuditCopy) (s : State) (p : Nat × Nat) :
    Frame [.lans, .wicks, .chk, .fab, .scn, .gvl, .mbx, .posted, .mgt] s (auditFailed l a s p) := auditFail_frame _ _ _ _ _ _ s

/-- A failed audit of a wick leaves the copies and the counts and makes the lantern suspect (R229). -/
theorem getLan_auditFailed (l : Nat) (a : AuditCopy) (s : State) (p : Nat × Nat) :
    let v := getLan (auditFailed l a s p) l
    (v.audits = (getLan s l).audits ∧ v.audFails = (getLan s l).audFails ∧ v.audPasses = (getLan s l).audPasses) ∧
      v.suspect = true := by
  unfold auditFailed
  rw [getLan_auditFail]
  split
  · exact ⟨⟨rfl, rfl, rfl⟩, rfl⟩
  · exact ⟨⟨rfl, rfl, rfl⟩, rfl⟩

/-- A wick is marked for an early full trim and its logical wick substituted (R229). -/
def AuditMark (l w lw : Nat) (s : State) : Prop :=
  (getWick s l w).early = true ∧ (getLan s l).subst.toNat / 2 ^ lw % 2 = 1

theorem auditMark_stays (l : Nat) (a : AuditCopy) {w lw : Nat} (p : Nat × Nat) {s : State} (hlw : lw < 16) (h : AuditMark l w lw s) :
    AuditMark l w lw (auditFailed l a s p) := by
  obtain ⟨he, hs⟩ := h
  exact ⟨auditFail_early _ l p.1 p.2 _ _ s he, auditFail_subst _ l p.1 p.2 _ _ s hlw hs⟩

theorem auditMark_set (l : Nat) (a : AuditCopy) {w lw : Nat} {s : State} (hlw : lw < 16) (h : (getWick s l w).st = .service) :
    AuditMark l w lw (auditFailed l a s (w, lw)) :=
  ⟨auditFail_marks _ l w lw _ _ s h, auditFail_substitutes _ l w lw _ _ s hlw h⟩

section
variable (l : Nat) (a : AuditCopy) {ps : List (Nat × Nat)} {w lw : Nat} (hp : (w, lw) ∈ ps) (t : State)

theorem counts_foldl_auditFailed :
    let v := getLan (ps.foldl (auditFailed l a) t) l
    v.audits = (getLan t l).audits ∧ v.audFails = (getLan t l).audFails ∧ v.audPasses = (getLan t l).audPasses := by
  refine foldl_keeps (I := fun u => (getLan u l).audits = (getLan t l).audits ∧ (getLan u l).audFails = (getLan t l).audFails ∧
    (getLan u l).audPasses = (getLan t l).audPasses) (fun u p ⟨ha, hf, hs⟩ => ?_) ps ⟨rfl, rfl, rfl⟩
  obtain ⟨⟨ha', hf', hs'⟩, -⟩ := getLan_auditFailed l a u p
  exact ⟨ha'.trans ha, hf'.trans hf, hs'.trans hs⟩

include hp

theorem suspect_foldl_auditFailed : (getLan (ps.foldl (auditFailed l a) t) l).suspect = true :=
  foldl_reaches (I := fun _ => True) (P := fun u => (getLan u l).suspect = true) (fun _ _ _ => trivial)
    (fun u p _ => (getLan_auditFailed l a u p).2) (fun u _ => (getLan_auditFailed l a u _).2) hp trivial

/-- A wick in SERVICE is marked, and its logical wick substituted, by its turn (R229). -/
theorem marks_foldl_auditFailed (hlw : lw < 16) (h : (getWick t l w).st = .service) :
    AuditMark l w lw (ps.foldl (auditFailed l a) t) := by
  refine foldl_reaches (I := fun u => (getWick u l w).st = .service) (P := AuditMark l w lw) (fun u p hu => ?_)
    (fun u p hu => auditMark_stays l a p hlw hu) (fun u hu => auditMark_set l a hlw hu) hp h
  exact auditFail_service _ l p.1 p.2 _ _ u hu

end

/-- The oldest copy of a lantern fails in a slice (R228, R229). -/
theorem auditDone_fails {l : Nat} {s : State} {a : AuditCopy} {rest : List AuditCopy} {q : SliceAcc}
    (h : (getLan s l).audits = a :: rest) (hq : q ∈ a.accs) (hf : accPasses s a q = false) :
    ((getLan (auditDone l s) l).audits = rest ∧ (getLan (auditDone l s) l).audFails = satInc (getLan s l).audFails ∧
      (getLan (auditDone l s) l).audPasses = (getLan s l).audPasses ∧ (getLan (auditDone l s) l).suspect = true) ∧
      ((getWick s l q.pw.val).st = .service → AuditMark l q.pw.val q.lw.val (auditDone l s)) ∧
      Frame [.lans, .wicks, .chk, .ctxs, .scn, .fab, .gvl, .mbx, .posted, .mgt] s (auditDone l s) := by
  have hmem := mem_auditBad hq hf
  have hbad : decide (auditBad s a = []) = false := decide_eq_false (List.ne_nil_of_mem hmem)
  have hframe := compared_frame l a rest false s
  have hpass := frame_foldl (auditPassed_frame l a) (auditGood s a) (compared l a rest false s)
  have hcounts := getLan_compared_fails l a rest s
  have hst := (st_foldl_auditPassed l q.pw.val a (auditGood s a) (compared l a rest false s)).trans
    (st_compared l q.pw.val a rest false s)
  rw [← hpass.getLan _ (by decide)] at hcounts
  have heq : auditDone l s = (auditBad s a).foldl (auditFailed l a)
      ((auditGood s a).foldl (auditPassed l a) (compared l a rest false s)) := by
    rw [auditDone_eq h, hbad]
    rfl
  rw [heq]
  generalize (auditGood s a).foldl (auditPassed l a) (compared l a rest false s) = t at hpass hcounts hst
  obtain ⟨ha, hfs, hps⟩ := counts_foldl_auditFailed l a (ps := auditBad s a) t
  obtain ⟨ha', hfs', hps'⟩ := hcounts
  refine ⟨⟨ha.trans ha', hfs.trans hfs', hps.trans hps', suspect_foldl_auditFailed l a hmem t⟩, fun hs => ?_, ?_⟩
  · exact marks_foldl_auditFailed l a hmem t q.lw.isLt (hst.trans hs)
  · exact .after (by decide) (frame_foldl (auditFailed_frame l a) _ t) <| .after (by decide) hpass (hframe.mono (by decide))

end Sys2Proof.Machine
end

section
/-! SUPPORT. Exact recomputation, the suspect decay, and the settlement of O12. -/

namespace Sys2Proof.Machine

theorem exec_sliceRecomputeDone (l : Lan) (w : PWick) (err : List (Nat × Int)) (s : State) :
    exec (.sliceRecomputeDone l w err) s = .next (earlyRemap l.val (sliceRedone l.val w.val err s)) := rfl

theorem exec_auditDone (l : Lan) (s : State) : exec (.auditDone l) s = .next (earlyRemap l.val (auditDone l.val s)) := rfl

/-! ### What a recomputed slice leaves -/

section
variable {s : State} {l w c : Nat} {r : FlareRun} {a : SliceAcc} {g : Grp} {err : List (Nat × Int)}

/-- A saturated slice that meets its exact prediction (R31, R219). -/
theorem sliceRedone_sat_leaves (hg : redoOf (getLan s l) w = some (a, g)) (hr : findRun s a.flare = some (c, r))
    (hm : redoMeets s l w c r a g err = true) (hst : g.st = .sat) :
    (sliceRedone l w err s).chk = { s.chk with resolved := satInc s.chk.resolved } ∧
      getLan (sliceRedone l w err s) l = { getLan s l with accs := putGroup a g { g with
        vals := redoVals s l c r a g err, fired := redoVals s l c r a g err, st := .ok } (getLan s l).accs } ∧
      (getWick (sliceRedone l w err s) l w).sats =
        (if (getLan s l).substNow.toNat / 2 ^ a.lw.val % 2 = 1 then (getWick s l w).sats else (getWick s l w).sats + 1) ∧
      Frame [.lans, .wicks, .lctx, .chk] s (sliceRedone l w err s) := by
  rw [sliceRedone_sat hg hr hm hst]
  have hframe := redone_frame l c a g { g with vals := redoVals s l c r a g err, fired := redoVals s l c r a g err, st := .ok } s
  have hlan := getLan_redone l c a g { g with vals := redoVals s l c r a g err, fired := redoVals s l c r a g err, st := .ok } s
  have hchk := redone_chk l c a g { g with vals := redoVals s l c r a g err, fired := redoVals s l c r a g err, st := .ok } s
  dsimp only
  generalize redone l c a g _ s = t at hframe hlan hchk
  split
  · exact ⟨hchk, hlan, congrArg Wick.sats (hframe.getWick l w (by decide)), hframe.mono (by decide)⟩
  · refine ⟨hchk, ?_, ?_, .after (by decide) (updWick_frame t l w _) (hframe.mono (by decide))⟩
    · rw [getLan_updWick, hlan]
    · rw [getWick_updWick_same, hframe.getWick _ _ (by decide)]

/-- A failed row-sum check that meets its exact prediction (R219, R220). -/
theorem sliceRedone_rsFail_leaves {fs : List (Nat × Option Nat)} (hg : redoOf (getLan s l) w = some (a, g))
    (hr : findRun s a.flare = some (c, r)) (hm : redoMeets s l w c r a g err = true) (hst : g.st = .rsFail fs) :
    let u := sliceRedone l w err s
    let vals := redoVals s l c r a g err
    u.chk = { s.chk with resolved := satInc s.chk.resolved } ∧
      (getLan u l).accs = putGroup a g { g with vals := vals, st := .ok } (getLan s l).accs ∧
      (getLan u l).rsfails = (getLan s l).rsfails + 1 ∧
      locWord (getLan u l) = locWord (writeLoc w fs g.e g.vals vals (getLan s l)) ∧
      Frame [.lans, .wicks, .lctx, .chk, .scn, .gvl, .mbx, .posted, .mgt] s u := by
  rw [sliceRedone_rsFail hg hr hm hst]
  have hframe := redone_frame l c a g { g with vals := redoVals s l c r a g err, st := .ok } s
  have hlan := getLan_redone l c a g { g with vals := redoVals s l c r a g err, st := .ok } s
  have hchk := redone_chk l c a g { g with vals := redoVals s l c r a g err, st := .ok } s
  dsimp only
  generalize redoVals s l c r a g err = vals at hframe hlan hchk ⊢
  generalize redone l c a g _ s = t at hframe hlan hchk ⊢
  have hloc := updLan_frame t l (writeLoc w fs g.e g.vals vals)
  have hlan' := getLan_updLan_same l (writeLoc w fs g.e g.vals vals) t
  rw [hlan, writeLoc_accs] at hlan'
  generalize updLan l (writeLoc w fs g.e g.vals vals) t = t₁ at hloc hlan' ⊢
  have hrun := updRun_frame t₁ c a.flare (fun q => { q with clean := false })
  generalize updRun c a.flare (fun q => { q with clean := false }) t₁ = t₂ at hrun ⊢
  have hemb := ember_frame 1 0x0201 l (ctxIdOf t₂ (ownerOfLan t₂ l)) (locWord (getLan t₂ l)) t₂
  generalize ember 1 0x0201 l (ctxIdOf t₂ (ownerOfLan t₂ l)) (locWord (getLan t₂ l)) t₂ = t₃ at hemb ⊢
  obtain ⟨haccs, hfails, hword⟩ := getLan_countRsFail l t₃
  have hlan₃ : getLan t₃ l = _ := (hemb.getLan l (by decide)).trans ((hrun.getLan l (by decide)).trans hlan')
  rw [hlan₃] at haccs hfails hword
  have hrest : Frame [.lans, .wicks, .lctx, .scn, .gvl, .mbx, .posted, .mgt] t (countRsFail l t₃) :=
    .after (by decide) (countRsFail_frame l t₃) <| .after (by decide) hemb <| .after (by decide) hrun (hloc.mono (by decide))
  have hkeep : (countRsFail l t₃).chk = t.chk := hrest .chk (by decide)
  exact ⟨hkeep.trans hchk, haccs, hfails.trans (congrArg (· + 1) (writeLoc_rsfails _ _ _ _ _ _)), hword,
    .after (by decide) hrest (hframe.mono (by decide))⟩

/-- A slice that misses its exact prediction (R219, R485). -/
theorem sliceRedone_misses_leaves (hg : redoOf (getLan s l) w = some (a, g)) (hr : findRun s a.flare = some (c, r))
    (hm : redoMeets s l w c r a g err = false) (hw : s.snuf.wheld = false) :
    (sliceRedone l w err s).snuf = { wheld := true, cause := 1, detail := BitVec.ofNat 16 l } ∧
      Frame Part.withholding s (sliceRedone l w err s) := by
  rw [sliceRedone_misses hg hr hm]
  have hupd := updLan_frame s l (fun v => { v with chkStat := setBit v.chkStat 1 })
  have hsnuf : (updLan l (fun v => { v with chkStat := setBit v.chkStat 1 }) s).snuf.wheld = false := hw
  generalize updLan l (fun v => { v with chkStat := setBit v.chkStat 1 }) s = t at hupd hsnuf
  exact ⟨withhold_snuf hsnuf 1 l, .after (by decide) (withhold_frame 1 l t) (hupd.mono (by decide))⟩

end

/-! ### The decay of a suspicion -/

/-- A suspicion ends after a quiet interval, and the issue interval steps back (R245, R246). -/
theorem exec_suspectDecay_ends {s : State} {l : Lan} {n : Nat} (hs : (getLan s l.val).suspect = true)
    (he : (getLan s l.val).lastEvent = some n) (hn : n + 4194304 ≤ (getLan s l.val).flares.val.toNat) :
    exec (.suspectDecay l) s = .next (setLan l.val { getLan s l.val with
      suspect := false, stepBase := some (getLan s l.val).flares.val.toNat,
      ivalNext := if ivalSet (getLan s l.val) = 0 then (getLan s l.val).ivalNext else some (ivalSet (getLan s l.val) - 1) } s) := by
  change execSuspectDecay l s = _
  simp only [execSuspectDecay, hs, he, hn, if_true]

/-- A lantern no longer suspect steps its interval back after another quiet one (R246). -/
theorem exec_suspectDecay_steps {s : State} {l : Lan} {n : Nat} (hs : (getLan s l.val).suspect = false)
    (hb : (getLan s l.val).stepBase = some n) (hn : n + 4194304 ≤ (getLan s l.val).flares.val.toNat)
    (hi : ivalSet (getLan s l.val) ≠ 0) :
    exec (.suspectDecay l) s = .next (setLan l.val { getLan s l.val with
      stepBase := some (getLan s l.val).flares.val.toNat, ivalNext := some (ivalSet (getLan s l.val) - 1) } s) := by
  change execSuspectDecay l s = _
  simp only [execSuspectDecay, hs, hb, hn, hi, ne_eq, not_false_eq_true, and_self, Bool.false_eq_true, if_false, if_true]

/-- Before the interval is over nothing changes (R246). -/
theorem exec_suspectDecay_early {s : State} {l : Lan}
    (h : ∀ n ∈ (if (getLan s l.val).suspect then (getLan s l.val).lastEvent else (getLan s l.val).stepBase),
      (getLan s l.val).flares.val.toNat < n + 4194304) :
    exec (.suspectDecay l) s = .next s := by
  change execSuspectDecay l s = _
  unfold execSuspectDecay
  dsimp only
  split at h
  case isTrue hs =>
    rw [if_pos hs]
    split
    · rfl
    · rename_i n hn
      exact if_neg (Nat.not_le.mpr (h n hn))
  case isFalse hs =>
    rw [if_neg hs]
    split
    · rfl
    · rename_i n hn
      exact if_neg fun hc => Nat.not_le.mpr (h n hn) hc.1

/-! ### The obligation -/

/-- New check-store errors take the wick out of service and make the lantern suspect (R216, R231, R245). -/
theorem storeErrors_leaves {l w : Nat} {lw : Option Nat} {bad : List Nat} {s : State} (h : newBad (getWick s l w) bad ≠ []) :
    let u := storeErrors l w lw bad s
    (getWick u l w).rsBad = (getWick s l w).rsBad ++ newBad (getWick s l w) bad ∧ (getWick u l w).early = true ∧
      (getLan u l).suspect = true ∧
      (getLan u l).subst = (match lw with | none => (getLan s l).subst | some i => setBit (getLan s l).subst i) ∧
      Frame ([.wicks, .lans, .scn] ++ Part.posting) s u := by
  dsimp only
  rw [storeErrors_new lw h]
  have hw := getWick_storeMarked l w lw bad s
  have hl := getLan_storeMarked l w lw bad s
  have hf := storeMarked_frame l w lw bad s
  generalize storeMarked l w lw bad s = t at hw hl hf
  obtain ⟨b, hb⟩ := suspectEvent_marks l t l w
  rw [hb, getLan_suspectEvent, hw, hl]
  refine ⟨rfl, rfl, rfl, ?_, .after (by decide) (suspectEvent_frame l t) (hf.mono (by decide))⟩
  cases lw with
  | none => rfl
  | some i => rfl

/-- What a flare step leaves of its lantern and its wick (R28, R107, R111, R186). -/
theorem stepFlare_leaves {l w : Nat} {f : Flight} {id : Nat} {lw : LWick} {sl : Nat} {lp fb rot lk : Bool} {err : List (Nat × Int)}
    {a : State} {c : Nat} {r : FlareRun} (h : findRun a id = some (c, r)) :
    let first := countsFor (getLan a l) lw.val sl
    let z := windowed l first sl a
    let x := getWick z l w
    let v := groupVals x f lk err
    let st := verdict x f v
    let u := stepFlare l w f id lw sl lp fb rot lk err a
    (getLan u l).accs = addGroup { flare := id, lw := lw, pw := f.pw, slice := sl, lpass := lp, fallback := fb, groups := [] }
        (flareGroup f v.1 st) (getLan z l).accs ∧
      (getLan u l).stat = (if v.2 then setBit (getLan z l).stat 1 else (getLan z l).stat) ∧
      (getLan u l).chkStat = (if st = .ok ∨ st = .sat then (getLan z l).chkStat else setBit (getLan z l).chkStat 0) ∧
      (getLan u l).x1 = (if first then (addMoments sl f.x f.last (getLan z l)).x1 else (getLan z l).x1) ∧
      (getLan u l).x2 = (if first then (addMoments sl f.x f.last (getLan z l)).x2 else (getLan z l).x2) ∧
      (getLan u l).momSteps = (if first then (addMoments sl f.x f.last (getLan z l)).momSteps else (getLan z l).momSteps) ∧
      getWick u l w = flareWick f v.2 lk rot err x ∧ Frame [.lans, .wicks, .lctx] z u := by
  dsimp only
  obtain ⟨p, q, hlan⟩ := getLan_stepFlare (l := l) (w := w) (f := f) (lw := lw) (slice := sl) (lp := lp) (fb := fb) (rot := rot)
    (lk := lk) (err := err) h
  rw [hlan]
  exact ⟨flareLan_accs _ _ _ _ _ _ _ _, flareLan_stat _ _ _ _ _ _ _ _, flareLan_chkStat _ _ _ _ _ _ _ _,
    flareLan_x1 _ _ _ _ _ _ _ _, flareLan_x2 _ _ _ _ _ _ _ _, flareLan_momSteps _ _ _ _ _ _ _ _, getWick_stepFlare h,
    stepFlare_frame h⟩

/-- A trim probe step has failed where it had or where the row-sum check of its values finds a group (R222). -/
theorem probeFail_iff (x : Wick) (f : Flight) (err : List (Nat × Int)) :
    (x.probeFail || probeBad x f err) = true ↔
      x.probeFail = true ∨ rowSumCheck x f.x (groupVals x f false err).1 (2 ^ f.e) (bandsP x) (bandsI x) ≠ [] := by
  rw [Bool.or_eq_true, probeBad, Bool.not_eq_true', List.isEmpty_eq_false_iff]

/-- Settles O12: each clause is the lemma on its event, the remap that may follow left as the event's tail. -/
theorem stepsRecomputesAndAudits : Obligations.StepsRecomputesAndAudits := by
  refine ⟨?dead, ?nothing, ?probe, ?undue, ?flare, ?store, ?trim, ?drive, ?sat, ?rsFail, ?miss, ?noRedo, ?passes, ?fails,
    ?noAudit, ?idle, ?ends, ?steps, ?early⟩
  case dead => exact fun s l w err bad f rest h hd => exec_step_dead h hd
  case nothing => exact fun s l w err bad h => exec_step_none h
  case probe =>
    intro s l w err bad f rest h hd hk hb hlo
    rw [exec_step_probe h hd hk]
    exact congrArg Host.Outcome.next (stepProbe_due err ⟨hb, hlo⟩)
  case undue =>
    intro s l w err bad f rest h hd hk hu
    rw [exec_step_probe h hd hk]
    exact congrArg Host.Outcome.next (stepProbe_undue err hu)
  case flare =>
    intro s l w err bad f rest id lw sl lp fb rot lk c r h hd hk hr
    refine ⟨_, exec_step_flare h hd hk, ?_⟩
    exact stepFlare_leaves hr
  case store => exact fun s l w lw bad h => storeErrors_leaves h
  case trim =>
    intro s l w err bad f rest h hd hk
    refine ⟨_, exec_step_trim h hd hk, getLan_stepTrim _ _ f err _, ?_, stepTrim_frame _ _ f err _⟩
    obtain ⟨r, hw⟩ := getWick_stepTrim l.val w.val f err (storeErrors l.val w.val none bad (landed rest s))
    exact ⟨⟨_, r⟩, hw, probeFail_iff _ f err⟩
  case drive =>
    intro s l w err bad f rest tap b h hd hk z hz k
    exact ⟨_, exec_step_drive h hd hk, getLan_stepDrive _ f tap b err hz, stepDrive_frame _ _ f tap b err _⟩
  case sat =>
    intro s l w err a g c r hg hr v x ex vals hm hst
    exact ⟨_, exec_sliceRecomputeDone l w err s, sliceRedone_sat_leaves hg hr hm hst⟩
  case rsFail =>
    intro s l w err a g c r fs hg hr v x ex vals hm hst
    obtain ⟨hchk, haccs, hfails, hloc, hframe⟩ := sliceRedone_rsFail_leaves hg hr hm hst
    exact ⟨_, exec_sliceRecomputeDone l w err s, hchk, haccs, hfails, hloc, hframe.mono (by decide)⟩
  case miss =>
    intro s l w err a g c r hg hr v x ex hm hw
    obtain ⟨hsnuf, hframe⟩ := sliceRedone_misses_leaves hg hr hm hw
    refine ⟨_, ?_, hsnuf, hframe⟩
    rw [exec_sliceRecomputeDone, earlyRemap_withheld (congrArg Snuffer.wheld hsnuf)]
  case noRedo =>
    intro s l w err h
    rw [exec_sliceRecomputeDone, sliceRedone_none h]
  case passes =>
    intro s l a rest h hp
    exact ⟨_, exec_auditDone l s, auditDone_passes h hp⟩
  case fails =>
    intro s l a rest q h hq hf
    obtain ⟨⟨haud, hfails, hpasses, hsusp⟩, hmark, hframe⟩ := auditDone_fails h hq hf
    exact ⟨_, exec_auditDone l s, haud, hfails, hpasses, hsusp, hmark, hframe.mono (by decide)⟩
  case noAudit =>
    intro s l h
    rw [exec_auditDone, auditDone_none h]
  case idle => exact fun s l hdue h => earlyRemap_idle hdue h
  case ends => exact fun s l n hs he hn => exec_suspectDecay_ends hs he hn
  case steps => exact fun s l n hs hb hn hi => exec_suspectDecay_steps hs hb hn hi
  case early => exact fun s l h => exec_suspectDecay_early h

end Sys2Proof.Machine
end

section
/-! SUPPORT. Issue of an engine instruction (R125, R126, R137), the end every instruction comes to, and writes of vector registers:
the rules the classes' statements are derived from. -/

namespace Sys2Proof.Machine

/-! ### Issue -/

theorem eight_le_declaredFor (n : Nat) : 8 ≤ declaredFor n := by
  unfold declaredFor
  split_ifs <;> decide

theorem foldl_max_lt {b : Nat} {rs : List Nat} (h : ∀ r ∈ rs, r < b) {a : Nat} (ha : a < b) : rs.foldl max a < b := by
  induction rs generalizing a with
  | nil => exact ha
  | cons r rs ih =>
    rw [List.forall_mem_cons] at h
    exact ih h.2 (max_lt ha h.1)

/-- A legal form names registers that the thread holds. -/
theorem vec_lt_of_legal {th : Thread} {w : W64} {f : Form} (h : illegalForm th w f = false) : ∀ r ∈ f.vec, r < th.vregs := by
  simp only [illegalForm, Bool.or_eq_false_iff, List.any_eq_false, decide_eq_true_eq, not_le] at h
  obtain ⟨⟨⟨⟨⟨hvec, -⟩, -⟩, -⟩, -⟩, -⟩ := h
  exact hvec

/-- A thread that stands in its slot with registers enough is supplied with nothing more. -/
theorem supplyThread_enough {s : State} {l t n : Nat} {th : Thread} (hth : threadAt s l t = some th)
    (hn : declaredFor n ≤ th.vregs) : supplyThread l t n s = s := by
  unfold supplyThread
  split
  · rfl
  · simp only [hth, Nat.not_lt.mpr hn, false_and, if_false]

theorem Issues.thread {s : State} {l : Lan} {t : ThreadI} {w : W64} {cls : Nat} {f : Form} {th : Thread}
    (h : Issues s l t w cls f th) : threadAt s l.val t.val = some th := by
  obtain ⟨-, -, hth, -⟩ := h
  exact hth

/-- An instruction that issues clean is counted, if it is a vector instruction, and its body runs. -/
theorem issue_of_issues {s : State} {l : Lan} {t : ThreadI} {w : W64} {cls count : Nat} {ops : List Nat} {f : Form} {th : Thread}
    (h : Issues s l t w cls f th) (hops : wOp w ∈ ops) (hcount : wOp w < count) (body : Thread → State → State) :
    issue l t w cls count ops f .clean body s = body th (if f.vector then countIssue l.val s else s) := by
  obtain ⟨hcls, hwheld, hth, hregs, hmay, hduty, hlegal, hfree⟩ := h
  have hsupply : (if t.val < 8 then supplyThread l.val t.val (f.vec.foldl max 0 + 1) s else s) = s := by
    split
    next ht => exact supplyThread_enough hth (hregs.resolve_left (Nat.not_le.mpr ht))
    next => rfl
  have hneed : (decide (t.val < 8) && decide (th.vregs < f.vec.foldl max 0 + 1)) = false := by
    rw [Bool.and_eq_false_imp]
    intro ht
    have hdecl := hregs.resolve_left (Nat.not_le.mpr (of_decide_eq_true ht))
    have hpos : 0 < th.vregs := by have := eight_le_declaredFor (f.vec.foldl max 0 + 1); omega
    exact decide_eq_false (Nat.not_lt.mpr (foldl_max_lt (vec_lt_of_legal hlegal) hpos))
  have hroom : (f.vector && !dutyRoom s l.val) = false := by
    rw [Bool.and_eq_false_imp]
    exact fun hv => by rw [hduty hv]; rfl
  have hop : ops.contains (wOp w) = true := List.contains_iff_mem.mpr hops
  unfold issue
  rw [if_neg (by simp [hcls, hwheld])]
  dsimp only
  rw [hsupply, hth]
  simp only [hmay, hroom, hneed, hop, hlegal, hfree, Nat.not_le.mpr hcount, Bool.not_true, Bool.or_self, Bool.false_eq_true, if_false]
  rfl

/-! ### The count of an issued instruction -/

theorem frame_engs (s : State) (x : Tab Engine) : Frame [.engs] s { s with engs := x } := by
  intro p hp; cases p <;> simp at hp <;> rfl

theorem setEng_frame (s : State) (l : Nat) (e : Engine) : Frame [.engs] s (setEng l e s) := frame_engs s _
theorem updEng_frame (s : State) (l : Nat) (f : Engine → Engine) : Frame [.engs] s (updEng l f s) := frame_engs s _

theorem countIssue_frame (l : Nat) (s : State) : Frame [.engs] s (countIssue l s) := updEng_frame s _ _

/-- The count of an issued instruction in its engine. -/
def countedEng (now : Nat) (e : Engine) : Engine :=
  { e with issue := e.issue.inc, dutyWin := now, dutyCnt := if e.dutyWin = now then e.dutyCnt + 1 else 1 }

@[simp] theorem countedEng_regs (now : Nat) (e : Engine) : (countedEng now e).regs = e.regs := rfl
@[simp] theorem countedEng_sregs (now : Nat) (e : Engine) : (countedEng now e).sregs = e.sregs := rfl
@[simp] theorem sreg_countedEng (now : Nat) (e : Engine) (t r : Nat) : sreg (countedEng now e) t r = sreg e t r := rfl

theorem getEng_countIssue_same (l : Nat) (s : State) : getEng (countIssue l s) l = countedEng (dutyNow s) (getEng s l) :=
  (getEng_updEng l l _ s).trans (if_pos rfl)

theorem getEng_countIssue_other {l k : Nat} (h : k ≠ l) (s : State) : getEng (countIssue l s) k = getEng s k :=
  (getEng_updEng l k _ s).trans (if_neg h)

/-- The count of an instruction is no byte of a buffer. -/
theorem bufByte_countIssue (l k o : Nat) (s : State) : bufByte (countIssue k s) l o = bufByte s l o := by
  have hscratch : (getEng (countIssue k s) l).scratch = (getEng s l).scratch := by
    by_cases hk : l = k
    · rw [hk, getEng_countIssue_same]; rfl
    · rw [getEng_countIssue_other hk]
  unfold bufByte
  rw [hscratch]
  rfl

theorem bufRead_countIssue (l k o n : Nat) (s : State) : bufRead (countIssue k s) l o n = bufRead s l o n :=
  List.map_congr_left fun i _ => bufByte_countIssue l k (o + i) s

/-! ### The end of an instruction -/

theorem advance_frame (l t : Nat) (s : State) : Frame [.engs] s (advance l t s) := updEng_frame s _ _

theorem getEng_advance_same (l t : Nat) (s : State) : getEng (advance l t s) l =
    { getEng s l with threads := Tab.upd none (getEng s l).threads t (Option.map fun th => { th with pc := th.pc + 8 }) } :=
  (getEng_updEng l l _ s).trans (if_pos rfl)

theorem getEng_advance_other {l k : Nat} (h : k ≠ l) (t : Nat) (s : State) : getEng (advance l t s) k = getEng s k :=
  (getEng_updEng l k _ s).trans (if_neg h)

theorem getEng_updRel (c : Nat) (inst : W32) (f : RelRec → RelRec) (s : State) (k : Nat) :
    getEng (updRel c inst f s) k = getEng s k := getEng_updCtx c k _ s

/-- Noting flags writes VEC_STAT of the thread's engine and no other register of an engine. -/
theorem getEng_noteFlags_same {s : State} {l t : Nat} {th : Thread} (h : threadAt s l t = some th) (fl : FFlags) :
    getEng (noteFlags l t fl s) l =
      { getEng s l with stat := if fl.nonfin then setBit (getEng s l).stat 0 else (getEng s l).stat } := by
  unfold noteFlags
  simp only [h, apply_ite (fun u => getEng u l), getEng_updRel, ite_self, getEng_updEng, if_true]
  split <;> rfl

theorem getEng_noteFlags_other {l k : Nat} (h : k ≠ l) (t : Nat) (fl : FFlags) (s : State) :
    getEng (noteFlags l t fl s) k = getEng s k := by
  unfold noteFlags
  split
  · rfl
  · simp only [apply_ite (fun u => getEng u k), getEng_updRel, ite_self, getEng_updEng, if_neg h]

/-- An instruction that raises no flags notes none. -/
theorem noteFlags_none (l t : Nat) (s : State) : noteFlags l t FFlags.none s = s := by
  unfold noteFlags
  split <;> rfl

theorem noteFlags_frame (l t : Nat) (fl : FFlags) (s : State) : Frame [.engs, .ctxs] s (noteFlags l t fl s) := by
  unfold noteFlags
  split
  · exact Frame.refl _ s
  · have hstat : Frame [.engs, .ctxs] s (if fl.nonfin then updEng l (fun e => { e with stat := setBit e.stat 0 }) s else s) :=
      Frame.ite ((updEng_frame s _ _).mono (by decide)) (Frame.refl _ s)
    exact Frame.ite (hstat.step (updCtx_frame _ _ _) (by decide)) hstat

/-- The end of an instruction that leaves its engine as `e`: its flags are noted and its thread goes on. -/
def endWith (l t : Nat) (fl : FFlags) (e : Engine) (s : State) : State := advance l t (noteFlags l t fl (setEng l e s))

theorem advance_setEng (l t : Nat) (e : Engine) (s : State) : advance l t (setEng l e s) = endWith l t FFlags.none e s := by
  rw [endWith, noteFlags_none]

theorem endWith_frame (l t : Nat) (fl : FFlags) (e : Engine) (s : State) : Frame [.engs, .ctxs] s (endWith l t fl e s) :=
  (((setEng_frame s l e).mono (by decide)).step (noteFlags_frame l t fl _) (List.Subset.refl _)).step (advance_frame l t _)
    (by decide)

/-- An instruction that raises no flags touches the engines alone. -/
theorem endWith_none_frame (l t : Nat) (e : Engine) (s : State) : Frame [.engs] s (endWith l t FFlags.none e s) := by
  rw [← advance_setEng]
  exact (setEng_frame s l e).step (advance_frame l t _) (List.Subset.refl _)

/-- What an instruction leaves that ends with its engine as `e`: the registers, the count and the top-k unit of `e`, the thread
gone on, and every other engine as before. -/
structure Ended (s : State) (l : Lan) (t : ThreadI) (th : Thread) (e : Engine) (u : State) : Prop where
  regs : (getEng u l.val).regs = e.regs
  sregs : (getEng u l.val).sregs = e.sregs
  preds : (getEng u l.val).preds = e.preds
  inbox : (getEng u l.val).inbox = e.inbox
  issue : (getEng u l.val).issue = e.issue
  tkK : (getEng u l.val).tkK = e.tkK
  tkSmall : (getEng u l.val).tkSmall = e.tkSmall
  tkList : (getEng u l.val).tkList = e.tkList
  went : Went s l t th u
  others : ∀ k, k ≠ l.val → getEng u k = getEng s k

/-- An instruction whose engine holds the threads it held before ends so. -/
theorem ended_endWith {s s' : State} {l : Lan} {t : ThreadI} {th : Thread} {e : Engine} (hth : threadAt s l.val t.val = some th)
    (hs' : ∀ k, k ≠ l.val → getEng s' k = getEng s k) (fl : FFlags) (he : e.threads = (getEng s l.val).threads := by rfl) :
    Ended s l t th e (endWith l.val t.val fl e s') := by
  have hget : Tab.get none e.threads t.val = some th := he ▸ hth
  have hset : getEng (setEng l.val e s') l.val = e := (getEng_setEng _ _ e s').trans (if_pos rfl)
  have hflags : threadAt (setEng l.val e s') l.val t.val = some th := by rw [threadAt, hset, hget]
  have hend : getEng (endWith l.val t.val fl e s') l.val = { e with
      stat := if fl.nonfin then setBit e.stat 0 else e.stat
      threads := Tab.upd none e.threads t.val (Option.map fun th => { th with pc := th.pc + 8 }) } := by
    rw [endWith, getEng_advance_same, getEng_noteFlags_same hflags, hset]
  refine ⟨?regs, ?sregs, ?preds, ?inbox, ?issue, ?tkK, ?tkSmall, ?tkList, ⟨hth, ?went⟩, ?others⟩
  case went => rw [threadAt, hend, Tab.get_upd, if_pos rfl, hget]; rfl
  case others =>
    intro k hk
    rw [endWith, getEng_advance_other hk, getEng_noteFlags_other hk, getEng_setEng, if_neg hk, hs' k hk]
  all_goals rw [hend]

theorem Ended.lane_eq {s u : State} {l : Lan} {t : ThreadI} {th : Thread} {e : Engine} (h : Ended s l t th e u) (q i : Nat) :
    lane (getEng u l.val) th q i = lane e th q i := by
  rw [lane, h.regs, lane]

/-- Of an instruction that writes no register but `r`, the rest of the engines is as before. -/
theorem Ended.engineElse {s u : State} {l : Lan} {t : ThreadI} {th : Thread} {e : Engine} (h : Ended s l t th e u) {r : Option Nat}
    (hregs : ∀ p, some (p / 128) ≠ r → Tab.get 0 e.regs p = Tab.get 0 (getEng s l.val).regs p)
    (hsregs : e.sregs = (getEng s l.val).sregs) (hpreds : e.preds = (getEng s l.val).preds)
    (hinbox : e.inbox = (getEng s l.val).inbox) : EngineElse s l r u :=
  ⟨fun p hp => by rw [h.regs]; exact hregs p hp, h.sregs.trans hsregs, h.preds.trans hpreds, h.inbox.trans hinbox, h.others⟩

/-- An instruction that is counted and ends with its engine as `e` runs so; it touches the engines, and its request's ledger. -/
theorem counted_ends {s : State} {l : Lan} {t : ThreadI} {th : Thread} {e : Engine} (hth : threadAt s l.val t.val = some th)
    (fl : FFlags) (he : e.threads = (getEng s l.val).threads := by rfl) :
    Ended s l t th e (endWith l.val t.val fl e (countIssue l.val s)) ∧
      Frame [.engs, .ctxs] s (endWith l.val t.val fl e (countIssue l.val s)) :=
  ⟨ended_endWith hth (fun _ hk => getEng_countIssue_other hk s) fl he,
    ((countIssue_frame _ s).mono (by decide)).step (endWith_frame _ _ fl e _) (List.Subset.refl _)⟩

/-! ### Writes of vector registers -/

/-- The lanes `ls` of register `r` written in a table of lanes. -/
def writeLanes (th : Thread) (r : Nat) (ls : List (Nat × W32)) (m : Tab W32) : Tab W32 :=
  ls.foldl (fun m p => Tab.set 0 m (physReg th r * 128 + p.1) p.2) m

theorem putLanes_eq (th : Thread) (r : Nat) (ls : List (Nat × W32)) (e : Engine) :
    putLanes th r ls e = { e with regs := writeLanes th r ls e.regs } := rfl

/-- A lane of a physical register after lanes `is` of register `r` were written, lane `i` with `g i`. -/
theorem get_writeLanes (th : Thread) (r : Nat) {is : List Nat} (his : ∀ i ∈ is, i < 128) (g : Nat → W32) (m : Tab W32) (p : Nat) :
    Tab.get 0 (writeLanes th r (is.map fun i => (i, g i)) m) p =
      if p / 128 = physReg th r ∧ p % 128 ∈ is then g (p % 128) else Tab.get 0 m p := by
  rw [writeLanes, List.foldl_map]
  induction is generalizing m with
  | nil => simp
  | cons i is ih =>
    rw [List.forall_mem_cons] at his
    rw [List.foldl_cons, ih his.2, Tab.get_set]
    have hkey : p = physReg th r * 128 + i ↔ p / 128 = physReg th r ∧ p % 128 = i := by have := his.1; omega
    simp only [hkey, List.mem_cons]
    by_cases hr : p / 128 = physReg th r <;> by_cases hi : p % 128 = i <;> simp [hr, hi]

/-- A lane of register `q` after lanes `is` of register `r` were written, lane `i` with `g i`. -/
theorem lane_putLanes (th : Thread) (r q : Nat) {is : List Nat} (his : ∀ i ∈ is, i < 128) (g : Nat → W32) (e : Engine)
    {i : Nat} (hi : i < 128) : lane (putLanes th r (is.map fun i => (i, g i)) e) th q i =
      if physReg th q = physReg th r ∧ i ∈ is then g i else lane e th q i := by
  rw [lane, putLanes_eq, get_writeLanes th r his, show (physReg th q * 128 + i) / 128 = physReg th q by omega,
    show (physReg th q * 128 + i) % 128 = i by omega, lane]

/-- Lanes of another physical register are as before. -/
theorem get_putLanes_other (th : Thread) (r : Nat) {is : List Nat} (his : ∀ i ∈ is, i < 128) (g : Nat → W32) (e : Engine)
    {p : Nat} (hp : p / 128 ≠ physReg th r) :
    Tab.get 0 (putLanes th r (is.map fun i => (i, g i)) e).regs p = Tab.get 0 e.regs p := by
  rw [putLanes_eq, get_writeLanes th r his, if_neg fun h => hp h.1]

theorem mem_lanesOn {e : Engine} {t : Nat} {w : W64} {i : Nat} : i ∈ lanesOn e t w ↔ i < 128 ∧ laneOn e t w i = true := by
  rw [lanesOn, List.mem_filter, List.mem_range]

/-- A list with its positions, as its indices with what stands there. -/
theorem map_withPos {α β : Type} (f : Nat × α → β) (d : α) (q : List α) (k : Nat) :
    (withPos k q).map f = (List.range q.length).map fun i => f (k + i, q.getD i d) := by
  induction q generalizing k with
  | nil => rfl
  | cons x q ih =>
    rw [withPos, List.map_cons, ih, List.length_cons, List.range_succ_eq_map, List.map_cons, List.map_map]
    refine congrArg₂ List.cons rfl (List.map_congr_left fun i _ => ?_)
    simp only [Function.comp, Nat.succ_eq_add_one, List.getD_cons_succ, Nat.add_assoc, Nat.add_comm 1]

end Sys2Proof.Machine
end

section
/-! SUPPORT. The hadamard unit (R85, R86, R88, R131), gather and scatter (R132), the top-k unit (R133), and the settlement of O19. -/

namespace Sys2Proof.Machine

/-! ### The hadamard unit -/

theorem exec_rot (l : Lan) (t : ThreadI) (w : W64) (k : RegChk) (s : State) : exec (.rot l t w k) s = .next (doRot l t w k s) := rfl

theorem exec_rotl1 (l : Lan) (t : ThreadI) (w : W64) (k : RegChk) (s : State) :
    exec (.rotl1 l t w k) s = .next (doRotl1 l t w k s) := rfl

/-- A block of 16 registers from `r` up written in a table of lanes. -/
def writeBlock (th : Thread) (r : Nat) (v : List W32) (m : Tab W32) : Tab W32 :=
  (List.range 16).foldl (fun m k => writeLanes th (r + k) (withPos 0 ((v.drop (k * 128)).take 128)) m) m

/-- Register by register, writing a block changes the vector registers alone. -/
theorem foldl_putLanes (th : Thread) (r : Nat) (v : List W32) (ks : List Nat) (e : Engine) :
    ks.foldl (fun e k => putLanes th (r + k) (withPos 0 ((v.drop (k * 128)).take 128)) e) e =
      { e with regs := ks.foldl (fun m k => writeLanes th (r + k) (withPos 0 ((v.drop (k * 128)).take 128)) m) e.regs } := by
  induction ks generalizing e with
  | nil => rfl
  | cons k ks ih => exact ih _

theorem putBlockRegs_eq (th : Thread) (r : Nat) (v : List W32) (e : Engine) :
    putBlockRegs th r v e = { e with regs := writeBlock th r v e.regs } := foldl_putLanes th r v (List.range 16) e

/-- The count of the instruction is no operand of the rotation. -/
theorem rotated_countIssue (l t : Nat) (w : W64) (th : Thread) (s : State) :
    rotated l t w th (countIssue l s) = rotated l t w th s := by
  rw [rotated, getEng_countIssue_same]
  rfl

section
variable {s : State} {l : Lan} {t : ThreadI} {w : W64} {th : Thread} (h : Issues s l t w 9 (rotForm w) th)
include h

/-- ROT writes the rotated block from VD on (R131). -/
theorem rot_ends (hop : wOp w = 0) : ∃ u, exec (.rot l t w .clean) s = .next u ∧
    Ended s l t th { countedEng (dutyNow s) (getEng s l.val) with
      regs := writeBlock th (wVd w) (rotated l.val t.val w th s).1 (getEng s l.val).regs } u ∧ Frame [.engs, .ctxs] s u := by
  refine ⟨_, ?_, counted_ends h.thread (rotated l.val t.val w th s).2⟩
  rw [exec_rot, doRot, issue_of_issues h (by simp [hop]) (by simp [hop])]
  simp only [show (rotForm w).vector = true from rfl, if_true, rotated_countIssue, updEng, getEng_countIssue_same, putBlockRegs_eq,
    countedEng_regs]
  rfl

/-- ROTL1 also writes T_s and L_s to scalar VC (R88, R131). -/
theorem rotl1_ends (hop : wOp w = 1) : let r := (rotated l.val t.val w th s).1
    ∃ u, exec (.rotl1 l t w .clean) s = .next u ∧
      Ended s l t th { countedEng (dutyNow s) (getEng s l.val) with
        regs := writeBlock th (wVd w) r (getEng s l.val).regs
        sregs := Tab.set 0 (getEng s l.val).sregs (t.val * 32 + wVc w)
          ((clipT (BitVec.ofNat 32 ((sreg (getEng s l.val) t.val (wVc w)).toNat / 2 ^ 32)) (sliceL1 r).1).1 ++ (sliceL1 r).1) } u ∧
      Frame [.engs, .ctxs] s u := by
  intro r
  refine ⟨_, ?_, counted_ends h.thread (((rotated l.val t.val w th s).2.or (sliceL1 r).2).or
    (clipT (BitVec.ofNat 32 ((sreg (getEng s l.val) t.val (wVc w)).toNat / 2 ^ 32)) (sliceL1 r).1).2)⟩
  rw [exec_rotl1, doRotl1, issue_of_issues h (by simp [hop]) (by simp [hop])]
  simp only [show (rotForm w).vector = true from rfl, if_true, rotated_countIssue, updEng, getEng_countIssue_same, putBlockRegs_eq,
    putSreg, sreg_countedEng, countedEng_regs, countedEng_sregs]
  rfl

end

/-! ### Gather and scatter -/

theorem any_not_eq_false {α : Type} {p : α → Bool} {xs : List α} (h : ∀ x ∈ xs, p x = true) : xs.any (fun x => !p x) = false :=
  List.any_eq_false.mpr fun x hx => by rw [h x hx]; decide

/-- The form of GATHER and SCATTER with these registers. -/
abbrev gatherForm (a b : Nat) : Form :=
  { vec := [a, b], scal := [], pred := [], fmts := gatherFmts, immOk := true, vector := true }

/-- The element a lane of GATHER reads from the buffer (R132). -/
def gathered (s : State) (l : Nat) (w : W64) (th : Thread) (i : Nat) : W32 :=
  BitVec.ofNat 32 (ofLe (bufRead s l (elemAddr w (lane (getEng s l) th (wVa w) i)).toNat (elemBytes w)))

theorem exec_gather (l : Lan) (t : ThreadI) (w : W64) (k : RegChk) (s : State) :
    exec (.gather l t w k) s = .next (doGather l t w k s) := rfl

theorem exec_scatter (l : Lan) (t : ThreadI) (w : W64) (k : RegChk) (s : State) :
    exec (.scatter l t w k) s = .next (doScatter l t w k s) := rfl

/-- GATHER of elements the thread may read writes the guarded lanes of VD (R132). -/
theorem gather_ends {s : State} {l : Lan} {t : ThreadI} {w : W64} {th : Thread}
    (h : Issues s l t w 0xA (gatherForm (wVd w) (wVa w)) th) (hop : wOp w = 0)
    (hread : ∀ i ∈ lanesOn (getEng s l.val) t.val w,
      bufReadable t.val th (elemAddr w (lane (getEng s l.val) th (wVa w) i)) (elemBytes w) = true) :
    ∃ u, exec (.gather l t w .clean) s = .next u ∧
      Ended s l t th (putLanes th (wVd w) ((lanesOn (getEng s l.val) t.val w).map fun i => (i, gathered s l.val w th i))
        (countedEng (dutyNow s) (getEng s l.val))) u ∧ Frame [.engs, .fresh] s u := by
  have hlanes : (lanesOn (getEng s l.val) t.val w).map (fun i => (i,
        if bufReadable t.val th (elemAddr w (lane (getEng s l.val) th (wVa w) i)) (elemBytes w) then gathered s l.val w th i
        else freeLane w (BitVec.ofInt 32 (elemAddr w (lane (getEng s l.val) th (wVa w) i))) 0)) =
      (lanesOn (getEng s l.val) t.val w).map fun i => (i, gathered s l.val w th i) :=
    List.map_congr_left fun i hi => by rw [if_pos (hread i hi)]
  refine ⟨endWith l.val t.val FFlags.none _ { countIssue l.val s with fresh := s.fresh + 1 }, ?runs,
    ended_endWith h.thread ?others _, ?frame⟩
  case others => exact fun _ hk => getEng_countIssue_other hk s
  case frame =>
    exact (((countIssue_frame _ s).mono (by decide)).step (frame_fresh _ _) (by decide)).step (endWith_none_frame _ _ _ _) (by decide)
  case runs =>
    rw [← advance_setEng, ← hlanes, exec_gather, doGather, issue_of_issues h (by simp [hop]) (by simp [hop])]
    simp only [if_true, bufRead_countIssue, updEng, getEng_countIssue_same, List.map_map, List.any_map]
    refine congrArg _ ((if_neg ?_).trans rfl)
    rw [Bool.and_eq_true, not_and, Bool.not_eq_true]
    exact fun _ => any_not_eq_false hread

/-- The elements SCATTER writes, in lane order: where each lies in the buffer and the lane of VB that goes there (R132). -/
def scattered (s : State) (l t : Nat) (w : W64) (th : Thread) : List (Int × W32) :=
  (lanesOn (getEng s l) t w).map fun i => (elemAddr w (lane (getEng s l) th (wVa w) i), lane (getEng s l) th (wVb w) i)

/-- SCATTER of elements the thread may write stores the guarded lanes in lane order (R132). -/
theorem exec_scatter_eq {s : State} {l : Lan} {t : ThreadI} {w : W64} {th : Thread} (h : Issues s l t w 0xA (gatherForm (wVa w) (wVb w)) th)
    (hop : wOp w = 1) (hwrite : ∀ p ∈ scattered s l.val t.val w th, bufWritable t.val th p.1 (elemBytes w) = true) :
    exec (.scatter l t w .clean) s = .next (advance l.val t.val
      ((scattered s l.val t.val w th).foldl (fun s p => putBuf l.val p.1.toNat (leBytes (elemBytes w) p.2.toNat) s)
        (countIssue l.val s))) := by
  have hall : (scattered s l.val t.val w th).filter (fun p => bufWritable t.val th p.1 (elemBytes w)) = scattered s l.val t.val w th :=
    List.filter_eq_self.mpr hwrite
  have hon : (lanesOn (countedEng (dutyNow s) (getEng s l.val)) t.val w).map (fun i =>
      (elemAddr w (lane (countedEng (dutyNow s) (getEng s l.val)) th (wVa w) i),
        lane (countedEng (dutyNow s) (getEng s l.val)) th (wVb w) i)) = scattered s l.val t.val w th := rfl
  rw [exec_scatter, doScatter, issue_of_issues h (by simp [hop]) (by simp [hop])]
  simp only [if_true, getEng_countIssue_same, hon, any_not_eq_false hwrite, hall, Bool.and_false, Bool.false_eq_true, if_false]

/-! ### The top-k unit -/

theorem exec_tkpush (l : Lan) (t : ThreadI) (w : W64) (k : RegChk) (s : State) :
    exec (.tkpush l t w k) s = .next (doTkpush l t w k s) := rfl

theorem exec_tkpop (l : Lan) (t : ThreadI) (w : W64) (s : State) : exec (.tkpop l t w) s = .next (doTkpop l t w s) := rfl

/-- TKPUSH clears the unit first: IMM bit 23 (R133, log 37). -/
abbrev tkClears (w : W64) : Bool := decide (0x800000 ≤ wImm w)

/-- The form of TKPUSH. -/
abbrev tkpushForm (w : W64) : Form :=
  { vec := [wVa w, wVb w], scal := [], pred := [], fmts := [], immOk := !tkClears w || decide (wImm w % 128 ≤ 64), vector := true }

/-- The form of TKPOP. -/
abbrev tkpopForm (w : W64) : Form :=
  { vec := [wVd w, wVc w], scal := [], pred := [], fmts := [], immOk := true, vector := true }

/-- The unit as TKPUSH finds it, cleared where the word asks for it. -/
def tkReady (w : W64) (e : Engine) : Engine :=
  { e with
    tkK := if tkClears w then wImm w % 128 else e.tkK
    tkSmall := if tkClears w then decide (0x400000 ≤ wImm w % 0x800000) else e.tkSmall
    tkList := if tkClears w then [] else e.tkList }

/-- The unit after TKPUSH: of the candidates it held and the guarded lanes, the first k in rank order (R133). -/
def tkPushed (t : Nat) (w : W64) (th : Thread) (e : Engine) : Engine :=
  { tkReady w e with
    tkList := (((lanesOn e t w).map (fun i => (lane e th (wVa w) i, lane e th (wVb w) i))).foldl
      (fun q x => tkInsert (tkReady w e).tkSmall x q) (tkReady w e).tkList).take (tkReady w e).tkK }

/-- The engine after TKPOP: the candidates in rank order in VD and VC, VC written last, and the unit empty (R133). -/
def tkPopped (w : W64) (th : Thread) (e : Engine) : Engine :=
  { putLanes th (wVc w) ((List.range e.tkList.length).map fun i => (i, (e.tkList.getD i (0, 0)).2))
      (putLanes th (wVd w) ((List.range e.tkList.length).map fun i => (i, (e.tkList.getD i (0, 0)).1)) e) with
    tkList := [] }

/-- TKPUSH leaves the unit with the candidates it keeps (R133). -/
theorem tkpush_ends {s : State} {l : Lan} {t : ThreadI} {w : W64} {th : Thread} (h : Issues s l t w 0xB (tkpushForm w) th)
    (hop : wOp w = 0) : ∃ u, exec (.tkpush l t w .clean) s = .next u ∧
      Ended s l t th (tkPushed t.val w th (countedEng (dutyNow s) (getEng s l.val))) u ∧ Frame [.engs, .ctxs] s u := by
  have hready : (if decide (0x800000 ≤ wImm w) = true
      then { getEng (countIssue l.val s) l.val with
        tkK := wImm w % 128, tkSmall := decide (0x400000 ≤ wImm w % 0x800000), tkList := [] }
      else getEng (countIssue l.val s) l.val) = tkReady w (countedEng (dutyNow s) (getEng s l.val)) := by
    rw [getEng_countIssue_same, tkReady, tkClears]
    split <;> rfl
  rw [exec_tkpush, doTkpush, issue_of_issues h (by simp [hop]) (by simp [hop])]
  simp only [if_true, hready]
  exact ⟨_, rfl, counted_ends h.thread _⟩

/-- TKPOP hands the candidates out and raises no flags (R133). -/
theorem tkpop_ends {s : State} {l : Lan} {t : ThreadI} {w : W64} {th : Thread} (h : Issues s l t w 0xB (tkpopForm w) th)
    (hop : wOp w = 1) : ∃ u, exec (.tkpop l t w) s = .next u ∧
      Ended s l t th (tkPopped w th (countedEng (dutyNow s) (getEng s l.val))) u ∧ Frame [.engs] s u := by
  refine ⟨_, ?runs, (counted_ends h.thread FFlags.none).1,
    (countIssue_frame _ s).step (endWith_none_frame _ _ _ _) (List.Subset.refl _)⟩
  case runs =>
    rw [← advance_setEng, exec_tkpop, doTkpop, issue_of_issues h (by simp [hop]) (by simp [hop])]
    simp only [if_true, getEng_countIssue_same, map_withPos _ ((0, 0) : W32 × W32), Nat.zero_add]
    rfl

section
variable {w : W64} {th : Thread} {e : Engine} (hn : e.tkList.length ≤ 128)
include hn

theorem lt_of_mem_candidates {i : Nat} (hi : i ∈ List.range e.tkList.length) : i < 128 := (List.mem_range.mp hi).trans_le hn

/-- VC holds the indices. -/
theorem lane_tkPopped_vc {i : Nat} (hi : i < 128) : lane (tkPopped w th e) th (wVc w) i =
    if i < e.tkList.length then (e.tkList.getD i (0, 0)).2 else lane e th (wVc w) i := by
  refine (lane_putLanes th _ _ (fun _ => lt_of_mem_candidates hn) _ _ hi).trans ?_
  rw [lane_putLanes th _ _ (fun _ => lt_of_mem_candidates hn) _ _ hi]
  by_cases hin : i < e.tkList.length <;> simp [hin]

/-- VD holds the values, where it is not the register of VC. -/
theorem lane_tkPopped_vd (hne : physReg th (wVd w) ≠ physReg th (wVc w)) {i : Nat} (hi : i < 128) :
    lane (tkPopped w th e) th (wVd w) i =
      if i < e.tkList.length then (e.tkList.getD i (0, 0)).1 else lane e th (wVd w) i := by
  refine (lane_putLanes th _ _ (fun _ => lt_of_mem_candidates hn) _ _ hi).trans ?_
  rw [if_neg fun h => hne h.1, lane_putLanes th _ _ (fun _ => lt_of_mem_candidates hn) _ _ hi]
  simp only [true_and, List.mem_range]

theorem get_tkPopped_other {p : Nat} (hd : p / 128 ≠ physReg th (wVd w)) (hc : p / 128 ≠ physReg th (wVc w)) :
    Tab.get 0 (tkPopped w th e).regs p = Tab.get 0 e.regs p :=
  (get_putLanes_other th _ (fun _ => lt_of_mem_candidates hn) _ _ hc).trans
    (get_putLanes_other th _ (fun _ => lt_of_mem_candidates hn) _ _ hd)

end

/-! ### The obligation -/

/-- Settles O19: each clause reads off how its instruction ends; a lane that GATHER or TKPOP wrote is read back by
`lane_putLanes`. -/
theorem engineRotationGatherAndTopK : Obligations.EngineRotationGatherAndTopK := by
  refine ⟨?rot, ?rotl1, ?gather, ?scatter, ?tkpush, ?tkpop⟩
  case rot =>
    intro s l t w th e h hop
    obtain ⟨u, hrun, hu, hframe⟩ := rot_ends h hop
    rw [putBlockRegs_eq]
    exact ⟨u, hrun, hu.regs, hu.went, hu.issue, hu.sregs, hu.preds, hu.inbox, hu.others, hframe⟩
  case rotl1 =>
    intro s l t w th e r h hop
    obtain ⟨u, hrun, hu, hframe⟩ := rotl1_ends h hop
    rw [putBlockRegs_eq]
    refine ⟨u, hrun, hu.regs, ?vc, ?scalars, hu.went, hu.issue, hu.preds, hu.inbox, hu.others, hframe⟩
    case vc => rw [sreg, hu.sregs, Tab.get_set, if_pos rfl, sliceL1]
    case scalars => exact fun k hk => by rw [hu.sregs, Tab.get_set, if_neg hk]
  case gather =>
    intro s l t w th e at_ h hop hread
    obtain ⟨u, hrun, hu, hframe⟩ := gather_ends h hop hread
    have hlt : ∀ i ∈ lanesOn e t.val w, i < 128 := fun i hi => (mem_lanesOn.mp hi).1
    refine ⟨u, hrun, ?lanes, hu.went, hu.issue, hu.engineElse ?regs rfl rfl rfl, hframe⟩
    case lanes =>
      intro i hi
      rw [hu.lane_eq, lane_putLanes th _ _ hlt _ _ hi]
      simp only [mem_lanesOn, hi, true_and]
      rfl
    case regs => exact fun p hp => get_putLanes_other th _ hlt _ _ fun hq => hp (congrArg some hq)
  case scatter => exact fun s l t w th h hop hwrite => exec_scatter_eq h hop hwrite
  case tkpush =>
    intro s l t w th e clear small h hop
    obtain ⟨u, hrun, hu, hframe⟩ := tkpush_ends h hop
    exact ⟨u, hrun, hu.tkK, hu.tkSmall, hu.tkList, hu.went, hu.issue, hu.engineElse (fun _ _ => rfl) rfl rfl rfl, hframe⟩
  case tkpop =>
    intro s l t w th e n h hop hn
    obtain ⟨u, hrun, hu, hframe⟩ := tkpop_ends h hop
    refine ⟨u, hrun, hu.tkList, hu.went, hu.issue, ?vc, ?vd, ?regs, hu.sregs, hu.preds, hu.others, hframe⟩
    case vc => exact fun i hi => (hu.lane_eq _ i).trans (lane_tkPopped_vc hn hi)
    case vd => exact fun hne i hi => (hu.lane_eq _ i).trans (lane_tkPopped_vd hn hne hi)
    case regs => exact fun p hd hc => (congrArg (fun m => Tab.get 0 m p) hu.regs).trans (get_tkPopped_other hn hd hc)

end Sys2Proof.Machine
end

section
/-! SUPPORT. Lantern buffers (R103, R104, R119, R225, R257): what a block, a broadcast and a row-chain partial leave, and the
settlement of O10. -/

namespace Sys2Proof.Machine

theorem exec_inputBlockArrival (l : Lan) (b : InBlock) (good : Bool) (s : State) :
    exec (.inputBlockArrival l b good) s = .next (takeBlock l b good s) := rfl

theorem exec_broadcast (p : Sconce) (ls : List Lan) (b : InBlock) (s : State) :
    exec (.broadcast p ls b) s = .next (ls.foldl (fun s l => takeBlock l b true s) s) := rfl

theorem exec_chainPartialArrival (l : Lan) (p : ChainPartial) (good : Bool) (s : State) :
    exec (.chainPartialArrival l p good) s = .next (takePartial l p good s) := rfl

theorem frame_xbr (s : State) (x : Xbr) : Frame [.xbr] s { s with xbr := x } := by
  intro p hp; cases p <;> simp at hp <;> rfl

/-- A withhold whose cause is no missed daylight result leaves the checking counters (R251). -/
theorem withhold_chk {cause : Nat} (h : cause ≠ 4) (detail : Nat) (s : State) : (withhold cause detail s).chk = s.chk := by
  have hlog (e : Ember) (a : State) : Frame [.mgt] a (if a.mgt.started then
      { a with mgt := { a.mgt with nextSeq := a.mgt.nextSeq + 1, log := lastN 65536 (a.mgt.log ++ [e]) } } else a) :=
    (frame_mgt a _).ite (Frame.refl _ a)
  have hqueue (e : Ember) (a : State) : Frame [.mgt] a (if a.mgt.started then withholdQueues e a else a) :=
    (frame_mgt a _).ite (Frame.refl _ a)
  have hframe : Frame (Part.withholding.erase .chk) s (withhold cause detail s) := by
    unfold withhold
    rw [if_neg h]
    refine (Frame.refl _ s).ite ?_
    exact .after (by decide) (frame_snuf _ _) <| .after (by decide) (withholdStacks_frame _) <| .after (by decide) (hqueue _ _) <|
      .after (by decide) (withholdGarvy_frame _ _) <| .after (by decide) (hlog _ _) <|
      .after (by decide) (frame_foldl withholdLink_frame _ _) <| .after (by decide) (withholdNotices_frame _) <|
      .after (by decide) (withholdLamp_frame _) ((frame_clk s _).mono (by decide))
  exact hframe .chk (by decide)

/-! ### Slots -/

/-- A slot that has taken its vector stays as it is. -/
theorem openSlot_taken {x : Slot} (h : x.st ≠ .free) (s : State) (l : Nat) (b : InBlock) : openSlot s l b x = x := if_neg h

/-- A slot that starts to take a vector has no failed block. -/
theorem openSlot_free_failed {x : Slot} (h : x.st = .free) (s : State) (l : Nat) (b : InBlock) :
    (openSlot s l b x).failed = [] := by
  rw [openSlot, if_pos h]
  rfl

/-- A slot with a block's values and counts under its key. -/
def withBlock (b : InBlock) (es : List Int) (x : Slot) : Slot :=
  { x with
    blocks := Tab.set [] x.blocks (blockKey b) es,
    counts := Tab.set { nz := 0, l1 := 0, sum := 0 } x.counts (blockKey b) (countBlock es) }

/-- Every block of the slot's vector stands (R103). -/
def slotFull (x : Slot) : Bool := (vecBlocks x).all (fun i => Tab.get [] x.blocks i ≠ [])

theorem slotFull_iff (x : Slot) : slotFull x = true ↔ ∀ i ∈ vecBlocks x, Tab.get [] x.blocks i ≠ [] := by
  simp [slotFull]

/-- A block that enters a slot without failed blocks (R103). -/
theorem putBlock_fresh {x : Slot} (h : x.failed = []) (b : InBlock) (es : List Int) (order : Nat) :
    putBlock b es order x = if slotFull (withBlock b es x) then { withBlock b es x with st := .ready, order := order }
      else { withBlock b es x with st := .filling } := by
  obtain ⟨⟩ := x
  dsimp only at h
  subst h
  rfl

/-- The slot such a block leaves is READY exactly when every block stands, and FILLING otherwise (R103, R104). -/
theorem putBlock_fresh_leaves {x : Slot} (h : x.failed = []) (b : InBlock) (es : List Int) (order : Nat) :
    let y := putBlock b es order x
    y = { withBlock b es x with st := y.st, order := y.order } ∧
      (y.st = .ready ↔ ∀ i ∈ vecBlocks y, Tab.get [] y.blocks i ≠ []) ∧ (y.st = .ready ∨ y.st = .filling) := by
  dsimp only
  rw [putBlock_fresh h]
  split
  case isTrue hfull => exact ⟨rfl, iff_of_true rfl ((slotFull_iff _).mp hfull), .inl rfl⟩
  case isFalse hpart =>
    exact ⟨rfl, iff_of_false SlotSt.noConfusion fun hall => hpart ((slotFull_iff _).mpr hall), .inr rfl⟩

/-- A block that enters a slot in which its key had failed (R225). -/
theorem putBlock_again {x : Slot} {b : InBlock} (h : blockKey b ∈ x.failed) (es : List Int) (order : Nat) :
    let y := putBlock b es order x
    Tab.get [] y.blocks (blockKey b) = es ∧ blockKey b ∉ y.failed ∧ y.retried = x.retried + 1 := by
  have hc : x.failed.contains (blockKey b) = true := List.contains_iff_mem.mpr h
  have hout : blockKey b ∉ x.failed.filter (fun i => i ≠ blockKey b) := fun hm => by simpa using List.of_mem_filter hm
  have hget : Tab.get [] (Tab.set [] x.blocks (blockKey b) es) (blockKey b) = es := by rw [Tab.get_set, if_pos rfl]
  dsimp only [putBlock]
  rw [if_pos hc]
  split
  · exact ⟨hget, hout, rfl⟩
  · split
    · exact ⟨hget, hout, rfl⟩
    · exact ⟨hget, hout, rfl⟩

/-! ### A block at a lantern -/

/-- The slot a block enters, as it stands before (R103). -/
def slotBefore (s : State) (l : Nat) (b : InBlock) (one : Bool) : Slot := openSlot s l b (getSlot (getLan s l) one)

/-- The slot a good block leaves. -/
def slotFilled (s : State) (l : Nat) (b : InBlock) (one : Bool) : Slot :=
  putBlock b (blockVals s l b (slotBefore s l b one).base) (getLan s l).orderNext (slotBefore s l b one)

/-- The lantern a good block leaves. -/
def lanFilled (s : State) (l : Nat) (b : InBlock) (one : Bool) : Lantern :=
  let v := getLan s l
  let y := slotFilled s l b one
  { setSlot v one y with
    orderNext := if y.st == .ready then v.orderNext + 1 else v.orderNext,
    outliers := if y.st == .ready then v.outliers + BitVec.ofNat 32 y.outliers else v.outliers }

/-- The state a good block leaves, before a resolved failure is counted. -/
def blockFilled (l : Nat) (b : InBlock) (one : Bool) (s : State) : State :=
  let t := setLan l (lanFilled s l b one) s
  if (slotFilled s l b one).st == .ready then noteQuant l b.src.epoch (slotFilled s l b one) t else t

/-- The lantern a bad block leaves (R225). -/
def lanMarked (s : State) (l : Nat) (b : InBlock) (one : Bool) : Lantern :=
  let x := slotBefore s l b one
  { setSlot (getLan s l) one { x with st := .failed, failed := blockKey b :: x.failed } with
    stat := setBit (getLan s l).stat 3 }

/-- The state a bad block leaves, before a second failure withholds. -/
def blockMarked (l : Nat) (b : InBlock) (one : Bool) (s : State) : State := setLan l (lanMarked s l b one) s

section
variable {s : State} {l : Lan} {b : InBlock} {one : Bool}

theorem slotBefore_taken (h : (getSlot (getLan s l.val) one).st ≠ .free) :
    slotBefore s l.val b one = getSlot (getLan s l.val) one := openSlot_taken h s l.val b

theorem slotBefore_unfailed (h : (getSlot (getLan s l.val) one).failed = [] ∨ (getSlot (getLan s l.val) one).st = .free) :
    (slotBefore s l.val b one).failed = [] := by
  by_cases hfree : (getSlot (getLan s l.val) one).st = .free
  · exact openSlot_free_failed hfree s l.val b
  · rw [slotBefore_taken hfree]
    exact h.resolve_right hfree

theorem slotBefore_not_failed
    (h : (getSlot (getLan s l.val) one).st = .free ∨ blockKey b ∉ (getSlot (getLan s l.val) one).failed) :
    blockKey b ∉ (slotBefore s l.val b one).failed := by
  by_cases hfree : (getSlot (getLan s l.val) one).st = .free
  · rw [slotBefore_unfailed (.inr hfree)]
    exact List.not_mem_nil
  · rw [slotBefore_taken hfree]
    exact h.resolve_left hfree

theorem takeBlock_waits (h : slotOfBlock (getLan s l.val) b.vec = none) (good : Bool) :
    takeBlock l b good s = { s with xbr := { s.xbr with
      waiting := s.xbr.waiting ++ [{ lan := l, blk := b, good := good }] } } := by
  simp only [takeBlock, h]

theorem takeBlock_good (h : slotOfBlock (getLan s l.val) b.vec = some one) :
    takeBlock l b true s =
      let t := blockFilled l.val b one s
      if (slotBefore s l.val b one).failed.contains (blockKey b) then
        blockRetried (sconceOf l.val) (ctxIdOf t (ownerOfLan t l.val)) t
      else t := by
  simp only [takeBlock, h, if_true]
  rfl

theorem takeBlock_bad (h : slotOfBlock (getLan s l.val) b.vec = some one) :
    takeBlock l b false s =
      let t := blockMarked l.val b one s
      if (slotBefore s l.val b one).failed.contains (blockKey b) then blockLost l.val t else t := by
  simp only [takeBlock, h, Bool.false_eq_true, if_false]
  rfl

end

theorem noteQuant_frame (l : Nat) (ep : W32) (x : Slot) (s : State) : Frame [.engs] s (noteQuant l ep x s) :=
  (updEng_frame s l _).ite (Frame.refl _ s)

theorem blockRetried_frame (src : Nat) (c : Option W16) (s : State) :
    Frame [.chk, .gvl, .mbx, .posted, .mgt] s (blockRetried src c s) :=
  .after (by decide) (ember_frame _ _ _ _ _ _) ((frame_chk s _).mono (by decide))

theorem blockRetried_chk (src : Nat) (c : Option W16) (s : State) :
    (blockRetried src c s).chk = { s.chk with
      retried := satInc s.chk.retried, resolved := satInc s.chk.resolved, dstat := setBit s.chk.dstat 2 } :=
  ember_frame _ _ _ _ _ _ .chk (by decide)

/-- A second failure of one block withholds with cause 02 and counts (R225, R251). -/
theorem blockLost_leaves {s : State} (h : s.snuf.wheld = false) (l : Nat) :
    (blockLost l s).snuf = { wheld := true, cause := 2, detail := BitVec.ofNat 16 l } ∧
      (blockLost l s).chk = { s.chk with failed := satInc s.chk.failed, dstat := setBit s.chk.dstat 1 } ∧
      Frame Part.withholding s (blockLost l s) :=
  ⟨withhold_snuf (s := blockTwice s) h 2 l, withhold_chk (by decide) l (blockTwice s),
    .after (by decide) (withhold_frame 2 l (blockTwice s)) ((frame_chk s _).mono (by decide))⟩

section
variable (s : State) (l : Nat) (b : InBlock) (one : Bool)

theorem blockFilled_frame : Frame [.lans, .engs] s (blockFilled l b one s) := by
  have hset : Frame [.lans, .engs] s (setLan l (lanFilled s l b one) s) := (setLan_frame s l _).mono (by decide)
  exact Frame.ite (.after (by decide) (noteQuant_frame _ _ _ _) hset) hset

theorem getLan_blockFilled (k : Nat) : getLan (blockFilled l b one s) k = if k = l then lanFilled s l b one else getLan s k := by
  rw [← getLan_setLan l k (lanFilled s l b one) s]
  unfold blockFilled
  dsimp only
  split
  · exact (noteQuant_frame _ _ _ _).getLan k (by decide)
  · rfl

theorem blockMarked_frame : Frame [.lans] s (blockMarked l b one s) := setLan_frame s l _

theorem getLan_blockMarked : getLan (blockMarked l b one s) l = lanMarked s l b one := getLan_setLan_same l _ s

theorem getLan_blockMarked_other {k : Nat} (h : k ≠ l) : getLan (blockMarked l b one s) k = getLan s k := by
  rw [blockMarked, getLan_setLan, if_neg h]

theorem getSlot_lanFilled_same : getSlot (lanFilled s l b one) one = slotFilled s l b one := by
  cases one <;> rfl

theorem getSlot_lanFilled_other : getSlot (lanFilled s l b one) (!one) = getSlot (getLan s l) (!one) := by
  cases one <;> rfl

theorem getSlot_lanMarked_same : getSlot (lanMarked s l b one) one =
    { slotBefore s l b one with st := .failed, failed := blockKey b :: (slotBefore s l b one).failed } := by
  cases one <;> rfl

theorem getSlot_lanMarked_other : getSlot (lanMarked s l b one) (!one) = getSlot (getLan s l) (!one) := by
  cases one <;> rfl

end

/-- A good block whose key had not failed (R103, R104). -/
theorem takeBlock_fresh {s : State} {l : Lan} {b : InBlock} {one : Bool} (h : slotOfBlock (getLan s l.val) b.vec = some one)
    (hf : (slotBefore s l.val b one).failed = []) : takeBlock l b true s = blockFilled l.val b one s := by
  rw [takeBlock_good h, hf]
  rfl

/-! ### A broadcast -/

/-- What reaching a lantern buffer may touch while the check passes. -/
def Part.buffering : List Part := [.lans, .engs, .xbr, .chk] ++ Part.posting

/-- The lantern a good block finds or leaves: one without a slot for it stays as it is (R119). -/
def lanTaking (s : State) (l : Nat) (b : InBlock) : Lantern :=
  match slotOfBlock (getLan s l) b.vec with
  | none => getLan s l
  | some one => lanFilled s l b one

theorem takeBlock_frame (l : Lan) (b : InBlock) (s : State) : Frame Part.buffering s (takeBlock l b true s) := by
  cases h : slotOfBlock (getLan s l.val) b.vec with
  | none =>
    rw [takeBlock_waits h]
    exact (frame_xbr s _).mono (by decide)
  | some one =>
    rw [takeBlock_good h]
    have hfill : Frame Part.buffering s (blockFilled l.val b one s) := (blockFilled_frame s l.val b one).mono (by decide)
    exact Frame.ite (.after (by decide) (blockRetried_frame _ _ _) hfill) hfill

/-- A good block changes its own lantern alone. -/
theorem getLan_takeBlock (l : Lan) (b : InBlock) (s : State) (k : Nat) :
    getLan (takeBlock l b true s) k = if k = l.val then lanTaking s l.val b else getLan s k := by
  unfold lanTaking
  cases h : slotOfBlock (getLan s l.val) b.vec with
  | none =>
    rw [takeBlock_waits h]
    split
    · rename_i hk; rw [hk]; rfl
    · rfl
  | some one =>
    rw [takeBlock_good h]
    dsimp only
    rw [← getLan_blockFilled]
    split
    · exact (blockRetried_frame _ _ _).getLan k (by decide)
    · rfl

/-- The metadata of a lantern's shard is the lantern's, its sconce's and its context's. -/
theorem lanMeta_congr {s t : State} {l : Nat} (hl : getLan t l = getLan s l) (hscn : t.scn = s.scn) (hctx : t.ctxs = s.ctxs)
    (ep : W32) : lanMeta t l ep = lanMeta s l ep := by
  simp only [lanMeta, ownerOfLan, lanShard, epochShards, getScn, getCtx, hl, hscn, hctx]

/-- What a block makes of a lantern is the same after blocks for other lanterns. -/
theorem lanTaking_congr {s t : State} {l : Nat} (hl : getLan t l = getLan s l) (hf : Frame Part.buffering s t) (b : InBlock) :
    lanTaking t l b = lanTaking s l b := by
  have hmeta (ep : W32) : lanMeta t l ep = lanMeta s l ep := lanMeta_congr hl (hf .scn (by decide)) (hf .ctxs (by decide)) ep
  have hopen (x : Slot) : openSlot t l b x = openSlot s l b x := by
    unfold openSlot lanQuant
    rw [hl, hmeta]
  have hvals (base : Nat) : blockVals t l b base = blockVals s l b base := by simp only [blockVals, lanQuant, hmeta]
  have hfilled (one : Bool) : lanFilled t l b one = lanFilled s l b one := by
    unfold lanFilled slotFilled slotBefore
    rw [hl, hopen, hvals]
  simp only [lanTaking, hl, hfilled]

/-- Each lantern of a broadcast takes the block as if it came alone (R257). -/
theorem getLan_broadcast (b : InBlock) {ls : List Lan} (hnd : ls.Nodup) (s : State) :
    (∀ n, (∀ l ∈ ls, l.val ≠ n) → getLan (ls.foldl (fun s l => takeBlock l b true s) s) n = getLan s n) ∧
      ∀ l ∈ ls, getLan (ls.foldl (fun s l => takeBlock l b true s) s) l.val = lanTaking s l.val b := by
  induction ls generalizing s with
  | nil => exact ⟨fun _ _ => rfl, fun _ h => absurd h List.not_mem_nil⟩
  | cons x ls ih =>
    obtain ⟨hx, hls⟩ := List.nodup_cons.mp hnd
    obtain ⟨hout, hin⟩ := ih hls (takeBlock x b true s)
    simp only [List.foldl_cons, List.forall_mem_cons]
    refine ⟨fun n hn => ?_, ?_, fun l hl => ?_⟩
    · rw [hout n hn.2, getLan_takeBlock, if_neg (Ne.symm hn.1)]
    · rw [hout x.val fun l hl he => hx (Fin.ext he ▸ hl), getLan_takeBlock, if_pos rfl]
    · have hne : l.val ≠ x.val := fun he => hx (Fin.ext he ▸ hl)
      rw [hin l hl]
      exact lanTaking_congr ((getLan_takeBlock x b s l.val).trans (if_neg hne)) (takeBlock_frame x b s) b

/-! ### A row-chain partial -/

/-- The context slot and the flare that wait for a partial (R109). -/
def tailOf (s : State) (p : ChainPartial) : Option (Nat × FlareTail) :=
  (List.range 16).findSome? (fun c => ((getLctx s c).tails.find? (fun t => t.id == p.flare)).map (fun t => (c, t)))

section
variable {s : State} {l : Lan} {p : ChainPartial} {c : Nat} {t : FlareTail} {q : ChainRun} {m : Nat × OutArea}
  (ht : tailOf s p = some (c, t)) (hq : t.chains.find? (fun q => q.head == l) = some q)
  (hm : q.parts.find? (fun m => m.1 == p.member) = some m)

/-- A tail in which a member's sums have joined their head's chain. -/
def joined (l : Lan) (member : Nat) (o : OutArea) (t : FlareTail) : FlareTail :=
  { t with chains := updIf (fun x => x.head == l) (addPart member o) t.chains, checks := t.checks + (4 * o.a.length + 255) / 256 }

include ht hq hm

theorem takePartial_good (h : p.member ∉ q.fails) : takePartial l p true s = runTail c (joined l p.member m.2 t) s := by
  have hc : q.fails.contains p.member = false := by simpa using h
  unfold tailOf at ht
  simp only [takePartial, ht, hq, hm, hc, if_true, Bool.false_eq_true, if_false, Bool.not_false, Bool.and_true]
  rfl

theorem takePartial_good_again (h : p.member ∈ q.fails) :
    takePartial l p true s = runTail c { joined l p.member m.2 t with clean := false, resolved := t.resolved + 1 }
      (blockRetried (sconceOf l.val) (ctxIdOf s (some (Fin.ofNat 16 c))) s) := by
  have hc : q.fails.contains p.member = true := List.contains_iff_mem.mpr h
  unfold tailOf at ht
  simp only [takePartial, ht, hq, hm, hc, if_true, Bool.not_true, Bool.and_false]
  rfl

theorem takePartial_bad (h : p.member ∉ q.fails) :
    takePartial l p false s = runTail c { t with
      chains := updIf (fun x => x.head == l) (fun x => { x with fails := p.member :: x.fails }) t.chains } s := by
  have hc : q.fails.contains p.member = false := by simpa using h
  unfold tailOf at ht
  simp only [takePartial, ht, hq, hm, hc, Bool.false_eq_true, if_false]

theorem takePartial_bad_again (h : p.member ∈ q.fails) : takePartial l p false s = blockLost l.val s := by
  have hc : q.fails.contains p.member = true := List.contains_iff_mem.mpr h
  unfold tailOf at ht
  simp only [takePartial, ht, hq, hm, hc, Bool.false_eq_true, if_false, if_true]

end

/-! ### The obligation -/

/-- Settles O10: a block's clauses go through what `takeBlock` does by slot and check, a broadcast's through
`getLan_broadcast`, a partial's through what `takePartial` does by check and earlier failure. -/
theorem lanternBuffersTakeBlocks : Obligations.LanternBuffersTakeBlocks := by
  refine ⟨?fresh, ?again, ?fails, ?lost, ?waits, ?broadcast, ?joins, ?joinsAgain, ?partialFails, ?partialLost⟩
  case fresh =>
    intro s l b one h hf x es
    have hx := slotBefore_unfailed (b := b) hf
    refine ⟨_, (exec_inputBlockArrival l b true s).trans (congrArg _ (takeBlock_fresh h hx)), ?_⟩
    dsimp only
    rw [getLan_blockFilled, if_pos rfl, getSlot_lanFilled_same, getSlot_lanFilled_other]
    obtain ⟨hslot, hready, hst⟩ := putBlock_fresh_leaves hx b es (getLan s l.val).orderNext
    exact ⟨hslot, hready, hst, rfl, fun k hk => (getLan_blockFilled ..).trans (if_neg hk), blockFilled_frame s l.val b one⟩
  case again =>
    intro s l b one h hkey hfree
    have hopen := slotBefore_taken (b := b) hfree
    rw [← hopen] at hkey ⊢
    have hc : (slotBefore s l.val b one).failed.contains (blockKey b) = true := List.contains_iff_mem.mpr hkey
    refine ⟨_, (exec_inputBlockArrival l b true s).trans (congrArg _ ((takeBlock_good h).trans (if_pos hc))), ?_⟩
    dsimp only
    have hfill := blockFilled_frame s l.val b one
    have hchk : (blockFilled l.val b one s).chk = s.chk := hfill .chk (by decide)
    have hret := blockRetried_frame (sconceOf l.val)
      (ctxIdOf (blockFilled l.val b one s) (ownerOfLan (blockFilled l.val b one s) l.val)) (blockFilled l.val b one s)
    rw [hret.getLan _ (by decide), getLan_blockFilled, if_pos rfl, getSlot_lanFilled_same, blockRetried_chk, hchk]
    obtain ⟨hvals, hout, hcount⟩ := putBlock_again hkey
      (blockVals s l.val b (slotBefore s l.val b one).base) (getLan s l.val).orderNext
    exact ⟨hvals, hout, hcount, rfl, .after (by decide) hret (hfill.mono (by decide))⟩
  case fails =>
    intro s l b one h hf x
    have hkey : (slotBefore s l.val b one).failed.contains (blockKey b) = false := by simpa using slotBefore_not_failed hf
    refine ⟨blockMarked l.val b one s, (exec_inputBlockArrival l b false s).trans (congrArg _ ?_), ?_⟩
    · rw [takeBlock_bad h, hkey]
      rfl
    · dsimp only
      rw [getLan_blockMarked]
      exact ⟨getSlot_lanMarked_same s l.val b one, rfl, getSlot_lanMarked_other s l.val b one,
        fun k hk => getLan_blockMarked_other s l.val b one hk, blockMarked_frame s l.val b one⟩
  case lost =>
    intro s l b one h hfree hkey hheld
    have hopen := slotBefore_taken (b := b) hfree
    have hc : (slotBefore s l.val b one).failed.contains (blockKey b) = true := by
      rw [hopen]
      exact List.contains_iff_mem.mpr hkey
    obtain ⟨hsnuf, hchk, hframe⟩ := blockLost_leaves (s := blockMarked l.val b one s) hheld l.val
    refine ⟨_, (exec_inputBlockArrival l b false s).trans (congrArg _ ((takeBlock_bad h).trans (if_pos hc))), hsnuf, hchk, ?_⟩
    exact .after (by decide) hframe ((blockMarked_frame s l.val b one).mono (by decide))
  case waits =>
    intro s l b good h
    rw [exec_inputBlockArrival, takeBlock_waits h]
  case broadcast =>
    intro s p ls b hnd
    obtain ⟨hout, hin⟩ := getLan_broadcast b hnd s
    refine ⟨_, exec_broadcast p ls b s, fun l hl => ⟨_, exec_inputBlockArrival l b true s, ?_⟩, hout, ?_⟩
    · exact (hin l hl).trans ((getLan_takeBlock l b s l.val).trans (if_pos rfl)).symm
    · exact frame_foldl (fun a l => takeBlock_frame l b a) ls s
  case joins => exact fun s l p c t q m ht hq hm h => congrArg _ (takePartial_good ht hq hm h)
  case joinsAgain => exact fun s l p c t q m ht hq hm h => congrArg _ (takePartial_good_again ht hq hm h)
  case partialFails => exact fun s l p c t q m ht hq hm h => congrArg _ (takePartial_bad ht hq hm h)
  case partialLost =>
    intro s l p c t q m ht hq hm h hheld
    exact ⟨_, (exec_chainPartialArrival l p false s).trans (congrArg _ (takePartial_bad_again ht hq hm h)),
      blockLost_leaves hheld l.val⟩

end Sys2Proof.Machine
end

section
/-! SUPPORT. The flare boundary (R113, R115, R189, R535): the takeover swap, the waiting trim changes and the calibration that may
follow, what each leaves of the lantern, and the settlement of O11. -/

namespace Sys2Proof.Machine

theorem exec_lntSwapArm (l : Lan) (v : W32) (s : State) :
    exec (.lntSwapArm l v) s = .next (setLan l.val (swapWrite v (spareOk s l.val) (getLan s l.val)) s) := rfl

theorem exec_lntIssueWrite (l : Lan) (v : W32) (s : State) :
    exec (.lntIssueWrite l v) s =
      .next (setLan l.val { getLan s l.val with ivalNext := some (BitVec.ofNat 2 (fld v 1 0)) } s) := rfl

theorem exec_lntCfgWrite (l : Lan) (v : W32) (s : State) :
    exec (.lntCfgWrite l v) s = .next (setLan l.val (cfgWrite v (getLan s l.val)) s) := rfl

theorem exec_flareBoundary_busy {l : Lan} {s : State} (h : lanQuiet s l.val = false) : exec (.flareBoundary l) s = .next s := by
  refine congrArg Host.Outcome.next (if_neg ?_)
  rw [h]
  exact Bool.false_ne_true

theorem exec_flareBoundary_quiet {l : Lan} {s : State} (h : lanQuiet s l.val = true) :
    exec (.flareBoundary l) s = .next (atBoundary l.val s) := congrArg Host.Outcome.next (if_pos h)

/-! ### LNT_SWAP (R113) -/

theorem swapWrite_arms {w : W32} {v : Lantern} (hw : bitAt w 31 = true) (ha : v.arm = false) :
    swapWrite w true v = { v with arm := true, swapLw := Fin.ofNat 16 (fld w 19 16) } := by
  simp only [swapWrite, hw, ha, Bool.not_false, Bool.and_true, if_true]

theorem swapWrite_refused {w : W32} {v : Lantern} {ready : Bool} (hw : bitAt w 31 = true) (h : ready = false ∨ v.arm = true) :
    swapWrite w ready v = { v with stat := setBit v.stat 4 } := by
  have hno : (ready && !v.arm) = false := by
    rcases h with h | h
    · rw [h, Bool.false_and]
    · rw [h, Bool.not_true, Bool.and_false]
  simp only [swapWrite, hw, hno, if_true, Bool.false_eq_true, if_false, lanCfgErr]

theorem swapWrite_cancels {w : W32} (hw : bitAt w 31 = false) (ready : Bool) (v : Lantern) :
    swapWrite w ready v = { v with arm := false, swapLw := Fin.ofNat 16 (fld w 19 16) } := by
  simp only [swapWrite, hw, Bool.false_eq_true, if_false]

/-! ### The wick map (R112) -/

/-- One five-bit field of a map register, written and read back. -/
theorem mapField_put {x k p : Nat} (hx : x < 2 ^ 30) (hk : k < 6) (hp : p < 32) :
    (x - x / 2 ^ (5 * k) % 32 * 2 ^ (5 * k) + p % 32 * 2 ^ (5 * k)) % 2 ^ 30 / 2 ^ (5 * k) % 32 = p := by
  interval_cases k <;> omega

theorem mapOf_mapSet (v : Lantern) (lw : Nat) {pw : Nat} (hp : pw < 32) : mapOf (mapSet v lw pw) lw = pw := by
  have hk : lw % 6 < 6 := Nat.mod_lt _ (by decide)
  have hput (x : BitVec 30) := mapField_put x.isLt hk hp
  unfold mapSet
  dsimp only
  split
  · rename_i h0
    simp only [mapOf, if_pos h0, BitVec.toNat_ofNat, hput]
  · rename_i h0
    split
    · rename_i h1
      simp only [mapOf, if_neg h0, if_pos h1, BitVec.toNat_ofNat, hput]
    · rename_i h1
      simp only [mapOf, if_neg h0, if_neg h1, BitVec.toNat_ofNat, hput]

/-- A write of the map changes nothing else. -/
theorem mapSet_eq (v : Lantern) (lw pw : Nat) : ∃ a b c, mapSet v lw pw = { v with map0 := a, map1 := b, map2 := c } := by
  unfold mapSet
  dsimp only
  split
  · exact ⟨_, _, _, rfl⟩
  · split
    · exact ⟨_, _, _, rfl⟩
    · exact ⟨_, _, _, rfl⟩

/-! ### Corrections (R185) -/

section
variable (l pw kind col tp : Nat) (d : Int) (s : State)

theorem trimApply_unclipped (h : (trimAdd (getWick s l pw) kind col tp d).2 = false) :
    trimApply l pw kind col tp d s = setWick l pw (trimAdd (getWick s l pw) kind col tp d).1 s := by
  simp only [trimApply, h, Bool.false_eq_true, if_false]

theorem trimApply_frame : Frame [.lans, .wicks, .gvl, .mbx, .posted, .mgt] s (trimApply l pw kind col tp d s) := by
  have hset : Frame [.lans, .wicks, .gvl, .mbx, .posted, .mgt] s (setWick l pw (trimAdd (getWick s l pw) kind col tp d).1 s) :=
    (setWick_frame s l pw _).mono (by decide)
  exact Frame.ite (.after (by decide) (ember_frame _ _ _ _ _ _) <| .after (by decide) (updLan_frame _ l _) hset) hset

/-- Of the lanterns a correction changes CAL_STAT of its own alone. -/
theorem getLan_trimApply :
    (∃ c, getLan (trimApply l pw kind col tp d s) l = { getLan s l with calStat := c }) ∧
      ∀ k, k ≠ l → getLan (trimApply l pw kind col tp d s) k = getLan s k := by
  unfold trimApply
  dsimp only
  split
  · rw [(ember_frame _ _ _ _ _ _).getLan l (by decide), getLan_updLan_same]
    refine ⟨⟨_, rfl⟩, fun k hk => ?_⟩
    rw [(ember_frame _ _ _ _ _ _).getLan k (by decide), getLan_updLan, if_neg hk, getLan_setWick]
  · rw [getLan_setWick]
    exact ⟨⟨(getLan s l).calStat, rfl⟩, fun _ _ => rfl⟩

end

/-! ### The takeover swap at the boundary (R113, R229) -/

/-- The lantern a swap leaves, `sp` its spare before. -/
def swappedLan (sp : PWick) (v : Lantern) : Lantern :=
  let old := mapOf v v.swapLw.val
  mapSet { v with
    arm := false, stat := setBit v.stat 5, subst := clrBit v.subst v.swapLw.val,
    spare := if h : old < 17 then some ⟨old, h⟩ else none } v.swapLw.val sp.val

theorem swappedLan_eq (sp : PWick) (v : Lantern) : ∃ a b c, swappedLan sp v = { v with
    arm := false, stat := setBit v.stat 5, subst := clrBit v.subst v.swapLw.val,
    spare := if h : mapOf v v.swapLw.val < 17 then some ⟨_, h⟩ else none, map0 := a, map1 := b, map2 := c } :=
  mapSet_eq _ _ _

section
variable {l : Nat} {s : State}

theorem swapAtBoundary_unarmed (h : (getLan s l).arm = false) : swapAtBoundary l s = s := by
  simp only [swapAtBoundary, h, Bool.false_eq_true, if_false]

theorem swapAtBoundary_refused (ha : (getLan s l).arm = true) (h : spareOk s l = false) :
    swapAtBoundary l s = setLan l { getLan s l with arm := false, stat := setBit (getLan s l).stat 4 } s := by
  unfold spareOk at h
  cases hs : (getLan s l).spare with
  | none => simp only [swapAtBoundary, ha, hs, if_true]
  | some w =>
    simp only [hs, beq_eq_false_iff_ne] at h
    simp only [swapAtBoundary, ha, hs, if_true, if_neg h]

theorem swapAtBoundary_swaps {sp : PWick} (ha : (getLan s l).arm = true) (hs : (getLan s l).spare = some sp)
    (hst : (getWick s l sp.val).st = .spare) :
    swapAtBoundary l s =
      updWick l (mapOf (getLan s l) (getLan s l).swapLw.val) (fun w => { w with
        st := if (getLan s l).subst.toNat / 2 ^ (getLan s l).swapLw.val % 2 = 1 then .quarantined else .spare, lwick := none })
        (updWick l sp.val (fun w => { w with st := .service, lwick := some (getLan s l).swapLw })
          (setLan l (swappedLan sp (getLan s l)) s)) := by
  simp only [swapAtBoundary, ha, hs, hst, if_true]
  rfl

/-- A swap at the boundary, done, refused or not armed, leaves ARM 0 and the issue interval as it is, and the other lanterns. -/
theorem getLan_swapAtBoundary (l : Nat) (s : State) :
    ((getLan (swapAtBoundary l s) l).arm = false ∧ (getLan (swapAtBoundary l s) l).ival = (getLan s l).ival ∧
      (getLan (swapAtBoundary l s) l).ivalNext = (getLan s l).ivalNext) ∧
      (∀ k, k ≠ l → getLan (swapAtBoundary l s) k = getLan s k) ∧ Frame [.lans, .wicks] s (swapAtBoundary l s) := by
  cases ha : (getLan s l).arm with
  | false =>
    rw [swapAtBoundary_unarmed ha]
    exact ⟨⟨ha, rfl, rfl⟩, fun _ _ => rfl, Frame.refl _ s⟩
  | true =>
    by_cases hok : spareOk s l = true
    · obtain ⟨sp, hs, hst⟩ : ∃ sp, (getLan s l).spare = some sp ∧ (getWick s l sp.val).st = .spare := by
        unfold spareOk at hok
        cases hs : (getLan s l).spare with
        | none => simp [hs] at hok
        | some sp => exact ⟨sp, rfl, by simpa [hs] using hok⟩
      rw [swapAtBoundary_swaps ha hs hst]
      obtain ⟨a, b, c, hmap⟩ := swappedLan_eq sp (getLan s l)
      refine ⟨?_, fun k hk => ?_, .after (by decide) (updWick_frame _ l _ _) <| .after (by decide) (updWick_frame _ l _ _)
        ((setLan_frame s l _).mono (by decide))⟩
      · rw [getLan_updWick, getLan_updWick, getLan_setLan_same, hmap]
        exact ⟨rfl, rfl, rfl⟩
      · rw [getLan_updWick, getLan_updWick, getLan_setLan, if_neg hk]
    · rw [swapAtBoundary_refused ha (Bool.not_eq_true _ ▸ hok)]
      refine ⟨?_, fun k hk => ?_, (setLan_frame s l _).mono (by decide)⟩
      · rw [getLan_setLan_same]
        exact ⟨rfl, rfl, rfl⟩
      · rw [getLan_setLan, if_neg hk]

/-! ### Waiting trim changes (R189) -/

/-- One waiting change takes effect: the code, and the wick's sum of live changes. -/
def trimTurn (l tp : Nat) (s : State) (c : TrimChange) : State :=
  updWick l c.pw.val (fun w => { w with live := Tab.upd 0 w.live (c.kind * 520 + c.col) (fun x => x + c.delta) })
    (trimApply l c.pw.val c.kind c.col tp c.delta s)

theorem trimAtBoundary_eq (l : Nat) (s : State) :
    trimAtBoundary l s =
      (getLan s l).trimNext.foldl (trimTurn l (getLan s l).tpoint.toNat) (setLan l { getLan s l with trimNext := [] } s) := rfl

theorem trimTurn_frame (l tp : Nat) (s : State) (c : TrimChange) :
    Frame [.lans, .wicks, .gvl, .mbx, .posted, .mgt] s (trimTurn l tp s c) :=
  .after (by decide) (updWick_frame _ _ _ _) (trimApply_frame _ _ _ _ _ _ s)

/-- A change that clips nothing touches its wick alone. -/
theorem trimTurn_unclipped {l tp : Nat} {s : State} {c : TrimChange}
    (hc : (trimAdd (getWick s l c.pw.val) c.kind c.col tp c.delta).2 = false) :
    getWick (trimTurn l tp s c) l c.pw.val =
      (let w := (trimAdd (getWick s l c.pw.val) c.kind c.col tp c.delta).1
      { w with live := Tab.upd 0 w.live (c.kind * 520 + c.col) (fun x => x + c.delta) }) ∧
      Frame [.wicks] s (trimTurn l tp s c) := by
  rw [trimTurn, trimApply_unclipped _ _ _ _ _ _ _ hc, getWick_updWick_same, getWick_setWick_same]
  exact ⟨rfl, .after (by decide) (updWick_frame _ _ _ _) (setWick_frame s _ _ _)⟩

theorem trimAtBoundary_frame (l : Nat) (s : State) : Frame [.lans, .wicks, .gvl, .mbx, .posted, .mgt] s (trimAtBoundary l s) := by
  rw [trimAtBoundary_eq]
  exact .after (by decide) (frame_foldl (trimTurn_frame l _) _ _) ((setLan_frame s l _).mono (by decide))

/-- The waiting changes leave none waiting, and of the lantern's rest CAL_STAT alone may change. -/
theorem getLan_trimAtBoundary (l : Nat) (s : State) :
    (∃ c, getLan (trimAtBoundary l s) l = { getLan s l with trimNext := [], calStat := c }) ∧
      ∀ k, k ≠ l → getLan (trimAtBoundary l s) k = getLan s k := by
  rw [trimAtBoundary_eq]
  refine foldl_keeps (I := fun u => (∃ c, getLan u l = { getLan s l with trimNext := [], calStat := c }) ∧
    ∀ k, k ≠ l → getLan u k = getLan s k) (fun u c ⟨⟨x, hx⟩, hu⟩ => ?_) _ ⟨⟨_, getLan_setLan_same l _ s⟩, fun k hk => ?_⟩
  · obtain ⟨⟨y, hy⟩, hother⟩ := getLan_trimApply l c.pw.val c.kind c.col (getLan s l).tpoint.toNat c.delta u
    refine ⟨⟨y, ?_⟩, fun k hk => (hother k hk).trans (hu k hk)⟩
    rw [trimTurn, getLan_updWick, hy, hx]
  · rw [getLan_setLan, if_neg hk]

/-- With none waiting only the lantern is written as it stands. -/
theorem trimAtBoundary_none (h : (getLan s l).trimNext = []) : trimAtBoundary l s = setLan l (getLan s l) s := by
  rw [trimAtBoundary_eq, h, List.foldl_nil, ← h]

/-- A single change that clips nothing. -/
theorem trimAtBoundary_single {c : TrimChange} (h : (getLan s l).trimNext = [c])
    (hc : (trimAdd (getWick s l c.pw.val) c.kind c.col (getLan s l).tpoint.toNat c.delta).2 = false) :
    getWick (trimAtBoundary l s) l c.pw.val =
      (let w := (trimAdd (getWick s l c.pw.val) c.kind c.col (getLan s l).tpoint.toNat c.delta).1
      { w with live := Tab.upd 0 w.live (c.kind * 520 + c.col) (fun x => x + c.delta) }) ∧
      Frame [.lans, .wicks] s (trimAtBoundary l s) := by
  obtain ⟨hwick, hframe⟩ := trimTurn_unclipped (s := setLan l { getLan s l with trimNext := [] } s) hc
  rw [trimAtBoundary_eq, h]
  exact ⟨hwick, .after (by decide) hframe ((setLan_frame s l _).mono (by decide))⟩

/-! ### The boundary (R535) -/

/-- The lantern's interval and substitutions come into force. -/
def boundaryLan (v : Lantern) : Lantern :=
  { v with ival := v.ivalNext.getD v.ival, ivalNext := none, launched := false, substNow := v.subst }

/-- Everything of a boundary but the calibration that may follow. -/
def boundaryTaken (l : Nat) (s : State) : State := updLan l boundaryLan (trimAtBoundary l (swapAtBoundary l s))

/-- A drive-reference calibration begins where it waits for the boundary on an undivided half (R197, R210). -/
def drTail (l : Nat) (s : State) : State :=
  if (getLan s l).drAtBoundary ∧ (getLan s l).phase = .drWait ∧ divNow s l = 0 then drBegin l s else s

theorem atBoundary_eq (l : Nat) (s : State) : atBoundary l s = drTail l (boundaryTaken l s) := by
  unfold atBoundary boundaryTaken
  refine congrArg (drTail l) (updLan_congr ?_)
  generalize getLan (trimAtBoundary l (swapAtBoundary l s)) l = v
  unfold boundaryLan
  cases h : v.ivalNext with
  | none => simp only [h, Option.getD_none]
  | some i => rfl

theorem drBegin_setLan (l : Nat) (v : Lantern) (s : State) :
    drBegin l (setLan l v s) = setLan l (drStart (nowF s) s.fresh v) { s with fresh := s.fresh + 983040 } := by
  unfold drBegin
  rw [getLan_setLan_same]
  simp only [setLan, Tab.set_set]
  rfl

theorem drBegin_frame (l : Nat) (s : State) : Frame [.lans, .fresh] s (drBegin l s) :=
  .after (by decide) (setLan_frame _ l _) ((frame_fresh s _).mono (by decide))

theorem drTail_frame (l : Nat) (s : State) : Frame [.lans, .fresh] s (drTail l s) := (drBegin_frame l s).ite (Frame.refl _ s)

theorem getLan_drTail_other {k : Nat} (h : k ≠ l) (s : State) : getLan (drTail l s) k = getLan s k := by
  unfold drTail
  split
  · rw [drBegin, getLan_setLan, if_neg h]
    rfl
  · rfl

/-- What holds of a lantern and stays when its calibration starts holds after the tail. -/
theorem getLan_drTail {P : Lantern → Prop} (hP : ∀ now seed v, P v → P (drStart now seed v)) (h : P (getLan s l)) :
    P (getLan (drTail l s) l) := by
  unfold drTail
  split
  · rw [drBegin, getLan_setLan_same]
    exact hP _ _ _ h
  · exact h

/-- What every boundary of a quiet lantern leaves of it, `v` the lantern before. -/
def BoundaryPassed (v w : Lantern) : Prop :=
  w.arm = false ∧ w.trimNext = [] ∧ w.ival = v.ivalNext.getD v.ival ∧ w.ivalNext = none ∧ w.launched = false ∧
    w.substNow = w.subst

theorem boundaryTaken_passed (l : Nat) (s : State) : BoundaryPassed (getLan s l) (getLan (boundaryTaken l s) l) := by
  obtain ⟨⟨harm, hival, hnext⟩, -, -⟩ := getLan_swapAtBoundary l s
  obtain ⟨⟨c, hc⟩, -⟩ := getLan_trimAtBoundary l (swapAtBoundary l s)
  rw [boundaryTaken, getLan_updLan_same, hc]
  refine ⟨harm, rfl, ?_, rfl, rfl, rfl⟩
  rw [← hival, ← hnext]
  rfl

theorem boundaryTaken_others (l : Nat) (s : State) :
    (∀ k, k ≠ l → getLan (boundaryTaken l s) k = getLan s k) ∧
      Frame [.lans, .wicks, .gvl, .mbx, .posted, .mgt] s (boundaryTaken l s) := by
  obtain ⟨-, hswap, hframe⟩ := getLan_swapAtBoundary l s
  obtain ⟨-, htrim⟩ := getLan_trimAtBoundary l (swapAtBoundary l s)
  refine ⟨fun k hk => ?_, .after (by decide) (updLan_frame _ l _) <| .after (by decide) (trimAtBoundary_frame l _)
    (hframe.mono (by decide))⟩
  rw [boundaryTaken, getLan_updLan, if_neg hk, htrim k hk, hswap k hk]

/-- Without a swap and without trim changes the lantern alone takes its interval. -/
theorem boundaryTaken_plain (ht : (getLan s l).trimNext = []) (ha : (getLan s l).arm = false) :
    boundaryTaken l s = setLan l (boundaryLan (getLan s l)) s := by
  rw [boundaryTaken, swapAtBoundary_unarmed ha, trimAtBoundary_none ht, updLan, setLan_setLan, getLan_setLan_same]

/-- A refused swap beside it (R113). -/
theorem boundaryTaken_refused (ht : (getLan s l).trimNext = []) (ha : (getLan s l).arm = true) (h : spareOk s l = false) :
    boundaryTaken l s = setLan l (boundaryLan { getLan s l with arm := false, stat := setBit (getLan s l).stat 4 }) s := by
  have hlan := getLan_setLan_same l { getLan s l with arm := false, stat := setBit (getLan s l).stat 4 } s
  rw [boundaryTaken, swapAtBoundary_refused ha h, trimAtBoundary_none (by rw [hlan]; exact ht), updLan, setLan_setLan,
    setLan_setLan, getLan_setLan_same, hlan]

/-! ### A swap that is done -/

/-- What a done swap leaves of the lantern, `v` the lantern before and `sp` its spare. -/
def SwapDone (sp : PWick) (v w : Lantern) : Prop :=
  mapOf w v.swapLw.val = sp.val ∧ w.spare.map (fun p => p.val) = some (mapOf v v.swapLw.val) ∧ w.arm = false ∧
    w.stat = setBit v.stat 5

theorem swappedLan_done (sp : PWick) {v : Lantern} (h : mapOf v v.swapLw.val < 17) : SwapDone sp v (swappedLan sp v) := by
  have hsp := sp.isLt
  refine ⟨mapOf_mapSet _ _ (by omega), ?_⟩
  obtain ⟨a, b, c, hmap⟩ := swappedLan_eq sp v
  rw [hmap, dif_pos h]
  exact ⟨rfl, rfl, rfl⟩

section
variable {sp : PWick} (ha : (getLan s l).arm = true) (hs : (getLan s l).spare = some sp) (hst : (getWick s l sp.val).st = .spare)

include ha hs hst

/-- The lantern and the wicks where nothing but a swap waits. -/
theorem boundaryTaken_swaps (ht : (getLan s l).trimNext = []) (hold : mapOf (getLan s l) (getLan s l).swapLw.val < 17) :
    SwapDone sp (getLan s l) (getLan (boundaryTaken l s) l) ∧
      (∀ w, getWick (boundaryTaken l s) l w = getWick (swapAtBoundary l s) l w) ∧
      Frame [.lans, .wicks] s (boundaryTaken l s) := by
  have hlan : getLan (swapAtBoundary l s) l = swappedLan sp (getLan s l) := by
    rw [swapAtBoundary_swaps ha hs hst, getLan_updWick, getLan_updWick, getLan_setLan_same]
  have hnone : (getLan (swapAtBoundary l s) l).trimNext = [] := by
    obtain ⟨a, b, c, hmap⟩ := swappedLan_eq sp (getLan s l)
    rw [hlan, hmap]
    exact ht
  obtain ⟨-, -, hframe⟩ := getLan_swapAtBoundary l s
  rw [boundaryTaken, trimAtBoundary_none hnone, getLan_updLan_same, getLan_setLan_same, hlan]
  refine ⟨swappedLan_done sp hold, fun w => rfl,
    .after (by decide) (updLan_frame _ l _) <| .after (by decide) (setLan_frame _ l _) hframe⟩

/-- The spare enters SERVICE and the former wick becomes the spare, or QUARANTINED where it was substituted (R113, R229). -/
theorem getWick_swapAtBoundary (hne : mapOf (getLan s l) (getLan s l).swapLw.val ≠ sp.val) :
    let x := getWick (swapAtBoundary l s) l sp.val
    let y := getWick (swapAtBoundary l s) l (mapOf (getLan s l) (getLan s l).swapLw.val)
    (x.st = .service ∧ x.lwick = some (getLan s l).swapLw) ∧
      y.st = (if (getLan s l).subst.toNat / 2 ^ (getLan s l).swapLw.val % 2 = 1 then .quarantined else .spare) ∧
      y.lwick = none := by
  dsimp only
  rw [swapAtBoundary_swaps ha hs hst, getWick_updWick_same, getWick_updWick, if_neg (by omega), getWick_updWick_same]
  exact ⟨⟨rfl, rfl⟩, rfl, rfl⟩

end

end

/-! ### The obligation -/

/-- Settles O11: a register's clauses are the lemma on its write; a boundary's go through `atBoundary_eq`, by what waits
for it. -/
theorem lanternBoundaryAndRegisters : Obligations.LanternBoundaryAndRegisters := by
  refine ⟨?arms, ?refused, ?cancels, ?issue, ?cfg, ?plain, ?busy, ?passed, ?spareLeft, ?calibrates, ?trims, ?swaps⟩
  case arms =>
    intro s l v hv hok ha
    rw [exec_lntSwapArm, hok, swapWrite_arms hv ha]
  case refused =>
    intro s l v hv h
    rw [exec_lntSwapArm, swapWrite_refused hv h]
  case cancels =>
    intro s l v hv
    rw [exec_lntSwapArm, swapWrite_cancels hv]
  case issue => exact fun s l v => exec_lntIssueWrite l v s
  case cfg => exact fun s l v => exec_lntCfgWrite l v s
  case plain =>
    intro s l hq ht ha hd
    have hno : ¬ (boundaryLan (getLan s l.val)).drAtBoundary = true := by
      change ¬ (getLan s l.val).drAtBoundary = true
      rw [hd]
      exact Bool.false_ne_true
    rw [exec_flareBoundary_quiet hq, atBoundary_eq, boundaryTaken_plain ht ha, drTail, getLan_setLan_same,
      if_neg fun h => hno h.1]
    rfl
  case busy => exact fun s l h => exec_flareBoundary_busy h
  case passed =>
    intro s l hq
    obtain ⟨hother, hframe⟩ := boundaryTaken_others l.val s
    obtain ⟨harm, htrim, hival, hnext, hlaunch, hsubst⟩ := getLan_drTail (P := BoundaryPassed (getLan s l.val))
      (fun _ _ _ h => h) (boundaryTaken_passed l.val s)
    refine ⟨_, (exec_flareBoundary_quiet hq).trans (congrArg _ (atBoundary_eq l.val s)), harm, htrim, hival, hnext, hlaunch,
      hsubst, fun k hk => (getLan_drTail_other hk _).trans (hother k hk),
      .after (by decide) (drTail_frame l.val _) (hframe.mono (by decide))⟩
  case spareLeft =>
    intro s l hq ht ha hok
    rw [exec_flareBoundary_quiet hq, atBoundary_eq, boundaryTaken_refused ht ha hok, drTail, getLan_setLan_same]
    rfl
  case calibrates =>
    intro s l hq ht ha hd hp hdiv
    have hgo : (boundaryLan (getLan s l.val)).drAtBoundary = true ∧ (boundaryLan (getLan s l.val)).phase = .drWait ∧
        divNow (setLan l.val (boundaryLan (getLan s l.val)) s) l.val = 0 := ⟨hd, hp, hdiv⟩
    rw [exec_flareBoundary_quiet hq, atBoundary_eq, boundaryTaken_plain ht ha, drTail, getLan_setLan_same, if_pos hgo,
      drBegin_setLan]
    rfl
  case trims =>
    intro s l c hq ht ha hd hc
    obtain ⟨hwick, hframe⟩ := trimAtBoundary_single ht hc
    obtain ⟨⟨x, hx⟩, -⟩ := getLan_trimAtBoundary l.val s
    have hno : ¬ (getLan (boundaryTaken l.val s) l.val).drAtBoundary = true := by
      rw [boundaryTaken, swapAtBoundary_unarmed ha, getLan_updLan_same, hx]
      change ¬ (getLan s l.val).drAtBoundary = true
      rw [hd]
      exact Bool.false_ne_true
    refine ⟨_, (exec_flareBoundary_quiet hq).trans (congrArg _ ((atBoundary_eq l.val s).trans (if_neg fun h => hno h.1))), ?_⟩
    rw [boundaryTaken, swapAtBoundary_unarmed ha]
    exact ⟨hwick, .after (by decide) (updLan_frame _ _ _) hframe⟩
  case swaps =>
    intro s l sp
    dsimp only
    intro hq ht ha hs hst hold hne
    obtain ⟨hdone, hwick, hframe⟩ := boundaryTaken_swaps ha hs hst ht hold
    obtain ⟨⟨hspSt, hspLw⟩, holdSt, holdLw⟩ := getWick_swapAtBoundary ha hs hst hne
    obtain ⟨hmap, hspare, harm, hstat⟩ := getLan_drTail (P := SwapDone sp (getLan s l.val)) (fun _ _ _ h => h) hdone
    have htail := drTail_frame l.val (boundaryTaken l.val s)
    have hsame (w : Nat) := (htail.getWick l.val w (by decide)).trans (hwick w)
    refine ⟨_, (exec_flareBoundary_quiet hq).trans (congrArg _ (atBoundary_eq l.val s)), hmap, hspare, harm, hstat, ?_⟩
    rw [hsame, hsame]
    exact ⟨hspSt, hspLw, holdSt, holdLw, .after (by decide) htail (hframe.mono (by decide))⟩

end Sys2Proof.Machine
end

section
/-! SUPPORT. Moment windows (R111, R186, R189) and rotation cycles (R195, R477): what a window's end and a cycle leave. -/

namespace Sys2Proof.Machine

theorem exec_momentWindowEnd (l : Lan) (k : LWick) (s : State) :
    exec (.momentWindowEnd l k) s = .next (momentEnd l.val k.val s) := rfl

theorem exec_rotationCycle (l : Lan) (s : State) : exec (.rotationCycle l) s = .next (rotate l.val s) := rfl

/-! ### Changes of one lantern and of wicks -/

/-- Of the lanterns only this one may differ, and beside lanterns only wicks. -/
def OwnLan (l : Nat) (s t : State) : Prop := (∀ k, k ≠ l → getLan t k = getLan s k) ∧ Frame [.lans, .wicks] s t

theorem OwnLan.refl (l : Nat) (s : State) : OwnLan l s s := ⟨fun _ _ => rfl, Frame.refl _ s⟩

theorem OwnLan.trans {l : Nat} {s t u : State} (h : OwnLan l s t) (k : OwnLan l t u) : OwnLan l s u :=
  ⟨fun n hn => (k.1 n hn).trans (h.1 n hn), h.2.step k.2 (List.Subset.refl _)⟩

theorem ownLan_foldl {α : Type} {l : Nat} {g : State → α → State} (hg : ∀ s x, OwnLan l s (g s x)) (xs : List α) (s : State) :
    OwnLan l s (xs.foldl g s) := by
  induction xs generalizing s with
  | nil => exact .refl l s
  | cons x xs ih => exact (hg s x).trans (ih _)

theorem ownLan_setLan (l : Nat) (v : Lantern) (s : State) : OwnLan l s (setLan l v s) :=
  ⟨fun k hk => by rw [getLan_setLan, if_neg hk], (setLan_frame s l v).mono (by decide)⟩

theorem ownLan_updWick (l j w : Nat) (f : Wick → Wick) (s : State) : OwnLan l s (updWick j w f s) :=
  ⟨fun k _ => getLan_updWick j w k f s, (updWick_frame s j w f).mono (by decide)⟩

theorem OwnLan.ite {l : Nat} {s t u : State} {c : Prop} [Decidable c] (h : OwnLan l s t) (k : OwnLan l s u) :
    OwnLan l s (if c then t else u) := by
  split
  · exact h
  · exact k

/-! ### Moment windows -/

theorem liveChange_own (l w kind pc : Nat) (d : Int) (s : State) : OwnLan l s (liveChange l w kind pc d s) := by
  unfold liveChange
  refine (OwnLan.refl l s).ite (OwnLan.ite ?_ (ownLan_setLan l _ s))
  exact (ownLan_setLan l _ s).trans (ownLan_updWick l l w _ _)

/-- What a column of a live window asks for (R188, R189). -/
def liveCol (l w key n : Nat) (x : Wick) (s : State) (c : Nat) : State :=
  let e := estCol s l x key n c
  let pc := physCol x c
  if e.nan then s
  else
    let s := liveChange l w 0 pc (liveOffset e.o) s
    if gainUsable e x.sq12 n then liveChange l w 1 pc (liveGain e.g) s else s

theorem liveCol_own (l w key n : Nat) (x : Wick) (s : State) (c : Nat) : OwnLan l s (liveCol l w key n x s c) :=
  (OwnLan.refl l s).ite (OwnLan.ite
    ((liveChange_own l w 0 _ _ s).trans (liveChange_own l w 1 _ _ _)) (liveChange_own l w 0 _ _ s))

/-- The live window of a wick: where it counts, every column asks for its changes; then the sums are cleared. -/
theorem liveWick_eq (l key n : Nat) (s : State) (lw : Nat) :
    liveWick l key n s lw =
      let w := mapOf (getLan s l) lw
      let x := getWick s l w
      updWick l w clearWin (
        if (getLan s l).liveEn && x.winRot && x.mode == 0 && x.st == .service && decide (0 < x.winSteps) then
          (List.range 512).foldl (liveCol l w key n x) (updLan l (fun v => { v with livewin := v.livewin + 1 }) s)
        else s) := rfl

theorem liveWick_own (l key n : Nat) (s : State) (lw : Nat) : OwnLan l s (liveWick l key n s lw) := by
  rw [liveWick_eq]
  refine OwnLan.trans (OwnLan.ite ?_ (.refl l s)) (ownLan_updWick l l _ _ _)
  exact (ownLan_setLan l _ s).trans (ownLan_foldl (liveCol_own l _ key n _) _ _)

/-- With LIVE_EN = 0 a window's end leaves the lantern (R189). -/
theorem getLan_liveWick_off {l : Nat} {s : State} (h : (getLan s l).liveEn = false) (key n lw : Nat) :
    getLan (liveWick l key n s lw) l = getLan s l := by
  rw [liveWick_eq, h]
  rfl

/-- The state in which the wicks of a slice have handed over their windows and the slice's row sums start anew. -/
def handedOver (l key : Nat) (s : State) : State :=
  updLan l (clearMoments key) (((List.range 16).filter (fun lw => lw % shapeQ (getLan s l) == key)).foldl
    (liveWick l key (Tab.get 0 (getLan s l).momSteps key)) s)

theorem momentEnd_complete {l key : Nat} {s : State} (h : 65536 ≤ Tab.get 0 (getLan s l).momSteps key) :
    momentEnd l key s = earlyRemap l (handedOver l key s) := if_pos h

theorem momentEnd_incomplete {l key : Nat} {s : State} (h : Tab.get 0 (getLan s l).momSteps key < 65536) :
    momentEnd l key s = s :=
  if_neg (Nat.not_le.mpr h)

theorem handedOver_own (l key : Nat) (s : State) : OwnLan l s (handedOver l key s) :=
  (ownLan_foldl (liveWick_own l key _) _ s).trans (ownLan_setLan l _ _)

/-- The row sums and the steps of a slice are 0 once they start anew (R111). -/
theorem clearMoments_zero (key : Nat) (v : Lantern) :
    Tab.get 0 (clearMoments key v).momSteps key = 0 ∧ ∀ r < 2048,
      Tab.get 0 (clearMoments key v).x1 (key * 2048 + r) = 0 ∧ Tab.get 0 (clearMoments key v).x2 (key * 2048 + r) = 0 := by
  refine ⟨?_, fun r hr => ?_⟩
  · simp [clearMoments]
  · have hk : (key * 2048 + r) / 2048 = key := by omega
    simp [clearMoments, Tab.get_drop, hk]

theorem getLan_handedOver (l key : Nat) (s : State) : ∃ v, getLan (handedOver l key s) l = clearMoments key v ∧
    ((getLan s l).liveEn = false → v = getLan s l) := by
  refine ⟨_, getLan_updLan_same l _ _, fun h => ?_⟩
  exact foldl_keeps (I := fun u => getLan u l = getLan s l)
    (fun u lw hu => (getLan_liveWick_off (by rw [hu]; exact h) key _ lw).trans hu) _ rfl

/-! ### Rotation -/

theorem giveJob_frame (l w : Nat) (j : Job) (ll : LLan) (lw : LWick) (ep : W32) (s : State) :
    Frame [.wicks] s (giveJob l w j ll lw ep s) := setWick_frame s l w _

theorem getWick_giveJob (l w : Nat) (j : Job) (ll : LLan) (lw : LWick) (ep : W32) (s : State) :
    let x := getWick (giveJob l w j ll lw ep s) l w
    x.job = j ∧ x.src = some (ll, lw) ∧ x.srcEpoch = ep ∧ x.stage = .toWrite := by
  dsimp only
  rw [giveJob, getWick_setWick_same]
  exact ⟨rfl, rfl, rfl, rfl⟩

section
variable {s : State} {l : Nat} {p : PWick} {ll : LLan}

theorem rotate_spareless (h : (getLan s l).spare = none) : rotate l s = earlyRemap l s := by
  simp only [rotate, h]

theorem rotate_off (hs : (getLan s l).spare = some p) (hll : (getLan s l).llan = some ll)
    (h : (getLan s l).rotEn = false ∨ (getLan s l).st ≠ .service ∨ (getLan s l).arm = true) : rotate l s = s := by
  have hno : (!(getLan s l).rotEn || (getLan s l).st != .service || (getLan s l).arm || spareBusy s l p.val || s.snuf.wheld
      || (wavePending s l).isSome) = true := by
    rcases h with h | h | h
    · simp [h]
    · simp [h]
    · simp [h]
  simp only [rotate, hs, hll, hno, if_true]

/-- Nothing keeps a lantern in service from its cycle (R195). -/
structure Rotates (s : State) (l : Nat) (p : PWick) (ll : LLan) : Prop where
  spare : (getLan s l).spare = some p
  llan : (getLan s l).llan = some ll
  gate : (!(getLan s l).rotEn || (getLan s l).st != .service || (getLan s l).arm || spareBusy s l p.val || s.snuf.wheld
    || (wavePending s l).isSome) = false

theorem rotates_intro (hs : (getLan s l).spare = some p) (hll : (getLan s l).llan = some ll) (hrot : (getLan s l).rotEn = true)
    (hst : (getLan s l).st = .service) (harm : (getLan s l).arm = false) (hjob : (getWick s l p.val).job = .none)
    (hbusy : (getWick s l p.val).wrBusy = false) (hheld : s.snuf.wheld = false) (hwave : wavePending s l = none) :
    Rotates s l p ll :=
  ⟨hs, hll, by simp [hrot, hst, harm, hjob, hbusy, hheld, hwave, spareBusy]⟩

theorem rotate_gives (h : Rotates s l p ll) (hst : (getWick s l p.val).st = .spare) :
    rotate l s = runLan l (giveJob l p.val (.rotation (rotChoice s l)) ll (rotChoice s l) (getLan s l).epoch
      (setLan l { getLan s l with rotLast := some (rotChoice s l) } s)) := by
  have hmay : mayWrite (getWick s l p.val) = true := by rw [mayWrite, hst]; rfl
  simp only [rotate, h.spare, h.llan, h.gate, hst, hmay, Bool.false_eq_true, if_false, reduceCtorEq, if_true]

theorem rotate_tests {q : LLan × LWick} (h : Rotates s l p ll) (hst : (getWick s l p.val).st = .quarantined)
    (hstrike : (getWick s l p.val).strike = false) (hsrc : (getWick s l p.val).src = some q) :
    rotate l s = runLan l (giveJob l p.val .quarTest q.1 q.2 (getWick s l p.val).srcEpoch s) := by
  simp only [rotate, h.spare, h.llan, h.gate, hst, hstrike, hsrc, Bool.false_eq_true, if_false, if_true]

theorem rotate_retires (h : Rotates s l p ll) (hst : (getWick s l p.val).st = .quarantined)
    (hstrike : (getWick s l p.val).strike = true) : rotate l s = retireWick l p.val s := by
  simp only [rotate, h.spare, h.llan, h.gate, hst, hstrike, Bool.false_eq_true, if_false, if_true]

/-- A lantern whose spare has failed has none (R114). -/
theorem retireWick_spare (h : (getLan s l).spare = some p) : (getLan (retireWick l p.val s) l).spare = none := by
  rw [retireWick, (updRecWick_frame _ _ _ _).getLan l (by decide), getLan_updWick, getLan_updLan_same, h, Option.map_some,
    if_pos rfl]

end

end Sys2Proof.Machine
end

section
/-! SUPPORT. Full trim (R192 to R194, R218): what each end of a window leaves, before jobs and remaps follow. -/

namespace Sys2Proof.Machine

theorem exec_fullTrimWindowDone (l : Lan) (s : State) :
    exec (.fullTrimWindowDone l) s = .next (afterJobs (trimWindow l.val s)) := rfl

/-! ### Window 1 -/

/-- The correction of one column: gain, then offset (R192). -/
def trimCorrectCol (l w tp : Nat) (d : Int) (s : State) (e : Nat × Est) : State :=
  let a := gainStep d e.2.g
  let b := offsetStep e.2.o
  let s := if a = 0 then s else trimApply l w 1 e.1 tp a s
  if b = 0 then s else trimApply l w 0 e.1 tp b s

theorem trimCorrectCol_frame (l w tp : Nat) (d : Int) (s : State) (e : Nat × Est) :
    Frame [.lans, .wicks, .gvl, .mbx, .posted, .mgt] s (trimCorrectCol l w tp d s e) := by
  have hturn (kind : Nat) (a : Int) (t : State) : Frame [.lans, .wicks, .gvl, .mbx, .posted, .mgt] t
      (if a = 0 then t else trimApply l w kind e.1 tp a t) := (Frame.refl _ t).ite (trimApply_frame l w kind e.1 tp a t)
  exact .after (List.Subset.refl _) (hturn 0 _ _) (hturn 1 _ s)

theorem trimCorrect_frame (l w : Nat) (s : State) :
    Frame [.lans, .wicks, .gvl, .mbx, .posted, .mgt] s (trimCorrect l w s) :=
  .after (List.Subset.refl _) (frame_foldl (trimCorrectCol_frame l w _ _) _ _)
    ((Frame.refl _ s).ite (trimApply_frame l w 2 0 _ _ s))

/-- The state in which window 2 begins. -/
def secondWindow (l w : Nat) (s : State) : State :=
  updWick l w clearWin (updLan l (fun v => { clearMoments 16 v with phase := .win2 }) (trimCorrect l w s))

theorem secondWindow_frame (l w : Nat) (s : State) : Frame [.lans, .wicks, .gvl, .mbx, .posted, .mgt] s (secondWindow l w s) :=
  .after (by decide) (updWick_frame _ l w _) <| .after (by decide) (updLan_frame _ l _) (trimCorrect_frame l w s)

theorem getLan_secondWindow (l w : Nat) (s : State) :
    (getLan (secondWindow l w s) l).phase = .win2 ∧ Tab.get 0 (getLan (secondWindow l w s) l).momSteps 16 = 0 := by
  rw [secondWindow, getLan_updWick, getLan_updLan_same]
  generalize getLan (trimCorrect l w s) l = v
  obtain ⟨hsteps, -⟩ := clearMoments_zero 16 v
  exact ⟨rfl, hsteps⟩

theorem getWick_secondWindow (l w : Nat) (s : State) :
    getWick (secondWindow l w s) l w = clearWin (getWick (trimCorrect l w s) l w) := by
  rw [secondWindow, getWick_updWick_same, getWick_updLan]

/-! ### Window 2 -/

/-- Noting the sets in use and setting the bands do not meet (R218, R472). -/
theorem setBands_noteFull (tp : Nat) (x : Wick) : ∃ f, setBands (noteFull tp x) = { setBands x with full := f } := ⟨_, rfl⟩

/-- The state a passed window 2 leaves before the wick's job goes on (R192, R218). -/
def trimPassed (l w : Nat) (s : State) : State :=
  updLan l (fun v => { endTrimPhase v with calStat := setBit v.calStat 1 })
    (updWick l w (fun x => { clearWin (setBands (noteFull (getLan s l).trimTp x)) with
      live := [], early := false, trimFails := 0, trimTried := false }) s)

theorem trimPassed_frame (l w : Nat) (s : State) : Frame [.lans, .wicks] s (trimPassed l w s) :=
  .after (by decide) (updLan_frame _ l _) ((updWick_frame s l w _).mono (by decide))

theorem getLan_trimPassed (l w : Nat) (s : State) :
    getLan (trimPassed l w s) l = { endTrimPhase (getLan s l) with calStat := setBit (getLan s l).calStat 1 } := by
  rw [trimPassed, getLan_updLan_same, getLan_updWick]

theorem getWick_trimPassed (l w : Nat) (s : State) : ∃ f,
    getWick (trimPassed l w s) l w = { clearWin { setBands (getWick s l w) with full := f } with
      live := [], early := false, trimFails := 0, trimTried := false } := by
  obtain ⟨f, hf⟩ := setBands_noteFull (getLan s l).trimTp (getWick s l w)
  refine ⟨f, ?_⟩
  rw [trimPassed, getWick_updLan, getWick_updWick_same, hf]

/-- The wick a failed window 2 leaves (R194). -/
def trimFailedWick (x : Wick) : Wick := { clearWin x with trimFails := x.trimFails + 1, trimTried := true }

/-- The state in which a failed window 2 is noted. -/
def trimNoted (l w : Nat) (s : State) : State :=
  updWick l w trimFailedWick (updLan l (fun v => { endTrimPhase v with calStat := setBit v.calStat 2 }) s)

theorem trimNoted_frame (l w : Nat) (s : State) : Frame [.lans, .wicks] s (trimNoted l w s) :=
  .after (by decide) (updWick_frame _ l w _) ((updLan_frame s l _).mono (by decide))

theorem getLan_trimNoted (l w : Nat) (s : State) :
    getLan (trimNoted l w s) l = { endTrimPhase (getLan s l) with calStat := setBit (getLan s l).calStat 2 } := by
  rw [trimNoted, getLan_updWick, getLan_updLan_same]

theorem getWick_trimNoted (l w : Nat) (s : State) : getWick (trimNoted l w s) l w = trimFailedWick (getWick s l w) := by
  rw [trimNoted, getWick_updWick_same, getWick_updLan]

/-- The state a failed window 2 leaves before the repair or the end of the job; a further failure is an event of R245. -/
def trimFailed (l w : Nat) (s : State) : State :=
  if 0 < (getWick s l w).trimFails then suspectEvent l (trimNoted l w s) else trimNoted l w s

/-- What a failed window 2 leaves of the lantern, the wick and the rest. -/
theorem trimFailed_leaves (l w : Nat) (s : State) :
    let v := getLan (trimFailed l w s) l
    (v.phase = restPhase (getLan s l) ∧ v.calStat = setBit (getLan s l).calStat 2 ∧
      (0 < (getWick s l w).trimFails → v.suspect = true)) ∧
      (∃ b, getWick (trimFailed l w s) l w = { trimFailedWick (getWick s l w) with early := (getWick s l w).early || b }) ∧
      Frame [.lans, .wicks, .scn, .gvl, .mbx, .posted, .mgt] s (trimFailed l w s) := by
  dsimp only
  have hframe := trimNoted_frame l w s
  unfold trimFailed
  split
  case isTrue =>
    obtain ⟨b, hb⟩ := suspectEvent_marks l (trimNoted l w s) l w
    rw [getWick_trimNoted] at hb
    rw [getLan_suspectEvent, getLan_trimNoted]
    exact ⟨⟨rfl, rfl, fun _ => rfl⟩, ⟨b, hb⟩, .after (by decide) (suspectEvent_frame l _) (hframe.mono (by decide))⟩
  case isFalse h =>
    rw [getLan_trimNoted, getWick_trimNoted]
    exact ⟨⟨rfl, rfl, fun hpos => absurd hpos h⟩, ⟨false, by rw [Bool.or_false]; rfl⟩, hframe.mono (by decide)⟩

section
variable {l w : Nat} {s : State} {cols : List Nat}

/-- A first failure whose columns can be repaired: one more trim, over the repaired columns or as the wick stands (R194). -/
theorem trimFail_repairs (ht : (getWick s l w).trimTried = false)
    (hc : canRepair (getWick s l w) (cols.map (physCol (getWick s l w))) = true) (hj : (getWick s l w).job ≠ .lanTest) :
    trimFail l w cols s = earlyRemap l (tryDr l (if cols = [] then runLan l (trimFailed l w s)
      else startRepair l w (cols.map (physCol (getWick s l w))) (trimFailed l w s))) := by
  have hgo : ((!(getWick s l w).trimTried) = true ∧ canRepair (getWick s l w) (cols.map (physCol (getWick s l w))) = true ∧
      (getWick s l w).job ≠ .lanTest) := ⟨by rw [ht]; rfl, hc, hj⟩
  refine (if_pos hgo).trans (congrArg (earlyRemap l) ?_)
  by_cases hcols : cols = []
  · rw [if_pos hcols, if_pos (by rw [hcols]; rfl)]
    rfl
  · rw [if_neg hcols, if_neg (by simpa using hcols)]
    rfl

/-- Any other failure quarantines the wick and ends its job (R194, R479). -/
theorem trimFail_ends (h : (getWick s l w).trimTried = true ∨
    canRepair (getWick s l w) (cols.map (physCol (getWick s l w))) = false ∨ (getWick s l w).job = .lanTest) :
    trimFail l w cols s = earlyRemap l (tryDr l (runLan l (jobFail l w
      (updWick l w (fun x => { x with st := .quarantined, lwick := none }) (trimFailed l w s))))) := by
  have hno : ¬ ((!(getWick s l w).trimTried) = true ∧ canRepair (getWick s l w) (cols.map (physCol (getWick s l w))) = true ∧
      (getWick s l w).job ≠ .lanTest) := by
    rintro ⟨ht, hc, hj⟩
    rcases h with h | h | h
    · rw [h] at ht
      exact absurd ht (by decide)
    · rw [h] at hc
      exact absurd hc (by decide)
    · exact hj h
  exact if_neg hno

end

/-! ### The end of a window -/

section
variable {l : Nat} {s : State} {p : PWick}

theorem trimWindow_early (h : (getLan s l).calWick = none ∨
    ∃ p, (getLan s l).calWick = some p ∧ (getWick s l p.val).winSteps < 65536) :
    trimWindow l s = s := by
  rcases h with h | ⟨p, h, hn⟩
  · simp only [trimWindow, h]
  · simp only [trimWindow, h, hn, if_true]

variable (hc : (getLan s l).calWick = some p) (hn : 65536 ≤ (getWick s l p.val).winSteps)

include hc hn

theorem trimWindow_first (hp : (getLan s l).phase = .win1) : trimWindow l s = secondWindow l p.val s := by
  simp only [trimWindow, hc, hp, if_neg (Nat.not_lt.mpr hn), if_true]
  rfl

theorem trimWindow_passes (hp : (getLan s l).phase = .win2) (hf : trimFailing s l (getWick s l p.val) = [])
    (hb : (getWick s l p.val).probeFail = false) :
    trimWindow l s = tryDr l (runLan l (jobTrimmed l p.val (trimPassed l p.val s))) := by
  simp only [trimWindow, hc, hp, if_neg (Nat.not_lt.mpr hn), hf, hb, reduceCtorEq, Bool.not_false, and_self, if_true, if_false]
  rfl

theorem trimWindow_fails (hp : (getLan s l).phase = .win2)
    (hf : trimFailing s l (getWick s l p.val) ≠ [] ∨ (getWick s l p.val).probeFail = true) :
    trimWindow l s = trimFail l p.val (trimFailing s l (getWick s l p.val)) s := by
  have hno : ¬ (trimFailing s l (getWick s l p.val) = [] ∧ (!(getWick s l p.val).probeFail) = true) := by
    rintro ⟨hcols, hb⟩
    rcases hf with hf | hf
    · exact hf hcols
    · rw [hf] at hb
      exact absurd hb (by decide)
  simp only [trimWindow, hc, hp, if_neg (Nat.not_lt.mpr hn), if_neg hno, reduceCtorEq, if_true, if_false]

end

end Sys2Proof.Machine
end

section
/-! SUPPORT. Drive-reference calibration (R197 to R199, R210): when a due one begins, what it makes of the taps; and the settlement
of O13. -/

namespace Sys2Proof.Machine

theorem exec_driveRefCalDone (l : Lan) (s : State) : exec (.driveRefCalDone l) s = .next (afterJobs (drDone l.val s)) := rfl

/-! ### A due calibration -/

theorem exec_driveRefCalDue_not {l : Lan} {s : State} (h : (getLan s l.val).phase = .drRun ∨ (getLan s l.val).phase = .drWait ∨
    drFalls (nowF s) (getLan s l.val) = false) : exec (.driveRefCalDue l) s = .next s := congrArg Host.Outcome.next (if_pos h)

/-- What lets a lantern's due calibration begin or wait for a gap (R197, R199, R210). -/
structure DrReady (s : State) (l : Nat) : Prop where
  free : genFree (getLan s l) = true
  undivided : divNow s l = 0
  spaced : ∀ t ∈ (getLan s l).drBegan, t + 675000000 ≤ nowF s
  running : s.lmp.frozen = false
  heldNot : s.snuf.wheld = false
  standing : (getLan s l).st ≠ .retired

theorem exec_driveRefCalDue_due {l : Lan} {s : State} (hfree : genFree (getLan s l.val) = true)
    (h : drFalls (nowF s) (getLan s l.val) = true) :
    exec (.driveRefCalDue l) s = .next (tryDr l.val (setLan l.val { getLan s l.val with drDue := true } s)) := by
  refine congrArg Host.Outcome.next (if_neg ?_)
  rintro (hp | hp | hp)
  · simp [genFree, hp] at hfree
  · simp [genFree, hp] at hfree
  · rw [h] at hp
    exact absurd hp (by decide)

theorem DrReady.noted {s : State} {l : Nat} (h : DrReady s l) : DrReady (setLan l { getLan s l with drDue := true } s) l where
  free := by rw [getLan_setLan_same]; exact h.free
  undivided := h.undivided
  spaced := by rw [getLan_setLan_same]; exact h.spaced
  running := h.running
  heldNot := h.heldNot
  standing := by rw [getLan_setLan_same]; exact h.standing

/-- A calibration that is due begins in a gap and waits for one otherwise. -/
theorem tryDr_ready {l : Nat} {s : State} (hd : (getLan s l).drDue = true) (h : DrReady s l) :
    tryDr l s = if drGap s l then drBegin l s else setLan l { getLan s l with phase := .drWait } s := by
  obtain ⟨hfree, hdiv, hspaced, hrun, hheld, hst⟩ := h
  unfold tryDr
  cases hb : (getLan s l).drBegan with
  | none => simp [hd, hfree, hdiv, hrun, hheld, hst, hb]
  | some t =>
    have ht : t + 675000000 ≤ nowF s := hspaced t hb
    simp [hd, hfree, hdiv, hrun, hheld, hst, hb, ht]

/-- The event of a due calibration at a lantern that is ready for it (R197). -/
theorem exec_driveRefCalDue_ready {l : Lan} {s : State} (hf : drFalls (nowF s) (getLan s l.val) = true) (h : DrReady s l.val) :
    let u := setLan l.val { getLan s l.val with drDue := true } s
    exec (.driveRefCalDue l) s = .next (if drGap u l.val then drBegin l.val u
      else setLan l.val { getLan s l.val with drDue := true, phase := .drWait } s) := by
  dsimp only
  rw [exec_driveRefCalDue_due h.free hf, tryDr_ready (by rw [getLan_setLan_same]) h.noted, getLan_setLan_same, setLan_setLan]

/-! ### New taps (R198) -/

/-- The code a tap comes to with its clip. -/
def tapTo (v : Lantern) (i : Nat) : Int × Bool :=
  clip6 (Tab.get 0 v.taps i + tapChange (Tab.get 0 v.drA i) (Tab.get 0 v.drB i) (tapVal i).natAbs)

/-- The turn of one tap; the +1 tap has none. -/
def tapTurn (v : Lantern) (p : Tab Int × Bool) (i : Nat) : Tab Int × Bool :=
  if i = 8 then p else (Tab.set 0 p.1 i (tapTo v i).1, p.2 || (tapTo v i).2)

theorem foldl_tapTurn (v : Lantern) (is : List Nat) (p : Tab Int × Bool) :
    (is.foldl (tapTurn v) p).1 = (is.filter (fun i => i ≠ 8)).foldl (fun t i => Tab.set 0 t i (tapTo v i).1) p.1 := by
  induction is generalizing p with
  | nil => rfl
  | cons i is ih =>
    rw [List.foldl_cons, ih, tapTurn]
    by_cases h : i = 8
    · simp [h]
    · simp [h]

/-- Each tap but the +1 tap comes to its new code. -/
theorem get_newTaps (v : Lantern) {i : Nat} (hi : i < 16) :
    Tab.get 0 (newTaps v).1 i = if i = 8 then Tab.get 0 v.taps i else (tapTo v i).1 := by
  have hfold : newTaps v = (List.range 16).foldl (tapTurn v) (v.taps, false) := rfl
  rw [hfold, foldl_tapTurn, Tab.get_foldl_set]
  by_cases h : i = 8
  · simp [h]
  · simp [h, hi]

/-- The state in which a calibration has ended and its taps stand. -/
def drClosed (l : Nat) (s : State) : State :=
  let v := getLan s l
  let t := newTaps v
  let u := setLan l { v with
    taps := t.1, drcal := false, phase := restPhase v,
    calStat := setBit (if t.2 then setBit v.calStat 5 else v.calStat) 3 } s
  if t.2 then ember 0 0x0501 l none 0 u else u

theorem drDone_complete {l : Nat} {s : State} (hp : (getLan s l).phase = .drRun) (hg : (getLan s l).drGot = 7680) :
    drDone l s = runLan l (afterDriveRef l (drClosed l s)) := if_pos ⟨hp, hg⟩

theorem drDone_incomplete {l : Nat} {s : State} (h : (getLan s l).phase ≠ .drRun ∨ (getLan s l).drGot ≠ 7680) : drDone l s = s :=
  if_neg fun hc => h.elim (fun hp => hp hc.1) fun hg => hg hc.2

theorem drClosed_leaves (l : Nat) (s : State) :
    let w := getLan (drClosed l s) l
    (w.drcal = false ∧ w.phase = restPhase (getLan s l) ∧ w.taps = (newTaps (getLan s l)).1) ∧
      Frame [.lans, .gvl, .mbx, .posted, .mgt] s (drClosed l s) := by
  dsimp only [drClosed]
  split
  · rw [(ember_frame _ _ _ _ _ _).getLan l (by decide), getLan_setLan_same]
    exact ⟨⟨rfl, rfl, rfl⟩, .after (by decide) (ember_frame _ _ _ _ _ _) ((setLan_frame s l _).mono (by decide))⟩
  · rw [getLan_setLan_same]
    exact ⟨⟨rfl, rfl, rfl⟩, (setLan_frame s l _).mono (by decide)⟩

/-! ### The obligation -/

/-- Settles O13: each clause is the lemma on its event, what the event sets free left as its tail. -/
theorem trimWindowsRotationAndDriveReference : Obligations.TrimWindowsRotationAndDriveReference := by
  refine ⟨?moments, ?momentsEarly, ?rotates, ?tests, ?retires, ?off, ?spareless, ?first, ?passes, ?repairs, ?ends, ?early,
    ?begins, ?waits, ?notDue, ?gapWait, ?done, ?notDone⟩
  case moments =>
    intro s l k h
    obtain ⟨v, hv, hoff⟩ := getLan_handedOver l.val k.val s
    obtain ⟨hsteps, hsums⟩ := clearMoments_zero k.val v
    obtain ⟨hother, hframe⟩ := handedOver_own l.val k.val s
    refine ⟨_, (exec_momentWindowEnd l k s).trans (congrArg _ (momentEnd_complete h)), ?_⟩
    rw [hv]
    exact ⟨hsteps, hsums, fun hlive => congrArg (fun x => (clearMoments k.val x).trimNext) (hoff hlive), hother, hframe⟩
  case momentsEarly => exact fun s l k h => congrArg Host.Outcome.next (momentEnd_incomplete h)
  case rotates =>
    intro s l p ll v hs hll hrot hst harm hjob hbusy hspare hheld hwave
    have hgo := rotates_intro hs hll hrot hst harm hjob hbusy hheld hwave
    refine ⟨_, (exec_rotationCycle l s).trans (congrArg _ (rotate_gives hgo hspare)), getWick_giveJob .., ?_,
      .after (by decide) (giveJob_frame _ _ _ _ _ _ _) ((setLan_frame s l.val _).mono (by decide))⟩
    rw [(giveJob_frame _ _ _ _ _ _ _).getLan l.val (by decide), getLan_setLan_same]
  case tests =>
    intro s l p ll q v hs hll hrot hst harm hjob hbusy hquar hstrike hsrc hheld hwave
    have hgo := rotates_intro hs hll hrot hst harm hjob hbusy hheld hwave
    exact ⟨_, (exec_rotationCycle l s).trans (congrArg _ (rotate_tests hgo hquar hstrike hsrc)), getWick_giveJob ..,
      giveJob_frame _ _ _ _ _ _ s⟩
  case retires =>
    intro s l p ll v hs hll hrot hst harm hjob hbusy hquar hstrike hheld hwave
    have hgo := rotates_intro hs hll hrot hst harm hjob hbusy hheld hwave
    refine ⟨_, (exec_rotationCycle l s).trans (congrArg _ (rotate_retires hgo hquar hstrike)), retireWick_spare hs, ?_,
      fun hrec => retireWick_recorded l.val p.val hrec, (retireWick_frame l.val p.val s).mono (by decide)⟩
    rw [getWick_retireWick]
  case off => exact fun s l p ll hs hll h => congrArg Host.Outcome.next (rotate_off hs hll h)
  case spareless => exact fun s l h => congrArg Host.Outcome.next (rotate_spareless h)
  case first =>
    intro s l p hc hn hp
    refine ⟨_, (exec_fullTrimWindowDone l s).trans (congrArg _ (congrArg afterJobs (trimWindow_first hc hn hp))), ?_⟩
    obtain ⟨hphase, hsteps⟩ := getLan_secondWindow l.val p.val s
    rw [getWick_secondWindow]
    exact ⟨hphase, rfl, rfl, rfl, hsteps, (secondWindow_frame l.val p.val s).mono (by decide)⟩
  case passes =>
    intro s l p hc hn hp hcols hb
    refine ⟨_, (exec_fullTrimWindowDone l s).trans (congrArg _ (congrArg afterJobs (trimWindow_passes hc hn hp hcols hb))), ?_⟩
    obtain ⟨f, hf⟩ := getWick_trimPassed l.val p.val s
    rw [getLan_trimPassed, hf]
    exact ⟨rfl, rfl, rfl, ⟨rfl, rfl, rfl, rfl, rfl⟩, trimPassed_frame l.val p.val s⟩
  case repairs =>
    intro s l p hc hn hp hf ht hcan hj
    obtain ⟨⟨hphase, hstat, -⟩, ⟨b, hwick⟩, hframe⟩ := trimFailed_leaves l.val p.val s
    refine ⟨_, (exec_fullTrimWindowDone l s).trans (congrArg _ (congrArg afterJobs
      ((trimWindow_fails hc hn hp hf).trans (trimFail_repairs ht hcan hj)))), hphase, hstat, ?_⟩
    rw [hwick]
    exact ⟨rfl, rfl, hframe.mono (by decide)⟩
  case ends =>
    intro s l p hc hn hp hf h
    obtain ⟨⟨hphase, hstat, hsusp⟩, ⟨b, hwick⟩, hframe⟩ := trimFailed_leaves l.val p.val s
    refine ⟨_, (exec_fullTrimWindowDone l s).trans (congrArg _ (congrArg afterJobs
      ((trimWindow_fails hc hn hp hf).trans (trimFail_ends h)))), ?_⟩
    rw [getLan_updWick, getWick_updWick_same, hwick]
    exact ⟨hphase, hstat, rfl, rfl, rfl, hsusp, .after (by decide) (updWick_frame _ _ _ _) (hframe.mono (by decide))⟩
  case early =>
    intro s l h
    rw [exec_fullTrimWindowDone, trimWindow_early h]
  case begins =>
    intro s l hfree hdiv hfalls hspaced hrun hheld hst u hgap
    rw [exec_driveRefCalDue_ready hfalls ⟨hfree, hdiv, hspaced, hrun, hheld, hst⟩, if_pos hgap, drBegin_setLan]
    rfl
  case waits =>
    intro s l hfree hdiv hfalls hspaced hrun hheld hst u hgap
    rw [exec_driveRefCalDue_ready hfalls ⟨hfree, hdiv, hspaced, hrun, hheld, hst⟩,
      if_neg (fun h => Bool.false_ne_true (hgap.symm.trans h))]
  case notDue => exact fun s l h => exec_driveRefCalDue_not h
  case gapWait => exact fun s l => rfl
  case done =>
    intro s l hp hg
    obtain ⟨⟨hcal, hphase, htaps⟩, hframe⟩ := drClosed_leaves l.val s
    refine ⟨_, (exec_driveRefCalDone l s).trans (congrArg _ (congrArg afterJobs (drDone_complete hp hg))), hcal, hphase,
      fun i hi => ?_, hframe.mono (by decide)⟩
    rw [htaps, get_newTaps _ hi]
    rfl
  case notDone =>
    intro s l h
    rw [exec_driveRefCalDone, drDone_incomplete h]

end Sys2Proof.Machine
end

section
/-! SUPPORT. Lane operations of the vector engines (R127 to R130): results written under the predicate, packed elements, predicate
registers, and the settlement of O17. -/

namespace Sys2Proof.Machine

/-! ### Results of a lane operation -/

@[simp] theorem lane_countedEng (now : Nat) (e : Engine) (th : Thread) (r i : Nat) : lane (countedEng now e) th r i = lane e th r i := rfl
@[simp] theorem vreg_countedEng (now : Nat) (e : Engine) (th : Thread) (r : Nat) : vreg (countedEng now e) th r = vreg e th r := rfl

/-- The lanes a lane operation with these results writes leave its engine so. -/
theorem laneResult_counted (l t : Nat) (w : W64) (th : Thread) (f : Nat → W32 × FFlags) (s : State) :
    laneResult l t w th f (countIssue l s) =
      endWith l t (flagsOf ((lanesOn (getEng s l) t w).map f))
        (putLanes th (wVd w) ((lanesOn (getEng s l) t w).map fun i => (i, (f i).1)) (countedEng (dutyNow s) (getEng s l)))
        (countIssue l s) := by
  have hon : lanesOn (countedEng (dutyNow s) (getEng s l)) t w = lanesOn (getEng s l) t w := rfl
  simp only [laneResult, endWith, updEng, getEng_countIssue_same, hon, List.map_map]
  rfl

/-- A lane operation that issues clean and ends with these results writes the guarded lanes of VD. -/
theorem runs_lanes {c : Sys2Proof.Instr} {s : State} {l : Lan} {t : ThreadI} {w : W64} {cls count : Nat} {ops : List Nat} {f : Form}
    {th : Thread} {body : Thread → State → State} (h : Issues s l t w cls f th) (g : Nat → W32 × FFlags)
    (hexec : exec c s = .next (issue l t w cls count ops f .clean body s)) (hops : wOp w ∈ ops) (hcount : wOp w < count)
    (hvec : f.vector = true) (hbody : body th (countIssue l.val s) = laneResult l.val t.val w th g (countIssue l.val s)) :
    Runs c s (LanesGot s l t w th fun i => (g i).1) := by
  obtain ⟨hu, hframe⟩ := counted_ends (l := l) (t := t) (e := putLanes th (wVd w)
    ((lanesOn (getEng s l.val) t.val w).map fun i => (i, (g i).1)) (countedEng (dutyNow s) (getEng s l.val))) h.thread
    (flagsOf ((lanesOn (getEng s l.val) t.val w).map g))
  have hlt : ∀ i ∈ lanesOn (getEng s l.val) t.val w, i < 128 := fun i hi => (mem_lanesOn.mp hi).1
  refine ⟨_, ?runs, ?lanes, hu.went, hu.issue, hu.engineElse ?regs rfl rfl rfl, hframe⟩
  case runs => rw [hexec, issue_of_issues h hops hcount, if_pos hvec, hbody, laneResult_counted]
  case lanes =>
    intro i hi
    rw [hu.lane_eq, lane_putLanes th _ _ hlt _ _ hi]
    simp only [mem_lanesOn, hi, true_and]
    rfl
  case regs => exact fun p hp => get_putLanes_other th _ hlt _ _ fun hq => hp (congrArg some hq)

/-- The count of the instruction is no operand of a lane operation on VA, VB and VC. -/
theorem laneBody_counted (l : Lan) (t : ThreadI) (w : W64) (f : W32 → W32 → W32 → W32 × FFlags) (th : Thread) (s : State) :
    laneBody l t w f th (countIssue l.val s) = laneResult l.val t.val w th (fun i => f (lane (getEng s l.val) th (wVa w) i)
      (lane (getEng s l.val) th (wVb w) i) (lane (getEng s l.val) th (wVc w) i)) (countIssue l.val s) := by
  rw [laneBody, getEng_countIssue_same]
  rfl

/-! ### Lanes side by side -/

/-- Of a list put at the positions from `k` up, those a test of the position leaves. -/
theorem withPos_filter {α : Type} (d : α) (q : List α) (k : Nat) (p : Nat → Bool) :
    (withPos k q).filter (fun x => p x.1) =
      (((List.range q.length).map (k + ·)).filter p).map fun i => (i, q.getD (i - k) d) := by
  have hpos : withPos k q = ((List.range q.length).map (k + ·)).map fun i => (i, q.getD (i - k) d) := by
    rw [List.map_map, ← List.map_id (withPos k q), map_withPos id d]
    exact List.map_congr_left fun i _ => by rw [Function.comp, Nat.add_sub_cancel_left]; rfl
  rw [hpos, List.filter_map]
  rfl

theorem mem_positions {n k : Nat} {p : Nat → Bool} {i : Nat} :
    i ∈ ((List.range n).map (k + ·)).filter p ↔ (k ≤ i ∧ i < k + n) ∧ p i = true := by
  rw [List.mem_filter, List.mem_map]
  refine and_congr_left fun _ => ⟨?_, fun h => ⟨i - k, List.mem_range.mpr (by omega), by omega⟩⟩
  rintro ⟨j, hj, rfl⟩
  have := List.mem_range.mp hj
  omega

theorem length_packLanes (n : Nat) (es : List Nat) : (packLanes n es).length = 4 * n := by
  rw [packLanes, List.length_map, List.length_range]

/-! ### Predicate registers -/

theorem getLsbD_clrBit {n : Nat} (x : BitVec n) (i j : Nat) (hj : j < n) :
    (clrBit x i).getLsbD j = (x.getLsbD j && !decide (j = i)) := by
  simp only [clrBit, BitVec.getLsbD_and, BitVec.getLsbD_not, BitVec.getLsbD_shiftLeft, BitVec.getLsbD_one, hj, decide_true, Bool.true_and]
  by_cases h : j = i
  · subst h
    simp; omega
  · simp [h]; omega

theorem getLsbD_putBit {n : Nat} (x : BitVec n) (i j : Nat) (b : Bool) (hj : j < n) :
    (putBit x i b).getLsbD j = if j = i then b else x.getLsbD j := by
  cases b
  · rw [putBit, if_neg Bool.false_ne_true, getLsbD_clrBit x i j hj]
    by_cases h : j = i <;> simp [h]
  · rw [putBit, if_pos rfl, getLsbD_setBit x i j hj]
    by_cases h : j = i <;> simp [h]

/-- A bit of a register after bits `is` were written, bit `i` with `g i`. -/
theorem getLsbD_foldl_putBit {n : Nat} (g : Nat → Bool) (is : List Nat) (x : BitVec n) {j : Nat} (hj : j < n) :
    ((is.map fun i => (i, g i)).foldl (fun p q => putBit p q.1 q.2) x).getLsbD j = if j ∈ is then g j else x.getLsbD j := by
  induction is generalizing x with
  | nil => rfl
  | cons i is ih =>
    rw [List.map_cons, List.foldl_cons, ih, getLsbD_putBit x i j (g i) hj]
    by_cases hin : j ∈ is
    · rw [if_pos hin, if_pos (List.mem_cons_of_mem i hin)]
    · rw [if_neg hin]
      simp only [List.mem_cons, hin, or_false]
      by_cases hi : j = i
      · rw [if_pos hi, if_pos hi, hi]
      · rw [if_neg hi, if_neg hi]

theorem div_mod_two_eq {n : Nat} (x : BitVec n) (i : Nat) : x.toNat / 2 ^ i % 2 = if x.getLsbD i then 1 else 0 := by
  by_cases h : x.getLsbD i = true
  · rw [if_pos h, (div_mod_iff_getLsbD x i).mpr h]
  · have := (div_mod_iff_getLsbD x i).not.mpr h
    rw [if_neg h]
    omega

/-- A lane of predicate register `r` after lanes `is` of it were written, lane `i` with `g i`. -/
theorem pred_putPred (t r : Nat) (is : List Nat) (g : Nat → Bool) (e : Engine) {i : Nat} (hi : i < 128) :
    (Tab.get 0 (putPred t r (is.map fun i => (i, g i)) e).preds (t * 8 + r)).toNat / 2 ^ i % 2 =
      if i ∈ is then (if g i then 1 else 0) else (Tab.get 0 e.preds (t * 8 + r)).toNat / 2 ^ i % 2 := by
  rw [putPred, Tab.get_upd, if_pos rfl, div_mod_two_eq, getLsbD_foldl_putBit g is _ hi, div_mod_two_eq]
  by_cases h : i ∈ is
  · rw [if_pos h, if_pos h]
  · rw [if_neg h, if_neg h]

theorem pred_putPred_other {t r p : Nat} (h : p ≠ t * 8 + r) (v : List (Nat × Bool)) (e : Engine) :
    Tab.get 0 (putPred t r v e).preds p = Tab.get 0 e.preds p := by
  rw [putPred, Tab.get_upd, if_neg h]

/-! ### Reduction, selection, comparison and PACK -/

theorem exec_vecCompare (l : Lan) (t : ThreadI) (w : W64) (k : RegChk) (s : State) :
    exec (.vecCompare l t w k) s = .next (doCompare l t w k s) := rfl

theorem exec_vecConvert (l : Lan) (t : ThreadI) (w : W64) (k : RegChk) (s : State) :
    exec (.vecConvert l t w k) s = .next (doConvert l t w k s) := rfl

theorem exec_vecReduce (l : Lan) (t : ThreadI) (w : W64) (k : RegChk) (s : State) :
    exec (.vecReduce l t w k) s = .next (doReduce l t w k s) := rfl

theorem exec_vecSpecial (l : Lan) (t : ThreadI) (w : W64) (k : RegChk) (s : State) :
    exec (.vecSpecial l t w k) s = .next (doSpecial l t w k s) := rfl

/-- A reduction puts its result over all 128 lanes into the guarded lanes of VD. -/
theorem reduce_runs {s : State} {l : Lan} {t : ThreadI} {w : W64} {th : Thread}
    (h : Issues s l t w 7
      { vec := [wVd w, wVa w], scal := [], pred := [], fmts := [0xB, 0xD], immOk := true, vector := true } th)
    (hop : wOp w ≤ 2) : Runs (.vecReduce l t w .clean) s
      (LanesGot s l t w th fun _ => (pairwise (redStep w) 7 (vreg (getEng s l.val) th (wVa w))).1) := by
  generalize hr : pairwise (redStep w) 7 (vreg (getEng s l.val) th (wVa w)) = r
  have hexec := exec_vecReduce l t w .clean s
  rw [doReduce] at hexec
  refine runs_lanes h (fun _ => (r.1, if wFmt w = 0xB then r.2.or (nanFlag (vreg (getEng s l.val) th (wVa w))) else r.2)) hexec
    (by simp only [List.mem_cons]; omega) (by omega) rfl ?_
  simp only [getEng_countIssue_same, vreg_countedEng, hr]

/-- What SEL leaves in a lane. -/
def selected (e : Engine) (t : Nat) (w : W64) (th : Thread) (i : Nat) : W32 :=
  if laneOn e t w i then lane e th (wVa w) i else lane e th (wVb w) i

/-- SEL writes every lane of VD and raises no flags. -/
theorem select_ends {s : State} {l : Lan} {t : ThreadI} {w : W64} {th : Thread}
    (h : Issues s l t w 6 (laneForm w false [0xB, 0xD]) th) (hop : wOp w = 1) : ∃ u, exec (.vecCompare l t w .clean) s = .next u ∧
      Ended s l t th (putLanes th (wVd w) ((List.range 128).map fun i => (i, selected (getEng s l.val) t.val w th i))
        (countedEng (dutyNow s) (getEng s l.val))) u ∧ Frame [.engs] s u := by
  refine ⟨_, ?runs, (counted_ends h.thread FFlags.none).1,
    (countIssue_frame _ s).step (endWith_none_frame _ _ _ _) (List.Subset.refl _)⟩
  case runs =>
    rw [← advance_setEng, exec_vecCompare, doCompare, if_pos hop, issue_of_issues h (by simp [hop]) (by simp [hop])]
    simp only [show (laneForm w false [0xB, 0xD]).vector = true from rfl, if_true, hop, updEng, getEng_countIssue_same]
    rfl

/-- The form of CMP and CMPI. -/
abbrev cmpForm (w : W64) : Form :=
  { vec := if wOp w = 0 then [wVa w, wVb w] else [wVa w], scal := [], pred := [wVd w], fmts := [0xB, 0xD], immOk := true,
    vector := true }

/-- What CMP and CMPI find in a lane. -/
def comparedLane (e : Engine) (w : W64) (th : Thread) (i : Nat) : Bool :=
  cmpLane w (lane e th (wVa w) i) (if wOp w = 0 then lane e th (wVb w) i else BitVec.ofNat 32 (wImm w))

/-- CMP and CMPI write the guarded lanes of predicate register VD and raise no flags. -/
theorem compare_ends {s : State} {l : Lan} {t : ThreadI} {w : W64} {th : Thread} (hop : wOp w = 0 ∨ wOp w = 2)
    (h : Issues s l t w 6 (cmpForm w) th) : ∃ u, exec (.vecCompare l t w .clean) s = .next u ∧
      Ended s l t th (putPred t.val (wVd w) ((lanesOn (getEng s l.val) t.val w).map fun i => (i, comparedLane (getEng s l.val) w th i))
        (countedEng (dutyNow s) (getEng s l.val))) u ∧ Frame [.engs] s u := by
  have hne : wOp w ≠ 1 := by omega
  refine ⟨_, ?runs, (counted_ends h.thread FFlags.none).1,
    (countIssue_frame _ s).step (endWith_none_frame _ _ _ _) (List.Subset.refl _)⟩
  case runs =>
    rw [← advance_setEng, exec_vecCompare, doCompare, if_neg hne,
      issue_of_issues h (by simp only [List.mem_cons]; omega) (by omega)]
    simp only [if_true, hne, if_false, updEng, getEng_countIssue_same]
    rfl

/-- The form of PACK and UNPACK. -/
abbrev packForm (w : W64) : Form :=
  { vec := [wVd w, wVa w], scal := [], pred := [], fmts := cvtFmts, immOk := decide ((packPart w + 1) * laneWidth (wFmt w) ≤ 32),
    vector := true }

/-- The lanes of VD that PACK fills: VA's lanes narrowed and put side by side. -/
def packed (e : Engine) (w : W64) (th : Thread) : List W32 :=
  packLanes (laneWidth (wFmt w)) ((vreg e th (wVa w)).map fun v => (laneNarrow w (wFmt w) (fp v)).1)

/-- The guarded lanes of the part of VD that PACK writes. -/
def packedOn (e : Engine) (t : Nat) (w : W64) : List Nat :=
  ((List.range (4 * laneWidth (wFmt w))).map (packPart w * 4 * laneWidth (wFmt w) + ·)).filter (laneOn e t w)

/-- PACK writes the guarded lanes of its part of VD. -/
theorem pack_ends {s : State} {l : Lan} {t : ThreadI} {w : W64} {th : Thread} (h : Issues s l t w 5 (packForm w) th)
    (hop : wOp w = 1) : ∃ u, exec (.vecConvert l t w .clean) s = .next u ∧
      Ended s l t th (putLanes th (wVd w) ((packedOn (getEng s l.val) t.val w).map fun i =>
          (i, (packed (getEng s l.val) w th).getD (i - packPart w * 4 * laneWidth (wFmt w)) 0))
        (countedEng (dutyNow s) (getEng s l.val))) u ∧ Frame [.engs, .ctxs] s u := by
  have hput : (withPos (packPart w * 4 * laneWidth (wFmt w)) (packed (getEng s l.val) w th)).filter
        (fun p => laneOn (getEng s l.val) t.val w p.1) =
      (packedOn (getEng s l.val) t.val w).map fun i =>
        (i, (packed (getEng s l.val) w th).getD (i - packPart w * 4 * laneWidth (wFmt w)) 0) := by
    rw [withPos_filter (0 : W32), packed, length_packLanes]
    rfl
  refine ⟨_, ?runs, counted_ends h.thread (((vreg (getEng s l.val) th (wVa w)).map fun v =>
    laneNarrow w (wFmt w) (fp v)).foldl (fun f r => f.or r.2) FFlags.none)⟩
  case runs =>
    rw [← hput, exec_vecConvert, doConvert]
    simp only [hop, Nat.one_ne_zero, if_false]
    rw [issue_of_issues h (by simp [hop]) (by simp [hop])]
    simp only [if_true, packBody, updEng, getEng_countIssue_same, List.map_map]
    rfl

/-- The part of VD that PACK fills lies within its 128 lanes (R76). -/
theorem packPart_le {w : W64} {th : Thread} (h : illegalForm th w (packForm w) = false) :
    packPart w * 4 * laneWidth (wFmt w) + 4 * laneWidth (wFmt w) ≤ 128 := by
  simp only [illegalForm, Bool.or_eq_false_iff, Bool.not_eq_false', decide_eq_true_eq] at h
  obtain ⟨-, himm⟩ := h
  calc packPart w * 4 * laneWidth (wFmt w) + 4 * laneWidth (wFmt w) = 4 * ((packPart w + 1) * laneWidth (wFmt w)) := by ring
    _ ≤ 128 := by omega

/-! ### The obligation -/

/-- Settles O17: a clause of lane results is `runs_lanes` with the result of its instruction; selection, comparison and PACK read
off how their instruction ends. -/
theorem engineLaneOperations : Obligations.EngineLaneOperations := by
  refine ⟨?float, ?dot2, ?dot4, ?idot4, ?integer, ?cvt, ?unpack, ?reduce, ?special, ?sel, ?cmp, ?pack⟩
  case float =>
    intro s l t w th e h hop
    exact runs_lanes h _ rfl (by simp only [List.mem_cons]; omega) (by omega) rfl (laneBody_counted ..)
  case dot2 =>
    intro s l t w th e h hop
    exact runs_lanes h _ rfl (by simp [hop]) (by simp [hop]) rfl (laneBody_counted ..)
  case dot4 =>
    intro s l t w th e h hop
    exact runs_lanes h _ (congrArg Host.Outcome.next (if_neg (by simp [hop]))) (by simp [hop]) (by simp [hop]) rfl
      (laneBody_counted ..)
  case idot4 =>
    intro s l t w th e h hop
    exact runs_lanes h _ (congrArg Host.Outcome.next (if_pos hop)) (by simp [hop]) (by simp [hop]) rfl (laneBody_counted ..)
  case integer =>
    intro s l t w th e h hop
    exact runs_lanes h _ rfl (by simp only [List.mem_cons]; omega) (by omega) rfl (laneBody_counted ..)
  case cvt =>
    intro s l t w th e h hop
    refine runs_lanes h (fun i => cvtLane w (lane (getEng s l.val) th (wVa w) i)) (by rw [exec_vecConvert, doConvert, if_pos hop]) (by simp [hop])
      (by simp [hop]) rfl ?_
    simp only [hop, if_true, getEng_countIssue_same, lane_countedEng]
  case unpack =>
    intro s l t w th e h hop
    have hne : wOp w ≠ 0 := by omega
    have hne' : wOp w ≠ 1 := by omega
    refine runs_lanes h (fun i => unpackLane w (vreg (getEng s l.val) th (wVa w)) i) (by rw [exec_vecConvert, doConvert, if_neg hne]) (by simp [hop])
      (by simp [hop]) rfl ?_
    simp only [hne, hne', if_false, getEng_countIssue_same, vreg_countedEng]
  case reduce => exact fun s l t w th h hop => reduce_runs h hop
  case special =>
    intro s l t w th e h hop
    have hexec := exec_vecSpecial l t w .clean s
    rw [doSpecial] at hexec
    refine runs_lanes h (fun i => special (wOp w) (lane (getEng s l.val) th (wVa w) i)) hexec (by simp only [List.mem_cons]; omega)
      (by omega) rfl ?_
    simp only [getEng_countIssue_same, lane_countedEng]
  case sel =>
    intro s l t w th e h hop
    obtain ⟨u, hrun, hu, hframe⟩ := select_ends h hop
    have hlt : ∀ i ∈ List.range 128, i < 128 := fun i => List.mem_range.mp
    refine ⟨u, hrun, ?lanes, hu.went, hu.issue, hu.engineElse ?regs rfl rfl rfl, hframe⟩
    case lanes =>
      intro i hi
      rw [hu.lane_eq, lane_putLanes th _ _ hlt _ _ hi, if_pos ⟨rfl, List.mem_range.mpr hi⟩, selected]
    case regs => exact fun p hp => get_putLanes_other th _ hlt _ _ fun hq => hp (congrArg some hq)
  case cmp =>
    intro s l t w th e hop h
    obtain ⟨u, hrun, hu, hframe⟩ := compare_ends hop h
    refine ⟨u, hrun, ?lanes, ?others, hu.went, hu.regs, hu.sregs, hu.inbox, hu.others, hu.issue, hframe⟩
    case lanes =>
      intro i hi
      rw [hu.preds, pred_putPred _ _ _ _ _ hi]
      simp only [mem_lanesOn, hi, true_and]
      rfl
    case others => exact fun p hp => by rw [hu.preds, pred_putPred_other hp]; rfl
  case pack =>
    intro s l t w th e n h hop
    obtain ⟨u, hrun, hu, hframe⟩ := pack_ends h hop
    obtain ⟨-, -, -, -, -, -, hlegal, -⟩ := h
    have hpart := packPart_le hlegal
    have hlt : ∀ i ∈ packedOn e t.val w, i < 128 := fun i hi => by have := (mem_positions.mp hi).1.2; omega
    refine ⟨u, hrun, ?lanes, hu.went, hu.issue, hu.engineElse ?regs rfl rfl rfl, hframe⟩
    case lanes =>
      intro i hi
      have hin : i ∈ packedOn e t.val w ↔ laneOn e t.val w i = true ∧ packPart w * 4 * n ≤ i ∧ i < packPart w * 4 * n + 4 * n :=
        mem_positions.trans and_comm
      rw [hu.lane_eq, lane_putLanes th _ _ hlt _ _ hi]
      simp only [true_and, hin]
      rfl
    case regs => exact fun p hp => get_putLanes_other th _ hlt _ _ fun hq => hp (congrArg some hq)

end Sys2Proof.Machine
end

section
/-! SUPPORT. Completions (R390) and the threads of the engines (R124, R142, R145, R147): what ending a command, starting a waiting
thread and stopping an invocation may touch. -/

namespace Sys2Proof.Machine

/-! ### Completions -/

theorem postCpl_frame (r : RingI) (c : Cpl) (s : State) : Frame [.gvl, .mbx, .posted] s (postCpl r c s) :=
  (Frame.refl _ s).ite (postOrHold_frame r c s)

theorem complete_frame (d : Desc) (st : W16) (used : Nat) (res : List W32) (s : State) :
    Frame [.gvl, .mbx, .posted] s (complete d st used res s) :=
  .after (List.Subset.refl _) (postCpl_frame _ _ _) ((updRing_frame s _ _).mono (by decide))

theorem finish_frame (d : Desc) (st : W16) (s : State) : Frame [.gvl, .mbx, .posted] s (finish d st s) := complete_frame d st 0 [] s

/-! ### Threads that start -/

theorem frame_invs (s : State) (x : List Invocation) : Frame [.invs] s { s with invs := x } := by
  intro p hp; cases p <;> simp at hp <;> rfl

theorem startThread_frame (l : Lan) (v : Invocation) (s : State) : Frame [.engs, .invs] s (startThread l v s) := by
  unfold startThread
  dsimp only
  split
  · exact Frame.ite (.after (by decide) (frame_invs _ _) ((setEng_frame s _ _).mono (by decide))) (Frame.refl _ s)
  · exact Frame.refl _ s

theorem startWaiting_frame (l : Lan) (s : State) : Frame [.engs, .invs] s (startWaiting l s) :=
  frame_foldl (fun a v => frame_foldl (fun b _ => startThread_frame l v b) _ a) _ s

/-! ### Threads that stop -/

/-- What stopping threads may touch: the engines, the invocations and their contexts, and what completing a command and an ember
may. -/
def Part.stopping : List Part := [.engs, .invs, .ctxs, .gvl, .mbx, .posted, .mgt]

theorem endThread_frame (l t : Nat) (s : State) : Frame [.engs] s (endThread l t s) := updEng_frame s _ _

theorem unloadCheck_frame (c : Nat) (s : State) : Frame Part.stopping s (unloadCheck c s) := by
  unfold unloadCheck
  split
  · exact Frame.refl _ s
  · dsimp only
    refine .after (List.Subset.refl _) (frame_foldl (fun a u => ?_) _ _) ((updCtx_frame s _ _).mono (by decide))
    exact (finish_frame u.2 0 a).mono (by decide)

theorem stopInv_frame (id : Nat) (s : State) : Frame Part.stopping s (stopInv id s) := by
  unfold stopInv
  split
  · exact Frame.refl _ s
  · exact .after (by decide) (unloadCheck_frame _ _) <| .after (by decide) (frame_foldl (fun a l => startWaiting_frame l a) _ _) <|
      .after (by decide) (frame_foldl (fun a l => updEng_frame a _ _) _ _) ((frame_invs s _).mono (by decide))

theorem recordFault_frame (l t cause : Nat) (s : State) : Frame [.engs] s (recordFault l t cause s) := by
  unfold recordFault
  split
  · exact Frame.refl _ s
  · exact updEng_frame s _ _

theorem failInv_frame (l id : Nat) (s : State) : Frame Part.stopping s (failInv l id s) := by
  unfold failInv
  split
  · exact Frame.refl _ s
  next v _ =>
    refine .after (by decide) (ember_frame _ _ _ _ _ _) <| .after (by decide) (updCtx_frame _ _ _) ?_
    split
    · exact stopInv_frame id s
    · exact .after (by decide) (finish_frame _ _ _) (stopInv_frame id s)

theorem customerFault_frame (l t cause : Nat) (s : State) : Frame Part.stopping s (customerFault l t cause s) := by
  unfold customerFault
  split
  · exact Frame.refl _ s
  · have hfault := (recordFault_frame l t cause s).mono (qs := Part.stopping) (by decide)
    split
    · exact hfault.step (endThread_frame _ _ _) (by decide)
    · exact hfault.step (failInv_frame _ _ _) (by decide)

theorem stopCustomers_frame (l : Nat) (s : State) : Frame Part.stopping s (stopCustomers l s) := by
  have hone (a : State) (p : Nat × Thread) :
      Frame Part.stopping a (if threadAt a l p.1 = some p.2 then customerFault l p.1 8 a else a) :=
    (customerFault_frame l p.1 8 a).ite (Frame.refl _ a)
  exact frame_foldl hone _ s

end Sys2Proof.Machine
end

section
/-! SUPPORT. A remap (R478 to R481): what each of its parts may touch, and where it leaves the lantern that goes and the one that
comes. -/

namespace Sys2Proof.Machine

/-! ### Where a lantern stands -/

/-- A lantern's state, its logical index and its epoch: what a remap changes and what it chooses by. -/
def standing (v : Lantern) : LanSt × Option LLan × W32 := (v.st, v.llan, v.epoch)

theorem standing_eq {v : Lantern} {st : LanSt} {ll : Option LLan} {ep : W32} (h : standing v = (st, ll, ep)) :
    v.st = st ∧ v.llan = ll ∧ v.epoch = ep := by
  simpa only [standing, Prod.mk.injEq] using h

theorem standing_congr {u v : Lantern} (h : standing u = standing v) : u.st = v.st ∧ u.llan = v.llan ∧ u.epoch = v.epoch :=
  standing_eq h

/-- Every lantern stands as before. -/
def AllStand (s t : State) : Prop := ∀ k, standing (getLan t k) = standing (getLan s k)

theorem AllStand.refl (s : State) : AllStand s s := fun _ => rfl

theorem AllStand.trans {s t u : State} (h : AllStand s t) (k : AllStand t u) : AllStand s u := fun n => (k n).trans (h n)

theorem AllStand.ite {s t u : State} {c : Prop} [Decidable c] (h : AllStand s t) (k : AllStand s u) :
    AllStand s (if c then t else u) := by
  split
  · exact h
  · exact k

theorem allStand_foldl {α : Type} {g : State → α → State} (hg : ∀ s x, AllStand s (g s x)) (l : List α) (s : State) :
    AllStand s (l.foldl g s) := by
  induction l generalizing s with
  | nil => exact .refl s
  | cons x l ih => exact (hg s x).trans (ih _)

/-- What touches no lantern leaves every one where it stands. -/
theorem Frame.allStand {ps : List Part} {s t : State} (h : Frame ps s t) (hp : .lans ∉ ps) : AllStand s t :=
  fun k => congrArg standing (h.getLan k hp)

theorem allStand_updLan {l : Nat} {f : Lantern → Lantern} (hf : ∀ v, standing (f v) = standing v) (s : State) :
    AllStand s (updLan l f s) := by
  intro k
  rw [getLan_updLan]
  by_cases hk : k = l
  · rw [if_pos hk, hf, hk]
  · rw [if_neg hk]

/-- A reserve is chosen by where the lanterns stand. -/
theorem heldFree_of_stands {s t : State} {n : Nat} (h : ∀ p ∈ lansOf n, standing (getLan t p) = standing (getLan s p)) :
    heldFree t n = heldFree s n := by
  refine List.find?_congr fun p hp => ?_
  obtain ⟨hst, hll, -⟩ := standing_congr (h p hp)
  simp only [hst, hll]

/-! ### Jobs that start -/

/-- What starting the jobs of a lantern may touch: wicks, lanterns and the device record, and with an empty write (R69) the
completion of its command. -/
def Part.working : List Part := [.wicks, .lans, .flash, .ctxs, .gvl, .mbx, .posted]

theorem updEpoch_frame (c : Nat) (ep : W32) (f : Epoch → Epoch) (s : State) : Frame [.ctxs] s (updEpoch c ep f s) :=
  updCtx_frame s c _

theorem emptyWrite_frame (l w : Nat) (s : State) : Frame [.wicks, .ctxs, .gvl, .mbx, .posted] s (emptyWrite l w s) := by
  have hjob : Frame [.wicks, .ctxs, .gvl, .mbx, .posted] s
      (endJob l w (setWick l w { getWick s l w with wrResult := 0, stat := setBit (getWick s l w).stat 1 } s)) :=
    .after (by decide) (updWick_frame _ l w _) ((setWick_frame s l w _).mono (by decide))
  unfold emptyWrite
  dsimp only
  split
  · split
    · exact hjob
    · exact .after (by decide) (finish_frame _ _ _) (hjob.step (updEpoch_frame _ _ _ _) (by decide))
  · split
    · exact hjob
    · exact .after (by decide) (finish_frame _ _ _) (hjob.step (updCtx_frame _ _ _) (by decide))
  · exact hjob

theorem startWrite_frame (l w : Nat) (s : State) : Frame Part.working s (startWrite l w s) := by
  unfold startWrite
  refine Frame.ite ((emptyWrite_frame l w s).mono (by decide)) (Frame.ite ?_ ((setWick_frame s l w _).mono (by decide)))
  exact .after (by decide) (retireWick_frame l w _) ((updWick_frame s l w _).mono (by decide))

theorem retireWick_stands (l w : Nat) (s : State) : AllStand s (retireWick l w s) := by
  have hspare (v : Lantern) :
      standing (if v.spare.map (fun p => p.val) = some w then { v with spare := none } else v) = standing v := by
    split <;> rfl
  unfold retireWick
  exact (allStand_updLan hspare s).trans <| ((updWick_frame _ l w _).allStand (by decide)).trans
    ((updRecWick_frame l w _ _).allStand (by decide))

theorem startWrite_stands (l w : Nat) (s : State) : AllStand s (startWrite l w s) := by
  unfold startWrite
  refine AllStand.ite ((emptyWrite_frame l w s).allStand (by decide)) (AllStand.ite ?_ ((setWick_frame s l w _).allStand (by decide)))
  exact ((updWick_frame s l w _).allStand (by decide)).trans (retireWick_stands l w _)

theorem startTrim_frame (l w : Nat) (s : State) : Frame [.wicks, .lans] s (startTrim l w s) :=
  .after (by decide) (updWick_frame _ l w _) ((updLan_frame s l _).mono (by decide))

theorem startTrim_stands (l w : Nat) (s : State) : AllStand s (startTrim l w s) := by
  refine AllStand.trans (allStand_updLan (fun v => ?_) s) ((updWick_frame _ l w _).allStand (by decide))
  rfl

/-- The writes a lantern's jobs may start now (R44). -/
def writesStarted (l : Nat) (s : State) : State :=
  (((jobWicks s l .toWrite).filter (fun w => mayWrite (getWick s l w))).take (min (2 - busyOn s l) (2048 - busyDie s))).foldl
    (fun s w => startWrite l w s) s

theorem kickLan_eq (l : Nat) (s : State) : kickLan l s =
    if s.lmp.frozen || s.snuf.wheld then s
    else if genFree (getLan (writesStarted l s) l) && divNow (writesStarted l s) l == 0 then
      match (jobWicks (writesStarted l s) l .toTrim).filter (fun w =>
        let x := getWick (writesStarted l s) l w; x.st == .ready || x.st == .spare) with
      | [] => writesStarted l s
      | w :: _ => startTrim l w (writesStarted l s)
    else writesStarted l s := rfl

theorem kickLan_frame (l : Nat) (s : State) : Frame Part.working s (kickLan l s) := by
  have hwrites : Frame Part.working s (writesStarted l s) := frame_foldl (fun a w => startWrite_frame l w a) _ s
  rw [kickLan_eq]
  refine (Frame.refl _ s).ite (Frame.ite ?_ hwrites)
  split
  · exact hwrites
  · exact hwrites.step (startTrim_frame l _ _) (by decide)

theorem kickLan_stands (l : Nat) (s : State) : AllStand s (kickLan l s) := by
  have hwrites : AllStand s (writesStarted l s) := allStand_foldl (fun a w => startWrite_stands l w a) _ s
  rw [kickLan_eq]
  refine (AllStand.refl s).ite (AllStand.ite ?_ hwrites)
  split
  · exact hwrites
  · exact hwrites.trans (startTrim_stands l _ _)

/-! ### The reserve that comes (R440, R480) -/

theorem standing_mapSet (v : Lantern) (lw pw : Nat) : standing (mapSet v lw pw) = standing v := by
  unfold mapSet
  split_ifs <;> rfl

/-- The wicks of a lantern that takes a logical lantern, before their jobs start. -/
def wicksGiven (c p : Nat) (ll : LLan) (ep : W32) (j : Job) (ws : List Nat) (s : State) : State :=
  let md := (lanShard s c ep ll.val).bind (fun h => h.md)
  let look := ep == 0
  let kb := match getCtx s c with | some x => keyBits x.vocab | none => 1024
  let fmt : BitVec 4 := if look then 0 else match md with | none => 3 | some m => m.wfmt
  let shape : BitVec 3 := match md with | none => if look then 4 else 0 | some m => BitVec.ofNat 3 m.shape.toNat
  let spare : Option PWick := (ws[16]?).map (fun w => Fin.ofNat 17 w)
  let s := updLan p (fun v => { v with llan := some ll, shape := shape, epoch := ep, wrFails := 0, spare := spare }) s
  let s := ws.foldl (fun s w => updWick p w (fun x =>
    { loadColmap s p w x with wfmt := fmt, mode := if look then 1 else 0,
                              keybits := if look then BitVec.ofNat 11 kb else x.keybits }) s) s
  (List.finRange 16).foldl (fun s lw => match ws[lw.val]? with
    | none => s
    | some w => updLan p (fun v => mapSet v lw.val w) (giveJob p w j ll lw ep s)) s

theorem assignLan_eq (c p : Nat) (ll : LLan) (ep : W32) (j : Job) (s : State) :
    assignLan c p ll ep j s = kickLan p (wicksGiven c p ll ep j (goodWicks s p) s) := rfl

theorem wicksGiven_frame (c p : Nat) (ll : LLan) (ep : W32) (j : Job) (ws : List Nat) (s : State) :
    Frame [.wicks, .lans] s (wicksGiven c p ll ep j ws s) := by
  unfold wicksGiven
  dsimp only
  refine .after (List.Subset.refl _) (frame_foldl (fun a lw => ?_) _ _) <|
    .after (by decide) (frame_foldl (fun a w => updWick_frame a p w _) _ _) ((updLan_frame s p _).mono (by decide))
  split
  · exact Frame.refl _ a
  · exact .after (by decide) (updLan_frame _ p _) ((giveJob_frame p _ j ll lw ep a).mono (by decide))

theorem standing_wicksGiven (c p : Nat) (ll : LLan) (ep : W32) (j : Job) (ws : List Nat) (s : State) (k : Nat) :
    standing (getLan (wicksGiven c p ll ep j ws s) k) =
      if k = p then ((getLan s p).st, some ll, ep) else standing (getLan s k) := by
  unfold wicksGiven
  dsimp only
  refine (allStand_foldl (fun a lw => ?_) _ _ k).trans ?_
  · split
    · exact .refl a
    · exact ((giveJob_frame p _ j ll lw ep a).allStand (by decide)).trans (allStand_updLan (fun v => standing_mapSet v _ _) _)
  · rw [(frame_foldl (fun a w => updWick_frame a p w _) _ _).getLan k (by decide), getLan_updLan]
    split <;> rfl

theorem assignLan_frame (c p : Nat) (ll : LLan) (ep : W32) (j : Job) (s : State) :
    Frame Part.working s (assignLan c p ll ep j s) := by
  rw [assignLan_eq]
  exact .after (List.Subset.refl _) (kickLan_frame p _) ((wicksGiven_frame c p ll ep j _ s).mono (by decide))

/-- The reserve takes the logical lantern and its epoch; no other lantern moves. -/
theorem standing_assignLan (c p : Nat) (ll : LLan) (ep : W32) (j : Job) (s : State) (k : Nat) :
    standing (getLan (assignLan c p ll ep j s) k) =
      if k = p then ((getLan s p).st, some ll, ep) else standing (getLan s k) := by
  rw [assignLan_eq, kickLan_stands p _ k, standing_wicksGiven]

/-! ### The lantern that goes (R479) -/

theorem discardRuns_stands (p : FlareRun → Bool) (fr : Bool) (gone : Nat → Bool) (s : State) (c : Nat) :
    AllStand s (discardRuns p fr gone s c) := by
  have hslot (v : Lantern) (b : Bool) (x : Slot) : standing (setSlot v b x) = standing v := by cases b <;> rfl
  have hdrop (r : FlareRun) (a : State) (q : LLan × Lan × Bool) : AllStand a (dropOnLan r.id fr gone a q) := by
    refine ((frame_foldl (fun s w => updWick_frame s _ w _) _ a).allStand (by decide)).trans (allStand_updLan (fun v => ?_) _)
    exact hslot v q.2.2 _
  have hruns (rs : List FlareRun) : AllStand s (rs.foldl (fun s r => r.lans.foldl (dropOnLan r.id fr gone) s) s) :=
    allStand_foldl (fun a r => allStand_foldl (hdrop r) _ a) rs s
  exact hruns _

theorem closingAudits_frame (c l : Nat) (errs : List (Nat × List (Nat × Int))) (s : State) :
    Frame [.chk, .fab, .fresh] s (closingAudits c l errs s) := by
  refine frame_foldl (fun a lw => ?_) _ s
  exact Frame.ite (.after (by decide) (journalPass_frame _ _ _ _ _) ((frame_fresh a _).mono (by decide)))
    (.after (by decide) (flagSuspect_frame _ _ _ _ _) ((frame_fresh a _).mono (by decide)))

/-- What a lantern's leaving may touch. -/
def Part.leaving : List Part := [.wicks, .lans, .lmp] ++ Part.stopping

/-- The engine of a lantern that leaves: its probes are dropped and its threads stopped. -/
def engineStopped (l : Nat) (s : State) : State :=
  updEng l (fun e => { e with threads := [] })
    (stopCustomers l (updEng l (fun e => { e with custEn := false }) (killProbes l probeKind s)))

theorem engineStopped_frame (l : Nat) (s : State) : Frame (.lmp :: Part.stopping) s (engineStopped l s) :=
  .after (by decide) (updEng_frame _ l _) <| .after (by decide) (stopCustomers_frame l _) <|
    .after (by decide) (updEng_frame _ l _) ((frame_lmp s _).mono (by decide))

/-- The lantern's own record once it has left. -/
def quarantined (v : Lantern) : Lantern :=
  { clearMoments 16 v with
    st := .quarantined, llan := none, drcal := false, phase := .idle, calWick := none, drAtBoundary := false, arm := false,
    slot0 := Slot.init, slot1 := Slot.init }

/-- A wick of a lantern that leaves (R39, R47, R58). -/
def quarantinedWick (now : Nat) (x : Wick) : Wick :=
  let x := clearWin (abandonRb (abandonWrite now { x with job := .none, stage := .toWrite }))
  if x.st = .service then { x with st := .quarantined, lwick := none }
  else if x.st = .adopting then { x with st := .unowned, ctx := none }
  else x

theorem quarantineLan_eq (l : Nat) (s : State) : quarantineLan l s =
    updLan l quarantined ((List.range 17).foldl (fun t w => updWick l w (quarantinedWick (nowF t)) t) (engineStopped l s)) := rfl

theorem quarantineLan_frame (l : Nat) (s : State) : Frame Part.leaving s (quarantineLan l s) := by
  rw [quarantineLan_eq]
  exact .after (by decide) (updLan_frame _ l _) <| .after (by decide) (frame_foldl (fun a w => updWick_frame a l w _) _ _)
    ((engineStopped_frame l s).mono (by decide))

/-- The lantern that leaves is QUARANTINED without a logical index; no other lantern moves. -/
theorem standing_quarantineLan (l : Nat) (s : State) (k : Nat) : standing (getLan (quarantineLan l s) k) =
    if k = l then (.quarantined, none, (getLan s l).epoch) else standing (getLan s k) := by
  have hbefore (k : Nat) : getLan ((List.range 17).foldl (fun t w => updWick l w (quarantinedWick (nowF t)) t)
      (engineStopped l s)) k = getLan s k := by
    rw [(frame_foldl (fun a w => updWick_frame a l w _) _ _).getLan k (by decide), (engineStopped_frame l s).getLan k (by decide)]
  rw [quarantineLan_eq, getLan_updLan, hbefore, hbefore]
  split <;> rfl

theorem updRecLan_frame (l : Nat) (f : RecLan → RecLan) (s : State) : Frame [.flash] s (updRecLan l f s) := by
  unfold updRecLan writeSec
  exact (Frame.refl _ s).ite (.after (by decide) (frame_flash _ _) <| .after (by decide) (frame_flash _ _) (dropSec_frame l s))

theorem retireLan_frame (l : Nat) (s : State) : Frame [.wicks, .lans, .flash] s (retireLan l s) := by
  unfold retireLan
  exact .after (by decide) (updRecLan_frame l _ _) <| .after (by decide) (updLan_frame _ l _)
    ((frame_foldl (fun a w => updWick_frame a l w _) _ s).mono (by decide))

theorem standing_retireLan (l : Nat) (s : State) (k : Nat) : standing (getLan (retireLan l s) k) =
    if k = l then (.retired, (getLan s l).llan, (getLan s l).epoch) else standing (getLan s k) := by
  have hwicks (f : Wick → Wick) (k : Nat) : getLan ((List.range 17).foldl (fun s w => updWick l w f s) s) k = getLan s k :=
    (frame_foldl (fun a w => updWick_frame a l w f) _ s).getLan k (by decide)
  unfold retireLan
  rw [(updRecLan_frame l _ _).getLan k (by decide), getLan_updLan, hwicks, hwicks]
  split <;> rfl

theorem lanternTest_frame (l : Nat) (ll : LLan) (ep : W32) (s : State) : Frame Part.working s (lanternTest l ll ep s) := by
  unfold lanternTest
  refine Frame.ite ((retireLan_frame l s).mono (by decide)) ?_
  exact .after (List.Subset.refl _) (kickLan_frame l _)
    ((frame_foldl (fun a w => giveJob_frame l w _ ll _ ep a) _ s).mono (by decide))

/-- The tested lantern keeps its logical index and is RETIRED at most; no other lantern moves. -/
theorem standing_lanternTest (l : Nat) (ll : LLan) (ep : W32) (s : State) (k : Nat) :
    standing (getLan (lanternTest l ll ep s) k) =
      if k = l ∧ (getLan s l).strike = true then (.retired, (getLan s l).llan, (getLan s l).epoch) else standing (getLan s k) := by
  unfold lanternTest
  by_cases hstrike : (getLan s l).strike = true
  · rw [if_pos hstrike, standing_retireLan]
    simp only [hstrike, and_true]
  · rw [if_neg hstrike, if_neg fun h => hstrike h.2]
    refine (kickLan_stands l _ k).trans ?_
    exact (frame_foldl (fun a w => giveJob_frame l w .lanTest ll (Fin.ofNat 16 (w % 16)) ep a) _ s).allStand (by decide) k

/-! ### The remap (R480, R481) -/

/-- What a remap may touch: the lantern that goes, the one that comes, and a withhold where none comes. -/
def Part.remapping : List Part :=
  [.wicks, .lans, .engs, .lmp, .lctx, .chk, .snuf, .stks, .clk, .fab, .gvl, .mbx, .ctxs, .invs, .posted, .flash, .mgt, .fresh]

/-- The state in which a lantern has left and its successor is not chosen yet. -/
def hasLeft (p : Nat) (errs : List (Nat × List (Nat × Int))) (s : State) : State :=
  quarantineLan p (closingAudits (ctxOfLan s p) p errs (discardRuns (runUses p) false (· == p) s (ctxOfLan s p)))

theorem hasLeft_frame (p : Nat) (errs : List (Nat × List (Nat × Int))) (s : State) :
    Frame ([.lctx, .chk, .fab, .fresh] ++ Part.leaving) s (hasLeft p errs s) :=
  .after (by decide) (quarantineLan_frame p _) <| .after (by decide) (closingAudits_frame _ p errs _)
    ((discardRuns_frame _ _ _ s _).mono (by decide))

theorem standing_hasLeft (p : Nat) (errs : List (Nat × List (Nat × Int))) (s : State) (k : Nat) :
    standing (getLan (hasLeft p errs s) k) =
      if k = p then (.quarantined, none, (getLan s p).epoch) else standing (getLan s k) := by
  have hbefore : AllStand s (closingAudits (ctxOfLan s p) p errs (discardRuns (runUses p) false (· == p) s (ctxOfLan s p))) :=
    (discardRuns_stands _ _ _ s _).trans ((closingAudits_frame _ p errs _).allStand (by decide))
  rw [hasLeft, standing_quarantineLan, hbefore k, (standing_congr (hbefore p)).2.2]

theorem snuf_hasLeft (p : Nat) (errs : List (Nat × List (Nat × Int))) (s : State) : (hasLeft p errs s).snuf = s.snuf :=
  hasLeft_frame p errs s .snuf (by decide)

theorem remapLan_eq {ll : LLan} {p : Nat} {s : State} (h : lanOf s ll.val = some p) (ep : W32)
    (errs : List (Nat × List (Nat × Int))) : remapLan ll ep errs s =
      let t := chooseReserve (ctxOfLan s p) p ll ep (hasLeft p errs s)
      if t.snuf.wheld then t else lanternTest p ll
        (getLan (closingAudits (ctxOfLan s p) p errs (discardRuns (runUses p) false (· == p) s (ctxOfLan s p))) p).epoch t := by
  unfold remapLan hasLeft
  rw [h]

theorem chooseReserve_frame (c p : Nat) (ll : LLan) (ep : W32) (s : State) : Frame Part.remapping s (chooseReserve c p ll ep s) := by
  unfold chooseReserve
  split
  · exact (assignLan_frame c _ ll ep .remap s).mono (by decide)
  · exact (withhold_frame _ _ s).mono (by decide)

theorem remapLan_frame (ll : LLan) (ep : W32) (errs : List (Nat × List (Nat × Int))) (s : State) :
    Frame Part.remapping s (remapLan ll ep errs s) := by
  cases h : lanOf s ll.val with
  | none =>
    unfold remapLan
    rw [h]
    exact Frame.refl _ s
  | some p =>
    have hchosen : Frame Part.remapping s (chooseReserve (ctxOfLan s p) p ll ep (hasLeft p errs s)) :=
      .after (List.Subset.refl _) (chooseReserve_frame _ p ll ep _) ((hasLeft_frame p errs s).mono (by decide))
    rw [remapLan_eq h]
    exact hchosen.ite (hchosen.step (lanternTest_frame p ll _ _) (by decide))

theorem earlyRemap_frame (l : Nat) (s : State) : Frame Part.remapping s (earlyRemap l s) := by
  unfold earlyRemap
  dsimp only
  split
  · exact Frame.ite (.after (List.Subset.refl _) (remapLan_frame _ _ _ _) ((updLan_frame s l _).mono (by decide))) (Frame.refl _ s)
  · exact Frame.refl _ s

/-- A lantern with a logical index in SERVICE. -/
theorem st_of_lanOf {s : State} {ll p : Nat} (h : lanOf s ll = some p) : (getLan s p).st = .service := by
  have := List.find?_some h
  simp only [Bool.and_eq_true, beq_iff_eq] at this
  exact this.1

/-- A reserve is HELD and without a logical index. -/
theorem st_of_heldFree {s : State} {n q : Nat} (h : heldFree s n = some q) : (getLan s q).st = .held := by
  have := List.find?_some h
  simp only [Bool.and_eq_true, beq_iff_eq] at this
  exact this.1

/-- The reserve stays the same while the lantern in service leaves. -/
theorem heldFree_hasLeft {s : State} {p : Nat} (hst : (getLan s p).st = .service) (errs : List (Nat × List (Nat × Int))) (n : Nat) :
    heldFree (hasLeft p errs s) n = heldFree s n := by
  refine List.find?_congr fun k _ => ?_
  have hk := standing_hasLeft p errs s k
  by_cases h : k = p
  · subst h
    rw [if_pos rfl] at hk
    obtain ⟨hst', -⟩ := standing_eq hk
    simp only [hst, hst', show (LanSt.quarantined == LanSt.held) = false from rfl,
      show (LanSt.service == LanSt.held) = false from rfl, Bool.false_and]
  · rw [if_neg h] at hk
    obtain ⟨hst', hll, -⟩ := standing_congr hk
    simp only [hst', hll]

/-- Without a reserve the package withholds with cause 0B, and the lantern is not tested (R481). -/
theorem remapLan_withholds {s : State} {ll : LLan} {p : Nat} (hp : lanOf s ll.val = some p)
    (hnone : heldFree s (sconceOfL ll.val) = none) (hw : s.snuf.wheld = false) (ep : W32) (errs : List (Nat × List (Nat × Int))) :
    (remapLan ll ep errs s).snuf = { wheld := true, cause := 0x0B, detail := BitVec.ofNat 16 p } := by
  have hchoose : chooseReserve (ctxOfLan s p) p ll ep (hasLeft p errs s) = withhold 0x0B p (hasLeft p errs s) := by
    rw [chooseReserve, heldFree_hasLeft (st_of_lanOf hp), hnone]
  have hsnuf := withhold_snuf (s := hasLeft p errs s) (by rw [snuf_hasLeft, hw]) 0x0B p
  rw [remapLan_eq hp, hchoose]
  dsimp only
  rw [if_pos (by rw [hsnuf]), hsnuf]
  rfl

/-- The reserve takes the logical lantern and its epoch, and the old lantern is left without an index (R480). -/
theorem remapLan_moves {s : State} {ll : LLan} {p q : Nat} (hp : lanOf s ll.val = some p)
    (hq : heldFree s (sconceOfL ll.val) = some q) (hw : s.snuf.wheld = false) (ep : W32) (errs : List (Nat × List (Nat × Int))) :
    let t := remapLan ll ep errs s
    ((getLan t q).llan = some ll ∧ (getLan t q).epoch = ep) ∧
      ((getLan t p).llan = none ∧ ((getLan t p).st = .quarantined ∨ (getLan t p).st = .retired)) ∧ t.snuf = s.snuf := by
  have hne : q ≠ p := by
    rintro rfl
    exact absurd ((st_of_lanOf hp).symm.trans (st_of_heldFree hq)) (by decide)
  have hchoose : chooseReserve (ctxOfLan s p) p ll ep (hasLeft p errs s) =
      assignLan (ctxOfLan s p) q ll ep .remap (hasLeft p errs s) := by
    rw [chooseReserve, heldFree_hasLeft (st_of_lanOf hp), hq]
  have hsnuf : (assignLan (ctxOfLan s p) q ll ep .remap (hasLeft p errs s)).snuf = s.snuf :=
    (assignLan_frame _ q ll ep .remap _ .snuf (by decide)).trans (snuf_hasLeft p errs s)
  have hstandq := standing_assignLan (ctxOfLan s p) q ll ep .remap (hasLeft p errs s) q
  have hstandp := standing_assignLan (ctxOfLan s p) q ll ep .remap (hasLeft p errs s) p
  rw [if_pos rfl] at hstandq
  rw [if_neg hne.symm, standing_hasLeft, if_pos rfl] at hstandp
  rw [remapLan_eq hp, hchoose]
  dsimp only
  rw [if_neg (by rw [hsnuf, hw]; exact Bool.false_ne_true)]
  generalize assignLan (ctxOfLan s p) q ll ep .remap (hasLeft p errs s) = t at *
  have htestq (old : W32) := standing_lanternTest p ll old t q
  have htestp (old : W32) := standing_lanternTest p ll old t p
  simp only [hne, false_and, if_false, hstandq] at htestq
  obtain ⟨-, hllq, hepq⟩ := standing_eq (htestq _)
  obtain ⟨hst, hll, hep⟩ := standing_eq hstandp
  refine ⟨⟨hllq, hepq⟩, ?_, (lanternTest_frame p ll _ t .snuf (by decide)).trans hsnuf⟩
  by_cases hstrike : (getLan t p).strike = true
  · simp only [hstrike, and_true, if_true] at htestp
    obtain ⟨hst', hll', -⟩ := standing_eq (htestp _)
    exact ⟨hll'.trans hll, .inr hst'⟩
  · simp only [hstrike] at htestp
    obtain ⟨hst', hll', -⟩ := standing_congr (htestp _)
    exact ⟨hll'.trans hll, .inl (hst'.trans hst)⟩

end Sys2Proof.Machine
end

section
/-! SUPPORT. Budget windows and cut epochs (R168 to R170, R137), the wide storm (R96), the lamplighter's registers (R159, R168, R173,
R180), and the settlement of O16. -/

namespace Sys2Proof.Machine

theorem exec_budgetWindow (m : Nat) (s : State) : exec (.budgetWindow m) s = .next (windowEnd m s) := rfl

theorem exec_cutEpoch (hot : BitVec 9) (e : Nat) (s : State) : exec (.cutEpoch hot e) s = .next (doCutEpoch hot e s) := rfl

theorem exec_lmpCfgEn (v : W32) (s : State) : exec (.lmpCfgEn v) s = .next (if 5 ≤ s.clk.step then doLmpCfg v s else s) := rfl

theorem exec_lanternRemap {s : State} {ll : LLan} {p : Nat} (h : lanOf s ll.val = some p) (closing : List (LWick × List (Nat × Int))) :
    exec (.lanternRemap ll closing) s = .next (remapLan ll (getLan s p).epoch (closing.map fun e => (e.1.val, e.2)) s) := by
  refine Eq.trans (b := execLanternRemap ll closing s) rfl ?_
  unfold execLanternRemap
  rw [h]

/-! ### The wide storm (R96, R176) -/

theorem Frame.getLctx {ps : List Part} {s t : State} (h : Frame ps s t) (c : Nat) (hp : .lctx ∉ ps) : getLctx t c = getLctx s c :=
  congrArg (fun x => Tab.get LmpCtx.init x c) (h .lctx hp)

theorem frame_pwr (s : State) (x : Pwr) : Frame [.pwr] s { s with pwr := x } := by
  intro p hp; cases p <;> simp at hp <;> rfl

/-- A context's storm after a window with these counts, with the threshold `t` in 256ths (R96). -/
def stormNext (t : Nat) (x : LmpCtx) : Bool :=
  decide (x.winFlares ≠ 0 ∧ t * x.winFlares ≤ x.winFallback * 256) ||
    (x.storm && !decide (x.winFlares = 0 ∨ x.winFallback * 512 < t * x.winFlares))

/-- The end of a context's window: its counts start anew and its storm begins, goes on or ends. -/
theorem getLctx_stormEnd (s : State) (c k : Nat) : getLctx (stormEnd s c) k =
    if k = c then { getLctx s c with winFlares := 0, winFallback := 0, storm := stormNext s.lmp.wideT.toNat (getLctx s c) }
    else getLctx s k := by
  have hember (a b : Nat) (x : Option W16) (n : Nat) (u : State) : getLctx (ember 0 a b x n u) k = getLctx u k :=
    (ember_frame 0 a b x n u).getLctx k (by decide)
  have hwide (j : Nat) :
      getLctx (if (getLctx s c).storm then s else { s with lmp := { s.lmp with stat := setBit s.lmp.stat 3 } }) j = getLctx s j := by
    split <;> rfl
  unfold stormEnd stormNext
  dsimp only
  split
  next hot =>
    rw [hember, getLctx_updLctx, hwide, hwide, decide_eq_true hot, Bool.true_or]
  next hot =>
    split
    next low =>
      rw [hember, getLctx_updLctx]
      simp [hot, low]
    next low =>
      rw [getLctx_updLctx]
      have hstorm : ((getLctx s c).storm && !decide ((getLctx s c).winFlares = 0 ∨
          (getLctx s c).winFallback * 512 < s.lmp.wideT.toNat * (getLctx s c).winFlares)) = (getLctx s c).storm := by
        cases hs : (getLctx s c).storm
        · rfl
        · rw [Bool.true_and, decide_eq_false fun h => low ⟨hs, h⟩]
          rfl
      rw [hstorm, decide_eq_false hot, Bool.false_or]

theorem stormEnd_frame (s : State) (c : Nat) : Frame [.lctx, .lmp, .gvl, .mbx, .posted, .mgt] s (stormEnd s c) := by
  have hput (u : State) (f : LmpCtx → LmpCtx) : Frame [.lctx, .lmp, .gvl, .mbx, .posted, .mgt] u (updLctx c f u) :=
    (updLctx_frame u c f).mono (by decide)
  have hwide : Frame [.lctx, .lmp, .gvl, .mbx, .posted, .mgt] s
      (if (getLctx s c).storm then s else { s with lmp := { s.lmp with stat := setBit s.lmp.stat 3 } }) :=
    (Frame.refl _ s).ite ((frame_lmp s _).mono (by decide))
  unfold stormEnd
  exact Frame.ite (.after (by decide) (ember_frame _ _ _ _ _ _) (hwide.step (hput _ _) (List.Subset.refl _)))
    (Frame.ite (.after (by decide) (ember_frame _ _ _ _ _ _) (hput s _)) (hput s _))

/-- After every context's window has ended, all counts start anew. -/
theorem stormEnds_restart (s : State) {c : Nat} (hc : c < 16) :
    (getLctx ((List.range 16).foldl stormEnd s) c).winFlares = 0 ∧ (getLctx ((List.range 16).foldl stormEnd s) c).winFallback = 0 := by
  refine foldl_reaches (I := fun _ => True) (P := fun u => (getLctx u c).winFlares = 0 ∧ (getLctx u c).winFallback = 0)
    (fun _ _ _ => trivial) ?keeps ?sets (List.mem_range.mpr hc) trivial
  case keeps =>
    intro u k hu
    rw [getLctx_stormEnd]
    split
    · exact ⟨rfl, rfl⟩
    · exact hu
  case sets =>
    intro u _
    rw [getLctx_stormEnd, if_pos rfl]
    exact ⟨rfl, rfl⟩

/-! ### Windows and epochs -/

/-- The commands that waited for a window finish. -/
def windowCmds (ds : List Desc) (s : State) : State := ds.foldl (fun s d => finish d 0 s) s

theorem windowCmds_frame (ds : List Desc) (s : State) : Frame [.gvl, .mbx, .posted] s (windowCmds ds s) := by
  refine frame_foldl (fun a d => ?_) ds s
  exact finish_frame d 0 a

/-- The state in which a window has begun and the storms of the one before are not judged yet. -/
def windowBegun (m : Nat) (s : State) : State :=
  { s with pwr := windowBegin { s.pwr with window := s.pwr.window + 1, meas := m, cmds := [] } }

theorem windowEnd_on {s : State} (h : s.lmp.en = true) (m : Nat) :
    windowEnd m s = windowCmds s.pwr.cmds ((List.range 16).foldl stormEnd (windowBegun m s)) := by
  unfold windowEnd doBudgetWindow
  rw [if_pos h]
  rfl

theorem windowEnd_off {s : State} (h : s.lmp.en = false) (m : Nat) :
    windowEnd m s = windowCmds s.pwr.cmds { s with pwr := { s.pwr with cmds := [] } } := by
  unfold windowEnd doBudgetWindow
  rw [if_neg (by simp [h])]
  rfl

/-- The state after an epoch whose level is to be `l`, before an ember reports a change. -/
def epochEnded (hot : BitVec 9) (e l : Nat) (s : State) : State :=
  { s with pwr := { s.pwr with
      level := BitVec.ofNat 5 l, epochs := s.pwr.epochs + 1, hot := hot,
      stat := if s.pwr.limit.toNat * 4096 < e then setBit s.pwr.stat 2 else s.pwr.stat,
      duty := BitVec.ofNat 8 (dutyOf s.pwr.vecNow l), cut := decide (l < 16) } }

/-- The level an epoch leads to (R170). -/
def epochLevel (hot : BitVec 9) (e : Nat) (s : State) : Nat :=
  cutNext s.pwr.level.toNat hot.toNat s.pwr.set.toNat e s.pwr.limit.toNat

theorem doCutEpoch_on {s : State} (h : s.lmp.en = true) (hot : BitVec 9) (e : Nat) :
    doCutEpoch hot e s = (let l := epochLevel hot e s
      let u := epochEnded hot e l s
      if l = s.pwr.level.toNat then u
      else ember 0 0x0403 0 none l { u with lmp := { u.lmp with stat := setBit u.lmp.stat 1 } }) := by
  unfold doCutEpoch
  rw [if_pos h]
  rfl

theorem doCutEpoch_off {s : State} (h : s.lmp.en = false) (hot : BitVec 9) (e : Nat) : doCutEpoch hot e s = s := by
  unfold doCutEpoch
  rw [if_neg (by simp [h])]

/-! ### The obligation -/

/-- Settles O16: windows and epochs by the cases of EN and of the level; a remap by `remapLan_withholds` and `remapLan_moves`. -/
theorem governorWindowsAndRemap : Obligations.GovernorWindowsAndRemap := by
  refine ⟨?window, ?storm, ?holds, ?changes, ?off, ?cfgOn, ?cfgOff, ?cfgEarly, ?pause, ?weight, ?noReserve, ?reserve, ?unmapped⟩
  case window =>
    intro s m hen
    have hcmds := windowCmds_frame s.pwr.cmds ((List.range 16).foldl stormEnd (windowBegun m s))
    have hstorms := frame_foldl stormEnd_frame (List.range 16) (windowBegun m s)
    refine ⟨_, (exec_budgetWindow m s).trans (congrArg _ (windowEnd_on hen m)), ?pwr, ?counts, ?frame⟩
    case pwr => exact (hcmds .pwr (by decide)).trans (hstorms .pwr (by decide))
    case counts =>
      intro c hc
      rw [hcmds.getLctx c (by decide)]
      exact stormEnds_restart _ hc
    case frame => exact .after (by decide) hcmds <| .after (by decide) hstorms ((frame_pwr s _).mono (by decide))
  case storm =>
    intro s c x n hot
    rw [getLctx_stormEnd, if_pos rfl]
    rfl
  case holds =>
    intro s hot e hen hl
    rw [exec_cutEpoch, doCutEpoch_on hen]
    dsimp only
    rw [if_pos (show epochLevel hot e s = _ from hl), epochEnded, show epochLevel hot e s = _ from hl]
    simp only [BitVec.ofNat_toNat, BitVec.setWidth_eq]
  case changes =>
    intro s hot e hen l hl
    rw [exec_cutEpoch, doCutEpoch_on hen]
    exact congrArg _ (if_neg hl)
  case off =>
    intro s hen
    refine ⟨fun m => ?_, fun hot e => by rw [exec_cutEpoch, doCutEpoch_off hen]⟩
    have hcmds := windowCmds_frame s.pwr.cmds { s with pwr := { s.pwr with cmds := [] } }
    exact ⟨_, (exec_budgetWindow m s).trans (congrArg _ (windowEnd_off hen m)), hcmds .pwr (by decide),
      .after (by decide) hcmds ((frame_pwr s _).mono (by decide))⟩
  case cfgOn =>
    intro s v hstep hen
    have hon : (s.lmp.en || bitAt v 31) = true := by simpa only [Bool.or_eq_true] using hen
    rw [exec_lmpCfgEn, if_pos hstep, doLmpCfg]
    simp only [hon, if_true]
  case cfgOff =>
    intro s v hstep hen hv
    rw [exec_lmpCfgEn, if_pos hstep, doLmpCfg]
    simp only [hen, hv, Bool.or_self, Bool.false_eq_true, if_false]
  case cfgEarly =>
    intro s v hstep
    rw [exec_lmpCfgEn, if_neg (Nat.not_le.mpr hstep)]
  case pause => exact fun s c v => rfl
  case weight =>
    intro s c v
    have hok : weightOk s c.val (fld v 8 0) = true ↔
        weightSum s c.val (fld v 8 0) ≤ 256 ∧ ¬ (fld v 8 0 = 0 ∧ sconcesOf s c.val ≠ []) := by
      simp [weightOk, imp_iff_not_or]
    exact congrArg Host.Outcome.next (if_congr hok rfl rfl)
  case noReserve =>
    intro s ll closing p hp hq hw
    exact ⟨_, exec_lanternRemap hp closing, remapLan_withholds hp hq hw _ _, remapLan_frame ll _ _ s⟩
  case reserve =>
    intro s ll closing p q hp hq hw
    obtain ⟨⟨hll, hep⟩, ⟨hgone, hst⟩, hsnuf⟩ :=
      remapLan_moves hp hq hw (getLan s p).epoch (closing.map fun e => (e.1.val, e.2))
    exact ⟨_, exec_lanternRemap hp closing, hll, hep, hgone, hst, hsnuf, remapLan_frame ll _ _ s⟩
  case unmapped =>
    intro s ll closing h
    refine Eq.trans (b := execLanternRemap ll closing s) rfl ?_
    unfold execLanternRemap
    rw [h]

end Sys2Proof.Machine
end

section
/-! SUPPORT. Control, fire, transfer and privileged instructions (R127, R143, R144, R162), the time limit and KILL (R147, R150), and
the settlement of O18. -/

namespace Sys2Proof.Machine

theorem exec_vecControl (l : Lan) (t : ThreadI) (w : W64) (s : State) : exec (.vecControl l t w) s = .next (doControl l t w s) := rfl

theorem exec_fire (l : Lan) (t : ThreadI) (w : W64) (f : FireArg) (s : State) : exec (.fire l t w f) s = .next (doFire l t w f s) := rfl

theorem exec_waitf (l : Lan) (t : ThreadI) (w : W64) (s : State) : exec (.waitf l t w) s = .next (doWaitf l t w s) := rfl

theorem exec_send (l : Lan) (t : ThreadI) (w : W64) (k : RegChk) (s : State) : exec (.send l t w k) s = .next (doSend l t w k s) := rfl

theorem exec_recv (l : Lan) (t : ThreadI) (w : W64) (s : State) : exec (.recv l t w) s = .next (doRecv l t w s) := rfl

theorem exec_vecPrivileged (l : Lan) (t : ThreadI) (w : W64) (s : State) :
    exec (.vecPrivileged l t w) s = .next (doPrivileged l t w s) := rfl

theorem exec_kernelTimeLimit (c : CtxI) (id : Nat) (s : State) : exec (.kernelTimeLimit c id) s = .next (kernelLimit c id s) := rfl

theorem exec_vecCtlKill (l : Lan) (v : W32) (s : State) : exec (.vecCtlKill l v) s = .next (vecCtlWrite l.val v s) := rfl

/-! ### Changes of a thread -/

theorem getEng_updThread_same (l t : Nat) (f : Thread → Thread) (s : State) : getEng (updThread l t f s) l =
    { getEng s l with threads := Tab.upd none (getEng s l).threads t (Option.map f) } := by
  rw [updThread, getEng_updEng, if_pos rfl]

theorem getEng_updThread_other {l k : Nat} (h : k ≠ l) (t : Nat) (f : Thread → Thread) (s : State) :
    getEng (updThread l t f s) k = getEng s k := by
  rw [updThread, getEng_updEng, if_neg h]

theorem threadAt_updThread {s : State} {l t : Nat} {th : Thread} (h : threadAt s l t = some th) (f : Thread → Thread) :
    threadAt (updThread l t f s) l t = some (f th) := by
  rw [threadAt] at h
  rw [threadAt, getEng_updThread_same, Tab.get_upd, if_pos rfl, h]
  rfl

theorem threadAt_advance {s : State} {l t : Nat} {th : Thread} (h : threadAt s l t = some th) :
    threadAt (advance l t s) l t = some { th with pc := th.pc + 8 } := threadAt_updThread h _

theorem threadAt_endThread (l t : Nat) (s : State) : threadAt (endThread l t s) l t = none := by
  rw [threadAt, endThread, getEng_updEng, if_pos rfl, Tab.get_set, if_pos rfl]

theorem updThread_frame (l t : Nat) (f : Thread → Thread) (s : State) : Frame [.engs] s (updThread l t f s) := updEng_frame s _ _

theorem Frame.getEng {ps : List Part} {s t : State} (h : Frame ps s t) (l : Nat) (hp : .engs ∉ ps) : getEng t l = getEng s l :=
  congrArg (fun x => Tab.get Engine.init x l) (h .engs hp)

theorem Frame.threadAt {ps : List Part} {s u : State} (h : Frame ps s u) (l t : Nat) (hp : .engs ∉ ps) :
    threadAt u l t = threadAt s l t := by
  rw [Machine.threadAt, h.getEng l hp]
  rfl

theorem EngineElse.refl (s : State) (l : Lan) (r : Option Nat) : EngineElse s l r s :=
  ⟨fun _ _ => rfl, rfl, rfl, rfl, fun _ _ => rfl⟩

/-- A change of a thread touches no register of an engine. -/
theorem EngineElse.updThread {s u : State} {l : Lan} {r : Option Nat} (h : EngineElse s l r u) (t : Nat) (f : Thread → Thread) :
    EngineElse s l r (updThread l.val t f u) := by
  obtain ⟨hregs, hsregs, hpreds, hinbox, hothers⟩ := h
  refine ⟨?_, ?_, ?_, ?_, fun k hk => by rw [getEng_updThread_other hk, hothers k hk]⟩
  all_goals rw [getEng_updThread_same]; assumption

/-- Nor does a change that leaves the engines alone. -/
theorem EngineElse.frame {s u v : State} {l : Lan} {r : Option Nat} (h : EngineElse s l r u) {ps : List Part} (k : Frame ps u v)
    (hp : .engs ∉ ps) : EngineElse s l r v := by
  obtain ⟨hregs, hsregs, hpreds, hinbox, hothers⟩ := h
  refine ⟨?_, ?_, ?_, ?_, fun n hn => by rw [k.getEng n hp, hothers n hn]⟩
  all_goals rw [k.getEng l.val hp]; assumption

/-- An instruction that writes no register and leaves its thread gone on. -/
theorem went_advance {s : State} {l : Lan} {t : ThreadI} {th : Thread} (h : threadAt s l.val t.val = some th) :
    Went s l t th (advance l.val t.val s) := ⟨h, threadAt_advance h⟩

/-! ### Control -/

/-- An instruction that is no vector instruction is not counted. -/
theorem issue_scalar {s : State} {l : Lan} {t : ThreadI} {w : W64} {cls count : Nat} {ops : List Nat} {f : Form} {th : Thread}
    (h : Issues s l t w cls f th) (hops : wOp w ∈ ops) (hcount : wOp w < count) (hvec : f.vector = false)
    (body : Thread → State → State) : issue l t w cls count ops f .clean body s = body th s := by
  rw [issue_of_issues h hops hcount, hvec]
  rfl

/-- The form of a control instruction. -/
abbrev controlForm (w : W64) : Form :=
  { vec := [], scal := if wOp w = 4 then [wVd w, wVa w, wVb w] else [], pred := [], fmts := [], immOk := true, vector := false }

/-- The form of an instruction that names no register. -/
abbrev plainForm (fmts : List Nat) : Form :=
  { vec := [], scal := [], pred := [], fmts := fmts, immOk := true, vector := false }

section
variable {s : State} {l : Lan} {t : ThreadI} {w : W64} {th : Thread} (h : Issues s l t w 0 (controlForm w) th)
include h

theorem exec_barrier (hop : wOp w = 3) (hloads : th.loads = []) : exec (.vecControl l t w) s = .next (advance l.val t.val s) := by
  rw [exec_vecControl, doControl, issue_scalar h (by simp [hop]) (by simp [hop]) rfl]
  simp [hop, hloads]

theorem exec_branch (hop : wOp w ≤ 1) : exec (.vecControl l t w) s =
    .next (updThread l.val t.val (fun x => { x with pc := freePc (getEng s l.val) t.val w th }) s) := by
  rw [exec_vecControl, doControl, issue_scalar h (by simp only [List.mem_cons]; omega) (by omega) rfl]
  exact congrArg _ (if_pos hop)

theorem exec_exit (hop : wOp w = 2) : exec (.vecControl l t w) s = .next (threadExit l t.val th s) := by
  rw [exec_vecControl, doControl, issue_scalar h (by simp [hop]) (by simp [hop]) rfl]
  simp only [hop]
  rfl

/-- What scalar arithmetic writes to VD. -/
def scalarResult (e : Engine) (t : Nat) (w : W64) : W64 := Config.unstated 0 w.toNat (sreg e t (wVa w)) (sreg e t (wVb w))

theorem exec_scalar (hop : wOp w = 4) : exec (.vecControl l t w) s = .next (endWith l.val t.val FFlags.none
    (putSreg t.val (wVd w) (scalarResult (getEng s l.val) t.val w) (getEng s l.val)) s) := by
  rw [← advance_setEng, exec_vecControl, doControl, issue_scalar h (by simp [hop]) (by simp [hop]) rfl]
  simp only [hop]
  rfl

end

/-! ### Fire -/

section
variable {s : State} {l : Lan} {t : ThreadI} {w : W64} {th : Thread}

theorem enqueueFlare_frame (c : Nat) (r : FlareReq) (s : State) : Frame [.lctx] s (enqueueFlare c r s) := updLctx_frame s c _

theorem getLctx_advance (l t : Nat) (s : State) (c : Nat) : getLctx (advance l t s) c = getLctx s c :=
  (advance_frame l t s).getLctx c (by decide)

section
variable {f : FireArg} (h : Issues s l t w 0xE (plainForm [0x3, 0x4]) th) (hop : wOp w = 0) (hfrozen : s.lmp.frozen = false)
  (hown : ownFlare s th.ctx f.lans = true)
include h hop hfrozen hown

theorem exec_fire_eq : exec (.fire l t w f) s = .next (
    if (getLctx s th.ctx.val).queue.length < 64 then enqueueFlare th.ctx.val (fireReq l t th f s) (advance l.val t.val s)
    else updThread l.val t.val (fun x => { x with wait := .fireFull (fireReq l t th f s) })
      { advance l.val t.val s with lmp := { s.lmp with stat := setBit s.lmp.stat 4 } }) := by
  rw [exec_fire, doFire, issue_scalar h (by simp [hop]) (by simp [hop]) rfl]
  refine congrArg _ ((if_neg (by simp [hfrozen])).trans ((if_neg (by simp [hown])).trans ?_))
  dsimp only
  rw [getLctx_advance]
  rfl

end

/-- Flares of this thread have not completed. -/
def flaresOpen (s : State) (l : Lan) (t : ThreadI) (th : Thread) : Bool :=
  let x := getLctx s th.ctx.val
  let mine (q : FlareReq) : Bool := q.lan == l && q.thread == t
  x.queue.any mine || x.refire.any mine || x.runs.any (fun r => mine r.req) || x.tails.any (fun r => mine r.req)

theorem exec_waitf_eq (h : Issues s l t w 0xE (plainForm []) th) (hop : wOp w = 1) (hfrozen : s.lmp.frozen = false) :
    exec (.waitf l t w) s = .next (if flaresOpen s l t th then updThread l.val t.val (fun x => { x with wait := .flare })
      (advance l.val t.val s) else advance l.val t.val s) := by
  rw [exec_waitf, doWaitf, issue_scalar h (by simp [hop]) (by simp [hop]) rfl]
  exact congrArg _ (if_neg (by simp [hfrozen]))

end

/-! ### Transfer -/

/-- The form of SEND. -/
abbrev sendForm (w : W64) : Form :=
  { vec := [wVb w], scal := [wVa w], pred := [], fmts := [0xD, 0xE], immOk := true, vector := true }

/-- The form of RECV. -/
abbrev recvForm (w : W64) : Form :=
  { vec := [wVd w], scal := [], pred := [], fmts := [0xD, 0xE], immOk := true, vector := true }

/-- An engine takes data into its inbox. -/
def inboxed (d : List W32) (e : Engine) : Engine := { e with inbox := e.inbox ++ [d] }

/-- SEND to an engine the thread may reach, through no closed gate, puts VB into its inbox. -/
theorem exec_send_eq {s : State} {l : Lan} {t : ThreadI} {w : W64} {th : Thread} (h : Issues s l t w 0xD (sendForm w) th)
    (hop : wOp w = 0) (hown : ownerOfLan s (sendTarget (getEng s l.val) t.val w) = some th.ctx ∨ t.val < 8)
    (hgate : eastSconce (sconceOf (sendTarget (getEng s l.val) t.val w)) = eastSconce (sconceOf l.val) ∨
      gateClosed s (eastSconce (sconceOf (sendTarget (getEng s l.val) t.val w))) = false) :
    exec (.send l t w .clean) s = .next (advance l.val t.val (updEng (sendTarget (getEng s l.val) t.val w)
      (inboxed (vreg (getEng s l.val) th (wVb w))) (countIssue l.val s))) := by
  have hto : sendTarget (countedEng (dutyNow s) (getEng s l.val)) t.val w = sendTarget (getEng s l.val) t.val w := rfl
  have howner (k : Nat) : ownerOfLan (countIssue l.val s) k = ownerOfLan s k := rfl
  have hclosed (b : Bool) : gateClosed (countIssue l.val s) b = gateClosed s b := rfl
  have hown' : ¬ (ownerOfLan s (sendTarget (getEng s l.val) t.val w) ≠ some th.ctx ∧ 8 ≤ t.val) := by
    rintro ⟨hne, h8⟩
    exact hown.elim hne (by omega)
  have hgate' : ¬ (eastSconce (sconceOf (sendTarget (getEng s l.val) t.val w)) ≠ eastSconce (sconceOf l.val) ∧
      gateClosed s (eastSconce (sconceOf (sendTarget (getEng s l.val) t.val w))) = true) := by
    rintro ⟨hne, hc⟩
    exact hgate.elim hne fun hopen => Bool.false_ne_true (hopen.symm.trans hc)
  rw [exec_send, doSend, issue_of_issues h (by simp [hop]) (by simp [hop])]
  simp only [if_true, getEng_countIssue_same, hto, howner, hclosed, if_neg hown', if_neg hgate', vreg_countedEng]
  rfl

/-- Beside its threads the end of an instruction touches nothing of an engine. -/
theorem getEng_advance_threads (l t k : Nat) (s : State) : ∃ m, getEng (advance l t s) k = { getEng s k with threads := m } := by
  by_cases h : k = l
  · exact ⟨_, by rw [h, getEng_advance_same]⟩
  · exact ⟨_, by rw [getEng_advance_other h]⟩

/-- Beside its counts the count of an instruction touches nothing of an engine. -/
theorem getEng_countIssue_counts (l k : Nat) (s : State) : ∃ i d n,
    getEng (countIssue l s) k = { getEng s k with issue := i, dutyWin := d, dutyCnt := n } := by
  by_cases h : k = l
  · exact ⟨_, _, _, by rw [h, getEng_countIssue_same]; rfl⟩
  · exact ⟨_, _, _, by rw [getEng_countIssue_other h]⟩

/-- What an engine holds after SEND: the target's inbox has grown, and no register is touched. -/
theorem sent_leaves (l t to_ k : Nat) (d : List W32) (s : State) :
    let e := getEng (advance l t (updEng to_ (inboxed d) (countIssue l s))) k
    e.inbox = (if k = to_ then (getEng s k).inbox ++ [d] else (getEng s k).inbox) ∧
      (e.regs = (getEng s k).regs ∧ e.sregs = (getEng s k).sregs ∧ e.preds = (getEng s k).preds) ∧
      e.issue = (if k = l then (getEng s k).issue.inc else (getEng s k).issue) := by
  obtain ⟨m, hm⟩ := getEng_advance_threads l t k (updEng to_ (inboxed d) (countIssue l s))
  have hissue : (getEng (countIssue l s) k).issue = if k = l then (getEng s k).issue.inc else (getEng s k).issue := by
    by_cases h : k = l
    · rw [if_pos h, h, getEng_countIssue_same]; rfl
    · rw [if_neg h, getEng_countIssue_other h]
  obtain ⟨i, w, n, hc⟩ := getEng_countIssue_counts l k s
  rw [hm, getEng_updEng]
  rw [hc] at hissue
  by_cases h : k = to_
  · subst h
    simp only [if_pos, inboxed, hc]
    exact ⟨trivial, ⟨trivial, trivial, trivial⟩, hissue⟩
  · simp only [if_neg h, hc]
    exact ⟨trivial, ⟨trivial, trivial, trivial⟩, hissue⟩

/-- A thread after SEND has gone on, whichever engine the data went to. -/
theorem threadAt_sent {s : State} {l t : Nat} {th : Thread} (h : threadAt s l t = some th) (to_ : Nat) (d : List W32) :
    threadAt (advance l t (updEng to_ (inboxed d) (countIssue l s))) l t = some { th with pc := th.pc + 8 } := by
  refine threadAt_advance ?_
  have hthreads : (getEng (updEng to_ (inboxed d) (countIssue l s)) l).threads = (getEng s l).threads := by
    rw [getEng_updEng]
    split
    next heq => rw [← heq, getEng_countIssue_same]; rfl
    next => rw [getEng_countIssue_same]; rfl
  rw [threadAt, hthreads]
  exact h

/-- The guarded lanes that RECV writes with data of this length. -/
def recvOn (e : Engine) (t : Nat) (w : W64) (n : Nat) : List Nat := ((List.range n).map (0 + ·)).filter (laneOn e t w)

theorem mem_recvOn {e : Engine} {t : Nat} {w : W64} {n i : Nat} : i ∈ recvOn e t w n ↔ laneOn e t w i = true ∧ i < n := by
  rw [recvOn, mem_positions, and_comm, Nat.zero_add]
  exact and_congr_right fun _ => and_iff_right (Nat.zero_le i)

/-- RECV takes the oldest data into the guarded lanes of VD and raises no flags. -/
theorem recv_ends {s : State} {l : Lan} {t : ThreadI} {w : W64} {th : Thread} {d : List W32} {r : List (List W32)}
    (hin : (getEng s l.val).inbox = d :: r) (h : Issues s l t w 0xD (recvForm w) th) (hop : wOp w = 1) :
    ∃ u, exec (.recv l t w) s = .next u ∧
      Ended s l t th (putLanes th (wVd w) ((recvOn (getEng s l.val) t.val w d.length).map fun i => (i, d.getD (i - 0) 0))
        { countedEng (dutyNow s) (getEng s l.val) with inbox := r }) u ∧ Frame [.engs] s u := by
  have hput : (withPos 0 d).filter (fun p => laneOn (getEng s l.val) t.val w p.1) =
      (recvOn (getEng s l.val) t.val w d.length).map fun i => (i, d.getD (i - 0) 0) := withPos_filter 0 d 0 _
  have hon : laneOn (countedEng (dutyNow s) (getEng s l.val)) t.val w = laneOn (getEng s l.val) t.val w := rfl
  refine ⟨_, ?runs, (counted_ends h.thread FFlags.none).1,
    (countIssue_frame _ s).step (endWith_none_frame _ _ _ _) (List.Subset.refl _)⟩
  case runs =>
    rw [← advance_setEng, ← hput, exec_recv, doRecv, hin]
    dsimp only
    rw [issue_of_issues h (by simp [hop]) (by simp [hop])]
    simp only [if_true, getEng_countIssue_same, hon]

/-! ### Privileged instructions -/

theorem exec_privileged {s : State} {l : Lan} {t : ThreadI} {w : W64} {th : Thread} (h : Issues s l t w 0xF (plainForm []) th)
    (hop : wOp w < 3) (ht : t.val < 8) : exec (.vecPrivileged l t w) s = .next (advance l.val t.val
      (if wOp w = 0 then updLan l.val (fun v => { v with out := none }) s
        else if wOp w = 1 then handOff l.val s else auditNow th.ctx.val l.val s)) := by
  rw [exec_vecPrivileged, doPrivileged, if_neg (Nat.not_le.mpr ht),
    issue_scalar h (by simp only [List.mem_cons]; omega) hop rfl]

theorem auditNow_frame (c l : Nat) (s : State) : Frame [.lans, .lctx] s (auditNow c l s) := by
  unfold auditNow
  split
  · exact Frame.refl _ s
  · split
    · exact Frame.refl _ s
    · exact .after (by decide) (updRun_frame _ _ _ _) ((updLan_frame s l _).mono (by decide))

theorem momentEnd_frame (l key : Nat) (s : State) : Frame Part.remapping s (momentEnd l key s) := by
  by_cases h : 65536 ≤ Tab.get 0 (getLan s l).momSteps key
  · rw [momentEnd_complete h]
    exact .after (List.Subset.refl _) (earlyRemap_frame l _) ((handedOver_own l key s).2.mono (by decide))
  · rw [momentEnd_incomplete (Nat.not_le.mp h)]
    exact Frame.refl _ s

theorem handOff_frame (l : Nat) (s : State) : Frame Part.remapping s (handOff l s) := by
  refine frame_foldl (fun a k => ?_) (List.range 16) s
  exact (momentEnd_frame l k a).ite (Frame.refl _ a)

/-! ### The time limit -/

/-- An engine that records a fault of the thread in slot `t` (R150). -/
def faulted (t cause : Nat) (th : Thread) (e : Engine) : Engine :=
  { e with
    stat := if t < 8 then e.stat else setBit e.stat 1, faultCause := BitVec.ofNat 4 cause, faultSlot := BitVec.ofNat 5 t,
    faultCtx := some th.ctx, faultPc := th.pc + 0x58 }

theorem recordFault_eq {s : State} {l t : Nat} {th : Thread} (h : threadAt s l t = some th) (cause : Nat) :
    recordFault l t cause s = updEng l (faulted t cause th) s := by
  rw [recordFault, h]
  rfl

/-- The engine of an invocation at its time limit, before the invocation ends (R147). -/
def timedOut (l t : Nat) (th : Thread) (s : State) : State :=
  updEng l (fun e => { e with stat := setBit e.stat 2 }) (updEng l (faulted t 5 th) s)

theorem getEng_timedOut (l t k : Nat) (th : Thread) (s : State) : getEng (timedOut l t th s) k =
    if k = l then { faulted t 5 th (getEng s l) with stat := setBit (faulted t 5 th (getEng s l)).stat 2 } else getEng s k := by
  rw [timedOut, getEng_updEng, getEng_updEng, if_pos rfl, getEng_updEng]
  split <;> rfl

theorem kernelLimit_one {s : State} {c : CtxI} {id : Nat} {v : Invocation} {l : Lan} {q : Nat × Thread}
    (hv : s.invs.find? (fun v => v.id == id && v.ctx == c) = some v) (hl : v.lans = [l])
    (hq : (threadsOf (getEng s l.val)).find? (fun p => p.2.inv == some id) = some q) (hth : threadAt s l.val q.1 = some q.2) :
    kernelLimit c id s = failInv l.val id (timedOut l.val q.1 q.2 s) := by
  rw [kernelLimit, hv]
  simp only [hl, List.foldl_cons, List.foldl_nil, hq, Option.map_some, recordFault_eq hth]
  rfl

/-! ### The obligation -/

/-- Settles O18: each clause is the equation of its instruction, read through what a change of a thread leaves alone. -/
theorem engineControlFireAndTransfer : Obligations.EngineControlFireAndTransfer := by
  refine ⟨?barrier, ?branch, ?scalar, ?exit, ?fire, ?stall, ?waitf, ?send, ?recv, ?release, ?audit, ?hand, ?customer, ?limit,
    ?noKill, ?kill⟩
  case barrier =>
    intro s l t w th e h hop hloads
    exact ⟨_, exec_barrier h hop hloads, went_advance h.thread, by rw [getEng_advance_same],
      (EngineElse.refl s l none).updThread _ _, advance_frame _ _ s⟩
  case branch =>
    intro s l t w th e h hop
    exact ⟨_, exec_branch h hop, threadAt_updThread h.thread _, (EngineElse.refl s l none).updThread _ _, updThread_frame _ _ _ s⟩
  case scalar =>
    intro s l t w th e h hop
    have hu := ended_endWith (s' := s) (e := putSreg t.val (wVd w) (scalarResult e t.val w) e) h.thread (fun _ _ => rfl) FFlags.none
    refine ⟨_, exec_scalar h hop, hu.went, ?vd, fun k hk => ?others, hu.regs, hu.preds, hu.others, endWith_none_frame _ _ _ s⟩
    case vd =>
      rw [sreg, hu.sregs, putSreg, Tab.get_set, if_pos rfl]
      rfl
    case others => rw [hu.sregs, putSreg, Tab.get_set, if_neg hk]
  case exit =>
    intro s l t w th e h hop
    exact ⟨exec_exit h hop, threadAt_endThread _ _ s⟩
  case fire =>
    intro s l t w th f h hop hfrozen hown hroom
    refine ⟨_, (exec_fire_eq h hop hfrozen hown).trans (congrArg _ (if_pos hroom)), ⟨h.thread, ?thread⟩, ?queue, ?seq, ?engines,
      ?lctx, ?frame⟩
    case thread => exact ((enqueueFlare_frame _ _ _).threadAt _ _ (by decide)).trans (threadAt_advance h.thread)
    case queue => rw [enqueueFlare, getLctx_updLctx, if_pos rfl, getLctx_advance]
    case seq => rw [enqueueFlare, getLctx_updLctx, if_pos rfl, getLctx_advance]
    case engines => exact ((EngineElse.refl s l none).updThread _ _).frame (enqueueFlare_frame _ _ _) (by decide)
    case lctx => exact fun k hk => by rw [enqueueFlare, getLctx_updLctx, if_neg hk, getLctx_advance]
    case frame => exact .after (by decide) (enqueueFlare_frame _ _ _) ((advance_frame _ _ s).mono (by decide))
  case stall =>
    intro s l t w th f h hop hfrozen hown hfull
    have hstat := frame_lmp (advance l.val t.val s) { s.lmp with stat := setBit s.lmp.stat 4 }
    refine ⟨_, (exec_fire_eq h hop hfrozen hown).trans (congrArg _ (if_neg (Nat.not_lt.mpr hfull))), ?thread, rfl, ?engines, ?frame⟩
    case thread =>
      exact (threadAt_updThread ((hstat.threadAt _ _ (by decide)).trans (threadAt_advance h.thread)) _)
    case engines => exact (((EngineElse.refl s l none).updThread _ _).frame hstat (by decide)).updThread _ _
    case frame =>
      exact .after (by decide) (updThread_frame _ _ _ _) <| .after (by decide) hstat ((advance_frame _ _ s).mono (by decide))
  case waitf =>
    intro s l t w th e h hop hfrozen
    refine ⟨_, exec_waitf_eq h hop hfrozen, ?_⟩
    have hgone := (EngineElse.refl s l none).updThread t.val fun th => { th with pc := th.pc + 8 }
    by_cases hopen : flaresOpen s l t th = true
    · rw [if_pos hopen]
      refine ⟨(advance_frame _ _ s).step (updThread_frame _ _ _ _) (List.Subset.refl _), hgone.updThread _ _, ?_⟩
      exact (threadAt_updThread (threadAt_advance h.thread) _).trans (congrArg some (if_pos hopen).symm)
    · rw [if_neg hopen]
      exact ⟨advance_frame _ _ s, hgone, (threadAt_advance h.thread).trans (congrArg some (if_neg hopen).symm)⟩
  case send =>
    intro s l t w th e to_ h hop hown hgate
    have hleaves (k : Nat) := sent_leaves l.val t.val to_ k (vreg e th (wVb w)) s
    refine ⟨_, exec_send_eq h hop hown hgate, ?target, fun k hk => ?inboxes, ⟨h.thread, threadAt_sent h.thread _ _⟩,
      fun k => (hleaves k).2.1, ?issue, ?frame⟩
    case target => exact (hleaves to_).1.trans (if_pos rfl)
    case inboxes => exact (hleaves k).1.trans (if_neg hk)
    case issue => exact (hleaves l.val).2.2.trans (if_pos rfl)
    case frame =>
      exact .after (by decide) (advance_frame _ _ _) <| .after (by decide) (updEng_frame _ _ _) (countIssue_frame _ s)
  case recv =>
    intro s l t w th d r e hin hlen h hop
    obtain ⟨u, hrun, hu, hframe⟩ := recv_ends hin h hop
    have hlt : ∀ i ∈ recvOn e t.val w d.length, i < 128 := fun i hi => (mem_recvOn.mp hi).2.trans_le hlen
    refine ⟨u, hrun, hu.inbox, hu.went, ?lanes, ?regs, hu.sregs, hu.preds, hu.issue, hu.others, hframe⟩
    case lanes =>
      intro i hi
      rw [hu.lane_eq, lane_putLanes th _ _ hlt _ _ hi]
      simp only [true_and, mem_recvOn]
      rfl
    case regs =>
      intro p hp
      rw [hu.regs]
      exact get_putLanes_other th _ hlt _ _ hp
  case release =>
    intro s l t w th h hop ht
    have hgo := exec_privileged h (by omega) ht
    rw [if_pos hop] at hgo
    exact ⟨hgo, threadAt_advance (((updLan_frame s l.val _).threadAt _ _ (by decide)).trans h.thread)⟩
  case audit =>
    intro s l t w th h hop ht
    have hgo := exec_privileged h (by omega) ht
    rw [if_neg (by omega), if_neg (by omega)] at hgo
    exact ⟨hgo, threadAt_advance (((auditNow_frame _ l.val s).threadAt _ _ (by decide)).trans h.thread)⟩
  case hand =>
    intro s l t w th h hop ht
    have hgo := exec_privileged h (by omega) ht
    rw [if_neg (by omega), if_pos hop] at hgo
    have hframe : Frame Part.remapping s (advance l.val t.val (handOff l.val s)) :=
      (handOff_frame l.val s).step (advance_frame _ _ _) (by decide)
    have hout : ∀ p ∈ [Part.attn, .mem, .mon, .pwr, .scn, .sec, .twin, .xbr], p ∉ Part.remapping := by decide
    exact ⟨hgo, fun th' hth' => threadAt_advance hth', fun p hp => hframe p (hout p hp)⟩
  case customer =>
    intro s l t w th ht hth hcls hmay
    rw [exec_vecPrivileged, doPrivileged, if_pos ht, hth]
    simp only [hcls, hmay, decide_true, Bool.and_self, if_true]
  case limit =>
    intro s c id v l q hv hl hq hth
    refine ⟨_, (exec_kernelTimeLimit c id s).trans (congrArg _ (kernelLimit_one hv hl hq hth)), ?_⟩
    have hother (k : Nat) (hk : k ≠ l.val) : getEng (timedOut l.val q.1 q.2 s) k = getEng s k := by
      rw [getEng_timedOut, if_neg hk]
    rw [EngineElse, getEng_timedOut, if_pos rfl]
    exact ⟨rfl, rfl, rfl, rfl, rfl, ⟨fun _ _ => rfl, rfl, rfl, rfl, hother⟩,
      .after (List.Subset.refl _) (updEng_frame _ _ _) (updEng_frame s _ _)⟩
  case noKill =>
    intro s l v hv
    exact (exec_vecCtlKill l v s).trans (congrArg _ (if_neg (by simp [hv])))
  case kill =>
    intro s l v hv
    exact (exec_vecCtlKill l v s).trans (congrArg _ (if_pos hv))

end Sys2Proof.Machine
end

section
/-! SUPPORT. Loads, stores and atomics (R135, R136), the return of load data (R225), and the settlement of O20. -/

namespace Sys2Proof.Machine

theorem exec_load (l : Lan) (t : ThreadI) (w : W64) (s : State) : exec (.load l t w) s = .next (doLoad l t w s) := rfl

theorem exec_store (l : Lan) (t : ThreadI) (w : W64) (k : RegChk) (s : State) : exec (.store l t w k) s = .next (doStore l t w k s) := rfl

theorem exec_atomic (l : Lan) (t : ThreadI) (w : W64) (k : RegChk) (s : State) :
    exec (.atomic l t w k) s = .next (doAtomic l t w k s) := rfl

theorem exec_loadDataReturn (l : Lan) (t : ThreadI) (n : Nat) (ecc : EccRes) (bad : Bool) (sh : Option (W32 × W32)) (s : State) :
    exec (.loadDataReturn l t n ecc bad sh) s = .next (loadReturn l t n ecc bad sh s) := rfl

/-! ### Lanes under a mask -/

theorem testBit_maskOf (is : List Nat) (i : Nat) : (maskOf is).testBit i = decide (i ∈ is) := by
  induction is with
  | nil => simp [maskOf]
  | cons j is ih =>
    rw [maskOf] at ih
    rw [maskOf, List.foldr_cons, Nat.testBit_or, ih, Nat.testBit_two_pow, Bool.eq_iff_iff]
    simp only [Bool.or_eq_true, decide_eq_true_eq, List.mem_cons, eq_comm (a := j)]
    exact or_comm

/-- The mask of the guarded lanes has their bits. -/
theorem bit_maskOn (e : Engine) (t : Nat) (w : W64) {i : Nat} (hi : i < 128) :
    (maskOn e t w).toNat / 2 ^ i % 2 = 1 ↔ laneOn e t w i = true := by
  rw [div_mod_iff_getLsbD, maskOn, BitVec.getLsbD_ofNat, testBit_maskOf, decide_eq_true hi, Bool.true_and, decide_eq_true_iff,
    mem_lanesOn]
  exact and_iff_right hi

/-- The lanes of a mask that loaded words reach. -/
def maskedOn (mask : BitVec 128) (n : Nat) : List Nat :=
  ((List.range n).map (0 + ·)).filter fun i => mask.toNat / 2 ^ i % 2 == 1

theorem loadLanes_eq (mask : BitVec 128) (ws : List W32) :
    loadLanes mask ws = (maskedOn mask ws.length).map fun i => (i, ws.getD (i - 0) 0) :=
  withPos_filter 0 ws 0 fun i => mask.toNat / 2 ^ i % 2 == 1

theorem mem_maskedOn {mask : BitVec 128} {n i : Nat} : i ∈ maskedOn mask n ↔ mask.toNat / 2 ^ i % 2 = 1 ∧ i < n := by
  rw [maskedOn, mem_positions, and_comm, Nat.zero_add, beq_iff_eq]
  exact and_congr_right fun _ => and_iff_right (Nat.zero_le i)

theorem lt_of_mem_maskedOn {mask : BitVec 128} {n i : Nat} (h : i ∈ maskedOn mask n) : i < 128 :=
  BitVec.lt_of_getLsbD ((div_mod_iff_getLsbD mask i).mp (mem_maskedOn.mp h).1)

theorem length_wordsOf (bs : List Byte) : (wordsOf bs).length = bs.length / 4 := by
  rw [wordsOf, List.length_map, List.length_range]

theorem length_bufRead (s : State) (l o n : Nat) : (bufRead s l o n).length = n := by
  rw [bufRead, List.length_map, List.length_range]

theorem length_memRead (m : Mem) (a n : Nat) : (memRead m a n).length = n := by
  rw [memRead, List.length_map, List.length_range]

/-! ### Loads -/

section
variable {s : State} {l : Lan} {t : ThreadI} {w : W64} {th : Thread}

/-- The count of the instruction is no operand of an access. -/
theorem accessAddr_countedEng (now : Nat) (e : Engine) (t : Nat) (w : W64) :
    accessAddr (countedEng now e) t w = accessAddr e t w := rfl

theorem maskOn_countedEng (now : Nat) (e : Engine) (t : Nat) (w : W64) : maskOn (countedEng now e) t w = maskOn e t w := rfl

section
variable (h : Issues s l t w 0xC (memForm w (wVd w) true) th) (hop : wOp w = 0)
include h hop

/-- The words a LOAD takes from the lantern's own buffer. -/
def loadedWords (s : State) (l t : Nat) (w : W64) : List W32 :=
  wordsOf (bufRead s l (accessAddr (getEng s l) t w) (256 * accessBlocks w))

/-- A LOAD from the buffer writes the guarded lanes of VD at once. -/
theorem load_buffer_ends (hbuf : accessBuf w = true)
    (hread : bufReadable t.val th (accessAddr (getEng s l.val) t.val w) (256 * accessBlocks w : Nat) = true) :
    ∃ u, exec (.load l t w) s = .next u ∧
      Ended s l t th (putLanes th (wVd w) (loadLanes (maskOn (getEng s l.val) t.val w) (loadedWords s l.val t.val w))
        (countedEng (dutyNow s) (getEng s l.val))) u ∧ Frame [.engs, .fresh] s u := by
  refine ⟨endWith l.val t.val FFlags.none _ { countIssue l.val s with fresh := s.fresh + 1 }, ?runs,
    ended_endWith h.thread ?others _, ?frame⟩
  case others => exact fun _ hk => getEng_countIssue_other hk s
  case frame =>
    exact (((countIssue_frame _ s).mono (by decide)).step (frame_fresh _ _) (by decide)).step (endWith_none_frame _ _ _ _) (by decide)
  case runs =>
    rw [← advance_setEng, exec_load, doLoad, issue_of_issues h (by simp [hop]) (by simp [hop])]
    simp only [show (memForm w (wVd w) true).vector = true from rfl, if_true, hbuf, getEng_countIssue_same, accessAddr_countedEng,
      maskOn_countedEng, hread, bufRead_countIssue, updEng]
    rfl

/-- What becomes of a LOAD from memory, as the checks of its blocks left the state and found a fault or none: a thread of a supplied
kernel takes a refused one as an error completion (R287). -/
def loadChecked (l : Lan) (t : ThreadI) (vd a n : Nat) (mask : BitVec 128) (r : State) : Option Nat → State
  | some c =>
    if t.val < 8 then advance l.val t.val (addLoad l.val t.val (newAccess r l.val a vd n mask [] false true) r)
    else customerFault l.val t.val c r
  | none => advance l.val t.val (startLoad l t a n (addLoad l.val t.val (newAccess r l.val a vd n mask [] false false) r))

/-- A LOAD from memory goes by the checks of its blocks. -/
theorem exec_load_memory (hbuf : accessBuf w = false) {r : State} {c : Option Nat}
    (hr : checkBlocks l.val t.val th false (blockAddrs (accessAddr (getEng s l.val) t.val w) (accessBlocks w)) (countIssue l.val s) =
      (r, c)) :
    exec (.load l t w) s = .next (loadChecked l t (wVd w) (accessAddr (getEng s l.val) t.val w) (accessBlocks w)
      (maskOn (getEng s l.val) t.val w) r c) := by
  rw [exec_load, doLoad, issue_of_issues h (by simp [hop]) (by simp [hop])]
  simp only [show (memForm w (wVd w) true).vector = true from rfl, if_true, hbuf, getEng_countIssue_same, accessAddr_countedEng,
    maskOn_countedEng, hr, Bool.false_eq_true, if_false]
  cases c <;> rfl

end

/-! ### Stores and atomics -/

/-- A STORE into the buffer writes its guarded lanes. -/
theorem exec_store_buffer (h : Issues s l t w 0xC (memForm w (wVb w) true) th) (hop : wOp w = 1) (hbuf : accessBuf w = true)
    (hwrite : bufWritable t.val th (accessAddr (getEng s l.val) t.val w) (256 * accessBlocks w : Nat) = true) :
    exec (.store l t w .clean) s = .next (advance l.val t.val ((List.range (64 * accessBlocks w)).foldl (fun u i =>
      if laneOn (getEng s l.val) t.val w i then putBuf l.val (accessAddr (getEng s l.val) t.val w + 4 * i)
        (leBytes 4 (lane (getEng s l.val) th (wVb w) i).toNat) u else u) (countIssue l.val s))) := by
  rw [exec_store, doStore, issue_of_issues h (by simp [hop]) (by simp [hop])]
  simp only [show (memForm w (wVb w) true).vector = true from rfl, if_true, hbuf, getEng_countIssue_same, accessAddr_countedEng,
    hwrite]
  rfl

/-- Writes whose blocks pass the checks, on memory that runs, go out. -/
theorem sendWrites_counted {op : Option Nat} {r : State}
    (hbusy : blockBusy th (accessAddr (getEng s l.val) t.val w) (accessBlocks w) = false)
    (hr : checkBlocks l.val t.val th true (blockAddrs (accessAddr (getEng s l.val) t.val w) (accessBlocks w)) (countIssue l.val s) =
      (r, none))
    (hcomp : isCompanion (accessAddr (getEng s l.val) t.val w) = false)
    (hclk : ∀ h, crossOf r l.val (accessAddr (getEng s l.val) t.val w) = some h → nclkOf r h ≠ 3) :
    sendWrites l t w th op (countIssue l.val s) = advance l.val t.val (putWrites r (accessAddr (getEng s l.val) t.val w)
      (laneWrites (countIssue l.val s) (getEng s l.val) t.val th w op (accessAddr (getEng s l.val) t.val w) (accessBlocks w))) := by
  have hgated : (crossOf r l.val (accessAddr (getEng s l.val) t.val w)).any (fun h => nclkOf r h == 3) = false := by
    cases hc : crossOf r l.val (accessAddr (getEng s l.val) t.val w) with
    | none => rfl
    | some h => exact beq_eq_false_iff_ne.mpr (hclk h hc)
  unfold sendWrites
  simp only [getEng_countIssue_same, accessAddr_countedEng, hbusy, hr, hcomp, hgated, Bool.false_eq_true, if_false]
  rfl

theorem exec_store_memory (h : Issues s l t w 0xC (memForm w (wVb w) true) th) (hop : wOp w = 1) (hbuf : accessBuf w = false) :
    exec (.store l t w .clean) s = .next (sendWrites l t w th none (countIssue l.val s)) := by
  rw [exec_store, doStore, issue_of_issues h (by simp [hop]) (by simp [hop])]
  simp only [show (memForm w (wVb w) true).vector = true from rfl, if_true, hbuf, Bool.false_eq_true, if_false]

theorem exec_atomic_eq
    (h : Issues s l t w 0xC (memForm w (wVb w) (decide (wImm w / 4 % 8 ≤ 4) && !accessBuf w)) th) (hop : wOp w = 2)
    (hstore : ∀ p, placeOf s (accessAddr (getEng s l.val) t.val w) = some p → storeBase ≤ p)
    (hplace : (placeOf s (accessAddr (getEng s l.val) t.val w)).isSome = true) :
    exec (.atomic l t w .clean) s = .next (sendWrites l t w th (some (wImm w / 4 % 8)) (countIssue l.val s)) := by
  have hplace' (a : Nat) : placeOf (countIssue l.val s) a = placeOf s a := rfl
  have hall : (placeOf s (accessAddr (getEng s l.val) t.val w)).all (fun p => decide (p < storeBase)) = false := by
    obtain ⟨p, hp⟩ := Option.isSome_iff_exists.mp hplace
    rw [hp]
    exact decide_eq_false (Nat.not_lt.mpr (hstore p hp))
  rw [exec_atomic, doAtomic, issue_of_issues h (by simp [hop]) (by simp [hop])]
  simp only [show ∀ b, (memForm w (wVb w) b).vector = true from fun _ => rfl, if_true, getEng_countIssue_same,
    accessAddr_countedEng, hplace', hall, Bool.false_eq_true, if_false]

/-! ### The return of load data -/

/-- What a return means for an access that stands, of a package that has not withheld. -/
theorem loadReturn_failed {n : Nat} {x : Access} (hth : threadAt s l.val t.val = some th) (hx : th.loads[n]? = some x)
    (hw : s.snuf.wheld = false) (herr : x.err = true) (ecc : EccRes) (bad : Bool) (sh : Option (W32 × W32)) :
    exec (.loadDataReturn l t n ecc bad sh) s = .next (loadFailed l t n th x none s) := by
  rw [exec_loadDataReturn, loadReturn, hth]
  simp only [hx, hw, herr, Bool.false_eq_true, if_false, if_true]

theorem loadReturn_arrives {n : Nat} {x : Access} (hth : threadAt s l.val t.val = some th) (hx : th.loads[n]? = some x)
    (hw : s.snuf.wheld = false) (herr : x.err = false) (hpath : pathRuns s l.val x = true) (hwrites : x.writes = [])
    (hcomp : isCompanion x.addr = false) (ecc : EccRes) (bad : Bool) (sh : Option (W32 × W32)) :
    exec (.loadDataReturn l t n ecc bad sh) s = .next (loadArrive l t n th x ecc bad sh s) := by
  rw [exec_loadDataReturn, loadReturn, hth]
  simp only [hx, hw, herr, hpath, hwrites, hcomp, Bool.false_eq_true, Bool.not_true, if_false, ne_eq, not_true_eq_false]

/-- A block of an access that can be read now and is good. -/
def BlockGood (s : State) (b : Nat) : Prop :=
  devReadable s (b / 256) = true ∧ ∃ p, placeOf s b = some p ∧ codeGood s.mem p = true ∧ placeReady s p = true

theorem blocksGood_places {bs : List Nat} (h : ∀ b ∈ bs, BlockGood s b) :
    (bs.filterMap (placeOf s)).length = bs.length ∧
      (bs.filterMap (placeOf s)).all (fun p => codeGood s.mem p && placeReady s p) = true := by
  induction bs with
  | nil => exact ⟨rfl, rfl⟩
  | cons b bs ih =>
    rw [List.forall_mem_cons] at h
    obtain ⟨⟨-, p, hp, hcode, hready⟩, hrest⟩ := h
    obtain ⟨hlen, hall⟩ := ih hrest
    rw [List.filterMap_cons_some hp]
    exact ⟨by rw [List.length_cons, hlen, List.length_cons], by rw [List.all_cons, hcode, hready, hall]; rfl⟩

/-- The data of an access, as its blocks hold it. -/
def arrivedData (s : State) (x : Access) : List Byte :=
  ((blockAddrs x.addr x.blocks).filterMap (placeOf s)).flatMap fun p => memRead s.mem p 256

theorem length_arrivedData {x : Access} (h : ∀ b ∈ blockAddrs x.addr x.blocks, BlockGood s b) :
    (arrivedData s x).length = 256 * x.blocks := by
  have hlen : (blockAddrs x.addr x.blocks).length = x.blocks := by rw [blockAddrs, List.length_map, List.length_range]
  rw [arrivedData, List.length_flatMap]
  simp only [length_memRead, List.map_const', List.sum_replicate, (blocksGood_places h).1, hlen, smul_eq_mul]
  ring

/-- Good blocks that arrive clean enter the register. -/
theorem loadArrive_good {n : Nat} {x : Access} (h : ∀ b ∈ blockAddrs x.addr x.blocks, BlockGood s b) (sh : Option (W32 × W32)) :
    loadArrive l t n th x .clean false sh s = loadGood l t n th x (arrivedData s x) s := by
  have hread : (blockAddrs x.addr x.blocks).any (fun b => !devReadable s (b / 256)) = false :=
    any_not_eq_false fun b hb => (h b hb).1
  have hlen : (blockAddrs x.addr x.blocks).length = x.blocks := by rw [blockAddrs, List.length_map, List.length_range]
  obtain ⟨hplaces, hall⟩ := blocksGood_places h
  have hok : (!false && EccRes.clean != .uncorrectable &&
      ((blockAddrs x.addr x.blocks).filterMap (placeOf s)).length == x.blocks &&
      ((blockAddrs x.addr x.blocks).filterMap (placeOf s)).all (fun p => codeGood s.mem p && placeReady s p)) = true := by
    rw [hplaces, hlen, hall, beq_self_eq_true]
    rfl
  unfold loadArrive
  rw [if_neg (by rw [hread]; exact Bool.false_ne_true)]
  dsimp only
  cases ((blockAddrs x.addr x.blocks).filterMap (placeOf s)).head? with
  | none => exact if_pos hok
  | some p => exact if_pos hok

/-- A register's guarded lanes are written, and no other register. -/
theorem engineElse_putLanes (s : State) (l : Lan) (th : Thread) (r : Nat) {is : List Nat} (his : ∀ i ∈ is, i < 128) (g : Nat → W32) :
    EngineElse s l (some (physReg th r)) (updEng l.val (putLanes th r (is.map fun i => (i, g i))) s) := by
  have hsame : getEng (updEng l.val (putLanes th r (is.map fun i => (i, g i))) s) l.val =
      putLanes th r (is.map fun i => (i, g i)) (getEng s l.val) := (getEng_updEng _ _ _ s).trans (if_pos rfl)
  rw [EngineElse, hsame]
  exact ⟨fun p hp => get_putLanes_other th r his g _ fun hq => hp (congrArg some hq), rfl, rfl, rfl,
    fun k hk => (getEng_updEng _ _ _ s).trans (if_neg hk)⟩

/-- What good data of a first fetch leaves. -/
theorem loadGood_leaves {n : Nat} {x : Access} {d : List Byte} (hth : threadAt s l.val t.val = some th) (hx : x.retried = false)
    (hd : d.length = 256 * x.blocks) : let u := loadGood l t n th x d s
    threadAt u l.val t.val = some { th with loads := th.loads.eraseIdx n } ∧ EngineElse s l (some (physReg th x.vd)) u ∧
      (getEng u l.val).issue = (getEng s l.val).issue ∧ Frame [.engs] s u ∧ ∀ i, i < 128 → lane (getEng u l.val) th x.vd i =
        if x.mask.toNat / 2 ^ i % 2 = 1 ∧ i < 64 * x.blocks then (wordsOf d).getD i 0 else lane (getEng s l.val) th x.vd i := by
  have hwords : (wordsOf d).length = 64 * x.blocks := by rw [length_wordsOf, hd]; omega
  have hlt : ∀ i ∈ maskedOn x.mask (64 * x.blocks), i < 128 := fun _ => lt_of_mem_maskedOn
  have hput : getEng (updEng l.val (putLanes th x.vd ((maskedOn x.mask (64 * x.blocks)).map fun i => (i, (wordsOf d).getD (i - 0) 0))) s)
      l.val = putLanes th x.vd ((maskedOn x.mask (64 * x.blocks)).map fun i => (i, (wordsOf d).getD (i - 0) 0)) (getEng s l.val) :=
    (getEng_updEng _ _ _ s).trans (if_pos rfl)
  unfold loadGood
  simp only [hx, Bool.false_eq_true, if_false, loadLanes_eq, hwords, updLoads]
  refine ⟨threadAt_updThread ?_ _, (engineElse_putLanes s l th x.vd hlt _).updThread _ _, ?_, ?_, fun i hi => ?_⟩
  · rw [threadAt, hput]
    exact hth
  · rw [getEng_updThread_same, hput]
    rfl
  · exact .after (List.Subset.refl _) (updThread_frame _ _ _ _) (updEng_frame s _ _)
  · rw [getEng_updThread_same, hput]
    refine (lane_putLanes th _ _ hlt _ _ hi).trans ?_
    simp only [true_and, mem_maskedOn, Nat.sub_zero]

/-- A first failed block whose checks pass is fetched again (R225). -/
theorem loadFailed_first {n : Nat} {x : Access} {r : State} (hx : x.retried = false) (hwrites : x.writes = [])
    (hr : checkBlocks l.val t.val th false (blockAddrs x.addr x.blocks) s = (r, none)) :
    loadFailed l t n th x none s = startLoad l t x.addr x.blocks (updLoads l.val t.val
      (fun q => q.set n (newAccess r l.val x.addr x.vd x.blocks x.mask [] true false)) r) := by
  unfold loadFailed
  simp only [hx, hwrites, bne_self_eq_false, hr]
  rfl

/-- A block that fails twice stops a thread of an invocation and withholds for any other (R225, R135). -/
theorem loadFailed_twice {x : Access} (hx : x.retried = true) (n : Nat) : loadFailed l t n th x none s =
    if th.inv.isSome then customerFault l.val t.val 7 (blockTwice s) else blockLost l.val s := by
  unfold loadFailed
  simp only [hx]
  rfl

end

/-! ### The obligation -/

/-- Settles O20: a load, store or atomic by the equation of its instruction; a return by what `loadReturn` makes of its access. -/
theorem engineMemoryAccesses : Obligations.EngineMemoryAccesses := by
  refine ⟨?buffer, ?goes, ?refused, ?storeBuffer, ?store, ?atomic, ?returns, ?again, ?stops, ?withholds⟩
  case buffer =>
    intro s l t w th e o n h hop hbuf hread
    obtain ⟨u, hrun, hu, hframe⟩ := load_buffer_ends h hop hbuf hread
    have hwords : (loadedWords s l.val t.val w).length = 64 * n := by
      rw [loadedWords, length_wordsOf, length_bufRead]
      omega
    have hlt : ∀ i ∈ maskedOn (maskOn e t.val w) (64 * n), i < 128 := fun _ => lt_of_mem_maskedOn
    rw [loadLanes_eq, hwords] at hu
    refine ⟨u, hrun, ?lanes, hu.went, hu.issue, hu.engineElse ?regs rfl rfl rfl, hframe⟩
    case lanes =>
      intro i hi
      rw [hu.lane_eq, lane_putLanes th _ _ hlt _ _ hi]
      simp only [true_and, mem_maskedOn, bit_maskOn _ _ _ hi]
      rfl
    case regs => exact fun p hp => get_putLanes_other th _ hlt _ _ fun hq => hp (congrArg some hq)
  case goes =>
    intro s l t w th e a n h hop hbuf r hr
    exact exec_load_memory h hop hbuf hr
  case refused =>
    intro s l t w th e a n h hop hbuf r c hr ht
    exact (exec_load_memory h hop hbuf hr).trans (congrArg _ (if_neg (Nat.not_lt.mpr ht)))
  case storeBuffer => exact fun s l t w th h hop hbuf hwrite => exec_store_buffer h hop hbuf hwrite
  case store =>
    intro s l t w th e a n h hop hbuf hbusy r hr hcomp hclk
    exact (exec_store_memory h hop hbuf).trans (congrArg _ (sendWrites_counted hbusy hr hcomp hclk))
  case atomic =>
    intro s l t w th e a n op h hop hstore hplace hbusy r hr hcomp hclk
    exact (exec_atomic_eq h hop hstore hplace).trans (congrArg _ (sendWrites_counted hbusy hr hcomp hclk))
  case returns =>
    intro s l t n th x hth hx hw herr hpath hwrites hcomp hfirst _ hgood
    exact ⟨_, (loadReturn_arrives hth hx hw herr hpath hwrites hcomp _ _ _).trans (congrArg _ (loadArrive_good hgood none)),
      loadGood_leaves hth hfirst (length_arrivedData hgood)⟩
  case again =>
    intro s l t n th x sh r hth hx hw herr hfirst hwrites hr
    exact (loadReturn_failed hth hx hw herr _ _ _).trans (congrArg _ (loadFailed_first hfirst hwrites hr))
  case stops =>
    intro s l t n th x hth hx hw herr htwice hinv
    exact (loadReturn_failed hth hx hw herr _ _ _).trans (congrArg _ ((loadFailed_twice htwice n).trans (if_pos hinv)))
  case withholds =>
    intro s l t n th x sh hth hx hw herr htwice hinv
    obtain ⟨hsnuf, hchk, hframe⟩ := blockLost_leaves hw l.val
    refine ⟨_, (loadReturn_failed hth hx hw herr _ _ _).trans (congrArg _ ((loadFailed_twice htwice n).trans (if_neg (by simp [hinv])))),
      ?_, ?_, ?_, hframe⟩
    · rw [Withheld, hsnuf]
      exact ⟨rfl, rfl⟩
    · rw [hsnuf]
    · rw [hchk]

end Sys2Proof.Machine
end

section
/-! SUPPORT. Mailbox commands that pass the checks every command passes (R379, R391, R392), and the CTX. commands that answer at once
(R141, R142, R159, R399, R400, R462, R471). -/

namespace Sys2Proof.Machine

/-! ### Commands that pass the mailbox's checks -/

theorem dequeue_frame (d : Desc) (s : State) : Frame [.mbx] s (dequeue d s) := updRing_frame s _ _

theorem keepProg_frame (d : Desc) (s : State) : Frame [.mbx] s (keepProg d s) := updRing_frame s _ _

/-- A ring stays bound to its context where a change of a ring leaves the binding. -/
theorem ringCtx_updRing {f : Ring → Ring} (hf : ∀ g, (f g).ctx = g.ctx) (k r : Nat) (s : State) :
    (getRing (updRing k f s) r).ctx = (getRing s r).ctx := by
  rw [getRing_updRing]
  split
  · next h => rw [hf, h]
  · rfl

theorem ringCtx_dequeue (d : Desc) (s : State) (r : Nat) : (getRing (dequeue d s) r).ctx = (getRing s r).ctx := by
  refine ringCtx_updRing (fun g => ?_) _ r s
  rfl

/-- A command that passes the checks starts, and its own part runs. -/
theorem runCmd_accepted {k : Rings} {early open_ input : Bool} {d : Desc} {s : State} (h : accepted k early open_ input d s = true)
    (body : State → State) : runCmd d k early open_ input body s = body (dequeue d s) := by
  simp only [accepted, Bool.and_eq_true, Bool.not_eq_true'] at h
  obtain ⟨⟨⟨⟨⟨⟨hheld, hwaits⟩, hring⟩, hver⟩, hready⟩, hform⟩, hinput⟩ := h
  have hver' : (!early && (dequeue d s).mbx.curver == 0) = false := by
    change (!early && s.mbx.curver == 0) = false
    cases early <;> simp_all
  have hready' : (!open_ && !ready (dequeue d s)) = false := by
    change (!open_ && !ready s) = false
    cases open_ <;> simp_all
  unfold runCmd
  dsimp only
  rw [hheld, hwaits, hring, hver', hready', hform, hinput]
  rfl

theorem runCtx_accepted {input : Bool} {d : Desc} {c : Nat} {x : Ctx} {s : State} (h : acceptedCtx input d c x s)
    (body : Nat → Ctx → State → State) : runCtx d input body s = body c x (dequeue d s) := by
  obtain ⟨hacc, hring, hctx⟩ := h
  obtain ⟨i, hi, rfl⟩ := Option.map_eq_some_iff.1 hring
  have hd : getCtx (dequeue d s) i.val = some x := hctx
  rw [runCtx, runCmd_accepted hacc]
  rw [ringCtx_dequeue, hi]
  dsimp only
  rw [hd]

theorem runCtxId_accepted {input : Bool} {d : Desc} {id : W16} {c : Nat} {x : Ctx} {s : State}
    (hacc : accepted .sys false false input d s = true) (hslot : slotOf s id = some c) (hctx : getCtx s c = some x)
    (body : Nat → Ctx → State → State) : runCtxId d id input body s = body c x (dequeue d s) := by
  have hd : slotOf (dequeue d s) id = some c := hslot
  have hx : getCtx (dequeue d s) c = some x := hctx
  rw [runCtxId, runCmd_accepted hacc]
  rw [hd]
  dsimp only
  rw [hx]

/-- A lantern mask that names lanterns of the context's sconces alone passes. -/
theorem runMask_accepted {d : Desc} {c : Nat} {x : Ctx} {s : State} {ls : List LLan} (h : acceptedCtx true d c x s)
    (hlen : 128 ≤ d.inlen.toNat) (hls : ls ≠ []) (hown : ∀ l ∈ ls, sconceOfL l.val ∈ sconcesOf s c)
    (body : Nat → Ctx → State → State) : runMask d ls body s = body c x (dequeue d s) := by
  have hzero : d.inlen ≠ 0 := fun e => by simp [e] at hlen
  have hall : ls.any (fun l => !((sconcesOf (dequeue d s) c).contains (sconceOfL l.val))) = false := by
    change ls.any (fun l => !((sconcesOf s c).contains (sconceOfL l.val))) = false
    simpa using hown
  rw [runMask, runCtx_accepted h]
  rw [if_neg hzero, if_neg (by omega), if_neg hls, hall]
  rfl

/-! ### Commands that answer at once -/

theorem exec_ctxWeight (d : Desc) (id w : W16) (s : State) : exec (.ctxWeight d id w) s = .next (doCtxWeight d id w s) := rfl

theorem exec_ctxKrun (d : Desc) (h e : Nat) (ls : List LLan) (s : State) : exec (.ctxKrun d h e ls) s = .next (doKrun d h e ls s) := rfl

theorem exec_ctxAttest (d : Desc) (n : BitVec 256) (s : State) : exec (.ctxAttest d n) s = .next (doCtxAttest d n s) := rfl

theorem exec_ctxEmbers (d : Desc) (s : State) : exec (.ctxEmbers d) s = .next (doCtxEmbers d s) := rfl

theorem doCtxWeight_accepted {d : Desc} {id w : W16} {c : Nat} {x : Ctx} {s : State} (hacc : accepted .sys false false false d s = true)
    (hslot : slotOf s id = some c) (hctx : getCtx s c = some x) : doCtxWeight d id w s =
      if weightOk s c w.toNat then finish d 0 (updLctx c (fun x => { x with weight := BitVec.ofNat 9 w.toNat }) (dequeue d s))
      else finish d 0x0205 (pwrCfgErr (dequeue d s)) :=
  runCtxId_accepted hacc hslot hctx _

theorem doKrun_accepted {d : Desc} {c : Nat} {x : Ctx} {hd entry : Nat} {ls : List LLan} {k : Kernel} {s : State}
    (h : acceptedCtx true d c x s) (hlen : 128 ≤ d.inlen.toNat) (hls : ls ≠ []) (hown : ∀ l ∈ ls, sconceOfL l.val ∈ sconcesOf s c)
    (hk : x.kernels.find? (fun k => k.handle == hd) = some k) (hload : k.unloading = false) (hentry : entry < k.image.entries.toNat)
    (hserve : ls.filterMap (fun l => lanOf s l.val) ≠ []) : doKrun d hd entry ls s =
      invoke c k entry ((ls.filterMap (fun l => lanOf s l.val)).map (fun p => (Fin.ofNat 1088 p : Lan))) d (dequeue d s) := by
  have hmap : (ls.filterMap (fun l => lanOf (dequeue d s) l.val)).map (fun p => (Fin.ofNat 1088 p : Lan)) ≠ [] := by
    rwa [ne_eq, List.map_eq_nil_iff]
  rw [doKrun, runMask_accepted h hlen hls hown]
  dsimp only
  rw [hk]
  dsimp only
  rw [if_neg (by simp [hload]), if_neg (by omega), if_neg hmap]
  rfl

theorem doCtxAttest_accepted {d : Desc} {c : Nat} {x : Ctx} {nonce : BitVec 256} {s : State} (h : acceptedCtx false d c x s)
    (hlen : reportSize ≤ d.outlen.toNat) : doCtxAttest d nonce s =
      let t := dequeue d s
      let r := report (reportBody 2 nonce (digBytes x.keydig) (reportCtx c x t) t) 0x020A t
      complete d 0 reportSize [] (outLines d.outaddr r.1 r.2) := by
  have hzero : d.outlen ≠ 0 := fun e => by simp [e, reportSize] at hlen
  rw [doCtxAttest, runCtx_accepted h]
  dsimp only
  rw [if_neg hzero, if_neg (by omega)]

/-- A report begins with its magic (R462). -/
theorem reportBody_magic (kind : Nat) (nonce : BitVec 256) (bound ctx : List Byte) (s : State) :
    (reportBody kind nonce bound ctx s).take 4 = leBytes 4 0x31545441 := by
  unfold reportBody
  simp only [List.append_assoc]
  exact List.take_left' (by simp [leBytes])

theorem doCtxEmbers_accepted {d : Desc} {c : Nat} {x : Ctx} {s : State} (h : acceptedCtx false d c x s) : doCtxEmbers d s =
    finishOut d 64 ((s.mgt.log.filter (fun e => e.ctxid == some x.ctxid && decide (x.born ≤ e.localt.toNat))).flatMap Ember.bytes)
      (dequeue d s) :=
  runCtx_accepted h _

/-! ### Kernel images (R141, R142) -/

theorem exec_ctxKload (d : Desc) (k : KImage) (s : State) : exec (.ctxKload d k) s = .next (doKload d k s) := rfl

theorem exec_ctxKunload (d : Desc) (h : Nat) (s : State) : exec (.ctxKunload d h) s = .next (doKunload d h s) := rfl

theorem frame_mem (s : State) (m : Mem) : Frame [.mem] s { s with mem := m } := by
  intro p hp; cases p <;> simp at hp <;> rfl

theorem Frame.getCtx {ps : List Part} {s t : State} (h : Frame ps s t) (c : Nat) (hp : .ctxs ∉ ps) : getCtx t c = getCtx s c :=
  congrArg (fun x => Tab.get none x c) (h .ctxs hp)

/-- An image as the firmware keeps it. -/
def storedKernel (x : Ctx) (k : KImage) (p : Nat × Nat) : Kernel :=
  { handle := freeHandle x, slice := p.1, size := imageSize k, addr := p.2, image := k, unloading := false }

/-- CUST_EN of engines. -/
def enableCustomers (ls : List Nat) (s : State) : State :=
  ls.foldl (fun s l => updEng l (fun e => { e with custEn := true }) s) s

theorem enableCustomers_frame (ls : List Nat) (s : State) : Frame [.engs] s (enableCustomers ls s) :=
  frame_foldl (fun a l => updEng_frame a l _) ls s

/-- The image lies in memory and stands in its context's list. -/
def withKernel (c : Nat) (x : Ctx) (k : KImage) (p : Nat × Nat) (s : State) : State :=
  updCtx c (fun y => { y with kernels := y.kernels ++ [storedKernel x k p] }) { s with mem := storeBytes s.mem p.2 (imageBytes k) }

/-- The state a load leaves: the image is stored and the engines of the context's serving lanterns take customer threads. -/
def loaded (c : Nat) (x : Ctx) (k : KImage) (p : Nat × Nat) (s : State) : State :=
  let t := withKernel c x k p s
  enableCustomers (((sconcesOf t c).flatMap lansOf).filter (fun l => (getLan t l).st == .service)) t

theorem withKernel_frame (c : Nat) (x : Ctx) (k : KImage) (p : Nat × Nat) (s : State) :
    Frame [.ctxs, .mem] s (withKernel c x k p s) :=
  .after (by decide) (updCtx_frame _ _ _) ((frame_mem s _).mono (by decide))

theorem mem_withKernel (c : Nat) (x : Ctx) (k : KImage) (p : Nat × Nat) (s : State) :
    (withKernel c x k p s).mem = storeBytes s.mem p.2 (imageBytes k) :=
  updCtx_frame _ _ _ .mem (by decide)

theorem getCtx_withKernel (c : Nat) (x : Ctx) (k : KImage) (p : Nat × Nat) (s : State) (i : Nat) : getCtx (withKernel c x k p s) i =
    if i = c then (getCtx s c).map (fun y => { y with kernels := y.kernels ++ [storedKernel x k p] }) else getCtx s i :=
  getCtx_updCtx _ _ _ _

theorem loaded_frame (c : Nat) (x : Ctx) (k : KImage) (p : Nat × Nat) (s : State) :
    Frame [.ctxs, .engs, .mem] s (loaded c x k p s) :=
  .after (by decide) (enableCustomers_frame _ _) ((withKernel_frame c x k p s).mono (by decide))

theorem getCtx_loaded (c : Nat) (x : Ctx) (k : KImage) (p : Nat × Nat) (s : State) (i : Nat) :
    getCtx (loaded c x k p s) i = getCtx (withKernel c x k p s) i :=
  (enableCustomers_frame _ _).getCtx i (by decide)

theorem mem_loaded (c : Nat) (x : Ctx) (k : KImage) (p : Nat × Nat) (s : State) :
    (loaded c x k p s).mem = storeBytes s.mem p.2 (imageBytes k) :=
  (enableCustomers_frame _ _ .mem (by decide)).trans (mem_withKernel c x k p s)

theorem doKload_accepted {d : Desc} {c : Nat} {x : Ctx} {k : KImage} {p : Nat × Nat} {s : State} (h : acceptedCtx true d c x s)
    (hlen : d.inlen ≠ 0) (hcode : k.codesize ≠ 0) (hentries : k.entries ≠ 0) (hthreads : k.threads ≠ 0) (hbad : imageBad k = false)
    (hsigs : k.sigsOk = true) (hkeys : x.nkeys ≠ 0) (hroom : x.kernels.length < 16)
    (hplace : kernelPlace s c x (imageSize k) = some p) : doKload d k s =
      complete d 0 0 [BitVec.ofNat 32 (freeHandle x)] (loaded c x k p (dequeue d s)) := by
  have hplace' : kernelPlace (dequeue d s) c x (imageSize k) = some p := hplace
  rw [doKload, runCtx_accepted h]
  dsimp only
  rw [if_neg (by simp only [hlen, hcode, hentries, hthreads, or_self, not_false_eq_true]), if_neg (by simp [hbad]), if_neg (by simp [hsigs, hkeys]),
    if_neg (by omega), hplace']
  rfl

theorem ctxKload_stores {d : Desc} {c : Nat} {x : Ctx} {k : KImage} {p : Nat × Nat} {s : State} (h : acceptedCtx true d c x s) :
    let w := loaded c x k p (dequeue d s)
    getCtx w c = some { x with kernels := x.kernels ++ [storedKernel x k p] } ∧ w.mem = storeBytes s.mem p.2 (imageBytes k) ∧
      (∀ i, i ≠ c → getCtx w i = getCtx s i) ∧ Frame [.mbx, .ctxs, .engs, .mem] s w := by
  obtain ⟨_, _, hctx⟩ := h
  have hd : getCtx (dequeue d s) c = some x := hctx
  refine ⟨?_, mem_loaded c x k p _, fun i hi => ?_,
    .after (by decide) (loaded_frame c x k p _) ((dequeue_frame d s).mono (by decide))⟩
  · rw [getCtx_loaded, getCtx_withKernel, if_pos rfl, hd]
    rfl
  · rw [getCtx_loaded, getCtx_withKernel, if_neg hi]
    rfl

/-- The state that unloading an idle image leaves. -/
def unloaded (c h : Nat) (s : State) : State :=
  updCtx c (fun x => { x with unloads := [], kernels := x.kernels.filter (fun k => !(h == k.handle)) }) s

/-- The one unload that waits completes where no kernel of the context runs. -/
theorem unloadCheck_idle {c h : Nat} {d : Desc} {y : Ctx} {s : State} (hctx : getCtx s c = some y) (hwait : y.unloads = [(h, d)])
    (hidle : ∀ v ∈ s.invs, v.ctx.val ≠ c) : unloadCheck c s = finish d 0 (unloaded c h s) := by
  have hbusy (j : Nat) : (s.invs.any fun v => v.ctx.val == c && v.handle == j) = false := by
    simp only [List.any_eq_false, Bool.and_eq_true, beq_iff_eq, not_and]
    exact fun v hv e => absurd e (hidle v hv)
  unfold unloadCheck
  rw [hctx]
  dsimp only
  simp only [hbusy, hwait, Bool.not_false, List.filter_true, List.filter_false, List.foldl_cons, List.foldl_nil, List.any_cons,
    List.any_nil, Bool.or_false]
  rfl

/-- The image is marked, and its unload waits. -/
def unloadAsked (c h : Nat) (d : Desc) (s : State) : State :=
  keepProg d (updCtx c (fun x => { x with kernels := updIf (fun k => k.handle == h) (fun k => { k with unloading := true }) x.kernels,
                                          unloads := x.unloads ++ [(h, d)] }) s)

theorem unloadAsked_frame (c h : Nat) (d : Desc) (s : State) : Frame [.mbx, .ctxs] s (unloadAsked c h d s) :=
  .after (by decide) (keepProg_frame _ _) ((updCtx_frame _ _ _).mono (by decide))

theorem getCtx_unloadAsked {c : Nat} {d : Desc} {x : Ctx} {s : State} (h : Nat) (hctx : getCtx s c = some x) :
    getCtx (unloadAsked c h d s) c = some { x with
      kernels := updIf (fun k => k.handle == h) (fun k => { k with unloading := true }) x.kernels, unloads := x.unloads ++ [(h, d)] } := by
  unfold unloadAsked
  rw [(keepProg_frame _ _).getCtx c (by decide), getCtx_updCtx, if_pos rfl, hctx]
  rfl

theorem doKunload_accepted {d : Desc} {c h : Nat} {x : Ctx} {k : Kernel} {s : State} (ha : acceptedCtx false d c x s)
    (hk : x.kernels.find? (fun k => k.handle == h && !k.unloading) = some k) (hun : x.unloads = [])
    (hidle : ∀ v ∈ s.invs, v.ctx.val ≠ c) : doKunload d h s = finish d 0 (unloaded c h (unloadAsked c h d (dequeue d s))) := by
  have hasked := getCtx_unloadAsked (s := dequeue d s) (d := d) h ha.2.2
  have hinvs : (unloadAsked c h d (dequeue d s)).invs = s.invs := unloadAsked_frame c h d _ .invs (by decide)
  have hidle' : ∀ v ∈ (unloadAsked c h d (dequeue d s)).invs, v.ctx.val ≠ c := by rwa [hinvs]
  rw [doKunload, runCtx_accepted ha]
  dsimp only
  rw [hk]
  exact unloadCheck_idle hasked (by rw [hun, List.nil_append]) hidle'

theorem unloaded_frame (c h : Nat) (s : State) : Frame [.ctxs] s (unloaded c h s) := updCtx_frame _ _ _

theorem getCtx_unloaded {c h : Nat} {x : Ctx} {s : State} (hx : getCtx s c = some x) :
    ∃ y, getCtx (unloaded c h s) c = some y ∧ ∀ k ∈ y.kernels, k.handle ≠ h := by
  refine ⟨{ x with unloads := [], kernels := x.kernels.filter (fun k => !(h == k.handle)) }, ?_, fun k hk e => ?_⟩
  · rw [unloaded, getCtx_updCtx, if_pos rfl, hx]
    rfl
  · simp [e] at hk

/-! ### Commands that wait for the context (R392, R399, R400) -/

theorem exec_ctxPause (d : Desc) (s : State) : exec (.ctxPause d) s = .next (runCtx d false (fun c _ s => pushOp c d (.pause d) s) s) := rfl

theorem exec_ctxResume (d : Desc) (s : State) :
    exec (.ctxResume d) s = .next (runCtx d false (fun c _ s => pushOp c d (.resume d) s) s) := rfl

theorem exec_ctxPipeline (d : Desc) (id : W16) (path : List Pkg) (s : State) :
    exec (.ctxPipeline d id path) s = .next (doCtxPipeline d id path s) := rfl

/-- A command stands last among those that wait for the context. -/
def pushed (c : Nat) (d : Desc) (o : CtxOp) (s : State) : State :=
  updCtx c (fun x => { x with ops := x.ops ++ [o] }) (keepProg d s)

theorem pushed_frame (c : Nat) (d : Desc) (o : CtxOp) (s : State) : Frame [.mbx, .ctxs] s (pushed c d o s) :=
  .after (by decide) (updCtx_frame _ _ _) ((keepProg_frame d s).mono (by decide))

theorem getCtx_pushed (c : Nat) (d : Desc) (o : CtxOp) (s : State) (i : Nat) : getCtx (pushed c d o s) i =
    if i = c then (getCtx s c).map (fun x => { x with ops := x.ops ++ [o] }) else getCtx s i :=
  getCtx_updCtx _ _ _ _

/-- With no command before it, a command is carried on at once. -/
theorem pushOp_first {c : Nat} {d : Desc} {o : CtxOp} {x : Ctx} {s : State} (hctx : getCtx s c = some x) (hops : x.ops = []) :
    pushOp c d o s = opStep c (pushed c d o s) ∧ getCtx (pushed c d o s) c = some { x with ops := [o] } := by
  have hp : getCtx (pushed c d o s) c = some { x with ops := [o] } := by
    rw [getCtx_pushed, if_pos rfl, hctx, Option.map_some, hops, List.nil_append]
  refine ⟨?_, hp⟩
  change opsGo c (pushed c d o s) = _
  unfold opsGo
  rw [hp]
  rfl

theorem launchIdle_setPause (c i : Nat) (b : Bool) (s : State) : launchIdle (setPause c b s) i = launchIdle s i := by
  unfold launchIdle setPause
  rw [getLctx_updLctx]
  split
  · next h => rw [h]
  · rfl

theorem Frame.launchIdle {ps : List Part} {s t : State} (h : Frame ps s t) (c : Nat) (hp : .lctx ∉ ps) :
    launchIdle t c = launchIdle s c := by
  unfold Machine.launchIdle
  rw [h.getLctx c hp]

theorem setPause_frame (c : Nat) (b : Bool) (s : State) : Frame [.lctx] s (setPause c b s) := updLctx_frame s c _

theorem popOp_frame (c : Nat) (s : State) : Frame [.ctxs] s (popOp c s) := updCtx_frame s c _

theorem getCtx_popOp {c : Nat} {x : Ctx} {s : State} (h : getCtx s c = some x) :
    getCtx (popOp c s) c = some { x with ops := x.ops.drop 1 } := by
  rw [popOp, getCtx_updCtx, if_pos rfl, h]
  rfl

theorem pause_setPause (c : Nat) (b : Bool) (s : State) : (getLctx (setPause c b s) c).pause = b := by
  rw [setPause, getLctx_updLctx, if_pos rfl]

/-- PAUSED of a context (R400) and PAUSE of its lamplighter slot (R173) stand. -/
def pausedTo (c : Nat) (b : Bool) (s : State) : State := setPause c b (updCtx c (fun x => { x with paused := b }) s)

theorem pausedTo_frame (c : Nat) (b : Bool) (s : State) : Frame [.ctxs, .lctx] s (pausedTo c b s) :=
  .after (by decide) (setPause_frame _ _ _) ((updCtx_frame _ _ _).mono (by decide))

theorem getCtx_pausedTo {c : Nat} {b : Bool} {x : Ctx} {s : State} (h : getCtx s c = some x) :
    getCtx (pausedTo c b s) c = some { x with paused := b } := by
  rw [pausedTo, (setPause_frame _ _ _).getCtx c (by decide), getCtx_updCtx, if_pos rfl, h]
  rfl

theorem launchIdle_pausedTo (c : Nat) (b : Bool) (s : State) : launchIdle (pausedTo c b s) c = launchIdle s c := by
  rw [pausedTo, launchIdle_setPause, (updCtx_frame _ _ _).launchIdle c (by decide)]

/-- What a command that pauses or resumes a context, or the lamplighter of one, leaves of it. -/
def Paused (c : Nat) (y : Ctx) (b : Bool) (s w : State) : Prop :=
  getCtx w c = some y ∧ (getLctx w c).pause = b ∧ Frame [.mbx, .ctxs, .lctx] s w

theorem paused_pausedTo {c : Nat} {d : Desc} {o : CtxOp} {b : Bool} {x : Ctx} {s : State} (hops : x.ops = [])
    (hp : getCtx (pushed c d o (dequeue d s)) c = some { x with ops := [o] }) :
    Paused c { x with paused := b } b s (popOp c (pausedTo c b (pushed c d o (dequeue d s)))) := by
  refine ⟨?_, ?_, ?_⟩
  · rw [getCtx_popOp (getCtx_pausedTo hp), ← hops]
    rfl
  · rw [(popOp_frame _ _).getLctx c (by decide)]
    exact pause_setPause _ _ _
  · exact .after (by decide) (popOp_frame _ _) <| .after (by decide) (pausedTo_frame _ _ _) <|
      .after (by decide) (pushed_frame _ _ _ _) ((dequeue_frame d s).mono (by decide))

theorem opStep_pause {c : Nat} {d : Desc} {x : Ctx} {s : State} (h : getCtx s c = some { x with ops := [.pause d] })
    (hidle : launchIdle s c = true) : opStep c s = finish d 0 (popOp c (pausedTo c true s)) := by
  unfold opStep
  rw [h]
  dsimp only [List.head?_cons]
  exact if_pos ((launchIdle_pausedTo c true s).trans hidle)

theorem opStep_resume {c : Nat} {d : Desc} {x : Ctx} {s : State} (h : getCtx s c = some { x with ops := [.resume d] }) :
    opStep c s = finish d 0 (popOp c (pausedTo c false s)) := by
  unfold opStep
  rw [h]
  rfl

theorem ctxPause_finishes {d : Desc} {c : Nat} {x : Ctx} {s : State} (h : acceptedCtx false d c x s) (hops : x.ops = [])
    (hidle : launchIdle s c = true) :
    ∃ w, exec (.ctxPause d) s = .next (finish d 0 w) ∧ Paused c { x with paused := true } true s w := by
  have hctx : getCtx (dequeue d s) c = some x := h.2.2
  obtain ⟨hgo, hp⟩ := pushOp_first (d := d) (o := .pause d) hctx hops
  have hidle' : launchIdle (pushed c d (.pause d) (dequeue d s)) c = true :=
    ((pushed_frame _ _ _ _).launchIdle c (by decide)).trans hidle
  refine ⟨_, ?_, paused_pausedTo hops hp⟩
  rw [exec_ctxPause, runCtx_accepted h, hgo, opStep_pause hp hidle']

theorem ctxResume_finishes {d : Desc} {c : Nat} {x : Ctx} {s : State} (h : acceptedCtx false d c x s) (hops : x.ops = []) :
    ∃ w, exec (.ctxResume d) s = .next (finish d 0 w) ∧ Paused c { x with paused := false } false s w := by
  have hctx : getCtx (dequeue d s) c = some x := h.2.2
  obtain ⟨hgo, hp⟩ := pushOp_first (d := d) (o := .resume d) hctx hops
  refine ⟨_, ?_, paused_pausedTo hops hp⟩
  rw [exec_ctxResume, runCtx_accepted h, hgo, opStep_resume hp]

/-! ### The path table (R399) -/

/-- A path that loses no package is replaced, and nothing else happens. -/
theorem newPath_grown {c : Nat} {x : Ctx} {path : List Pkg} (h : ∀ p ∈ x.path, p ∈ path) (s : State) :
    newPath c x path s = updCtx c (fun x => { x with path := path }) s := by
  have hnone : x.path.filter (fun p => !path.contains p) = [] := by simpa using h
  rw [newPath, hnone]
  rfl

/-- The path stands, and the lamplighter's PAUSE is the context's again. -/
def repiped (c : Nat) (b : Bool) (path : List Pkg) (s : State) : State :=
  setPause c b (updCtx c (fun x => { x with path := path }) (popOp c (setPause c true s)))

theorem repiped_frame (c : Nat) (b : Bool) (path : List Pkg) (s : State) : Frame [.ctxs, .lctx] s (repiped c b path s) :=
  .after (by decide) (setPause_frame _ _ _) <| .after (by decide) (updCtx_frame _ _ _) <|
    .after (by decide) (popOp_frame _ _) ((setPause_frame _ _ _).mono (by decide))

theorem getCtx_repiped {c : Nat} {b : Bool} {path : List Pkg} {x : Ctx} {s : State} (h : getCtx s c = some x) :
    getCtx (repiped c b path s) c = some { x with ops := x.ops.drop 1, path := path } := by
  have hq : getCtx (setPause c true s) c = some x := ((setPause_frame _ _ _).getCtx c (by decide)).trans h
  rw [repiped, (setPause_frame _ _ _).getCtx c (by decide), getCtx_updCtx, if_pos rfl, getCtx_popOp hq]
  rfl

theorem opStep_pipe {c : Nat} {d : Desc} {x : Ctx} {path : List Pkg} {s : State}
    (h : getCtx s c = some x) (hops : x.ops = [.pipe d path]) (hidle : launchIdle s c = true) (hgrown : ∀ p ∈ x.path, p ∈ path) :
    opStep c s = finish d 0 (repiped c x.paused path s) := by
  unfold opStep
  rw [h]
  dsimp only
  rw [hops]
  dsimp only [List.head?_cons]
  rw [if_pos ((launchIdle_setPause c c true s).trans hidle), newPath_grown hgrown]
  rfl

theorem doCtxPipeline_accepted {d : Desc} {id : W16} {path : List Pkg} {c : Nat} {x : Ctx} {s : State}
    (hacc : accepted .sys false false true d s = true) (hslot : slotOf s id = some c) (hctx : getCtx s c = some x) (hpath : path ≠ [])
    (hmax : path.length ≤ 4096) (hlen : d.inlen.toNat = 2 * path.length) (hnodup : path.Nodup) :
    doCtxPipeline d id path s = pushOp c d (.pipe d path) (dequeue d s) := by
  have hpos : 0 < path.length := List.length_pos_iff.2 hpath
  have hzero : d.inlen ≠ 0 := fun e => by
    simp only [e, BitVec.ofNat_eq_ofNat, BitVec.toNat_ofNat] at hlen
    omega
  rw [doCtxPipeline, runCtxId_accepted hacc hslot hctx, if_neg (by simp only [hpath, hzero, or_self, not_false_eq_true]),
    if_neg (by simp only [Nat.not_lt.2 hmax, hlen, hnodup, ne_eq, not_true_eq_false, or_self, not_false_eq_true])]

theorem ctxPipeline_finishes {d : Desc} {id : W16} {path : List Pkg} {c : Nat} {x : Ctx} {s : State}
    (hacc : accepted .sys false false true d s = true) (hslot : slotOf s id = some c) (hctx : getCtx s c = some x) (hops : x.ops = [])
    (hpath : path ≠ []) (hmax : path.length ≤ 4096) (hlen : d.inlen.toNat = 2 * path.length) (hnodup : path.Nodup)
    (hidle : launchIdle s c = true) (hgrown : ∀ p ∈ x.path, p ∈ path) :
    ∃ w, exec (.ctxPipeline d id path) s = .next (finish d 0 w) ∧ Paused c { x with path := path } x.paused s w := by
  have hctx' : getCtx (dequeue d s) c = some x := hctx
  obtain ⟨hgo, hp⟩ := pushOp_first (d := d) (o := .pipe d path) hctx' hops
  have hidle' : launchIdle (pushed c d (.pipe d path) (dequeue d s)) c = true :=
    ((pushed_frame _ _ _ _).launchIdle c (by decide)).trans hidle
  refine ⟨repiped c x.paused path (pushed c d (.pipe d path) (dequeue d s)), ?_, ?_, ?_, ?_⟩
  · rw [exec_ctxPipeline, doCtxPipeline_accepted hacc hslot hctx hpath hmax hlen hnodup, hgo, opStep_pipe hp rfl hidle' hgrown]
  · rw [getCtx_repiped hp, ← hops]
    rfl
  · exact pause_setPause _ _ _
  · exact .after (by decide) (repiped_frame _ _ _ _) <| .after (by decide) (pushed_frame _ _ _ _) ((dequeue_frame d s).mono (by decide))

end Sys2Proof.Machine
end

section
/-! SUPPORT. The creation of a context (R398, R253, R255), and the rings over a completion (R390). -/

namespace Sys2Proof.Machine

/-! ### Creation (R398) -/

theorem exec_ctxCreate (d : Desc) (a : CtxArg) (k : Digest) (s : State) : exec (.ctxCreate d a k) s = .next (doCtxCreate d a k s) := rfl

/-- A creation that R398 takes: every argument is given and in range, the rings and sconces it names are free, a slot is free, and the
weights keep within their sum. -/
structure CreateOk (d : Desc) (a : CtxArg) (c : Nat) (s : State) : Prop where
  sconces : a.sconces ≠ 0
  rings : a.rings ≠ 0
  batchmax : a.batchmax ≠ 0
  qmax : a.qmax ≠ 0
  vocab : a.vocab ≠ 0
  pfx : a.pfx = true → a.pfxlant ≠ 0
  inRange : createBad s d a = false
  ringsFree : ∀ r ∈ ringsOf a.rings, ringTaken s r = false
  stacksReady : stacksUp s = true
  sconcesFree : ∀ n ∈ maskBits 16 a.sconces.toNat, sconceTaken s n = false
  slot : freeSlotC s = some c
  weight : ctxWeight a ≠ 0
  sum : weightSum s c (ctxWeight a) ≤ 256

theorem doCtxCreate_accepted {d : Desc} {a : CtxArg} {k : Digest} {c : Nat} {s : State}
    (hacc : accepted .sys false false true d s = true) (h : CreateOk d a c (dequeue d s)) :
    doCtxCreate d a k s = complete d 0 0 [BitVec.ofNat 32 c] (createCtx c d a k (dequeue d s)) := by
  obtain ⟨hsconces, hrings, hbatch, hq, hvocab, hpfx, hbad, hfree, hup, hown, hslot, hweight, hsum⟩ := h
  have hargs : ¬ (a.sconces = 0 ∨ a.rings = 0 ∨ a.batchmax = 0 ∨ a.qmax = 0 ∨ a.vocab = 0 ∨ (a.pfx = true ∧ a.pfxlant = 0)) := by
    simp only [hsconces, hrings, hbatch, hq, hvocab, false_or, not_and]
    exact hpfx
  have hfree' : (ringsOf a.rings).any (ringTaken (dequeue d s)) = false := by simpa using hfree
  have hown' : (maskBits 16 a.sconces.toNat).any (sconceTaken (dequeue d s)) = false := by simpa using hown
  rw [doCtxCreate, runCmd_accepted hacc, if_neg hargs, if_neg (by simp [hbad]), if_neg (by simp [hfree']),
    if_neg (by simp [hup, hown']), hslot]
  dsimp only
  rw [if_neg (by omega)]

/-- A free slot is one of the sixteen. -/
theorem freeSlotC_lt {s : State} {c : Nat} (h : freeSlotC s = some c) : c < 16 :=
  List.mem_range.1 (List.mem_of_find?_eq_some h)

theorem le_sumN {n : Nat} {l : List Nat} (h : n ∈ l) : n ≤ sumN l := by
  induction l with
  | nil => cases h
  | cons x l ih =>
    rw [sumN]
    rcases List.mem_cons.1 h with rfl | h
    · omega
    · have := ih h
      omega

theorem le_weightSum {c : Nat} (hc : c < 16) (w : Nat) (s : State) : w ≤ weightSum s c w :=
  le_sumN (List.mem_map.2 ⟨c, List.mem_range.2 hc, if_pos rfl⟩)

/-- The slot's weight stands and the context with it (R159). -/
def slotTaken (c : Nat) (d : Desc) (a : CtxArg) (k : Digest) (s : State) : State :=
  let r := drawRandom s
  let n : W32 := BitVec.ofNat 32 r.1.toNat
  let t := updLctx c (fun x => { x with weight := BitVec.ofNat 9 (ctxWeight a) }) r.2
  setCtx c (some (ctxNew t d a k (if n = 0 then 1 else n))) t

/-- The context's sconces. -/
def ownSconces (i : CtxI) (ns : List Nat) (s : State) : State := ns.foldl (fun s n => ownSconce n i s) s

/-- The default slot map waits to come into force (R255). -/
def slotsDue (s : State) : State := { s with xbr := { s.xbr with slotNext := some (defaultSlots s) } }

/-- The context's rings. -/
def bindRings (i : CtxI) (rs : List RingI) (s : State) : State :=
  rs.foldl (fun s r => updRing r.val (fun g => { g with ctx := some i }) s) s

theorem createCtx_eq (c : Nat) (d : Desc) (a : CtxArg) (k : Digest) (s : State) : createCtx c d a k s =
    bindRings (Fin.ofNat 16 c) (ringsOf a.rings)
      (slotsDue (ownSconces (Fin.ofNat 16 c) (maskBits 16 a.sconces.toNat) (slotTaken c d a k s))) := rfl

theorem slotTaken_frame (c : Nat) (d : Desc) (a : CtxArg) (k : Digest) (s : State) :
    Frame [.ctxs, .lctx, .fresh] s (slotTaken c d a k s) :=
  .after (by decide) (frame_ctxs _ _) <| .after (by decide) (updLctx_frame _ c _) ((frame_fresh s _).mono (by decide))

/-- Once its owner stands, a sconce's stack and its lanterns alone change. -/
theorem ownSconce_after (n : Nat) (i : CtxI) (s : State) :
    Frame [.lans, .stks] (updScn n (fun x => { x with owner := some i }) s) (ownSconce n i s) := by
  unfold ownSconce
  dsimp only
  refine .after (by decide) (frame_foldl (ps := [.lans]) (fun a l => ?_) _ _) ((updStk_frame _ _ _).mono (by decide))
  exact updLan_frame a l _

theorem ownSconce_frame (n : Nat) (i : CtxI) (s : State) : Frame [.lans, .scn, .stks] s (ownSconce n i s) :=
  .after (by decide) (ownSconce_after n i s) ((updScn_frame s _ _).mono (by decide))

theorem ownSconces_frame (i : CtxI) (ns : List Nat) (s : State) : Frame [.lans, .scn, .stks] s (ownSconces i ns s) :=
  frame_foldl (fun a n => ownSconce_frame n i a) ns s

theorem bindRings_frame (i : CtxI) (rs : List RingI) (s : State) : Frame [.mbx] s (bindRings i rs s) := by
  refine frame_foldl (fun a r => ?_) rs s
  exact updRing_frame a r.val _

theorem createCtx_frame (c : Nat) (d : Desc) (a : CtxArg) (k : Digest) (s : State) :
    Frame [.lans, .ctxs, .lctx, .mbx, .scn, .stks, .xbr, .fresh] s (createCtx c d a k s) := by
  rw [createCtx_eq]
  exact .after (by decide) (bindRings_frame _ _ _) <| .after (by decide) (frame_xbr _ _) <|
    .after (by decide) (ownSconces_frame _ _ _) ((slotTaken_frame c d a k s).mono (by decide))

theorem Frame.getScn {ps : List Part} {s t : State} (h : Frame ps s t) (n : Nat) (hp : .scn ∉ ps) : getScn t n = getScn s n :=
  congrArg (fun x => Tab.get SconceR.init x n) (h .scn hp)

theorem Frame.getRing {ps : List Part} {s t : State} (h : Frame ps s t) (r : Nat) (hp : .mbx ∉ ps) : getRing t r = getRing s r :=
  congrArg (fun x : Mbx => Tab.get Ring.init x.rings r) (h .mbx hp)

/-- The rest of a creation leaves the slot as it was taken. -/
theorem createCtx_after_slotTaken (c : Nat) (d : Desc) (a : CtxArg) (k : Digest) (s : State) :
    Frame [.lans, .mbx, .scn, .stks, .xbr] (slotTaken c d a k s) (createCtx c d a k s) := by
  rw [createCtx_eq]
  exact .after (by decide) (bindRings_frame _ _ _) <| .after (by decide) (frame_xbr _ _) ((ownSconces_frame _ _ _).mono (by decide))

theorem getCtx_slotTaken_same (c : Nat) (d : Desc) (a : CtxArg) (k : Digest) (s : State) :
    ∃ y, getCtx (slotTaken c d a k s) c = some y ∧ y.ctxid = a.ctxid ∧ y.sconces = a.sconces ∧ y.path = [] ∧ y.epochs = [] ∧
      y.kernels = [] ∧ y.born = nowC s := by
  rw [slotTaken, getCtx_setCtx, if_pos rfl]
  exact ⟨_, rfl, rfl, rfl, rfl, rfl, rfl, rfl⟩

theorem getCtx_slotTaken_other {c i : Nat} (h : i ≠ c) (d : Desc) (a : CtxArg) (k : Digest) (s : State) :
    getCtx (slotTaken c d a k s) i = getCtx s i := by
  rw [slotTaken, getCtx_setCtx, if_neg h]
  rfl

theorem weight_slotTaken {c : Nat} {a : CtxArg} (h : ctxWeight a ≤ 256) (d : Desc) (k : Digest) (s : State) :
    (getLctx (slotTaken c d a k s) c).weight.toNat = ctxWeight a := by
  rw [slotTaken, getLctx_setCtx, getLctx_updLctx, if_pos rfl]
  exact (BitVec.toNat_ofNat _ 9).trans (Nat.mod_eq_of_lt (by omega))

theorem owner_ownSconce (n m : Nat) (i : CtxI) (s : State) :
    (getScn (ownSconce n i s) m).owner = if m = n then some i else (getScn s m).owner := by
  rw [(ownSconce_after n i s).getScn m (by decide), getScn_updScn]
  split <;> rfl

theorem owner_ownSconces {n : Nat} {ns : List Nat} (h : n ∈ ns) (i : CtxI) (s : State) :
    (getScn (ownSconces i ns s) n).owner = some i := by
  refine foldl_reaches (I := fun _ => True) (P := fun t => (getScn t n).owner = some i) (x := n) (fun _ _ _ => trivial)
    (fun t m ht => ?_) (fun t _ => ?_) h trivial
  · rw [owner_ownSconce, ht, ite_self]
  · rw [owner_ownSconce, if_pos rfl]

theorem ctx_bindRings {r : RingI} {rs : List RingI} (h : r ∈ rs) (i : CtxI) (s : State) :
    (getRing (bindRings i rs s) r.val).ctx = some i := by
  refine foldl_reaches (I := fun _ => True) (P := fun t => (getRing t r.val).ctx = some i) (x := r) (fun _ _ _ => trivial)
    (fun t q ht => ?_) (fun t _ => ?_) h trivial
  · rw [getRing_updRing]
    split
    · rfl
    · exact ht
  · rw [getRing_updRing, if_pos rfl]

theorem owner_createCtx {c : Nat} {d : Desc} {a : CtxArg} {k : Digest} {s : State} {n : Nat}
    (h : n ∈ maskBits 16 a.sconces.toNat) : (getScn (createCtx c d a k s) n).owner = some (Fin.ofNat 16 c) := by
  rw [createCtx_eq, (bindRings_frame _ _ _).getScn n (by decide)]
  exact owner_ownSconces h _ _

theorem ringCtx_createCtx {c : Nat} {d : Desc} {a : CtxArg} {k : Digest} {s : State} {r : RingI} (h : r ∈ ringsOf a.rings) :
    (getRing (createCtx c d a k s) r.val).ctx = some (Fin.ofNat 16 c) := by
  rw [createCtx_eq]
  exact ctx_bindRings h _ _

/-! ### Rings over a completion -/

theorem ringCtx_dropProg (d : Desc) (r : Nat) (s : State) : (getRing (dropProg d s) r).ctx = (getRing s r).ctx := by
  refine ringCtx_updRing (fun g => ?_) _ r s
  rfl

theorem ringCtx_holdCpl (q : RingI) (v : Cpl) (r : Nat) (s : State) : (getRing (holdCpl q v s) r).ctx = (getRing s r).ctx := by
  refine ringCtx_updRing (fun g => ?_) _ r s
  rfl

theorem ringCtx_postRaw (q : RingI) (v : Cpl) (r : Nat) (s : State) : (getRing (postRaw q v s) r).ctx = (getRing s r).ctx := by
  unfold postRaw
  dsimp only
  rw [(gvlSig_frame _ _ _).getRing r (by decide), (show Frame [.gvl] _ (gvlWriteLine _ _ _) from frame_gvl _ _).getRing r (by decide)]
  refine (ringCtx_updRing (fun g => ?_) _ r _).trans ?_
  · rfl
  · exact congrArg Ring.ctx ((frame_posted s _).getRing r (by decide))

/-- No ring changes its context by a completion. -/
theorem ringCtx_complete (d : Desc) (st : W16) (used : Nat) (res : List W32) (r : Nat) (s : State) :
    (getRing (complete d st used res s) r).ctx = (getRing s r).ctx := by
  unfold complete postCpl
  split
  · exact ringCtx_dropProg d r s
  · split
    · exact (ringCtx_holdCpl _ _ r _).trans (ringCtx_dropProg d r s)
    · exact (ringCtx_postRaw _ _ r _).trans (ringCtx_dropProg d r s)

end Sys2Proof.Machine
end

section
/-! SUPPORT. The teardown of a context (R401, R42, R146, R472), and the settlement of O23. -/

namespace Sys2Proof.Machine

theorem exec_ctxDestroy (d : Desc) (id : W16) (s : State) : exec (.ctxDestroy d id) s = .next (doCtxDestroy d id s) := rfl

/-! ### Ending what a context has in progress -/

/-- What ending a context's requests, admissions and threads may touch. -/
def Part.ending : List Part := [.lans, .engs, .lctx, .xbr, .fab, .gvl, .mbx, .ctxs, .posted]

/-- The other contexts stay, and of this one the commands that wait for it and its flares in progress. -/
structure Ending (c : Nat) (s t : State) : Prop where
  others : ∀ i, i ≠ c → getCtx t i = getCtx s i
  ops : (getCtx t c).map (fun x => x.ops) = (getCtx s c).map (fun x => x.ops)
  runs : (getLctx t c).runs = (getLctx s c).runs
  frame : Frame Part.ending s t

section
variable {c : Nat} {s t u : State}

theorem Ending.refl (c : Nat) (s : State) : Ending c s s := ⟨fun _ _ => rfl, rfl, rfl, Frame.refl _ s⟩

theorem Ending.trans (h : Ending c s t) (k : Ending c t u) : Ending c s u :=
  ⟨fun i hi => (k.others i hi).trans (h.others i hi), k.ops.trans h.ops, k.runs.trans h.runs,
    h.frame.step k.frame (List.Subset.refl _)⟩

/-- The same, the last operation named first. -/
theorem Ending.after (k : Ending c t u) (h : Ending c s t) : Ending c s u := h.trans k

/-- An operation that touches neither the contexts nor the lamplighter's slots. -/
theorem Ending.of_frame {ps : List Part} (h : Frame ps s t) (hs : ps ⊆ Part.ending) (hctxs : .ctxs ∉ ps) (hlctx : .lctx ∉ ps) :
    Ending c s t :=
  ⟨fun i _ => h.getCtx i hctxs, congrArg _ (h.getCtx c hctxs), congrArg _ (h.getLctx c hlctx), h.mono hs⟩

theorem Ending.ite {p : Prop} [Decidable p] (h : Ending c s t) (k : Ending c s u) : Ending c s (if p then t else u) := by
  split
  · exact h
  · exact k

theorem ending_foldl {α : Type} {g : State → α → State} (hg : ∀ s x, Ending c s (g s x)) (l : List α) (s : State) :
    Ending c s (l.foldl g s) :=
  foldl_keeps (I := Ending c s) (fun t x ht => ht.trans (hg t x)) l (Ending.refl c s)

end

section
variable (c : Nat)

theorem ending_updCtx {f : Ctx → Ctx} (s : State) (hf : ∀ x, (f x).ops = x.ops := by intro x; rfl) : Ending c s (updCtx c f s) := by
  refine ⟨fun i hi => ?_, ?_, congrArg _ ((updCtx_frame s c f).getLctx c (by decide)), (updCtx_frame s c f).mono (by decide)⟩
  · rw [getCtx_updCtx, if_neg hi]
  · rw [getCtx_updCtx, if_pos rfl, Option.map_map]
    exact congrArg (fun g => (getCtx s c).map g) (funext hf)

theorem ending_updLctx {f : LmpCtx → LmpCtx} (s : State) (hf : ∀ x, (f x).runs = x.runs := by intro x; rfl) : Ending c s (updLctx c f s) := by
  refine ⟨fun i _ => rfl, rfl, ?_, (updLctx_frame s c f).mono (by decide)⟩
  rw [getLctx_updLctx, if_pos rfl, hf]

theorem ending_complete (d : Desc) (st : W16) (used : Nat) (res : List W32) (s : State) : Ending c s (complete d st used res s) :=
  .of_frame (complete_frame d st used res s) (by decide) (by decide) (by decide)

theorem ending_updAdm (num : W16) (f : AdmRec → AdmRec) (s : State) : Ending c s (updAdm c num f s) :=
  ending_updCtx c s

theorem ending_updRelNum (num : W16) (f : RelRec → RelRec) (s : State) : Ending c s (updRelNum c num f s) :=
  ending_updCtx c s

theorem ending_endAdm (a : AdmRec) (st : W16) (s : State) : Ending c s (endAdm c a st s) := by
  have hresumed (t : State) : Ending c t (match a.resumed with
      | some d => finish d 0x0503 (updAdm c a.num (fun a => { a with resumed := none }) t)
      | none => t) := by
    split
    · exact (ending_updAdm c _ _ t).trans (ending_complete c _ _ _ _ _)
    · exact Ending.refl c t
  unfold endAdm
  exact .after ((ending_complete c _ _ _ _ _).ite (Ending.refl c _)) <| .after (hresumed _) <|
    .after (ending_updCtx c _) (ending_updAdm c _ _ s)

theorem noticePath_frame (kind : Nat) (q : ReqId) (tindex : W32) (code : W16) (s : State) :
    Frame [.fab] s (noticePath c kind q tindex code s) := by
  unfold noticePath
  split
  · exact Frame.refl _ s
  · exact frame_foldl (fun a p => sendNotice_frame kind p q tindex 0 0 code a) _ s

theorem retireNotices_frame (ctxid : W16) (r : RelRec) (e : Nat) (s : State) : Frame [.fab] s (retireNotices c ctxid r e s) := by
  have hcommit (q : ReqId) (ti : W32) (code : W16) :
      Frame [.fab] s (if r.released = [] then s else noticePath c 0x21 q ti code s) :=
    (Frame.refl _ s).ite (noticePath_frame c _ _ _ _ s)
  unfold retireNotices
  exact Frame.ite (hcommit _ _ _) (.after (List.Subset.refl _) (noticePath_frame c _ _ _ _ _) (hcommit _ _ _))

theorem freeFlare_frame (r : FlareReq) (s : State) : Frame [.lans, .xbr] s (freeFlare s r) := by
  refine frame_foldl (fun a ll => ?_) r.lans s
  split
  · exact Frame.refl _ a
  · exact .after (by decide) (frame_xbr _ _) ((updLan_frame a _ _).mono (by decide))

theorem ending_dropQueued (inst : W32) (s : State) : Ending c s (dropQueued c inst s) := by
  unfold dropQueued
  dsimp only
  exact .after (ending_updLctx c _)
    (.of_frame (frame_foldl (fun a r => freeFlare_frame r a) _ s) (by decide) (by decide) (by decide))

theorem ending_retireRel (num : W16) (e : Nat) (s : State) : Ending c s (retireRel c num e s) := by
  unfold retireRel
  split
  · exact Ending.refl c s
  · split
    · exact Ending.refl c s
    · dsimp only
      exact .after ((ending_complete c _ _ _ _ _).ite (Ending.refl c _)) <| .after (ending_updCtx c _) <|
        .after (ending_updRelNum c _ _ _) <| .after ((ending_dropQueued c _ _).ite (Ending.refl c _)) <|
        .of_frame (retireNotices_frame c _ _ _ s) (by decide) (by decide) (by decide)

theorem ending_endAdms (s : State) : Ending c s (endAdms c s) := by
  unfold endAdms
  split
  · exact Ending.refl c s
  · exact ending_foldl (fun a r => ending_endAdm c r 0x04 a) _ s

theorem ending_endRels (s : State) : Ending c s (endRels c s) := by
  unfold endRels
  split
  · exact Ending.refl c s
  · exact ending_foldl (fun a (r : RelRec) => ending_retireRel c r.num 6 a) _ s

theorem stopThreads_frame (l : Nat) (s : State) : Frame [.engs] s (stopThreads l s) :=
  .after (by decide) (updEng_frame _ _ _) (frame_foldl (fun a (p : Nat × Thread) => recordFault_frame l p.1 8 a) _ s)

end

/-! ### Rings that are unbound -/

theorem unbindRing_frame (r : RingI) (s : State) : Frame [.gvl, .mbx, .posted] s (unbindRing s r) := by
  unfold unbindRing
  dsimp only
  refine .after (by decide) (updRing_frame _ _ _) <|
    .after (List.Subset.refl _) (frame_foldl (fun a d => ?_) _ _) (frame_foldl (fun a d => ?_) _ s)
  · exact complete_frame d _ _ _ a
  · exact .after (List.Subset.refl _) (complete_frame d _ _ _ _) ((dequeue_frame d a).mono (by decide))

theorem ringCtx_unbindRing (q : RingI) (r : Nat) (s : State) :
    (getRing (unbindRing s q) r).ctx = if r = q.val then none else (getRing s r).ctx := by
  unfold unbindRing
  dsimp only
  rw [getRing_updRing]
  split
  · rfl
  · refine foldl_keeps (I := fun t => (getRing t r).ctx = (getRing s r).ctx) (fun t d ht => ?_) _ <|
      foldl_keeps (I := fun t => (getRing t r).ctx = (getRing s r).ctx) (fun t d ht => ?_) _ rfl
    · exact (ringCtx_complete d _ _ _ r t).trans ht
    · exact ((ringCtx_complete d _ _ _ r _).trans (ringCtx_dequeue d t r)).trans ht

/-- Every ring bound to the context is unbound. -/
def unbindAll (c : Nat) (s : State) : State :=
  (List.finRange 64).foldl (fun s r => if (getRing s r.val).ctx.map (fun i => i.val) == some c then unbindRing s r else s) s

theorem unbindAll_frame (c : Nat) (s : State) : Frame [.gvl, .mbx, .posted] s (unbindAll c s) :=
  frame_foldl (fun a r => (unbindRing_frame r a).ite (Frame.refl _ a)) _ s

theorem ringCtx_unbindAll (c : Nat) (r : RingI) (s : State) : (getRing (unbindAll c s) r.val).ctx.map (fun i => i.val) ≠ some c := by
  refine foldl_reaches (I := fun _ => True) (P := fun t => (getRing t r.val).ctx.map (fun i => i.val) ≠ some c) (x := r)
    (fun _ _ _ => trivial) (fun t q ht => ?_) (fun t _ => ?_) (List.mem_finRange r) trivial
  · split
    · rw [ringCtx_unbindRing]
      split
      · exact nofun
      · exact ht
    · exact ht
  · split
    · rw [ringCtx_unbindRing, if_pos rfl]
      exact nofun
    · next h => simpa using h

/-! ### The first part of a teardown -/

/-- The commands that wait for a context that goes: those that would pause or resume it are dropped. -/
def keptOps (l : List CtxOp) : List CtxOp :=
  l.filter (fun o => match o with | .pause _ => false | .resume _ => false | .pipe _ _ => true | .destroy _ => true)

/-- The requests, admissions and threads of the context have ended, and its rings are free. -/
def dismissed (c : Nat) (s : State) : State :=
  let t := updLctx c (fun x => { x with pause := true }) s
  unbindAll c (((sconcesOf t c).flatMap lansOf).foldl (fun s l => stopThreads l s) (endRels c (endAdms c t)))

/-- A context that is dying: what it held for its requests goes. -/
def emptiedCtx (x : Ctx) : Ctx :=
  { x with dying := true, prefixes := [], nodes := [], acts := [], waitRel := [], waitPfx := [], unloads := [], wave := none,
           ops := keptOps x.ops }

/-- The context is dying, and its queues are empty. -/
def emptied (c : Nat) (s : State) : State := updCtx c emptiedCtx (updLctx c (fun x => { x with queue := [], refire := [] }) s)

/-- The context's attention state and its invocations go. -/
def forgotten (c : Nat) (s : State) : State :=
  { s with attn := s.attn.filter (fun t => t.ctx.val != c), invs := s.invs.filter (fun v => v.ctx.val != c) }

theorem destroyBegin_eq (c : Nat) (s : State) : destroyBegin c s = forgotten c (emptied c (dismissed c s)) := rfl

theorem ending_dismissed (c : Nat) (s : State) : Ending c s (dismissed c s) := by
  have hstop (ls : List Nat) (t : State) : Ending c t (ls.foldl (fun s l => stopThreads l s) t) :=
    .of_frame (frame_foldl (fun a l => stopThreads_frame l a) ls t) (by decide) (by decide) (by decide)
  exact .after (.of_frame (unbindAll_frame c _) (by decide) (by decide) (by decide)) <| .after (hstop _ _) <|
    .after (ending_endRels c _) <| .after (ending_endAdms c _) (ending_updLctx c s)

theorem forgotten_frame (c : Nat) (s : State) : Frame [.attn, .invs] s (forgotten c s) := by
  intro p hp; cases p <;> simp [forgotten] at hp ⊢ <;> rfl

theorem emptied_frame (c : Nat) (s : State) : Frame [.ctxs, .lctx] s (emptied c s) :=
  .after (by decide) (updCtx_frame _ _ _) ((updLctx_frame s _ _).mono (by decide))

theorem getCtx_emptied (c i : Nat) (s : State) : getCtx (emptied c s) i =
    if i = c then (getCtx s c).map emptiedCtx else getCtx s i :=
  getCtx_updCtx _ _ _ _

theorem runs_emptied (c : Nat) (s : State) : (getLctx (emptied c s) c).runs = (getLctx s c).runs := by
  rw [emptied, getLctx_updCtx, getLctx_updLctx, if_pos rfl]

/-- What the first part of a teardown may touch. -/
def Part.dismissing : List Part := [.attn, .invs] ++ Part.ending

/-- After the first part of a teardown the context stands with its teardown alone waiting, no ring is bound to it, and no flare of it
has begun since. -/
structure Dismissed (c : Nat) (d : Desc) (s t : State) : Prop where
  others : ∀ i, i ≠ c → getCtx t i = getCtx s i
  waits : ∃ y, getCtx t c = some y ∧ y.ops = [.destroy d]
  runs : (getLctx t c).runs = (getLctx s c).runs
  rings : ∀ r : RingI, (getRing t r.val).ctx.map (fun i => i.val) ≠ some c
  frame : Frame Part.dismissing s t

theorem destroyBegin_dismisses {c : Nat} {d : Desc} {x : Ctx} {s : State} (hctx : getCtx s c = some x) (hops : x.ops = [.destroy d]) :
    Dismissed c d s (destroyBegin c s) := by
  obtain ⟨hothers, hmap, hruns, hframe⟩ := ending_dismissed c s
  rw [hctx, Option.map_some, hops] at hmap
  obtain ⟨y, hy, hyops⟩ := Option.map_eq_some_iff.1 hmap
  have hforgot := forgotten_frame c (emptied c (dismissed c s))
  rw [destroyBegin_eq]
  refine ⟨fun i hi => ?_, ⟨emptiedCtx y, ?_, ?_⟩, ?_, fun r => ?_, ?_⟩
  · rw [hforgot.getCtx i (by decide), getCtx_emptied, if_neg hi, hothers i hi]
  · rw [hforgot.getCtx c (by decide), getCtx_emptied, if_pos rfl, hy]
    rfl
  · rw [emptiedCtx, hyops]
    rfl
  · rw [hforgot.getLctx c (by decide), runs_emptied, hruns]
  · rw [hforgot.getRing r.val (by decide), (emptied_frame c _).getRing r.val (by decide)]
    exact ringCtx_unbindAll c r _
  · exact .after (by decide) hforgot <| .after (by decide) (emptied_frame c _) (hframe.mono (by decide))

/-! ### The teardown proper -/

theorem teardownWick_frame (l w : Nat) (s : State) : Frame [.wicks, .flash] s (teardownWick l w s) := by
  unfold teardownWick
  exact Frame.ite (.after (by decide) (updRecWick_frame _ _ _ _) ((setWick_frame s _ _ _).mono (by decide)))
    ((setWick_frame s _ _ _).mono (by decide))

theorem teardownLan_frame (l : Nat) (s : State) : Frame [.wicks, .lans, .engs, .flash] s (teardownLan s l) :=
  .after (by decide) (updEng_frame _ _ _) <| .after (by decide) (updLan_frame _ _ _)
    ((frame_foldl (fun a w => teardownWick_frame l w a) _ s).mono (by decide))

theorem freeSconce_after (n : Nat) (s : State) : Frame [.lans] (updScn n (fun x => { x with owner := none }) s) (freeSconce n s) := by
  unfold freeSconce
  dsimp only
  refine frame_foldl (fun a l => ?_) _ _
  exact updLan_frame a l _

theorem freeSconce_frame (n : Nat) (s : State) : Frame [.lans, .scn] s (freeSconce n s) :=
  .after (by decide) (freeSconce_after n s) ((updScn_frame s _ _).mono (by decide))

/-- What the teardown of a sconce may touch. -/
def Part.scrubbing : List Part := [.wicks, .lans, .engs, .flash, .scn]

theorem teardownSconce_frame (d : Desc) (n : Nat) (s : State) : Frame Part.scrubbing s (teardownSconce d s n) := by
  have hlans : Frame [.wicks, .lans, .engs, .flash] s ((lansOf n).foldl teardownLan s) :=
    frame_foldl (fun a l => teardownLan_frame l a) (lansOf n) s
  unfold teardownSconce
  exact .after (by decide) (updScn_frame _ _ _) <| .after (by decide) (freeSconce_frame _ _) (hlans.mono (by decide))

/-- The sconce is free and its scrub runs (R264, R401). -/
def Scrubs (n : Nat) (s : State) : Prop := (getScn s n).owner = none ∧ (getScn s n).scrub = true

theorem getScn_teardownSconce (d : Desc) (n m : Nat) (s : State) : getScn (teardownSconce d s n) m =
    if m = n then { getScn s n with owner := none, scrub := true, scrubCmd := some d, raiseDue := false } else getScn s m := by
  have hlans (k : Nat) : getScn ((lansOf n).foldl teardownLan s) k = getScn s k :=
    (frame_foldl (fun a l => teardownLan_frame l a) _ s).getScn k (by decide)
  have hfree (k : Nat) (t : State) : getScn (freeSconce n t) k = if k = n then { getScn t n with owner := none } else getScn t k := by
    rw [(freeSconce_after n t).getScn k (by decide), getScn_updScn]
  unfold teardownSconce
  dsimp only
  rw [getScn_updScn]
  split
  · rw [hfree, if_pos rfl, hlans]
  · next h => rw [hfree, if_neg h, hlans]

theorem scrubs_teardownSconces {n : Nat} {ns : List Nat} (h : n ∈ ns) (d : Desc) (s : State) : Scrubs n (ns.foldl (teardownSconce d) s) := by
  refine foldl_reaches (I := fun _ => True) (P := Scrubs n) (x := n) (fun _ _ _ => trivial) (fun t m ht => ?_) (fun t _ => ?_) h trivial
  · unfold Scrubs
    rw [getScn_teardownSconce]
    split
    · exact ⟨rfl, rfl⟩
    · exact ht
  · unfold Scrubs
    rw [getScn_teardownSconce, if_pos rfl]
    exact ⟨rfl, rfl⟩

theorem teardownTables_frame (c : Nat) (ctxid : W16) (ls : List Nat) (s : State) :
    Frame [.fab, .xbr, .chk, .lmp] s (teardownTables c ctxid ls s) := by
  intro p hp; cases p <;> simp at hp <;> rfl

theorem dirRecall_frame (k : Nat) (why : Recall) (s : State) : Frame [.gvl] s (dirRecall k why s) := by
  unfold dirRecall
  split
  · exact Frame.refl _ s
  · exact (Frame.refl _ s).ite (frame_gvl s _)

theorem setWindow_frame (i : Nat) (v : BitVec 128) (s : State) : Frame [.xbr, .gvl] s (setWindow i v s) := by
  unfold setWindow
  exact Frame.ite ((frame_xbr s _).mono (by decide)) <|
    .after (by decide) (frame_foldl (fun a k => dirRecall_frame k .evict a) _ _) ((frame_xbr s _).mono (by decide))

theorem scrubCheck_frame (o : Option Desc) (s : State) : Frame [.gvl, .mbx, .posted] s (scrubCheck o s) := by
  unfold scrubCheck
  split
  · exact Frame.refl _ s
  · exact (Frame.refl _ s).ite (finish_frame _ _ s)

theorem ringCtx_scrubCheck (o : Option Desc) (r : Nat) (s : State) : (getRing (scrubCheck o s) r).ctx = (getRing s r).ctx := by
  unfold scrubCheck
  split
  · rfl
  · split
    · rfl
    · exact ringCtx_complete _ _ _ _ r s

/-- What the fabric, the crossbar, the checks and the windows hold of the context is gone. -/
def untabled (c : Nat) (x : Ctx) (s : State) : State :=
  let t := teardownTables c x.ctxid ((sconcesOf s c).flatMap lansOf) s
  ((keysOf t.xbr.windows).filter (fun k => k / 32 == c)).foldl (fun s k => setWindow k 0 s) t

/-- The slot is empty. -/
def vacated (c : Nat) (s : State) : State :=
  updLctx c (fun y => { LmpCtx.init with floorsel := y.floorsel, launches := y.launches }) (setCtx c none s)

/-- With no other command waiting, a teardown ends in these steps. -/
theorem destroyEnd_alone {c : Nat} {x : Ctx} {d : Desc} (h : x.ops = [.destroy d]) (s : State) : destroyEnd c x d s =
    scrubCheck (some d) (vacated c ((sconcesOf s c).foldl (teardownSconce d) (untabled c x s))) := by
  unfold destroyEnd
  rw [h]
  rfl

theorem untabled_frame (c : Nat) (x : Ctx) (s : State) : Frame [.fab, .xbr, .chk, .lmp, .gvl] s (untabled c x s) :=
  .after (by decide) (frame_foldl (fun a k => setWindow_frame k 0 a) _ _) ((teardownTables_frame _ _ _ s).mono (by decide))

theorem teardownSconces_frame (d : Desc) (ns : List Nat) (s : State) : Frame Part.scrubbing s (ns.foldl (teardownSconce d) s) :=
  frame_foldl (fun a n => teardownSconce_frame d n a) ns s

theorem vacated_frame (c : Nat) (s : State) : Frame [.ctxs, .lctx] s (vacated c s) :=
  .after (by decide) (updLctx_frame _ _ _) ((frame_ctxs s _).mono (by decide))

theorem getCtx_vacated (c i : Nat) (s : State) : getCtx (vacated c s) i = if i = c then none else getCtx s i := by
  rw [vacated, getCtx_updLctx, getCtx_setCtx]

/-- What a teardown proper leaves. -/
structure TornDown (c : Nat) (s u : State) : Prop where
  gone : getCtx u c = none
  scrubs : ∀ n ∈ sconcesOf s c, Scrubs n u
  others : ∀ i, i ≠ c → getCtx u i = getCtx s i
  rings : ∀ r, (getRing u r).ctx = (getRing s r).ctx
  frame : Frame [.wicks, .lans, .engs, .lmp, .lctx, .chk, .scn, .xbr, .fab, .gvl, .mbx, .ctxs, .posted, .flash] s u

theorem destroyEnd_tearsDown {c : Nat} {x : Ctx} {d : Desc} (h : x.ops = [.destroy d]) (s : State) :
    TornDown c s (destroyEnd c x d s) := by
  have hends := scrubCheck_frame (some d) (vacated c ((sconcesOf s c).foldl (teardownSconce d) (untabled c x s)))
  have hvac := vacated_frame c ((sconcesOf s c).foldl (teardownSconce d) (untabled c x s))
  have htorn := teardownSconces_frame d (sconcesOf s c) (untabled c x s)
  rw [destroyEnd_alone h]
  refine ⟨?_, fun n hn => ?_, fun i hi => ?_, fun r => ?_, ?_⟩
  · rw [hends.getCtx c (by decide), getCtx_vacated, if_pos rfl]
  · unfold Scrubs
    rw [hends.getScn n (by decide), hvac.getScn n (by decide)]
    exact scrubs_teardownSconces hn d _
  · rw [hends.getCtx i (by decide), getCtx_vacated, if_neg hi, htorn.getCtx i (by decide), (untabled_frame c x s).getCtx i (by decide)]
  · rw [ringCtx_scrubCheck, hvac.getRing r (by decide), htorn.getRing r (by decide), (untabled_frame c x s).getRing r (by decide)]
  · exact .after (by decide) hends <| .after (by decide) hvac <| .after (by decide) htorn ((untabled_frame c x s).mono (by decide))

/-! ### CTX.DESTROY of an idle context -/

theorem opStep_destroy {c : Nat} {d : Desc} {x y : Ctx} {s : State} (hctx : getCtx s c = some x) (hops : x.ops = [.destroy d])
    (hdying : x.dying = false) (hruns : (getLctx (destroyBegin c s) c).runs = []) (hy : getCtx (destroyBegin c s) c = some y) :
    opStep c s = destroyEnd c y d (destroyBegin c s) := by
  unfold opStep
  rw [hctx]
  dsimp only
  rw [hops]
  dsimp only [List.head?_cons]
  simp only [hdying, Bool.false_eq_true, if_false, hruns, List.isEmpty_nil, if_true, hy]

theorem Frame.sconcesOf {ps : List Part} {s t : State} (h : Frame ps s t) (c : Nat) (hp : .scn ∉ ps) : sconcesOf t c = sconcesOf s c := by
  unfold Machine.sconcesOf
  simp only [h.getScn _ hp]

/-- A context with nothing in progress is gone after CTX.DESTROY, its sconces free and scrubbing, its rings unbound. -/
theorem doCtxDestroy_idle {d : Desc} {id : W16} {c : Nat} {x : Ctx} {s : State} (hacc : accepted .sys false false false d s = true)
    (hslot : slotOf s id = some c) (hctx : getCtx s c = some x) (hops : x.ops = []) (hdying : x.dying = false)
    (hruns : (getLctx s c).runs = []) :
    getCtx (doCtxDestroy d id s) c = none ∧ (∀ n ∈ sconcesOf s c, Scrubs n (doCtxDestroy d id s)) ∧
      (∀ r : RingI, (getRing (doCtxDestroy d id s) r.val).ctx.map (fun i => i.val) ≠ some c) ∧
      (∀ i, i ≠ c → getCtx (doCtxDestroy d id s) i = getCtx s i) ∧
      Frame [.wicks, .lans, .engs, .lmp, .lctx, .chk, .scn, .xbr, .fab, .gvl, .mbx, .ctxs, .invs, .attn, .posted, .flash] s
        (doCtxDestroy d id s) := by
  have hctx' : getCtx (dequeue d s) c = some x := hctx
  obtain ⟨hgo, hp⟩ := pushOp_first (d := d) (o := .destroy d) hctx' hops
  have hpush : Frame [.mbx, .ctxs] s (pushed c d (.destroy d) (dequeue d s)) :=
    .after (by decide) (pushed_frame _ _ _ _) ((dequeue_frame d s).mono (by decide))
  obtain ⟨hothers, ⟨y, hy, hyops⟩, hruns', hrings, hframe⟩ := destroyBegin_dismisses hp rfl
  rw [hpush.getLctx c (by decide), hruns] at hruns'
  obtain ⟨hgone, hscrubs, hothers', hrings', hframe'⟩ := destroyEnd_tearsDown (c := c) hyops
    (destroyBegin c (pushed c d (.destroy d) (dequeue d s)))
  have hrun : doCtxDestroy d id s = destroyEnd c y d (destroyBegin c (pushed c d (.destroy d) (dequeue d s))) := by
    rw [doCtxDestroy, runCtxId_accepted hacc hslot hctx, hgo, opStep_destroy hp rfl hdying hruns' hy]
  rw [hrun]
  refine ⟨hgone, fun n hn => hscrubs n ?_, fun r => ?_, fun i hi => ?_, ?_⟩
  · rwa [hframe.sconcesOf c (by decide), hpush.sconcesOf c (by decide)]
  · rw [hrings']
    exact hrings r
  · rw [hothers' i hi, hothers i hi, getCtx_pushed, if_neg hi]
    rfl
  · exact .after (by decide) hframe' <| .after (by decide) hframe (hpush.mono (by decide))

/-! ### O23 -/

/-- Settles O23: each command passes the mailbox's checks (`runCmd_accepted` and its forms for a context's ring and a context's ID)
and its main path is the equation of its own function; a teardown is its two halves, `destroyBegin_dismisses` and
`destroyEnd_tearsDown`. -/
theorem contextCommands : Obligations.ContextCommands := by
  unfold Obligations.ContextCommands
  refine ⟨?create, ?destroy, ?pipeline, ?weight, ?pause, ?resume, ?kload, ?kunload, ?krun, ?attest, ?embers⟩
  case create =>
    intro s d a k c t hacc hsconces hrings hbatch hq hvocab hpfx hbad hfree hup hown hslot hweight hsum
    have hok : CreateOk d a c (dequeue d s) :=
      ⟨hsconces, hrings, hbatch, hq, hvocab, hpfx, hbad, hfree, hup, hown, hslot, hweight, hsum⟩
    have hc : c < 16 := freeSlotC_lt hslot
    have hval : (Fin.ofNat 16 c).val = c := Nat.mod_eq_of_lt hc
    have hmax : ctxWeight a ≤ 256 := (le_weightSum hc _ _).trans hsum
    have hlater := createCtx_after_slotTaken c d a k (dequeue d s)
    refine ⟨createCtx c d a k (dequeue d s), ?_, ?_, fun i hi => ?_, fun n hn => ?_, fun r hr => ?_, ?_, ?_⟩
    · rw [exec_ctxCreate, doCtxCreate_accepted hacc hok]
    · rw [hlater.getCtx c (by decide)]
      exact getCtx_slotTaken_same c d a k _
    · rw [hlater.getCtx i (by decide), getCtx_slotTaken_other hi]
      rfl
    · rw [owner_createCtx hn, Option.map_some, hval]
    · rw [ringCtx_createCtx hr, Option.map_some, hval]
    · rw [hlater.getLctx c (by decide), weight_slotTaken hmax]
    · exact .after (by decide) (createCtx_frame c d a k _) ((dequeue_frame d s).mono (by decide))
  case destroy =>
    intro s d id c x hacc hslot hctx hops hdying hruns
    obtain ⟨hgone, hscrubs, hrings, hothers, hframe⟩ := doCtxDestroy_idle hacc hslot hctx hops hdying hruns
    exact ⟨_, exec_ctxDestroy d id s, hgone, hscrubs, hrings, hothers, hframe.mono (by decide)⟩
  case pipeline =>
    intro s d id path c x hacc hslot hctx hops hpath hmax hlen hnodup hidle hgrown
    exact ctxPipeline_finishes hacc hslot hctx hops hpath hmax hlen hnodup hidle hgrown
  case weight =>
    intro s d id w c x hacc hslot hctx
    rw [exec_ctxWeight, doCtxWeight_accepted hacc hslot hctx]
  case pause =>
    intro s d c x h hops hidle
    exact ctxPause_finishes h hops hidle
  case resume =>
    intro s d c x h hops
    exact ctxResume_finishes h hops
  case kload =>
    intro s d c x k p h hlen hcode hentries hthreads hbad hsigs hkeys hroom hplace
    refine ⟨loaded c x k p (dequeue d s), ?_, ctxKload_stores h⟩
    rw [exec_ctxKload, doKload_accepted h hlen hcode hentries hthreads hbad hsigs hkeys hroom hplace]
  case kunload =>
    intro s d c x h k ha hk hun hidle
    refine ⟨unloaded c h (unloadAsked c h d (dequeue d s)), ?_, ?_, ?_⟩
    · rw [exec_ctxKunload, doKunload_accepted ha hk hun hidle]
    · exact getCtx_unloaded (getCtx_unloadAsked h ha.2.2)
    · exact .after (by decide) (unloaded_frame c h _) <| .after (by decide) (unloadAsked_frame c h d _)
        ((dequeue_frame d s).mono (by decide))
  case krun =>
    intro s d c x hd entry ls k h hlen hls hown hk hload hentry hserve
    rw [exec_ctxKrun, doKrun_accepted h hlen hls hown hk hload hentry hserve]
  case attest =>
    intro s d c x nonce h hlen
    refine ⟨?_, reportBody_magic 2 nonce _ _ _⟩
    rw [exec_ctxAttest, doCtxAttest_accepted h hlen]
  case embers =>
    intro s d c x h
    rw [exec_ctxEmbers, doCtxEmbers_accepted h]

end Sys2Proof.Machine
end

section
/-! SUPPORT. What a withhold leaves of the clocks and of the lamplighter (R174, R485, R486, R499, R524), and the thermal trip (R171,
R204, R207). -/

namespace Sys2Proof.Machine

/-! ### A withhold in its parts -/

/-- A withhold of a package that has withheld changes nothing (R512). -/
theorem withhold_held {s : State} (h : s.snuf.wheld = true) (cause detail : Nat) : withhold cause detail s = s := by
  unfold withhold
  rw [if_pos h]

/-- The state in which launches freeze for a withhold: WHELD_N is low (R524), and a missed daylight result is recorded (R251). -/
def heldLow (cause : Nat) (s : State) : State :=
  { s with clk := { s.clk with wheldLow := true },
           chk := if cause = 4 then { s.chk with dstat := setBit s.chk.dstat 0 } else s.chk }

/-- What a withhold may touch after the lamplighter has frozen (R486, steps 4 to 7). -/
def Part.withheldLater : List Part := [.snuf, .stks, .fab, .ctxs] ++ Part.posting

theorem withhold_after_lamp {s : State} (h : s.snuf.wheld = false) (cause detail : Nat) :
    Frame Part.withheldLater (withholdLamp (heldLow cause s)) (withhold cause detail s) := by
  have hlog (e : Ember) (a : State) : Frame [.mgt] a (if a.mgt.started then
      { a with mgt := { a.mgt with nextSeq := a.mgt.nextSeq + 1, log := lastN 65536 (a.mgt.log ++ [e]) } } else a) :=
    (frame_mgt a _).ite (Frame.refl _ a)
  have hqueue (e : Ember) (a : State) : Frame [.mgt] a (if a.mgt.started then withholdQueues e a else a) :=
    (frame_mgt a _).ite (Frame.refl _ a)
  unfold withhold
  rw [if_neg (by simp [h])]
  exact .after (by decide) (frame_snuf _ _) <| .after (by decide) (withholdStacks_frame _) <| .after (by decide) (hqueue _ _) <|
    .after (by decide) (withholdGarvy_frame _ _) <| .after (by decide) (hlog _ _) <|
    .after (by decide) (frame_foldl withholdLink_frame _ _) <|
    (withholdNotices_frame (withholdLamp (heldLow cause s))).mono (by decide)

/-- Of the clocks a withhold lowers WHELD_N alone (R524). -/
theorem withhold_clk {s : State} (h : s.snuf.wheld = false) (cause detail : Nat) :
    (withhold cause detail s).clk = { s.clk with wheldLow := true } :=
  (withhold_after_lamp h cause detail .clk (by decide)).trans (withholdLamp_frame (heldLow cause s) .clk (by decide))

/-- What every withhold leaves of a package that had not withheld. -/
theorem withhold_leaves {s : State} (h : s.snuf.wheld = false) (cause detail : Nat) :
    let t := withhold cause detail s
    Withheld cause t ∧ t.snuf.detail = BitVec.ofNat 16 detail ∧ t.clk = { s.clk with wheldLow := true } ∧
      Frame Part.withholding s t := by
  refine ⟨?_, ?_, withhold_clk h cause detail, withhold_frame cause detail s⟩
  · rw [Withheld, withhold_snuf h]
    exact ⟨rfl, rfl⟩
  · rw [withhold_snuf h]

/-! ### The lamplighter under a freeze and a withhold -/

theorem lmp_discardRuns (p : FlareRun → Bool) (fr : Bool) (gone : Nat → Bool) (s : State) (c : Nat) :
    ∃ g f, (discardRuns p fr gone s c).lmp = { s.lmp with grants := g, flights := f } := by
  have hdrop (a : State) (r : FlareRun) : Frame [.wicks, .lans] a (r.lans.foldl (dropOnLan r.id fr gone) a) :=
    frame_foldl (dropOnLan_frame r.id fr gone) r.lans a
  have hlmp := frame_foldl hdrop ((getLctx s c).runs.filter p) s .lmp (by decide)
  unfold discardRuns
  dsimp only [Part.same] at hlmp ⊢
  simp only [setLctx, hlmp]
  exact ⟨_, _, rfl⟩

/-- Discarding flares of every context leaves the lamplighter's registers and counts. -/
theorem lmp_discardAll (p : FlareRun → Bool) (fr : Bool) (gone : Nat → Bool) (cs : List Nat) (s : State) :
    ∃ g f, (cs.foldl (discardRuns p fr gone) s).lmp = { s.lmp with grants := g, flights := f } := by
  refine foldl_keeps (I := fun u => ∃ g f, u.lmp = { s.lmp with grants := g, flights := f }) (fun u c ⟨_, _, hu⟩ => ?_) cs
    ⟨_, _, rfl⟩
  obtain ⟨g, f, h⟩ := lmp_discardRuns p fr gone u c
  rw [h, hu]
  exact ⟨g, f, rfl⟩

/-- The lamplighter is frozen, and its registers and its counts of dips are as they were. -/
def FrozenFrom (s t : State) : Prop :=
  ∃ g f st, t.lmp = { s.lmp with frozen := true, recovered := none, grants := g, flights := f, stat := st }

theorem freeze_frozen (s : State) : FrozenFrom s (freeze s) := by
  have htrim (a : State) (l : Nat) : Frame [.wicks, .lans] a (updLan l abortDr (restartTrim l a)) :=
    .after (by decide) (updLan_frame _ l _) (restartTrim_frame l a)
  have hwicks (ks : List Nat) (a : State) : Frame [.wicks, .lans] a
      (ks.foldl (fun s k => updWick (k / 17) (k % 17) (fun w => abandonRb (abandonWrite (nowF s) w)) s) a) :=
    (frame_foldl (fun a k => updWick_frame a (k / 17) (k % 17) _) ks a).mono (by decide)
  obtain ⟨g, f, hlmp⟩ := lmp_discardAll (inFreeze s) true (fun _ => false) (List.range 16) s
  have hlater (ls ks : List Nat) (a : State) := ((hwicks ks a).step (frame_foldl htrim ls _) (by decide)) .lmp (by decide)
  unfold freeze
  dsimp only
  rw [hlater, hlmp]
  exact ⟨_, _, _, rfl⟩

theorem withholdLamp_frozen (s : State) : FrozenFrom s (withholdLamp s) := by
  obtain ⟨_, _, st, hfreeze⟩ := freeze_frozen s
  obtain ⟨g, f, hlmp⟩ := lmp_discardAll (fun _ => true) false (fun _ => true) (List.range 16) (freeze s)
  have hlater : Frame [.wicks, .lans, .lctx] ((List.range 16).foldl (discardRuns (fun _ => true) false (fun _ => true)) (freeze s))
      (withholdLamp s) := by
    unfold withholdLamp
    exact .after (by decide) (frame_foldl (fun a l => updLan_frame a l _) _ _) <|
      .after (by decide) (frame_foldl (fun a k => updWick_frame a (k / 17) (k % 17) _) _ _) <|
      (frame_foldl (fun a c => updLctx_frame a c _) _ _).mono (by decide)
  refine ⟨g, f, st, ?_⟩
  rw [hlater .lmp (by decide), hlmp, hfreeze]

theorem withhold_frozen {s : State} (h : s.snuf.wheld = false) (cause detail : Nat) : FrozenFrom s (withhold cause detail s) := by
  obtain ⟨g, f, st, hlamp⟩ := withholdLamp_frozen (heldLow cause s)
  exact ⟨g, f, st, (withhold_after_lamp h cause detail .lmp (by decide)).trans hlamp⟩

/-! ### A diode's sample (R207) -/

theorem exec_thermalTrip (d : DiodeI) (s : State) : exec (.thermalTrip d) s = .next (withhold 5 d.val s) := rfl

theorem exec_monConversionDone (n : Fin 4) (level err : Int) (s : State) :
    exec (.monConversionDone n level err) s = .next (conversionDone n.val level err s) := rfl

/-- A running sequence stores its entry's code, and the code is a sample of the entry's input (R204). -/
theorem conversionDone_entry {n : Nat} {level err : Int} {e : SeqEntry} {s : State} (hurgent : (getCv s n).urgent = none)
    (hrun : (getCv s n).run = true) (hentry : (getCv s n).seqNow[(getCv s n).entry]? = some e) :
    conversionDone n level err s = inputSample e (levelCode e.gain level err) (levelClips e.gain level)
      (updCv n (fun c => storeEntry c (levelCode e.gain level err)) s) := by
  unfold conversionDone
  dsimp only
  rw [hurgent]
  dsimp only
  rw [if_pos hrun, hentry]

/-- The input's code is the latest, before a diode's temperature is judged. -/
def inputNoted (e : SeqEntry) (code : BitVec 12) (clamped : Bool) (s : State) : State :=
  { s with mon := { s.mon with latest := Tab.set 0 s.mon.latest e.input.toNat code,
                               stat := if clamped then setBit s.mon.stat 1 else s.mon.stat } }

theorem inputSample_diode {e : SeqEntry} (hinput : e.input.toNat < 32) (hgain : e.gain = 0) (code : BitVec 12) (clamped : Bool)
    (s : State) : inputSample e code clamped s = diodeSample e.input.toNat code (inputNoted e code clamped s) := by
  unfold inputSample
  exact if_pos ⟨hinput, hgain⟩

/-- A diode's temperature and its run of hot samples are recorded. -/
def diodeNoted (d run : Nat) (t8 : Int) (s : State) : State :=
  { s with mon := { s.mon with
      temp := (withPos 0 s.mon.temp).map (fun p => if p.1 = d then (BitVec.ofNat 5 run, t8) else p.2) } }

/-- TRIP is set for a sample that withholds (R207). -/
def diodeTripped (d : Nat) (t8 : Int) (s : State) : State :=
  let t := diodeNoted d 16 t8 s
  { t with mon := { t.mon with stat := setBit t.mon.stat 0 } }

/-- The temperature of a diode's code by its calibration (R207). -/
def sampleTemp (s : State) (d : Nat) (code : BitVec 12) : Int := tempOf (s.mon.dtab.getD d (0, 0)) code.toNat

/-- The hot samples in a row before this one. -/
def hotRun (s : State) (d : Nat) : Nat := (s.mon.temp.getD d (0, 0)).1.toNat

section
variable {d : Nat} {code : BitVec 12} {s : State}

/-- Below 105 °C the count starts again. -/
theorem diodeSample_cool (h : sampleTemp s d code < 840) :
    diodeSample d code s = diodeNoted d 0 (sampleTemp s d code) s := by
  have hrun : ¬ (840 : Int) ≤ tempOf (s.mon.dtab.getD d (0, 0)) code.toNat := Int.not_le.mpr h
  unfold diodeSample
  simp only [if_neg hrun]
  exact if_neg (by decide)

/-- A hot sample before the sixteenth counts. -/
theorem diodeSample_hot (h : 840 ≤ sampleTemp s d code) (hrun : hotRun s d < 15) :
    diodeSample d code s = diodeNoted d (hotRun s d + 1) (sampleTemp s d code) s := by
  have hmin : min 16 (hotRun s d + 1) = hotRun s d + 1 := by omega
  unfold sampleTemp at h
  unfold hotRun at hmin
  unfold diodeSample
  simp only [if_pos h, hmin]
  exact if_neg (by unfold hotRun at hrun; omega)

/-- The sixteenth withholds. -/
theorem diodeSample_trips (h : 840 ≤ sampleTemp s d code) (hrun : 15 ≤ hotRun s d) :
    diodeSample d code s = withhold 5 d (diodeTripped d (sampleTemp s d code) s) := by
  have hmin : min 16 (hotRun s d + 1) = 16 := by omega
  unfold sampleTemp at h
  unfold hotRun at hmin
  unfold diodeSample
  simp only [if_pos h, hmin, if_true]
  rfl

theorem temp_diodeNoted (hd : d < s.mon.temp.length) (run : Nat) (t8 : Int) :
    (diodeNoted d run t8 s).mon.temp.getD d (0, 0) = (BitVec.ofNat 5 run, t8) := by
  unfold diodeNoted
  dsimp only
  rw [map_withPos _ (0, 0), List.getD_eq_getElem?_getD, List.getElem?_map, List.getElem?_range hd, Option.map_some, Option.getD_some,
    Nat.zero_add, if_pos rfl]

/-- What a sample of a diode leaves, by its temperature and the hot samples before it (R171). -/
theorem diodeSample_leaves (hd : d < s.mon.temp.length) (hheld : s.snuf.wheld = false) :
    let t := diodeSample d code s
    let t8 := sampleTemp s d code
    (t8 < 840 → t.mon.temp.getD d (0, 0) = (0, t8) ∧ t.snuf.wheld = false) ∧
      (840 ≤ t8 → hotRun s d < 15 → t.mon.temp.getD d (0, 0) = (BitVec.ofNat 5 (hotRun s d + 1), t8) ∧ t.snuf.wheld = false) ∧
      (840 ≤ t8 → 15 ≤ hotRun s d → t.mon.temp.getD d (0, 0) = (16, t8) ∧ Withheld 5 t ∧ t.snuf.detail = BitVec.ofNat 16 d ∧
        t.clk.wheldLow = true) := by
  refine ⟨fun h => ?_, fun h hrun => ?_, fun h hrun => ?_⟩
  · rw [diodeSample_cool h]
    exact ⟨temp_diodeNoted hd _ _, hheld⟩
  · rw [diodeSample_hot h hrun]
    exact ⟨temp_diodeNoted hd _ _, hheld⟩
  · rw [diodeSample_trips h hrun]
    obtain ⟨hcause, hdetail, hclk, hframe⟩ := withhold_leaves (s := diodeTripped d (sampleTemp s d code) s) hheld 5 d
    refine ⟨?_, hcause, hdetail, ?_⟩
    · rw [hframe .mon (by decide)]
      exact temp_diodeNoted hd _ _
    · rw [hclk]

end

/-! ### O52 -/

/-- Settles O52: the event is a withhold (`withhold_leaves`); a running entry's conversion of a diode is a sample
(`diodeSample_leaves`). -/
theorem thermalTripWithholds : Obligations.ThermalTripWithholds := by
  refine ⟨fun s d h => ⟨_, exec_thermalTrip d s, withhold_leaves h 5 d.val⟩, ?_⟩
  intro s n level err e hurgent hrun hentry hinput hgain hd hheld
  refine ⟨_, exec_monConversionDone n level err s, ?_⟩
  rw [conversionDone_entry hurgent hrun hentry, inputSample_diode hinput hgain, hgain]
  exact diodeSample_leaves (code := levelCode 0 level err)
    (s := inputNoted e (levelCode 0 level err) (levelClips 0 level) (updCv n.val (fun c => storeEntry c (levelCode 0 level err)) s))
    hd hheld

end Sys2Proof.Machine
end

section
/-! SUPPORT. Supply events and the clocks they stop (R174, R288, R289, R511), and the settlement of O3. -/

namespace Sys2Proof.Machine

theorem exec_supplyWarning (p : PointI) (s : State) : exec (.supplyWarning p) s = .next (supplyWarning p.val s) := rfl

theorem exec_supplyRecovery (p : PointI) (s : State) : exec (.supplyRecovery p) s = .next (supplyRecovery p.val s) := rfl

theorem exec_freezeResume (s : State) : exec .freezeResume s = .next (freezeResume s) := rfl

theorem exec_supplyWarningLong (p : PointI) (s : State) : exec (.supplyWarningLong p) s =
    .next (if s.clk.active.toNat / 2 ^ p.val % 2 = 1 then supplyFault 1 p.val s else s) := rfl

theorem exec_supplyResetLevel (p : PointI) (s : State) : exec (.supplyResetLevel p) s = .next (supplyFault 2 p.val s) := rfl

theorem exec_supplyOvervoltage (p : PointI) (s : State) : exec (.supplyOvervoltage p) s = .next (supplyFault 3 p.val s) := rfl

theorem exec_pllLockLoss (s : State) : exec .pllLockLoss s =
    .next (withhold 8 0 { s with clk := { s.clk with lock := false, hold := true, lockLost := true } }) := rfl

theorem exec_holdoverEnd {s : State} (h : s.clk.hold = true) : exec .holdoverEnd s =
    .next { s with clk := { s.clk with untrusted := true }, mgt := if s.snuf.cause = 8 then { s.mgt with started := false } else s.mgt } :=
  congrArg Host.Outcome.next (if_pos h)

/-! ### A warning -/

theorem frame_mon (s : State) (x : Mon) : Frame [.mon] s { s with mon := x } := by
  intro p hp; cases p <;> simp at hp <;> rfl

theorem supplyUrgent_frame (p : Nat) (s : State) : Frame [.mon] s (supplyUrgent p s) := frame_mon s _

/-- The dips of the last second (R174). -/
def dipsWithin (s : State) : List Nat := s.lmp.dipTimes.filter (fun f => nowF s < f + 337500000)

/-- One more dip is counted, with its time. -/
def dipCounted (s : State) : State :=
  { s with lmp := { s.lmp with
      dipsTotal := satInc s.lmp.dipsTotal, dipTimes := dipsWithin s ++ [nowF s],
      dipsRecent := BitVec.ofNat 5 (min 17 (dipsWithin s ++ [nowF s]).length) } }

/-- An ember reports the dip. -/
def dipReported (p : Nat) (s : State) : State := ember 0 0x0802 p none (dipsWord (dipCounted s)) (dipCounted s)

theorem countDip_few {s : State} (h : (dipsWithin s).length < 16) (p : Nat) : countDip p s = dipReported p s := by
  unfold countDip
  exact if_neg (by simpa [dipsWithin] using h)

theorem countDip_many {s : State} (h : 16 ≤ (dipsWithin s).length) (p : Nat) : countDip p s = withhold 6 0 (dipReported p s) := by
  unfold countDip
  exact if_pos (by simpa [dipsWithin] using h)

/-- The point is recorded, its urgent conversion asked for, and launches are frozen (R288). -/
def warnedAt (p : Nat) (s : State) : State :=
  freeze (supplyUrgent p { s with clk := { s.clk with active := setBit s.clk.active p, warned := setBit s.clk.warned p } })

theorem supplyWarning_new {p : Nat} {s : State} (h : s.clk.active.toNat / 2 ^ p % 2 = 0) :
    supplyWarning p s = countDip p (warnedAt p s) := by
  unfold supplyWarning
  rw [if_neg (by omega)]
  rfl

/-- What a warning may touch that does not withhold. -/
def Part.warning : List Part := [.mon, .clk, .wicks, .lans, .lctx, .lmp, .gvl, .mbx, .posted, .mgt]

/-- A warning is recorded at its point, launches are frozen, and a dip counts with its time (R174, R288). -/
structure DipTaken (p : Nat) (s t : State) : Prop where
  active : t.clk.active = setBit s.clk.active p
  warned : t.clk.warned = setBit s.clk.warned p
  frozen : t.lmp.frozen = true
  total : t.lmp.dipsTotal = satInc s.lmp.dipsTotal
  times : t.lmp.dipTimes = dipsWithin s ++ [nowF s]

theorem warnedAt_frozen (p : Nat) (s : State) : FrozenFrom s (warnedAt p s) := by
  let u := { s with clk := { s.clk with active := setBit s.clk.active p, warned := setBit s.clk.warned p } }
  have hurgent : (supplyUrgent p u).lmp = s.lmp := supplyUrgent_frame p u .lmp (by decide)
  obtain ⟨g, f, st, hfreeze⟩ := freeze_frozen (supplyUrgent p u)
  rw [hurgent] at hfreeze
  exact ⟨g, f, st, hfreeze⟩

theorem warnedAt_frame (p : Nat) (s : State) : Frame [.mon, .clk, .wicks, .lans, .lctx, .lmp] s (warnedAt p s) :=
  .after (by decide) (freeze_frame _) <| .after (by decide) (supplyUrgent_frame p _) ((frame_clk s _).mono (by decide))

theorem clk_warnedAt (p : Nat) (s : State) :
    (warnedAt p s).clk = { s.clk with active := setBit s.clk.active p, warned := setBit s.clk.warned p } :=
  freeze_frame _ .clk (by decide)

theorem dipsWithin_warnedAt (p : Nat) (s : State) : dipsWithin (warnedAt p s) = dipsWithin s := by
  obtain ⟨_, _, _, hlmp⟩ := warnedAt_frozen p s
  unfold dipsWithin nowF
  rw [hlmp]

theorem dipReported_frame (p : Nat) (s : State) : Frame [.lmp, .gvl, .mbx, .posted, .mgt] s (dipReported p s) :=
  .after (by decide) (ember_frame _ _ _ _ _ _) ((frame_lmp s _).mono (by decide))

theorem dipReported_frame_warned (p : Nat) (s : State) : Frame Part.warning s (dipReported p (warnedAt p s)) :=
  .after (by decide) (dipReported_frame p _) ((warnedAt_frame p s).mono (by decide))

theorem dipReported_taken (p : Nat) (s : State) : DipTaken p s (dipReported p (warnedAt p s)) := by
  obtain ⟨_, _, _, hlmp⟩ := warnedAt_frozen p s
  have hclk : (dipReported p (warnedAt p s)).clk = _ := (dipReported_frame p _ .clk (by decide)).trans (clk_warnedAt p s)
  have hlater : (dipReported p (warnedAt p s)).lmp = (dipCounted (warnedAt p s)).lmp := ember_frame _ _ _ _ _ _ .lmp (by decide)
  have hnow : nowF (warnedAt p s) = nowF s := by rw [nowF, hlmp]; rfl
  refine ⟨congrArg Clk.active hclk, congrArg Clk.warned hclk, ?_, ?_, ?_⟩
  all_goals
    rw [hlater]
    dsimp only [dipCounted]
  · rw [hlmp]
  · rw [hlmp]
  · rw [dipsWithin_warnedAt, hnow]

/-- A withhold that follows leaves what the warning recorded. -/
theorem DipTaken.withhold {p : Nat} {s t : State} (h : DipTaken p s t) (cause detail : Nat) : DipTaken p s (withhold cause detail t) := by
  cases hheld : t.snuf.wheld with
  | true => rwa [withhold_held hheld]
  | false =>
    obtain ⟨_, _, _, hlmp⟩ := withhold_frozen hheld cause detail
    have hclk := withhold_clk hheld cause detail
    exact ⟨(congrArg Clk.active hclk).trans h.active, (congrArg Clk.warned hclk).trans h.warned, congrArg Lmp.frozen hlmp,
      (congrArg Lmp.dipsTotal hlmp).trans h.total, (congrArg Lmp.dipTimes hlmp).trans h.times⟩

/-- What a warning at a point that does not warn leaves, by the dips of the last second. -/
theorem supplyWarning_leaves {p : Nat} {s : State} (h : s.clk.active.toNat / 2 ^ p % 2 = 0) :
    DipTaken p s (supplyWarning p s) ∧ ((dipsWithin s).length < 16 → Frame Part.warning s (supplyWarning p s)) ∧
      Frame (.mon :: Part.withholding) s (supplyWarning p s) := by
  have hframe := dipReported_frame_warned p s
  have hdips : (dipsWithin (warnedAt p s)).length = (dipsWithin s).length := congrArg _ (dipsWithin_warnedAt p s)
  rw [supplyWarning_new h]
  by_cases hfew : (dipsWithin s).length < 16
  · rw [countDip_few (by omega)]
    exact ⟨dipReported_taken p s, fun _ => hframe, hframe.mono (by decide)⟩
  · rw [countDip_many (by omega)]
    exact ⟨(dipReported_taken p s).withhold 6 0, fun hlt => absurd hlt hfew,
      .after (by decide) (withhold_frame 6 0 _) (hframe.mono (by decide))⟩

/-- The seventeenth dip within a second withholds (R174). -/
theorem supplyWarning_withholds {p : Nat} {s : State} (h : s.clk.active.toNat / 2 ^ p % 2 = 0) (hheld : s.snuf.wheld = false)
    (hdips : 16 ≤ (dipsWithin s).length) :
    let t := supplyWarning p s
    Withheld 6 t ∧ t.snuf.detail = 0 ∧ t.clk.wheldLow = true := by
  have hdips' : 16 ≤ (dipsWithin (warnedAt p s)).length := by rwa [dipsWithin_warnedAt]
  have hheld' : (dipReported p (warnedAt p s)).snuf.wheld = false := by
    rw [dipReported_frame_warned p s .snuf (by decide)]
    exact hheld
  obtain ⟨hcause, hdetail, hclk, -⟩ := withhold_leaves hheld' 6 0
  rw [supplyWarning_new h, countDip_many hdips']
  exact ⟨hcause, hdetail, congrArg Clk.wheldLow hclk⟩

/-! ### Recovery and resumption -/

theorem supplyRecovery_last {p : Nat} {s : State} (ha : clrBit s.clk.active p = 0) (hf : s.lmp.frozen = true) :
    supplyRecovery p s = { s with clk := { s.clk with active := 0 }, lmp := { s.lmp with recovered := some (nowF s) } } := by
  unfold supplyRecovery
  dsimp only
  rw [ha]
  exact if_pos ⟨rfl, hf⟩

theorem supplyRecovery_early {p : Nat} {s : State} (h : clrBit s.clk.active p ≠ 0 ∨ s.lmp.frozen = false) :
    supplyRecovery p s = { s with clk := { s.clk with active := clrBit s.clk.active p } } := by
  unfold supplyRecovery
  refine if_neg fun ⟨ha, hf⟩ => ?_
  exact h.elim (fun hne => hne ha) (fun hno => by simp [hno] at hf)

/-- The freeze is lifted. -/
def unfrozen (s : State) : State := { s with lmp := { s.lmp with frozen := false, recovered := none } }

/-- The supply raises that waited are made (R498). -/
def raisesMade (s : State) : State := (List.range 16).foldl (fun s n => if (getScn s n).raiseDue then raiseSupply n s else s) s

theorem freezeResume_due {s : State} {n : Nat} (hf : s.lmp.frozen = true) (ha : s.clk.active = 0) (hr : s.lmp.recovered = some n)
    (hn : n + 1688 ≤ nowF s) : freezeResume s = kickAll (raisesMade (unfrozen s)) := by
  unfold freezeResume
  rw [hr]
  exact if_pos ⟨hf, ha, hn⟩

theorem raisesMade_frame (s : State) : Frame [.wicks, .scn] s (raisesMade s) :=
  frame_foldl (fun a n => (raiseSupply_frame n a).ite (Frame.refl _ a)) _ s

/-- A loop none of whose turns changes the state leaves it. -/
theorem foldl_fixed_of_mem {α β : Type} {g : β → α → β} {l : List α} {b : β} (h : ∀ x ∈ l, g b x = b) : l.foldl g b = b := by
  induction l with
  | nil => rfl
  | cons x l ih =>
    rw [List.foldl_cons, h x List.mem_cons_self]
    exact ih fun y hy => h y (List.mem_cons_of_mem x hy)

theorem raisesMade_none {s : State} (h : ∀ k : Sconce, (getScn s k.val).raiseDue = false) : raisesMade s = s := by
  refine foldl_fixed_of_mem fun n hn => ?_
  rw [if_neg]
  simp [h ⟨n, List.mem_range.mp hn⟩]

/-! ### Supply faults -/

/-- A supply fault is recorded with its kind and point, and withholds with cause 07 (R289). -/
theorem supplyFault_leaves {s : State} (h : s.snuf.wheld = false) (kind : BitVec 2) (p : Nat) :
    let t := supplyFault kind p s
    Withheld 7 t ∧ t.snuf.detail = BitVec.ofNat 16 p ∧ t.clk.fltKind = kind ∧ t.clk.fltPoints = setBit s.clk.fltPoints p ∧
      t.clk.wheldLow = true ∧ Frame (.mon :: Part.withholding) s t := by
  let u := supplyUrgent p { s with clk := { s.clk with fltKind := kind, fltPoints := setBit s.clk.fltPoints p } }
  have hrecorded : Frame [.mon, .clk] s u := .after (by decide) (supplyUrgent_frame p _) ((frame_clk s _).mono (by decide))
  obtain ⟨hcause, hdetail, hclk, hframe⟩ := withhold_leaves (s := u) h 7 p
  exact ⟨hcause, hdetail, congrArg Clk.fltKind hclk, congrArg Clk.fltPoints hclk, congrArg Clk.wheldLow hclk,
    .after (by decide) hframe (hrecorded.mono (by decide))⟩

/-! ### O3 -/

/-- Settles O3: a warning's clauses are `supplyWarning_leaves` and `supplyWarning_withholds`, the three faults one lemma
(`supplyFault_leaves`), and a lost lock is a withhold (`withhold_leaves`). -/
theorem supplyEventsFreezeAndWithhold : Obligations.SupplyEventsFreezeAndWithhold := by
  refine ⟨?warning, ?withholds, ?last, ?early, ?resume, ?long, ?level, ?overvoltage, ?lock, ?holdover⟩
  case warning =>
    intro s p h
    obtain ⟨⟨hactive, hwarned, hfrozen, htotal, htimes⟩, hfew, hframe⟩ := supplyWarning_leaves h
    refine ⟨_, exec_supplyWarning p s, hactive, hwarned, hfrozen, htotal, htimes, fun hlt => ?_, hframe⟩
    have hwarn := hfew hlt
    exact ⟨hwarn .snuf (by decide), hwarn .chk (by decide), hwarn .fab (by decide), hwarn .stks (by decide), hwarn .ctxs (by decide)⟩
  case withholds =>
    intro s p h hheld hdips
    obtain ⟨hcause, hdetail, hlow⟩ := supplyWarning_withholds h hheld hdips.ge
    exact ⟨_, exec_supplyWarning p s, hcause, hdetail, hlow, (supplyWarning_leaves h).2.2⟩
  case last =>
    intro s p ha hf
    rw [exec_supplyRecovery, supplyRecovery_last ha hf]
  case early =>
    intro s p h
    rw [exec_supplyRecovery, supplyRecovery_early h]
  case resume =>
    intro s n hf ha hr hn
    refine ⟨raisesMade (unfrozen s), ?_, raisesMade_frame (unfrozen s) .lmp (by decide), fun hnone => ?_,
      .after (by decide) (raisesMade_frame _) ((frame_lmp s _).mono (by decide))⟩
    · rw [exec_freezeResume, freezeResume_due hf ha hr hn]
    · rw [raisesMade_none (s := unfrozen s) hnone]
      exact ⟨rfl, rfl⟩
  case long =>
    intro s p h hactive
    rw [Runs, exec_supplyWarningLong, if_pos hactive]
    exact ⟨_, rfl, supplyFault_leaves h 1 p.val⟩
  case level => exact fun s p h => ⟨_, exec_supplyResetLevel p s, supplyFault_leaves h 2 p.val⟩
  case overvoltage => exact fun s p h => ⟨_, exec_supplyOvervoltage p s, supplyFault_leaves h 3 p.val⟩
  case lock =>
    intro s h
    obtain ⟨hcause, hdetail, hclk, hframe⟩ :=
      withhold_leaves (s := { s with clk := { s.clk with lock := false, hold := true, lockLost := true } }) h 8 0
    exact ⟨_, exec_pllLockLoss s, hcause, hdetail, hclk, .after (List.Subset.refl _) hframe ((frame_clk s _).mono (by decide))⟩
  case holdover => exact fun s h => exec_holdoverEnd h

end Sys2Proof.Machine
end

section
/-! SUPPORT. The SYS. commands past the mailbox's checks (R168, R280, R286, R290, R380, R383, R391, R393, R395, R530), and the settlement
of O22. -/

namespace Sys2Proof.Machine

theorem exec_sysHello (d : Desc) (vmin vmax : W16) (s : State) : exec (.sysHello d vmin vmax) s = .next (doHelloCmd d vmin vmax s) := rfl

theorem exec_sysInfo (d : Desc) (s : State) : exec (.sysInfo d) s = .next (runCmd d .any true true false (finishFree d) s) := rfl

theorem exec_sysTime (d : Desc) (s : State) : exec (.sysTime d) s =
    .next (runCmd d .any true true false (fun s => complete d 0 0 (words64 (ltime s) ++ words64 s.lmp.flicker.val) s) s) := rfl

theorem exec_sysRing (d : Desc) (ring action : Nat) (e : Option RingEntry) (s : State) :
    exec (.sysRing d ring action e) s = .next (doSysRing d ring action e s) := rfl

theorem exec_sysPower (d : Desc) (limit a v x k e c : W16) (s : State) :
    exec (.sysPower d limit a v x k e c) s = .next (doSysPower d limit a v x k e c s) := rfl

theorem exec_sysClock (d : Desc) (east : Bool) (adiv ndiv : BitVec 2) (s : State) :
    exec (.sysClock d east adiv ndiv) s = .next (doSysClock d east adiv ndiv s) := rfl

theorem exec_sysReset (d : Desc) (s : State) : exec (.sysReset d) s = .next (doSysReset d s) := rfl

theorem runSys_accepted {d : Desc} {s : State} (h : accepted .sys false false false d s = true) (body : State → State) :
    runSys d body s = body (dequeue d s) := runCmd_accepted h body

/-! ### SYS.HELLO (R391) -/

section
variable {d : Desc} {vmin vmax : W16} {s : State} (h : accepted .sys true true false d s = true)

include h

theorem doHello_agrees (hmin : vmin ≤ fwVer) (hmax : fwVer ≤ vmax) (hcur : s.mbx.curver = 0 ∨ s.mbx.curver = fwVer) :
    doHelloCmd d vmin vmax s = complete d 0 0 (helloResult s fwVer)
      { dequeue d s with mbx := { (dequeue d s).mbx with curver := fwVer } } := by
  have hcur' : ¬ ((dequeue d s).mbx.curver ≠ 0 ∧ (dequeue d s).mbx.curver ≠ fwVer) := by
    rintro ⟨h0, h1⟩
    exact hcur.elim h0 h1
  rw [doHelloCmd, runCmd_accepted h, if_neg (BitVec.not_lt.mpr (BitVec.le_trans hmin hmax)),
    if_neg (not_or.mpr ⟨BitVec.not_lt.mpr hmin, BitVec.not_lt.mpr hmax⟩), if_neg hcur']
  rfl

theorem doHello_empty (hempty : vmax < vmin) : doHelloCmd d vmin vmax s = finish d 0x07 (dequeue d s) := by
  rw [doHelloCmd, runCmd_accepted h, if_pos hempty]

theorem doHello_apart (hrange : vmin ≤ vmax) (hout : fwVer < vmin ∨ vmax < fwVer) :
    doHelloCmd d vmin vmax s = finish d 0x11 (dequeue d s) := by
  rw [doHelloCmd, runCmd_accepted h, if_neg (BitVec.not_lt.mpr hrange), if_pos hout]

end

/-! ### SYS.RING (R380, R383) -/

/-- No such ring, no such action, or an entry out of range (R380, R395). -/
def RingRefused (ring action : Nat) (e : Option RingEntry) : Prop :=
  ring = 0 ∨ 63 < ring ∨ action = 0 ∨ 2 < action ∨ (action = 1 ∧ ∃ x, e = some x ∧ entryOk x = false)

/-- Every ring but ring 0 may be enabled and disabled. -/
theorem ring_in_range {r : Fin 64} (hr : r ≠ 0) : ¬ (r.val = 0 ∨ 63 < r.val) := by
  have hlt := r.isLt
  have hpos := Fin.val_ne_zero_iff.mpr hr
  omega

section
variable {d : Desc} {s : State} (h : accepted .sys false false false d s = true)

include h

theorem doSysRing_enables {r : Fin 64} (hr : r ≠ 0) {e : RingEntry} (he : entryOk e = true) : doSysRing d r.val 1 (some e) s =
    finish d 0 (flushHeld r (loadRing r.val e
      (updRing r.val (fun g => { g with nlost := false, fetcherr := false, dberr := false }) (dequeue d s)))) := by
  rw [doSysRing, runSys_accepted h, if_neg (ring_in_range hr), if_pos rfl]
  dsimp only
  rw [if_pos he, Fin.ofNat_val_eq_self]

theorem doSysRing_disables {r : Fin 64} (hr : r ≠ 0) (e : Option RingEntry) :
    doSysRing d r.val 2 e s = finish d 0 (updRing r.val (fun g => { g with st := .off }) (dequeue d s)) := by
  rw [doSysRing, runSys_accepted h, if_neg (ring_in_range hr), if_neg (by decide), if_pos rfl]

theorem doSysRing_refuses {ring action : Nat} {e : Option RingEntry} (hbad : RingRefused ring action e) :
    doSysRing d ring action e s = finish d 0x07 (dequeue d s) := by
  rw [doSysRing, runSys_accepted h]
  by_cases hring : ring = 0 ∨ 63 < ring
  · rw [if_pos hring]
  rw [if_neg hring]
  by_cases hact : action = 1
  · obtain ⟨x, rfl, hx⟩ : ∃ x, e = some x ∧ entryOk x = false := by
      rcases hbad with hc | hc | hc | hc | ⟨-, hx⟩
      case inr.inr.inr.inr => exact hx
      all_goals omega
    rw [if_pos hact]
    dsimp only
    rw [if_neg (by simp [hx])]
  · have htwo : action ≠ 2 := by
      unfold RingRefused at hbad
      omega
    rw [if_neg hact, if_neg htwo]

end

/-! ### SYS.POWER (R168, R530) -/

/-- The limit of the configuration block, or the reset value where there is none (R530). -/
def powerMax (s : State) : Nat := match s.sec.cfg with | some c => c.plat.plimit.toNat | none => 950

section
variable {d : Desc} {limit a v x k e c : W16} {s : State} (h : accepted .sys false false false d s = true)

include h

theorem doSysPower_waits (hlimit : limit.toNat ≤ powerMax s) : doSysPower d limit a v x k e c s =
    (let t := setShares a.toNat v.toNat x.toNat k.toNat e.toNat c.toNat (setLimit limit.toNat (dequeue d s))
    keepProg d { t with pwr := { t.pwr with cmds := t.pwr.cmds ++ [d] } }) := by
  rw [doSysPower, runSys_accepted h]
  exact if_neg (Nat.not_lt.mpr hlimit)

theorem doSysPower_refuses (hlimit : powerMax s < limit.toNat) :
    doSysPower d limit a v x k e c s = finish d 0x0101 (dequeue d s) := by
  rw [doSysPower, runSys_accepted h]
  exact if_pos hlimit

end

/-! ### SYS.CLOCK (R280, R286) -/

/-- The command as it stands until its divider is written. -/
def clockAsked (d : Desc) (east : Bool) (adiv ndiv : BitVec 2) : ClkCmd :=
  { cmd := d, east := east, adiv := adiv, ndiv := ndiv, written := false }

/-- The command is under way. -/
def clockKept (k : ClkCmd) (s : State) : State := keepProg k.cmd { s with clk := { s.clk with cmd := some k } }

theorem clockKept_frame (k : ClkCmd) (s : State) : Frame [.clk, .mbx] s (clockKept k s) :=
  .after (by decide) (keepProg_frame _ _) ((frame_clk s _).mono (by decide))

theorem clk_clockKept (k : ClkCmd) (s : State) : (clockKept k s).clk = { s.clk with cmd := some k } :=
  keepProg_frame _ _ .clk (by decide)

/-- The fields of a half's register as a command writes them (R280). -/
theorem fld_halfWord (a n : BitVec 2) :
    BitVec.ofNat 2 (fld (BitVec.ofNat 32 (a.toNat + 16 * n.toNat)) 1 0) = a ∧
      BitVec.ofNat 2 (fld (BitVec.ofNat 32 (a.toNat + 16 * n.toNat)) 5 4) = n := by
  have ha := a.isLt
  have hn := n.isLt
  constructor
  all_goals
    apply BitVec.eq_of_toNat_eq
    simp only [fld, BitVec.toNat_ofNat]
    omega

/-- The clocks with a half's requested dividers. -/
def dividersAsked (east : Bool) (a n : BitVec 2) (x : Clk) : Clk :=
  if east then { x with aE := a, nE := n } else { x with aW := a, nW := n }

theorem halfWrite_takes {a n : BitVec 2} (ha : a ≠ 3) (hn : n ≠ 3) (east : Bool) (s : State) :
    halfWrite east (BitVec.ofNat 32 (a.toNat + 16 * n.toNat)) s = { s with clk := dividersAsked east a n s.clk } := by
  obtain ⟨hfa, hfn⟩ := fld_halfWord a n
  unfold halfWrite
  dsimp only
  rw [hfa, hfn, beq_false_of_ne ha, beq_false_of_ne hn, if_neg (by simp)]
  unfold dividersAsked
  cases east <;> rfl

/-- The divider is written and the command waits for it to show. -/
def clockWritten (k : ClkCmd) (s : State) : State :=
  { s with clk := { dividersAsked k.east k.adiv k.ndiv s.clk with cmd := some { k with written := true } } }

theorem clockGo_writes {k : ClkCmd} {s : State} (hk : s.clk.cmd = some k) (hw : k.written = false) (ha : k.adiv ≠ 3)
    (hn : k.ndiv ≠ 3) : clockGo s = clockWritten k s := by
  unfold clockGo
  rw [hk]
  dsimp only
  rw [hw, beq_false_of_ne hn, if_neg (by decide), if_neg (by simp)]
  unfold clockWrite
  rw [beq_false_of_ne ha, if_neg (by simp)]
  dsimp only
  rw [halfWrite_takes ha hn]
  rfl

/-- While crossings are on their way, a gated east NCLK waits (R286). -/
theorem clockGo_waits {k : ClkCmd} {s : State} (hk : s.clk.cmd = some k) (he : k.east = true) (hn : k.ndiv = 3)
    (hinfl : inflOf s true ≠ 0) : clockGo s = s := by
  unfold clockGo
  rw [hk]
  dsimp only
  split
  · rfl
  · exact if_pos (by simp [he, hn, hinfl])

/-- The contexts with sconces of the east half. -/
def eastContexts (s : State) : List Nat := (ctxSlots s).filter (fun c => (sconcesOf s c).any eastSconce)

/-- Firmware gates the seam and pauses the contexts of the east half (R286). -/
def seamGated (s : State) : State :=
  (eastContexts s).foldl (fun s c => updLctx c (fun x => { x with pause := true }) s)
    { s with clk := { s.clk with gateE := true, paused := eastContexts s } }

theorem pauses_frame (cs : List Nat) (s : State) :
    Frame [.lctx] s (cs.foldl (fun s c => updLctx c (fun x => { x with pause := true }) s) s) :=
  frame_foldl (fun a c => updLctx_frame a c _) cs s

theorem seamGated_frame (s : State) : Frame [.clk, .lctx] s (seamGated s) :=
  .after (by decide) (pauses_frame _ _) ((frame_clk s _).mono (by decide))

theorem clk_seamGated (s : State) : (seamGated s).clk = { s.clk with gateE := true, paused := eastContexts s } :=
  pauses_frame _ _ .clk (by decide)

theorem Frame.inflOf {ps : List Part} {s t : State} (h : Frame ps s t) (east : Bool) (hp : .engs ∉ ps) :
    inflOf t east = inflOf s east := by
  unfold Machine.inflOf
  rw [h .engs hp]

section
variable {d : Desc} {adiv ndiv : BitVec 2} {s : State} (h : accepted .sys false false false d s = true)

include h

theorem doSysClock_writes {east : Bool} (hn : ndiv ≠ 3) (ha : adiv ≠ 3) (hcmd : s.clk.cmd = none) :
    doSysClock d east adiv ndiv s =
      clockWritten (clockAsked d east adiv ndiv) (clockKept (clockAsked d east adiv ndiv) (dequeue d s)) := by
  have hnone : (dequeue d s).clk.cmd.isSome = false := congrArg Option.isSome hcmd
  rw [doSysClock, runSys_accepted h, beq_false_of_ne hn, if_neg (by simp), if_neg (by simp [hnone]), if_neg (by simp)]
  exact clockGo_writes (congrArg Clk.cmd (clk_clockKept (clockAsked d east adiv ndiv) (dequeue d s))) rfl ha hn

theorem doSysClock_west_gated :
    doSysClock d false adiv 3 s = finish d 0x07 { dequeue d s with clk := { s.clk with cfgErr := true } } := by
  rw [doSysClock, runSys_accepted h, if_pos (by decide)]
  rfl

theorem doSysClock_gates (hcmd : s.clk.cmd = none) (hn : s.clk.nE ≠ 3) (hinfl : inflOf s true ≠ 0) :
    doSysClock d true adiv 3 s = clockKept (clockAsked d true adiv 3) (seamGated (dequeue d s)) := by
  have hnone : (dequeue d s).clk.cmd.isSome = false := congrArg Option.isSome hcmd
  have hopen : ((3 : BitVec 2) == 3 && (dequeue d s).clk.nE != 3) = true := by
    rw [beq_self_eq_true, Bool.true_and]
    exact bne_iff_ne.mpr hn
  have hstill : inflOf (clockKept (clockAsked d true adiv 3) (seamGated (dequeue d s))) true ≠ 0 := by
    rwa [(clockKept_frame _ _).inflOf true (by decide), (seamGated_frame _).inflOf true (by decide),
      (dequeue_frame d s).inflOf true (by decide)]
  rw [doSysClock, runSys_accepted h, if_neg (by decide), if_neg (by simp [hnone]), if_pos hopen]
  exact clockGo_waits (congrArg Clk.cmd (clk_clockKept (clockAsked d true adiv 3) (seamGated (dequeue d s)))) rfl rfl hstill

end

/-! ### O22 -/

/-- Settles O22: each command passes the mailbox's checks (`runCmd_accepted`), and each of its paths is an equation of its function. -/
theorem systemRingCommands : Obligations.SystemRingCommands := by
  refine ⟨?hello, ?helloEmpty, ?helloApart, ?info, ?time, ?ringOn, ?ringOff, ?ringBad, ?power, ?powerBad, ?clock, ?clockWest,
    ?clockGates, ?reset⟩
  case hello =>
    intro s d vmin vmax h hmin hmax hcur
    rw [exec_sysHello, doHello_agrees h hmin hmax hcur]
    rfl
  case helloEmpty =>
    intro s d vmin vmax h hempty
    rw [exec_sysHello, doHello_empty h hempty]
  case helloApart =>
    intro s d vmin vmax h hrange hout
    rw [exec_sysHello, doHello_apart h hrange hout]
  case info =>
    intro s d h _
    rw [exec_sysInfo, runCmd_accepted h]
  case time =>
    intro s d h
    rw [exec_sysTime, runCmd_accepted h]
    rfl
  case ringOn =>
    intro s d r e h hr he
    rw [exec_sysRing, doSysRing_enables h hr he]
  case ringOff =>
    intro s d r e h hr
    rw [exec_sysRing, doSysRing_disables h hr]
  case ringBad =>
    intro s d ring action e h hbad
    rw [exec_sysRing, doSysRing_refuses h hbad]
  case power =>
    intro s d limit a v x k e c h hsome hnone
    have hlimit : limit.toNat ≤ powerMax s := by
      unfold powerMax
      split
      · next g hg => exact hsome g hg
      · next hg => exact hnone hg
    rw [exec_sysPower, doSysPower_waits h hlimit]
  case powerBad =>
    intro s d limit a v x k e c g h hg hlimit
    have hover : powerMax s < limit.toNat := by
      unfold powerMax
      rwa [hg]
    rw [exec_sysPower, doSysPower_refuses h hover]
  case clock =>
    intro s d east adiv ndiv h hn ha hcmd
    have hkept := clk_clockKept (clockAsked d east adiv ndiv) (dequeue d s)
    have hclk : (clockWritten (clockAsked d east adiv ndiv) (clockKept (clockAsked d east adiv ndiv) (dequeue d s))).clk =
        { dividersAsked east adiv ndiv s.clk with cmd := some { clockAsked d east adiv ndiv with written := true } } := by
      unfold clockWritten
      dsimp only
      rw [hkept]
      cases east <;> rfl
    rw [Runs, exec_sysClock, doSysClock_writes h hn ha hcmd]
    refine ⟨_, rfl, ?_, ?_, ?_, .after (by decide) (frame_clk _ _) <| .after (by decide) (clockKept_frame _ _)
      ((dequeue_frame d s).mono (by decide))⟩
    · rw [hclk]
      rfl
    · rw [hclk]
      cases east
      · exact ⟨rfl, rfl, rfl, rfl⟩
      · exact ⟨rfl, rfl, rfl, rfl⟩
    · rw [hclk]
      cases east <;> rfl
  case clockWest =>
    intro s d adiv h
    rw [exec_sysClock, doSysClock_west_gated h]
  case clockGates =>
    intro s d adiv h hcmd hn hinfl
    have hkept := clk_clockKept (clockAsked d true adiv 3) (seamGated (dequeue d s))
    rw [clk_seamGated] at hkept
    rw [Runs, exec_sysClock, doSysClock_gates h hcmd hn hinfl]
    refine ⟨_, rfl, congrArg Clk.gateE hkept, (congrArg Clk.nE hkept).trans rfl, congrArg Clk.cmd hkept, fun c hc => ?_,
      .after (by decide) (clockKept_frame _ _) <| .after (by decide) (seamGated_frame _) ((dequeue_frame d s).mono (by decide))⟩
    rw [hkept] at hc
    exact (List.mem_filter.mp hc).2
  case reset =>
    intro s d h
    rw [exec_sysReset, doSysReset, runSys_accepted h]

end Sys2Proof.Machine
end

section
/-! SUPPORT. One flicker (R152, R153, R155, R166, R167, R279): what its begin, its launches and its plan leave of the flicker count, and
what they may touch. -/

namespace Sys2Proof.Machine

theorem exec_flicker (draws : List Lan) (s : State) :
    exec (.flicker draws) s = .next (kickOps (kickAllStages (doFlicker draws s))) := rfl

/-! ### Inside one flicker -/

/-- What the work of one flicker may touch before the clock counts it. -/
def Part.flickering : List Part := [.wicks, .lans, .engs, .lmp, .lctx, .pwr, .chk, .gvl, .mbx, .posted, .mgt, .fresh]

/-- The work of one flicker, which does not count it yet. -/
structure InFlicker (s t : State) : Prop where
  frame : Frame Part.flickering s t
  count : t.lmp.flicker = s.lmp.flicker

section
variable {s t u : State}

theorem InFlicker.refl (s : State) : InFlicker s s := ⟨Frame.refl _ s, rfl⟩

theorem InFlicker.trans (h : InFlicker s t) (k : InFlicker t u) : InFlicker s u :=
  ⟨h.frame.step k.frame (List.Subset.refl _), k.count.trans h.count⟩

/-- One more operation, which leaves the lamplighter's own registers. -/
theorem InFlicker.step {ps : List Part} (h : InFlicker s t) (k : Frame ps t u) (hs : ps ⊆ Part.flickering := by decide)
    (hlmp : .lmp ∉ ps := by decide) : InFlicker s u :=
  ⟨h.frame.step k hs, (congrArg Lmp.flicker (k .lmp hlmp)).trans h.count⟩

theorem InFlicker.of_frame {ps : List Part} (k : Frame ps s t) (hs : ps ⊆ Part.flickering := by decide)
    (hlmp : .lmp ∉ ps := by decide) : InFlicker s t := (InFlicker.refl s).step k hs hlmp

/-- A change of the lamplighter's other registers. -/
theorem InFlicker.setLmp (h : InFlicker s t) (x : Lmp) (hx : x.flicker = t.lmp.flicker := by rfl) : InFlicker s { t with lmp := x } :=
  ⟨h.frame.step (frame_lmp t x) (by decide), hx.trans h.count⟩

theorem InFlicker.ite {p : Prop} [Decidable p] (h : InFlicker s t) (k : InFlicker s u) : InFlicker s (if p then t else u) := by
  split
  · exact h
  · exact k

theorem inFlicker_foldl {α : Type} {g : State → α → State} (hg : ∀ a x, InFlicker a (g a x)) (l : List α) (s : State) :
    InFlicker s (l.foldl g s) :=
  foldl_keeps (I := InFlicker s) (fun a x h => h.trans (hg a x)) l (InFlicker.refl s)

end

/-! ### ACLK 0 -/

theorem atBoundary_inFlicker (l : Nat) (s : State) : InFlicker s (atBoundary l s) := by
  rw [atBoundary_eq]
  exact (InFlicker.of_frame (boundaryTaken_others l s).2).step (drTail_frame l _)

theorem tryDr_frame (l : Nat) (s : State) : Frame [.lans, .fresh] s (tryDr l s) := by
  unfold tryDr
  exact Frame.ite (Frame.ite (drBegin_frame l s) ((setLan_frame s l _).mono (by decide))) (Frame.refl _ s)

theorem drawTrim_frame (l : Nat) (s : State) : Frame [.wicks, .fresh] s (drawTrim l s) := by
  unfold drawTrim
  dsimp only
  split
  · exact Frame.refl _ s
  · exact Frame.ite (.after (by decide) (updWick_frame _ _ _ _) ((frame_fresh s _).mono (by decide))) (Frame.refl _ s)

theorem lanBegin_inFlicker (s : State) (l : Nat) : InFlicker s (lanBegin s l) := by
  unfold lanBegin
  extract_lets v s1 s2 s3
  have h1 : InFlicker s s1 := (atBoundary_inFlicker l s).ite (.refl s)
  have h2 : InFlicker s s2 := (h1.step (tryDr_frame l s1)).ite h1
  have h3 : InFlicker s s3 := (h2.step (drBegin_frame l s2)).ite h2
  exact (h3.step (drawTrim_frame l s3)).ite h3

theorem flickerBegin_inFlicker (s : State) : InFlicker s (flickerBegin s) := by
  unfold flickerBegin
  extract_lets f times lmp s1 s2
  have h1 : InFlicker s s1 := (InFlicker.refl s).setLmp _
  have h2 : InFlicker s s2 := (h1.step (frame_pwr s1 _)).ite h1
  exact h2.trans (inFlicker_foldl lanBegin_inFlicker _ s2)

/-! ### Launches -/

theorem fly_inFlicker (x : Flight) (s : State) : InFlicker s (fly x s) :=
  ((InFlicker.refl s).setLmp { s.lmp with flights := s.lmp.flights ++ [x] }).step (updWick_frame _ _ _ _)

theorem launchUnit_inFlicker (f id : Nat) (ll : LLan) (lw : LWick) (s : State) : InFlicker s (launchUnit f id ll lw s) := by
  unfold launchUnit
  split
  · exact .refl s
  split
  · exact .refl s
  split
  · exact .refl s
  · exact (((fly_inFlicker _ s).step (updWick_frame _ _ _ _)).step (updLan_frame _ _ _)).step (updRun_frame _ _ _ _)

/-- A probe step that flies leaves its note on the wick and on the lantern. -/
theorem probe_inFlicker (f l w : Nat) (g : Wick → Wick) (x : Flight) (s : State) :
    InFlicker s (noteLaunch f l (updWick l w g (fly x s))) :=
  ((fly_inFlicker x s).step (updWick_frame _ _ _ _)).step (updLan_frame _ _ _)

theorem launchTrim_inFlicker (f : Nat) (l : Lan) (w : PWick) (s : State) : InFlicker s (launchTrim f l w s) := by
  unfold launchTrim
  dsimp only
  split
  · exact .refl s
  · exact probe_inFlicker _ _ _ _ _ s

theorem launchDrive_inFlicker (f : Nat) (l : Lan) (w : PWick) (s : State) : InFlicker s (launchDrive f l w s) :=
  .ite (((fly_inFlicker _ s).step (updLan_frame _ _ _)).step (updLan_frame _ _ _)) (.refl s)

theorem launch_inFlicker (f : Nat) (s : State) (g : Grant) : InFlicker s (launch f s g) := by
  cases g with
  | unit id ll lw => exact launchUnit_inFlicker f id ll lw s
  | probe l w => exact .ite (probe_inFlicker _ _ _ _ _ s) (.refl s)
  | trim l w => exact launchTrim_inFlicker f l w s
  | drive l w => exact launchDrive_inFlicker f l w s

theorem flickerLaunch_inFlicker (s : State) : InFlicker s (flickerLaunch s) := by
  unfold flickerLaunch
  extract_lets gs who lmp s1
  have h1 : InFlicker s s1 := (InFlicker.refl s).setLmp _
  have h2 : InFlicker s (gs.foldl (launch (nowF s1)) s1) := h1.trans (inFlicker_foldl (launch_inFlicker _) gs s1)
  exact h2.trans (inFlicker_foldl (fun a p => .of_frame (updLctx_frame a _ _)) who _)

/-! ### A selected flare (R165) -/

theorem markLan_inFlicker (draws : List Lan) (kept : Bool) (p : Nat) (s : State) : InFlicker s (markLan draws kept p s).1 := by
  have hset (v : Lantern) : InFlicker s (setLan p v s) := .of_frame (setLan_frame s p v)
  unfold markLan
  dsimp only
  split
  · exact .refl s
  split
  · exact ((InFlicker.refl s).setLmp _).step (setLan_frame _ p _)
  split
  · exact (hset _).setLmp _
  · exact hset _

theorem journalAppend_inFlicker (c : Nat) (e : JEntry) (s : State) : InFlicker s (journalAppend c e s) := by
  have hchk (x : ChkDie) : InFlicker s { s with chk := x } := .of_frame (frame_chk s x)
  unfold journalAppend
  dsimp only
  split
  · exact hchk _
  split
  · exact hchk _
  · exact (hchk _).trans (inFlicker_foldl (fun a p => .of_frame (updLan_frame a p _)) _ _)

/-- Marks are set on one lantern after another. -/
theorem marks_inFlicker {α : Type} {g : State × List Lan → α → State × List Lan} (hg : ∀ a q, InFlicker a.1 (g a q).1)
    (qs : List α) (a : State × List Lan) : InFlicker a.1 (qs.foldl g a).1 := by
  induction qs generalizing a with
  | nil => exact .refl _
  | cons q qs ih => exact (hg a q).trans (ih _)

theorem startFlare_inFlicker (draws : List Lan) (c f : Nat) (r : FlareReq) (floored : Bool) (s : State) :
    InFlicker s (startFlare draws c f r floored s) := by
  unfold startFlare
  extract_lets id lmp s1 s2 lans s3 plans accs redo s4 s5 m s6 s7 busy fb fixed blks tp
  have h1 : InFlicker s s1 := (InFlicker.refl s).setLmp _
  have h2 : InFlicker s s2 := h1.step (updLctx_frame s1 c _)
  have h3 : InFlicker s s3 := h2.trans (inFlicker_foldl (fun a q => .of_frame (setLan_frame a _ _)) lans s2)
  have h4 : InFlicker s s4 := h3.trans (inFlicker_foldl (fun a q => .of_frame (updLan_frame a _ _)) lans s3)
  have h5 : InFlicker s s5 := .ite h4 (h4.trans (inFlicker_foldl (fun a p => .of_frame (updWick_frame a _ _ _)) plans s4))
  have h6 : InFlicker s s6 := by
    have hmarked : InFlicker s5 m.1 := by
      unfold m
      split
      · exact .refl s5
      · exact marks_inFlicker (fun a q => markLan_inFlicker draws _ _ a.1) lans (s5, [])
    exact h5.trans hmarked
  have h7 : InFlicker s s7 := .ite h6 (h6.trans (journalAppend_inFlicker c _ s6))
  exact h7.step (updLctx_frame s7 c _)

theorem selectFor_inFlicker (draws : List Lan) (f : Nat) (s : State) (c : Nat) : InFlicker s (selectFor draws f s c) := by
  unfold selectFor
  dsimp only
  split
  · exact .refl s
  split
  · exact .refl s
  · exact startFlare_inFlicker _ _ _ _ _ s

/-! ### The plan (R167) -/

theorem fillFor_inFlicker (f : Nat) (s : State) (c : Nat) : InFlicker s (fillFor f s c) := by
  unfold fillFor
  extract_lets x sh cap credit1 credit act r units waits taken probes pr s1
  have h1 : InFlicker s s1 := .of_frame (updLctx_frame s c _)
  exact h1.setLmp _

theorem admitStalled_inFlicker (s : State) (p : Nat × Nat) : InFlicker s (admitStalled s p) := by
  unfold admitStalled
  split
  · exact .refl s
  split
  · exact .ite ((InFlicker.of_frame (enqueueFlare_frame _ _ s)).step (updThread_frame _ _ _ _)) (.refl s)
  · exact .refl s

theorem flickerPlan_inFlicker (draws : List Lan) (s : State) : InFlicker s (flickerPlan draws s) := by
  unfold flickerPlan
  extract_lets s1 s2
  have h1 : InFlicker s s1 := inFlicker_foldl (selectFor_inFlicker draws _) _ s
  have h2 : InFlicker s s2 := h1.trans (inFlicker_foldl (fillFor_inFlicker _) _ s1)
  exact .ite (h2.trans (inFlicker_foldl admitStalled_inFlicker _ s2)) (.refl s)

/-! ### The count -/

/-- The stalls of the engines are counted (R150). -/
def stallsCounted (s : State) : State := (keysOf s.engs).foldl countStall s

theorem stallsCounted_frame (s : State) : Frame [.engs] s (stallsCounted s) :=
  frame_foldl (fun a l => (Frame.refl _ a).ite (updEng_frame a l _)) _ s

/-- The end of a flicker counts it, and 8 ACLK with it (R152, R279). -/
theorem flickerEnd_counts {s t : State} (h : InFlicker s t) :
    (flickerEnd t).lmp.flicker.val = s.lmp.flicker.val + 1 ∧ (flickerEnd t).clk = { s.clk with aclk := s.clk.aclk + 8 } ∧
      Frame (.clk :: Part.flickering) s (flickerEnd t) := by
  obtain ⟨hframe, hcount⟩ := h.step (stallsCounted_frame t)
  have hclk : (stallsCounted t).clk = s.clk := hframe .clk (by decide)
  have hend : Frame [.lmp, .clk] (stallsCounted t) (flickerEnd t) := by
    intro p hp; cases p <;> simp at hp <;> rfl
  refine ⟨?_, ?_, .after (by decide) hend (hframe.mono (by decide))⟩
  · change (stallsCounted t).lmp.flicker.val + 1 = _
    rw [hcount]
  · change { (stallsCounted t).clk with aclk := (stallsCounted t).clk.aclk + 8 } = _
    rw [hclk]

theorem doFlicker_counts {s : State} (h : 5 ≤ s.clk.step) (draws : List Lan) :
    let u := doFlicker draws s
    u.lmp.flicker.val = s.lmp.flicker.val + 1 ∧ u.clk = { s.clk with aclk := s.clk.aclk + 8 } ∧
      Frame (.clk :: Part.flickering) s u := by
  have hrun : doFlicker draws s = flickerEnd (flickerPlan draws (flickerLaunch (flickerBegin s))) := if_pos h
  rw [hrun]
  exact flickerEnd_counts
    (((flickerBegin_inFlicker s).trans (flickerLaunch_inFlicker _)).trans (flickerPlan_inFlicker draws _))

theorem doFlicker_early {s : State} (h : s.clk.step < 5) (draws : List Lan) : doFlicker draws s = s := by
  unfold doFlicker
  exact if_neg (by omega)

/-! ### The launch of a readback probe (R48) -/

/-- The step of a readback probe: its next row, driven at magnitude 4 with exponent 0. -/
def probeFlight (s : State) (l : Lan) (w : PWick) (f : Nat) : Flight :=
  let x := getWick s l.val w.val
  { flightOf s l w (getLan s l.val).tpoint.toNat f (oneUnit x.rbLaunched (x.rbLaunched + 1) 0) with x := [(x.rbLaunched, 4)] }

theorem launchProbe_flies {s : State} {l : Lan} {w : PWick} (h : probing (getWick s l.val w.val) = true) (f : Nat) :
    launchProbe f l w s = noteLaunch f l.val (updWick l.val w.val
      (fun x => { x with rbLaunched := (getWick s l.val w.val).rbLaunched + 1 }) (fly (probeFlight s l w f) s)) := if_pos h

theorem launchProbe_leaves {s : State} {l : Lan} {w : PWick} (h : probing (getWick s l.val w.val) = true) (f : Nat) :
    let x := getWick s l.val w.val
    let t := launch f s (.probe l w)
    getWick t l.val w.val = { x with rbLaunched := x.rbLaunched + 1, bankB := !x.bankB } ∧
      getLan t l.val = { getLan s l.val with lastLaunch := some f } ∧
      t.lmp = { s.lmp with flights := s.lmp.flights ++ [probeFlight s l w f] } ∧ Frame [.lans, .wicks, .lmp] s t := by
  have hlaunch : launch f s (.probe l w) = _ := launchProbe_flies h f
  rw [hlaunch]
  refine ⟨?_, ?_, rfl, ?_⟩
  · rw [noteLaunch, getWick_updLan, getWick_updWick_same]
    unfold fly flipBank
    rw [show (probeFlight s l w f).lan = l from rfl, show (probeFlight s l w f).pw = w from rfl, getWick_updWick_same]
    rfl
  · rw [noteLaunch, getLan_updLan_same, getLan_updWick]
    rfl
  · exact .after (by decide) (updLan_frame _ _ _) <| .after (by decide) (updWick_frame _ _ _ _) <|
      .after (by decide) (updWick_frame _ _ _ _) ((frame_lmp s _).mono (by decide))

end Sys2Proof.Machine
end

section
/-! SUPPORT. The completion of a flare (R96, R102, R103, R121, R155, R231) and the settlement notice (R243), and the settlement of O15. -/

namespace Sys2Proof.Machine

theorem exec_flareComplete (c : CtxI) (s : State) : exec (.flareComplete c) s = .next (kickOps (flareComplete c.val s)) := rfl

theorem exec_settleSend (c : CtxI) (inst : W32) (s : State) : exec (.settleSend c inst) s = .next (doSettleSend c.val inst s) := rfl

/-! ### One lantern of the flare (R102, R103, R121) -/

theorem getSlot_setSlot_same (v : Lantern) (one : Bool) (x : Slot) : getSlot (setSlot v one x) one = x := by
  cases one <;> rfl

theorem getSlot_setSlot_other (v : Lantern) (one : Bool) (x : Slot) : getSlot (setSlot v one x) (!one) = getSlot v (!one) := by
  cases one <;> rfl

/-- A lantern of a complete flare before and after: the slot is free, the flare counts, its slice values are gone, and its sums stand in
the output area. -/
structure Closed (r : FlareRun) (areas : List (Lan × OutArea)) (q : LLan × Lan × Bool) (v w : Lantern) : Prop where
  freed : getSlot w q.2.2 = Slot.init
  other : getSlot w (!q.2.2) = getSlot v (!q.2.2)
  flares : w.flares = v.flares.inc
  out : w.out = (areas.find? (fun a => a.1 == q.2.1)).map (fun a => a.2)
  accs : w.accs = v.accs.filter (fun a => a.flare != r.id)

/-- The audit copy of a marked lantern waits with the others (R227). -/
def copyKept (marked : Bool) (copy : AuditCopy) (v : Lantern) : Lantern :=
  if marked then { v with audits := v.audits ++ [copy], openMarks := v.openMarks - 1 } else v

/-- The lantern as the flare leaves it. -/
def closedLan (r : FlareRun) (areas : List (Lan × OutArea)) (q : LLan × Lan × Bool) (v : Lantern) : Lantern :=
  setSlot { v with flares := v.flares.inc, accs := v.accs.filter (fun a => a.flare != r.id),
                   out := (areas.find? (fun a => a.1 == q.2.1)).map (fun a => a.2),
                   area := Tab.drop (fun k => decide (0x10000 ≤ k) && decide (k < 0x18000)) v.area } q.2.2 Slot.init

theorem closedLan_closes (r : FlareRun) (areas : List (Lan × OutArea)) (q : LLan × Lan × Bool) (marked : Bool) (copy : AuditCopy)
    (v : Lantern) : Closed r areas q v (closedLan r areas q (copyKept marked copy v)) := by
  obtain ⟨ll, l, one⟩ := q
  cases marked <;> cases one <;> exact ⟨rfl, rfl, rfl, rfl, rfl⟩

section
variable (c : Nat) (r : FlareRun) (areas : List (Lan × OutArea)) (s : State)

theorem closeLan_eq (q : LLan × Lan × Bool) : closeLan c r areas s q = updLan q.2.1.val
    (fun v => closedLan r areas q (copyKept (r.marks.any (fun d => d.val == q.2.1.val)) (auditCopy s c r q.1.val q.2.1.val q.2.2) v)) s :=
  rfl

theorem closeLan_frame (q : LLan × Lan × Bool) : Frame [.lans] s (closeLan c r areas s q) := updLan_frame s _ _

theorem closeLan_closes (q : LLan × Lan × Bool) :
    Closed r areas q (getLan s q.2.1.val) (getLan (closeLan c r areas s q) q.2.1.val) := by
  rw [closeLan_eq, getLan_updLan_same]
  exact closedLan_closes r areas q _ _ _

theorem getLan_closeLan_other {q : LLan × Lan × Bool} {k : Nat} (h : k ≠ q.2.1.val) :
    getLan (closeLan c r areas s q) k = getLan s k := by
  rw [closeLan_eq, getLan_updLan, if_neg h]

end

/-- Each lantern of a flare closes as if it were alone. -/
theorem closeLans_close (c : Nat) (r : FlareRun) (areas : List (Lan × OutArea)) {qs : List (LLan × Lan × Bool)}
    (hnd : (qs.map (fun q => q.2.1)).Nodup) (s : State) :
    (∀ n, (∀ q ∈ qs, q.2.1.val ≠ n) → getLan (qs.foldl (closeLan c r areas) s) n = getLan s n) ∧
      ∀ q ∈ qs, Closed r areas q (getLan s q.2.1.val) (getLan (qs.foldl (closeLan c r areas) s) q.2.1.val) := by
  induction qs generalizing s with
  | nil => exact ⟨fun _ _ => rfl, fun _ h => absurd h List.not_mem_nil⟩
  | cons x qs ih =>
    obtain ⟨hx, hqs⟩ := List.nodup_cons.mp hnd
    have hne : ∀ q ∈ qs, q.2.1.val ≠ x.2.1.val := fun q hq he => hx (List.mem_map.mpr ⟨q, hq, Fin.ext he⟩)
    obtain ⟨hout, hin⟩ := ih hqs (closeLan c r areas s x)
    simp only [List.foldl_cons, List.forall_mem_cons]
    refine ⟨fun n hn => ?_, ?_, fun q hq => ?_⟩
    · rw [hout n hn.2, getLan_closeLan_other _ _ _ _ (Ne.symm hn.1)]
    · rw [hout x.2.1.val hne]
      exact closeLan_closes c r areas s x
    · rw [← getLan_closeLan_other c r areas s (hne q hq)]
      exact hin q hq

/-- Where no lantern stands twice, each finds its own sums. -/
theorem find_area {qs : List (LLan × Lan × Bool)} (hnd : (qs.map (fun q => q.2.1)).Nodup) (out : LLan × Lan × Bool → OutArea)
    {q : LLan × Lan × Bool} (hq : q ∈ qs) :
    (qs.map (fun p => (p.2.1, out p))).find? (fun a => a.1 == q.2.1) = some (q.2.1, out q) := by
  induction qs with
  | nil => exact absurd hq List.not_mem_nil
  | cons x qs ih =>
    obtain ⟨hx, hqs⟩ := List.nodup_cons.mp hnd
    rw [List.map_cons, List.find?_cons]
    rcases List.mem_cons.mp hq with rfl | htail
    · rw [beq_self_eq_true]
    · have hne : x.2.1 ≠ q.2.1 := fun he => hx (List.mem_map.mpr ⟨q, htail, he.symm⟩)
      rw [beq_false_of_ne hne]
      exact ih hqs htail

/-! ### The flare as a whole (R155) -/

/-- The output area of a lantern of the flare (R102, R108). -/
def flareOut (c : Nat) (r : FlareRun) (s : State) (q : LLan × Lan × Bool) : OutArea :=
  outArea (shapeQ (getLan s q.2.1.val)) (getSlot (getLan s q.2.1.val) q.2.2) (wickVals s c r q)

/-- The output areas of the flare's lanterns. -/
def flareAreas (c : Nat) (r : FlareRun) (s : State) : List (Lan × OutArea) := r.lans.map (fun q => (q.2.1, flareOut c r s q))

/-- The tail that finishes the flare's row chains (R109, R110). -/
def flareTail (c : Nat) (r : FlareRun) (s : State) : FlareTail :=
  { id := r.id, req := r.req, clean := r.clean, resolved := r.resolved,
    checks := if r.req.daylight then daylightChecks s r else r.checks,
    chains := if r.req.thread.val < 8 then r.lans.filterMap (flareChain s r (flareAreas c r s)) else [], outs := [] }

/-- The flare's lanterns are closed. -/
def lansClosed (c : Nat) (r : FlareRun) (s : State) : State := r.lans.foldl (closeLan c r (flareAreas c r s)) s

/-- The flare has left its context's runs and counts in the storm window (R96). -/
def runLeft (r : FlareRun) (x : LmpCtx) : LmpCtx :=
  { x with runs := x.runs.filter (fun q => q.id != r.id), winFlares := x.winFlares + 1,
           winFallback := if r.hadFallback then x.winFallback + 1 else x.winFallback }

/-- The state of a closed flare before waiting blocks enter the free slots. -/
def flareClosed (c : Nat) (r : FlareRun) (s : State) : State := updLctx c (runLeft r) (lansClosed c r s)

theorem closeRun_eq (c : Nat) (r : FlareRun) (s : State) : closeRun c r s = runTail c (flareTail c r s)
    (noteEmpty s r (noteReq c r.req.inst (vecFlags s r) (drainBroadcasts (flareClosed c r s)))) := rfl

theorem lansClosed_frame (c : Nat) (r : FlareRun) (s : State) : Frame [.lans] s (lansClosed c r s) :=
  frame_foldl (closeLan_frame c r _) _ s

theorem flareClosed_frame (c : Nat) (r : FlareRun) (s : State) : Frame [.lans, .lctx] s (flareClosed c r s) :=
  .after (by decide) (updLctx_frame _ _ _) ((lansClosed_frame c r s).mono (by decide))

theorem getLctx_flareClosed (c : Nat) (r : FlareRun) (s : State) : getLctx (flareClosed c r s) c = runLeft r (getLctx s c) := by
  rw [flareClosed, getLctx_updLctx, if_pos rfl, (lansClosed_frame c r s).getLctx c (by decide)]

/-- What a complete flare leaves of each of its lanterns. -/
theorem flareClosed_lan (c : Nat) {r : FlareRun} (hnd : (r.lans.map (fun q => q.2.1)).Nodup) (s : State) {q : LLan × Lan × Bool}
    (hq : q ∈ r.lans) :
    let v := getLan s q.2.1.val
    let w := getLan (flareClosed c r s) q.2.1.val
    getSlot w q.2.2 = Slot.init ∧ getSlot w (!q.2.2) = getSlot v (!q.2.2) ∧ w.flares = v.flares.inc ∧
      w.out = some (flareOut c r s q) ∧ w.accs = v.accs.filter (fun a => a.flare != r.id) := by
  obtain ⟨hfreed, hother, hflares, hout, haccs⟩ := (closeLans_close c r (flareAreas c r s) hnd s).2 q hq
  refine ⟨hfreed, hother, hflares, hout.trans ?_, haccs⟩
  rw [flareAreas, find_area hnd (flareOut c r s) hq]
  rfl

section
variable {c : Nat} {s : State}

theorem flareComplete_none (h : s.snuf.wheld = true ∨ (getLctx s c).runs.find? (runDone s) = none) : flareComplete c s = s := by
  unfold flareComplete
  split
  · rfl
  · next hheld => rw [h.resolve_left hheld]

variable {r : FlareRun} (hheld : s.snuf.wheld = false) (hrun : (getLctx s c).runs.find? (runDone s) = some r)

include hheld hrun

theorem flareComplete_closes (hgood : (if r.req.daylight then daylightBad s c r else none) = none) :
    flareComplete c s = closeRun c r s := by
  unfold flareComplete
  rw [if_neg (by simp [hheld]), hrun]
  dsimp only
  rw [hgood]

theorem flareComplete_withholds {l : Nat} (hday : r.req.daylight = true) (hbad : daylightBad s c r = some l) :
    flareComplete c s = withhold 4 l s := by
  unfold flareComplete
  rw [if_neg (by simp [hheld]), hrun]
  dsimp only
  rw [if_pos hday, hbad]

end

/-! ### The settlement notice (R243) -/

/-- The settlement no longer waits. -/
def settleTaken (q : Settle) (s : State) : State := { s with fab := { s.fab with settles := s.fab.settles.erase q } }

theorem doSettleSend_goes {c : Nat} {inst : W32} {q : Settle} {s : State}
    (hq : s.fab.settles.find? (fun q => q.slot == c && q.inst == inst) = some q) (hheld : s.snuf.wheld = false)
    (hclear : ∀ e ∈ Tab.get [] s.chk.jrnl c, e.inst ≠ inst) : doSettleSend c inst s =
      if q.final = s.fab.myid then settleCount c inst q.final (settleTaken q s)
      else sendNotice 0x24 q.final { ctx := q.ctx, reqtag := q.reqtag, inst := q.inst, seg := q.seg } 0 0 0 0 (settleTaken q s) := by
  unfold doSettleSend
  rw [hq]
  dsimp only
  rw [if_neg (by simpa [hheld] using hclear)]
  rfl

/-- It waits while the journal holds an entry of the request. -/
theorem doSettleSend_waits {c : Nat} {inst : W32} {e : JEntry} {s : State} (he : e ∈ Tab.get [] s.chk.jrnl c) (hi : e.inst = inst) :
    doSettleSend c inst s = s := by
  have hopen : (Tab.get [] s.chk.jrnl c).any (fun e => e.inst == inst) = true := List.any_eq_true.mpr ⟨e, he, by simp [hi]⟩
  unfold doSettleSend
  split
  · rfl
  · rw [hopen, Bool.or_true]
    rfl

/-! ### O15 -/

/-- Settles O15: a flicker is `doFlicker_counts`, a probe `launchProbe_leaves`, a flare's end the equation `closeRun_eq` with
`flareClosed_lan` for its lanterns, and a settlement the two lemmas above. -/
theorem flickersAndFlareCompletion : Obligations.FlickersAndFlareCompletion := by
  refine ⟨?flicker, ?early, ?probe, ?closes, ?withholds, ?none, ?settles, ?waits⟩
  case flicker =>
    intro s draws h
    obtain ⟨hcount, hclk, hframe⟩ := doFlicker_counts h draws
    exact ⟨_, exec_flicker draws s, hcount, hclk, hframe.mono (by decide)⟩
  case early =>
    intro s draws h
    rw [exec_flicker, doFlicker_early h]
  case probe => exact fun s l w f h => launchProbe_leaves h f
  case closes =>
    intro s c r hheld hrun hnd hgood
    refine ⟨flareClosed c.val r s, ?_, ?_, fun q hq => flareClosed_lan c.val hnd s hq, flareClosed_frame c.val r s⟩
    · rw [exec_flareComplete, flareComplete_closes hheld hrun hgood, closeRun_eq]
      rfl
    · rw [getLctx_flareClosed]
      refine ⟨rfl, rfl, ?_⟩
      unfold runLeft
      cases r.hadFallback <;> rfl
  case withholds =>
    intro s c r l hheld hrun hday hbad
    refine ⟨withhold 4 l s, ?_, withhold_snuf hheld 4 l, withhold_frame 4 l s⟩
    rw [exec_flareComplete, flareComplete_withholds hheld hrun hday hbad]
  case none =>
    intro s c h
    rw [exec_flareComplete, flareComplete_none h]
  case settles =>
    intro s c inst q hq hheld hclear
    rw [exec_settleSend, doSettleSend_goes hq hheld hclear]
    rfl
  case waits =>
    intro s c inst e he hi
    rw [exec_settleSend, doSettleSend_waits he hi]

end Sys2Proof.Machine
end

section
/-! SUPPORT. The device record (R200, R450, R452, R528): what a write leaves of each section and under which tag. -/

namespace Sys2Proof.Machine

theorem exec_deviceRecordWrite (s : State) : exec .deviceRecordWrite s = .next (deviceRecord s) := rfl

theorem deviceRecord_absent {s : State} (h : s.flash.noRec = true) : deviceRecord s = s := if_pos h

theorem deviceRecord_present {s : State} (h : s.flash.noRec = false) : deviceRecord s = writeRecord s := if_neg (by simp [h])

/-! ### One wick, one lantern -/

/-- A wick's entry once the wick is recorded: what was retired stays so. -/
def wickEntry (x : Wick) (r : RecWick) : RecWick :=
  { r with trim := x.trim, colmap := [x.cm0, x.cm1, x.cm2, x.cm3], strike := x.strike, retired := r.retired || x.st == .failed }

/-- A lantern's entry once the lantern is recorded. -/
def lanEntry (v : Lantern) (r : RecLan) : RecLan :=
  { r with taps := v.taps, strike := v.strike, retired := r.retired || v.st == .retired }

/-- The entry of wick `k` holds what R528 lists of the wick. -/
def WickHeld (k : Nat) (s : State) : Prop :=
  let x := Tab.get Wick.init s.wicks k
  let r := Tab.get RecWick.init s.flash.wicks k
  r.trim = x.trim ∧ r.colmap = [x.cm0, x.cm1, x.cm2, x.cm3] ∧ r.strike = x.strike ∧ (x.st = .failed → r.retired = true)

/-- The entry of lantern `l` holds what R528 lists of the lantern. -/
def LanHeld (l : Nat) (s : State) : Prop :=
  let v := Tab.get Lantern.init s.lans l
  let r := Tab.get RecLan.init s.flash.lans l
  r.taps = v.taps ∧ r.strike = v.strike ∧ (v.st = .retired → r.retired = true)

/-- The wick at index `k` of the wick table is recorded. -/
def recordWick (s : State) (k : Nat) : State := putRecWick (k / 17) (k % 17) (wickEntry (getWick s (k / 17) (k % 17))) s

/-- Lantern `l` is recorded. -/
def recordLan (s : State) (l : Nat) : State := putRecLan l (lanEntry (getLan s l)) s

theorem recordWick_frame (s : State) (k : Nat) : Frame [.flash] s (recordWick s k) := frame_flash s _

theorem recordLan_frame (s : State) (l : Nat) : Frame [.flash] s (recordLan s l) := frame_flash s _

theorem retag_frame (n : Nat) (s : State) : Frame [.flash] s (retag n s) := frame_flash s _

theorem recWicks_recordWick (s : State) (j k : Nat) : Tab.get RecWick.init (recordWick s j).flash.wicks k =
    if k = j then wickEntry (Tab.get Wick.init s.wicks j) (Tab.get RecWick.init s.flash.wicks j)
    else Tab.get RecWick.init s.flash.wicks k := by
  simp only [recordWick, putRecWick, getWick, Tab.get_upd, Nat.div_add_mod']

theorem recLans_recordLan (s : State) (j l : Nat) : Tab.get RecLan.init (recordLan s j).flash.lans l =
    if l = j then lanEntry (Tab.get Lantern.init s.lans j) (Tab.get RecLan.init s.flash.lans j)
    else Tab.get RecLan.init s.flash.lans l :=
  Tab.get_upd _ _ _ _ _

/-! ### The parts of a write -/

/-- Sections that failed are dropped before they are written anew. -/
def sectionsDropped (s : State) : State := (recSections s).foldl (fun s n => dropSec n s) s

/-- Every listed wick is recorded. -/
def wicksRecorded (s : State) : State := (keysOf s.wicks).foldl recordWick s

/-- Every listed lantern is recorded. -/
def lansRecorded (s : State) : State := (keysOf s.lans).foldl recordLan s

/-- The sconces retired now, and those that were recorded so before. -/
def retiredSconces (s : State) : List Nat := (List.range 16).filter (fun n => (getScn s n).retire || s.flash.sconces.contains n)

/-- The common section is recorded. -/
def commonRecorded (s : State) : State := { s with flash := { s.flash with sconces := retiredSconces s, diodes := s.mon.dtab } }

/-- Sections take their tags. -/
def retagged (ns : List Nat) (s : State) : State := ns.foldl (fun s n => retag n s) s

theorem sectionsDropped_frame (s : State) : Frame [.flash] s (sectionsDropped s) :=
  frame_foldl (fun a n => dropSec_frame n a) _ s

theorem wicksRecorded_frame (s : State) : Frame [.flash] s (wicksRecorded s) := frame_foldl recordWick_frame _ s

theorem lansRecorded_frame (s : State) : Frame [.flash] s (lansRecorded s) := frame_foldl recordLan_frame _ s

theorem commonRecorded_frame (s : State) : Frame [.flash] s (commonRecorded s) := frame_flash s _

theorem retagged_frame (ns : List Nat) (s : State) : Frame [.flash] s (retagged ns s) :=
  frame_foldl (fun a n => retag_frame n a) ns s

theorem writeRecord_eq (s : State) : writeRecord s =
    retagged (recSections s) (commonRecorded (lansRecorded (wicksRecorded (sectionsDropped s)))) := rfl

/-! ### What each part leaves -/

theorem recordWick_holds (k : Nat) (s : State) : WickHeld k (recordWick s k) := by
  unfold WickHeld
  rw [recWicks_recordWick, if_pos rfl]
  exact ⟨rfl, rfl, rfl, fun h => Bool.or_eq_true_iff.mpr (.inr (beq_iff_eq.mpr h))⟩

theorem recordLan_holds (l : Nat) (s : State) : LanHeld l (recordLan s l) := by
  unfold LanHeld
  rw [recLans_recordLan, if_pos rfl]
  exact ⟨rfl, rfl, fun h => Bool.or_eq_true_iff.mpr (.inr (beq_iff_eq.mpr h))⟩

theorem recordWick_keeps {k : Nat} (s : State) (j : Nat) (h : WickHeld k s) : WickHeld k (recordWick s j) := by
  by_cases hj : k = j
  · exact hj ▸ recordWick_holds k s
  · unfold WickHeld
    rw [recWicks_recordWick, if_neg hj]
    exact h

theorem recordLan_keeps {l : Nat} (s : State) (j : Nat) (h : LanHeld l s) : LanHeld l (recordLan s j) := by
  by_cases hj : l = j
  · exact hj ▸ recordLan_holds l s
  · unfold LanHeld
    rw [recLans_recordLan, if_neg hj]
    exact h

theorem wicksRecorded_holds {s : State} {k : Nat} (hk : k ∈ keysOf s.wicks) : WickHeld k (wicksRecorded s) :=
  foldl_reaches (I := fun _ => True) (fun _ _ h => h) recordWick_keeps (fun u _ => recordWick_holds k u) hk trivial

theorem lansRecorded_holds {s : State} {l : Nat} (hl : l ∈ keysOf s.lans) : LanHeld l (lansRecorded s) :=
  foldl_reaches (I := fun _ => True) (fun _ _ h => h) recordLan_keeps (fun u _ => recordLan_holds l u) hl trivial

/-- Recording lanterns leaves the wicks' entries. -/
theorem recWicks_lansRecorded (s : State) : (lansRecorded s).flash.wicks = s.flash.wicks :=
  foldl_keeps (g := recordLan) (I := fun u => u.flash.wicks = s.flash.wicks) (fun _ _ h => h) (keysOf s.lans) rfl

/-- Of the flash, tagging changes the tags alone. -/
theorem flash_retagged (ns : List Nat) (s : State) :
    (retagged ns s).flash = { s.flash with tags := (retagged ns s).flash.tags } := by
  refine foldl_keeps (I := fun u => u.flash = { s.flash with tags := u.flash.tags }) (fun u n h => ?_) ns rfl
  rw [retag, h]

theorem secTag_retag (m n : Nat) (s : State) : secTag (retag m s) n = secTag s n := rfl

/-- A section's tag is the one of what stands in flash, whichever sections are tagged after it (R452). -/
theorem tags_retagged {ns : List Nat} {n : Nat} (hn : n ∈ ns) (s : State) :
    Tab.get [] (retagged ns s).flash.tags n = secTag (retagged ns s) n := by
  have hset (u : State) : Tab.get [] (retag n u).flash.tags n = secTag (retag n u) n := by
    rw [secTag_retag, retag, Tab.get_set, if_pos rfl]
  refine foldl_reaches (I := fun _ => True) (P := fun u => Tab.get [] u.flash.tags n = secTag u n) (fun _ _ h => h)
    (fun u m h => ?_) (fun u _ => hset u) hn trivial
  by_cases hm : n = m
  · subst hm
    exact hset u
  · rw [secTag_retag, ← h, retag, Tab.get_set, if_neg hm]

/-! ### What a write leaves -/

section
variable (s : State)

theorem wicksRecorded_touches_flash : Frame [.flash] s (wicksRecorded (sectionsDropped s)) :=
  .after (by decide) (wicksRecorded_frame _) (sectionsDropped_frame s)

theorem lansRecorded_touches_flash : Frame [.flash] s (lansRecorded (wicksRecorded (sectionsDropped s))) :=
  .after (by decide) (lansRecorded_frame _) (wicksRecorded_touches_flash s)

theorem writeRecord_frame : Frame [.flash] s (writeRecord s) := by
  rw [writeRecord_eq]
  exact .after (by decide) (retagged_frame _ _) <| .after (by decide) (commonRecorded_frame _) (lansRecorded_touches_flash s)

theorem writeRecord_wicks {k : Nat} (hk : k ∈ keysOf s.wicks) : WickHeld k (writeRecord s) := by
  have hdropped : (sectionsDropped s).wicks = s.wicks := sectionsDropped_frame s .wicks (by decide)
  have hrecorded : (wicksRecorded (sectionsDropped s)).wicks = s.wicks := wicksRecorded_touches_flash s .wicks (by decide)
  have hwicks : (writeRecord s).wicks = s.wicks := writeRecord_frame s .wicks (by decide)
  have hflash : (writeRecord s).flash.wicks = (wicksRecorded (sectionsDropped s)).flash.wicks := by
    rw [writeRecord_eq, flash_retagged]
    exact recWicks_lansRecorded _
  unfold WickHeld
  rw [hflash, hwicks, ← hrecorded]
  exact wicksRecorded_holds (hdropped.symm ▸ hk)

theorem writeRecord_lans {l : Nat} (hl : l ∈ keysOf s.lans) : LanHeld l (writeRecord s) := by
  have hbefore : (wicksRecorded (sectionsDropped s)).lans = s.lans := wicksRecorded_touches_flash s .lans (by decide)
  have hrecorded : (lansRecorded (wicksRecorded (sectionsDropped s))).lans = s.lans := lansRecorded_touches_flash s .lans (by decide)
  have hlans : (writeRecord s).lans = s.lans := writeRecord_frame s .lans (by decide)
  have hflash : (writeRecord s).flash.lans = (lansRecorded (wicksRecorded (sectionsDropped s))).flash.lans := by
    rw [writeRecord_eq, flash_retagged]
    rfl
  unfold LanHeld
  rw [hflash, hlans, ← hrecorded]
  exact lansRecorded_holds (hbefore.symm ▸ hl)

theorem writeRecord_diodes : (writeRecord s).flash.diodes = s.mon.dtab := by
  rw [writeRecord_eq, flash_retagged]
  exact congrArg Mon.dtab (lansRecorded_touches_flash s .mon (by decide))

theorem writeRecord_sconces {n : Nat} (hn : n < 16) (hret : (getScn s n).retire = true) : n ∈ (writeRecord s).flash.sconces := by
  have hscn := (lansRecorded_touches_flash s).getScn n (by decide)
  rw [writeRecord_eq, flash_retagged]
  refine List.mem_filter.mpr ⟨List.mem_range.mpr hn, ?_⟩
  rw [hscn, hret, Bool.true_or]

theorem writeRecord_tags {n : Nat} (hn : n ∈ recSections s) : Tab.get [] (writeRecord s).flash.tags n = secTag (writeRecord s) n := by
  rw [writeRecord_eq]
  exact tags_retagged hn _

end

end Sys2Proof.Machine
end

section
/-! SUPPORT. Monitor conversions, urgent requests and converter control (R202 to R208, R213), and the settlement of O14. -/

namespace Sys2Proof.Machine

theorem exec_monUrgGo (gov : Bool) (v : W32) (s : State) : exec (.monUrgGo gov v) s = .next (monUrg gov v s) := rfl

theorem exec_monCvGo (n : Fin 4) (v : W32) (s : State) : exec (.monCvGo n v) s = .next (monCvWrite n.val v s) := rfl

/-! ### Converters -/

/-- A list changed at one position holds the change there. -/
theorem getD_map_withPos {α : Type} {q : List α} {n : Nat} (hn : n < q.length) (f : α → α) (d : α) :
    ((withPos 0 q).map fun p => if p.1 = n then f p.2 else p.2).getD n d = f (q.getD n d) := by
  rw [map_withPos _ d, List.getD_eq_getElem?_getD, List.getElem?_map, List.getElem?_range hn]
  simp [List.getD_eq_getElem?_getD, hn]

theorem getCv_updCv_same {s : State} {n : Nat} (hn : n < s.mon.cvs.length) (f : MonCv → MonCv) :
    getCv (updCv n f s) n = f (getCv s n) :=
  getD_map_withPos hn f _

theorem updCv_frame (n : Nat) (f : MonCv → MonCv) (s : State) : Frame [.mon] s (updCv n f s) := frame_mon s _

/-! ### Samples -/

/-- The code of a level, its three ranges apart (R202, R208; log 138). -/
theorem levelCode_eq (g : BitVec 2) (level err : Int) : levelCode g level err =
    BitVec.ofInt 12 (if level < 0 then 0 else if 1000000 < level * 2 ^ g.toNat then 4095
      else clampI 0 4095 (rneDiv (level * 2 ^ g.toNat * 4095) 1000000 + err)) := by
  have hgain : ((gainOf g : Nat) : Int) = 2 ^ g.toNat := by simp [gainOf]
  unfold levelCode levelClips
  rw [hgain]
  by_cases hlow : level < 0
  · simp [hlow]
  · by_cases hhigh : 1000000 < level * 2 ^ g.toNat
    · simp [hlow, hhigh]
    · simp [hlow, hhigh]

/-- A ×1 conversion of a diode (R207). -/
abbrev IsDiode (e : SeqEntry) : Prop := e.input.toNat < 32 ∧ e.gain = 0

theorem inputSample_other {e : SeqEntry} (h : ¬ IsDiode e) (code : BitVec 12) (clamped : Bool) (s : State) :
    inputSample e code clamped s = inputNoted e code clamped s := if_neg h

theorem inputNoted_frame (e : SeqEntry) (code : BitVec 12) (clamped : Bool) (s : State) :
    Frame [.mon] s (inputNoted e code clamped s) := frame_mon s _

theorem diodeNoted_frame (d run : Nat) (t8 : Int) (s : State) : Frame [.mon] s (diodeNoted d run t8 s) := frame_mon s _

theorem diodeTripped_frame (d : Nat) (t8 : Int) (s : State) : Frame [.mon] s (diodeTripped d t8 s) := frame_mon s _

/-- The hot samples in a row once a code is judged (R207). -/
def hotRunAfter (s : State) (d : Nat) (code : BitVec 12) : Nat :=
  if 840 ≤ sampleTemp s d code then min 16 (hotRun s d + 1) else 0

/-- A sample that is not the sixteenth hot one only records its temperature and the count. -/
theorem diodeSample_notes {d : Nat} {code : BitVec 12} {s : State} (h : hotRunAfter s d code ≠ 16) :
    diodeSample d code s = diodeNoted d (hotRunAfter s d code) (sampleTemp s d code) s := by
  unfold diodeSample
  exact if_neg h

theorem mon_inputNoted_latest (e : SeqEntry) (code : BitVec 12) (clamped : Bool) (s : State) :
    Tab.get 0 (inputNoted e code clamped s).mon.latest e.input.toNat = code := by
  rw [inputNoted, Tab.get_set, if_pos rfl]

/-- What a sample that does not trip leaves of its input's records: they are noted, a diode's temperature with them. -/
theorem inputSample_leaves {e : SeqEntry} {code : BitVec 12} {s : State}
    (h : ¬ (IsDiode e ∧ hotRunAfter s e.input.toNat code = 16)) (clamped : Bool) :
    let t := inputSample e code clamped s
    t.mon.cvs = s.mon.cvs ∧ Tab.get 0 t.mon.latest e.input.toNat = code ∧
      t.mon.stat = (if clamped then setBit s.mon.stat 1 else s.mon.stat) ∧
      (if IsDiode e then e.input.toNat < s.mon.temp.length → t.mon.temp.getD e.input.toNat (0, 0) =
          (BitVec.ofNat 5 (hotRunAfter s e.input.toNat code), sampleTemp s e.input.toNat code)
        else t.mon.temp = s.mon.temp) ∧ Frame [.mon] s t := by
  have hnoted := mon_inputNoted_latest e code clamped s
  by_cases hd : IsDiode e
  · have hcount : hotRunAfter (inputNoted e code clamped s) e.input.toNat code ≠ 16 := fun hc => h ⟨hd, hc⟩
    rw [inputSample_diode hd.1 hd.2, diodeSample_notes hcount]
    refine ⟨rfl, hnoted, rfl, ?_, .after (by decide) (diodeNoted_frame _ _ _ _) (inputNoted_frame e code clamped s)⟩
    rw [if_pos hd]
    exact fun hlen => temp_diodeNoted (s := inputNoted e code clamped s) hlen _ _
  · rw [inputSample_other hd]
    refine ⟨rfl, hnoted, rfl, ?_, inputNoted_frame e code clamped s⟩
    rw [if_neg hd]
    rfl

/-- TRIP is bit 0 of MON_STAT (R213). -/
theorem odd_setBit_zero (x : BitVec 3) : (setBit x 0).toNat % 2 = 1 := by
  have h : (setBit x 0).getLsbD 0 = true := by simp [getLsbD_setBit x 0 0 (by decide)]
  simpa using (div_mod_iff_getLsbD (setBit x 0) 0).mpr h

theorem diodeTripped_trip (d : Nat) (t8 : Int) (s : State) : (diodeTripped d t8 s).mon.stat.toNat % 2 = 1 :=
  odd_setBit_zero s.mon.stat

/-- What a sample that trips leaves: TRIP is set and the package has withheld with cause 05 (R171). -/
def Tripped (d : Nat) (s t : State) : Prop :=
  t.snuf = { wheld := true, cause := 5, detail := BitVec.ofNat 16 d } ∧ t.mon.stat.toNat % 2 = 1 ∧
    Frame (.mon :: Part.withholding) s t

theorem diodeSample_tripped {d : Nat} {code : BitVec 12} {s : State} (hhot : 840 ≤ sampleTemp s d code) (hcount : 15 ≤ hotRun s d)
    (hheld : s.snuf.wheld = false) : Tripped d s (diodeSample d code s) := by
  have hframe := withhold_frame 5 d (diodeTripped d (sampleTemp s d code) s)
  rw [diodeSample_trips hhot hcount]
  refine ⟨withhold_snuf (s := diodeTripped d (sampleTemp s d code) s) hheld 5 d, ?_,
    .after (by decide) hframe ((diodeTripped_frame d _ s).mono (by decide))⟩
  rw [hframe .mon (by decide)]
  exact diodeTripped_trip d _ s

theorem inputSample_tripped {e : SeqEntry} {code : BitVec 12} {s : State} (hdiode : IsDiode e)
    (hhot : 840 ≤ sampleTemp s e.input.toNat code) (hcount : 15 ≤ hotRun s e.input.toNat) (hheld : s.snuf.wheld = false)
    (clamped : Bool) : Tripped e.input.toNat s (inputSample e code clamped s) := by
  obtain ⟨hsnuf, htrip, hframe⟩ := diodeSample_tripped (s := inputNoted e code clamped s) hhot hcount hheld
  rw [inputSample_diode hdiode.1 hdiode.2]
  exact ⟨hsnuf, htrip, .after (List.Subset.refl _) hframe ((inputNoted_frame e code clamped s).mono (by decide))⟩

/-! ### Conversions -/

/-- An idle converter converts nothing. -/
theorem conversionDone_idle {n : Nat} {s : State} (hurgent : (getCv s n).urgent = none) (hrun : (getCv s n).run = false)
    (level err : Int) : conversionDone n level err s = s := by
  unfold conversionDone
  dsimp only
  rw [hurgent, hrun]
  rfl

/-- The result of firmware's own urgent conversion is there (R206). -/
def urgentResult (code : BitVec 12) (s : State) : State :=
  { s with mon := { s.mon with resValid := true, resCode := code, urgBusy := fwUrgent s.mon.cvs } }

/-- The converter goes on, and an urgent code of firmware's is the result. -/
def urgentTaken (n : Nat) (gov : Bool) (code : BitVec 12) (s : State) : State :=
  if gov then updCv n nextUrgent s else urgentResult code (updCv n nextUrgent s)

theorem urgentTaken_frame (n : Nat) (gov : Bool) (code : BitVec 12) (s : State) : Frame [.mon] s (urgentTaken n gov code s) :=
  (updCv_frame n nextUrgent s).ite (.after (by decide) (frame_mon _ _) (updCv_frame n nextUrgent s))

theorem conversionDone_urgent {n : Nat} {gov : Bool} {e : SeqEntry} {s : State} (h : (getCv s n).urgent = some (gov, e))
    (level err : Int) : conversionDone n level err s =
      inputSample e (levelCode e.gain level err) (levelClips e.gain level) (urgentTaken n gov (levelCode e.gain level err) s) := by
  unfold conversionDone
  dsimp only
  rw [h]
  rfl

/-! ### Requests and control -/

theorem monUrg_gov (v : W32) (s : State) : monUrg true v s = updCv (fld v 17 16) (askUrgent true (urgEntry v)) s := rfl

theorem monUrg_overflows {v : W32} {s : State} (hgo : bitAt v 31 = true) (hwaits : s.mon.cvs.any (fun c => c.waitFw.isSome) = true) :
    monUrg false v s = { s with mon := { s.mon with stat := setBit s.mon.stat 2 } } := if_pos ⟨hgo, hwaits⟩

/-- The fields of MON_URG as written (R213). -/
def urgFields (v : W32) (s : State) : State :=
  { s with mon := { s.mon with urgConv := BitVec.ofNat 2 (fld v 17 16), urgGain := (urgEntry v).gain, urgTs := (urgEntry v).ts,
                               urgInput := (urgEntry v).input } }

theorem monUrg_fields {v : W32} (hgo : bitAt v 31 = false) (s : State) : monUrg false v s = urgFields v s := by
  unfold monUrg
  simp only [hgo, Bool.false_eq_true, false_and, if_false]
  rfl

/-- Firmware's request waits for its result. -/
def urgAsked (s : State) : State := { s with mon := { s.mon with urgBusy := true, resValid := false } }

theorem monUrg_asks {v : W32} {s : State} (hgo : bitAt v 31 = true) (hfree : s.mon.cvs.any (fun c => c.waitFw.isSome) = false) :
    monUrg false v s = updCv (fld v 17 16) (askUrgent false (urgEntry v)) (urgAsked (urgFields v s)) := by
  unfold monUrg
  simp only [hgo, hfree, Bool.false_eq_true, and_false, if_false, if_true]
  rfl

/-! ### O14 -/

/-- Settles O14: the record's clauses are `writeRecord` part by part; a conversion is a sample of its entry's input
(`conversionDone_entry`, `conversionDone_urgent`), which a diode's notes or trips; requests and control change one converter. -/
theorem deviceRecordAndMonitor : Obligations.DeviceRecordAndMonitor := by
  refine ⟨?record, ?absent, levelCode_eq, ?entry, ?trips, ?urgent, ?idle, ?overflow, ?asks, ?fields, ?governor, ?control⟩
  case record =>
    intro s h
    refine ⟨_, (exec_deviceRecordWrite s).trans (congrArg _ (deviceRecord_present h)), fun k hk => ?_, fun l hl => ?_,
      writeRecord_diodes s, fun n => writeRecord_sconces s, fun n => writeRecord_tags s, writeRecord_frame s⟩
    · have hwicks : (writeRecord s).wicks = s.wicks := writeRecord_frame s .wicks (by decide)
      exact hwicks ▸ writeRecord_wicks s hk
    · have hlans : (writeRecord s).lans = s.lans := writeRecord_frame s .lans (by decide)
      exact hlans ▸ writeRecord_lans s hl
  case absent =>
    intro s h
    rw [exec_deviceRecordWrite, deviceRecord_absent h]
  case entry =>
    intro s n level err e hn hurgent hrun hentry code t8 run hcool
    obtain ⟨hcvs, hlatest, hstat, htemp, hframe⟩ :=
      inputSample_leaves (s := updCv n.val (fun c => storeEntry c code) s) hcool (levelClips e.gain level)
    refine ⟨_, exec_monConversionDone n level err s, ?_⟩
    rw [conversionDone_entry hurgent hrun hentry]
    refine ⟨?_, hlatest, hstat, htemp, .after (by decide) hframe (updCv_frame n.val _ s)⟩
    unfold getCv
    rw [hcvs]
    exact getCv_updCv_same hn _
  case trips =>
    intro s n level err e hurgent hrun hentry code hdiode hhot hcount hheld
    obtain ⟨hsnuf, htrip, hframe⟩ := inputSample_tripped (s := updCv n.val (fun c => storeEntry c code) s) hdiode hhot hcount hheld
      (levelClips e.gain level)
    refine ⟨_, exec_monConversionDone n level err s, ?_⟩
    rw [conversionDone_entry hurgent hrun hentry]
    exact ⟨hsnuf, htrip, .after (by decide) hframe ((updCv_frame n.val _ s).mono (by decide))⟩
  case urgent =>
    intro s n level err e gov hn hurgent hother
    have hnext := getCv_updCv_same hn nextUrgent
    refine ⟨_, exec_monConversionDone n level err s, ?_⟩
    rw [conversionDone_urgent hurgent, inputSample_other hother]
    refine ⟨?_, ?_, ?_, ?_, mon_inputNoted_latest e _ _ _, ?_, ?_,
      .after (by decide) (inputNoted_frame e _ _ _) (urgentTaken_frame n.val gov _ s)⟩
    all_goals cases gov
    case refine_1.true | refine_1.false => exact hnext
    all_goals rfl
  case idle =>
    intro s n level err hurgent hrun
    rw [exec_monConversionDone, conversionDone_idle hurgent hrun]
  case overflow =>
    intro s v hgo hwaits
    rw [exec_monUrgGo, monUrg_overflows hgo hwaits]
  case asks =>
    intro s v hgo hfree
    refine ⟨_, (exec_monUrgGo false v s).trans (congrArg _ (monUrg_asks hgo hfree)), rfl, rfl, rfl, rfl, fun hn => ?_, frame_mon s _⟩
    exact getCv_updCv_same (s := urgAsked (urgFields v s)) hn _
  case fields =>
    intro s v hgo
    rw [exec_monUrgGo, monUrg_fields hgo]
    rfl
  case governor =>
    rintro s v _ rfl hn
    exact ⟨_, exec_monUrgGo true v s, getCv_updCv_same hn _, updCv_frame _ _ s⟩
  case control =>
    intro s n v hn
    refine ⟨_, exec_monCvGo n v s, ?_, updCv_frame _ _ s⟩
    rw [monCvWrite, getCv_updCv_same hn]
    simp

end Sys2Proof.Machine
end

section
/-! SUPPORT. The CAL., CHK., MON., FAB. and DIAG. commands past the mailbox's checks (R201, R205, R307, R312, R327, R329, R330, R345,
R393, R394, R471), and the settlement of O24. -/

namespace Sys2Proof.Machine

/-! ### CAL. and CHK. -/

theorem exec_calRead (d : Desc) (ls : List Nat) (wicks sets : W32) (s : State) :
    exec (.calRead d ls wicks sets) s = .next (doCalRead d ls wicks sets s) := rfl

theorem exec_calTrim (d : Desc) (ll w : Nat) (s : State) : exec (.calTrim d ll w) s = .next (doCalTrim d ll w s) := rfl

theorem exec_calConfig (d : Desc) (ls : List LLan) (cfg dr : W32) (s : State) :
    exec (.calConfig d ls cfg dr) s = .next (doCalConfig d ls cfg dr s) := rfl

theorem exec_chkRate (d : Desc) (ls : List LLan) (v : W32) (s : State) : exec (.chkRate d ls v) s = .next (doChkRate d ls v s) := rfl

theorem exec_chkStatus (d : Desc) (s : State) :
    exec (.chkStatus d) s = .next (runCtx d false (fun _ _ s => finishFree d s) s) := rfl

theorem exec_chkAudit (d : Desc) (ls : List LLan) (s : State) : exec (.chkAudit d ls) s = .next (doChkAudit d ls s) := rfl

theorem doCalRead_answers {d : Desc} {ls : List Nat} {s : State} (h : accepted .ctxSysDiag false false true d s = true)
    (heven : d.inlen.toNat % 2 = 0) (hin : d.inlen ≠ 0) (hout : d.outlen ≠ 0)
    (hls : ∀ l ∈ ls, l < 1088 ∧ lanDenied (dequeue d s) d l = false) (wicks sets : W32) :
    doCalRead d ls wicks sets s = finishOut d 1056 (ls.flatMap (lanRecords (dequeue d s) wicks sets)) (dequeue d s) := by
  have hrange : ¬ ls.any (fun l => decide (1088 ≤ l)) = true := by simpa using fun l hl => (hls l hl).1
  have hown : ¬ ls.any (lanDenied (dequeue d s) d) = true := by simpa using fun l hl => (hls l hl).2
  rw [doCalRead, runCmd_accepted h, if_neg (by omega), if_neg (not_or.mpr ⟨hin, hout⟩), if_neg hrange, if_neg hown]

theorem doCalTrim_marks {d : Desc} {c : Nat} {x : Ctx} {ll w p : Nat} {s : State} (h : acceptedCtx false d c x s) (hll : ll < 1024)
    (hw : w < 16) (hown : sconceOfL ll ∈ sconcesOf s c) (hserve : lanOf s ll = some p) : doCalTrim d ll w s =
      finish d 0 (earlyRemap p (updLan p (fun v => { v with calStat := setBit v.calStat 6 })
        (updWick p (mapOf (getLan s p) w) (fun x => { x with early := true }) (dequeue d s)))) := by
  have hown' : (!(sconcesOf (dequeue d s) c).contains (sconceOfL ll)) = false := by
    change (!(sconcesOf s c).contains (sconceOfL ll)) = false
    simpa using hown
  have hserve' : lanOf (dequeue d s) ll = some p := hserve
  rw [doCalTrim, runCtx_accepted h]
  dsimp only
  rw [if_neg (by omega), hown', hserve']
  rfl

section
variable {d : Desc} {c : Nat} {x : Ctx} {ls : List LLan} {s : State} (h : acceptedCtx true d c x s) (hlen : 128 ≤ d.inlen.toNat)
  (hls : ls ≠ []) (hown : ∀ l ∈ ls, sconceOfL l.val ∈ sconcesOf s c)

include h hlen hls hown

theorem doCalConfig_sets (cfg dr : W32) : doCalConfig d ls cfg dr s =
    finish d 0 (onServed ls (fun v => calDrSet dr (calCfgSet cfg v)) (updCtx c (fun x => { x with
      calSet := ls.foldl (fun t l => Tab.set none t l.val (some (cfg, dr))) x.calSet }) (dequeue d s))) :=
  runMask_accepted h hlen hls hown _

theorem doChkRate_sets (v : W32) : doChkRate d ls v s =
    finish d 0 (onServed ls (audlogSet v) (updCtx c (fun x => { x with
      rateSet := ls.foldl (fun t l => Tab.set none t l.val (some v)) x.rateSet }) (dequeue d s))) :=
  runMask_accepted h hlen hls hown _

theorem doChkAudit_marks : doChkAudit d ls s = finish d 0 (onServed ls (fun v => { v with markNext := true }) (dequeue d s)) :=
  runMask_accepted h hlen hls hown _

end

/-! ### MON. -/

theorem exec_monSeq (d : Desc) (es : List SeqEntry) (len : Nat) (s : State) :
    exec (.monSeq d es len) s = .next (doMonSeq d es len s) := rfl

theorem exec_monRead (d : Desc) (s : State) : exec (.monRead d) s = .next (runCmd d .any false true false (finishFree d) s) := rfl

/-- Firmware's entries of converter 3 and their LEN are within what R205 allows. -/
def SeqInRange (es : List SeqEntry) (len : Nat) : Prop :=
  8 ≤ len ∧ len ≤ 16 ∧ es.length ≤ 8 ∧ ∀ e ∈ es, 56 ≤ e.input.toNat

theorem doMonSeq_sets {d : Desc} {es : List SeqEntry} {len : Nat} {s : State} (h : accepted .sysDiag false false false d s = true)
    (hrange : SeqInRange es len) : doMonSeq d es len s =
      finish d 0 (updCv 3 (fun c => { c with len := BitVec.ofNat 5 len, seq := c.seq.take 8 ++ es ++ c.seq.drop (8 + es.length) })
        (dequeue d s)) := by
  obtain ⟨hmin, hmax, hroom, hinputs⟩ := hrange
  have hin : ¬ es.any (fun e => decide (e.input.toNat < 56)) = true := by simpa using hinputs
  rw [doMonSeq, runCmd_accepted h, if_neg (by omega), if_neg (not_or.mpr ⟨by omega, not_or.mpr ⟨by omega, not_or.mpr ⟨by omega, hin⟩⟩⟩)]

theorem doMonSeq_denies {d : Desc} {es : List SeqEntry} {len : Nat} {s : State} (h : accepted .sysDiag false false false d s = true)
    (hlen : len ≠ 0) {e : SeqEntry} (he : e ∈ es) (hinput : e.input.toNat < 56) : doMonSeq d es len s = finish d 6 (dequeue d s) := by
  have hin : es.any (fun e => decide (e.input.toNat < 56)) = true := List.any_eq_true.mpr ⟨e, he, decide_eq_true hinput⟩
  rw [doMonSeq, runCmd_accepted h, if_neg hlen, if_pos (.inr (.inr (.inr hin)))]

/-! ### FAB. -/

theorem exec_fabPort (d : Desc) (p : Nat) (v : W32) (s : State) : exec (.fabPort d p v) s = .next (doFabPort d p v s) := rfl

theorem exec_fabId (d : Desc) (id : W16) (s : State) : exec (.fabId d id) s = .next (doFabId d id s) := rfl

theorem exec_fabRoute (d : Desc) (bank first : Nat) (es : List W32) (s : State) :
    exec (.fabRoute d bank first es) s = .next (doFabRoute d bank first es s) := rfl

theorem exec_fabFlip (d : Desc) (s : State) : exec (.fabFlip d) s = .next (runSys d (fun s => finish d 0 (fabBankFlip s)) s) := rfl

theorem exec_fabChain (d : Desc) (n : Nat) (v : W32) (s : State) : exec (.fabChain d n v) s = .next (doFabChain d n v s) := rfl

theorem exec_fabWrr (d : Desc) (v : W32) (s : State) : exec (.fabWrr d v) s = .next (runSys d (fun s => finish d 0 (wrrWrite v s)) s) := rfl

theorem exec_fabNeighbors (d : Desc) (s : State) :
    exec (.fabNeighbors d) s = .next (runCmd d .sysDiag false false false (finishFree d) s) := rfl

section
variable {d : Desc} {s : State} (h : accepted .sys false false false d s = true)

include h

theorem doFabPort_writes {p : Nat} {v : W32} (hp : p < 16) (ha : encBelow s (2 * p) (fld v 29 28) = false)
    (hb : encBelow s (2 * p + 1) (fld v 23 22) = false) : doFabPort d p v s = finish d 0 (pcfgWrite p v (dequeue d s)) := by
  have ha' : encBelow (dequeue d s) (2 * p) (fld v 29 28) = false := ha
  have hb' : encBelow (dequeue d s) (2 * p + 1) (fld v 23 22) = false := hb
  rw [doFabPort, runSys_accepted h, if_neg (by omega), if_neg (by simp [ha', hb'])]

theorem doFabPort_refuses {p : Nat} {v : W32} (hp : p < 16) (ha : encBelow s (2 * p) (fld v 29 28) = true) :
    doFabPort d p v s = finish d 0x0101 (dequeue d s) := by
  have ha' : encBelow (dequeue d s) (2 * p) (fld v 29 28) = true := ha
  rw [doFabPort, runSys_accepted h, if_neg (by omega), if_pos (.inl ha')]

theorem doFabId_writes {id : W16} (hid : id.toNat < 4096) :
    doFabId d id s = finish d 0 (myidWrite (0x80000000 ||| id.setWidth 32) (dequeue d s)) := by
  rw [doFabId, runSys_accepted h, if_neg (by omega)]

theorem doFabChain_writes {n : Nat} (hn : n < 16) (v : W32) : doFabChain d n v s = finish d 0 (chainWrite n v (dequeue d s)) := by
  rw [doFabChain, runSys_accepted h, if_neg (by omega)]

end

/-- An identity with V set, as FAB_MYID takes it. -/
theorem toNat_myidWord (id : W16) : ((0x80000000 : W32) ||| id.setWidth 32).toNat = 2 ^ 31 + id.toNat := by
  have hlt := id.isLt
  have hor := Nat.two_pow_add_eq_or_of_lt (i := 31) (b := id.toNat) (by omega) 1
  simp only [BitVec.toNat_or, BitVec.toNat_setWidth]
  rw [Nat.mod_eq_of_lt (a := id.toNat) (by omega)]
  simpa using hor.symm

/-- FAB_MYID takes a 12-bit identity (R327). -/
theorem myidWrite_takes {id : W16} (hid : id.toNat < 4096) (s : State) :
    myidWrite (0x80000000 ||| id.setWidth 32) s = { s with fab := { s.fab with myidV := true, myid := BitVec.ofNat 12 id.toNat } } := by
  have hv : bitAt (0x80000000 ||| id.setWidth 32) 31 = true := by
    rw [bitAt, toNat_myidWord, decide_eq_true_eq]
    omega
  have hf : fld (0x80000000 ||| id.setWidth 32) 11 0 = id.toNat := by
    rw [fld, toNat_myidWord]
    omega
  rw [myidWrite, hv, hf]

section
variable {d : Desc} {bank first : Nat} {es : List W32} {s : State} (h : accepted .sys false false true d s = true) (hes : es ≠ [])
  (hbank : bank ≤ 1) (hroom : first + es.length ≤ 4096)

include h hes hbank hroom

theorem doFabRoute_writes (hother : (bank == 1) ≠ s.fab.bank) : doFabRoute d bank first es s =
    finish d 0 ((withPos first es).foldl (fun s p => routeWrite (bank == 1) p.1 p.2 s) (dequeue d s)) := by
  have hother' : ¬ (bank == 1) = (dequeue d s).fab.bank := hother
  rw [doFabRoute, runCmd_accepted h, if_neg hes, if_neg (by omega), if_neg hother']

theorem doFabRoute_refuses (hactive : (bank == 1) = s.fab.bank) : doFabRoute d bank first es s = finish d 0x0901 (dequeue d s) := by
  have hactive' : (bank == 1) = (dequeue d s).fab.bank := hactive
  rw [doFabRoute, runCmd_accepted h, if_neg hes, if_neg (by omega), if_pos hactive']

end

/-! ### DIAG. -/

theorem exec_diagEmbers (d : Desc) (s : State) :
    exec (.diagEmbers d) s = .next (runDiag d (fun s => finishOut d 64 (s.mgt.log.flatMap Ember.bytes) s) s) := rfl

theorem exec_diagCounters (d : Desc) (s : State) : exec (.diagCounters d) s = .next (runDiag d (finishFree d) s) := rfl

theorem exec_diagSnapshot (d : Desc) (bs : List Nat) (s : State) :
    exec (.diagSnapshot d bs) s = .next (runDiag d (fun s => if bs = [] then finish d 1 s else finishFree d s) s) := rfl

theorem exec_diagLoopback (d : Desc) (p : Nat) (s : State) : exec (.diagLoopback d p) s = .next (doLoopback d p s) := rfl

theorem runDiag_accepted {d : Desc} {s : State} (h : accepted .diag false true false d s = true) (body : State → State) :
    runDiag d body s = body (dequeue d s) := runCmd_accepted h body

/-! ### O24 -/

/-- Settles O24: each command passes the mailbox's checks (`runCmd_accepted` and its forms for a context's ring, a lantern mask and
ring 0), and each of its paths is an equation of its function. -/
theorem calibrationCheckMonitorFabricAndDiagnosticCommands :
    Obligations.CalibrationCheckMonitorFabricAndDiagnosticCommands := by
  refine ⟨?calRead, ?calTrim, ?calConfig, ?chkRate, ?chkStatus, ?chkAudit, ?monSeq, ?monSeqDenied, ?monRead, ?port, ?portBelow, ?id,
    ?route, ?routeActive, ?flip, ?chain, ?wrr, ?neighbors, ?diag, ?loopback⟩
  case calRead =>
    intro s d ls wicks sets _ h heven hin hout hls
    rw [exec_calRead, doCalRead_answers h heven hin hout hls]
  case calTrim =>
    intro s d c x ll w p h hll hw hown hserve
    rw [exec_calTrim, doCalTrim_marks h hll hw hown hserve]
  case calConfig =>
    intro s d c x ls cfg dr h hlen hls hown
    rw [exec_calConfig, doCalConfig_sets h hlen hls hown]
  case chkRate =>
    intro s d c x ls v h hlen hls hown
    rw [exec_chkRate, doChkRate_sets h hlen hls hown]
  case chkStatus =>
    intro s d c x h
    rw [exec_chkStatus, runCtx_accepted h]
  case chkAudit =>
    intro s d c x ls h hlen hls hown
    rw [exec_chkAudit, doChkAudit_marks h hlen hls hown]
  case monSeq =>
    intro s d es len h hmin hmax hroom hinputs
    rw [exec_monSeq, doMonSeq_sets h ⟨hmin, hmax, hroom, hinputs⟩]
  case monSeqDenied =>
    intro s d es len e h hlen he hinput
    rw [exec_monSeq, doMonSeq_denies h hlen he hinput]
  case monRead =>
    intro s d h
    rw [exec_monRead, runCmd_accepted h]
  case port =>
    intro s d p v h hp ha hb
    rw [exec_fabPort, doFabPort_writes h hp ha hb]
  case portBelow =>
    intro s d p v h hp ha
    rw [exec_fabPort, doFabPort_refuses h hp ha]
  case id =>
    intro s d id h hid
    refine ⟨_, (exec_fabId d id s).trans (congrArg _ (doFabId_writes h hid)), ?_, ?_⟩
    · rw [myidWrite_takes hid]
      rfl
    · rw [myidWrite_takes hid]
      exact .after (by decide) (frame_fab _ _) ((dequeue_frame d s).mono (by decide))
  case route =>
    intro s d bank first es h hes hbank hroom hother
    rw [exec_fabRoute, doFabRoute_writes h hes hbank hroom hother]
  case routeActive =>
    intro s d bank first es h hes hbank hroom hactive
    rw [exec_fabRoute, doFabRoute_refuses h hes hbank hroom hactive]
  case flip =>
    intro s d h
    rw [exec_fabFlip, runSys_accepted h]
  case chain =>
    intro s d n v h hn
    rw [exec_fabChain, doFabChain_writes h hn]
  case wrr =>
    intro s d v h
    rw [exec_fabWrr, runSys_accepted h]
  case neighbors =>
    intro s d h
    rw [exec_fabNeighbors, runCmd_accepted h]
  case diag =>
    intro s d h
    refine ⟨?_, ?_, fun bs hbs => ?_⟩
    · rw [exec_diagEmbers, runDiag_accepted h]
      rfl
    · rw [exec_diagCounters, runDiag_accepted h]
    · rw [exec_diagSnapshot, runDiag_accepted h, if_neg hbs]
  case loopback =>
    intro s d p t h hp
    rw [exec_diagLoopback, doLoopback, runDiag_accepted h, if_neg (by omega)]

end Sys2Proof.Machine
end

section
/-! SUPPORT. Memory as its producers leave it (R224, R261, R266): the bytes read back and the codes of blocks; and the settlement of
O51. -/

namespace Sys2Proof.Machine

theorem memRead_storeBytes (m : Mem) (a : Nat) (l : List Byte) : memRead (storeBytes m a l) a l.length = l := by
  refine List.ext_getElem (by simp [memRead]) fun i hi _ => ?_
  have hil : i < l.length := by simpa [memRead] using hi
  have hread : memGet (storeBytes m a l) (a + i) = l.getD (a + i - a) 0 := by
    rw [memGet_storeBytes, if_pos ⟨by omega, by omega⟩]
  rw [Nat.add_sub_cancel_left] at hread
  simpa [memRead, hil] using hread

theorem memGet_storeBytes_outside {m : Mem} {a x : Nat} {l : List Byte} (h : x < a ∨ a + l.length ≤ x) :
    memGet (storeBytes m a l) x = memGet m x := by
  rw [memGet_storeBytes, if_neg (by omega)]

theorem codeGood_memWrite (l : List Byte) (m : Mem) (a x : Nat) : codeGood (memWrite m a l) x = codeGood m x := by
  induction l generalizing m a with
  | nil => rfl
  | cons b t ih => exact ih (memPut m a b) (a + 1)

theorem codeGood_sealBlock (m : Mem) (b x : Nat) : codeGood (sealBlock m b) x = (decide (x / 256 = b / 256) || codeGood m x) := by
  unfold codeGood sealBlock
  rw [Tab.get_set]
  by_cases h : x / 256 = b / 256 <;> simp [h]

/-- After blocks are sealed a code is good where its block is one of them, or where it was good. -/
theorem codeGood_seals (bs : List Nat) (m : Mem) (x : Nat) :
    codeGood (bs.foldl sealBlock m) x = (bs.any (fun b => decide (x / 256 = b / 256)) || codeGood m x) := by
  induction bs generalizing m with
  | nil => rfl
  | cons b bs ih => rw [List.foldl_cons, ih, codeGood_sealBlock, List.any_cons, Bool.or_left_comm, Bool.or_assoc]

/-- The blocks a producer's write seals are those its bytes lie in (R224). -/
theorem any_storedBlock {a n : Nat} (hn : n ≠ 0) (x : Nat) :
    ((List.range ((a % 256 + n + 255) / 256)).map (fun i => a / 256 * 256 + i * 256)).any (fun b => decide (x / 256 = b / 256)) =
      decide (a / 256 ≤ x / 256 ∧ x / 256 ≤ (a + n - 1) / 256) := by
  rw [Bool.eq_iff_iff]
  simp only [List.any_map, List.any_eq_true, List.mem_range, Function.comp_apply, decide_eq_true_eq]
  constructor
  · rintro ⟨i, hi, hx⟩
    omega
  · rintro ⟨hlo, hhi⟩
    exact ⟨x / 256 - a / 256, by omega, by omega⟩

theorem codeGood_storeBytes {l : List Byte} (hl : l ≠ []) (m : Mem) (a x : Nat) : codeGood (storeBytes m a l) x =
    (decide (a / 256 ≤ x / 256 ∧ x / 256 ≤ (a + l.length - 1) / 256) || codeGood m x) := by
  rw [storeBytes]
  rw [codeGood_seals, any_storedBlock (by simpa using hl), codeGood_memWrite]

/-- Settles O51: a byte reads as the last write of it left it (`memGet_storeBytes`), and a producer's write seals the blocks its bytes
lie in and no other (`codeGood_storeBytes`). -/
theorem memoryReadsBackWhatIsWritten : Obligations.MemoryReadsBackWhatIsWritten := by
  refine ⟨fun m a l => ⟨memRead_storeBytes m a l, fun x hx => memGet_storeBytes_outside hx⟩, fun m a x l hl => ⟨fun hin => ?_, fun hout => ?_⟩,
    memGet_zeroRange⟩
  · rw [codeGood_storeBytes hl, decide_eq_true hin, Bool.true_or]
  · rw [codeGood_storeBytes hl, decide_eq_false (by omega), Bool.false_or]

end Sys2Proof.Machine
end

section
/-! SUPPORT. The REQ. commands past the mailbox's checks (R240, R402, R405, R411, R414, R421), SYS.SHUTDOWN and the requests it ends
(R537); and the settlement of O27. -/

namespace Sys2Proof.Machine

/-! ### REQ.SUBMIT (R402, R405) -/

theorem exec_reqSubmit (d : Desc) (a : ReqArg) (s : State) : exec (.reqSubmit d a) s = .next (doReqSubmit d a s) := rfl

section
variable {d : Desc} {c : Nat} {x : Ctx} {a : ReqArg} {s : State}

/-- After SYS.SHUTDOWN a submission is refused (R537). -/
theorem doReqSubmit_shut (h : acceptedCtx true d c x s) (hshut : s.mbx.shut = true) :
    doReqSubmit d a s = finish d 0x06 (dequeue d s) := by
  have hshut' : (dequeue d s).mbx.shut = true := hshut
  rw [doReqSubmit, runCtx_accepted h, if_pos hshut']

/-- A submission whose arguments are in range goes to its role's records. -/
theorem doReqSubmit_inRange (h : acceptedCtx true d c x s) (hshut : s.mbx.shut = false) (hempty : submitEmpty d a = false)
    (hbad : submitBad x d a = false) : doReqSubmit d a s =
      if a.role = 2 then submitRel c x d a (dequeue d s) else submitAdm c x d a (dequeue d s) := by
  have hshut' : (dequeue d s).mbx.shut = false := hshut
  rw [doReqSubmit, runCtx_accepted h, if_neg (by simp [hshut']), if_neg (by simp [hempty]), if_neg (by simp [hbad])]

theorem submitAdm_adds (hheld : admHeld s x a.num = false) (hbuilder : builderHolds s c x a.num = false) (hroom : waitingCount x < x.qmax)
    (hadp : a.adpv = false) (hep : x.admEpoch ≠ none) : submitAdm c x d a s =
      keepProg d (updCtx c (fun z => { z with adm := z.adm.filter (fun q => q.num != a.num) ++ [admNew s x d a],
                                              subNext := z.subNext + 1 }) s) := by
  have hfree : (admHeld s x a.num || builderHolds s c x a.num) = false := by rw [hheld, hbuilder, Bool.or_false]
  rw [submitAdm, if_neg (by simp [hfree]), if_neg (by omega), if_neg (by simp [hadp]), if_neg (by simpa using hep)]

theorem submitRel_adds (hheld : relHeld s x a.num = false) (hbuilder : builderHolds s c x a.num = false) (htwin : s.twin.st ≠ .standby)
    (hmask : a.mask = false) : submitRel c x d a s = relAccept c (relNew s x d a none) s := by
  have hfree : (relHeld s x a.num || builderHolds s c x a.num) = false := by rw [hheld, hbuilder, Bool.or_false]
  rw [submitRel, if_neg (by simp [hfree]), if_neg htwin, if_neg (by simp [hmask])]

end

/-! ### REQ.CANCEL (R411) -/

theorem exec_reqCancel (d : Desc) (tag : W32) (s : State) : exec (.reqCancel d tag) s = .next (doReqCancel d tag s) := rfl

section
variable {d : Desc} {c : Nat} {x : Ctx} {tag : W32} {s : State}

theorem doReqCancel_ends {r : RelRec} (h : acceptedCtx false d c x s) (hr : relOf x (numOf tag) = some r) :
    doReqCancel d tag s = finish d 0 (if r.retired then dequeue d s else endRequest c r 4 (dequeue d s)) := by
  rw [doReqCancel, runCtx_accepted h]
  rw [hr]

theorem doReqCancel_refuses (h : acceptedCtx false d c x s) (hr : relOf x (numOf tag) = none) :
    doReqCancel d tag s = finish d (if (admOf x (numOf tag)).isSome then 0x06 else 0x07) (dequeue d s) := by
  rw [doReqCancel, runCtx_accepted h]
  rw [hr]
  exact (apply_ite (fun st => finish d st (dequeue d s)) _ _ _).symm

end

/-! ### REQ.RESUME (R414) -/

theorem exec_reqResume (d : Desc) (tag dl mt : W32) (ts : List W32) (s : State) :
    exec (.reqResume d tag dl mt ts) s = .next (doReqResume d tag dl mt ts s) := rfl

section
variable {d : Desc} {c : Nat} {x : Ctx} {tag dl mt : W32} {ts : List W32} {s : State}

theorem doReqResume_rel {r : RelRec} (h : acceptedCtx true d c x s) (hshut : s.mbx.shut = false) (hin : d.inlen ≠ 0) (hts : ts ≠ [])
    (hmt : mt ≠ 0) (hbad : resumeBad x dl mt ts = false) (hr : relOf x (numOf tag) = some r) (hret : r.retired = true) :
    doReqResume d tag dl mt ts s = resumeRel c d r dl mt ts.length (dequeue d s) := by
  have hshut' : (dequeue d s).mbx.shut = false := hshut
  rw [doReqResume, runCtx_accepted h]
  dsimp only
  rw [if_neg (by simp [hshut']), if_neg (by rintro (e | e | e) <;> contradiction), if_neg (by simp [hbad]), hr]
  cases admOf x (numOf tag) with
  | none => exact if_pos hret
  | some a => exact if_pos hret

theorem doReqResume_adm {a : AdmRec} (h : acceptedCtx true d c x s) (hshut : s.mbx.shut = false) (hin : d.inlen ≠ 0) (hts : ts ≠ [])
    (hmt : mt ≠ 0) (hbad : resumeBad x dl mt ts = false) (hr : relOf x (numOf tag) = none) (ha : admOf x (numOf tag) = some a)
    (hret : a.retired = true) : doReqResume d tag dl mt ts s = resumeAdm c x d a dl ts.length (dequeue d s) := by
  have hshut' : (dequeue d s).mbx.shut = false := hshut
  rw [doReqResume, runCtx_accepted h]
  dsimp only
  rw [if_neg (by simp [hshut']), if_neg (by rintro (e | e | e) <;> contradiction), if_neg (by simp [hbad]), hr, ha]
  exact if_pos hret

/-- A retired record within its hold is open again at its next segment. -/
theorem resumeRel_reopens {r : RelRec} {n : Nat} (hend : r.end_ ≠ 3) (hrel : r.released ≠ [])
    (hhold : nowC s < r.retiredAt + holdCycles s) : resumeRel c d r dl mt n s =
      kickRel c r.num (finish d 0 (updRelNum c r.num (fun q => { q with
        retired := false, end_ := 0, seg := q.seg + 1, segReleased := 0, maxtok := mt.toNat, drawn := none,
        limit := nowC s + msCycles dl.toNat, passEnd := q.lastPos + n,
        ledger := { q.ledger with state := 0, status := 0, settledBy := [], localt := ltime s } }) s)) := by
  rw [resumeRel, if_neg hend, if_neg (by simp [hrel]; omega)]

end

/-! ### REQ.LEDGER, REQ.LOG and REQ.REPLAY (R240, R234, R393) -/

theorem exec_reqLedger (d : Desc) (tag : W32) (s : State) : exec (.reqLedger d tag) s = .next (doReqLedger d tag s) := rfl

theorem exec_reqLog (d : Desc) (tag : W32) (s : State) : exec (.reqLog d tag) s = .next (doReqLog d tag s) := rfl

theorem exec_reqReplay (d : Desc) (tag : W32) (form : Byte) (df : Option Nat) (s : State) :
    exec (.reqReplay d tag form df) s = .next (doReqReplay d tag df s) := rfl

section
variable {d : Desc} {c : Nat} {x : Ctx} {tag : W32} {s : State}

theorem doReqLedger_writes {r : RelRec} (h : acceptedCtx false d c x s) (hr : relOf x (numOf tag) = some r) (hout : d.outlen ≠ 0) :
    doReqLedger d tag s = complete d 0 (fitRecs d.outlen.toNat r.ledger.parts).length []
      (outLines d.outaddr (fitRecs d.outlen.toNat r.ledger.parts) (dequeue d s)) := by
  rw [doReqLedger, runCtx_accepted h]
  rw [hr]
  exact if_neg hout

theorem doReqLog_answers (h : acceptedCtx false d c x s)
    (hnum : (relOf x (numOf tag)).isSome = true ∨ (admOf x (numOf tag)).isSome = true) :
    doReqLog d tag s = if (logOf x (numOf tag)).isNone then finish d 0x0504 (dequeue d s) else finishFree d (dequeue d s) := by
  have hknown : ¬ ((relOf x (numOf tag)).isNone = true ∧ (admOf x (numOf tag)).isNone = true) := by
    rintro ⟨hr, ha⟩
    rw [Option.isNone_iff_eq_none] at hr ha
    simp [hr, ha] at hnum
  rw [doReqLog, runCtx_accepted h]
  dsimp only
  rw [if_neg hknown]

/-- A request with a log has a release record. -/
theorem relOf_of_logOf {num : W16} {g : LogRec} (h : logOf x num = some g) : (relOf x num).isNone = false := by
  unfold logOf at h
  split at h
  · exact nomatch h
  · next hr => rw [hr]; rfl

theorem doReqReplay_answers {df : Option Nat} {g : LogRec} (h : acceptedCtx false d c x s) (hg : logOf x (numOf tag) = some g)
    (hres : logResident x ((admOf x (numOf tag)).map (fun a => a.adpslot)) g = true) (hout : d.outlen ≠ 0)
    (hday : g.daylight = false) : doReqReplay d tag df s = finishFree d (dequeue d s) := by
  rw [doReqReplay, runCtx_accepted h]
  dsimp only
  rw [if_neg (by simp [relOf_of_logOf hg]), hg]
  dsimp only
  rw [if_neg (by simp [hres]), if_neg hout, hday]

end

/-! ### SYS.SHUTDOWN (R537) -/

theorem exec_sysShutdown (d : Desc) (s : State) : exec (.sysShutdown d) s = .next (doSysShutdown d s) := rfl

/-- The shutdown stands as it stood: in force or not. -/
def KeepsShut (s t : State) : Prop := t.mbx.shut = s.mbx.shut

section
variable {s t u : State}

theorem KeepsShut.refl (s : State) : KeepsShut s s := rfl

/-- One more operation, named first. -/
theorem KeepsShut.after (k : KeepsShut t u) (h : KeepsShut s t) : KeepsShut s u := k.trans h

theorem KeepsShut.ite {p : Prop} [Decidable p] (h : KeepsShut s t) (k : KeepsShut s u) : KeepsShut s (if p then t else u) := by
  split
  · exact h
  · exact k

/-- An operation that leaves the mailbox alone leaves the shutdown. -/
theorem Frame.keepsShut {ps : List Part} (h : Frame ps s t) (hp : .mbx ∉ ps) : KeepsShut s t := congrArg Mbx.shut (h .mbx hp)

theorem keepsShut_foldl {α : Type} {g : State → α → State} (hg : ∀ s x, KeepsShut s (g s x)) (l : List α) (s : State) :
    KeepsShut s (l.foldl g s) :=
  foldl_keeps (I := KeepsShut s) (fun t x ht => (hg t x).after ht) l (KeepsShut.refl s)

end

theorem keepsShut_updCtx (c : Nat) (f : Ctx → Ctx) (s : State) : KeepsShut s (updCtx c f s) := (updCtx_frame s c f).keepsShut (by decide)

theorem keepsShut_updRing (r : Nat) (f : Ring → Ring) (s : State) : KeepsShut s (updRing r f s) := rfl

theorem keepsShut_postRaw (r : RingI) (v : Cpl) (s : State) : KeepsShut s (postRaw r v s) :=
  .after ((gvlSig_frame _ _ _).keepsShut (by decide)) <| .after ((frame_gvl _ _).keepsShut (by decide)) (keepsShut_updRing _ _ _)

theorem keepsShut_complete (d : Desc) (st : W16) (used : Nat) (res : List W32) (s : State) : KeepsShut s (complete d st used res s) :=
  .after ((KeepsShut.refl _).ite ((keepsShut_updRing _ _ _).ite (keepsShut_postRaw _ _ _))) (keepsShut_updRing _ _ s)

theorem keepsShut_endAdm (c : Nat) (a : AdmRec) (st : W16) (s : State) : KeepsShut s (endAdm c a st s) := by
  have hresumed (t : State) : KeepsShut t (match a.resumed with
      | some d => finish d 0x0503 (updAdm c a.num (fun a => { a with resumed := none }) t)
      | none => t) := by
    split
    · exact (keepsShut_complete _ _ _ _ _).after (keepsShut_updCtx c _ t)
    · exact KeepsShut.refl t
  unfold endAdm
  exact .after ((keepsShut_complete _ _ _ _ _).ite (KeepsShut.refl _)) <| .after (hresumed _) <|
    .after (keepsShut_updCtx c _ _) (keepsShut_updCtx c _ s)

theorem dropQueued_frame (c : Nat) (inst : W32) (s : State) : Frame [.lans, .lctx, .xbr] s (dropQueued c inst s) :=
  .after (by decide) (updLctx_frame _ _ _) ((frame_foldl (fun a r => freeFlare_frame r a) _ s).mono (by decide))

theorem keepsShut_retireRel (c : Nat) (num : W16) (e : Nat) (s : State) : KeepsShut s (retireRel c num e s) := by
  unfold retireRel
  split
  · exact KeepsShut.refl s
  · split
    · exact KeepsShut.refl s
    · dsimp only
      exact .after ((keepsShut_complete _ _ _ _ _).ite (KeepsShut.refl _)) <| .after (keepsShut_updCtx c _ _) <|
        .after (keepsShut_updCtx c _ _) <| .after (((dropQueued_frame c _ _).keepsShut (by decide)).ite (KeepsShut.refl _)) <|
        (retireNotices_frame c _ _ e s).keepsShut (by decide)

theorem keepsShut_endAdms (s : State) (c : Nat) : KeepsShut s (endAdms c s) := by
  unfold endAdms
  split
  · exact KeepsShut.refl s
  · exact keepsShut_foldl (fun t a => keepsShut_endAdm c a 0x04 t) _ s

theorem keepsShut_endRels (s : State) (c : Nat) : KeepsShut s (endRels c s) := by
  unfold endRels
  split
  · exact KeepsShut.refl s
  · exact keepsShut_foldl (fun t (r : RelRec) => keepsShut_retireRel c r.num 6 t) _ s

theorem keepsShut_shutStream (s : State) (q : Stream) : KeepsShut s (shutStream s q) :=
  (KeepsShut.refl s).ite (.after ((sendNotice_frame _ _ _ _ _ _ _ _).keepsShut (by decide)) (KeepsShut.refl _))

/-! ### O27 -/

/-- Settles O27: each command passes the mailbox's checks (`runCtx_accepted`, `runSys_accepted`), its paths are equations of its
function, and what SYS.SHUTDOWN ends leaves the shutdown in force (`KeepsShut`). -/
theorem requestCommands : Obligations.RequestCommands := by
  refine ⟨?submitAdm, ?submitRel, ?submitShut, ?shutdown, ?cancel, ?cancelNone, ?resumeRel, ?resumeAdm, ?ledger, ?log, ?replay⟩
  case submitAdm =>
    intro s d c x a h t hshut hempty hbad hrole hheld hbuilder hroom hadp hep
    have hctx : getCtx (dequeue d s) c = some x := h.2.2
    have hadm : doReqSubmit d a s = submitAdm c x d a t := (doReqSubmit_inRange h hshut hempty hbad).trans (if_neg (by simp [hrole]))
    refine ⟨_, (exec_reqSubmit d a s).trans (congrArg _ (hadm.trans (submitAdm_adds hheld hbuilder hroom hadp hep))), ?_, ?_⟩
    · refine (((keepProg_frame d _).getCtx c (by decide)).trans (getCtx_updCtx _ _ _ _)).trans ?_
      rw [if_pos rfl, hctx]
      rfl
    · exact .after (by decide) (keepProg_frame d _) <| .after (by decide) (updCtx_frame _ c _) ((dequeue_frame d s).mono (by decide))
  case submitRel =>
    intro s d c x a h t hshut hempty hbad hrole hheld hbuilder htwin hmask
    rw [exec_reqSubmit, doReqSubmit_inRange h hshut hempty hbad, if_pos hrole, submitRel_adds hheld hbuilder htwin hmask]
  case submitShut =>
    intro s d c x a h hshut
    rw [exec_reqSubmit, doReqSubmit_shut h hshut]
  case shutdown =>
    intro s d t t1 t2 t3 h
    have ht1 : KeepsShut t t1 := keepsShut_foldl keepsShut_endAdms _ t
    have ht2 : KeepsShut t1 t2 := keepsShut_foldl keepsShut_shutStream _ t1
    have ht3 : KeepsShut t2 t3 := keepsShut_foldl keepsShut_endRels _ t2
    refine ⟨?_, (ht3.after (ht2.after ht1)).trans rfl⟩
    rw [exec_sysShutdown, doSysShutdown, runSys_accepted h]
  case cancel =>
    intro s d c x tag r h hr
    rw [exec_reqCancel, doReqCancel_ends h hr]
  case cancelNone =>
    intro s d c x tag h hr
    rw [exec_reqCancel, doReqCancel_refuses h hr]
  case resumeRel =>
    intro s d c x tag dl mt ts r h t hshut hin hts hmt hbad hr hret hend hrel hhold
    rw [exec_reqResume, doReqResume_rel h hshut hin hts hmt hbad hr hret, resumeRel_reopens hend hrel hhold]
  case resumeAdm =>
    intro s d c x tag dl mt ts a h hshut hin hts hmt hbad hr ha hret
    rw [exec_reqResume, doReqResume_adm h hshut hin hts hmt hbad hr ha hret]
  case ledger =>
    intro s d c x tag r h hr hout out
    rw [exec_reqLedger, doReqLedger_writes h hr hout]
  case log =>
    intro s d c x tag h hnum
    rw [exec_reqLog, doReqLog_answers h hnum]
  case replay =>
    intro s d c x tag form df g h hg hres hout hday
    rw [exec_reqReplay, doReqReplay_answers h hg hres hout hday]

end Sys2Proof.Machine
end

section
/-! SUPPORT. Dispatch (R400, R405, R407, R414), release (R236, R240, R410), deadlines (R406, R411, R412) and the flits a live link sends
(R298, R304, R330); and the settlement of O28. -/

namespace Sys2Proof.Machine

/-! ### Dispatch (R407) -/

theorem exec_requestDispatch (c : CtxI) (s : State) : exec (.requestDispatch c) s = .next (doDispatch c.val s) := rfl

/-- The chosen position goes out where its lane has credit. -/
theorem doDispatch_sends {c k : Nat} {x : Ctx} {a : AdmRec} {s : State} (hctx : getCtx s c = some x) (hpause : x.paused = false)
    (hshut : s.mbx.shut = false) (hheld : s.snuf.wheld = false) (hpath : x.path.head? = some s.fab.myid)
    (hchoose : chooseReq s x = some (a, k)) (hlate : a.resumed = none ∨ resumeLate s a = false) :
    doDispatch c s = if vl1Credit s (firstPkg s c x (if a.admitted then a.epoch else x.admEpoch.getD 0)) then dispatchSend c x a k s else s := by
  have hgo : (x.paused || s.mbx.shut || s.snuf.wheld || x.path.head? != some s.fab.myid) = false := by
    simp [hpause, hshut, hheld, hpath]
  have hintime : (a.resumed.isSome && resumeLate s a) = false := by
    rcases hlate with h | h
    · rw [h]; rfl
    · rw [h, Bool.and_false]
  rw [doDispatch, hctx]
  dsimp only
  rw [hgo, hchoose]
  dsimp only
  rw [hintime]
  rfl

/-- A position of an admitted record that no resume waits for. -/
theorem dispatchSend_admitted {c k : Nat} {x : Ctx} {a : AdmRec} (s : State) (hk : k ≠ 3) (hres : a.resumed = none) :
    dispatchSend c x a k s = sendPosition c x a (k != 1) (setCtx c (some { x with
      floor := floorNext a.cls x.floor, dispatches := x.dispatches + 1,
      adm := updIf (fun q => q.num == a.num) (fun _ => afterSend s k a) x.adm }) s) := by
  rw [dispatchSend, if_neg hk, hres]

/-! ### Release (R236, R240, R410) -/

theorem exec_tokenRelease (c : CtxI) (inst : W32) (s : State) : exec (.tokenRelease c inst) s = .next (doTokenRelease c.val inst s) := rfl

theorem doTokenRelease_open {c : Nat} {inst : W32} {x : Ctx} {r : RelRec} {d : Drawn} {s : State} (hctx : getCtx s c = some x)
    (hr : relInst x inst = some r) (hd : r.drawn = some d) (hgate : gateOpen s c r d = true) :
    doTokenRelease c inst s = releaseToken c x r d s := by
  have hfound : (getCtx s c).bind (fun x => (relInst x inst).map (fun r => (x, r))) = some (x, r) := by simp [hctx, hr]
  rw [doTokenRelease, hfound]
  dsimp only
  rw [hd]
  exact if_pos hgate

/-- A change of the elements that pass a test is found where the element was, if it still passes. -/
theorem find?_updIf {α : Type} {p : α → Bool} {f : α → α} (hf : ∀ x, p (f x) = p x) (l : List α) :
    (updIf p f l).find? p = (l.find? p).map f := by
  induction l with
  | nil => rfl
  | cons x l ih =>
    change List.find? p ((if p x then f x else x) :: updIf p f l) = _
    cases hx : p x with
    | true => rw [if_pos rfl, List.find?_cons_of_pos (by rw [hf, hx]), List.find?_cons_of_pos hx, Option.map_some]
    | false =>
      rw [if_neg (by simp), List.find?_cons_of_neg (by simp [hx]), List.find?_cons_of_neg (by simp [hx]), ih]

theorem relInst_found {x : Ctx} {inst : W32} {r : RelRec} (h : relInst x inst = some r) : r.inst = inst := by
  have hp := List.find?_some h
  rw [Bool.and_eq_true] at hp
  exact beq_iff_eq.1 hp.2

/-- A change that leaves a record started and its number keeps it the record of that number. -/
theorem relInst_updIf {f : RelRec → RelRec} (hstarted : ∀ r, (f r).started = r.started) (hinst : ∀ r, (f r).inst = r.inst) (x : Ctx)
    (inst : W32) : relInst { x with rel := updIf (fun r => r.inst == inst && r.started) f x.rel } inst = (relInst x inst).map f := by
  have htest : (fun r : RelRec => r.inst == inst && r.started) = fun r => r.started && r.inst == inst := by
    funext r
    exact Bool.and_comm _ _
  unfold relInst
  dsimp only
  rw [htest]
  exact find?_updIf (fun r => by rw [hstarted, hinst]) x.rel

theorem outToken_frame (d : Desc) (l : List (W32 × W32)) (i : Nat) (s : State) : Frame [.gvl] s (outToken d l i s) := by
  unfold outToken
  dsimp only
  split
  · exact frame_gvl s _
  · exact Frame.refl _ s

/-- A release record after one more token. -/
def afterRelease (r : RelRec) (d : Drawn) (susp : Bool) (now : W64) (q : RelRec) : RelRec :=
  { q with released := r.released ++ [(d.token, d.tindex)], segReleased := q.segReleased + 1, lastPos := d.tindex.toNat + 1,
           gstate := d.gnext, drawn := none, ledger := ledToken q d susp now,
           flagged := q.flagged.filter (fun f => f.1 != d.tindex) }

/-- A context after its request's log has one more token. -/
def afterLog (r : RelRec) (d : Drawn) (x : Ctx) : Ctx :=
  let log (g : LogRec) : LogRec := { g with tokens := g.tokens ++ [(d.token, d.tindex)] }
  { x with logs := updIf (fun g => g.num == r.num && g.inst == r.inst) log x.logs }

/-- A token that ends nothing and is not flagged: its output, its record, its log, and NEXT to the entry package. -/
theorem releaseToken_goesOn {c : Nat} {x : Ctx} {r : RelRec} {d : Drawn} {s : State} (hend : endOf r d = none) (hflag : r.flagged = []) :
    releaseToken c x r d s = sendNotice 0x15 r.entry { ctx := x.ctxid, reqtag := r.reqtag, inst := r.inst, seg := r.seg } d.tindex
      (d.token.setWidth 64) 0 0 (updCtx c (afterLog r d) (updRel c r.inst (afterRelease r d (forkSuspect x r) (ltime s))
        (outToken r.cmd (r.released ++ [(d.token, d.tindex)]) r.released.length s))) := by
  unfold releaseToken
  dsimp only
  rw [hflag, hend]
  dsimp only [List.filter_nil, List.foldl_nil]
  rfl

theorem releaseToken_record {c : Nat} {inst : W32} {x : Ctx} {r : RelRec} {d : Drawn} {s : State} (hctx : getCtx s c = some x)
    (hr : relInst x inst = some r) (hend : endOf r d = none) (hflag : r.flagged = []) : ∃ y,
      getCtx (releaseToken c x r d s) c = some y ∧ relInst y inst = some (afterRelease r d (forkSuspect x r) (ltime s) r) := by
  have hout : getCtx (outToken r.cmd (r.released ++ [(d.token, d.tindex)]) r.released.length s) c = some x :=
    ((outToken_frame _ _ _ s).getCtx c (by decide)).trans hctx
  refine ⟨afterLog r d { x with rel := updIf (fun q => q.inst == r.inst && q.started) (afterRelease r d (forkSuspect x r) (ltime s)) x.rel },
    ?_, ?_⟩
  · rw [releaseToken_goesOn hend hflag, (sendNotice_frame _ _ _ _ _ _ _ _).getCtx c (by decide), updRel, getCtx_updCtx, if_pos rfl,
      getCtx_updCtx, if_pos rfl, hout]
    rfl
  · rw [relInst_found hr]
    exact (relInst_updIf (f := afterRelease r d (forkSuspect x r) (ltime s)) (fun _ => rfl) (fun _ => rfl) x inst).trans
      (congrArg _ hr)

/-! ### Deadlines (R406, R411, R412) -/

theorem exec_releaseDeadline (c : CtxI) (num : W16) (s : State) :
    exec (.releaseDeadline c num) s = .next (doReleaseDeadline c.val num s) := rfl

theorem exec_admissionDeadline (c : CtxI) (num : W16) (s : State) :
    exec (.admissionDeadline c num) s = .next (doAdmissionDeadline c.val num s) := rfl

theorem exec_releaseRecordWaitExpiry (c : CtxI) (inst : W32) (s : State) :
    exec (.releaseRecordWaitExpiry c inst) s = .next (doRelWaitExpiry c.val inst s) := rfl

section
variable {c : Nat} {num : W16} {x : Ctx} {s : State}

theorem doReleaseDeadline_ends {r : RelRec} (hctx : getCtx s c = some x) (hr : relOf x num = some r) (hopen : r.retired = false)
    (hret : r.retiring = none) (hlim : r.limit ≤ nowC s) : doReleaseDeadline c num s = endRequest c r 5 s := by
  have hfound : (getCtx s c).bind (fun x => relOf x num) = some r := by rw [hctx]; exact hr
  rw [doReleaseDeadline, hfound]
  exact if_neg (by simp [hopen, hret, hlim])

theorem doAdmissionDeadline_ends {a : AdmRec} (hctx : getCtx s c = some x) (ha : admOf x num = some a) (hopen : a.retired = false)
    (hlim : a.limit + 900000000 ≤ nowC s) : doAdmissionDeadline c num s = endAdm c a 0x02 s := by
  have hfound : (getCtx s c).bind (fun x => admOf x num) = some a := by rw [hctx]; exact ha
  rw [doAdmissionDeadline, hfound]
  exact if_neg (by simp [hopen, hlim])

theorem doRelWaitExpiry_discards {inst : W32} {a : Act} (hctx : getCtx s c = some x)
    (ha : x.waitRel.find? (fun a => a.msg.hdr.inst == inst) = some a) : doRelWaitExpiry c inst s =
      raiseEmber { emb 2 0x0E01 0 (some x.ctxid) a.msg.hdr.tindex.toNat with reqtag := a.msg.hdr.reqtag }
        (noticePath c 0x22 (ridOf a.msg.hdr) 0 1
          (updCtx c (fun x => { x with waitRel := x.waitRel.filter (fun a => a.msg.hdr.inst != inst) }) s)) := by
  rw [doRelWaitExpiry, hctx]
  dsimp only
  rw [ha]

end

/-! ### Flits (R298, R304, R330) -/

theorem exec_flitSend (k : LinkI) (s : State) : exec (.flitSend k) s = .next (flitSent k.val s) := rfl

/-- One more codeword went out on a link. -/
def countCodeword (k : Nat) (s : State) : State := updLink k (fun x => { x with codewords := x.codewords + 1 }) s

theorem getLink_countCodeword (k : Nat) (s : State) :
    getLink (countCodeword k s) k = { getLink s k with codewords := (getLink s k).codewords + 1 } := by
  rw [countCodeword, getLink_updLink, if_pos rfl]

section
variable {k : Nat} {s : State}

/-- A live link past LINIT counts the codeword; on every 16,384th it sends nothing. -/
theorem doFlitSend_live (hlive : linkLive (getLink s k).st = true) (hst : (getLink s k).st ≠ .linit) : doFlitSend k s =
    if ((getLink s k).codewords + 1) % 16384 = 0 then countCodeword k s else chooseFlit k (countCodeword k s) := by
  rw [doFlitSend]
  dsimp only
  rw [if_neg hst, if_pos hlive]
  rfl

/-- Where no new flit waits for its acknowledgement, no position is answered. -/
theorem flitSent_noNewFlit (h : (getLink (doFlitSend k s) k).unacked = (getLink s k).unacked) : flitSent k s = doFlitSend k s := by
  rw [flitSent, h, List.drop_length]
  rfl

theorem chooseFlit_replays {f : TxFlit} {t : List TxFlit} (h : (getLink s k).replay = f :: t) :
    chooseFlit k s = updLink k (fun x => { x with replay := t }) s := by
  rw [chooseFlit, h]

/-- The first of VL7, VL4 and VL3 that may send. -/
theorem chooseFlit_lane {vl : Nat} (hup : (getLink s k).st = .up) (hrep : (getLink s k).replay = [])
    (hvl : [7, 4, 3].find? (sendable (getLink s k)) = some vl) : chooseFlit k s = sendHeader k (sendData k vl s) := by
  rw [chooseFlit, hrep]
  dsimp only
  rw [if_pos hup, hvl]

/-- With none of them, the round robin's lane or IDLE. -/
theorem chooseFlit_turn (hup : (getLink s k).st = .up) (hrep : (getLink s k).replay = [])
    (hvl : [7, 4, 3].find? (sendable (getLink s k)) = none) : chooseFlit k s = (match wrrTurn s k with
      | some (vl, y) => sendHeader k (sendData k vl y)
      | none => updLink k (fun x => { x with wrr := [0, 0, 0, 0], wrrNext := 0 }) (sendHeader k s)) := by
  rw [chooseFlit, hrep]
  dsimp only
  rw [if_pos hup, hvl]
  dsimp only
  refine (if_pos hup).trans ?_
  cases wrrTurn s k <;> rfl

end

/-! ### O28 -/

/-- Settles O28: each event on its path is an equation of its function; a released token's record is found again where it was
(`releaseToken_record`), and a link's choice is one lemma for each place in its order (`chooseFlit_replays`, `chooseFlit_lane`,
`chooseFlit_turn`). -/
theorem requestEvents : Obligations.RequestEvents := by
  refine ⟨?dispatch, ?send, ?release, ?relDeadline, ?admDeadline, ?relWait, ?alignment, ?replay, ?lane, ?turn⟩
  case dispatch =>
    intro s c x a k hctx hpause hshut hheld hpath hchoose hlate
    rw [exec_requestDispatch, doDispatch_sends hctx hpause hshut hheld hpath hchoose hlate]
  case send =>
    intro s c x a k _ hk hres
    exact dispatchSend_admitted s hk hres
  case release =>
    intro s c inst x r d hctx hr hd hgate
    refine ⟨by rw [exec_tokenRelease, doTokenRelease_open hctx hr hd hgate], fun hend hflag => ?_⟩
    obtain ⟨y, hy, hq⟩ := releaseToken_record hctx hr hend hflag
    exact ⟨y, _, hy, hq, rfl, rfl, rfl, rfl⟩
  case relDeadline =>
    intro s c num x r hctx hr hopen hret hlim
    rw [exec_releaseDeadline, doReleaseDeadline_ends hctx hr hopen hret hlim]
  case admDeadline =>
    intro s c num x a hctx ha hopen hlim
    rw [exec_admissionDeadline, doAdmissionDeadline_ends hctx ha hopen hlim]
  case relWait =>
    intro s c inst x a hctx ha
    rw [exec_releaseRecordWaitExpiry, doRelWaitExpiry_discards hctx ha]
  case alignment =>
    intro s k hlive hst hcw
    have hdo : doFlitSend k.val s = countCodeword k.val s := (doFlitSend_live hlive hst).trans (if_pos hcw)
    have hlink := getLink_countCodeword k.val s
    refine ⟨_, exec_flitSend k s, ?_⟩
    rw [flitSent_noNewFlit (by rw [hdo, hlink]), hdo]
    exact ⟨hlink, updLink_frame s _ _⟩
  case replay =>
    intro s k f t hlive hst hcw hrep
    have hlink := getLink_countCodeword k.val s
    have hdo : doFlitSend k.val s = updLink k.val (fun x => { x with replay := t }) (countCodeword k.val s) := by
      rw [doFlitSend_live hlive hst, if_neg hcw, chooseFlit_replays (f := f) (by rw [hlink, hrep])]
    have hlink' : getLink (doFlitSend k.val s) k.val = { getLink s k.val with codewords := (getLink s k.val).codewords + 1, replay := t } := by
      rw [hdo, getLink_updLink, if_pos rfl, hlink]
    refine ⟨_, exec_flitSend k s, ?_⟩
    rw [flitSent_noNewFlit (by rw [hlink'])]
    exact ⟨hlink', hdo ▸ (updLink_frame s _ _).step (updLink_frame _ _ _) (by decide)⟩
  case lane =>
    intro s k vl hup hcw hrep hvl
    have hlink := getLink_countCodeword k.val s
    refine ⟨?_, _, exec_flitSend k s⟩
    rw [doFlitSend_live (by rw [hup]; rfl) (by simp [hup]), if_neg hcw,
      chooseFlit_lane (by rw [hlink, hup]) (by rw [hlink, hrep]) (by rw [hlink, hvl])]
    rfl
  case turn =>
    intro s k z hup hcw hrep hvl
    have hlink := getLink_countCodeword k.val s
    refine ⟨exec_flitSend k s, ?_⟩
    rw [doFlitSend_live (by rw [hup]; rfl) (by simp [hup]), if_neg hcw]
    exact chooseFlit_turn (by rw [hlink, hup]) (by rw [hlink, hrep]) hvl

end Sys2Proof.Machine
end

section
/-! SUPPORT. Messages at their destination (R323, R324), work (R225, R333, R343, R537), contributions (R336) and the reductions' timers
(R337, R487); and the settlement of O29. -/

namespace Sys2Proof.Machine

/-! ### What every message passes (R323, R324) -/

/-- A message of the kind, on its lane and for this package, is looked up in its window of numbers. -/
theorem receive_arrives {k kind : Nat} {m : Msg} {s t : State} (ht : t = takeItem k (.msg m) s) (hwaits : dieWaits s k = false)
    (hheld : t.snuf.wheld = false) (hid : t.fab.myidV = true) (hkind : m.hdr.kind.toNat = kind) (hvl : kindVl kind = some m.vl.toNat)
    (hdst : m.hdr.dst = t.fab.myid) (body : State → State) : receive k m kind body s =
      match acceptNum m.hdr.src m.vl m.hdr.msn t with
      | none => countDup t
      | some w => if ofRetired w m.hdr then countDrop w else if malformed m then workBad 0 m 3 w else body w := by
  subst ht
  unfold receive
  dsimp only
  rw [if_neg (by simp [hwaits]), if_neg (by simp [hheld, hid, hkind]), if_neg (by simp [hvl])]
  exact if_neg (by simp [hdst])

/-- A delivered message comes to its kind's own handling. -/
theorem receive_delivered {k kind : Nat} {m : Msg} {s w : State} (h : delivered k m kind s w) (body : State → State) :
    receive k m kind body s = body w := by
  obtain ⟨hwaits, hform, hheld, hid, hkind, hvl, hdst, hnum, hret⟩ := h
  rw [receive_arrives rfl hwaits hheld hid hkind hvl hdst, hnum]
  dsimp only
  rw [if_neg (by simp [hret]), if_neg (by simp [hform])]

/-- A duplicate is counted and dropped (R324). -/
theorem receive_duplicate {k kind : Nat} {m : Msg} {s t : State} (ht : t = takeItem k (.msg m) s) (hwaits : dieWaits s k = false)
    (hheld : t.snuf.wheld = false) (hid : t.fab.myidV = true) (hkind : m.hdr.kind.toNat = kind) (hvl : kindVl kind = some m.vl.toNat)
    (hdst : m.hdr.dst = t.fab.myid) (hnum : acceptNum m.hdr.src m.vl m.hdr.msn t = none) (body : State → State) :
    receive k m kind body s = countDup t := by
  rw [receive_arrives ht hwaits hheld hid hkind hvl hdst, hnum]

/-! ### Work (R225, R333, R343, R537) -/

/-- With no released message waiting, work passes what every message passes. -/
theorem receiveWork_noFreed {k : LinkI} {m : Msg} {kind : Nat} {s : State} (hfreed : s.fab.freed = []) (body : State → State) :
    receiveWork k m kind body s = receive k.val m kind (fun s =>
      if s.mbx.shut then shutNotice m s
      else if workCount m = 0 then { s with fab := { s.fab with noop := satInc s.fab.noop } }
      else
        let s := touchStream m true s
        match workKey m with
        | none => s
        | some (ep, layer, _, _) => match s.fab.rules.find? (fun r => ruleHolds r m.hdr.ctx ep layer) with
          | some r => holdUnder r k m s
          | none => body s) s := by
  unfold receiveWork
  rw [hfreed]
  rfl

/-- Work that no rule holds comes to its kind's own handling with its result stream open. -/
theorem receiveWork_delivered {k : LinkI} {m : Msg} {kind : Nat} {s w : State} {ep : W32} {layer part : W16} {fin : Pkg}
    (h : delivered k.val m kind s w) (hfreed : s.fab.freed = []) (hshut : w.mbx.shut = false) (hcount : workCount m ≠ 0)
    (hkey : workKey m = some (ep, layer, part, fin))
    (hrule : (touchStream m true w).fab.rules.find? (fun r => ruleHolds r m.hdr.ctx ep layer) = none) (body : State → State) :
    receiveWork k m kind body s = body (touchStream m true w) := by
  rw [receiveWork_noFreed hfreed, receive_delivered h, if_neg (by simp [hshut]), if_neg hcount, hkey]
  dsimp only
  rw [hrule]

/-- After SYS.SHUTDOWN work is answered with a notice (R537). -/
theorem receiveWork_shut {k : LinkI} {m : Msg} {kind : Nat} {s w : State} (h : delivered k.val m kind s w) (hfreed : s.fab.freed = [])
    (hshut : w.mbx.shut = true) (body : State → State) : receiveWork k m kind body s = reportLoss m 4 w := by
  rw [receiveWork_noFreed hfreed, receive_delivered h, if_pos hshut]
  rfl

/-- A failed block of a message that was not asked for again: RESEND to its sender (R225). -/
theorem workBad_asks {m : Msg} {s : State} (h : resentKey m ∉ s.fab.resent) (c : Nat) (cause : W16) : workBad c m cause s =
    sendNotice 0x25 m.hdr.src (ridOf m.hdr) m.hdr.tindex
      (BitVec.ofNat 64 ((resentKey m).2.2.2.1.toNat + 65536 * (resentKey m).2.2.2.2.toNat)) m.hdr.msn cause
      (tstatSet 3 { s with fab := { s.fab with resent := s.fab.resent ++ [resentKey m] } }) := by
  unfold workBad
  dsimp only
  rw [if_neg (by simpa using h)]

theorem workGood_first {m : Msg} {s : State} (h : resentKey m ∉ s.fab.resent) (c : Nat) : workGood c m s = (true, s) := by
  unfold workGood
  dsimp only
  rw [if_neg (by simpa using h)]

/-! ### Activations (R333) -/

theorem exec_actReceive (k : LinkI) (m : Msg) (bad : Bool) (s : State) : exec (.actReceive k m bad) s = .next (doActReceive k m bad s) := rfl

section
variable {k : LinkI} {m : Msg} {s w : State} {c : Nat} {ep : W32} {layer part : W16} {fin : Pkg}

theorem doActReceive_good (h : delivered k.val m 0x10 s w) (hfreed : s.fab.freed = []) (hshut : w.mbx.shut = false)
    (hcount : workCount m ≠ 0) (hkey : workKey m = some (ep, layer, part, fin))
    (hrule : (touchStream m true w).fab.rules.find? (fun r => ruleHolds r m.hdr.ctx ep layer) = none)
    (hctx : msgCtx (touchStream m true w) m.hdr = some c) (hform : actMalformed m = false)
    (hfirst : resentKey m ∉ (touchStream m true w).fab.resent) : doActReceive k m false s =
      kickPfx c (actStart c { link := k, msg := m, outs := [], att := [], stage := [], done := 0, clean := true, resolved := 0,
                              checks := workBlocks m } (freeKept m.hdr (touchStream m true w))) := by
  unfold doActReceive
  rw [receiveWork_delivered h hfreed hshut hcount hkey hrule]
  rw [hctx]
  dsimp only
  rw [if_neg (by simp [hform]), if_neg (by simp), workGood_first hfirst]
  rfl

theorem doActReceive_bad (h : delivered k.val m 0x10 s w) (hfreed : s.fab.freed = []) (hshut : w.mbx.shut = false)
    (hcount : workCount m ≠ 0) (hkey : workKey m = some (ep, layer, part, fin))
    (hrule : (touchStream m true w).fab.rules.find? (fun r => ruleHolds r m.hdr.ctx ep layer) = none)
    (hctx : msgCtx (touchStream m true w) m.hdr = some c) (hform : actMalformed m = false) :
    doActReceive k m true s = workBad c m 1 (touchStream m true w) := by
  unfold doActReceive
  rw [receiveWork_delivered h hfreed hshut hcount hkey hrule]
  rw [hctx]
  dsimp only
  rw [if_neg (by simp [hform]), if_pos rfl]

end

/-! ### Contributions (R335, R336) -/

theorem exec_s40Receive (k : LinkI) (m : Msg) (bad : Bool) (s : State) : exec (.s40Receive k m bad) s = .next (doS40Receive k m bad s) := rfl

theorem doS40Receive_good {k : LinkI} {m : Msg} {s w : State} {c : Nat} {r : RedHdr} {g : List Byte} {md : ShardMeta}
    (h : delivered k.val m 0x11 s w) (hfreed : s.fab.freed = []) (hshut : w.mbx.shut = false) (hcount : workCount m ≠ 0)
    (hbody : m.body = .s40 r g)
    (hrule : (touchStream m true w).fab.rules.find? (fun q => ruleHolds q m.hdr.ctx r.epoch r.layer) = none)
    (hctx : msgCtx (touchStream m true w) m.hdr = some c)
    (hmeta : reduceMeta (touchStream m true w) c r.epoch r.layer.toNat r.part = some md) (hform : s40Malformed m = false)
    (hexps : expsOk (partExps (touchStream m true w) c r.epoch md) r (s40Body r g) = true)
    (hfirst : resentKey m ∉ (touchStream m true w).fab.resent) : doS40Receive k m false s =
      contribute c (partExps (touchStream m true w) c r.epoch md) m.hdr r (s40Body r g) true (workBlocks m) (touchStream m true w) := by
  have hkey : workKey m = some (r.epoch, r.layer, r.part, r.final) := by rw [workKey, hbody]
  unfold doS40Receive
  rw [receiveWork_delivered h hfreed hshut hcount hkey hrule]
  rw [hbody]
  dsimp only
  rw [hctx]
  dsimp only
  rw [hmeta]
  dsimp only
  rw [if_neg (by simp [hform]), if_neg (by simp [hexps]), workGood_first hfirst]

section
variable {c : Nat} {e : List Int} {h : Hdr} {r : RedHdr} {g : List S40Group} {clean : Bool} {n : Nat} {q : RedRec} {s : State}

/-- A contributor that joined the record before is discarded. -/
theorem contribute_again (hq : s.fab.reds.find? (redIs h.ctx h.inst h.tindex r.layer r.part) = some q) (hmask : q.mask &&& r.cmask ≠ 0) :
    contribute c e h r g clean n s = tstatSet 0 s := by
  unfold contribute
  dsimp only
  rw [hq, if_neg hmask]

theorem contribute_joins (hq : s.fab.reds.find? (redIs h.ctx h.inst h.tindex r.layer r.part) = some q) (hmask : q.mask &&& r.cmask = 0) :
    contribute c e h r g clean n s = redPut c { q with
      mask := q.mask ||| r.cmask, groups := addGroups r.group0.toNat g q.groups, clean := q.clean && h.clean && clean,
      resolved := satOf 8 (q.resolved.toNat + r.resolved.toNat + (if clean then 0 else 1)),
      checks := satOf 32 (q.checks.toNat + r.checks.toNat + n), begun := true } s := by
  unfold contribute
  dsimp only
  rw [hq, if_pos hmask]

end

/-! ### The reductions' timers (R337, R487) -/

theorem exec_reductionResendTimer (c : CtxI) (inst tindex : W32) (layer : W16) (s : State) :
    exec (.reductionResendTimer c inst tindex layer) s = .next (doRedResend c.val inst tindex layer s) := rfl

theorem exec_reductionRecordExpiry (c : CtxI) (inst tindex : W32) (layer : W16) (s : State) :
    exec (.reductionRecordExpiry c inst tindex layer) s = .next (doRedExpiry c.val inst tindex layer s) := rfl

section
variable {c : Nat} {inst tindex : W32} {layer : W16} {r : RedRec} {s : State}

/-- The timer asks every contributor that the record lacks. -/
theorem doRedResend_asks {md : ShardMeta} (hheld : s.snuf.wheld = false) (hr : openRed s c inst tindex layer = some r)
    (hmeta : reduceMeta s c r.epoch layer.toNat r.part = some md) : doRedResend c inst tindex layer s =
      (maskBits 256 (md.rmask &&& ~~~ r.mask).toNat).foldl (fun s i =>
        sendNotice 0x25 (contributorPkg layer r.part i) { ctx := r.ctx, reqtag := r.reqtag, inst := inst, seg := r.seg } tindex
          (BitVec.ofNat 64 (layer.toNat + 65536 * r.part.toNat)) 0 2 (tstatSet 3 s)) s := by
  unfold doRedResend
  rw [if_neg (by simp [hheld]), hr]
  dsimp only
  rw [hmeta]

/-- The state in which an expired record's final package is told: the record is freed, and an ember is raised. -/
def redExpired (r : RedRec) (layer : W16) (s : State) : State :=
  raiseEmber { emb 2 0x0A02 layer.toNat (some r.ctx) r.part.toNat with reqtag := r.reqtag }
    (tstatSet 4 { s with fab := { s.fab with reds := s.fab.reds.erase r } })

theorem redExpired_frame (r : RedRec) (layer : W16) (s : State) : Frame [.fab, .gvl, .mbx, .posted, .mgt] s (redExpired r layer s) :=
  .after (by decide) (raiseEmber_frame _ _) ((frame_fab s _).mono (by decide))

theorem redExpired_reds (r : RedRec) (layer : W16) (s : State) : (redExpired r layer s).fab.reds = s.fab.reds.erase r :=
  congrArg Fab.reds (raiseEmber_frame _ _ .fab (by decide))

/-- The local time is the clocks'. -/
theorem Frame.ltime {ps : List Part} {s t : State} (h : Frame ps s t) (hp : .clk ∉ ps) : ltime t = ltime s :=
  congrArg (fun k : Clk => BitVec.ofNat 64 (k.aclk / 3)) (h .clk hp)

theorem doRedExpiry_tells (hheld : s.snuf.wheld = false) (hr : openRed s c inst tindex layer = some r) : doRedExpiry c inst tindex layer s =
    sendNotice 0x20 r.final { ctx := r.ctx, reqtag := r.reqtag, inst := inst, seg := r.seg } tindex (ltime s) 0 3
      (redExpired r layer s) := by
  unfold doRedExpiry
  rw [if_neg (by simp [hheld]), hr, ← (redExpired_frame r layer s).ltime (by decide)]
  rfl

end

/-! ### O29 -/

/-- Settles O29: a delivered message comes to its kind's own handling (`receive_delivered`, `receiveWork_delivered`), which is one
equation for each path; a reduction's timers are equations of their functions. -/
theorem workMessages : Obligations.WorkMessages := by
  refine ⟨?good, ?bad, ?shut, ?duplicate, ?s40, ?contribute, ?resend, ?expiry⟩
  case good =>
    intro s w k m c ep layer part fin t h hfreed hshut hcount hkey hrule hctx hform hfirst
    rw [exec_actReceive, doActReceive_good h hfreed hshut hcount hkey hrule hctx hform hfirst]
  case bad =>
    intro s w k m c ep layer part fin t h hfreed hshut hcount hkey hrule hctx hform hfirst
    rw [exec_actReceive, doActReceive_bad h hfreed hshut hcount hkey hrule hctx hform, workBad_asks hfirst]
  case shut =>
    intro s w k m bad h hfreed hshut
    rw [exec_actReceive, doActReceive, receiveWork_shut h hfreed hshut]
  case duplicate =>
    intro s k m bad t hfreed hwaits hheld hid hkind hvl hdst hnum
    rw [exec_actReceive, doActReceive, receiveWork_noFreed hfreed,
      receive_duplicate rfl hwaits hheld hid (by rw [hkind]; rfl) (by rw [hvl]; rfl) hdst hnum]
    rfl
  case s40 =>
    intro s w k m c r g md t h hfreed hshut hcount hbody hrule hctx hmeta hform hexps hfirst
    rw [exec_s40Receive, doS40Receive_good h hfreed hshut hcount hbody hrule hctx hmeta hform hexps hfirst]
  case contribute =>
    intro s c e h r g clean n q hq
    exact ⟨contribute_again hq, contribute_joins hq⟩
  case resend =>
    intro s c inst tindex layer r md hheld hr hmeta
    rw [exec_reductionResendTimer, doRedResend_asks hheld hr hmeta]
  case expiry =>
    intro s c inst tindex layer r hheld hr
    refine ⟨redExpired r layer s, ?_, redExpired_reds r layer s, redExpired_frame r layer s⟩
    rw [exec_reductionRecordExpiry, doRedExpiry_tells hheld hr]

end Sys2Proof.Machine
end

section
/-! SUPPORT. Notices (R238, R242, R243, R334, R340, R341, R411, R495), taper segments (R345, R346) and what is remembered of a retired
request (R536); and the settlement of O30. -/

namespace Sys2Proof.Machine

/-! ### Notices for a context held here -/

theorem receiveNotice_delivered {k : LinkI} {m : Msg} {kind : Nat} {s w : State} {c : Nat} {x : Ctx} (h : delivered k.val m kind s w)
    (hctx : msgCtx w m.hdr = some c) (hx : getCtx w c = some x) (body : Nat → Ctx → State → State) :
    receiveNotice k m kind body s = body c x w := by
  unfold receiveNotice
  rw [receive_delivered h]
  rw [hctx]
  dsimp only
  rw [hx]

/-! ### NEXT, COMMIT and DISCARD (R238, R334, R340) -/

theorem exec_nextReceive (k : LinkI) (m : Msg) (s : State) : exec (.nextReceive k m) s = .next (doNextReceive k m s) := rfl

theorem exec_commitReceive (k : LinkI) (m : Msg) (s : State) : exec (.commitReceive k m) s = .next (doCommitReceive k m s) := rfl

theorem exec_discardReceive (k : LinkI) (m : Msg) (s : State) : exec (.discardReceive k m) s = .next (doDiscardReceive k m s) := rfl

section
variable {k : LinkI} {m : Msg} {s w : State} {c : Nat} {x : Ctx}

/-- NEXT of the position before the record's next one: its retained messages go, and the next position is ready. -/
theorem doNextReceive_readies {a : AdmRec} (h : delivered k.val m 0x15 s w) (hctx : msgCtx w m.hdr = some c) (hx : getCtx w c = some x)
    (ha : x.adm.find? (fun a => a.admitted && a.inst == m.hdr.inst && a.seg == m.hdr.seg && !a.retired) = some a)
    (hpos : a.nextPos = m.hdr.tindex.toNat + 1) (hbuild : a.build = false) : doNextReceive k m s =
      updAdm c a.num (fun a => { a with nextTok := some ((noticeOf m).arg0.setWidth 32), gotNext := true,
                                        lastPos := m.hdr.tindex.toNat + 1, readySince := nowF w })
        { w with fab := { w.fab with kept := w.fab.kept.filter (fun q =>
          !(q.hdr.ctx == m.hdr.ctx && q.hdr.inst == m.hdr.inst && q.hdr.tindex == m.hdr.tindex)) } } := by
  unfold doNextReceive
  rw [receiveNotice_delivered h hctx hx]
  dsimp only
  rw [ha]
  dsimp only
  rw [if_pos hpos, if_neg (by simp [hbuild])]
  rfl

theorem doCommitReceive_delivered (h : delivered k.val m 0x21 s w) (hctx : msgCtx w m.hdr = some c) (hx : getCtx w c = some x) :
    doCommitReceive k m s = kickPfx c (if (noticeOf m).code.toNat % 2 = 1
      then retireNotice c x m.hdr (attnCommit c m.hdr.inst (m.hdr.tindex.toNat + 1) w)
      else attnCommit c m.hdr.inst (m.hdr.tindex.toNat + 1) w) :=
  receiveNotice_delivered h hctx hx _

theorem doDiscardReceive_delivered (h : delivered k.val m 0x22 s w) (hctx : msgCtx w m.hdr = some c) (hx : getCtx w c = some x) :
    doDiscardReceive k m s = kickPfx c (if (noticeOf m).code.toNat % 2 = 1
      then retireNotice c x m.hdr (attnDiscard c m.hdr.inst m.hdr.tindex.toNat w)
      else attnDiscard c m.hdr.inst m.hdr.tindex.toNat w) :=
  receiveNotice_delivered h hctx hx _

end

/-! ### Notices that retire, amend, settle and send again (R242, R243, R334, R341, R411, R495) -/

theorem exec_withheldReceive (k : LinkI) (m : Msg) (s : State) : exec (.withheldReceive k m) s = .next (doWithheldReceive k m s) := rfl

theorem exec_epochMissReceive (k : LinkI) (m : Msg) (s : State) : exec (.epochMissReceive k m) s = .next (doEpochMiss k m s) := rfl

theorem exec_suspectReceive (k : LinkI) (m : Msg) (s : State) : exec (.suspectReceive k m) s =
    .next (receiveNotice k m 0x23 (fun c _ s => suspectAtFinal c m.hdr (noticeOf m).arg0 s) s) := rfl

theorem exec_settleReceive (k : LinkI) (m : Msg) (s : State) : exec (.settleReceive k m) s =
    .next (receiveNotice k m 0x24 (fun c _ s => settleCount c m.hdr.inst m.hdr.src s) s) := rfl

theorem exec_resendReceive (k : LinkI) (m : Msg) (s : State) : exec (.resendReceive k m) s = .next (doResendReceive k m s) := rfl

section
variable {k : LinkI} {m : Msg} {s w : State} {c : Nat} {x : Ctx}

theorem doWithheldReceive_retires {r : RelRec} (h : delivered k.val m 0x20 s w) (hctx : msgCtx w m.hdr = some c) (hx : getCtx w c = some x)
    (hr : relNamed x m.hdr = some r) : doWithheldReceive k m s = retireNamed c m.hdr r 6 (setBroken (noticeOf m).code w) := by
  unfold doWithheldReceive
  rw [receiveNotice_delivered h hctx hx]
  rw [hr]

theorem doEpochMiss_retires {r : RelRec} (h : delivered k.val m 0x26 s w) (hctx : msgCtx w m.hdr = some c) (hx : getCtx w c = some x)
    (hr : relNamed x m.hdr = some r) : doEpochMiss k m s = retireNamed c m.hdr r 8 w := by
  unfold doEpochMiss
  rw [receiveNotice_delivered h hctx hx]
  rw [hr]

theorem doResendReceive_sends {q : Msg} (h : delivered k.val m 0x25 s w) (hctx : msgCtx w m.hdr = some c) (hx : getCtx w c = some x)
    (hq : wanted w m.hdr (noticeOf m) = some q) : doResendReceive k m s = sendAgain q w := by
  unfold doResendReceive
  rw [receiveNotice_delivered h hctx hx]
  rw [hq]

end

/-! ### Taper segments (R345, R346) -/

theorem exec_taperReceive (k : LinkI) (m : Msg) (dig : Digest) (s : State) :
    exec (.taperReceive k m dig) s = .next (doTaperReceive k m dig s) := rfl

theorem exec_taperReqReceive (k : LinkI) (m : Msg) (s : State) : exec (.taperReqReceive k m) s = .next (doTaperReq k m s) := rfl

/-- A relay leaves the package's ID. -/
theorem relayTaper_myid (n : Chain) (m : Msg) (s : State) : (relayTaper n m s).fab.myid = s.fab.myid := by
  unfold relayTaper
  split
  · rfl
  · split
    · have hfab : (ember 2 0x0A01 m.hdr.src.toNat none m.hdr.dst.toNat (countDrop (tstatSet 1 s))).fab = (countDrop (tstatSet 1 s)).fab :=
        ember_frame _ _ _ _ _ _ .fab (by decide)
      exact (congrArg Fab.myid hfab).trans rfl
    · split <;> rfl

section
variable {k : LinkI} {m : Msg} {dig : Digest} {t : TaperHdr} {i : Nat} {n : Chain} {s w : State}

/-- A segment of a chain that enters here, when it is no duplicate. -/
theorem doTaperReceive_accepted (hheld : (takeItem k.val (.msg m) s).snuf.wheld = false) (hid : (takeItem k.val (.msg m) s).fab.myidV = true)
    (hbody : m.body = .taper t) (hkind : m.hdr.kind = 0x13) (hvl : m.vl = 0)
    (hchain : chainOf (takeItem k.val (.msg m) s) k.val t.chain.toNat = some (i, n))
    (hnum : acceptNum (BitVec.ofNat 12 i) 0 m.hdr.msn (takeItem k.val (.msg m) s) = some w) : doTaperReceive k m dig s =
      if t.seglen = 0 then { w with fab := { w.fab with noop := satInc w.fab.noop } }
      else if m.hdr.len.toNat ≠ 64 + t.seglen.toNat ∨ 65536 < t.seglen.toNat then relayTaper n m w
      else if t.owner == (relayTaper n m w).fab.myid.setWidth 16 || t.buddy == (relayTaper n m w).fab.myid.setWidth 16 then
        match msgCtx (storeSeg t dig (relayTaper n m w)) m.hdr with
        | none => storeSeg t dig (relayTaper n m w)
        | some c => segArrived c t (storeSeg t dig (relayTaper n m w))
      else storeSeg t dig (relayTaper n m w) := by
  unfold doTaperReceive
  dsimp only
  rw [if_neg (by simp [hheld, hid]), hbody]
  dsimp only
  rw [if_neg (by simp [hkind, hvl]), hchain]
  dsimp only
  rw [hnum]
  rfl

/-- The segments held here that a TAPER_REQ asks for. -/
def segsHeld (t : TaperHdr) (s : State) : List (W16 × TaperHdr × Digest) :=
  s.fab.segs.filter (fun e => e.1 == t.chain && e.2.1.shard == t.shard && (segsAsked t).contains e.2.1.seg.toNat)

/-- With every segment asked for held, none is lacking. -/
theorem segsLacking_nil (hall : ∀ j ∈ segsAsked t, ∃ e ∈ segsHeld t s, e.2.1.seg.toNat = j) :
    (segsAsked t).filter (fun j => !((segsHeld t s).any (fun e => e.2.1.seg.toNat == j))) = [] := by
  refine List.filter_eq_nil_iff.2 fun j hj => ?_
  obtain ⟨e, he, hej⟩ := hall j hj
  have hany : (segsHeld t s).any (fun e => e.2.1.seg.toNat == j) = true := List.any_eq_true.2 ⟨e, he, by rw [hej, beq_self_eq_true]⟩
  simp [hany]

/-- Segments held here are sent again; with all of them held no other is asked for. -/
theorem doTaperReq_held (h : delivered k.val m 0x14 s w) (hbody : m.body = .taperReq t) (hchain : chainNamed w t.chain.toNat = some (i, n))
    (hall : ∀ j ∈ segsAsked t, ∃ e ∈ segsHeld t w, e.2.1.seg.toNat = j) :
    doTaperReq k m s = (segsHeld t w).foldl (fun s e => sendTaper n m.hdr.ctx e.2.1 s) w := by
  have hlack := segsLacking_nil hall
  unfold segsHeld at hlack
  unfold doTaperReq
  rw [receive_delivered h]
  rw [hbody]
  dsimp only
  rw [hchain]
  dsimp only
  rw [hlack]
  split <;> rfl

end

/-! ### A retired request (R536) -/

theorem exec_retiredInstanceExpiry (ctx : W16) (inst : W32) (s : State) :
    exec (.retiredInstanceExpiry ctx inst) s = .next (doRetiredExpiry ctx inst s) := rfl

/-! ### O30 -/

/-- Settles O30: a notice for a context held here comes to its kind's own handling (`receiveNotice_delivered`), an accepted segment to the
cases of `doTaperReceive_accepted`, and a request for segments that are all held leaves none to ask for (`doTaperReq_held`). -/
theorem noticesAndTapers : Obligations.NoticesAndTapers := by
  refine ⟨?next, ?withheld, ?epochMiss, ?commit, ?discard, ?suspect, ?settle, ?resend, ?segment, ?empty, ?request, ?expiry⟩
  case next =>
    intro s w k m c x a h hctx hx ha hpos hbuild
    rw [exec_nextReceive, doNextReceive_readies h hctx hx ha hpos hbuild]
  case withheld =>
    intro s w k m c x r h hctx hx hr
    rw [exec_withheldReceive, doWithheldReceive_retires h hctx hx hr]
  case epochMiss =>
    intro s w k m c x r h hctx hx hr
    rw [exec_epochMissReceive, doEpochMiss_retires h hctx hx hr]
  case commit =>
    intro s w k m c x h hctx hx
    rw [exec_commitReceive, doCommitReceive_delivered h hctx hx]
  case discard =>
    intro s w k m c x h hctx hx
    rw [exec_discardReceive, doDiscardReceive_delivered h hctx hx]
  case suspect =>
    intro s w k m c x h hctx hx
    rw [exec_suspectReceive, receiveNotice_delivered h hctx hx]
  case settle =>
    intro s w k m c x h hctx hx
    rw [exec_settleReceive, receiveNotice_delivered h hctx hx]
  case resend =>
    intro s w k m c x q h hctx hx hq
    rw [exec_resendReceive, doResendReceive_sends h hctx hx hq]
  case segment =>
    intro s w k m dig t i n v hheld hid hbody hkind hvl hchain hnum hlen hfit hmax
    rw [exec_taperReceive, doTaperReceive_accepted hheld hid hbody hkind hvl hchain hnum, if_neg hlen, if_neg (by omega),
      relayTaper_myid]
    refine congrArg _ (if_congr ?_ rfl rfl)
    simp only [Bool.or_eq_true, beq_iff_eq]
  case empty =>
    intro s w k m dig t i n v hheld hid hbody hkind hvl hchain hnum hlen
    rw [exec_taperReceive, doTaperReceive_accepted hheld hid hbody hkind hvl hchain hnum, if_pos hlen]
  case request =>
    intro s w k m t i n h hbody hchain held hall
    rw [exec_taperReqReceive, doTaperReq_held h hbody hchain hall]
    rfl
  case expiry =>
    intro s ctx inst
    exact exec_retiredInstanceExpiry ctx inst s

end Sys2Proof.Machine
end

section
/-! SUPPORT. The invariant over one step (R261, R266, R524): a reset meets it afresh, and every other command keeps it; and the
settlement of O46. -/

namespace Sys2Proof.Machine

/-- Every command but a reset answers a next state and keeps what no reset ends: the meanings of `exec`, each by its own lemma. -/
theorem exec_keeps {i : Instr} (hi : isReset i = false) (s : State) : KeepsO s (exec i s) := by
  cases i with
  | powerOnReset => cases hi
  | dieReset src => cases hi
  | rootPllLock brdHigh => exact execRootPllLock_keeps brdHigh s (.refl s)
  | bootRom b => exact execBootRom_keeps b s (.refl s)
  | stackTrainingDone n r repairs => exact execStackTrainingDone_keeps n r repairs s (.refl s)
  | startUpConfigure => exact execStartUpConfigure_keeps s (.refl s)
  | stackOverwriteDone n => exact execStackOverwriteDone_keeps n s (.refl s)
  | counterFloorRaise => exact execCounterFloorRaise_keeps s (.refl s)
  | supplyWarning p => exact execSupplyWarning_keeps p s (.refl s)
  | supplyRecovery p => exact execSupplyRecovery_keeps p s (.refl s)
  | freezeResume => exact execFreezeResume_keeps s (.refl s)
  | supplyWarningLong p => exact execSupplyWarningLong_keeps p s (.refl s)
  | supplyResetLevel p => exact execSupplyResetLevel_keeps p s (.refl s)
  | supplyOvervoltage p => exact execSupplyOvervoltage_keeps p s (.refl s)
  | pllLockLoss => exact execPllLockLoss_keeps s (.refl s)
  | holdoverEnd => exact execHoldoverEnd_keeps s (.refl s)
  | clkHalfWrite east v => exact execClkHalfWrite_keeps east v s (.refl s)
  | clockDividerApply => exact execClockDividerApply_keeps s (.refl s)
  | clkSeamGateWrite v => exact execClkSeamGateWrite_keeps v s (.refl s)
  | seamHangWatchdog east => exact execSeamHangWatchdog_keeps east s (.refl s)
  | flicker draws => exact execFlicker_keeps draws s (.refl s)
  | wickStepComplete l w err bad => exact execWickStepComplete_keeps l w err bad s (.refl s)
  | sliceRecomputeDone l w err => exact execSliceRecomputeDone_keeps l w err s (.refl s)
  | flareBoundary l => exact execFlareBoundary_keeps l s (.refl s)
  | flareComplete c => exact execFlareComplete_keeps c s (.refl s)
  | budgetWindow meas => exact execBudgetWindow_keeps meas s (.refl s)
  | cutEpoch hot energy => exact execCutEpoch_keeps hot energy s (.refl s)
  | thermalTrip d => exact execThermalTrip_keeps d s (.refl s)
  | wickWrctlStart l w v => exact execWickWrctlStart_keeps l w v s (.refl s)
  | wickWriteDone l w reads => exact execWickWriteDone_keeps l w reads s (.refl s)
  | wickRepairPassDone l w reads => exact execWickRepairPassDone_keeps l w reads s (.refl s)
  | wickRbctlStart l w v => exact execWickRbctlStart_keeps l w v s (.refl s)
  | readbackDone l w => exact execReadbackDone_keeps l w s (.refl s)
  | lookupCandidateConfirm l w col => exact execLookupCandidateConfirm_keeps l w col s (.refl s)
  | wckColmapWrite l w n v => exact execWckColmapWrite_keeps l w n v s (.refl s)
  | wckCfgWrite l w v => exact execWckCfgWrite_keeps l w v s (.refl s)
  | inputBlockArrival l b good => exact execInputBlockArrival_keeps l b good s (.refl s)
  | broadcast p lans b => exact execBroadcast_keeps p lans b s (.refl s)
  | chainPartialArrival l m good => exact execChainPartialArrival_keeps l m good s (.refl s)
  | lntSwapArm l v => exact execLntSwapArm_keeps l v s (.refl s)
  | lntIssueWrite l v => exact execLntIssueWrite_keeps l v s (.refl s)
  | lntCfgWrite l v => exact execLntCfgWrite_keeps l v s (.refl s)
  | momentWindowEnd l slice => exact execMomentWindowEnd_keeps l slice s (.refl s)
  | rotationCycle l => exact execRotationCycle_keeps l s (.refl s)
  | fullTrimWindowDone l => exact execFullTrimWindowDone_keeps l s (.refl s)
  | driveRefCalDue l => exact execDriveRefCalDue_keeps l s (.refl s)
  | driveRefCalGapWait l => exact execDriveRefCalGapWait_keeps l s (.refl s)
  | driveRefCalDone l => exact execDriveRefCalDone_keeps l s (.refl s)
  | deviceRecordWrite => exact execDeviceRecordWrite_keeps s (.refl s)
  | monConversionDone n level err => exact execMonConversionDone_keeps n level err s (.refl s)
  | monUrgGo gov v => exact execMonUrgGo_keeps gov v s (.refl s)
  | monCvGo n v => exact execMonCvGo_keeps n v s (.refl s)
  | auditDone l => exact execAuditDone_keeps l s (.refl s)
  | suspectDecay l => exact execSuspectDecay_keeps l s (.refl s)
  | settleSend c inst => exact execSettleSend_keeps c inst s (.refl s)
  | lanternRemap ll closing => exact execLanternRemap_keeps ll closing s (.refl s)
  | patrolPass n corrected bad => exact execPatrolPass_keeps n corrected bad s (.refl s)
  | sliceClearDone n => exact execSliceClearDone_keeps n s (.refl s)
  | scnOwnWrite n v => exact execScnOwnWrite_keeps n v s (.refl s)
  | xbrSlotmapWrite k v => exact execXbrSlotmapWrite_keeps k v s (.refl s)
  | pwrCtxwWrite c v => exact execPwrCtxwWrite_keeps c v s (.refl s)
  | vraiseStepDown n => exact execVraiseStepDown_keeps n s (.refl s)
  | sconceRetire n => exact execSconceRetire_keeps n s (.refl s)
  | vecControl l t w => exact execVecControl_keeps l t w s (.refl s)
  | vecFloat l t w chk => exact execVecFloat_keeps l t w chk s (.refl s)
  | vecDot2 l t w chk => exact execVecDot2_keeps l t w chk s (.refl s)
  | vecDot4 l t w chk => exact execVecDot4_keeps l t w chk s (.refl s)
  | vecInteger l t w chk => exact execVecInteger_keeps l t w chk s (.refl s)
  | vecConvert l t w chk => exact execVecConvert_keeps l t w chk s (.refl s)
  | vecCompare l t w chk => exact execVecCompare_keeps l t w chk s (.refl s)
  | vecReduce l t w chk => exact execVecReduce_keeps l t w chk s (.refl s)
  | vecSpecial l t w chk => exact execVecSpecial_keeps l t w chk s (.refl s)
  | rot l t w chk => exact execRot_keeps l t w chk s (.refl s)
  | rotl1 l t w chk => exact execRotl1_keeps l t w chk s (.refl s)
  | gather l t w chk => exact execGather_keeps l t w chk s (.refl s)
  | scatter l t w chk => exact execScatter_keeps l t w chk s (.refl s)
  | tkpush l t w chk => exact execTkpush_keeps l t w chk s (.refl s)
  | tkpop l t w => exact execTkpop_keeps l t w s (.refl s)
  | load l t w => exact execLoad_keeps l t w s (.refl s)
  | loadDataReturn l t n ecc bad shadow => exact execLoadDataReturn_keeps l t n ecc bad shadow s (.refl s)
  | store l t w chk => exact execStore_keeps l t w chk s (.refl s)
  | atomic l t w chk => exact execAtomic_keeps l t w chk s (.refl s)
  | send l t w chk => exact execSend_keeps l t w chk s (.refl s)
  | recv l t w => exact execRecv_keeps l t w s (.refl s)
  | fire l t w f => exact execFire_keeps l t w f s (.refl s)
  | waitf l t w => exact execWaitf_keeps l t w s (.refl s)
  | vecPrivileged l t w => exact execVecPrivileged_keeps l t w s (.refl s)
  | kernelTimeLimit c inv => exact execKernelTimeLimit_keeps c inv s (.refl s)
  | vecCtlKill l v => exact execVecCtlKill_keeps l v s (.refl s)
  | lmpCfgEn v => exact execLmpCfgEn_keeps v s (.refl s)
  | lmpPauseWrite c v => exact execLmpPauseWrite_keeps c v s (.refl s)
  | mbxSqDoorbell r v => exact execMbxSqDoorbell_keeps r v s (.refl s)
  | mbxCqDoorbell r v => exact execMbxCqDoorbell_keeps r v s (.refl s)
  | mbxAttach e => exact execMbxAttach_keeps e s (.refl s)
  | mbxReattach e => exact execMbxReattach_keeps e s (.refl s)
  | reattachDiscardTimeout r => exact execReattachDiscardTimeout_keeps r s (.refl s)
  | descriptorFetch r res => exact execDescriptorFetch_keeps r res s (.refl s)
  | notificationFlush r => exact execNotificationFlush_keeps r s (.refl s)
  | commandTimeLimit r tag => exact execCommandTimeLimit_keeps r tag s (.refl s)
  | coreWatchdogExpiry core => exact execCoreWatchdogExpiry_keeps core s (.refl s)
  | sysHello d vmin vmax => exact execSysHello_keeps d vmin vmax s (.refl s)
  | sysInfo d => exact execSysInfo_keeps d s (.refl s)
  | sysTime d => exact execSysTime_keeps d s (.refl s)
  | sysRing d ring action e => exact execSysRing_keeps d ring action e s (.refl s)
  | sysPower d limit arr vec xbr stk ser ctl => exact execSysPower_keeps d limit arr vec xbr stk ser ctl s (.refl s)
  | sysClock d east adiv ndiv => exact execSysClock_keeps d east adiv ndiv s (.refl s)
  | sysShutdown d => exact execSysShutdown_keeps d s (.refl s)
  | sysReset d => exact execSysReset_keeps d s (.refl s)
  | ctxCreate d a keydig => exact execCtxCreate_keeps d a keydig s (.refl s)
  | ctxDestroy d ctxid => exact execCtxDestroy_keeps d ctxid s (.refl s)
  | ctxPipeline d ctxid path => exact execCtxPipeline_keeps d ctxid path s (.refl s)
  | ctxWeight d ctxid weight => exact execCtxWeight_keeps d ctxid weight s (.refl s)
  | ctxPause d => exact execCtxPause_keeps d s (.refl s)
  | ctxResume d => exact execCtxResume_keeps d s (.refl s)
  | ctxKload d k => exact execCtxKload_keeps d k s (.refl s)
  | ctxKunload d handle => exact execCtxKunload_keeps d handle s (.refl s)
  | ctxKrun d handle entry lmask => exact execCtxKrun_keeps d handle entry lmask s (.refl s)
  | ctxAttest d nonce => exact execCtxAttest_keeps d nonce s (.refl s)
  | ctxEmbers d => exact execCtxEmbers_keeps d s (.refl s)
  | wgtSession d => exact execWgtSession_keeps d s (.refl s)
  | wgtKey d keyid key => exact execWgtKey_keeps d keyid key s (.refl s)
  | wgtLand d off len => exact execWgtLand_keeps d off len s (.refl s)
  | wgtLoad d epoch ents => exact execWgtLoad_keeps d epoch ents s (.refl s)
  | wgtAdopt d epoch strict toks => exact execWgtAdopt_keeps d epoch strict toks s (.refl s)
  | wgtReplace d old new drain => exact execWgtReplace_keeps d old new drain s (.refl s)
  | wgtDrop d epoch => exact execWgtDrop_keeps d epoch s (.refl s)
  | wgtStatus d => exact execWgtStatus_keeps d s (.refl s)
  | adpLoad d slot gen ents => exact execAdpLoad_keeps d slot gen ents s (.refl s)
  | adpReplace d slot gen ents => exact execAdpReplace_keeps d slot gen ents s (.refl s)
  | adpFree d slot => exact execAdpFree_keeps d slot s (.refl s)
  | adpStatus d => exact execAdpStatus_keeps d s (.refl s)
  | reqSubmit d a => exact execReqSubmit_keeps d a s (.refl s)
  | reqCancel d reqtag => exact execReqCancel_keeps d reqtag s (.refl s)
  | reqResume d reqtag deadline maxtok tokens => exact execReqResume_keeps d reqtag deadline maxtok tokens s (.refl s)
  | reqLedger d reqtag => exact execReqLedger_keeps d reqtag s (.refl s)
  | reqReplay d reqtag form differ => exact execReqReplay_keeps d reqtag form differ s (.refl s)
  | reqLog d reqtag => exact execReqLog_keeps d reqtag s (.refl s)
  | calRead d lans wicks sets => exact execCalRead_keeps d lans wicks sets s (.refl s)
  | calTrim d ll w => exact execCalTrim_keeps d ll w s (.refl s)
  | calConfig d lmask cfg drcfg => exact execCalConfig_keeps d lmask cfg drcfg s (.refl s)
  | chkRate d lmask audlog => exact execChkRate_keeps d lmask audlog s (.refl s)
  | chkStatus d => exact execChkStatus_keeps d s (.refl s)
  | chkAudit d lmask => exact execChkAudit_keeps d lmask s (.refl s)
  | monSeq d ents len => exact execMonSeq_keeps d ents len s (.refl s)
  | monRead d => exact execMonRead_keeps d s (.refl s)
  | fabPort d port v => exact execFabPort_keeps d port v s (.refl s)
  | fabId d id => exact execFabId_keeps d id s (.refl s)
  | fabRoute d bank first ents => exact execFabRoute_keeps d bank first ents s (.refl s)
  | fabFlip d => exact execFabFlip_keeps d s (.refl s)
  | fabChain d n v => exact execFabChain_keeps d n v s (.refl s)
  | fabWrr d v => exact execFabWrr_keeps d v s (.refl s)
  | fabNeighbors d => exact execFabNeighbors_keeps d s (.refl s)
  | twinForm d a => exact execTwinForm_keeps d a s (.refl s)
  | twinDissolve d => exact execTwinDissolve_keeps d s (.refl s)
  | twinStatus d => exact execTwinStatus_keeps d s (.refl s)
  | diagEmbers d => exact execDiagEmbers_keeps d s (.refl s)
  | diagSnapshot d blocks => exact execDiagSnapshot_keeps d blocks s (.refl s)
  | diagLoopback d port => exact execDiagLoopback_keeps d port s (.refl s)
  | diagCounters d => exact execDiagCounters_keeps d s (.refl s)
  | fabPcfgWrite p v => exact execFabPcfgWrite_keeps p v s (.refl s)
  | fabRtctlFlip v => exact execFabRtctlFlip_keeps v s (.refl s)
  | linkTrainingDone k lanesOk rev polinv => exact execLinkTrainingDone_keeps k lanesOk rev polinv s (.refl s)
  | linkAlignDone k => exact execLinkAlignDone_keeps k s (.refl s)
  | linitReceive k m => exact execLinitReceive_keeps k m s (.refl s)
  | linkStateLimitExpiry k => exact execLinkStateLimitExpiry_keeps k s (.refl s)
  | linkDownRetrain k => exact execLinkDownRetrain_keeps k s (.refl s)
  | linkSignalLoss k => exact execLinkSignalLoss_keeps k s (.refl s)
  | linkNoFlitTimeout k => exact execLinkNoFlitTimeout_keeps k s (.refl s)
  | linkReferenceLoss east => exact execLinkReferenceLoss_keeps east s (.refl s)
  | flitReceive k f c => exact execFlitReceive_keeps k f c s (.refl s)
  | flitSend k => exact execFlitSend_keeps k s (.refl s)
  | replayTimeout k => exact execReplayTimeout_keeps k s (.refl s)
  | helloReceive k m => exact execHelloReceive_keeps k m s (.refl s)
  | attestReceive k r => exact execAttestReceive_keeps k r s (.refl s)
  | verdictReceive k accept => exact execVerdictReceive_keeps k accept s (.refl s)
  | linkStateReceive k withheld => exact execLinkStateReceive_keeps k withheld s (.refl s)
  | keyxReceive k cipher ok => exact execKeyxReceive_keeps k cipher ok s (.refl s)
  | discoverAttemptTimeout k nonce => exact execDiscoverAttemptTimeout_keeps k nonce s (.refl s)
  | quarantineHelloRepeat k nonce => exact execQuarantineHelloRepeat_keeps k nonce s (.refl s)
  | keyPhaseAdvance k => exact execKeyPhaseAdvance_keeps k s (.refl s)
  | keyReexchange k => exact execKeyReexchange_keeps k s (.refl s)
  | messageRelay k m => exact execMessageRelay_keeps k m s (.refl s)
  | egressNoRouteTimeout dst => exact execEgressNoRouteTimeout_keeps dst s (.refl s)
  | actReceive k m bad => exact execActReceive_keeps k m bad s (.refl s)
  | s40Receive k m bad => exact execS40Receive_keeps k m bad s (.refl s)
  | reductionResendTimer c inst tindex layer => exact execReductionResendTimer_keeps c inst tindex layer s (.refl s)
  | reductionRecordExpiry c inst tindex layer => exact execReductionRecordExpiry_keeps c inst tindex layer s (.refl s)
  | curfewSet k m => exact execCurfewSet_keeps k m s (.refl s)
  | curfewLift k m closing => exact execCurfewLift_keeps k m closing s (.refl s)
  | curfewQuery k m => exact execCurfewQuery_keeps k m s (.refl s)
  | curfewReport k m => exact execCurfewReport_keeps k m s (.refl s)
  | holdRuleTimeout ctx cfid closing => exact execHoldRuleTimeout_keeps ctx cfid closing s (.refl s)
  | waveQueryTimer c => exact execWaveQueryTimer_keeps c s (.refl s)
  | curfewResendTimer c => exact execCurfewResendTimer_keeps c s (.refl s)
  | waveDrainExpiry c => exact execWaveDrainExpiry_keeps c s (.refl s)
  | taperReceive k m dig => exact execTaperReceive_keeps k m dig s (.refl s)
  | taperReqReceive k m => exact execTaperReqReceive_keeps k m s (.refl s)
  | nextReceive k m => exact execNextReceive_keeps k m s (.refl s)
  | withheldReceive k m => exact execWithheldReceive_keeps k m s (.refl s)
  | commitReceive k m => exact execCommitReceive_keeps k m s (.refl s)
  | discardReceive k m => exact execDiscardReceive_keeps k m s (.refl s)
  | suspectReceive k m => exact execSuspectReceive_keeps k m s (.refl s)
  | settleReceive k m => exact execSettleReceive_keeps k m s (.refl s)
  | resendReceive k m => exact execResendReceive_keeps k m s (.refl s)
  | epochMissReceive k m => exact execEpochMissReceive_keeps k m s (.refl s)
  | retiredInstanceExpiry ctx inst => exact execRetiredInstanceExpiry_keeps ctx inst s (.refl s)
  | tformReceive k m => exact execTformReceive_keeps k m s (.refl s)
  | tdigestReceive k m => exact execTdigestReceive_keeps k m s (.refl s)
  | tactReceive k m => exact execTactReceive_keeps k m s (.refl s)
  | tresultReceive k m => exact execTresultReceive_keeps k m s (.refl s)
  | theartReceive k m => exact execTheartReceive_keeps k m s (.refl s)
  | twinHeartbeatSend => exact execTwinHeartbeatSend_keeps s (.refl s)
  | twinLost => exact execTwinLost_keeps s (.refl s)
  | twinDigestTimeout reqtag tindex => exact execTwinDigestTimeout_keeps reqtag tindex s (.refl s)
  | requestDispatch c => exact execRequestDispatch_keeps c s (.refl s)
  | tokenRelease c inst => exact execTokenRelease_keeps c inst s (.refl s)
  | releaseDeadline c num => exact execReleaseDeadline_keeps c num s (.refl s)
  | admissionDeadline c num => exact execAdmissionDeadline_keeps c num s (.refl s)
  | releaseRecordWaitExpiry c inst => exact execReleaseRecordWaitExpiry_keeps c inst s (.refl s)
  | attentionHoldExpiry c inst => exact execAttentionHoldExpiry_keeps c inst s (.refl s)
  | prefixLeaseExpiry c slot => exact execPrefixLeaseExpiry_keeps c slot s (.refl s)
  | shardSegmentsComplete c epoch shard b closing => exact execShardSegmentsComplete_keeps c epoch shard b closing s (.refl s)
  | shardOverdue c epoch shard => exact execShardOverdue_keeps c epoch shard s (.refl s)
  | taperReqRepeat c epoch shard => exact execTaperReqRepeat_keeps c epoch shard s (.refl s)
  | storageCheckPoll c epoch shard b closing => exact execStorageCheckPoll_keeps c epoch shard b closing s (.refl s)
  | shardFailDeadline c epoch shard => exact execShardFailDeadline_keeps c epoch shard s (.refl s)
  | shadowRehash c epoch shard ok => exact execShadowRehash_keeps c epoch shard ok s (.refl s)
  | buddyRehash c epoch shard ok => exact execBuddyRehash_keeps c epoch shard ok s (.refl s)
  | wickReadbackCheck l w => exact execWickReadbackCheck_keeps l w s (.refl s)
  | gvlCtlEn v => exact execGvlCtlEn_keeps v s (.refl s)
  | gvlCtlPrst => exact execGvlCtlPrst_keeps s (.refl s)
  | gvlCtlRetrain => exact execGvlCtlRetrain_keeps s (.refl s)
  | gvlCacheFlush => exact execGvlCacheFlush_keeps s (.refl s)
  | gvlReceiverDetect => exact execGvlReceiverDetect_keeps s (.refl s)
  | gvlTrainDone goodLanes => exact execGvlTrainDone_keeps goodLanes s (.refl s)
  | gvlLockDone polinv rev => exact execGvlLockDone_keeps polinv rev s (.refl s)
  | gvlInitReceive version width credits rtt => exact execGvlInitReceive_keeps version width credits rtt s (.refl s)
  | gvlStateLimitExpiry => exact execGvlStateLimitExpiry_keeps s (.refl s)
  | gvlDownRetry => exact execGvlDownRetry_keeps s (.refl s)
  | gvlRecoveryTrigger c => exact execGvlRecoveryTrigger_keeps c s (.refl s)
  | gvlRecoveryDone goodLanes => exact execGvlRecoveryDone_keeps goodLanes s (.refl s)
  | gvlRefclkLoss => exact execGvlRefclkLoss_keeps s (.refl s)
  | gvlFlitReceive f c corr => exact execGvlFlitReceive_keeps f c corr s (.refl s)
  | gvlFlitSend => exact execGvlFlitSend_keeps s (.refl s)
  | gvlReplayTimeout => exact execGvlReplayTimeout_keeps s (.refl s)
  | hrd m => exact execHrd_keeps m s (.refl s)
  | hrds m => exact execHrds_keeps m s (.refl s)
  | hrdx m => exact execHrdx_keeps m s (.refl s)
  | hrdr m => exact execHrdr_keeps m s (.refl s)
  | hwr m => exact execHwr_keeps m s (.refl s)
  | hwrr m => exact execHwrr_keeps m s (.refl s)
  | hwb m => exact execHwb_keeps m s (.refl s)
  | hevx m => exact execHevx_keeps m s (.refl s)
  | hevs m => exact execHevs_keeps m s (.refl s)
  | snpinvReceive m => exact execSnpinvReceive_keeps m s (.refl s)
  | sackReceive m => exact execSackReceive_keeps m s (.refl s)
  | sdataReceive m => exact execSdataReceive_keeps m s (.refl s)
  | datalReceive m => exact execDatalReceive_keeps m s (.refl s)
  | lstateReceive m => exact execLstateReceive_keeps m s (.refl s)
  | hostReadTimeout tag => exact execHostReadTimeout_keeps tag s (.refl s)
  | deviceReadTimeout tag => exact execDeviceReadTimeout_keeps tag s (.refl s)
  | snoopTimeout block => exact execSnoopTimeout_keeps block s (.refl s)
  | sigIntervalExpiry vector => exact execSigIntervalExpiry_keeps vector s (.refl s)
  | securityViolation v => exact execSecurityViolation_keeps v s (.refl s)
  | withhold cause detail => exact execWithhold_keeps cause detail s (.refl s)
  | emberRaise e => exact execEmberRaise_keeps e s (.refl s)
  | rateWindowClose key => exact execRateWindowClose_keeps key s (.refl s)
  | platformEventSend p => exact execPlatformEventSend_keeps p s (.refl s)
  | platformEventResponse p ok => exact execPlatformEventResponse_keeps p ok s (.refl s)
  | platformEventTimeout p => exact execPlatformEventTimeout_keeps p s (.refl s)
  | setEndpointId p op eid => exact execSetEndpointId_keeps p op eid s (.refl s)
  | getEndpointId p => exact execGetEndpointId_keeps p s (.refl s)
  | getEndpointUuid p => exact execGetEndpointUuid_keeps p s (.refl s)
  | getMctpVersionSupport p type => exact execGetMctpVersionSupport_keeps p type s (.refl s)
  | getMessageTypeSupport p => exact execGetMessageTypeSupport_keeps p s (.refl s)
  | getTid p => exact execGetTid_keeps p s (.refl s)
  | getPldmVersion p type => exact execGetPldmVersion_keeps p type s (.refl s)
  | getPldmTypes p => exact execGetPldmTypes_keeps p s (.refl s)
  | getPldmCommands p type => exact execGetPldmCommands_keeps p type s (.refl s)
  | setEventReceiver p enable eid => exact execSetEventReceiver_keeps p enable eid s (.refl s)
  | getPdrRepositoryInfo p => exact execGetPdrRepositoryInfo_keeps p s (.refl s)
  | getPdr p handle => exact execGetPdr_keeps p handle s (.refl s)
  | getSensorReading p sensor => exact execGetSensorReading_keeps p sensor s (.refl s)
  | getStateSensorReadings p sensor => exact execGetStateSensorReadings_keeps p sensor s (.refl s)
  | pldmUnsupportedCommand p type cmd => exact execPldmUnsupportedCommand_keeps p type cmd s (.refl s)
  | counterLoRead c => exact execCounterLoRead_keeps c s (.refl s)
  | gvlHerrRead => exact execGvlHerrRead_keeps s (.refl s)
  | registerWrite by_ r v => exact execRegisterWrite_keeps by_ r v s (.refl s)
  | brdRstNRelease => exact execBrdRstNRelease_keeps s (.refl s)
  | sgmiiLinkChange up => exact execSgmiiLinkChange_keeps up s (.refl s)
  | i3cDynamicAddress a => exact execI3cDynamicAddress_keeps a s (.refl s)
  | mctpUnsupportedMessage p => exact execMctpUnsupportedMessage_keeps p s (.refl s)
  | gvlNoFlitTimeout => exact execGvlNoFlitTimeout_keeps s (.refl s)
  | privateSramUncorrectable keeper => exact execPrivateSramUncorrectable_keeps keeper s (.refl s)
  | crossbarFrame => exact execCrossbarFrame_keeps s (.refl s)

theorem inv_of_keeps {s t : State} (k : Keeps s t) (h : Inv s) : Inv t := by
  obtain ⟨hmem, hlow⟩ := h
  exact ⟨k.mem hmem, k.low hlow⟩

/-- A reset empties memory and ends the withhold (R290). -/
theorem inv_of_reset {i : Instr} {s t : State} (hi : isReset i = true) (h : exec i s = .next t) : Inv t := by
  obtain ⟨clk, -, rfl⟩ := exec_reset hi h
  exact ⟨rfl, fun hwheld => nomatch hwheld⟩

theorem inv_exec {i : Instr} {s t : State} (hs : Inv s) (h : exec i s = .next t) : Inv t := by
  cases hi : isReset i with
  | true => exact inv_of_reset hi h
  | false =>
    obtain ⟨u, hu, k⟩ := exec_keeps hi s
    obtain rfl : u = t := Host.Outcome.next.inj (hu.symm.trans h)
    exact inv_of_keeps k hs

theorem step_of_empty {s : State} (h : s.pending = []) : step s = .next s := by
  rw [step, h]

theorem step_of_front {s : State} {i : Instr} {rest : List Instr} (h : s.pending = i :: rest) :
    step s = exec i { s with pending := rest } := by
  rw [step, h]

/-- Settles O46: an empty queue idles, and the front command keeps the invariant (`inv_exec`), which says nothing of the queue. -/
theorem stepKeepsTheInvariant : Obligations.StepKeepsTheInvariant := by
  intro s t hs h
  cases hq : s.pending with
  | nil =>
    obtain rfl : s = t := Host.Outcome.next.inj ((step_of_empty hq).symm.trans h)
    exact hs
  | cons i rest =>
    rw [step_of_front hq] at h
    exact inv_exec (s := { s with pending := rest }) hs h

end Sys2Proof.Machine
end

section
/-! SUPPORT. Stacks (R264, R270, R273, R275): training, the overwrite of a context part, slice clearing and patrol, in their parts; and
the settlement of O5. -/

namespace Sys2Proof.Machine

theorem Frame.getStk {ps : List Part} {s t : State} (h : Frame ps s t) (n : Nat) (hp : .stks ∉ ps) : getStk t n = getStk s n :=
  congrArg (fun x => Tab.get Stack.init x n) (h .stks hp)

/-! ### The record of retired sconces (R482) -/

theorem addRecSconce_frame (n : Nat) (s : State) : Frame [.flash] s (addRecSconce n s) := by
  unfold addRecSconce writeSec
  exact (Frame.refl _ s).ite (.after (by decide) (frame_flash _ _) <| .after (by decide) (frame_flash _ _) (dropSec_frame _ s))

theorem mem_addRecSconce (n : Nat) {s : State} (h : s.flash.noRec = false) : n ∈ (addRecSconce n s).flash.sconces := by
  simp only [addRecSconce, writeSec, h, Bool.false_eq_true, if_false, retag]
  split
  · next hc => simpa using hc
  · simp

/-! ### The overwrite begins (R275) -/

theorem startOverwrite_frame (n : Nat) (s : State) : Frame [.stks, .scn] s (startOverwrite n s) :=
  .after (by decide) (updScn_frame _ _ _) ((updStk_frame s _ _).mono (by decide))

theorem getStk_startOverwrite (n : Nat) (s : State) :
    getStk (startOverwrite n s) n = { getStk s n with ctxk := 0, scrubBusy := true, remain := 377487360 } := by
  rw [startOverwrite, getStk_updScn, getStk_updStk, if_pos rfl]
  rfl

theorem getScn_startOverwrite (n : Nat) (s : State) : getScn (startOverwrite n s) n = { getScn s n with scrub := true } := by
  rw [startOverwrite, getScn_updScn, if_pos rfl, getScn_updStk]

/-! ### Training ends (R270, R292) -/

theorem trainCheck_frame (s : State) : Frame [.clk] s (trainCheck s) := (frame_clk s _).ite (Frame.refl _ s)

/-- A stack is up at one of its two rates, and its overwrite has begun. -/
def stackUp (n : Nat) (slow : Bool) (rep : Nat) (s : State) : State :=
  startOverwrite n (updStk n (fun k => { k with st := .ready, slow := slow, repairs := satOf 8 rep, sysk := true,
                                                stat := if slow then setBit k.stat 1 else k.stat }) s)

/-- A stack has failed, and its sconce is recorded. -/
def stackFailed (n rep : Nat) (s : State) : State :=
  addRecSconce n (updStk n (fun k => { k with st := .failed, repairs := satOf 8 rep }) s)

section
variable {n : Nat} {s : State} (h : (getStk s n).st = .training) (rep : Nat)
include h

theorem trainingDone_full : trainingDone n .full rep s = trainCheck (stackUp n false rep s) := if_pos h

theorem trainingDone_degraded :
    trainingDone n .degraded rep s = trainCheck (ember 0 0x0701 n none rep (stackUp n true rep s)) := if_pos h

theorem trainingDone_failed : trainingDone n .failed rep s = trainCheck (ember 4 0x0702 n none 0 (stackFailed n rep s)) :=
  if_pos h

end

theorem stackUp_frame (n : Nat) (slow : Bool) (rep : Nat) (s : State) : Frame [.stks, .scn] s (stackUp n slow rep s) :=
  .after (by decide) (startOverwrite_frame n _) ((updStk_frame s n _).mono (by decide))

theorem getStk_stackUp (n : Nat) (slow : Bool) (rep : Nat) (s : State) : getStk (stackUp n slow rep s) n =
    { getStk s n with st := .ready, slow := slow, repairs := satOf 8 rep, sysk := true, ctxk := 0, scrubBusy := true,
                      remain := 377487360, stat := if slow then setBit (getStk s n).stat 1 else (getStk s n).stat } := by
  rw [stackUp, getStk_startOverwrite, getStk_updStk, if_pos rfl]

theorem getScn_stackUp (n : Nat) (slow : Bool) (rep : Nat) (s : State) :
    getScn (stackUp n slow rep s) n = { getScn s n with scrub := true } := by
  rw [stackUp, getScn_startOverwrite, getScn_updStk]

theorem stackFailed_frame (n rep : Nat) (s : State) : Frame [.stks, .flash] s (stackFailed n rep s) :=
  .after (by decide) (addRecSconce_frame n _) ((updStk_frame s n _).mono (by decide))

theorem getStk_stackFailed (n rep : Nat) (s : State) :
    getStk (stackFailed n rep s) n = { getStk s n with st := .failed, repairs := satOf 8 rep } := by
  rw [stackFailed, (addRecSconce_frame n _).getStk n (by decide), getStk_updStk, if_pos rfl]

/-- The ember of a training's end and the start-up that goes on touch the clocks and what a post may touch. -/
theorem trainCheck_ember_frame (sev code n arg0 : Nat) (s : State) :
    Frame (.clk :: Part.posting) s (trainCheck (ember sev code n none arg0 s)) :=
  .after (by decide) (trainCheck_frame _) ((ember_frame sev code n none arg0 s).mono (by decide))

/-! ### The overwrite ends (R275, R401) -/

/-- The context part holds zero blocks, and the sconce has left SCRUB. -/
def overwritten (n : Nat) (s : State) : State :=
  let b := localBase + n * stackSize
  updScn n (fun x => { x with scrub := false, scrubCmd := none })
    (updStk n (fun k => { k with scrubBusy := false, remain := 0, overwritten := true })
      { s with mem := zeroRange s.mem b (b + ctxPart) })

theorem overwriteDone_busy {n : Nat} {s : State} (h : (getStk s n).scrubBusy = true) :
    overwriteDone n s = scrubCheck (getScn s n).scrubCmd (overwritten n s) := if_pos h

theorem overwritten_frame (n : Nat) (s : State) : Frame [.stks, .scn, .mem] s (overwritten n s) :=
  .after (by decide) (updScn_frame _ n _) <| .after (by decide) (updStk_frame _ n _) ((frame_mem s _).mono (by decide))

theorem getStk_overwritten (n : Nat) (s : State) :
    getStk (overwritten n s) n = { getStk s n with scrubBusy := false, remain := 0, overwritten := true } := by
  rw [overwritten, getStk_updScn, getStk_updStk, if_pos rfl]
  rfl

theorem getScn_overwritten (n : Nat) (s : State) :
    getScn (overwritten n s) n = { getScn s n with scrub := false, scrubCmd := none } := by
  rw [overwritten, getScn_updScn, if_pos rfl, getScn_updStk]
  rfl

/-! ### Slice clearing (R264) -/

/-- Memory after the context-owned regions of both slices of a sconce are cleared. -/
def slicesCleared (n : Nat) (m : Mem) : Mem :=
  let b := storeBase + 2 * n * sliceSize
  zeroRange (zeroRange m b (b + 0x700000)) (b + sliceSize) (b + sliceSize + 0x700000)

theorem sliceClear_scrubs {n : Nat} {s : State} (hscrub : (getScn s n).scrub = true) (hidle : (getStk s n).scrubBusy = false) :
    sliceClear n s = startOverwrite n { s with mem := slicesCleared n s.mem } :=
  if_pos ⟨hscrub, by rw [hidle]; rfl⟩

theorem memGet_slicesCleared (n : Nat) (m : Mem) (a : Nat) : memGet (slicesCleared n m) a =
    if (storeBase + 2 * n * sliceSize ≤ a ∧ a < storeBase + 2 * n * sliceSize + 0x700000) ∨
      (storeBase + (2 * n + 1) * sliceSize ≤ a ∧ a < storeBase + (2 * n + 1) * sliceSize + 0x700000) then 0 else memGet m a := by
  have hodd : storeBase + (2 * n + 1) * sliceSize = storeBase + 2 * n * sliceSize + sliceSize := by
    rw [Nat.add_mul, Nat.one_mul, Nat.add_assoc]
  rw [slicesCleared, memGet_zeroRange, memGet_zeroRange, hodd]
  split
  · next hsnd => rw [if_pos (.inr hsnd)]
  · next hsnd => exact if_congr (or_iff_left hsnd).symm rfl rfl

/-! ### Patrol (R273) -/

/-- A patrol pass as its stack counts it. -/
def patrolCounted (corrected : Nat) (bad : List Nat) (k : Stack) : Stack :=
  let st := setBit k.stat 0
  let st := if corrected = 0 then st else setBit st 2
  { k with passes := k.passes + 1, cor := satAdd k.cor corrected, unc := satAdd k.unc bad.length,
           stat := if bad = [] then st else setBit st 3 }

theorem patrolPass_ready {n : Nat} {s : State} (h : (getStk s n).st = .ready) (corrected : Nat) (bad : List Nat) :
    patrolPass n corrected bad s =
      bad.foldl (fun s b => ember 2 0x0703 n none b s) (updStk n (patrolCounted corrected bad) s) := if_pos h

theorem blockEmbers_frame (n : Nat) (bad : List Nat) (s : State) :
    Frame [.gvl, .mbx, .posted, .mgt] s (bad.foldl (fun s b => ember 2 0x0703 n none b s) s) :=
  frame_foldl (fun a b => ember_frame 2 0x0703 n none b a) bad s

/-! ### O5 -/

/-- Settles O5: every command is an equation for its case, and what it leaves is read off the units it writes and its frame. -/
theorem stacksTrainScrubAndPatrol : Obligations.StacksTrainScrubAndPatrol := by
  unfold Obligations.StacksTrainScrubAndPatrol
  refine ⟨?full, ?degraded, ?failed, ?overwrite, ?slices, ?patrol⟩
  case full =>
    intro s n rep h
    refine ⟨_, congrArg Host.Outcome.next (trainingDone_full h rep), ?_, ?_, ?_⟩
    · rw [(trainCheck_frame _).getStk _ (by decide), getStk_stackUp]
      rfl
    · rw [(trainCheck_frame _).getScn _ (by decide), getScn_stackUp]
    · exact .after (by decide) (trainCheck_frame _) ((stackUp_frame _ _ _ s).mono (by decide))
  case degraded =>
    intro s n rep h
    refine ⟨_, congrArg Host.Outcome.next (trainingDone_degraded h rep), ?_, ?_, ?_⟩
    · rw [(trainCheck_ember_frame _ _ _ _ _).getStk _ (by decide), getStk_stackUp]
      rfl
    · rw [(trainCheck_ember_frame _ _ _ _ _).getScn _ (by decide), getScn_stackUp]
    · exact .after (by decide) (trainCheck_ember_frame _ _ _ _ _) ((stackUp_frame _ _ _ s).mono (by decide))
  case failed =>
    intro s n rep h hrec
    refine ⟨_, congrArg Host.Outcome.next (trainingDone_failed h rep), ?_, ?_, ?_⟩
    · rw [(trainCheck_ember_frame _ _ _ _ _).getStk _ (by decide), getStk_stackFailed]
    · rw [(trainCheck_ember_frame _ _ _ _ _) .flash (by decide)]
      exact mem_addRecSconce n.val hrec
    · exact .after (by decide) (trainCheck_ember_frame _ _ _ _ _) ((stackFailed_frame _ _ s).mono (by decide))
  case overwrite =>
    intro s n h
    refine ⟨_, congrArg Host.Outcome.next (overwriteDone_busy h), fun a => ?_, ?_, ?_, ?_⟩
    · rw [(scrubCheck_frame _ _) .mem (by decide)]
      exact memGet_zeroRange s.mem _ _ a
    · rw [(scrubCheck_frame _ _).getStk _ (by decide), getStk_overwritten]
    · rw [(scrubCheck_frame _ _).getScn _ (by decide), getScn_overwritten]
    · exact .after (by decide) (scrubCheck_frame _ _) ((overwritten_frame _ s).mono (by decide))
  case slices =>
    intro s n hscrub hidle
    refine ⟨_, congrArg Host.Outcome.next (sliceClear_scrubs hscrub hidle), fun a => ?_, getStk_startOverwrite _ _, ?_, ?_⟩
    · rw [(startOverwrite_frame _ _) .mem (by decide)]
      exact memGet_slicesCleared n.val s.mem a
    · rw [getScn_startOverwrite, ← hscrub]
      rfl
    · exact .after (by decide) (startOverwrite_frame _ _) ((frame_mem s _).mono (by decide))
  case patrol =>
    intro s n corrected bad h
    refine ⟨_, congrArg Host.Outcome.next (patrolPass_ready h corrected bad), ?_, ?_⟩
    · rw [(blockEmbers_frame _ _ _).getStk _ (by decide), getStk_updStk, if_pos rfl]
      rfl
    · exact .after (by decide) (blockEmbers_frame _ _ _) ((updStk_frame s _ _).mono (by decide))

end Sys2Proof.Machine
end

section
/-! SUPPORT. Sconce ownership (R253, R482), the slot map (R255, R260) and the retirement of a sconce (R484), in their cases; and the
settlement of O6. -/

namespace Sys2Proof.Machine

/-! ### SCN_OWN (R253, R482) -/

/-- SCN_OWN is refused: a scrub runs, a lantern serves, or an owner would be set where the stack failed or the sconce is retired. -/
def ownRefused (s : State) (n : Nat) (v : W32) : Bool :=
  (getScn s n).scrub || anyService s n || (bitAt v 13 && ((getStk s n).st == .failed || (getScn s n).retired))

section
variable {n : Nat} {v : W32} {s : State}

theorem scnOwn_refused (h : ownRefused s n v = true) : scnOwn n v s = xbrCfgErr s := if_pos h

theorem scnOwn_sets (h : ownRefused s n v = false) (hv : bitAt v 13 = true) :
    scnOwn n v s = ownSconce n (Fin.ofNat 16 (fld v 12 9)) s :=
  (if_neg (Bool.eq_false_iff.1 h)).trans (if_pos hv)

theorem scnOwn_clears (h : ownRefused s n v = false) (hv : bitAt v 13 = false) : scnOwn n v s = freeSconce n s :=
  (if_neg (Bool.eq_false_iff.1 h)).trans (if_neg (Bool.eq_false_iff.1 hv))

end

theorem getScn_ownSconce (n : Nat) (i : CtxI) (s : State) : getScn (ownSconce n i s) n = { getScn s n with owner := some i } := by
  rw [(ownSconce_after n i s).getScn n (by decide), getScn_updScn, if_pos rfl]

theorem getScn_freeSconce (n : Nat) (s : State) : getScn (freeSconce n s) n = { getScn s n with owner := none } := by
  rw [(freeSconce_after n s).getScn n (by decide), getScn_updScn, if_pos rfl]

/-! ### The slot map (R255, R260) -/

/-- One of the four slots of an XBR_SLOTMAP register. -/
def slotField (v : W32) (i : Nat) : Option CtxI :=
  if bitAt v (8 * i + 7) then none else some (Fin.ofNat 16 (fld v (8 * i + 3) (8 * i)))

theorem getD_slotFields (v : W32) {i : Nat} (hi : i < 4) : (slotFields v).getD i none = slotField v i := by
  rw [slotFields, List.getD_eq_getElem?_getD, List.getElem?_map, List.getElem?_range hi]
  rfl

/-- A slot's four bits are below sixteen. -/
theorem fld_slot_mod (v : W32) (i : Nat) : fld v (8 * i + 3) (8 * i) % 16 = fld v (8 * i + 3) (8 * i) := by
  have h4 : 8 * i + 3 + 1 - 8 * i = 4 := by omega
  rw [fld, h4]
  exact Nat.mod_mod _ 16

/-- The map that waits once a register of it is written. -/
def slotsWritten (k : Nat) (v : W32) (m : List (Option CtxI)) : List (Option CtxI) :=
  (withPos 0 m).map fun p => if p.1 / 4 = k then (slotFields v).getD (p.1 % 4) none else p.2

/-- A register that names a context slot without a sconce is refused. -/
theorem slotmapWrite_refused {v : W32} {i : Nat} {s : State} (hi : i < 4) (hv : bitAt v (8 * i + 7) = false)
    (hs : sconcesOf s (fld v (8 * i + 3) (8 * i)) = []) (k : Nat) : slotmapWrite k v s = xbrCfgErr s := by
  refine if_pos (List.any_eq_true.2 ⟨slotField v i, List.mem_map_of_mem (List.mem_range.2 hi), ?_⟩)
  simp [slotField, hv, fld_slot_mod, hs]

theorem slotmapWrite_taken {v : W32} {s : State}
    (h : ∀ i, i < 4 → bitAt v (8 * i + 7) = true ∨ sconcesOf s (fld v (8 * i + 3) (8 * i)) ≠ []) (k : Nat) :
    slotmapWrite k v s = { s with xbr := { s.xbr with slotNext := some (slotsWritten k v (slotPending s.xbr)) } } := by
  refine if_neg fun hany => ?_
  obtain ⟨f, hf, hnone⟩ := List.any_eq_true.1 hany
  obtain ⟨i, hi, rfl⟩ := List.mem_map.1 hf
  rcases h i (List.mem_range.1 hi) with hv | hs
  · simp [hv] at hnone
  · cases hv : bitAt v (8 * i + 7) <;> simp [hv, fld_slot_mod, hs] at hnone

theorem length_slotsWritten (k : Nat) (v : W32) (m : List (Option CtxI)) : (slotsWritten k v m).length = m.length := by
  rw [slotsWritten, map_withPos _ none, List.length_map, List.length_range]

theorem getElem?_slotsWritten (k : Nat) (v : W32) {m : List (Option CtxI)} {i : Nat} (hi : i < m.length) :
    (slotsWritten k v m)[i]? = if i / 4 = k then some (slotField v (i % 4)) else m[i]? := by
  rw [slotsWritten, map_withPos _ none, List.getElem?_map, List.getElem?_range hi, Option.map_some, Nat.zero_add]
  split
  · rw [getD_slotFields v (Nat.mod_lt i (by decide))]
  · rw [List.getD_eq_getElem?_getD, List.getElem?_eq_getElem hi, Option.getD_some]

theorem drainBroadcasts_idle {s : State} (h : s.xbr.waiting = []) : drainBroadcasts s = s := by
  rw [drainBroadcasts, h, List.foldl_nil, ← h]

/-! ### Retirement (R484) -/

/-- Suspect lanterns in service of a sconce go to the reserves there are. -/
def suspectsMoved (n : Nat) (s : State) : State :=
  ((lansOf n).filter (fun l => (getLan s l).suspect && (getLan s l).st == .service)).foldl
    (fun s l => match (getLan s l).llan, heldFree s n with
      | some ll, some _ => remapLan ll (getLan s l).epoch [] s
      | _, _ => s) s

theorem retireSconce_marks {n : Nat} {s : State} (hraised : (getScn s n).raised = 3) (hsusp : 4 ≤ suspCount s n)
    (hretire : (getScn s n).retire = false) : retireSconce n s =
      ember 2 0x0F01 n none 0 (addRecSconce n (updScn n (fun x => { x with retire := true }) (suspectsMoved n s))) :=
  if_pos ⟨hraised, hsusp, by rw [hretire]; rfl⟩

/-- Without a reserve nothing moves. -/
theorem suspectsMoved_none {n : Nat} {s : State} (h : heldFree s n = none) : suspectsMoved n s = s := by
  refine List.foldl_fixed' (fun l => ?_) _
  rw [h]
  cases (getLan s l).llan <;> rfl

theorem ember_addRecSconce_frame (sev code n arg0 : Nat) (s : State) :
    Frame (.flash :: Part.posting) s (ember sev code n none arg0 (addRecSconce n s)) :=
  .after (by decide) (ember_frame sev code n none arg0 _) ((addRecSconce_frame n s).mono (by decide))

/-! ### O6 -/

/-- Settles O6: every command is an equation for its case; a sconce is read over its lanterns' and its stack's changes, and a slot of
the map at its place in the register. -/
theorem sconcesAndCrossbar : Obligations.SconcesAndCrossbar := by
  unfold Obligations.SconcesAndCrossbar
  refine ⟨?sets, ?clears, ?refused, ?slots, ?slotsRefused, fun s => rfl, ?frameIdle, ?stepDown, ?retires, ?retiresInPlace⟩
  case sets =>
    intro s n v hscrub hserve hv hstk hretired
    have h : ownRefused s n.val v = false := by simp [ownRefused, hscrub, hserve, hstk, hretired]
    exact ⟨_, congrArg Host.Outcome.next (scnOwn_sets h hv), getScn_ownSconce _ _ s, (ownSconce_frame _ _ s).mono (by decide)⟩
  case clears =>
    intro s n v hscrub hserve hv
    have h : ownRefused s n.val v = false := by simp [ownRefused, hscrub, hserve, hv]
    exact ⟨_, congrArg Host.Outcome.next (scnOwn_clears h hv), getScn_freeSconce _ s, (freeSconce_frame _ s).mono (by decide)⟩
  case refused =>
    intro s n v h
    refine congrArg Host.Outcome.next (scnOwn_refused ?_)
    simpa [ownRefused, or_assoc] using h
  case slots =>
    intro s k v h
    exact ⟨_, congrArg Host.Outcome.next (slotmapWrite_taken h k.val), length_slotsWritten _ _ _, fun i hi =>
      getElem?_slotsWritten k.val v ((length_slotsWritten k.val v _).symm ▸ hi)⟩
  case slotsRefused =>
    intro s k v i hi hv hs
    exact congrArg Host.Outcome.next (slotmapWrite_refused hi hv hs k.val)
  case frameIdle =>
    intro s h
    exact congrArg Host.Outcome.next (drainBroadcasts_idle h)
  case stepDown =>
    intro s n h
    exact congrArg Host.Outcome.next (if_pos h)
  case retires =>
    intro s n hraised hsusp hretire
    exact ⟨suspectsMoved n.val s, congrArg Host.Outcome.next (retireSconce_marks hraised hsusp hretire), rfl⟩
  case retiresInPlace =>
    intro s n hraised hsusp hretire hfree hrec
    have hexec := retireSconce_marks hraised hsusp hretire
    rw [suspectsMoved_none hfree] at hexec
    refine ⟨_, congrArg Host.Outcome.next hexec, ?_, ?_, ?_⟩
    · rw [(ember_addRecSconce_frame _ _ _ _ _).getScn _ (by decide), getScn_updScn, if_pos rfl]
    · rw [(ember_frame _ _ _ _ _ _) .flash (by decide)]
      exact mem_addRecSconce n.val hrec
    · exact .after (by decide) (ember_addRecSconce_frame _ _ _ _ _) ((updScn_frame s _ _).mono (by decide))

end Sys2Proof.Machine
end

section
/-! SUPPORT. The host window (R363, R364, R368, R371, R373): the place an access reaches, and each kind of message by its case; and the
settlement of O37. -/

namespace Sys2Proof.Machine

/-! ### The place of an access (R268, R270, R363) -/

theorem hostPlace_reaches {m : GMsg} {rd wr : Bool} {p : Nat} {s : State} (hfw : m.fw = false)
    (hrd : rd = true → admits s (.host m.ctx.toNat) false (blockOf m * 256) = true)
    (hwr : wr = true → admits s (.host m.ctx.toNat) true (blockOf m * 256) = true) (hp : placeOf s (blockOf m * 256) = some p)
    (hready : placeReady s p = true) (hstep : storeBase ≤ p ∨ 6 ≤ s.clk.step) (hgate : s.clk.gateE = false) :
    hostPlace m rd wr s = (s, some p) := by
  have hwindow : ((rd && !admits s (.host m.ctx.toNat) false (blockOf m * 256)) ||
      (wr && !admits s (.host m.ctx.toNat) true (blockOf m * 256))) = false := by
    simp only [Bool.or_eq_false_iff, Bool.and_eq_false_imp, Bool.not_eq_false']
    exact ⟨hrd, hwr⟩
  have hup : (!placeReady s p || (decide (p < storeBase) && decide (s.clk.step < 6))) = false := by
    simp only [hready, Bool.not_true, Bool.false_or, Bool.and_eq_false_iff, decide_eq_false_iff_not]
    omega
  have hopen : hostGated s p = false := by rw [hostGated, hgate, Bool.false_and]
  simp [hostPlace, hfw, hwindow, hp, hup, hopen]

/-- Looking a place up writes no memory. -/
theorem hostPlace_mem (m : GMsg) (rd wr : Bool) (s : State) : (hostPlace m rd wr s).1.mem = s.mem := by
  unfold hostPlace
  dsimp only
  split
  · rfl
  · split
    · rfl
    · split
      · rfl
      · split
        · rfl
        · split <;> rfl

theorem hostRefuse_frame (m : GMsg) (st : Byte) (s : State) : Frame [.gvl, .mbx, .posted, .mgt] s (hostRefuse m st s) :=
  .after (by decide) (ember_frame _ _ _ _ _ _) ((frame_gvl s _).mono (by decide))

/-! ### Recalls hold messages (R368) -/

theorem recalling_of_recall {s : State} {k : Nat} {e : DirEnt} (h : dirGet s k = some e) (he : e.st = .r) :
    recalling s k = true := by
  simp [recalling, h, he]

theorem holdMsg_entry {s : State} {k : Nat} {e : DirEnt} (h : dirGet s k = some e) (m : GMsg) :
    holdMsg k m s = dirPut k (some { e with held := e.held ++ [m] }) s := by
  rw [holdMsg, h]

/-! ### Reads (R363, R368) -/

section
variable (m : GMsg) {s w : State} {p : Nat}

theorem hostRead_active (h : s.gvl.st = .active) : hostRead m s = serveRead m s := by
  simp [hostRead, h]

theorem hostRead_withheld (h : s.gvl.st = .withheld) : hostRead m s = answerStatus 0x42 m 4 s := if_pos h

theorem serveRead_held (h : recalling s (blockOf m) = true) : serveRead m s = holdMsg (blockOf m) m s := if_pos h

section
variable (h : recalling s (blockOf m) = false)
include h

theorem serveRead_refused (hp : hostPlace m true (m.opc == 3) s = (w, none)) :
    serveRead m s = answerStatus 0x42 m 1 (hostRefuse m 1 w) := by
  simp only [serveRead, h, hp, Bool.false_eq_true, if_false]

theorem serveRead_plain (ho : m.opc = 1) (hp : hostPlace m true false s = (w, some p)) :
    serveRead m s = answerBlock m p w := by
  simp [serveRead, h, ho, hp]

theorem serveRead_shared (ho : m.opc = 2) (hp : hostPlace m true false s = (w, some p)) :
    serveRead m s = dirRead m .s p w := by
  simp [serveRead, h, ho, hp]

theorem serveRead_exclusive (ho : m.opc = 3) (hp : hostPlace m true true s = (w, some p)) :
    serveRead m s = dirRead m .x p w := by
  simp [serveRead, h, ho, hp]

end

theorem dirRead_new (st : DirSt) (p : Nat) (hd : dirGet w (blockOf m) = none) (hset : (dirSet w (blockOf m)).length < 16) :
    dirRead m st p w = answerBlock m p (dirAlloc (blockOf m) st w) := by
  simp [dirRead, hd, hset]

theorem dirRead_exclusive {e : DirEnt} (p : Nat) (hd : dirGet w (blockOf m) = some e) :
    dirRead m .x p w = answerBlock m p (dirPut (blockOf m) (some { e with st := .x }) w) := by
  simp [dirRead, hd]

/-! ### Writes and evictions (R364, R368) -/

/-- The block is written where its code is right or the endpoint computes it; a wrong code is refused. -/
def hostWritten (m : GMsg) (p : Nat) (s : State) : State :=
  if (m.opc == 5 && m.cg) || m.word == crc32c m.data then { s with mem := storeBytes s.mem p m.data } else hostRefuse m 2 s

theorem hostWritten_good (h : m.opc = 5 ∧ m.cg = true ∨ m.word = crc32c m.data) :
    hostWritten m p s = { s with mem := storeBytes s.mem p m.data } :=
  if_pos (by simpa using h)

theorem hostWritten_computed (ho : m.opc = 5) (h : m.cg = true ∨ m.word = crc32c m.data) :
    hostWritten m p s = { s with mem := storeBytes s.mem p m.data } :=
  hostWritten_good m (h.imp_left fun hcg => ⟨ho, hcg⟩)

theorem hostWritten_bad (hcg : m.cg = false) (hword : m.word ≠ crc32c m.data) : hostWritten m p s = hostRefuse m 2 s :=
  if_neg (by simp [hcg, hword])

section
variable (h : recalling s (blockOf m) = false)
include h

theorem serveWrite_untracked (hp : hostPlace m false true s = (w, some p)) (hd : dirGet (hostWritten m p w) (blockOf m) = none) :
    serveWrite m s = hostWritten m p w := by
  rw [hostWritten] at hd ⊢
  simp only [serveWrite, h, hp, Bool.false_eq_true, if_false, hd]

theorem serveWrite_back {e : DirEnt} (hp : hostPlace m false true s = (w, some p)) (ho : m.opc = 7)
    (hd : dirGet (hostWritten m p w) (blockOf m) = some e) (he : e.st = .x) :
    serveWrite m s = dirPut (blockOf m) none (hostWritten m p w) := by
  rw [hostWritten] at hd ⊢
  simp only [serveWrite, h, hp, Bool.false_eq_true, if_false, hd]
  exact if_pos ⟨ho, he⟩

theorem serveEvict_tracked {e : DirEnt} (hp : hostPlace m true false s = (w, some p)) (hd : dirGet w (blockOf m) = some e) :
    serveEvict m s = if (m.opc = 8 ∧ e.st = .x) ∨ (m.opc = 9 ∧ e.st = .s) then dirPut (blockOf m) none w else w := by
  simp only [serveEvict, h, hp, Bool.false_eq_true, if_false, hd]

end

/-! ### Registers (R363, R371, R373) -/

theorem hostRegRead_answers {t : State} {v : W32} (hst : s.gvl.st = .active ∨ s.gvl.st = .withheld) (hfw : m.fw = false)
    (h : readDiag m.addr.toNat s = some (v, t)) :
    hostRegRead m s = gvlRsp { gmsg 0x41 with tag := m.tag, ctx := m.ctx, addr := m.addr, word := v } t := by
  have hflits : gvlFlits s = true := by simpa [gvlFlits] using hst
  simp [hostRegRead, hflits, hfw, h]

theorem hostRegWrite_rings {t : State} (hst : s.gvl.st = .active) (hfw : m.fw = false)
    (h : doorbell m.addr.toNat m.word s = some t) :
    hostRegWrite m s = t := by
  simp [hostRegWrite, hst, hfw, h]

theorem hostRegWrite_refused (hst : s.gvl.st = .active) (hfw : m.fw = false) (h : doorbell m.addr.toNat m.word s = none) :
    hostRegWrite m s = hostRefuse m 1 s := by
  simp [hostRegWrite, hst, hfw, h]

end

/-! ### The commands -/

section
variable {s : State} (h : s.gvl.st = .active) (m : GMsg)
include h

/-! While the link is ACTIVE a message is served under its own opcode. -/

theorem exec_hrd_active : exec (.hrd m) s = .next (serveRead { m with opc := 1 } s) :=
  congrArg Host.Outcome.next (hostRead_active _ h)
theorem exec_hrds_active : exec (.hrds m) s = .next (serveRead { m with opc := 2 } s) :=
  congrArg Host.Outcome.next (hostRead_active _ h)
theorem exec_hrdx_active : exec (.hrdx m) s = .next (serveRead { m with opc := 3 } s) :=
  congrArg Host.Outcome.next (hostRead_active _ h)
theorem exec_hwr_active : exec (.hwr m) s = .next (serveWrite { m with opc := 5 } s) := congrArg Host.Outcome.next (if_pos h)
theorem exec_hwb_active : exec (.hwb m) s = .next (serveWrite { m with opc := 7 } s) := congrArg Host.Outcome.next (if_pos h)
theorem exec_hevx_active : exec (.hevx m) s = .next (serveEvict { m with opc := 8 } s) := congrArg Host.Outcome.next (if_pos h)
theorem exec_hevs_active : exec (.hevs m) s = .next (serveEvict { m with opc := 9 } s) := congrArg Host.Outcome.next (if_pos h)

end

/-- After a withhold every read is answered WITHHELD and every write is discarded (R373). -/
theorem hostWindow_withheld {s : State} (h : s.gvl.st = .withheld) (m : GMsg) :
    exec (.hrd m) s = .next (answerStatus 0x42 { m with opc := 1 } 4 s) ∧
      exec (.hrds m) s = .next (answerStatus 0x42 { m with opc := 2 } 4 s) ∧
      exec (.hrdx m) s = .next (answerStatus 0x42 { m with opc := 3 } 4 s) ∧ exec (.hwr m) s = .next s ∧ exec (.hwrr m) s = .next s ∧
      exec (.hwb m) s = .next s ∧ exec (.hevx m) s = .next s ∧ exec (.hevs m) s = .next s := by
  have hread (k : GMsg) : Host.Outcome.next (hostRead k s) = (.next (answerStatus 0x42 k 4 s) : Out) :=
    congrArg Host.Outcome.next (hostRead_withheld k h)
  have hdrop (t : State) : Host.Outcome.next (if s.gvl.st = .active then t else s) = (.next s : Out) :=
    congrArg Host.Outcome.next (if_neg (by simp [h]))
  exact ⟨hread _, hread _, hread _, hdrop _, hdrop _, hdrop _, hdrop _, hdrop _⟩

/-! ### O37 -/

/-- Settles O37: a message of an active link is served, by the lemma about its case; the blocks it reads and writes lie where
`hostPlace` put them. -/
theorem hostWindowRequests : Obligations.HostWindowRequests := by
  unfold Obligations.HostWindowRequests
  refine ⟨?place, ?plain, ?shared, ?exclusive, ?refused, ?held, ?write, ?badCode, ?back, ?evictX, ?evictS, ?diag, ?rings, ?noRing,
    ?timeout, fun s m h => hostWindow_withheld h m⟩
  case place => exact fun s m rd wr p hfw hrd hwr hp hready hstep hgate => hostPlace_reaches hfw hrd hwr hp hready hstep hgate
  case plain =>
    intro s w m p hst hidle hp
    rw [exec_hrd_active hst, serveRead_plain { m with opc := 1 } hidle rfl hp]
    rfl
  case shared =>
    intro s w m p hst hidle hp hd hset
    rw [exec_hrds_active hst, serveRead_shared { m with opc := 2 } hidle rfl hp, dirRead_new { m with opc := 2 } _ _ hd hset]
    rfl
  case exclusive =>
    intro s w m p e hst hidle hp hd
    rw [exec_hrdx_active hst, serveRead_exclusive { m with opc := 3 } hidle rfl hp, dirRead_exclusive { m with opc := 3 } _ hd]
    rfl
  case refused =>
    intro s w m hst hidle hp
    rw [exec_hrd_active hst, serveRead_refused { m with opc := 1 } hidle hp]
  case held =>
    intro s m e hst hd he
    rw [exec_hrdx_active hst, serveRead_held { m with opc := 3 } (recalling_of_recall hd he)]
    exact congrArg Host.Outcome.next (holdMsg_entry hd _)
  case write =>
    intro s w m p hst hidle hp hcode hd
    have hw : hostWritten { m with opc := 5 } p w = { w with mem := storeBytes w.mem p m.data } := hostWritten_computed _ rfl hcode
    rw [exec_hwr_active hst, serveWrite_untracked { m with opc := 5 } hidle hp (by rw [hw]; exact hd), hw]
  case badCode =>
    intro s w m p hst hidle hp hcg hword hd
    have hw : hostWritten { m with opc := 5 } p w = hostRefuse { m with opc := 5 } 2 w := hostWritten_bad _ hcg hword
    refine ⟨?_, ?_⟩
    · rw [exec_hwr_active hst, serveWrite_untracked { m with opc := 5 } hidle hp (by rw [hw]; exact hd), hw]
    · have hmem := hostPlace_mem { m with opc := 5 } false true s
      rw [hp] at hmem
      exact ((hostRefuse_frame _ _ w) .mem (by decide)).trans hmem
  case back =>
    intro s w m p e hst hidle hp hword hd he
    have hw : hostWritten { m with opc := 7 } p w = { w with mem := storeBytes w.mem p m.data } := hostWritten_good _ (.inr hword)
    rw [exec_hwb_active hst, serveWrite_back { m with opc := 7 } hidle hp rfl (by rw [hw]; exact hd) he, hw]
    rfl
  case evictX =>
    intro s w m p e hst hidle hp hd
    rw [exec_hevx_active hst, serveEvict_tracked { m with opc := 8 } hidle hp hd]
    exact congrArg Host.Outcome.next (if_congr (by simp) rfl rfl)
  case evictS =>
    intro s w m p e hst hidle hp hd
    rw [exec_hevs_active hst, serveEvict_tracked { m with opc := 9 } hidle hp hd]
    exact congrArg Host.Outcome.next (if_congr (by simp) rfl rfl)
  case diag => exact fun s t m v hst hfw h => congrArg Host.Outcome.next (hostRegRead_answers m hst hfw h)
  case rings => exact fun s t m hst hfw h => congrArg Host.Outcome.next (hostRegWrite_rings m hst hfw h)
  case noRing => exact fun s m hst hfw h => congrArg Host.Outcome.next (hostRegWrite_refused m hst hfw h)
  case timeout =>
    intro s tag k e m isIt h
    refine congrArg Host.Outcome.next ?_
    rw [hostReadTimeout, h]

end Sys2Proof.Machine
end

section
/-! SUPPORT. Resets (R290, R291) as one step, and what every step keeps that is no reset; the settlement of O1, O44, O47 and O48. -/

namespace Sys2Proof.Machine

/-! ### What a reset leaves (R40, R68, R290) -/

/-- Every unit is at its reset record but the clocks, which each reset writes itself. -/
theorem atReset_cleared (s : State) (clk : Clk) : AtReset s { cleared s with clk := clk } :=
  ⟨rfl, rfl, rfl, rfl, rfl, rfl, rfl, rfl, rfl, rfl, rfl, rfl, rfl, rfl, rfl, rfl, rfl, rfl, rfl, rfl, rfl, rfl, rfl, rfl, rfl, rfl,
    getWick_cleared s⟩

/-- The clocks after a die reset (R290, R291, R520). -/
theorem dieReset_clk (src : RstSrc) (s : State) : (dieReset src s).clk = { Clk.init with
    lock := s.clk.lock, aclk := s.clk.aclk, rstCount := satInc s.clk.rstCount,
    rstCause := (match src with | .brdRst => 1 | .sysReset => 2), pwrgd := s.clk.pwrgd, active := s.clk.active,
    brdRstN := (match src with | .brdRst => false | .sysReset => s.clk.brdRstN),
    step := if s.clk.lock = false then 1 else if src = .brdRst ∨ s.clk.brdRstN = false then 2 else 3 } := by
  cases src <;> cases hl : s.clk.lock <;> cases hb : s.clk.brdRstN <;> simp [dieReset, cleared, State.reset, hl, hb]

/-- Settles O1: both resets put every unit at its reset record (`atReset_cleared`) and write the clocks themselves. -/
theorem resetsClearTheDie : Obligations.ResetsClearTheDie :=
  ⟨fun s => ⟨cleared s, rfl, rfl, atReset_cleared s Clk.init⟩,
    fun s src => ⟨dieReset src s, rfl, dieReset_clk src s, atReset_cleared s _⟩⟩

/-- A reset releases WHELD_N and ends the withhold (R290, R524). -/
theorem reset_ends_withhold (s : State) {i : Instr} (hi : isReset i = true) :
    ∃ t, exec i s = .next t ∧ t.snuf.wheld = false ∧ t.clk.wheldLow = false := by
  cases i <;> cases hi
  case powerOnReset => exact ⟨cleared s, rfl, rfl, rfl⟩
  case dieReset src => exact ⟨dieReset src s, rfl, rfl, rfl⟩

/-- Settles O44: at reset no byte of memory is listed and nothing is withheld. -/
theorem invariantAtReset : Obligations.InvariantAtReset :=
  ⟨⟨rfl, fun hwheld => nomatch hwheld⟩, rfl, rfl⟩

/-! ### One step that is no reset -/

/-- A step whose front command is no reset keeps what no reset ends. -/
theorem step_keeps {s t : State} {i : Instr} {rest : List Instr} (hq : s.pending = i :: rest) (hi : isReset i = false)
    (h : step s = .next t) : Keeps { s with pending := rest } t := by
  obtain ⟨u, hu, hk⟩ := exec_keeps hi { s with pending := rest }
  obtain rfl : u = t := Host.Outcome.next.inj (hu.symm.trans ((step_of_front hq).symm.trans h))
  exact hk

/-- Settles O47: what every step but a reset keeps includes a withhold and the pin (`step_keeps`); both resets clear them. -/
theorem withheldUntilReset : Obligations.WithheldUntilReset :=
  ⟨fun _ _ _ _ hq hi hwheld h => (step_keeps hq hi h).snuf hwheld,
    fun _ _ _ _ hq hi hlow h => (step_keeps hq hi h).lown hlow,
    fun s _ hi => reset_ends_withhold s hi⟩

/-- A reset leaves board flash, and with it the floors, as it is (R290, R459). -/
theorem reset_flash {i : Instr} {s t : State} (hi : isReset i = true) (h : exec i s = .next t) : t.flash = s.flash := by
  obtain ⟨clk, -, rfl⟩ := exec_reset hi h
  rfl

/-- A reset other than the power-on reset is a die reset. -/
theorem eq_dieReset_of_isReset {i : Instr} (hi : isReset i = true) (hpor : i ≠ .powerOnReset) : ∃ src, i = .dieReset src := by
  cases i <;> cases hi
  case powerOnReset => exact absurd rfl hpor
  case dieReset src => exact ⟨src, rfl⟩

/-- No step lowers a floor (R459): an empty queue idles, a reset leaves board flash, and every other command keeps both floors. -/
theorem step_floors {s t : State} (h : step s = .next t) :
    s.flash.fwFloor.toNat ≤ t.flash.fwFloor.toNat ∧ s.flash.cfgFloor.toNat ≤ t.flash.cfgFloor.toNat := by
  cases hq : s.pending with
  | nil =>
    obtain rfl : s = t := Host.Outcome.next.inj ((step_of_empty hq).symm.trans h)
    exact ⟨le_rfl, le_rfl⟩
  | cons i rest =>
    cases hi : isReset i with
    | true =>
      have hf : t.flash = s.flash := reset_flash (s := { s with pending := rest }) hi ((step_of_front hq).symm.trans h)
      rw [hf]
      exact ⟨le_rfl, le_rfl⟩
    | false =>
      have hk := step_keeps hq hi h
      exact ⟨hk.fw, hk.cfg⟩

/-- Local time never runs back but at a power-on reset (R279, R290): a die reset keeps it. -/
theorem step_aclk {s t : State} {i : Instr} {rest : List Instr} (hq : s.pending = i :: rest) (hpor : i ≠ .powerOnReset)
    (h : step s = .next t) : s.clk.aclk ≤ t.clk.aclk := by
  cases hi : isReset i with
  | true =>
    obtain ⟨src, rfl⟩ := eq_dieReset_of_isReset hi hpor
    cases (step_of_front hq).symm.trans h
    exact le_rfl
  | false => exact (step_keeps hq hi h).aclk

/-- Settles O48. -/
theorem floorsAndLocalTimeNeverFall : Obligations.FloorsAndLocalTimeNeverFall :=
  ⟨fun _ _ h => step_floors h, fun _ _ _ _ hq hpor h => step_aclk hq hpor h⟩

end Sys2Proof.Machine
end

section
/-! SUPPORT. Clock division and the seam gates (R199, R280, R281, R282, R285, R320), and the settlement of O4. -/

namespace Sys2Proof.Machine

/-! ### CLK_HALFn (R280, R282) -/

/-- A divider field of CLK_HALFn asks for a gated clock. -/
theorem divider_gated (v : W32) (lo : Nat) : (BitVec.ofNat 2 (fld v (lo + 1) lo) == 3) = decide (fld v (lo + 1) lo = 3) := by
  have hlt : fld v (lo + 1) lo < 4 := by
    rw [fld, show lo + 1 + 1 - lo = 2 by omega]
    exact Nat.mod_lt _ (by decide)
  refine Bool.eq_iff_iff.mpr ?_
  rw [beq_iff_eq, decide_eq_true_iff, ← BitVec.toNat_inj, BitVec.toNat_ofNat, Nat.mod_eq_of_lt hlt]
  rfl

/-- A write of CLK_HALFn is refused for a gated west NCLK or for a gated ACLK under a firing slot, else it asks for both dividers. -/
theorem halfWrite_eq (east : Bool) (v : W32) (s : State) : halfWrite east v s =
    if (east = false ∧ fld v 5 4 = 3) ∨ (fld v 1 0 = 3 ∧ halfFiring s east = true) then
      { s with clk := { s.clk with cfgErr := true } }
    else { s with clk := dividersAsked east (BitVec.ofNat 2 (fld v 1 0)) (BitVec.ofNat 2 (fld v 5 4)) s.clk } := by
  unfold halfWrite dividersAsked
  dsimp only
  rw [divider_gated v 4, divider_gated v 0]
  refine if_congr (by simp) rfl ?_
  cases east <;> rfl

/-! ### The common boundary (R281) -/

/-- The requested dividers of both halves come into force. -/
def dividersShown (s : State) : State :=
  { s with clk := { s.clk with acE := s.clk.aE, ncE := s.clk.nE, acW := s.clk.aW, ncW := s.clk.nW } }

/-- While the east half has an NCLK, the credits held for it are owed again (R320). -/
def creditsFreed (s : State) : State :=
  if s.clk.nE = 3 then s else (List.range 32).foldl (fun s k => updLink k freeCredits s) s

/-- The lanterns of a half whose ACLK divider changes give up their trim under way (R199). -/
def trimsGivenUp (dE dW : Bool) (s : State) : State :=
  (keysOf s.lans).foldl (fun s l => if (if eastSconce (sconceOf l) then dE else dW) then dividerTrim l s else s) s

/-- The boundary before jobs and calibrations start again. -/
def boundaryCrossed (s : State) : State :=
  trimsGivenUp (s.clk.aE != s.clk.acE) (s.clk.aW != s.clk.acW) (creditsFreed (dividersShown s))

theorem dividerApply_boundary {s : State} (h : nowF s % 12 = 0) : dividerApply s = kickAll (boundaryCrossed s) := by
  unfold dividerApply
  rw [if_pos h]
  rfl

theorem creditsFreed_frame (s : State) : Frame [.fab] s (creditsFreed s) :=
  (Frame.refl _ s).ite (frame_foldl (fun a k => updLink_frame a k _) _ s)

theorem dividerTrim_frame (l : Nat) (s : State) : Frame [.wicks, .lans, .lmp] s (dividerTrim l s) := by
  have hkill : Frame [.wicks, .lans, .lmp] s (killProbes l trimKind s) := (frame_lmp s _).mono (by decide)
  unfold dividerTrim
  dsimp only
  refine Frame.ite ?_ (.after (by decide) (updLan_frame _ l _) hkill)
  split
  · exact .after (by decide) (updLan_frame _ l _) hkill
  · exact .after (by decide) (updLan_frame _ l _) (.after (by decide) (updWick_frame _ l _ _) hkill)

theorem trimsGivenUp_frame (dE dW : Bool) (s : State) : Frame [.wicks, .lans, .lmp] s (trimsGivenUp dE dW s) :=
  frame_foldl (fun a l => (dividerTrim_frame l a).ite (Frame.refl _ a)) _ s

/-- Where no ACLK divider changes, no trim is given up. -/
theorem trimsGivenUp_none (s : State) : trimsGivenUp false false s = s := by
  have hturn (a : State) (l : Nat) : (if (if eastSconce (sconceOf l) then false else false) = true then dividerTrim l a else a) = a := by
    simp
  unfold trimsGivenUp
  simp only [hturn]
  exact List.foldl_fixed _

theorem boundaryCrossed_frame (s : State) : Frame [.clk, .wicks, .lans, .fab, .lmp] s (boundaryCrossed s) :=
  .after (by decide) (trimsGivenUp_frame _ _ _) <| .after (by decide) (creditsFreed_frame _) ((frame_clk s _).mono (by decide))

theorem boundaryCrossed_clk (s : State) : (boundaryCrossed s).clk =
    { s.clk with acE := s.clk.aE, ncE := s.clk.nE, acW := s.clk.aW, ncW := s.clk.nW } :=
  (trimsGivenUp_frame _ _ _ .clk (by decide)).trans (creditsFreed_frame (dividersShown s) .clk (by decide))

/-- Where the ACLK dividers in force are the requested ones, lanterns and wicks are as before. -/
theorem boundaryCrossed_same_aclk {s : State} (hE : s.clk.aE = s.clk.acE) (hW : s.clk.aW = s.clk.acW) :
    (boundaryCrossed s).lans = s.lans ∧ (boundaryCrossed s).wicks = s.wicks := by
  have hframe := creditsFreed_frame (dividersShown s)
  have hcross : boundaryCrossed s = creditsFreed (dividersShown s) := by
    rw [boundaryCrossed, hE, hW, bne_self_eq_false, bne_self_eq_false, trimsGivenUp_none]
  rw [hcross]
  exact ⟨hframe .lans (by decide), hframe .wicks (by decide)⟩

/-- A gated east NCLK leaves the links as they are. -/
theorem boundaryCrossed_gated {s : State} (h : s.clk.nE = 3) : (boundaryCrossed s).fab = s.fab := by
  have hfree : creditsFreed (dividersShown s) = dividersShown s := if_pos h
  rw [boundaryCrossed, hfree]
  exact trimsGivenUp_frame _ _ _ .fab (by decide)

/-! ### O4 -/

/-- Settles O4: the half registers by `halfWrite_eq`, the boundary in its parts. -/
theorem clockDividersAndGates : Obligations.ClockDividersAndGates := by
  refine ⟨?east, ?west, ?refused, ?boundary, fun _ _ => rfl⟩
  case east =>
    intro s v hfiring
    refine congrArg Host.Outcome.next ((halfWrite_eq true v s).trans (if_neg ?_))
    simpa using hfiring
  case west =>
    intro s v hnclk hfiring
    refine congrArg Host.Outcome.next ((halfWrite_eq false v s).trans (if_neg ?_))
    exact fun h => h.elim (fun hn => hnclk hn.2) hfiring
  case refused => exact fun s east v h => congrArg Host.Outcome.next ((halfWrite_eq east v s).trans (if_pos h))
  case boundary =>
    intro s h
    refine ⟨boundaryCrossed s, congrArg Host.Outcome.next ?_, boundaryCrossed_clk s, boundaryCrossed_same_aclk,
      boundaryCrossed_gated, boundaryCrossed_frame s⟩
    rw [doDividerApply, if_pos h, dividerApply_boundary h]

end Sys2Proof.Machine
end

section
/-! SUPPORT. MCTP and PLDM commands on a path that answers (R500, R502, R509, R510), sensors and their thresholds (R288, R510); and
the settlement of O40. -/

namespace Sys2Proof.Machine

/-! ### Answers -/

/-- An answer as it stands last on its path. -/
def answered (p : Path) (op : MgtOp) (ok : Bool) (data : List Byte) (s : State) : State :=
  updPath p (fun x => { x with resp := x.resp ++ [{ op := op, ok := ok, data := data }] }) s

/-- A path that answers puts the answer down. -/
theorem reply_alive {p : Path} {s : State} (h : pathAlive s p = true) (op : MgtOp) (ok : Bool) (data : List Byte) :
    reply p op ok data s = answered p op ok data s := if_pos h

/-- Only the presence and the SGMII link decide whether a path answers. -/
theorem pathAlive_updPath {p : Path} {s : State} (h : pathAlive s p = true) (f : MgtPath → MgtPath) :
    pathAlive (updPath p f s) p = true := by
  cases p <;> exact h

/-- Set Endpoint ID with an operation and an ID that it takes (R502). -/
theorem setEid_takes {p : Path} {op eid : Byte} {s : State} (h : pathAlive s p = true) (hop : op.toNat ≤ 1) (h0 : eid ≠ 0)
    (hFF : eid ≠ 0xFF) : setEid p op eid s = answered p .setEid true [eid] (updPath p (fun x => { x with eid := eid }) s) := by
  rw [setEid, if_pos ⟨hop, h0, hFF⟩, if_pos h, reply_alive (pathAlive_updPath h _)]

/-- SetEventReceiver sets the receiver of its path and is answered (R509). -/
theorem setReceiver_takes {p : Path} {s : State} (h : pathAlive s p = true) (enable eid : Byte) :
    setReceiver p enable eid s = answered p .setReceiver true []
      (updPath p (fun x => { x with receiver := if enable = 0 then none else some eid }) s) := by
  rw [setReceiver, if_pos h, reply_alive (pathAlive_updPath h _)]

/-- The terminus ID is one free byte (log 9). -/
theorem replyFree_tid {p : Path} {s : State} (h : pathAlive s p = true) :
    replyFree p .getTid 1 s =
      answered p .getTid true [(Config.outWord 0x0A (s.fresh + 0)).setWidth 8] { s with fresh := s.fresh + 1 } :=
  if_pos h

theorem answered_fresh (p : Path) (op : MgtOp) (ok : Bool) (data : List Byte) (s : State) :
    (answered p op ok data s).fresh = s.fresh := by
  cases p <;> rfl

/-- The commands of a PLDM type that is not supported (R502). -/
theorem pldmCommands_unsupported {p : Path} {type : Byte} {s : State} (h : pathAlive s p = true) (h0 : type ≠ 0) (h2 : type ≠ 2) :
    pldmCommands p type s = answered p .pldmCommands false [] s := by
  rw [pldmCommands, if_neg h0, if_neg h2, reply_alive h]

/-! ### Sensors (R510) -/

/-- The record of a sensor: its ID and its thresholds. -/
theorem pdrReply_sensor {p : Path} {n : W32} {s : State} (h : pathAlive s p = true)
    (hn : isNumeric n.toNat = true ∨ isStateSensor n.toNat = true) :
    pdrReply p n s = answered p .pdr true (leBytes 2 n.toNat ++ (thresholds s n.toNat).flatMap (leBytes 2)) s := by
  rw [pdrReply, if_pos (by simpa using hn), reply_alive h]

/-- State sensors 101 to 116 show the links of even number. -/
theorem stateReading_link (s : State) {i : Nat} (hi : i < 16) : stateReading s (101 + i) = (getLink s (2 * i)).st.code := by
  rw [stateReading, if_neg (by omega), if_pos (by omega), Nat.add_sub_cancel_left]

/-! ### O40 -/

/-- Settles O40: every answer is `reply` on a path that is alive, after the path's own change where the command makes one. -/
theorem mctpAndPldmCommands : Obligations.MctpAndPldmCommands := by
  refine ⟨?setEid, ?getEid, ?uuid, ?version, ?types, ?tid, ?pldmVersion, ?pldmTypes, ?noCommands, ?commands, ?receiver, ?repo, ?pdr,
    ?sensor, ?stateSensor, ?readings, ?unsupported, fun _ _ => rfl⟩
  case setEid => exact fun s p op eid h hop h0 hFF => congrArg Host.Outcome.next (setEid_takes h hop h0 hFF)
  case getEid => exact fun s p h => congrArg Host.Outcome.next (reply_alive h _ _ _)
  case uuid => exact fun s p h => congrArg Host.Outcome.next (reply_alive h _ _ _)
  case version => exact fun s p h => congrArg Host.Outcome.next (reply_alive h _ _ _)
  case types => exact fun s p h => congrArg Host.Outcome.next (reply_alive h _ _ _)
  case tid =>
    intro s p h
    refine ⟨(Config.outWord 0x0A (s.fresh + 0)).setWidth 8, _, congrArg Host.Outcome.next (replyFree_tid h), ?_⟩
    rw [answered_fresh]
    rfl
  case pldmVersion => exact fun s p h => congrArg Host.Outcome.next (reply_alive h _ _ _)
  case pldmTypes => exact fun s p h => congrArg Host.Outcome.next (reply_alive h _ _ _)
  case noCommands => exact fun s p type h h0 h2 => congrArg Host.Outcome.next (pldmCommands_unsupported h h0 h2)
  case commands => exact fun s p h => congrArg Host.Outcome.next (reply_alive h _ _ _)
  case receiver => exact fun s p enable eid h => congrArg Host.Outcome.next (setReceiver_takes h enable eid)
  case repo => exact fun s p h => congrArg Host.Outcome.next (reply_alive h _ _ _)
  case pdr => exact fun s p n h hn => congrArg Host.Outcome.next (pdrReply_sensor h hn)
  case sensor => exact fun s p n h hn => congrArg Host.Outcome.next ((if_pos hn).trans (reply_alive h _ _ _))
  case stateSensor => exact fun s p n h hn => congrArg Host.Outcome.next ((if_pos hn).trans (reply_alive h _ _ _))
  case readings =>
    exact fun s => ⟨rfl, rfl, rfl, fun i hi => stateReading_link s hi, rfl, rfl, rfl, rfl, rfl, rfl⟩
  case unsupported => exact fun s p type cmd h => congrArg Host.Outcome.next (reply_alive h _ _ _)

end Sys2Proof.Machine
end

section
/-! SUPPORT. Start-up (R292, R456): the lock and the pin (R520), the boot ROM to its end (R451, R456, R458, R461, R500), and the
configuration from the device record and the configuration block (R200, R207, R313, R482, R530). -/

namespace Sys2Proof.Machine

/-! ### Loops that write each unit of a list -/

/-- A loop whose turn `k` changes unit `k` alone, by an `f k` that a second turn does not carry further: what `I` says holds at its end,
and every unit of the list is changed, no other. -/
theorem foldl_units {β : Type} {get : State → Nat → β} {g : State → Nat → State} {f : Nat → β → β} {I : State → Prop} {ks : List Nat}
    (hf : ∀ k x, f k (f k x) = f k x)
    (hg : ∀ t, I t → ∀ k ∈ ks, I (g t k) ∧ ∀ n, get (g t k) n = if n = k then f k (get t k) else get t n) {s : State} (hs : I s) :
    I (ks.foldl g s) ∧ ∀ n, get (ks.foldl g s) n = if n ∈ ks then f n (get s n) else get s n := by
  induction ks generalizing s with
  | nil => exact ⟨hs, fun n => (if_neg (List.not_mem_nil)).symm⟩
  | cons k ks ih =>
    obtain ⟨hk, hget⟩ := hg s hs k List.mem_cons_self
    obtain ⟨hI, hend⟩ := ih (fun t ht j hj => hg t ht j (List.mem_cons_of_mem k hj)) hk
    refine ⟨hI, fun n => ?_⟩
    rw [List.foldl_cons, hend, hget]
    by_cases hn : n = k
    · subst hn
      simp [hf]
    · simp [hn]

/-! ### The boot ROM (R456) -/

/-- Every stack begins to train (R292). -/
def stacksTraining (s : State) : State := (List.range 16).foldl (fun s n => updStk n (fun k => { k with st := .training }) s) s

theorem stacksTraining_frame (s : State) : Frame [.stks] s (stacksTraining s) := frame_foldl (fun a n => updStk_frame a n _) _ s

theorem getStk_stacksTraining (s : State) {n : Nat} (hn : n < 16) :
    getStk (stacksTraining s) n = { getStk s n with st := .training } := by
  have hloop := foldl_units (get := getStk) (g := fun s n => updStk n (fun k => { k with st := .training }) s)
    (f := fun _ k => { k with st := .training }) (I := fun _ => True) (ks := List.range 16) (fun _ _ => rfl)
    (fun t _ k _ => ⟨trivial, fun n => getStk_updStk k n _ t⟩) (s := s) trivial
  rw [stacksTraining, hloop.2 n, if_pos (List.mem_range.mpr hn)]

/-- The key the keeper draws for the certificate of the image that runs (R453, log 5). -/
def aliasKey (s : State) : List Byte := (freeWords 0x0456 109 s).1.flatMap (fun v => leBytes 4 v.toNat)

/-- The keeper's record once every check has passed (R453, R456). -/
def bootedSec (b : BootInput) (slotB : Bool) (i : FwImage) (c : ConfigBlock) (key : List Byte) (x : Sec) : Sec :=
  { x with state := 1, slotB := slotB, svn := i.svn, rngOk := true, image := some i, cfg := some c, iddigest := iddigestOf b.ident,
           chain := b.ident ++ [aliasOf i (iddigestOf b.ident) key] }

/-- The management presence as it starts, with the addresses of the block (R500, R501). -/
def startedMgt (b : BootInput) (c : ConfigBlock) (x : Mgt) : Mgt :=
  { x with started := true, sgmiiEn := c.plat.mgtSgmii, i3c := c.plat.mgtBus, smbAddr := BitVec.ofNat 7 c.plat.smbAddr.toNat,
           ipv4 := c.plat.ipv4, udpPort := c.plat.udpPort, mac := macOf (iddigestOf b.ident) }

/-- The application cores are out of reset (R292, R456). -/
def coresReleased (b : BootInput) (slotB : Bool) (i : FwImage) (c : ConfigBlock) (s : State) : State :=
  { s with sec := bootedSec b slotB i c (aliasKey s) s.sec, flash := { s.flash with noRec := !regionOk b.size b.dir 5 },
           mbx := { s.mbx with keeper := true, alive := 0xF }, clk := { s.clk with step := 5 }, mgt := startedMgt b c s.mgt,
           fresh := s.fresh + 109 }

/-- The boot ROM's time and the root secret with its keys, as the checks leave them (R451, R456). -/
def romPassed (b : BootInput) (s : State) : State :=
  { s with clk := { s.clk with aclk := s.clk.aclk + 3 * b.cclk },
           sec := { s.sec with rngOk := true, root := some b.secret, keys := some (keysFrom b.secret) } }

/-- The boot ROM to its end: the cores run, the stacks train, and an ember tells the cause of the reset. -/
theorem bootRun_eq (b : BootInput) (slotB : Bool) (i : FwImage) (c : ConfigBlock) (s : State) :
    bootRun b slotB i c s = ember 0 0x1102 0 none (stacksTraining (coresReleased b slotB i c s)).clk.rstCause.toNat
      (stacksTraining (coresReleased b slotB i c s)) := rfl

section
variable {s : State} {b : BootInput} {slotB : Bool} {i : FwImage} {c : ConfigBlock}

theorem bootRom_passes (hstep : s.clk.step = 3) (hst : s.sec.state = 0) (hw : s.snuf.wheld = false) (hrng : b.rngOk = true)
    (hpuf : pufOk b = true) (hctr : b.counterOk = true) (hreg : regionOk b.size b.dir 6 = true) (hid : identityOk b = true)
    (himg : chooseImage s.flash.fwFloor (inRegion b 3 b.imgA) (inRegion b 4 b.imgB) = some (slotB, i))
    (hcfg : (inRegion b 2 b.cfg).filter (cfgOk s.flash.cfgFloor) = some c) :
    bootRom b s = bootRun b slotB i c (romPassed b s) := by
  unfold bootRom
  rw [if_pos ⟨hstep, hst, by simp [hw]⟩]
  simp only [hrng, hpuf, hctr, hreg, himg, hcfg, hid, Bool.not_true, Bool.and_true, Bool.false_eq_true, if_false, if_true]
  rfl

end

/-- What an ember leaves of the keeper's word on the cores and of the presence: all but rings, sequence numbers, windows and queues. -/
def presenceOf (s : State) : Mbx × Mgt :=
  ({ Mbx.init with keeper := s.mbx.keeper, alive := s.mbx.alive },
    { Mgt.init with started := s.mgt.started, sgmiiEn := s.mgt.sgmiiEn, i3c := s.mgt.i3c, smbAddr := s.mgt.smbAddr, mac := s.mgt.mac,
                    ipv4 := s.mgt.ipv4, udpPort := s.mgt.udpPort })

theorem Frame.presence {ps : List Part} {s t : State} (h : Frame ps s t) (hb : .mbx ∉ ps) (hm : .mgt ∉ ps) :
    presenceOf t = presenceOf s := by
  have hmbx : t.mbx = s.mbx := h .mbx hb
  have hmgt : t.mgt = s.mgt := h .mgt hm
  rw [presenceOf, hmbx, hmgt, presenceOf]

theorem presence_postRaw (r : RingI) (v : Cpl) (s : State) : presenceOf (postRaw r v s) = presenceOf s :=
  ((gvlSig_frame _ _ _).presence (by decide) (by decide)).trans ((frame_gvl _ _).presence (by decide) (by decide))

theorem presence_postNote (r : RingI) (v : Cpl) (s : State) : presenceOf (postNote r v s) = presenceOf s := by
  unfold postNote
  split
  · rfl
  · split
    · rfl
    · dsimp only
      split
      · exact presence_postRaw r v s
      · split <;> rfl

theorem presence_pathPut (e : Ember) (udp : Bool) (s : State) : presenceOf (pathPut e udp s) = presenceOf s := by
  cases udp
  · cases h : (queueEmber e s.mgt.bus.queue).2 <;> simp [pathPut, presenceOf, h]
  · cases h : (queueEmber e s.mgt.udp.queue).2 <;> simp [pathPut, presenceOf, h]

theorem presence_deliverEmber (e : Ember) (s : State) : presenceOf (deliverEmber e s) = presenceOf s := by
  unfold deliverEmber
  dsimp only
  rw [presence_pathPut, presence_pathPut]
  split
  · rfl
  · split
    · rfl
    · exact ((gvlSig_frame _ _ _).presence (by decide) (by decide)).trans (presence_postNote _ _ _)

theorem presence_rateLimit (k : Option (W16 × W16 × Option W16)) (e : Ember) (s : State) :
    presenceOf (rateLimit k e s).1 = presenceOf s := by
  unfold rateLimit
  split
  · rfl
  · split <;> rfl

theorem presence_raiseEmber (r : EmberReq) (s : State) : presenceOf (raiseEmber r s) = presenceOf s := by
  have hlimited (k : Option (W16 × W16 × Option W16)) (e : Ember) : presenceOf
      (if (rateLimit k e s).2 = true then deliverEmber e (rateLimit k e s).1 else (rateLimit k e s).1) = presenceOf s := by
    split
    · exact (presence_deliverEmber _ _).trans (presence_rateLimit _ _ s)
    · exact presence_rateLimit _ _ s
  unfold raiseEmber
  split
  · split
    · exact presence_deliverEmber _ s
    · exact hlimited _ _
  · rfl

/-- What the boot ROM leaves at its end, beside the presence (R292, R451, R456). -/
theorem bootRun_frame (b : BootInput) (slotB : Bool) (i : FwImage) (c : ConfigBlock) (s : State) :
    Frame Part.posting (stacksTraining (coresReleased b slotB i c s)) (bootRun b slotB i c s) := by
  rw [bootRun_eq]
  exact (ember_frame _ _ _ _ _ _).mono (by decide)

theorem coresReleased_frame (b : BootInput) (slotB : Bool) (i : FwImage) (c : ConfigBlock) (s : State) :
    Frame [.sec, .clk, .flash, .mbx, .mgt, .fresh] s (coresReleased b slotB i c s) := by
  intro p hp
  cases p <;> simp at hp <;> rfl

theorem presence_bootRun (b : BootInput) (slotB : Bool) (i : FwImage) (c : ConfigBlock) (s : State) :
    presenceOf (bootRun b slotB i c s) = presenceOf (coresReleased b slotB i c s) := by
  rw [bootRun_eq]
  exact (presence_raiseEmber _ _).trans ((stacksTraining_frame _).presence (by decide) (by decide))

/-- What the boot ROM's end leaves as the cores found it: every part but the stacks and what the ember may touch. -/
theorem bootRun_leaves (b : BootInput) (slotB : Bool) (i : FwImage) (c : ConfigBlock) (s : State) {p : Part}
    (hp : p ∉ Part.stks :: Part.posting) : p.same (coresReleased b slotB i c s) (bootRun b slotB i c s) := by
  obtain ⟨hstks, hpost⟩ := not_or.mp (mt List.mem_cons.mpr hp)
  exact Part.same_trans (stacksTraining_frame _ p (by simpa using hstks)) (bootRun_frame b slotB i c s p hpost)

/-- Everything the boot ROM's end may touch. -/
theorem bootRun_touches (b : BootInput) (slotB : Bool) (i : FwImage) (c : ConfigBlock) (s : State) :
    Frame ([.sec, .clk, .stks, .flash] ++ Part.posting) s (bootRun b slotB i c s) :=
  .after (by decide) (bootRun_frame b slotB i c s) <| .after (by decide) (stacksTraining_frame _) <|
    (coresReleased_frame b slotB i c s).mono (by decide)

theorem romPassed_frame (b : BootInput) (s : State) : Frame [.clk, .sec] s (romPassed b s) := by
  intro p hp
  cases p <;> simp at hp <;> rfl

theorem getStk_bootRun (b : BootInput) (slotB : Bool) (i : FwImage) (c : ConfigBlock) (s : State) {n : Nat} (hn : n < 16) :
    getStk (bootRun b slotB i c s) n = { getStk s n with st := .training } := by
  have hstks : (bootRun b slotB i c s).stks = (stacksTraining (coresReleased b slotB i c s)).stks :=
    bootRun_frame b slotB i c s .stks (by decide)
  calc getStk (bootRun b slotB i c s) n
      = getStk (stacksTraining (coresReleased b slotB i c s)) n := by rw [getStk, hstks, getStk]
    _ = { getStk s n with st := .training } := getStk_stacksTraining _ hn

/-! ### The device record (R200, R207, R482) -/

/-- Trim stores, column maps and retirements of the recorded wicks. -/
def wicksLoaded (s : State) : State := (keysOf s.flash.wicks).foldl loadWick s

/-- Drive taps and retirements of the recorded lanterns. -/
def lansLoaded (s : State) : State := (keysOf s.flash.lans).foldl loadLan s

/-- The recorded sconces are retired. -/
def scnsLoaded (s : State) : State := (recSconces s).foldl loadScn s

/-- The diode table, where the record has one. -/
def diodesLoaded (s : State) : State := if recDiodes s = [] then s else { s with mon := { s.mon with dtab := recDiodes s } }

theorem loadRecord_eq (s : State) : loadRecord s = diodesLoaded (scnsLoaded (lansLoaded (wicksLoaded s))) := rfl

theorem recordedWick_idem (r : RecWick) (w : Wick) : recordedWick r (recordedWick r w) = recordedWick r w := by
  cases h : r.retired <;> simp [recordedWick, h]

theorem recordedLan_idem (r : RecLan) (v : Lantern) : recordedLan r (recordedLan r v) = recordedLan r v := by
  cases h : r.retired <;> simp [recordedLan, h]

theorem wicksLoaded_frame (s : State) : Frame [.wicks] s (wicksLoaded s) := frame_foldl (fun a k => updWick_frame a (k / 17) (k % 17) _) _ s
theorem lansLoaded_frame (s : State) : Frame [.lans] s (lansLoaded s) := frame_foldl (fun a l => updLan_frame a l _) _ s
theorem scnsLoaded_frame (s : State) : Frame [.scn] s (scnsLoaded s) := frame_foldl (fun a n => updScn_frame a n _) _ s
theorem diodesLoaded_frame (s : State) : Frame [.mon] s (diodesLoaded s) := (Frame.refl _ s).ite (frame_mon s _)

theorem loadRecord_frame (s : State) : Frame [.wicks, .lans, .scn, .mon] s (loadRecord s) :=
  .after (by decide) (diodesLoaded_frame _) <| .after (by decide) (scnsLoaded_frame _) <| .after (by decide) (lansLoaded_frame _) <|
    (wicksLoaded_frame s).mono (by decide)

/-- The device record and the key of its tags stand as they stood. -/
def SameRecord (s t : State) : Prop := t.flash = s.flash ∧ t.sec = s.sec

theorem Frame.sameRecord {ps : List Part} {s t : State} (h : Frame ps s t) (hf : .flash ∉ ps) (hk : .sec ∉ ps) : SameRecord s t :=
  ⟨h .flash hf, h .sec hk⟩

section
variable {s t : State} (h : SameRecord s t)
include h

theorem SameRecord.secBad (n : Nat) : secBad t n = secBad s n := by
  obtain ⟨hflash, hsec⟩ := h
  simp only [Machine.secBad, secTag, hflash, hsec]

theorem SameRecord.recWick (l w : Nat) : recWick t l w = recWick s l w := by
  rw [Machine.recWick, h.secBad, h.1, Machine.recWick]

theorem SameRecord.recLan (l : Nat) : recLan t l = recLan s l := by
  rw [Machine.recLan, h.secBad, h.1, Machine.recLan]

theorem SameRecord.recSconces : recSconces t = recSconces s := by
  rw [Machine.recSconces, h.secBad, h.1, Machine.recSconces]

theorem SameRecord.recDiodes : recDiodes t = recDiodes s := by
  rw [Machine.recDiodes, h.secBad, h.1, Machine.recDiodes]

end

theorem getWick_wicksLoaded (s : State) (l : Nat) {w : Nat} (hw : w < 17) : getWick (wicksLoaded s) l w =
    if l * 17 + w ∈ keysOf s.flash.wicks then recordedWick (recWick s l w) (getWick s l w) else getWick s l w := by
  have hload (t : State) (ht : SameRecord s t) (k n : Nat) : Tab.get Wick.init (loadWick t k).wicks n =
      if n = k then recordedWick (recWick s (k / 17) (k % 17)) (Tab.get Wick.init t.wicks k) else Tab.get Wick.init t.wicks n := by
    have hkey : k / 17 * 17 + k % 17 = k := Nat.div_add_mod' k 17
    rw [loadWick, ht.recWick, updWick, setWick, getWick]
    dsimp only
    rw [Tab.get_set, hkey]
  have hloop := foldl_units (get := fun t n => Tab.get Wick.init t.wicks n) (g := loadWick) (I := SameRecord s)
    (ks := keysOf s.flash.wicks) (fun k x => recordedWick_idem (recWick s (k / 17) (k % 17)) x)
    (fun t ht k _ => ⟨ht, hload t ht k⟩) (s := s) ⟨rfl, rfl⟩
  have hdiv : (l * 17 + w) / 17 = l := by omega
  have hmod : (l * 17 + w) % 17 = w := by omega
  rw [getWick, wicksLoaded, hloop.2, hdiv, hmod, getWick]

theorem getLan_lansLoaded (s : State) (l : Nat) : getLan (lansLoaded s) l =
    if l ∈ keysOf s.flash.lans then recordedLan (recLan s l) (getLan s l) else getLan s l := by
  have hload (t : State) (ht : SameRecord s t) (k n : Nat) : getLan (loadLan t k) n =
      if n = k then recordedLan (recLan s k) (getLan t k) else getLan t n := by
    rw [loadLan, ht.recLan, getLan_updLan]
  have hloop := foldl_units (get := getLan) (g := loadLan) (I := SameRecord s) (ks := keysOf s.flash.lans)
    (fun k x => recordedLan_idem (recLan s k) x) (fun t ht k _ => ⟨ht, hload t ht k⟩) (s := s) ⟨rfl, rfl⟩
  rw [lansLoaded, hloop.2]

theorem getScn_scnsLoaded (s : State) (n : Nat) : getScn (scnsLoaded s) n =
    if n ∈ recSconces s then { getScn s n with retired := true } else getScn s n := by
  have hloop := foldl_units (get := getScn) (g := loadScn) (f := fun _ x => { x with retired := true }) (I := fun _ => True)
    (ks := recSconces s) (fun _ _ => rfl) (fun t _ k _ => ⟨trivial, fun n => getScn_updScn k n _ t⟩) (s := s) trivial
  rw [scnsLoaded, hloop.2]

theorem dtab_diodesLoaded (s : State) : (diodesLoaded s).mon.dtab = if recDiodes s = [] then s.mon.dtab else recDiodes s := by
  unfold diodesLoaded
  split <;> rfl

/-! ### The configuration block (R313, R530) -/

/-- The governor's limit and shares of the block. -/
def platformPwr (p : Platform) (x : Pwr) : Pwr :=
  takeShares { x with limit := BitVec.ofNat 10 p.plimit.toNat, arr := BitVec.ofNat 10 p.sArr.toNat, vec := BitVec.ofNat 10 p.sVec.toNat,
                      xbr := BitVec.ofNat 10 p.sXbr.toNat, stk := BitVec.ofNat 10 p.sStk.toNat, ser := BitVec.ofNat 10 p.sSer.toNat,
                      ctl := BitVec.ofNat 10 p.sCtl.toNat, set := p.thset }

/-- The warning level and the requested dividers of the block. -/
def platformClk (p : Platform) (x : Clk) : Clk :=
  { x with warn := BitVec.ofNat 4 p.warn.toNat, aW := p.adivW, nW := p.ndivW, aE := p.adivE, nE := p.ndivE }

/-- The registers of the die that take the block's values at once. -/
def platformSet (p : Platform) (s : State) : State :=
  { s with pwr := platformPwr p s.pwr, clk := platformClk p s.clk, gvl := { s.gvl with wmax := decide (p.gvlW ≠ 0) } }

theorem applyPlatform_eq (p : Platform) (s : State) : applyPlatform p s =
    (List.range 16).foldl (fun s n => updStk n (fun k => { k with period := p.patrol }) s) (platformSet p s) := rfl

theorem platformSet_frame (p : Platform) (s : State) : Frame [.pwr, .clk, .gvl] s (platformSet p s) := by
  intro q hq
  cases q <;> simp at hq <;> rfl

theorem applyPlatform_stacks_frame (p : Platform) (s : State) : Frame [.stks] (platformSet p s) (applyPlatform p s) :=
  frame_foldl (fun a n => updStk_frame a n _) _ _

theorem applyPlatform_frame (p : Platform) (s : State) : Frame [.pwr, .clk, .gvl, .stks] s (applyPlatform p s) :=
  .after (by decide) (applyPlatform_stacks_frame p s) ((platformSet_frame p s).mono (by decide))

theorem getStk_applyPlatform (p : Platform) (s : State) {n : Nat} (hn : n < 16) :
    getStk (applyPlatform p s) n = { getStk s n with period := p.patrol } := by
  have hloop := foldl_units (get := getStk) (g := fun s n => updStk n (fun k => { k with period := p.patrol }) s)
    (f := fun _ k => { k with period := p.patrol }) (I := fun _ => True) (ks := List.range 16) (fun _ _ => rfl)
    (fun t _ k _ => ⟨trivial, fun n => getStk_updStk k n _ t⟩) (s := platformSet p s) trivial
  rw [applyPlatform_eq, hloop.2 n, if_pos (List.mem_range.mpr hn)]
  rfl

/-- The block enables the port. -/
def portOn (c : ConfigBlock) (p : Nat) : Bool := decide (c.plat.portEn.toNat / 2 ^ p % 2 = 1)

/-- A port with the platform fields and the link policies of the block. -/
def platformPort (c : ConfigBlock) (p : Nat) (x : Port) : Port :=
  { x with split := decide (c.plat.portSplit.toNat / 2 ^ p % 2 = 1), ch := decide (c.plat.portCh.toNat / 2 ^ p % 2 = 1),
           txpre := BitVec.ofNat 4 (c.plat.txpre.toNat / 2 ^ (4 * p)), encA := c.enc.getD (2 * p) 0, encB := c.enc.getD (2 * p + 1) 0 }

/-- The same with its enable. -/
def configuredPort (c : ConfigBlock) (p : Nat) (x : Port) : Port := { platformPort c p x with en := portOn c p }

theorem applyPort_eq (c : ConfigBlock) (s : State) (p : Nat) :
    applyPort c s p = portEnable p (portOn c p) (updPort p (platformPort c p) s) := rfl

/-- A port that is not taken out of service only has its links set to train: its own record takes the enable alone. -/
theorem portEnable_raises {p : Nat} {en : Bool} {s : State} (h : (getPort s p).en = true → en = true) :
    Frame [.fab] s (portEnable p en s) ∧ ∀ n, getPort (portEnable p en s) n = getPort (updPort p (fun x => { x with en := en }) s) n := by
  have hset : Frame [.fab] s (updPort p (fun x => { x with en := en }) s) := frame_fab s _
  have htrain (t : State) (k : Nat) : Frame [.fab] t (updLink k (fun x => linkCleared x .training x.cause) t) := updLink_frame t k _
  unfold portEnable
  dsimp only
  by_cases hsame : en = (getPort s p).en
  · rw [if_pos hsame]
    exact ⟨hset, fun _ => rfl⟩
  · obtain rfl : en = true := by
      cases hen : (getPort s p).en
      · rw [hen] at hsame
        simpa using hsame
      · exact h hen
    rw [if_neg hsame]
    simp only [if_true]
    refine ⟨.after (List.Subset.refl _) (frame_foldl (fun t k => (htrain t k).ite (Frame.refl _ t)) _ _) hset, fun n => ?_⟩
    exact foldl_keeps (I := fun t => getPort t n = getPort (updPort p (fun x => { x with en := true }) s) n)
      (fun t k ht => by split <;> exact ht) _ rfl

/-- No port is enabled that the block leaves disabled. -/
def PortsBelow (c : ConfigBlock) (s : State) : Prop := ∀ p < 16, (getPort s p).en = true → portOn c p = true

theorem applyPort_takes {c : ConfigBlock} {p : Nat} {s : State} (hp : p < 16) (h : PortsBelow c s) :
    Frame [.fab] s (applyPort c s p) ∧
      ∀ n, getPort (applyPort c s p) n = if n = p then configuredPort c p (getPort s p) else getPort s n := by
  have hbelow : (getPort (updPort p (platformPort c p) s) p).en = true → portOn c p = true := by
    rw [getPort_updPort, if_pos rfl]
    exact h p hp
  obtain ⟨hframe, hget⟩ := portEnable_raises hbelow
  rw [applyPort_eq]
  refine ⟨.after (List.Subset.refl _) hframe (frame_fab s _), fun n => (hget n).trans ?_⟩
  rw [getPort_updPort, getPort_updPort, getPort_updPort, if_pos rfl]
  split <;> rfl

theorem portsBelow_applyPort {c : ConfigBlock} {p : Nat} {s : State} (hp : p < 16) (h : PortsBelow c s) :
    PortsBelow c (applyPort c s p) := by
  intro n hn hen
  rw [(applyPort_takes hp h).2 n] at hen
  by_cases hnp : n = p
  · subst hnp
    rwa [if_pos rfl] at hen
  · rw [if_neg hnp] at hen
    exact h n hn hen

/-- The ports take their part of the block. -/
def portsConfigured (c : ConfigBlock) (s : State) : State := (List.range 16).foldl (applyPort c) s

theorem portsConfigured_takes {c : ConfigBlock} {s : State} (h : PortsBelow c s) :
    Frame [.fab] s (portsConfigured c s) ∧
      ∀ n < 16, getPort (portsConfigured c s) n = configuredPort c n (getPort s n) := by
  have hloop := foldl_units (get := getPort) (g := applyPort c) (f := configuredPort c)
    (I := fun t => Frame [.fab] s t ∧ PortsBelow c t) (ks := List.range 16) (fun _ _ => rfl)
    (fun t ht k hk => by
      obtain ⟨hframe, hget⟩ := applyPort_takes (List.mem_range.mp hk) ht.2
      exact ⟨⟨ht.1.step hframe (by decide), portsBelow_applyPort (List.mem_range.mp hk) ht.2⟩, hget⟩)
    (s := s) ⟨Frame.refl _ s, h⟩
  obtain ⟨⟨hframe, -⟩, hget⟩ := hloop
  exact ⟨hframe, fun n hn => (hget n).trans (if_pos (List.mem_range.mpr hn))⟩

/-! ### START_UP_CONFIGURE (R292) -/

/-- Start-up's step 6: the device record, then the platform section, then the ports. -/
def configured (c : ConfigBlock) (s : State) : State := portsConfigured c (applyPlatform c.plat (loadRecord s))

theorem startUpConfigure_eq {s : State} {c : ConfigBlock} (hstep : 6 ≤ s.clk.step) (hen : s.lmp.en = false) (hcfg : s.sec.cfg = some c) :
    startUpConfigure s = configured c s := by
  have hcfg' : (loadRecord s).sec.cfg = some c := by
    rw [loadRecord_frame s .sec (by decide), hcfg]
  unfold startUpConfigure
  rw [if_pos ⟨hstep, hen⟩]
  dsimp only
  rw [hcfg']
  rfl

section
variable (s : State)

theorem getWick_loadRecord (l : Nat) {w : Nat} (hw : w < 17) : getWick (loadRecord s) l w =
    if l * 17 + w ∈ keysOf s.flash.wicks then recordedWick (recWick s l w) (getWick s l w) else getWick s l w := by
  have hrest : Frame [.lans, .scn, .mon] (wicksLoaded s) (loadRecord s) :=
    .after (by decide) (diodesLoaded_frame _) <| .after (by decide) (scnsLoaded_frame _) ((lansLoaded_frame _).mono (by decide))
  rw [hrest.getWick l w (by decide), getWick_wicksLoaded s l hw]

theorem getLan_loadRecord (l : Nat) : getLan (loadRecord s) l =
    if l ∈ keysOf s.flash.lans then recordedLan (recLan s l) (getLan s l) else getLan s l := by
  have hbefore := wicksLoaded_frame s
  have hsame : SameRecord s (wicksLoaded s) := hbefore.sameRecord (by decide) (by decide)
  have hrest : Frame [.scn, .mon] (lansLoaded (wicksLoaded s)) (loadRecord s) :=
    .after (by decide) (diodesLoaded_frame _) ((scnsLoaded_frame _).mono (by decide))
  rw [hrest.getLan l (by decide), getLan_lansLoaded, hsame.1, hsame.recLan, hbefore.getLan l (by decide)]

theorem getScn_loadRecord (n : Nat) : getScn (loadRecord s) n =
    if n ∈ recSconces s then { getScn s n with retired := true } else getScn s n := by
  have hbefore : Frame [.wicks, .lans] s (lansLoaded (wicksLoaded s)) :=
    .after (by decide) (lansLoaded_frame _) ((wicksLoaded_frame s).mono (by decide))
  have hscn : (lansLoaded (wicksLoaded s)).scn = s.scn := hbefore .scn (by decide)
  have hrest : (loadRecord s).scn = (scnsLoaded (lansLoaded (wicksLoaded s))).scn := diodesLoaded_frame _ .scn (by decide)
  have hloaded := getScn_scnsLoaded (lansLoaded (wicksLoaded s)) n
  rw [(hbefore.sameRecord (by decide) (by decide)).recSconces] at hloaded
  unfold getScn at hloaded ⊢
  rwa [hrest, ← hscn]

theorem dtab_loadRecord : (loadRecord s).mon.dtab = if recDiodes s = [] then s.mon.dtab else recDiodes s := by
  have hbefore : Frame [.wicks, .lans, .scn] s (scnsLoaded (lansLoaded (wicksLoaded s))) :=
    .after (by decide) (scnsLoaded_frame _) <| .after (by decide) (lansLoaded_frame _) ((wicksLoaded_frame s).mono (by decide))
  have hmon : (scnsLoaded (lansLoaded (wicksLoaded s))).mon = s.mon := hbefore .mon (by decide)
  rw [loadRecord_eq, dtab_diodesLoaded, (hbefore.sameRecord (by decide) (by decide)).recDiodes, hmon]

end

section
variable {s : State} (c : ConfigBlock) (h : ∀ p : PortI, (getPort s p.val).en = false)

/-- Neither the record nor the platform section reaches the ports. -/
theorem getPort_beforePorts (n : Nat) : getPort (applyPlatform c.plat (loadRecord s)) n = getPort s n := by
  have hfab : (applyPlatform c.plat (loadRecord s)).fab = s.fab :=
    (applyPlatform_frame _ _ .fab (by decide)).trans (loadRecord_frame s .fab (by decide))
  rw [getPort, hfab, getPort]

include h

theorem portsBelow_beforePorts : PortsBelow c (applyPlatform c.plat (loadRecord s)) := by
  intro n hn hon
  rw [getPort_beforePorts, h ⟨n, hn⟩] at hon
  exact absurd hon (by decide)

theorem portsConfigured_frame : Frame [.fab] (applyPlatform c.plat (loadRecord s)) (configured c s) :=
  (portsConfigured_takes (portsBelow_beforePorts c h)).1

/-- Every part that neither the platform section nor the ports touch is left as the device record leaves it. -/
theorem configured_frame : Frame [.pwr, .clk, .gvl, .stks, .fab] (loadRecord s) (configured c s) :=
  .after (by decide) (portsConfigured_frame c h) ((applyPlatform_frame _ _).mono (by decide))

/-- Stacks and ports apart, the platform section's registers are the last that change. -/
theorem configured_after_platformSet : Frame [.stks, .fab] (platformSet c.plat (loadRecord s)) (configured c s) :=
  .after (by decide) (portsConfigured_frame c h) ((applyPlatform_stacks_frame _ _).mono (by decide))

theorem getPort_configured {n : Nat} (hn : n < 16) : getPort (configured c s) n = configuredPort c n (getPort s n) := by
  rw [configured, (portsConfigured_takes (portsBelow_beforePorts c h)).2 n hn, getPort_beforePorts]

theorem getStk_configured {n : Nat} (hn : n < 16) : getStk (configured c s) n = { getStk s n with period := c.plat.patrol } := by
  have hstks : (loadRecord s).stks = s.stks := loadRecord_frame s .stks (by decide)
  rw [getStk, portsConfigured_frame c h .stks (by decide), ← getStk, getStk_applyPlatform _ _ hn, getStk, hstks, ← getStk]

theorem pwr_configured : (configured c s).pwr = platformPwr c.plat s.pwr := by
  rw [configured_after_platformSet c h .pwr (by decide), platformSet, loadRecord_frame s .pwr (by decide)]

theorem clk_configured : (configured c s).clk = platformClk c.plat s.clk := by
  rw [configured_after_platformSet c h .clk (by decide), platformSet, loadRecord_frame s .clk (by decide)]

theorem gvl_configured : (configured c s).gvl = { s.gvl with wmax := decide (c.plat.gvlW ≠ 0) } := by
  rw [configured_after_platformSet c h .gvl (by decide), platformSet, loadRecord_frame s .gvl (by decide)]

end

/-! ### O2 -/

/-- Settles O2: the lock and the pin by definition, the boot ROM through `bootRom_passes` and the parts of its end, the configuration
through the device record, the platform section and the ports in turn. -/
theorem startUpSteps : Obligations.StartUpSteps := by
  refine ⟨fun s high h => congrArg Host.Outcome.next (if_pos h), ?release, ?boot, ?configure⟩
  case release =>
    intro s h
    have hstep : (if s.clk.step = 2 then 3 else s.clk.step) = 3 := if_pos h
    exact congrArg (fun x => Host.Outcome.next { s with clk := { s.clk with brdRstN := true, step := x } }) hstep
  case boot =>
    intro s b slotB i c hstep hst hw hrng hpuf hctr hreg hid himg hcfg
    have hrom := bootRom_passes hstep hst hw hrng hpuf hctr hreg hid himg hcfg
    have hpres := presence_bootRun b slotB i c (romPassed b s)
    have hleft {p : Part} (hp : p ∉ Part.stks :: Part.posting) := bootRun_leaves b slotB i c (romPassed b s) hp
    refine ⟨bootRun b slotB i c (romPassed b s), congrArg Host.Outcome.next hrom, ⟨aliasKey (romPassed b s), hleft (p := .sec) (by decide)⟩,
      congrArg (fun x => x.1.keeper) hpres, congrArg (fun x => x.1.alive) hpres, hleft (p := .clk) (by decide),
      congrArg (fun x => x.2.started) hpres, congrArg (fun x => x.2.sgmiiEn) hpres, congrArg (fun x => x.2.i3c) hpres,
      congrArg (fun x => x.2.smbAddr) hpres, congrArg (fun x => x.2.mac) hpres, congrArg (fun x => x.2.ipv4) hpres,
      congrArg (fun x => x.2.udpPort) hpres, fun n hn => getStk_bootRun b slotB i c (romPassed b s) hn,
      hleft (p := .flash) (by decide), ?_⟩
    exact .after (by decide) (bootRun_touches b slotB i c _) ((romPassed_frame b s).mono (by decide))
  case configure =>
    intro s c hstep hen hcfg hports
    have hcfgd := configured_frame c hports
    refine ⟨configured c s, congrArg Host.Outcome.next (startUpConfigure_eq hstep hen hcfg), fun l w => ?wick, fun l => ?lan,
      fun n => ?scn, ?dtab, pwr_configured c hports, clk_configured c hports, gvl_configured c hports,
      fun n => getStk_configured c hports n.isLt, fun p => getPort_configured c hports p.isLt, ?frame⟩
    case wick => rw [hcfgd.getWick l.val w.val (by decide), getWick_loadRecord s l.val w.isLt]
    case lan => rw [hcfgd.getLan l.val (by decide), getLan_loadRecord]
    case scn => rw [getScn, hcfgd .scn (by decide), ← getScn, getScn_loadRecord]
    case dtab => rw [hcfgd .mon (by decide), dtab_loadRecord]
    case frame => exact .after (by decide) hcfgd ((loadRecord_frame s).mono (by decide))

end Sys2Proof.Machine
end

section
/-! SUPPORT. Fabric links (R296, R306, R312, R315, R316, R328): what a message put on its way, a neighbour entry and a link that leaves
service leave of the links; ports and their enable (R307, R320); and the settlement of O33. -/

namespace Sys2Proof.Machine

/-! ### Changes of one link -/

/-- Two changes of one link are one. -/
theorem updLink_updLink (k : Nat) (f g : Link → Link) (s : State) :
    updLink k g (updLink k f s) = updLink k (fun x => g (f x)) s := by
  simp [updLink, Tab.upd]

/-- Changes that do the same to the link there is. -/
theorem updLink_congr {k : Nat} {f g : Link → Link} {s : State} (h : f (getLink s k) = g (getLink s k)) :
    updLink k f s = updLink k g s := by
  rw [getLink] at h
  rw [updLink, updLink, Tab.upd, Tab.upd, h]

theorem updPort_frame (s : State) (p : Nat) (f : Port → Port) : Frame [.fab] s (updPort p f s) := frame_fab s _

/-! ### Messages on their way (R315, R316, R328) -/

/-- A link but for its egress queues. -/
def linkRest (x : Link) : Link := { x with queues := [] }

/-- Of the links only egress queues have changed, of the routing tables nothing. -/
structure QueuesOnly (s t : State) : Prop where
  links : ∀ n, linkRest (getLink t n) = linkRest (getLink s n)
  bank : t.fab.bank = s.fab.bank
  routes : t.fab.routes = s.fab.routes

theorem QueuesOnly.refl (s : State) : QueuesOnly s s := ⟨fun _ => rfl, rfl, rfl⟩

theorem QueuesOnly.trans {s t u : State} (h : QueuesOnly s t) (k : QueuesOnly t u) : QueuesOnly s u :=
  ⟨fun n => (k.links n).trans (h.links n), k.bank.trans h.bank, k.routes.trans h.routes⟩

theorem QueuesOnly.st {s t : State} (h : QueuesOnly s t) (n : Nat) : (getLink t n).st = (getLink s n).st := by
  have hst := congrArg Link.st (h.links n)
  exact hst

theorem QueuesOnly.of_fab {s t : State} (h : t.fab = s.fab) : QueuesOnly s t :=
  ⟨fun n => by rw [getLink, getLink, h], by rw [h], by rw [h]⟩

theorem QueuesOnly.of_updLink {f : Link → Link} (hf : ∀ x, linkRest (f x) = linkRest x) (k : Nat) (s : State) :
    QueuesOnly s (updLink k f s) := by
  refine ⟨fun n => ?_, rfl, rfl⟩
  rw [getLink_updLink]
  split
  · next h => rw [h, hf]
  · rfl

theorem queuesOnly_foldl {α : Type} {g : State → α → State} (hg : ∀ s x, QueuesOnly s (g s x)) (l : List α) (s : State) :
    QueuesOnly s (l.foldl g s) :=
  foldl_keeps (I := QueuesOnly s) (fun t x ht => ht.trans (hg t x)) l (.refl s)

theorem linkPut_queuesOnly (k vl : Nat) (i : Item) (s : State) : QueuesOnly s (linkPut k vl i s) :=
  .of_updLink (fun _ => by rfl) k s

theorem linkPutFront_queuesOnly (k : Nat) (m : Msg) (s : State) : QueuesOnly s (linkPutFront k m s) :=
  .of_updLink (fun _ => by rfl) k s

theorem egress_queuesOnly (m : Msg) (s : State) : QueuesOnly s (egress m s) := by
  unfold egress
  split
  · exact ⟨fun _ => rfl, rfl, rfl⟩
  · split
    · exact linkPut_queuesOnly _ _ _ s
    · exact ⟨fun _ => rfl, rfl, rfl⟩

theorem egressFront_queuesOnly (m : Msg) (s : State) : QueuesOnly s (egressFront m s) := by
  unfold egressFront
  split
  · exact linkPutFront_queuesOnly _ m s
  · exact egress_queuesOnly m s

theorem egressFront_frame (m : Msg) (s : State) : Frame [.fab] s (egressFront m s) := by
  unfold egressFront
  split
  · exact updLink_frame s _ _
  · exact egress_frame m s

theorem retryHeld_queuesOnly (s : State) : QueuesOnly s (retryHeld s) :=
  .trans (t := { s with fab := { s.fab with noRoute := [] } }) ⟨fun _ => rfl, rfl, rfl⟩
    (queuesOnly_foldl (fun t m => egress_queuesOnly m t) s.fab.noRoute _)

theorem retryHeld_frame (s : State) : Frame [.fab] s (retryHeld s) :=
  .after (by decide) (frame_foldl (fun t m => egress_frame m t) s.fab.noRoute _) (frame_fab s _)

theorem ember_queuesOnly (sev code src : Nat) (ctx : Option W16) (arg0 : Nat) (s : State) :
    QueuesOnly s (ember sev code src ctx arg0 s) := .of_fab (ember_frame sev code src ctx arg0 s .fab (by decide))

/-- A fail-over moves messages to other queues and changes no link beside (R315). -/
theorem failover_queuesOnly (k : Nat) (unacked : List TxFlit) (queues : Tab (List Item)) (s : State) :
    QueuesOnly s (failover k unacked queues s) := by
  have hbegun := queuesOnly_foldl (fun t m => egressFront_queuesOnly m t) (itemMsgs (unacked.flatMap (fun f => f.items))).reverse s
  have hrest (t : State) := queuesOnly_foldl (fun t m => egress_queuesOnly m t) (itemMsgs (queues.flatMap (fun e => e.2))) t
  unfold failover
  refine (hbegun.trans (hrest _)).trans (.trans ?_ (ember_queuesOnly _ _ _ _ _ _))
  exact ⟨fun _ => rfl, rfl, rfl⟩

theorem failover_frame (k : Nat) (unacked : List TxFlit) (queues : Tab (List Item)) (s : State) :
    Frame (.fab :: Part.posting) s (failover k unacked queues s) := by
  unfold failover
  exact .after (by decide) (ember_frame _ _ _ _ _ _) <| .after (by decide) (updPort_frame _ _ _) <|
    .after (by decide) (frame_fresh _ _) <| .after (by decide) (frame_foldl (fun t m => egress_frame m t) _ _)
      ((frame_foldl (fun t m => egressFront_frame m t) _ s).mono (by decide))

/-! ### Neighbour entries (R312) -/

theorem notify_frame (c : Option Nat) (code st : W16) (res : List W32) (s : State) :
    Frame [.gvl, .mbx, .posted] s (notify c code st res s) := by
  unfold notify
  split
  · exact postNote_frame _ _ s
  · split
    · exact Frame.refl _ s
    · exact postNote_frame _ _ s

section
variable (k : Nat) (f : Neighbour → Neighbour) (s : State)

theorem nbrChange_frame : Frame (.fab :: Part.posting) s (nbrChange k f s) := by
  refine (Frame.refl _ s).ite ?_
  exact .after (by decide) (notify_frame _ _ _ _ _) <| .after (by decide) (frame_fab _ _) ((frame_fresh s _).mono (by decide))

/-- Of the fabric a neighbour's change reaches the entry alone. -/
theorem fab_nbrChange : (nbrChange k f s).fab = if f (getNbr s k) = getNbr s k then s.fab else
    (updNbr k (fun _ => { f (getNbr s k) with changed := ltime s }) s).fab := by
  unfold nbrChange
  dsimp only
  split
  · rfl
  · exact notify_frame _ _ _ _ _ .fab (by decide)

theorem nbrChange_queuesOnly : QueuesOnly s (nbrChange k f s) := by
  have hfab := fab_nbrChange k f s
  split at hfab
  · exact .of_fab hfab
  · refine .trans ?_ (.of_fab hfab)
    exact ⟨fun _ => rfl, rfl, rfl⟩

theorem getLink_nbrChange (n : Nat) : getLink (nbrChange k f s) n = getLink s n := by
  rw [getLink, fab_nbrChange]
  split <;> rfl

/-- The state of the entry is the changed one's, posted or not. -/
theorem nst_nbrChange : (getNbr (nbrChange k f s) k).nst = (f (getNbr s k)).nst := by
  have hfab := fab_nbrChange k f s
  split at hfab
  · next h => rw [getNbr, hfab, ← getNbr, h]
  · rw [getNbr, hfab, ← getNbr, getNbr_updNbr, if_pos rfl]

end

/-! ### Links out of service (R306, R315) -/

/-- A link's state and cause. -/
def linkStanding (s : State) (n : Nat) : LinkSt × BitVec 4 := ((getLink s n).st, (getLink s n).cause)

theorem stands_of_linkStanding {s : State} {n : Nat} {st : LinkSt} {cause : BitVec 4} (h : linkStanding s n = (st, cause)) :
    (getLink s n).st = st ∧ (getLink s n).cause = cause := Prod.mk.inj h

theorem QueuesOnly.standing {s t : State} (h : QueuesOnly s t) (n : Nat) : linkStanding t n = linkStanding s n := by
  have hstands := congrArg (fun x : Link => (x.st, x.cause)) (h.links n)
  exact hstands

/-- How a link stands that has left service for `st`: a disabled one as before. -/
def leftService (st : LinkSt) (cause : BitVec 4) (x : LinkSt × BitVec 4) : LinkSt × BitVec 4 :=
  if x.1 = .disabled then x else (st, cause)

theorem leftService_twice {st : LinkSt} {cause : BitVec 4} (x : LinkSt × BitVec 4) :
    leftService st cause (leftService st cause x) = leftService st cause x := by
  unfold leftService
  split <;> simp_all

section
variable (k : Nat) (st : LinkSt) (cause : BitVec 4) (s : State)

/-- A link that leaves service before its messages fail over: lanes unlocked, buffers empty. -/
def linkEmptied : State :=
  updLink k (fun x => linkCleared x st cause)
    (updPort (k / 2) (fun p => { p with lock := p.lock &&& ~~~ linkLanes s k }) (fabStat (k / 2) 0 s))

theorem linkLeave_disabled (h : (getLink s k).st = .disabled) : linkLeave k st cause s = s := if_pos h

theorem linkLeave_eq (h : (getLink s k).st ≠ .disabled) : linkLeave k st cause s = nbrChange k (fun n => { n with nst := 0 })
    (if (getLink s k).st = .up then failover k (getLink s k).unacked (getLink s k).queues (linkEmptied k st cause s)
      else linkEmptied k st cause s) := if_neg h

theorem linkLeave_frame : Frame (.fab :: Part.posting) s (linkLeave k st cause s) := by
  by_cases h : (getLink s k).st = .disabled
  · rw [linkLeave_disabled k st cause s h]
    exact Frame.refl _ s
  · have hempty : Frame (.fab :: Part.posting) s (linkEmptied k st cause s) := (frame_fab s _).mono (by decide)
    rw [linkLeave_eq k st cause s h]
    exact .after (by decide) (nbrChange_frame _ _ _) ((hempty.step (failover_frame _ _ _ _) (by decide)).ite hempty)

/-- A link that leaves service takes its own state and cause; every other link's stay, whatever fails over to it. -/
theorem linkLeave_standing (n : Nat) : linkStanding (linkLeave k st cause s) n =
    if n = k then leftService st cause (linkStanding s k) else linkStanding s n := by
  by_cases h : (getLink s k).st = .disabled
  · rw [linkLeave_disabled k st cause s h, leftService, linkStanding, linkStanding, if_pos h]
    split <;> simp_all
  · have hmoved : QueuesOnly (linkEmptied k st cause s) (linkLeave k st cause s) := by
      rw [linkLeave_eq k st cause s h]
      refine .trans ?_ (nbrChange_queuesOnly _ _ _)
      split
      · exact failover_queuesOnly _ _ _ _
      · exact .refl _
    rw [hmoved.standing n, leftService, linkStanding, linkEmptied, getLink_updLink]
    rw [show (linkStanding s k).1 = (getLink s k).st from rfl, if_neg h]
    split <;> rfl

end

/-- A link in service goes down, and no other. -/
theorem linkDown_leaves {k : Nat} (cause : BitVec 4) {s : State} (h : (getLink s k).st ≠ .disabled) :
    (getLink (linkDown k cause s) k).st = .down ∧ (getLink (linkDown k cause s) k).cause = cause ∧
      (∀ n, n ≠ k → (getLink (linkDown k cause s) n).st = (getLink s n).st) ∧
      Frame (.fab :: Part.posting) s (linkDown k cause s) := by
  have hown : linkStanding (linkDown k cause s) k = (.down, cause) := by
    rw [linkDown, linkLeave_standing, if_pos rfl]
    exact if_neg h
  have hother (n : Nat) (hn : n ≠ k) : linkStanding (linkDown k cause s) n = linkStanding s n := by
    rw [linkDown, linkLeave_standing, if_neg hn]
  obtain ⟨hst, hcause⟩ := stands_of_linkStanding hown
  exact ⟨hst, hcause, fun n hn => (stands_of_linkStanding (hother n hn)).1, linkLeave_frame k .down cause s⟩

theorem ne_disabled_of_linkLive {st : LinkSt} (h : linkLive st = true) : st ≠ .disabled := by
  rintro rfl
  exact absurd h (by decide)

/-! ### Ports (R307, R320, R321) -/

/-- One link of a port takes the port's enable. -/
def portLink (en : Bool) (s : State) (k : Nat) : State :=
  if linkUsed s k then
    (if en then updLink k (fun x => linkCleared x .training x.cause) s else linkLeave k .disabled 1 s)
  else s

/-- EN that changes reaches both links. -/
theorem portEnable_changes {p : Nat} {en : Bool} {s : State} (h : en ≠ (getPort s p).en) : portEnable p en s =
    portLink en (portLink en (updPort p (fun x => { x with en := en }) s) (2 * p)) (2 * p + 1) := if_neg h

theorem linkUsed_first (s : State) (p : Nat) : linkUsed s (2 * p) = true := by
  simp [linkUsed]

theorem linkUsed_second (s : State) (p : Nat) : linkUsed s (2 * p + 1) = (getPort s p).split := by
  have hodd : (2 * p + 1) % 2 ≠ 0 := by omega
  have hport : (2 * p + 1) / 2 = p := by omega
  rw [linkUsed, hport, decide_eq_false hodd, Bool.false_or]

theorem getLink_portLink_on (s : State) (k n : Nat) : getLink (portLink true s k) n =
    if n = k ∧ linkUsed s k = true then linkCleared (getLink s k) .training (getLink s k).cause else getLink s n := by
  unfold portLink
  cases linkUsed s k <;> simp

theorem getPort_portLink_on (s : State) (k n : Nat) : getPort (portLink true s k) n = getPort s n := by
  unfold portLink
  split <;> rfl

theorem portLink_off_standing (s : State) (k n : Nat) : linkStanding (portLink false s k) n =
    if n = k ∧ linkUsed s k = true then leftService .disabled 1 (linkStanding s k) else linkStanding s n := by
  unfold portLink
  cases linkUsed s k <;> simp [linkLeave_standing]

/-- The second link's leave does not reach the first. -/
theorem portLink_off_first {p : Nat} {s : State} (h : (getLink s (2 * p)).st ≠ .disabled) :
    linkStanding (portLink false (portLink false s (2 * p)) (2 * p + 1)) (2 * p) = (.disabled, 1) := by
  rw [portLink_off_standing, if_neg (by omega), portLink_off_standing, if_pos ⟨rfl, linkUsed_first s p⟩]
  exact if_neg h

theorem portLink_on_frame (s : State) (k : Nat) : Frame [.fab] s (portLink true s k) :=
  (updLink_frame s k _).ite (Frame.refl _ s)

theorem portLink_off_frame (s : State) (k : Nat) : Frame (.fab :: Part.posting) s (portLink false s k) :=
  (linkLeave_frame k .disabled 1 s).ite (Frame.refl _ s)

theorem pcfgWrite_enabled {p : Nat} {s : State} (h : (getPort s p).en = true) (v : W32) :
    pcfgWrite p v s = portEnable p (bitAt v 31) (fabStat p 5 s) := by
  rw [pcfgWrite, if_pos h]

theorem pcfgWrite_disabled {p : Nat} {s : State} (h : (getPort s p).en = false) (v : W32) :
    pcfgWrite p v s = portEnable p (bitAt v 31) (updPort p (pcfgFields v) s) := by
  rw [pcfgWrite, h, if_neg (by decide)]

/-- EN = 1 on an enabled port changes no more than CFG_ERR. -/
theorem pcfgWrite_keeps_on {p : Nat} {v : W32} {s : State} (hen : (getPort s p).en = true) (hv : bitAt v 31 = true) :
    pcfgWrite p v s = updPort p (fun x => { x with en := true }) (fabStat p 5 s) := by
  have hsame : (getPort (fabStat p 5 s) p).en = true := by
    rw [fabStat, getPort_updPort, if_pos rfl]
    exact hen
  rw [pcfgWrite_enabled hen, hv]
  exact if_pos hsame.symm

/-- EN = 1 on a disabled port starts its links. -/
theorem pcfgWrite_raises {p : Nat} {v : W32} {s : State} (hen : (getPort s p).en = false) (hv : bitAt v 31 = true) :
    pcfgWrite p v s = portLink true (portLink true
      (updPort p (fun x => { x with en := true }) (updPort p (pcfgFields v) s)) (2 * p)) (2 * p + 1) := by
  have hwas : (getPort (updPort p (pcfgFields v) s) p).en = false := by
    rw [getPort_updPort, if_pos rfl]
    exact hen
  rw [pcfgWrite_disabled hen, hv, portEnable_changes (by rw [hwas]; decide)]

/-- EN = 0 on an enabled port takes its links out of service. -/
theorem pcfgWrite_lowers {p : Nat} {v : W32} {s : State} (hen : (getPort s p).en = true) (hv : bitAt v 31 = false) :
    pcfgWrite p v s = portLink false (portLink false
      (updPort p (fun x => { x with en := false }) (fabStat p 5 s)) (2 * p)) (2 * p + 1) := by
  have hwas : (getPort (fabStat p 5 s) p).en = true := by
    rw [fabStat, getPort_updPort, if_pos rfl]
    exact hen
  rw [pcfgWrite_enabled hen, hv, portEnable_changes (by rw [hwas]; decide)]

/-! ### The routing banks (R317, R329) -/

/-- Every link's routes are on again. -/
def routesOn (s : State) : State := (List.range 32).foldl (fun s k => updLink k (fun x => { x with routesOff := false }) s) s

theorem fabBankFlip_eq (s : State) : fabBankFlip s = retryHeld (routesOn { s with fab := { s.fab with bank := !s.fab.bank } }) := rfl

theorem routesOn_frame (s : State) : Frame [.fab] s (routesOn s) := frame_foldl (fun t k => updLink_frame t k _) _ s

theorem bank_routesOn (s : State) : (routesOn s).fab.bank = s.fab.bank :=
  foldl_keeps (I := fun t => t.fab.bank = s.fab.bank) (fun _ _ h => by exact h) _ rfl

theorem routes_routesOn (s : State) : (routesOn s).fab.routes = s.fab.routes :=
  foldl_keeps (I := fun t => t.fab.routes = s.fab.routes) (fun _ _ h => by exact h) _ rfl

theorem st_routesOn (s : State) (n : Nat) : (getLink (routesOn s) n).st = (getLink s n).st := by
  refine foldl_keeps (I := fun t => (getLink t n).st = (getLink s n).st) (fun t k h => ?_) _ rfl
  rw [getLink_updLink, ← h]
  split
  · next hn => rw [hn]
  · rfl

/-! ### Bring-up (R307, R308) -/

/-- A LINIT that agrees and echoes is kept with its round trip. -/
theorem doLinitReceive_agrees {k : Nat} {m : Linit} {s : State} (hst : (getLink s k).st = .linit) (hf : linitFault s k m = none)
    (he : m.echoes = true) : doLinitReceive k m s = updLink k (fun x => { x with rtt := satOf 16 m.rtt, peerLinit := some m }) s := by
  have hm : { m with echoes := true } = m := by rw [← he]
  rw [doLinitReceive, if_pos hst, hf]
  simp only [he, if_true, hm, ite_self]

theorem doLinitReceive_disagrees {k : Nat} {m : Linit} {c : BitVec 4} {s : State} (hst : (getLink s k).st = .linit)
    (hf : linitFault s k m = some c) : doLinitReceive k m s = linkDown k c s := by
  rw [doLinitReceive, if_pos hst, hf]

section
variable {s : State} {k : Nat} {m : Linit} (hver : m.version = 1) (hsplit : m.split = (getPort s (k / 2)).split)

include hver hsplit

theorem linitFault_policy (h : linkPolicy s k = 2 ∧ m.policy = 0 ∨ linkPolicy s k = 0 ∧ m.policy = 2) :
    linitFault s k m = some 8 := by
  rw [linitFault, if_neg (not_or.mpr ⟨not_not.mpr hver, not_not.mpr hsplit⟩), if_pos h]

theorem linitFault_reach (h : ¬ (linkPolicy s k = 2 ∧ m.policy = 0 ∨ linkPolicy s k = 0 ∧ m.policy = 2)) (he : m.echoes = true)
    (hrtt : 3500 < m.rtt) : linitFault s k m = some 9 := by
  rw [linitFault, if_neg (not_or.mpr ⟨not_not.mpr hver, not_not.mpr hsplit⟩), if_neg h, if_pos ⟨he, hrtt⟩]

end

/-! ### Loss of a reference (R295, R320) -/

/-- The first link on a reference. -/
def refBase (east : Bool) : Nat := if east then 16 else 0

/-- The links on a reference. -/
def refLinks (east : Bool) : List Nat := (List.range 16).map (fun i => refBase east + i)

theorem mem_refLinks (east : Bool) (n : Nat) : n ∈ refLinks east ↔
    (if east then 16 else 0) ≤ n ∧ n < (if east then 32 else 16) := by
  have hend : (if east then 32 else 16) = refBase east + 16 := by cases east <;> rfl
  rw [refLinks, List.mem_map, hend, ← refBase]
  constructor
  · rintro ⟨i, hi, rfl⟩
    rw [List.mem_range] at hi
    omega
  · rintro ⟨hlo, hhi⟩
    exact ⟨n - refBase east, List.mem_range.mpr (by omega), by omega⟩

/-- Every link on the reference goes down. -/
def referenceLost (east : Bool) (s : State) : State := (refLinks east).foldl (fun s k => linkDown k 0xD s) s

theorem exec_linkReferenceLoss (east : Bool) (s : State) :
    exec (.linkReferenceLoss east) s = .next (referenceLost east s) := by
  rw [referenceLost, refLinks, List.foldl_map]
  rfl

theorem referenceLost_leaves (east : Bool) (s : State) : Frame (.fab :: Part.posting) s (referenceLost east s) ∧
    ∀ n, linkStanding (referenceLost east s) n =
      if n ∈ refLinks east then leftService .down 0xD (linkStanding s n) else linkStanding s n :=
  foldl_units (get := linkStanding) (I := Frame (.fab :: Part.posting) s) (fun _ x => leftService_twice x)
    (fun t ht k _ => ⟨ht.step (linkLeave_frame k .down 0xD t) (List.Subset.refl _), linkLeave_standing k .down 0xD t⟩)
    (Frame.refl _ s)

/-! ### O33 -/

/-- Settles O33: a port's write goes through `portLink` on its two links, every loss through `linkDown_leaves`, the reference's through
`referenceLost_leaves`. -/
theorem linkBringUp : Obligations.LinkBringUp := by
  refine ⟨?ignored, ?enable, ?disable, ?flip, ?training, ?align, ?linit, ?fault, ?disagrees, ?limit, ?signal, ?silence, ?retrain,
    ?reference⟩
  case ignored =>
    intro s p v hen hv
    refine ⟨_, congrArg Host.Outcome.next (pcfgWrite_keeps_on hen hv), ?_, rfl, fun n hn => ?_, frame_fab s _⟩
    · rw [getPort_updPort, if_pos rfl, fabStat, getPort_updPort, if_pos rfl, ← hen]
    · rw [getPort_updPort, if_neg hn, fabStat, getPort_updPort, if_neg hn]
  case enable =>
    intro s p v hen hv
    refine ⟨_, congrArg Host.Outcome.next (pcfgWrite_raises hen hv), ?_, ?_, fun hs => ?_, fun n hn => ?_, fun n hn => ?_, ?_⟩
    · simp [getPort_portLink_on]
    · simp [getLink_portLink_on, linkUsed_first, linkCleared]
    · simp [getLink_portLink_on, linkUsed_second, getPort_portLink_on, pcfgFields, hs, linkCleared]
    · have hfirst : n ≠ 2 * p.val := by omega
      have hsecond : n ≠ 2 * p.val + 1 := by omega
      simp [getLink_portLink_on, hfirst, hsecond]
    · simp [getPort_portLink_on, hn]
    · exact .after (by decide) (portLink_on_frame _ _) <| .after (by decide) (portLink_on_frame _ _) (frame_fab s _)
  case disable =>
    intro s p v hen hv hst
    have hfirst := portLink_off_first (s := updPort p.val (fun x => { x with en := false }) (fabStat p.val 5 s)) hst
    obtain ⟨hdis, hcause⟩ := stands_of_linkStanding hfirst
    refine ⟨_, congrArg Host.Outcome.next (pcfgWrite_lowers hen hv), hdis, hcause, ?_⟩
    exact .after (List.Subset.refl _) (portLink_off_frame _ _) <| .after (List.Subset.refl _) (portLink_off_frame _ _)
      ((frame_fab s _).mono (by decide))
  case flip =>
    intro s v hv
    have hheld := retryHeld_queuesOnly (routesOn { s with fab := { s.fab with bank := !s.fab.bank } })
    refine ⟨fabBankFlip s, congrArg Host.Outcome.next (if_pos hv), hheld.bank.trans (bank_routesOn _),
      hheld.routes.trans (routes_routesOn _), fun k => (hheld.st k.val).trans (st_routesOn _ k.val), ?_⟩
    exact .after (by decide) (retryHeld_frame _) <| .after (by decide) (routesOn_frame _) (frame_fab s _)
  case training =>
    intro s k rev polinv hst
    refine ⟨_, congrArg Host.Outcome.next (if_pos ⟨hst, rfl⟩), ?_, ?_, frame_fab s _⟩
    · rw [getLink_updLink, if_pos rfl]
      rfl
    · rw [getPort_updLink, getPort_updPort, if_pos rfl]
  case align => exact fun s k hst => congrArg Host.Outcome.next (if_pos hst)
  case linit => exact fun s k m hst hf he => congrArg Host.Outcome.next (doLinitReceive_agrees hst hf he)
  case fault => exact fun s k m hver hsplit => ⟨linitFault_policy hver hsplit, linitFault_reach hver hsplit⟩
  case disagrees =>
    exact fun s k m c hst hf hne => ⟨_, congrArg Host.Outcome.next (doLinitReceive_disagrees hst hf), linkDown_leaves c hne⟩
  case limit => exact fun s k hst hne => ⟨_, congrArg Host.Outcome.next (if_pos hst), linkDown_leaves 6 hne⟩
  case signal => exact fun s k hst hne => ⟨_, congrArg Host.Outcome.next (if_pos hst), linkDown_leaves 2 hne⟩
  case silence => exact fun s k hst hne => ⟨_, congrArg Host.Outcome.next (if_pos hst), linkDown_leaves 5 hne⟩
  case retrain => exact fun s k hst => congrArg Host.Outcome.next (if_pos hst)
  case reference =>
    intro s east
    obtain ⟨hframe, hall⟩ := referenceLost_leaves east s
    refine ⟨_, exec_linkReferenceLoss east s, fun n hn hst => ?_, fun n hn => ?_, hframe⟩
    · have hdown : linkStanding (referenceLost east s) n = (.down, 0xD) := by
        rw [hall, if_pos ((mem_refLinks east n).mpr hn)]
        exact if_neg hst
      exact stands_of_linkStanding hdown
    · have hsame : linkStanding (referenceLost east s) n = linkStanding s n := by
        rw [hall]
        split
        · next hin =>
          exact if_pos (hn.resolve_right (not_not.mpr ((mem_refLinks east n).mp hin)))
        · rfl
      exact stands_of_linkStanding hsame

end Sys2Proof.Machine
end

section
/-! SUPPORT. Flits of a fabric link and their replay (R300, R305, R306), discovery and keys (R310, R311, R314, R317, R319, R463), relay
and what is held for want of a route (R316, R325, R328); and the settlement of O34. -/

namespace Sys2Proof.Machine

theorem updLink_updPort (k p : Nat) (f : Link → Link) (g : Port → Port) (s : State) :
    updLink k f (updPort p g s) = updPort p g (updLink k f s) := rfl

theorem takeItem_frame (k : Nat) (i : Item) (s : State) : Frame [.fab] s (takeItem k i s) := frame_fab s _

/-- A link that goes down once the fabric alone has changed. -/
theorem linkDown_after {k : Nat} (cause : BitVec 4) {s u : State} (h : (getLink u k).st ≠ .disabled) (hu : Frame [.fab] s u) :
    (getLink (linkDown k cause u) k).st = .down ∧ (getLink (linkDown k cause u) k).cause = cause ∧
      Frame (.fab :: Part.posting) s (linkDown k cause u) := by
  obtain ⟨hst, hcause, -, hframe⟩ := linkDown_leaves cause h
  exact ⟨hst, hcause, .after (List.Subset.refl _) hframe (hu.mono (by decide))⟩

/-! ### Flits that fail their checks (R300, R305, R306) -/

/-- One more uncorrectable flit of the run is counted. -/
def uncorrCounted (k : Nat) (s : State) : State :=
  updPort (k / 2) (fun p => { p with uncorr := satInc p.uncorr })
    (updLink k (fun x => { x with uncorrRun := (getLink s k).uncorrRun + 1 }) s)

theorem st_uncorrCounted (k : Nat) (s : State) : (getLink (uncorrCounted k s) k).st = (getLink s k).st := by
  rw [uncorrCounted, getLink_updPort, getLink_updLink, if_pos rfl]

section
variable {k : Nat} {s : State} (hlive : linkLive (getLink s k).st = true) (f : Flit)

include hlive

/-- A flit that fails its CRC or its tag is answered by a NAK, and ends a run of uncorrectable ones. -/
theorem doFlitReceive_fails {c : FlitCheck} (hc : c = .crcFail ∨ c = .tagFail) :
    doFlitReceive k f c s = updLink k (fun x => { x with uncorrRun := 0, nakOwed := true }) s := by
  have hdrop : doFlitReceive k f c s = dropFlit k (updLink k (fun x => { x with uncorrRun := 0 }) s) := by
    rw [doFlitReceive, if_pos hlive]
    rcases hc with rfl | rfl <;> rfl
  rw [hdrop, dropFlit, updLink_updLink]

theorem doFlitReceive_uncorrectable : doFlitReceive k f .uncorrectable s =
    if 16 ≤ (getLink s k).uncorrRun + 1 then linkDown k 3 (uncorrCounted k s) else dropFlit k (uncorrCounted k s) := if_pos hlive

theorem doFlitReceive_uncorrectable_drops (h : (getLink s k).uncorrRun < 15) : doFlitReceive k f .uncorrectable s =
    updLink k (fun x => { x with uncorrRun := (getLink s k).uncorrRun + 1, nakOwed := true })
      (updPort (k / 2) (fun p => { p with uncorr := satInc p.uncorr }) s) := by
  rw [doFlitReceive_uncorrectable hlive, if_neg (by omega), dropFlit, uncorrCounted, updLink_updPort, updLink_updLink,
    updLink_updPort]

end

/-! ### Headers (R301, R304, R305) -/

section
variable (k : Nat) (f : Flit) (s : State)

theorem rxSeq_takeHeader : (getLink (takeHeader k f s) k).rxSeq = (getLink s k).rxSeq := by
  rw [takeHeader, getLink_updLink, if_pos rfl]
  simp only [apply_ite Link.rxSeq, ite_self]

theorem st_takeHeader : (getLink (takeHeader k f s) k).st = (getLink s k).st := by
  rw [takeHeader, getLink_updLink, if_pos rfl]
  simp only [apply_ite Link.st, ite_self]

/-- An acknowledgement of an outstanding flit takes it and all before it. -/
theorem unacked_takeHeader (hack : f.ackv = true) (hany : ((getLink s k).unacked.any (fun t => t.num == f.ack)) = true) :
    (getLink (takeHeader k f s) k).unacked = ackPop f.ack (getLink s k).unacked := by
  rw [takeHeader, getLink_updLink, if_pos rfl]
  dsimp only
  rw [if_pos ⟨hack, hany⟩]

/-- A header that acknowledges nothing and returns no credit leaves the link. -/
theorem takeHeader_plain (hack : f.ackv = false) (h0 : f.cv0 = false) (h1 : f.cv1 = false) :
    takeHeader k f s = updLink k (fun x => x) s := by
  simp only [takeHeader, hack, h0, h1, Bool.false_eq_true, false_and, if_false]

/-- A good flit's header is taken. -/
def headerTaken : State := takeHeader k f (updLink k (fun x => { x with uncorrRun := 0 }) s)

end

/-! ### Data (R302, R305, R320) -/

/-- A DATA flit in order is acknowledged and its credit owed, or kept back while its messages for the die wait. -/
def flitTaken (k : Nat) (f : Flit) (s : State) : State :=
  updLink k (fun x => { x with
    rxSeq := x.rxSeq + 1, rxCtr := x.rxCtr + 1, ackOwed := x.ackOwed + 1, nakOwed := false,
    owed := if (dieWaits s k && f.items.any (forDie s)) = true then x.owed else Tab.upd 0 x.owed f.vl.toNat (fun n => n + 1),
    heldCr := if (dieWaits s k && f.items.any (forDie s)) = true then Tab.upd 0 x.heldCr f.vl.toNat (fun n => n + 1)
      else x.heldCr }) s

section
variable {k : Nat} {f : Flit} {s : State} (hup : (getLink s k).st = .up)

include hup

theorem takeData_inOrder (hseq : f.seq = (getLink s k).rxSeq) :
    takeData k f s = f.items.foldl (deliverItem k f.vl) (flitTaken k f s) := by
  unfold takeData
  dsimp only
  rw [if_neg (by simp [hup]), if_pos hseq, if_neg (by simp [hup])]
  rfl

theorem takeData_outOfOrder (hseq : f.seq ≠ (getLink s k).rxSeq) :
    takeData k f s = updLink k (fun x => { x with nakOwed := true }) s := by
  unfold takeData
  dsimp only
  rw [if_neg (by simp [hup]), if_neg hseq]

variable (htype : f.type = 1) (hnak : f.nak = false)

include htype hnak

theorem doFlitReceive_data : doFlitReceive k f .good s = takeData k f (headerTaken k f s) := by
  have hlive : linkLive (getLink s k).st = true := by rw [hup]; rfl
  have hdata : f.type = 1 ∧ linkLive (getLink (headerTaken k f s) k).st = true := by
    refine ⟨htype, ?_⟩
    rw [headerTaken, st_takeHeader, getLink_updLink, if_pos rfl]
    exact hlive
  have hknown : ¬ 2 < f.type.toNat := by rw [htype]; decide
  have hnotLinit : f.type ≠ 2 := by rw [htype]; decide
  rw [doFlitReceive, if_pos hlive]
  dsimp only
  rw [if_neg hknown, if_neg hnotLinit, hnak]
  exact if_pos hdata

/-- An empty flit in order that says nothing of flits sent only moves the receiver on. -/
theorem doFlitReceive_empty (hack : f.ackv = false) (h0 : f.cv0 = false) (h1 : f.cv1 = false)
    (hseq : f.seq = (getLink s k).rxSeq) (hitems : f.items = []) : doFlitReceive k f .good s =
      updLink k (fun x => { x with
        uncorrRun := 0, rxSeq := x.rxSeq + 1, rxCtr := x.rxCtr + 1, ackOwed := x.ackOwed + 1, nakOwed := false,
        owed := Tab.upd 0 x.owed f.vl.toNat (fun n => n + 1) }) s := by
  have hplain : headerTaken k f s = updLink k (fun x => { x with uncorrRun := 0 }) s := by
    rw [headerTaken, takeHeader_plain _ _ _ hack h0 h1, updLink_updLink]
  have hlink : getLink (headerTaken k f s) k = { getLink s k with uncorrRun := 0 } := by
    rw [hplain, getLink_updLink, if_pos rfl]
  rw [doFlitReceive_data hup htype hnak, takeData_inOrder (by rw [hlink]; exact hup) (by rw [hlink]; exact hseq), hitems]
  simp only [List.foldl_nil, flitTaken, hitems, List.any_nil, Bool.and_false, Bool.false_eq_true, if_false]
  rw [hplain, updLink_updLink]

end

theorem kindVl_three_le {n : Nat} (h : kindVl n = some 3) : n ≤ 0x26 := by
  unfold kindVl at h
  grind

/-- A notice on its lane is handed on. -/
theorem deliverItem_notice {k : Nat} {m : Msg} {s : State} (hkind : kindVl m.hdr.kind.toNat = some 3) (hid : s.fab.myidV = true) :
    (deliverItem k 3 s (.msg m)).fab.inbox = s.fab.inbox ++ [(Fin.ofNat 32 k, .msg m)] := by
  have hlow := kindVl_three_le hkind
  have hlane : kindVl m.hdr.kind.toNat = some (3 : BitVec 3).toNat := hkind
  unfold deliverItem
  dsimp only
  rw [if_neg (by decide), if_neg (not_not.mpr hlane), if_neg (by simp [hid]), if_neg (by omega)]

/-! ### Replay (R305, R306) -/

/-- One more replay is counted at the port. -/
def replayCounted (k : Nat) (s : State) : State := updPort (k / 2) (fun p => { p with replays := satInc p.replays }) s

theorem startReplay_eq {k : Nat} {s : State} (h : (getLink s k).unacked ≠ []) : startReplay k s =
    if 8 ≤ (getLink s k).replaysSame + 1 then linkDown k 4 (replayCounted k s)
    else updLink k (fun x => { x with replay := (getLink s k).unacked, replaysSame := (getLink s k).replaysSame + 1 })
      (replayCounted k s) := if_neg h

/-! ### Discovery (R310, R311, R463) -/

/-- The keeper's verdict on a peer's report for this side's nonce and the peer's HELLO. -/
def attestVerdict (k : Nat) (r : Report) (s : State) : Bool :=
  match (getLink s k).hello with
  | some (.hello d ..) => reportOk s (getLink s k).nonce d r
  | _ => false

/-- The verdict is kept and sent. -/
def verdictSent (k : Nat) (v : Bool) (s : State) : State :=
  linkPut k 4 (.lnk (.verdict v)) (updLink k (fun x => { x with attested := v, myVerdict := some v }) s)

theorem drawRandom_verdictSent (k : Nat) (v : Bool) (s : State) :
    drawRandom (verdictSent k v s) = ((drawRandom s).1, verdictSent k v (drawRandom s).2) := rfl

/-- The nonce does not depend on the verdict sent before it is drawn. -/
theorem drawNonce_verdictSent (k : Nat) (v : Bool) (s : State) :
    drawNonce (verdictSent k v s) = ((drawNonce s).1, verdictSent k v (drawNonce s).2) := by
  simp only [drawNonce, drawRandom_verdictSent]

theorem doAttest_eq {k : Nat} {r : Report} {s t : State} (ht : t = takeItem k (.lnk (.attest r)) s)
    (hst : (getLink s k).st = .discover) : doAttest k r s =
      if attestVerdict k r t = true then verdictsMet k (verdictSent k (attestVerdict k r t) t)
      else attemptFail k (drawNonce (verdictSent k (attestVerdict k r t) t)).1
        (drawNonce (verdictSent k (attestVerdict k r t) t)).2 := by
  subst ht
  exact if_pos hst

theorem attestVerdict_accepts {k : Nat} {r : Report} {s : State} {d : Digest} {pkg : Pkg} {asg : Bool} {link : LinkI} {caps : Byte}
    {n : BitVec 256} (h : (getLink s k).hello = some (.hello d pkg asg link caps n))
    (hok : reportOk s (getLink s k).nonce d r = true) : attestVerdict k r s = true := by
  rw [attestVerdict, h]
  exact hok

theorem attestVerdict_rejects {k : Nat} {r : Report} {s : State}
    (h : ∀ d pkg asg link caps n, (getLink s k).hello = some (.hello d pkg asg link caps n) →
      reportOk s (getLink s k).nonce d r = false) : attestVerdict k r s = false := by
  unfold attestVerdict
  split
  · next hhello => exact h _ _ _ _ _ _ hhello
  · rfl

theorem doAttest_accepts {k : Nat} {r : Report} {s t : State} (ht : t = takeItem k (.lnk (.attest r)) s)
    (hst : (getLink s k).st = .discover) (hv : attestVerdict k r t = true) :
    doAttest k r s = verdictsMet k (verdictSent k true t) := by
  rw [doAttest_eq ht hst, hv, if_pos rfl]

/-- A rejected report fails the attempt; the next nonce is the one drawn as the report came. -/
theorem doAttest_rejects {k : Nat} {r : Report} {s t : State} (ht : t = takeItem k (.lnk (.attest r)) s)
    (hst : (getLink s k).st = .discover) (hv : attestVerdict k r t = false) :
    doAttest k r s = attemptFail k (drawNonce t).1 (verdictSent k false (drawNonce t).2) := by
  rw [doAttest_eq ht hst, hv, if_neg (by decide), drawNonce_verdictSent]

/-- A first or second failure leads to the next attempt. -/
theorem attemptFail_again {k : Nat} {s : State} (h : (getLink s k).attempts < 2) (nonce : BitVec 256) : attemptFail k nonce s =
    startAttempt k nonce (updLink k (fun x => { x with attempts := (getLink s k).attempts + 1 }) s) := by
  unfold attemptFail
  dsimp only
  rw [if_neg (by omega)]

/-- A link that has failed its third attempt, its neighbour entry not yet changed. -/
def linkQuarantined (k : Nat) (s : State) : State :=
  fabStat (k / 2) 2 (updLink k (fun x => { x with
    st := .quarantine, cause := 0xA, attempts := 0, hello := none, myVerdict := none, peerVerdict := none, keyxSent := false }) s)

theorem attemptFail_third {k : Nat} {s : State} (h : (getLink s k).attempts = 2) (nonce : BitVec 256) : attemptFail k nonce s =
    ember 2 0x0902 k none 0xA (nbrChange k (fun e => { e with nst := 3 }) (linkQuarantined k s)) := by
  unfold attemptFail
  dsimp only
  rw [if_pos (by omega)]
  rfl

theorem attemptFail_quarantines {k : Nat} {s : State} (h : (getLink s k).attempts = 2) (nonce : BitVec 256) :
    (getLink (attemptFail k nonce s) k).st = .quarantine ∧ (getLink (attemptFail k nonce s) k).cause = 0xA ∧
      (getNbr (attemptFail k nonce s) k).nst = 3 ∧ Frame (.fab :: Part.posting) s (attemptFail k nonce s) := by
  have hquar : linkStanding (linkQuarantined k s) k = (.quarantine, 0xA) := by
    rw [linkStanding, linkQuarantined, fabStat, getLink_updPort, getLink_updLink, if_pos rfl]
  have hember := ember_frame 2 0x0902 k none 0xA (nbrChange k (fun e => { e with nst := 3 }) (linkQuarantined k s))
  have hframe : Frame [.fab] s (linkQuarantined k s) := frame_fab s _
  rw [attemptFail_third h]
  obtain ⟨hst, hcause⟩ := stands_of_linkStanding
    (((ember_queuesOnly _ _ _ _ _ _).standing k).trans (((nbrChange_queuesOnly _ _ _).standing k).trans hquar))
  refine ⟨hst, hcause, ?_, ?_⟩
  · rw [getNbr, hember .fab (by decide), ← getNbr, nst_nbrChange]
  · exact .after (by decide) hember <| .after (List.Subset.refl _) (nbrChange_frame _ _ _) (hframe.mono (by decide))

/-! ### Verdicts, keys and UP (R311, R314, R317) -/

section
variable {k : Nat} {s : State} (hmine : (getLink s k).myVerdict = some true) (hpeer : (getLink s k).peerVerdict = some true)

include hmine hpeer

theorem verdictsMet_plain (henc : (getLink s k).encrypted = false) : verdictsMet k s = enterUp k s := by
  rw [verdictsMet, if_pos ⟨hmine, hpeer⟩, henc, if_neg (by decide)]

theorem verdictsMet_encrypted {d : Digest} {pkg : Pkg} {asg : Bool} {link : LinkI} {caps : Byte} {nonce : BitVec 256}
    (henc : (getLink s k).encrypted = true) (hhello : (getLink s k).hello = some (.hello d pkg asg link caps nonce)) :
    verdictsMet k s = if s.sec.iddigest.toNat < d.toNat then
      updLink k (fun x => { x with keyxSent := true }) (linkPut k 4 (.lnk (.keyx false)) s) else s := by
  rw [verdictsMet, if_pos ⟨hmine, hpeer⟩, henc, if_pos rfl, hhello]

end

/-- The identity a peer gave in its HELLO. -/
def helloId (x : Link) : Option Digest := match x.hello with | some (.hello d ..) => some d | _ => none

/-- A link that has become UP, before its neighbour entry and the held messages. -/
def upEntered (k : Nat) (s : State) : State :=
  updLink k (fun x => { x with
    st := .up, attempts := 0, keyDone := true, keyxSent := false, upId := helloId (getLink s k),
    routesOff := x.routesOff || ((getLink s k).upId.isSome && (getLink s k).upId != helloId (getLink s k)) }) s

theorem enterUp_eq (k : Nat) (s : State) :
    enterUp k s = retryHeld (nbrChange k (fun n => { n with nst := 2 }) (fabStat (k / 2) 1 (upEntered k s))) := rfl

theorem enterUp_queuesOnly (k : Nat) (s : State) : QueuesOnly (upEntered k s) (enterUp k s) := by
  have hflag : QueuesOnly (upEntered k s) (fabStat (k / 2) 1 (upEntered k s)) := ⟨fun _ => rfl, rfl, rfl⟩
  rw [enterUp_eq]
  exact (hflag.trans (nbrChange_queuesOnly _ _ _)).trans (retryHeld_queuesOnly _)

theorem enterUp_leaves (k n : Nat) (s : State) : (getLink (enterUp k s) k).st = .up ∧ (getLink (enterUp k s) k).attempts = 0 ∧
    (n ≠ k → (getLink (enterUp k s) n).st = (getLink s n).st) := by
  have hrest := enterUp_queuesOnly k s
  have hattempts := congrArg Link.attempts (hrest.links k)
  refine ⟨(hrest.st k).trans ?_, hattempts.trans ?_, fun hn => (hrest.st n).trans ?_⟩
  · rw [upEntered, getLink_updLink, if_pos rfl]
  · rw [upEntered, getLink_updLink, if_pos rfl]
    rfl
  · rw [upEntered, getLink_updLink, if_neg hn]

/-! ### A withheld peer (R306, R319) -/

/-- A link whose peer has withheld, its messages not yet failed over. -/
def peerWithheld (k : Nat) (s : State) : State := updLink k (fun x => { x with st := .withheld, cause := 0xC, queues := [], sentB := [] }) s

theorem doLinkState_withheld {k : Nat} {s t : State} (ht : t = takeItem k (.lnk (.linkState true)) s)
    (hlive : linkLive (getLink s k).st = true) : doLinkState k true s = nbrChange k (fun n => { n with nst := 4 })
      (if (getLink s k).st = .up then failover k (getLink s k).unacked (getLink s k).queues (peerWithheld k t)
        else peerWithheld k t) := by
  subst ht
  exact if_pos hlive

theorem peerWithheld_standing (k : Nat) (s : State) : linkStanding (peerWithheld k s) k = (.withheld, 0xC) := by
  rw [linkStanding, peerWithheld, getLink_updLink, if_pos rfl]

theorem doLinkState_withheld_leaves {k : Nat} {s t : State} (ht : t = takeItem k (.lnk (.linkState true)) s)
    (hlive : linkLive (getLink s k).st = true) : (getLink (doLinkState k true s) k).st = .withheld ∧
      (getLink (doLinkState k true s) k).cause = 0xC ∧ Frame (.fab :: Part.posting) s (doLinkState k true s) := by
  have hframe : Frame (.fab :: Part.posting) s (peerWithheld k t) := by
    subst ht
    exact (frame_fab s _).mono (by decide)
  have hmoved : QueuesOnly (peerWithheld k t) (if (getLink s k).st = .up then
      failover k (getLink s k).unacked (getLink s k).queues (peerWithheld k t) else peerWithheld k t) := by
    split
    · exact failover_queuesOnly _ _ _ _
    · exact .refl _
  rw [doLinkState_withheld ht hlive]
  obtain ⟨hst, hcause⟩ := stands_of_linkStanding
    (((hmoved.trans (nbrChange_queuesOnly _ _ _)).standing k).trans (peerWithheld_standing k t))
  exact ⟨hst, hcause, .after (List.Subset.refl _) (nbrChange_frame _ _ _)
    ((hframe.step (failover_frame _ _ _ _) (List.Subset.refl _)).ite hframe)⟩

/-! ### Keys (R314) -/

/-- The encapsulation key that a link in UP receives is answered, and both sides start afresh. -/
theorem doKeyx_renews {k : Nat} {s : State} (hup : (getLink s k).st = .up) (henc : (getLink s k).encrypted = true)
    (hsent : (getLink s k).keyxSent = false) : doKeyx k false true s =
      updLink k (fun x => { x with keyxSent := false, keyCount := 0 })
        (linkPut k 4 (.lnk (.keyx true)) (takeItem k (.lnk (.keyx false)) s)) := by
  have hnot : (getLink s k).st ≠ .discover := by rw [hup]; decide
  exact (if_neg (fun h => hnot h.1)).trans (if_pos ⟨hup, henc, hsent.symm, rfl⟩)

theorem execKeyReexchange_sends {k : LinkI} {d : Digest} {pkg : Pkg} {asg : Bool} {link : LinkI} {caps : Byte} {nonce : BitVec 256}
    {s : State} (hup : (getLink s k.val).st = .up) (henc : (getLink s k.val).encrypted = true)
    (hhello : (getLink s k.val).hello = some (.hello d pkg asg link caps nonce)) (hlower : s.sec.iddigest.toNat < d.toNat) :
    execKeyReexchange k s =
      .next (linkPut k.val 4 (.lnk (.keyx false)) (updLink k.val (fun x => { x with keyxSent := true }) s)) := by
  unfold execKeyReexchange
  dsimp only
  rw [hhello]
  exact congrArg Host.Outcome.next (if_pos ⟨hup, henc, decide_eq_true hlower⟩)

/-! ### Relay (R316, R325, R328) -/

/-- A message for another package goes on, or is lost at its last hop. -/
theorem doRelay_passes {k : Nat} {m : Msg} {s t : State} (ht : t = takeItem k (.msg m) s)
    (hkind : kindVl m.hdr.kind.toNat = some m.vl.toNat) (hid : s.fab.myidV = true) (hheld : s.snuf.wheld = false)
    (hdst : m.hdr.dst ≠ s.fab.myid) (htaper : m.hdr.kind ≠ 0x13) : doRelay k m s =
      if m.hdr.hops = 0 then reportLoss m 2 (ember 2 0x0A01 m.hdr.src.toNat none m.hdr.dst.toNat (countDrop (tstatSet 1 t)))
      else egress { m with hdr := { m.hdr with hops := m.hdr.hops - 1 } } t := by
  have hgoes : ¬ ((!t.fab.myidV) = true ∨ t.snuf.wheld = true ∨ m.hdr.dst = t.fab.myid ∨ m.hdr.kind = 0x13) := by
    subst ht
    have hset : (takeItem k (.msg m) s).fab.myidV = true := hid
    have hwell : (takeItem k (.msg m) s).snuf.wheld = false := hheld
    rw [hset, hwell]
    rintro (h | h | h | h)
    · exact absurd h (by decide)
    · exact absurd h (by decide)
    · exact hdst h
    · exact htaper h
  subst ht
  exact (if_neg (not_not.mpr hkind)).trans (if_neg hgoes)

theorem doNoRoute_discards {dst : Pkg} {m : Msg} {r : List Msg} {s : State}
    (h : s.fab.noRoute.filter (fun m => m.hdr.dst == dst) = m :: r) : doNoRoute dst s =
      (m :: r).foldl (fun s m => reportLoss m 2 s)
        (raiseEmber { emb 2 0x0903 dst.toNat none (r.length + 1) with reqtag := m.hdr.reqtag }
          { s with fab := { s.fab with noRoute := s.fab.noRoute.filter (fun m => m.hdr.dst != dst) } }) := by
  unfold doNoRoute
  rw [h]
  rfl

/-! ### O34 -/

/-- Settles O34: each event is an equation of its function in the case the clause names; a link that goes down, is quarantined, comes UP
or whose peer withholds keeps its new standing, for what follows moves egress queues only (`QueuesOnly`). -/
theorem linkFlitsDiscoveryAndKeys : Obligations.LinkFlitsDiscoveryAndKeys := by
  refine ⟨?fails, ?uncorrectable, ?sixteenth, ?empty, ?header, ?outOfOrder, ?handedOn, ?replays, ?eighth, ?hello, ?accepts, ?rejects,
    ?verdict, ?met, ?up, ?withheld, ?peerDown, ?keysMet, ?renews, ?again, ?third, ?repeats, ?advance, ?reexchange, ?relay, ?noRoute⟩
  case fails => exact fun s k f c hlive hc => congrArg Host.Outcome.next (doFlitReceive_fails hlive f hc)
  case uncorrectable => exact fun s k f hlive hrun => congrArg Host.Outcome.next (doFlitReceive_uncorrectable_drops hlive f hrun)
  case sixteenth =>
    intro s k f hlive hrun
    have hdown : doFlitReceive k.val f .uncorrectable s = linkDown k.val 3 (uncorrCounted k.val s) := by
      rw [doFlitReceive_uncorrectable hlive, if_pos (by omega)]
    refine ⟨_, congrArg Host.Outcome.next hdown, linkDown_after 3 ?_ (frame_fab s _)⟩
    rw [st_uncorrCounted]
    exact ne_disabled_of_linkLive hlive
  case empty =>
    exact fun s k f hup htype hnak hack h0 h1 hseq hitems =>
      congrArg Host.Outcome.next (doFlitReceive_empty hup htype hnak hack h0 h1 hseq hitems)
  case header =>
    intro s k f a hup htype hnak
    have hlink : getLink (updLink k.val (fun x => { x with uncorrRun := 0 }) s) k.val = { getLink s k.val with uncorrRun := 0 } := by
      rw [getLink_updLink, if_pos rfl]
    refine ⟨congrArg Host.Outcome.next (doFlitReceive_data hup htype hnak), ?_, fun hack hany => ?_⟩
    · rw [rxSeq_takeHeader, hlink]
    · rw [unacked_takeHeader _ _ _ hack (by rw [hlink]; exact hany), hlink]
  case outOfOrder => exact fun s k f hup _ hseq => takeData_outOfOrder hup hseq
  case handedOn =>
    intro s k f i hup hseq hvl hitems ⟨m, hi, hkind⟩ hid
    subst hi
    rw [takeData_inOrder hup hseq, hitems, hvl, List.foldl_cons, List.foldl_nil]
    exact deliverItem_notice (s := flitTaken k.val f s) hkind hid
  case replays =>
    intro s k hlive hun hsame
    have hresent := (startReplay_eq hun).trans (if_neg (by omega))
    exact congrArg Host.Outcome.next ((if_pos hlive).trans (hresent.trans (updLink_congr rfl)))
  case eighth =>
    intro s k hlive hun hsame
    have hdown := (startReplay_eq hun).trans (if_pos (by omega))
    exact ⟨_, congrArg Host.Outcome.next ((if_pos hlive).trans hdown),
      linkDown_after 4 (u := replayCounted k.val s) (ne_disabled_of_linkLive hlive) (frame_fab s _)⟩
  case hello => exact fun s k d pkg asg link caps nonce hst => congrArg Host.Outcome.next (if_pos hst)
  case accepts =>
    exact fun s k r d pkg asg link caps n hst hhello hok =>
      congrArg Host.Outcome.next (doAttest_accepts rfl hst (attestVerdict_accepts hhello hok))
  case rejects =>
    exact fun s k r hst hno => congrArg Host.Outcome.next (doAttest_rejects rfl hst (attestVerdict_rejects hno))
  case verdict => exact fun s k hst => congrArg Host.Outcome.next (if_pos hst)
  case met =>
    exact fun s k hmine hpeer => ⟨verdictsMet_plain hmine hpeer, fun _ _ _ _ _ _ => verdictsMet_encrypted hmine hpeer⟩
  case up => exact fun s k n => enterUp_leaves k n s
  case withheld => exact fun s k hlive => ⟨_, rfl, doLinkState_withheld_leaves rfl hlive⟩
  case peerDown =>
    exact fun s k hlive => ⟨_, congrArg Host.Outcome.next (if_pos hlive),
      linkDown_after 0xB (u := takeItem k.val _ s) (ne_disabled_of_linkLive hlive) (takeItem_frame _ _ s)⟩
  case keysMet =>
    exact fun s k hst hmine hpeer henc hsent => congrArg Host.Outcome.next (if_pos ⟨hst, ⟨hmine, hpeer, henc⟩, hsent.symm⟩)
  case renews => exact fun s k hup henc hsent => congrArg Host.Outcome.next (doKeyx_renews hup henc hsent)
  case again =>
    exact fun s k nonce hst hfew => congrArg Host.Outcome.next ((if_pos hst).trans (attemptFail_again hfew nonce))
  case third =>
    exact fun s k nonce hst htwo => ⟨_, congrArg Host.Outcome.next (if_pos hst), attemptFail_quarantines htwo nonce⟩
  case repeats => exact fun s k nonce hst => congrArg Host.Outcome.next (if_pos hst)
  case advance => exact fun s k hup henc hcount => congrArg Host.Outcome.next (if_pos ⟨hup, henc, hcount⟩)
  case reexchange =>
    exact fun s k d pkg asg link caps nonce hup henc hhello hlower => execKeyReexchange_sends hup henc hhello hlower
  case relay =>
    exact fun s k m hkind hid hheld hdst htaper => congrArg Host.Outcome.next (doRelay_passes rfl hkind hid hheld hdst htaper)
  case noRoute => exact fun s dst m r h => congrArg Host.Outcome.next (doNoRoute_discards h)

end Sys2Proof.Machine
end

section
/-! SUPPORT. What a step does with the queue (R379), the checks of the mailbox layer (R379, R387, R391, R392, R395) and the one
completion a command ends with (R383, R385, R389, R390); and the settlement of O42, O45, O49 and O50. -/

namespace Sys2Proof.Machine

/-! ### The queue -/

/-- Settles O42. -/
theorem stepRunsTheFrontCommand : Obligations.StepRunsTheFrontCommand :=
  ⟨fun _ _ _ => step_of_front rfl, fun _ h => step_of_empty h⟩

/-- A reset leaves the waiting commands (R290). -/
theorem reset_pending {i : Instr} {s t : State} (hi : isReset i = true) (h : exec i s = .next t) : t.pending = s.pending := by
  obtain ⟨clk, -, rfl⟩ := exec_reset hi h
  rfl

/-- Settles O45: a reset runs and leaves the queue; every other command does by what it keeps (`exec_keeps`). -/
theorem everyCommandRunsAndKeepsTheQueue : Obligations.EveryCommandRunsAndKeepsTheQueue := by
  intro i s
  cases hi : isReset i with
  | true =>
    obtain ⟨t, ht, -, -⟩ := reset_ends_withhold s hi
    exact ⟨t, ht, reset_pending hi ht⟩
  | false =>
    obtain ⟨t, ht, hk⟩ := exec_keeps hi s
    exact ⟨t, ht, hk.pending⟩

/-! ### The checks, in their order -/

section
variable {s : State} {d : Desc} {k : Rings} {early open_ input : Bool} {body : State → State}

/-- The checks past the first, of a command that starts. -/
def cmdChecked (d : Desc) (k : Rings) (early open_ input : Bool) (body : State → State) (s : State) : State :=
  if !k.ok d.ring.val then finish d 0x06 s
  else if !early && s.mbx.curver == 0 then finish d 0x11 s
  else if !open_ && !ready s then finish d 0x12 s
  else if d.malformed || (d.tmo && (d.timeout == 0 || decide (600000 < d.timeout.toNat))) then finish d 0x07 s
  else if input && d.inlen != 0 && !d.inOk then finish d 0x14 s
  else body s

theorem runCmd_waits (h : s.snuf.wheld = true ∨ cmdWaits s d = true) : runCmd d k early open_ input body s = s :=
  if_pos (by simpa using h)

section
variable (hheld : s.snuf.wheld = false) (hwaits : cmdWaits s d = false)
include hheld hwaits

theorem runCmd_starts : runCmd d k early open_ input body s = cmdChecked d k early open_ input body (dequeue d s) :=
  if_neg (by simp [hheld, hwaits])

theorem runCmd_wrongRing (hring : k.ok d.ring.val = false) :
    runCmd d k early open_ input body s = finish d 0x06 (dequeue d s) := by
  rw [runCmd_starts hheld hwaits]
  exact if_pos (by simp [hring])

variable (hring : k.ok d.ring.val = true)
include hring

theorem runCmd_noVersion (hearly : early = false) (hver : s.mbx.curver = 0) :
    runCmd d k early open_ input body s = finish d 0x11 (dequeue d s) := by
  have hver' : (dequeue d s).mbx.curver = 0 := hver
  rw [runCmd_starts hheld hwaits, cmdChecked, if_neg (by simp [hring])]
  exact if_pos (by simp [hearly, hver'])

variable (hver : early = true ∨ s.mbx.curver ≠ 0)
include hver

theorem runCmd_versioned : runCmd d k early open_ input body s =
    if !open_ && !ready s then finish d 0x12 (dequeue d s)
    else if d.malformed || (d.tmo && (d.timeout == 0 || decide (600000 < d.timeout.toNat))) then finish d 0x07 (dequeue d s)
    else if input && d.inlen != 0 && !d.inOk then finish d 0x14 (dequeue d s)
    else body (dequeue d s) := by
  have hver' : early = true ∨ (dequeue d s).mbx.curver ≠ 0 := hver
  rw [runCmd_starts hheld hwaits, cmdChecked, if_neg (by simp [hring]), if_neg (by cases early <;> simp_all)]
  rfl

theorem runCmd_notReady (hopen : open_ = false) (hen : s.lmp.en = false) :
    runCmd d k early open_ input body s = finish d 0x12 (dequeue d s) := by
  rw [runCmd_versioned hheld hwaits hring hver]
  exact if_pos (by simp [hopen, ready, hen])

variable (hready : open_ = true ∨ s.lmp.en = true)
include hready

theorem runCmd_readied : runCmd d k early open_ input body s =
    if d.malformed || (d.tmo && (d.timeout == 0 || decide (600000 < d.timeout.toNat))) then finish d 0x07 (dequeue d s)
    else if input && d.inlen != 0 && !d.inOk then finish d 0x14 (dequeue d s)
    else body (dequeue d s) := by
  rw [runCmd_versioned hheld hwaits hring hver, if_neg (by rcases hready with h | h <;> simp [ready, h])]

theorem runCmd_malformed (hform : d.malformed = true ∨ (d.tmo = true ∧ (d.timeout = 0 ∨ 600000 < d.timeout.toNat))) :
    runCmd d k early open_ input body s = finish d 0x07 (dequeue d s) := by
  rw [runCmd_readied hheld hwaits hring hver hready]
  exact if_pos (by simpa using hform)

theorem runCmd_unreadable (hform : d.malformed = false) (htmo : d.tmo = true → d.timeout ≠ 0 ∧ d.timeout.toNat ≤ 600000)
    (hinput : input = true) (hlen : d.inlen ≠ 0) (hin : d.inOk = false) :
    runCmd d k early open_ input body s = finish d 0x14 (dequeue d s) := by
  rw [runCmd_readied hheld hwaits hring hver hready, if_neg (by simpa [hform] using htmo)]
  exact if_pos (by simpa [hinput, hin] using hlen)

end

end

/-- Settles O49: each check by its lemma, after those before it have passed. -/
theorem mailboxChecksInOrder : Obligations.MailboxChecksInOrder :=
  ⟨fun _ _ _ _ _ _ _ h => runCmd_waits h,
    fun _ _ _ _ _ _ _ hheld hwaits hring => runCmd_wrongRing hheld hwaits hring,
    fun _ _ _ _ _ _ _ hheld hwaits hring hearly hver => runCmd_noVersion hheld hwaits hring hearly hver,
    fun _ _ _ _ _ _ _ hheld hwaits hring hver hopen hen => runCmd_notReady hheld hwaits hring hver hopen hen,
    fun _ _ _ _ _ _ _ hheld hwaits hring hver hready hform => runCmd_malformed hheld hwaits hring hver hready hform,
    fun _ _ _ _ _ _ _ hheld hwaits hring hver hready hform htmo hinput hlen hin =>
      runCmd_unreadable hheld hwaits hring hver hready hform htmo hinput hlen hin,
    fun _ _ _ _ _ _ body h _ => runCmd_accepted h body⟩

/-! ### The completion of a command -/

/-- A second change of a ring is a change of what the first left. -/
theorem updRing_updRing (r : Nat) (f g : Ring → Ring) (s : State) : updRing r g (updRing r f s) = updRing r (fun x => g (f x)) s := by
  simp [updRing, Tab.upd]

/-- The entry a ring takes for a completion: its place, phase, SQHEAD and time are those of the moment (R383, R389). -/
def entryOf (r : RingI) (c : Cpl) (s : State) : Posted :=
  let g := getRing s r.val
  { ring := r, addr := g.cqbase + BitVec.ofNat 64 (g.cqtail.toNat % 2 ^ g.cqlog2.toNat * 64),
    phase := decide (g.cqtail.toNat / 2 ^ g.cqlog2.toNat % 2 = 1), sqhead := g.sqhead, localt := ltime s, cpl := c }

theorem posted_postRaw (r : RingI) (c : Cpl) (s : State) : (postRaw r c s).posted = s.posted ++ [entryOf r c s] :=
  ((gvlSig_frame _ _ _) .posted (by decide)).trans rfl

/-- A posted entry moves its ring's tail on, and no other ring. -/
theorem getRing_postRaw (r : RingI) (c : Cpl) (s : State) (n : Nat) :
    getRing (postRaw r c s) n = if n = r.val then { getRing s r.val with cqtail := (getRing s r.val).cqtail + 1 } else getRing s n := by
  unfold postRaw
  dsimp only
  rw [(gvlSig_frame _ _ _).getRing n (by decide), (show Frame [.gvl] _ (gvlWriteLine _ _ _) from frame_gvl _ _).getRing n (by decide),
    getRing_updRing]
  rfl

theorem ringHeld_dropProg (d : Desc) (s : State) (r : Nat) : ringHeld (dropProg d s) r = ringHeld s r := by
  unfold ringHeld dropProg
  rw [getRing_updRing]
  split
  · next h => rw [h]; rfl
  · rfl

theorem complete_posts {s : State} {d : Desc} {st : W16} {used : Nat} {res : List W32} (hheld : s.snuf.wheld = false)
    (hring : ringHeld s d.ring.val = false) : complete d st used res s = postRaw d.ring (cplOf d st used res) (dropProg d s) := by
  unfold complete postCpl
  rw [if_neg (by simp [ringsStopped, dropProg, hheld]), ringHeld_dropProg, if_neg (by simp [hring])]

theorem complete_held {s : State} {d : Desc} {st : W16} {used : Nat} {res : List W32} (hheld : s.snuf.wheld = false)
    (hring : ringHeld s d.ring.val = true) : complete d st used res s =
      updRing d.ring.val (fun g => { g with heldCpl := g.heldCpl ++ [cplOf d st used res], prog := g.prog.erase d }) s := by
  unfold complete postCpl
  rw [if_neg (by simp [ringsStopped, dropProg, hheld]), ringHeld_dropProg, if_pos hring, holdCpl, dropProg, updRing_updRing]

theorem complete_withheld {s : State} (h : s.snuf.wheld = true) (d : Desc) (st : W16) (used : Nat) (res : List W32) :
    complete d st used res s = dropProg d s := if_pos h

/-- The fields of an entry stand one after the other (R389). -/
theorem bytes_layout (p : Posted) : p.bytes.length = 64 ∧ p.bytes.take 8 = leBytes 8 p.cpl.tag.toNat ∧
    (p.bytes.drop 8).take 2 = leBytes 2 p.cpl.status.toNat ∧ p.bytes[10]? = some p.cpl.kind ∧
    p.bytes[11]? = some (if p.phase then 1 else 0) ∧ (p.bytes.drop 12).take 2 = leBytes 2 p.cpl.opcode.toNat ∧
    p.bytes[14]? = some (BitVec.ofNat 8 p.ring.val) ∧ p.bytes[15]? = some 0 ∧ (p.bytes.drop 16).take 4 = leBytes 4 p.sqhead.toNat ∧
    (p.bytes.drop 20).take 4 = leBytes 4 p.cpl.outused.toNat ∧ (p.bytes.drop 24).take 8 = leBytes 8 p.localt.toNat :=
  ⟨rfl, rfl, rfl, rfl, rfl, rfl, rfl, rfl, rfl, rfl, rfl⟩

/-- Settles O50: the entry stands where `entryOf` says, and the ring's tail and its commands in progress are all that moves. -/
theorem completionsArePostedOnce : Obligations.CompletionsArePostedOnce := by
  refine ⟨fun s d st used res hheld hring => ⟨_, rfl, ?_, complete_frame d st used res s⟩,
    fun s d st used res hheld hring => complete_held hheld hring, fun s d st used res h => complete_withheld h d st used res, bytes_layout⟩
  rw [complete_posts hheld hring]
  refine ⟨(posted_postRaw _ _ _).trans ?_, (getRing_postRaw _ _ _ _).trans ?_⟩
  · simp [entryOf, dropProg, cplOf, ltime]
  · simp [dropProg]

end Sys2Proof.Machine
end

section
/-! SUPPORT. What withholds a package (R171, R378, R473, R485, R486, R499), the counter floors (R459) and the seam watchdog (R287); and
the settlement of O7 and O53. -/

namespace Sys2Proof.Machine

theorem exec_coreWatchdogExpiry (core : Fin 4) (s : State) : exec (.coreWatchdogExpiry core) s = .next (doWatchdog core.val s) := rfl

theorem exec_privateSramUncorrectable (keeper : Bool) (s : State) :
    exec (.privateSramUncorrectable keeper) s = .next (if keeper then violate 1 s else withhold 9 0 s) := rfl

theorem exec_securityViolation (v : Violation) (s : State) : exec (.securityViolation v) s = .next (securityEvent v s) := rfl

theorem exec_withhold (cause : Byte) (detail : W16) (s : State) :
    exec (.withhold cause detail) s = .next (withholdFor cause.toNat detail.toNat s) := rfl

theorem exec_counterFloorRaise (s : State) : exec .counterFloorRaise s = .next (raiseFloors s) := rfl

theorem exec_seamHangWatchdog (east : Bool) (s : State) : exec (.seamHangWatchdog east) s = .next (seamHang east s) := rfl

/-! ### The mailbox block but its rings -/

/-- Of the mailbox block a withhold touches the rings alone. -/
def RingsAlone (s t : State) : Prop := { t.mbx with rings := [] } = { s.mbx with rings := [] }

section
variable {s t u : State}

theorem RingsAlone.refl (s : State) : RingsAlone s s := rfl

/-- One more operation, named first. -/
theorem RingsAlone.after (k : RingsAlone t u) (h : RingsAlone s t) : RingsAlone s u := Eq.trans k h

theorem RingsAlone.ite {p : Prop} [Decidable p] (h : RingsAlone s t) (k : RingsAlone s u) : RingsAlone s (if p then t else u) := by
  split
  · exact h
  · exact k

/-- An operation that leaves the mailbox alone. -/
theorem Frame.ringsAlone {ps : List Part} (h : Frame ps s t) (hp : .mbx ∉ ps) : RingsAlone s t := by
  have hmbx : t.mbx = s.mbx := h .mbx hp
  rw [RingsAlone, hmbx]

theorem ringsAlone_foldl {α : Type} {g : State → α → State} (hg : ∀ s x, RingsAlone s (g s x)) (l : List α) (s : State) :
    RingsAlone s (l.foldl g s) :=
  foldl_keeps (I := RingsAlone s) (fun t x ht => (hg t x).after ht) l (RingsAlone.refl s)

end

theorem ringsAlone_updRing (r : Nat) (f : Ring → Ring) (s : State) : RingsAlone s (updRing r f s) := rfl

theorem ringsAlone_postOrHold (r : RingI) (c : Cpl) (s : State) : RingsAlone s (postOrHold r c s) :=
  (ringsAlone_updRing _ _ s).ite <| .after ((gvlSig_frame _ _ _).ringsAlone (by decide)) <|
    .after ((frame_gvl _ _).ringsAlone (by decide)) (ringsAlone_updRing _ _ _)

theorem ringsAlone_withholdRing (s : State) (r : RingI) : RingsAlone s (withholdRing s r) :=
  .after (ringsAlone_updRing _ _ _) (ringsAlone_foldl (fun a _ => ringsAlone_postOrHold r _ a) _ s)

theorem ringsAlone_withholdEmbers (e : Ember) (s : State) : RingsAlone s (withholdEmbers e s) := by
  have hcopy (a : State) (c : Nat) : RingsAlone a (match getCtx a c with
      | none => a
      | some x => match ctxRing a c with
        | none => a
        | some r => postOrHold r (emberCpl (ctxCopy e x.ctxid)) a) := by
    split
    · exact RingsAlone.refl a
    · split
      · exact RingsAlone.refl a
      · exact ringsAlone_postOrHold _ _ a
  have hall := (ringsAlone_foldl hcopy (ctxSlots (postOrHold 0 (emberCpl e) s)) _).after (ringsAlone_postOrHold 0 (emberCpl e) s)
  exact RingsAlone.ite (.after ((gvlSig_frame _ _ _).ringsAlone (by decide)) hall) hall

theorem ringsAlone_withholdGarvy (e : Ember) (s : State) : RingsAlone s (withholdGarvy e s) := by
  unfold withholdGarvy
  have hreq : RingsAlone s (withholdRequests ((List.finRange 64).foldl withholdRing s)) :=
    .after ((withholdRequests_frame _).ringsAlone (by decide)) (ringsAlone_foldl ringsAlone_withholdRing _ s)
  have hemb := RingsAlone.ite (p := (withholdRequests ((List.finRange 64).foldl withholdRing s)).mgt.started = true)
    ((ringsAlone_withholdEmbers e _).after hreq) hreq
  exact RingsAlone.ite (.after ((gvlEnterWithheld_frame _).ringsAlone (by decide)) hemb)
    (.after ((frame_gvl _ _).ringsAlone (by decide)) hemb)

theorem ringsAlone_withhold (cause detail : Nat) (s : State) : RingsAlone s (withhold cause detail s) := by
  have hmgt {c : Prop} [Decidable c] (a : State) (x : Mgt) : RingsAlone a (if c then { a with mgt := x } else a) :=
    RingsAlone.ite rfl rfl
  unfold withhold
  refine (RingsAlone.refl s).ite ?_
  exact .after ((frame_snuf _ _).ringsAlone (by decide)) <| .after ((withholdStacks_frame _).ringsAlone (by decide)) <|
    .after (hmgt _ _) <| .after (ringsAlone_withholdGarvy _ _) <| .after (hmgt _ _) <|
    .after ((frame_foldl withholdLink_frame _ _).ringsAlone (by decide)) <| .after ((withholdNotices_frame _).ringsAlone (by decide)) <|
    .after ((withholdLamp_frame _).ringsAlone (by decide)) rfl

/-! ### Causes of a withhold -/

/-- What a withhold shows and drives, and what it may touch. -/
theorem withhold_shows {s : State} (h : s.snuf.wheld = false) (cause detail : Nat) :
    let t := withhold cause detail s
    t.snuf = { wheld := true, cause := BitVec.ofNat 8 cause, detail := BitVec.ofNat 16 detail } ∧
      t.clk = { s.clk with wheldLow := true } ∧ Frame Part.withholding s t :=
  ⟨withhold_snuf h cause detail, withhold_clk h cause detail, withhold_frame cause detail s⟩

theorem frame_sec (s : State) (x : Sec) : Frame [.sec] s { s with sec := x } := by
  intro p hp; cases p <;> simp at hp <;> rfl

/-- A violation is recorded and withholds with cause 10 (R473, R485). -/
theorem violate_leaves {s : State} (h : s.snuf.wheld = false) (v : Nat) :
    let t := violate v s
    t.snuf = { wheld := true, cause := 10, detail := 0 } ∧ t.clk = { s.clk with wheldLow := true } ∧
      t.sec = { s.sec with viol := setBit s.sec.viol v } ∧ Frame (.sec :: Part.withholding) s t := by
  obtain ⟨hsnuf, hclk, hframe⟩ := withhold_shows (s := { s with sec := { s.sec with viol := setBit s.sec.viol v } }) h 10 0
  exact ⟨hsnuf, hclk, hframe .sec (by decide), .after (by decide) hframe ((frame_sec s _).mono (by decide))⟩

/-- The state a security violation withholds in: one of the random source clears its health (R473). -/
theorem securityEvent_eq (v : Violation) (s : State) :
    securityEvent v s = violate (violationBit v) { s with sec := { s.sec with rngOk := s.sec.rngOk && decide (v ≠ .rng) } } := by
  refine congrArg (violate (violationBit v)) ?_
  by_cases hv : v = .rng
  · simp [hv]
  · simp [hv]

/-- A core whose watchdog expires is no longer alive, and the package withholds (R378). -/
theorem doWatchdog_leaves {s : State} (h : s.snuf.wheld = false) (core : Nat) :
    let t := doWatchdog core s
    t.snuf = { wheld := true, cause := 9, detail := 0 } ∧ t.clk = { s.clk with wheldLow := true } ∧ t.mbx.wdog = true ∧
      t.mbx.alive = clrBit s.mbx.alive core ∧ Frame Part.withholding s t := by
  obtain ⟨hsnuf, hclk, hframe⟩ :=
    withhold_shows (s := { s with mbx := { s.mbx with wdog := true, alive := clrBit s.mbx.alive core } }) h 9 0
  have hmbx := ringsAlone_withhold 9 0 { s with mbx := { s.mbx with wdog := true, alive := clrBit s.mbx.alive core } }
  exact ⟨hsnuf, hclk, congrArg Mbx.wdog hmbx, congrArg Mbx.alive hmbx, .after (by decide) hframe ((frame_mbx s _).mono (by decide))⟩

/-- Settles O53: both events are withholds with cause 9. -/
theorem controlProcessorFailuresWithhold : Obligations.ControlProcessorFailuresWithhold := by
  refine ⟨fun s core h => ⟨_, exec_coreWatchdogExpiry core s, ?_⟩, fun s h => ⟨_, exec_privateSramUncorrectable false s, ?_⟩⟩
  · obtain ⟨hsnuf, hclk, -, -, hframe⟩ := doWatchdog_leaves h core.val
    exact ⟨by rw [Withheld, hsnuf]; exact ⟨rfl, rfl⟩, hclk, hframe⟩
  · obtain ⟨hheld, -, hclk, hframe⟩ := withhold_leaves h 9 0
    exact ⟨hheld, hclk, hframe⟩

/-! ### The floors (R459) -/

/-- After EN the floors of a running image and block rise where they are committed and higher. -/
theorem raiseFloors_running {s : State} {i : FwImage} {c : ConfigBlock} (hen : s.lmp.en = true) (hst : s.sec.state = 1)
    (hi : s.sec.image = some i) (hc : s.sec.cfg = some c) : raiseFloors s = { s with
      flash := { s.flash with fwFloor := if i.commit = true ∧ s.flash.fwFloor < i.svn then i.svn else s.flash.fwFloor,
                              cfgFloor := if c.commit = true ∧ s.flash.cfgFloor < c.cfgseq then c.cfgseq else s.flash.cfgFloor },
      sec := { s.sec with fwCommit := s.sec.fwCommit || i.commit, cfgCommit := s.sec.cfgCommit || c.commit } } := by
  rw [raiseFloors, if_pos ⟨hen, hst⟩, hi, hc]
  cases hic : i.commit <;> cases hcc : c.commit <;> simp [hic, hcc]

/-! ### The seam watchdog (R287) -/

theorem flushThread_frame (east : Bool) (s : State) (p : Nat × Nat) : Frame Part.stopping s (flushThread east s p) := by
  unfold flushThread
  split
  · exact Frame.refl _ s
  · exact Frame.ite (Frame.ite (customerFault_frame _ _ _ s) ((updThread_frame _ _ _ s).mono (by decide))) (Frame.refl _ s)

/-- The crossing's generation and the count of hangs move on. -/
def hangCounted (east : Bool) (k : Clk) : Clk :=
  { k with hangs := k.hangs + 1, genE := if east then k.genE + 1 else k.genE, genW := if east then k.genW else k.genW + 1 }

/-- The crossing is flushed thread by thread, counted and told. -/
theorem seamHang_flushes {east : Bool} {s : State} (h : inflOf s east ≠ 0) : seamHang east s =
    let u := (allThreads s).foldl (flushThread east) s
    ember 2 0x0801 (if east then 1 else 0) none (hangCounted east u.clk).hangs.toNat
      { u with clk := hangCounted east u.clk, xbr := { u.xbr with stat := setBit u.xbr.stat 2 } } := by
  rw [seamHang, if_neg h]
  cases east <;> rfl

theorem frame_clkXbr (s : State) (k : Clk) (x : Xbr) : Frame [.clk, .xbr] s { s with clk := k, xbr := x } := by
  intro p hp; cases p <;> simp at hp <;> rfl

theorem seamHang_leaves {east : Bool} {s : State} (h : inflOf s east ≠ 0) :
    let u := (allThreads s).foldl (flushThread east) s
    let t := seamHang east s
    t.engs = u.engs ∧ t.invs = u.invs ∧ t.ctxs = u.ctxs ∧ t.clk = hangCounted east s.clk ∧
      t.xbr = { s.xbr with stat := setBit s.xbr.stat 2 } ∧ Frame ([.clk, .xbr, .engs, .invs, .ctxs] ++ Part.posting) s t := by
  have hflush := frame_foldl (flushThread_frame east) (allThreads s) s
  have hclk : ((allThreads s).foldl (flushThread east) s).clk = s.clk := hflush .clk (by decide)
  have hxbr : ((allThreads s).foldl (flushThread east) s).xbr = s.xbr := hflush .xbr (by decide)
  dsimp only
  rw [seamHang_flushes h]
  dsimp only
  rw [hclk, hxbr]
  have hember (a : State) := ember_frame 2 0x0801 (if east then 1 else 0) none (hangCounted east s.clk).hangs.toNat a
  refine ⟨hember _ .engs (by decide), hember _ .invs (by decide), hember _ .ctxs (by decide), hember _ .clk (by decide),
    hember _ .xbr (by decide), Frame.after (by decide) (hember _) ?_⟩
  exact .after (by decide) (frame_clkXbr _ _ _) (hflush.mono (by decide))

/-! ### The obligation -/

/-- Settles O7: every cause is a withhold (`withhold_shows`), recorded first where it is a violation; the floors rise by
`raiseFloors_running`, and a hang flushes its crossing (`seamHang_leaves`). -/
theorem withholdCausesAndFloors : Obligations.WithholdCausesAndFloors := by
  refine ⟨?watchdog, ?sram, ?keeperSram, ?violation, ?withhold, ?thermal, ?floors, ?seam⟩
  case watchdog => exact fun s core h => ⟨_, exec_coreWatchdogExpiry core s, doWatchdog_leaves h core.val⟩
  case sram => exact fun s h => ⟨_, exec_privateSramUncorrectable false s, withhold_shows h 9 0⟩
  case keeperSram => exact fun s h => ⟨_, exec_privateSramUncorrectable true s, violate_leaves h 1⟩
  case violation =>
    intro s v h
    refine ⟨_, exec_securityViolation v s, ?_⟩
    rw [securityEvent_eq]
    obtain ⟨hsnuf, hclk, hsec, hframe⟩ :=
      violate_leaves (s := { s with sec := { s.sec with rngOk := s.sec.rngOk && decide (v ≠ .rng) } }) h (violationBit v)
    refine ⟨hsnuf, hclk, hsec.trans ?_, .after (by decide) hframe ((frame_sec s _).mono (by decide))⟩
    cases v <;> rfl
  case withhold =>
    intro s cause detail h hlo hhi
    refine ⟨_, exec_withhold cause detail s, ?_⟩
    obtain ⟨hsnuf, hclk, hframe⟩ := withhold_shows h cause.toNat detail.toNat
    rw [withholdFor, if_pos ⟨hlo, hhi⟩]
    exact ⟨by rw [hsnuf, BitVec.ofNat_toNat, BitVec.ofNat_toNat, BitVec.setWidth_eq, BitVec.setWidth_eq], hclk, hframe⟩
  case thermal => exact fun s d h => ⟨_, exec_thermalTrip d s, withhold_shows h 5 d.val⟩
  case floors =>
    intro s i c hen hst hi hc
    rw [exec_counterFloorRaise, raiseFloors_running hen hst hi hc]
  case seam => exact fun s east h => ⟨_, exec_seamHangWatchdog east s, seamHang_leaves h⟩

end Sys2Proof.Machine
end

section
/-! SUPPORT. The flits, the replay and the signals of the Garvy Link (R352 to R360, R370), its directory and its link cache (R364, R366
to R369, R375); and the settlement of O36, O38 and O54. -/

namespace Sys2Proof.Machine

theorem exec_gvlFlitReceive (f : GFlit) (c : FlitCheck) (corr : Nat) (s : State) :
    exec (.gvlFlitReceive f c corr) s = .next (flitReceive f c corr s) := rfl

theorem exec_gvlFlitSend (s : State) : exec .gvlFlitSend s = .next (flitSend s) := rfl

theorem exec_gvlReplayTimeout (s : State) : exec .gvlReplayTimeout s = .next (if gvlFlits s then replayAll s else s) := rfl

theorem exec_sigIntervalExpiry (v : Nat) (s : State) : exec (.sigIntervalExpiry v) s = .next (sigExpiry v s) := rfl

theorem exec_gvlCacheFlush (s : State) : exec .gvlCacheFlush s = .next (updGvl (fun g => { g with cache := [] }) s) := rfl

theorem exec_snpinvReceive (m : GMsg) (s : State) : exec (.snpinvReceive m) s = .next (snpinvReceive m s) := rfl

theorem exec_datalReceive (m : GMsg) (s : State) : exec (.datalReceive m) s = .next (datalReceive m s) := rfl

theorem exec_deviceReadTimeout (tag : BitVec 12) (s : State) : exec (.deviceReadTimeout tag) s = .next (deviceReadTimeout tag s) := rfl

theorem exec_sackReceive (m : GMsg) (s : State) : exec (.sackReceive m) s = .next (sackReceive m s) := rfl

theorem exec_sdataReceive (m : GMsg) (s : State) : exec (.sdataReceive m) s = .next (sdataReceive m s) := rfl

theorem exec_snoopTimeout (k : Nat) (s : State) : exec (.snoopTimeout k) s = .next (snoopTimeout k s) := rfl

theorem updGvl_frame (f : Gvl → Gvl) (s : State) : Frame [.gvl] s (updGvl f s) := frame_gvl s _

theorem gvlFlits_iff {s : State} : gvlFlits s = true ↔ s.gvl.st = .active ∨ s.gvl.st = .withheld := by
  simp [gvlFlits]

theorem gvlFlits_of_active {s : State} (h : s.gvl.st = .active) : gvlFlits s = true := gvlFlits_iff.mpr (.inl h)

/-! ### What posting leaves of the endpoint -/

/-- Of the endpoint a posting touches the cache, the stream and the signal vectors alone. -/
def PostsOnLink (s t : State) : Prop :=
  { t.gvl with cache := [], qStream := [], sigs := [] } = { s.gvl with cache := [], qStream := [], sigs := [] }

section
variable {s t u : State}

theorem PostsOnLink.refl (s : State) : PostsOnLink s s := rfl

/-- One more operation, named first. -/
theorem PostsOnLink.after (k : PostsOnLink t u) (h : PostsOnLink s t) : PostsOnLink s u := Eq.trans k h

theorem PostsOnLink.ite {p : Prop} [Decidable p] (h : PostsOnLink s t) (k : PostsOnLink s u) :
    PostsOnLink s (if p then t else u) := by
  split
  · exact h
  · exact k

/-- A part that a posting does not touch. -/
theorem PostsOnLink.part {α : Type} (h : PostsOnLink s t) (f : Gvl → α)
    (hf : ∀ g, f { g with cache := [], qStream := [], sigs := [] } = f g) : f t.gvl = f s.gvl := by
  rw [← hf t.gvl, ← hf s.gvl]
  exact congrArg f h

/-- An operation that leaves the endpoint alone. -/
theorem Frame.postsOnLink {ps : List Part} (h : Frame ps s t) (hp : .gvl ∉ ps) : PostsOnLink s t := by
  have hgvl : t.gvl = s.gvl := h .gvl hp
  rw [PostsOnLink, hgvl]

end

theorem postsOnLink_gvlSig (v : Nat) (w : W32) (s : State) : PostsOnLink s (gvlSig v w s) := by
  unfold gvlSig
  exact .ite rfl (.ite rfl rfl)

theorem postsOnLink_postRaw (r : RingI) (c : Cpl) (s : State) : PostsOnLink s (postRaw r c s) :=
  .after (postsOnLink_gvlSig _ _ _) (show PostsOnLink s (gvlWriteLine _ _ _) from rfl)

theorem postsOnLink_postNote (r : RingI) (c : Cpl) (s : State) : PostsOnLink s (postNote r c s) :=
  .ite (.refl s) (.ite rfl (.ite (postsOnLink_postRaw r c s) (.ite rfl rfl)))

theorem postsOnLink_deliverEmber (e : Ember) (s : State) : PostsOnLink s (deliverEmber e s) := by
  have hring (e : Ember) (a : State) : PostsOnLink a (match emberRing a e with
      | none => a
      | some r => gvlSig 64 e.num (postNote r (emberCpl e) a)) := by
    split
    · exact .refl a
    · exact .after (postsOnLink_gvlSig _ _ _) (postsOnLink_postNote _ _ a)
  unfold deliverEmber
  exact .after ((pathPut_frame _ true _).postsOnLink (by decide)) <| .after ((pathPut_frame _ false _).postsOnLink (by decide)) <|
    .ite rfl (.after (hring _ _) rfl)

theorem postsOnLink_ember (sev code src : Nat) (ctx : Option W16) (arg0 : Nat) (s : State) :
    PostsOnLink s (ember sev code src ctx arg0 s) := by
  have hlim (k : Option (W16 × W16 × Option W16)) (e : Ember) : PostsOnLink s (rateLimit k e s).1 :=
    (rateLimit_frame k e s).postsOnLink (by decide)
  unfold ember raiseEmber
  exact .ite (.ite (postsOnLink_deliverEmber _ s) (.ite (.after (postsOnLink_deliverEmber _ _) (hlim _ _)) (hlim _ _))) (.refl s)

/-! ### Receiving a flit -/

section
variable {s : State} {f : GFlit} {c : FlitCheck} {corr : Nat}

/-- What is not good is dropped. -/
theorem flitReceive_drops (h : gvlFlits s = true) (hbad : c = .uncorrectable ∨ c = .crcFail ∨ 2 < f.type.toNat) :
    flitReceive f c corr s = gvlDropFlit c s := by
  have hnot : ¬ ((c = .good ∨ c = .corrected) ∧ f.type.toNat ≤ 2) := by
    rintro ⟨rfl | rfl, hle⟩ <;> simp at hbad <;> omega
  rw [flitReceive, if_pos h, if_neg hnot]

/-- A good flit: its acknowledgement and credit first, then its NAK, then its data. -/
theorem flitReceive_good (h : gvlFlits s = true) (htype : f.type.toNat ≤ 2) : flitReceive f .good corr s =
    let t := updGvl (fun g => takeCredit f (takeAck f { g with corr := satAdd g.corr corr, uncorrRun := 0 })) s
    gvlTakeData f (if f.nak then replayAll t else t) := by
  rw [flitReceive, if_pos h, if_pos ⟨.inl rfl, htype⟩]

end

theorem gvlRecover_active {s : State} (h : s.gvl.st = .active) (ex : Option Bool) (atWmax : Bool) : gvlRecover ex atWmax s =
    updGvl (fun g => { g with st := .recovery, exclude := ex, atWmax := atWmax, err := setBit g.err 2 }) s := if_pos h

/-- A RECOVERY changes of the endpoint its state, a flag and the two notes about its lanes. -/
theorem gvlRecover_eq (ex : Option Bool) (atWmax : Bool) (s : State) : ∃ st err ex' wmax,
    gvlRecover ex atWmax s = updGvl (fun g => { g with st := st, err := err, exclude := ex', atWmax := wmax }) s := by
  unfold gvlRecover
  split
  · exact ⟨_, _, _, _, rfl⟩
  · exact ⟨s.gvl.st, s.gvl.err, s.gvl.exclude, s.gvl.atWmax, rfl⟩

/-- The endpoint after a dropped flit is counted (R355). -/
def dropCounted (c : FlitCheck) (g : Gvl) : Gvl :=
  { g with dropped := satInc g.dropped, nakOwed := true, uncorrRun := if c = .uncorrectable then g.uncorrRun + 1 else 0 }

/-- A dropped flit is counted and owed a NAK; of the rest of the endpoint only what a RECOVERY changes may move. -/
theorem gvlDropFlit_eq (c : FlitCheck) (s : State) : ∃ st err ex wmax, gvlDropFlit c s =
    updGvl (fun g => { dropCounted c g with st := st, err := err, exclude := ex, atWmax := wmax }) s := by
  have hdrop : gvlDropFlit c s = if 16 ≤ (dropCounted c s.gvl).uncorrRun then gvlRecover none false (updGvl (dropCounted c) s)
      else updGvl (dropCounted c) s := rfl
  rw [hdrop]
  split
  · exact gvlRecover_eq none false (updGvl (dropCounted c) s)
  · exact ⟨s.gvl.st, s.gvl.err, s.gvl.exclude, s.gvl.atWmax, rfl⟩

theorem takeAck_none {f : GFlit} (h : f.ackv = false) (g : Gvl) : takeAck f g = g := if_neg (by simp [h])

theorem takeCredit_none {f : GFlit} (h : f.cvc = 7) (g : Gvl) : takeCredit f g = g := if_neg (by simp [h])

theorem takeAck_rx (f : GFlit) (g : Gvl) : (takeAck f g).rxSeq = g.rxSeq ∧ (takeAck f g).uncorrRun = g.uncorrRun := by
  unfold takeAck
  split <;> exact ⟨rfl, rfl⟩

theorem takeCredit_rx (f : GFlit) (g : Gvl) : (takeCredit f g).rxSeq = g.rxSeq ∧ (takeCredit f g).uncorrRun = g.uncorrRun := by
  unfold takeCredit
  split <;> exact ⟨rfl, rfl⟩

/-- A message of a flit moves neither the expected SEQ nor the run of uncorrectable flits. -/
theorem checkOpc_rx (s : State) (p : BitVec 3 × GMsg) :
    (checkOpc s p).gvl.rxSeq = s.gvl.rxSeq ∧ (checkOpc s p).gvl.uncorrRun = s.gvl.uncorrRun := by
  unfold checkOpc
  split
  · exact ⟨rfl, rfl⟩
  · have hpost := postsOnLink_ember 2 0x0B05 0 none p.2.opc.toNat (gvlErr 7 s)
    exact ⟨hpost.part Gvl.rxSeq fun _ => rfl, hpost.part Gvl.uncorrRun fun _ => rfl⟩

theorem checkOpcs_rx (l : List (BitVec 3 × GMsg)) (s : State) :
    (l.foldl checkOpc s).gvl.rxSeq = s.gvl.rxSeq ∧ (l.foldl checkOpc s).gvl.uncorrRun = s.gvl.uncorrRun :=
  foldl_keeps (I := fun t => t.gvl.rxSeq = s.gvl.rxSeq ∧ t.gvl.uncorrRun = s.gvl.uncorrRun)
    (fun t p h => ⟨(checkOpc_rx t p).1.trans h.1, (checkOpc_rx t p).2.trans h.2⟩) l ⟨rfl, rfl⟩

theorem checkOpc_frame (s : State) (p : BitVec 3 × GMsg) : Frame Part.posting s (checkOpc s p) :=
  (Frame.refl _ s).ite (.after (by decide) (ember_frame _ _ _ _ _ _) ((updGvl_frame _ s).mono (by decide)))

/-- A DATA flit in order moves the expected SEQ on by one. -/
theorem gvlTakeData_inOrder {s : State} {f : GFlit} (htype : f.type = 1) (hseq : f.seq = s.gvl.rxSeq) :
    (gvlTakeData f s).gvl.rxSeq = s.gvl.rxSeq + 1 ∧ (gvlTakeData f s).gvl.uncorrRun = s.gvl.uncorrRun ∧
      Frame Part.posting s (gvlTakeData f s) := by
  rw [gvlTakeData, if_neg (not_not.mpr htype), if_pos hseq]
  exact ⟨(checkOpcs_rx f.msgs _).1, (checkOpcs_rx f.msgs _).2, .after (by decide) (frame_foldl checkOpc_frame _ _) ((updGvl_frame _ s).mono (by decide))⟩

/-! ### Replay -/

/-- The endpoint with every outstanding flit to be sent again (R357). -/
def flitsAgain (g : Gvl) : Gvl :=
  { g with
    replay := g.unacked, replays := satInc g.replays, replaysSame := g.replaysSame + 1, err := setBit g.err 3 }

/-- Below the eighth time the outstanding flits go again and no more. -/
theorem replayAll_again {s : State} (hout : s.gvl.unacked ≠ []) (h : s.gvl.replaysSame < 7) : replayAll s = updGvl flitsAgain s := by
  have hsame : ¬ 8 ≤ s.gvl.replaysSame + 1 := by omega
  rw [replayAll, if_neg hout, gvlReplay, if_neg hout]
  exact if_neg hsame

/-- The eighth time starts a RECOVERY (R352). -/
theorem replayAll_eighth {s : State} (hout : s.gvl.unacked ≠ []) (h : s.gvl.replaysSame = 7) :
    replayAll s = gvlRecover none false (updGvl flitsAgain s) := by
  have hsame : 8 ≤ s.gvl.replaysSame + 1 := by omega
  rw [replayAll, if_neg hout, gvlReplay, if_neg hout]
  exact if_pos hsame

/-! ### Sending a flit -/

/-- A NAK that is owed may go: 500 ns have passed since the last (R357). -/
def nakGoes (now : Nat) (g : Gvl) : Bool :=
  g.nakOwed && (match g.lastNak with | none => true | some t => decide (t + 1350 ≤ now))

/-- The endpoint after the header's NAK. -/
def nakSent (now : Nat) (g : Gvl) : Gvl := if nakGoes now g then { g with nakOwed := false, lastNak := some now } else g

/-- The rest of a header is the acknowledgement and the credit of one channel (R356). -/
theorem flitHeader_eq (now : Nat) (g : Gvl) : ∃ owed, flitHeader now g = { nakSent now g with ackOwed := 0, owed := owed } := by
  have heq : flitHeader now g = match (nakSent now g).owed.head? with
      | none => { nakSent now g with ackOwed := 0 }
      | some (vc, n) => { nakSent now g with ackOwed := 0, owed := Tab.set 0 (nakSent now g).owed vc (n - 127) } := rfl
  rw [heq]
  split
  · exact ⟨_, rfl⟩
  · exact ⟨_, rfl⟩

theorem flitHeader_sender (now : Nat) (g : Gvl) : (flitHeader now g).replay = g.replay ∧ (flitHeader now g).unacked = g.unacked ∧
    (flitHeader now g).txSeq = g.txSeq := by
  obtain ⟨owed, h⟩ := flitHeader_eq now g
  rw [h, nakSent]
  split <;> exact ⟨rfl, rfl, rfl⟩

/-- A NAK that is owed and may go, goes. -/
theorem flitHeader_nak {now : Nat} {g : Gvl} (hnak : g.nakOwed = true) (hlast : ∀ n, g.lastNak = some n → n + 1350 ≤ now) :
    (flitHeader now g).nakOwed = false ∧ (flitHeader now g).lastNak = some now := by
  have hgo : nakGoes now g = true := by
    rw [nakGoes, hnak, Bool.true_and]
    split
    · rfl
    · next t ht => exact decide_eq_true (hlast t ht)
  obtain ⟨owed, h⟩ := flitHeader_eq now g
  rw [h, nakSent, if_pos hgo]
  exact ⟨rfl, rfl⟩

/-- Two states of the endpoint owe the same NAK. -/
def SameNak (g g' : Gvl) : Prop := g'.nakOwed = g.nakOwed ∧ g'.lastNak = g.lastNak

theorem nextGmsg_sameNak {g g' : Gvl} {vc : BitVec 3} {m : GMsg} (h : nextGmsg g = some (vc, m, g')) : SameNak g g' := by
  unfold nextGmsg at h
  dsimp only at h
  repeat' split at h
  all_goals cases h
  all_goals exact ⟨rfl, rfl⟩

theorem beginMsg_sameNak (g : Gvl) : SameNak g (beginMsg g) := by
  unfold beginMsg
  split
  · exact ⟨rfl, rfl⟩
  · next vc m g' h =>
    obtain ⟨hnak, hlast⟩ := nextGmsg_sameNak h
    exact ⟨hnak, hlast⟩

/-- Filling a flit touches no NAK. -/
theorem fillFlit_sameNak (n room : Nat) (g : Gvl) (ms : List (BitVec 3 × GMsg)) : SameNak g (fillFlit n room g ms).1 := by
  induction n generalizing room g ms with
  | zero => exact ⟨rfl, rfl⟩
  | succ n ih =>
    have hbegin : SameNak g (if g.cur.isNone then beginMsg g else g) := by
      split
      · exact beginMsg_sameNak g
      · exact ⟨rfl, rfl⟩
    rw [fillFlit]
    generalize (if g.cur.isNone then beginMsg g else g) = b at hbegin ⊢
    split
    · exact hbegin
    · split
      · obtain ⟨hnak, hlast⟩ := ih (room - _) { b with cur := none } (ms ++ [(_, _)])
        exact ⟨hnak.trans hbegin.1, hlast.trans hbegin.2⟩
      · exact hbegin

/-- The endpoint after it has sent a flit: a replay goes first, then a flit is filled while the buffer has room (R357, R358). -/
def endpointSent (now : Nat) (g : Gvl) : Gvl :=
  let h := flitHeader now g
  match h.replay with
  | _ :: r => { h with replay := r }
  | [] =>
    if 512 ≤ h.unacked.length then h
    else
      let x := fillFlit 15 15 h []
      if x.2.2 = 15 then x.1 else { x.1 with txSeq := h.txSeq + 1, unacked := h.unacked ++ [{ num := h.txSeq, msgs := x.2.1 }] }

theorem flitSend_flits {s : State} (h : gvlFlits s = true) : flitSend s = { s with gvl := endpointSent s.clk.aclk s.gvl } := by
  have hinit : s.gvl.st ≠ .init := by
    rcases gvlFlits_iff.mp h with h | h <;> rw [h] <;> decide
  unfold flitSend endpointSent
  dsimp only
  rw [if_neg hinit, if_pos h]
  cases hrep : (flitHeader s.clk.aclk s.gvl).replay with
  | cons f r => simp only
  | nil =>
    simp only
    split
    · rfl
    · split <;> rfl

theorem endpointSent_sameNak (now : Nat) (g : Gvl) : SameNak (flitHeader now g) (endpointSent now g) := by
  unfold endpointSent
  dsimp only
  split
  · exact ⟨rfl, rfl⟩
  · split
    · exact ⟨rfl, rfl⟩
    · split
      · exact fillFlit_sameNak _ _ _ _
      · exact fillFlit_sameNak _ _ _ _

theorem endpointSent_replays {g : Gvl} {f : GTx} {r : List GTx} (now : Nat) (h : g.replay = f :: r) :
    endpointSent now g = { flitHeader now g with replay := r } := by
  have hrep : (flitHeader now g).replay = f :: r := (flitHeader_sender now g).1.trans h
  rw [endpointSent]
  simp only [hrep]

theorem endpointSent_fills {g : Gvl} (now : Nat) (hrep : g.replay = []) (hroom : g.unacked.length < 512) : endpointSent now g =
    let x := fillFlit 15 15 (flitHeader now g) []
    if x.2.2 = 15 then x.1 else { x.1 with txSeq := g.txSeq + 1, unacked := g.unacked ++ [{ num := g.txSeq, msgs := x.2.1 }] } := by
  obtain ⟨hreplay, hunacked, htx⟩ := flitHeader_sender now g
  rw [endpointSent]
  simp only [hreplay, hrep, hunacked, htx]
  exact if_neg (by omega)

/-- Settles O54: a bad flit is `gvlDropFlit`, the NAK goes with the next header, and one received is a replay. -/
theorem badGarvyFlitsAreDropped : Obligations.BadGarvyFlitsAreDropped := by
  refine ⟨fun s f c corr hflits hbad => ⟨_, exec_gvlFlitReceive f c corr s, ?dropped⟩,
    fun s hflits hnak hlast => ⟨_, exec_gvlFlitSend s, ?answered⟩,
    fun s f corr hflits htype hnak hackv hcvc hout hsame => ⟨_, exec_gvlFlitReceive f .good corr s, ?replayed⟩⟩
  case dropped =>
    obtain ⟨st, err, ex, wmax, h⟩ := gvlDropFlit_eq c s
    rw [flitReceive_drops hflits hbad, h]
    exact ⟨rfl, rfl, rfl, rfl, rfl, rfl, rfl, rfl, updGvl_frame _ s⟩
  case answered =>
    obtain ⟨hheader, htime⟩ := flitHeader_nak hnak hlast
    obtain ⟨hsame, hkept⟩ := endpointSent_sameNak s.clk.aclk s.gvl
    rw [flitSend_flits hflits]
    exact ⟨hsame.trans hheader, hkept.trans htime, frame_gvl s _⟩
  case replayed =>
    rw [flitReceive_good hflits (by simp [htype])]
    dsimp only
    have hnone (g : Gvl) : takeCredit f (takeAck f g) = g := by rw [takeAck_none hackv, takeCredit_none hcvc]
    simp only [hnone]
    rw [if_pos hnak, replayAll_again (by exact hout) (by exact hsame), gvlTakeData, if_pos (by simp [htype])]
    exact ⟨rfl, rfl, rfl, .after (by decide) (updGvl_frame _ _) (updGvl_frame _ s)⟩

/-! ### The obligation about flits and signals -/

/-- Settles O36: what is received by `flitReceive_good` and `flitReceive_drops`, what is sent by `flitSend_flits`. -/
theorem garvyFlitsAndSignals : Obligations.GarvyFlitsAndSignals := by
  refine ⟨?inOrder, ?outOfOrder, ?damaged, ?sixteenth, ?replay, ?eighth, ?init, ?sendReplay, ?sendFill, ?merged, ?idle⟩
  case inOrder =>
    intro s f corr hact htype hnak hseq
    refine ⟨_, exec_gvlFlitReceive f .good corr s, ?_⟩
    rw [flitReceive_good (gvlFlits_of_active hact) (by simp [htype])]
    dsimp only
    rw [if_neg (by simp [hnak])]
    generalize hg : updGvl (fun g => takeCredit f (takeAck f { g with corr := satAdd g.corr corr, uncorrRun := 0 })) s = t
    have hrx : t.gvl.rxSeq = s.gvl.rxSeq := by rw [← hg]; exact (takeCredit_rx f _).1.trans (takeAck_rx f _).1
    have hrun : t.gvl.uncorrRun = 0 := by rw [← hg]; exact (takeCredit_rx f _).2.trans (takeAck_rx f _).2
    have hframe : Frame Part.posting s t := by rw [← hg]; exact (updGvl_frame _ s).mono (by decide)
    obtain ⟨hnext, hkept, hpost⟩ := gvlTakeData_inOrder (s := t) htype (hseq.trans hrx.symm)
    exact ⟨by rw [hnext, hrx], hkept.trans hrun, hframe.step hpost (by decide)⟩
  case outOfOrder =>
    intro s f corr hact htype hnak hackv hcvc hseq
    rw [exec_gvlFlitReceive, flitReceive_good (gvlFlits_of_active hact) (by simp [htype])]
    dsimp only
    rw [if_neg (by simp [hnak])]
    have hnone (g : Gvl) : takeCredit f (takeAck f g) = g := by rw [takeAck_none hackv, takeCredit_none hcvc]
    simp only [hnone]
    rw [gvlTakeData, if_neg (not_not.mpr htype), if_neg (by exact hseq)]
    rfl
  case damaged =>
    intro s f corr hact hrun
    rw [exec_gvlFlitReceive, flitReceive_drops (gvlFlits_of_active hact) (.inl rfl), gvlDropFlit]
    exact congrArg _ (if_neg (by simp [updGvl]; omega))
  case sixteenth =>
    intro s f corr hact hrun
    refine ⟨_, exec_gvlFlitReceive f .uncorrectable corr s, ?_⟩
    rw [flitReceive_drops (gvlFlits_of_active hact) (.inl rfl), gvlDropFlit]
    rw [if_pos (by simp [updGvl, hrun]), gvlRecover_active (by exact hact)]
    exact ⟨rfl, rfl, rfl, rfl, frame_gvl s _⟩
  case replay =>
    intro s hact hout hsame
    rw [exec_gvlReplayTimeout, if_pos (gvlFlits_of_active hact), replayAll_again hout hsame]
    rfl
  case eighth =>
    intro s hact hout hsame
    refine ⟨_, exec_gvlReplayTimeout s, ?_⟩
    rw [if_pos (gvlFlits_of_active hact), replayAll_eighth hout hsame, gvlRecover_active (by exact hact)]
    exact ⟨rfl, rfl, frame_gvl s _⟩
  case init =>
    intro s n hinit hsent
    rw [exec_gvlFlitSend, flitSend]
    simp only [hinit, if_true, hsent]
    by_cases hn : n < 15
    · rw [if_pos hn, if_neg (by omega)]
    · rw [if_neg hn, if_pos (by omega)]
  case sendReplay =>
    intro s f r hact hrep
    refine ⟨_, exec_gvlFlitSend s, ?_⟩
    obtain ⟨-, hunacked, htx⟩ := flitHeader_sender s.clk.aclk s.gvl
    rw [flitSend_flits (gvlFlits_of_active hact), endpointSent_replays _ hrep]
    exact ⟨rfl, hunacked, htx, frame_gvl s _⟩
  case sendFill =>
    intro s hact hrep hroom
    rw [exec_gvlFlitSend, flitSend_flits (gvlFlits_of_active hact), endpointSent_fills _ hrep hroom]
    intro x
    by_cases hx : x.2.2 = 15
    · rw [if_pos hx, if_pos hx]
    · rw [if_neg hx, if_neg hx]
  case merged =>
    intro s v w hw
    rw [exec_sigIntervalExpiry, sigExpiry]
    simp only [hw]
  case idle =>
    intro s v hw
    rw [exec_sigIntervalExpiry, sigExpiry]
    simp only [hw]

/-! ### The directory and the link cache -/

/-- A line that no entry holds is installed while its set has a way free (R367). -/
theorem installLine_free {s : State} {line : Nat} (d : List Byte) (hnew : ∀ c ∈ s.gvl.cache, c.1 ≠ line)
    (hroom : (s.gvl.cache.filter (fun c => c.1 % 2048 == line % 2048)).length < 8) :
    installLine line d s = updGvl (fun g => { g with cache := g.cache ++ [(line, d)] }) s := by
  have hany : ¬ ((s.gvl.cache.filter (fun c => c.1 % 2048 == line % 2048)).any (fun c => c.1 == line)) = true := by
    simp only [List.any_eq_true, List.mem_filter, beq_iff_eq, not_exists, not_and]
    exact fun c hc => hnew c hc.1
  rw [installLine, if_neg hany, if_pos hroom]

section
variable {s : State} {k : Nat} {e : DirEnt} {free : Bool}

/-- A recall that leaves the companion nothing: the entry is freed, then the device writes go on. -/
theorem recallEnd_frees (hheld : e.held = []) (h : e.why ≠ .read ∨ free = true) :
    recallEnd k e free s = settleWindows (runWrites e.writes (dirPut k none s)) := by
  have hnot : ¬ (e.why = .read ∧ (!free) = true) := by
    rintro ⟨hread, hfree⟩
    rcases h with h | h
    · exact h hread
    · simp [h] at hfree
  rw [recallEnd, if_neg hnot, hheld, List.foldl_nil]

/-- A device read leaves the companion a shared copy. -/
theorem recallEnd_shares (hheld : e.held = []) (hwhy : e.why = .read) (hfree : free = false) (hwrites : e.writes = []) :
    recallEnd k e free s = settleWindows (dirPut k (some { e with st := .s, held := [], writes := [] }) s) := by
  rw [recallEnd, if_pos ⟨hwhy, by simp [hfree]⟩, hheld, hwrites]
  rfl

end

/-- The block's bytes and code, and the counts (R369). -/
def blockPoisoned (p : Nat) (s : State) : State :=
  { s with
    mem := poisonBlock (memWrite s.mem p (List.replicate 256 0)) p,
    gvl := { s.gvl with poisoned := satInc s.gvl.poisoned, err := setBit s.gvl.err 5 } }

theorem blockPoisoned_frame (p : Nat) (s : State) : Frame [.mem, .gvl] s (blockPoisoned p s) :=
  .after (by decide) (frame_gvl { s with mem := poisonBlock (memWrite s.mem p (List.replicate 256 0)) p } _)
    ((frame_mem s _).mono (by decide))

/-- The rest of a poisoning is the ember to the owner. -/
theorem poisonHost_eq {s : State} {k p : Nat} (h : placeOf s (k * 256) = some p) :
    ∃ ctx, poisonHost k s = ember 2 0x0B03 0 ctx k (blockPoisoned p s) := by
  unfold poisonHost
  rw [h]
  exact ⟨_, rfl⟩

/-- Settles O38: SACK, SDATA and the snoop's timeout end a recall (`recallEnd_frees`, `recallEnd_shares`). -/
theorem directoryAndLinkCache : Obligations.DirectoryAndLinkCache := by
  refine ⟨fun s => exec_gvlCacheFlush s, ?snpinv, ?datal, fun s line d => installLine_free d, ?timeout, ?sack, ?recallOver, ?sdata,
    ?sdataWrite, ?snoop, ?poison⟩
  case snpinv =>
    intro s m h
    rw [exec_snpinvReceive, snpinvReceive, if_pos (gvlFlits_iff.mpr h)]
  case datal =>
    intro s m r hact hr
    rw [exec_datalReceive, datalReceive, if_pos hact, hr]
    simp only [Bool.not_eq_true']
  case timeout =>
    intro s tag h
    rw [exec_deviceReadTimeout, deviceReadTimeout, if_pos h]
  case sack =>
    intro s m k e hact hk
    rw [exec_sackReceive, sackReceive, if_pos hact, hk]
  case recallOver =>
    exact fun s k e free hheld => ⟨recallEnd_frees hheld, recallEnd_shares hheld⟩
  case sdata =>
    intro s m k e p hact hk hcode hwhy hp
    rw [exec_sdataReceive, sdataReceive, if_pos hact, hk]
    simp only [hcode, ne_eq, not_true_eq_false, if_false, if_neg hwhy, hp]
  case sdataWrite =>
    intro s m k e hact hk
    rw [exec_sdataReceive, sdataReceive, if_pos hact, hk]
    refine ⟨fun hcode hwhy => ?_, fun hcode => ?_⟩
    · simp only [hcode, ne_eq, not_true_eq_false, if_false, hwhy, if_true]
    · exact congrArg _ (if_pos hcode)
  case snoop =>
    intro s k e hk hst
    rw [exec_snoopTimeout, snoopTimeout, hk]
    exact congrArg _ (if_pos hst)
  case poison =>
    intro s k p hp _
    obtain ⟨ctx, h⟩ := poisonHost_eq hp
    have hember := ember_frame 2 0x0B03 0 ctx k (blockPoisoned p s)
    have hpost := postsOnLink_ember 2 0x0B03 0 ctx k (blockPoisoned p s)
    have hmem : (poisonHost k s).mem = poisonBlock (memWrite s.mem p (List.replicate 256 0)) p := by
      rw [h]
      exact hember .mem (by decide)
    rw [hmem, h]
    refine ⟨fun i hi => ?_, ?_, hpost.part Gvl.poisoned fun _ => rfl, hpost.part Gvl.err fun _ => rfl,
      .after (by decide) hember ((blockPoisoned_frame p s).mono (by decide))⟩
    · rw [memGet_poisonBlock, memGet_memWrite, List.length_replicate, if_pos (by omega), Nat.add_sub_cancel_left]
      exact List.getD_replicate _ hi
    · rw [poisonBlock, Tab.get_set, if_pos rfl]

end Sys2Proof.Machine
end

section
/-! SUPPORT. A link down runs the device writes that waited for a recall (R372, R375), and an ADD that saturates among them notes RANGE
in its request's ledger (R78); and the refutation of O35, whose clause on a link down leaves the contexts out of what may change. -/

namespace Sys2Proof.Machine

/-! ### What a link down does to the contexts -/

theorem settleWindows_frame (s : State) : Frame [.xbr, .gvl] s (settleWindows s) := by
  unfold settleWindows
  exact .after (by decide) (frame_foldl (g := fun a (p : Nat × BitVec 128) => setWindow p.1 p.2 a) (fun a p => setWindow_frame _ _ a) _ _)
    ((frame_xbr s _).mono (by decide))

/-- The contexts after a link down are those its waiting device writes leave. -/
theorem ctxs_gvlDown (cause : Nat) (s : State) :
    ∃ g, (gvlDown cause s).ctxs = (s.gvl.dir.foldl downEntry { s with gvl := g }).ctxs := by
  unfold gvlDown
  refine ⟨_, ((sigState_frame _) .ctxs (by decide)).trans <| ((ember_frame _ _ _ _ _ _) .ctxs (by decide)).trans <|
    ((updGvl_frame _ _) .ctxs (by decide)).trans ((settleWindows_frame _) .ctxs (by decide))⟩

theorem poisonHost_frame (k : Nat) (s : State) : Frame [.mem, .gvl, .mbx, .posted, .mgt] s (poisonHost k s) := by
  unfold poisonHost
  have hgvl (a : State) (g : Gvl) : Frame [.mem, .gvl, .mbx, .posted, .mgt] a { a with gvl := g } := (frame_gvl a g).mono (by decide)
  split
  · exact .after (by decide) (ember_frame _ _ _ _ _ _) (hgvl s _)
  · exact .after (by decide) (ember_frame _ _ _ _ _ _) <| .after (by decide) (hgvl _ _) ((frame_mem s _).mono (by decide))

/-! ### Two device writes -/

/-- The block whose writes waited: the first of the shared store. -/
def waitBlock : Nat := storeBase / 256

/-- A store of the greatest I32 word. -/
def storeMax : DevWrite := { place := storeBase, op := none, data := [0xFF, 0xFF, 0xFF, 0x7F], req := none }

/-- The request started as 77 in context slot 0 adds 1 to it. -/
def addOne : DevWrite := { place := storeBase, op := some 0, data := [1, 0, 0, 0], req := some (0, 77) }

/-- The sum is out of range. -/
theorem addOne_range (m : Mem) : addOne.range (storeMax.run m) = true := by
  have hread : memRead (storeMax.run m) storeBase 4 = [0xFF, 0xFF, 0xFF, 0x7F] := memRead_storeBytes m storeBase storeMax.data
  have hlen : addOne.data.length = 4 := rfl
  rw [DevWrite.range, hlen, show addOne.place = storeBase from rfl, hread]
  decide

theorem ctxs_updRel (c : Nat) (inst : W32) (f : RelRec → RelRec) (s : State) : (updRel c inst f s).ctxs =
    match Tab.get none s.ctxs c with
    | none => s.ctxs
    | some x => Tab.set none s.ctxs c (some { x with rel := updIf (fun r => r.inst == inst && r.started) f x.rel }) := by
  cases h : Tab.get none s.ctxs c with
  | none =>
    have hget : getCtx s c = none := h
    rw [updRel, updCtx, hget]
  | some x =>
    have hget : getCtx s c = some x := h
    rw [updRel, updCtx, hget]
    rfl

/-- The two writes note RANGE in the ledger of that request. -/
theorem runWrites_notes (s : State) : (runWrites [storeMax, addOne] s).ctxs =
    (updRel 0 77 (fun r => { r with ledger := ledFlags ⟨true, false⟩ r.ledger }) s).ctxs := by
  have hadd (t : State) (h : addOne.range t.mem = true) : runWrite t addOne =
      updRel 0 77 (fun r => { r with ledger := ledFlags ⟨true, false⟩ r.ledger }) { t with mem := addOne.run t.mem } := by
    unfold runWrite
    rw [h]
    rfl
  change (runWrite { s with mem := storeMax.run s.mem } addOne).ctxs = _
  rw [hadd { s with mem := storeMax.run s.mem } (addOne_range s.mem), ctxs_updRel, ctxs_updRel]

/-! ### The state -/

/-- A descriptor of the release request. -/
def downDesc : Desc :=
  { ring := 4, opcode := 0x0501, fence := false, tmo := false, timeout := 0, tag := 7, inaddr := 0, inlen := 0, outlen := 64,
    outaddr := 0x1000, malformed := false, inOk := true }

/-- The release record of that request; its ledger has no flag. -/
def downRel : RelRec :=
  { num := 9, daylight := false, greedy := true, topk := 1, topp := none, seed := 0, temp := 0, maxtok := 4, stop := [],
    prompt := [1, 2], mask := none, mdigest := none, gstate := 0, started := true, inst := 77, seg := 0, reqtag := 9, entry := 1,
    released := [], segReleased := 0, lastPos := 2, drawn := none, ledger := ledNew 5 9 false, end_ := 0, retired := false,
    retiring := none, retiredAt := 0, limit := 0, pfxSuspect := false, passEnd := 1, stale := false, flagged := [], owed := true,
    cmd := downDesc }

/-- Context 5 with that record. -/
def downCtx : Ctx :=
  { ctxNew State.reset downDesc
      { ctxid := 5, sconces := 1, weight := 0, daylight := false, log := false, wset := false, pfx := false, pfxlant := 0,
        rings := 0x10, batchmax := 4, qmax := 4, vocab := 100 } 0 1 with rel := [downRel] }

/-- The link is ACTIVE, the companion holds a block in X whose recall runs, and both writes wait for it. -/
def downState : State :=
  { State.reset with
    gvl := { State.reset.gvl with
      st := .active,
      dir := [(waitBlock, some { st := .r, order := 0, why := .write, tag := 0, held := [], writes := [storeMax, addOne] })] },
    ctxs := [(0, some downCtx)] }

/-- The flags of the ledgers of context slot 0. -/
def ledgerFlags (t : Tab (Option Ctx)) : Option (List Byte) := (Tab.get none t 0).map (fun x => x.rel.map (fun r => r.ledger.flags))

/-- The link down sets RANGE in the request's ledger. -/
theorem ledgerFlags_gvlDown : ledgerFlags (gvlDown 1 downState).ctxs = some [2] := by
  obtain ⟨g, hdown⟩ := ctxs_gvlDown 1 downState
  have hentry : (gvlDown 1 downState).ctxs = (runWrites [storeMax, addOne] (poisonHost waitBlock { downState with gvl := g })).ctxs :=
    hdown
  have hctxs : (poisonHost waitBlock { downState with gvl := g }).ctxs = [(0, some downCtx)] := poisonHost_frame _ _ .ctxs (by decide)
  rw [hentry, runWrites_notes, ctxs_updRel, hctxs]
  rfl

/-- Refutes O35: in its clause on a link down the frame leaves out the contexts, and the writes that waited for a recall go on
(`downEntry`), an ADD that saturates among them noting RANGE in its request's ledger (`runWrite`). In `downState` the ledger's flags
go from 0 to 2. -/
theorem not_garvyStates : ¬ Obligations.GarvyStates := by
  rintro ⟨-, -, -, hdown, -⟩
  obtain ⟨-, -, -, -, -, -, hframe⟩ := hdown downState 1
  have hctxs : (gvlDown 1 downState).ctxs = [(0, some downCtx)] := hframe .ctxs (by decide)
  have hflags := ledgerFlags_gvlDown
  rw [hctxs] at hflags
  exact absurd hflags (by decide)

end Sys2Proof.Machine
end

section
/-! SUPPORT. The mailbox rings: doorbells (R383), attach and re-attach (R381, R382), the fetch of descriptors (R384, R386) and held
notifications (R385); and the settlement of O21. -/

namespace Sys2Proof.Machine

theorem exec_mbxSqDoorbell (r : RingI) (v : W32) (s : State) : exec (.mbxSqDoorbell r v) s = .next (sqDoorbell r.val v s) := rfl

theorem exec_mbxCqDoorbell (r : RingI) (v : W32) (s : State) : exec (.mbxCqDoorbell r v) s = .next (cqDoorbell r.val v s) := rfl

theorem exec_mbxAttach (e : Option RingEntry) (s : State) : exec (.mbxAttach e) s = .next (doAttach e s) := rfl

theorem exec_mbxReattach (e : Option RingEntry) (s : State) : exec (.mbxReattach e) s = .next (doReattach e s) := rfl

theorem exec_reattachDiscardTimeout (r : RingI) (s : State) :
    exec (.reattachDiscardTimeout r) s = .next (doReattachDiscard r.val s) := rfl

theorem exec_descriptorFetch (r : RingI) (res : FetchRes) (s : State) :
    exec (.descriptorFetch r res) s = .next (doFetch r.val res s) := rfl

theorem exec_notificationFlush (r : RingI) (s : State) : exec (.notificationFlush r) s = .next (doNoteFlush r s) := rfl

/-! ### One ring changes -/

/-- Of the mailbox one ring is as a change leaves it, and every other part and ring is as before. -/
def RingChanged (r : Nat) (g : Ring) (s t : State) : Prop :=
  getRing t r = g ∧ (∀ i, i ≠ r → getRing t i = getRing s i) ∧ Frame [.mbx] s t

theorem ringChanged_updRing (r : Nat) (f : Ring → Ring) (s : State) : RingChanged r (f (getRing s r)) s (updRing r f s) :=
  ⟨by rw [getRing_updRing, if_pos rfl], fun i hi => by rw [getRing_updRing, if_neg hi], updRing_frame s r f⟩

/-- A ring that is left as it was changes no ring. -/
theorem RingChanged.all {r : Nat} {s t : State} (h : RingChanged r (getRing s r) s t) (i : Nat) : getRing t i = getRing s i := by
  obtain ⟨hr, hother, -⟩ := h
  by_cases hi : i = r
  · rw [hi, hr]
  · exact hother i hi

/-! ### Doorbells -/

section
variable {g : Ring} {v : W32}

/-- A submission count is in range: the ring is OFF, or has room for it (R383). -/
def sqInRange (g : Ring) (v : W32) : Prop :=
  g.st = .off ∨ (v - g.sqdb).toNat ≤ 2 ^ g.sqlog2.toNat - (g.sqdb - g.sqhead).toNat

/-- A completion count is in range: the ring is OFF, or has posted as many (R383). -/
def cqInRange (g : Ring) (v : W32) : Prop := g.st = .off ∨ (v - g.cqdb).toNat ≤ (g.cqtail - g.cqdb).toNat

theorem sqInRange_self (g : Ring) : sqInRange g g.sqdb := .inr (by simp)

theorem cqInRange_self (g : Ring) : cqInRange g g.cqdb := .inr (by simp)

end

theorem sqDoorbell_changes {s : State} {r : Nat} {v : W32} :
    (sqInRange (getRing s r) v → RingChanged r { getRing s r with sqdb := v } s (sqDoorbell r v s)) ∧
      (¬ sqInRange (getRing s r) v → RingChanged r { getRing s r with dberr := true } s (sqDoorbell r v s)) := by
  have h := ringChanged_updRing r (fun g => if g.st = .off then { g with sqdb := v }
    else if (v - g.sqdb).toNat ≤ 2 ^ g.sqlog2.toNat - (g.sqdb - g.sqhead).toNat then { g with sqdb := v }
    else { g with dberr := true }) s
  unfold sqInRange sqDoorbell
  constructor
  · rintro (hoff | hle)
    · rwa [if_pos hoff] at h
    · rwa [if_pos hle, ite_self] at h
  · intro hout
    rw [not_or] at hout
    rwa [if_neg hout.1, if_neg hout.2] at h

theorem cqDoorbell_changes {s : State} {r : Nat} {v : W32} :
    (cqInRange (getRing s r) v → RingChanged r { getRing s r with cqdb := v } s (cqDoorbell r v s)) ∧
      (¬ cqInRange (getRing s r) v → RingChanged r { getRing s r with dberr := true } s (cqDoorbell r v s)) := by
  have h := ringChanged_updRing r (fun g => if g.st = .off then { g with cqdb := v }
    else if (v - g.cqdb).toNat ≤ (g.cqtail - g.cqdb).toNat then { g with cqdb := v }
    else { g with dberr := true }) s
  unfold cqInRange cqDoorbell
  constructor
  · rintro (hoff | hle)
    · rwa [if_pos hoff] at h
    · rwa [if_pos hle, ite_self] at h
  · intro hout
    rw [not_or] at hout
    rwa [if_neg hout.1, if_neg hout.2] at h

/-! ### Attach and re-attach -/

/-- Ring 0 is OFF and the package has not withheld: an entry in range is loaded. -/
theorem doAttach_off {s : State} (hheld : s.snuf.wheld = false) (hoff : (getRing s 0).st = .off) (e : Option RingEntry) :
    doAttach e s = attach0 e s := if_neg (by simp [hheld, hoff])

theorem doAttach_ignored {s : State} (h : s.snuf.wheld = true ∨ (getRing s 0).st ≠ .off) (e : Option RingEntry) :
    doAttach e s = s := if_pos (by simpa using h)

theorem attach0_loads {e : RingEntry} (h : entryOk e = true) (s : State) :
    attach0 (some e) s = flushHeld 0 (loadRing 0 e { s with mbx := { s.mbx with atterr := false } }) := by
  rw [attach0, Option.filter_some, if_pos h]

theorem attach0_fails {e : Option RingEntry} (h : e.filter entryOk = none) (s : State) :
    attach0 e s = { s with mbx := { s.mbx with atterr := true } } := by
  rw [attach0, h]

/-- Every ring OFF, with nothing held (R382). -/
def ringsOff (s : State) : State :=
  (List.range 64).foldl (fun s r => updRing r (fun g => { g with st := .off, notes := [], heldCpl := [] }) s) s

theorem ringsOff_frame (s : State) : Frame [.mbx] s (ringsOff s) := frame_foldl (fun a r => updRing_frame a r _) _ s

theorem getRing_ringsOff (s : State) {r : Nat} (hr : r < 64) :
    getRing (ringsOff s) r = { getRing s r with st := .off, notes := [], heldCpl := [] } := by
  have hloop := foldl_units (get := getRing) (g := fun s r => updRing r (fun g => { g with st := .off, notes := [], heldCpl := [] }) s)
    (f := fun _ g => { g with st := .off, notes := [], heldCpl := [] }) (I := fun _ => True) (ks := List.range 64) (fun _ _ => rfl)
    (fun t _ r _ => ⟨trivial, fun n => getRing_updRing r n _ t⟩) (s := s) trivial
  rw [ringsOff, hloop.2 r, if_pos (List.mem_range.mpr hr)]

/-- No version and no attach error. -/
def unversioned (s : State) : State := { s with mbx := { s.mbx with curver := 0, atterr := false } }

theorem curver_unversioned (s : State) : (unversioned s).mbx.curver = 0 := rfl

theorem getRing_unversioned (s : State) (r : Nat) : getRing (unversioned s) r = getRing s r := rfl

theorem unversioned_frame (s : State) : Frame [.mbx] s (unversioned s) := frame_mbx s _

theorem attach0_unversioned {e : RingEntry} (h : entryOk e = true) (s : State) :
    attach0 (some e) { s with mbx := { s.mbx with curver := 0 } } = flushHeld 0 (loadRing 0 e (unversioned s)) := attach0_loads h _

theorem doReattach_eq {s : State} (hheld : s.snuf.wheld = false) {e : RingEntry} (he : entryOk e = true) :
    doReattach (some e) s = flushHeld 0 (loadRing 0 e (unversioned (ringsOff s))) := by
  rw [← attach0_unversioned he]
  exact if_neg (by simp [hheld])

/-- A ring that holds nothing delivers nothing. -/
theorem flushHeld_empty {r : RingI} {s : State} (h : (getRing s r.val).heldCpl = []) :
    flushHeld r s = updRing r.val (fun g => { g with heldCpl := [] }) s := by
  rw [flushHeld, h, List.foldl_nil]

/-- Ring 0 loaded again over rings that hold nothing. -/
theorem reattached {u : State} {e : RingEntry} (hempty : (getRing u 0).heldCpl = []) :
    let t := flushHeld 0 (loadRing 0 e u)
    t.mbx.curver = u.mbx.curver ∧ (getRing t 0).st = .run ∧ (getRing t 0).sqbase = e.sqbase ∧ (getRing t 0).cqbase = e.cqbase ∧
      (∀ r, 0 < r → getRing t r = getRing u r) ∧ Frame [.mbx] u t := by
  have hheld : (getRing (loadRing 0 e u) 0).heldCpl = [] := by
    rw [loadRing, getRing_updRing, if_pos rfl]
    exact hempty
  have hget (r : Nat) : getRing (updRing 0 (fun g => { g with heldCpl := [] }) (loadRing 0 e u)) r =
      if r = 0 then { getRing (loadRing 0 e u) 0 with heldCpl := [] } else getRing u r := by
    rw [getRing_updRing]
    by_cases hr : r = 0
    · rw [if_pos hr, if_pos hr]
    · rw [if_neg hr, if_neg hr, loadRing, getRing_updRing, if_neg hr]
  have hflush : flushHeld 0 (loadRing 0 e u) = updRing 0 (fun g => { g with heldCpl := [] }) (loadRing 0 e u) :=
    flushHeld_empty (r := 0) hheld
  rw [hflush]
  dsimp only
  rw [hget 0, if_pos rfl, loadRing, getRing_updRing, if_pos rfl]
  refine ⟨rfl, rfl, rfl, rfl, fun r hr => ?_, (updRing_frame _ _ _).step (updRing_frame _ _ _) (by decide)⟩
  exact (hget r).trans (if_neg (by omega))

/-! ### Fetch -/

section
variable {s : State} {r : Nat} (hheld : s.snuf.wheld = false) (hup : gvlUp s = true) (hfetch : fetchable s r = true)
  (hturn : fetchTurn s r = true)

/-- The ring whose turn it was is noted (R384). -/
def turnTaken (r : Nat) (s : State) : State := if 4 ≤ r then { s with mbx := { s.mbx with lastRing := r } } else s

theorem turnTaken_frame (r : Nat) (s : State) : Frame [.mbx] s (turnTaken r s) := (frame_mbx s _).ite (Frame.refl _ s)

theorem getRing_turnTaken (r : Nat) (s : State) (i : Nat) : getRing (turnTaken r s) i = getRing s i := by
  unfold turnTaken
  split <;> rfl

theorem ringChanged_turnTaken (r : Nat) (f : Ring → Ring) (s : State) :
    RingChanged r (f (getRing s r)) s (updRing r f (turnTaken r s)) := by
  obtain ⟨hr, hother, hframe⟩ := ringChanged_updRing r f (turnTaken r s)
  exact ⟨by rw [hr, getRing_turnTaken], fun i hi => by rw [hother i hi, getRing_turnTaken], (turnTaken_frame r s).step hframe (by decide)⟩

include hheld hup hfetch hturn

theorem doFetch_desc (d : Desc) : doFetch r (.desc d) s =
    updRing r (fun g => { g with sqhead := g.sqhead + 1, queued := g.queued ++ [d] }) (turnTaken r s) :=
  if_pos (by simp [hheld, hup, hfetch, hturn])

theorem doFetch_retried (d : Desc) : doFetch r (.retried d) s =
    updRing r (fun g => { g with sqhead := g.sqhead + 1, queued := g.queued ++ [d] }) (turnTaken r s) :=
  if_pos (by simp [hheld, hup, hfetch, hturn])

theorem doFetch_failed : doFetch r .failed s = updRing r (fun g => { g with st := .stopped, fetcherr := true }) (turnTaken r s) :=
  if_pos (by simp [hheld, hup, hfetch, hturn])

end

/-! ### Held notifications -/

/-- The one notification held is posted, and with none lost nothing more. -/
theorem doNoteFlush_one {s : State} {r : RingI} {c : Cpl} (hheld : s.snuf.wheld = false) (hring : ringHeld s r.val = false)
    (hnotes : (getRing s r.val).notes = [c]) (hlost : (getRing s r.val).lostSince = 0) (hfree : ringFree (getRing s r.val) ≠ 0) :
    doNoteFlush r s = postRaw r c (updRing r.val (fun g => { g with notes := g.notes.drop 1 }) s) := by
  have hnone : (getRing (postRaw r c (updRing r.val (fun g => { g with notes := g.notes.drop 1 }) s)) r.val).lostSince = 0 := by
    rw [getRing_postRaw, if_pos rfl, getRing_updRing, if_pos rfl]
    exact hlost
  rw [doNoteFlush, if_neg (by simp [ringsStopped, hheld, hring]), hnotes, flushNotes, if_neg hfree, flushNotes, postLost]
  exact if_neg fun h => h.2.1 hnone

/-- Settles O21: each command by the rings it changes (`RingChanged`). -/
theorem mailboxRingsAndDoorbells : Obligations.MailboxRingsAndDoorbells := by
  refine ⟨?sq, ?cq, ?same, ?attach, ?attachFails, fun s e h => ?ignored, ?reattach, ?discard, ?fetch, ?fetchRetried, ?fetchFails, ?notes⟩
  case sq =>
    intro s r v g
    obtain ⟨hin, hout⟩ := @sqDoorbell_changes s r.val v
    refine ⟨_, exec_mbxSqDoorbell r v s, fun h => (hin h).1, fun hoff h => (hout ?_).1, ?_⟩
    · exact not_or.mpr ⟨hoff, Nat.not_le.mpr h⟩
    · by_cases h : sqInRange (getRing s r.val) v
      · exact (hin h).2
      · exact (hout h).2
  case cq =>
    intro s r v g
    obtain ⟨hin, hout⟩ := @cqDoorbell_changes s r.val v
    refine ⟨_, exec_mbxCqDoorbell r v s, fun h => (hin h).1, fun hoff h => (hout ?_).1, ?_⟩
    · exact not_or.mpr ⟨hoff, Nat.not_le.mpr h⟩
    · by_cases h : cqInRange (getRing s r.val) v
      · exact (hin h).2
      · exact (hout h).2
  case same =>
    rintro s r g rfl
    have hsq := sqDoorbell_changes.1 (sqInRange_self (getRing s r.val))
    have hcq := cqDoorbell_changes.1 (cqInRange_self (getRing s r.val))
    exact ⟨⟨_, exec_mbxSqDoorbell r _ s, hsq.all, hsq.2.2⟩, ⟨_, exec_mbxCqDoorbell r _ s, hcq.all, hcq.2.2⟩⟩
  case attach =>
    intro s e hheld hoff he
    rw [exec_mbxAttach, doAttach_off hheld hoff, attach0_loads he]
  case attachFails =>
    intro s e hheld hoff he
    rw [exec_mbxAttach, doAttach_off hheld hoff, attach0_fails he]
  case ignored => rw [exec_mbxAttach, doAttach_ignored h]
  case reattach =>
    intro s e hheld he
    refine ⟨_, exec_mbxReattach (some e) s, ?_⟩
    have hget (r : Nat) (hr : r < 64) : getRing (unversioned (ringsOff s)) r =
        { getRing s r with st := .off, notes := [], heldCpl := [] } := by
      rw [getRing_unversioned, getRing_ringsOff s hr]
    obtain ⟨hver, hst, hsq, hcq, hother, hframe⟩ := reattached (u := unversioned (ringsOff s)) (e := e) (by rw [hget 0 (by decide)])
    rw [doReattach_eq hheld he]
    exact ⟨hver.trans (curver_unversioned _), hst, hsq, hcq, fun r hlo hhi => by rw [hother r hlo, hget r hhi],
      (ringsOff_frame s).step (unversioned_frame _) (by decide) |>.step hframe (by decide)⟩
  case discard =>
    intro s r g hoff hne
    rw [exec_reattachDiscardTimeout, doReattachDiscard]
    exact congrArg _ (if_pos ⟨hoff, hne⟩)
  case fetch =>
    intro s r d hheld hup hfetch hturn
    refine ⟨_, exec_descriptorFetch r _ s, ?_⟩
    rw [doFetch_desc hheld hup hfetch hturn]
    exact ringChanged_turnTaken r.val _ s
  case fetchRetried =>
    intro s r d hheld hup hfetch hturn
    refine ⟨_, exec_descriptorFetch r _ s, ?_⟩
    rw [doFetch_retried hheld hup hfetch hturn]
    exact ringChanged_turnTaken r.val _ s
  case fetchFails =>
    intro s r hheld hup hfetch hturn
    refine ⟨_, exec_descriptorFetch r _ s, ?_⟩
    rw [doFetch_failed hheld hup hfetch hturn]
    exact ringChanged_turnTaken r.val _ s
  case notes =>
    intro s r c hheld hring hnotes hlost hfree
    rw [exec_notificationFlush, doNoteFlush_one hheld hring hnotes hlost hfree]

end Sys2Proof.Machine
end

section
/-! SUPPORT. Curfew messages at a target (R342, R343, R347), hold rules at their timeout (R446) and the layer wave of the entry package
(R392, R444, R445); and the settlement of O31. -/

namespace Sys2Proof.Machine

theorem exec_curfewSet (k : LinkI) (m : Msg) (s : State) : exec (.curfewSet k m) s = .next (doCurfewSet k m s) := rfl

theorem exec_curfewLift (k : LinkI) (m : Msg) (fails : List (Lan × LWick × List (Nat × Int))) (s : State) :
    exec (.curfewLift k m fails) s = .next (doCurfewLift k m fails s) := rfl

theorem exec_curfewQuery (k : LinkI) (m : Msg) (s : State) : exec (.curfewQuery k m) s = .next (doCurfewQuery k m s) := rfl

theorem exec_curfewReport (k : LinkI) (m : Msg) (s : State) : exec (.curfewReport k m) s = .next (doCurfewReport k m s) := rfl

theorem exec_holdRuleTimeout (ctx : W16) (cfid : W32) (fails : List (Lan × LWick × List (Nat × Int))) (s : State) :
    exec (.holdRuleTimeout ctx cfid fails) s = .next (doRuleTimeout ctx cfid fails s) := rfl

theorem exec_waveQueryTimer (c : CtxI) (s : State) : exec (.waveQueryTimer c) s = .next (doWaveQuery c.val s) := rfl

theorem exec_curfewResendTimer (c : CtxI) (s : State) : exec (.curfewResendTimer c) s = .next (doCurfewResend c.val s) := rfl

theorem exec_waveDrainExpiry (c : CtxI) (s : State) : exec (.waveDrainExpiry c) s = .next (doDrainExpiry c.val s) := rfl

theorem exec_wgtReplace (d : Desc) (old new drain : W32) (s : State) :
    exec (.wgtReplace d old new drain) s = .next (doWgtReplace d old new drain s) := rfl

/-! ### At a target -/

section
variable {k : LinkI} {m : Msg} {b : CurfewBody} {s w : State}

theorem curfewOf_body (hbody : m.body = .curfew b) : curfewOf m = some b := by
  rw [curfewOf, hbody]

/-- A delivered curfew message of an OP is acted on as that OP says. -/
theorem receiveCurfew_delivered {op : Nat} (h : delivered k.val m 0x12 s w) (hbody : m.body = .curfew b) (hop : b.op.toNat = op)
    (body : CurfewBody → State → State) : receiveCurfew k m op body s = body b w := by
  rw [receiveCurfew, receive_delivered h, curfewOf_body hbody]
  exact if_pos hop

variable (h : delivered k.val m 0x12 s w) (hbody : m.body = .curfew b)
include h hbody

theorem doCurfewSet_adds (hop : b.op = 1) (hroom : ruleOf w m.hdr.ctx b.cfid ≠ none ∨ w.fab.rules.length < 16) :
    let r := newRule m b (ruleOf w m.hdr.ctx b.cfid)
    doCurfewSet k m s = sendReport m.hdr.src m.hdr.ctx b 0 r.held.length (if r.overflow then 1 else 0) { w with
      fab := { w.fab with rules := w.fab.rules.filter (fun q => !(q.cfid == b.cfid && q.ctx == m.hdr.ctx)) ++ [r] } } := by
  have hnot : ¬ ((ruleOf w m.hdr.ctx b.cfid).isNone && decide (16 ≤ w.fab.rules.length)) = true := by
    simp only [Bool.and_eq_true, Option.isNone_iff_eq_none, decide_eq_true_eq, not_and_or, Nat.not_le]
    exact hroom
  rw [doCurfewSet, receiveCurfew_delivered h hbody (by rw [hop]; rfl)]
  exact if_neg hnot

theorem doCurfewSet_full (hop : b.op = 1) (hnew : ruleOf w m.hdr.ctx b.cfid = none) (hfull : 16 ≤ w.fab.rules.length) :
    doCurfewSet k m s = sendReport m.hdr.src m.hdr.ctx b 0 0 3 w := by
  rw [doCurfewSet, receiveCurfew_delivered h hbody (by rw [hop]; rfl)]
  exact if_pos (by simp [hnew, hfull])

theorem doCurfewReport_waves {c : Nat} {x : Ctx} {v : Wave} (hop : b.op = 4) (hc : msgCtx w m.hdr = some c)
    (hx : getCtx w c = some x) (hv : x.wave = some v) : doCurfewReport k m s = kickRepl c (waveReport c x v m.hdr.src b w) := by
  rw [doCurfewReport, receiveCurfew_delivered h hbody (by rw [hop]; rfl)]
  simp only [hc, hx, hv]

end

/-! ### A rule at its timeout -/

theorem isStaged_updRule (r : HoldRule) (f : HoldRule → HoldRule) (s : State) (c : Nat) (ep : W32) :
    isStaged (updRule r f s) c ep = isStaged s c ep := rfl

/-- A rule whose epoch is not STAGED goes without a rewrite (R446). -/
theorem doRuleTimeout_drops {s : State} {ctx : W16} {cfid : W32} {r : HoldRule} {c : Nat} {x : Ctx}
    (fails : List (Lan × LWick × List (Nat × Int))) (hheld : s.snuf.wheld = false) (hr : ruleOf s ctx cfid = some r)
    (hc : slotOf s ctx = some c) (hx : getCtx s c = some x) (hrw : x.rewrite = none) (hst : isStaged s c r.epoch = false) :
    doRuleTimeout ctx cfid fails s = dropRule (some c) { r with overflow := false } (r.lifting.getD r.src)
      (updRule r (fun _ => { r with overflow := false }) s) := by
  have hslot (f : HoldRule → HoldRule) : slotOf (updRule r f s) ctx = some c := hc
  have hget (f : HoldRule → HoldRule) : getCtx (updRule r f s) c = some x := hx
  unfold doRuleTimeout
  simp only [hheld, hr, hslot, hget, hrw, isStaged_updRule, hst, Bool.false_eq_true, if_false, Bool.false_and]
  rfl

/-! ### The wave's timers -/

section
variable {s : State} {c : Nat} {x : Ctx} {w : Wave}

theorem doWaveQuery_asks (h : waveOf s c = some (x, w)) (hphase : w.phase = 3) : doWaveQuery c s =
    waveSend x 3 w.new x.path (updWave c (fun w => { w with await := x.path.map (fun p => (p, 1)), counts := [] }) s) := by
  rw [doWaveQuery, h]
  exact if_pos hphase

/-- While no message has been sent three times, each that drew no report goes again. -/
theorem doCurfewResend_again (h : waveOf s c = some (x, w)) (hsent : ∀ a ∈ w.await, a.2 < 3) : doCurfewResend c s =
    waveSend x (if w.phase = 1 then 1 else if w.phase = 3 then 3 else 2) w.new (w.await.map (fun a => a.1))
      (updWave c (fun w => { w with await := w.await.map (fun a => if a.2 < 3 then (a.1, a.2 + 1) else a) }) s) := by
  have hnone : w.await.any (fun a => decide (3 ≤ a.2)) = false := by
    simp only [List.any_eq_false, decide_eq_true_eq, Nat.not_le]
    exact hsent
  have hall : w.await.filter (fun a => decide (a.2 < 3)) = w.await :=
    List.filter_eq_self.mpr fun a ha => decide_eq_true (hsent a ha)
  rw [doCurfewResend, h]
  simp only [hnone, Bool.false_eq_true, and_false, if_false, hall]

theorem doDrainExpiry_misses (h : waveOf s c = some (x, w)) (hphase : w.phase = 3) (hexp : w.expired = false) :
    doDrainExpiry c s = missOpen x w.new (updWave c (fun w => { w with expired := true }) s) := by
  rw [doDrainExpiry, h]
  exact if_pos (by simp [hphase, hexp])

end

/-! ### WGT.REPLACE -/

/-- The command waits behind none, and starts on the context as it was. -/
theorem kickRepl_one {s : State} {c : Nat} {x : Ctx} {d : Desc} {old new drain : W32} (hx : getCtx s c = some x)
    (hwave : x.wave = none) (hq : x.replQ = [(d, old, new, drain)]) : kickRepl c s =
    replStart c { x with replQ := [] } d old new drain (updCtx c (fun x => { x with replQ := [] }) s) := by
  rw [kickRepl, hx]
  simp only [hq, List.length_singleton, replGo, hx, hwave]

theorem getCtx_keepProg (d : Desc) (s : State) (c : Nat) : getCtx (keepProg d s) c = getCtx s c :=
  (keepProg_frame d s).getCtx c (by decide)

theorem getCtx_dequeue (d : Desc) (s : State) (c : Nat) : getCtx (dequeue d s) c = getCtx s c :=
  (dequeue_frame d s).getCtx c (by decide)

/-- The command in progress, at the end of the context's queue. -/
def replWaits (d : Desc) (old new drain : W32) (c : Nat) (s : State) : State :=
  keepProg d (updCtx c (fun x => { x with replQ := x.replQ ++ [(d, old, new, drain)] }) (dequeue d s))

theorem replWaits_frame (d : Desc) (old new drain : W32) (c : Nat) (s : State) : Frame [.ctxs, .mbx] s (replWaits d old new drain c s) :=
  .after (by decide) (keepProg_frame d _) <| .after (by decide) (updCtx_frame _ c _) ((dequeue_frame d s).mono (by decide))

theorem doWgtReplace_starts {s : State} {d : Desc} {c : Nat} {x : Ctx} (old new drain : W32) (h : acceptedCtx false d c x s)
    (hwave : x.wave = none) (hq : x.replQ = []) : ∃ w, doWgtReplace d old new drain s = replStart c x d old new drain w ∧
      getCtx w c = some x ∧ Frame [.ctxs, .mbx] s w := by
  obtain ⟨-, -, hx⟩ := id h
  have hsame : { x with replQ := [] } = x := by rw [← hq]
  have hget : getCtx (replWaits d old new drain c s) c = some { x with replQ := [(d, old, new, drain)] } := by
    rw [replWaits, getCtx_keepProg, getCtx_updCtx, if_pos rfl, getCtx_dequeue, hx, Option.map_some, hq, List.nil_append]
  have hrun : doWgtReplace d old new drain s = kickRepl c (replWaits d old new drain c s) := runCtx_accepted h _
  refine ⟨updCtx c (fun x => { x with replQ := [] }) (replWaits d old new drain c s), ?_, ?_,
    .after (by decide) (updCtx_frame _ c _) (replWaits_frame d old new drain c s)⟩
  · rw [hrun, kickRepl_one hget hwave rfl]
    exact congrArg (fun y => replStart c y d old new drain _) hsame
  · rw [getCtx_updCtx, if_pos rfl, hget, Option.map_some]
    exact congrArg some hsame

/-- The first admission epoch of a context needs no wave (R444). -/
theorem replStart_first {s : State} {c : Nat} {x : Ctx} {d : Desc} {new drain : W32} (hdrain : drain.toNat ≤ 50000)
    (hadm : x.admEpoch = none) (hst : isStaged s c new = true) :
    replStart c x d 0 new drain s = finish d 0 (updCtx c (fun x => { x with admEpoch := some new }) s) := by
  unfold isStaged at hst
  rw [replStart, if_neg (by omega), if_pos ⟨rfl, hadm⟩]
  cases he : epochOf s c new with
  | none => rw [he] at hst; exact absurd hst (by decide)
  | some e =>
    have hstaged : (e.st == .staged) = true := by simpa only [he] using hst
    exact if_pos (show (e.st == .staged || e.st == .live) = true by rw [hstaged, Bool.true_or])

/-- Settles O31: what a target does by `receiveCurfew_delivered`, the wave's timers by `waveOf`, and WGT.REPLACE by `kickRepl_one`. -/
theorem curfewsAndWaves : Obligations.CurfewsAndWaves := by
  refine ⟨?set, ?full, ?lift, ?query, ?report, ?timeout, ?ask, ?resend, ?drain, ?replace, ?first⟩
  case set =>
    intro s w k m b h hbody _ hop hroom r
    rw [exec_curfewSet, doCurfewSet_adds h hbody hop hroom]
  case full =>
    intro s w k m b h hbody _ hop hnew hfull
    rw [exec_curfewSet, doCurfewSet_full h hbody hop hnew hfull]
  case lift =>
    intro s w k m b fails h hbody _ hop
    rw [exec_curfewLift, doCurfewLift, receiveCurfew_delivered h hbody (by rw [hop]; rfl)]
  case query =>
    intro s w k m b r h hbody _ hop hr
    rw [exec_curfewQuery, doCurfewQuery, receiveCurfew_delivered h hbody (by rw [hop]; rfl), hr]
  case report =>
    intro s w k m b c x v h hbody _ hop hc hx hv
    rw [exec_curfewReport, doCurfewReport_waves h hbody hop hc hx hv]
  case timeout =>
    intro s ctx cfid fails r c x hheld hr hc hx hrw hst
    rw [exec_holdRuleTimeout, doRuleTimeout_drops fails hheld hr hc hx hrw hst]
  case ask =>
    intro s c x w h hphase
    rw [exec_waveQueryTimer, doWaveQuery_asks h hphase]
  case resend =>
    intro s c x w h hsent
    rw [exec_curfewResendTimer, doCurfewResend_again h hsent]
  case drain =>
    intro s c x w h hphase hexp
    rw [exec_waveDrainExpiry, doDrainExpiry_misses h hphase hexp]
  case replace =>
    intro s d c x old new drain h hwave hq
    obtain ⟨w, hstart, hget, hframe⟩ := doWgtReplace_starts old new drain h hwave hq
    exact ⟨w, by rw [exec_wgtReplace, hstart], hget, hframe⟩
  case first => exact fun s c x d old new drain hdrain hadm hst => replStart_first hdrain hadm hst

end Sys2Proof.Machine
end

section
/-! SUPPORT. The commands of weights and adapters (R365, R392, R433, R434, R439, R442, R443, R448, R462), the ends of holds and leases
(R413, R427) and the life of a shard (R432, R435, R436, R437, R447); and the settlement of O25 and O26. -/

namespace Sys2Proof.Machine

theorem exec_wgtSession (d : Desc) (s : State) : exec (.wgtSession d) s = .next (doWgtSession d s) := rfl

theorem exec_wgtKey (d : Desc) (k : W32) (v : Option (BitVec 256)) (s : State) : exec (.wgtKey d k v) s = .next (doWgtKey d k v s) := rfl

theorem exec_wgtLand (d : Desc) (off len : W64) (s : State) : exec (.wgtLand d off len) s = .next (doWgtLand d off len s) := rfl

theorem exec_wgtLoad (d : Desc) (ep : W32) (es : List ShardEntry) (s : State) :
    exec (.wgtLoad d ep es) s = .next (doWgtLoad d ep es s) := rfl

theorem exec_wgtAdopt (d : Desc) (ep : W32) (strict : Bool) (ts : List Token) (s : State) :
    exec (.wgtAdopt d ep strict ts) s = .next (doWgtAdopt d ep strict ts s) := rfl

theorem exec_wgtDrop (d : Desc) (ep : W32) (s : State) : exec (.wgtDrop d ep) s = .next (doWgtDrop d ep s) := rfl

theorem exec_wgtStatus (d : Desc) (s : State) : exec (.wgtStatus d) s = .next (runCtx d false (fun _ _ s => finishFree d s) s) := rfl

theorem exec_adpStatus (d : Desc) (s : State) : exec (.adpStatus d) s = .next (runCtx d false (fun _ _ s => finishFree d s) s) := rfl

theorem exec_adpLoad (d : Desc) (slot : W16) (gen : W32) (es : List ShardEntry) (s : State) :
    exec (.adpLoad d slot gen es) s = .next (adpList d slot gen es (.load d slot.toNat gen es) s) := rfl

theorem exec_adpReplace (d : Desc) (slot : W16) (gen : W32) (es : List ShardEntry) (s : State) :
    exec (.adpReplace d slot gen es) s = .next (adpList d slot gen es (.replace d slot.toNat gen es) s) := rfl

theorem exec_adpFree (d : Desc) (slot : W16) (s : State) : exec (.adpFree d slot) s = .next (runCtx d false (fun c _ s =>
    if 15 < slot.toNat then finish d 0x0401 s else pushAdp c d (.free d slot.toNat) s) s) := rfl

theorem exec_attentionHoldExpiry (c : CtxI) (inst : W32) (s : State) :
    exec (.attentionHoldExpiry c inst) s = .next (doHoldExpiry c.val inst s) := rfl

theorem exec_prefixLeaseExpiry (c : CtxI) (slot : Nat) (s : State) :
    exec (.prefixLeaseExpiry c slot) s = .next (doLeaseExpiry c.val slot s) := rfl

theorem exec_shardSegmentsComplete (c : CtxI) (ep id : W32) (b : ShardBody) (fails : List (Lan × LWick × List (Nat × Int))) (s : State) :
    exec (.shardSegmentsComplete c ep id b fails) s = .next (afterShards (doSegmentsComplete c.val ep id b fails s)) := rfl

theorem exec_storageCheckPoll (c : CtxI) (ep id : W32) (b : Option ShardBody) (fails : List (Lan × LWick × List (Nat × Int)))
    (s : State) : exec (.storageCheckPoll c ep id b fails) s = .next (afterShards (doStoragePoll c.val ep id b fails s)) := rfl

theorem exec_shardFailDeadline (c : CtxI) (ep id : W32) (s : State) :
    exec (.shardFailDeadline c ep id) s = .next (afterShards (doShardFail c.val ep id s)) := rfl

theorem exec_shardOverdue (c : CtxI) (ep id : W32) (s : State) :
    exec (.shardOverdue c ep id) s = .next (doShardOverdue c.val ep id s) := rfl

theorem exec_taperReqRepeat (c : CtxI) (ep id : W32) (s : State) :
    exec (.taperReqRepeat c ep id) s = .next (doTaperRepeat c.val ep id s) := rfl

theorem exec_shadowRehash (c : CtxI) (ep id : W32) (ok : Bool) (s : State) :
    exec (.shadowRehash c ep id ok) s = .next (rehash 1 c.val ep id ok s) := rfl

theorem exec_buddyRehash (c : CtxI) (ep id : W32) (ok : Bool) (s : State) :
    exec (.buddyRehash c ep id ok) s = .next (rehash 2 c.val ep id ok s) := rfl

/-! ### Keys and the landing range -/

theorem outLines_frame (a : W64) (bs : List Byte) (s : State) : Frame [.gvl] s (outLines a bs s) :=
  frame_foldl (fun _ _ => frame_gvl _ _) _ s

theorem updCtx_of {s : State} {c : Nat} {x : Ctx} (h : getCtx s c = some x) (f : Ctx → Ctx) :
    updCtx c f s = setCtx c (some (f x)) s := by
  rw [updCtx, h]

/-- WGT.SESSION opens the session and writes key and report (R433, R462). -/
theorem doWgtSession_opens {s : State} {d : Desc} {c : Nat} {x : Ctx} (h : acceptedCtx false d c x s)
    (hroom : kemKeySize + reportSize ≤ d.outlen.toNat) : ∃ w, doWgtSession d s = complete d 0 (kemKeySize + reportSize) [] w ∧
      getCtx w c = some { x with session := true } ∧ Frame [.ctxs, .mbx, .gvl, .fresh] s w := by
  obtain ⟨-, -, hx⟩ := id h
  have hsize : 0 < kemKeySize + reportSize := by decide
  have hlen : d.outlen ≠ 0 := by
    intro hzero
    have hnat : d.outlen.toNat = 0 := by rw [hzero]; rfl
    omega
  rw [doWgtSession, runCtx_accepted h, if_neg hlen, if_neg (by omega)]
  refine ⟨_, rfl, ?_, .after (by decide) (outLines_frame _ _ _) <| .after (by decide) (frame_fresh _ _) <|
    .after (by decide) (updCtx_frame _ c _) <| .after (by decide) (frame_fresh _ _) ((dequeue_frame d s).mono (by decide))⟩
  rw [(outLines_frame _ _ _).getCtx c (by decide)]
  refine ((frame_fresh _ _).getCtx c (by decide)).trans ?_
  rw [getCtx_updCtx, if_pos rfl, (show getCtx (freeWords 0x0301 (kemKeySize / 4 + 8) (dequeue d s)).2 c = some x from hx)]
  rfl

section
variable {s : State} {d : Desc} {c : Nat} {x : Ctx} {k : W32} (h : acceptedCtx true d c x s) (hlen : d.inlen = 1612)
include h hlen

/-- A new key that unwraps in the session is kept (R433). -/
theorem doWgtKey_adds {v : BitVec 256} (hses : x.session = true) (hnew : x.ckeys.any (fun q => q.1 == k) = false)
    (hroom : x.ckeys.length < 16) : doWgtKey d k (some v) s =
      finish d 0 (updCtx c (fun x => { x with ckeys := x.ckeys ++ [(k, v)] }) (dequeue d s)) := by
  rw [doWgtKey, runCtx_accepted h, if_neg (by rw [hlen]; decide), if_neg (not_not.mpr hlen), if_pos hses]
  simp only [hnew, Bool.false_eq_true, if_false]
  exact if_neg (by omega)

/-- A key that does not unwrap, one outside a session and the seventeenth are refused (R433). -/
theorem doWgtKey_denied {v : Option (BitVec 256)}
    (hbad : v = none ∨ x.session = false ∨ (x.ckeys.any (fun q => q.1 == k) = false ∧ 16 ≤ x.ckeys.length)) :
    doWgtKey d k v s = finish d 0x06 (dequeue d s) := by
  rw [doWgtKey, runCtx_accepted h, if_neg (by rw [hlen]; decide), if_neg (not_not.mpr hlen)]
  cases hkey : (if x.session then v else none) with
  | none => rfl
  | some w =>
    rcases hbad with hnone | hses | ⟨hnew, hfull⟩
    · simp [hnone] at hkey
    · simp [hses] at hkey
    · simp only [hnew, Bool.false_eq_true, if_false, hfull, if_true]

end

/-- WGT.LAND sets the range and its window entry (R365). -/
theorem doWgtLand_sets {s : State} {d : Desc} {c : Nat} {x : Ctx} {off len : W64} {i : Nat} (h : acceptedCtx false d c x s)
    (hoff : off.toNat % 256 = 0) (hlen : len.toNat % 256 = 0) (hne : len ≠ 0)
    (hplace : (interleaved s c (off.toNat + len.toNat - 1)).isSome = true) (hi : landSlot s c x.landing = some i) :
    let a := c * 0x20000000000 + off.toNat
    doWgtLand d off len s = complete d 0 0 (words64 (BitVec.ofNat 64 a))
      (updCtx c (fun x => { x with landing := some (off.toNat, len.toNat) })
        (setWindow (c * 32 + i) (landEntry (a / 256) ((a + len.toNat - 1) / 256)) (dequeue d s))) := by
  have hne' : len.toNat ≠ 0 := fun hzero => hne (BitVec.eq_of_toNat_eq hzero)
  have hin : ¬ (off.toNat % 256 ≠ 0 ∨ len.toNat % 256 ≠ 0 ∨
      (interleaved (dequeue d s) c (off.toNat + len.toNat - 1)).isNone = true) := by
    have hplace' : (interleaved (dequeue d s) c (off.toNat + len.toNat - 1)).isSome = true := hplace
    simp [hoff, hlen, Option.isSome_iff_ne_none.mp hplace']
  have hslot : landSlot (dequeue d s) c x.landing = some i := hi
  rw [doWgtLand, runCtx_accepted h]
  dsimp only
  rw [if_neg hne', if_neg hin, hslot]

/-! ### Commands of an epoch -/

/-- A command of an epoch begins. -/
def loadBegun (c : Nat) (y : Ctx) (q : LoadCmd) (s : State) : State :=
  match q with
  | .load d ep es => loadStart c y d ep es s
  | .adopt d ep strict ts => adoptStart c y d ep strict ts s

/-- With nothing in its way a command of an epoch starts at once (R392). -/
theorem pushLoad_starts {s : State} {d : Desc} {c : Nat} {x : Ctx} {q : LoadCmd} (hx : getCtx s c = some x) (hq : x.loadQ = [])
    (hfree : loadFree x q = true) : ∃ w, pushLoad c d q s = reapJobs (loadBegun c { x with loadQ := [] } q w) ∧
      getCtx w c = some { x with loadQ := [] } ∧ Frame [.mbx, .ctxs] s w := by
  have hget : getCtx (keepProg d (updCtx c (fun x => { x with loadQ := x.loadQ ++ [q] }) s)) c = some { x with loadQ := [q] } := by
    rw [getCtx_keepProg, getCtx_updCtx, if_pos rfl, hx, Option.map_some, hq, List.nil_append]
  have hfree' : loadFree { x with loadQ := [q] } q = true := hfree
  refine ⟨setCtx c (some { x with loadQ := [] }) (keepProg d (updCtx c (fun x => { x with loadQ := x.loadQ ++ [q] }) s)), ?_, ?_,
    .after (by decide) (frame_ctxs _ _) <| .after (by decide) (keepProg_frame d _) ((updCtx_frame s c _).mono (by decide))⟩
  · rw [pushLoad, kickLoads, hget]
    simp only [List.length_singleton, loadsGo, hget, loadPick, hfree', List.any_nil, Bool.not_false, Bool.and_self, if_true, List.nil_append]
    cases q <;> rfl
  · rw [getCtx_setCtx, if_pos rfl]

/-! ### Commands of an adapter slot -/

/-- A context after its older generations that nothing is bound to are freed (R448). -/
def sweptCtx (s : State) (c : Nat) (x : Ctx) : Ctx :=
  let keep (slot : Nat) (g : AdpGen) : Bool := g.current || g.cmd.isSome || genBound s c x slot g.gen
  { x with adapters := (x.adapters.map (fun p => (p.1, p.2.filter (keep p.1)))).filter (fun p => !p.2.isEmpty) }

theorem adpSweep_of {s : State} {c : Nat} {x : Ctx} (h : getCtx s c = some x) :
    adpSweep c s = setCtx c (some (sweptCtx s c x)) s := by
  rw [adpSweep, h]
  rfl

/-- With nothing on its slot a command of an adapter slot starts at once, once older generations have been freed (R392, R448). -/
theorem pushAdp_starts {s : State} {d : Desc} {c : Nat} {x z : Ctx} {q : AdpCmd} (hx : getCtx s c = some x) (hq : x.adpQ = [])
    (hz : getCtx (adpSweep c s) c = some z) (hfree : adpFree z q = true) : ∃ w, pushAdp c d q s =
      adpStart c { z with adpQ := [] } q w ∧ getCtx w c = some { z with adpQ := [] } ∧ Frame [.mbx, .ctxs] s w := by
  have hswept : z = sweptCtx s c x := by
    rw [adpSweep_of hx, getCtx_setCtx, if_pos rfl] at hz
    exact (Option.some.inj hz).symm
  have hpush : keepProg d (updCtx c (fun x => { x with adpQ := x.adpQ ++ [q] }) s) =
      keepProg d (setCtx c (some { x with adpQ := [q] }) s) := by
    rw [updCtx_of hx, hq, List.nil_append]
  generalize hu : keepProg d (setCtx c (some { x with adpQ := [q] }) s) = u at hpush
  have hget : getCtx u c = some { x with adpQ := [q] } := by rw [← hu, getCtx_keepProg, getCtx_setCtx, if_pos rfl]
  have hsweep : adpSweep c u = setCtx c (some { z with adpQ := [q] }) u := by
    rw [adpSweep_of hget, hswept, ← hu]
    rfl
  have hgo : getCtx (adpSweep c u) c = some { z with adpQ := [q] } := by rw [hsweep, getCtx_setCtx, if_pos rfl]
  have hfree' : adpFree { z with adpQ := [q] } q = true := hfree
  refine ⟨setCtx c (some { z with adpQ := [] }) (adpSweep c u), ?_, ?_, ?_⟩
  · rw [pushAdp, hpush, kickAdps]
    simp only [hgo, List.length_singleton, adpsGo, adpPick, hfree', List.any_nil, Bool.not_false, Bool.and_self, if_true, List.nil_append]
  · rw [getCtx_setCtx, if_pos rfl]
  · rw [hsweep, setCtx_setCtx, ← hu]
    exact .after (by decide) (frame_ctxs _ _) <| .after (by decide) (keepProg_frame d _) ((frame_ctxs s _).mono (by decide))

theorem adpList_pushes {s : State} {d : Desc} {c : Nat} {x : Ctx} {slot : W16} {gen : W32} {es : List ShardEntry} (q : AdpCmd)
    (h : acceptedCtx true d c x s) (hlen : d.inlen ≠ 0) (hslot : slot.toNat ≤ 15) (hgen : gen ≠ 0)
    (hlist : listBad (dequeue d s) c x d es = false) (hkind : ∀ e ∈ es, e.kind ≠ 1) :
    adpList d slot gen es q s = pushAdp c d q (dequeue d s) := by
  have hany : es.any (fun e => e.kind == 1) = false := by simpa using hkind
  rw [adpList, runCtx_accepted h, if_neg hlen, if_neg (by omega), if_neg]
  rintro (hzero | hbad | hlan)
  · exact hgen hzero
  · exact Bool.false_ne_true (hlist.symm.trans hbad)
  · exact Bool.false_ne_true (hany.symm.trans hlan)

section
variable {s : State} {c : Nat} {x : Ctx} {d : Desc} {slot : Nat}

theorem adpStart_freeEmpty (h : gensOf x slot = []) : adpStart c x (.free d slot) s = finish d 0x0401 s := if_pos h

theorem adpStart_frees (h : gensOf x slot ≠ []) (hbound : ∀ g ∈ gensOf x slot, genBound s c x slot g.gen = false) :
    adpStart c x (.free d slot) s = finish d 0 (updCtx c (fun x => { x with adapters := Tab.set [] x.adapters slot [] }) s) := by
  have hany : (gensOf x slot).any (fun g => genBound s c x slot g.gen) = false := by simpa using hbound
  exact (if_neg h).trans (if_neg fun hsome => Bool.false_ne_true (hany.symm.trans hsome))

end

/-! ### Retained entries -/

theorem frame_attn (s : State) (x : List Attn) : Frame [.attn] s { s with attn := x } := by
  intro p hp; cases p <;> simp at hp <;> rfl

/-! ### A shard -/

section
variable {s : State} {c : Nat} {ep id : W32} {x : Ctx} {h : Shard} {b : ShardBody} {fails : List (Lan × LWick × List (Nat × Int))}

/-- A lantern shard that verifies and whose metadata is refused all the same (R431, R434). -/
def shardRefused (s : State) (c : Nat) (ep : W32) (h : Shard) (b : ShardBody) : Bool :=
  isOwnLan h && ep != 0 && (metaBad (bodyMeta (shardTab b)) || shardClash s c ep h (bodyMeta (shardTab b)))

theorem openShard_verifies (hok : bodyOk x ep h b = true) (hmd : shardRefused s c ep h b = false) :
    openShard c ep x h b fails s = shardGo c ep fails (keepShard c ep h b s) := by
  unfold shardRefused at hmd
  rw [openShard, if_pos hok, hmd]
  exact if_neg Bool.false_ne_true

theorem openShard_recovers (hok : bodyOk x ep h b = false) (hreq : h.requests < 4) :
    openShard c ep x h b fails s = recover c ep h s := by
  rw [openShard, if_neg (by rw [hok]; decide), if_neg (by omega)]

theorem injectHead_none (hhead : h.ent.head = false) : injectHead c ep s h = s := if_pos (by rw [hhead]; rfl)

theorem awaited_of (hheld : s.snuf.wheld = false) (hfind : findShard s c ep id = some h) (hwait : isAwaited h = true) :
    awaited s c ep id = some h := by
  rw [awaited, if_neg (by simp [hheld]), hfind, Option.filter_some, if_pos hwait]

/-- The whole container of an awaited shard is here, and it is opened. -/
theorem doSegmentsComplete_opens (hx : getCtx s c = some x) (hfind : findShard s c ep id = some h) (hheld : s.snuf.wheld = false)
    (hhead : h.ent.head = false) (hwait : isAwaited h = true) (hrole : h.ent.role ≠ 0) (hhere : isHere h = true) :
    doSegmentsComplete c ep id b fails s = openShard c ep x h b fails s := by
  rw [doSegmentsComplete, if_neg (by simp [hheld]), hx, hfind]
  dsimp only
  rw [injectHead_none hhead]
  have hrole' : (h.ent.role != 0) = true := bne_iff_ne.mpr hrole
  exact if_pos (by rw [hwait, hrole', hhere]; rfl)

theorem doStoragePoll_opens (hx : getCtx s c = some x) (hfind : findShard s c ep id = some h) (hheld : s.snuf.wheld = false)
    (hhead : h.ent.head = false) (hwait : isAwaited h = true) (hrole : h.ent.role ≠ 0) (hreq : 4 ≤ h.requests) :
    doStoragePoll c ep id (some b) fails s = openShard c ep x h b fails s := by
  rw [doStoragePoll, awaited_of hheld hfind hwait]
  dsimp only
  rw [injectHead_none hhead, if_neg hrole, hx]
  exact if_pos hreq

theorem rehash_ends {role : Nat} {ok : Bool} (hfind : findShard s c ep id = some h) (hheld : s.snuf.wheld = false)
    (hst : h.st = .verified) (hrest : h.restoring = false) (hrole : h.ent.role.toNat = role) : rehash role c ep id ok s =
      if ok then updShard c ep id (fun h => { h with rehash := false }) s else rehashBad c ep h s := by
  rw [rehash, if_neg (by simp [hheld]), hfind]
  exact if_pos (by simp [hst, hrest, hrole])

end

/-- Settles O25: each command past its checks (`runCtx_accepted`), and a load by `pushLoad_starts`. -/
theorem weightCommands : Obligations.WeightCommands := by
  refine ⟨?session, ?key, ?keyDenied, ?land, ?load, ?adopt, ?drop, ?status⟩
  case session =>
    intro s d c x h hroom
    obtain ⟨w, hrun, hget, hframe⟩ := doWgtSession_opens h hroom
    exact ⟨w, by rw [exec_wgtSession, hrun], hget, hframe⟩
  case key =>
    intro s d c x k v h hlen hses hnew hroom
    rw [exec_wgtKey, doWgtKey_adds h hlen hses hnew hroom]
  case keyDenied =>
    intro s d c x k v h hlen hbad
    rw [exec_wgtKey, doWgtKey_denied h hlen hbad]
  case land =>
    intro s d c x off len i h hoff hlen hne hplace hi a
    rw [exec_wgtLand, doWgtLand_sets h hoff hlen hne hplace hi]
  case load =>
    intro s d c x ep es h t hlen hep hbad hdenied hq hfree
    obtain ⟨-, -, hx⟩ := id h
    obtain ⟨w, hstart, hget, hframe⟩ := pushLoad_starts (d := d) ((getCtx_dequeue d s c).trans hx) hq hfree
    refine ⟨w, ?_, hget, (dequeue_frame d s).mono (by decide) |>.step hframe (by decide)⟩
    rw [exec_wgtLoad, doWgtLoad, runCtx_accepted h, if_neg hlen, if_neg ?_, if_neg ?_, hstart]
    · rfl
    · exact fun hsome => Bool.false_ne_true (hdenied.symm.trans hsome)
    · rintro (hzero | hlist)
      · exact hep hzero
      · exact Bool.false_ne_true (hbad.symm.trans hlist)
  case adopt =>
    intro s d c x ep strict ts h hlen hsize hq hfree
    obtain ⟨-, -, hx⟩ := id h
    obtain ⟨w, hstart, hget, hframe⟩ := pushLoad_starts (d := d) ((getCtx_dequeue d s c).trans hx) hq hfree
    refine ⟨w, ?_, hget, (dequeue_frame d s).mono (by decide) |>.step hframe (by decide)⟩
    rw [exec_wgtAdopt, doWgtAdopt, runCtx_accepted h, if_neg hlen, if_neg (not_not.mpr hsize), hstart]
    rfl
  case drop =>
    intro s d c x ep e h he t
    rw [exec_wgtDrop, doWgtDrop, runCtx_accepted h, he]
    rfl
  case status =>
    intro s d c x h
    rw [exec_wgtStatus, exec_adpStatus, runCtx_accepted h]
    exact ⟨rfl, rfl⟩

/-- Settles O26: a command of a slot by `pushAdp_starts`, the entries freed by their filters, and a shard by `openShard`. -/
theorem adaptersAndShards : Obligations.AdaptersAndShards := by
  refine ⟨?load, ?replace, ?free, fun s c x d slot => ⟨adpStart_freeEmpty, adpStart_frees⟩, ?hold, ?lease, ?verified, ?corrupt, ?storage,
    ?failed, ?overdue, ?again, ?shadow, ?buddy⟩
  case load =>
    intro s d c x slot gen es z h hlen hslot hgen hlist hkind hq hz hfree
    obtain ⟨-, -, hx⟩ := id h
    obtain ⟨w, hstart, hget, hframe⟩ := pushAdp_starts (d := d) ((getCtx_dequeue d s c).trans hx) hq hz hfree
    refine ⟨w, ?_, hget, (dequeue_frame d s).mono (by decide) |>.step hframe (by decide)⟩
    rw [exec_adpLoad, adpList_pushes _ h hlen hslot hgen hlist hkind, hstart]
  case replace =>
    intro s d c x slot gen es z h hlen hslot hgen hlist hkind hq hz hfree
    obtain ⟨-, -, hx⟩ := id h
    obtain ⟨w, hstart, hget, hframe⟩ := pushAdp_starts (d := d) ((getCtx_dequeue d s c).trans hx) hq hz hfree
    refine ⟨w, ?_, hget, (dequeue_frame d s).mono (by decide) |>.step hframe (by decide)⟩
    rw [exec_adpReplace, adpList_pushes _ h hlen hslot hgen hlist hkind, hstart]
  case free =>
    intro s d c x slot z h hslot hq hz hfree
    obtain ⟨-, -, hx⟩ := id h
    obtain ⟨w, hstart, hget, hframe⟩ := pushAdp_starts (d := d) ((getCtx_dequeue d s c).trans hx) hq hz hfree
    refine ⟨w, ?_, hget, (dequeue_frame d s).mono (by decide) |>.step hframe (by decide)⟩
    rw [exec_adpFree, runCtx_accepted h, if_neg (by omega), hstart]
  case hold =>
    intro s c inst hheld
    refine ⟨_, (exec_attentionHoldExpiry c inst s).trans (congrArg _ (if_neg (by simp [hheld]))), frame_attn s _, fun t => ?_⟩
    simp [List.mem_filter, Fin.ext_iff, or_assoc, imp_iff_not_or]
  case lease =>
    intro s c slot hheld
    refine ⟨_, (exec_prefixLeaseExpiry c slot s).trans (congrArg _ (if_neg (by simp [hheld]))), ?_, ?_, fun t => ?_⟩
    · exact (getCtx_updCtx c.val c.val (leaseOut s slot) s).trans (if_pos rfl)
    · exact .after (by decide) (frame_attn _ _) ((updCtx_frame s c.val _).mono (by decide))
    · have hnow : nowC (updCtx c.val (leaseOut s slot) s) = nowC s := by
        rw [nowC, (updCtx_frame s c.val _).ltime (by decide), nowC]
      simp [List.mem_filter, Fin.ext_iff, hnow, or_assoc, imp_iff_not_or]
  case verified =>
    intro s c ep id x h b fails hx hfind hheld hhead hwait hrole hhere hok hmd
    rw [exec_shardSegmentsComplete, doSegmentsComplete_opens hx hfind hheld hhead hwait hrole hhere, openShard_verifies hok hmd]
  case corrupt =>
    intro s c ep id x h b fails hx hfind hheld hhead hwait hrole hhere hok hreq
    rw [exec_shardSegmentsComplete, doSegmentsComplete_opens hx hfind hheld hhead hwait hrole hhere, openShard_recovers hok hreq]
  case storage =>
    intro s c ep id x h b fails hx hfind hheld hhead hwait hrole hreq hok hmd
    rw [exec_storageCheckPoll, doStoragePoll_opens hx hfind hheld hhead hwait hrole hreq, openShard_verifies hok hmd]
  case failed =>
    intro s c ep id x h _ hfind hheld hwait
    rw [exec_shardFailDeadline, doShardFail, awaited_of hheld hfind hwait]
  case overdue =>
    intro s c ep id x h _ hfind hheld hwait hreq
    rw [exec_shardOverdue, doShardOverdue, awaited_of hheld hfind hwait]
    exact congrArg _ (if_pos hreq)
  case again =>
    intro s c ep id x h _ hfind hheld hwait hlo hhi
    rw [exec_taperReqRepeat, doTaperRepeat, awaited_of hheld hfind hwait]
    exact congrArg _ (if_pos ⟨hlo, hhi⟩)
  case shadow =>
    intro s c ep id x h _ hfind hheld hst hrest hrole
    rw [exec_shadowRehash, exec_shadowRehash, rehash_ends hfind hheld hst hrest (by rw [hrole]; rfl),
      rehash_ends hfind hheld hst hrest (by rw [hrole]; rfl)]
    exact ⟨rfl, rfl⟩
  case buddy =>
    intro s c ep id x h _ hfind hheld hst hrest hrole
    rw [exec_buddyRehash, exec_buddyRehash, rehash_ends hfind hheld hst hrest (by rw [hrole]; rfl),
      rehash_ends hfind hheld hst hrest (by rw [hrole]; rfl)]
    exact ⟨rfl, rfl⟩

end Sys2Proof.Machine
end

section
/-! SUPPORT. The twin pair: forming and ending it (R393, R493), its heartbeats (R495, R496) and the comparison of tokens (R497, R498); the
limit of a command (R393, R395); and the settlement of O32. -/

namespace Sys2Proof.Machine

theorem exec_twinForm (d : Desc) (a : TwinArg) (s : State) : exec (.twinForm d a) s = .next (doTwinForm d a s) := rfl

theorem exec_twinDissolve (d : Desc) (s : State) : exec (.twinDissolve d) s = .next (doTwinDissolve d s) := rfl

theorem exec_twinStatus (d : Desc) (s : State) : exec (.twinStatus d) s =
    .next (runCmd d .twin false false false (fun s => finishOut d 1 [BitVec.ofNat 8 s.twin.st.code] s) s) := rfl

theorem exec_tformReceive (k : LinkI) (m : Msg) (s : State) : exec (.tformReceive k m) s = .next (doTform k.val m s) := rfl

theorem exec_theartReceive (k : LinkI) (m : Msg) (s : State) : exec (.theartReceive k m) s = .next (doTheart k.val m s) := rfl

theorem exec_twinHeartbeatSend (s : State) : exec .twinHeartbeatSend s = .next (sendHeart s) := rfl

theorem exec_twinLost (s : State) : exec .twinLost s = .next (twinLost s) := rfl

theorem exec_tdigestReceive (k : LinkI) (m : Msg) (s : State) : exec (.tdigestReceive k m) s = .next (doTdigest k.val m s) := rfl

theorem exec_tresultReceive (k : LinkI) (m : Msg) (s : State) : exec (.tresultReceive k m) s = .next (doTresult k.val m s) := rfl

theorem exec_tactReceive (k : LinkI) (m : Msg) (s : State) : exec (.tactReceive k m) s = .next (doTact k.val m s) := rfl

theorem exec_twinDigestTimeout (tag tindex : W32) (s : State) :
    exec (.twinDigestTimeout tag tindex) s = .next (digestTimeout tag tindex s) := rfl

theorem exec_commandTimeLimit (r : RingI) (tag : W64) (s : State) :
    exec (.commandTimeLimit r tag) s = .next (formLimit r.val tag (cmdLimit r.val tag s)) := rfl

/-! ### Forming -/

section
variable {s : State} {d : Desc} {a : TwinArg} (h : accepted .twin false false false d s = true) (harg : twinArgOk a = true)
  (hctx : (slotOf s a.ctxid).isSome = true) (hst : s.twin.st ≠ .forming)
include h harg hctx hst

/-- TWIN.FORM with an argument in range, while no pair is forming. -/
theorem doTwinForm_forms : doTwinForm d a s =
    if a.peer.toNat / 2048 = s.fab.myid.toNat / 2048 ∨ (!(twinLinks a).all (twinLinkOk s a.peer)) = true then
      finish d 0x0A01 (dequeue d s)
    else formMeet (sendMsg { hdrOf 0x30 a.peer.toNat with ctx := a.ctxid } (.tform a.mode (twinFlags a) a.ctxid a.twait)
      (setTwin .forming (keepProg d { dequeue d s with twin := { (dequeue d s).twin with arg := some a, cmd := some d } }))) := by
  have hin : ¬ ((!twinArgOk a) || (slotOf (dequeue d s) a.ctxid).isNone) = true := by
    have hctx' : (slotOf (dequeue d s) a.ctxid).isSome = true := hctx
    simp [harg, Option.isSome_iff_ne_none.mp hctx']
  rw [doTwinForm, runCmd_accepted h, if_neg hin]
  exact if_neg hst

/-- A link named that is no twin link to the peer: no peer (R493). -/
theorem doTwinForm_noPeer (hlink : ∃ k ∈ twinLinks a, twinLinkOk s a.peer k = false) :
    doTwinForm d a s = finish d 0x0A01 (dequeue d s) := by
  obtain ⟨k, hk, hbad⟩ := hlink
  have hall : (twinLinks a).all (twinLinkOk s a.peer) = false := List.all_eq_false.mpr ⟨k, hk, by simp [hbad]⟩
  rw [doTwinForm_forms h harg hctx hst, if_pos (.inr (by rw [hall]; rfl))]

theorem doTwinForm_sends (hpeer : a.peer.toNat / 2048 ≠ s.fab.myid.toNat / 2048)
    (hlinks : ∀ k ∈ twinLinks a, twinLinkOk s a.peer k = true) : doTwinForm d a s =
      formMeet (sendMsg { hdrOf 0x30 a.peer.toNat with ctx := a.ctxid } (.tform a.mode (twinFlags a) a.ctxid a.twait)
        (setTwin .forming (keepProg d { dequeue d s with twin := { (dequeue d s).twin with arg := some a, cmd := some d } }))) := by
  have hall : (twinLinks a).all (twinLinkOk s a.peer) = true := List.all_eq_true.mpr hlinks
  rw [doTwinForm_forms h harg hctx hst, if_neg]
  rintro (hsame | hnot)
  · exact hpeer hsame
  · rw [hall] at hnot
    exact Bool.false_ne_true hnot

end

/-- Forms that agree make the pair what they ask for (R493). -/
theorem formMeet_agrees {s : State} {a : TwinArg} {mode flags : Byte} {ctxid : W16} (harg : s.twin.arg = some a)
    (hpeer : s.twin.peerForm = some (a.peer, mode, flags, ctxid)) (hst : s.twin.st = .forming)
    (hagree : formsAgree a mode flags ctxid = true) : formMeet s =
      formEnd (if a.mode = 2 then .compare else if a.active then .active else .standby) 0
        { s with twin := { s.twin with broken := false, digests := [], results := [] } } := by
  rw [formMeet, harg, hpeer]
  dsimp only
  rw [if_neg (by simp [hst]), if_pos hagree]

/-! ### Heartbeats -/

section
variable {k : LinkI} {m : Msg} {s w : State} {a : TwinArg}

theorem doTheart_peer {st : Byte} {broken : Bool} (h : delivered k.val m 0x34 s w) (hbody : m.body = .theart st broken)
    (harg : w.twin.arg = some a) (hsrc : m.hdr.src = a.peer) : doTheart k.val m s =
      if w.twin.st = .standby ∧ broken = true then setTwin .active w
      else if w.twin.st = .active ∧ (st = 2 ∨ st = 6) then
        (if w.twin.broken then setTwin .standby w else if broken then w else setTwin .split w)
      else w := by
  rw [doTheart, receive_delivered h, hbody, harg]
  exact if_neg (not_not.mpr hsrc)

theorem sendHeart_all (harg : s.twin.arg = some a) (hheld : s.snuf.wheld = false) (hst : s.twin.st ≠ .none_) : sendHeart s =
    (twinLinks a).foldl (fun t k => sendOn t { hdrOf 0x34 a.peer.toNat with ctx := a.ctxid }
      (.theart (BitVec.ofNat 8 s.twin.st.code) s.twin.broken) k) s := by
  rw [sendHeart, harg]
  exact if_neg (by simp [hheld, hst])

/-! ### Comparison -/

/-- What a twin message brings, kept with the pair (R497). -/
def twinKept (m : Msg) (s : State) : State :=
  match m.body with
  | .tdigest v => { s with twin := { s.twin with digests := s.twin.digests ++ [(m.hdr.reqtag, m.hdr.tindex, v)] } }
  | .tresult v => { s with twin := { s.twin with results := s.twin.results ++ [(m.hdr.reqtag, m.hdr.tindex, v)] } }
  | _ => s

theorem twinKept_frame (m : Msg) (s : State) : Frame [.twin] s (twinKept m s) := by
  have htwin (x : Twin) : Frame [.twin] s { s with twin := x } := by
    intro p hp; cases p <;> simp at hp <;> rfl
  unfold twinKept
  split
  · exact htwin _
  · exact htwin _
  · exact Frame.refl _ s

/-- The request of a twin message goes on, where it has a release record here. -/
def twinGoes (m : Msg) (c : Nat) (body : Nat → RelRec → State → State) (s : State) : State :=
  match (getCtx s c).bind (fun x => relOf x (numOf m.hdr.reqtag)) with
  | none => s
  | some r => body c r s

/-- What is done with a twin message at its destination. -/
def twinTaken (m : Msg) (body : Nat → RelRec → State → State) (s : State) : State :=
  let fromPeer : Bool := match s.twin.arg with | none => false | some a => a.peer == m.hdr.src
  if fromPeer && comparing s m.hdr.ctx then
    match msgCtx s m.hdr with
    | none => s
    | some c => twinGoes m c body (twinKept m s)
  else s

theorem receiveTwin_eq (k : Nat) (m : Msg) (kind : Nat) (body : Nat → RelRec → State → State) (s : State) :
    receiveTwin k m kind body s = receive k m kind (twinTaken m body) s := rfl

/-- The peer's message about a request that has a release record here: it is kept, and the request goes on. -/
theorem receiveTwin_delivered {kind c : Nat} {r : RelRec} (h : delivered k.val m kind s w) (harg : w.twin.arg = some a)
    (hpeer : a.peer = m.hdr.src) (hcmp : comparing w m.hdr.ctx = true) (hc : msgCtx w m.hdr = some c)
    (hr : (getCtx w c).bind (fun x => relOf x (numOf m.hdr.reqtag)) = some r) (body : Nat → RelRec → State → State) :
    receiveTwin k.val m kind body s = body c r (twinKept m w) := by
  have hrel : (getCtx (twinKept m w) c).bind (fun x => relOf x (numOf m.hdr.reqtag)) = some r := by
    rw [(twinKept_frame m w).getCtx c (by decide)]
    exact hr
  have hfrom : (a.peer == m.hdr.src) = true := by rw [hpeer, beq_self_eq_true]
  rw [receiveTwin_eq, receive_delivered h, twinTaken]
  simp only [harg, hfrom, hcmp, Bool.and_self, if_true, hc]
  rw [twinGoes, hrel]

end

/-! ### The limit of a command -/

/-- Whatever becomes of its completion, an ended command leaves its ring's commands in progress. -/
theorem prog_complete (d : Desc) (st : W16) (used : Nat) (res : List W32) (s : State) :
    (getRing (complete d st used res s) d.ring.val).prog = (getRing s d.ring.val).prog.erase d := by
  have hdrop : (getRing (dropProg d s) d.ring.val).prog = (getRing s d.ring.val).prog.erase d := by
    rw [dropProg, getRing_updRing, if_pos rfl]
  unfold complete postCpl
  split
  · exact hdrop
  · split
    · rw [holdCpl, getRing_updRing, if_pos rfl]
      exact hdrop
    · rw [getRing_postRaw, if_pos rfl]
      exact hdrop

section
variable {s : State} {r : RingI} {tag : W64} {d : Desc}

/-- An A command with no invocation of its own is abandoned by its completion alone. -/
theorem doCmdLimit_abandons
    (hd : (getRing s r.val).prog.find? (fun d => d.tag == tag && abandonable.contains d.opcode.toNat) = some d)
    (hinv : ∀ v ∈ s.invs, v.cmd ≠ some d) : doCmdLimit r.val tag s = finish d 0x13 s := by
  have hnone : s.invs.filter (fun v => v.cmd == some d) = [] :=
    List.filter_eq_nil_iff.mpr fun v hv => by simpa using hinv v hv
  rw [doCmdLimit, hd]
  simp only [hnone, List.foldl_nil]

theorem cmdLimit_abandons
    (hd : (getRing s r.val).prog.find? (fun d => d.tag == tag && abandonable.contains d.opcode.toNat) = some d) (hring : d.ring = r)
    (hlast : ((getRing s r.val).prog.erase d).find? (fun d => d.tag == tag) = none) (hinv : ∀ v ∈ s.invs, v.cmd ≠ some d) :
    cmdLimit r.val tag s = finish d 0x13 s := by
  have hprog : (getRing (finish d 0x13 s) r.val).prog = (getRing s r.val).prog.erase d := hring ▸ prog_complete d 0x13 0 [] s
  rw [cmdLimit, doCmdLimit_abandons hd hinv, hprog, hlast]

theorem formLimit_none (h : s.twin.cmd = none) (r : Nat) : formLimit r tag s = s := by
  rw [formLimit, h]

end

/-- Settles O32: forming by `doTwinForm_forms`, what the peer sends by `receiveTwin_delivered`, and the limit by `cmdLimit_abandons`. -/
theorem twinPairs : Obligations.TwinPairs := by
  refine ⟨?form, ?noPeer, ?dissolve, ?tform, ?meet, ?theart, ?heartbeat, ?lost, ?digest, ?result, ?act, ?digestTimeout, ?limit⟩
  case form =>
    intro s d a t h harg hctx hst hpeer hlinks
    rw [exec_twinForm, doTwinForm_sends h harg hctx hst hpeer hlinks]
  case noPeer =>
    intro s d a h harg hctx hst hlink
    rw [exec_twinForm, doTwinForm_noPeer h harg hctx hst hlink]
  case dissolve =>
    intro s d h w
    rw [exec_twinDissolve, exec_twinStatus, doTwinDissolve, runCmd_accepted h, runCmd_accepted h]
    exact ⟨rfl, rfl⟩
  case tform =>
    intro s w k m mode flags ctxid twait h hbody
    rw [exec_tformReceive, doTform, receive_delivered h, hbody]
  case meet => exact fun s a mode flags ctxid harg hpeer hst hagree => formMeet_agrees harg hpeer hst hagree
  case theart =>
    intro s w k m st broken a h hbody harg hsrc
    rw [exec_theartReceive, doTheart_peer h hbody harg hsrc]
  case heartbeat =>
    intro s a harg hheld hst
    rw [exec_twinHeartbeatSend, sendHeart_all harg hheld hst]
  case lost =>
    intro s
    rw [exec_twinLost, twinLost]
    refine ⟨fun hst => by rw [hst], fun hst hstrict => ?_, fun hst hstrict => ?_⟩
    · rw [hst]
      exact congrArg _ (if_neg (by simp [hstrict]))
    · rw [hst]
      exact congrArg _ (if_pos hstrict)
  case digest =>
    intro s w k m v a c r h hbody harg hpeer hcmp hc hr
    rw [exec_tdigestReceive, doTdigest, receiveTwin_delivered h harg hpeer hcmp hc hr, twinKept, hbody]
  case result =>
    intro s w k m v a c r h hbody harg hpeer hcmp hc hr
    rw [exec_tresultReceive, doTresult, receiveTwin_delivered h harg hpeer hcmp hc hr, twinKept, hbody]
  case act =>
    intro s w k m b y a c r d h hbody harg hpeer hcmp hc hr hd harb hmine htindex
    rw [exec_tactReceive, doTact, receiveTwin_delivered h harg hpeer hcmp hc hr, twinKept, hbody, hd]
    exact congrArg _ (if_pos (by simp [harb, hmine, htindex]))
  case digestTimeout =>
    intro s tag tindex p hp
    rw [exec_twinDigestTimeout, digestTimeout, hp]
  case limit =>
    intro s r tag d hd hring hlast hinv hcmd
    have hkept : (finish d 0x13 s).twin = s.twin := finish_frame d 0x13 s .twin (by decide)
    rw [exec_commandTimeLimit, cmdLimit_abandons hd hring hlast hinv, formLimit_none (by rw [hkept]; exact hcmd)]

end Sys2Proof.Machine
end

section
/-! SUPPORT. What an ember does to the two management queues and their counter of drops (R506, R508, R509); and the refutation of O39,
whose clause on a message sent for the third time counts one drop where the ember that tells of it can make another. -/

namespace Sys2Proof.Machine

theorem exec_platformEventTimeout (p : Path) (s : State) : exec (.platformEventTimeout p) s = .next (eventTimeout p s) := rfl

/-! ### Queues -/

theorem queueEmber_room {q : List Ember} (e : Ember) (h : q.length < 1024) : queueEmber e q = (q ++ [e], false) := if_pos h

/-- A full queue whose oldest ember is of the least severe kinds loses that one. -/
theorem queueEmber_full {x : Ember} {q : List Ember} (e : Ember) (hfull : 1024 ≤ (x :: q).length) (hsev : x.sev.toNat ≤ 1) :
    queueEmber e (x :: q) = (q ++ [e], true) := by
  have hdrop : dropOldest (fun x => x.sev.toNat ≤ 1) (x :: q ++ [e]) = some (q ++ [e]) := by
    simp [dropOldest, takeFirst, hsev]
  rw [queueEmber, if_neg (by omega), hdrop]

/-- An ember on its ring, with its signal (R506). -/
def emberPosted (e : Ember) (s : State) : State :=
  match emberRing s e with
  | none => s
  | some r => gvlSig 64 e.num (postNote r (emberCpl e) s)

theorem emberPosted_mgt (e : Ember) (s : State) : (emberPosted e s).mgt = s.mgt := by
  unfold emberPosted
  split
  · rfl
  · exact ((gvlSig_frame _ _ _) .mgt (by decide)).trans ((postNote_frame _ _ s) .mgt (by decide))

/-- The presence's record of an ember, before the queues: its number is taken, and the log holds it unless the package has withheld. -/
def emberLogged (e : Ember) (s : State) : State :=
  let t := { s with mgt := { s.mgt with nextSeq := s.mgt.nextSeq + 1 } }
  if s.snuf.wheld then t
  else emberPosted e { t with mgt := { t.mgt with log := lastN 65536 (t.mgt.log ++ [e]) } }

/-- An ember is delivered to both queues (R506). -/
theorem deliverEmber_eq (e : Ember) (s : State) : deliverEmber e s =
    let x := { e with num := s.mgt.nextSeq }
    pathPut x true (pathPut x false (emberLogged x s)) := rfl

theorem emberLogged_queues (e : Ember) (s : State) : (emberLogged e s).mgt.bus = s.mgt.bus ∧
    (emberLogged e s).mgt.udp = s.mgt.udp ∧ (emberLogged e s).mgt.droppedCnt = s.mgt.droppedCnt := by
  unfold emberLogged
  split
  · exact ⟨rfl, rfl, rfl⟩
  · simp only [emberPosted_mgt, and_self]

/-- With room on the bus and a full UDP queue, a delivery counts one drop. -/
theorem droppedCnt_deliverEmber {e x : Ember} {q : List Ember} {s : State} (hbus : s.mgt.bus.queue.length < 1024)
    (hudp : s.mgt.udp.queue = x :: q) (hfull : 1024 ≤ (x :: q).length) (hsev : x.sev.toNat ≤ 1) :
    (deliverEmber e s).mgt.droppedCnt = satInc s.mgt.droppedCnt := by
  rw [deliverEmber_eq]
  generalize hx : { e with num := s.mgt.nextSeq } = x'
  obtain ⟨hlbus, hludp, hlcount⟩ := emberLogged_queues x' s
  have hfirst : pathPut x' false (emberLogged x' s) = { emberLogged x' s with
      mgt := { (emberLogged x' s).mgt with bus := { s.mgt.bus with queue := s.mgt.bus.queue ++ [x'] } } } := by
    unfold pathPut
    simp [hlbus, queueEmber_room _ hbus]
  dsimp only
  rw [hfirst]
  unfold pathPut
  simp [hludp, hudp, queueEmber_full _ hfull hsev, hlcount]

/-- The first ember of a key opens its window and is delivered (R508). -/
theorem raiseEmber_first {s : State} {e : EmberReq} (hstart : s.mgt.started = true) (hsev : e.sev.toNat < 3)
    (hwin : findWin (some (e.code, e.srcidx, e.ctxid)) s.mgt.wins = none)
    (hroom : (s.mgt.wins.filter (fun w => w.key.isSome)).length < 256) : raiseEmber e s = deliverEmber (formEmber s e) { s with
      mgt := { s.mgt with
        wins := s.mgt.wins ++ [{ key := some (e.code, e.srcidx, e.ctxid), delivered := 1, suppressed := 0, last := none }] } } := by
  rw [raiseEmber, if_pos hstart]
  dsimp only
  rw [if_neg (by omega), if_pos (Or.inr hroom)]
  simp only [rateLimit, hwin, if_true]

/-- A message sent for the third time is given up and counted (R509, log 32). -/
theorem eventTimeout_givesUp {s : State} {p : Path} {e : Ember} {r : Byte} {n : Nat} (hout : (getPath s p).out = some (e, r, n))
    (halive : pathAlive s p = true) (hn : 3 ≤ n) (hsev : e.sev.toNat < 3) : eventTimeout p s =
    let t := updPath p (fun x => { x with out := none, dropped := x.dropped + 1 }) s
    noteDrops p { t with mgt := { t.mgt with droppedCnt := satInc t.mgt.droppedCnt, qovf := true } } := by
  rw [eventTimeout, hout]
  simp only [halive, Bool.not_true, Bool.false_eq_true, if_false]
  rw [if_neg (by omega), if_neg (by omega)]

/-- With room again the queue tells how many went. -/
theorem noteDrops_room {s : State} {p : Path} (hdrop : (getPath s p).dropped ≠ 0) (hroom : (getPath s p).queue.length < 1024) :
    noteDrops p s = ember 0 0x1101 (match p with | .bus => 0 | .udp => 1) none (getPath s p).dropped
      (updPath p (fun x => { x with dropped := 0 }) s) := by
  cases p <;> exact if_pos ⟨hdrop, hroom⟩

/-! ### The state -/

/-- An ember of severity 0. -/
def lowEmber : Ember :=
  { sev := 0, code := 0x1102, srcidx := 0, summary := false, final := false, ctxid := none, pkg := none, num := 0, localt := 0,
    reqtag := 0, arg0 := 0, arg1 := 0, resets := 0 }

/-- A message stands out on the bus, sent for the third time; the UDP queue is full. -/
def overdue : State :=
  { State.reset with
    mgt := { Mgt.init with
      started := true,
      bus := { Mgt.init.bus with out := some (lowEmber, 0, 3) },
      udp := { Mgt.init.udp with queue := lowEmber :: List.replicate 1023 lowEmber } } }

/-- The message is given up and counted, and the queue, with room again, tells of it. -/
def givenUp : State :=
  { overdue with mgt := { overdue.mgt with bus := { overdue.mgt.bus with out := none }, droppedCnt := 1, qovf := true } }

theorem eventTimeout_overdue : eventTimeout .bus overdue = ember 0 0x1101 0 none 1 givenUp := by
  rw [eventTimeout_givesUp (e := lowEmber) (r := 0) (n := 3) rfl rfl (by decide) (by decide)]
  exact noteDrops_room (by decide) (by decide)

/-- Two embers are dropped: the message, and the oldest of the UDP queue for the ember that tells of it. -/
theorem droppedCnt_overdue : (eventTimeout .bus overdue).mgt.droppedCnt = 2 := by
  have hudp : givenUp.mgt.udp.queue = lowEmber :: List.replicate 1023 lowEmber := rfl
  rw [eventTimeout_overdue, ember, raiseEmber_first rfl (by decide) rfl (by decide)]
  rw [droppedCnt_deliverEmber (x := lowEmber) (q := List.replicate 1023 lowEmber)]
  · rfl
  · exact (by decide : givenUp.mgt.bus.queue.length < 1024)
  · exact hudp
  · rw [List.length_cons, List.length_replicate]
  · decide

/-- Refutes O39: a message sent three times is dropped and counted, and 0x1101 goes to both queues at once (`noteDrops`); where the
other path's queue is full that drops a second ember. In `overdue` the counter goes from 0 to 2, where the clause has 1. -/
theorem not_embersAndManagementQueues : ¬ Obligations.EmbersAndManagementQueues := by
  rintro ⟨-, -, -, -, -, -, -, -, -, htimeout, -⟩
  obtain ⟨t, ht, -, hcount, -⟩ := (htimeout overdue .bus lowEmber 0 3 rfl rfl).2 (by decide) (by decide)
  rw [exec_platformEventTimeout] at ht
  cases ht
  rw [droppedCnt_overdue] at hcount
  exact absurd hcount (by decide)

end Sys2Proof.Machine
end
